-- ==== Sys2Proof/Word.lean ====
section
/-! DEFINITION. The word types of the JV7256 and their plainest arithmetic. -/

namespace Sys2Proof

/-- A 32-bit register or general-register word (R7, R47). -/
abbrev Word := BitVec 32

/-- A byte of memory. -/
abbrev Byte := BitVec 8

/-- A 128-bit vector register (R47). -/
abbrev VWord := BitVec 128

/-- A 72-bit accumulator (R47). -/
abbrev AWord := BitVec 72

/-- A general-register number g0 to g31. -/
abbrev GReg := BitVec 5

/-- A vector-register number v0 to v7. -/
abbrev VReg := BitVec 3

/-- An accumulator number a0 to a3. -/
abbrev AReg := BitVec 2

/-- A word made from a natural number, modulo 2^32. -/
def word (n : Nat) : Word := BitVec.ofNat 32 n

/-- One bit of a Bool, as a natural number. -/
def b2n (b : Bool) : Nat := if b then 1 else 0

end Sys2Proof
end

