-- ==== Sys2Proof/Syntax.lean ====
section
/-! DEFINITION. The commands of the JV7256: one constructor of `Instr` per row of spec/opcode_table.json, with the
operands that the step takes from outside: an address, a value, a pin level, an analog reading, a frame, an instant
(in taps of 39.0625 ps), or the fault that befalls a voted access. -/

namespace Sys2Proof

/-- Which processor runs a scalar instruction: the Troika (R47) or the Lantern core with Molvek-L (R68). -/
inductive Hart where | troika | lantern
  deriving DecidableEq, Repr

/-- The register view through which an access arrives (R27). -/
inductive View where | coachman | passenger
  deriving DecidableEq, Repr

inductive AluOp where | add | sub | and | or | xor
  deriving DecidableEq, Repr
inductive ShiftOp where | sll | srl | sra
  deriving DecidableEq, Repr
inductive DivOp where | div | divu | rem | remu
  deriving DecidableEq, Repr
inductive FOp where | add | sub | mul
  deriving DecidableEq, Repr
inductive FCmp where | eq | lt | le
  deriving DecidableEq, Repr
inductive Cond where | eq | ne | lt | ge | ltu | geu
  deriving DecidableEq, Repr
inductive SubLoad where | b | bu | h | hu
  deriving DecidableEq, Repr
inductive BitOp where | and | or | xor
  deriving DecidableEq, Repr

/-- The fields of a lane that differ, by their bits in TRK_LAST.FIELDS (R234, R248): 0 valid, 1 kind, 2 address, 3 data,
4 byte enables, 5 XCH value. -/
abbrev LaneFields := BitVec 6

/-- What the vote finds at an access that leaves the Troika (R234, R238, R241): a fault in a core or in a voter copy is an
input of the step. `extra`: before the access, one core's lane alone has shown another one, which differs in the valid
field. -/
inductive Vote where
  | agree
  | odd (core : Fin 3) (fields : LaneFields)
  | allDiffer (fields : LaneFields)
  | pairDiffers (fields : LaneFields)
  | copiesDisagree (fields : LaneFields)
  | extra (core : Fin 3)
  deriving DecidableEq, Repr

/-- What the path test finds (R242): steps 1 to 3 by copy A, copy B and the comparator; steps 4 and 5 by the delay
registers OD-L, OD-1, ID-1 and ID-2 that fail them (R232), step 6 by the cores whose port fails it. -/
structure PathFindings where
  copyA : Bool := false
  copyB : Bool := false
  comparator : Bool := false
  pattern : BitVec 4 := 0
  owner : BitVec 4 := 0
  ports : BitVec 3 := 0
  deriving DecidableEq, Repr

/-- What the ECC finds in the word that is read (R251). -/
inductive Ecc where | clean | corrected | uncorrectable
  deriving DecidableEq, Repr

/-- What meets the accesses of port F of Tandem RAM: the ECC findings, by the address of their word, and the bytes that
port T writes in the same cycle (R251, R253). -/
structure PortF where
  finds : List (Nat × Ecc) := []
  lost : List Nat := []
  deriving DecidableEq, Repr

/-- What the outside supplies to a register access in its own cycle: the RH bits that hardware updates with their values,
per RC field the coincident increment, placed at the field's own bits (R32), the instant in taps, whether the head of a
CAN queue is in transmission (R340), and what meets the copy of a launched payload (R308). -/
structure CoUpdate where
  rhMask : Word := 0
  rhVal : Word := 0
  rcInc : Word := 0
  t : Nat := 0
  inTx : Bool := false
  portF : PortF := {}
  deriving DecidableEq, Repr

/-- What the outside supplies to one voted access: the vote, the ECC finding, whether port F of Tandem RAM writes the
same word in the same cycle (R253), and what meets a register access. -/
structure Env where
  vote : Vote := .agree
  /-- The vote on the store of an instruction that loads and stores (R82, R83). -/
  storeVote : Vote := .agree
  ecc : Ecc := .clean
  /-- Which ECC word of the access the finding lies in (R251). -/
  eccWord : Nat := 0
  tandemPortF : Bool := false
  co : CoUpdate := {}
  deriving DecidableEq, Repr

/-- A Coupler frame as received, its checks already reduced to their outcome (R297, R298), with its port and its
instant of arrival in taps. -/
structure Frame where
  cls : Fin 4
  dst : Fin 64
  src : Fin 64
  epoch : BitVec 8
  kind : BitVec 8
  tag : Fin 512
  hops : Fin 32 := 31
  arg : Word := 0
  xarg : BitVec 16 := 0
  payload : List Byte := []
  hcrcOk : Bool := true
  fcrcOk : Bool := true
  port : Fin 4 := 0
  t : Nat := 0
  deriving DecidableEq, Repr

/-- A CAN frame (R338, R341). -/
structure CanFrame where
  ide : Bool
  rtr : Bool := false
  fdf : Bool
  brs : Bool := false
  esi : Bool := false
  id : BitVec 29
  data : List Byte
  deriving DecidableEq, Repr

/-- An Ethernet frame between the start delimiter and the FCS, its tag taken out (R347, R349). -/
structure EthFrame where
  dst : BitVec 48
  src : BitVec 48
  tag : Option (BitVec 16) := none
  etherType : BitVec 16
  payload : List Byte
  good : Bool := true
  deriving DecidableEq, Repr

/-- A wake source of R268. -/
inductive WakeSrc where | pin (k : Fin 4) | alarm | vbk | lanternCore
  deriving DecidableEq, Repr

/-- An external reset or supply rail of R275. -/
inductive Rail where | vcore | vio | vsns | v18
  deriving DecidableEq, Repr

/-- A supply that becomes good again (R275). -/
inductive Supply where | vbat | vbk | rail (r : Rail)
  deriving DecidableEq, Repr

/-- The three mailbox writes of R271. -/
inductive MboxWrite where | lixSet (data : Word) | coreClear (data : Word) | coreRaise (data : Word)
  deriving DecidableEq, Repr

/-- A write of the debugger (R247). -/
inductive DbgTarget where
  | greg (r : GReg) (v : Word)
  | vreg (r : VReg) (v : VWord)
  | areg (r : AReg) (v : AWord)
  | creg (r : Fin 12) (v : Word)
  | pc (v : Word)
  | mem (addr : Word) (v : Word)
  deriving DecidableEq, Repr

/-- A memory that is cleared at power-up (R252). -/
inductive ClearMem where | mainSram | tandem | table | lantern
  deriving DecidableEq, Repr

/-- What a TRIP pin shows (R197, R199): a pulse of so many ns, a rise that lasts, or a fall. -/
inductive PinEvent where | pulse (ns : Nat) | rise | fall
  deriving DecidableEq, Repr

/-- What fires as a trigger: one of the Axle's eight trigger compares (R101), or an end of the window that Dray service
places around each valley (R156). -/
inductive TrigSel where | trg (m : Fin 8) | drayOpen | drayClose
  deriving DecidableEq, Repr

/-- A CAN error (R338): the counts that ISO 11898-1 gives after it, whether it is a protocol exception, and whether it ends
the transmission of the queue's head without a growth of TEC. -/
structure CanErr where
  tec : BitVec 9
  recv : BitVec 8
  protExc : Bool := false
  ofHead : Bool := false
  deriving DecidableEq, Repr

/-- The result of an attempt to send the reference message (R344). -/
inductive RefTry where | sent (sof : Nat) | skipped
  deriving DecidableEq, Repr

/-- One command of the block. The mnemonic of each constructor's row stands in LAWS.json. -/
inductive Instr where
  -- Molvek scalar instructions (R49 to R59)
  | addSubAndOrXor (h : Hart) (op : AluOp) (rd rs1 rs2 : GReg)
  | sllSrlSra (h : Hart) (op : ShiftOp) (rd rs1 rs2 : GReg)
  | sltSltu (h : Hart) (unsigned : Bool) (rd rs1 rs2 : GReg)
  | minMax (h : Hart) (max : Bool) (rd rs1 rs2 : GReg)
  | clz (h : Hart) (rd rs1 : GReg)
  | slliSrliSrai (h : Hart) (op : ShiftOp) (rd rs1 : GReg) (amt : BitVec 5)
  | mul (h : Hart) (rd rs1 rs2 : GReg)
  | mulhMulhu (h : Hart) (unsigned : Bool) (rd rs1 rs2 : GReg)
  | divDivuRemRemu (h : Hart) (op : DivOp) (rd rs1 rs2 : GReg)
  | qaddWQsubW (h : Hart) (sub : Bool) (rd rs1 rs2 : GReg)
  | qmulW (h : Hart) (rd rs1 rs2 : GReg)
  | qaddHQsubH (h : Hart) (sub : Bool) (rd rs1 rs2 : GReg)
  | qmulH (h : Hart) (rd rs1 rs2 : GReg)
  | qnegWQabsW (h : Hart) (abs : Bool) (rd rs1 : GReg)
  | qshlW (h : Hart) (rd rs1 rs2 : GReg)
  | qrshrW (h : Hart) (rd rs1 rs2 : GReg)
  | qnarrow (h : Hart) (rd rs1 : GReg)
  | faddFsubFmul (h : Hart) (op : FOp) (rd rs1 rs2 : GReg)
  | fmac (h : Hart) (rd rs1 rs2 : GReg)
  | fdiv (h : Hart) (rd rs1 rs2 : GReg)
  | fsqrt (h : Hart) (rd rs1 : GReg)
  | fminFmax (h : Hart) (max : Bool) (rd rs1 rs2 : GReg)
  | feqFltFle (h : Hart) (op : FCmp) (rd rs1 rs2 : GReg)
  | fabsFneg (h : Hart) (neg : Bool) (rd rs1 : GReg)
  | fcvtWSFcvtSW (h : Hart) (toFloat : Bool) (rd rs1 : GReg)
  | fcvtQSFcvtSQ (h : Hart) (toFloat : Bool) (rd rs1 : GReg)
  | macWMsuW (h : Hart) (sub : Bool) (a : AReg) (rs1 rs2 : GReg)
  | macHMsuH (h : Hart) (sub : Bool) (a : AReg) (rs1 rs2 : GReg)
  | aclr (h : Hart) (a : AReg)
  | ald (h : Hart) (a : AReg) (rs1 : GReg)
  | ard (h : Hart) (rd : GReg) (a : AReg)
  | ashr (h : Hart) (a : AReg) (amt : BitVec 6)
  | mfc (h : Hart) (rd : GReg) (c : BitVec 5)
  | mtc (h : Hart) (c : BitVec 5) (rs1 : GReg)
  | sysc (h : Hart)
  | brk (h : Hart)
  | eret (h : Hart)
  | jalr (h : Hart) (rd rs1 : GReg)
  | addi (h : Hart) (rd rs1 : GReg) (imm : BitVec 16)
  | andi (h : Hart) (rd rs1 : GReg) (imm : BitVec 16)
  | ori (h : Hart) (rd rs1 : GReg) (imm : BitVec 16)
  | xori (h : Hart) (rd rs1 : GReg) (imm : BitVec 16)
  | slti (h : Hart) (rd rs1 : GReg) (imm : BitVec 16)
  | sltiu (h : Hart) (rd rs1 : GReg) (imm : BitVec 16)
  | lui (h : Hart) (rd : GReg) (imm : BitVec 16)
  | ldbLdbuLdhLdhu (h : Hart) (k : SubLoad) (rt rb : GReg) (off : BitVec 15) (env : Env)
  | ldw (h : Hart) (rt rb : GReg) (off : BitVec 15) (env : Env)
  | ldwRot (h : Hart) (rt rb : GReg) (off : BitVec 15) (env : Env)
  | ldv (h : Hart) (vt : VReg) (rb : GReg) (off : BitVec 15) (env : Env)
  | stbSth (h : Hart) (half : Bool) (rt rb : GReg) (off : BitVec 15) (env : Env)
  | stw (h : Hart) (rt rb : GReg) (off : BitVec 15) (env : Env)
  | stwRot (h : Hart) (rt rb : GReg) (off : BitVec 15) (env : Env)
  | stv (h : Hart) (vt : VReg) (rb : GReg) (off : BitVec 15) (env : Env)
  | branch (h : Hart) (c : Cond) (rs1 rs2 : GReg) (off : BitVec 16)
  | jal (h : Hart) (rd : GReg) (off : BitVec 16)
  -- Molvek vector instructions (R70 to R74); w = true selects 4 lanes of 32 bits
  | vaddVsub (sub w : Bool) (vd vs1 vs2 : VReg) (gn : GReg)
  | vqaddVqsub (sub w : Bool) (vd vs1 vs2 : VReg) (gn : GReg)
  | vqmul (w : Bool) (vd vs1 vs2 : VReg) (gn : GReg)
  | vminVmax (max w : Bool) (vd vs1 vs2 : VReg) (gn : GReg)
  | vandVorVxor (op : BitOp) (w : Bool) (vd vs1 vs2 : VReg) (gn : GReg)
  | vqnegVqabs (abs w : Bool) (vd vs1 : VReg) (gn : GReg)
  | vsra (w : Bool) (vd vs1 vs2 : VReg) (gn : GReg)
  | vqrshr (w : Bool) (vd vs1 vs2 : VReg) (gn : GReg)
  | vqshl (w : Bool) (vd vs1 vs2 : VReg) (gn : GReg)
  | vmac (w : Bool) (vd vs1 vs2 : VReg) (gn : GReg)
  | vdot (w : Bool) (a : AReg) (vs1 vs2 : VReg) (gn : GReg)
  | vfaddVfsubVfmul (op : FOp) (vd vs1 vs2 : VReg) (gn : GReg)
  | vfmac (vd vs1 vs2 : VReg) (gn : GReg)
  | vfminVfmax (max : Bool) (vd vs1 vs2 : VReg) (gn : GReg)
  | vfcvtSQVfcvtQS (toFloat : Bool) (vd vs1 : VReg) (gn : GReg)
  | vsplat (w : Bool) (vd : VReg) (g : GReg)
  | vins (w : Bool) (vd : VReg) (lane : BitVec 3) (g : GReg)
  | vext (w : Bool) (g : GReg) (vs1 : VReg) (lane : BitVec 3)
  | vbcast (w : Bool) (vd vs1 : VReg) (lane : BitVec 3) (gn : GReg)
  | vcmplt (w : Bool) (vd vs1 vs2 : VReg) (gn : GReg)
  | vsel (w : Bool) (vd vs1 vs2 : VReg) (gn : GReg)
  | vmov (w : Bool) (vd vs1 : VReg) (gn : GReg)
  | vnarrow (vd vs1 vs2 : VReg) (gn : GReg)
  | vwiden (vd vs1 : VReg) (gn : GReg)
  -- Molvek motor and ordering instructions (R75 to R90)
  | clk (n : BitVec 4) (vr : VReg) (ax : Fin 4)
  | clkI (n : BitVec 4) (vr : VReg) (ax : Fin 4)
  | prk (ga : GReg) (p : BitVec 2) (vr : VReg)
  | iprk (ga : GReg) (p : BitVec 2) (polar : Bool) (vr : VReg)
  | svm (ga : GReg) (p : BitVec 2) (vr : VReg)
  | atab (ga gb : GReg) (n : BitVec 4) (vr : VReg) (ax : Fin 4) (reads : List (Fin 12 × Env))
  | pia (ga gb : GReg) (shift : BitVec 4) (env : Env)
  | rmp (ga gb : GReg) (env : Env)
  | sat (ga gb : GReg) (n : BitVec 4) (vr : VReg)
  | satC (ga gb : GReg) (p : BitVec 2) (mode : Bool) (vr : VReg)
  | commit (ga : GReg) (halves : BitVec 2) (f : Bool) (vr : VReg) (ax : Fin 4) (vote : Vote)
  | commitApply (n : Nat)
  | wev (ga gb : GReg)
  | wevReturn
  | wevTimeout
  | xch (ga gb : GReg) (upset : BitVec 32 × BitVec 32 × BitVec 32) (copiesDiffer : Bool)
  | sig (ga : GReg) (scrubDiffers : Bool)
  | fence (sel : BitVec 4)
  | interruptEntry (h : Hart)
  -- Registers and the Lantern indirect pair (R32 to R45)
  | registerWrite (v : View) (off : BitVec 21) (data : Word) (co : CoUpdate)
  | lixAddrWrite (data : Word)
  | lixDataRead
  | lixDataWrite (data : Word)
  | lixFetchDone
  | lixTransferDone
  | waybillProgrammingDone
  | seatWordWrite
  -- Axle timebases (R92 to R110)
  | valley (a : Fin 4)
  | peak (a : Fin 4)
  | compareEdge (a : Fin 4) (k : Fin 16) (t : Nat)
  | trigger (a : Fin 4) (m : TrigSel)
  | commitTimeout (a : Fin 4)
  | runStart (v : View) (a : Fin 4)
  | runStop (v : View) (a : Fin 4)
  | axleStart (a : Fin 4)
  | periodWrite (v : View) (a : Fin 4) (period : Word) (n : Nat)
  | compareWrite (v : View) (a : Fin 4) (k : Fin 16) (down : Bool) (c : Word) (n : Nat)
  | prdschArm (v : View) (a : Fin 4) (period : BitVec 19)
  | pllTLoss
  -- Gate channels, positions and legs (R111 to R134)
  | gakTransition (c : Fin 256) (level : Bool) (t : Nat)
  | release (p : Fin 64) (t : Nat)
  | ackTimeout (c : Fin 256) (rising : Bool)
  | asyncDeadTimeExpiry (l : Fin 32)
  | delayLineSwap (c : Fin 256) (ok : Bool)
  | bootstrapRefresh (l : Fin 32)
  | bootstrapRefreshEnd (l : Fin 32)
  | readmit (v : View) (c : Fin 256)
  | gchRearm (v : View) (c : Fin 256)
  -- Sensing (R135 to R160)
  | controlFilterOutput (c : Fin 96) (samples : List Bool)
  | protectionFilterOutput (c : Fin 96) (samples : List Bool)
  | publication (a : Fin 4)
  | suspectRun (c : Fin 96)
  | sdfStall (c : Fin 96)
  | sdfCklost (c : Fin 96)
  | sdfRearm (v : View) (c : Fin 96) (recentTransition clockPresent : Bool)
  | sarStart (v : View) (c : Fin 8)
  | sarSlotResult (c : Fin 8) (code : BitVec 16)
  | cmpHit (k : Fin 16) (uv : Nat)
  | comparatorRelease (k : Fin 16) (uv : Nat)
  | resFlt (r : Fin 2) (amp : Nat) (err : BitVec 16) (track : BitVec 16) (speed : Word)
  | encCount (e : Fin 2) (a b : Bool) (stable t : Nat)
  | encZ (e : Fin 2) (stable : Nat)
  -- Transform and table unit (R174 to R179)
  | observerReport (v : View) (a : Fin 4) (angle : Word)
  | ttuRearm (v : View) (a : Fin 4)
  | commutationIndexChange (a : Fin 4) (t : Nat)
  -- Direct torque fallback (R183 to R194)
  | estimatorStep (set : Fin 8) (finding : Ecc)
  | hysNoconv (set : Fin 8)
  | catch_ (v : View) (a : Fin 4)
  | autoCatch (a : Fin 4)
  | catchProbe (a : Fin 4)
  | handback (v : View) (a : Fin 4)
  | force (v : View) (a : Fin 4)
  -- Protection (R197 to R211)
  | tripPin (s : Fin 64) (ev : PinEvent)
  | tripClear (v : View) (n : Fin 9) (data : Word)
  | swtrip (v : View) (swg : BitVec 8)
  | krel (v : View)
  | selectionEvaluation
  | chopFlt
  | dischargeStart (v : View)
  | dischargeStop (v : View)
  | disFlt
  -- Torque monitor, seal and Drag Shoe (R214 to R228)
  | torqueMonitorStep (a : Fin 4)
  | tmClear (v : View) (a : Fin 4) (data : Word)
  | unlock (v : View)
  | unlockHashDone
  | lock (v : View)
  | setpw (v : View) (slot : BitVec 2)
  | brkFlt (channelB : Bool) (fa fb : Bool)
  | brakeTestStart (v : View)
  | brakeTestPhaseEnd (imin : BitVec 16)
  -- Troika and Whiffletree (R232 to R247)
  | signatureVote (upset : BitVec 32 × BitVec 32 × BitVec 32)
  | copyPause
  | trkRejoin (pairDiffers : Bool)
  | pathTest
  | pathTestDone (f : PathFindings) (revote : Vote)
  | pathTestRequest (v : View)
  | debugAuthentication (challenge : BitVec 128) (qx qy r s : BitVec 256)
  | debugHalt (scan : Bool)
  | debuggerWrite (w : DbgTarget) (co : CoUpdate)
  | singleStep
  | debugResume
  -- Memory (R250 to R255)
  | migrationDone
  | scrubber (tandem : Bool) (word : Nat) (finding : Ecc)
  | memoryClearDone (m : ClearMem)
  | nvmProgram (v : View)
  | nvmErase (v : View)
  | nvmCommandDone (readBackDiffers : Bool)
  | bootCheckDone
  -- Events (R263)
  | evtRaise (v : View) (source : BitVec 8)
  -- Power states, supplies and clocks (R264 to R280)
  | reqStand (v : View)
  | reqDrive (v : View)
  | reqLantern (v : View)
  | lanternReached
  | wake (s : WakeSrc)
  | powerUp
  | supplyLoss
  | pfail
  | blackBoxRecordDone
  | fastDomainOff
  | batlow
  | bklow
  | pmuReg (r : Rail) (resetWindow : Bool)
  | lanImgdataWrite (data : Word)
  | lanRun
  | lanStop
  | lanMbox (w : MboxWrite)
  | lanSleep
  | lanTimeIncrement
  | x32ok (qualified : Bool)
  | pmuHuv (h : Fin 36) (t : Nat)
  | referenceLoss
  | holdoverExpiry
  | pllCLoss
  | pllPLoss
  | crystalValid
  | pllLock
  -- Reset and bring-up (R283 to R294)
  | porstN
  | wrstN
  | softwareWarmReset (v : View)
  | softwareColdReset (v : View)
  | resetRelease (headLow : Bool)
  | drayServiceAvailable
  | coreTestDone (cores : BitVec 3) (pathFail : BitVec 6)
  | memoryTestDone (banks : BitVec 17) (tandem table : Bool)
  | troikaRelease
  -- Coupler (R295 to R313)
  | portUp (p : Fin 4)
  | portDown (p : Fin 4)
  | hen (v : View)
  | offer (p : Fin 4) (otherHead : Bool) (challenge : BitVec 128) (headSerial : BitVec 64)
  | answer (p : Fin 4) (serial : BitVec 64) (code : BitVec 128) (seat : Fin 64)
  | grant (p : Fin 4) (seat : Fin 64)
  | admissionKeyWrite (v : View) (w : Word)
  | admissionTimeout
  | advertSend (p : Fin 4)
  | advert (p : Fin 4) (counts : List Nat)
  | wrFrame (f : Frame) (co : CoUpdate)
  | rdFrame (f : Frame)
  | ackFrame (f : Frame)
  | rdrFrame (f : Frame)
  | evtFrame (f : Frame) (m : PortF)
  | msgFrame (f : Frame) (m : PortF)
  | fwrFrame (f : Frame) (m : PortF)
  | transactionTimeout (tag : Fin 257)
  | launch (v : View) (data : Word) (m : PortF)
  | reassemblyTimeout (buf : Fin 8)
  | timeSync (p : Fin 4) (t1 : Nat)
  | sync (p : Fin 4) (t1 t4 : Nat)
  | detach
  | leaseHeartbeat (t : Nat)
  | lease (f : Frame)
  | leaseExpiry
  | uncpl (f : Frame)
  | decl (v : View) (dseat : BitVec 6)
  | authorityListenExpiry
  -- Guard (R326 to R337)
  | guardDataFrame (c : Fin 8) (bytes : List Byte) (t : Nat)
  | resyncRequestFrame (c : Fin 8) (bytes : List Byte) (t : Nat)
  | resyncAnswerFrame (c : Fin 8) (bytes : List Byte) (t : Nat)
  | resyncRequestSend (c : Fin 8) (t : Nat)
  | deadlineExpiry (c : Fin 8) (t : Nat)
  | windowNarrowing (c : Fin 8) (t : Nat)
  | guardTransmit (v : View) (c : Fin 8) (data : Word) (t : Nat)
  -- CAN FD and Ethernet (R338 to R350)
  | push (v : View) (n : Fin 4)
  | abort (v : View) (n : Fin 4) (inTx : Bool)
  | canFrameReceived (n : Fin 4) (f : CanFrame) (sof : Nat)
  | txdone (n : Fin 4)
  | canPop (v : View) (n : Fin 4) (queueB : Bool) (tag : BitVec 8)
  | referenceMessage (n : Fin 4) (r : RefTry)
  | busOffRecovery (n : Fin 4)
  | ethFrameReceived (f : EthFrame) (ts : Nat) (m : PortF)
  | ethFrameSent (ts : Nat) (m : PortF)
  | kick (v : View)
  | mdioGo (v : View) (data : Word)
  | mdioDone (data : BitVec 16)
  | ethLinkChange (up : Bool) (speed : BitVec 2)
  -- Temperature and self-test (R351 to R360)
  | sensorConversion (readings : List (Option Int))
  | throttleStepEnd
  | bistSlotStart
  | bistSliceDone (pass : Bool) (chmask : BitVec 16)
  -- Further steps
  | illegalInstruction (h : Hart) (w : Word)
  | fetchBusError (h : Hart) (uncorrectable : Bool)
  | heldClosingEdge (p : Fin 64) (t : Nat)
  | pllSLock
  | pllSLoss
  | admissionCheckDone
  | seatFreed (seat : Fin 64)
  | tagHoldEnd (tag : Fin 257)
  | timeSyncMark (p : Fin 4) (t2 t3 : Nat)
  | timeSyncEcho (p : Fin 4) (t4 : Nat)
  | couplerFrameSent (p : Fin 4) (cls : Fin 4)
  | canBusError (n : Fin 4) (e : CanErr)
  | lostArbitration (n : Fin 4)
  | brakeTestMotion (angle : BitVec 16)
  | dragShoeHoldEnd
  | supplyGood (s : Supply)
  deriving DecidableEq, Repr

end Sys2Proof
end

