-- ==== Sys2Proof/Decode.lean ====
section
/-! DEFINITION. The words of the opcode table, and the Molvek instruction words (R55 to R57, R68, R72, R73, R75, R76): which
command a word stands for, and which words are illegal. -/

namespace Sys2Proof

/-- The table gives no row any bits, so no word spells a command: the commands of this block come from outside, from its
pins, its registers' writers and its own engines. -/
def decodeTableWord (_nbits _w : Nat) : Option Instr := none

/-- What an instruction meets that its word does not hold: the outcome of its votes and checks. -/
structure Outside where
  env : Env := {}
  reads : List (Fin 12 × Env) := []
  upset : BitVec 32 × BitVec 32 × BitVec 32 := (0, 0, 0)
  copiesDiffer : Bool := false
  scrubDiffers : Bool := false
  deriving DecidableEq, Repr

/-! ### Fields (R55, R75) -/

def wMajor (w : Word) : Nat := (w.extractLsb' 26 6).toNat
/-- The register fields [25:21], [20:16] and [15:11], and the function [10:0] of format A. -/
def wR1 (w : Word) : GReg := w.extractLsb' 21 5
def wR2 (w : Word) : GReg := w.extractLsb' 16 5
def wR3 (w : Word) : GReg := w.extractLsb' 11 5
def wFn (w : Word) : Nat := (w.extractLsb' 0 11).toNat
/-- The low half of formats B and D, and ROT and the offset of format C. -/
def wImm (w : Word) : BitVec 16 := w.extractLsb' 0 16
def wRot (w : Word) : Bool := w.getLsbD 15
def wOff (w : Word) : BitVec 15 := w.extractLsb' 0 15
/-- The fields of format E. -/
def wVd (w : Word) : VReg := w.extractLsb' 23 3
def wVs1 (w : Word) : VReg := w.extractLsb' 18 3
def wVs2 (w : Word) : VReg := w.extractLsb' 13 3
def wWide (w : Word) : Bool := w.getLsbD 12
def wGn (w : Word) : GReg := w.extractLsb' 6 5
/-- The function of format E and the operation of format M, [5:0]. -/
def wOp (w : Word) : Nat := (w.extractLsb' 0 6).toNat
/-- The fields of format M. -/
def wSel (w : Word) : BitVec 4 := w.extractLsb' 12 4
def wVr (w : Word) : VReg := w.extractLsb' 8 3
def wAx (w : Word) : Fin 4 := Fin.ofNat 4 (w.extractLsb' 6 2).toNat

/-- A command where a condition on the encoding holds. -/
def whenOk (c : Bool) (i : Instr) : Option Instr := if c then some i else none

/-! ### Format A (R57) -/

/-- Major 0x00, integer. -/
def decodeInteger (h : Hart) (w : Word) : Option Instr :=
  let d := wR1 w
  let a := wR2 w
  let b := wR3 w
  match wFn w with
  | 0x001 => some (.addSubAndOrXor h .add d a b)
  | 0x002 => some (.addSubAndOrXor h .sub d a b)
  | 0x003 => some (.addSubAndOrXor h .and d a b)
  | 0x004 => some (.addSubAndOrXor h .or d a b)
  | 0x005 => some (.addSubAndOrXor h .xor d a b)
  | 0x006 => some (.sllSrlSra h .sll d a b)
  | 0x007 => some (.sllSrlSra h .srl d a b)
  | 0x008 => some (.sllSrlSra h .sra d a b)
  | 0x009 => some (.sltSltu h false d a b)
  | 0x00A => some (.sltSltu h true d a b)
  | 0x00B => some (.minMax h false d a b)
  | 0x00C => some (.minMax h true d a b)
  | 0x00D => some (.clz h d a)
  | 0x010 => some (.slliSrliSrai h .sll d a b)
  | 0x011 => some (.slliSrliSrai h .srl d a b)
  | 0x012 => some (.slliSrliSrai h .sra d a b)
  | 0x020 => some (.mul h d a b)
  | 0x021 => some (.mulhMulhu h false d a b)
  | 0x022 => some (.mulhMulhu h true d a b)
  | 0x024 => some (.divDivuRemRemu h .div d a b)
  | 0x025 => some (.divDivuRemRemu h .divu d a b)
  | 0x026 => some (.divDivuRemRemu h .rem d a b)
  | 0x027 => some (.divDivuRemRemu h .remu d a b)
  | _ => none

/-- Major 0x01, fixed point. -/
def decodeFixed (h : Hart) (w : Word) : Option Instr :=
  let d := wR1 w
  let a := wR2 w
  let b := wR3 w
  match wFn w with
  | 0x001 => some (.qaddWQsubW h false d a b)
  | 0x002 => some (.qaddWQsubW h true d a b)
  | 0x003 => some (.qmulW h d a b)
  | 0x004 => some (.qaddHQsubH h false d a b)
  | 0x005 => some (.qaddHQsubH h true d a b)
  | 0x006 => some (.qmulH h d a b)
  | 0x007 => some (.qnegWQabsW h false d a)
  | 0x008 => some (.qnegWQabsW h true d a)
  | 0x009 => some (.qshlW h d a b)
  | 0x00A => some (.qrshrW h d a b)
  | 0x00B => some (.qnarrow h d a)
  | _ => none

/-- Major 0x02, binary32. -/
def decodeFloat (h : Hart) (w : Word) : Option Instr :=
  let d := wR1 w
  let a := wR2 w
  let b := wR3 w
  match wFn w with
  | 0x001 => some (.faddFsubFmul h .add d a b)
  | 0x002 => some (.faddFsubFmul h .sub d a b)
  | 0x003 => some (.faddFsubFmul h .mul d a b)
  | 0x004 => some (.fmac h d a b)
  | 0x005 => some (.fdiv h d a b)
  | 0x006 => some (.fsqrt h d a)
  | 0x007 => some (.fminFmax h false d a b)
  | 0x008 => some (.fminFmax h true d a b)
  | 0x009 => some (.feqFltFle h .eq d a b)
  | 0x00A => some (.feqFltFle h .lt d a b)
  | 0x00B => some (.feqFltFle h .le d a b)
  | 0x00C => some (.fabsFneg h false d a)
  | 0x00D => some (.fabsFneg h true d a)
  | 0x010 => some (.fcvtWSFcvtSW h false d a)
  | 0x011 => some (.fcvtWSFcvtSW h true d a)
  | 0x012 => some (.fcvtQSFcvtSQ h false d a)
  | 0x013 => some (.fcvtQSFcvtSQ h true d a)
  | _ => none

/-- The accumulator that rd names, its bits [4:2] 0 (R56). -/
def wAcc (w : Word) : AReg := w.extractLsb' 21 2
def wAccOk (w : Word) : Bool := decide (w.extractLsb' 23 3 = 0)

/-- Major 0x03, accumulator. -/
def decodeAcc (h : Hart) (w : Word) : Option Instr :=
  let k := wAccOk w
  let c := wAcc w
  let a := wR2 w
  let b := wR3 w
  match wFn w with
  | 0x001 => whenOk k (.macWMsuW h false c a b)
  | 0x002 => whenOk k (.macWMsuW h true c a b)
  | 0x003 => whenOk k (.macHMsuH h false c a b)
  | 0x004 => whenOk k (.macHMsuH h true c a b)
  | 0x005 => whenOk k (.aclr h c)
  | 0x006 => whenOk k (.ald h c a)
  | 0x007 => some (.ard h (wR1 w) (w.extractLsb' 11 2))
  | 0x008 => whenOk k (.ashr h c (b.zeroExtend 6))
  | 0x408 => whenOk k (.ashr h c (b.zeroExtend 6 + 32))
  | _ => none

/-- Major 0x04, system: c12 to c31 are illegal. -/
def decodeSystem (h : Hart) (w : Word) : Option Instr :=
  match wFn w with
  | 0x001 => whenOk (decide ((wR3 w).toNat < 12)) (.mfc h (wR1 w) (wR3 w))
  | 0x002 => whenOk (decide ((wR1 w).toNat < 12)) (.mtc h (wR1 w) (wR2 w))
  | 0x003 => some (.sysc h)
  | 0x004 => some (.brk h)
  | 0x005 => some (.eret h)
  | _ => none

/-! ### Formats B, C and D (R56) -/

/-- A format C instruction: ROT is allowed on majors 0x14 and 0x1A alone. -/
def decodeAccess (h : Hart) (e : Env) (w : Word) : Option Instr :=
  let t := wR1 w
  let b := wR2 w
  let o := wOff w
  let plain := !wRot w
  let vec := plain && decide (w.extractLsb' 24 2 = 0)
  match wMajor w with
  | 0x10 => whenOk plain (.ldbLdbuLdhLdhu h .b t b o e)
  | 0x11 => whenOk plain (.ldbLdbuLdhLdhu h .bu t b o e)
  | 0x12 => whenOk plain (.ldbLdbuLdhLdhu h .h t b o e)
  | 0x13 => whenOk plain (.ldbLdbuLdhLdhu h .hu t b o e)
  | 0x14 => some (if plain then .ldw h t b o e else .ldwRot h t b o e)
  | 0x15 => whenOk vec (.ldv h (w.extractLsb' 21 3) b o e)
  | 0x18 => whenOk plain (.stbSth h false t b o e)
  | 0x19 => whenOk plain (.stbSth h true t b o e)
  | 0x1A => some (if plain then .stw h t b o e else .stwRot h t b o e)
  | 0x1B => whenOk vec (.stv h (w.extractLsb' 21 3) b o e)
  | _ => none

/-- Formats B and D, and JALR. -/
def decodeImmediate (h : Hart) (w : Word) : Option Instr :=
  let d := wR1 w
  let a := wR2 w
  let i := wImm w
  match wMajor w with
  | 0x05 => whenOk (decide (i = 0)) (.jalr h d a)
  | 0x08 => some (.addi h d a i)
  | 0x09 => some (.andi h d a i)
  | 0x0A => some (.ori h d a i)
  | 0x0B => some (.xori h d a i)
  | 0x0C => some (.slti h d a i)
  | 0x0D => some (.sltiu h d a i)
  | 0x0E => whenOk (decide (a = 0)) (.lui h d i)
  | 0x20 => some (.branch h .eq d a i)
  | 0x21 => some (.branch h .ne d a i)
  | 0x22 => some (.branch h .lt d a i)
  | 0x23 => some (.branch h .ge d a i)
  | 0x24 => some (.branch h .ltu d a i)
  | 0x25 => some (.branch h .geu d a i)
  | 0x26 => whenOk (decide (d = 0)) (.jal h a i)
  | _ => none

/-! ### Format E (R72 to R74) -/

/-- The bits that R55 fixes at zero in format E. -/
def eZeros (w : Word) : Bool :=
  decide (w.extractLsb' 21 2 = 0) && decide (w.extractLsb' 16 2 = 0) && !w.getLsbD 11

/-- Majors 0x30 and 0x31. -/
def decodeVector (w : Word) : Option Instr :=
  let v := wWide w
  let d := wVd w
  let a := wVs1 w
  let b := wVs2 w
  let g := wGn w
  match wMajor w, wOp w with
  | 0x30, 0x01 => some (.vaddVsub false v d a b g)
  | 0x30, 0x02 => some (.vaddVsub true v d a b g)
  | 0x30, 0x03 => some (.vqaddVqsub false v d a b g)
  | 0x30, 0x04 => some (.vqaddVqsub true v d a b g)
  | 0x30, 0x05 => some (.vqmul v d a b g)
  | 0x30, 0x06 => some (.vminVmax false v d a b g)
  | 0x30, 0x07 => some (.vminVmax true v d a b g)
  | 0x30, 0x08 => some (.vandVorVxor .and v d a b g)
  | 0x30, 0x09 => some (.vandVorVxor .or v d a b g)
  | 0x30, 0x0A => some (.vandVorVxor .xor v d a b g)
  | 0x30, 0x0B => whenOk (decide (b = 0)) (.vqnegVqabs false v d a g)
  | 0x30, 0x0C => whenOk (decide (b = 0)) (.vqnegVqabs true v d a g)
  | 0x30, 0x0D => some (.vsra v d a b g)
  | 0x30, 0x0E => some (.vqrshr v d a b g)
  | 0x30, 0x0F => some (.vqshl v d a b g)
  | 0x31, 0x01 => some (.vmac v d a b g)
  | 0x31, 0x02 => whenOk (!w.getLsbD 25) (.vdot v (w.extractLsb' 23 2) a b g)
  | _, _ => none

/-- Major 0x32: 32-bit lanes alone. -/
def decodeVFloat (w : Word) : Option Instr :=
  let v := wWide w
  let d := wVd w
  let a := wVs1 w
  let b := wVs2 w
  let g := wGn w
  match wOp w with
  | 0x01 => whenOk v (.vfaddVfsubVfmul .add d a b g)
  | 0x02 => whenOk v (.vfaddVfsubVfmul .sub d a b g)
  | 0x03 => whenOk v (.vfaddVfsubVfmul .mul d a b g)
  | 0x04 => whenOk v (.vfmac d a b g)
  | 0x05 => whenOk v (.vfminVfmax false d a b g)
  | 0x06 => whenOk v (.vfminVfmax true d a b g)
  | 0x07 => whenOk v (.vfcvtSQVfcvtQS true d a g)
  | 0x08 => whenOk v (.vfcvtSQVfcvtQS false d a g)
  | _ => none

/-- Major 0x33: a lane index stands in the vs2 field, with W = 1 at most 3 (R73; for VBCAST DEDUCED, log entry 17). -/
def decodeVMove (w : Word) : Option Instr :=
  let v := wWide w
  let d := wVd w
  let a := wVs1 w
  let b := wVs2 w
  let g := wGn w
  let lane := !v || decide (b.toNat < 4)
  match wOp w with
  | 0x01 => whenOk (decide (a = 0)) (.vsplat v d g)
  | 0x02 => whenOk (lane && decide (a = 0)) (.vins v d b g)
  | 0x03 => whenOk (lane && decide (d = 0)) (.vext v g a b)
  | 0x04 => whenOk lane (.vbcast v d a b g)
  | 0x05 => some (.vcmplt v d a b g)
  | 0x06 => some (.vsel v d a b g)
  | 0x07 => some (.vmov v d a g)
  | 0x08 => whenOk (!v) (.vnarrow d a b g)
  | 0x09 => whenOk v (.vwiden d a g)
  | _ => none

/-! ### Format M (R75, R76) -/

/-- The lane sizes that CLK takes, and the room that a size above 8 needs (R78, R81). -/
def sizeOk (n : BitVec 4) (vr : VReg) : Bool := decide (n.toNat ≤ 8) || (decide (n.toNat ≤ 12) && decide (vr ≠ 7))
def clkSizeOk (n : BitVec 4) (vr : VReg) : Bool := sizeOk n vr && decide (n ≠ 1) && decide (n ≠ 2)

/-- Majors 0x38 to 0x3B: a field that an instruction does not use is 0. -/
def decodeMotor (x : Outside) (w : Word) : Option Instr :=
  let a := wR1 w
  let b := wR2 w
  let n := wSel w
  let r := wVr w
  let ax := wAx w
  let p : BitVec 2 := w.extractLsb' 12 2
  let noA := decide (a = 0)
  let noB := decide (b = 0)
  let noN := decide (n = 0)
  let noR := decide (r = 0)
  let noX := decide (ax = 0)
  match wMajor w, wOp w with
  | 0x38, 0x01 => whenOk (noA && noB && clkSizeOk n r) (.clk n r ax)
  | 0x38, 0x02 => whenOk (noA && noB && clkSizeOk n r) (.clkI n r ax)
  | 0x38, 0x03 => whenOk (noB && noX && decide (n.toNat < 4)) (.prk a p r)
  | 0x38, 0x04 => whenOk (noB && noX && !n.getLsbD 2) (.iprk a p (n.getLsbD 3) r)
  | 0x38, 0x05 => whenOk (noB && noX && decide (n.toNat < 4)) (.svm a p r)
  | 0x39, 0x01 => whenOk (sizeOk n r) (.atab a b n r ax x.reads)
  | 0x39, 0x02 => whenOk (noR && noX) (.pia a b n x.env)
  | 0x39, 0x03 => whenOk (noN && noR && noX) (.rmp a b x.env)
  | 0x39, 0x04 => whenOk (noX && decide (n.toNat ≤ 8)) (.sat a b n r)
  | 0x39, 0x05 => whenOk (noX && !n.getLsbD 3) (.satC a b p (n.getLsbD 2) r)
  | 0x3A, 0x01 => whenOk (noB && !n.getLsbD 3) (.commit a p (n.getLsbD 2) r ax x.env.vote)
  | 0x3A, 0x02 => whenOk (noN && noR && noX) (.wev a b)
  | 0x3B, 0x01 => whenOk (noN && noR && noX) (.xch a b x.upset x.copiesDiffer)
  | 0x3B, 0x02 => whenOk (noB && noN && noR && noX) (.sig a x.scrubDiffers)
  | 0x3B, 0x03 => whenOk (noA && noB && noR && noX) (.fence n)
  | _, _ => none

/-! ### Molvek and Molvek-L -/

/-- A word of Molvek on the core h, without the limits of Molvek-L. -/
def decodeFull (h : Hart) (x : Outside) (w : Word) : Option Instr :=
  let m := wMajor w
  if m = 0x00 then decodeInteger h w
  else if m = 0x01 then decodeFixed h w
  else if m = 0x02 then decodeFloat h w
  else if m = 0x03 then decodeAcc h w
  else if m = 0x04 then decodeSystem h w
  else if 0x10 ≤ m ∧ m < 0x20 then decodeAccess h x.env w
  else if m = 0x30 ∨ m = 0x31 then (if eZeros w then decodeVector w else none)
  else if m = 0x32 then (if eZeros w then decodeVFloat w else none)
  else if m = 0x33 then (if eZeros w then decodeVMove w else none)
  else if 0x38 ≤ m ∧ m ≤ 0x3B then (if w.getLsbD 11 then none else decodeMotor x w)
  else decodeImmediate h w

/-- Registers g0 to g15 alone (R68). -/
def lowOnly (rs : List GReg) : Bool := rs.all (fun r => decide (r.toNat < 16))

/-- The control registers of Molvek-L (R68). -/
def lanternCreg (c : BitVec 5) : Bool := decide (c.toNat < 7) || c = 9 || c = 10

/-- The commands that are instructions of Molvek-L (R68). -/
def molvekL : Instr → Bool
  | .addSubAndOrXor _ _ d a b => lowOnly [d, a, b]
  | .sllSrlSra _ _ d a b => lowOnly [d, a, b]
  | .sltSltu _ _ d a b => lowOnly [d, a, b]
  | .minMax _ _ d a b => lowOnly [d, a, b]
  | .clz _ d a => lowOnly [d, a]
  | .slliSrliSrai _ _ d a _ => lowOnly [d, a]
  | .mul _ d a b => lowOnly [d, a, b]
  | .mulhMulhu _ _ d a b => lowOnly [d, a, b]
  | .divDivuRemRemu _ _ d a b => lowOnly [d, a, b]
  | .qaddWQsubW _ _ d a b => lowOnly [d, a, b]
  | .qaddHQsubH _ _ d a b => lowOnly [d, a, b]
  | .qnegWQabsW _ _ d a => lowOnly [d, a]
  | .qnarrow _ d a => lowOnly [d, a]
  | .mfc _ d c => lowOnly [d] && lanternCreg c
  | .mtc _ c a => lowOnly [a] && lanternCreg c
  | .sysc _ => true
  | .brk _ => true
  | .eret _ => true
  | .jalr _ d a => lowOnly [d, a]
  | .addi _ d a _ => lowOnly [d, a]
  | .andi _ d a _ => lowOnly [d, a]
  | .ori _ d a _ => lowOnly [d, a]
  | .xori _ d a _ => lowOnly [d, a]
  | .slti _ d a _ => lowOnly [d, a]
  | .sltiu _ d a _ => lowOnly [d, a]
  | .lui _ d _ => lowOnly [d]
  | .ldbLdbuLdhLdhu _ _ t b _ _ => lowOnly [t, b]
  | .ldw _ t b _ _ => lowOnly [t, b]
  | .ldwRot _ t b _ _ => lowOnly [t, b]
  | .stbSth _ _ t b _ _ => lowOnly [t, b]
  | .stw _ t b _ _ => lowOnly [t, b]
  | .stwRot _ t b _ _ => lowOnly [t, b]
  | .branch _ _ a b _ => lowOnly [a, b]
  | .jal _ d _ => lowOnly [d]
  | _ => false

/-- The command that an instruction word stands for on a core, none for an illegal one (R55, R56, R68). A field that its
instruction does not use is ignored where no rule fixes it at zero (log entry 138). -/
def decodeMolvek (h : Hart) (x : Outside) (w : Word) : Option Instr :=
  (decodeFull h x w).filter (fun i => decide (h = .troika) || molvekL i)

end Sys2Proof
end

