-- ==== Sys2Proof/Machine/Fixed.lean ====
section
/-! DEFINITION. Fixed-point and integer arithmetic on exact integers (R51 to R53): every operation computes the exact
value and narrows it at the end. -/

namespace Sys2Proof.Machine

open Sys2Proof

/-- A two's complement value narrowed to `n` bits with saturation, and whether it saturated (R52). -/
def satI (n : Nat) (x : Int) : Int × Bool :=
  let hi : Int := 2 ^ (n - 1) - 1
  let lo : Int := -(2 ^ (n - 1))
  if hi < x then (hi, true) else if x < lo then (lo, true) else (x, false)

/-- Rounding right shift, half up (R52): half an output LSB is added and the sum truncated toward −∞. -/
def rshr (x : Int) (n : Nat) : Int := if n = 0 then x else (x + 2 ^ (n - 1)) / 2 ^ n

/-- Round half up of a quotient by a positive integer. -/
def rdiv (x : Int) (d : Int) : Int := (2 * x + d) / (2 * d)

/-- A word read as Q1.31. -/
def q31 (w : Word) : Int := w.toInt

/-- Bits [15:0] of a word read as Q1.15 (R52). -/
def q15 (w : Word) : Int := (w.setWidth 16).toInt

/-- An integer as a 32-bit word. -/
def wordI (x : Int) : Word := BitVec.ofInt 32 x

/-- A Q1.31 result with its saturation flag. -/
def satW (x : Int) : Word × Bool := let r := satI 32 x; (wordI r.1, r.2)

/-- A Q1.15 result, sign-extended to 32 bits, with its saturation flag. -/
def satH (x : Int) : Word × Bool := let r := satI 16 x; (wordI r.1, r.2)

def qadd (sub : Bool) (x y : Int) : Int := if sub then x - y else x + y

/-- QMUL.W: (x × y + 2^30) >> 31 (R57). -/
def qmulWide (x y : Int) : Int := rshr (x * y) 31

/-- QMUL.H: (x × y + 2^14) >> 15 (R57). -/
def qmulHalf (x y : Int) : Int := rshr (x * y) 15

/-- Leading zeros of a word; 32 for zero (R57). -/
def clzW (w : Word) : Nat := if w.toNat = 0 then 32 else 31 - w.toNat.log2

/-- Signed quotient toward zero, and 0 for a zero divisor (R51). -/
def divS (x y : Int) : Int := if y = 0 then 0 else x.tdiv y

/-- Signed remainder of `divS` (R51). -/
def remS (x y : Int) : Int := if y = 0 then x else x.tmod y

/-- Accumulator saturation to 72 bits (R53). -/
def satA (x : Int) : AWord × Bool := let r := satI 72 x; (BitVec.ofInt 72 r.1, r.2)

/-- Integer square root, rounded down. Bit by bit from the top, so that it evaluates. -/
def isqrtFrom : Nat → Nat → Nat → Nat
  | 0, _, r => r
  | k + 1, n, r => let c := r + 2 ^ k; if c * c ≤ n then isqrtFrom k n c else isqrtFrom k n r

/-- The integer square root of a number below 2^192. -/
def isqrt (n : Nat) : Nat := isqrtFrom 96 n 0

/-- An unsigned number clamped between two integers, the upper limit last. -/
def clampI (lo hi x : Int) : Int := min (max x lo) hi

end Sys2Proof.Machine
end

