-- ==== Sys2Proof/Config.lean ====
section
/-! DEFINITION. The free values of the model: what the spec leaves open is a constant without a body, so that no proof
can see what it is. Each is applied to a counter of `State.draws` or to the operands it depends on. -/

namespace Sys2Proof.Config

/-- Issue cycles that one instruction adds to CYCLE (R49, R61, R62): the spec gives latencies, not one count. -/
opaque issueCycles : Nat → Nat

/-- ECAUSE.SLOT (R49, R61): in which issue slot the faulting instruction sat. -/
opaque issueSlot : Nat → Bool

/-- Which Q1.15 value within 1 LSB the sine of an angle index of 18 bits takes (R79): 0 and 1 the two neighbours, 2 the
lower value where the exact sine is representable. -/
opaque sinPick : Nat → Nat

/-- The same choice for the cosine (R79). -/
opaque cosPick : Nat → Nat

/-- Error of atan2 of (q, d) in angle units, used within ±2^18 (R79). -/
opaque atanErr : Int → Int → Int

/-- Rounding of the value number `k` of an operation on two operands where the spec gives no rounding: false the lower
neighbour, true the next (R80, R84). -/
opaque roundUp : Nat → Int → Int → Bool

/-- Rounding error of one result of the direct-torque estimator or of the torque monitor, in units of 2^-40 of its scale
(R184, R214), used within ±2^8: the spec gives their equations and no internal precision. -/
opaque estimatorErr : Nat → Int

/-- Offset of a fast comparator's threshold in µV, used within ±10 mV (R152). -/
opaque cmpOffset : Nat → Int

/-- Whether an encoder counts up when A leads B (R155): the spec does not name the sense. -/
opaque encoderLeads : Bool

/-- Fixed demodulation delay of the resolver interfaces in ticks (R153): the spec gives no figure. -/
opaque demodDelay : Nat

/-- The ticks that an Axle on the Dray oscillator counts in so many nominal ticks (R109): the oscillator is off by up to
8 %. -/
opaque drayTicks : Nat → Nat

/-- A word whose value the spec does not state. -/
opaque freeWord : Nat → Word

/-- A natural number whose value the spec does not state. -/
opaque freeNat : Nat → Nat

/-- A Boolean choice the spec does not make. -/
opaque freeBool : Nat → Bool

/-- Whether a tiny binary32 result is found before rounding (R54): IEEE 754 leaves it open. -/
opaque tinyBeforeRounding : Bool

/-- Whether FMIN and FMAX of zeros of opposite sign take rs2 (R54): IEEE 754 leaves it open. -/
opaque zeroPick : Bool

/-- Whether a fused product of zero and infinity with a quiet NaN addend sets NV (R54): IEEE 754 leaves it open. -/
opaque fusedInvalid : Bool

/-- Whether FCVT.Q.S of a value outside Q1.31 sets NV beside QSAT (R52, R54): the spec does not say. -/
opaque cvtQInvalid : Bool

/-- SHA-256 of the boot public key in one-time-programmable memory (R255), as a 256-bit number. -/
opaque otpKeyHash : Nat

/-- Version floor in one-time-programmable memory (R255). -/
opaque otpVersionFloor : Nat

/-- Key hash of the debug port in one-time-programmable memory (R245). -/
opaque otpDebugKeyHash : Nat

/-- The device-unique key (R224, R299) as 32 bytes. -/
opaque deviceKey : Nat → Byte

end Sys2Proof.Config
end

