-- ==== Sys2Proof/Machine/State.lean ====
section
/-! DEFINITION. The state of the JV7256 as plain data: every register (by its offset in the register views), every
memory, the cores, and the engines' own state, with the rule of spec/ that names each. -/

namespace Sys2Proof.Machine

open Sys2Proof

/-- A sparse map in canonical form: keys strictly rising, no entry equal to what an unlisted key reads as. -/
abbrev FMap (α : Type) := List (Nat × α)

/-- No step of this block stops with a fault: every outcome that the spec describes is a next state. -/
inductive Fault where
  /-- Raised by `step` for no command at all: kept so that the type has a name for an access that cannot exist.
  Safe: nothing raises it. -/
  | none
  deriving DecidableEq, Repr

/-- The reasons for which a command is turned away. -/
inductive Refusal where
  /-- A row of the table that has no meaning yet; the string is its mnemonic. Safe: the machine stops. -/
  | notModelled (mnemonic : String)
  deriving DecidableEq, Repr

/-- The power states of R264. -/
inductive Power where | off | lantern | stand | drive
  deriving DecidableEq, Repr

/-- The two kinds of reset of the fast domain (R283). -/
inductive ResetKind where | cold | warm
  deriving DecidableEq, Repr

/-- Why an issued instruction has not completed (R87, R90, R307). -/
inductive Wait where
  | none
  | wev (ga gb : GReg)
  | load (tag : Nat) (rt : GReg) (rot : Nat)
  | fenceC
  deriving DecidableEq, Repr

/-- A COMMIT that has issued and is not yet applied (R86). -/
structure CommitEntry where
  ax : Fin 4
  halves : BitVec 2
  f : Bool
  lanes : List Word
  deriving DecidableEq, Repr

/-- An entry of the store buffer (R60): a COMMIT, or bytes for a RAM with what their write meets there (R251, R253). -/
inductive BufEntry where
  | commit (c : CommitEntry)
  | store (addr : Nat) (bytes : List Byte) (ecc : Ecc) (portF : Bool)
  deriving DecidableEq, Repr

/-- The architectural state of one core (R47, R49). -/
structure CoreState where
  /-- g0 to g31, unlisted reads 0 (R47, R48). -/
  g : FMap Word := []
  /-- v0 to v7 (R47). -/
  v : FMap VWord := []
  /-- a0 to a3 (R47). -/
  acc : FMap AWord := []
  /-- Program counter (R47). -/
  pc : Word := 0
  /-- c0 to c6 and c9 to c11 (R49). -/
  cr : FMap Word := []
  /-- CYCLEH and CYCLE, c8 and c7 (R49). -/
  cycle : BitVec 64 := 0
  deriving DecidableEq, Repr

/-- What the Troika and the Whiffletree hold besides the TRK registers (R87 to R90, R232 to R247). -/
structure Troika where
  core : CoreState := {}
  /-- Released under R288 and R290. -/
  released : Bool := false
  wait : Wait := .none
  /-- Oldest first; 8 entries at most (R60). -/
  storeBuf : List BufEntry := []
  /-- State signature S of the running value (R89). -/
  sigS : Word := 0
  /-- S after the last SIG retired, as the vote compares it (R89, R237). -/
  sigVoted : Word := 0
  /-- Times each core was found odd at a vote instant (R237). -/
  oddVotes : FMap Nat := []
  /-- Isolations of each core since reset (R239). -/
  isoCount : FMap Nat := []
  /-- Unconfirmed isolations of each core (R241). -/
  unconf : FMap Nat := []
  /-- Core whose latent divergence the next SIG scrubs (R237). -/
  scrub : Option (Fin 3) := none
  /-- The isolated core has passed its slice and waits for the copy pause (R239). -/
  rejoinReady : Bool := false
  /-- The core isolated as planned for a BIST slot (R359). -/
  plannedIso : Option (Fin 3) := none
  /-- A path test runs (R242). -/
  pathTesting : Bool := false
  /-- A path test waits for the next copy pause (R241). -/
  pathTestDue : Bool := false
  /-- An access is held for the re-vote after a path test, and the instruction that makes it (R241). -/
  heldAccess : Bool := false
  heldInstr : Option Instr := none
  /-- The copy pause is in progress (R239). -/
  copying : Bool := false
  /-- A debug halt has been requested and waits for the instruction boundary; whether a scan follows (R246, R362). -/
  haltWanted : Option Bool := none
  /-- Addresses of failed remote stores not yet reported as cause 0x09 (R63). -/
  imprecise : List Word := []
  /-- VBASE has been written since the release (R290). -/
  vbaseWritten : Bool := false
  /-- One instruction may run in a debug halt (R247). -/
  stepArmed : Bool := false
  /-- A WEV has issued since a path test was requested (R244). -/
  wevSeen : Bool := false
  deriving DecidableEq, Repr

/-- A Coupler frame or message that waits to be sent (R302, R305, R307, R308). The device's own frames take their SRC,
their EPOCH and HOPS = 31 as they leave; a transit frame keeps what it came with. -/
structure TxFrame where
  cls : Nat
  dst : Nat := 0
  src : Nat := 0
  epoch : Nat := 0
  kind : Nat
  tag : Nat := 0
  hops : Nat := 31
  arg : Word := 0
  xarg : BitVec 16 := 0
  payload : List Byte := []
  /-- False: it will end with /E/ (R298). -/
  good : Bool := true
  /-- Input port of a transit frame, 4 for the local sender (R305). -/
  inp : Nat := 4
  /-- Output port of a link-control frame, which travels one hop (R297). -/
  port : Option Nat := none
  /-- Output ports that have sent it, or its current fragment, already (R304). -/
  sent : List Nat := []
  /-- Fragments of a Freight message already sent (R308). -/
  frag : Nat := 0
  deriving DecidableEq, Repr

/-- An Axle's engine state (R92 to R109, R174 to R194). -/
structure AxleSt where
  /-- A start waits for its grid valley (R103). -/
  startPending : Bool := false
  /-- A stop waits for the next valley (R103). -/
  stopPending : Bool := false
  /-- Counter on the Dray oscillator (R109). -/
  onDray : Bool := true
  /-- Commit watchdog: update points passed (R17). -/
  wd : Nat := 0
  /-- Slots whose edge has fired in this half (R98). -/
  fired : List Nat := []
  /-- Triggers fired in this half (R102). -/
  trgFired : List Nat := []
  /-- Common fine offset, 0 to 31 taps (R106). -/
  fineOfs : Nat := 0
  /-- Removed ticks (positive) or held ticks (negative) of the next up half (R106). -/
  slewTicks : Int := 0
  /-- Anchor of the grid under SRC = 5, in taps (R105). -/
  anchor : Int := 0
  /-- Offset of the grid under SRC = 1 to 4 after a scheduled change has re-anchored it; else AXL_SYNCOFS (R104, R107). -/
  gridOfs : Option Nat := none
  /-- Instant in taps of the latest valley, its fine offset included (R104, R106). -/
  valleyAt : Nat := 0
  /-- Instant in taps of the write of RUN that asked for the pending start (R103). -/
  startFrom : Nat := 0
  /-- A scheduled change applied at the valley that began the half in progress (R107). -/
  sched : Bool := false
  /-- Triggers rewritten behind the counter in this half (R102). -/
  trgBehind : List Nat := []
  /-- Instant of the latest update point, taps (R174). -/
  upAt : Nat := 0
  /-- Instant of the update point of the latest report, taps (R175). -/
  repAt : Nat := 0
  /-- A report was applied in this interval (R174). -/
  reported : Bool := false
  /-- The interval has had a failing check (R177). -/
  intervalFailed : Bool := false
  /-- OBSW of the previous report, none after SEN rises or a re-arm (R177). -/
  prevW : Option Word := none
  /-- OBSW of the latest report (R174, R175). -/
  repW : Word := 0
  /-- Angles of resolvers 0 and 1 latched at the opening update point (R177). -/
  openAng : Word := 0
  openAng2 : Word := 0
  /-- OBSW of the last report that passed every check (R191). -/
  trustedW : Option Word := none
  /-- Entry to the fallback waits for the next update point, with its cause (R189). -/
  fbPending : Option Nat := none
  /-- A handback has been accepted (R193). -/
  handback : Bool := false
  /-- A COMMIT has been applied since the accepted handback (R193). -/
  commitSinceHb : Bool := false
  /-- Held in SAFE by a debug halt until a COMMIT after the resume (R108). -/
  haltHold : Bool := false
  /-- The cores have resumed since that halt (R108). -/
  resumed : Bool := false
  /-- A COMMIT has been applied since the resume (R108). -/
  commitSinceResume : Bool := false
  /-- Slewed torque reference T_f, Q1.31 (R186). -/
  tf : Int := 0
  /-- A catch waits for the next update point (R192). -/
  catchPending : Bool := false
  /-- Probes applied in the catch in progress (R192). -/
  probes : Nat := 0
  /-- A probe is applied now (R192). -/
  probing : Bool := false
  /-- The window just closed ended a probe, whose publication is still to come (R192). -/
  probeDue : Bool := false
  /-- Instants in taps of step 1 of the catch, and of the opening of the first probe's window (R192). -/
  catchAt : Nat := 0
  probeAt : Nat := 0
  /-- Failed catch attempts since MODE first became 2 (R192). -/
  attempts : Nat := 0
  /-- Dray service has started the Axle, and its catch has not begun yet (R206, R289). -/
  drayStarted : Bool := false
  /-- Sensing window open (R139). -/
  winOpen : Bool := false
  /-- Update points since the window opened, and the instant of its opening in taps (R139, R192). -/
  winUpd : Nat := 0
  winAt : Nat := 0
  /-- Publications of the Axle (R142). -/
  pubs : Nat := 0
  /-- A closed window waits for its publication (R142). -/
  pubDue : Bool := false
  /-- SDF_AXW governs: a valley has come in Full service since EN was written to 1 (R156). -/
  axwGoverns : Bool := false
  /-- Sum of the monitor's step torques over the interval, and their number (R214). -/
  tmSum : Int := 0
  tmSteps : Nat := 0
  /-- The monitor found the interval invalid (R216). -/
  tmInvalid : Bool := false
  /-- A monitor channel was reconstructed in the interval (R216). -/
  tmRecon : Bool := false
  /-- Every phase leg has been in SAFE throughout the interval (R217). -/
  allSafe : Bool := true
  /-- Instant in taps at which the half in progress began, and the counter at the last turning point that was a peak
  (R92, R100). -/
  halfAt : Nat := 0
  top : Nat := 0
  /-- Counter of the peak, or length of the ramp, that a late PERIOD write has fixed (R100). -/
  latePeak : Option Nat := none
  /-- The grid is re-anchored at the next valley (R105). -/
  reanchor : Bool := false
  deriving DecidableEq, Repr

/-- A position's engine state; its state of R119 is POS_STAT.STATE. Instants are in taps. -/
structure PosSt where
  /-- Raw command of the timebase (R95). -/
  raw : Bool := false
  /-- Command after the mask, step 2 of R115. -/
  cmd2 : Bool := false
  /-- Command after the short-interval rule, step 3 of R115. -/
  cmd3 : Bool := false
  /-- Command after the bootstrap refresh, step 4 of R115. -/
  cmd : Bool := false
  /-- The command that the states of R119 have followed. -/
  acted : Bool := false
  /-- Edges of step 3 still to come: instant and level (R122). -/
  edges : List (Nat × Bool) := []
  /-- Opening instant of the interval in progress (R122). -/
  openAt : Nat := 0
  /-- Its predicted closing instant (R122). -/
  predEnd : Option Nat := none
  /-- Carry taken as the delay of its closing edge (R122). -/
  delay : Nat := 0
  /-- Its closing edge is held to the opening instant plus TH, PMODE = 1 (R122). -/
  hold : Bool := false
  /-- Last falling reference instant (R119). -/
  fallAt : Nat := 0
  /-- Second clock edge after the GAK transition that made it show off (R119). -/
  shownOffAt : Nat := 0
  /-- The position has shown on since it was released (R121). -/
  shownOn : Bool := false
  /-- The instant at which it last came to show on (R192). -/
  shownOnAt : Nat := 0
  /-- Dead time in force for its own release, 1.25 ns steps (R119). -/
  dtInForce : Nat := 0
  /-- Force of the bootstrap refresh (R131). -/
  bsForce : Option Bool := none
  /-- Held on in SAFE by an ASC code (R123). -/
  asyncOn : Bool := false
  /-- The async dead time has elapsed since the last of the position's GDO fell (R123). -/
  sdtDone : Bool := false
  deriving DecidableEq, Repr

/-- The causes that hold a leg in SAFE (R123, R191, R206, R217, R243, R275, R318); a trip is read from the latches. -/
inductive SafeCause where
  | stand | axleStop | debugHalt | clkLoss | lease | hysHeld (asc : Bool) | tmTrip | pfail | keeper | unlocated
  deriving DecidableEq, Repr

/-- What a leg's window held at its close (R140 to R143, R149): closed with a usable stretch, the sum and the number of its
outputs, the channel faulted during it, and the sum and number of the monitor channel's outputs. -/
structure WinRes where
  closed : Bool := false
  sum : Int := 0
  nout : Nat := 0
  faultSeen : Bool := false
  monSum : Int := 0
  monN : Nat := 0
  deriving DecidableEq, Repr

/-- A leg's engine state. -/
structure LegSt where
  causes : List SafeCause := []
  /-- Code of R204 in force when the keeper took the leg (R206). -/
  keptCode : Nat := 0
  /-- Refresh in progress (R131). -/
  refreshing : Bool := false
  /-- Open stretch: sum of its outputs and their number (R140). -/
  sum : Int := 0
  nout : Nat := 0
  /-- A stretch is open (R140). -/
  stretch : Bool := false
  /-- Instants at which the last stretch began and ended, taps (R192). -/
  stAt : Nat := 0
  stEnd : Nat := 0
  /-- The leg's window is closed with a usable stretch (R140). -/
  closed : Bool := false
  /-- The control channel was faulted during the window (R143). -/
  faultSeen : Bool := false
  /-- A suspect run; no stretch begins before a transition (R143). -/
  suspect : Bool := false
  /-- Sum and number of the monitor channel's outputs over the same window (R149). -/
  monSum : Int := 0
  monN : Nat := 0
  /-- The window that waits for its publication (R142). -/
  won : WinRes := {}
  /-- Consecutive cross-check failures, and whether the run has been reported (R149). -/
  xcnt : Nat := 0
  xhit : Bool := false
  /-- SDF_PRED as latched at the close of the window (R144). -/
  pred : BitVec 16 := 0
  /-- Faulted by its count of predictions (R145). -/
  pflt : Bool := false
  deriving DecidableEq, Repr

/-- A gate channel's state besides the GCH registers. -/
structure ChanSt where
  /-- Level of the GAK pin, which counts once the channel is mapped (R111, R118). -/
  pin : Bool := false
  /-- Own GDO edge being timed: level and instant in taps (R126). -/
  edge : Option (Bool × Nat) := none
  /-- Excluded, with GAK high at the position's last falling reference instant (R121). -/
  watch : Bool := false
  /-- Consecutive delay-line calibration failures (R125). -/
  calFails : Nat := 0
  /-- Failed its channel-group slice; EN = 1 is refused (R360). -/
  bstBad : Bool := false
  deriving DecidableEq, Repr

/-- A sinc filter: its integrators, the memories of its comb sections, and the last sample (R137, R138). -/
structure Sinc where
  i1 : Int := 0
  i2 : Int := 0
  i3 : Int := 0
  z1 : Int := 0
  z2 : Int := 0
  z3 : Int := 0
  last : Bool := false
  deriving DecidableEq, Repr

/-- A sigma-delta input's state (R137, R138, R147). -/
structure SddSt where
  /-- The control filter, which a stretch has cleared and which has given no output since, and the protection filter. -/
  ctl : Sinc := {}
  fresh : Bool := false
  prot : Sinc := {}
  /-- Outputs still to be discarded by the control and the protection filter (R147). -/
  dropC : Nat := 0
  dropP : Nat := 0
  /-- Consecutive outputs above HI and below LO (R138). -/
  hi : Nat := 0
  lo : Nat := 0
  /-- The conditions that hold (R138). -/
  hiHolds : Bool := false
  loHolds : Bool := false
  /-- A transition within the last 64 samples, and the clock present (R147). -/
  recent : Bool := true
  clk : Bool := true
  deriving DecidableEq, Repr

/-- A SAR converter's sequence (R150). -/
structure SarSt where
  slot : Nat := 0
  seq : Nat := 0
  deriving DecidableEq, Repr

/-- A resolver interface's state (R154, R214). -/
structure ResSt where
  /-- Consecutive excitation periods with the amplitude below 0.40, and outside 0.70 to 1.30. -/
  low : Nat := 0
  off : Nat := 0
  /-- The conditions that are present. -/
  los : Bool := false
  dos : Bool := false
  lot : Bool := false
  ovs : Bool := false
  /-- RES_OFS.OFFSET as the last sample used it. -/
  ofs : Nat := 0
  deriving DecidableEq, Repr

/-- An encoder's accepted levels and the instant of its last count in taps (R155). -/
structure EncSt where
  a : Bool := false
  b : Bool := false
  lastAt : Option Nat := none
  deriving DecidableEq, Repr

/-- A HYS set's estimator, in units of 2^-40 of its scales (R184 to R188). -/
structure HysSt where
  psiA : Int := 0
  psiB : Int := 0
  iA : Int := 0
  iB : Int := 0
  /-- Electrical speed, angle units per tick in Q24.8 (R184). -/
  w : Int := 0
  dpsi : Bool := false
  tau : Int := 0
  /-- Consecutive counted publications within CTOL (R185). -/
  conv : Nat := 0
  /-- Steps since the last change of vector (R188). -/
  dwell : Nat := 0
  /-- Sums of i over the window in progress, and over the window that waits for its publication (R185). -/
  sumA : Int := 0
  sumB : Int := 0
  nsum : Nat := 0
  wonA : Int := 0
  wonB : Int := 0
  wonN : Nat := 0
  /-- Regulation began with a catch and the set has not converged since (R192). -/
  caught : Bool := false
  /-- Angle of the rotor flux at the last step (R184). -/
  theta : Int := 0
  /-- Set torque T_s, fraction of TFS (R184). -/
  ts : Int := 0
  /-- First probe: e, whether |i| was within CTOL, and the midpoint of its stretch in taps (R192). -/
  probe : Option (Int × Int × Bool × Nat) := none
  deriving DecidableEq, Repr

/-- The torque monitor's flux of one monitor set, in 2^-40 (R214). -/
structure MonSt where
  psiA : Int := 0
  psiB : Int := 0
  deriving DecidableEq, Repr

/-- What the LIX pair is doing (R40): a transfer holds its word, its data, the offset at which the write was presented,
whether WADDR then advances, and whether a write of LIX_ADDR asks for a fetch when it ends. -/
inductive LixOp where
  | idle
  | fetch
  | transfer (addr : BitVec 16) (data : Word) (busOff : Nat) (inc refetch : Bool)
  deriving DecidableEq, Repr

/-- One programming of a persistent word (R42, R224): its Lantern word, the new value and the value it had. -/
structure WbProg where
  addr : Nat
  value : Word
  old : Word := 0
  deriving DecidableEq, Repr

/-- A pending black-box capture: kind, source and the 13 latched registers (R382 to R384). -/
structure Capture where
  kind : Nat
  source : Nat
  time : Word
  regs : List Word
  deriving DecidableEq, Repr

/-- A transaction tag (R307). -/
inductive TagSt where
  | free
  | load (dst : Nat) (rt : GReg) (rot : Nat) (addr : Word)
  | store (dst : Nat) (addr : Word)
  | freight (dst : Nat)
  | held
  deriving DecidableEq, Repr

/-- A Freight reassembly buffer (R310). -/
structure ReasmBuf where
  src : Nat
  fid : Nat
  tag : Nat
  lastIdx : Option Nat
  frags : List (Nat × Word × List Byte)
  deriving DecidableEq, Repr

/-- A Coupler port's state (R299, R302, R305, R311). -/
structure PortSt where
  /-- Hop counts that the neighbour advertised, per seat less 1; 31 unreachable (R302). -/
  adv : List Nat := []
  t1 : Nat := 0
  t2 : Nat := 0
  t3 : Nat := 0
  t4 : Nat := 0
  /-- ANSWER sent, waiting for GRANT (R299). -/
  answered : Bool := false
  /-- An ANSWER from this port has been passed on toward the head (R299). -/
  relayed : Bool := false
  /-- The source served last in each class: an input port, or 4 for the local sender (R305). -/
  served : FMap Nat := []
  deriving DecidableEq, Repr

/-- An ANSWER at the head: its port, the joiner's serial, its admission code and the seat it asks for (R299). -/
structure Answer where
  port : Nat
  serial : BitVec 64
  code : BitVec 128
  seat : Nat
  deriving DecidableEq, Repr

/-- The Coupler's engines (R295 to R325). -/
structure Coupler where
  tags : FMap TagSt := []
  ports : FMap PortSt := []
  /-- Queues of the launched frames of the three classes, 16 entries each (R308). -/
  mailQ : List TxFrame := []
  stageQ : List TxFrame := []
  freightQ : List TxFrame := []
  /-- Mail forwards of events: source number and multicast group, 16 at most (R260, R262). -/
  fwdQ : List (Nat × Nat) := []
  /-- Ports on which the forward in front has left. -/
  fwdSent : List Nat := []
  /-- Transit frames (R304, R306). -/
  transit : List TxFrame := []
  /-- Frames of the device itself: link control, window accesses, responses, LEASE, UNCPL, Guard frames. -/
  ownQ : List TxFrame := []
  reasm : FMap (Option ReasmBuf) := []
  /-- Stale FID per source seat (R310). -/
  stale : FMap (Option Nat) := []
  /-- FID of the next Freight message (R310). -/
  fid : Nat := 0
  /-- Fabric time less the model's instant, taps (R311). -/
  ofs : Int := 0
  /-- Struck mask (R319, R321). -/
  struck : Word := 0
  /-- An epoch has been adopted since the device last hitched, and the instant of the latest adoption (R319). -/
  adopted : Bool := false
  adoptAt : Nat := 0
  /-- Instant of the latest renewal (R317). -/
  renewAt : Nat := 0
  /-- The device may speak only link control until reset (R320). -/
  uncoupled : Bool := false
  /-- ANSWERs at the head, the one being handled first (R299). -/
  answers : List Answer := []
  /-- Challenge of the offers (R299). -/
  challenge : BitVec 128 := 0
  /-- Seats that the head has granted (R299, R312). -/
  granted : List Nat := []
  /-- The admission check runs (R301). -/
  checking : Bool := false
  /-- A granted seat that waits to be written into the seat word (R300). -/
  seatWrite : Option Word := none
  /-- An authority that has reset still listens (R322). -/
  listening : Bool := true
  /-- Instant of the latest UNCPL to each seat, if any (R319). -/
  uncplAt : FMap (Option Nat) := []
  deriving DecidableEq, Repr

/-- A Guard receive connection's state besides its registers (R328 to R333); instants in GRD_TIME units. -/
structure GrdRx where
  /-- Expiry instant (R330). -/
  expiry : Option Nat := none
  /-- Challenge of the outstanding request, and the instant of the latest request (R331). -/
  challenge : Option Word := none
  reqAt : Option Nat := none
  /-- A refused frame asks for a request that the 10 ms spacing still holds back (R329, R331). -/
  asked : Bool := false
  /-- Consecutive sequence refusals (R329). -/
  refusals : Nat := 0
  /-- Instant of the last step of the window after an expiry, or of the end of its hold (R333). -/
  stepAt : Nat := 0
  deriving DecidableEq, Repr

/-- One entry of a CAN queue (R340, R342). -/
structure CanEntry where
  frame : CanFrame
  /-- The Guard transmit connection whose data frame this is (R334, R340). -/
  conn : Option (Fin 8) := none
  ts : Nat := 0
  tag : Nat := 0
  filt : Nat := 0
  deriving DecidableEq, Repr

/-- A CAN controller's queues (R338 to R345). -/
structure CanSt where
  tx : List CanEntry := []
  /-- An abort waits for the end of the frame (R340). -/
  abortPending : Bool := false
  /-- EN has been written to 0, and a frame may still be in progress (R339). -/
  lastFrame : Bool := false
  rxA : List CanEntry := []
  rxB : List CanEntry := []
  /-- Entries written to each queue (R342). -/
  writtenA : Nat := 0
  writtenB : Nat := 0
  /-- Reference count and time of the previous reference message in ticks (R344). -/
  refCount : Nat := 0
  refPrev : Option Nat := none
  deriving DecidableEq, Repr

/-- The Ethernet MAC's ring positions (R349). -/
structure EthSt where
  txIdx : Nat := 0
  rxIdx : Nat := 0
  /-- The transmit ring is being scanned (R349). -/
  scanning : Bool := false
  /-- Guard frames that wait for the next frame boundary (R349). -/
  guardQ : List (List Byte) := []
  deriving DecidableEq, Repr

/-- A sensor's last readings, newest first (R352). -/
structure ThmSt where
  hist : List Int := []
  deriving DecidableEq, Repr

/-- The BIST slice in progress (R358). -/
inductive BistUnit where
  | none | core (k : Fin 3) | bank (b : Nat) | group (g : Nat)
  deriving DecidableEq, Repr

/-- The reset in effect and the bring-up conditions of R288. -/
structure Bringup where
  /-- A reset is in effect, with its kind (R283). -/
  active : Option ResetKind := none
  /-- Cause bits of SYS_RSTCAUSE accepted for it (R294). -/
  causes : Word := 0
  /-- Memories whose clearing is still to end (R252). -/
  uncleared : List ClearMem := []
  drayAvail : Bool := false
  coreTested : Bool := false
  memTested : Bool := false
  booted : Bool := false
  /-- A start-up test has refused the release (R291). -/
  refused : Bool := false
  /-- The last reset was cold (R288: the memory test applies). -/
  cold : Bool := true
  /-- Boot entry address (R255). -/
  entry : Word := 0
  deriving DecidableEq, Repr

/-- Which records were good at their last load (R133, R157, R195, R207, R278). -/
structure Records where
  gate : Bool := false
  sense : Bool := false
  hys : Bool := false
  prot : Bool := false
  harness : Bool := false
  deriving DecidableEq, Repr

/-- A command on the code NVM: erase or program, its address, and the 16 bytes to be programmed as words (R254). -/
structure NvmOp where
  erase : Bool
  addr : Nat
  data : List Word
  deriving DecidableEq, Repr

/-- The Lantern domain besides its words (R68 to R69, R270 to R272). -/
structure Lantern where
  core : CoreState := {}
  /-- Lantern RAM, bytes (R69). -/
  ram : FMap Byte := []
  /-- Lantern words: control, mailbox, Waybill, wear, change log, black box (R39). -/
  words : FMap Word := []
  /-- The mailbox request (R271). -/
  mbox : Bool := false
  /-- Waybill programmings, the one in progress first (R42, R224). -/
  prog : List WbProg := []
  /-- Entries appended to the change log (R224). -/
  logNum : Nat := 0
  /-- Pending captures, two at most (R384). -/
  bb : List Capture := []
  /-- Sensor 15: reading, validity, fault (R353). -/
  t15 : Int := 0
  t15Valid : Bool := false
  t15Fault : Bool := false
  /-- A Lantern request has been accepted (R267). -/
  entering : Bool := false
  /-- A wake accepted on the way to the Lantern state (R267). -/
  wakeHeld : Bool := false
  /-- VBK has been enabled by a level above 8.5 V (R275). -/
  vbkSeen : Bool := false
  deriving DecidableEq, Repr

/-- The Drag Shoe and its test (R225 to R228), with the pins BRK_A, BRK_B. -/
structure Brake where
  outA : Bool := false
  outB : Bool := false
  /-- Angle A0 of the test (R228). -/
  a0 : BitVec 16 := 0
  /-- Largest excursion and smallest magnitude so far (R228). -/
  exc : Nat := 0
  imin : Nat := 0xFFFF
  deriving DecidableEq, Repr

/-- The brake chopper and the discharge (R208 to R211). -/
structure Chopper where
  /-- Chopper command (R209). -/
  on : Bool := false
  /-- PRES when it turned on (R210). -/
  v0 : Int := 0
  /-- Faulty until bit 16 of PROT_TRIP8 is cleared (R210). -/
  faulty : Bool := false
  /-- The last DC-link reading was at or above VWARN (R208). -/
  warned : Bool := false
  /-- The discharge is supervised, and its DTIME has passed (R211). -/
  supervising : Bool := false
  late : Bool := false
  /-- Groups of the software trip while source 210 stays latched (R198). -/
  swGroups : BitVec 8 := 0
  deriving DecidableEq, Repr

/-- The whole state of the block. -/
structure State where
  /-- The commands that are waiting, first in, first out. -/
  pending : List Instr := []
  /-- The latest instant that a command has carried, in taps of 39.0625 ps. -/
  now : Nat := 0
  /-- Every memory-mapped register, by its offset in the register views on the first page of its block; an unlisted
  register holds the reset value of its card (R8). -/
  regs : FMap Word := []
  /-- Memory by the Troika's address: code NVM, main SRAM, Tandem RAM, table memory (R24). -/
  mem : List Host.Cell := []
  /-- Addresses of the ECC words (8 bytes; 4 in table memory) that hold the poison pattern, rising (R251). -/
  poison : List Nat := []
  /-- Register cards whose EVT wake-pending state is set: source and wake line (R260). -/
  wakePend : List (Nat × Nat) := []
  troika : Troika := {}
  axle : FMap AxleSt := []
  pos : FMap PosSt := []
  leg : FMap LegSt := []
  chan : FMap ChanSt := []
  sdd : FMap SddSt := []
  sar : FMap SarSt := []
  res : FMap ResSt := []
  enc : FMap EncSt := []
  hys : FMap HysSt := []
  mon : FMap MonSt := []
  chop : Chopper := {}
  /-- Words of GCH_CFG and LEG_CFG in force when a warm reset was asserted, for the legs that the keeper holds (R206). -/
  kept : FMap Word := []
  /-- TRIP pins that stand high after an accepted edge, rising (R197). -/
  tripPins : List Nat := []
  brake : Brake := {}
  /-- The sealed parameters in force: Waybill words 0x101 to 0x1EF at their last good load (R220). -/
  sealedRec : FMap Word := []
  lix : LixOp := .idle
  lan : Lantern := {}
  cpl : Coupler := {}
  grd : FMap GrdRx := []
  /-- Instant of the last reset, at which GRD_TIME is 0 (R330). -/
  grdAt : Nat := 0
  /-- GRD_CMDSET captures: CMDMAX, CMDMIN and CMDFLG of each Axle as the last read of CMDSET took them (R332). -/
  grdCap : FMap Word := []
  can : FMap CanSt := []
  eth : EthSt := {}
  thm : FMap ThmSt := []
  /-- Throttle steps are counted, and the last conversion found THM_MAX at or above TWARN (R355). -/
  thmStepping : Bool := false
  thmHot : Bool := false
  bist : BistUnit := .none
  /-- Migration pointer P (R250). -/
  migPtr : Nat := 0
  /-- Bytes of the spare bank of main SRAM, by their offset in it (R249). -/
  spareMem : FMap Byte := []
  /-- Instants in taps at which the Harness controllers were enabled (R277). -/
  harnessAt : FMap Nat := []
  /-- NVM command in progress (R254). -/
  nvm : Option NvmOp := none
  bringup : Bringup := {}
  records : Records := {}
  power : Power := .stand
  /-- Model's own: number of free values drawn so far. Not the spec's. -/
  draws : Nat := 0
  deriving DecidableEq, Repr

/-- The machine in the cold reset that follows power-up from Off, before RESET_RELEASE: every register at the reset
value of its card (R8, R283, R286), SYS_RSTCAUSE about to record the WAKE flag (R294). -/
def State.reset : State :=
  { bringup := { active := some .cold, causes := 0x00400000, uncleared := [.mainSram, .tandem, .table, .lantern] } }

end Sys2Proof.Machine
end

