-- ==== Sys2Proof/Machine/Cards.lean ====
section
/-! DEFINITION. Register cards of spec/ (R6 to R9, R30, R31 and the register pages of every block chapter):
an address for every register, a bit range for every named field, and the card tables that give each field its
type, its Coachman-only mark, its chock bit and the register's reset value. Written card by card from the field
tables of spec/. -/

namespace Sys2Proof.Machine

/-- The `len` bits of a register word from bit `lo` up. -/
structure Fld where
  lo : Nat
  len : Nat
  deriving DecidableEq, Repr

/-- Field types of R6 and R32; `rcw` is an RC counter whose card says that it wraps (R33). -/
inductive FType where
  | rw | ro | rh | rc | rcw | sq | ck | rz
  deriving DecidableEq, Repr

/-- Which SYS_CHOCK bit covers a field (R37): a fixed bit, bit 3 + n of the Axle n whose register it is, or bit 3 + a
of the Axle that a HYS set belongs to (R196). -/
inductive Chock where
  | none | bit (n : Nat) | axle | hysSet
  deriving DecidableEq, Repr

/-- One row of a register card: bit range, type, Coachman-only mark (R27), whether it reads zero, its chock. -/
structure FieldCard where
  fld : Fld
  ty : FType
  coach : Bool := false
  readsZero : Bool := false
  chock : Chock := .none
  deriving DecidableEq, Repr

/-- A register card: the offset of its first instance, the (stride, count) pairs of its instances, outermost first,
the view mark of R27, the reset value of R8, and the field rows. -/
structure Card where
  base : Nat
  dims : List (Nat × Nat)
  coach : Bool
  reset : BitVec 32
  fields : List FieldCard
  deriving DecidableEq, Repr

/-! ### Block SYS -/

/-- SYS_ID (R9, 00_scope.md). -/
def SYS_ID : Nat := 0
def SYS_ID_PART : Fld := ⟨16, 16⟩
def SYS_ID_STEP : Fld := ⟨0, 8⟩

/-- SYS_SCRATCH (R31, 02_register_model.md). -/
def SYS_SCRATCH : Nat := 0x1C
def SYS_SCRATCH_VALUE : Fld := ⟨0, 32⟩

/-- SYS_WRLOST (R36, 02_register_model.md). -/
def SYS_WRLOST : Nat := 0x10
def SYS_WRLOST_SEQ : Fld := ⟨24, 8⟩
def SYS_WRLOST_LOST : Fld := ⟨23, 1⟩
def SYS_WRLOST_MULTI : Fld := ⟨22, 1⟩
def SYS_WRLOST_VIEW : Fld := ⟨21, 1⟩
def SYS_WRLOST_ADDR : Fld := ⟨2, 19⟩

/-- SYS_REFUSED (R36, 02_register_model.md). -/
def SYS_REFUSED : Nat := 0x18
def SYS_REFUSED_SEQ : Fld := ⟨24, 8⟩
def SYS_REFUSED_REF : Fld := ⟨23, 1⟩
def SYS_REFUSED_MULTI : Fld := ⟨22, 1⟩
def SYS_REFUSED_VIEW : Fld := ⟨21, 1⟩
def SYS_REFUSED_ADDR : Fld := ⟨2, 19⟩
def SYS_REFUSED_CAUSE : Fld := ⟨0, 2⟩

/-- SYS_CHOCK (R37, 02_register_model.md). -/
def SYS_CHOCK : Nat := 0x14
def SYS_CHOCK_DBG : Fld := ⟨14, 1⟩
def SYS_CHOCK_WBCAL : Fld := ⟨13, 1⟩
def SYS_CHOCK_PMU : Fld := ⟨12, 1⟩
def SYS_CHOCK_CPL : Fld := ⟨11, 1⟩
def SYS_CHOCK_GRD : Fld := ⟨10, 1⟩
def SYS_CHOCK_PROT : Fld := ⟨9, 1⟩
def SYS_CHOCK_SDF : Fld := ⟨8, 1⟩
def SYS_CHOCK_GATE : Fld := ⟨7, 1⟩
def SYS_CHOCK_AXL : Fld := ⟨3, 4⟩
def SYS_CHOCK_EVT : Fld := ⟨2, 1⟩
def SYS_CHOCK_MEM : Fld := ⟨1, 1⟩
def SYS_CHOCK_CLK : Fld := ⟨0, 1⟩

/-- SYS_STATE (R281, 15_power_and_clocks.md). -/
def SYS_STATE : Nat := 4
def SYS_STATE_WHY : Fld := ⟨12, 4⟩
def SYS_STATE_REQ : Fld := ⟨8, 2⟩
def SYS_STATE_SERVICE : Fld := ⟨4, 1⟩
def SYS_STATE_STATE : Fld := ⟨0, 2⟩

/-- SYS_CLK (R281, 15_power_and_clocks.md). -/
def SYS_CLK : Nat := 0xC
def SYS_CLK_SEN : Fld := ⟨8, 1⟩
def SYS_CLK_HOLDOVER : Fld := ⟨7, 1⟩
def SYS_CLK_XSRC : Fld := ⟨6, 1⟩
def SYS_CLK_XOK : Fld := ⟨5, 1⟩
def SYS_CLK_SLOCK : Fld := ⟨4, 1⟩
def SYS_CLK_PLOCK : Fld := ⟨3, 1⟩
def SYS_CLK_CLOCK : Fld := ⟨2, 1⟩
def SYS_CLK_TLOCK : Fld := ⟨1, 1⟩
def SYS_CLK_DRAY : Fld := ⟨0, 1⟩

/-- SYS_RSTCAUSE (R294, 16_reset_and_bringup.md). -/
def SYS_RSTCAUSE : Nat := 8
def SYS_RSTCAUSE_SEQ : Fld := ⟨24, 8⟩
def SYS_RSTCAUSE_PORST : Fld := ⟨23, 1⟩
def SYS_RSTCAUSE_WAKE : Fld := ⟨22, 1⟩
def SYS_RSTCAUSE_REGRST : Fld := ⟨21, 1⟩
def SYS_RSTCAUSE_SWCOLD : Fld := ⟨20, 1⟩
def SYS_RSTCAUSE_WRST : Fld := ⟨19, 1⟩
def SYS_RSTCAUSE_SWWARM : Fld := ⟨18, 1⟩
def SYS_RSTCAUSE_CLKRST : Fld := ⟨17, 1⟩
def SYS_RSTCAUSE_KEY : Fld := ⟨8, 8⟩
def SYS_RSTCAUSE_LAST : Fld := ⟨4, 2⟩
def SYS_RSTCAUSE_REQ : Fld := ⟨0, 2⟩

/-- Cards of block SYS, part 1. -/
def cardsSYS0 : List Card := [
  -- SYS_ID
  ⟨0, [], false, 0x72560001#32, [
    ⟨⟨16, 16⟩, .ro, false, false, .none⟩,
    ⟨⟨0, 8⟩, .ro, false, false, .none⟩]⟩,
  -- SYS_SCRATCH
  ⟨0x1C, [], false, 0x00000000#32, [
    ⟨⟨0, 32⟩, .rw, false, false, .none⟩]⟩,
  -- SYS_WRLOST
  ⟨0x10, [], true, 0x00000000#32, [
    ⟨⟨24, 8⟩, .ro, false, false, .none⟩,
    ⟨⟨23, 1⟩, .sq, false, false, .none⟩,
    ⟨⟨22, 1⟩, .sq, false, false, .none⟩,
    ⟨⟨21, 1⟩, .ro, false, false, .none⟩,
    ⟨⟨2, 19⟩, .ro, false, false, .none⟩]⟩,
  -- SYS_REFUSED
  ⟨0x18, [], true, 0x00000000#32, [
    ⟨⟨24, 8⟩, .ro, false, false, .none⟩,
    ⟨⟨23, 1⟩, .sq, false, false, .none⟩,
    ⟨⟨22, 1⟩, .sq, false, false, .none⟩,
    ⟨⟨21, 1⟩, .ro, false, false, .none⟩,
    ⟨⟨2, 19⟩, .ro, false, false, .none⟩,
    ⟨⟨0, 2⟩, .ro, false, false, .none⟩]⟩,
  -- SYS_CHOCK
  ⟨0x14, [], true, 0x00000000#32, [
    ⟨⟨14, 1⟩, .ck, false, false, .none⟩,
    ⟨⟨13, 1⟩, .ck, false, false, .none⟩,
    ⟨⟨12, 1⟩, .ck, false, false, .none⟩,
    ⟨⟨11, 1⟩, .ck, false, false, .none⟩,
    ⟨⟨10, 1⟩, .ck, false, false, .none⟩,
    ⟨⟨9, 1⟩, .ck, false, false, .none⟩,
    ⟨⟨8, 1⟩, .ck, false, false, .none⟩,
    ⟨⟨7, 1⟩, .ck, false, false, .none⟩,
    ⟨⟨3, 4⟩, .ck, false, false, .none⟩,
    ⟨⟨2, 1⟩, .ck, false, false, .none⟩,
    ⟨⟨1, 1⟩, .ck, false, false, .none⟩,
    ⟨⟨0, 1⟩, .ck, false, false, .none⟩]⟩,
  -- SYS_STATE
  ⟨4, [], false, 0x00000002#32, [
    ⟨⟨12, 4⟩, .ro, false, false, .none⟩,
    ⟨⟨8, 2⟩, .rh, true, false, .none⟩,
    ⟨⟨4, 1⟩, .ro, false, false, .none⟩,
    ⟨⟨0, 2⟩, .ro, false, false, .none⟩]⟩,
  -- SYS_CLK
  ⟨0xC, [], false, 0x00000000#32, [
    ⟨⟨8, 1⟩, .rw, true, false, .none⟩,
    ⟨⟨7, 1⟩, .ro, false, false, .none⟩,
    ⟨⟨6, 1⟩, .ro, false, false, .none⟩,
    ⟨⟨5, 1⟩, .ro, false, false, .none⟩,
    ⟨⟨4, 1⟩, .ro, false, false, .none⟩,
    ⟨⟨3, 1⟩, .ro, false, false, .none⟩,
    ⟨⟨2, 1⟩, .ro, false, false, .none⟩,
    ⟨⟨1, 1⟩, .ro, false, false, .none⟩,
    ⟨⟨0, 1⟩, .ro, false, false, .none⟩]⟩,
  -- SYS_RSTCAUSE
  ⟨8, [], false, 0x01400010#32, [
    ⟨⟨24, 8⟩, .ro, false, false, .none⟩,
    ⟨⟨23, 1⟩, .sq, false, false, .none⟩,
    ⟨⟨22, 1⟩, .sq, false, false, .none⟩,
    ⟨⟨21, 1⟩, .sq, false, false, .none⟩,
    ⟨⟨20, 1⟩, .sq, false, false, .none⟩,
    ⟨⟨19, 1⟩, .sq, false, false, .none⟩,
    ⟨⟨18, 1⟩, .sq, false, false, .none⟩,
    ⟨⟨17, 1⟩, .sq, false, false, .none⟩,
    ⟨⟨8, 8⟩, .rw, true, true, .none⟩,
    ⟨⟨4, 2⟩, .ro, false, false, .none⟩,
    ⟨⟨0, 2⟩, .rh, true, true, .none⟩]⟩]

/-- Every card of block SYS. -/
def cardsSYS : List Card := cardsSYS0

/-! ### Block EVT -/

/-- EVT_CFG (R263, 14_events.md). -/
def EVT_CFG (a : Nat) : Nat := 0x10000 + 4 * a
def EVT_CFG_INT : Fld := ⟨31, 1⟩
def EVT_CFG_WEN : Fld := ⟨30, 1⟩
def EVT_CFG_WLINE : Fld := ⟨26, 4⟩
def EVT_CFG_LAN : Fld := ⟨25, 1⟩
def EVT_CFG_CPL : Fld := ⟨24, 1⟩
def EVT_CFG_CGRP : Fld := ⟨20, 4⟩
def EVT_CFG_PRIO : Fld := ⟨0, 4⟩

/-- EVT_PEND (R263, 14_events.md). -/
def EVT_PEND (a : Nat) : Nat := 0x10400 + 4 * a
def EVT_PEND_SEQ : Fld := ⟨24, 8⟩
def EVT_PEND_PEND : Fld := ⟨0, 24⟩

/-- EVT_WPEND (R263, 14_events.md). -/
def EVT_WPEND : Nat := 0x10440
def EVT_WPEND_LINE : Fld := ⟨0, 16⟩

/-- EVT_CNT (R263, 14_events.md). -/
def EVT_CNT : Nat := 0x10444
def EVT_CNT_WOVR : Fld := ⟨16, 16⟩
def EVT_CNT_CPLDROP : Fld := ⟨0, 16⟩

/-- EVT_REQ (R263, 14_events.md). -/
def EVT_REQ : Nat := 0x10448
def EVT_REQ_VALID : Fld := ⟨31, 1⟩
def EVT_REQ_LEVEL : Fld := ⟨8, 4⟩
def EVT_REQ_SOURCE : Fld := ⟨0, 8⟩

/-- EVT_RAISE (R263, 14_events.md). -/
def EVT_RAISE : Nat := 0x1044C
def EVT_RAISE_SOURCE : Fld := ⟨0, 8⟩

/-- Cards of block EVT, part 1. -/
def cardsEVT0 : List Card := [
  -- EVT_CFG
  ⟨0x10000, [(4, 256)], true, 0x00000000#32, [
    ⟨⟨31, 1⟩, .rw, false, false, .bit 2⟩,
    ⟨⟨30, 1⟩, .rw, false, false, .bit 2⟩,
    ⟨⟨26, 4⟩, .rw, false, false, .bit 2⟩,
    ⟨⟨25, 1⟩, .rw, false, false, .bit 2⟩,
    ⟨⟨24, 1⟩, .rw, false, false, .bit 2⟩,
    ⟨⟨20, 4⟩, .rw, false, false, .bit 2⟩,
    ⟨⟨0, 4⟩, .rw, false, false, .bit 2⟩]⟩,
  -- EVT_PEND
  ⟨0x10400, [(4, 11)], false, 0x00000000#32, [
    ⟨⟨24, 8⟩, .ro, false, false, .none⟩,
    ⟨⟨0, 24⟩, .sq, false, false, .none⟩]⟩,
  -- EVT_WPEND
  ⟨0x10440, [], false, 0x00000000#32, [
    ⟨⟨0, 16⟩, .ro, false, false, .none⟩]⟩,
  -- EVT_CNT
  ⟨0x10444, [], false, 0x00000000#32, [
    ⟨⟨16, 16⟩, .rc, false, false, .none⟩,
    ⟨⟨0, 16⟩, .rc, false, false, .none⟩]⟩,
  -- EVT_REQ
  ⟨0x10448, [], true, 0x00000000#32, [
    ⟨⟨31, 1⟩, .ro, false, false, .none⟩,
    ⟨⟨8, 4⟩, .ro, false, false, .none⟩,
    ⟨⟨0, 8⟩, .ro, false, false, .none⟩]⟩,
  -- EVT_RAISE
  ⟨0x1044C, [], true, 0x00000000#32, [
    ⟨⟨0, 8⟩, .rw, false, false, .none⟩]⟩]

/-- Every card of block EVT. -/
def cardsEVT : List Card := cardsEVT0

/-! ### Block TRK -/

/-- TRK_STAT (R248, 12_troika.md). -/
def TRK_STAT : Nat := 0x20000
def TRK_STAT_SEQ : Fld := ⟨24, 8⟩
def TRK_STAT_MISM : Fld := ⟨23, 1⟩
def TRK_STAT_LATENT : Fld := ⟨22, 1⟩
def TRK_STAT_VCD : Fld := ⟨21, 1⟩
def TRK_STAT_UNLOC : Fld := ⟨20, 1⟩
def TRK_STAT_SVC : Fld := ⟨19, 1⟩
def TRK_STAT_DFLT : Fld := ⟨18, 1⟩
def TRK_STAT_REJOIN : Fld := ⟨17, 1⟩
def TRK_STAT_BISTF : Fld := ⟨16, 1⟩
def TRK_STAT_INJF : Fld := ⟨15, 1⟩
def TRK_STAT_ISO : Fld := ⟨9, 3⟩
def TRK_STAT_PERM : Fld := ⟨6, 3⟩
def TRK_STAT_VOTER : Fld := ⟨4, 2⟩
def TRK_STAT_RESYNC : Fld := ⟨3, 1⟩
def TRK_STAT_DUAL : Fld := ⟨2, 1⟩
def TRK_STAT_STOP : Fld := ⟨1, 1⟩
def TRK_STAT_HALT : Fld := ⟨0, 1⟩

/-- TRK_CFG (R248, 12_troika.md). -/
def TRK_CFG : Nat := 0x20004
def TRK_CFG_MAXISO : Fld := ⟨16, 4⟩
def TRK_CFG_UNCONF : Fld := ⟨8, 4⟩
def TRK_CFG_BRKDBG : Fld := ⟨1, 1⟩
def TRK_CFG_REJEN : Fld := ⟨0, 1⟩

/-- TRK_CNT (R248, 12_troika.md). -/
def TRK_CNT : Nat := 0x20008
def TRK_CNT_MISM : Fld := ⟨24, 8⟩
def TRK_CNT_LATENT : Fld := ⟨16, 8⟩
def TRK_CNT_VCD : Fld := ⟨8, 8⟩
def TRK_CNT_REJOIN : Fld := ⟨0, 8⟩

/-- TRK_LAST (R248, 12_troika.md). -/
def TRK_LAST : Nat := 0x2000C
def TRK_LAST_CORE : Fld := ⟨30, 2⟩
def TRK_LAST_KIND : Fld := ⟨28, 2⟩
def TRK_LAST_UCNT : Fld := ⟨24, 4⟩
def TRK_LAST_FIELDS : Fld := ⟨0, 8⟩

/-- TRK_LADDR (R248, 12_troika.md). -/
def TRK_LADDR : Nat := 0x20010
def TRK_LADDR_ADDR : Fld := ⟨0, 32⟩

/-- TRK_SIGV (R248, 12_troika.md). -/
def TRK_SIGV : Nat := 0x20014
def TRK_SIGV_SIG : Fld := ⟨0, 32⟩

/-- TRK_INJ (R248, 12_troika.md). -/
def TRK_INJ : Nat := 0x20018
def TRK_INJ_REQ : Fld := ⟨31, 1⟩
def TRK_INJ_RUNS : Fld := ⟨8, 8⟩
def TRK_INJ_FAIL : Fld := ⟨0, 6⟩

/-- TRK_DBG (R248, 12_troika.md). -/
def TRK_DBG : Nat := 0x2001C
def TRK_DBG_SESSION : Fld := ⟨31, 1⟩
def TRK_DBG_LEADOUT : Fld := ⟨30, 1⟩
def TRK_DBG_HALTED : Fld := ⟨29, 1⟩
def TRK_DBG_REPLAY : Fld := ⟨0, 16⟩

/-- Cards of block TRK, part 1. -/
def cardsTRK0 : List Card := [
  -- TRK_STAT
  ⟨0x20000, [], true, 0x00000000#32, [
    ⟨⟨24, 8⟩, .ro, false, false, .none⟩,
    ⟨⟨23, 1⟩, .sq, false, false, .none⟩,
    ⟨⟨22, 1⟩, .sq, false, false, .none⟩,
    ⟨⟨21, 1⟩, .sq, false, false, .none⟩,
    ⟨⟨20, 1⟩, .sq, false, false, .none⟩,
    ⟨⟨19, 1⟩, .sq, false, false, .none⟩,
    ⟨⟨18, 1⟩, .sq, false, false, .none⟩,
    ⟨⟨17, 1⟩, .sq, false, false, .none⟩,
    ⟨⟨16, 1⟩, .sq, false, false, .none⟩,
    ⟨⟨15, 1⟩, .ro, false, false, .none⟩,
    ⟨⟨9, 3⟩, .ro, false, false, .none⟩,
    ⟨⟨6, 3⟩, .ro, false, false, .none⟩,
    ⟨⟨4, 2⟩, .ro, false, false, .none⟩,
    ⟨⟨3, 1⟩, .ro, false, false, .none⟩,
    ⟨⟨2, 1⟩, .ro, false, false, .none⟩,
    ⟨⟨1, 1⟩, .ro, false, false, .none⟩,
    ⟨⟨0, 1⟩, .ro, false, false, .none⟩]⟩,
  -- TRK_CFG
  ⟨0x20004, [], true, 0x00040203#32, [
    ⟨⟨16, 4⟩, .rw, false, false, .none⟩,
    ⟨⟨8, 4⟩, .rw, false, false, .none⟩,
    ⟨⟨1, 1⟩, .rw, false, false, .none⟩,
    ⟨⟨0, 1⟩, .rw, false, false, .none⟩]⟩,
  -- TRK_CNT
  ⟨0x20008, [], true, 0x00000000#32, [
    ⟨⟨24, 8⟩, .rc, false, false, .none⟩,
    ⟨⟨16, 8⟩, .rc, false, false, .none⟩,
    ⟨⟨8, 8⟩, .rc, false, false, .none⟩,
    ⟨⟨0, 8⟩, .rc, false, false, .none⟩]⟩,
  -- TRK_LAST
  ⟨0x2000C, [], true, 0xC0000000#32, [
    ⟨⟨30, 2⟩, .ro, false, false, .none⟩,
    ⟨⟨28, 2⟩, .ro, false, false, .none⟩,
    ⟨⟨24, 4⟩, .ro, false, false, .none⟩,
    ⟨⟨0, 8⟩, .ro, false, false, .none⟩]⟩,
  -- TRK_LADDR
  ⟨0x20010, [], true, 0x00000000#32, [
    ⟨⟨0, 32⟩, .ro, false, false, .none⟩]⟩,
  -- TRK_SIGV
  ⟨0x20014, [], true, 0x00000000#32, [
    ⟨⟨0, 32⟩, .ro, false, false, .none⟩]⟩,
  -- TRK_INJ
  ⟨0x20018, [], true, 0x00000000#32, [
    ⟨⟨31, 1⟩, .rh, false, false, .none⟩,
    ⟨⟨8, 8⟩, .rc, false, false, .none⟩,
    ⟨⟨0, 6⟩, .ro, false, false, .none⟩]⟩,
  -- TRK_DBG
  ⟨0x2001C, [], true, 0x00000000#32, [
    ⟨⟨31, 1⟩, .ro, false, false, .none⟩,
    ⟨⟨30, 1⟩, .ro, false, false, .none⟩,
    ⟨⟨29, 1⟩, .ro, false, false, .none⟩,
    ⟨⟨0, 16⟩, .rc, false, false, .none⟩]⟩]

/-- Every card of block TRK. -/
def cardsTRK : List Card := cardsTRK0

/-! ### Block MEM -/

/-- MEM_STAT (R258, 13_memory.md). -/
def MEM_STAT : Nat := 0x30000
def MEM_STAT_SEQ : Fld := ⟨24, 8⟩
def MEM_STAT_CE : Fld := ⟨23, 1⟩
def MEM_STAT_UE : Fld := ⟨22, 1⟩
def MEM_STAT_TCOL : Fld := ⟨21, 1⟩
def MEM_STAT_RETIRE : Fld := ⟨20, 1⟩

/-- MEM_ECCCNT (R258, 13_memory.md). -/
def MEM_ECCCNT : Nat := 0x30004
def MEM_ECCCNT_CE : Fld := ⟨16, 16⟩
def MEM_ECCCNT_UE : Fld := ⟨0, 16⟩

/-- MEM_ECCADDR (R258, 13_memory.md). -/
def MEM_ECCADDR : Nat := 0x30008
def MEM_ECCADDR_ADDR : Fld := ⟨3, 29⟩
def MEM_ECCADDR_UNC : Fld := ⟨2, 1⟩
def MEM_ECCADDR_REGION : Fld := ⟨0, 2⟩

/-- MEM_SPARE (R258, 13_memory.md). -/
def MEM_SPARE : Nat := 0x3000C
def MEM_SPARE_ROTEN : Fld := ⟨31, 1⟩
def MEM_SPARE_MIG : Fld := ⟨30, 1⟩
def MEM_SPARE_RET : Fld := ⟨29, 1⟩
def MEM_SPARE_DOWN : Fld := ⟨28, 1⟩
def MEM_SPARE_SPARE : Fld := ⟨0, 5⟩

/-- MEM_NVCMD (R258, 13_memory.md). -/
def MEM_NVCMD : Nat := 0x30010
def MEM_NVCMD_KEY : Fld := ⟨24, 8⟩
def MEM_NVCMD_CMD : Fld := ⟨0, 2⟩

/-- MEM_NVADDR (R258, 13_memory.md). -/
def MEM_NVADDR : Nat := 0x30014
def MEM_NVADDR_ADDR : Fld := ⟨4, 20⟩

/-- MEM_NVSTAT (R258, 13_memory.md). -/
def MEM_NVSTAT : Nat := 0x30018
def MEM_NVSTAT_SEQ : Fld := ⟨24, 8⟩
def MEM_NVSTAT_DONE : Fld := ⟨23, 1⟩
def MEM_NVSTAT_ERR : Fld := ⟨22, 1⟩
def MEM_NVSTAT_BOOTF : Fld := ⟨3, 1⟩
def MEM_NVSTAT_SLOT : Fld := ⟨2, 1⟩
def MEM_NVSTAT_HALF : Fld := ⟨1, 1⟩
def MEM_NVSTAT_BUSY : Fld := ⟨0, 1⟩

/-- MEM_NVDATA (R258, 13_memory.md). -/
def MEM_NVDATA (a : Nat) : Nat := 0x30020 + 4 * a
def MEM_NVDATA_DATA : Fld := ⟨0, 32⟩

/-- Cards of block MEM, part 1. -/
def cardsMEM0 : List Card := [
  -- MEM_STAT
  ⟨0x30000, [], true, 0x00000000#32, [
    ⟨⟨24, 8⟩, .ro, false, false, .none⟩,
    ⟨⟨23, 1⟩, .sq, false, false, .none⟩,
    ⟨⟨22, 1⟩, .sq, false, false, .none⟩,
    ⟨⟨21, 1⟩, .sq, false, false, .none⟩,
    ⟨⟨20, 1⟩, .sq, false, false, .none⟩]⟩,
  -- MEM_ECCCNT
  ⟨0x30004, [], true, 0x00000000#32, [
    ⟨⟨16, 16⟩, .rc, false, false, .none⟩,
    ⟨⟨0, 16⟩, .rc, false, false, .none⟩]⟩,
  -- MEM_ECCADDR
  ⟨0x30008, [], true, 0x00000000#32, [
    ⟨⟨3, 29⟩, .ro, false, false, .none⟩,
    ⟨⟨2, 1⟩, .ro, false, false, .none⟩,
    ⟨⟨0, 2⟩, .ro, false, false, .none⟩]⟩,
  -- MEM_SPARE
  ⟨0x3000C, [], true, 0x90000010#32, [
    ⟨⟨31, 1⟩, .rh, false, false, .bit 1⟩,
    ⟨⟨30, 1⟩, .ro, false, false, .none⟩,
    ⟨⟨29, 1⟩, .ro, false, false, .none⟩,
    ⟨⟨28, 1⟩, .ro, false, false, .none⟩,
    ⟨⟨0, 5⟩, .ro, false, false, .none⟩]⟩,
  -- MEM_NVCMD
  ⟨0x30010, [], true, 0x00000000#32, [
    ⟨⟨24, 8⟩, .rw, false, true, .bit 1⟩,
    ⟨⟨0, 2⟩, .rw, false, false, .bit 1⟩]⟩,
  -- MEM_NVADDR
  ⟨0x30014, [], true, 0x00000000#32, [
    ⟨⟨4, 20⟩, .rw, false, false, .bit 1⟩]⟩,
  -- MEM_NVSTAT
  ⟨0x30018, [], true, 0x00000000#32, [
    ⟨⟨24, 8⟩, .ro, false, false, .none⟩,
    ⟨⟨23, 1⟩, .sq, false, false, .none⟩,
    ⟨⟨22, 1⟩, .sq, false, false, .none⟩,
    ⟨⟨3, 1⟩, .ro, false, false, .none⟩,
    ⟨⟨2, 1⟩, .ro, false, false, .none⟩,
    ⟨⟨1, 1⟩, .ro, false, false, .none⟩,
    ⟨⟨0, 1⟩, .ro, false, false, .none⟩]⟩,
  -- MEM_NVDATA
  ⟨0x30020, [(4, 4)], true, 0x00000000#32, [
    ⟨⟨0, 32⟩, .rw, false, false, .bit 1⟩]⟩]

/-- Every card of block MEM. -/
def cardsMEM : List Card := cardsMEM0

/-! ### Block LIX -/

/-- LIX_ADDR (R39, 02_register_model.md). -/
def LIX_ADDR : Nat := 0x40000
def LIX_ADDR_AINC : Fld := ⟨16, 1⟩
def LIX_ADDR_WADDR : Fld := ⟨0, 16⟩

/-- LIX_DATA (R39, 02_register_model.md). -/
def LIX_DATA : Nat := 0x40004
def LIX_DATA_DATA : Fld := ⟨0, 32⟩

/-- LIX_STAT (R39, 02_register_model.md). -/
def LIX_STAT : Nat := 0x40008
def LIX_STAT_SEQ : Fld := ⟨24, 8⟩
def LIX_STAT_UNMAP : Fld := ⟨5, 1⟩
def LIX_STAT_EARLY : Fld := ⟨4, 1⟩
def LIX_STAT_WBREJ : Fld := ⟨3, 1⟩
def LIX_STAT_DENY : Fld := ⟨2, 1⟩
def LIX_STAT_WBPROG : Fld := ⟨1, 1⟩
def LIX_STAT_BUSY : Fld := ⟨0, 1⟩

/-- Cards of block LIX, part 1. -/
def cardsLIX0 : List Card := [
  -- LIX_ADDR
  ⟨0x40000, [], true, 0x00000000#32, [
    ⟨⟨16, 1⟩, .rw, false, false, .none⟩,
    ⟨⟨0, 16⟩, .rh, false, false, .none⟩]⟩,
  -- LIX_DATA
  ⟨0x40004, [], true, 0x00000000#32, [
    ⟨⟨0, 32⟩, .rh, false, false, .none⟩]⟩,
  -- LIX_STAT
  ⟨0x40008, [], true, 0x00000000#32, [
    ⟨⟨24, 8⟩, .ro, false, false, .none⟩,
    ⟨⟨5, 1⟩, .sq, false, false, .none⟩,
    ⟨⟨4, 1⟩, .sq, false, false, .none⟩,
    ⟨⟨3, 1⟩, .sq, false, false, .none⟩,
    ⟨⟨2, 1⟩, .sq, false, false, .none⟩,
    ⟨⟨1, 1⟩, .ro, false, false, .none⟩,
    ⟨⟨0, 1⟩, .ro, false, false, .none⟩]⟩]

/-- Every card of block LIX. -/
def cardsLIX : List Card := cardsLIX0

/-! ### Block AXL -/

/-- AXL_CTRL (R110, 05_axle_timebases.md). -/
def AXL_CTRL (a : Nat) : Nat := 0x80000 + 0x10000 * a
def AXL_CTRL_DBGFRZ : Fld := ⟨3, 1⟩
def AXL_CTRL_MODE : Fld := ⟨1, 2⟩
def AXL_CTRL_RUN : Fld := ⟨0, 1⟩

/-- AXL_PRD (R110, 05_axle_timebases.md). -/
def AXL_PRD (a : Nat) : Nat := 0x80004 + 0x10000 * a
def AXL_PRD_PERIOD : Fld := ⟨0, 19⟩

/-- AXL_CNT (R110, 05_axle_timebases.md). -/
def AXL_CNT (a : Nat) : Nat := 0x80008 + 0x10000 * a
def AXL_CNT_DIR : Fld := ⟨31, 1⟩
def AXL_CNT_VALUE : Fld := ⟨0, 31⟩

/-- AXL_STAT (R110, 05_axle_timebases.md). -/
def AXL_STAT (a : Nat) : Nat := 0x8000C + 0x10000 * a
def AXL_STAT_SEQ : Fld := ⟨24, 8⟩
def AXL_STAT_CLKLOSS : Fld := ⟨6, 1⟩
def AXL_STAT_SYNCERR : Fld := ⟨5, 1⟩
def AXL_STAT_MAPERR : Fld := ⟨4, 1⟩
def AXL_STAT_PRDLATE : Fld := ⟨3, 1⟩
def AXL_STAT_LATE : Fld := ⟨2, 1⟩
def AXL_STAT_SYNCED : Fld := ⟨1, 1⟩
def AXL_STAT_RUNNING : Fld := ⟨0, 1⟩

/-- AXL_CNTS (R110, 05_axle_timebases.md). -/
def AXL_CNTS (a : Nat) : Nat := 0x80010 + 0x10000 * a
def AXL_CNTS_OVR : Fld := ⟨16, 16⟩
def AXL_CNTS_LATE : Fld := ⟨0, 16⟩

/-- AXL_WDOG (R110, 05_axle_timebases.md). -/
def AXL_WDOG (a : Nat) : Nat := 0x80014 + 0x10000 * a
def AXL_WDOG_COUNT : Fld := ⟨0, 4⟩

/-- AXL_SYNC (R110, 05_axle_timebases.md). -/
def AXL_SYNC (a : Nat) : Nat := 0x80018 + 0x10000 * a
def AXL_SYNC_SRC : Fld := ⟨16, 3⟩
def AXL_SYNC_SLEW : Fld := ⟨8, 8⟩
def AXL_SYNC_TOL : Fld := ⟨0, 8⟩

/-- AXL_SYNCOFS (R110, 05_axle_timebases.md). -/
def AXL_SYNCOFS (a : Nat) : Nat := 0x8001C + 0x10000 * a
def AXL_SYNCOFS_TICKS : Fld := ⟨5, 20⟩
def AXL_SYNCOFS_TAPS : Fld := ⟨0, 5⟩

/-- AXL_CARNUM (R110, 05_axle_timebases.md). -/
def AXL_CARNUM (a : Nat) : Nat := 0x80020 + 0x10000 * a
def AXL_CARNUM_NUM : Fld := ⟨0, 32⟩

/-- AXL_PRDSCH (R110, 05_axle_timebases.md). -/
def AXL_PRDSCH (a : Nat) : Nat := 0x80024 + 0x10000 * a
def AXL_PRDSCH_ARM : Fld := ⟨31, 1⟩
def AXL_PRDSCH_PERIOD : Fld := ⟨0, 19⟩

/-- AXL_PRDAT (R110, 05_axle_timebases.md). -/
def AXL_PRDAT (a : Nat) : Nat := 0x80028 + 0x10000 * a
def AXL_PRDAT_CARNUM : Fld := ⟨0, 32⟩

/-- AXL_CMAP (R110, 05_axle_timebases.md). -/
def AXL_CMAP (a : Nat) (b : Nat) : Nat := 0x80030 + 0x10000 * a + 4 * b
def AXL_CMAP_VALID3 : Fld := ⟨31, 1⟩
def AXL_CMAP_POS3 : Fld := ⟨24, 6⟩
def AXL_CMAP_VALID2 : Fld := ⟨23, 1⟩
def AXL_CMAP_POS2 : Fld := ⟨16, 6⟩
def AXL_CMAP_VALID1 : Fld := ⟨15, 1⟩
def AXL_CMAP_POS1 : Fld := ⟨8, 6⟩
def AXL_CMAP_VALID0 : Fld := ⟨7, 1⟩
def AXL_CMAP_POS0 : Fld := ⟨0, 6⟩

/-- AXL_TRG (R110, 05_axle_timebases.md). -/
def AXL_TRG (a : Nat) (b : Nat) : Nat := 0x80040 + 0x10000 * a + 4 * b
def AXL_TRG_DIRSEL : Fld := ⟨30, 2⟩
def AXL_TRG_VALUE : Fld := ⟨0, 19⟩

/-- AXL_CMPU (R110, 05_axle_timebases.md). -/
def AXL_CMPU (a : Nat) (b : Nat) : Nat := 0x80080 + 0x10000 * a + 4 * b
def AXL_CMPU_TICKS : Fld := ⟨5, 27⟩
def AXL_CMPU_TAPS : Fld := ⟨0, 5⟩

/-- AXL_CMPD (R110, 05_axle_timebases.md). -/
def AXL_CMPD (a : Nat) (b : Nat) : Nat := 0x800C0 + 0x10000 * a + 4 * b
def AXL_CMPD_TICKS : Fld := ⟨5, 27⟩
def AXL_CMPD_TAPS : Fld := ⟨0, 5⟩

/-- Cards of block AXL, part 1. -/
def cardsAXL0 : List Card := [
  -- AXL_CTRL
  ⟨0x80000, [(0x10000, 4)], true, 0x00000004#32, [
    ⟨⟨3, 1⟩, .rw, false, false, .axle⟩,
    ⟨⟨1, 2⟩, .rw, false, false, .axle⟩,
    ⟨⟨0, 1⟩, .rh, false, false, .none⟩]⟩,
  -- AXL_PRD
  ⟨0x80004, [(0x10000, 4)], false, 0x00001F40#32, [
    ⟨⟨0, 19⟩, .rh, false, false, .none⟩]⟩,
  -- AXL_CNT
  ⟨0x80008, [(0x10000, 4)], false, 0x00000000#32, [
    ⟨⟨31, 1⟩, .ro, false, false, .none⟩,
    ⟨⟨0, 31⟩, .ro, false, false, .none⟩]⟩,
  -- AXL_STAT
  ⟨0x8000C, [(0x10000, 4)], false, 0x00000000#32, [
    ⟨⟨24, 8⟩, .ro, false, false, .none⟩,
    ⟨⟨6, 1⟩, .sq, false, false, .none⟩,
    ⟨⟨5, 1⟩, .sq, false, false, .none⟩,
    ⟨⟨4, 1⟩, .sq, false, false, .none⟩,
    ⟨⟨3, 1⟩, .sq, false, false, .none⟩,
    ⟨⟨2, 1⟩, .sq, false, false, .none⟩,
    ⟨⟨1, 1⟩, .ro, false, false, .none⟩,
    ⟨⟨0, 1⟩, .ro, false, false, .none⟩]⟩,
  -- AXL_CNTS
  ⟨0x80010, [(0x10000, 4)], false, 0x00000000#32, [
    ⟨⟨16, 16⟩, .rc, false, false, .none⟩,
    ⟨⟨0, 16⟩, .rc, false, false, .none⟩]⟩,
  -- AXL_WDOG
  ⟨0x80014, [(0x10000, 4)], true, 0x00000002#32, [
    ⟨⟨0, 4⟩, .rw, false, false, .axle⟩]⟩,
  -- AXL_SYNC
  ⟨0x80018, [(0x10000, 4)], true, 0x00000000#32, [
    ⟨⟨16, 3⟩, .rw, false, false, .axle⟩,
    ⟨⟨8, 8⟩, .rw, false, false, .axle⟩,
    ⟨⟨0, 8⟩, .rw, false, false, .axle⟩]⟩,
  -- AXL_SYNCOFS
  ⟨0x8001C, [(0x10000, 4)], true, 0x00000000#32, [
    ⟨⟨5, 20⟩, .rw, false, false, .axle⟩,
    ⟨⟨0, 5⟩, .rw, false, false, .axle⟩]⟩]

/-- Cards of block AXL, part 2. -/
def cardsAXL1 : List Card := [
  -- AXL_CARNUM
  ⟨0x80020, [(0x10000, 4)], false, 0x00000000#32, [
    ⟨⟨0, 32⟩, .ro, false, false, .none⟩]⟩,
  -- AXL_PRDSCH
  ⟨0x80024, [(0x10000, 4)], false, 0x00000000#32, [
    ⟨⟨31, 1⟩, .rh, false, false, .none⟩,
    ⟨⟨0, 19⟩, .rw, false, false, .none⟩]⟩,
  -- AXL_PRDAT
  ⟨0x80028, [(0x10000, 4)], false, 0x00000000#32, [
    ⟨⟨0, 32⟩, .rw, false, false, .none⟩]⟩,
  -- AXL_CMAP
  ⟨0x80030, [(0x10000, 4), (4, 4)], true, 0x00000000#32, [
    ⟨⟨31, 1⟩, .rw, false, false, .axle⟩,
    ⟨⟨24, 6⟩, .rw, false, false, .axle⟩,
    ⟨⟨23, 1⟩, .rw, false, false, .axle⟩,
    ⟨⟨16, 6⟩, .rw, false, false, .axle⟩,
    ⟨⟨15, 1⟩, .rw, false, false, .axle⟩,
    ⟨⟨8, 6⟩, .rw, false, false, .axle⟩,
    ⟨⟨7, 1⟩, .rw, false, false, .axle⟩,
    ⟨⟨0, 6⟩, .rw, false, false, .axle⟩]⟩,
  -- AXL_TRG
  ⟨0x80040, [(0x10000, 4), (4, 8)], false, 0x00000000#32, [
    ⟨⟨30, 2⟩, .rw, false, false, .axle⟩,
    ⟨⟨0, 19⟩, .rw, false, false, .axle⟩]⟩,
  -- AXL_CMPU
  ⟨0x80080, [(0x10000, 4), (4, 16)], false, 0xFFFFFFFF#32, [
    ⟨⟨5, 27⟩, .rw, false, false, .none⟩,
    ⟨⟨0, 5⟩, .rw, false, false, .none⟩]⟩,
  -- AXL_CMPD
  ⟨0x800C0, [(0x10000, 4), (4, 16)], false, 0xFFFFFFFF#32, [
    ⟨⟨5, 27⟩, .rw, false, false, .none⟩,
    ⟨⟨0, 5⟩, .rw, false, false, .none⟩]⟩]

/-- Every card of block AXL. -/
def cardsAXL : List Card := cardsAXL0 ++ cardsAXL1

/-! ### Block GCH -/

/-- GCH_CFG (R134, 06_gate_channels.md). -/
def GCH_CFG (a : Nat) : Nat := 0x100000 + 0x40 * a
def GCH_CFG_EN : Fld := ⟨31, 1⟩
def GCH_CFG_EXCLEN : Fld := ⟨30, 1⟩
def GCH_CFG_POS : Fld := ⟨0, 6⟩

/-- GCH_TRIM (R134, 06_gate_channels.md). -/
def GCH_TRIM (a : Nat) : Nat := 0x100004 + 0x40 * a
def GCH_TRIM_TRIM_OFF : Fld := ⟨8, 7⟩
def GCH_TRIM_TRIM_ON : Fld := ⟨0, 7⟩

/-- GCH_STAT (R134, 06_gate_channels.md). -/
def GCH_STAT (a : Nat) : Nat := 0x100008 + 0x40 * a
def GCH_STAT_SEQ : Fld := ⟨24, 8⟩
def GCH_STAT_CALFAIL : Fld := ⟨8, 1⟩
def GCH_STAT_SPUR : Fld := ⟨7, 1⟩
def GCH_STAT_STUCK : Fld := ⟨6, 1⟩
def GCH_STAT_ACKDROP : Fld := ⟨5, 1⟩
def GCH_STAT_ACKMISS : Fld := ⟨4, 1⟩
def GCH_STAT_EXCLD : Fld := ⟨3, 1⟩
def GCH_STAT_COARSE : Fld := ⟨2, 1⟩
def GCH_STAT_GAK : Fld := ⟨1, 1⟩
def GCH_STAT_GDO : Fld := ⟨0, 1⟩

/-- GCH_CTRL (R134, 06_gate_channels.md). -/
def GCH_CTRL (a : Nat) : Nat := 0x10000C + 0x40 * a
def GCH_CTRL_REARM : Fld := ⟨1, 1⟩
def GCH_CTRL_READMIT : Fld := ⟨0, 1⟩

/-- GCH_DON (R134, 06_gate_channels.md). -/
def GCH_DON (a : Nat) : Nat := 0x100010 + 0x40 * a
def GCH_DON_DELAY : Fld := ⟨0, 17⟩

/-- GCH_DOFF (R134, 06_gate_channels.md). -/
def GCH_DOFF (a : Nat) : Nat := 0x100014 + 0x40 * a
def GCH_DOFF_DELAY : Fld := ⟨0, 17⟩

/-- GCH_DONF (R134, 06_gate_channels.md). -/
def GCH_DONF (a : Nat) : Nat := 0x100018 + 0x40 * a
def GCH_DONF_VALID : Fld := ⟨31, 1⟩
def GCH_DONF_STEPS : Fld := ⟨4, 17⟩
def GCH_DONF_FRAC : Fld := ⟨0, 4⟩

/-- GCH_DOFFF (R134, 06_gate_channels.md). -/
def GCH_DOFFF (a : Nat) : Nat := 0x10001C + 0x40 * a
def GCH_DOFFF_VALID : Fld := ⟨31, 1⟩
def GCH_DOFFF_STEPS : Fld := ⟨4, 17⟩
def GCH_DOFFF_FRAC : Fld := ⟨0, 4⟩

/-- GCH_TCAL (R134, 06_gate_channels.md). -/
def GCH_TCAL (a : Nat) : Nat := 0x100020 + 0x40 * a
def GCH_TCAL_DREF : Fld := ⟨15, 17⟩
def GCH_TCAL_KT : Fld := ⟨0, 15⟩

/-- GCH_TEMP (R134, 06_gate_channels.md). -/
def GCH_TEMP (a : Nat) : Nat := 0x100024 + 0x40 * a
def GCH_TEMP_VALID : Fld := ⟨31, 1⟩
def GCH_TEMP_TEMP : Fld := ⟨0, 16⟩

/-- Cards of block GCH, part 1. -/
def cardsGCH0 : List Card := [
  -- GCH_CFG
  ⟨0x100000, [(0x40, 256)], true, 0x00000000#32, [
    ⟨⟨31, 1⟩, .rw, false, false, .bit 7⟩,
    ⟨⟨30, 1⟩, .rw, false, false, .bit 7⟩,
    ⟨⟨0, 6⟩, .rw, false, false, .bit 7⟩]⟩,
  -- GCH_TRIM
  ⟨0x100004, [(0x40, 256)], false, 0x00000000#32, [
    ⟨⟨8, 7⟩, .rh, false, false, .none⟩,
    ⟨⟨0, 7⟩, .rh, false, false, .none⟩]⟩,
  -- GCH_STAT
  ⟨0x100008, [(0x40, 256)], false, 0x00000000#32, [
    ⟨⟨24, 8⟩, .ro, false, false, .none⟩,
    ⟨⟨8, 1⟩, .sq, false, false, .none⟩,
    ⟨⟨7, 1⟩, .sq, false, false, .none⟩,
    ⟨⟨6, 1⟩, .sq, false, false, .none⟩,
    ⟨⟨5, 1⟩, .sq, false, false, .none⟩,
    ⟨⟨4, 1⟩, .sq, false, false, .none⟩,
    ⟨⟨3, 1⟩, .ro, false, false, .none⟩,
    ⟨⟨2, 1⟩, .ro, false, false, .none⟩,
    ⟨⟨1, 1⟩, .ro, false, false, .none⟩,
    ⟨⟨0, 1⟩, .ro, false, false, .none⟩]⟩,
  -- GCH_CTRL
  ⟨0x10000C, [(0x40, 256)], true, 0x00000000#32, [
    ⟨⟨1, 1⟩, .rh, false, false, .none⟩,
    ⟨⟨0, 1⟩, .rh, false, false, .none⟩]⟩,
  -- GCH_DON
  ⟨0x100010, [(0x40, 256)], false, 0x0001FFFF#32, [
    ⟨⟨0, 17⟩, .ro, false, false, .none⟩]⟩,
  -- GCH_DOFF
  ⟨0x100014, [(0x40, 256)], false, 0x0001FFFF#32, [
    ⟨⟨0, 17⟩, .ro, false, false, .none⟩]⟩,
  -- GCH_DONF
  ⟨0x100018, [(0x40, 256)], false, 0x00000000#32, [
    ⟨⟨31, 1⟩, .ro, false, false, .none⟩,
    ⟨⟨4, 17⟩, .ro, false, false, .none⟩,
    ⟨⟨0, 4⟩, .ro, false, false, .none⟩]⟩,
  -- GCH_DOFFF
  ⟨0x10001C, [(0x40, 256)], false, 0x00000000#32, [
    ⟨⟨31, 1⟩, .ro, false, false, .none⟩,
    ⟨⟨4, 17⟩, .ro, false, false, .none⟩,
    ⟨⟨0, 4⟩, .ro, false, false, .none⟩]⟩]

/-- Cards of block GCH, part 2. -/
def cardsGCH1 : List Card := [
  -- GCH_TCAL
  ⟨0x100020, [(0x40, 256)], true, 0x00000000#32, [
    ⟨⟨15, 17⟩, .rw, false, false, .none⟩,
    ⟨⟨0, 15⟩, .rw, false, false, .none⟩]⟩,
  -- GCH_TEMP
  ⟨0x100024, [(0x40, 256)], false, 0x00000000#32, [
    ⟨⟨31, 1⟩, .ro, false, false, .none⟩,
    ⟨⟨0, 16⟩, .ro, false, false, .none⟩]⟩]

/-- Every card of block GCH. -/
def cardsGCH : List Card := cardsGCH0 ++ cardsGCH1

/-! ### Block POS -/

/-- POS_CFG (R134, 06_gate_channels.md). -/
def POS_CFG (a : Nat) : Nat := 0x110000 + 0x10 * a
def POS_CFG_MINLIVE : Fld := ⟨24, 4⟩
def POS_CFG_MSRC : Fld := ⟨20, 2⟩
def POS_CFG_HSET : Fld := ⟨16, 3⟩
def POS_CFG_EVFRZ : Fld := ⟨8, 1⟩
def POS_CFG_COMP : Fld := ⟨0, 1⟩

/-- POS_MASK (R134, 06_gate_channels.md). -/
def POS_MASK (a : Nat) : Nat := 0x110004 + 0x10 * a
def POS_MASK_MSET : Fld := ⟨16, 16⟩
def POS_MASK_MASK : Fld := ⟨0, 2⟩

/-- POS_STAT (R134, 06_gate_channels.md). -/
def POS_STAT (a : Nat) : Nat := 0x110008 + 0x10 * a
def POS_STAT_SEQ : Fld := ⟨24, 8⟩
def POS_STAT_ACKFLT : Fld := ⟨17, 1⟩
def POS_STAT_EVSAT : Fld := ⟨16, 1⟩
def POS_STAT_LIVE : Fld := ⟨8, 5⟩
def POS_STAT_NCH : Fld := ⟨3, 5⟩
def POS_STAT_STATE : Fld := ⟨0, 3⟩

/-- POS_CNT (R134, 06_gate_channels.md). -/
def POS_CNT (a : Nat) : Nat := 0x11000C + 0x10 * a
def POS_CNT_ADJ : Fld := ⟨16, 16⟩
def POS_CNT_EXCL : Fld := ⟨0, 16⟩

/-- LEG_CFG (R134, 06_gate_channels.md). -/
def LEG_CFG (a : Nat) : Nat := 0x110400 + 0x40 * a
def LEG_CFG_AXLE : Fld := ⟨28, 3⟩
def LEG_CFG_SDT : Fld := ⟨26, 2⟩
def LEG_CFG_ACKTRIP : Fld := ⟨24, 1⟩
def LEG_CFG_BOOT : Fld := ⟨20, 1⟩
def LEG_CFG_ADTEN : Fld := ⟨16, 1⟩
def LEG_CFG_PMODE : Fld := ⟨8, 1⟩

/-- LEG_DT (R134, 06_gate_channels.md). -/
def LEG_DT (a : Nat) : Nat := 0x110404 + 0x40 * a
def LEG_DT_DTMAX : Fld := ⟨16, 14⟩
def LEG_DT_DTMIN : Fld := ⟨0, 14⟩

/-- LEG_TIM (R134, 06_gate_channels.md). -/
def LEG_TIM (a : Nat) : Nat := 0x110408 + 0x40 * a
def LEG_TIM_ACKTO : Fld := ⟨16, 12⟩
def LEG_TIM_MINPULSE : Fld := ⟨0, 12⟩

/-- LEG_DTEFF (R134, 06_gate_channels.md). -/
def LEG_DTEFF (a : Nat) : Nat := 0x11040C + 0x40 * a
def LEG_DTEFF_DT_LH : Fld := ⟨16, 14⟩
def LEG_DTEFF_DT_HL : Fld := ⟨0, 14⟩

/-- LEG_BOOT (R134, 06_gate_channels.md). -/
def LEG_BOOT (a : Nat) : Nat := 0x110410 + 0x40 * a
def LEG_BOOT_BSLIM : Fld := ⟨16, 16⟩
def LEG_BOOT_BSCHG : Fld := ⟨0, 12⟩

/-- LEG_STAT (R134, 06_gate_channels.md). -/
def LEG_STAT (a : Nat) : Nat := 0x110414 + 0x40 * a
def LEG_STAT_SEQ : Fld := ⟨24, 8⟩
def LEG_STAT_CARRYLOST : Fld := ⟨19, 1⟩
def LEG_STAT_STRETCH : Fld := ⟨18, 1⟩
def LEG_STAT_BSREF : Fld := ⟨17, 1⟩
def LEG_STAT_CONFLICT : Fld := ⟨16, 1⟩
def LEG_STAT_SAFE : Fld := ⟨0, 2⟩

/-- LEG_CNT (R134, 06_gate_channels.md). -/
def LEG_CNT (a : Nat) : Nat := 0x110418 + 0x40 * a
def LEG_CNT_DROP : Fld := ⟨20, 12⟩
def LEG_CNT_BSREF : Fld := ⟨8, 12⟩
def LEG_CNT_CONF : Fld := ⟨0, 8⟩

/-- LEG_CARRYON (R134, 06_gate_channels.md). -/
def LEG_CARRYON (a : Nat) : Nat := 0x11041C + 0x40 * a
def LEG_CARRYON_CARRY : Fld := ⟨0, 18⟩

/-- LEG_CARRYOFF (R134, 06_gate_channels.md). -/
def LEG_CARRYOFF (a : Nat) : Nat := 0x110420 + 0x40 * a
def LEG_CARRYOFF_CARRY : Fld := ⟨0, 18⟩

/-- GATE_EVN (R134, 06_gate_channels.md). -/
def GATE_EVN : Nat := 0x110C00
def GATE_EVN_EN : Fld := ⟨31, 1⟩
def GATE_EVN_FREEZE : Fld := ⟨30, 1⟩
def GATE_EVN_LIM : Fld := ⟨16, 7⟩
def GATE_EVN_STEP : Fld := ⟨8, 7⟩
def GATE_EVN_KTH : Fld := ⟨0, 8⟩

/-- GATE_ADT (R134, 06_gate_channels.md). -/
def GATE_ADT : Nat := 0x110C04
def GATE_ADT_FREEZE : Fld := ⟨31, 1⟩
def GATE_ADT_MARGIN : Fld := ⟨0, 8⟩

/-- GATE_TREF (R134, 06_gate_channels.md). -/
def GATE_TREF : Nat := 0x110C08
def GATE_TREF_TREF : Fld := ⟨0, 16⟩

/-- Cards of block POS, part 1. -/
def cardsPOS0 : List Card := [
  -- POS_CFG
  ⟨0x110000, [(0x10, 64)], true, 0x01000000#32, [
    ⟨⟨24, 4⟩, .rw, false, false, .bit 7⟩,
    ⟨⟨20, 2⟩, .rw, false, false, .bit 7⟩,
    ⟨⟨16, 3⟩, .rw, false, false, .bit 7⟩,
    ⟨⟨8, 1⟩, .rw, false, false, .none⟩,
    ⟨⟨0, 1⟩, .rw, false, false, .none⟩]⟩,
  -- POS_MASK
  ⟨0x110004, [(0x10, 64)], false, 0x00000000#32, [
    ⟨⟨16, 16⟩, .rw, false, false, .none⟩,
    ⟨⟨0, 2⟩, .rw, false, false, .none⟩]⟩,
  -- POS_STAT
  ⟨0x110008, [(0x10, 64)], false, 0x00000000#32, [
    ⟨⟨24, 8⟩, .ro, false, false, .none⟩,
    ⟨⟨17, 1⟩, .sq, false, false, .none⟩,
    ⟨⟨16, 1⟩, .sq, false, false, .none⟩,
    ⟨⟨8, 5⟩, .ro, false, false, .none⟩,
    ⟨⟨3, 5⟩, .ro, false, false, .none⟩,
    ⟨⟨0, 3⟩, .ro, false, false, .none⟩]⟩,
  -- POS_CNT
  ⟨0x11000C, [(0x10, 64)], false, 0x00000000#32, [
    ⟨⟨16, 16⟩, .rc, false, false, .none⟩,
    ⟨⟨0, 16⟩, .rc, false, false, .none⟩]⟩,
  -- LEG_CFG
  ⟨0x110400, [(0x40, 32)], true, 0x40000000#32, [
    ⟨⟨28, 3⟩, .rw, false, false, .bit 7⟩,
    ⟨⟨26, 2⟩, .rw, false, false, .bit 7⟩,
    ⟨⟨24, 1⟩, .rw, false, false, .bit 7⟩,
    ⟨⟨20, 1⟩, .rw, false, false, .bit 7⟩,
    ⟨⟨16, 1⟩, .rw, false, false, .none⟩,
    ⟨⟨8, 1⟩, .rw, false, false, .none⟩]⟩,
  -- LEG_DT
  ⟨0x110404, [(0x40, 32)], true, 0x06400640#32, [
    ⟨⟨16, 14⟩, .rw, false, false, .bit 7⟩,
    ⟨⟨0, 14⟩, .rw, false, false, .bit 7⟩]⟩,
  -- LEG_TIM
  ⟨0x110408, [(0x40, 32)], false, 0x0FA00000#32, [
    ⟨⟨16, 12⟩, .rw, true, false, .bit 7⟩,
    ⟨⟨0, 12⟩, .rw, false, false, .none⟩]⟩,
  -- LEG_DTEFF
  ⟨0x11040C, [(0x40, 32)], false, 0x06400640#32, [
    ⟨⟨16, 14⟩, .ro, false, false, .none⟩,
    ⟨⟨0, 14⟩, .ro, false, false, .none⟩]⟩]

/-- Cards of block POS, part 2. -/
def cardsPOS1 : List Card := [
  -- LEG_BOOT
  ⟨0x110410, [(0x40, 32)], true, 0x00640320#32, [
    ⟨⟨16, 16⟩, .rw, false, false, .bit 7⟩,
    ⟨⟨0, 12⟩, .rw, false, false, .bit 7⟩]⟩,
  -- LEG_STAT
  ⟨0x110414, [(0x40, 32)], false, 0x00000000#32, [
    ⟨⟨24, 8⟩, .ro, false, false, .none⟩,
    ⟨⟨19, 1⟩, .sq, false, false, .none⟩,
    ⟨⟨18, 1⟩, .sq, false, false, .none⟩,
    ⟨⟨17, 1⟩, .sq, false, false, .none⟩,
    ⟨⟨16, 1⟩, .sq, false, false, .none⟩,
    ⟨⟨0, 2⟩, .ro, false, false, .none⟩]⟩,
  -- LEG_CNT
  ⟨0x110418, [(0x40, 32)], false, 0x00000000#32, [
    ⟨⟨20, 12⟩, .rc, false, false, .none⟩,
    ⟨⟨8, 12⟩, .rc, false, false, .none⟩,
    ⟨⟨0, 8⟩, .rc, false, false, .none⟩]⟩,
  -- LEG_CARRYON
  ⟨0x11041C, [(0x40, 32)], false, 0x00000000#32, [
    ⟨⟨0, 18⟩, .ro, false, false, .none⟩]⟩,
  -- LEG_CARRYOFF
  ⟨0x110420, [(0x40, 32)], false, 0x00000000#32, [
    ⟨⟨0, 18⟩, .ro, false, false, .none⟩]⟩,
  -- GATE_EVN
  ⟨0x110C00, [], true, 0x00400400#32, [
    ⟨⟨31, 1⟩, .rw, false, false, .none⟩,
    ⟨⟨30, 1⟩, .rw, false, false, .none⟩,
    ⟨⟨16, 7⟩, .rw, false, false, .bit 7⟩,
    ⟨⟨8, 7⟩, .rw, false, false, .bit 7⟩,
    ⟨⟨0, 8⟩, .rw, false, false, .bit 7⟩]⟩,
  -- GATE_ADT
  ⟨0x110C04, [], true, 0x00000018#32, [
    ⟨⟨31, 1⟩, .rw, false, false, .none⟩,
    ⟨⟨0, 8⟩, .rw, false, false, .bit 7⟩]⟩,
  -- GATE_TREF
  ⟨0x110C08, [], true, 0x00000190#32, [
    ⟨⟨0, 16⟩, .rw, false, false, .none⟩]⟩]

/-- Every card of block POS. -/
def cardsPOS : List Card := cardsPOS0 ++ cardsPOS1

/-! ### Block SDF -/

/-- SDF_CFG (R158, 07_sensing.md). -/
def SDF_CFG (a : Nat) : Nat := 0x120000 + 0x20 * a
def SDF_CFG_EN : Fld := ⟨31, 1⟩
def SDF_CFG_CLKRET : Fld := ⟨30, 1⟩
def SDF_CFG_CKRET : Fld := ⟨29, 1⟩
def SDF_CFG_CKIN : Fld := ⟨22, 7⟩
def SDF_CFG_SDLY : Fld := ⟨17, 5⟩
def SDF_CFG_DEC : Fld := ⟨8, 9⟩
def SDF_CFG_PDEC : Fld := ⟨0, 6⟩

/-- SDF_CAL (R158, 07_sensing.md). -/
def SDF_CAL (a : Nat) : Nat := 0x120004 + 0x20 * a
def SDF_CAL_GAIN : Fld := ⟨16, 16⟩
def SDF_CAL_OFS : Fld := ⟨0, 16⟩

/-- SDF_PCMP (R158, 07_sensing.md). -/
def SDF_PCMP (a : Nat) : Nat := 0x120008 + 0x20 * a
def SDF_PCMP_HI : Fld := ⟨16, 16⟩
def SDF_PCMP_LO : Fld := ⟨0, 16⟩

/-- SDF_PCTL (R158, 07_sensing.md). -/
def SDF_PCTL (a : Nat) : Nat := 0x12000C + 0x20 * a
def SDF_PCTL_REARM : Fld := ⟨16, 1⟩
def SDF_PCTL_PEN : Fld := ⟨4, 1⟩
def SDF_PCTL_QCNT : Fld := ⟨0, 4⟩

/-- SDF_STAT (R158, 07_sensing.md). -/
def SDF_STAT (a : Nat) : Nat := 0x120010 + 0x20 * a
def SDF_STAT_SEQ : Fld := ⟨24, 8⟩
def SDF_STAT_STALL : Fld := ⟨23, 1⟩
def SDF_STAT_CKLOST : Fld := ⟨22, 1⟩
def SDF_STAT_PHI : Fld := ⟨21, 1⟩
def SDF_STAT_PLO : Fld := ⟨20, 1⟩
def SDF_STAT_FAULT : Fld := ⟨19, 1⟩
def SDF_STAT_PRES : Fld := ⟨0, 16⟩

/-- SDF_CRES (R158, 07_sensing.md). -/
def SDF_CRES (a : Nat) : Nat := 0x120014 + 0x20 * a
def SDF_CRES_CTAG : Fld := ⟨24, 8⟩
def SDF_CRES_VALUE : Fld := ⟨0, 16⟩

/-- SDF_LRES (R158, 07_sensing.md). -/
def SDF_LRES (a : Nat) : Nat := 0x120C00 + 4 * a
def SDF_LRES_SRC : Fld := ⟨30, 2⟩
def SDF_LRES_WTAG : Fld := ⟨24, 6⟩
def SDF_LRES_NOUT : Fld := ⟨16, 8⟩
def SDF_LRES_I : Fld := ⟨0, 16⟩

/-- SDF_LMAP (R158, 07_sensing.md). -/
def SDF_LMAP (a : Nat) : Nat := 0x120C80 + 4 * a
def SDF_LMAP_EN : Fld := ⟨31, 1⟩
def SDF_LMAP_CCH : Fld := ⟨24, 7⟩
def SDF_LMAP_MEN : Fld := ⟨23, 1⟩
def SDF_LMAP_MCH : Fld := ⟨16, 7⟩
def SDF_LMAP_SET : Fld := ⟨4, 4⟩
def SDF_LMAP_PLIM : Fld := ⟨0, 4⟩

/-- SDF_PRED (R158, 07_sensing.md). -/
def SDF_PRED (a : Nat) : Nat := 0x120D00 + 4 * a
def SDF_PRED_VALUE : Fld := ⟨0, 16⟩

/-- SDF_LSTAT (R158, 07_sensing.md). -/
def SDF_LSTAT (a : Nat) : Nat := 0x120D80 + 4 * a
def SDF_LSTAT_SEQ : Fld := ⟨24, 8⟩
def SDF_LSTAT_FAULT : Fld := ⟨23, 1⟩
def SDF_LSTAT_XCHK : Fld := ⟨19, 1⟩
def SDF_LSTAT_PFLT : Fld := ⟨18, 1⟩
def SDF_LSTAT_PCNT : Fld := ⟨0, 4⟩

/-- SDF_AXW (R158, 07_sensing.md). -/
def SDF_AXW (a : Nat) : Nat := 0x120E20 + 4 * a
def SDF_AXW_EN : Fld := ⟨31, 1⟩
def SDF_AXW_CNTEN : Fld := ⟨30, 1⟩
def SDF_AXW_PSRC : Fld := ⟨29, 1⟩
def SDF_AXW_OPEN : Fld := ⟨24, 3⟩
def SDF_AXW_CLOSE : Fld := ⟨20, 3⟩
def SDF_AXW_MINOUT : Fld := ⟨0, 8⟩

/-- SDF_GLB (R158, 07_sensing.md). -/
def SDF_GLB : Nat := 0x120E30
def SDF_GLB_XTOL : Fld := ⟨16, 16⟩
def SDF_GLB_XN : Fld := ⟨12, 4⟩
def SDF_GLB_XEN : Fld := ⟨11, 1⟩
def SDF_GLB_SUSP : Fld := ⟨0, 8⟩

/-- SDF_SDC (R158, 07_sensing.md). -/
def SDF_SDC (a : Nat) : Nat := 0x120E40 + 4 * a
def SDF_SDC_EN : Fld := ⟨31, 1⟩
def SDF_SDC_DIV : Fld := ⟨0, 8⟩

/-- Cards of block SDF, part 1. -/
def cardsSDF0 : List Card := [
  -- SDF_CFG
  ⟨0x120000, [(0x20, 96)], true, 0x00000808#32, [
    ⟨⟨31, 1⟩, .rw, false, false, .bit 8⟩,
    ⟨⟨30, 1⟩, .rw, false, false, .bit 8⟩,
    ⟨⟨29, 1⟩, .rw, false, false, .bit 8⟩,
    ⟨⟨22, 7⟩, .rw, false, false, .bit 8⟩,
    ⟨⟨17, 5⟩, .rw, false, false, .bit 8⟩,
    ⟨⟨8, 9⟩, .rw, false, false, .bit 8⟩,
    ⟨⟨0, 6⟩, .rw, false, false, .bit 8⟩]⟩,
  -- SDF_CAL
  ⟨0x120004, [(0x20, 96)], true, 0x40000000#32, [
    ⟨⟨16, 16⟩, .rw, false, false, .bit 8⟩,
    ⟨⟨0, 16⟩, .rw, false, false, .bit 8⟩]⟩,
  -- SDF_PCMP
  ⟨0x120008, [(0x20, 96)], true, 0x7FFF8000#32, [
    ⟨⟨16, 16⟩, .rw, false, false, .bit 9⟩,
    ⟨⟨0, 16⟩, .rw, false, false, .bit 9⟩]⟩,
  -- SDF_PCTL
  ⟨0x12000C, [(0x20, 96)], true, 0x00000001#32, [
    ⟨⟨16, 1⟩, .rh, false, false, .none⟩,
    ⟨⟨4, 1⟩, .rw, false, false, .bit 9⟩,
    ⟨⟨0, 4⟩, .rw, false, false, .bit 9⟩]⟩,
  -- SDF_STAT
  ⟨0x120010, [(0x20, 96)], false, 0x00000000#32, [
    ⟨⟨24, 8⟩, .ro, false, false, .none⟩,
    ⟨⟨23, 1⟩, .sq, false, false, .none⟩,
    ⟨⟨22, 1⟩, .sq, false, false, .none⟩,
    ⟨⟨21, 1⟩, .sq, false, false, .none⟩,
    ⟨⟨20, 1⟩, .sq, false, false, .none⟩,
    ⟨⟨19, 1⟩, .ro, false, false, .none⟩,
    ⟨⟨0, 16⟩, .ro, false, false, .none⟩]⟩,
  -- SDF_CRES
  ⟨0x120014, [(0x20, 96)], false, 0x00000000#32, [
    ⟨⟨24, 8⟩, .ro, false, false, .none⟩,
    ⟨⟨0, 16⟩, .ro, false, false, .none⟩]⟩,
  -- SDF_LRES
  ⟨0x120C00, [(4, 32)], false, 0xC0000000#32, [
    ⟨⟨30, 2⟩, .ro, false, false, .none⟩,
    ⟨⟨24, 6⟩, .ro, false, false, .none⟩,
    ⟨⟨16, 8⟩, .ro, false, false, .none⟩,
    ⟨⟨0, 16⟩, .ro, false, false, .none⟩]⟩,
  -- SDF_LMAP
  ⟨0x120C80, [(4, 32)], true, 0x000000F4#32, [
    ⟨⟨31, 1⟩, .rw, false, false, .bit 8⟩,
    ⟨⟨24, 7⟩, .rw, false, false, .bit 8⟩,
    ⟨⟨23, 1⟩, .ro, false, false, .none⟩,
    ⟨⟨16, 7⟩, .ro, false, false, .none⟩,
    ⟨⟨4, 4⟩, .rw, false, false, .bit 8⟩,
    ⟨⟨0, 4⟩, .rw, false, false, .bit 8⟩]⟩]

/-- Cards of block SDF, part 2. -/
def cardsSDF1 : List Card := [
  -- SDF_PRED
  ⟨0x120D00, [(4, 32)], false, 0x00000000#32, [
    ⟨⟨0, 16⟩, .rw, false, false, .none⟩]⟩,
  -- SDF_LSTAT
  ⟨0x120D80, [(4, 32)], false, 0x00000000#32, [
    ⟨⟨24, 8⟩, .ro, false, false, .none⟩,
    ⟨⟨23, 1⟩, .ro, false, false, .none⟩,
    ⟨⟨19, 1⟩, .sq, false, false, .none⟩,
    ⟨⟨18, 1⟩, .sq, false, false, .none⟩,
    ⟨⟨0, 4⟩, .ro, false, false, .none⟩]⟩,
  -- SDF_AXW
  ⟨0x120E20, [(4, 4)], true, 0x40100002#32, [
    ⟨⟨31, 1⟩, .rw, false, false, .bit 8⟩,
    ⟨⟨30, 1⟩, .rw, false, false, .none⟩,
    ⟨⟨29, 1⟩, .rw, false, false, .bit 8⟩,
    ⟨⟨24, 3⟩, .rw, false, false, .bit 8⟩,
    ⟨⟨20, 3⟩, .rw, false, false, .bit 8⟩,
    ⟨⟨0, 8⟩, .rw, false, false, .bit 8⟩]⟩,
  -- SDF_GLB
  ⟨0x120E30, [], true, 0x08004010#32, [
    ⟨⟨16, 16⟩, .rw, false, false, .bit 8⟩,
    ⟨⟨12, 4⟩, .rw, false, false, .bit 8⟩,
    ⟨⟨11, 1⟩, .rw, false, false, .bit 8⟩,
    ⟨⟨0, 8⟩, .rw, false, false, .bit 8⟩]⟩,
  -- SDF_SDC
  ⟨0x120E40, [(4, 8)], true, 0x00000020#32, [
    ⟨⟨31, 1⟩, .rw, false, false, .bit 8⟩,
    ⟨⟨0, 8⟩, .rw, false, false, .bit 8⟩]⟩]

/-- Every card of block SDF. -/
def cardsSDF : List Card := cardsSDF0 ++ cardsSDF1

/-! ### Block SAR -/

/-- SAR_CTL (R159, 07_sensing.md). -/
def SAR_CTL (a : Nat) : Nat := 0x130000 + 0x10 * a
def SAR_CTL_EN : Fld := ⟨31, 1⟩
def SAR_CTL_LEN : Fld := ⟨24, 4⟩
def SAR_CTL_TSRC : Fld := ⟨20, 2⟩
def SAR_CTL_TAX : Fld := ⟨16, 2⟩
def SAR_CTL_TTRG : Fld := ⟨12, 3⟩
def SAR_CTL_START : Fld := ⟨0, 1⟩

/-- SAR_SEQ (R159, 07_sensing.md). -/
def SAR_SEQ (a : Nat) : Nat := 0x130004 + 0x10 * a
def SAR_SEQ_SLOT : Fld := ⟨0, 24⟩

/-- SAR_STAT (R159, 07_sensing.md). -/
def SAR_STAT (a : Nat) : Nat := 0x130008 + 0x10 * a
def SAR_STAT_SEQ : Fld := ⟨24, 8⟩
def SAR_STAT_OVR : Fld := ⟨1, 1⟩
def SAR_STAT_BUSY : Fld := ⟨0, 1⟩

/-- SAR_RES (R159, 07_sensing.md). -/
def SAR_RES (a : Nat) : Nat := 0x130200 + 4 * a
def SAR_RES_TAG : Fld := ⟨24, 8⟩
def SAR_RES_VALUE : Fld := ⟨0, 16⟩

/-- CMP_CFG (R159, 07_sensing.md). -/
def CMP_CFG (a : Nat) : Nat := 0x130400 + 4 * a
def CMP_CFG_EN : Fld := ⟨31, 1⟩
def CMP_CFG_POL : Fld := ⟨30, 1⟩
def CMP_CFG_HYST : Fld := ⟨28, 2⟩
def CMP_CFG_THR : Fld := ⟨0, 10⟩

/-- CMP_STAT (R159, 07_sensing.md). -/
def CMP_STAT : Nat := 0x130440
def CMP_STAT_SEQ : Fld := ⟨24, 8⟩
def CMP_STAT_HIT : Fld := ⟨0, 16⟩

/-- CMP_LVL (R159, 07_sensing.md). -/
def CMP_LVL : Nat := 0x130444
def CMP_LVL_LVL : Fld := ⟨0, 16⟩

/-- Cards of block SAR, part 1. -/
def cardsSAR0 : List Card := [
  -- SAR_CTL
  ⟨0x130000, [(0x10, 8)], false, 0x00000000#32, [
    ⟨⟨31, 1⟩, .rw, false, false, .none⟩,
    ⟨⟨24, 4⟩, .rw, false, false, .none⟩,
    ⟨⟨20, 2⟩, .rw, false, false, .none⟩,
    ⟨⟨16, 2⟩, .rw, false, false, .none⟩,
    ⟨⟨12, 3⟩, .rw, false, false, .none⟩,
    ⟨⟨0, 1⟩, .rh, false, false, .none⟩]⟩,
  -- SAR_SEQ
  ⟨0x130004, [(0x10, 8)], false, 0x00000000#32, [
    ⟨⟨0, 24⟩, .rw, false, false, .none⟩]⟩,
  -- SAR_STAT
  ⟨0x130008, [(0x10, 8)], false, 0x00000000#32, [
    ⟨⟨24, 8⟩, .ro, false, false, .none⟩,
    ⟨⟨1, 1⟩, .sq, false, false, .none⟩,
    ⟨⟨0, 1⟩, .ro, false, false, .none⟩]⟩,
  -- SAR_RES
  ⟨0x130200, [(4, 64)], false, 0x00000000#32, [
    ⟨⟨24, 8⟩, .ro, false, false, .none⟩,
    ⟨⟨0, 16⟩, .ro, false, false, .none⟩]⟩,
  -- CMP_CFG
  ⟨0x130400, [(4, 16)], true, 0x00000000#32, [
    ⟨⟨31, 1⟩, .rw, false, false, .bit 9⟩,
    ⟨⟨30, 1⟩, .rw, false, false, .bit 9⟩,
    ⟨⟨28, 2⟩, .rw, false, false, .bit 9⟩,
    ⟨⟨0, 10⟩, .rw, false, false, .bit 9⟩]⟩,
  -- CMP_STAT
  ⟨0x130440, [], false, 0x00000000#32, [
    ⟨⟨24, 8⟩, .ro, false, false, .none⟩,
    ⟨⟨0, 16⟩, .sq, false, false, .none⟩]⟩,
  -- CMP_LVL
  ⟨0x130444, [], false, 0x00000000#32, [
    ⟨⟨0, 16⟩, .ro, false, false, .none⟩]⟩]

/-- Every card of block SAR. -/
def cardsSAR : List Card := cardsSAR0

/-! ### Block RES -/

/-- RES_CFG (R160, 07_sensing.md). -/
def RES_CFG (a : Nat) : Nat := 0x140000 + 0x40 * a
def RES_CFG_EN : Fld := ⟨31, 1⟩
def RES_CFG_EXC : Fld := ⟨20, 11⟩
def RES_CFG_BW : Fld := ⟨18, 2⟩
def RES_CFG_LEN : Fld := ⟨15, 1⟩
def RES_CFG_LTRG : Fld := ⟨12, 3⟩
def RES_CFG_LAX : Fld := ⟨10, 2⟩
def RES_CFG_MULT : Fld := ⟨0, 4⟩

/-- RES_OFS (R160, 07_sensing.md). -/
def RES_OFS (a : Nat) : Nat := 0x140004 + 0x40 * a
def RES_OFS_OFFSET : Fld := ⟨16, 16⟩
def RES_OFS_DEMPH : Fld := ⟨0, 8⟩

/-- RES_ANG (R160, 07_sensing.md). -/
def RES_ANG (a : Nat) : Nat := 0x140008 + 0x40 * a
def RES_ANG_ANGLE : Fld := ⟨16, 16⟩

/-- RES_LAT (R160, 07_sensing.md). -/
def RES_LAT (a : Nat) : Nat := 0x14000C + 0x40 * a
def RES_LAT_ANGLE : Fld := ⟨16, 16⟩

/-- RES_SPD (R160, 07_sensing.md). -/
def RES_SPD (a : Nat) : Nat := 0x140010 + 0x40 * a
def RES_SPD_SPEED : Fld := ⟨0, 32⟩

/-- RES_STAT (R160, 07_sensing.md). -/
def RES_STAT (a : Nat) : Nat := 0x140014 + 0x40 * a
def RES_STAT_SEQ : Fld := ⟨24, 8⟩
def RES_STAT_OVS : Fld := ⟨4, 1⟩
def RES_STAT_LOT : Fld := ⟨3, 1⟩
def RES_STAT_DOS : Fld := ⟨2, 1⟩
def RES_STAT_LOS : Fld := ⟨1, 1⟩
def RES_STAT_LOCK : Fld := ⟨0, 1⟩

/-- ENC_CFG (R160, 07_sensing.md). -/
def ENC_CFG (a : Nat) : Nat := 0x140100 + 0x40 * a
def ENC_CFG_EN : Fld := ⟨31, 1⟩
def ENC_CFG_ZEN : Fld := ⟨30, 1⟩
def ENC_CFG_MODE : Fld := ⟨28, 2⟩
def ENC_CFG_FILT : Fld := ⟨24, 3⟩
def ENC_CFG_PP : Fld := ⟨16, 4⟩
def ENC_CFG_LEN : Fld := ⟨15, 1⟩
def ENC_CFG_LTRG : Fld := ⟨12, 3⟩
def ENC_CFG_LAX : Fld := ⟨10, 2⟩

/-- ENC_CPR (R160, 07_sensing.md). -/
def ENC_CPR (a : Nat) : Nat := 0x140104 + 0x40 * a
def ENC_CPR_CPR : Fld := ⟨0, 24⟩

/-- ENC_POS (R160, 07_sensing.md). -/
def ENC_POS (a : Nat) : Nat := 0x140108 + 0x40 * a
def ENC_POS_POS : Fld := ⟨0, 24⟩

/-- ENC_ANG (R160, 07_sensing.md). -/
def ENC_ANG (a : Nat) : Nat := 0x14010C + 0x40 * a
def ENC_ANG_ANGLE : Fld := ⟨0, 32⟩

/-- ENC_LAT (R160, 07_sensing.md). -/
def ENC_LAT (a : Nat) : Nat := 0x140110 + 0x40 * a
def ENC_LAT_ANGLE : Fld := ⟨0, 32⟩

/-- ENC_STAT (R160, 07_sensing.md). -/
def ENC_STAT (a : Nat) : Nat := 0x140114 + 0x40 * a
def ENC_STAT_SEQ : Fld := ⟨24, 8⟩
def ENC_STAT_OVR : Fld := ⟨3, 1⟩
def ENC_STAT_ILL : Fld := ⟨2, 1⟩
def ENC_STAT_ZERR : Fld := ⟨1, 1⟩
def ENC_STAT_ZSEEN : Fld := ⟨0, 1⟩

/-- Cards of block RES, part 1. -/
def cardsRES0 : List Card := [
  -- RES_CFG
  ⟨0x140000, [(0x40, 2)], false, 0x3E840001#32, [
    ⟨⟨31, 1⟩, .rw, false, false, .none⟩,
    ⟨⟨20, 11⟩, .rw, false, false, .none⟩,
    ⟨⟨18, 2⟩, .rw, false, false, .none⟩,
    ⟨⟨15, 1⟩, .rw, false, false, .none⟩,
    ⟨⟨12, 3⟩, .rw, false, false, .none⟩,
    ⟨⟨10, 2⟩, .rw, false, false, .none⟩,
    ⟨⟨0, 4⟩, .rw, false, false, .none⟩]⟩,
  -- RES_OFS
  ⟨0x140004, [(0x40, 2)], false, 0x00000000#32, [
    ⟨⟨16, 16⟩, .rw, false, false, .none⟩,
    ⟨⟨0, 8⟩, .rw, false, false, .none⟩]⟩,
  -- RES_ANG
  ⟨0x140008, [(0x40, 2)], false, 0x00000000#32, [
    ⟨⟨16, 16⟩, .ro, false, false, .none⟩]⟩,
  -- RES_LAT
  ⟨0x14000C, [(0x40, 2)], false, 0x00000000#32, [
    ⟨⟨16, 16⟩, .ro, false, false, .none⟩]⟩,
  -- RES_SPD
  ⟨0x140010, [(0x40, 2)], false, 0x00000000#32, [
    ⟨⟨0, 32⟩, .ro, false, false, .none⟩]⟩,
  -- RES_STAT
  ⟨0x140014, [(0x40, 2)], false, 0x00000000#32, [
    ⟨⟨24, 8⟩, .ro, false, false, .none⟩,
    ⟨⟨4, 1⟩, .sq, false, false, .none⟩,
    ⟨⟨3, 1⟩, .sq, false, false, .none⟩,
    ⟨⟨2, 1⟩, .sq, false, false, .none⟩,
    ⟨⟨1, 1⟩, .sq, false, false, .none⟩,
    ⟨⟨0, 1⟩, .ro, false, false, .none⟩]⟩,
  -- ENC_CFG
  ⟨0x140100, [(0x40, 2)], false, 0x00010000#32, [
    ⟨⟨31, 1⟩, .rw, false, false, .none⟩,
    ⟨⟨30, 1⟩, .rw, false, false, .none⟩,
    ⟨⟨28, 2⟩, .rw, false, false, .none⟩,
    ⟨⟨24, 3⟩, .rw, false, false, .none⟩,
    ⟨⟨16, 4⟩, .rw, false, false, .none⟩,
    ⟨⟨15, 1⟩, .rw, false, false, .none⟩,
    ⟨⟨12, 3⟩, .rw, false, false, .none⟩,
    ⟨⟨10, 2⟩, .rw, false, false, .none⟩]⟩,
  -- ENC_CPR
  ⟨0x140104, [(0x40, 2)], false, 0x00001000#32, [
    ⟨⟨0, 24⟩, .rw, false, false, .none⟩]⟩]

/-- Cards of block RES, part 2. -/
def cardsRES1 : List Card := [
  -- ENC_POS
  ⟨0x140108, [(0x40, 2)], false, 0x00000000#32, [
    ⟨⟨0, 24⟩, .ro, false, false, .none⟩]⟩,
  -- ENC_ANG
  ⟨0x14010C, [(0x40, 2)], false, 0x00000000#32, [
    ⟨⟨0, 32⟩, .ro, false, false, .none⟩]⟩,
  -- ENC_LAT
  ⟨0x140110, [(0x40, 2)], false, 0x00000000#32, [
    ⟨⟨0, 32⟩, .ro, false, false, .none⟩]⟩,
  -- ENC_STAT
  ⟨0x140114, [(0x40, 2)], false, 0x00000000#32, [
    ⟨⟨24, 8⟩, .ro, false, false, .none⟩,
    ⟨⟨3, 1⟩, .sq, false, false, .none⟩,
    ⟨⟨2, 1⟩, .sq, false, false, .none⟩,
    ⟨⟨1, 1⟩, .sq, false, false, .none⟩,
    ⟨⟨0, 1⟩, .ro, false, false, .none⟩]⟩]

/-- Every card of block RES. -/
def cardsRES : List Card := cardsRES0 ++ cardsRES1

/-! ### Block HYS -/

/-- HYS_CFG (R196, 09_dtc_fallback.md). -/
def HYS_CFG (a : Nat) : Nat := 0x150000 + 0x40 * a
def HYS_CFG_EN : Fld := ⟨31, 1⟩
def HYS_CFG_RSMODE : Fld := ⟨30, 1⟩
def HYS_CFG_MAPEN : Fld := ⟨29, 1⟩
def HYS_CFG_VDCCH : Fld := ⟨21, 7⟩
def HYS_CFG_TSLEW : Fld := ⟨0, 16⟩

/-- HYS_MOD (R196, 09_dtc_fallback.md). -/
def HYS_MOD (a : Nat) : Nat := 0x150004 + 0x40 * a
def HYS_MOD_RS : Fld := ⟨16, 16⟩
def HYS_MOD_LS : Fld := ⟨0, 16⟩

/-- HYS_FLX (R196, 09_dtc_fallback.md). -/
def HYS_FLX (a : Nat) : Nat := 0x150008 + 0x40 * a
def HYS_FLX_TFLX : Fld := ⟨20, 12⟩
def HYS_FLX_KTQ : Fld := ⟨0, 16⟩

/-- HYS_BAND (R196, 09_dtc_fallback.md). -/
def HYS_BAND (a : Nat) : Nat := 0x15000C + 0x40 * a
def HYS_BAND_FBAND : Fld := ⟨16, 16⟩
def HYS_BAND_TBAND : Fld := ⟨0, 16⟩

/-- HYS_LIM (R196, 09_dtc_fallback.md). -/
def HYS_LIM (a : Nat) : Nat := 0x150010 + 0x40 * a
def HYS_LIM_PSIREF : Fld := ⟨16, 16⟩
def HYS_LIM_TLIM : Fld := ⟨0, 16⟩

/-- HYS_TREF (R196, 09_dtc_fallback.md). -/
def HYS_TREF (a : Nat) : Nat := 0x150014 + 0x40 * a
def HYS_TREF_TREF : Fld := ⟨0, 32⟩

/-- HYS_TIM (R196, 09_dtc_fallback.md). -/
def HYS_TIM (a : Nat) : Nat := 0x150018 + 0x40 * a
def HYS_TIM_MINDW : Fld := ⟨24, 8⟩
def HYS_TIM_NCONV : Fld := ⟨20, 4⟩
def HYS_TIM_TCONV : Fld := ⟨0, 16⟩

/-- HYS_CONV (R196, 09_dtc_fallback.md). -/
def HYS_CONV (a : Nat) : Nat := 0x15001C + 0x40 * a
def HYS_CONV_CTOL : Fld := ⟨16, 16⟩
def HYS_CONV_BEMF : Fld := ⟨0, 16⟩

/-- HYS_CATCH (R196, 09_dtc_fallback.md). -/
def HYS_CATCH (a : Nat) : Nat := 0x150020 + 0x40 * a
def HYS_CATCH_AUTO : Fld := ⟨31, 1⟩
def HYS_CATCH_MAXTRY : Fld := ⟨28, 3⟩
def HYS_CATCH_PRB : Fld := ⟨16, 8⟩
def HYS_CATCH_PGAP : Fld := ⟨8, 8⟩
def HYS_CATCH_HOLD : Fld := ⟨0, 8⟩

/-- HYS_CTRL (R196, 09_dtc_fallback.md). -/
def HYS_CTRL (a : Nat) : Nat := 0x150024 + 0x40 * a
def HYS_CTRL_CATCH : Fld := ⟨2, 1⟩
def HYS_CTRL_HANDBACK : Fld := ⟨1, 1⟩
def HYS_CTRL_FORCE : Fld := ⟨0, 1⟩

/-- HYS_STAT (R196, 09_dtc_fallback.md). -/
def HYS_STAT (a : Nat) : Nat := 0x150028 + 0x40 * a
def HYS_STAT_SEQ : Fld := ⟨24, 8⟩
def HYS_STAT_CATCHFAIL : Fld := ⟨11, 1⟩
def HYS_STAT_NOCONV : Fld := ⟨10, 1⟩
def HYS_STAT_ENTER : Fld := ⟨9, 1⟩
def HYS_STAT_HBACK : Fld := ⟨8, 1⟩
def HYS_STAT_CAUSE : Fld := ⟨4, 3⟩
def HYS_STAT_MODE : Fld := ⟨0, 3⟩

/-- HYS_TEST (R196, 09_dtc_fallback.md). -/
def HYS_TEST (a : Nat) : Nat := 0x15002C + 0x40 * a
def HYS_TEST_TORQUE : Fld := ⟨0, 32⟩

/-- HYS_SET (R196, 09_dtc_fallback.md). -/
def HYS_SET (a : Nat) : Nat := 0x150100 + 0x20 * a
def HYS_SET_EN : Fld := ⟨31, 1⟩
def HYS_SET_LEGA : Fld := ⟨10, 5⟩
def HYS_SET_LEGB : Fld := ⟨5, 5⟩
def HYS_SET_LEGC : Fld := ⟨0, 5⟩

/-- HYS_SSTAT (R196, 09_dtc_fallback.md). -/
def HYS_SSTAT (a : Nat) : Nat := 0x150104 + 0x20 * a
def HYS_SSTAT_PSI : Fld := ⟨16, 16⟩
def HYS_SSTAT_CONV : Fld := ⟨15, 1⟩
def HYS_SSTAT_SECTOR : Fld := ⟨12, 3⟩
def HYS_SSTAT_VEC : Fld := ⟨8, 3⟩

/-- HYS_SSPD (R196, 09_dtc_fallback.md). -/
def HYS_SSPD (a : Nat) : Nat := 0x150108 + 0x20 * a
def HYS_SSPD_SPEED : Fld := ⟨0, 32⟩

/-- Cards of block HYS, part 1. -/
def cardsHYS0 : List Card := [
  -- HYS_CFG
  ⟨0x150000, [(0x40, 4)], true, 0x20000021#32, [
    ⟨⟨31, 1⟩, .rw, false, false, .axle⟩,
    ⟨⟨30, 1⟩, .rw, false, false, .axle⟩,
    ⟨⟨29, 1⟩, .rw, false, false, .axle⟩,
    ⟨⟨21, 7⟩, .rw, false, false, .axle⟩,
    ⟨⟨0, 16⟩, .rw, false, false, .axle⟩]⟩,
  -- HYS_MOD
  ⟨0x150004, [(0x40, 4)], true, 0x00000000#32, [
    ⟨⟨16, 16⟩, .rw, false, false, .axle⟩,
    ⟨⟨0, 16⟩, .rw, false, false, .axle⟩]⟩,
  -- HYS_FLX
  ⟨0x150008, [(0x40, 4)], true, 0x06400000#32, [
    ⟨⟨20, 12⟩, .rw, false, false, .axle⟩,
    ⟨⟨0, 16⟩, .rw, false, false, .axle⟩]⟩,
  -- HYS_BAND
  ⟨0x15000C, [(0x40, 4)], true, 0x02000200#32, [
    ⟨⟨16, 16⟩, .rw, false, false, .axle⟩,
    ⟨⟨0, 16⟩, .rw, false, false, .axle⟩]⟩,
  -- HYS_LIM
  ⟨0x150010, [(0x40, 4)], true, 0x80000CCD#32, [
    ⟨⟨16, 16⟩, .rw, false, false, .axle⟩,
    ⟨⟨0, 16⟩, .rw, false, false, .axle⟩]⟩,
  -- HYS_TREF
  ⟨0x150014, [(0x40, 4)], false, 0x00000000#32, [
    ⟨⟨0, 32⟩, .rw, false, false, .none⟩]⟩,
  -- HYS_TIM
  ⟨0x150018, [(0x40, 4)], true, 0x14401388#32, [
    ⟨⟨24, 8⟩, .rw, false, false, .axle⟩,
    ⟨⟨20, 4⟩, .rw, false, false, .axle⟩,
    ⟨⟨0, 16⟩, .rw, false, false, .axle⟩]⟩,
  -- HYS_CONV
  ⟨0x15001C, [(0x40, 4)], true, 0x01002000#32, [
    ⟨⟨16, 16⟩, .rw, false, false, .axle⟩,
    ⟨⟨0, 16⟩, .rw, false, false, .axle⟩]⟩]

/-- Cards of block HYS, part 2. -/
def cardsHYS1 : List Card := [
  -- HYS_CATCH
  ⟨0x150020, [(0x40, 4)], true, 0xB0640A14#32, [
    ⟨⟨31, 1⟩, .rw, false, false, .axle⟩,
    ⟨⟨28, 3⟩, .rw, false, false, .axle⟩,
    ⟨⟨16, 8⟩, .rw, false, false, .axle⟩,
    ⟨⟨8, 8⟩, .rw, false, false, .axle⟩,
    ⟨⟨0, 8⟩, .rw, false, false, .axle⟩]⟩,
  -- HYS_CTRL
  ⟨0x150024, [(0x40, 4)], true, 0x00000000#32, [
    ⟨⟨2, 1⟩, .rh, false, false, .none⟩,
    ⟨⟨1, 1⟩, .rh, false, false, .none⟩,
    ⟨⟨0, 1⟩, .rh, false, false, .none⟩]⟩,
  -- HYS_STAT
  ⟨0x150028, [(0x40, 4)], false, 0x00000000#32, [
    ⟨⟨24, 8⟩, .ro, false, false, .none⟩,
    ⟨⟨11, 1⟩, .sq, false, false, .none⟩,
    ⟨⟨10, 1⟩, .sq, false, false, .none⟩,
    ⟨⟨9, 1⟩, .sq, false, false, .none⟩,
    ⟨⟨8, 1⟩, .sq, false, false, .none⟩,
    ⟨⟨4, 3⟩, .ro, false, false, .none⟩,
    ⟨⟨0, 3⟩, .ro, false, false, .none⟩]⟩,
  -- HYS_TEST
  ⟨0x15002C, [(0x40, 4)], false, 0x00000000#32, [
    ⟨⟨0, 32⟩, .ro, false, false, .none⟩]⟩,
  -- HYS_SET
  ⟨0x150100, [(0x20, 8)], true, 0x00000000#32, [
    ⟨⟨31, 1⟩, .rw, false, false, .hysSet⟩,
    ⟨⟨10, 5⟩, .rw, false, false, .hysSet⟩,
    ⟨⟨5, 5⟩, .rw, false, false, .hysSet⟩,
    ⟨⟨0, 5⟩, .rw, false, false, .hysSet⟩]⟩,
  -- HYS_SSTAT
  ⟨0x150104, [(0x20, 8)], false, 0x00000000#32, [
    ⟨⟨16, 16⟩, .ro, false, false, .none⟩,
    ⟨⟨15, 1⟩, .ro, false, false, .none⟩,
    ⟨⟨12, 3⟩, .ro, false, false, .none⟩,
    ⟨⟨8, 3⟩, .ro, false, false, .none⟩]⟩,
  -- HYS_SSPD
  ⟨0x150108, [(0x20, 8)], false, 0x00000000#32, [
    ⟨⟨0, 32⟩, .ro, false, false, .none⟩]⟩]

/-- Every card of block HYS. -/
def cardsHYS : List Card := cardsHYS0 ++ cardsHYS1

/-! ### Block TTU -/

/-- TTU_FMAT (R182, 08_field_control.md). -/
def TTU_FMAT (a : Nat) (b : Nat) (c : Nat) : Nat := 0x160000 + 0x1000 * a + 0x20 * b + 4 * c
def TTU_FMAT_C1 : Fld := ⟨16, 16⟩
def TTU_FMAT_C0 : Fld := ⟨0, 16⟩

/-- TTU_IMAT (R182, 08_field_control.md). -/
def TTU_IMAT (a : Nat) (b : Nat) (c : Nat) : Nat := 0x160200 + 0x1000 * a + 0x20 * b + 4 * c
def TTU_IMAT_C1 : Fld := ⟨16, 16⟩
def TTU_IMAT_C0 : Fld := ⟨0, 16⟩

/-- TTU_OFS (R182, 08_field_control.md). -/
def TTU_OFS (a : Nat) (b : Nat) : Nat := 0x160400 + 0x1000 * a + 4 * b
def TTU_OFS_ANGLE : Fld := ⟨0, 32⟩

/-- TTU_COM (R182, 08_field_control.md). -/
def TTU_COM (a : Nat) (b : Nat) : Nat := 0x160440 + 0x1000 * a + 4 * b
def TTU_COM_ANGLE : Fld := ⟨0, 32⟩

/-- TTU_CFG (R182, 08_field_control.md). -/
def TTU_CFG (a : Nat) : Nat := 0x160460 + 0x1000 * a
def TTU_CFG_COMEN : Fld := ⟨31, 1⟩
def TTU_CFG_ANGSRC : Fld := ⟨28, 3⟩
def TTU_CFG_NCOM : Fld := ⟨16, 4⟩
def TTU_CFG_CHYS : Fld := ⟨0, 16⟩

/-- TTU_OBSW (R182, 08_field_control.md). -/
def TTU_OBSW (a : Nat) : Nat := 0x160464 + 0x1000 * a
def TTU_OBSW_SPEED : Fld := ⟨0, 32⟩

/-- TTU_OBSR (R182, 08_field_control.md). -/
def TTU_OBSR (a : Nat) : Nat := 0x160468 + 0x1000 * a
def TTU_OBSR_RESID : Fld := ⟨0, 16⟩

/-- TTU_OBSA (R182, 08_field_control.md). -/
def TTU_OBSA (a : Nat) : Nat := 0x16046C + 0x1000 * a
def TTU_OBSA_ANGLE : Fld := ⟨0, 32⟩

/-- TTU_OSUP (R182, 08_field_control.md). -/
def TTU_OSUP (a : Nat) : Nat := 0x160470 + 0x1000 * a
def TTU_OSUP_RESMAX : Fld := ⟨16, 16⟩
def TTU_OSUP_DISMAX : Fld := ⟨0, 16⟩

/-- TTU_JMAX (R182, 08_field_control.md). -/
def TTU_JMAX (a : Nat) : Nat := 0x160474 + 0x1000 * a
def TTU_JMAX_JUMPMAX : Fld := ⟨0, 32⟩

/-- TTU_OCTL (R182, 08_field_control.md). -/
def TTU_OCTL (a : Nat) : Nat := 0x160478 + 0x1000 * a
def TTU_OCTL_SEN : Fld := ⟨31, 1⟩
def TTU_OCTL_FBEN : Fld := ⟨30, 1⟩
def TTU_OCTL_RSRC : Fld := ⟨28, 2⟩
def TTU_OCTL_NLOSS : Fld := ⟨24, 2⟩
def TTU_OCTL_REARM : Fld := ⟨0, 1⟩

/-- TTU_STAT (R182, 08_field_control.md). -/
def TTU_STAT (a : Nat) : Nat := 0x16047C + 0x1000 * a
def TTU_STAT_SEQ : Fld := ⟨24, 8⟩
def TTU_STAT_CIDX : Fld := ⟨10, 3⟩
def TTU_STAT_CDRMAX : Fld := ⟨9, 1⟩
def TTU_STAT_CDRADJ : Fld := ⟨8, 1⟩
def TTU_STAT_COMERR : Fld := ⟨7, 1⟩
def TTU_STAT_REPMISS : Fld := ⟨6, 1⟩
def TTU_STAT_JUMP : Fld := ⟨5, 1⟩
def TTU_STAT_DIS : Fld := ⟨4, 1⟩
def TTU_STAT_RES : Fld := ⟨3, 1⟩
def TTU_STAT_LOST : Fld := ⟨2, 1⟩
def TTU_STAT_FCNT : Fld := ⟨0, 2⟩

/-- TTU_ANG (R182, 08_field_control.md). -/
def TTU_ANG (a : Nat) : Nat := 0x160480 + 0x1000 * a
def TTU_ANG_ANGLE : Fld := ⟨0, 32⟩

/-- TTU_MAPS (R182, 08_field_control.md). -/
def TTU_MAPS (a : Nat) : Nat := 0x160484 + 0x1000 * a
def TTU_MAPS_WFS : Fld := ⟨0, 32⟩

/-- TTU_CDR (R182, 08_field_control.md). -/
def TTU_CDR (a : Nat) : Nat := 0x160488 + 0x1000 * a
def TTU_CDR_AUTO : Fld := ⟨31, 1⟩
def TTU_CDR_LEAD : Fld := ⟨24, 4⟩
def TTU_CDR_DSTEP : Fld := ⟨20, 4⟩
def TTU_CDR_PMAX : Fld := ⟨0, 19⟩

/-- Cards of block TTU, part 1. -/
def cardsTTU0 : List Card := [
  -- TTU_FMAT
  ⟨0x160000, [(0x1000, 4), (0x20, 12), (4, 6)], true, 0x00000000#32, [
    ⟨⟨16, 16⟩, .rw, false, false, .axle⟩,
    ⟨⟨0, 16⟩, .rw, false, false, .axle⟩]⟩,
  -- TTU_IMAT
  ⟨0x160200, [(0x1000, 4), (0x20, 12), (4, 6)], true, 0x00000000#32, [
    ⟨⟨16, 16⟩, .rw, false, false, .axle⟩,
    ⟨⟨0, 16⟩, .rw, false, false, .axle⟩]⟩,
  -- TTU_OFS
  ⟨0x160400, [(0x1000, 4), (4, 12)], true, 0x00000000#32, [
    ⟨⟨0, 32⟩, .rw, false, false, .axle⟩]⟩,
  -- TTU_COM
  ⟨0x160440, [(0x1000, 4), (4, 8)], false, 0x00000000#32, [
    ⟨⟨0, 32⟩, .rw, false, false, .none⟩]⟩,
  -- TTU_CFG
  ⟨0x160460, [(0x1000, 4)], true, 0x00010000#32, [
    ⟨⟨31, 1⟩, .rw, false, false, .none⟩,
    ⟨⟨28, 3⟩, .rw, false, false, .axle⟩,
    ⟨⟨16, 4⟩, .rw, false, false, .none⟩,
    ⟨⟨0, 16⟩, .rw, false, false, .none⟩]⟩,
  -- TTU_OBSW
  ⟨0x160464, [(0x1000, 4)], false, 0x00000000#32, [
    ⟨⟨0, 32⟩, .rw, false, false, .none⟩]⟩,
  -- TTU_OBSR
  ⟨0x160468, [(0x1000, 4)], false, 0x00000000#32, [
    ⟨⟨0, 16⟩, .rw, false, false, .none⟩]⟩,
  -- TTU_OBSA
  ⟨0x16046C, [(0x1000, 4)], false, 0x00000000#32, [
    ⟨⟨0, 32⟩, .rw, false, false, .none⟩]⟩]

/-- Cards of block TTU, part 2. -/
def cardsTTU1 : List Card := [
  -- TTU_OSUP
  ⟨0x160470, [(0x1000, 4)], true, 0x00000000#32, [
    ⟨⟨16, 16⟩, .rw, false, false, .axle⟩,
    ⟨⟨0, 16⟩, .rw, false, false, .axle⟩]⟩,
  -- TTU_JMAX
  ⟨0x160474, [(0x1000, 4)], true, 0x00000000#32, [
    ⟨⟨0, 32⟩, .rw, false, false, .axle⟩]⟩,
  -- TTU_OCTL
  ⟨0x160478, [(0x1000, 4)], true, 0x42000000#32, [
    ⟨⟨31, 1⟩, .rw, false, false, .axle⟩,
    ⟨⟨30, 1⟩, .rw, false, false, .axle⟩,
    ⟨⟨28, 2⟩, .rw, false, false, .axle⟩,
    ⟨⟨24, 2⟩, .rw, false, false, .axle⟩,
    ⟨⟨0, 1⟩, .rh, false, false, .none⟩]⟩,
  -- TTU_STAT
  ⟨0x16047C, [(0x1000, 4)], false, 0x00000000#32, [
    ⟨⟨24, 8⟩, .ro, false, false, .none⟩,
    ⟨⟨10, 3⟩, .ro, false, false, .none⟩,
    ⟨⟨9, 1⟩, .sq, false, false, .none⟩,
    ⟨⟨8, 1⟩, .sq, false, false, .none⟩,
    ⟨⟨7, 1⟩, .sq, false, false, .none⟩,
    ⟨⟨6, 1⟩, .sq, false, false, .none⟩,
    ⟨⟨5, 1⟩, .sq, false, false, .none⟩,
    ⟨⟨4, 1⟩, .sq, false, false, .none⟩,
    ⟨⟨3, 1⟩, .sq, false, false, .none⟩,
    ⟨⟨2, 1⟩, .ro, false, false, .none⟩,
    ⟨⟨0, 2⟩, .ro, false, false, .none⟩]⟩,
  -- TTU_ANG
  ⟨0x160480, [(0x1000, 4)], false, 0x00000000#32, [
    ⟨⟨0, 32⟩, .ro, false, false, .none⟩]⟩,
  -- TTU_MAPS
  ⟨0x160484, [(0x1000, 4)], true, 0x00010000#32, [
    ⟨⟨0, 32⟩, .rw, false, false, .axle⟩]⟩,
  -- TTU_CDR
  ⟨0x160488, [(0x1000, 4)], true, 0x04202710#32, [
    ⟨⟨31, 1⟩, .rw, false, false, .axle⟩,
    ⟨⟨24, 4⟩, .rw, false, false, .axle⟩,
    ⟨⟨20, 4⟩, .rw, false, false, .axle⟩,
    ⟨⟨0, 19⟩, .rw, false, false, .axle⟩]⟩]

/-- Every card of block TTU. -/
def cardsTTU : List Card := cardsTTU0 ++ cardsTTU1

/-! ### Block PROT -/

/-- PROT_SRC (R213, 10_protection.md). -/
def PROT_SRC (a : Nat) : Nat := 0x170000 + 4 * a
def PROT_SRC_ACT : Fld := ⟨30, 2⟩
def PROT_SRC_FILT : Fld := ⟨24, 6⟩
def PROT_SRC_GMASK : Fld := ⟨0, 8⟩

/-- PROT_TRIP (R213, 10_protection.md). -/
def PROT_TRIP (a : Nat) : Nat := 0x170380 + 4 * a
def PROT_TRIP_SEQ : Fld := ⟨24, 8⟩
def PROT_TRIP_LATCH : Fld := ⟨0, 24⟩

/-- PROT_GRP (R213, 10_protection.md). -/
def PROT_GRP (a : Nat) : Nat := 0x1703C0 + 4 * a
def PROT_GRP_LEGS : Fld := ⟨0, 32⟩

/-- PROT_SEL (R213, 10_protection.md). -/
def PROT_SEL (a : Nat) : Nat := 0x170400 + 4 * a
def PROT_SEL_SPDSRC : Fld := ⟨30, 2⟩
def PROT_SEL_SAXL : Fld := ⟨28, 2⟩
def PROT_SEL_ASCSIDE : Fld := ⟨27, 1⟩
def PROT_SEL_VCH : Fld := ⟨20, 7⟩

/-- PROT_SELT (R213, 10_protection.md). -/
def PROT_SELT (a : Nat) : Nat := 0x170420 + 4 * a
def PROT_SELT_SPDHI : Fld := ⟨16, 16⟩
def PROT_SELT_SPDLO : Fld := ⟨0, 16⟩

/-- PROT_SELV (R213, 10_protection.md). -/
def PROT_SELV (a : Nat) : Nat := 0x170440 + 4 * a
def PROT_SELV_VHI : Fld := ⟨16, 16⟩
def PROT_SELV_VLO : Fld := ⟨0, 16⟩

/-- PROT_GSTAT (R213, 10_protection.md). -/
def PROT_GSTAT : Nat := 0x170460
def PROT_GSTAT_SELASC : Fld := ⟨16, 8⟩
def PROT_GSTAT_CODE : Fld := ⟨0, 16⟩

/-- PROT_STAT (R213, 10_protection.md). -/
def PROT_STAT : Nat := 0x170464
def PROT_STAT_SEQ : Fld := ⟨24, 8⟩
def PROT_STAT_RECBAD : Fld := ⟨23, 1⟩
def PROT_STAT_CLRREF : Fld := ⟨22, 1⟩
def PROT_STAT_SELCHG : Fld := ⟨21, 1⟩
def PROT_STAT_DCLHIGH : Fld := ⟨20, 1⟩
def PROT_STAT_CHOPFLT : Fld := ⟨19, 1⟩
def PROT_STAT_DISDONE : Fld := ⟨18, 1⟩
def PROT_STAT_DISFLT : Fld := ⟨17, 1⟩
def PROT_STAT_KHOLD : Fld := ⟨16, 1⟩
def PROT_STAT_DISON : Fld := ⟨0, 1⟩

/-- PROT_CHOP (R213, 10_protection.md). -/
def PROT_CHOP : Nat := 0x170468
def PROT_CHOP_EN : Fld := ⟨31, 1⟩
def PROT_CHOP_LEG : Fld := ⟨24, 5⟩
def PROT_CHOP_CPOS : Fld := ⟨23, 1⟩
def PROT_CHOP_VCH : Fld := ⟨16, 7⟩
def PROT_CHOP_CHKT : Fld := ⟨0, 16⟩

/-- PROT_CHOPV (R213, 10_protection.md). -/
def PROT_CHOPV : Nat := 0x17046C
def PROT_CHOPV_VON : Fld := ⟨16, 16⟩
def PROT_CHOPV_VOFF : Fld := ⟨0, 16⟩

/-- PROT_DCL (R213, 10_protection.md). -/
def PROT_DCL : Nat := 0x170470
def PROT_DCL_VWARN : Fld := ⟨16, 16⟩
def PROT_DCL_DV : Fld := ⟨0, 16⟩

/-- PROT_DIS (R213, 10_protection.md). -/
def PROT_DIS : Nat := 0x170474
def PROT_DIS_START : Fld := ⟨31, 1⟩
def PROT_DIS_MODE : Fld := ⟨29, 2⟩
def PROT_DIS_VCH : Fld := ⟨16, 7⟩
def PROT_DIS_DTIME : Fld := ⟨0, 16⟩

/-- PROT_DISV (R213, 10_protection.md). -/
def PROT_DISV : Nat := 0x170478
def PROT_DISV_VSAFE : Fld := ⟨16, 16⟩

/-- PROT_CTRL (R213, 10_protection.md). -/
def PROT_CTRL : Nat := 0x17047C
def PROT_CTRL_SWG : Fld := ⟨8, 8⟩
def PROT_CTRL_KREL : Fld := ⟨1, 1⟩
def PROT_CTRL_SWTRIP : Fld := ⟨0, 1⟩

/-- Cards of block PROT, part 1. -/
def cardsPROT0 : List Card := [
  -- PROT_SRC
  ⟨0x170000, [(4, 211)], true, 0x00000000#32, [
    ⟨⟨30, 2⟩, .rw, false, false, .bit 9⟩,
    ⟨⟨24, 6⟩, .rw, false, false, .bit 9⟩,
    ⟨⟨0, 8⟩, .rw, false, false, .bit 9⟩]⟩,
  -- PROT_TRIP
  ⟨0x170380, [(4, 9)], true, 0x00000000#32, [
    ⟨⟨24, 8⟩, .ro, false, false, .none⟩,
    ⟨⟨0, 24⟩, .sq, false, false, .none⟩]⟩,
  -- PROT_GRP
  ⟨0x1703C0, [(4, 8)], true, 0x00000000#32, [
    ⟨⟨0, 32⟩, .rw, false, false, .bit 9⟩]⟩,
  -- PROT_SEL
  ⟨0x170400, [(4, 8)], true, 0x00000000#32, [
    ⟨⟨30, 2⟩, .rw, false, false, .bit 9⟩,
    ⟨⟨28, 2⟩, .rw, false, false, .bit 9⟩,
    ⟨⟨27, 1⟩, .rw, false, false, .bit 9⟩,
    ⟨⟨20, 7⟩, .rw, false, false, .bit 9⟩]⟩,
  -- PROT_SELT
  ⟨0x170420, [(4, 8)], true, 0x00000000#32, [
    ⟨⟨16, 16⟩, .rw, false, false, .bit 9⟩,
    ⟨⟨0, 16⟩, .rw, false, false, .bit 9⟩]⟩,
  -- PROT_SELV
  ⟨0x170440, [(4, 8)], true, 0x7FFF7FFF#32, [
    ⟨⟨16, 16⟩, .rw, false, false, .bit 9⟩,
    ⟨⟨0, 16⟩, .rw, false, false, .bit 9⟩]⟩,
  -- PROT_GSTAT
  ⟨0x170460, [], false, 0x00FF0000#32, [
    ⟨⟨16, 8⟩, .ro, false, false, .none⟩,
    ⟨⟨0, 16⟩, .ro, false, false, .none⟩]⟩,
  -- PROT_STAT
  ⟨0x170464, [], false, 0x00000000#32, [
    ⟨⟨24, 8⟩, .ro, false, false, .none⟩,
    ⟨⟨23, 1⟩, .sq, false, false, .none⟩,
    ⟨⟨22, 1⟩, .sq, false, false, .none⟩,
    ⟨⟨21, 1⟩, .sq, false, false, .none⟩,
    ⟨⟨20, 1⟩, .sq, false, false, .none⟩,
    ⟨⟨19, 1⟩, .sq, false, false, .none⟩,
    ⟨⟨18, 1⟩, .sq, false, false, .none⟩,
    ⟨⟨17, 1⟩, .sq, false, false, .none⟩,
    ⟨⟨16, 1⟩, .sq, false, false, .none⟩,
    ⟨⟨0, 1⟩, .ro, false, false, .none⟩]⟩]

/-- Cards of block PROT, part 2. -/
def cardsPROT1 : List Card := [
  -- PROT_CHOP
  ⟨0x170468, [], true, 0x18000064#32, [
    ⟨⟨31, 1⟩, .rw, false, false, .none⟩,
    ⟨⟨24, 5⟩, .rw, false, false, .bit 9⟩,
    ⟨⟨23, 1⟩, .rw, false, false, .bit 9⟩,
    ⟨⟨16, 7⟩, .rw, false, false, .bit 9⟩,
    ⟨⟨0, 16⟩, .rw, false, false, .bit 9⟩]⟩,
  -- PROT_CHOPV
  ⟨0x17046C, [], true, 0x7FFF7F00#32, [
    ⟨⟨16, 16⟩, .rw, false, false, .bit 9⟩,
    ⟨⟨0, 16⟩, .rw, false, false, .bit 9⟩]⟩,
  -- PROT_DCL
  ⟨0x170470, [], true, 0x7FFF0000#32, [
    ⟨⟨16, 16⟩, .rw, false, false, .bit 9⟩,
    ⟨⟨0, 16⟩, .rw, false, false, .bit 9⟩]⟩,
  -- PROT_DIS
  ⟨0x170474, [], true, 0x200007D0#32, [
    ⟨⟨31, 1⟩, .rw, false, false, .none⟩,
    ⟨⟨29, 2⟩, .rw, false, false, .bit 9⟩,
    ⟨⟨16, 7⟩, .rw, false, false, .bit 9⟩,
    ⟨⟨0, 16⟩, .rw, false, false, .bit 9⟩]⟩,
  -- PROT_DISV
  ⟨0x170478, [], true, 0x00000000#32, [
    ⟨⟨16, 16⟩, .rw, false, false, .bit 9⟩]⟩,
  -- PROT_CTRL
  ⟨0x17047C, [], true, 0x00000000#32, [
    ⟨⟨8, 8⟩, .rw, false, false, .none⟩,
    ⟨⟨1, 1⟩, .rh, false, false, .none⟩,
    ⟨⟨0, 1⟩, .rh, false, false, .none⟩]⟩]

/-- Every card of block PROT. -/
def cardsPROT : List Card := cardsPROT0 ++ cardsPROT1

/-! ### Block SAFE -/

/-- SAFE_TMEST (R231, 11_safety_functions.md). -/
def SAFE_TMEST (a : Nat) : Nat := 0x180000 + 0x40 * a
def SAFE_TMEST_TORQUE : Fld := ⟨0, 32⟩

/-- SAFE_TMACC (R231, 11_safety_functions.md). -/
def SAFE_TMACC (a : Nat) : Nat := 0x180004 + 0x40 * a
def SAFE_TMACC_ACC : Fld := ⟨0, 32⟩

/-- SAFE_TMSTAT (R231, 11_safety_functions.md). -/
def SAFE_TMSTAT (a : Nat) : Nat := 0x180008 + 0x40 * a
def SAFE_TMSTAT_SEQ : Fld := ⟨24, 8⟩
def SAFE_TMSTAT_TRIP : Fld := ⟨23, 1⟩
def SAFE_TMSTAT_OUT : Fld := ⟨22, 1⟩
def SAFE_TMSTAT_INV : Fld := ⟨21, 1⟩
def SAFE_TMSTAT_CLRREF : Fld := ⟨20, 1⟩
def SAFE_TMSTAT_RECON : Fld := ⟨19, 1⟩
def SAFE_TMSTAT_SUSP : Fld := ⟨2, 1⟩
def SAFE_TMSTAT_INWIN : Fld := ⟨1, 1⟩
def SAFE_TMSTAT_EN : Fld := ⟨0, 1⟩

/-- SAFE_TMWIN (R231, 11_safety_functions.md). -/
def SAFE_TMWIN (a : Nat) : Nat := 0x18000C + 0x40 * a
def SAFE_TMWIN_TMAX : Fld := ⟨16, 16⟩
def SAFE_TMWIN_TMIN : Fld := ⟨0, 16⟩

/-- SAFE_BRKCTL (R231, 11_safety_functions.md). -/
def SAFE_BRKCTL : Nat := 0x180100
def SAFE_BRKCTL_TSTART : Fld := ⟨1, 1⟩
def SAFE_BRKCTL_REL : Fld := ⟨0, 1⟩

/-- SAFE_BRKSTAT (R231, 11_safety_functions.md). -/
def SAFE_BRKSTAT : Nat := 0x180104
def SAFE_BRKSTAT_SEQ : Fld := ⟨24, 8⟩
def SAFE_BRKSTAT_FLTA : Fld := ⟨23, 1⟩
def SAFE_BRKSTAT_FLTB : Fld := ⟨22, 1⟩
def SAFE_BRKSTAT_TDONE : Fld := ⟨21, 1⟩
def SAFE_BRKSTAT_TFAIL : Fld := ⟨20, 1⟩
def SAFE_BRKSTAT_PHASE : Fld := ⟨6, 2⟩
def SAFE_BRKSTAT_TCAUSE : Fld := ⟨4, 2⟩
def SAFE_BRKSTAT_HOLD : Fld := ⟨3, 1⟩
def SAFE_BRKSTAT_RELEASED : Fld := ⟨2, 1⟩
def SAFE_BRKSTAT_FB : Fld := ⟨1, 1⟩
def SAFE_BRKSTAT_FA : Fld := ⟨0, 1⟩

/-- SAFE_BRKRES (R231, 11_safety_functions.md). -/
def SAFE_BRKRES : Nat := 0x180108
def SAFE_BRKRES_EXC : Fld := ⟨16, 16⟩
def SAFE_BRKRES_IMIN : Fld := ⟨0, 16⟩

/-- SAFE_SEALPW (R231, 11_safety_functions.md). -/
def SAFE_SEALPW (a : Nat) : Nat := 0x180200 + 4 * a
def SAFE_SEALPW_PW : Fld := ⟨0, 32⟩

/-- SAFE_SEALCTL (R231, 11_safety_functions.md). -/
def SAFE_SEALCTL : Nat := 0x180208
def SAFE_SEALCTL_SLOT : Fld := ⟨4, 2⟩
def SAFE_SEALCTL_SETPW : Fld := ⟨2, 1⟩
def SAFE_SEALCTL_LOCK : Fld := ⟨1, 1⟩
def SAFE_SEALCTL_UNLOCK : Fld := ⟨0, 1⟩

/-- SAFE_SEALSTAT (R231, 11_safety_functions.md). -/
def SAFE_SEALSTAT : Nat := 0x18020C
def SAFE_SEALSTAT_SEQ : Fld := ⟨24, 8⟩
def SAFE_SEALSTAT_DENY : Fld := ⟨23, 1⟩
def SAFE_SEALSTAT_BAD : Fld := ⟨22, 1⟩
def SAFE_SEALSTAT_UNLOCKED : Fld := ⟨15, 1⟩
def SAFE_SEALSTAT_LOCKOUT : Fld := ⟨14, 1⟩
def SAFE_SEALSTAT_BUSY : Fld := ⟨13, 1⟩
def SAFE_SEALSTAT_RECOK : Fld := ⟨12, 1⟩
def SAFE_SEALSTAT_ATT : Fld := ⟨4, 2⟩
def SAFE_SEALSTAT_SLOT : Fld := ⟨0, 4⟩

/-- Cards of block SAFE, part 1. -/
def cardsSAFE0 : List Card := [
  -- SAFE_TMEST
  ⟨0x180000, [(0x40, 4)], false, 0x00000000#32, [
    ⟨⟨0, 32⟩, .ro, false, false, .none⟩]⟩,
  -- SAFE_TMACC
  ⟨0x180004, [(0x40, 4)], false, 0x00000000#32, [
    ⟨⟨0, 32⟩, .ro, false, false, .none⟩]⟩,
  -- SAFE_TMSTAT
  ⟨0x180008, [(0x40, 4)], false, 0x00000000#32, [
    ⟨⟨24, 8⟩, .ro, false, false, .none⟩,
    ⟨⟨23, 1⟩, .sq, false, false, .none⟩,
    ⟨⟨22, 1⟩, .sq, false, false, .none⟩,
    ⟨⟨21, 1⟩, .sq, false, false, .none⟩,
    ⟨⟨20, 1⟩, .sq, false, false, .none⟩,
    ⟨⟨19, 1⟩, .sq, false, false, .none⟩,
    ⟨⟨2, 1⟩, .ro, false, false, .none⟩,
    ⟨⟨1, 1⟩, .ro, false, false, .none⟩,
    ⟨⟨0, 1⟩, .ro, false, false, .none⟩]⟩,
  -- SAFE_TMWIN
  ⟨0x18000C, [(0x40, 4)], false, 0x00000000#32, [
    ⟨⟨16, 16⟩, .ro, false, false, .none⟩,
    ⟨⟨0, 16⟩, .ro, false, false, .none⟩]⟩,
  -- SAFE_BRKCTL
  ⟨0x180100, [], true, 0x00000000#32, [
    ⟨⟨1, 1⟩, .rh, false, false, .none⟩,
    ⟨⟨0, 1⟩, .rw, false, false, .none⟩]⟩,
  -- SAFE_BRKSTAT
  ⟨0x180104, [], false, 0x00000000#32, [
    ⟨⟨24, 8⟩, .ro, false, false, .none⟩,
    ⟨⟨23, 1⟩, .sq, false, false, .none⟩,
    ⟨⟨22, 1⟩, .sq, false, false, .none⟩,
    ⟨⟨21, 1⟩, .sq, false, false, .none⟩,
    ⟨⟨20, 1⟩, .sq, false, false, .none⟩,
    ⟨⟨6, 2⟩, .ro, false, false, .none⟩,
    ⟨⟨4, 2⟩, .ro, false, false, .none⟩,
    ⟨⟨3, 1⟩, .ro, false, false, .none⟩,
    ⟨⟨2, 1⟩, .ro, false, false, .none⟩,
    ⟨⟨1, 1⟩, .ro, false, false, .none⟩,
    ⟨⟨0, 1⟩, .ro, false, false, .none⟩]⟩,
  -- SAFE_BRKRES
  ⟨0x180108, [], false, 0x00000000#32, [
    ⟨⟨16, 16⟩, .ro, false, false, .none⟩,
    ⟨⟨0, 16⟩, .ro, false, false, .none⟩]⟩,
  -- SAFE_SEALPW
  ⟨0x180200, [(4, 2)], true, 0x00000000#32, [
    ⟨⟨0, 32⟩, .rh, false, true, .none⟩]⟩]

/-- Cards of block SAFE, part 2. -/
def cardsSAFE1 : List Card := [
  -- SAFE_SEALCTL
  ⟨0x180208, [], true, 0x00000000#32, [
    ⟨⟨4, 2⟩, .rw, false, false, .none⟩,
    ⟨⟨2, 1⟩, .rh, false, false, .none⟩,
    ⟨⟨1, 1⟩, .rh, false, false, .none⟩,
    ⟨⟨0, 1⟩, .rh, false, false, .none⟩]⟩,
  -- SAFE_SEALSTAT
  ⟨0x18020C, [], false, 0x0000000F#32, [
    ⟨⟨24, 8⟩, .ro, false, false, .none⟩,
    ⟨⟨23, 1⟩, .sq, false, false, .none⟩,
    ⟨⟨22, 1⟩, .sq, false, false, .none⟩,
    ⟨⟨15, 1⟩, .ro, false, false, .none⟩,
    ⟨⟨14, 1⟩, .ro, false, false, .none⟩,
    ⟨⟨13, 1⟩, .ro, false, false, .none⟩,
    ⟨⟨12, 1⟩, .ro, false, false, .none⟩,
    ⟨⟨4, 2⟩, .ro, false, false, .none⟩,
    ⟨⟨0, 4⟩, .ro, false, false, .none⟩]⟩]

/-- Every card of block SAFE. -/
def cardsSAFE : List Card := cardsSAFE0 ++ cardsSAFE1

/-! ### Block GRD -/

/-- GRD_RXCFG (R337, 19_guard.md). -/
def GRD_RXCFG (a : Nat) : Nat := 0x190000 + 0x20 * a
def GRD_RXCFG_EN : Fld := ⟨31, 1⟩
def GRD_RXCFG_CARR : Fld := ⟨28, 3⟩
def GRD_RXCFG_CMD : Fld := ⟨27, 1⟩
def GRD_RXCFG_AXL : Fld := ⟨25, 2⟩
def GRD_RXCFG_PAIR : Fld := ⟨22, 3⟩
def GRD_RXCFG_PLEN : Fld := ⟨16, 6⟩
def GRD_RXCFG_CID : Fld := ⟨0, 16⟩

/-- GRD_RXID (R337, 19_guard.md). -/
def GRD_RXID (a : Nat) : Nat := 0x190004 + 0x20 * a
def GRD_RXID_IDENT : Fld := ⟨0, 32⟩

/-- GRD_TXID (R337, 19_guard.md). -/
def GRD_TXID (a : Nat) : Nat := 0x190104 + 0x20 * a
def GRD_TXID_IDENT : Fld := ⟨0, 32⟩

/-- GRD_RXADR (R337, 19_guard.md). -/
def GRD_RXADR (a : Nat) : Nat := 0x190008 + 0x20 * a
def GRD_RXADR_IDE : Fld := ⟨31, 1⟩
def GRD_RXADR_ADDR : Fld := ⟨0, 29⟩

/-- GRD_TXADR (R337, 19_guard.md). -/
def GRD_TXADR (a : Nat) : Nat := 0x190108 + 0x20 * a
def GRD_TXADR_IDE : Fld := ⟨31, 1⟩
def GRD_TXADR_ADDR : Fld := ⟨0, 29⟩

/-- GRD_RXTIM (R337, 19_guard.md). -/
def GRD_RXTIM (a : Nat) : Nat := 0x19000C + 0x20 * a
def GRD_RXTIM_WIN : Fld := ⟨24, 8⟩
def GRD_RXTIM_HOLD : Fld := ⟨16, 8⟩
def GRD_RXTIM_RAMP : Fld := ⟨0, 16⟩

/-- GRD_RXDL (R337, 19_guard.md). -/
def GRD_RXDL (a : Nat) : Nat := 0x190010 + 0x20 * a
def GRD_RXDL_DMAX : Fld := ⟨16, 16⟩
def GRD_RXDL_REACT : Fld := ⟨14, 2⟩
def GRD_RXDL_RTTMAX : Fld := ⟨8, 6⟩
def GRD_RXDL_RSYP : Fld := ⟨0, 8⟩

/-- GRD_RXSTAT (R337, 19_guard.md). -/
def GRD_RXSTAT (a : Nat) : Nat := 0x190014 + 0x20 * a
def GRD_RXSTAT_SEQ : Fld := ⟨24, 8⟩
def GRD_RXSTAT_CRCF : Fld := ⟨23, 1⟩
def GRD_RXSTAT_SEQREF : Fld := ⟨22, 1⟩
def GRD_RXSTAT_LATE : Fld := ⟨21, 1⟩
def GRD_RXSTAT_EXPF : Fld := ⟨20, 1⟩
def GRD_RXSTAT_RSYNC : Fld := ⟨19, 1⟩
def GRD_RXSTAT_ACNT : Fld := ⟨8, 8⟩
def GRD_RXSTAT_EXP : Fld := ⟨3, 1⟩
def GRD_RXSTAT_ZERO : Fld := ⟨2, 1⟩
def GRD_RXSTAT_STATE : Fld := ⟨0, 2⟩

/-- GRD_RXSEQ (R337, 19_guard.md). -/
def GRD_RXSEQ (a : Nat) : Nat := 0x190018 + 0x20 * a
def GRD_RXSEQ_LAST : Fld := ⟨16, 16⟩
def GRD_RXSEQ_OFFSET : Fld := ⟨0, 16⟩

/-- GRD_TXCFG (R337, 19_guard.md). -/
def GRD_TXCFG (a : Nat) : Nat := 0x190100 + 0x20 * a
def GRD_TXCFG_EN : Fld := ⟨31, 1⟩
def GRD_TXCFG_CARR : Fld := ⟨28, 3⟩
def GRD_TXCFG_CID : Fld := ⟨0, 16⟩

/-- GRD_TXCTL (R337, 19_guard.md). -/
def GRD_TXCTL (a : Nat) : Nat := 0x19010C + 0x20 * a
def GRD_TXCTL_DLV : Fld := ⟨16, 16⟩
def GRD_TXCTL_BUSY : Fld := ⟨15, 1⟩
def GRD_TXCTL_LOST : Fld := ⟨14, 1⟩
def GRD_TXCTL_LEN : Fld := ⟨8, 6⟩

/-- GRD_TXSEQ (R337, 19_guard.md). -/
def GRD_TXSEQ (a : Nat) : Nat := 0x190110 + 0x20 * a
def GRD_TXSEQ_NSENT : Fld := ⟨16, 16⟩
def GRD_TXSEQ_LAST : Fld := ⟨0, 16⟩

/-- GRD_TIME (R337, 19_guard.md). -/
def GRD_TIME : Nat := 0x190200
def GRD_TIME_TICKS : Fld := ⟨0, 32⟩

/-- GRD_GSTAT (R337, 19_guard.md). -/
def GRD_GSTAT : Nat := 0x190204
def GRD_GSTAT_SEQ : Fld := ⟨24, 8⟩
def GRD_GSTAT_RECBAD : Fld := ⟨23, 1⟩

/-- GRD_CMDSET (R337, 19_guard.md). -/
def GRD_CMDSET (a : Nat) : Nat := 0x190210 + 0x10 * a
def GRD_CMDSET_VALUE : Fld := ⟨0, 32⟩

/-- GRD_CMDMAX (R337, 19_guard.md). -/
def GRD_CMDMAX (a : Nat) : Nat := 0x190214 + 0x10 * a
def GRD_CMDMAX_VALUE : Fld := ⟨0, 32⟩

/-- GRD_CMDMIN (R337, 19_guard.md). -/
def GRD_CMDMIN (a : Nat) : Nat := 0x190218 + 0x10 * a
def GRD_CMDMIN_VALUE : Fld := ⟨0, 32⟩

/-- GRD_CMDFLG (R337, 19_guard.md). -/
def GRD_CMDFLG (a : Nat) : Nat := 0x19021C + 0x10 * a
def GRD_CMDFLG_FLAGS : Fld := ⟨0, 3⟩

/-- GRD_RXDATA (R337, 19_guard.md). -/
def GRD_RXDATA (a : Nat) (b : Nat) : Nat := 0x190400 + 0x40 * a + 4 * b
def GRD_RXDATA_DATA : Fld := ⟨0, 32⟩

/-- GRD_TXDATA (R337, 19_guard.md). -/
def GRD_TXDATA (a : Nat) (b : Nat) : Nat := 0x190600 + 0x40 * a + 4 * b
def GRD_TXDATA_DATA : Fld := ⟨0, 32⟩

/-- Cards of block GRD, part 1. -/
def cardsGRD0 : List Card := [
  -- GRD_RXCFG
  ⟨0x190000, [(0x20, 8)], true, 0x00000000#32, [
    ⟨⟨31, 1⟩, .rw, false, false, .bit 10⟩,
    ⟨⟨28, 3⟩, .rw, false, false, .bit 10⟩,
    ⟨⟨27, 1⟩, .rw, false, false, .bit 10⟩,
    ⟨⟨25, 2⟩, .rw, false, false, .bit 10⟩,
    ⟨⟨22, 3⟩, .rw, false, false, .bit 10⟩,
    ⟨⟨16, 6⟩, .rw, false, false, .bit 10⟩,
    ⟨⟨0, 16⟩, .rw, false, false, .bit 10⟩]⟩,
  -- GRD_RXID
  ⟨0x190004, [(0x20, 8)], true, 0x00000000#32, [
    ⟨⟨0, 32⟩, .rw, false, true, .bit 10⟩]⟩,
  -- GRD_TXID
  ⟨0x190104, [(0x20, 8)], true, 0x00000000#32, [
    ⟨⟨0, 32⟩, .rw, false, true, .bit 10⟩]⟩,
  -- GRD_RXADR
  ⟨0x190008, [(0x20, 8)], true, 0x00000000#32, [
    ⟨⟨31, 1⟩, .rw, false, false, .bit 10⟩,
    ⟨⟨0, 29⟩, .rw, false, false, .bit 10⟩]⟩,
  -- GRD_TXADR
  ⟨0x190108, [(0x20, 8)], true, 0x00000000#32, [
    ⟨⟨31, 1⟩, .rw, false, false, .bit 10⟩,
    ⟨⟨0, 29⟩, .rw, false, false, .bit 10⟩]⟩,
  -- GRD_RXTIM
  ⟨0x19000C, [(0x20, 8)], true, 0x04000000#32, [
    ⟨⟨24, 8⟩, .rw, false, false, .bit 10⟩,
    ⟨⟨16, 8⟩, .rw, false, false, .bit 10⟩,
    ⟨⟨0, 16⟩, .rw, false, false, .bit 10⟩]⟩,
  -- GRD_RXDL
  ⟨0x190010, [(0x20, 8)], true, 0x07D00A00#32, [
    ⟨⟨16, 16⟩, .rw, false, false, .bit 10⟩,
    ⟨⟨14, 2⟩, .rw, false, false, .bit 10⟩,
    ⟨⟨8, 6⟩, .rw, false, false, .bit 10⟩,
    ⟨⟨0, 8⟩, .rw, false, false, .bit 10⟩]⟩,
  -- GRD_RXSTAT
  ⟨0x190014, [(0x20, 8)], true, 0x0000000C#32, [
    ⟨⟨24, 8⟩, .ro, false, false, .none⟩,
    ⟨⟨23, 1⟩, .sq, false, false, .none⟩,
    ⟨⟨22, 1⟩, .sq, false, false, .none⟩,
    ⟨⟨21, 1⟩, .sq, false, false, .none⟩,
    ⟨⟨20, 1⟩, .sq, false, false, .none⟩,
    ⟨⟨19, 1⟩, .sq, false, false, .none⟩,
    ⟨⟨8, 8⟩, .ro, false, false, .none⟩,
    ⟨⟨3, 1⟩, .ro, false, false, .none⟩,
    ⟨⟨2, 1⟩, .ro, false, false, .none⟩,
    ⟨⟨0, 2⟩, .ro, false, false, .none⟩]⟩]

/-- Cards of block GRD, part 2. -/
def cardsGRD1 : List Card := [
  -- GRD_RXSEQ
  ⟨0x190018, [(0x20, 8)], true, 0x00000000#32, [
    ⟨⟨16, 16⟩, .ro, false, false, .none⟩,
    ⟨⟨0, 16⟩, .ro, false, false, .none⟩]⟩,
  -- GRD_TXCFG
  ⟨0x190100, [(0x20, 8)], true, 0x00000000#32, [
    ⟨⟨31, 1⟩, .rw, false, false, .bit 10⟩,
    ⟨⟨28, 3⟩, .rw, false, false, .bit 10⟩,
    ⟨⟨0, 16⟩, .rw, false, false, .bit 10⟩]⟩,
  -- GRD_TXCTL
  ⟨0x19010C, [(0x20, 8)], true, 0x00000000#32, [
    ⟨⟨16, 16⟩, .rw, false, false, .none⟩,
    ⟨⟨15, 1⟩, .ro, false, false, .none⟩,
    ⟨⟨14, 1⟩, .ro, false, false, .none⟩,
    ⟨⟨8, 6⟩, .rw, false, false, .none⟩]⟩,
  -- GRD_TXSEQ
  ⟨0x190110, [(0x20, 8)], true, 0x00000000#32, [
    ⟨⟨16, 16⟩, .ro, false, false, .none⟩,
    ⟨⟨0, 16⟩, .ro, false, false, .none⟩]⟩,
  -- GRD_TIME
  ⟨0x190200, [], true, 0x00000000#32, [
    ⟨⟨0, 32⟩, .ro, false, false, .none⟩]⟩,
  -- GRD_GSTAT
  ⟨0x190204, [], true, 0x00000000#32, [
    ⟨⟨24, 8⟩, .ro, false, false, .none⟩,
    ⟨⟨23, 1⟩, .sq, false, false, .none⟩]⟩,
  -- GRD_CMDSET
  ⟨0x190210, [(0x10, 4)], true, 0x00000000#32, [
    ⟨⟨0, 32⟩, .ro, false, false, .none⟩]⟩,
  -- GRD_CMDMAX
  ⟨0x190214, [(0x10, 4)], true, 0x00000000#32, [
    ⟨⟨0, 32⟩, .ro, false, false, .none⟩]⟩]

/-- Cards of block GRD, part 3. -/
def cardsGRD2 : List Card := [
  -- GRD_CMDMIN
  ⟨0x190218, [(0x10, 4)], true, 0x00000000#32, [
    ⟨⟨0, 32⟩, .ro, false, false, .none⟩]⟩,
  -- GRD_CMDFLG
  ⟨0x19021C, [(0x10, 4)], true, 0x00000000#32, [
    ⟨⟨0, 3⟩, .ro, false, false, .none⟩]⟩,
  -- GRD_RXDATA
  ⟨0x190400, [(0x40, 8), (4, 12)], true, 0x00000000#32, [
    ⟨⟨0, 32⟩, .ro, false, false, .none⟩]⟩,
  -- GRD_TXDATA
  ⟨0x190600, [(0x40, 8), (4, 12)], true, 0x00000000#32, [
    ⟨⟨0, 32⟩, .rw, false, false, .none⟩]⟩]

/-- Every card of block GRD. -/
def cardsGRD : List Card := cardsGRD0 ++ cardsGRD1 ++ cardsGRD2

/-! ### Block CAN -/

/-- CAN_CFG (R346, 20_can_and_ethernet.md). -/
def CAN_CFG (a : Nat) : Nat := 0x1A0000 + 0x1000 * a
def CAN_CFG_EN : Fld := ⟨31, 1⟩
def CAN_CFG_FDEN : Fld := ⟨30, 1⟩
def CAN_CFG_DAR : Fld := ⟨29, 1⟩
def CAN_CFG_PXHE : Fld := ⟨28, 1⟩
def CAN_CFG_OVWA : Fld := ⟨27, 1⟩
def CAN_CFG_OVWB : Fld := ⟨26, 1⟩

/-- CAN_NBT (R346, 20_can_and_ethernet.md). -/
def CAN_NBT (a : Nat) : Nat := 0x1A0004 + 0x1000 * a
def CAN_NBT_BRP : Fld := ⟨24, 8⟩
def CAN_NBT_TSEG1 : Fld := ⟨16, 8⟩
def CAN_NBT_TSEG2 : Fld := ⟨8, 8⟩
def CAN_NBT_SJW : Fld := ⟨0, 7⟩

/-- CAN_DBT (R346, 20_can_and_ethernet.md). -/
def CAN_DBT (a : Nat) : Nat := 0x1A0008 + 0x1000 * a
def CAN_DBT_BRP : Fld := ⟨24, 5⟩
def CAN_DBT_TSEG1 : Fld := ⟨16, 8⟩
def CAN_DBT_TSEG2 : Fld := ⟨12, 4⟩
def CAN_DBT_SJW : Fld := ⟨8, 4⟩
def CAN_DBT_TDCEN : Fld := ⟨7, 1⟩
def CAN_DBT_TDCO : Fld := ⟨0, 7⟩

/-- CAN_STAT (R346, 20_can_and_ethernet.md). -/
def CAN_STAT (a : Nat) : Nat := 0x1A000C + 0x1000 * a
def CAN_STAT_SEQ : Fld := ⟨24, 8⟩
def CAN_STAT_RXA : Fld := ⟨23, 1⟩
def CAN_STAT_RXB : Fld := ⟨22, 1⟩
def CAN_STAT_TXDONE : Fld := ⟨21, 1⟩
def CAN_STAT_TXFULL : Fld := ⟨20, 1⟩
def CAN_STAT_RXLOST : Fld := ⟨19, 1⟩
def CAN_STAT_NOMATCH : Fld := ⟨18, 1⟩
def CAN_STAT_BUSOFF : Fld := ⟨17, 1⟩
def CAN_STAT_EPASS : Fld := ⟨16, 1⟩
def CAN_STAT_PROTEXC : Fld := ⟨15, 1⟩
def CAN_STAT_REFSKIP : Fld := ⟨14, 1⟩
def CAN_STAT_ABORTED : Fld := ⟨13, 1⟩

/-- CAN_ERR (R346, 20_can_and_ethernet.md). -/
def CAN_ERR (a : Nat) : Nat := 0x1A0010 + 0x1000 * a
def CAN_ERR_STATE : Fld := ⟨30, 2⟩
def CAN_ERR_TEC : Fld := ⟨16, 9⟩
def CAN_ERR_REC : Fld := ⟨8, 8⟩

/-- CAN_TXCTL (R346, 20_can_and_ethernet.md). -/
def CAN_TXCTL (a : Nat) : Nat := 0x1A0014 + 0x1000 * a
def CAN_TXCTL_PUSH : Fld := ⟨31, 1⟩
def CAN_TXCTL_ABORT : Fld := ⟨30, 1⟩
def CAN_TXCTL_SENT : Fld := ⟨16, 8⟩
def CAN_TXCTL_LEVEL : Fld := ⟨0, 6⟩

/-- CAN_CNT (R346, 20_can_and_ethernet.md). -/
def CAN_CNT (a : Nat) : Nat := 0x1A0018 + 0x1000 * a
def CAN_CNT_NOMATCH : Fld := ⟨16, 16⟩
def CAN_CNT_LOST : Fld := ⟨0, 16⟩

/-- CAN_TMCFG (R346, 20_can_and_ethernet.md). -/
def CAN_TMCFG (a : Nat) : Nat := 0x1A001C + 0x1000 * a
def CAN_TMCFG_TMEN : Fld := ⟨31, 1⟩
def CAN_TMCFG_REFID : Fld := ⟨16, 11⟩
def CAN_TMCFG_REFP : Fld := ⟨0, 16⟩

/-- CAN_FLTMATCH (R346, 20_can_and_ethernet.md). -/
def CAN_FLTMATCH (a : Nat) (b : Nat) : Nat := 0x1A0100 + 0x1000 * a + 8 * b
def CAN_FLTMATCH_EN : Fld := ⟨31, 1⟩
def CAN_FLTMATCH_IDE : Fld := ⟨30, 1⟩
def CAN_FLTMATCH_DEST : Fld := ⟨29, 1⟩
def CAN_FLTMATCH_ID : Fld := ⟨0, 29⟩

/-- CAN_FLTMASK (R346, 20_can_and_ethernet.md). -/
def CAN_FLTMASK (a : Nat) (b : Nat) : Nat := 0x1A0104 + 0x1000 * a + 8 * b
def CAN_FLTMASK_IDE : Fld := ⟨30, 1⟩
def CAN_FLTMASK_ID : Fld := ⟨0, 29⟩

/-- CAN_TXID (R346, 20_can_and_ethernet.md). -/
def CAN_TXID (a : Nat) : Nat := 0x1A0300 + 0x1000 * a
def CAN_TXID_IDE : Fld := ⟨31, 1⟩
def CAN_TXID_ID : Fld := ⟨0, 29⟩

/-- CAN_RXID (R346, 20_can_and_ethernet.md). -/
def CAN_RXID (a : Nat) (b : Nat) : Nat := 0x1A0404 + 0x1000 * a + 0x100 * b
def CAN_RXID_IDE : Fld := ⟨31, 1⟩
def CAN_RXID_RTR : Fld := ⟨30, 1⟩
def CAN_RXID_ID : Fld := ⟨0, 29⟩

/-- CAN_TXHDR (R346, 20_can_and_ethernet.md). -/
def CAN_TXHDR (a : Nat) : Nat := 0x1A0304 + 0x1000 * a
def CAN_TXHDR_FDF : Fld := ⟨26, 1⟩
def CAN_TXHDR_BRS : Fld := ⟨25, 1⟩
def CAN_TXHDR_LEN : Fld := ⟨0, 7⟩

/-- CAN_RXHDR (R346, 20_can_and_ethernet.md). -/
def CAN_RXHDR (a : Nat) (b : Nat) : Nat := 0x1A0400 + 0x1000 * a + 0x100 * b
def CAN_RXHDR_ND : Fld := ⟨31, 1⟩
def CAN_RXHDR_FDF : Fld := ⟨26, 1⟩
def CAN_RXHDR_BRS : Fld := ⟨25, 1⟩
def CAN_RXHDR_ESI : Fld := ⟨24, 1⟩
def CAN_RXHDR_TAG : Fld := ⟨16, 8⟩
def CAN_RXHDR_FILT : Fld := ⟨8, 6⟩
def CAN_RXHDR_LEN : Fld := ⟨0, 7⟩

/-- CAN_RXTS (R346, 20_can_and_ethernet.md). -/
def CAN_RXTS (a : Nat) (b : Nat) : Nat := 0x1A0408 + 0x1000 * a + 0x100 * b
def CAN_RXTS_TICKS : Fld := ⟨0, 32⟩

/-- CAN_RXPOP (R346, 20_can_and_ethernet.md). -/
def CAN_RXPOP (a : Nat) (b : Nat) : Nat := 0x1A040C + 0x1000 * a + 0x100 * b
def CAN_RXPOP_TAG : Fld := ⟨0, 8⟩

/-- CAN_TXDATA (R346, 20_can_and_ethernet.md). -/
def CAN_TXDATA (a : Nat) (b : Nat) : Nat := 0x1A0340 + 0x1000 * a + 4 * b
def CAN_TXDATA_DATA : Fld := ⟨0, 32⟩

/-- CAN_RXDATA (R346, 20_can_and_ethernet.md). -/
def CAN_RXDATA (a : Nat) (b : Nat) (c : Nat) : Nat := 0x1A0440 + 0x1000 * a + 0x100 * b + 4 * c
def CAN_RXDATA_DATA : Fld := ⟨0, 32⟩

/-- Cards of block CAN, part 1. -/
def cardsCAN0 : List Card := [
  -- CAN_CFG
  ⟨0x1A0000, [(0x1000, 4)], true, 0x00000000#32, [
    ⟨⟨31, 1⟩, .rw, false, false, .none⟩,
    ⟨⟨30, 1⟩, .rw, false, false, .none⟩,
    ⟨⟨29, 1⟩, .rw, false, false, .none⟩,
    ⟨⟨28, 1⟩, .rw, false, false, .none⟩,
    ⟨⟨27, 1⟩, .rw, false, false, .none⟩,
    ⟨⟨26, 1⟩, .rw, false, false, .none⟩]⟩,
  -- CAN_NBT
  ⟨0x1A0004, [(0x1000, 4)], true, 0x013F1010#32, [
    ⟨⟨24, 8⟩, .rw, false, false, .none⟩,
    ⟨⟨16, 8⟩, .rw, false, false, .none⟩,
    ⟨⟨8, 8⟩, .rw, false, false, .none⟩,
    ⟨⟨0, 7⟩, .rw, false, false, .none⟩]⟩,
  -- CAN_DBT
  ⟨0x1A0008, [(0x1000, 4)], true, 0x010F4400#32, [
    ⟨⟨24, 5⟩, .rw, false, false, .none⟩,
    ⟨⟨16, 8⟩, .rw, false, false, .none⟩,
    ⟨⟨12, 4⟩, .rw, false, false, .none⟩,
    ⟨⟨8, 4⟩, .rw, false, false, .none⟩,
    ⟨⟨7, 1⟩, .rw, false, false, .none⟩,
    ⟨⟨0, 7⟩, .rw, false, false, .none⟩]⟩,
  -- CAN_STAT
  ⟨0x1A000C, [(0x1000, 4)], false, 0x00000000#32, [
    ⟨⟨24, 8⟩, .ro, false, false, .none⟩,
    ⟨⟨23, 1⟩, .sq, false, false, .none⟩,
    ⟨⟨22, 1⟩, .sq, false, false, .none⟩,
    ⟨⟨21, 1⟩, .sq, false, false, .none⟩,
    ⟨⟨20, 1⟩, .sq, false, false, .none⟩,
    ⟨⟨19, 1⟩, .sq, false, false, .none⟩,
    ⟨⟨18, 1⟩, .sq, false, false, .none⟩,
    ⟨⟨17, 1⟩, .sq, false, false, .none⟩,
    ⟨⟨16, 1⟩, .sq, false, false, .none⟩,
    ⟨⟨15, 1⟩, .sq, false, false, .none⟩,
    ⟨⟨14, 1⟩, .sq, false, false, .none⟩,
    ⟨⟨13, 1⟩, .sq, false, false, .none⟩]⟩,
  -- CAN_ERR
  ⟨0x1A0010, [(0x1000, 4)], false, 0xC0000000#32, [
    ⟨⟨30, 2⟩, .ro, false, false, .none⟩,
    ⟨⟨16, 9⟩, .ro, false, false, .none⟩,
    ⟨⟨8, 8⟩, .ro, false, false, .none⟩]⟩,
  -- CAN_TXCTL
  ⟨0x1A0014, [(0x1000, 4)], false, 0x00000000#32, [
    ⟨⟨31, 1⟩, .rh, false, false, .none⟩,
    ⟨⟨30, 1⟩, .rh, false, false, .none⟩,
    ⟨⟨16, 8⟩, .rcw, false, false, .none⟩,
    ⟨⟨0, 6⟩, .ro, false, false, .none⟩]⟩,
  -- CAN_CNT
  ⟨0x1A0018, [(0x1000, 4)], false, 0x00000000#32, [
    ⟨⟨16, 16⟩, .rc, false, false, .none⟩,
    ⟨⟨0, 16⟩, .rc, false, false, .none⟩]⟩,
  -- CAN_TMCFG
  ⟨0x1A001C, [(0x1000, 4)], true, 0x00000000#32, [
    ⟨⟨31, 1⟩, .rw, false, false, .none⟩,
    ⟨⟨16, 11⟩, .rw, false, false, .none⟩,
    ⟨⟨0, 16⟩, .rw, false, false, .none⟩]⟩]

/-- Cards of block CAN, part 2. -/
def cardsCAN1 : List Card := [
  -- CAN_FLTMATCH
  ⟨0x1A0100, [(0x1000, 4), (8, 64)], true, 0x00000000#32, [
    ⟨⟨31, 1⟩, .rw, false, false, .none⟩,
    ⟨⟨30, 1⟩, .rw, false, false, .none⟩,
    ⟨⟨29, 1⟩, .rw, false, false, .none⟩,
    ⟨⟨0, 29⟩, .rw, false, false, .none⟩]⟩,
  -- CAN_FLTMASK
  ⟨0x1A0104, [(0x1000, 4), (8, 64)], true, 0x00000000#32, [
    ⟨⟨30, 1⟩, .rw, false, false, .none⟩,
    ⟨⟨0, 29⟩, .rw, false, false, .none⟩]⟩,
  -- CAN_TXID
  ⟨0x1A0300, [(0x1000, 4)], false, 0x00000000#32, [
    ⟨⟨31, 1⟩, .rw, false, false, .none⟩,
    ⟨⟨0, 29⟩, .rw, false, false, .none⟩]⟩,
  -- CAN_RXID
  ⟨0x1A0404, [(0x1000, 4), (0x100, 2)], false, 0x00000000#32, [
    ⟨⟨31, 1⟩, .ro, false, false, .none⟩,
    ⟨⟨30, 1⟩, .ro, false, false, .none⟩,
    ⟨⟨0, 29⟩, .ro, false, false, .none⟩]⟩,
  -- CAN_TXHDR
  ⟨0x1A0304, [(0x1000, 4)], false, 0x00000000#32, [
    ⟨⟨26, 1⟩, .rw, false, false, .none⟩,
    ⟨⟨25, 1⟩, .rw, false, false, .none⟩,
    ⟨⟨0, 7⟩, .rw, false, false, .none⟩]⟩,
  -- CAN_RXHDR
  ⟨0x1A0400, [(0x1000, 4), (0x100, 2)], false, 0x00000000#32, [
    ⟨⟨31, 1⟩, .ro, false, false, .none⟩,
    ⟨⟨26, 1⟩, .ro, false, false, .none⟩,
    ⟨⟨25, 1⟩, .ro, false, false, .none⟩,
    ⟨⟨24, 1⟩, .ro, false, false, .none⟩,
    ⟨⟨16, 8⟩, .ro, false, false, .none⟩,
    ⟨⟨8, 6⟩, .ro, false, false, .none⟩,
    ⟨⟨0, 7⟩, .ro, false, false, .none⟩]⟩,
  -- CAN_RXTS
  ⟨0x1A0408, [(0x1000, 4), (0x100, 2)], false, 0x00000000#32, [
    ⟨⟨0, 32⟩, .ro, false, false, .none⟩]⟩,
  -- CAN_RXPOP
  ⟨0x1A040C, [(0x1000, 4), (0x100, 2)], false, 0x00000000#32, [
    ⟨⟨0, 8⟩, .rw, false, true, .none⟩]⟩]

/-- Cards of block CAN, part 3. -/
def cardsCAN2 : List Card := [
  -- CAN_TXDATA
  ⟨0x1A0340, [(0x1000, 4), (4, 16)], false, 0x00000000#32, [
    ⟨⟨0, 32⟩, .rw, false, false, .none⟩]⟩,
  -- CAN_RXDATA
  ⟨0x1A0440, [(0x1000, 4), (0x100, 2), (4, 16)], false, 0x00000000#32, [
    ⟨⟨0, 32⟩, .ro, false, false, .none⟩]⟩]

/-- Every card of block CAN. -/
def cardsCAN : List Card := cardsCAN0 ++ cardsCAN1 ++ cardsCAN2

/-! ### Block ETH -/

/-- ETH_CFG (R350, 20_can_and_ethernet.md). -/
def ETH_CFG : Nat := 0x1B0000
def ETH_CFG_EN : Fld := ⟨31, 1⟩
def ETH_CFG_BCAST : Fld := ⟨30, 1⟩
def ETH_CFG_MCAST : Fld := ⟨29, 1⟩
def ETH_CFG_PROM : Fld := ⟨28, 1⟩
def ETH_CFG_GTAG : Fld := ⟨27, 1⟩
def ETH_CFG_GPCP : Fld := ⟨24, 3⟩
def ETH_CFG_GVID : Fld := ⟨0, 12⟩

/-- ETH_MAC0 (R350, 20_can_and_ethernet.md). -/
def ETH_MAC0 : Nat := 0x1B0004
def ETH_MAC0_ADDR : Fld := ⟨0, 32⟩

/-- ETH_MAC1 (R350, 20_can_and_ethernet.md). -/
def ETH_MAC1 : Nat := 0x1B0008
def ETH_MAC1_ADDR : Fld := ⟨0, 16⟩

/-- ETH_GDST0 (R350, 20_can_and_ethernet.md). -/
def ETH_GDST0 : Nat := 0x1B000C
def ETH_GDST0_ADDR : Fld := ⟨0, 32⟩

/-- ETH_GDST1 (R350, 20_can_and_ethernet.md). -/
def ETH_GDST1 : Nat := 0x1B0010
def ETH_GDST1_ADDR : Fld := ⟨0, 16⟩

/-- ETH_STAT (R350, 20_can_and_ethernet.md). -/
def ETH_STAT : Nat := 0x1B0014
def ETH_STAT_SEQ : Fld := ⟨24, 8⟩
def ETH_STAT_RXF : Fld := ⟨23, 1⟩
def ETH_STAT_TXF : Fld := ⟨22, 1⟩
def ETH_STAT_RXNOBUF : Fld := ⟨21, 1⟩
def ETH_STAT_RXERR : Fld := ⟨20, 1⟩
def ETH_STAT_LINKCHG : Fld := ⟨19, 1⟩
def ETH_STAT_LINK : Fld := ⟨2, 1⟩
def ETH_STAT_SPEED : Fld := ⟨0, 2⟩

/-- ETH_CNT (R350, 20_can_and_ethernet.md). -/
def ETH_CNT : Nat := 0x1B0018
def ETH_CNT_RXDROP : Fld := ⟨16, 16⟩
def ETH_CNT_RXERR : Fld := ⟨0, 16⟩

/-- ETH_TXR (R350, 20_can_and_ethernet.md). -/
def ETH_TXR : Nat := 0x1B001C
def ETH_TXR_NDESC : Fld := ⟨24, 8⟩
def ETH_TXR_KICK : Fld := ⟨23, 1⟩
def ETH_TXR_BASE : Fld := ⟨4, 14⟩

/-- ETH_RXR (R350, 20_can_and_ethernet.md). -/
def ETH_RXR : Nat := 0x1B0020
def ETH_RXR_NDESC : Fld := ⟨24, 8⟩
def ETH_RXR_BASE : Fld := ⟨4, 14⟩

/-- ETH_MDIO (R350, 20_can_and_ethernet.md). -/
def ETH_MDIO : Nat := 0x1B0024
def ETH_MDIO_GO : Fld := ⟨31, 1⟩
def ETH_MDIO_BUSY : Fld := ⟨30, 1⟩
def ETH_MDIO_RD : Fld := ⟨29, 1⟩
def ETH_MDIO_PHYAD : Fld := ⟨21, 5⟩
def ETH_MDIO_REG : Fld := ⟨16, 5⟩
def ETH_MDIO_DATA : Fld := ⟨0, 16⟩

/-- Cards of block ETH, part 1. -/
def cardsETH0 : List Card := [
  -- ETH_CFG
  ⟨0x1B0000, [], true, 0x00000000#32, [
    ⟨⟨31, 1⟩, .rw, false, false, .none⟩,
    ⟨⟨30, 1⟩, .rw, false, false, .none⟩,
    ⟨⟨29, 1⟩, .rw, false, false, .none⟩,
    ⟨⟨28, 1⟩, .rw, false, false, .none⟩,
    ⟨⟨27, 1⟩, .rw, false, false, .none⟩,
    ⟨⟨24, 3⟩, .rw, false, false, .none⟩,
    ⟨⟨0, 12⟩, .rw, false, false, .none⟩]⟩,
  -- ETH_MAC0
  ⟨0x1B0004, [], true, 0x00000000#32, [
    ⟨⟨0, 32⟩, .rw, false, false, .none⟩]⟩,
  -- ETH_MAC1
  ⟨0x1B0008, [], true, 0x00000000#32, [
    ⟨⟨0, 16⟩, .rw, false, false, .none⟩]⟩,
  -- ETH_GDST0
  ⟨0x1B000C, [], true, 0x00000000#32, [
    ⟨⟨0, 32⟩, .rw, false, false, .none⟩]⟩,
  -- ETH_GDST1
  ⟨0x1B0010, [], true, 0x00000000#32, [
    ⟨⟨0, 16⟩, .rw, false, false, .none⟩]⟩,
  -- ETH_STAT
  ⟨0x1B0014, [], true, 0x00000000#32, [
    ⟨⟨24, 8⟩, .ro, false, false, .none⟩,
    ⟨⟨23, 1⟩, .sq, false, false, .none⟩,
    ⟨⟨22, 1⟩, .sq, false, false, .none⟩,
    ⟨⟨21, 1⟩, .sq, false, false, .none⟩,
    ⟨⟨20, 1⟩, .sq, false, false, .none⟩,
    ⟨⟨19, 1⟩, .sq, false, false, .none⟩,
    ⟨⟨2, 1⟩, .ro, false, false, .none⟩,
    ⟨⟨0, 2⟩, .ro, false, false, .none⟩]⟩,
  -- ETH_CNT
  ⟨0x1B0018, [], true, 0x00000000#32, [
    ⟨⟨16, 16⟩, .rc, false, false, .none⟩,
    ⟨⟨0, 16⟩, .rc, false, false, .none⟩]⟩,
  -- ETH_TXR
  ⟨0x1B001C, [], true, 0x00000000#32, [
    ⟨⟨24, 8⟩, .rw, false, false, .none⟩,
    ⟨⟨23, 1⟩, .rh, false, false, .none⟩,
    ⟨⟨4, 14⟩, .rw, false, false, .none⟩]⟩]

/-- Cards of block ETH, part 2. -/
def cardsETH1 : List Card := [
  -- ETH_RXR
  ⟨0x1B0020, [], true, 0x00000000#32, [
    ⟨⟨24, 8⟩, .rw, false, false, .none⟩,
    ⟨⟨4, 14⟩, .rw, false, false, .none⟩]⟩,
  -- ETH_MDIO
  ⟨0x1B0024, [], true, 0x00000000#32, [
    ⟨⟨31, 1⟩, .rh, false, false, .none⟩,
    ⟨⟨30, 1⟩, .ro, false, false, .none⟩,
    ⟨⟨29, 1⟩, .rw, false, false, .none⟩,
    ⟨⟨21, 5⟩, .rw, false, false, .none⟩,
    ⟨⟨16, 5⟩, .rw, false, false, .none⟩,
    ⟨⟨0, 16⟩, .rh, false, false, .none⟩]⟩]

/-- Every card of block ETH. -/
def cardsETH : List Card := cardsETH0 ++ cardsETH1

/-! ### Block CPL -/

/-- CPL_CFG (R313, 17_coupler.md). -/
def CPL_CFG : Nat := 0x1C0000
def CPL_CFG_HEN : Fld := ⟨31, 1⟩
def CPL_CFG_ADMEN : Fld := ⟨30, 1⟩
def CPL_CFG_DETT : Fld := ⟨12, 8⟩
def CPL_CFG_SEATW : Fld := ⟨0, 9⟩

/-- CPL_ADDR (R313, 17_coupler.md). -/
def CPL_ADDR : Nat := 0x1C0004
def CPL_ADDR_EPOCH : Fld := ⟨24, 8⟩
def CPL_ADDR_HEAD : Fld := ⟨13, 1⟩
def CPL_ADDR_HITCHED : Fld := ⟨12, 1⟩
def CPL_ADDR_ROOT : Fld := ⟨6, 6⟩
def CPL_ADDR_SEAT : Fld := ⟨0, 6⟩

/-- CPL_STAT (R313, 17_coupler.md). -/
def CPL_STAT : Nat := 0x1C0008
def CPL_STAT_SEQ : Fld := ⟨24, 8⟩
def CPL_STAT_LINKCHG : Fld := ⟨23, 1⟩
def CPL_STAT_HEADERR : Fld := ⟨22, 1⟩
def CPL_STAT_ADMFAIL : Fld := ⟨21, 1⟩
def CPL_STAT_TXFULL : Fld := ⟨20, 1⟩
def CPL_STAT_RXFULL : Fld := ⟨19, 1⟩
def CPL_STAT_TXTO : Fld := ⟨18, 1⟩
def CPL_STAT_REASM : Fld := ⟨17, 1⟩
def CPL_STAT_STALE : Fld := ⟨16, 1⟩
def CPL_STAT_BADFRM : Fld := ⟨15, 1⟩
def CPL_STAT_ADMPEND : Fld := ⟨0, 1⟩

/-- CPL_CNT (R313, 17_coupler.md). -/
def CPL_CNT : Nat := 0x1C000C
def CPL_CNT_DROP : Fld := ⟨16, 16⟩
def CPL_CNT_TXTO : Fld := ⟨8, 8⟩
def CPL_CNT_FDONE : Fld := ⟨0, 8⟩

/-- CPL_TXTO (R313, 17_coupler.md). -/
def CPL_TXTO : Nat := 0x1C0010
def CPL_TXTO_TIMEOUT : Fld := ⟨0, 16⟩

/-- CPL_TIME0 (R313, 17_coupler.md). -/
def CPL_TIME0 : Nat := 0x1C0014
def CPL_TIME0_TICKS : Fld := ⟨5, 27⟩
def CPL_TIME0_TAPS : Fld := ⟨0, 5⟩

/-- CPL_TIME1 (R313, 17_coupler.md). -/
def CPL_TIME1 : Nat := 0x1C0018
def CPL_TIME1_TICKSH : Fld := ⟨0, 32⟩

/-- CPL_PORT (R313, 17_coupler.md). -/
def CPL_PORT (a : Nat) : Nat := 0x1C0020 + 4 * a
def CPL_PORT_EN : Fld := ⟨31, 1⟩
def CPL_PORT_UP : Fld := ⟨30, 1⟩
def CPL_PORT_TPARENT : Fld := ⟨29, 1⟩
def CPL_PORT_ERRCNT : Fld := ⟨16, 8⟩
def CPL_PORT_DELAY : Fld := ⟨0, 16⟩

/-- CPL_TXSRC (R313, 17_coupler.md). -/
def CPL_TXSRC : Nat := 0x1C0030
def CPL_TXSRC_OFS : Fld := ⟨4, 14⟩

/-- CPL_TXDST (R313, 17_coupler.md). -/
def CPL_TXDST : Nat := 0x1C0034
def CPL_TXDST_ADDR : Fld := ⟨0, 32⟩

/-- CPL_TXCTL (R313, 17_coupler.md). -/
def CPL_TXCTL : Nat := 0x1C0038
def CPL_TXCTL_CLS : Fld := ⟨30, 2⟩
def CPL_TXCTL_DST : Fld := ⟨24, 6⟩
def CPL_TXCTL_KIND : Fld := ⟨16, 8⟩
def CPL_TXCTL_LEN : Fld := ⟨0, 11⟩

/-- CPL_RXM (R313, 17_coupler.md). -/
def CPL_RXM : Nat := 0x1C0040
def CPL_RXM_NSLOT : Fld := ⟨24, 8⟩
def CPL_RXM_BASE : Fld := ⟨4, 14⟩

/-- CPL_RXS (R313, 17_coupler.md). -/
def CPL_RXS : Nat := 0x1C0048
def CPL_RXS_NSLOT : Fld := ⟨24, 8⟩
def CPL_RXS_BASE : Fld := ⟨4, 14⟩

/-- CPL_RXMP (R313, 17_coupler.md). -/
def CPL_RXMP : Nat := 0x1C0044
def CPL_RXMP_WR : Fld := ⟨16, 8⟩
def CPL_RXMP_RD : Fld := ⟨0, 8⟩

/-- CPL_RXSP (R313, 17_coupler.md). -/
def CPL_RXSP : Nat := 0x1C004C
def CPL_RXSP_WR : Fld := ⟨16, 8⟩
def CPL_RXSP_RD : Fld := ⟨0, 8⟩

/-- CPL_ROUTE (R313, 17_coupler.md). -/
def CPL_ROUTE (a : Nat) : Nat := 0x1C0100 + 4 * a
def CPL_ROUTE_VALID : Fld := ⟨31, 1⟩
def CPL_ROUTE_MAN : Fld := ⟨30, 1⟩
def CPL_ROUTE_PRI : Fld := ⟨28, 2⟩
def CPL_ROUTE_ALT : Fld := ⟨26, 2⟩
def CPL_ROUTE_ALTV : Fld := ⟨25, 1⟩
def CPL_ROUTE_ACTALT : Fld := ⟨24, 1⟩
def CPL_ROUTE_HOPS : Fld := ⟨20, 4⟩

/-- CPL_MGRP (R313, 17_coupler.md). -/
def CPL_MGRP (a : Nat) : Nat := 0x1C0180 + 4 * a
def CPL_MGRP_LOCAL : Fld := ⟨31, 1⟩
def CPL_MGRP_MAN : Fld := ⟨30, 1⟩
def CPL_MGRP_PMASK : Fld := ⟨24, 4⟩

/-- CPL_ADMSN (R313, 17_coupler.md). -/
def CPL_ADMSN (a : Nat) : Nat := 0x1C0200 + 4 * a
def CPL_ADMSN_SERIAL : Fld := ⟨0, 32⟩

/-- CPL_ADMKEY (R313, 17_coupler.md). -/
def CPL_ADMKEY (a : Nat) : Nat := 0x1C0220 + 4 * a
def CPL_ADMKEY_KEY : Fld := ⟨0, 32⟩

/-- CPL_LEASE (R325, 18_rake.md). -/
def CPL_LEASE : Nat := 0x1C0208
def CPL_LEASE_LEN : Fld := ⟨31, 1⟩
def CPL_LEASE_AUTH : Fld := ⟨30, 1⟩
def CPL_LEASE_ASEAT0 : Fld := ⟨24, 6⟩
def CPL_LEASE_ASEAT1 : Fld := ⟨18, 6⟩
def CPL_LEASE_LSTATE : Fld := ⟨16, 2⟩
def CPL_LEASE_DECL : Fld := ⟨15, 1⟩
def CPL_LEASE_LSPO : Fld := ⟨14, 1⟩
def CPL_LEASE_DSEAT : Fld := ⟨8, 6⟩
def CPL_LEASE_LAGE : Fld := ⟨0, 8⟩

/-- Cards of block CPL, part 1. -/
def cardsCPL0 : List Card := [
  -- CPL_CFG
  ⟨0x1C0000, [], true, 0x0000A000#32, [
    ⟨⟨31, 1⟩, .rw, false, false, .bit 11⟩,
    ⟨⟨30, 1⟩, .rw, false, false, .bit 11⟩,
    ⟨⟨12, 8⟩, .rw, false, false, .bit 11⟩,
    ⟨⟨0, 9⟩, .rw, false, false, .bit 11⟩]⟩,
  -- CPL_ADDR
  ⟨0x1C0004, [], true, 0x00000000#32, [
    ⟨⟨24, 8⟩, .ro, false, false, .none⟩,
    ⟨⟨13, 1⟩, .ro, false, false, .none⟩,
    ⟨⟨12, 1⟩, .ro, false, false, .none⟩,
    ⟨⟨6, 6⟩, .ro, false, false, .none⟩,
    ⟨⟨0, 6⟩, .ro, false, false, .none⟩]⟩,
  -- CPL_STAT
  ⟨0x1C0008, [], true, 0x00000000#32, [
    ⟨⟨24, 8⟩, .ro, false, false, .none⟩,
    ⟨⟨23, 1⟩, .sq, false, false, .none⟩,
    ⟨⟨22, 1⟩, .sq, false, false, .none⟩,
    ⟨⟨21, 1⟩, .sq, false, false, .none⟩,
    ⟨⟨20, 1⟩, .sq, false, false, .none⟩,
    ⟨⟨19, 1⟩, .sq, false, false, .none⟩,
    ⟨⟨18, 1⟩, .sq, false, false, .none⟩,
    ⟨⟨17, 1⟩, .sq, false, false, .none⟩,
    ⟨⟨16, 1⟩, .sq, false, false, .none⟩,
    ⟨⟨15, 1⟩, .sq, false, false, .none⟩,
    ⟨⟨0, 1⟩, .ro, false, false, .none⟩]⟩,
  -- CPL_CNT
  ⟨0x1C000C, [], true, 0x00000000#32, [
    ⟨⟨16, 16⟩, .rc, false, false, .none⟩,
    ⟨⟨8, 8⟩, .rc, false, false, .none⟩,
    ⟨⟨0, 8⟩, .rcw, false, false, .none⟩]⟩,
  -- CPL_TXTO
  ⟨0x1C0010, [], true, 0x00000064#32, [
    ⟨⟨0, 16⟩, .rw, false, false, .bit 11⟩]⟩,
  -- CPL_TIME0
  ⟨0x1C0014, [], true, 0x00000000#32, [
    ⟨⟨5, 27⟩, .ro, false, false, .none⟩,
    ⟨⟨0, 5⟩, .ro, false, false, .none⟩]⟩,
  -- CPL_TIME1
  ⟨0x1C0018, [], true, 0x00000000#32, [
    ⟨⟨0, 32⟩, .ro, false, false, .none⟩]⟩,
  -- CPL_PORT
  ⟨0x1C0020, [(4, 4)], true, 0x00000000#32, [
    ⟨⟨31, 1⟩, .rw, false, false, .bit 11⟩,
    ⟨⟨30, 1⟩, .ro, false, false, .none⟩,
    ⟨⟨29, 1⟩, .ro, false, false, .none⟩,
    ⟨⟨16, 8⟩, .rc, false, false, .none⟩,
    ⟨⟨0, 16⟩, .ro, false, false, .none⟩]⟩]

/-- Cards of block CPL, part 2. -/
def cardsCPL1 : List Card := [
  -- CPL_TXSRC
  ⟨0x1C0030, [], true, 0x00000000#32, [
    ⟨⟨4, 14⟩, .rw, false, false, .none⟩]⟩,
  -- CPL_TXDST
  ⟨0x1C0034, [], true, 0x00000000#32, [
    ⟨⟨0, 32⟩, .rw, false, false, .none⟩]⟩,
  -- CPL_TXCTL
  ⟨0x1C0038, [], true, 0x00000000#32, [
    ⟨⟨30, 2⟩, .rw, false, false, .none⟩,
    ⟨⟨24, 6⟩, .rw, false, false, .none⟩,
    ⟨⟨16, 8⟩, .rw, false, false, .none⟩,
    ⟨⟨0, 11⟩, .rw, false, false, .none⟩]⟩,
  -- CPL_RXM
  ⟨0x1C0040, [], true, 0x00000000#32, [
    ⟨⟨24, 8⟩, .rw, false, false, .none⟩,
    ⟨⟨4, 14⟩, .rw, false, false, .none⟩]⟩,
  -- CPL_RXS
  ⟨0x1C0048, [], true, 0x00000000#32, [
    ⟨⟨24, 8⟩, .rw, false, false, .none⟩,
    ⟨⟨4, 14⟩, .rw, false, false, .none⟩]⟩,
  -- CPL_RXMP
  ⟨0x1C0044, [], true, 0x00000000#32, [
    ⟨⟨16, 8⟩, .ro, false, false, .none⟩,
    ⟨⟨0, 8⟩, .rw, false, false, .none⟩]⟩,
  -- CPL_RXSP
  ⟨0x1C004C, [], true, 0x00000000#32, [
    ⟨⟨16, 8⟩, .ro, false, false, .none⟩,
    ⟨⟨0, 8⟩, .rw, false, false, .none⟩]⟩,
  -- CPL_ROUTE
  ⟨0x1C0100, [(4, 32)], true, 0x00000000#32, [
    ⟨⟨31, 1⟩, .rh, false, false, .none⟩,
    ⟨⟨30, 1⟩, .rw, false, false, .bit 11⟩,
    ⟨⟨28, 2⟩, .rh, false, false, .none⟩,
    ⟨⟨26, 2⟩, .rh, false, false, .none⟩,
    ⟨⟨25, 1⟩, .rh, false, false, .none⟩,
    ⟨⟨24, 1⟩, .ro, false, false, .none⟩,
    ⟨⟨20, 4⟩, .rh, false, false, .none⟩]⟩]

/-- Cards of block CPL, part 3. -/
def cardsCPL2 : List Card := [
  -- CPL_MGRP
  ⟨0x1C0180, [(4, 16)], true, 0x00000000#32, [
    ⟨⟨31, 1⟩, .rw, false, false, .bit 11⟩,
    ⟨⟨30, 1⟩, .rw, false, false, .bit 11⟩,
    ⟨⟨24, 4⟩, .rh, false, false, .bit 11⟩]⟩,
  -- CPL_ADMSN
  ⟨0x1C0200, [(4, 2)], true, 0x00000000#32, [
    ⟨⟨0, 32⟩, .ro, false, false, .none⟩]⟩,
  -- CPL_ADMKEY
  ⟨0x1C0220, [(4, 8)], true, 0x00000000#32, [
    ⟨⟨0, 32⟩, .rw, false, false, .none⟩]⟩,
  -- CPL_LEASE
  ⟨0x1C0208, [], true, 0x00000000#32, [
    ⟨⟨31, 1⟩, .rw, false, false, .bit 11⟩,
    ⟨⟨30, 1⟩, .rw, false, false, .bit 11⟩,
    ⟨⟨24, 6⟩, .rw, false, false, .bit 11⟩,
    ⟨⟨18, 6⟩, .rw, false, false, .bit 11⟩,
    ⟨⟨16, 2⟩, .ro, false, false, .none⟩,
    ⟨⟨15, 1⟩, .rh, false, false, .none⟩,
    ⟨⟨14, 1⟩, .rw, false, false, .bit 11⟩,
    ⟨⟨8, 6⟩, .rw, false, false, .none⟩,
    ⟨⟨0, 8⟩, .ro, false, false, .none⟩]⟩]

/-- Every card of block CPL. -/
def cardsCPL : List Card := cardsCPL0 ++ cardsCPL1 ++ cardsCPL2

/-! ### Block THM -/

/-- THM_T (R363, 21_thermal_and_bist.md). -/
def THM_T (a : Nat) : Nat := 0x1D0000 + 4 * a
def THM_T_VALID : Fld := ⟨31, 1⟩
def THM_T_FAULT : Fld := ⟨30, 1⟩
def THM_T_RATE : Fld := ⟨16, 8⟩
def THM_T_TEMP : Fld := ⟨0, 16⟩

/-- THM_MAX (R363, 21_thermal_and_bist.md). -/
def THM_MAX : Nat := 0x1D0040
def THM_MAX_SENSOR : Fld := ⟨16, 4⟩
def THM_MAX_TEMP : Fld := ⟨0, 16⟩

/-- THM_ABS (R363, 21_thermal_and_bist.md). -/
def THM_ABS : Nat := 0x1D0044
def THM_ABS_TWARN : Fld := ⟨16, 16⟩
def THM_ABS_THYS : Fld := ⟨8, 8⟩

/-- THM_CTL (R363, 21_thermal_and_bist.md). -/
def THM_CTL : Nat := 0x1D0048
def THM_CTL_RATEEN : Fld := ⟨31, 1⟩
def THM_CTL_RATEACT : Fld := ⟨30, 1⟩
def THM_CTL_CDREN : Fld := ⟨29, 1⟩
def THM_CTL_FREEZE : Fld := ⟨28, 1⟩
def THM_CTL_LMAX : Fld := ⟨26, 2⟩
def THM_CTL_RATE : Fld := ⟨16, 8⟩
def THM_CTL_TSTEP : Fld := ⟨8, 8⟩

/-- THM_STAT (R363, 21_thermal_and_bist.md). -/
def THM_STAT : Nat := 0x1D004C
def THM_STAT_SEQ : Fld := ⟨24, 8⟩
def THM_STAT_ABS : Fld := ⟨23, 1⟩
def THM_STAT_RATEF : Fld := ⟨22, 1⟩
def THM_STAT_CDR : Fld := ⟨21, 1⟩
def THM_STAT_SFLT : Fld := ⟨20, 1⟩
def THM_STAT_LEVEL : Fld := ⟨0, 2⟩

/-- THM_BG (R363, 21_thermal_and_bist.md). -/
def THM_BG : Nat := 0x1D0050
def THM_BG_ACT : Fld := ⟨0, 1⟩

/-- Cards of block THM, part 1. -/
def cardsTHM0 : List Card := [
  -- THM_T
  ⟨0x1D0000, [(4, 16)], false, 0x00000000#32, [
    ⟨⟨31, 1⟩, .ro, false, false, .none⟩,
    ⟨⟨30, 1⟩, .ro, false, false, .none⟩,
    ⟨⟨16, 8⟩, .ro, false, false, .none⟩,
    ⟨⟨0, 16⟩, .ro, false, false, .none⟩]⟩,
  -- THM_MAX
  ⟨0x1D0040, [], false, 0x00000000#32, [
    ⟨⟨16, 4⟩, .ro, false, false, .none⟩,
    ⟨⟨0, 16⟩, .ro, false, false, .none⟩]⟩,
  -- THM_ABS
  ⟨0x1D0044, [], true, 0x021C1400#32, [
    ⟨⟨16, 16⟩, .rw, false, false, .none⟩,
    ⟨⟨8, 8⟩, .rw, false, false, .none⟩]⟩,
  -- THM_CTL
  ⟨0x1D0048, [], true, 0x2C140A00#32, [
    ⟨⟨31, 1⟩, .rw, false, false, .none⟩,
    ⟨⟨30, 1⟩, .rw, false, false, .none⟩,
    ⟨⟨29, 1⟩, .rw, false, false, .none⟩,
    ⟨⟨28, 1⟩, .rw, false, false, .none⟩,
    ⟨⟨26, 2⟩, .rw, false, false, .none⟩,
    ⟨⟨16, 8⟩, .rw, false, false, .none⟩,
    ⟨⟨8, 8⟩, .rw, false, false, .none⟩]⟩,
  -- THM_STAT
  ⟨0x1D004C, [], false, 0x00000000#32, [
    ⟨⟨24, 8⟩, .ro, false, false, .none⟩,
    ⟨⟨23, 1⟩, .sq, false, false, .none⟩,
    ⟨⟨22, 1⟩, .sq, false, false, .none⟩,
    ⟨⟨21, 1⟩, .sq, false, false, .none⟩,
    ⟨⟨20, 1⟩, .sq, false, false, .none⟩,
    ⟨⟨0, 2⟩, .ro, false, false, .none⟩]⟩,
  -- THM_BG
  ⟨0x1D0050, [], true, 0x00000000#32, [
    ⟨⟨0, 1⟩, .rh, false, false, .none⟩]⟩]

/-- Every card of block THM. -/
def cardsTHM : List Card := cardsTHM0

/-! ### Block BST -/

/-- BST_CFG (R364, 21_thermal_and_bist.md). -/
def BST_CFG : Nat := 0x1E0000
def BST_CFG_EN : Fld := ⟨31, 1⟩
def BST_CFG_CORE : Fld := ⟨30, 1⟩
def BST_CFG_MEM : Fld := ⟨29, 1⟩
def BST_CFG_CHAN : Fld := ⟨28, 1⟩

/-- BST_STAT (R364, 21_thermal_and_bist.md). -/
def BST_STAT : Nat := 0x1E0004
def BST_STAT_SEQ : Fld := ⟨24, 8⟩
def BST_STAT_DONE : Fld := ⟨23, 1⟩
def BST_STAT_FAIL : Fld := ⟨22, 1⟩
def BST_STAT_SKIP : Fld := ⟨21, 1⟩
def BST_STAT_BUSY : Fld := ⟨8, 1⟩
def BST_STAT_SLOT : Fld := ⟨0, 8⟩

/-- BST_RES (R364, 21_thermal_and_bist.md). -/
def BST_RES : Nat := 0x1E0008
def BST_RES_KIND : Fld := ⟨30, 2⟩
def BST_RES_INDEX : Fld := ⟨24, 6⟩
def BST_RES_CHMASK : Fld := ⟨0, 16⟩

/-- BST_SU (R364, 21_thermal_and_bist.md). -/
def BST_SU : Nat := 0x1E000C
def BST_SU_BANKS : Fld := ⟨15, 17⟩
def BST_SU_BOOT : Fld := ⟨7, 1⟩
def BST_SU_TABLE : Fld := ⟨6, 1⟩
def BST_SU_TANDEM : Fld := ⟨5, 1⟩
def BST_SU_PATH : Fld := ⟨4, 1⟩
def BST_SU_CORES : Fld := ⟨0, 3⟩

/-- BST_CNT (R364, 21_thermal_and_bist.md). -/
def BST_CNT : Nat := 0x1E0010
def BST_CNT_PASSES : Fld := ⟨16, 16⟩
def BST_CNT_SLICES : Fld := ⟨0, 16⟩

/-- Cards of block BST, part 1. -/
def cardsBST0 : List Card := [
  -- BST_CFG
  ⟨0x1E0000, [], true, 0xF0000000#32, [
    ⟨⟨31, 1⟩, .rw, false, false, .none⟩,
    ⟨⟨30, 1⟩, .rw, false, false, .none⟩,
    ⟨⟨29, 1⟩, .rw, false, false, .none⟩,
    ⟨⟨28, 1⟩, .rw, false, false, .none⟩]⟩,
  -- BST_STAT
  ⟨0x1E0004, [], false, 0x00000000#32, [
    ⟨⟨24, 8⟩, .ro, false, false, .none⟩,
    ⟨⟨23, 1⟩, .sq, false, false, .none⟩,
    ⟨⟨22, 1⟩, .sq, false, false, .none⟩,
    ⟨⟨21, 1⟩, .sq, false, false, .none⟩,
    ⟨⟨8, 1⟩, .ro, false, false, .none⟩,
    ⟨⟨0, 8⟩, .ro, false, false, .none⟩]⟩,
  -- BST_RES
  ⟨0x1E0008, [], false, 0x00000000#32, [
    ⟨⟨30, 2⟩, .ro, false, false, .none⟩,
    ⟨⟨24, 6⟩, .ro, false, false, .none⟩,
    ⟨⟨0, 16⟩, .ro, false, false, .none⟩]⟩,
  -- BST_SU
  ⟨0x1E000C, [], false, 0x00000000#32, [
    ⟨⟨15, 17⟩, .ro, false, false, .none⟩,
    ⟨⟨7, 1⟩, .ro, false, false, .none⟩,
    ⟨⟨6, 1⟩, .ro, false, false, .none⟩,
    ⟨⟨5, 1⟩, .ro, false, false, .none⟩,
    ⟨⟨4, 1⟩, .ro, false, false, .none⟩,
    ⟨⟨0, 3⟩, .ro, false, false, .none⟩]⟩,
  -- BST_CNT
  ⟨0x1E0010, [], false, 0x00000000#32, [
    ⟨⟨16, 16⟩, .rcw, false, false, .none⟩,
    ⟨⟨0, 16⟩, .rcw, false, false, .none⟩]⟩]

/-- Every card of block BST. -/
def cardsBST : List Card := cardsBST0

/-! ### Block PMU -/

/-- PMU_SUP (R282, 15_power_and_clocks.md). -/
def PMU_SUP : Nat := 0x1F0000
def PMU_SUP_SEQ : Fld := ⟨24, 8⟩
def PMU_SUP_BATLOW : Fld := ⟨23, 1⟩
def PMU_SUP_BKLOW : Fld := ⟨22, 1⟩
def PMU_SUP_HREC : Fld := ⟨21, 1⟩
def PMU_SUP_VBKOK : Fld := ⟨1, 1⟩
def PMU_SUP_VBATOK : Fld := ⟨0, 1⟩

/-- PMU_REGSTAT (R282, 15_power_and_clocks.md). -/
def PMU_REGSTAT : Nat := 0x1F0004
def PMU_REGSTAT_SEQ : Fld := ⟨24, 8⟩
def PMU_REGSTAT_OUT : Fld := ⟨20, 4⟩
def PMU_REGSTAT_LIVE : Fld := ⟨0, 4⟩

/-- PMU_HCFG (R282, 15_power_and_clocks.md). -/
def PMU_HCFG : Nat := 0x1F0008
def PMU_HCFG_LEN : Fld := ⟨28, 4⟩
def PMU_HCFG_HDIV : Fld := ⟨17, 11⟩
def PMU_HCFG_UVTHR : Fld := ⟨9, 8⟩

/-- PMU_HEN (R282, 15_power_and_clocks.md). -/
def PMU_HEN : Nat := 0x1F000C
def PMU_HEN_EN : Fld := ⟨0, 32⟩

/-- PMU_HUV (R282, 15_power_and_clocks.md). -/
def PMU_HUV (a : Nat) : Nat := 0x1F0010 + 4 * a
def PMU_HUV_SEQ : Fld := ⟨24, 8⟩
def PMU_HUV_UV : Fld := ⟨0, 24⟩

/-- PMU_HSV (R282, 15_power_and_clocks.md). -/
def PMU_HSV (a : Nat) : Nat := 0x1F0100 + 4 * a
def PMU_HSV_UV : Fld := ⟨31, 1⟩
def PMU_HSV_VALUE : Fld := ⟨0, 10⟩

/-- Cards of block PMU, part 1. -/
def cardsPMU0 : List Card := [
  -- PMU_SUP
  ⟨0x1F0000, [], false, 0x00000000#32, [
    ⟨⟨24, 8⟩, .ro, false, false, .none⟩,
    ⟨⟨23, 1⟩, .sq, false, false, .none⟩,
    ⟨⟨22, 1⟩, .sq, false, false, .none⟩,
    ⟨⟨21, 1⟩, .sq, false, false, .none⟩,
    ⟨⟨1, 1⟩, .ro, false, false, .none⟩,
    ⟨⟨0, 1⟩, .ro, false, false, .none⟩]⟩,
  -- PMU_REGSTAT
  ⟨0x1F0004, [], false, 0x00000000#32, [
    ⟨⟨24, 8⟩, .ro, false, false, .none⟩,
    ⟨⟨20, 4⟩, .sq, false, false, .none⟩,
    ⟨⟨0, 4⟩, .ro, false, false, .none⟩]⟩,
  -- PMU_HCFG
  ⟨0x1F0008, [], true, 0x00000000#32, [
    ⟨⟨28, 4⟩, .rw, false, false, .bit 12⟩,
    ⟨⟨17, 11⟩, .rw, false, false, .bit 12⟩,
    ⟨⟨9, 8⟩, .rw, false, false, .bit 12⟩]⟩,
  -- PMU_HEN
  ⟨0x1F000C, [], true, 0x00000000#32, [
    ⟨⟨0, 32⟩, .rw, false, false, .bit 12⟩]⟩,
  -- PMU_HUV
  ⟨0x1F0010, [(4, 2)], false, 0x00000000#32, [
    ⟨⟨24, 8⟩, .ro, false, false, .none⟩,
    ⟨⟨0, 24⟩, .sq, false, false, .none⟩]⟩,
  -- PMU_HSV
  ⟨0x1F0100, [(4, 36)], false, 0x00000000#32, [
    ⟨⟨31, 1⟩, .ro, false, false, .none⟩,
    ⟨⟨0, 10⟩, .ro, false, false, .none⟩]⟩]

/-- Every card of block PMU. -/
def cardsPMU : List Card := cardsPMU0

end Sys2Proof.Machine
end

