-- ==== Sys2Proof/Machine/Ops.lean ====
section
/-! DEFINITION. The named operations over the state: sparse maps, registers and their fields, flags with a sequence,
counters, events, captures, memory, core registers, and taking an exception and returning from one. -/

namespace Sys2Proof.Machine

open Sys2Proof

/-- The answer of a command. -/
abbrev Out := Host.Outcome State Fault Refusal

/-! ### Sparse maps -/

/-- The value listed for a key, if any. -/
def mfind {α : Type} : FMap α → Nat → Option α
  | [], _ => none
  | (k, v) :: m, key => if k = key then some v else mfind m key

/-- The value at a key; an unlisted key reads as `d`. -/
def mget {α : Type} (d : Nat → α) (m : FMap α) (key : Nat) : α := (mfind m key).getD (d key)

/-- A map without one key. -/
def merase {α : Type} (m : FMap α) (key : Nat) : FMap α := m.filter (fun e => e.1 ≠ key)

/-- Insert before the first greater key. -/
def minsert {α : Type} : FMap α → Nat → α → FMap α
  | [], key, v => [(key, v)]
  | (k, w) :: m, key, v => if key < k then (key, v) :: (k, w) :: m else (k, w) :: minsert m key v

/-- Write a key; the value that an unlisted key reads as removes the entry. -/
def mset {α : Type} [DecidableEq α] (d : Nat → α) (m : FMap α) (key : Nat) (v : α) : FMap α :=
  if v = d key then merase m key else minsert (merase m key) key v

/-- Keys strictly rising from a bound, and no entry at its default. -/
def mwfFrom {α : Type} [DecidableEq α] (d : Nat → α) : Option Nat → FMap α → Bool
  | _, [] => true
  | lo, (k, v) :: m =>
    (match lo with | none => true | some l => decide (l < k)) && !decide (v = d k) && mwfFrom d (some k) m

/-- The canonical form of a sparse map. -/
def mwf {α : Type} [DecidableEq α] (d : Nat → α) (m : FMap α) : Bool := mwfFrom d none m

/-- Insert into a rising list without repeats. -/
def insertRising : List Nat → Nat → List Nat
  | [], x => [x]
  | y :: ys, x => if x < y then x :: y :: ys else if x = y then y :: ys else y :: insertRising ys x

/-! ### Bit fields -/

/-- Bits lo+len−1..lo of a word, as a number. -/
def Fld.get (f : Fld) (w : Word) : Nat := (w.toNat >>> f.lo) % 2 ^ f.len

/-- The mask of a field. -/
def Fld.mask (f : Fld) : Word := word ((2 ^ f.len - 1) <<< f.lo)

/-- A word with a field replaced. -/
def Fld.put (f : Fld) (w : Word) (n : Nat) : Word :=
  (w &&& ~~~ f.mask) ||| word ((n % 2 ^ f.len) <<< f.lo)

/-- A field read as two's complement. -/
def Fld.sget (f : Fld) (w : Word) : Int :=
  let n := f.get w
  if n < 2 ^ (f.len - 1) then (n : Int) else (n : Int) - 2 ^ f.len

/-- A field of one bit taken as a Bool. -/
def Fld.bit (f : Fld) (w : Word) : Bool := w.getLsbD f.lo

/-! ### Registers by offset -/

/-- Page size of the block at a 64 KiB window of the register views; 0 for a window that is not decoded (R25, R30 and
the register page of every chapter). -/
def pageSize (win : Nat) : Nat :=
  if win = 0 then 32 else if win = 1 then 0x800 else if win = 2 then 32 else if win = 3 then 64
  else if win = 4 then 16 else if win < 8 then 0 else if win < 12 then 256 else if win < 16 then 0
  else if win = 16 then 0x4000 else if win = 17 then 0x1000 else if win = 18 then 0x1000
  else if win = 19 then 0x800 else if win = 20 then 512 else if win = 21 then 512
  else if win = 22 then 0x4000 else if win = 23 then 0x1000 else if win = 24 then 0x1000
  else if win = 25 then 0x800 else if win = 26 then 0x4000 else if win = 27 then 64
  else if win = 28 then 0x400 else if win = 29 then 128 else if win = 30 then 32
  else if win = 31 then 512 else 0

/-- An offset of the register views folded onto the first page of its block (R30); none where no block is decoded
(R25). LIX offset 0x0C is an alias of LIX_STAT (R38). -/
def foldOff (off : Nat) : Option Nat :=
  let win := off / 0x10000
  if 32 ≤ win ∨ pageSize win = 0 then none
  else
    let o := win * 0x10000 + off % 0x10000 % pageSize win
    some (if o = 0x4000C then 0x40008 else o)

/-- The cards of one window. -/
def windowCards (win : Nat) : List Card :=
  if win = 0 then cardsSYS else if win = 1 then cardsEVT else if win = 2 then cardsTRK else if win = 3 then cardsMEM
  else if win = 4 then cardsLIX else if win < 8 then [] else if win < 12 then cardsAXL else if win < 16 then []
  else if win = 16 then cardsGCH else if win = 17 then cardsPOS else if win = 18 then cardsSDF
  else if win = 19 then cardsSAR else if win = 20 then cardsRES else if win = 21 then cardsHYS
  else if win = 22 then cardsTTU else if win = 23 then cardsPROT else if win = 24 then cardsSAFE
  else if win = 25 then cardsGRD else if win = 26 then cardsCAN else if win = 27 then cardsETH
  else if win = 28 then cardsCPL else if win = 29 then cardsTHM else if win = 30 then cardsBST
  else if win = 31 then cardsPMU else []

/-- The instance numbers that a remainder of an offset spells over the strides of a card, outermost first. -/
def cardIndex : List (Nat × Nat) → Nat → Option (List Nat)
  | [], r => if r = 0 then some [] else none
  | (stride, count) :: rest, r =>
    if r / stride < count then (cardIndex rest (r % stride)).map (fun ix => r / stride :: ix) else none

/-- The instance numbers of a register of one card, if the offset names one. -/
def cardHit (c : Card) (off : Nat) : Option (List Nat) :=
  if off < c.base then none else cardIndex c.dims (off - c.base)

/-- The card of a register and its instance numbers. -/
def cardIn : List Card → Nat → Option (Card × List Nat)
  | [], _ => none
  | c :: cs, off => match cardHit c off with
    | some ix => some (c, ix)
    | none => cardIn cs off

/-- The card at a folded offset. -/
def cardAt (off : Nat) : Option (Card × List Nat) := cardIn (windowCards (off / 0x10000)) off

/-- What a register holds that nothing has written since reset: the reset value of its card (R8), zero where no
register stands (R30). -/
def regDefault (off : Nat) : Word := match cardAt off with
  | some (c, _) => c.reset
  | none => 0

/-- The register word at an offset of the first page. -/
def State.rd (s : State) (off : Nat) : Word := mget regDefault s.regs off

/-- Hardware's own write of a register word. -/
def State.wr (s : State) (off : Nat) (w : Word) : State := { s with regs := mset regDefault s.regs off w }

/-- A field of a register, as a number. -/
def State.fld (s : State) (off : Nat) (f : Fld) : Nat := f.get (s.rd off)

/-- A field of a register, as two's complement. -/
def State.sfld (s : State) (off : Nat) (f : Fld) : Int := f.sget (s.rd off)

/-- Bit `lo` of a field of a register. -/
def State.flag (s : State) (off : Nat) (f : Fld) : Bool := f.bit (s.rd off)

/-- Hardware's own write of one field. -/
def State.setFld (s : State) (off : Nat) (f : Fld) (n : Nat) : State := s.wr off (f.put (s.rd off) n)

/-- Hardware's own write of one field, from an integer taken modulo the field's range. -/
def State.setFldI (s : State) (off : Nat) (f : Fld) (n : Int) : State := s.setFld off f (n % 2 ^ f.len).toNat

/-- Hardware sets or clears a one-bit field. -/
def State.setFlag (s : State) (off : Nat) (f : Fld) (b : Bool) : State := s.setFld off f (b2n b)

/-- The sequence field of every register that holds SQ flags (R35). -/
def seqFld : Fld := ⟨24, 8⟩

/-- One event on the flags of `mask` of a register: they set and SEQ advances by one modulo 256 (R35). -/
def State.sqMask (s : State) (off : Nat) (mask : Word) : State :=
  let w := s.rd off
  s.wr off (seqFld.put (w ||| mask) (seqFld.get w + 1))

/-- One event that sets one SQ flag (R35). -/
def State.sq (s : State) (off : Nat) (f : Fld) : State := s.sqMask off f.mask

/-- An RC counter advanced by hardware, saturating (R33). -/
def State.rc (s : State) (off : Nat) (f : Fld) (k : Nat := 1) : State :=
  s.setFld off f (min (s.fld off f + k) (2 ^ f.len - 1))

/-- An RC counter whose card says that it wraps (R33). -/
def State.rcWrap (s : State) (off : Nat) (f : Fld) (k : Nat := 1) : State := s.setFld off f (s.fld off f + k)

/-! ### Engine state by instance -/

def State.ax (s : State) (a : Nat) : AxleSt := mget (fun _ => {}) s.axle a
def State.setAx (s : State) (a : Nat) (x : AxleSt) : State := { s with axle := mset (fun _ => {}) s.axle a x }
def State.updAx (s : State) (a : Nat) (f : AxleSt → AxleSt) : State := s.setAx a (f (s.ax a))
def State.ps (s : State) (p : Nat) : PosSt := mget (fun _ => {}) s.pos p
def State.setPs (s : State) (p : Nat) (x : PosSt) : State := { s with pos := mset (fun _ => {}) s.pos p x }
def State.updPs (s : State) (p : Nat) (f : PosSt → PosSt) : State := s.setPs p (f (s.ps p))
def State.lg (s : State) (l : Nat) : LegSt := mget (fun _ => {}) s.leg l
def State.setLg (s : State) (l : Nat) (x : LegSt) : State := { s with leg := mset (fun _ => {}) s.leg l x }
def State.updLg (s : State) (l : Nat) (f : LegSt → LegSt) : State := s.setLg l (f (s.lg l))
def State.ch (s : State) (c : Nat) : ChanSt := mget (fun _ => {}) s.chan c
def State.updCh (s : State) (c : Nat) (f : ChanSt → ChanSt) : State :=
  { s with chan := mset (fun _ => {}) s.chan c (f (s.ch c)) }
def State.sd (s : State) (c : Nat) : SddSt := mget (fun _ => {}) s.sdd c
def State.updSd (s : State) (c : Nat) (f : SddSt → SddSt) : State :=
  { s with sdd := mset (fun _ => {}) s.sdd c (f (s.sd c)) }
def State.sr (s : State) (c : Nat) : SarSt := mget (fun _ => {}) s.sar c
def State.updSr (s : State) (c : Nat) (f : SarSt → SarSt) : State :=
  { s with sar := mset (fun _ => {}) s.sar c (f (s.sr c)) }
def State.rs (s : State) (r : Nat) : ResSt := mget (fun _ => {}) s.res r
def State.updRs (s : State) (r : Nat) (f : ResSt → ResSt) : State :=
  { s with res := mset (fun _ => {}) s.res r (f (s.rs r)) }
def State.en (s : State) (e : Nat) : EncSt := mget (fun _ => {}) s.enc e
def State.updEn (s : State) (e : Nat) (f : EncSt → EncSt) : State :=
  { s with enc := mset (fun _ => {}) s.enc e (f (s.en e)) }
def State.hy (s : State) (h : Nat) : HysSt := mget (fun _ => {}) s.hys h
def State.updHy (s : State) (h : Nat) (f : HysSt → HysSt) : State :=
  { s with hys := mset (fun _ => {}) s.hys h (f (s.hy h)) }
def State.mn (s : State) (h : Nat) : MonSt := mget (fun _ => {}) s.mon h
def State.updMn (s : State) (h : Nat) (f : MonSt → MonSt) : State :=
  { s with mon := mset (fun _ => {}) s.mon h (f (s.mn h)) }
def State.gr (s : State) (c : Nat) : GrdRx := mget (fun _ => {}) s.grd c
def State.updGr (s : State) (c : Nat) (f : GrdRx → GrdRx) : State :=
  { s with grd := mset (fun _ => {}) s.grd c (f (s.gr c)) }
def State.cn (s : State) (n : Nat) : CanSt := mget (fun _ => {}) s.can n
def State.updCn (s : State) (n : Nat) (f : CanSt → CanSt) : State :=
  { s with can := mset (fun _ => {}) s.can n (f (s.cn n)) }
def State.tm (s : State) (k : Nat) : ThmSt := mget (fun _ => {}) s.thm k
def State.updTm (s : State) (k : Nat) (f : ThmSt → ThmSt) : State :=
  { s with thm := mset (fun _ => {}) s.thm k (f (s.tm k)) }

/-- Apply a state change for each element of a list, in order. -/
def each {α : Type} (xs : List α) (f : α → State → State) (s : State) : State := xs.foldl (fun t x => f x t) s

/-- Apply a state change where a condition holds. -/
def onlyIf (c : Bool) (f : State → State) (s : State) : State := if c then f s else s

/-- Advance the counter of drawn free values by `n`. -/
def State.drew (s : State) (n : Nat) : State := { s with draws := s.draws + n }

/-! ### Lantern words -/

/-- Words of the Lantern space that nothing has written: LAN_WSTAT shows PON after power-up from Off; the Waybill, the
wear counters, the change log and the black box read zero (DESIGN CHOICE, log entry 9). -/
def lanDefault (w : Nat) : Word := if w = 2 then 0x00800000 else 0

def State.lanW (s : State) (w : Nat) : Word := mget lanDefault s.lan.words w
def State.setLanW (s : State) (w : Nat) (v : Word) : State :=
  { s with lan := { s.lan with words := mset lanDefault s.lan.words w v } }
def State.lanF (s : State) (w : Nat) (f : Fld) : Nat := f.get (s.lanW w)
def State.setLanF (s : State) (w : Nat) (f : Fld) (n : Nat) : State := s.setLanW w (f.put (s.lanW w) n)
/-- One event on an SQ flag of a Lantern word (R35). -/
def State.lanSq (s : State) (w : Nat) (f : Fld) : State :=
  let x := s.lanW w
  s.setLanW w (seqFld.put (x ||| f.mask) (seqFld.get x + 1))

/-- Waybill word `w` (R41). -/
def State.wb (s : State) (w : Nat) : Word := s.lanW (0x1000 + w)

def LAN_CTL_VBKEN : Fld := ⟨10, 1⟩
def LAN_CTL_AEN : Fld := ⟨9, 1⟩
def LAN_CTL_SLEEP : Fld := ⟨2, 1⟩
def LAN_CTL_WAKE : Fld := ⟨1, 1⟩
def LAN_CTL_RUN : Fld := ⟨0, 1⟩
def LAN_WSTAT_PON : Fld := ⟨23, 1⟩
def LAN_WSTAT_PFAIL : Fld := ⟨22, 1⟩
def LAN_WSTAT_PIN (k : Nat) : Fld := ⟨18 + k, 1⟩
def LAN_WSTAT_ALARM : Fld := ⟨17, 1⟩
def LAN_WSTAT_VBK : Fld := ⟨16, 1⟩
def LAN_WSTAT_LCORE : Fld := ⟨15, 1⟩
def LAN_CLK_X32OK : Fld := ⟨8, 1⟩
def LAN_CLK_X32EN : Fld := ⟨1, 1⟩
def LAN_CLK_XSRC : Fld := ⟨0, 1⟩

/-! ### Events -/

/-- Event sources of R259: Axle timing, Axle supervision, gate, sensing, protection, system, memory, communication. -/
def evAxle (a k : Nat) : Nat := 16 * a + k
def evSup (a k : Nat) : Nat := 0x40 + 16 * a + k
def evGate (k : Nat) : Nat := 0x80 + k
def evSense (k : Nat) : Nat := 0xA0 + k
def evProt (k : Nat) : Nat := 0xC0 + k
def evSys (k : Nat) : Nat := 0xD0 + k
def evMem (k : Nat) : Nat := 0xE0 + k
def evCom (k : Nat) : Nat := 0xF0 + k

def BAD_VALUE : Nat := 0xD0
def WR_LOST : Nat := 0xD1
def PRIV_VIOL : Nat := 0xD2
def CHOCK_VIOL : Nat := 0xD3
def WB_WEAR : Nat := 0xD4
def TRK_MISMATCH : Nat := 0xD5
def TRK_LATENT : Nat := 0xD6
def TRK_VCD : Nat := 0xD7
def TRK_REJOIN : Nat := 0xD8
def TRK_SVC : Nat := 0xD9
def TRK_FATAL : Nat := 0xDA
def TRK_DFLT : Nat := 0xDB
def LAN_DFLT : Nat := 0xDC
def LAN_WBREJ : Nat := 0xDD
def LAN_MBOX : Nat := 0xDE

/-- The numbers that the table of R259 does not assign; they never raise. -/
def evReserved (src : Nat) : Bool :=
  (0x8E ≤ src && src < 0xA0) || (0xB6 ≤ src && src < 0xC0) || src = 0xDF || (0xED ≤ src && src < 0xF0)
    || 0xFE ≤ src

/-- The source is wake-pending (R260). -/
def State.wakePending (s : State) (src : Nat) : Bool := s.wakePend.any (fun e => e.1 = src)

/-- Pending bit, overrun or wake, Mail forward, and the end of a background slot at the delivery of a wake line or
interrupt, of one raise (R260, R262, R357), without the raise of the Axle's overrun source. -/
def raiseOnce (src : Nat) (s : State) : State :=
  let cfg := s.rd (EVT_CFG src)
  let s := s.sqMask (EVT_PEND (src / 24)) (word (2 ^ (src % 24)))
  let s := if s.wakePending src then s.rc EVT_CNT EVT_CNT_WOVR
    else if EVT_CFG_WEN.bit cfg then { s with wakePend := s.wakePend ++ [(src, EVT_CFG_WLINE.get cfg)] } else s
  let s := if EVT_CFG_WEN.bit cfg then
    { s with wakePend := s.wakePend.map (fun e => if e.1 = src then (src, EVT_CFG_WLINE.get cfg) else e) } else s
  let s := if EVT_CFG_WEN.bit cfg || (EVT_CFG_INT.bit cfg && decide (EVT_CFG_PRIO.get cfg ≠ 0)) then
    s.setFlag THM_BG THM_BG_ACT false else s
  if EVT_CFG_CPL.bit cfg then
    if s.fld CPL_ADDR CPL_ADDR_SEAT = 0 ∨ 16 ≤ s.cpl.fwdQ.length then s.rc EVT_CNT EVT_CNT_CPLDROP
    else { s with cpl := { s.cpl with fwdQ := s.cpl.fwdQ ++ [(src, EVT_CFG_CGRP.get cfg)] } }
  else s

/-- The pending bit of a source. -/
def State.evPending (s : State) (src : Nat) : Bool := (s.rd (EVT_PEND (src / 24))).getLsbD (src % 24)

/-- Some source with LAN = 1 is pending (R260). -/
def State.lanRequest (s : State) : Bool :=
  (List.range 256).any (fun src => s.evPending src && s.flag (EVT_CFG src) EVT_CFG_LAN)

/-- The fast domain is out of reset and has power (R264, R283). -/
def State.awake (s : State) : Bool :=
  decide (s.bringup.active = none) && (decide (s.power = .stand) || decide (s.power = .drive))

/-- The Lantern core's interrupt request (R271): an event with LAN = 1, a flag in LAN_WSTAT, or the mailbox. -/
def State.lanternIrq (s : State) : Bool :=
  s.lan.mbox || decide ((s.lanW 2).toNat / 2 ^ 15 % 2 ^ 9 ≠ 0) || (s.awake && s.lanRequest)

/-- The Lantern core's clock restarts when its interrupt is requested, and SLEEP is then cleared (R271). -/
def wakeLantern (s : State) : State :=
  if LAN_CTL_SLEEP.bit (s.lanW 0) && s.lanternIrq then s.setLanF 0 LAN_CTL_SLEEP 0 else s

/-- A raise of a source (R260), while the fast clocks run: none without power, and none that survives a reset in effect,
which holds the EVT block cleared (R263, R264, R286; log entry 134). A raise of an Axle timing source that is still
wake-pending also counts AXL_CNTS.OVR and raises the Axle's overrun source (R16, R262). A reserved source never raises
(R259). -/
def State.raise (s : State) (src : Nat) : State :=
  if evReserved src || !s.awake then s
  else
    let again := s.wakePending src && decide (src < 0x40) && decide (src % 16 ≠ 11)
    let s := raiseOnce src s
    wakeLantern
      (if again then raiseOnce (evAxle (src / 16) 11) (s.rc (AXL_CNTS (src / 16)) AXL_CNTS_OVR) else s)

/-- The wake lines that are pending (R260). -/
def State.wakeLines (s : State) : Nat := s.wakePend.foldl (fun m e => m ||| 2 ^ e.2) 0

/-- The interrupt that R261 takes next: the highest level, then the lowest source, of the requests of level 1 up. -/
def State.intRequest (s : State) : Option (Nat × Nat) :=
  (List.range 256).foldl (fun best src =>
    if s.evPending src && s.flag (EVT_CFG src) EVT_CFG_INT then
      let lvl := s.fld (EVT_CFG src) EVT_CFG_PRIO
      if lvl = 0 then best
      else match best with
        | none => some (lvl, src)
        | some (l, _) => if l < lvl then some (lvl, src) else best
    else best) none

/-- Harness controller h is enabled (R276). -/
def State.harnessOn (s : State) (h : Nat) : Bool :=
  if h < 32 then (s.rd PMU_HEN).getLsbD h else (s.fld PMU_HCFG PMU_HCFG_LEN).testBit (h - 32)

/-- Harness controllers that have been enabled since `old` start now (R277). -/
def harnessStarts (old s : State) : State :=
  each ((List.range 36).filter (fun h => s.harnessOn h && !old.harnessOn h))
    (fun h t => { t with harnessAt := mset (fun _ => 0) t.harnessAt h t.now }) s

/-! ### Captures of lost and refused writes -/

/-- The view bit of a capture. -/
def viewBit (v : View) : Nat := match v with | .coachman => 0 | .passenger => 1

/-- A refused write in SYS_REFUSED, with its cause (R36's card): the first one while REF is 0, else MULTI. -/
def captureRefused (v : View) (off : Nat) (cause : Nat) (s : State) : State :=
  if s.flag SYS_REFUSED SYS_REFUSED_REF then s.sq SYS_REFUSED SYS_REFUSED_MULTI
  else
    let w := s.rd SYS_REFUSED
    let w := SYS_REFUSED_VIEW.put w (viewBit v)
    let w := SYS_REFUSED_ADDR.put w (off / 4)
    (s.wr SYS_REFUSED (SYS_REFUSED_CAUSE.put w cause)).sq SYS_REFUSED SYS_REFUSED_REF

/-- A lost write in SYS_WRLOST, with WR_LOST (R32). -/
def captureLost (v : View) (off : Nat) (s : State) : State :=
  let s := if s.flag SYS_WRLOST SYS_WRLOST_LOST then s.sq SYS_WRLOST SYS_WRLOST_MULTI
    else
      let w := SYS_WRLOST_VIEW.put (s.rd SYS_WRLOST) (viewBit v)
      (s.wr SYS_WRLOST (SYS_WRLOST_ADDR.put w (off / 4))).sq SYS_WRLOST SYS_WRLOST_LOST
  s.raise WR_LOST

/-- A write refused for a bad value (R34). -/
def badValue (v : View) (off : Nat) (s : State) : State := (captureRefused v off 0 s).raise BAD_VALUE

/-! ### Memory -/

/-- What a byte of memory reads as that nothing has written: code NVM erased, all ones; every RAM zero, as its
clearing leaves it (R252). DESIGN CHOICE for the NVM, log entry 8. -/
def memDefault (a : Nat) : Byte := if a < 0x01000000 then 0xFF else 0

def State.byte (s : State) (a : Nat) : Byte := mget memDefault s.mem a
def State.setByte (s : State) (a : Nat) (b : Byte) : State := { s with mem := mset memDefault s.mem a b }

/-- Byte k of a value of any width, little-endian. -/
def byteOf {n : Nat} (x : BitVec n) (k : Nat) : Byte := x.extractLsb' (8 * k) 8

/-- A number from bytes, little-endian. -/
def leNat : List Byte → Nat
  | [] => 0
  | b :: bs => b.toNat + 256 * leNat bs

/-- `n` bytes from an address up. -/
def State.bytes (s : State) (a n : Nat) : List Byte := (List.range n).map (fun k => s.byte (a + k))

/-- Write bytes from an address up. -/
def State.setBytes (s : State) (a : Nat) : List Byte → State
  | [] => s
  | b :: bs => (s.setByte a b).setBytes (a + 1) bs

/-- The little-endian word at an address. -/
def State.word32 (s : State) (a : Nat) : Word := word (leNat (s.bytes a 4))

/-- The four bytes of a word, lowest address first. -/
def wordBytes (w : Word) : List Byte := [byteOf w 0, byteOf w 1, byteOf w 2, byteOf w 3]

def State.setWord32 (s : State) (a : Nat) (w : Word) : State := s.setBytes a (wordBytes w)

/-- Fabric time in taps (R311): it stands still between the instants that commands carry. -/
def State.fabric (s : State) : Int := s.now + s.cpl.ofs

/-- The instant that a command carries. -/
def State.at (s : State) (t : Nat) : State := { s with now := max s.now t }

/-! ### Core registers -/

def CoreState.gr (c : CoreState) (r : GReg) : Word := if r = 0 then 0 else mget (fun _ => 0) c.g r.toNat

/-- A write of a general register; a write to g0 is discarded (R47). -/
def CoreState.setG (c : CoreState) (r : GReg) (v : Word) : CoreState :=
  if r = 0 then c else { c with g := mset (fun _ => 0) c.g r.toNat v }

def CoreState.vr (c : CoreState) (r : VReg) : VWord := mget (fun _ => 0) c.v r.toNat
def CoreState.setV (c : CoreState) (r : VReg) (v : VWord) : CoreState :=
  { c with v := mset (fun _ => 0) c.v r.toNat v }
def CoreState.ar (c : CoreState) (r : AReg) : AWord := mget (fun _ => 0) c.acc r.toNat
def CoreState.setA (c : CoreState) (r : AReg) (v : AWord) : CoreState :=
  { c with acc := mset (fun _ => 0) c.acc r.toNat v }
/-- The agreed core of the Troika, or the Lantern core. -/
def State.core (s : State) (h : Hart) : CoreState := match h with
  | .troika => s.troika.core
  | .lantern => s.lan.core

def State.setCore (s : State) (h : Hart) (c : CoreState) : State := match h with
  | .troika => { s with troika := { s.troika with core := c } }
  | .lantern => { s with lan := { s.lan with core := c } }

def State.updCore (s : State) (h : Hart) (f : CoreState → CoreState) : State := s.setCore h (f (s.core h))

def State.updTrk (s : State) (f : Troika → Troika) : State := { s with troika := f s.troika }
def State.updLan (s : State) (f : Lantern → Lantern) : State := { s with lan := f s.lan }
def State.updCpl (s : State) (f : Coupler → Coupler) : State := { s with cpl := f s.cpl }

/-- Control-register numbers of R49. -/
def cMSTAT : Nat := 0
def cESTAT : Nat := 1
def cEPC : Nat := 2
def cECAUSE : Nat := 3
def cEADDR : Nat := 4
def cVBASE : Nat := 5
def cFSTAT : Nat := 6
def cCYCLE : Nat := 7
def cCYCLEH : Nat := 8

/-- A control register of R49; CYCLE and CYCLEH are the halves of one count. -/
def CoreState.cx (c : CoreState) (n : Nat) : Word :=
  if n = cCYCLE then c.cycle.extractLsb' 0 32
  else if n = cCYCLEH then c.cycle.extractLsb' 32 32
  else mget (fun _ => 0) c.cr n

/-- A write of a control register; CYCLE and CYCLEH take no write (R49). -/
def CoreState.setC (c : CoreState) (n : Nat) (v : Word) : CoreState :=
  if n = cCYCLE ∨ n = cCYCLEH then c else { c with cr := mset (fun _ => 0) c.cr n v }

/-- MSTAT fields (R49). -/
def MSTAT_EXC : Fld := ⟨8, 1⟩
def MSTAT_IPL : Fld := ⟨4, 4⟩
def MSTAT_IE : Fld := ⟨1, 1⟩
def MSTAT_MODE : Fld := ⟨0, 1⟩

/-- The core executes in Passenger mode. -/
def CoreState.passenger (c : CoreState) : Bool := MSTAT_MODE.bit (c.cx cMSTAT)

/-- The Troika stops issuing for good (R240, R65): STOP is set. -/
def stopIssue (s : State) : State := s.setFlag TRK_STAT TRK_STAT_STOP true

/-! ### Black-box captures -/

/-- The 13 registers that a capture latches, in the order of R381. -/
def captureRegs (s : State) : List Word :=
  [s.rd SYS_STATE, s.rd SYS_RSTCAUSE, s.rd TRK_STAT, s.rd TRK_LAST, s.rd TRK_LADDR, s.rd BST_RES, s.rd BST_SU,
   s.rd PROT_GSTAT, s.rd PROT_STAT, s.rd MEM_ECCADDR, s.rd THM_MAX, s.rd PMU_REGSTAT, s.lanW 2]

/-- Captures lost, in word 0x3000 [15:0], saturating (R381, R384). -/
def bbLost : Fld := ⟨0, 16⟩

/-- A capture enters the Lantern buffer of two places, or is counted as lost (R383, R384). -/
def capture (kind source : Nat) (s : State) : State :=
  if s.lan.bb.length < 2 then
    s.updLan (fun l => { l with bb := l.bb ++ [⟨kind, source, s.lanW 3, captureRegs s⟩] })
  else s.setLanF 0x3000 bbLost (min (s.lanF 0x3000 bbLost + 1) 0xFFFF)

/-- The Troika stops (R240): STOP, TRK_FATAL and a capture. -/
def trkStop (s : State) : State := capture 1 TRK_FATAL ((stopIssue s).raise TRK_FATAL)

/-- A double fault (R65, R69, R240): the Troika stops with DFLT and TRK_DFLT, with the same result as at any stop; the
Lantern core stops, RUN is cleared and LAN_DFLT is raised to the Troika. -/
def doubleFault (h : Hart) (s : State) : State := match h with
  | .troika => trkStop ((s.sq TRK_STAT TRK_STAT_DFLT).raise TRK_DFLT)
  | .lantern => (s.setLanF 0 LAN_CTL_RUN 0).raise LAN_DFLT

/-- ECAUSE of an exception: its code, with the issue slot on the Troika. -/
def ecauseIn (h : Hart) (code : Nat) (slot : Bool) : Word := match h with
  | .troika => word (code + 256 * b2n slot)
  | .lantern => word code

/-- ECAUSE of an instruction that either slot may hold: the slot is a free value (log entry 13). -/
def ecauseWord (h : Hart) (code : Nat) (draw : Nat) : Word := ecauseIn h code (Config.issueSlot draw)

/-- The status and the pc on entry (R64): MSTAT saved, EPC, ECAUSE and EADDR written, Coachman mode with interrupts
disabled. -/
def enterCore (c : CoreState) (mstat : Word) (epc ecause eaddr : Word) (vec : Nat) : CoreState :=
  let old := c.cx cMSTAT
  let c := c.setC cESTAT old
  let handler := c.cx cVBASE + word vec
  let c := c.setC cEPC epc
  let c := c.setC cECAUSE ecause
  let c := c.setC cEADDR eaddr
  let c := c.setC cMSTAT (MSTAT_IE.put (MSTAT_MODE.put mstat 0) 0)
  { c with pc := handler }

/-- Taking an exception with its ECAUSE (R64): a second one while EXC is 1 is a double fault (R65), and before the first MTC
to VBASE after the release an exception stops the Troika as a double fault does (R290). -/
def enterException (h : Hart) (ecause eaddr epc : Word) (s : State) : State :=
  let c := s.core h
  if MSTAT_EXC.bit (c.cx cMSTAT) then doubleFault h s
  else if h = .troika ∧ s.troika.vbaseWritten = false then doubleFault h s
  else s.setCore h (enterCore c (MSTAT_EXC.put (c.cx cMSTAT) 1) epc ecause eaddr 0)

/-- Taking an exception of an instruction that either issue slot may hold. -/
def takeException (h : Hart) (code : Nat) (eaddr epc : Word) (s : State) : State :=
  (enterException h (ecauseWord h code s.draws) eaddr epc s).drew 1

/-- Taking an exception of an instruction that R61 keeps in slot 0: a system instruction (major 0x04), a blocking one, or
one of format E or M. -/
def takeAlone (h : Hart) (code : Nat) (eaddr epc : Word) (s : State) : State :=
  enterException h (ecauseIn h code false) eaddr epc s

/-- Taking an interrupt of a level (R64). -/
def takeInterrupt (h : Hart) (level : Nat) (s : State) : State :=
  let c := s.core h
  s.setCore h (enterCore c (MSTAT_IPL.put (c.cx cMSTAT) level) c.pc (word (2 ^ 31 + level)) 0
    (0x100 + 0x20 * level))

/-- The bits of MSTAT that its card defines (R49). -/
def mstatBits (h : Hart) : Word := match h with
  | .troika => 0x1F3
  | .lantern => 0x1F2

/-- Return from an exception or interrupt (R64): MSTAT = ESTAT, PC = EPC, whose bits [1:0] are zero (R47). -/
def returnCore (h : Hart) (c : CoreState) : CoreState :=
  { c.setC cMSTAT (c.cx cESTAT &&& mstatBits h) with pc := c.cx cEPC &&& 0xFFFFFFFC }

/-! ### When a core issues -/

/-- The Lantern domain has power (R264). -/
def State.lanternUp (s : State) : Bool := !decide (s.power = .off)

/-- The Troika may issue an instruction: released, not stopped, not paused for a copy or a path test, not halted
unless a single step is armed, and no earlier instruction still waits (R87, R90, R239, R240, R246). -/
def State.trkIssues (s : State) : Bool :=
  let t := s.rd TRK_STAT
  s.awake && s.troika.released && !TRK_STAT_STOP.bit t && !TRK_STAT_RESYNC.bit t
    && (!TRK_STAT_HALT.bit t || s.troika.stepArmed) && decide (s.troika.wait = .none) && !s.troika.heldAccess

/-- The Lantern core may issue: RUN = 1 and not asleep (R270, R271). -/
def State.lanIssues (s : State) : Bool :=
  s.lanternUp && LAN_CTL_RUN.bit (s.lanW 0) && !LAN_CTL_SLEEP.bit (s.lanW 0)

def State.issues (s : State) (h : Hart) : Bool := match h with
  | .troika => s.trkIssues
  | .lantern => s.lanIssues

/-- Cause 0x09 of the oldest failed remote store, at an instruction boundary (R63). -/
def deliverImprecise (s : State) : State := match s.troika.imprecise with
  | [] => s
  | a :: rest =>
    if s.trkIssues then
      takeException .troika 0x09 a (s.core .troika).pc (s.updTrk (fun t => { t with imprecise := rest }))
    else s

/-- A single step lasts until its instruction has completed: one that waits, or whose access is held, finishes under it
(R241, R247). -/
def stepOver (s : State) : State :=
  if s.troika.wait = .none ∧ s.troika.heldAccess = false then s.updTrk (fun t => { t with stepArmed := false }) else s

/-- CYCLE and CYCLEH after an instruction of the Troika: the issue cycles are a free value (log entry 12). -/
def countCycles (s : State) : State :=
  let c := { s.troika.core with cycle := s.troika.core.cycle + BitVec.ofNat 64 (Config.issueCycles s.draws) }
  (stepOver { s with troika := { s.troika with core := c } }).drew 1

/-- One instruction issues on a core, if the core may issue: its effect, then the cycle count and an imprecise error
that is due. -/
def issue (h : Hart) (body : State → State) (s : State) : Out :=
  if s.issues h then
    match h with
    | .troika => .next (deliverImprecise (countCycles (body s)))
    | .lantern => .next (body s)
  else .next s

/-- The instruction retires and the next one follows it. -/
def CoreState.advance (c : CoreState) : CoreState := { c with pc := c.pc + 4 }

/-- Retire with a change of the core's registers. -/
def retire (h : Hart) (f : CoreState → CoreState) (s : State) : State := s.updCore h (fun c => (f c).advance)

/-- An exception of the instruction itself (R64): EPC is its own address. -/
def fail (h : Hart) (code : Nat) (eaddr : Word) (s : State) : State := takeException h code eaddr (s.core h).pc s

/-- An exception of an instruction that R61 keeps in slot 0. -/
def failAlone (h : Hart) (code : Nat) (eaddr : Word) (s : State) : State := takeAlone h code eaddr (s.core h).pc s

/-- An illegal instruction (R63); one that R61 keeps in slot 0. -/
def illegal (h : Hart) (s : State) : State := fail h 0x01 0 s
def illegalAlone (h : Hart) (s : State) : State := failAlone h 0x01 0 s

/-- An encoding that names g16 to g31 is illegal on the Lantern core (R68). -/
def lowRegs (h : Hart) (rs : List GReg) : Bool := match h with
  | .troika => true
  | .lantern => rs.all (fun r => decide (r.toNat < 16))

end Sys2Proof.Machine
end

