-- ==== Sys2Proof/Machine/MemAccess.lean ====
section
/-! DEFINITION. The memories behind the Troika's address map, their ECC (R24, R25, R251, R253, R254), the
store buffer (R60), and the vote on an access (R233 to R243). -/

namespace Sys2Proof.Machine

open Sys2Proof

/-! ### The address map -/

/-- What an address of the Troika reaches (R24, R25). -/
inductive Region where
  | nvm | sram | tandem
  | table (n : Nat)
  | view (v : View) (off : Nat)
  | window (d : Nat) (off : Nat)
  | unmapped
  deriving DecidableEq, Repr

/-- The region of an address (R24). -/
def region (a : Nat) : Region :=
  if a < 0x01000000 then .nvm
  else if 0x10000000 ≤ a ∧ a < 0x10800000 then .sram
  else if 0x10800000 ≤ a ∧ a < 0x10840000 then .tandem
  else if 0x20000000 ≤ a ∧ a < 0x20080000 then
    if (a - 0x20000000) % 0x20000 < 0x18000 then .table ((a - 0x20000000) / 0x20000) else .unmapped
  else if 0x40000000 ≤ a ∧ a < 0x40200000 then .view .coachman (a - 0x40000000)
  else if 0x50000000 ≤ a ∧ a < 0x50200000 then .view .passenger (a - 0x50000000)
  else if 0x61000000 ≤ a ∧ a < 0x81000000 then
    if a % 0x01000000 < 0x200000 then .window (a / 0x01000000 - 0x60) (a % 0x01000000) else .unmapped
  else .unmapped

/-- Bytes of one ECC word: 8, and 4 in table memory (R251). -/
def eccUnit (a : Nat) : Nat := match region a with
  | .table _ => 4
  | _ => 8

/-- REGION of MEM_ECCADDR. -/
def eccRegion (a : Nat) : Nat := match region a with
  | .tandem => 1
  | .table _ => 2
  | .nvm => 3
  | _ => 0

/-- A corrected or uncorrectable error is counted, captured and raised (R251). -/
def noteEcc (unc : Bool) (a : Nat) (s : State) : State :=
  let st := s.rd MEM_STAT
  let s := if !MEM_STAT_CE.bit st && !MEM_STAT_UE.bit st then
      s.wr MEM_ECCADDR (word (a / 8 * 8 + 4 * b2n unc + eccRegion a)) else s
  if unc then ((s.rc MEM_ECCCNT MEM_ECCCNT_UE).sq MEM_STAT MEM_STAT_UE).raise (evMem 1)
  else ((s.rc MEM_ECCCNT MEM_ECCCNT_CE).sq MEM_STAT MEM_STAT_CE).raise (evMem 0)

/-- The ECC word that holds an address. -/
def unitBase (a : Nat) : Nat := a / eccUnit a * eccUnit a

/-- The word that holds an address reads as uncorrectable: it holds the poison pattern (R251). -/
def State.poisoned (s : State) (a : Nat) : Bool := s.poison.contains (unitBase a)

def State.setPoison (s : State) (a : Nat) (on : Bool) : State :=
  { s with poison := if on then insertRising s.poison (unitBase a) else s.poison.filter (fun x => x ≠ unitBase a) }

/-- The half of the NVM on which a command runs (R254). -/
def nvmBusyHalf (s : State) : Option Nat := s.nvm.map (fun c => c.addr / 0x800000)

/-- The address lies in the NVM half of a running command (R254). -/
def State.nvmBlocked (s : State) (a : Nat) : Bool := match nvmBusyHalf s with
  | some h => decide (region a = .nvm) && decide (a / 0x800000 = h)
  | none => false

/-! ### Clearing (R252) -/

/-- The address lies in a memory that is cleared. -/
def inClearMem (m : ClearMem) (a : Nat) : Bool := match m, region a with
  | .mainSram, .sram => true
  | .tandem, .tandem => true
  | .table, .table _ => true
  | _, _ => false

/-- A memory reads zero with valid check bits. -/
def clearMemory (m : ClearMem) (s : State) : State :=
  let s := { s with mem := s.mem.filter (fun c => !inClearMem m c.1), poison := s.poison.filter (fun a => !inClearMem m a),
                    spareMem := if m = .mainSram then [] else s.spareMem }
  if m = .lantern then s.updLan (fun l => { l with ram := [] }) else s

/-- A memory whose clearing has not ended is cleared, and the clearing is over. An access that arrives before waits for it
(R252): its effect is that of one after the end. -/
def waitCleared (m : ClearMem) (s : State) : State :=
  if s.bringup.uncleared.contains m then
    let s := clearMemory m s
    { s with bringup := { s.bringup with uncleared := s.bringup.uncleared.filter (fun x => x ≠ m) } }
  else s

/-- An access to an address waits for the clearing of its memory (R252). -/
def waitFor (a : Nat) (s : State) : State := match region a with
  | .sram => waitCleared .mainSram s
  | .tandem => waitCleared .tandem s
  | .table _ => waitCleared .table s
  | _ => s

/-! ### The banks of main SRAM (R249, R250) -/

/-- Logical bank and word index of an address of main SRAM (R249). -/
def sramBank (a : Nat) : Nat := a / 8 % 16
def sramIndex (a : Nat) : Nat := a / 128 % 65536

/-- Offset of a byte in its bank. -/
def bankByte (a : Nat) : Nat := 8 * sramIndex a + a % 8

/-- The physical bank of a logical one, and back (R249). -/
def physBank (spare b : Nat) : Nat := if b < spare then b else b + 1
def logBank (spare p : Nat) : Nat := if p < spare then p else p - 1

/-- The physical bank that the next rotation step releases, and the direction in which the spare then moves: down from 16
to 0, then up. -/
def State.rotationSource (s : State) : Nat × Bool :=
  let sp := s.rd MEM_SPARE
  let n := MEM_SPARE_SPARE.get sp
  let down := if n = 0 then false else if 16 ≤ n then true else MEM_SPARE_DOWN.bit sp
  (if down then n - 1 else n + 1, down)

/-- The logical bank that a migration copies (R250). -/
def State.migBank (s : State) : Nat := logBank (s.fld MEM_SPARE MEM_SPARE_SPARE) s.rotationSource.1

/-- The pointer of the migration goes on to `p`: the words that it passes are copied into the spare (R250). -/
def migCopy (p : Nat) (s : State) : State :=
  let b := s.migBank
  let lo := s.migPtr
  let cells := s.mem.filterMap (fun c =>
    if region c.1 = .sram ∧ sramBank c.1 = b ∧ lo ≤ sramIndex c.1 ∧ sramIndex c.1 < p then some (bankByte c.1, c.2) else none)
  if p ≤ lo then s
  else { s with migPtr := p, spareMem := s.spareMem.filter (fun e => decide (e.1 < 8 * lo)) ++ cells
                                          ++ s.spareMem.filter (fun e => decide (8 * p ≤ e.1)) }

/-- Bytes written into main SRAM while it migrates (R250): below the pointer, whose place at that instant is open, they go
to both banks. -/
def migWrite (a : Nat) (bs : List Byte) (s : State) : State :=
  if s.flag MEM_SPARE MEM_SPARE_MIG && decide (region a = .sram) && decide (sramBank a = s.migBank) then
    let s := (migCopy (Config.freeNat s.draws % 65537) s).drew 1
    let put := fun m k => mset (fun _ => (0 : Byte)) m (bankByte (a + k)) (bs.getD k 0)
    if sramIndex a < s.migPtr then { s with spareMem := (List.range bs.length).foldl put s.spareMem } else s
  else s

/-- Bytes written inside one ECC word of a memory. -/
def State.putBytes (s : State) (a : Nat) (bs : List Byte) : State := (migWrite a bs s).setBytes a bs

/-- What a memory read finds: its state with the ECC note, and whether the data is good. -/
def memCheck (a : Nat) (e : Ecc) (s : State) : State × Bool :=
  if s.poisoned a || decide (e = .uncorrectable) then (noteEcc true a s, false)
  else if e = .corrected then (noteEcc false a s, true)
  else (s, true)

/-- A Troika write of bytes inside one ECC word (R251): a write of less than the word into an uncorrectable word leaves
the poison pattern, and the bytes are lost; a write of the whole word removes poison. -/
def memWriteUnit (a : Nat) (bs : List Byte) (e : Ecc) (s : State) : State :=
  if eccUnit a ≤ bs.length then (s.setPoison a false).putBytes a bs
  else if s.poisoned a || decide (e = .uncorrectable) then (noteEcc true a s).setPoison a true
  else (if e = .corrected then noteEcc false a s else s).putBytes a bs

/-- A memory write of any size: a vector write covers two or four ECC words. -/
def memWrite (a : Nat) (bs : List Byte) (e : Ecc) (s : State) : State :=
  if bs.length ≤ eccUnit a then memWriteUnit a bs e s
  else (List.range (bs.length / eccUnit a)).foldl
    (fun t k => memWriteUnit (a + eccUnit a * k) ((bs.drop (eccUnit a * k)).take (eccUnit a)) .clean t) s

/-- Port F of Tandem RAM writes the same word in the same cycle (R253): the port T write applies, TCOL and MEM_TCOL. -/
def tandemCollision (a : Nat) (portF : Bool) (s : State) : State :=
  if portF && decide (region a = .tandem) then (s.sq MEM_STAT MEM_STAT_TCOL).raise (evMem 2) else s

/-! ### The store buffer (R60) -/

/-- A buffered store reaches its memory (R60, R251 to R253). -/
def performStore (a : Nat) (bs : List Byte) (e : Ecc) (portF : Bool) (s : State) : State :=
  tandemCollision a portF (memWrite a bs e (waitFor a s))

/-- The stores to memory ahead of the first COMMIT. -/
def leadStores : List BufEntry → Nat
  | .store _ _ _ _ :: rest => leadStores rest + 1
  | _ => 0

/-- Up to n of the oldest stores to memory leave the buffer, in order, up to the first COMMIT. -/
def drainLead : Nat → State → State
  | 0, s => s
  | n + 1, s => match s.troika.storeBuf with
    | .store a bs e portF :: rest => drainLead n (performStore a bs e portF (s.updTrk (fun t => { t with storeBuf := rest })))
    | _ => s

/-- Another master of the memories acts (R60): how many of the stores that still wait have reached them by then is a free
value. -/
def busView (s : State) : State :=
  let n := leadStores s.troika.storeBuf
  if n = 0 then s else (drainLead (Config.freeNat s.draws % (n + 1)) s).drew 1

/-- The byte that the youngest buffered store to an address holds. -/
def bufByte (buf : List BufEntry) (a : Nat) : Option Byte :=
  buf.foldl (fun found e => match e with
    | .store b bs _ _ => if b ≤ a ∧ a < b + bs.length then some (bs.getD (a - b) 0) else found
    | .commit _ => found) none

/-- A byte as the cores read it: from the store buffer, else from memory. -/
def State.coreByte (s : State) (a : Nat) : Byte := (bufByte s.troika.storeBuf a).getD (s.byte a)
def State.coreBytes (s : State) (a n : Nat) : List Byte := (List.range n).map (fun k => s.coreByte (a + k))

/-- Buffered stores hold all of n bytes. -/
def State.forwards (s : State) (a n : Nat) : Bool := (List.range n).all (fun k => (bufByte s.troika.storeBuf (a + k)).isSome)

/-- The ECC words of `n` bytes are checked (R251): the state with the note, and whether the data is good. The word that is
noted is one that holds poison, else the one in which the read meets its finding. -/
def readCheck (a n : Nat) (env : Env) (s : State) : State × Bool :=
  let words := (n + eccUnit a - 1) / eccUnit a
  let k := ((List.range words).find? (fun k => s.poisoned (a + eccUnit a * k))).getD (env.eccWord % max words 1)
  memCheck (a + eccUnit a * k) env.ecc s

/-! ### The vote -/

/-- What kind of voted item differs, as TRK_LAST.KIND. -/
def kAccess : Nat := 0
def kXch : Nat := 1
def kSignature : Nat := 2
def kCopy : Nat := 3

/-- Unconfirmed isolations of a core (R241). -/
def State.unconfOf (s : State) (k : Nat) : Nat := mget (fun _ => 0) s.troika.unconf k

/-- Times a core has been isolated since the reset (R239). -/
def State.isosOf (s : State) (k : Nat) : Nat := mget (fun _ => 0) s.troika.isoCount k

/-- TRK_LAST and TRK_LADDR of a finding; core 3 is none or unlocated. -/
def setFinding (core kind addr fields : Nat) (s : State) : State :=
  let w := TRK_LAST_CORE.put 0 core
  let w := TRK_LAST_KIND.put w kind
  let w := TRK_LAST_UCNT.put w (if core < 3 then s.unconfOf core else 0)
  let s := s.wr TRK_LAST (TRK_LAST_FIELDS.put w fields)
  s.wr TRK_LADDR (if kind = kSignature then 0 else word addr)

/-- An unlocated fault found at a vote: UNLOC, and the Troika stops (R238, R240). -/
def unlocated (s : State) : State := trkStop (s.sq TRK_STAT TRK_STAT_UNLOC)

/-- TRK_DBG.LEADOUT shows that the Lead is isolated or excluded (R246). -/
def setLeadOut (s : State) : State :=
  let t := s.rd TRK_STAT
  s.setFlag TRK_DBG TRK_DBG_LEADOUT (decide ((TRK_STAT_ISO.get t ||| TRK_STAT_PERM.get t) % 2 = 1))

/-- Exclude a core until reset (R239, R243, R291): PERM, DUAL, the service flag and TRK_SVC. A recovery of that core is
over, with its copy pause. -/
def excludeCore (k : Nat) (s : State) : State :=
  let t := s.rd TRK_STAT
  let s := if (TRK_STAT_ISO.get t).testBit k then s.updTrk (fun t => { t with rejoinReady := false, copying := false }) else s
  let s := ((s.setFld TRK_STAT TRK_STAT_PERM (TRK_STAT_PERM.get t ||| 2 ^ k)).setFld TRK_STAT TRK_STAT_ISO
    (TRK_STAT_ISO.get t &&& (7 - 2 ^ k))).setFlag TRK_STAT TRK_STAT_DUAL true
  (setLeadOut (s.sq TRK_STAT TRK_STAT_SVC)).raise TRK_SVC

/-- Isolate a core (R238, R239): ISO and DUAL; at the isolation after MAXISO earlier ones it is excluded. -/
def isolateCore (k : Nat) (s : State) : State :=
  let n := s.isosOf k
  let s := s.updTrk (fun t => { t with
    isoCount := mset (fun _ => 0) t.isoCount k (n + 1), rejoinReady := false, copying := false })
  let s := (s.setFld TRK_STAT TRK_STAT_ISO (s.fld TRK_STAT TRK_STAT_ISO ||| 2 ^ k)).setFlag TRK_STAT TRK_STAT_DUAL true
  setLeadOut (if s.fld TRK_CFG TRK_CFG_MAXISO ≤ n then excludeCore k s else s)

/-- A located mismatch of a core (R238). -/
def coreMismatch (k kind addr fields : Nat) (s : State) : State :=
  isolateCore k ((((setFinding k kind addr fields s).sq TRK_STAT TRK_STAT_MISM).rc TRK_CNT TRK_CNT_MISM).raise
    TRK_MISMATCH)

/-- A voter-copy disagreement (R241): VCD, the access is held and the path test runs. -/
def copyDisagreement (addr fields : Nat) (s : State) : State :=
  let s := setFinding 3 kCopy addr fields s
  let s := ((s.sq TRK_STAT TRK_STAT_VCD).rc TRK_CNT TRK_CNT_VCD).raise TRK_VCD
  (s.setFlag TRK_STAT TRK_STAT_RESYNC true).updTrk (fun t => { t with heldAccess := true })

/-- A core's lane differs from the two others, or from that of its pair (R238): with all three cores in service it is
isolated; in DUAL the fault cannot be located, and an isolated core takes no part. `body` is performed but in the second
case. -/
def oddLane (k : Fin 3) (kind addr fields : Nat) (body : State → State) (s : State) : State :=
  let st := s.rd TRK_STAT
  if TRK_STAT_DUAL.bit st then
    if (TRK_STAT_ISO.get st ||| TRK_STAT_PERM.get st).testBit k.val then body s
    else unlocated (setFinding 3 kind addr fields s)
  else body (coreMismatch k.val kind addr fields s)

/-- The bit of the valid field (R234). -/
def fValid : Nat := 1

/-- The vote on one item that leaves the cores (R238): perform it, perform it and isolate the odd core, stop the Troika
without it, or hold it. In DUAL only the pair can differ; on one voter copy the copies cannot disagree (R243). A lane that
one core alone shows differs in the valid field; no majority has an address for it, and TRK_LADDR takes that of the access
that follows (log entry 135). -/
def vote (kind addr : Nat) (v : Vote) (perform : State → State) (s : State) : State :=
  match v with
  | .agree => perform s
  | .odd k f => oddLane k kind addr f.toNat perform s
  | .extra k => oddLane k kind addr fValid perform s
  | .allDiffer f => unlocated (setFinding 3 kind addr f.toNat s)
  | .pairDiffers f => if s.flag TRK_STAT TRK_STAT_DUAL then unlocated (setFinding 3 kind addr f.toNat s) else perform s
  | .copiesDisagree f => if s.fld TRK_STAT TRK_STAT_VOTER = 0 then copyDisagreement addr f.toNat s else perform s

/-- The instruction whose access has just been held is kept for the re-vote (R241). -/
def heldBy (i : Instr) (body : State → State) (s : State) : State :=
  let t := body s
  if t.troika.heldAccess && !s.troika.heldAccess then t.updTrk (fun x => { x with heldInstr := some i }) else t

end Sys2Proof.Machine
end

