-- ==== Sys2Proof/Machine/Gate.lean ====
section
/-! DEFINITION. Positions and legs (R111 to R134): the composing of a position's command, the short-interval rule, the
states of R119 with interlock and dead time, entry to and exit from SAFE, the Evener and adaptive dead time. -/

namespace Sys2Proof.Machine

open Sys2Proof

/-! ### Mapping -/

/-- The other position of the leg (R112). -/
def partner (p : Nat) : Nat := if p % 2 = 0 then p + 1 else p - 1

/-- States of R119 as POS_STAT.STATE codes them. -/
def pOFF : Nat := 0
def pOFFP : Nat := 1
def pARM : Nat := 2
def pON : Nat := 3
def pSAFE : Nat := 4

def State.posState (s : State) (p : Nat) : Nat := s.fld (POS_STAT p) POS_STAT_STATE
def State.setPosState (s : State) (p st : Nat) : State := s.setFld (POS_STAT p) POS_STAT_STATE st

/-- A word of the mapping in force: for a leg that the keeper holds the one at the assertion of the warm reset, else the
register's (R206). -/
def State.inForce (s : State) (off : Nat) : Word := (mfind s.kept off).getD (s.rd off)

/-- The keeper holds the leg (R206). -/
def State.heldLeg (s : State) (l : Nat) : Bool := (s.lg l).causes.contains .keeper

/-- The Axle of a leg; 4 for none (R113). -/
def State.legAxle (s : State) (l : Nat) : Nat := LEG_CFG_AXLE.get (s.inForce (LEG_CFG l))

/-- The legs of an Axle, and its phase legs (R112, R113). -/
def State.legsOf (s : State) (a : Nat) : List Nat := (List.range 32).filter (fun l => s.legAxle l = a)
def State.phaseLegs (s : State) (a : Nat) : List Nat := (List.range 24).filter (fun l => s.legAxle l = a)

/-- The counter of the Axle runs (R103). -/
def State.running (s : State) (a : Nat) : Bool := s.flag (AXL_STAT a) AXL_STAT_RUNNING

/-- Full service (R290). -/
def State.full (s : State) : Bool := s.flag SYS_STATE SYS_STATE_SERVICE

/-- HYS_STAT.MODE of an Axle, and whether the Axle is under the fallback (R189). -/
def State.hysMode (s : State) (a : Nat) : Nat := s.fld (HYS_STAT a) HYS_STAT_MODE
def State.underFallback (s : State) (a : Nat) : Bool := decide (1 ≤ s.hysMode a) && decide (s.hysMode a ≤ 3)

/-- The gate channels of the leg work on the Dray oscillator (R132, R290). -/
def State.legOnDray (s : State) (l : Nat) : Bool :=
  if s.legAxle l < 4 then (s.ax (s.legAxle l)).onDray else !s.full

/-- The position of a channel, and whether it is mapped to it (R111); a channel joins a leg that the keeper holds only at
the end of the hold (R206). -/
def State.chanPos (s : State) (c : Nat) : Nat := GCH_CFG_POS.get (s.inForce (GCH_CFG c))
def State.chanEn (s : State) (c : Nat) : Bool :=
  GCH_CFG_EN.bit (s.inForce (GCH_CFG c)) && ((mfind s.kept (GCH_CFG c)).isSome || !s.heldLeg (s.chanPos c / 2))

/-- A channel is mapped to a position (R111). -/
def State.mappedTo (s : State) (p c : Nat) : Bool := s.chanEn c && decide (s.chanPos c = p)

/-- The mapped channels of a position, and those that are not excluded (R112, R121). -/
def State.chans (s : State) (p : Nat) : List Nat := (List.range 256).filter (s.mappedTo p)
def State.liveChans (s : State) (p : Nat) : List Nat :=
  (s.chans p).filter (fun c => !s.flag (GCH_STAT c) GCH_STAT_EXCLD)

def State.gak (s : State) (c : Nat) : Bool := s.flag (GCH_STAT c) GCH_STAT_GAK
def State.gdo (s : State) (c : Nat) : Bool := s.flag (GCH_STAT c) GCH_STAT_GDO

/-- A position shows off when every mapped channel has GAK low (R118). -/
def State.showsOff (s : State) (p : Nat) : Bool := (s.chans p).all (fun c => !s.gak c)

/-- A position with a mapped channel; one without is unused and stays off (R112). -/
def State.used (s : State) (p : Nat) : Bool := !(s.chans p).isEmpty

/-- A position shows on when every live channel has GAK high (R118); an unused position never does (R112). -/
def State.showsOn (s : State) (p : Nat) : Bool := !(s.liveChans p).isEmpty && (s.liveChans p).all s.gak

/-- A mapped channel shows the level of its acknowledge pin; an unmapped one holds GDO low (R111, R118). -/
def joinChannel (c : Nat) (s : State) : State :=
  if s.chanEn c then s.setFlag (GCH_STAT c) GCH_STAT_GAK (s.ch c).pin
  else s.setFlag (GCH_STAT c) GCH_STAT_GDO false

/-- POS_STAT.NCH and LIVE follow the mapping and the exclusions. -/
def countPos (p : Nat) (s : State) : State :=
  (s.setFld (POS_STAT p) POS_STAT_NCH (s.chans p).length).setFld (POS_STAT p) POS_STAT_LIVE (s.liveChans p).length

/-! ### Times -/

/-- A time of 1.25 ns steps in Dray service: ceil(1.09 × value / 5 ns) cycles, as steps (R132). -/
def draySteps (n : Nat) : Nat := (109 * n + 399) / 400 * 4

/-- Dead time of the release of position `p`, 1.25 ns steps (R119, R132). -/
def State.deadTime (s : State) (p : Nat) : Nat :=
  let l := p / 2
  if s.legOnDray l then draySteps (s.fld (LEG_DT l) LEG_DT_DTMIN)
  else if p % 2 = 1 then s.fld (LEG_DTEFF l) LEG_DTEFF_DT_HL else s.fld (LEG_DTEFF l) LEG_DTEFF_DT_LH

/-- Threshold TH of a leg in taps (R122, R132). -/
def State.th (s : State) (l : Nat) : Nat :=
  let m := s.fld (LEG_TIM l) LEG_TIM_MINPULSE
  if s.legOnDray l then 32 * draySteps (max m (s.fld (LEG_DT l) LEG_DT_DTMIN))
  else 32 * max m (max (s.fld (LEG_DTEFF l) LEG_DTEFF_DT_HL) (s.fld (LEG_DTEFF l) LEG_DTEFF_DT_LH))

/-! ### GDO edges -/

/-- Insertion delay and trim of an edge of a channel (R117), on a whole tick, taps rounded half up, where its delay line
is not calibrated (R125); in Dray service neither delay nor trim (R132). -/
def edgeAt (s : State) (p c : Nat) (level : Bool) (t : Nat) : Nat :=
  if s.legOnDray (p / 2) then t
  else
    let trim := s.sfld (GCH_TRIM c) (if level then GCH_TRIM_TRIM_ON else GCH_TRIM_TRIM_OFF)
    let e := ((t : Int) + 64 + trim).toNat
    if s.flag (GCH_STAT c) GCH_STAT_COARSE then (e + 16) / 32 * 32 else e

/-- A GDO level at a reference instant; a change is an edge that the converter and the timeout watch (R121, R126). -/
def setGdo (p : Nat) (level : Bool) (t : Nat) (c : Nat) (s : State) : State :=
  if s.gdo c = level then s
  else
    let e := edgeAt s p c level t
    (s.setFlag (GCH_STAT c) GCH_STAT_GDO level).updCh c (fun x => { x with edge := some (level, e) })

/-- The clock that times acknowledgements runs: PLL-T in Full service, the Dray oscillator before it (R121). -/
def State.gateClock (s : State) : Bool :=
  s.awake && (if s.full then s.flag SYS_CLK SYS_CLK_TLOCK else s.bringup.drayAvail)

/-- A GDO level without insertion delay and trim, on the clockless path; its acknowledgement is watched where a clock
runs (R121, R123). -/
def setGdoAsync (level : Bool) (c : Nat) (s : State) : State :=
  if s.gdo c = level then s
  else
    let t := s.now
    let e := if s.gateClock then some (level, t) else none
    (s.setFlag (GCH_STAT c) GCH_STAT_GDO level).updCh c (fun x => { x with edge := e })

/-! ### States of R119 -/

/-- The position has a falling reference instant now: its partner's dead time starts with the value in force (R119). -/
def markFall (p : Nat) (s : State) : State :=
  let t := s.now
  let dt := s.deadTime (partner p)
  (s.updPs p (fun x => { x with fallAt := t, shownOn := false, sdtDone := false })).updPs (partner p)
    (fun x => { x with dtInForce := dt })

/-- The excluded channels of a position that falls, whose GAK is high: each must go low within ACKTO (R121). -/
def watchExcluded (p : Nat) (s : State) : State :=
  each ((s.chans p).filter (fun c => s.flag (GCH_STAT c) GCH_STAT_EXCLD && s.gak c))
    (fun c t => t.updCh c (fun x => { x with watch := true })) s

/-- ON to OFFP, and to OFF where the position shows off (R119). -/
def fallPos (p : Nat) (s : State) : State :=
  let s := watchExcluded p (markFall p s)
  let s := each (s.liveChans p) (setGdo p false s.now) s
  s.setPosState p (if s.showsOff p then pOFF else pOFFP)

/-- The command turns off (R119). -/
def commandOff (p : Nat) (s : State) : State :=
  if s.posState p = pON then fallPos p s
  else if s.posState p = pARM then s.setPosState p (if s.showsOff p then pOFF else pOFFP)
  else s

/-- The command turns on: ARM, with a conflict where the partner is in ARM or ON (R119, R120). -/
def commandOn (p : Nat) (s : State) : State :=
  let q := s.posState (partner p)
  let s := s.setPosState p pARM
  if q = pARM ∨ q = pON then
    ((s.sq (LEG_STAT (p / 2)) LEG_STAT_CONFLICT).rc (LEG_CNT (p / 2)) LEG_CNT_CONF).raise (evGate 0)
  else s

/-- The position follows its command: a command turned off. -/
def followOff (p : Nat) (s : State) : State :=
  let x := s.ps p
  if x.acted && !x.cmd then
    let s := s.updPs p (fun y => { y with acted := false })
    if s.posState p = pSAFE then s else commandOff p s
  else s

/-- The position follows its command: a command turned on; an unused position stays off (R112). -/
def followOn (p : Nat) (s : State) : State :=
  let x := s.ps p
  if !x.acted && x.cmd && s.used p then
    let s := s.updPs p (fun y => { y with acted := true })
    if s.posState p = pSAFE then s else commandOn p s
  else s

/-- Both positions of a leg follow their commands; those that turn off in the cycle first (R119, R120). -/
def followLeg (l : Nat) (s : State) : State :=
  followOn (2 * l + 1) (followOn (2 * l) (followOff (2 * l + 1) (followOff (2 * l) s)))

/-! ### Steps 1 and 2 of R115 -/

/-- A slot of the commit map is valid, and the position it names (R97). -/
def State.slotValid (s : State) (a k : Nat) : Bool := (s.rd (AXL_CMAP a (k / 4))).getLsbD (8 * (k % 4) + 7)
def State.slotPos (s : State) (a k : Nat) : Nat := s.fld (AXL_CMAP a (k / 4)) ⟨8 * (k % 4), 6⟩

/-- The slot that governs a position: the lowest valid one that names it, if the position is the Axle's (R97). -/
def State.slotOf (s : State) (a p : Nat) : Option Nat :=
  if s.legAxle (p / 2) = a then (List.range 16).find? (fun k => s.slotValid a k && decide (s.slotPos a k = p)) else none

/-- Some slot produces the raw command of the position (R97). -/
def State.hasSlot (s : State) (p : Nat) : Bool := (s.slotOf (s.legAxle (p / 2)) p).isSome

/-- Leg levels of a voltage vector, phase 0 to 2 (R187). -/
def vecBit (v ph : Nat) : Bool :=
  let t := [0b000, 0b100, 0b110, 0b010, 0b011, 0b001, 0b101, 0b111].getD v 0
  t.testBit (2 - ph)

/-- The legs of a HYS set. -/
def State.setLegs (s : State) (k : Nat) : List Nat :=
  [s.fld (HYS_SET k) HYS_SET_LEGA, s.fld (HYS_SET k) HYS_SET_LEGB, s.fld (HYS_SET k) HYS_SET_LEGC]

/-- The enabled HYS sets of an Axle (R183). -/
def State.setsOf (s : State) (a : Nat) : List Nat :=
  (List.range 8).filter (fun k => s.flag (HYS_SET k) HYS_SET_EN && decide (s.legAxle (s.fld (HYS_SET k) HYS_SET_LEGA) = a))

/-- The enabled HYS set of a leg with its phase number. -/
def State.setOfLeg (s : State) (l : Nat) : Option (Nat × Nat) :=
  (List.range 8).findSome? (fun k =>
    if s.flag (HYS_SET k) HYS_SET_EN then
      let ls := s.setLegs k
      if ls.getD 0 99 = l then some (k, 0) else if ls.getD 1 99 = l then some (k, 1)
      else if ls.getD 2 99 = l then some (k, 2) else none
    else none)

/-- What the first step of R115 gives a leg: off as a whole, the chopper's command for one position, levels of the HYS
vector for high and low, or the raw commands. -/
inductive LegSource where
  | off
  | chopper (high on : Bool)
  | vector (high : Bool)
  | raw
  deriving DecidableEq, Repr

/-- Step 1 of R115 (R192: in MODE 3 off, but for a probe, which is vector 0). -/
def State.legSource (s : State) (l : Nat) : LegSource :=
  if s.flag PROT_CHOP PROT_CHOP_EN && decide (s.fld PROT_CHOP PROT_CHOP_LEG = l) then
    .chopper (!s.flag PROT_CHOP PROT_CHOP_CPOS) s.chop.on
  else if 4 ≤ s.legAxle l then .off
  else
    let a := s.legAxle l
    if s.hysMode a = 1 then
      match s.setOfLeg l with
      | some (k, ph) => .vector (vecBit (s.fld (HYS_SSTAT k) HYS_SSTAT_VEC) ph)
      | none => .off
    else if s.hysMode a = 3 ∧ (s.ax a).probing ∧ (s.setOfLeg l).isSome then .vector false
    else if s.underFallback a then .off
    else .raw

/-- The position takes the inverse of its partner's command (R114, R115). Where the leg's source is off as a whole it is
off too (log entry 24). -/
def State.complementary (s : State) (p : Nat) : Bool :=
  decide (p % 2 = 1) && s.flag (POS_CFG p) POS_CFG_COMP &&
    (match s.legSource (p / 2) with | .raw => true | .vector _ => true | _ => false)

/-- Step 1 of R115 for one position. DESIGN CHOICE (log entry 147): under the fallback the low position of a leg without
COMP takes the inverse of the vector level, and a leg of the Axle that is in no set is off. -/
def State.sourceOn (s : State) (p : Nat) : Bool :=
  if s.complementary p then !(s.ps (partner p)).cmd
  else match s.legSource (p / 2) with
    | .off => false
    | .chopper high on => on && decide ((p % 2 = 0) = high)
    | .vector high => decide ((p % 2 = 0) = high)
    | .raw => (s.ps p).raw && s.hasSlot p

/-- Entry k of POS_MASK.MSET (R116). -/
def msetEntry (k : Nat) : Fld := ⟨16 + 2 * k, 2⟩

/-- The mask in force (R116). DESIGN CHOICE (log entry 148): with MSRC = 1 a leg of no Axle (AXLE = 4), which has no
commutation index, takes the mask of index 0. -/
def State.maskOf (s : State) (p : Nat) : Nat :=
  let src := s.fld (POS_CFG p) POS_CFG_MSRC
  if src = 0 then s.fld (POS_MASK p) POS_MASK_MASK
  else
    let idx := if src = 1 then
        (if s.legAxle (p / 2) < 4 then s.fld (TTU_STAT (s.legAxle (p / 2))) TTU_STAT_CIDX else 0)
      else s.fld (HYS_SSTAT (s.fld (POS_CFG p) POS_CFG_HSET)) HYS_SSTAT_VEC
    s.fld (POS_MASK p) (msetEntry idx)

/-- Step 2 of R115. -/
def masked (m : Nat) (on : Bool) : Bool := if m = 1 then false else if m = 2 then true else on

/-! ### Step 3 of R115: short intervals (R122) -/

def State.period (s : State) (a : Nat) : Nat := s.fld (AXL_PRD a) AXL_PRD_PERIOD
def State.axlMode (s : State) (a : Nat) : Nat := s.fld (AXL_CTRL a) AXL_CTRL_MODE

/-- The turning point in ticks: PERIOD, in Dray service rounded down to a multiple of 4 (R92, R109). -/
def State.turn (s : State) (a : Nat) : Nat := if (s.ax a).onDray then s.period a / 4 * 4 else s.period a

/-- A compare in taps, evaluated as at most 32 × PERIOD (R95); in Dray service without its fine taps and the two lowest
bits of its ticks (R109). -/
def State.cmpTaps (s : State) (a k : Nat) (down : Bool) : Nat :=
  let c := (s.rd (if down then AXL_CMPD a k else AXL_CMPU a k)).toNat
  min (if (s.ax a).onDray then c / 128 * 128 else c) (32 * s.turn a)

/-- The length of the interval of kind `on` that a compare edge opens `phase` taps into its half, predicted from the
compares in force (R95, R96, R122). -/
def State.predict (s : State) (p : Nat) (on : Bool) (phase : Nat) : Option Nat :=
  let a := s.legAxle (p / 2)
  match s.slotOf a p with
  | none => none
  | some k =>
    let n := 32 * s.turn a
    let c := s.cmpTaps a k on
    if s.axlMode a = 0 then
      if n ≤ c then none
      else if phase ≤ c ∧ !(s.ax a).fired.contains (2 * k + b2n on) then some (c - phase)
      else some (n - phase + c)
    else if on then (if c = 0 then none else some (n - phase + (n - c)))
    else (if n ≤ c then none else some (n - phase + c))

/-- The carry register of a kind of interval (R122). -/
def carryReg (l : Nat) (on : Bool) : Nat := if on then LEG_CARRYON l else LEG_CARRYOFF l

def State.carry (s : State) (l : Nat) (on : Bool) : Nat := s.fld (carryReg l on) LEG_CARRYON_CARRY
def State.setCarry (s : State) (l : Nat) (on : Bool) (n : Nat) : State := s.setFld (carryReg l on) LEG_CARRYON_CARRY n

/-- Both carries of a leg become 0 (R122). -/
def clearCarries (l : Nat) (s : State) : State := (s.setCarry l true 0).setCarry l false 0

/-- The level that the position will have after the edges still to come. -/
def PosSt.target (x : PosSt) : Bool := match x.edges.getLast? with
  | some e => e.2
  | none => x.cmd3

/-- A change of source under R115 makes no compare edge: no shaped edge of the leg remains, and what its positions then
do starts from the commands in force (R122). -/
def dropEdges (l : Nat) (s : State) : State :=
  each [2 * l, 2 * l + 1] (fun p t => t.updPs p (fun x => { x with
    cmd2 := x.cmd3, edges := [], predEnd := none, delay := 0, hold := false })) s

/-- The rule of R122 acts on the position: every high one, and a low one that is not complementary. -/
def State.shaped (s : State) (p : Nat) : Bool := !s.complementary p && decide (s.posState p ≠ pSAFE)

/-- An edge of step 2 passes unshaped: in SAFE, or on a complementary position (R115). -/
def passEdge (p : Nat) (v : Bool) (s : State) : State :=
  let t := s.now
  s.updPs p (fun x => { x with cmd2 := v, cmd3 := v, edges := [], openAt := t, predEnd := none, delay := 0, hold := false })

/-- The instant of the closing edge before the cap, and whether R122's last row held it: an interval closed earlier than
predicted is, in either mode. -/
def closingAt (x : PosSt) (t th : Nat) : Nat × Bool :=
  let early := match x.predEnd with
    | none => true
    | some e => decide (t < e)
  let short := decide (t < x.openAt + th)
  if x.hold then (max t (x.openAt + th), early && short)
  else if early && short then (max (t + x.delay) (x.openAt + th), true)
  else (t + x.delay, false)

/-- A change of the command after step 2, at the instant `now` (R122): the interval in progress closes and one of kind
`v` opens, predicted where a compare edge `phase` taps into its half opens it. DESIGN CHOICE (log entry 149): the cap on
an interval with a carry is the predicted opening edge of the next one, without what that one may itself be delayed. -/
def shapeEdge (p : Nat) (v : Bool) (phase : Option Nat) (s : State) : State :=
  if !s.shaped p then passEdge p v s
  else
    let l := p / 2
    let x := s.ps p
    let t := s.now
    let th := s.th l
    let stretchMode := s.flag (LEG_CFG l) LEG_CFG_PMODE
    let len := match phase with
      | none => none
      | some ph => s.predict p v ph
    let c := s.carry l v
    let total := len.map (fun n => n + c)
    let isShort := match total with
      | none => false
      | some n => decide (n < th)
    if isShort && !stretchMode then
      let s := (s.setCarry l v (total.getD 0)).rc (LEG_CNT l) LEG_CNT_DROP
      s.updPs p (fun y => { y with
        cmd2 := v, openAt := t, predEnd := len.map (fun n => t + n), delay := 0, hold := false })
    else
      let keep := len.isSome && !stretchMode
      let s := if keep then s.setCarry l v 0 else s
      let next := fun (inst : Nat) (y : PosSt) => { y with
        cmd2 := v, openAt := inst, predEnd := len.map (fun n => t + n), delay := if keep then c else 0, hold := isShort }
      if x.target = v then s.updPs p (next t)
      else
        let (e, held) := closingAt x t th
        let lastE := (x.edges.getLast?.map (fun q => q.1)).getD t
        let cut := match total with
          | none => e
          | some n => if isShort then e else max t (min e (t + n - th))
        let e' := max cut (max t lastE)
        let s := if held then (s.sq (LEG_STAT l) LEG_STAT_STRETCH).raise (evGate 6) else s
        let s := if !x.hold && decide (e' < t + x.delay) then (s.sq (LEG_STAT l) LEG_STAT_CARRYLOST).raise (evGate 7) else s
        if e' ≤ t && x.edges.isEmpty then s.updPs p (fun y => { next e' y with cmd3 := v })
        else s.updPs p (fun y => { next e' y with edges := y.edges ++ [(e', v)] })

/-- Step 4 of R115: the force of a refresh overrides. -/
def refreshCmd (p : Nat) (s : State) : State := s.updPs p (fun x => { x with cmd := x.bsForce.getD x.cmd3 })

/-- Steps 1 to 4 of R115 for one position, after a change of what they read. -/
def composePos (p : Nat) (phase : Option Nat) (s : State) : State :=
  let v := masked (s.maskOf p) (s.sourceOn p)
  refreshCmd p (if v = (s.ps p).cmd2 then s else shapeEdge p v phase s)

/-- Steps 1 to 6 of R115 for a leg; `ph` and `pl` are the phases of compare edges of its positions. -/
def composeLeg (l : Nat) (ph pl : Option Nat) (s : State) : State :=
  followLeg l (composePos (2 * l + 1) pl (composePos (2 * l) ph s))

/-- A change of mask, index, vector or source that is no compare edge. -/
def recompose (l : Nat) (s : State) : State := composeLeg l none none s

def recomposeAxle (a : Nat) (s : State) : State := each (s.legsOf a) recompose s

/-- The source of a leg, or of every leg of an Axle, has changed (R115, R122). -/
def changeSource (l : Nat) (s : State) : State := recompose l (dropEdges l s)
def changeSources (a : Nat) (s : State) : State := each (s.legsOf a) changeSource s

/-- A position that no slot serves any more has no raw command, whatever slot serves it later (R97). -/
def clearRaw (l : Nat) (s : State) : State :=
  each [2 * l, 2 * l + 1] (fun p t => if t.hasSlot p then t else t.updPs p (fun x => { x with raw := false })) s

/-- The commit map, or the Axle of a leg, has been written. -/
def mapChanged (l : Nat) (s : State) : State := recompose l (clearRaw l s)

/-- A compare edge of a position at the instant `now`, `phase` taps into its half (R95). -/
def rawEdge (p : Nat) (on : Bool) (phase : Nat) (s : State) : State :=
  if (s.ps p).raw = on then s
  else
    let s := s.updPs p (fun x => { x with raw := on })
    if p % 2 = 0 then composeLeg (p / 2) (some phase) none s else composeLeg (p / 2) none (some phase) s

/-- The edges of a position that are due (R122). -/
def dueEdges (p : Nat) (s : State) : State :=
  let t := s.now
  let x := s.ps p
  match x.edges with
  | (e, v) :: rest =>
    if e ≤ t then
      let s := refreshCmd p (s.updPs p (fun y => { y with cmd3 := v, edges := rest }))
      followLeg (p / 2) (if p % 2 = 0 then composePos (p + 1) none s else s)
    else s
  | [] => s


/-! ### SAFE (R119, R123) -/

def State.legSafe (s : State) (l : Nat) : Nat := s.fld (LEG_STAT l) LEG_STAT_SAFE

/-- Codes of LEG_STAT.SAFE. -/
def cSPO : Nat := 1
def cASCL : Nat := 2
def cASCH : Nat := 3

/-- The code turns the position on. -/
def codeOn (code p : Nat) : Bool := (decide (code = cASCL) && decide (p % 2 = 1)) || (decide (code = cASCH) && decide (p % 2 = 0))

/-- The position under a code: off through the clockless path, or left on where the code turns it on (R123, R124). -/
def safePos (code p : Nat) (s : State) : State :=
  let on := decide (s.posState p = pON) || (s.ps p).asyncOn
  if codeOn code p then (s.updPs p (fun x => { x with asyncOn := on })).setPosState p pSAFE
  else
    let s := if on || (s.chans p).any s.gdo then watchExcluded p (markFall p s) else s
    let s := each (s.chans p) (setGdoAsync false) s
    (s.updPs p (fun x => { x with asyncOn := false })).setPosState p pSAFE

/-- An ASC code may turn a position on: under the keeper's hold, in Full service, and in Dray service on a running Axle;
before, every GDO stays low (R206, R285, R289). -/
def State.ascAllowed (s : State) (l : Nat) : Bool :=
  s.heldLeg l || s.full || (s.awake && s.bringup.drayAvail && decide (s.legAxle l < 4) && s.running (s.legAxle l))

/-- The position that an ASC code turns on rises once the opposite one shows off and the async dead time has elapsed since
the last of that one's GDO fell (R123, R124). -/
def asyncTry (l : Nat) (s : State) : State :=
  let code := s.legSafe l
  let p := if code = cASCL then 2 * l + 1 else 2 * l
  if (code = cASCL || code = cASCH) && !(s.ps p).asyncOn && (s.ps (partner p)).sdtDone && s.used p
      && s.showsOff (partner p) && s.ascAllowed l then
    let s := each (s.liveChans p) (setGdoAsync true) s
    s.updPs p (fun x => { x with asyncOn := true, shownOn := false })
  else s

/-- What a position makes of its acknowledgements, or of a new mapping (R119, R121, R123): `accepted` is the instant that
counts for the release. -/
def ackSettle (p accepted : Nat) (wasOff : Bool) (s : State) : State :=
  let off := s.showsOff p
  let s := if off && !wasOff then s.updPs p (fun x => { x with shownOffAt := accepted }) else s
  let s := if s.posState p = pOFFP ∧ off then s.setPosState p pOFF
    else if s.posState p = pOFF ∧ !off then s.setPosState p pOFFP else s
  let s := if s.posState p = pON && s.showsOn p && !(s.ps p).shownOn then
      s.updPs p (fun x => { x with shownOn := true, shownOnAt := accepted })
    else s
  asyncTry (p / 2) s

/-- A position without a channel is off (R112): the last one of it has been unmapped. -/
def dropUnused (p : Nat) (s : State) : State :=
  if s.used p then s
  else
    let s := if s.posState p = pON || (s.ps p).asyncOn then markFall p s else s
    let s := s.updPs p (fun x => { x with acted := false, asyncOn := false })
    if s.posState p = pSAFE then s else s.setPosState p pOFF

/-- A position after a change of its channels (R111, R112, R119): `old` is the state before it. -/
def mappingSettled (old : State) (p : Nat) (s : State) : State :=
  ackSettle p s.now (old.showsOff p) (dropUnused p (countPos p s))

/-- A leg enters SAFE, or its code in SAFE changes (R123, R204). At entry both carries become 0 and no shaped edge
remains (R122); a refresh does not run in SAFE (R131). -/
def enterSafe (l code : Nat) (s : State) : State :=
  let fresh := decide (s.legSafe l = 0)
  let s := each [2 * l, 2 * l + 1] (safePos code) s
  let s := s.setFld (LEG_STAT l) LEG_STAT_SAFE code
  if fresh then
    let s := clearCarries l s
    let s := s.updLg l (fun x => { x with refreshing := false })
    each [2 * l, 2 * l + 1] (fun p t => refreshCmd p (passEdge p (t.ps p).cmd2 (t.updPs p (fun x => { x with bsForce := none })))) s
  else s

/-- A leg's code is put in force, and acts where it can at once. -/
def forceSafe (l code : Nat) (s : State) : State := asyncTry l (enterSafe l code s)

/-- A position leaves SAFE (R119): held on with its command on, it stays on; held on with its command off, it falls;
otherwise it waits in OFF or OFFP, for ARM where its command is on. -/
def leavePos (p : Nat) (s : State) : State :=
  let x := s.ps p
  let s := s.updPs p (fun y => { y with asyncOn := false, acted := x.asyncOn && x.cmd })
  if x.asyncOn then
    let s := s.setPosState p pON
    if x.cmd then
      let on := s.showsOn p
      s.updPs p (fun y => { y with shownOn := on })
    else fallPos p s
  else s.setPosState p (if s.showsOff p then pOFF else pOFFP)

/-- A leg leaves SAFE and takes the states that its commands call for (R119). -/
def leaveSafe (l : Nat) (s : State) : State :=
  if s.legSafe l = 0 then s
  else
    let s := composePos (2 * l + 1) none (composePos (2 * l) none s)
    let s := s.setFld (LEG_STAT l) LEG_STAT_SAFE 0
    let s := if l < 24 ∧ s.legAxle l < 4 then s.updAx (s.legAxle l) (fun x => { x with allSafe := false }) else s
    followLeg l (each [2 * l, 2 * l + 1] leavePos s)

/-! ### Update points: readmission, adaptive dead time, Evener -/

/-- A readmission takes effect at the first update point with the position in OFF (R121). -/
def readmitDue (c : Nat) (s : State) : State :=
  let p := s.chanPos c
  if s.flag (GCH_CTRL c) GCH_CTRL_READMIT && s.posState p = pOFF then
    countPos p ((s.setFlag (GCH_STAT c) GCH_STAT_EXCLD false).setFlag (GCH_CTRL c) GCH_CTRL_READMIT false)
  else s

/-- The filtered delay in sixteenths of a step, if valid (R126). -/
def State.filtered (s : State) (reg : Nat) : Option Nat :=
  if s.flag reg GCH_DONF_VALID then some (s.fld reg ⟨0, 21⟩) else none

/-- One direction of R130: the dead time in force, and its next value. The sum is taken in sixteenths of a tap, the unit
in which R126 keeps the filtered delay, and rounded up once, to whole steps, as the rule's `ceil` says. -/
def adtNext (s : State) (l outgoing dt : Nat) : Nat :=
  let lo := s.fld (LEG_DT l) LEG_DT_DTMIN
  let hi := s.fld (LEG_DT l) LEG_DT_DTMAX
  let ds := (s.liveChans outgoing).filterMap (fun c =>
    (s.filtered (GCH_DOFFF c)).map (fun f => 16 * s.sfld (GCH_TRIM c) GCH_TRIM_TRIM_OFF + (f : Int)))
  let cur := if dt < lo then lo else if hi < dt then hi else dt
  if cur ≠ dt then cur
  else if s.flag GATE_ADT GATE_ADT_FREEZE then dt
  else match ds with
    | [] => dt
    | d :: rest =>
      let a := rest.foldl max d
      let want := (clampI lo hi (-((-(a + 512 * (s.fld GATE_ADT GATE_ADT_MARGIN : Int))) / 512))).toNat
      if dt < want then dt + 1 else if want < dt then dt - 1 else dt

/-- A write to LEG_DT, or to ADTEN, of a leg of no Axle, which has no update point, acts in the cycle after it (R130):
DTMIN, or with ADTEN = 1 the dead times brought into the limits. -/
def clampDeadTime (l : Nat) (s : State) : State :=
  let lo := s.fld (LEG_DT l) LEG_DT_DTMIN
  let hi := s.fld (LEG_DT l) LEG_DT_DTMAX
  let adt := s.flag (LEG_CFG l) LEG_CFG_ADTEN && !s.legOnDray l
  let next := fun (dt : Nat) => if !adt then lo else if dt < lo then lo else if hi < dt then hi else dt
  let hl := s.fld (LEG_DTEFF l) LEG_DTEFF_DT_HL
  let lh := s.fld (LEG_DTEFF l) LEG_DTEFF_DT_LH
  let s := (s.setFld (LEG_DTEFF l) LEG_DTEFF_DT_HL (next hl)).setFld (LEG_DTEFF l) LEG_DTEFF_DT_LH (next lh)
  let s := if adt && decide (hl ≠ next hl) then s.raise (evGate 11) else s
  if adt && decide (lh ≠ next lh) then s.raise (evGate 11) else s

/-- The effective dead times of a leg at an update point of its Axle (R130); in Dray service DTMIN (R132, log entry 133). -/
def adaptDeadTime (l : Nat) (s : State) : State :=
  let hl := s.fld (LEG_DTEFF l) LEG_DTEFF_DT_HL
  let lh := s.fld (LEG_DTEFF l) LEG_DTEFF_DT_LH
  let mn := s.fld (LEG_DT l) LEG_DT_DTMIN
  let adt := s.flag (LEG_CFG l) LEG_CFG_ADTEN && !s.legOnDray l
  let hl' := if adt then adtNext s l (2 * l) hl else mn
  let lh' := if adt then adtNext s l (2 * l + 1) lh else mn
  let s := (s.setFld (LEG_DTEFF l) LEG_DTEFF_DT_HL hl').setFld (LEG_DTEFF l) LEG_DTEFF_DT_LH lh'
  let s := if adt && decide (hl ≠ hl') then s.raise (evGate 11) else s
  if adt && decide (lh ≠ lh') then s.raise (evGate 11) else s

/-- Insertion sort, ascending. -/
def insertI (x : Int) : List Int → List Int
  | [] => [x]
  | y :: ys => if x ≤ y then x :: y :: ys else y :: insertI x ys
def sortI (xs : List Int) : List Int := xs.foldr insertI []

/-- The element at index floor(n / 2) of the sorted list (R128). -/
def medianI (xs : List Int) : Int := (sortI xs).getD (xs.length / 2) 0

/-- A value moved toward a target by at most a step (R128). -/
def moveToward (x target step : Int) : Int := x + clampI (-step) step (target - x)

/-- Per-die temperature of a channel, if valid (R127). -/
def State.dieTemp (s : State) (c : Nat) : Option Int :=
  if s.flag (GCH_TEMP c) GCH_TEMP_VALID then some (s.sfld (GCH_TEMP c) GCH_TEMP_TEMP) else none

/-- One channel of R128: targets from the medians, clamped, and the trims moved. -/
def evenChannel (p : Nat) (mon moff tm : Int) (c : Nat) (s : State) : State :=
  let lim : Int := s.fld GATE_EVN GATE_EVN_LIM
  let step : Int := s.fld GATE_EVN GATE_EVN_STEP
  let don : Int := s.fld (GCH_DONF c) GCH_DONF_STEPS
  let doff : Int := s.fld (GCH_DOFFF c) GCH_DOFFF_STEPS
  let b := rdiv ((s.fld GATE_EVN GATE_EVN_KTH : Int) * ((s.dieTemp c).getD tm - tm)) 256
  let ton := clampI (-lim) (min lim 63) (mon - don + b)
  let toff := clampI (-lim) (min lim 63) (moff - doff - b)
  let clamped := decide (ton ≠ mon - don + b) || decide (toff ≠ moff - doff - b)
  let s := if clamped then (s.sq (POS_STAT p) POS_STAT_EVSAT).raise (evGate 10) else s
  (s.setFldI (GCH_TRIM c) GCH_TRIM_TRIM_ON (moveToward (s.sfld (GCH_TRIM c) GCH_TRIM_TRIM_ON) ton step)).setFldI
    (GCH_TRIM c) GCH_TRIM_TRIM_OFF (moveToward (s.sfld (GCH_TRIM c) GCH_TRIM_TRIM_OFF) toff step)

/-- The Evener at an update point (R128). -/
def evenPos (p : Nat) (s : State) : State :=
  let ok := s.flag GATE_EVN GATE_EVN_EN && !s.flag GATE_EVN GATE_EVN_FREEZE && !s.flag (POS_CFG p) POS_CFG_EVFRZ
    && !s.legOnDray (p / 2)
  let live := (s.liveChans p).filter (fun c => (s.filtered (GCH_DONF c)).isSome && (s.filtered (GCH_DOFFF c)).isSome)
  if ok && decide (2 ≤ live.length) then
    let mon := medianI (live.map (fun c => (s.fld (GCH_DONF c) GCH_DONF_STEPS : Int)))
    let moff := medianI (live.map (fun c => (s.fld (GCH_DOFFF c) GCH_DOFFF_STEPS : Int)))
    let tm := medianI (live.filterMap s.dieTemp)
    let s' := each live (evenChannel p mon moff tm) s
    if live.any (fun c => s'.rd (GCH_TRIM c) ≠ s.rd (GCH_TRIM c)) then
      (s'.raise (evGate 9)).rc (POS_CNT p) POS_CNT_ADJ
    else s'
  else s

/-- What an update point does to the legs of an Axle besides SAFE (R121, R128, R130). DESIGN CHOICE (log entry 146): of
one leg the adaptive dead time comes first and reads the trims before the Evener moves them. -/
def gateUpdate (a : Nat) (s : State) : State :=
  each (s.legsOf a) (fun l t =>
    each [2 * l, 2 * l + 1] (fun p u => evenPos p (each (u.chans p) readmitDue u)) (adaptDeadTime l t)) s

end Sys2Proof.Machine
end

