-- ==== Sys2Proof/Machine/Prot.lean ====
section
/-! DEFINITION. The protection block and the safe-state keeper (R197 to R212): latches, groups and codes, entry to and
exit from SAFE, the selection, the chopper and the discharge. -/

namespace Sys2Proof.Machine

open Sys2Proof

/-! ### Sources and latches -/

/-- The latch bit of a source (R201). -/
def State.latched (s : State) (src : Nat) : Bool := (s.rd (PROT_TRIP (src / 24))).getLsbD (src % 24)

/-- Every latched source. -/
def State.latchedSources (s : State) : List Nat :=
  (List.range 9).flatMap (fun n =>
    if PROT_TRIP_LATCH.get (s.rd (PROT_TRIP n)) = 0 then []
    else ((List.range 24).filter (fun b => s.latched (24 * n + b))).map (fun b => 24 * n + b))

/-- The action of a source (R198); none for the numbers that name no source (R197). -/
def State.srcAct (s : State) (src : Nat) : Nat := if src < 211 then s.fld (PROT_SRC src) PROT_SRC_ACT else 0

/-- The groups a source acts on (R198). -/
def State.srcGroups (s : State) (src : Nat) : Nat :=
  if src = 210 then s.chop.swGroups.toNat else s.fld (PROT_SRC src) PROT_SRC_GMASK

/-- Groups in SAFE, and those of them with ASC forced, as masks (R198, R203). -/
def State.trippedGroups (s : State) : Nat :=
  s.latchedSources.foldl (fun m src => if 2 ≤ s.srcAct src then m ||| s.srcGroups src else m) 0
def State.forcedGroups (s : State) : Nat :=
  s.latchedSources.foldl (fun m src => if s.srcAct src = 3 then m ||| s.srcGroups src else m) 0

/-! ### The code of a leg (R204) -/

def State.inGroup (s : State) (g l : Nat) : Bool := (s.rd (PROT_GRP g)).getLsbD l
def State.selAsc (s : State) (g : Nat) : Bool := (s.fld PROT_GSTAT PROT_GSTAT_SELASC).testBit g
def State.ascSideHigh (s : State) (g : Nat) : Bool := s.flag (PROT_SEL g) PROT_SEL_ASCSIDE

def sideCode (high : Bool) : Nat := if high then cASCH else cASCL

/-- The groups that give a leg ASC. -/
def State.ascGroups (s : State) (l : Nat) : List Nat :=
  let forced := s.forcedGroups
  (List.range 8).filter (fun g => s.inGroup g l && (forced.testBit g || s.selAsc g))

/-- The ASC code of a leg with the side of R204. -/
def State.ascCode (s : State) (l : Nat) : Nat := match s.ascGroups l with
  | g :: _ => sideCode (s.ascSideHigh g)
  | [] => match (List.range 8).find? (fun g => s.inGroup g l) with
    | some g => sideCode (s.ascSideHigh g)
    | none => cASCL

/-- The code of R204 for a cause that defines none of its own. -/
def State.baseCode (s : State) (l : Nat) : Nat := if s.ascGroups l = [] then cSPO else s.ascCode l

/-- The sealed parameter word of an Axle in force (R219). -/
def State.sealed (s : State) (w : Nat) : Word := mget (fun _ => 0) s.sealedRec w

/-- Sealed ASCF of an Axle (R217). -/
def State.ascf (s : State) (a : Nat) : Bool := (s.sealed (0x110 + 0x10 * a)).getLsbD 30

/-- The lease has expired with LSPO = 1 (R318). -/
def State.lspo (s : State) : Bool := s.flag CPL_LEASE CPL_LEASE_LSPO

/-- The code that one cause asks for (R191, R204, R206, R217, R318). -/
def State.causeCode (s : State) (l : Nat) : SafeCause → Nat
  | .hysHeld asc => if asc then s.ascCode l else cSPO
  | .tmTrip => if s.ascf (s.legAxle l) then s.ascCode l else s.baseCode l
  | .lease => if s.lspo then cSPO else s.baseCode l
  | .keeper => (s.lg l).keptCode
  | _ => s.baseCode l

/-- A trip latch holds the leg (R203). -/
def State.tripHolds (s : State) (l : Nat) : Bool :=
  let m := s.trippedGroups
  (List.range 8).any (fun g => m.testBit g && s.inGroup g l)

/-- The codes that the causes and the trips of a leg ask for. -/
def State.wantedCodes (s : State) (l : Nat) : List Nat :=
  (s.lg l).causes.map (s.causeCode l) ++ (if s.tripHolds l then [s.baseCode l] else [])

/-- The code of a leg from its causes, if any holds it in SAFE (R204). -/
def State.legCode (s : State) (l : Nat) : Option Nat := match s.wantedCodes l with
  | [] => none
  | c :: cs =>
    if 4 ≤ s.legAxle l then some cSPO
    else if s.lspo && (s.lg l).causes.contains .lease then some cSPO
    else if cs.all (fun d => d = c) then some c
    else if (c :: cs).any (fun d => d ≠ cSPO) then some (s.ascCode l)
    else some cSPO

/-- PROT_GSTAT.CODE (R204). -/
def groupCodes (s : State) : Nat :=
  let tripped := s.trippedGroups
  let forced := s.forcedGroups
  (List.range 8).foldl (fun m g =>
    let c := if !tripped.testBit g then 0
      else if forced.testBit g || s.selAsc g then sideCode (s.ascSideHigh g) else cSPO
    m ||| (c <<< (2 * g))) 0

/-- A leg with a cause or a trip is in SAFE with its code; one of no Axle without any leaves at once (R203, R204). -/
def settleLegSafe (l : Nat) (s : State) : State := match s.legCode l with
  | some c => if s.legSafe l = c then asyncTry l s else forceSafe l c s
  | none => if 4 ≤ s.legAxle l then leaveSafe l s else s

/-- After any change of latches, causes, groups or selections: group codes and legs. -/
def settleSafe (s : State) : State :=
  each (List.range 32) settleLegSafe (s.setFld PROT_GSTAT PROT_GSTAT_CODE (groupCodes s))

/-- An update point of an Axle: its legs without a cause and a trip leave SAFE (R19, R203). -/
def releaseAxle (a : Nat) (s : State) : State :=
  each (s.legsOf a) (fun l t => if (t.legCode l).isNone then leaveSafe l t else t) s

/-- Add or remove a cause of a leg. -/
def addCause (c : SafeCause) (l : Nat) (s : State) : State :=
  s.updLg l (fun x => { x with causes := if x.causes.contains c then x.causes else x.causes ++ [c] })
def dropCause (c : SafeCause) (l : Nat) (s : State) : State :=
  s.updLg l (fun x => { x with causes := x.causes.filter (fun d => d ≠ c) })

/-- Legs enter SAFE for a cause (R123). -/
def safeFor (c : SafeCause) (ls : List Nat) (s : State) : State := settleSafe (each ls (addCause c) s)

/-- A cause ends on legs; they leave SAFE at their next update point, those of no Axle at once (R19, R203). -/
def endCause (c : SafeCause) (ls : List Nat) (s : State) : State := settleSafe (each ls (dropCause c) s)

/-- A source becomes active (R198, R201). -/
def latchSource (src : Nat) (s : State) : State :=
  if s.srcAct src = 0 then s
  else settleSafe ((s.sqMask (PROT_TRIP (src / 24)) (word (2 ^ (src % 24)))).raise (evProt 0))

/-- A comparator's level (R152). -/
def State.cmpActive (s : State) (k : Nat) : Bool := (s.fld CMP_LVL CMP_LVL_LVL).testBit k

/-- Any mapped channel of a leg has an accepted GAK level that differs from its GDO (R197). -/
def State.legFaultActive (s : State) (l : Nat) : Bool :=
  (s.chans (2 * l) ++ s.chans (2 * l + 1)).any (fun c => s.gak c ≠ s.gdo c)

def State.chopLeg (s : State) : Nat := s.fld PROT_CHOP PROT_CHOP_LEG

/-- The chopper leg shows off: both its positions do (R197). -/
def State.chopShowsOff (s : State) : Bool := s.showsOff (2 * s.chopLeg) && s.showsOff (2 * s.chopLeg + 1)

/-- The source is active (R197). -/
def State.srcActive (s : State) (src : Nat) : Bool :=
  if src < 64 then s.tripPins.contains src
  else if src < 80 then s.cmpActive (src - 64)
  else if src < 176 then (s.sd (src - 80)).hiHolds || (s.sd (src - 80)).loHolds
  else if src < 208 then s.legFaultActive (src - 176)
  else if src = 208 then !s.chopShowsOff
  else if src = 209 then s.flag PROT_DIS PROT_DIS_START
  else false

/-- A write to PROT_TRIPn (R202): latches of inactive sources clear, active ones refuse. -/
def tripClear (n : Nat) (data : Word) (s : State) : State :=
  let r := PROT_TRIP n
  if seqFld.get data ≠ s.fld r seqFld then s
  else
    let asked := (List.range 24).filter (fun b => data.getLsbD b && s.latched (24 * n + b))
    let ok := asked.filter (fun b => !s.srcActive (24 * n + b))
    let s' := s.wr r (s.rd r &&& ~~~ word (ok.foldl (fun m b => m ||| 2 ^ b) 0))
    let s' := if n = 8 ∧ 16 ∈ ok then { s' with chop := { s'.chop with faulty := false } } else s'
    let s' := if n = 8 ∧ 18 ∈ ok then { s' with chop := { s'.chop with swGroups := 0 } } else s'
    let s' := if ok.length < asked.length then (s'.sq PROT_STAT PROT_STAT_CLRREF).raise (evProt 1) else s'
    settleSafe s'

/-- PROT_CTRL.SWTRIP (R197, R198): source 210 on the groups of the write, accumulated while it stays latched. -/
def swTrip (swg : Nat) (s : State) : State :=
  let old := if s.latched 210 then s.chop.swGroups.toNat else 0
  let s := { s with chop := { s.chop with swGroups := BitVec.ofNat 8 (old ||| swg) } }
  latchSource 210 s

/-- A TRIP pin (R197, R199): a pulse of at least F ns is accepted, one below 0.7 F is not, between them either; a pin that
rises and stays high past its filter is active until it falls. -/
def tripPin (src : Nat) (ev : PinEvent) (s : State) : State :=
  let f := 10 * s.fld (PROT_SRC src) PROT_SRC_FILT
  let low := { s with tripPins := s.tripPins.filter (fun q => q ≠ src) }
  match ev with
  | .rise => latchSource src { s with tripPins := insertRising s.tripPins src }
  | .fall => low
  | .pulse w =>
    if f ≤ w then latchSource src low
    else if 10 * w < 7 * f then low
    else if Config.freeBool s.draws then (latchSource src low).drew 1 else low.drew 1

/-! ### The keeper (R206) -/

/-- The leg's hold ends with a Dray catch: an enabled set of an Axle that Dray service started. -/
def State.heldForCatch (s : State) (l : Nat) : Bool :=
  decide (s.legAxle l < 4) && (s.setOfLeg l).isSome && (s.ax (s.legAxle l)).drayStarted

/-- The hold of a leg ends (R206): its cause goes, and the records govern its mapping. -/
def endHold (l : Nat) (s : State) : State :=
  if s.heldLeg l then
    let of := fun (e : Nat × Word) => decide (e.1 = LEG_CFG l) || (decide (e.1 < 0x110000) && decide (GCH_CFG_POS.get e.2 / 2 = l))
    let old := s
    let s := dropCause .keeper l { s with kept := s.kept.filter (fun e => !of e) }
    settleSafe (each (List.range 64) (mappingSettled old) (each (List.range 256) joinChannel s))
  else s

/-- KREL ends the hold of every other leg (R206): at once. -/
def keeperRelease (s : State) : State :=
  let ls := (List.range 24).filter (fun l => s.heldLeg l && !s.heldForCatch l)
  let s := each ls endHold s
  each ls (fun l t => if (t.legCode l).isNone then leaveSafe l t else t) s

/-! ### Selection (R205) -/

/-- The raw protection output of a channel, signed (R138). -/
def State.pres (s : State) (c : Nat) : Int := s.sfld (SDF_STAT c) SDF_STAT_PRES

/-- A 16-bit field read as signed Q1.15. -/
def s16 (n : Nat) : Int := (BitVec.ofNat 16 n).toInt

/-- Magnitude of a Q24.8 speed in angle units per tick, as a frequency times 2^40: 800 MHz ticks (R184). -/
def spdHz40 (w : Int) : Nat := w.natAbs * 800000000

/-- The speed of a group in Hz × 2^40, or none where invalid (R205): the mean HYS_SSPD of an Axle's sets with some set
converged, or a locked resolver. -/
def State.speedOf (s : State) (src axl : Nat) : Option Nat :=
  if src = 0 then
    let ks := s.setsOf axl
    if ks.any (fun k => s.flag (HYS_SSTAT k) HYS_SSTAT_CONV) then
      some (spdHz40 (ks.foldl (fun m k => m + s.sfld (HYS_SSPD k) HYS_SSPD_SPEED) 0) / ks.length)
    else none
  else if s.flag (RES_STAT (src - 1)) RES_STAT_LOCK then
    some ((s.sfld (RES_SPD (src - 1)) RES_SPD_SPEED).natAbs * 2 ^ 24)
  else none

/-- One group's selection at an evaluation (R205). -/
def State.selNext (s : State) (g : Nat) : Bool :=
  let sel := s.rd (PROT_SEL g)
  let src := PROT_SEL_SPDSRC.get sel
  let vch := PROT_SEL_VCH.get sel
  let v := s.pres vch
  let vBad := s.flag (SDF_STAT vch) SDF_STAT_FAULT || !s.flag (SDF_CFG vch) SDF_CFG_EN
  let hi : Bool := vBad || decide (s16 (s.fld (PROT_SELV g) PROT_SELV_VHI) ≤ v)
  let lo : Bool := !vBad && decide (v < s16 (s.fld (PROT_SELV g) PROT_SELV_VLO))
  let sp := if src = 3 then some 0 else s.speedOf src (PROT_SEL_SAXL.get sel)
  let sHi : Bool := if src = 3 then false else match sp with
    | none => true
    | some f => decide (s.fld (PROT_SELT g) PROT_SELT_SPDHI * 2 ^ 40 ≤ f)
  let sLo : Bool := if src = 3 then true else match sp with
    | none => false
    | some f => decide (f < s.fld (PROT_SELT g) PROT_SELT_SPDLO * 2 ^ 40)
  if sHi || hi then true else if sLo && lo then false else s.selAsc g

/-- A changed selection, side or group changes the code of a leg that the keeper holds, and of one that waits in SAFE for
its update point without a cause left, as it would any leg's in SAFE (R204, R205, R293; DEDUCED, log entry 90). -/
def codesFollow (old : State) (s : State) : State :=
  each ((List.range 32).filter (fun l => decide (s.legAxle l < 4) && decide (s.baseCode l ≠ old.baseCode l)))
    (fun l t =>
      if t.heldLeg l then t.updLg l (fun x => { x with keptCode := s.baseCode l })
      else if decide (t.legSafe l ≠ 0) && (t.legCode l).isNone then forceSafe l (s.baseCode l) t
      else t) s

/-- An evaluation of every group (R205), also during a reset (R293). -/
def selectionEvaluation (s : State) : State :=
  let old := s.fld PROT_GSTAT PROT_GSTAT_SELASC
  let new := (List.range 8).foldl (fun m g => m ||| (b2n (s.selNext g) <<< g)) 0
  if !(decide (s.power = .stand) || decide (s.power = .drive)) || decide (new = old) then s
  else
    let s := codesFollow s (s.setFld PROT_GSTAT PROT_GSTAT_SELASC new)
    settleSafe ((s.sq PROT_STAT PROT_STAT_SELCHG).raise (evProt 2))

/-! ### DC link, chopper and discharge (R208 to R211) -/

/-- The chopper is found faulty (R210). -/
def chopFault (s : State) : State :=
  let s := { s with chop := { s.chop with on := false, faulty := true } }
  let s := (s.sq PROT_STAT PROT_STAT_CHOPFLT).raise (evProt 6)
  latchSource 208 (recompose s.chopLeg s)

/-- The chopper's supervision by acknowledgements (R210). -/
def chopAckFault (l : Nat) (s : State) : State :=
  if s.flag PROT_CHOP PROT_CHOP_EN && decide (s.chopLeg = l) then chopFault s else s

/-- A reading of a protection filter, as the rungs of R208, the chopper and the discharge take it. -/
def dcLinkReading (c : Nat) (s : State) : State :=
  let v := s.pres c
  let s := if s.fld PROT_CHOP PROT_CHOP_VCH = c then
      let above : Bool := decide (s16 (s.fld PROT_DCL PROT_DCL_VWARN) ≤ v)
      let was := s.chop.warned
      let s := { s with chop := { s.chop with warned := above } }
      let s := if above && !was then (s.sq PROT_STAT PROT_STAT_DCLHIGH).raise (evProt 5) else s
      if s.flag PROT_CHOP PROT_CHOP_EN && !s.chop.faulty then
        if s16 (s.fld PROT_CHOPV PROT_CHOPV_VON) ≤ v then
          if s.chop.on then s else recompose s.chopLeg { s with chop := { s.chop with on := true, v0 := v } }
        else if v ≤ s16 (s.fld PROT_CHOPV PROT_CHOPV_VOFF) then
          recompose s.chopLeg { s with chop := { s.chop with on := false } }
        else s
      else s
    else s
  if s.chop.supervising && decide (s.fld PROT_DIS PROT_DIS_VCH = c) && decide (v ≤ s16 (s.fld PROT_DISV PROT_DISV_VSAFE)) then
    ({ s with chop := { s.chop with supervising := false } }.sq PROT_STAT PROT_STAT_DISDONE).raise (evProt 7)
  else s

/-- CHKT has passed with the chopper on and PRES above V0 − DV (R210). -/
def chopCheck (s : State) : State :=
  let v := s.pres (s.fld PROT_CHOP PROT_CHOP_VCH)
  if s.chop.on && decide (s.chop.v0 - (s.fld PROT_DCL PROT_DCL_DV : Int) < v) then chopFault s else s

/-- DTIME has passed without VSAFE (R211): the supervision goes on, so that VSAFE reached later still shows. -/
def dischargeLate (s : State) : State :=
  if s.chop.supervising && !s.chop.late then
    let s := { s with chop := { s.chop with late := true } }
    latchSource 209 ((s.sq PROT_STAT PROT_STAT_DISFLT).raise (evProt 8))
  else s

/-- PROT_DIS has been written: START = 1 starts a discharge in its MODE, 0 ends supervision and lowers DIS_EN (R211). -/
def dischargeWritten (s : State) : State :=
  let start := s.flag PROT_DIS PROT_DIS_START
  let s := { s with chop := { s.chop with supervising := start, late := false } }
  if !start then s.setFlag PROT_STAT PROT_STAT_DISON false
  else if (s.fld PROT_DIS PROT_DIS_MODE).testBit 0 then s.setFlag PROT_STAT PROT_STAT_DISON true
  else s

end Sys2Proof.Machine
end

