-- ==== Sys2Proof/Machine/GateCmd.lean ====
section
/-! DEFINITION. The events of gate channels, positions and legs (R118 to R131). -/

namespace Sys2Proof.Machine

open Sys2Proof

/-- Rounding of an exact quotient by a positive number where the spec gives none: either neighbour (log entry 25). -/
def openRound (k : Nat) (num : Int) (den : Nat) : Int :=
  if num % (den : Int) = 0 then num / (den : Int)
  else num / (den : Int) + (if Config.roundUp k num den then 1 else 0)

/-- Die temperature from a valid filtered turn-on delay (R127); a result outside 16 bits is a value the spec does not
state. -/
def dieTempUpdate (c : Nat) (s : State) : State :=
  let kt := s.sfld (GCH_TCAL c) GCH_TCAL_KT
  match s.filtered (GCH_DONF c) with
  | some f =>
    if kt = 0 then s.setFlag (GCH_TEMP c) GCH_TEMP_VALID false
    else
      let num := kt * ((f : Int) - 16 * (s.fld (GCH_TCAL c) GCH_TCAL_DREF : Int))
      let t := s.sfld GATE_TREF GATE_TREF_TREF + openRound 20 num 256
      let s' := s.setFlag (GCH_TEMP c) GCH_TEMP_VALID true
      if -32768 ≤ t ∧ t ≤ 32767 then s'.setFldI (GCH_TEMP c) GCH_TEMP_TEMP t
      else (s'.setFld (GCH_TEMP c) GCH_TEMP_TEMP (Config.freeNat s.draws)).drew 1
  | none => s.setFlag (GCH_TEMP c) GCH_TEMP_VALID false

/-- No acknowledgement: recorded and not filtered (R126). -/
def noDelay : Nat := 0x1FFFF

/-- A timed acknowledgement of the channel's own GDO edge (R126). -/
def measure (c : Nat) (level : Bool) (d : Option Nat) (s : State) : State :=
  let reg := if level then GCH_DON c else GCH_DOFF c
  let freg := if level then GCH_DONF c else GCH_DOFFF c
  match d with
  | none => s.setFld reg GCH_DON_DELAY noDelay
  | some d =>
    let s := s.setFld reg GCH_DON_DELAY d
    let f' : Int := match s.filtered freg with
      | some f => (f : Int) + openRound 21 (16 * (d : Int) - (f : Int)) 16
      | none => 16 * (d : Int)
    let s := (s.setFldI freg ⟨0, 21⟩ f').setFlag freg GCH_DONF_VALID true
    if level then dieTempUpdate c s else s

/-- The acceptance instant of a GAK transition: the second clock edge after it (R118, R132). -/
def acceptAt (dray : Bool) (t : Nat) : Nat := if dray then (t / 128 + 2) * 128 else (t / 32 + 2) * 32

/-- The delay of a transition from the channel's own edge, if it lies within ACKTO and 5 µs (R126). -/
def ownDelay (s : State) (p e t : Nat) : Option Nat :=
  let d := t - e
  if e ≤ t ∧ d ≤ 128000 ∧ d ≤ 32 * s.fld (LEG_TIM (p / 2)) LEG_TIM_ACKTO then some d else none

/-- An accepted GAK level of a mapped channel at the transition's instant (R118, R121, R126). -/
def gakAccepted (c : Nat) (level : Bool) (t : Nat) (s : State) : State :=
  let p := s.chanPos c
  let dray := s.legOnDray (p / 2)
  let wasOff := s.showsOff p
  let live := !s.flag (GCH_STAT c) GCH_STAT_EXCLD
  let drop := !level && live && s.posState p = pON && (s.ps p).shownOn
  let spur := level && !s.gdo c && s.posState p = pOFF
  let own := (s.ch c).edge
  let s := (s.setFlag (GCH_STAT c) GCH_STAT_GAK level).updCh c (fun x => { x with watch := x.watch && level })
  let s := match own with
    | some (lv, e) =>
      if lv = level then
        let s' := s.updCh c (fun x => { x with edge := none })
        if dray then s' else measure c level (ownDelay s p e t) s'
      else s
    | none => s
  let s := ackSettle p (acceptAt dray t) wasOff s
  let s := if drop then chopAckFault (p / 2) ((s.sq (GCH_STAT c) GCH_STAT_ACKDROP).raise (evGate 3)) else s
  if spur then (s.sq (GCH_STAT c) GCH_STAT_SPUR).raise (evGate 4) else s

/-- A GAK level that has been stable for two cycles (R118); an unmapped channel's is ignored, but the level of its pin
counts once it is mapped (R111). -/
def gakTransition (c : Nat) (level : Bool) (t : Nat) (s : State) : State :=
  let s := s.updCh c (fun x => { x with pin := level })
  if s.chanEn c && decide (s.gak c ≠ level) then gakAccepted c level t (s.at t) else s

/-- The release conditions of R119 at an instant. -/
def State.releasable (s : State) (p t : Nat) : Bool :=
  let q := partner p
  decide (s.posState p = pARM) && decide (s.posState q = pOFF) &&
    decide ((s.ps q).fallAt + 32 * (s.ps p).dtInForce ≤ t) && decide ((s.ps q).shownOffAt ≤ t)

/-- ARM to ON: the live channels' GDO rise from the release instant (R117, R119). -/
def releasePos (p t : Nat) (s : State) : State :=
  if s.releasable p t then
    let s := (s.at t).setPosState p pON
    let s := each (s.liveChans p) (setGdo p true t) s
    s.updPs p (fun x => { x with shownOn := false })
  else s

/-- Live channels of a position without one (R121). -/
def State.liveWithout (s : State) (p c : Nat) : Nat := ((s.liveChans p).filter (fun d => d ≠ c)).length

/-- ACKTO has passed after the channel's own edge without its acknowledgement (R121). -/
def ackTimeout (c : Nat) (rising : Bool) (s : State) : State :=
  let p := s.chanPos c
  let l := p / 2
  let due : Bool := match (s.ch c).edge with
    | some (lv, _) => decide (lv = rising) && s.chanEn c && decide (s.gak c ≠ rising)
    | none => (s.ch c).watch && !rising && s.chanEn c && s.gak c
  if !due then s
  else
    let own := (s.ch c).edge.isSome
    let s := s.updCh c (fun x => { x with edge := none, watch := false })
    let s := if s.legOnDray l || !own then s else measure c rising none s
    if rising then
      if s.flag (GCH_STAT c) GCH_STAT_EXCLD then s
      else
        let s := (s.sq (GCH_STAT c) GCH_STAT_ACKMISS).raise (evGate 1)
        let s := if GCH_CFG_EXCLEN.bit (s.inForce (GCH_CFG c)) && decide (s.fld (POS_CFG p) POS_CFG_MINLIVE ≤ s.liveWithout p c) then
            let s := (s.setFlag (GCH_STAT c) GCH_STAT_EXCLD true).setFlag (GCH_STAT c) GCH_STAT_GDO false
            let s := countPos p ((s.raise (evGate 5)).rc (POS_CNT p) POS_CNT_EXCL)
            ackSettle p s.now (s.showsOff p) s
          else
            let s := s.sq (POS_STAT p) POS_STAT_ACKFLT
            if s.flag (LEG_CFG l) LEG_CFG_ACKTRIP then latchSource (176 + l) s else s
        chopAckFault l s
    else
      let s := (s.sq (GCH_STAT c) GCH_STAT_STUCK).raise (evGate 2)
      chopAckFault l (latchSource (176 + l) s)

/-- The async dead time has passed since the last GDO of the position that an ASC code turns off fell (R123, R124). -/
def asyncExpiry (l : Nat) (s : State) : State :=
  let q := if s.legSafe l = cASCL then 2 * l else 2 * l + 1
  if s.legSafe l = cASCL || s.legSafe l = cASCH then asyncTry l (s.updPs q (fun x => { x with sdtDone := true })) else s

/-- An edge of the channel has been decided and has not left yet (R125). -/
def State.inFlight (s : State) (c : Nat) : Bool := match (s.ch c).edge with
  | some (_, e) => decide (s.now < e)
  | none => false

/-- Calibrated delay line swapped in, in a cycle without an edge in flight, or a calibration that failed (R125). -/
def delayLineSwap (c : Nat) (ok : Bool) (s : State) : State :=
  if ok && s.inFlight c then s
  else if ok then (s.updCh c (fun x => { x with calFails := 0 })).setFlag (GCH_STAT c) GCH_STAT_COARSE false
  else
    let n := (s.ch c).calFails + 1
    let s := (s.updCh c (fun x => { x with calFails := min n 3 })).sq (GCH_STAT c) GCH_STAT_CALFAIL
    if n = 3 then (s.setFlag (GCH_STAT c) GCH_STAT_COARSE true).raise (evGate 8) else s

/-- The charge counter has reached its limit (R131): high forced off, low forced on. -/
def refreshStart (l : Nat) (s : State) : State :=
  if s.flag (LEG_CFG l) LEG_CFG_BOOT && decide (s.legSafe l = 0) && !(s.lg l).refreshing then
    let s := ((s.raise (evGate 12)).rc (LEG_CNT l) LEG_CNT_BSREF).sq (LEG_STAT l) LEG_STAT_BSREF
    let s := s.updLg l (fun x => { x with refreshing := true })
    let s := (s.updPs (2 * l) (fun x => { x with bsForce := some false })).updPs (2 * l + 1)
      (fun x => { x with bsForce := some true })
    recompose l s
  else s

/-- The low position has shown on for max(BSCHG, TH): both forces are released (R131). -/
def refreshEnd (l : Nat) (s : State) : State :=
  if (s.lg l).refreshing && s.posState (2 * l + 1) = pON && s.showsOn (2 * l + 1) then
    let s := s.updLg l (fun x => { x with refreshing := false })
    recompose l ((s.updPs (2 * l) (fun x => { x with bsForce := none })).updPs (2 * l + 1)
      (fun x => { x with bsForce := none }))
  else s

/-- GCH_CTRL.REARM (R126): the VALID bits of both filtered delays clear. -/
def rearmChannel (c : Nat) (s : State) : State :=
  dieTempUpdate c (((s.setFlag (GCH_DONF c) GCH_DONF_VALID false).setFlag (GCH_DOFFF c) GCH_DOFFF_VALID false).setFlag
    (GCH_CTRL c) GCH_CTRL_REARM false)

end Sys2Proof.Machine
end

