-- ==== Sys2Proof/Machine/Sensing.lean ====
section
/-! DEFINITION. Current, voltage and position sensing (R135 to R157): filters, windows and stretches, the SAR
converters, comparators, resolver and encoder. -/

namespace Sys2Proof.Machine

open Sys2Proof

/-! ### Windows and stretches (R139, R140) -/

/-- The enabled sensed legs of an Axle (R140, R142). -/
def State.sensedLegs (s : State) (a : Nat) : List Nat :=
  (List.range 32).filter (fun l => decide (s.legAxle l = a) && s.flag (SDF_LMAP l) SDF_LMAP_EN)

def State.cch (s : State) (l : Nat) : Nat := s.fld (SDF_LMAP l) SDF_LMAP_CCH

/-- The conditions of a stretch (R140, R143). -/
def State.stretchOk (s : State) (l : Nat) : Bool :=
  s.flag (SDF_LMAP l) SDF_LMAP_EN && decide (s.legAxle l < 4) && (s.ax (s.legAxle l)).winOpen
    && s.posState (2 * l + 1) = pON && s.showsOn (2 * l + 1) && !(s.lg l).closed && !(s.lg l).suspect

/-- A stretch begins or ends as its conditions say (R140): as it begins the control filter is cleared; ended with MINOUT
outputs it closes the leg's window, with fewer it is abandoned. -/
def syncStretch (l : Nat) (s : State) : State :=
  let x := s.lg l
  let ok := s.stretchOk l
  let t := s.now
  if x.stretch && !ok then
    if s.fld (SDF_AXW (s.legAxle l)) SDF_AXW_MINOUT ≤ x.nout then
      s.updLg l (fun y => { y with stretch := false, closed := true, stEnd := t })
    else s.updLg l (fun y => { y with stretch := false, sum := 0, nout := 0, monSum := 0, monN := 0 })
  else if !x.stretch && ok then
    (s.updLg l (fun y => { y with stretch := true, stAt := t, sum := 0, nout := 0, monSum := 0, monN := 0 })).updSd (s.cch l)
      (fun y => { y with ctl := { last := y.ctl.last }, fresh := true })
  else s

/-- After anything that can change a position, an acknowledgement or a window. -/
def syncStretches (s : State) : State := each (List.range 32) syncStretch s

/-- The answer of a command that touches gates or windows. -/
def settled (s : State) : Out := .next (syncStretches s)

/-- The Axle window opens (R139), with the means of R185 over it still empty. -/
def windowOpen (a : Nat) (s : State) : State :=
  if (s.ax a).winOpen then s
  else
    let t := s.now
    let s := s.updAx a (fun x => { x with winOpen := true, winUpd := 0, winAt := t })
    let s := each (s.setsOf a) (fun k t => t.updHy k (fun x => { x with sumA := 0, sumB := 0, nsum := 0 })) s
    let s := each (s.sensedLegs a) (fun l t =>
      let f := t.flag (SDF_STAT (t.cch l)) SDF_STAT_FAULT
      t.updLg l (fun x => { x with closed := false, sum := 0, nout := 0, monSum := 0, monN := 0, faultSeen := f })) s
    syncStretches s

/-- The window of a probe begins late enough after step 1 of the catch, or after the probe before it (R192). -/
def State.probeSpaced (s : State) (a : Nat) : Bool :=
  let x := s.ax a
  decide ((if x.probes = 0 then x.catchAt else x.probeAt) + s.fld (HYS_CATCH a) HYS_CATCH_PGAP * 256000 ≤ x.winAt)

/-- A probe ends as the Axle window closes (R192); `kept`: the window will be published. -/
def endProbe (a : Nat) (kept : Bool) (s : State) : State :=
  if (s.ax a).probing then
    let due := kept && s.probeSpaced a
    changeSources a (s.updAx a (fun x => { x with
      probing := false, probeDue := due, probes := if due then x.probes + 1 else x.probes,
      probeAt := if due then x.winAt else x.probeAt }))
  else s

/-- A leg's window as it stands waits for its publication, and SDF_PRED is latched (R142, R144). -/
def holdResult (l : Nat) (s : State) : State :=
  let w := s.fld (SDF_PRED l) SDF_PRED_VALUE
  s.updLg l (fun x => { x with
    won := { closed := x.closed, sum := x.sum, nout := x.nout, faultSeen := x.faultSeen, monSum := x.monSum, monN := x.monN }
    pred := BitVec.ofNat 16 w })

/-- The Axle window closes: stretches end, and a publication is due (R139, R142, R144, R185). -/
def windowClose (a : Nat) (s : State) : State :=
  if !(s.ax a).winOpen then s
  else
    let s := syncStretches (s.updAx a (fun x => { x with winOpen := false, pubDue := true }))
    let s := each (s.setsOf a) (fun k t => t.updHy k (fun x => { x with wonA := x.sumA, wonB := x.sumB, wonN := x.nsum })) s
    endProbe a true (each (s.sensedLegs a) holdResult s)

/-- EN cleared while the window is open: it ends without publication (R139). -/
def windowDrop (a : Nat) (s : State) : State :=
  if (s.ax a).winOpen then
    let s := syncStretches (s.updAx a (fun x => { x with winOpen := false }))
    endProbe a false (each (s.sensedLegs a) (fun l t => t.updLg l (fun x => { x with closed := false, sum := 0, nout := 0 })) s)
  else s

/-- EN of SDF_AXW has been cleared (R139, R156). -/
def axwOff (a : Nat) (s : State) : State := (windowDrop a s).updAx a (fun x => { x with axwGoverns := false })

/-- SDF_AXW governs the Axle's windows; otherwise the Dray window does (R156). -/
def State.axwGoverns (s : State) (a : Nat) : Bool := s.full && (s.ax a).axwGoverns

/-- A window still open at its second update point is closed with SDF_WINERR (R139). -/
def windowUpdate (a : Nat) (s : State) : State :=
  if (s.ax a).winOpen then
    let n := (s.ax a).winUpd + 1
    let s := s.updAx a (fun x => { x with winUpd := n })
    if 2 ≤ n then (windowClose a s).raise (evSense 11) else s
  else s

/-- A trigger line reaches the windows (R139); an open and a close in one cycle give an empty window. -/
def windowTrigger (a m : Nat) (s : State) : State :=
  if s.flag (SDF_AXW a) SDF_AXW_EN && s.axwGoverns a then
    let opens := decide (s.fld (SDF_AXW a) SDF_AXW_OPEN = m)
    let closes := decide (s.fld (SDF_AXW a) SDF_AXW_CLOSE = m)
    let s := if opens then windowOpen a s else s
    if closes then windowClose a s else s
  else s

/-- WHALF of the sensing record (R157). -/
def State.whalf (s : State) : Nat := (⟨0, 16⟩ : Fld).get (s.wb 0x61)

/-- The window of Dray service opens or closes WHALF ticks before or after a valley (R156). -/
def drayWindow (a : Nat) (opens : Bool) (s : State) : State :=
  if s.records.sense && decide (0 < s.whalf) && !s.axwGoverns a && s.running a then
    if opens then windowOpen a s else windowClose a s
  else s

/-! ### Filters (R137, R138, R141) -/

/-- A value narrowed to signed 16 bits with saturation (R141). -/
def sat16 (x : Int) : Int := (satI 16 x).1

/-- A calibrated value: sat16(round-half-up((raw − OFS) × GAIN / 2^14)) (R141). -/
def calibrate (gain : Nat) (ofs raw : Int) : Int := sat16 (rdiv ((raw - ofs) * (gain : Int)) 16384)

/-- SDF_CAL applied in Full service; GAIN 0x4000 and OFS 0 in Dray service (R156). -/
def State.calibrated (s : State) (c : Nat) (raw : Int) : Int :=
  if s.full then calibrate (s.fld (SDF_CAL c) SDF_CAL_GAIN) (s.sfld (SDF_CAL c) SDF_CAL_OFS) raw else calibrate 0x4000 0 raw

/-- SDC[k] runs (R136). -/
def State.sdcRuns (s : State) (k : Nat) : Bool := s.flag (SDF_SDC k) SDF_SDC_EN

/-- An input has a sampling clock (R135, R136): its SDC output, or the clock that an enabled clock-return input brings back
from the SDC output which feeds it. -/
def State.clocked (s : State) (c : Nat) : Bool :=
  let k := s.fld (SDF_CFG c) SDF_CFG_CKIN
  if s.flag (SDF_CFG c) SDF_CFG_CKRET then
    s.flag (SDF_CFG k) SDF_CFG_EN && s.flag (SDF_CFG k) SDF_CFG_CLKRET && s.sdcRuns (s.fld (SDF_CFG k) SDF_CFG_CKIN)
  else s.sdcRuns k

/-- A data input that is sampled (R135, R136). -/
def State.sampled (s : State) (c : Nat) : Bool :=
  s.flag (SDF_CFG c) SDF_CFG_EN && !s.flag (SDF_CFG c) SDF_CFG_CLKRET && s.clocked c

/-- The sensed legs whose control channel, or whose monitor channel, is this one. -/
def State.legsOfCch (s : State) (c : Nat) : List Nat :=
  (List.range 32).filter (fun l => s.flag (SDF_LMAP l) SDF_LMAP_EN && decide (s.cch l = c))

/-- One sample enters the integrators of a filter. -/
def sincSample (f : Sinc) (b : Bool) : Sinc :=
  let i1 := f.i1 + (b2n b : Nat)
  let i2 := f.i2 + i1
  { f with i1 := i1, i2 := i2, i3 := f.i3 + i2, last := b }

/-- Samples enter a filter, and its combs decimate after the last of them: the output of the sinc3 filter, or of the sinc2
filter, between 0 and the decimation to its order (R137, R138). -/
def sincOutput (third : Bool) (samples : List Bool) (f : Sinc) : Sinc × Int :=
  let f := samples.foldl sincSample f
  let y := if third then f.i3 else f.i2
  let c1 := y - f.z1
  let c2 := c1 - f.z2
  ({ f with z1 := y, z2 := c1, z3 := c2 }, if third then c2 - f.z3 else c2)

/-- A bit density p = y / full as 2p − 1 in Q1.15, all ones at 0x7FFF (R137, R138). -/
def density (k full : Nat) (y : Int) : BitVec 16 := BitVec.ofInt 16 (sat16 (openRound k ((2 * y - full) * 32768) full))

/-- The samples show a transition, the one before them being `last`. -/
def moves (last : Bool) (samples : List Bool) : Bool := samples.any (fun b => b ≠ last)

/-- Identical samples at the end. -/
def lastRun (samples : List Bool) : Nat := (samples.reverse.takeWhile (fun b => b = samples.getLast?.getD false)).length

/-- An input has shown a transition (R143, R147): it lies within the last 64 samples, and its clock is present. -/
def noteSamples (c : Nat) (last : Bool) (samples : List Bool) (s : State) : State :=
  if moves last samples then
    each (s.legsOfCch c) (fun l t => t.updLg l (fun x => { x with suspect := false }))
      (s.updSd c (fun x => { x with recent := decide (lastRun samples ≤ 64), clk := true }))
  else s

/-- The legs whose CCH is this channel, sensed or not (R146, R147). -/
def State.legsOnCch (s : State) (c : Nat) : List Nat := (List.range 32).filter (fun l => decide (s.cch l = c))

def State.legsOfMch (s : State) (c : Nat) : List Nat :=
  (List.range 24).filter (fun l => s.flag (SDF_LMAP l) SDF_LMAP_MEN && decide (s.fld (SDF_LMAP l) SDF_LMAP_MCH = c))

/-- The samples that the next output of the control filter takes: DEC, and in a stretch three times as many for the first,
so that W samples give floor(W / DEC) − 2 outputs (R137, R140). -/
def State.controlTakes (s : State) (c : Nat) : Nat :=
  let d := s.fld (SDF_CFG c) SDF_CFG_DEC
  if (s.sd c).fresh && (s.legsOfCch c).any (fun l => (s.lg l).stretch) then 3 * d else d

/-- An output of the control filter, as it goes on (R137, R140, R147): discarded after a re-arm, part of an open stretch,
or written to SDF_CRES. -/
def controlValue (c : Nat) (raw : Int) (s : State) : State :=
  if 0 < (s.sd c).dropC then s.updSd c (fun x => { x with dropC := x.dropC - 1 })
  else
    let inside := (s.legsOfCch c).filter (fun l => (s.lg l).stretch)
    if inside.isEmpty then
      let s := s.setFldI (SDF_CRES c) SDF_CRES_VALUE (s.calibrated c raw)
      s.setFld (SDF_CRES c) SDF_CRES_CTAG (s.fld (SDF_CRES c) SDF_CRES_CTAG + 1)
    else each inside (fun l t => t.updLg l (fun x => { x with sum := x.sum + raw, nout := x.nout + 1 })) s

/-- The control filter takes its next samples and gives an output (R137). -/
def controlOutput (c : Nat) (samples : List Bool) (s : State) : State :=
  if s.sampled c && decide (samples.length = s.controlTakes c) then
    let d := s.fld (SDF_CFG c) SDF_CFG_DEC
    let old := (s.sd c).ctl
    let (f, y) := sincOutput true samples old
    noteSamples c old.last samples
      (controlValue c (density 23 (d ^ 3) y).toInt (s.updSd c (fun x => { x with ctl := f, fresh := false })))
  else s

/-- The conditions of R138 after an output: counts of consecutive outputs, and whether each condition holds. -/
def pcmpNext (s : State) (c : Nat) (v : Int) : SddSt :=
  let x := s.sd c
  if s.flag (SDF_PCTL c) SDF_PCTL_PEN then
    let q := s.fld (SDF_PCTL c) SDF_PCTL_QCNT
    let above := decide (s.sfld (SDF_PCMP c) SDF_PCMP_HI < v)
    let below := decide (v < s.sfld (SDF_PCMP c) SDF_PCMP_LO)
    let h := if above then min (x.hi + 1) 8 else 0
    let l := if below then min (x.lo + 1) 8 else 0
    { x with hi := h, lo := l, hiHolds := above && (x.hiHolds || decide (q ≤ h)), loHolds := below && (x.loHolds || decide (q ≤ l)) }
  else { x with hi := 0, lo := 0, hiHolds := false, loHolds := false }

/-- An output of the protection filter, as it goes on (R138, R148, R149), with the rungs of the DC link (R208 to R211). -/
def protectionValue (c : Nat) (raw : Int) (s : State) : State :=
  if 0 < (s.sd c).dropP then s.updSd c (fun x => { x with dropP := x.dropP - 1 })
  else
    let s := s.setFldI (SDF_STAT c) SDF_STAT_PRES raw
    let s := each ((s.legsOfMch c).filter (fun l => (s.lg l).stretch))
      (fun l t => t.updLg l (fun x => { x with monSum := x.monSum + raw, monN := x.monN + 1 })) s
    let old := s.sd c
    let new := pcmpNext s c raw
    let s := s.updSd c (fun _ => new)
    let s := if new.hiHolds && !old.hiHolds then (s.sq (SDF_STAT c) SDF_STAT_PHI).raise (evSense 9) else s
    let s := if new.loHolds && !old.loHolds then (s.sq (SDF_STAT c) SDF_STAT_PLO).raise (evSense 10) else s
    let s := if (new.hiHolds || new.loHolds) && !(old.hiHolds || old.loHolds) then latchSource (80 + c) s else s
    dcLinkReading c s

/-- The protection filter takes its next PDEC samples and gives an output (R138). -/
def protectionOutput (c : Nat) (samples : List Bool) (s : State) : State :=
  let d := s.fld (SDF_CFG c) SDF_CFG_PDEC
  if s.sampled c && decide (samples.length = d) then
    let old := (s.sd c).prot
    let (f, y) := sincOutput false samples old
    noteSamples c old.last samples (protectionValue c (density 24 (d ^ 2) y).toInt (s.updSd c (fun x => { x with prot := f })))
  else s

/-- A leg shows faulted, and its window does not measure (R143, R146). -/
def faultLeg (l : Nat) (s : State) : State :=
  (s.setFlag (SDF_LSTAT l) SDF_LSTAT_FAULT true).updLg l (fun x => { x with faultSeen := true })

/-- A channel is faulted: STALL and FAULT, and the legs it controls (R146). -/
def stallChannel (c : Nat) (s : State) : State :=
  let s := ((s.sq (SDF_STAT c) SDF_STAT_STALL).setFlag (SDF_STAT c) SDF_STAT_FAULT true).raise (evSense 12)
  each (s.legsOnCch c) faultLeg (s.updSd c (fun x => { x with recent := false }))

/-- A run of SUSP identical samples: the stretches in progress become unusable (R143, R146). DESIGN CHOICE (log entry
150): a run that lies outside every stretch blocks the next one until a transition is seen. -/
def suspectRun (c : Nat) (s : State) : State :=
  if !s.sampled c then s
  else each (s.legsOfCch c) (fun l t =>
    if (t.lg l).stretch then t.updLg l (fun x => { x with stretch := false, sum := 0, nout := 0, monSum := 0, monN := 0, suspect := true })
    else t.updLg l (fun x => { x with suspect := true })) s

/-- 64 samples without a transition (R146). -/
def sdfStall (c : Nat) (s : State) : State := if s.sampled c then stallChannel c s else s

/-- A clock-return input has lost its clock: every data input sampled on it has stalled (R146). -/
def sdfCklost (c : Nat) (s : State) : State :=
  if s.flag (SDF_CFG c) SDF_CFG_EN && s.flag (SDF_CFG c) SDF_CFG_CLKRET then
    let s := (s.sq (SDF_STAT c) SDF_STAT_CKLOST).raise (evSense 13)
    let ds := (List.range 96).filter (fun d => s.sampled d && s.flag (SDF_CFG d) SDF_CFG_CKRET && decide (s.fld (SDF_CFG d) SDF_CFG_CKIN = c))
    each ds (fun d t => stallChannel d (t.updSd d (fun x => { x with clk := false }))) s
  else s

/-- An accepted re-arm (R147). -/
def rearmSdf (c : Nat) (s : State) : State :=
  let s := (s.setFlag (SDF_STAT c) SDF_STAT_FAULT false).setFlag (SDF_PCTL c) SDF_PCTL_REARM false
  let s := s.updSd c (fun x => { x with dropC := 3, dropP := 3 })
  each (s.legsOnCch c) (fun l t =>
    ((t.setFlag (SDF_LSTAT l) SDF_LSTAT_FAULT false).setFld (SDF_LSTAT l) SDF_LSTAT_PCNT 0).updLg l (fun x => { x with pflt := false })) s

/-- SDF_LMAP has been written: the leg shows faulted by its control channel or by its predictions (R145, R146). -/
def lmapWritten (l : Nat) (s : State) : State :=
  s.setFlag (SDF_LSTAT l) SDF_LSTAT_FAULT ((s.lg l).pflt || s.flag (SDF_STAT (s.cch l)) SDF_STAT_FAULT)

/-- The clock of an input is present (R135, R136, R147): its SDC output runs, or its clock returns. -/
def State.sdClock (s : State) (c : Nat) : Bool := (s.sd c).clk && s.clocked c

/-- The conditions for a re-arm hold (R147). -/
def State.rearmOk (s : State) (c : Nat) : Bool := (s.sd c).recent && s.sdClock c

/-! ### SAR converters (R150) -/

/-- A sequence starts, or a trigger finds the converter busy (R150). -/
def sarTrigger (c : Nat) (s : State) : State :=
  if s.flag (SAR_STAT c) SAR_STAT_BUSY then (s.sq (SAR_STAT c) SAR_STAT_OVR).raise (evSense 8)
  else if s.fld (SAR_CTL c) SAR_CTL_LEN = 0 then s
  else (s.setFlag (SAR_STAT c) SAR_STAT_BUSY true).updSr c (fun x => { slot := 0, seq := x.seq + 1 })

/-- A slot's conversion completes (R150); after the last one SAR_DONE, and the next sequence in continuous mode. -/
def sarSlotResult (c : Nat) (code : BitVec 16) (s : State) : State :=
  if !s.flag (SAR_STAT c) SAR_STAT_BUSY then s
  else
    let x := s.sr c
    let i := 8 * c + s.fld (SAR_SEQ c) ⟨3 * x.slot, 3⟩
    let s := (s.setFld (SAR_RES i) SAR_RES_TAG x.seq).setFld (SAR_RES i) SAR_RES_VALUE code.toNat
    if s.fld (SAR_CTL c) SAR_CTL_LEN ≤ x.slot + 1 then
      let s := (s.setFlag (SAR_STAT c) SAR_STAT_BUSY false).raise (evSense c)
      if s.flag (SAR_CTL c) SAR_CTL_EN && s.fld (SAR_CTL c) SAR_CTL_TSRC = 2 then sarTrigger c s else s
    else s.updSr c (fun y => { y with slot := y.slot + 1 })

/-- A trigger line of an Axle starts the converters that select it (R150). -/
def sarAxleTrigger (a m : Nat) (s : State) : State :=
  each ((List.range 8).filter (fun c => s.flag (SAR_CTL c) SAR_CTL_EN && decide (s.fld (SAR_CTL c) SAR_CTL_TSRC = 1)
    && decide (s.fld (SAR_CTL c) SAR_CTL_TAX = a) && decide (s.fld (SAR_CTL c) SAR_CTL_TTRG = m))) sarTrigger s

/-! ### Comparators (R152) -/

/-- The threshold of a comparator in µV × 1024, with its offset (R152). -/
def State.cmpThreshold (s : State) (k : Nat) : Int :=
  (s.fld (CMP_CFG k) CMP_CFG_THR : Int) * 3000000 + clampI (-10000) 10000 (Config.cmpOffset k) * 1024

/-- The release margin that HYST names, in µV (R152). -/
def hystMargin (h : Nat) : Int := if h = 0 then 0 else if h = 1 then 10000 else if h = 2 then 20000 else 40000

/-- An input of `uv` µV lies beyond the threshold on the active side (R152). -/
def State.cmpBeyond (s : State) (k uv : Nat) : Bool :=
  let v : Int := uv * 1024
  if s.flag (CMP_CFG k) CMP_CFG_POL then decide (s.cmpThreshold k < v) else decide (v < s.cmpThreshold k)

/-- An input of `uv` µV lies beyond the release margin on the inactive side (R152). -/
def State.cmpBack (s : State) (k uv : Nat) : Bool :=
  let v : Int := uv * 1024
  let m := hystMargin (s.fld (CMP_CFG k) CMP_CFG_HYST) * 1024
  if s.flag (CMP_CFG k) CMP_CFG_POL then decide (v < s.cmpThreshold k - m) else decide (s.cmpThreshold k + m < v)

/-- A comparator becomes active, its input at `uv` µV. -/
def cmpHit (k uv : Nat) (s : State) : State :=
  if s.flag (CMP_CFG k) CMP_CFG_EN && !s.cmpActive k && s.cmpBeyond k uv then
    let s := s.setFld CMP_LVL CMP_LVL_LVL (s.fld CMP_LVL CMP_LVL_LVL ||| 2 ^ k)
    latchSource (64 + k) ((s.sqMask CMP_STAT (word (2 ^ k))).raise (evSense 17))
  else s

/-- A comparator leaves its active level: released by its input, or switched off. -/
def cmpOff (k : Nat) (s : State) : State :=
  if s.cmpActive k then s.setFld CMP_LVL CMP_LVL_LVL (s.fld CMP_LVL CMP_LVL_LVL - 2 ^ k) else s

/-- A comparator returns to inactive, its input at `uv` µV. -/
def cmpRelease (k uv : Nat) (s : State) : State := if s.cmpBack k uv then cmpOff k s else s

/-! ### Resolver and encoder (R153 to R155) -/

/-- The conditions of R154 after one more excitation period: `amp` is A in 1/65,536, `err` the tracking error in 1/65,536
turn, and the signal frequency is that of `speed` before MULT. -/
def resolverNext (s : State) (r amp : Nat) (err : BitVec 16) (speed : Word) : ResSt :=
  let x := s.rs r
  let low := if amp * 10 < 4 * 65536 then min 2 (x.low + 1) else 0
  let off := if amp * 10 < 7 * 65536 ∨ 13 * 65536 < amp * 10 then min 2 (x.off + 1) else 0
  { low := low, off := off, los := decide (2 ≤ low), dos := decide (2 ≤ off), lot := decide (1024 < err.toInt.natAbs),
    ovs := decide (4000 * 65536 * s.fld (RES_CFG r) RES_CFG_MULT < speed.toInt.natAbs), ofs := s.fld (RES_OFS r) RES_OFS_OFFSET }

/-- The resolver interface evaluates its signals after an excitation period (R153, R154), with the tracking angle and the
electrical speed as its loop gives them; a flag is set as its condition comes to be present. -/
def resolverSample (r amp : Nat) (err track : BitVec 16) (speed : Word) (s : State) : State :=
  if !s.flag (RES_CFG r) RES_CFG_EN then s
  else
    let ang := s.fld (RES_CFG r) RES_CFG_MULT * track.toNat + s.fld (RES_OFS r) RES_OFS_OFFSET
    let old := s.rs r
    let x := resolverNext s r amp err speed
    let s := (s.setFld (RES_ANG r) RES_ANG_ANGLE ang).wr (RES_SPD r) speed
    let s := (s.setFlag (RES_STAT r) RES_STAT_LOCK (!(x.los || x.lot || x.ovs))).updRs r (fun _ => x)
    let note := fun (b : Bool) (f : Fld) (t : State) => if b then (t.sq (RES_STAT r) f).raise (evSense (18 + r)) else t
    note (x.ovs && !old.ovs) RES_STAT_OVS (note (x.lot && !old.lot) RES_STAT_LOT
      (note (x.dos && !old.dos) RES_STAT_DOS (note (x.los && !old.los) RES_STAT_LOS s)))

/-- RES_ANG corrected for the fixed demodulation delay by the current speed (R153). -/
def State.latchedAngle (s : State) (r : Nat) : Nat :=
  let d := openRound 22 (s.sfld (RES_SPD r) RES_SPD_SPEED * (Config.demodDelay : Int)) 800000000
  (((s.fld (RES_ANG r) RES_ANG_ANGLE : Int) + d) % 65536).toNat

/-- The live electrical angle of an encoder (R155). -/
def encAngle (s : State) (e : Nat) : Nat :=
  let cpr := s.fld (ENC_CPR e) ENC_CPR_CPR
  if cpr = 0 then 0
  else (s.fld (ENC_POS e) ENC_POS_POS * s.fld (ENC_CFG e) ENC_CFG_PP) % cpr * 2 ^ 32 / cpr

/-- A level of an encoder that has stood for `stable` × 4 ns is accepted (R155). -/
def State.encAccepts (s : State) (e stable : Nat) : Bool := decide (s.fld (ENC_CFG e) ENC_CFG_FILT ≤ stable)

/-- The count that MODE gives a change of one input from (a0, b0) to (a, b), none where the edge does not count (R155). -/
def encStep (mode : Nat) (a0 b0 a b : Bool) : Option Int :=
  let onA := decide (a ≠ a0)
  let up := (if onA then a ≠ b else a = b) == Config.encoderLeads
  let counts := decide (a ≠ a0 ∨ b ≠ b0) && (if mode = 0 then true else if mode = 1 then onA else onA && a)
  if counts then some (if up then 1 else -1) else none

/-- POS counts modulo CPR, and two counts closer than 80 ns set OVR (R155). -/
def encMove (e : Nat) (d : Int) (t : Nat) (s : State) : State :=
  let cpr : Int := s.fld (ENC_CPR e) ENC_CPR_CPR
  let close := match (s.en e).lastAt with
    | some u => decide (t < u + 2048)
    | none => false
  let s := s.setFldI (ENC_POS e) ENC_POS_POS (((s.fld (ENC_POS e) ENC_POS_POS : Int) + d) % cpr)
  let s := (s.setFld (ENC_ANG e) ENC_ANG_ANGLE (encAngle s e)).updEn e (fun x => { x with lastAt := some t })
  if close then (s.sq (ENC_STAT e) ENC_STAT_OVR).raise (evSense (20 + e)) else s

/-- The inputs A and B show new levels that have stood for `stable` × 4 ns (R155). -/
def encoderEdge (e : Nat) (a b : Bool) (stable t : Nat) (s : State) : State :=
  if !s.encAccepts e stable then s
  else
    let old := s.en e
    let s := s.updEn e (fun x => { x with a := a, b := b })
    if !s.flag (ENC_CFG e) ENC_CFG_EN then s
    else if a ≠ old.a ∧ b ≠ old.b then (s.sq (ENC_STAT e) ENC_STAT_ILL).raise (evSense (20 + e))
    else match encStep (s.fld (ENC_CFG e) ENC_CFG_MODE) old.a old.b a b with
      | some d => encMove e d t s
      | none => s

/-- A rise of Z that has stood for `stable` × 4 ns (R155). -/
def encoderZ (e stable : Nat) (s : State) : State :=
  if !s.flag (ENC_CFG e) ENC_CFG_EN || !s.encAccepts e stable then s
  else
    let seen := s.flag (ENC_STAT e) ENC_STAT_ZSEEN
    let off := decide (s.fld (ENC_POS e) ENC_POS_POS ≠ 0)
    let s := s.setFlag (ENC_STAT e) ENC_STAT_ZSEEN true
    if s.flag (ENC_CFG e) ENC_CFG_ZEN then
      let s := if seen && off then (s.sq (ENC_STAT e) ENC_STAT_ZERR) else s
      (s.setFld (ENC_POS e) ENC_POS_POS 0).setFld (ENC_ANG e) ENC_ANG_ANGLE 0
    else s

/-- A trigger latches the angles of the interfaces that select it (R153, R155). -/
def angleLatches (a m : Nat) (s : State) : State :=
  let s := each [0, 1] (fun r t =>
    if t.flag (RES_CFG r) RES_CFG_LEN && decide (t.fld (RES_CFG r) RES_CFG_LAX = a) && decide (t.fld (RES_CFG r) RES_CFG_LTRG = m)
    then t.setFld (RES_LAT r) RES_LAT_ANGLE (t.latchedAngle r) else t) s
  each [0, 1] (fun e t =>
    if t.flag (ENC_CFG e) ENC_CFG_LEN && decide (t.fld (ENC_CFG e) ENC_CFG_LAX = a) && decide (t.fld (ENC_CFG e) ENC_CFG_LTRG = m)
    then t.setFld (ENC_LAT e) ENC_LAT_ANGLE (t.fld (ENC_ANG e) ENC_ANG_ANGLE) else t) s

/-! ### Events that need nothing further -/

def execTripPin (src : Fin 64) (ev : PinEvent) (s : State) : Out := settled (tripPin src ev s)
def execSelectionEvaluation (s : State) : Out := settled (selectionEvaluation s)
def execChopFlt (s : State) : Out := settled (chopCheck s)
def execDisFlt (s : State) : Out := settled (dischargeLate s)

def execSuspectRun (c : Fin 96) (s : State) : Out := .next (suspectRun c s)
def execSdfStall (c : Fin 96) (s : State) : Out := .next (sdfStall c s)
def execSdfCklost (c : Fin 96) (s : State) : Out := .next (sdfCklost c s)
def execControlFilterOutput (c : Fin 96) (samples : List Bool) (s : State) : Out := settled (controlOutput c samples s)
def execProtectionFilterOutput (c : Fin 96) (samples : List Bool) (s : State) : Out := settled (protectionOutput c samples s)
def execSarSlotResult (c : Fin 8) (code : BitVec 16) (s : State) : Out := .next (sarSlotResult c code s)
def execCmpHit (k : Fin 16) (uv : Nat) (s : State) : Out := settled (cmpHit k uv s)
def execComparatorRelease (k : Fin 16) (uv : Nat) (s : State) : Out := .next (cmpRelease k uv s)

def execGakTransition (c : Fin 256) (level : Bool) (t : Nat) (s : State) : Out := settled (gakTransition c level t s)
def execRelease (p : Fin 64) (t : Nat) (s : State) : Out := settled (releasePos p t s)
def execAckTimeout (c : Fin 256) (rising : Bool) (s : State) : Out := settled (ackTimeout c rising s)
def execAsyncDeadTimeExpiry (l : Fin 32) (s : State) : Out := settled (asyncExpiry l s)
def execDelayLineSwap (c : Fin 256) (ok : Bool) (s : State) : Out :=
  if s.full then .next (delayLineSwap c ok s) else .next s
def execBootstrapRefresh (l : Fin 32) (s : State) : Out := settled (refreshStart l s)
def execBootstrapRefreshEnd (l : Fin 32) (s : State) : Out := settled (refreshEnd l s)
def execHeldClosingEdge (p : Fin 64) (t : Nat) (s : State) : Out := settled (dueEdges p (s.at t))

end Sys2Proof.Machine
end

