-- ==== Sys2Proof/Machine/Trig.lean ====
section
/-! DEFINITION. Sine, cosine and arc tangent as R79 gives them: exact to the free value within their stated error. -/

namespace Sys2Proof.Machine

open Sys2Proof

/-- π × 2^60, rounded. -/
def piScaled : Int := 3622009729038561421

/-- Terms of the sine series in units of 2^-60, from a term t of order k. -/
def sinSeries : Nat → Int → Int → Int → Int
  | 0, _, _, acc => acc
  | n + 1, x2, t, acc =>
    let k : Int := 2 * (12 - n : Nat)
    let t' := -(t * x2 / 2 ^ 60) / (k * (k + 1))
    sinSeries n x2 t' (acc + t')

/-- sin(r × π / 2^17) × 2^60 for r from 0 to 2^16, within 2^-40. -/
def sinQuarter (r : Nat) : Int :=
  let x := (r : Int) * piScaled / 2 ^ 17
  sinSeries 12 (x * x / 2 ^ 60) x x

/-- sin(2π × i / 2^18) × 2^60 (R79: angle bits [31:14]). -/
def sinScaled (i : Nat) : Int :=
  let i := i % 2 ^ 18
  let r := i % 65536
  match i / 65536 with
  | 0 => sinQuarter r
  | 1 => sinQuarter (65536 - r)
  | 2 => -sinQuarter r
  | _ => -sinQuarter (65536 - r)

/-- A Q1.15 value within 1 LSB of a scaled one: its two neighbours, and the lower one too where the value is exact. -/
def withinLsb (v : Int) (pick : Nat) : Int :=
  let w := v + 2 ^ 20
  let f := w / 2 ^ 45
  let exact := decide (w % 2 ^ 45 < 2 ^ 21)
  let n := if pick % 3 = 1 then f + 1 else if pick % 3 = 2 && exact then f - 1 else f
  clampI (-32768) 32767 n

/-- Sine and cosine of an electrical angle, Q1.15 (R79). -/
def sinQ15 (angle : Word) : Int := let i := angle.toNat >>> 14; withinLsb (sinScaled i) (Config.sinPick i)
def cosQ15 (angle : Word) : Int := let i := angle.toNat >>> 14; withinLsb (sinScaled (i + 65536)) (Config.cosPick i)

/-- π × 2^140, rounded. -/
def piWide : Int := 4378741080330103799233250808471022728399425

/-- atan(2^-k) in units of 2^-64 of an angle unit, within 1 of them: its series. -/
def atanPower (k : Nat) : Int :=
  if k = 0 then 2 ^ 93
  else
    let term := fun (i : Nat) => ((2 ^ (140 - min 140 (k * (2 * i + 1))) / (2 * i + 1) : Nat) : Int)
    (List.range 72).foldl (fun t i => if i % 2 = 0 then t + term i else t - term i) 0 * 2 ^ 95 / piWide

/-- Rotations by the angles of the powers of two toward the positive axis; the angle turned through is summed. -/
def atanSteps : Nat → Nat → Int → Int → Int → Int
  | 0, _, _, _, acc => acc
  | n + 1, k, x, y, acc =>
    if 0 < y then atanSteps n (k + 1) (x + y / 2 ^ k) (y - x / 2 ^ k) (acc + atanPower k)
    else atanSteps n (k + 1) (x - y / 2 ^ k) (y + x / 2 ^ k) (acc - atanPower k)

/-- The angle of (x, y) in units of 2^-64 angle unit, and whether it is exact: it is on the axes and the diagonals, and
elsewhere it is within 2^10 of them; 0 for the zero vector. -/
def atan2Wide (y x : Int) : Int × Bool :=
  let m : Int :=
    if y = 0 then 0
    else if x = 0 then 2 ^ 94
    else if x.natAbs = y.natAbs then 2 ^ 93
    else atanSteps 100 0 ((x.natAbs : Int) * 2 ^ 120) ((y.natAbs : Int) * 2 ^ 120) 0
  let a := if x < 0 then 2 ^ 95 - m else m
  (if y < 0 then -a else a, decide (x = 0 ∨ y = 0 ∨ x.natAbs = y.natAbs))

/-- The angle of (x, y) in units of 2^-32 turn, to the nearest unit; 0 for the zero vector. -/
def atan2Units (y x : Int) : Int := ((atan2Wide y x).1 + 2 ^ 63) / 2 ^ 64

/-- atan2(q, d) as any angle of whole units that is at most 2^18 of them from the exact one; exactly 0 for the zero vector
(R79). The bound is drawn in by 2^-50 unit where the angle is not known exactly. -/
def atan2Free (q d : Int) : Int :=
  if q = 0 ∧ d = 0 then 0
  else
    let a := atan2Wide q d
    let slack : Int := if a.2 then 2 ^ 82 else 2 ^ 82 - 2 ^ 14
    clampI (-((slack - a.1) / 2 ^ 64)) ((a.1 + slack) / 2 ^ 64) (a.1 / 2 ^ 64 + Config.atanErr q d)

end Sys2Proof.Machine
end

