-- ==== Sys2Proof/Machine/Hys.lean ====
section
/-! DEFINITION. The direct torque fallback (R183 to R194): estimator, comparators and switching table, entry, the held
safe state, catching and handback. Quantities are integers in units of 2^-40 of their scales. -/

namespace Sys2Proof.Machine

open Sys2Proof

/-- 2^40, the unit of the estimator's quantities; 1/√3, and half √3, in that unit. -/
def one40 : Int := 1099511627776
def invSqrt3 : Int := 634803333774
def halfSqrt3 : Int := 952205001410

/-- 2π × 800 × 2^20: turns an Q24.8 speed and µs into a ratio in units of 2^-60 (R184). -/
def speedK : Int := 5270717853

/-- Q1.15 to the unit of the estimator. -/
def up15 (x : Int) : Int := x * 2 ^ 25

/-! ### Parameters -/

/-- The Axle of a set: that of its phase A leg (R183). -/
def State.setAxle (s : State) (k : Nat) : Nat := s.legAxle (s.fld (HYS_SET k) HYS_SET_LEGA)

def State.hTflx (s : State) (a : Nat) : Int := s.fld (HYS_FLX a) HYS_FLX_TFLX
def State.hLs (s : State) (a : Nat) : Int := s.fld (HYS_MOD a) HYS_MOD_LS
def State.hRs (s : State) (a : Nat) : Int := s.fld (HYS_MOD a) HYS_MOD_RS
def State.hKtq (s : State) (a : Nat) : Int := s.fld (HYS_FLX a) HYS_FLX_KTQ

/-- A product with ls, unsigned Q4.12; with r, unsigned Q1.15. -/
def mulLs (ls x : Int) : Int := ls * x / 4096
def mulRs (rs x : Int) : Int := rs * x / 32768

/-- |(x, y)|. -/
def mag (x y : Int) : Int := (isqrt (x * x + y * y).toNat : Nat)

/-- |w| × TFLX × psi as a fraction of V_FS (R184, R191). -/
def backEmf (w tflx psi : Int) : Int := w * tflx * speedK * psi / 2 ^ 60

/-- Current of phase ph from α and β by the inverse Clarke transform (R184). -/
def phaseCurrent (ia ib : Int) (ph : Nat) : Int :=
  if ph = 0 then ia
  else if ph = 1 then -ia / 2 + ib * halfSqrt3 / one40
  else -ia / 2 - ib * halfSqrt3 / one40

/-- Level of a leg as its acknowledgements show it: 1 high on, 0 low on, else the diode by the current's sign (R184). -/
def State.legLevel (s : State) (l : Nat) (i : Int) : Int :=
  if s.showsOn (2 * l) then 1 else if s.showsOn (2 * l + 1) then 0 else if i < 0 then 1 else 0

/-- Clarke of three phase values: α and β, zero sequence removed. -/
def clarke (a b c : Int) : Int × Int := ((2 * a - b - c) / 3, (b - c) * invSqrt3 / one40)

/-- The HYS estimate of a leg's current, Q1.15 (R144, R184); a leg of no set has none, a value the spec does not state. -/
def State.hysEstimate (s : State) (l : Nat) : Int := match s.setOfLeg l with
  | some (k, ph) => sat16 (phaseCurrent (s.hy k).iA (s.hy k).iB ph / 2 ^ 25)
  | none => s16 (Config.freeNat s.draws)

/-! ### References (R186) -/

/-- Guard command fields of an Axle (R332). -/
def State.grdMode (s : State) (a : Nat) : Bool := (s.fld (GRD_CMDFLG a) GRD_CMDFLG_FLAGS).testBit 0
def State.grdDrv (s : State) (a : Nat) : Bool := (s.fld (GRD_CMDFLG a) GRD_CMDFLG_FLAGS).testBit 1
def State.grdBrk (s : State) (a : Nat) : Bool := (s.fld (GRD_CMDFLG a) GRD_CMDFLG_FLAGS).testBit 2
def State.tMax (s : State) (a : Nat) : Int := (s.rd (GRD_CMDMAX a)).toInt
def State.tMin (s : State) (a : Nat) : Int := (s.rd (GRD_CMDMIN a)).toInt

/-- The clamped target of T_f, Q1.31 (R186). -/
def State.torqueTarget (s : State) (a : Nat) : Int :=
  let speedMode := s.grdMode a
  let set : Int := if !speedMode then (s.rd (GRD_CMDSET a)).toInt
    else if s.full then (s.rd (HYS_TREF a)).toInt else 0
  let lim : Int := (s.fld (HYS_LIM a) HYS_LIM_TLIM : Int) * 2 ^ 16
  clampI (-lim) lim (clampI (s.tMin a) (s.tMax a) set)

/-- One 100 ns step of the slew (R186): TSLEW is Q1.15 of TFS per µs. -/
def slewStep (tf target tslew : Int) : Int := moveToward tf target (tslew * 65536 / 10)

/-- Sum and mean of the sets' speeds (R186). -/
def State.meanSpeed (s : State) (a : Nat) : Int :=
  let ks := s.setsOf a
  if ks.isEmpty then 0 else (ks.foldl (fun m k => m + (s.hy k).w) 0) / (ks.length : Int)

/-- The map entry that serves a torque and a speed (R173). -/
def State.mapEntry (s : State) (a : Nat) (tf w : Int) : Nat :=
  let sg : Int := if 0 ≤ w then 1 else -1
  let r := clampI 0 63 (32 * sg * tf / 2 ^ 31 + 32)
  let wfs := (s.rd (TTU_MAPS a)).toNat
  let c := if wfs = 0 then 63 else min 63 (64 * w.natAbs / wfs)
  0x20000000 + a * 0x20000 + 0x10000 + 8 * (64 * r.toNat + c)

/-- The engine reads the map (R186). -/
def State.usesMap (s : State) (a : Nat) : Bool := s.flag (HYS_CFG a) HYS_CFG_MAPEN && s.full

/-- PSI* of an Axle (R186): from the map in Full service, where the ECC's finding counts (R251), and PSIREF where the word
is uncorrectable. -/
def psiRef (a : Nat) (finding : Ecc) (s : State) : State × Int :=
  let own := up15 (s.fld (HYS_LIM a) HYS_LIM_PSIREF : Int) / 2
  if s.usesMap a then
    let addr := s.mapEntry a (s.ax a).tf (s.meanSpeed a) + 4
    if s.poisoned addr || decide (finding = .uncorrectable) then (noteEcc true addr s, own)
    else
      let v := up15 ((s.word32 addr).toNat / 65536 : Nat) / 2
      (if finding = .corrected then noteEcc false addr s else s, v)
  else (s, own)

/-! ### The switching table (R187, R188) -/

/-- Sector of an angle in units of 2^-32 turn (R187): sector k begins at (k − 1) × 60° − 30°, and an angle on the
boundary belongs to the higher sector. -/
def sectorOf (angle : Int) : Nat := ((12 * (angle % 2 ^ 32) / 2 ^ 32 + 1) / 2 % 6).toNat + 1

/-- An index taken modulo 6 in 1 to 6. -/
def wrap6 (n : Int) : Nat := ((n - 1) % 6).toNat + 1

/-- The vector for a sector and the comparators' outputs (R188). -/
def chooseVector (sector : Nat) (dpsi : Bool) (tau : Int) (cur : Nat) : Nat :=
  let step : Int := if dpsi then 1 else 2
  if tau = 0 then
    let highs := (vecBit cur 0).toNat + (vecBit cur 1).toNat + (vecBit cur 2).toNat
    if highs ≤ 1 then 0 else 7
  else wrap6 ((sector : Int) + tau * step)

/-- The flux comparator (R187). -/
def fluxComparator (old : Bool) (psi ref band : Int) : Bool :=
  if psi < ref - band then true else if ref + band < psi then false else old

/-- The torque comparator (R187). -/
def torqueComparator (old err band : Int) : Int :=
  if band < err then 1 else if err < -band then -1
  else if old = 1 ∧ err ≤ 0 then 0 else if old = -1 ∧ 0 ≤ err then 0 else old

/-- Legs whose command can follow a set's vector: its own, and those whose masks select it (R115, R116). -/
def State.vectorLegs (s : State) (k : Nat) : List Nat :=
  (List.range 32).filter (fun l => (s.setLegs k).contains l || [2 * l, 2 * l + 1].any (fun p =>
    decide (s.fld (POS_CFG p) POS_CFG_MSRC = 2) && decide (s.fld (POS_CFG p) POS_CFG_HSET = k)))

/-- A set's comparators and its wanted vector. -/
def State.wantedVector (s : State) (k : Nat) (psiStar : Int) : HysSt × Nat :=
  let a := s.setAxle k
  let x := s.hy k
  let n : Int := max 1 (s.setsOf a).length
  let tStar := (s.ax a).tf * 512 / n
  let dpsi := fluxComparator x.dpsi (mag x.psiA x.psiB) psiStar ((s.fld (HYS_BAND a) HYS_BAND_FBAND : Int) * 2 ^ 24)
  let tau := torqueComparator x.tau (tStar - x.ts) (up15 (s.fld (HYS_BAND a) HYS_BAND_TBAND))
  let cur := s.fld (HYS_SSTAT k) HYS_SSTAT_VEC
  ({ x with dpsi := dpsi, tau := tau }, chooseVector (s.fld (HYS_SSTAT k) HYS_SSTAT_SECTOR) dpsi tau cur)

/-- Put a vector in force (R188). -/
def setVector (k v : Nat) (s : State) : State :=
  if s.fld (HYS_SSTAT k) HYS_SSTAT_VEC = v then s
  else
    let s := (s.setFld (HYS_SSTAT k) HYS_SSTAT_VEC v).updHy k (fun x => { x with dwell := 0 })
    each (s.vectorLegs k) recompose s

/-- The comparators of a set take a step, and the vector that they want (R187, R188). -/
def compareSet (k : Nat) (finding : Ecc) (s : State) : State × Nat :=
  let (s, psiStar) := psiRef (s.setAxle k) finding s
  let (x, v) := s.wantedVector k psiStar
  (s.updHy k (fun _ => x), v)

/-- A set's vector is chosen from its comparators at once, as in the entry cycle (R189). -/
def regulate (k : Nat) (s : State) : State :=
  let (s, v) := compareSet k .clean s
  setVector k v s

/-! ### The estimator (R184) -/

/-- The registers that show a set's estimate. -/
def showSet (k : Nat) (s : State) : State :=
  let x := s.hy k
  let s := s.setFld (HYS_SSTAT k) HYS_SSTAT_PSI (min 65535 (mag x.psiA x.psiB / 2 ^ 24).toNat)
  let s := s.setFld (HYS_SSTAT k) HYS_SSTAT_SECTOR (sectorOf (atan2Units x.psiB x.psiA))
  s.wr (HYS_SSPD k) (wordI x.w)

/-- HYS_TEST: the sum of T_s over the Axle's sets, Q1.31 (R184). -/
def showTorque (a : Nat) (s : State) : State :=
  s.wr (HYS_TEST a) (wordI (satI 32 (((s.setsOf a).foldl (fun m k => m + (s.hy k).ts) 0) / 512)).1)

/-- A difference of angles in (−180°, 180°], units of 2^-32 turn. -/
def angleDiff (x y : Int) : Int :=
  let d := (x - y) % 2 ^ 32
  if 2 ^ 31 < d then d - 2 ^ 32 else d

/-- The bounded rounding error of one result (log entry 26). -/
def roundErr (n : Nat) : Int := clampI (-256) 256 (Config.estimatorErr n)

/-- One step of a set's estimator: the equations of R184, each result with its bounded rounding error (log entry 26). -/
def estimate (k : Nat) (s : State) : State :=
  let a := s.setAxle k
  let x := s.hy k
  let ls := s.hLs a
  let rs := s.hRs a
  let tflx := max 1 (s.hTflx a)
  let legs := s.setLegs k
  let u := up15 (s.sfld (SDF_CRES (s.fld (HYS_CFG a) HYS_CFG_VDCCH)) SDF_CRES_VALUE)
  let lev := fun (ph : Nat) => u * s.legLevel (legs.getD ph 0) (phaseCurrent x.iA x.iB ph)
  let (va, vb) := clarke (lev 0) (lev 1) (lev 2)
  let err := fun (n : Nat) => roundErr (s.draws + n)
  let psiA := x.psiA + (va - mulRs rs x.iA) / (10 * tflx) + err 0
  let psiB := x.psiB + (vb - mulRs rs x.iB) / (10 * tflx) + err 1
  let pra := psiA - mulLs ls x.iA
  let prb := psiB - mulLs ls x.iB
  let theta := atan2Units prb pra
  let w := x.w + (angleDiff theta x.theta * 256 / 80 - x.w) / 1000 + err 2
  let ea := -(backEmf w tflx prb)
  let eb := backEmf w tflx pra
  let den := 10 * tflx * max 1 ls
  let iA := x.iA + (va - mulRs rs x.iA - ea) * 4096 / den + err 3
  let iB := x.iB + (vb - mulRs rs x.iB - eb) * 4096 / den + err 4
  let ts := mulRs (s.hKtq a) ((psiA * iB - psiB * iA) / one40) + err 5
  let win := (s.ax a).winOpen
  let y := { x with
    psiA := psiA, psiB := psiB, iA := iA, iB := iB, w := w, theta := theta, ts := ts, dwell := min (x.dwell + 1) 255,
    sumA := if win then x.sumA + iA else x.sumA, sumB := if win then x.sumB + iB else x.sumB,
    nsum := if win then x.nsum + 1 else x.nsum }
  (s.updHy k (fun _ => y)).drew 6

/-- T_f slews with the step of the Axle's lowest set while it regulates (R186). -/
def slewReference (k : Nat) (s : State) : State :=
  let a := s.setAxle k
  if s.hysMode a = 1 ∧ (s.setsOf a).head? = some k then
    let tf := slewStep (s.ax a).tf (s.torqueTarget a) (s.fld (HYS_CFG a) HYS_CFG_TSLEW)
    s.updAx a (fun x => { x with tf := tf })
  else s

/-- The set steps its estimator (R184). -/
def State.setSteps (s : State) (k : Nat) : Bool :=
  s.awake && s.flag (HYS_SET k) HYS_SET_EN && decide (s.setAxle k < 4) && s.flag (HYS_CFG (s.setAxle k)) HYS_CFG_EN

/-- One 100 ns step of a set (R184, R186 to R188): the comparators step in every mode, the vector follows them in MODE 1, a
change of it after the minimum dwell. -/
def estimatorStep (k : Nat) (finding : Ecc) (s : State) : State :=
  let a := s.setAxle k
  if s.setSteps k then
    let (s, v) := compareSet k finding (slewReference k (showTorque a (showSet k (estimate k s))))
    if s.hysMode a = 1 ∧ s.fld (HYS_TIM a) HYS_TIM_MINDW ≤ (s.hy k).dwell then setVector k v s else s
  else s

/-! ### Entry, the held safe state, catching and handback (R189 to R193) -/

/-- Every phase leg of the Axle belongs to an enabled set (R183). -/
def State.hasFallback (s : State) (a : Nat) : Bool :=
  !(s.phaseLegs a).isEmpty && (s.phaseLegs a).all (fun l => (s.setOfLeg l).isSome)

/-- HYS_ENTER with its cause and mode (R189). -/
def noteEntry (a cause mode : Nat) (s : State) : State :=
  let s := (s.setFld (HYS_STAT a) HYS_STAT_CAUSE cause).setFld (HYS_STAT a) HYS_STAT_MODE mode
  (s.sq (HYS_STAT a) HYS_STAT_ENTER).raise (evSup a 5)

/-- The Axle passes to the fallback (R183, R189): regulating from HYS_TEST, or held safe where it has no fallback. -/
def enterFallback (a cause : Nat) (s : State) : State :=
  if s.underFallback a then s
  else if s.hasFallback a then
    let t := (s.rd (HYS_TEST a)).toInt
    let s := (noteEntry a cause 1 s).updAx a (fun x => { x with tf := t, attempts := 0, fbPending := none })
    let s := each (s.legsOf a) clearCarries s
    changeSources a (each (s.setsOf a) regulate s)
  else
    let s := (noteEntry a cause 2 s).updAx a (fun x => { x with fbPending := none })
    changeSources a (safeFor (.hysHeld true) (s.legsOf a) (each (s.legsOf a) clearCarries s))

/-- The held safe state ends for an Axle's legs (R192, R189). -/
def endHeld (a : Nat) (s : State) : State :=
  endCause (.hysHeld false) (s.legsOf a) (endCause (.hysHeld true) (s.legsOf a) s)

/-- The sets of an Axle have converged, or left the regulation that a catch began (R192). -/
def clearCaught (a : Nat) (s : State) : State := each (s.setsOf a) (fun k t => t.updHy k (fun x => { x with caught := false })) s

/-- The Axle leaves every mode of the fallback at a stop (R189). -/
def endFallback (a : Nat) (s : State) : State :=
  let s := (s.setFld (HYS_STAT a) HYS_STAT_MODE 0).updAx a (fun x => { x with
    fbPending := none, handback := false, catchPending := false, probing := false, probeDue := false, probes := 0, attempts := 0,
    drayStarted := false })
  changeSources a (endHeld a (clearCaught a s))

/-- Back-EMF at or above BEMF (R191): the failing set's own, or that of the last trusted report, taken as above where
there is none. -/
def State.heldAsc (s : State) (k : Nat) : Bool :=
  let a := s.setAxle k
  let x := s.hy k
  let lim := up15 (s.fld (HYS_CONV a) HYS_CONV_BEMF)
  let eb := backEmf x.w.natAbs (s.hTflx a) (mag (x.psiA - mulLs (s.hLs a) x.iA) (x.psiB - mulLs (s.hLs a) x.iB))
  let trusted := match (s.ax a).trustedW with
    | none => true
    | some w => decide (lim ≤ backEmf w.toInt.natAbs (s.hTflx a) (up15 (s.fld (HYS_LIM a) HYS_LIM_PSIREF : Int) / 2))
  decide (lim ≤ eb) || trusted

/-- TCONV has passed without convergence (R191, R192). -/
def hysNoconv (k : Nat) (s : State) : State :=
  let a := s.setAxle k
  if s.flag (HYS_SET k) HYS_SET_EN && decide (a < 4) && decide (s.hysMode a = 1) && !s.flag (HYS_SSTAT k) HYS_SSTAT_CONV then
    let again := (s.hy k).caught
    let n := if again then (s.ax a).attempts + 1 else (s.ax a).attempts
    let asc := s.heldAsc k
    let s := ((s.sq (HYS_STAT a) HYS_STAT_NOCONV).raise (evSup a 6)).setFld (HYS_STAT a) HYS_STAT_MODE 2
    let s := (clearCaught a s).updAx a (fun x => { x with attempts := n, handback := false })
    let s := if again ∧ n = s.fld (HYS_CATCH a) HYS_CATCH_MAXTRY then
        (s.sq (HYS_STAT a) HYS_STAT_CATCHFAIL).raise (evSup a 8) else s
    changeSources a (safeFor (.hysHeld asc) (s.legsOf a) s)
  else s

/-- HYS_CTRL.CATCH accepted (R192): AUTO may act again. -/
def catchAsked (a : Nat) (s : State) : State := s.updAx a (fun x => { x with catchPending := true, attempts := 0 })

/-- MODE has been 2 for HOLD with AUTO = 1 (R192). -/
def autoCatch (a : Nat) (s : State) : State :=
  let c := s.rd (HYS_CATCH a)
  if s.hysMode a = 2 && HYS_CATCH_AUTO.bit c && decide ((s.ax a).attempts < HYS_CATCH_MAXTRY.get c) && s.hasFallback a then
    s.updAx a (fun x => { x with catchPending := true })
  else s

/-- Step 1 of a catch, at an update point (R192), which also ends the keeper's hold of the legs in the Axle's sets
(R206). -/
def catchBegin (a : Nat) (s : State) : State :=
  let dray := decide (s.hysMode a = 0)
  let t := s.now
  let s := s.updAx a (fun x => { x with
    catchPending := false, probing := false, probeDue := false, probes := 0, drayStarted := false, catchAt := t })
  let s := each (s.setsOf a) (fun k t => t.updHy k (fun x => { x with probe := none })) s
  let s := if dray then noteEntry a 5 3 s else s.setFld (HYS_STAT a) HYS_STAT_MODE 3
  changeSources a (endHeld a (each ((s.setsOf a).flatMap s.setLegs) endHold s))

/-- A catch that waits for its update point (R192): Dray service's own, an entry into the fallback, takes place in Drive,
and leads straight to the held safe state where the Axle has no fallback (R183, R189). -/
def catchUpdate (a : Nat) (s : State) : State :=
  if !(s.ax a).catchPending then s
  else if s.hysMode a ≠ 0 ∨ (s.power = .drive ∧ s.hasFallback a = true) then catchBegin a s
  else
    let s := s.updAx a (fun x => { x with catchPending := false, drayStarted := x.drayStarted && s.power ≠ .drive })
    if s.power = .drive then enterFallback a 5 s else s

/-- A probe begins (R192): vector 0 on all sets. A window that is open already must have begun late enough. -/
def catchProbe (a : Nat) (s : State) : State :=
  let x := s.ax a
  if s.hysMode a = 3 && !x.probing && !x.probeDue && decide (x.probes < 2) && (!x.winOpen || s.probeSpaced a) then
    let s := s.updAx a (fun y => { y with probing := true })
    changeSources a (each (s.setsOf a) (fun k t => setVector k 0 t) s)
  else s

/-- Published α-β current of a set. -/
def State.setCurrent (s : State) (k : Nat) : Int × Int :=
  let i := fun (ph : Nat) => up15 (s.sfld (SDF_LRES ((s.setLegs k).getD ph 0)) SDF_LRES_I)
  clarke (i 0) (i 1) (i 2)

/-- e of a probe with its size test and the midpoint of the stretch (R192, step 3). -/
def State.probeOf (s : State) (k : Nat) : Int × Int × Bool × Nat :=
  let a := s.setAxle k
  let legs := s.setLegs k
  let l := legs.getD 0 0
  let mid := ((s.lg l).stAt + (s.lg l).stEnd) / 2
  let on := legs.foldl (fun m l => max m (s.ps (2 * l + 1)).shownOnAt) 0
  let tm : Int := max 1 (mid - on)
  let (ia, ib) := s.setCurrent k
  let f := fun (i : Int) => mulLs (s.hLs a) i * s.hTflx a * 25600 / tm
  (f ia, f ib, decide (mag ia ib ≤ up15 (s.fld (HYS_CONV a) HYS_CONV_CTOL)), mid)

/-- Steps 4 and 5 for one set (R192). -/
def catchSet (k : Nat) (p2 : Int × Int × Bool × Nat) (s : State) : State :=
  let a := s.setAxle k
  let p1 := ((s.hy k).probe).getD p2
  let psiRef := up15 (s.fld (HYS_LIM a) HYS_LIM_PSIREF : Int) / 2
  let still := p1.2.2.1 && p2.2.2.1
  let dt : Int := max 1 (p2.2.2.2 - p1.2.2.2)
  let w := angleDiff (atan2Units p2.2.1 p2.1) (atan2Units p1.2.1 p1.1) * 8192 / dt
  let sg : Int := if 0 ≤ w then 1 else -1
  let den := w.natAbs * s.hTflx a * speedK
  let scale := fun (e : Int) => if den = 0 then Config.estimatorErr s.draws else e * 2 ^ 60 / den
  let s := s.setFlag (HYS_SSTAT k) HYS_SSTAT_CONV false
  let s := s.updHy k (fun y => { y with caught := true })
  let s := s.updHy k (fun x => if still then
      { x with w := 0, psiA := psiRef, psiB := 0, iA := 0, iB := 0, conv := 0, probe := none, theta := 0 }
    else
      { x with w := w, psiA := sg * scale p2.2.1, psiB := -(sg * scale p2.1), iA := 0, iB := 0, conv := 0, probe := none,
               theta := atan2Units (-(sg * p2.1)) (sg * p2.2.1) })
  showSet k (s.drew 1)

/-- A probe's publication (R192): the second one sets the estimators and regulation starts. -/
def probePublished (a : Nat) (s : State) : State :=
  if s.hysMode a ≠ 3 ∨ (s.ax a).probeDue = false then s
  else
    let ks := s.setsOf a
    let s := s.updAx a (fun x => { x with probeDue := false })
    if (s.ax a).probes < 2 then each ks (fun k t => let p := t.probeOf k; t.updHy k (fun x => { x with probe := some p })) s
    else
      let s := each ks (fun k t => catchSet k (t.probeOf k) t) s
      let s := s.updAx a (fun x => { x with tf := 0, probes := 0 })
      let s := (s.setFld (HYS_STAT a) HYS_STAT_MODE 1).raise (evSup a 7)
      changeSources a (each ks regulate s)

/-- All three legs of a set are measured or reconstructed in the publication (R185). -/
def State.setCounted (s : State) (k : Nat) : Bool :=
  (s.setLegs k).all (fun l => s.flag (SDF_LMAP l) SDF_LMAP_EN && decide (s.fld (SDF_LRES l) SDF_LRES_SRC < 2))

/-- The correction of a set at a publication in which all its legs are measured or reconstructed, by the estimator's mean
over the same window (R185). -/
def correctSet (k : Nat) (s : State) : State :=
  let a := s.setAxle k
  let x := s.hy k
  if !s.setCounted k then s
  else
    let (ma, mb) := s.setCurrent k
    let n : Int := x.wonN
    let ea := ma - (if x.wonN = 0 then x.iA else x.wonA / n)
    let eb := mb - (if x.wonN = 0 then x.iB else x.wonB / n)
    let ls := s.hLs a
    let ok := decide (mag ea eb ≤ up15 (s.fld (HYS_CONV a) HYS_CONV_CTOL))
    let c := if ok then min (x.conv + 1) 15 else 0
    let done := ok && decide (s.fld (HYS_TIM a) HYS_TIM_NCONV ≤ c)
    let s := s.updHy k (fun y => { y with
      iA := y.iA + ea / 2, iB := y.iB + eb / 2, psiA := y.psiA + mulLs ls ea / 4, psiB := y.psiB + mulLs ls eb / 4, conv := c,
      caught := y.caught && !done })
    let s := if !ok then s.setFlag (HYS_SSTAT k) HYS_SSTAT_CONV false
      else if done then s.setFlag (HYS_SSTAT k) HYS_SSTAT_CONV true else s
    showSet k s

/-- HYS_CTRL.HANDBACK accepted (R193). -/
def handbackAsked (a : Nat) (s : State) : State :=
  s.updAx a (fun x => { x with handback := true, commitSinceHb := false })

/-- An accepted handback completes at the first update point at which a COMMIT has been applied since (R193). -/
def handbackUpdate (a : Nat) (s : State) : State :=
  let x := s.ax a
  if x.handback && x.commitSinceHb && s.hysMode a = 1 then
    let s := (s.setFld (HYS_STAT a) HYS_STAT_MODE 0).updAx a (fun y => { y with handback := false, attempts := 0 })
    changeSources a (((clearCaught a s).sq (HYS_STAT a) HYS_STAT_HBACK).raise (evSup a 9))
  else s

/-- A cause of entry waits for the next update point; the lowest code is recorded, and none under the fallback (R189). -/
def askFallback (a cause : Nat) (s : State) : State :=
  if s.underFallback a then s
  else s.updAx a (fun x => { x with fbPending := some (match x.fbPending with | none => cause | some c => min c cause) })

/-- An entry that waited for this update point takes place, in Drive only (R189). -/
def fallbackUpdate (a : Nat) (pend : Option Nat) (s : State) : State := match pend with
  | none => s
  | some cause => if s.power = .drive then enterFallback a cause s else s

/-! ### Publication (R142 to R145, R149) -/

/-- A leg was measured in the window (R143, R145). -/
def State.measured (s : State) (l : Nat) : Bool :=
  (s.lg l).won.closed && !(s.lg l).won.faultSeen && !s.flag (SDF_LSTAT l) SDF_LSTAT_FAULT && s.flag (SDF_LMAP l) SDF_LMAP_EN

/-- The measured result of a leg: the mean of its outputs, calibrated (R141). -/
def State.measuredI (s : State) (l : Nat) : Int :=
  s.calibrated (s.cch l) (rdiv (s.lg l).won.sum (max 1 (s.lg l).won.nout : Nat))

/-- The other legs of a leg's set on the same Axle, sensed or not (R144). -/
def State.setMates (s : State) (a l : Nat) : List Nat :=
  let k := s.fld (SDF_LMAP l) SDF_LMAP_SET
  if k = 15 then []
  else (List.range 32).filter (fun m => m ≠ l && decide (s.legAxle m = a) && decide (s.fld (SDF_LMAP m) SDF_LMAP_SET = k))

/-- What a leg publishes: SRC, value (R141, R144). -/
def State.legResult (s : State) (a l : Nat) : Nat × Int :=
  if s.measured l then (0, s.measuredI l)
  else
    let mates := s.setMates a l
    if !mates.isEmpty && mates.all s.measured then (1, sat16 (-(mates.foldl (fun m k => m + s.measuredI k) 0)))
    else if !s.flag (SDF_AXW a) SDF_AXW_PSRC && s.full && s.hysMode a = 0 then (2, (s.lg l).pred.toInt)
    else (2, s.hysEstimate l)

/-- Sealed calibration of a leg's monitor channel (R148, R219). -/
def State.monCal (s : State) (l : Nat) (raw : Int) : Int :=
  let w := s.sealed (0x151 + 2 * l)
  calibrate ((⟨16, 16⟩ : Fld).get w) ((⟨0, 16⟩ : Fld).sget w) raw

/-- The cross-check of a measured leg with its monitor channel (R149): reported once in a run of failures, at the first one
that makes XN of them. -/
def crossCheck (l : Nat) (i : Int) (s : State) : State :=
  let x := s.lg l
  if s.flag SDF_GLB SDF_GLB_XEN && s.flag (SDF_LMAP l) SDF_LMAP_MEN && decide (0 < x.won.monN) then
    let m := s.monCal l (rdiv x.won.monSum x.won.monN)
    let bad := decide ((s.fld SDF_GLB SDF_GLB_XTOL : Int) < (i - m).natAbs)
    let n := if bad then min (x.xcnt + 1) 15 else 0
    let hit := bad && decide (s.fld SDF_GLB SDF_GLB_XN ≤ n)
    let s := s.updLg l (fun y => { y with xcnt := n, xhit := hit || (y.xhit && bad) })
    if hit && !x.xhit then (s.sq (SDF_LSTAT l) SDF_LSTAT_XCHK).raise (evSense 15) else s
  else s

/-- The consecutive-prediction count (R145). -/
def countPrediction (a l src : Nat) (s : State) : State :=
  if !s.flag (SDF_AXW a) SDF_AXW_CNTEN || s.flag (SDF_LSTAT l) SDF_LSTAT_FAULT then s
  else if src = 0 then s.setFld (SDF_LSTAT l) SDF_LSTAT_PCNT 0
  else if src = 2 then
    let n := s.fld (SDF_LSTAT l) SDF_LSTAT_PCNT + 1
    let s := s.setFld (SDF_LSTAT l) SDF_LSTAT_PCNT (min n 15)
    if s.fld (SDF_LMAP l) SDF_LMAP_PLIM ≤ n then
      let s := s.updLg l (fun x => { x with pflt := true })
      (((s.setFlag (SDF_LSTAT l) SDF_LSTAT_FAULT true).sq (SDF_LSTAT l) SDF_LSTAT_PFLT).raise (evSense 14))
    else s
  else s

/-- NOUT of a measured leg; a number of outputs above 255 is a value the spec does not state. -/
def noutShown (s : State) (n : Nat) : Nat := if n < 256 then n else Config.freeNat s.draws

/-- One leg publishes (R142), at its Axle's publication number `num`. -/
def publishLeg (a num l : Nat) (r : Nat × Int) (s : State) : State :=
  let reg := SDF_LRES l
  let n := noutShown s (s.lg l).won.nout
  let s := s.setFld reg SDF_LRES_SRC r.1
  let s := s.setFld reg SDF_LRES_WTAG num
  let s := s.setFld reg SDF_LRES_NOUT (if r.1 = 0 then n else 0)
  let s := s.setFldI reg SDF_LRES_I r.2
  let s := if r.1 = 0 then crossCheck l r.2 s else s
  countPrediction a l r.1 (s.updLg l (fun x => { x with won := {} }))

/-- All results of an Axle window are published together (R142), with the corrections of R185 and the probes of R192. -/
def publication (a : Nat) (s : State) : State :=
  if !(s.ax a).pubDue then s
  else
    let ls := s.sensedLegs a
    let rs := ls.map (fun l => (l, s.legResult a l))
    let num := (s.ax a).pubs + 1
    let s := each rs (fun e t => publishLeg a num e.1 e.2 t) (s.updAx a (fun x => { x with pubDue := false, pubs := num }))
    let s := (s.raise (evAxle a 10)).drew 1
    let s := each (s.setsOf a) correctSet s
    probePublished a s

end Sys2Proof.Machine
end

