-- ==== Sys2Proof/Machine/Crypto.lean ====
section
/-! DEFINITION. The checks and codes that the spec names: CRC-32C (R44, R89, R327), CRC-8 (R278), SHA-256 (R222, R255),
HMAC-SHA-256 (R299) and ECDSA P-256 (R255). -/

namespace Sys2Proof.Machine

open Sys2Proof

/-! ### CRC -/

/-- One bit of a reflected CRC-32C register. -/
def crcBit (r : Word) : Word := if r.getLsbD 0 then (r >>> 1) ^^^ 0x82F63B78 else r >>> 1

/-- One byte into a reflected CRC-32C register. -/
def crcByte (r : Word) (b : Byte) : Word :=
  crcBit (crcBit (crcBit (crcBit (crcBit (crcBit (crcBit (crcBit (r ^^^ b.zeroExtend 32))))))))

/-- CRC-32C over bytes from an initial register, with the final inversion (R44, R327). -/
def crc32cFrom (init : Word) (bs : List Byte) : Word := ~~~ (bs.foldl crcByte init)

/-- CRC-32C of R44. -/
def crc32c (bs : List Byte) : Word := crc32cFrom 0xFFFFFFFF bs

/-- One byte into the CRC-8 of polynomial 0x2F, most significant bit first (R278). -/
def crc8Byte (r : BitVec 8) (b : Byte) : BitVec 8 :=
  (List.range 8).foldl (fun x _ => if x.getLsbD 7 then (x <<< 1) ^^^ 0x2F else x <<< 1) (r ^^^ b)

/-- The CRC-8 register after bytes, from 0xFF (R278). -/
def crc8 (bs : List Byte) : BitVec 8 := bs.foldl crc8Byte 0xFF

/-! ### SHA-256 -/

/-- The greatest r below 2^n added to a start whose e-th power does not exceed x, found bit by bit. -/
def rootBits (e x : Nat) : Nat → Nat → Nat
  | 0, r => r
  | n + 1, r => rootBits e x n (if (r + 2 ^ n) ^ e ≤ x then r + 2 ^ n else r)

/-- The first 32 bits of the fraction of the e-th root of a number below 2^9. -/
def rootFraction (e p : Nat) : Word := word (rootBits e (p * 2 ^ (32 * e)) 41 0)

/-- No number from 2 up to 18 divides p but itself: below 19^2 these are the primes. -/
def smallPrime (p : Nat) : Bool := decide (2 ≤ p) && (List.range 17).all (fun k => decide (p % (k + 2) ≠ 0) || decide (p = k + 2))

/-- The constants of the rounds: of the cube roots of the first 64 primes (FIPS 180-4). -/
def shaK : List Word := ((List.range 312).filter smallPrime).map (rootFraction 3)

/-- The initial hash words: of the square roots of the first 8 primes (FIPS 180-4). -/
def shaInit : List Word := ((List.range 20).filter smallPrime).map (rootFraction 2)

/-- A word turned right by each of some distances, the turns added bit by bit: the mixing of FIPS 180-4. -/
def turns (ds : List Nat) (x : Word) : Word := ds.foldr (fun d w => w ^^^ x.rotateRight d) 0

/-- The message schedule, newest word first. -/
def shaSchedule : Nat → List Word → List Word
  | 0, w => w
  | n + 1, w =>
    let near := turns [17, 19] (w.getD 1 0) ^^^ (w.getD 1 0 >>> 10)
    let far := turns [7, 18] (w.getD 14 0) ^^^ (w.getD 14 0 >>> 3)
    shaSchedule n ((near + w.getD 6 0 + far + w.getD 15 0) :: w)

/-- One round on the eight working words. -/
def shaRound (v : List Word) (kw : Word × Word) : List Word :=
  let g := fun (n : Nat) => v.getD n 0
  let t1 := g 7 + turns [6, 11, 25] (g 4) + ((g 4 &&& g 5) ^^^ (~~~ (g 4) &&& g 6)) + kw.1 + kw.2
  let t2 := turns [2, 13, 22] (g 0) + ((g 0 &&& g 1) ^^^ (g 0 &&& g 2) ^^^ (g 1 &&& g 2))
  [t1 + t2, g 0, g 1, g 2, g 3 + t1, g 4, g 5, g 6]

/-- A big-endian word from four bytes. -/
def beWord (bs : List Byte) : Word := bs.foldl (fun w b => (w <<< 8) ||| b.zeroExtend 32) 0

/-- The first 16 words of a block, newest first. -/
def blockWords (bs : List Byte) : List Word :=
  (List.range 16).reverse.map (fun k => beWord ((bs.drop (4 * k)).take 4))

/-- One 64-byte block. -/
def shaBlock (h : List Word) (bs : List Byte) : List Word :=
  let w := (shaSchedule 48 (blockWords bs)).reverse
  let v := (shaK.zip w).foldl shaRound h
  (h.zip v).map (fun e => e.1 + e.2)

/-- All blocks of a padded message; the fuel bounds their number. -/
def shaBlocks : Nat → List Word → List Byte → List Word
  | 0, h, _ => h
  | n + 1, h, bs => if bs.isEmpty then h else shaBlocks n (shaBlock h (bs.take 64)) (bs.drop 64)

/-- A number as n bytes, most significant first. -/
def beBytes : Nat → Nat → List Byte
  | 0, _ => []
  | n + 1, x => BitVec.ofNat 8 (x / 256 ^ n) :: beBytes n x

/-- A number from bytes, most significant first. -/
def beNat (bs : List Byte) : Nat := bs.foldl (fun n b => 256 * n + b.toNat) 0

/-- SHA-256 as 32 bytes. -/
def sha256 (m : List Byte) : List Byte :=
  let z := (119 - m.length % 64) % 64
  let p := m ++ [0x80] ++ List.replicate z 0 ++ beBytes 8 (8 * m.length)
  (shaBlocks (p.length / 64 + 1) shaInit p).flatMap (fun w => beBytes 4 w.toNat)

/-- HMAC-SHA-256 with a key of at most 64 bytes. -/
def hmac (key m : List Byte) : List Byte :=
  let k := key ++ List.replicate (64 - key.length) 0
  sha256 (k.map (fun b => b ^^^ 0x5C) ++ sha256 (k.map (fun b => b ^^^ 0x36) ++ m))

/-! ### ECDSA P-256 -/

def p256P : Nat := 0xFFFFFFFF00000001000000000000000000000000FFFFFFFFFFFFFFFFFFFFFFFF
def p256N : Nat := 0xFFFFFFFF00000000FFFFFFFFFFFFFFFFBCE6FAADA7179E84F3B9CAC2FC632551
def p256B : Nat := 0x5AC635D8AA3A93E7B3EBBD55769886BC651D06B0CC53B0F63BCE3C3E27D2604B
def p256G : Nat × Nat :=
  (0x6B17D1F2E12C4247F8BCE6E563A440F277037D812DEB33A0F4A13945D898C296,
   0x4FE342E2FE1A7F9B8EE7EB4A7C0F9E162BCE33576B315ECECBB6406837BF51F5)

/-- Power modulo m over the low `k` bits of the exponent. -/
def powMod (m : Nat) : Nat → Nat → Nat → Nat
  | 0, _, _ => 1
  | k + 1, b, e => let r := powMod m k (b * b % m) (e / 2); if e % 2 = 1 then b * r % m else r

/-- Inverse modulo a prime. -/
def invMod (m x : Nat) : Nat := powMod m 256 (x % m) (m - 2)

/-- Addition of points of the curve; none is the point at infinity. -/
def ecAdd : Option (Nat × Nat) → Option (Nat × Nat) → Option (Nat × Nat)
  | none, q => q
  | p, none => p
  | some (x1, y1), some (x2, y2) =>
    let m := p256P
    if x1 = x2 ∧ (y1 + y2) % m = 0 then none
    else
      let l := if x1 = x2 then (3 * x1 * x1 + m - 3) * invMod m (2 * y1) % m
        else (y2 + m - y1) * invMod m (x2 + m - x1) % m
      let x3 := (l * l + 2 * m - x1 - x2) % m
      some (x3, (l * (x1 + m - x3) + m - y1) % m)

/-- A point times the low `k` bits of a number. -/
def ecMul : Nat → Nat → Option (Nat × Nat) → Option (Nat × Nat)
  | 0, _, _ => none
  | k + 1, e, p => let r := ecMul k (e / 2) (ecAdd p p); if e % 2 = 1 then ecAdd p r else r

/-- ECDSA verification of a digest under a public key. -/
def ecdsaVerify (qx qy digest r s : Nat) : Bool :=
  let m := p256P
  let n := p256N
  if qx < m ∧ qy < m ∧ qy * qy % m = (qx * qx * qx + (m - 3) * qx + p256B) % m ∧ 0 < r ∧ r < n ∧ 0 < s ∧ s < n then
    let w := invMod n s
    match ecAdd (ecMul 256 (digest * w % n) (some p256G)) (ecMul 256 (r * w % n) (some (qx, qy))) with
    | some (x, _) => decide (x % n = r)
    | none => false
  else false

end Sys2Proof.Machine
end

