-- ==== Sys2Proof/Machine/Waybill.lean ====
section
/-! DEFINITION. The Lantern word space and who may reach it (R39, R69, R281), the LIX pair (R38 to R40), the Waybill with
its programming and wear (R41 to R45, R353), the change log (R224) and the black box (R381 to R384). -/

namespace Sys2Proof.Machine

open Sys2Proof

/-! ### The word space -/

/-- The classes of R39 and R281. -/
inductive LanClass where
  | control | mirror | mailbox | waybill | wear | readOnly | unmapped
  deriving DecidableEq, Repr

/-- The class of a Lantern word. -/
def lanClass (w : Nat) : LanClass :=
  if w < 8 then .control
  else if 0x40 ≤ w ∧ w ≤ 0x4A then .mirror
  else if 0x200 ≤ w ∧ w ≤ 0x20F then .mailbox
  else if 0x1000 ≤ w ∧ w < 0x1400 then .waybill
  else if 0x1400 ≤ w ∧ w < 0x1800 then .wear
  else if (0x2000 ≤ w ∧ w < 0x2800) ∨ (0x3000 ≤ w ∧ w < 0x3100) then .readOnly
  else .unmapped

/-- LAN_IMGADDR.WORD. -/
def IMGADDR_WORD : Fld := ⟨0, 14⟩

/-- A word of Lantern RAM. -/
def State.lanRam (s : State) (w : Nat) : Word :=
  word (leNat ((List.range 4).map (fun k => mget (fun _ => (0 : Byte)) s.lan.ram (4 * w + k))))

def State.setLanRamByte (s : State) (a : Nat) (b : Byte) : State :=
  s.updLan (fun l => { l with ram := mset (fun _ => (0 : Byte)) l.ram a b })

def State.setLanRam (s : State) (w : Nat) (v : Word) : State :=
  each (List.range 4) (fun k => State.setLanRamByte (a := 4 * w + k) (b := byteOf v k)) s

/-- LAN_IMGADDR advances, wrapping (R281). -/
def imgAdvance (s : State) : State := s.setLanF 6 IMGADDR_WORD (s.lanF 6 IMGADDR_WORD + 1)

/-- What a Lantern word reads as: the event mirror, the Lantern RAM word at LAN_IMGADDR, the word itself, and zero for an
unmapped one (R39, R281). -/
def State.lanRead (s : State) (w : Nat) : Word := match lanClass w with
  | .mirror => s.rd (EVT_PEND (w - 0x40))
  | .unmapped => 0
  | _ => if w = 7 then s.lanRam (s.lanF 6 IMGADDR_WORD) else s.lanW w

/-! ### Persistent programming -/

/-- The word in front of the queue starts to be programmed: it reads its new value from now on (R42). -/
def startProg (s : State) : State := match s.lan.prog with
  | [] => s
  | p :: rest =>
    let old := s.lanW p.addr
    (s.setLanW p.addr p.value).updLan (fun l => { l with prog := { p with old := old } :: rest })

/-- LIX_STAT.WBPROG shows a programming in progress. -/
def showProg (s : State) : State := if !s.awake then s else s.setFlag LIX_STAT LIX_STAT_WBPROG (!s.lan.prog.isEmpty)

/-- Programmings follow those in progress. -/
def queueProg (ps : List WbProg) (s : State) : State :=
  let idle := s.lan.prog.isEmpty
  let s := s.updLan (fun l => { l with prog := l.prog ++ ps })
  showProg (onlyIf idle startProg s)

/-- The sensed junction temperature is above 125 °C, not valid yet or faulted (R45, R353). -/
def State.hotWear (s : State) : Bool := s.lan.t15Fault || !s.lan.t15Valid || decide (500 < s.lan.t15)

/-- A wear counter passes a mark: WB_WEAR (R45). -/
def wearMark (old new mark : Nat) (s : State) : State := if old ≤ mark ∧ mark < new then s.raise WB_WEAR else s

/-- An accepted write counts wear (R45). -/
def countWear (w : Nat) (s : State) : State :=
  let old := (s.lanW (0x1400 + w)).toNat
  let new := min (old + (if s.hotWear then 5 else 1)) 0xFFFFFF
  wearMark old new 1000000 (wearMark old new 900000 (s.setLanW (0x1400 + w) (word new)))

/-- One entry of the change log (R224): its four words, with its number and the slot in force. -/
def logEntry (s : State) (kind w : Nat) (old new : Word) : List WbProg :=
  let n := s.lan.logNum
  let base := 0x2000 + 4 * (n % 512)
  let slot := s.fld SAFE_SEALSTAT SAFE_SEALSTAT_SLOT
  [⟨base, s.lanW 3, 0⟩, ⟨base + 1, word (w * 2 ^ 22 + n % 2 ^ 14 * 2 ^ 8 + slot * 16 + kind), 0⟩,
   ⟨base + 2, old, 0⟩, ⟨base + 3, new, 0⟩]

/-- Append one entry to the change log. -/
def appendLog (kind w : Nat) (old new : Word) (s : State) : State :=
  let ps := logEntry s kind w old new
  queueProg ps (s.updLan (fun l => { l with logNum := l.logNum + 1 }))

/-- The Waybill accepts a write (R42, R43): counted and programmed; a sealed word after its log entry (R224). -/
def wbAccept (w : Nat) (v : Word) (s : State) : State :=
  let s := countWear w s
  let s := if 0x100 ≤ w ∧ w < 0x200 then appendLog 0 w (s.wb w) v s else s
  queueProg [⟨0x1000 + w, v, 0⟩] s

/-- The seat word that CPL_CFG.SEATW names is written by the device (R42, R300). -/
def acceptSeat (s : State) : State := match s.cpl.seatWrite with
  | some v => wbAccept (0x200 + s.fld CPL_CFG CPL_CFG_SEATW % 0x200) v (s.updCpl (fun c => { c with seatWrite := none }))
  | none => s

/-! ### Writes of Lantern words -/

/-- Who writes a Lantern word: the LIX pair, with the offset at which the write was presented, or the Lantern core. -/
inductive LanWriter where
  | lix (busOff : Nat)
  | core
  deriving DecidableEq, Repr

/-- A write that is refused (R37, R39): DENY and a capture with cause 0b11 for the LIX pair; nothing but the chock event for
the Lantern core. -/
def lanDeny (by_ : LanWriter) (chock : Bool) (s : State) : State :=
  let s := match by_ with
    | .lix off => captureRefused .coachman off 3 (s.sq LIX_STAT LIX_STAT_DENY)
    | .core => s
  if chock then s.raise CHOCK_VIOL else s

/-- A Waybill write that arrives during programming is rejected (R42). -/
def lanReject (by_ : LanWriter) (s : State) : State := match by_ with
  | .lix off => captureRefused .coachman off 3 (s.sq LIX_STAT LIX_STAT_WBREJ)
  | .core => s.raise LAN_WBREJ

/-- A write to Waybill word `w` (R41, R42). One that arrives during programming and that R39 refuses too is denied, and not
reported as rejected (log entry 144). -/
def wbWrite (by_ : LanWriter) (w : Nat) (v : Word) (s : State) : State :=
  if w < 0x40 then lanDeny by_ false s
  else if w < 0x100 ∧ s.flag SYS_CHOCK SYS_CHOCK_WBCAL then lanDeny by_ true s
  else if 0x100 ≤ w ∧ w < 0x200 ∧ (by_ = .core ∨ !s.flag SAFE_SEALSTAT SAFE_SEALSTAT_UNLOCKED) then lanDeny by_ false s
  else if s.lan.prog ≠ [] then lanReject by_ s
  else wbAccept w v s

/-- The Lantern core is reset and starts at Lantern RAM address 0x400 (R48, R270). -/
def lanStart (s : State) : State :=
  ((s.setLanF 0 LAN_CTL_RUN 1).setLanF 0 LAN_CTL_SLEEP 0).setCore .lantern { pc := 0x400 }

/-- The Lantern core stops at once (R270). -/
def lanHalt (s : State) : State := s.setLanF 0 LAN_CTL_RUN 0

/-- A LIX write of RUN (R270). -/
def lanRunWrite (run : Bool) (s : State) : State :=
  if run then (if LAN_CTL_RUN.bit (s.lanW 0) then s else lanStart s) else lanHalt s

/-- The Lantern core writes SLEEP = 1: its clock stops, unless its interrupt is requested (R271). -/
def lanSleep (s : State) : State := wakeLantern (s.setLanF 0 LAN_CTL_SLEEP 1)

/-- The fast domain powers up in a cold reset with cause WAKE (R265, R269): the 40 MHz reference is the one that LAN_CLK.XSRC
names now (R281). -/
def fastWakes (mems : List ClearMem) (s : State) : State :=
  let s := s.setFlag SYS_CLK SYS_CLK_XSRC (LAN_CLK_XSRC.bit (s.lanW 5))
  { s with power := .stand, bringup := { active := some .cold, causes := SYS_RSTCAUSE_WAKE.mask, uncleared := mems } }

/-- A wake is accepted (R268, R269): its flag in LAN_WSTAT; in the Lantern state the fast domain powers up; on the way to
the Lantern state the wake is held (R267). -/
def acceptWake (f : Fld) (s : State) : State :=
  let s := wakeLantern (s.lanSq 2 f)
  if s.power = .lantern then fastWakes ([.mainSram, .tandem, .table] ++ s.bringup.uncleared) s
  else if s.lan.entering then s.updLan (fun l => { l with wakeHeld := true })
  else s

/-- The stored bits of LAN_CTL that both writers reach (R281). -/
def lanCtlBits : Word := 0x600

/-- A write to LAN_CTL (R268, R270, R271, R281). -/
def lanCtlWrite (by_ : LanWriter) (v : Word) (s : State) : State :=
  let s := s.setLanW 0 ((s.lanW 0 &&& ~~~ lanCtlBits) ||| (v &&& lanCtlBits))
  match by_ with
  | .lix _ => lanRunWrite (LAN_CTL_RUN.bit v) s
  | .core =>
    let s := onlyIf (LAN_CTL_SLEEP.bit v) lanSleep s
    if LAN_CTL_WAKE.bit v && decide (s.power = .lantern) then acceptWake LAN_WSTAT_LCORE s else s

/-- The flags of LAN_WSTAT. -/
def wstatFlags : Word := 0x00FF8000

/-- A write to a Lantern control word (R281). -/
def lanControlWrite (by_ : LanWriter) (w : Nat) (v : Word) (s : State) : State :=
  if w = 0 then lanCtlWrite by_ v s
  else if w = 2 then
    let x := s.lanW 2
    if seqFld.get v = seqFld.get x then s.setLanW 2 (x &&& ~~~ (v &&& wstatFlags)) else s
  else if w = 5 then
    if s.flag SYS_CHOCK SYS_CHOCK_CLK then lanDeny by_ true s
    else
      let keep := if v.getLsbD 1 then s.lanW 5 &&& LAN_CLK_X32OK.mask else 0
      s.setLanW 5 ((v &&& 3) ||| keep)
  else if w = 6 then s.setLanW 6 (v &&& 0x3FFF)
  else if w = 7 then
    if LAN_CTL_RUN.bit (s.lanW 0) then lanDeny by_ false s
    else imgAdvance ((waitCleared .lantern s).setLanRam (s.lanF 6 IMGADDR_WORD) v)
  else s.setLanW w v

/-- A write to the mailbox (R271). -/
def mailboxWrite (by_ : LanWriter) (w : Nat) (v : Word) (s : State) : State :=
  let s := s.setLanW w v
  match by_ with
  | .lix _ => if w = 0x200 then wakeLantern (s.updLan (fun l => { l with mbox := true })) else s
  | .core =>
    if w = 0x200 then s.updLan (fun l => { l with mbox := false })
    else if w = 0x20F then s.raise LAN_MBOX else s

/-- A write of a Lantern word (R39, R69). After an accepted Lantern request every LIX write is refused (R267). -/
def lanWrite (by_ : LanWriter) (w : Nat) (v : Word) (s : State) : State :=
  if s.lan.entering && decide (by_ ≠ .core) then lanDeny by_ false s
  else match lanClass w with
    | .control => lanControlWrite by_ w v s
    | .mailbox => mailboxWrite by_ w v s
    | .waybill => wbWrite by_ (w - 0x1000) v s
    | .mirror | .wear | .readOnly => lanDeny by_ false s
    | .unmapped => match by_ with
      | .lix _ => s.sq LIX_STAT LIX_STAT_UNMAP
      | .core => s

/-! ### The LIX pair -/

/-- BUSY (R40). -/
def State.lixBusy (s : State) : Bool := !decide (s.lix = .idle)

/-- The pair takes up an operation. -/
def setLix (op : LixOp) (s : State) : State :=
  ({ s with lix := op }).setFlag LIX_STAT LIX_STAT_BUSY (!decide (op = LixOp.idle))

/-- LIX_ADDR has been written (R40): a fetch starts, at once or when the transfer in progress ends. -/
def lixAddrWritten (s : State) : State := match s.lix with
  | .transfer a d o _ _ => setLix (.transfer a d o false true) s
  | _ => setLix .fetch s

/-- WADDR advances and a fetch of the new word starts (R40). -/
def lixAdvance (s : State) : State :=
  setLix .fetch (s.setFld LIX_ADDR LIX_ADDR_WADDR (s.fld LIX_ADDR LIX_ADDR_WADDR + 1))

/-- A read of LIX_DATA (R40): its value, and what it does. -/
def lixDataRead (s : State) : Word × State :=
  if s.lixBusy then (0, s.sq LIX_STAT LIX_STAT_EARLY)
  else
    let v := s.rd LIX_DATA
    let s := if s.fld LIX_ADDR LIX_ADDR_WADDR = 7 then imgAdvance s else s
    (v, onlyIf (s.flag LIX_ADDR LIX_ADDR_AINC) lixAdvance s)

/-- A write of LIX_DATA presented at an offset (R40). -/
def lixDataWrite (off : Nat) (v : Word) (s : State) : State :=
  if s.lixBusy then s.sq LIX_STAT LIX_STAT_EARLY
  else
    setLix (.transfer (BitVec.ofNat 16 (s.fld LIX_ADDR LIX_ADDR_WADDR)) v off (s.flag LIX_ADDR LIX_ADDR_AINC) false)
      (s.wr LIX_DATA v)

/-- A write of LIX_ADDR: AINC and WADDR, then the fetch (R40). -/
def execLixAddrWrite (data : Word) (s : State) : Out :=
  if s.awake then .next (lixAddrWritten (s.wr LIX_ADDR (data &&& 0x1FFFF))) else .next s

/-- A read of LIX_DATA (R40). -/
def execLixDataRead (s : State) : Out := if s.awake then .next (lixDataRead s).2 else .next s

/-- A write of LIX_DATA (R40). -/
def execLixDataWrite (data : Word) (s : State) : Out :=
  if s.awake then .next (lixDataWrite LIX_DATA data s) else .next s

/-- A fetch ends: DATA takes the word at WADDR; an unmapped word sets UNMAP (R39, R40). -/
def execLixFetchDone (s : State) : Out :=
  if s.lix = .fetch then
    let w := s.fld LIX_ADDR LIX_ADDR_WADDR
    let s := s.wr LIX_DATA (s.lanRead w)
    let s := if lanClass w = .unmapped then s.sq LIX_STAT LIX_STAT_UNMAP else s
    .next (setLix .idle s)
  else .next s

/-- A transfer ends: the word is written, accepted, rejected or refused; then the next fetch where one is due (R40, R42). -/
def execLixTransferDone (s : State) : Out := match s.lix with
  | .transfer a d off inc refetch =>
    let s := lanWrite (.lix off) a.toNat d (setLix .idle s)
    if refetch then .next (setLix .fetch s)
    else .next (onlyIf inc lixAdvance s)
  | _ => .next s

/-- 12 µs of programming end (R42): the next programming of the same write or a waiting device write starts, else WBPROG
falls. -/
def execWaybillProgrammingDone (s : State) : Out := match s.lan.prog with
  | [] => .next s
  | _ :: rest =>
    let s := startProg (s.updLan (fun l => { l with prog := rest }))
    .next (showProg (onlyIf rest.isEmpty acceptSeat s))

/-- The device writes the granted seat into the seat word once no programming is in progress (R42, R300). -/
def execSeatWordWrite (s : State) : Out :=
  if s.lan.prog = [] then .next (acceptSeat s) else .next s

/-! ### The black box -/

/-- Index of the newest record, word 0x3001. -/
def bbIndex : Fld := ⟨0, 4⟩

/-- Captures since manufacture, word 0x3000 [31:16]. -/
def bbCount : Fld := ⟨16, 16⟩

/-- Index of the next record: record 0 first (R381). -/
def State.bbNext (s : State) : Nat :=
  if s.lanF 0x3000 bbCount = 0 ∧ s.lanW 0x301F = 0 then 0 else (s.lanF 0x3001 bbIndex + 1) % 15

/-- The words that a capture programs, in order (R381, R383): the record from word 0 to word 15, then words 0x3001 and
0x3000. -/
def bbWrites (s : State) (c : Capture) : List (Nat × Word) :=
  let r := s.bbNext
  let n := s.lanF 0x3000 bbCount + 1
  let ws := c.time :: word (c.kind * 2 ^ 24 + c.source * 2 ^ 16 + n % 2 ^ 16) :: c.regs
  let rec15 := ws ++ [crc32c (ws.flatMap wordBytes)]
  (List.range 16).map (fun k => (0x3010 + 16 * r + k, rec15.getD k 0)) ++
    [(0x3001, word r), (0x3000, bbCount.put (s.lanW 0x3000) n)]

/-- A buffered capture finishes its record (R383). -/
def execBlackBoxRecordDone (s : State) : Out := match s.lan.bb with
  | [] => .next s
  | c :: rest =>
    .next (each (bbWrites s c) (fun e t => t.setLanW e.1 e.2) (s.updLan (fun l => { l with bb := rest })))

end Sys2Proof.Machine
end

