-- ==== Sys2Proof/Machine/Records.lean ====
section
/-! DEFINITION. The Waybill records that a reset loads: gate (R133), sensing (R157), HYS (R195, R196), protection (R207),
sealed (R148, R219, R220), Guard (R336) and Harness (R278). A record that fails leaves every field at its reset value;
the one exception is the sealed record at a lock, which leaves the previous values. -/

namespace Sys2Proof.Machine

open Sys2Proof

/-- Bits hi..lo of a word. -/
def bitsOf (w : Word) (hi lo : Nat) : Nat := (w.toNat >>> lo) % 2 ^ (hi + 1 - lo)

/-- A word holds the CRC-32C over a range of Waybill words (R44). -/
def State.crcOk (s : State) (at_ lo n : Nat) : Bool :=
  decide (crc32c ((List.range n).flatMap (fun k => wordBytes (s.wb (lo + k)))) = s.wb at_)

/-! ### Gate record (R133) -/

/-- Byte c of the channel words. -/
def State.gateByte (s : State) (c : Nat) : Nat := bitsOf (s.wb (0x80 + c / 4)) (8 * (c % 4) + 7) (8 * (c % 4))
def State.gateA (s : State) (l : Nat) : Word := s.wb (0xC0 + l)
def State.gateB (s : State) (l : Nat) : Word := s.wb (0xE0 + l)

/-- The ranges of one leg's words. -/
def State.gateLegOk (s : State) (l : Nat) : Bool :=
  let a := s.gateA l
  let b := s.gateB l
  let dt := bitsOf a 31 18
  let ackto := bitsOf a 17 6
  let chg := bitsOf b 31 20
  decide (16 ≤ dt) && decide (dt ≤ 8192) && decide (160 ≤ ackto) && decide (ackto ≤ 4000) && decide (bitsOf a 5 3 ≤ 4)
    && decide (16 ≤ chg) && decide (chg ≤ 4000) && decide (bitsOf b 16 1 ≠ 0) && !b.getLsbD 0

/-- CRC, ranges, at most 16 channels of a position and 12 phase legs of an Axle (R113, R133). -/
def State.gateOk (s : State) : Bool :=
  s.crcOk 0x7F 0x80 128 && (List.range 32).all s.gateLegOk
    && (List.range 64).all (fun p => decide (((List.range 256).filter (fun c => s.gateByte c / 128 = 1 ∧ s.gateByte c % 64 = p)).length ≤ 16))
    && (List.range 4).all (fun a => decide (((List.range 24).filter (fun l => bitsOf (s.gateA l) 5 3 = a)).length ≤ 12))

/-- The Axle of a leg as LEG_CFG has it (R113). -/
def State.cfgAxle (s : State) (l : Nat) : Nat := s.fld (LEG_CFG l) LEG_CFG_AXLE

def loadChannel (c : Nat) (s : State) : State :=
  let b := s.gateByte c
  let s := s.setFld (GCH_CFG c) GCH_CFG_EN (b / 128)
  let s := s.setFld (GCH_CFG c) GCH_CFG_EXCLEN (b / 64)
  joinChannel c (s.setFld (GCH_CFG c) GCH_CFG_POS b)

def loadLeg (l : Nat) (s : State) : State :=
  let a := s.gateA l
  let b := s.gateB l
  let dt := bitsOf a 31 18
  let s := s.setFld (LEG_DT l) LEG_DT_DTMIN dt
  let s := s.setFld (LEG_DT l) LEG_DT_DTMAX dt
  let s := s.setFld (LEG_DTEFF l) LEG_DTEFF_DT_HL dt
  let s := s.setFld (LEG_DTEFF l) LEG_DTEFF_DT_LH dt
  let s := s.setFld (LEG_TIM l) LEG_TIM_ACKTO (bitsOf a 17 6)
  let s := s.setFld (LEG_TIM l) LEG_TIM_MINPULSE 0
  let s := s.setFld (LEG_CFG l) LEG_CFG_AXLE (bitsOf a 5 3)
  let s := s.setFld (LEG_CFG l) LEG_CFG_SDT (bitsOf a 2 1)
  let s := s.setFlag (POS_CFG (2 * l + 1)) POS_CFG_COMP (a.getLsbD 0)
  let s := s.setFld (LEG_BOOT l) LEG_BOOT_BSCHG (bitsOf b 31 20)
  let s := s.setFld (LEG_BOOT l) LEG_BOOT_BSLIM (bitsOf b 16 1)
  let s := s.setFlag (LEG_CFG l) LEG_CFG_PMODE (b.getLsbD 19)
  let s := s.setFlag (LEG_CFG l) LEG_CFG_BOOT (b.getLsbD 18)
  s.setFlag (LEG_CFG l) LEG_CFG_ACKTRIP (b.getLsbD 17)

def State.setRecords (s : State) (f : Records → Records) : State := { s with records := f s.records }

def loadGate (s : State) : State :=
  if s.gateOk then
    (each (List.range 64) countPos (each (List.range 32) loadLeg (each (List.range 256) loadChannel s))).setRecords
      (fun r => { r with gate := true })
  else (s.raise (evGate 13)).setRecords (fun r => { r with gate := false })

/-! ### Sensing record (R157) -/

def State.senseWord (s : State) (l : Nat) : Word := s.wb (0x62 + l)

/-- The monitor channels named by the sealed words as they stand: leg, channel, SDC index (R148, R157). -/
def State.rawMonitors (s : State) : List (Nat × Nat × Nat) :=
  (List.range 24).filterMap (fun l =>
    let x := s.wb (0x150 + 2 * l)
    if x.getLsbD 31 then some (l, bitsOf x 30 24, bitsOf x 23 21) else none)

/-- The ranges of a leg's word, and for a sensed leg the channels and clocks of the monitors (R157). -/
def State.senseLegOk (s : State) (l : Nat) : Bool :=
  let x := s.senseWord l
  let set := bitsOf x 3 0
  let cch := bitsOf x 30 24
  let dec := bitsOf x 15 7
  decide (bitsOf x 6 4 = 0) && (decide (set ≤ 7) || decide (set = 15)) && decide (cch ≤ 95) && decide (8 ≤ dec) && decide (dec ≤ 256)
    && (!x.getLsbD 31 || s.rawMonitors.all (fun m => decide (m.2.1 ≠ cch) && (decide (m.1 ≠ l) || decide (m.2.2 ≠ bitsOf x 23 21))))

/-- A divider of an SDC output: a multiple of 4 from 32 to 160 (R136). -/
def sdcDivOk (d : Nat) : Bool := decide (32 ≤ d) && decide (d ≤ 160) && decide (d % 4 = 0)

def State.senseOk (s : State) : Bool :=
  let g := s.wb 0x61
  s.crcOk 0x60 0x61 30 && (List.range 5).all (fun k => decide (s.wb (0x7A + k) = 0)) && decide (bitsOf g 15 0 ≠ 0)
    && sdcDivOk (bitsOf g 31 24) && (List.range 24).all s.senseLegOk

/-- The configuration of a sampled data input by a record (R157, R195, R219). -/
def loadInput (c ckin sdly : Nat) (s : State) : State :=
  let s := s.setFlag (SDF_CFG c) SDF_CFG_EN true
  let s := s.setFlag (SDF_CFG c) SDF_CFG_CKRET false
  let s := s.setFld (SDF_CFG c) SDF_CFG_CKIN ckin
  s.setFld (SDF_CFG c) SDF_CFG_SDLY sdly

def loadSenseLeg (l : Nat) (s : State) : State :=
  let x := s.senseWord l
  let cch := bitsOf x 30 24
  let s := s.setFlag (SDF_LMAP l) SDF_LMAP_EN (x.getLsbD 31)
  let s := s.setFld (SDF_LMAP l) SDF_LMAP_CCH cch
  let s := s.setFld (SDF_LMAP l) SDF_LMAP_SET (bitsOf x 3 0)
  if x.getLsbD 31 then
    (loadInput cch (bitsOf x 23 21) (bitsOf x 20 16) s).setFld (SDF_CFG cch) SDF_CFG_DEC (bitsOf x 15 7)
  else s

def loadSdc (k : Nat) (s : State) : State :=
  let g := s.wb 0x61
  if g.getLsbD (16 + k) then (s.setFlag (SDF_SDC k) SDF_SDC_EN true).setFld (SDF_SDC k) SDF_SDC_DIV (bitsOf g 31 24)
  else s

def loadSense (s : State) : State :=
  if s.senseOk then
    (each (List.range 24) loadSenseLeg (each (List.range 8) loadSdc s)).setRecords (fun r => { r with sense := true })
  else (s.raise (evSense 16)).setRecords (fun r => { r with sense := false })

/-! ### HYS record (R195, R196) -/

/-- The 16 bits of set k in the record. -/
def State.hysSetBits (s : State) (k : Nat) : Nat := bitsOf (s.wb (0x59 + k / 2)) (16 * (k % 2) + 15) (16 * (k % 2))

/-- The legs that a set word names. -/
def setLegs3 (w : Nat) : List Nat := [w / 1024 % 32, w / 32 % 32, w % 32]

/-- Legs of an enabled set (R196): phase legs of one Axle, each named once. -/
def State.setOk (s : State) (w : Nat) : Bool :=
  let ls := setLegs3 w
  ls.all (fun l => decide (l ≤ 23)) && decide ls.Nodup
    && decide ((ls.map s.cfgAxle).eraseDups.length = 1) && ls.all (fun l => decide (s.cfgAxle l < 4))

/-- The ranges of an Axle's words (R195). -/
def State.hysAxleOk (s : State) (a : Nat) : Bool :=
  let b := 0x49 + 4 * a
  let en := bitsOf (s.wb 0x5D) (8 * a + 7) (8 * a)
  decide (bitsOf (s.wb (b + 1)) 19 16 = 0) && decide (bitsOf (s.wb (b + 2)) 15 0 ≤ 0x2666)
    && decide (bitsOf (s.wb 0x5E) (8 * a + 4) (8 * a) = 0) && decide (en % 128 ≤ 95)
    && decide (bitsOf (s.wb b) 15 0 ≠ 0) && decide (bitsOf (s.wb (b + 1)) 31 20 ≠ 0)

def State.hysOk (s : State) : Bool :=
  let sets := ((List.range 8).map s.hysSetBits).filter (fun w => 0x8000 ≤ w)
  s.crcOk 0x48 0x49 23 && decide (s.wb 0x5F = 0) && (List.range 4).all s.hysAxleOk && sets.all s.setOk
    && decide (sets.flatMap setLegs3).Nodup

def loadHysAxle (a : Nat) (s : State) : State :=
  let b := 0x49 + 4 * a
  let en := bitsOf (s.wb 0x5D) (8 * a + 7) (8 * a)
  let s := s.wr (HYS_MOD a) (s.wb b)
  let s := s.wr (HYS_FLX a) (s.wb (b + 1))
  let s := s.wr (HYS_LIM a) (s.wb (b + 2))
  let s := s.wr (HYS_BAND a) (s.wb (b + 3))
  let s := s.setFld (HYS_CFG a) HYS_CFG_EN (en / 128)
  let s := s.setFld (HYS_CFG a) HYS_CFG_VDCCH (en % 128)
  if 128 ≤ en then
    (loadInput (en % 128) (bitsOf (s.wb 0x5E) (8 * a + 7) (8 * a + 5)) 0 s).setFld (SDF_CFG (en % 128)) SDF_CFG_DEC 32
  else s

def loadHysSet (k : Nat) (s : State) : State :=
  let w := s.hysSetBits k
  s.wr (HYS_SET k) (word (w / 0x8000 * 2 ^ 31 + w % 0x8000))

def loadHys (s : State) : State :=
  if s.hysOk then
    (each (List.range 8) loadHysSet (each (List.range 4) loadHysAxle s)).setRecords (fun r => { r with hys := true })
  else (s.raise (evProt 9)).setRecords (fun r => { r with hys := false })

/-! ### Protection record (R207), after a cold reset -/

/-- Every leg of an Axle, as PROT_GRP0 receives it. -/
def State.axleLegMask (s : State) : Nat :=
  (List.range 32).foldl (fun m l => if s.cfgAxle l ≠ 4 then m + 2 ^ l else m) 0

def State.protOk (s : State) : Bool :=
  let x := s.wb 0x45
  let t := s.wb 0x46
  let v := s.wb 0x47
  s.crcOk 0x42 0x43 5 && decide (bitsOf x 31 26 ≤ 32) && decide (bitsOf t 15 0 ≤ bitsOf t 31 16)
    && decide (s16 (bitsOf v 15 0) ≤ s16 (bitsOf v 31 16)) && decide (bitsOf x 7 1 ≤ 95)
    && !(x.getLsbD 10 && (List.range 32).any (fun l => decide (s.cfgAxle l ≠ 4) && s.flag (LEG_CFG l) LEG_CFG_BOOT))

def loadPin (k : Nat) (s : State) : State :=
  if (s.wb (0x43 + k / 32)).getLsbD (k % 32) then
    let s := (s.setFld (PROT_SRC k) PROT_SRC_ACT 2).setFld (PROT_SRC k) PROT_SRC_GMASK 1
    s.setFld (PROT_SRC k) PROT_SRC_FILT (bitsOf (s.wb 0x45) 31 26)
  else s

/-- The over-voltage comparator of the record. -/
def loadOv (s : State) : State :=
  let x := s.wb 0x45
  let k := bitsOf x 24 21
  if x.getLsbD 25 then
    let s := (s.setFlag (CMP_CFG k) CMP_CFG_EN true).setFlag (CMP_CFG k) CMP_CFG_POL true
    let s := (s.setFld (CMP_CFG k) CMP_CFG_HYST 2).setFld (CMP_CFG k) CMP_CFG_THR (bitsOf x 20 11)
    (s.setFld (PROT_SRC (64 + k)) PROT_SRC_ACT 3).setFld (PROT_SRC (64 + k)) PROT_SRC_GMASK 1
  else s

def loadProt (s : State) : State :=
  if s.protOk then
    let x := s.wb 0x45
    let s := loadOv (each (List.range 64) loadPin s)
    let s := s.setFld (PROT_SEL 0) PROT_SEL_SPDSRC (bitsOf x 9 8)
    let s := s.setFld (PROT_SEL 0) PROT_SEL_SAXL 0
    let s := s.setFlag (PROT_SEL 0) PROT_SEL_ASCSIDE (x.getLsbD 10)
    let s := s.setFld (PROT_SEL 0) PROT_SEL_VCH (bitsOf x 7 1)
    let s := (s.wr (PROT_SELT 0) (s.wb 0x46)).wr (PROT_SELV 0) (s.wb 0x47)
    (s.wr (PROT_GRP 0) (word s.axleLegMask)).setRecords (fun r => { r with prot := true })
  else ((s.sq PROT_STAT PROT_STAT_RECBAD).raise (evProt 4)).setRecords (fun r => { r with prot := false })

/-! ### Sealed record (R148, R219, R220) -/

/-- The bits of a sealed word that must be zero. -/
def sealedZero (w : Nat) : Word :=
  if w = 0x101 then 0xFF000000
  else if w < 0x110 then 0xFFFFFFFF
  else if w < 0x150 then
    let k := w % 16
    if k = 0 then 0x0003C000 else if k = 1 ∨ k = 3 then 0 else if k = 2 then 0x000F0000
    else if k < 8 then 0xFFFF0000 else if k = 8 then 0x0000FFFF else 0xFFFFFFFF
  else if w < 0x180 then (if w % 2 = 0 then 0x0000C0FF else 0)
  else if w = 0x180 then 0x00FF0000 else if w = 0x181 ∨ w = 0x182 then 0 else if w = 0x183 then 0x0000FFFF
  else 0xFFFFFFFF

/-- A monitor channel has the input or the clock source of its leg's control channel (R148). -/
def State.sharesSource (s : State) (l mch sdc : Nat) : Bool :=
  let cch := s.fld (SDF_LMAP l) SDF_LMAP_CCH
  decide (cch = mch) || (!s.flag (SDF_CFG cch) SDF_CFG_CKRET && decide (s.fld (SDF_CFG cch) SDF_CFG_CKIN = sdc))

/-- The ranges of an Axle's sealed words (R219, R220). -/
def State.sealedAxleOk (s : State) (a : Nat) : Bool :=
  let b := 0x110 + 0x10 * a
  let x := s.wb b
  let tolt := bitsOf x 13 0
  decide (bitsOf x 29 23 ≤ 95) && decide (bitsOf x 19 18 ≠ 3) && decide (1 ≤ tolt) && decide (tolt ≤ 10000)
    && decide (bitsOf (s.wb (b + 2)) 31 20 ≠ 0) && decide (bitsOf (s.wb (b + 1)) 15 0 ≠ 0)
    && (List.range 4).all (fun k =>
      let y := s.wb (b + 4 + k)
      !y.getLsbD 15 || (setLegs3 y.toNat).all (fun l => decide (l ≤ 23) && decide (s.cfgAxle l = a)))

/-- The ranges of a leg's sealed words, and R148 for its monitor channel (R219, R220). -/
def State.sealedLegOk (s : State) (l : Nat) : Bool :=
  let x := s.wb (0x150 + 2 * l)
  let pdec := bitsOf x 13 8
  decide (bitsOf x 30 24 ≤ 95) && decide (8 ≤ pdec) && decide (pdec ≤ 32)
    && (!x.getLsbD 31 || !s.sharesSource l (bitsOf x 30 24) (bitsOf x 23 21))

/-- The checks of R220. -/
def State.sealedOk (s : State) : Bool :=
  s.crcOk 0x100 0x101 239 && (List.range 239).all (fun k => decide (s.wb (0x101 + k) &&& sealedZero (0x101 + k) = 0))
    && (List.range 4).all s.sealedAxleOk && (List.range 24).all s.sealedLegOk && decide (bitsOf (s.wb 0x181) 31 16 ≠ 0)

def loadMonLeg (l : Nat) (s : State) : State :=
  let x := s.wb (0x150 + 2 * l)
  let mch := bitsOf x 30 24
  let s := s.setFlag (SDF_LMAP l) SDF_LMAP_MEN (x.getLsbD 31)
  let s := s.setFld (SDF_LMAP l) SDF_LMAP_MCH mch
  if x.getLsbD 31 then
    let s := (loadInput mch (bitsOf x 23 21) (bitsOf x 20 16) s).setFlag (SDF_CFG mch) SDF_CFG_CLKRET false
    s.setFld (SDF_CFG mch) SDF_CFG_PDEC (bitsOf x 13 8)
  else s

/-- SAFE_TMSTAT.EN and the input of MVCH of an Axle. -/
def loadMonAxle (a : Nat) (s : State) : State :=
  let x := s.wb (0x110 + 0x10 * a)
  let s := s.setFlag (SAFE_TMSTAT a) SAFE_TMSTAT_EN (x.getLsbD 31)
  if x.getLsbD 31 then
    (loadInput (bitsOf x 29 23) (bitsOf x 22 20) 0 s).setFlag (SDF_CFG (bitsOf x 29 23)) SDF_CFG_CLKRET false
  else s

/-- The parameters in force become the words as they stand. -/
def takeSealed (s : State) : State :=
  each (List.range 239) (fun k t =>
    let m := mset (fun _ => (0 : Word)) t.sealedRec (0x101 + k) (t.wb (0x101 + k))
    { t with sealedRec := m }) s

/-- The check and the load of R220; its answer stands in SAFE_SEALSTAT.RECOK. -/
def loadSealed (s : State) : State :=
  if s.sealedOk then
    (each (List.range 4) loadMonAxle (each (List.range 24) loadMonLeg (takeSealed s))).setFlag SAFE_SEALSTAT
      SAFE_SEALSTAT_RECOK true
  else ((s.setFlag SAFE_SEALSTAT SAFE_SEALSTAT_RECOK false).sq SAFE_SEALSTAT SAFE_SEALSTAT_BAD).raise (evProt 13)

/-! ### Guard record (R336) -/

def State.grdRxWord (s : State) (c k : Nat) : Word := s.wb (0x3E0 + 5 * c + k)
def State.grdTxWord (s : State) (c k : Nat) : Word := s.wb (0x3F4 + 3 * c + k)

/-- The ranges of a receive connection (R332, R335, R337). -/
def State.grdRxOk (s : State) (c : Nat) : Bool :=
  let cfg := s.grdRxWord c 0
  let plen := GRD_RXCFG_PLEN.get cfg
  let dl := s.grdRxWord c 4
  let dmax := GRD_RXDL_DMAX.get dl
  decide (GRD_RXCFG_CARR.get cfg < 6) && decide (plen ≤ 48) && decide (plen ≠ 8)
    && (!GRD_RXCFG_CMD.bit cfg || decide (plen = 16))
    && (!GRD_RXCFG_EN.bit cfg || (decide (GRD_RXTIM_WIN.get (s.grdRxWord c 3) ≠ 0) && decide (1 ≤ dmax)
      && decide (dmax ≤ 32767) && decide (GRD_RXDL_RTTMAX.get dl ≠ 0)))

/-- The Axles of the enabled command connections of the record. -/
def State.grdCmdAxles (s : State) : List Nat :=
  (List.range 4).filterMap (fun c =>
    let cfg := s.grdRxWord c 0
    if GRD_RXCFG_EN.bit cfg && GRD_RXCFG_CMD.bit cfg then some (GRD_RXCFG_AXL.get cfg) else none)

def State.guardOk (s : State) : Bool :=
  s.crcOk 0x3DF 0x3E0 32 && (List.range 4).all s.grdRxOk && decide s.grdCmdAxles.Nodup
    && (List.range 4).all (fun c => decide (GRD_TXCFG_CARR.get (s.grdTxWord c 0) < 6))

/-- The bits of a register word that its card defines (R7). -/
def definedBits (off : Nat) : Word := match cardAt off with
  | some (c, _) => c.fields.foldl (fun m f => if f.ty = .rz then m else m ||| f.fld.mask) 0
  | none => 0

def loadWord (off : Nat) (w : Word) (s : State) : State := s.wr off (w &&& definedBits off)

def loadConn (c : Nat) (s : State) : State :=
  let s := loadWord (GRD_RXCFG c) (s.grdRxWord c 0) s
  let s := loadWord (GRD_RXID c) (s.grdRxWord c 1) s
  let s := loadWord (GRD_RXADR c) (s.grdRxWord c 2) s
  let s := loadWord (GRD_RXTIM c) (s.grdRxWord c 3) s
  let s := loadWord (GRD_RXDL c) (s.grdRxWord c 4) s
  let s := loadWord (GRD_TXCFG c) (s.grdTxWord c 0) s
  let s := loadWord (GRD_TXID c) (s.grdTxWord c 1) s
  loadWord (GRD_TXADR c) (s.grdTxWord c 2) s

def loadGuard (s : State) : State :=
  if s.guardOk then each (List.range 4) loadConn s
  else (s.sq GRD_GSTAT GRD_GSTAT_RECBAD).raise (evCom 3)

/-! ### Harness record (R278), at a cold reset -/

/-- The seven bytes under the CRC-8. -/
def State.harnessBytes (s : State) : List Byte :=
  let a := s.wb 0x40
  let b := s.wb 0x41
  [byteOf a 3, byteOf a 2, byteOf a 1, byteOf a 0, byteOf b 3, byteOf b 2, byteOf b 1]

def State.harnessOk (s : State) : Bool :=
  let b := s.wb 0x41
  let hdiv := bitsOf b 27 17
  decide ((crc8 s.harnessBytes ^^^ 0xFF).toNat = bitsOf b 7 0) && !b.getLsbD 8 && decide (200 ≤ hdiv)
    && decide (hdiv ≤ 2000)

def loadHarness (s : State) : State :=
  if s.harnessOk then
    ((s.wr PMU_HEN (s.wb 0x40)).wr PMU_HCFG (s.wb 0x41 &&& 0xFFFFFE00)).setRecords
      (fun r => { r with harness := true })
  else ((s.sq PMU_SUP PMU_SUP_HREC).raise (evMem 11)).setRecords (fun r => { r with harness := false })

/-! ### The load after the release (R288) -/

/-- The records in the order of R288; the protection record only after a cold reset. -/
def loadRecords (cold : Bool) (s : State) : State :=
  let s := loadHys (loadSense (loadGate s))
  let s := onlyIf cold loadProt s
  settleSafe (loadGuard (loadSealed s))

/-- The records let Dray service drive (R289). -/
def State.recordsGood (s : State) : Bool :=
  s.records.gate && s.records.sense && s.records.hys && s.records.prot && s.records.harness

end Sys2Proof.Machine
end

