-- ==== Sys2Proof/Machine/Safe.lean ====
section
/-! DEFINITION. The safety functions without the program (R214 to R228): torque monitor, sealed configuration, Drag Shoe
and its test. -/

namespace Sys2Proof.Machine

open Sys2Proof

/-! ### The monitor's words and currents (R214, R216) -/

/-- Sealed word k of Axle a in force. -/
def State.monWord (s : State) (a k : Nat) : Word := s.sealed (0x110 + 0x10 * a + k)

/-- Legs of monitor set m of an Axle. -/
def State.monLegs (s : State) (a m : Nat) : List Nat := setLegs3 (s.monWord a (4 + m)).toNat

def State.monSets (s : State) (a : Nat) : List Nat :=
  (List.range 4).filter (fun m => (s.monWord a (4 + m)).getLsbD 15)

def State.mch (s : State) (l : Nat) : Nat := s.fld (SDF_LMAP l) SDF_LMAP_MCH
def State.chFault (s : State) (c : Nat) : Bool := s.flag (SDF_STAT c) SDF_STAT_FAULT

/-- The monitor current of a leg, unit 2^-40 (R214). -/
def State.monCurrent (s : State) (l : Nat) : Int := up15 (s.monCal l (s.pres (s.mch l)))

/-- Currents of a set, one faulted channel replaced by the negative sum of the others (R216). -/
def State.monCurrents (s : State) (legs : List Nat) : List Int :=
  legs.map (fun l =>
    if s.chFault (s.mch l) then -((legs.filter (fun k => k ≠ l)).foldl (fun m k => m + s.monCurrent k) 0)
    else s.monCurrent l)

/-! ### The Drag Shoe (R225 to R228) -/

/-- Words of the Drag Shoe in force (R219). -/
def State.shoe (s : State) : Word := s.sealed 0x180
def State.shoeAxle (s : State) : Nat := bitsOf s.shoe 27 26
def State.shoeSpeedSrc (s : State) : Nat := bitsOf s.shoe 29 28
def State.shoeAngleSrc (s : State) : Nat := bitsOf s.shoe 25 24

def State.tmTrip (s : State) (a : Nat) : Bool := s.flag (SAFE_TMSTAT a) SAFE_TMSTAT_TRIP

/-- Both outputs are to be high (R225). -/
def State.brakeWanted (s : State) : Bool :=
  let b := s.rd SAFE_BRKSTAT
  s.awake && !s.lan.entering && s.shoe.getLsbD 31 && s.flag SAFE_SEALSTAT SAFE_SEALSTAT_RECOK && s.flag SAFE_BRKCTL SAFE_BRKCTL_REL
    && s.grdBrk s.shoeAxle && !SAFE_BRKSTAT_FLTA.bit b && !SAFE_BRKSTAT_FLTB.bit b
    && (!s.tmTrip s.shoeAxle || !s.shoe.getLsbD 30)

/-- The speed holds a change to low (R226). -/
def State.brakeHeld (s : State) : Bool :=
  if s.shoeSpeedSrc = 3 then false
  else match s.speedOf s.shoeSpeedSrc s.shoeAxle with
    | some f => decide (bitsOf s.shoe 15 0 * 2 ^ 40 ≤ f)
    | none => false

/-- Both outputs take a level; the feedbacks follow a change (log entry 33). -/
def setBrake (level hold : Bool) (s : State) : State :=
  let b := s.brake
  let s := if b.outA = level then s else s.setFlag SAFE_BRKSTAT SAFE_BRKSTAT_FA level
  let s := if b.outB = level then s else s.setFlag SAFE_BRKSTAT SAFE_BRKSTAT_FB level
  let s := { s with brake := { s.brake with outA := level, outB := level } }
  (s.setFlag SAFE_BRKSTAT SAFE_BRKSTAT_HOLD hold).setFlag SAFE_BRKSTAT SAFE_BRKSTAT_RELEASED level

/-- ITEST (R219, R228). -/
def State.shoeTest (s : State) : Nat := bitsOf (s.sealed 0x182) 31 16

/-- End of the brake test (R228). -/
def brakeTestOver (cause : Nat) (s : State) : State :=
  let s := (s.setFld SAFE_BRKSTAT SAFE_BRKSTAT_PHASE 0).setFld SAFE_BRKSTAT SAFE_BRKSTAT_TCAUSE cause
  let s := (s.setFld SAFE_BRKRES SAFE_BRKRES_EXC (min s.brake.exc 65535)).setFld SAFE_BRKRES SAFE_BRKRES_IMIN s.brake.imin
  let m := if cause = 0 then SAFE_BRKSTAT_TDONE.mask else SAFE_BRKSTAT_TDONE.mask ||| SAFE_BRKSTAT_TFAIL.mask
  (s.sqMask SAFE_BRKSTAT m).raise (evProt 15)

/-- The angle source of the test is valid (R228). -/
def State.shoeSourceOk (s : State) : Bool :=
  let k := s.shoeAngleSrc
  if k < 2 then s.flag (RES_STAT k) RES_STAT_LOCK else s.flag (ENC_CFG (k - 2)) ENC_CFG_EN

/-- The 16-bit electrical angle of the source. -/
def State.shoeAngle (s : State) : BitVec 16 :=
  let k := s.shoeAngleSrc
  BitVec.ofNat 16 (if k < 2 then s.fld (RES_ANG k) RES_ANG_ANGLE else s.fld (ENC_ANG (k - 2)) ENC_ANG_ANGLE / 65536)

def State.brakeTesting (s : State) : Bool := decide (s.fld SAFE_BRKSTAT SAFE_BRKSTAT_PHASE ≠ 0)

/-- Magnitude of a monitor set's current in Q1.15 (R214, R228). -/
def State.monMagnitude (s : State) (a m : Nat) : Nat :=
  let is := s.monCurrents (s.monLegs a m)
  let i := clarke (is.getD 0 0) (is.getD 1 0) (is.getD 2 0)
  (mag i.1 i.2 / 2 ^ 25).toNat

/-- The phase in progress is cut short: the magnitude that it has reached counts among those of IMIN (R228). -/
def brakeTestCut (cause : Nat) (s : State) : State :=
  let n := (s.monSets s.shoeAxle).foldl (fun m k => min m (s.monMagnitude s.shoeAxle k)) s.brake.imin
  brakeTestOver cause { s with brake := { s.brake with imin := n } }

/-- ABORT: the Axle leaves Drive, the source becomes invalid or TRIP sets (R228). -/
def brakeAbort (s : State) : State :=
  if s.brakeTesting && (s.power ≠ .drive || !s.full || !s.shoeSourceOk || s.tmTrip s.shoeAxle) then brakeTestCut 3 s else s

/-- Both outputs follow R225, a change to low held under R226; the test's own conditions are looked at too. -/
def settleBrake (s : State) : State :=
  let s := brakeAbort s
  if s.brakeWanted then (if s.brake.outA && s.brake.outB then s.setFlag SAFE_BRKSTAT SAFE_BRKSTAT_HOLD false else setBrake true false s)
  else if !s.brake.outA && !s.brake.outB then s
  else if s.brakeHeld then s.setFlag SAFE_BRKSTAT SAFE_BRKSTAT_HOLD true
  else setBrake false false s

/-- Both outputs low whatever the speed (R226). -/
def dropBrake (s : State) : State := setBrake false false s

/-- The feedbacks show levels; the one of a channel has differed from its output for FBT (R227). -/
def execBrkFlt (channelB : Bool) (fa fb : Bool) (s : State) : Out :=
  if !s.awake then .next s
  else
    let s := (s.setFlag SAFE_BRKSTAT SAFE_BRKSTAT_FA fa).setFlag SAFE_BRKSTAT SAFE_BRKSTAT_FB fb
    let bad := if channelB then fb ≠ s.brake.outB else fa ≠ s.brake.outA
    if bad then
      .next (settleBrake ((s.sq SAFE_BRKSTAT (if channelB then SAFE_BRKSTAT_FLTB else SAFE_BRKSTAT_FLTA)).raise (evProt 14)))
    else .next s

/-- The resolver speed has fallen below BSPD (R226). -/
def execDragShoeHoldEnd (s : State) : Out :=
  let k := s.shoeSpeedSrc
  if s.flag SAFE_BRKSTAT SAFE_BRKSTAT_HOLD && (k = 1 || k = 2) then .next (dropBrake s) else .next s

/-- The conditions of a brake test (R228). -/
def State.brakeTestOk (s : State) : Bool :=
  !s.brake.outA && !s.brake.outB && !s.flag SAFE_BRKSTAT SAFE_BRKSTAT_FA && !s.flag SAFE_BRKSTAT SAFE_BRKSTAT_FB
    && s.power = .drive && s.full && s.shoeSourceOk && !s.brakeTesting

/-- SAFE_BRKCTL.TSTART accepted (R228). -/
def brakeTestStart (s : State) : State :=
  let a0 := s.shoeAngle
  { s with brake := { s.brake with a0 := a0, exc := 0, imin := 0xFFFF } }.setFld SAFE_BRKSTAT SAFE_BRKSTAT_PHASE 1

/-- A phase ends with the smallest magnitude `imin` of its last TDUR: at least ITEST, it has passed; below, TRISE has run
out (R228). -/
def execBrakeTestPhaseEnd (imin : BitVec 16) (s : State) : Out :=
  let ph := s.fld SAFE_BRKSTAT SAFE_BRKSTAT_PHASE
  if ph = 0 then .next s
  else
    let s := { s with brake := { s.brake with imin := min s.brake.imin imin.toNat } }
    if imin.toNat < s.shoeTest then .next (brakeTestOver 2 s)
    else if ph = 1 then .next (s.setFld SAFE_BRKSTAT SAFE_BRKSTAT_PHASE 2)
    else .next (brakeTestOver 0 s)

/-- The angle of the test's source during the test (R228): the excursion from A0 modulo one turn, above AMAX MOTION. -/
def brakeMotion (angle : BitVec 16) (s : State) : State :=
  if !s.brakeTesting then s
  else
    let d := (angle - s.brake.a0).toInt.natAbs
    let s := { s with brake := { s.brake with exc := max s.brake.exc d } }
    if bitsOf (s.sealed 0x182) 15 0 < d then brakeTestCut 1 s else s

def execBrakeTestMotion (angle : BitVec 16) (s : State) : Out :=
  if s.shoeAngleSrc < 2 then .next (brakeMotion angle s) else .next s

/-- The angle of source `k` of the brake test has been evaluated: the test watches it (R228), and the Drag Shoe follows the
speed and the validity of its sources (R226). -/
def shoeWatches (k : Nat) (s : State) : Out :=
  let s := settleBrake s
  if s.brakeTesting && decide (s.shoeAngleSrc = k) then .next (brakeMotion s.shoeAngle s) else .next s

/-- Resolver (R153, R154) and encoder (R155) samples. -/
def execResFlt (r : Fin 2) (amp : Nat) (err track : BitVec 16) (speed : Word) (s : State) : Out :=
  shoeWatches r (resolverSample r amp err track speed s)
def execEncCount (e : Fin 2) (a b : Bool) (stable t : Nat) (s : State) : Out :=
  shoeWatches (2 + e) (encoderEdge e a b stable t (s.at t))
def execEncZ (e : Fin 2) (stable : Nat) (s : State) : Out := shoeWatches (2 + e) (encoderZ e stable s)

/-! ### The torque monitor (R214 to R218) -/

/-- MVCH of an Axle. -/
def State.mvch (s : State) (a : Nat) : Nat := bitsOf (s.monWord a 0) 29 23

/-- The electrical angle of the monitor's resolver at its last sample, with MAOFS in place of the OFFSET that it used,
1/65,536 turn (R214). -/
def State.monAngle (s : State) (a r : Nat) : Nat :=
  (s.fld (RES_ANG r) RES_ANG_ANGLE + 65536 - (s.rs r).ofs + bitsOf (s.monWord a 8) 31 16) % 65536

/-- The resolver serves the monitor: locked and below 16 Hz electrical (R214). -/
def State.monResolver (s : State) (a : Nat) : Option Nat :=
  let m := bitsOf (s.monWord a 0) 19 18
  if m = 0 then none
  else if s.flag (RES_STAT (m - 1)) RES_STAT_LOCK
      && decide ((s.sfld (RES_SPD (m - 1)) RES_SPD_SPEED).natAbs < 16 * 65536) then some (m - 1)
  else none

/-- One set's step (R214), each result with its bounded rounding error (log entry 26); its set torque. -/
def monitorSet (a m : Nat) (s : State) : State :=
  let x := s.mn (4 * a + m)
  let legs := s.monLegs a m
  let is := s.monCurrents legs
  let (ia, ib) := clarke (is.getD 0 0) (is.getD 1 0) (is.getD 2 0)
  let u := up15 (s.pres (s.mvch a))
  let lev := fun (ph : Nat) => u * s.legLevel (legs.getD ph 0) (is.getD ph 0)
  let (va, vb) := clarke (lev 0) (lev 1) (lev 2)
  let rs : Int := bitsOf (s.monWord a 1) 31 16
  let ls : Int := bitsOf (s.monWord a 1) 15 0
  let tflx : Int := max 1 (bitsOf (s.monWord a 2) 31 20)
  let err := fun (n : Nat) => roundErr (s.draws + n)
  let psi := match s.monResolver a with
    | some r =>
      let i := s.monAngle a r * 4
      let psim : Int := (bitsOf (s.monWord a 3) 15 0 : Int) * 2 ^ 24
      (psim * sinScaled (i + 65536) / 2 ^ 60 + mulLs ls ia + err 0, psim * sinScaled i / 2 ^ 60 + mulLs ls ib + err 1)
    | none =>
      (x.psiA + (va - mulRs rs ia) / (10 * tflx) - x.psiA / 200000 + err 0,
       x.psiB + (vb - mulRs rs ib) / (10 * tflx) - x.psiB / 200000 + err 1)
  let ts := mulRs (bitsOf (s.monWord a 2) 15 0) ((psi.1 * ib - psi.2 * ia) / one40) + err 2
  let faulted := (legs.filter (fun l => s.chFault (s.mch l))).length
  let s := s.updMn (4 * a + m) (fun _ => { psiA := psi.1, psiB := psi.2 })
  (s.updAx a (fun y => { y with
    tmSum := y.tmSum + ts, tmInvalid := y.tmInvalid || decide (2 ≤ faulted), tmRecon := y.tmRecon || decide (faulted = 1) })).drew 3

/-- The Axle's monitor runs (R214). -/
def State.monitorRuns (s : State) (a : Nat) : Bool := s.awake && s.flag (SAFE_TMSTAT a) SAFE_TMSTAT_EN

/-- Every 100 ns (R214). -/
def execTorqueMonitorStep (a : Fin 4) (s : State) : Out :=
  if s.monitorRuns a then
    let s := each (s.monSets a) (fun m t => monitorSet a m t) s
    .next (s.updAx a (fun y => { y with tmSteps := y.tmSteps + 1, tmInvalid := y.tmInvalid || s.chFault (s.mvch a) }))
  else .next s

/-- T_m of the interval in Q1.31: the mean over its steps; a value the spec does not state where it had none. -/
def State.monTorque (s : State) (a : Nat) : Int :=
  let x := s.ax a
  if s.monSets a = [] then 0
  else if x.tmSteps = 0 then (Config.freeWord s.draws).toInt
  else (satI 32 (x.tmSum / x.tmSteps / 512)).1

/-- Every phase leg of the Axle is in SAFE. -/
def State.phasesSafe (s : State) (a : Nat) : Bool := (s.phaseLegs a).all (fun l => decide (s.legSafe l ≠ 0))

/-- An interval of the monitor begins (R214, R217). `cut`: the reaction at the update point that opens it takes the legs to
SAFE; its decision falls after that point, so the interval is not spent in SAFE throughout. -/
def monitorBegin (a : Nat) (cut : Bool) (s : State) : State :=
  let safe := s.phasesSafe a && !cut
  s.updAx a (fun y => { y with
    tmSum := 0, tmSteps := 0, tmInvalid := false, tmRecon := false, allSafe := safe })

/-- The monitor's reaction (R217). -/
def monitorTrip (a : Nat) (s : State) : State :=
  let s := s.wr (SAFE_TMACC a) 0
  let s := capture 5 (evSup a 12) ((s.sq (SAFE_TMSTAT a) SAFE_TMSTAT_TRIP).raise (evSup a 12))
  settleBrake (safeFor .tmTrip (s.phaseLegs a) s)

/-- SAFE_TMACC after an interval of `len` ticks (R217). -/
def monitorCount (a len : Nat) (out : Bool) (s : State) : State :=
  let acc := s.fld (SAFE_TMACC a) SAFE_TMACC_ACC
  let n := if out then acc + len else acc - len / 2
  if bitsOf (s.monWord a 0) 13 0 * 80000 ≤ n then monitorTrip a s else s.wr (SAFE_TMACC a) (word n)

/-- The update point that closes an interval of `len` ticks (R215 to R217). -/
def monitorInterval (a len : Nat) (s : State) : State :=
  if !s.monitorRuns a then s
  else
    let tm := s.monTorque a
    let band := s16 (bitsOf (s.monWord a 3) 31 16) * 65536
    let out := decide (s.tMax a + band < tm) || decide (tm < s.tMin a - band)
    let inv := (s.ax a).tmInvalid || !s.flag SAFE_SEALSTAT SAFE_SEALSTAT_RECOK || s.chFault (s.mvch a)
    let susp := (s.ax a).allSafe || !s.running a
    let recon := (s.ax a).tmRecon
    let r := SAFE_TMSTAT a
    let s := (s.wr (SAFE_TMEST a) (wordI tm)).drew 1
    let s := if out then (s.sq r SAFE_TMSTAT_OUT).raise (evSup a 10) else s
    let s := if inv then (s.sq r SAFE_TMSTAT_INV).raise (evSup a 11) else s
    let s := if recon then s.sq r SAFE_TMSTAT_RECON else s
    let s := (s.setFlag r SAFE_TMSTAT_SUSP susp).setFlag r SAFE_TMSTAT_INWIN (!(out || inv))
    if susp then s else monitorCount a len (out || inv) s

/-- A write to SAFE_TMSTAT (R35, R218): TRIP clears only while the window in force contains zero. -/
def tmClear (a : Nat) (data : Word) (s : State) : State :=
  let r := SAFE_TMSTAT a
  if seqFld.get data ≠ s.fld r seqFld then s
  else
    let s' := s.wr r (s.rd r &&& ~~~ (data &&& 0x00780000))
    if !(data.getLsbD 23 && s.tmTrip a) then s'
    else if s.tMin a ≤ 0 ∧ 0 ≤ s.tMax a then
      settleBrake (endCause .tmTrip (s.phaseLegs a) (s'.setFlag r SAFE_TMSTAT_TRIP false))
    else (s'.sq r SAFE_TMSTAT_CLRREF).raise (evSup a 13)

/-! ### The sealed configuration (R221 to R224) -/

/-- The hash of the password registers (R222), as the four words of a slot. -/
def State.pwHash (s : State) : List Word :=
  let d := sha256 (wordBytes (s.rd (SAFE_SEALPW 0)) ++ wordBytes (s.rd (SAFE_SEALPW 1)) ++ wordBytes (s.wb 4) ++ wordBytes (s.wb 5))
  (List.range 4).map (fun k => word (leNat ((d.drop (4 * k)).take 4)))

/-- The words of password slot k; all ones means empty (R219). -/
def State.slotWords (s : State) (k : Nat) : List Word := (List.range 4).map (fun j => s.wb (0x1F0 + 4 * k + j))
def State.slotEmpty (s : State) (k : Nat) : Bool := (s.slotWords k).all (fun w => w = 0xFFFFFFFF)

/-- The password registers are cleared after every operation (R221). -/
def clearPw (s : State) : State := (s.wr (SAFE_SEALPW 0) 0).wr (SAFE_SEALPW 1) 0

/-- An unlock may be attempted (R221). -/
def State.unlockOk (s : State) : Bool :=
  s.power = .stand && (List.range 4).all (fun a => !s.running a) && !s.flag SAFE_SEALSTAT SAFE_SEALSTAT_LOCKOUT

/-- UNLOCK accepted: the hash runs. -/
def unlockStart (s : State) : State := s.setFlag SAFE_SEALSTAT SAFE_SEALSTAT_BUSY true

/-- The outcome of an unlock attempt (R221). -/
def unlockOutcome (s : State) : State :=
  let st := SAFE_SEALSTAT
  let h := s.pwHash
  match (List.range 4).find? (fun k => !s.slotEmpty k && s.slotWords k = h) with
  | some k =>
    let s := (s.setFlag st SAFE_SEALSTAT_UNLOCKED true).setFld st SAFE_SEALSTAT_SLOT k
    appendLog 1 0 0 0 ((s.setFld st SAFE_SEALSTAT_ATT 0).raise (evProt 10))
  | none =>
    if (List.range 4).all s.slotEmpty then
      appendLog 1 0 0 0 ((s.setFlag st SAFE_SEALSTAT_UNLOCKED true).setFld st SAFE_SEALSTAT_SLOT 0xF)
    else
      let att := s.fld st SAFE_SEALSTAT_ATT
      let s := (s.setFld st SAFE_SEALSTAT_ATT (min 3 (att + 1))).sq st SAFE_SEALSTAT_DENY
      if att < 2 then appendLog 3 0 0 0 (s.raise (evProt 11))
      else appendLog 4 0 0 0 ((s.setFlag st SAFE_SEALSTAT_LOCKOUT true).raise (evProt 12))

/-- The hash is done (R221). -/
def execUnlockHashDone (s : State) : Out :=
  if s.flag SAFE_SEALSTAT SAFE_SEALSTAT_BUSY then
    .next (clearPw (unlockOutcome (s.setFlag SAFE_SEALSTAT SAFE_SEALSTAT_BUSY false)))
  else .next s

/-- LOCK accepted (R223): the load of R220 and its log entry; the slot in force goes with the entry. -/
def sealLock (s : State) : State :=
  let s := settleSafe (loadSealed (s.setFlag SAFE_SEALSTAT SAFE_SEALSTAT_UNLOCKED false))
  let ok := s.flag SAFE_SEALSTAT SAFE_SEALSTAT_RECOK
  let s := appendLog (if ok then 2 else 5) 0 0 0 s
  settleBrake (clearPw (s.setFld SAFE_SEALSTAT SAFE_SEALSTAT_SLOT 0xF))

/-- SETPW accepted (R222): the hash goes to the slot, each word as a sealed write. -/
def sealSetpw (slot : Nat) (s : State) : State :=
  let h := s.pwHash
  clearPw (each (List.range 4) (fun j t => wbAccept (0x1F0 + 4 * slot + j) (h.getD j 0) t) s)

/-- A SAFE_SEALCTL write is meaningless (R221, R223). -/
def State.sealBad (s : State) (w : Word) : Bool :=
  let u := SAFE_SEALCTL_UNLOCK.bit w
  let l := SAFE_SEALCTL_LOCK.bit w
  let p := SAFE_SEALCTL_SETPW.bit w
  let locked := !s.flag SAFE_SEALSTAT SAFE_SEALSTAT_UNLOCKED
  (u && l) || (u && p) || (l && p) || ((l || p) && locked) || (u && !s.unlockOk)

/-- SAFE_SEALCTL has been written: its request is taken and the bit cleared (R221 to R223). -/
def sealWritten (s : State) : State :=
  let w := s.rd SAFE_SEALCTL
  let s := s.wr SAFE_SEALCTL (w &&& SAFE_SEALCTL_SLOT.mask)
  if SAFE_SEALCTL_UNLOCK.bit w then unlockStart s
  else if SAFE_SEALCTL_LOCK.bit w then sealLock s
  else if SAFE_SEALCTL_SETPW.bit w then sealSetpw (SAFE_SEALCTL_SLOT.get w) s
  else s

/-! ### The estimator's commands, whose speed the Drag Shoe follows (R226) -/

def execHysNoconv (set : Fin 8) (s : State) : Out := settled (hysNoconv set s)
def execAutoCatch (a : Fin 4) (s : State) : Out := .next (autoCatch a s)
def execCatchProbe (a : Fin 4) (s : State) : Out := settled (catchProbe a s)
def execPublication (a : Fin 4) (s : State) : Out := settled (publication a s)

end Sys2Proof.Machine
end

