-- ==== Sys2Proof/Machine/Ttu.lean ====
section
/-! DEFINITION. The transform and table unit's reports and checks, the live angle, the commutation index and carrier
derating (R174 to R181). -/

namespace Sys2Proof.Machine

open Sys2Proof

/-- The live angle of an Axle (R175); under source 0 by the latest report's speed (R174). -/
def State.liveAngle (s : State) (a : Nat) : Word :=
  let src := s.fld (TTU_CFG a) TTU_CFG_ANGSRC
  if src = 0 then
    let ticks := (s.now - (s.ax a).repAt) / 32
    s.rd (TTU_OBSA a) + wordI ((s.ax a).repW.toInt * (ticks : Int) / 256)
  else if src ≤ 2 then s.rd (RES_ANG (src - 1))
  else s.rd (ENC_ANG (src - 3))

/-- A re-arm (R179). -/
def ttuRearm (a : Nat) (s : State) : State :=
  let s := (s.setFlag (TTU_STAT a) TTU_STAT_LOST false).setFld (TTU_STAT a) TTU_STAT_FCNT 0
  (s.updAx a (fun x => { x with prevW := none })).setFlag (TTU_OCTL a) TTU_OCTL_REARM false

/-- Checks act (R177). -/
def State.obsChecked (s : State) (a : Nat) : Bool :=
  s.flag (TTU_OCTL a) TTU_OCTL_SEN && !s.flag (TTU_STAT a) TTU_STAT_LOST && !s.underFallback a

/-- The observer is declared lost (R178). -/
def obsLost (a : Nat) (s : State) : State :=
  let s := (s.setFlag (TTU_STAT a) TTU_STAT_LOST true).raise (evSup a 1)
  if s.flag (TTU_OCTL a) TTU_OCTL_FBEN && s.power = .drive && s.full then askFallback a 1 s else s

/-- A failed check (R177): its flag and OBS_CHK; the first one of the interval advances FCNT. -/
def checkFails (a : Nat) (f : Fld) (s : State) : State :=
  let s := (s.sq (TTU_STAT a) f).raise (evSup a 0)
  if (s.ax a).intervalFailed then s
  else
    let n := s.fld (TTU_STAT a) TTU_STAT_FCNT + 1
    let s := (s.updAx a (fun x => { x with intervalFailed := true })).setFld (TTU_STAT a) TTU_STAT_FCNT (min n 3)
    if n = s.fld (TTU_OCTL a) TTU_OCTL_NLOSS then obsLost a s else s

/-- The residual check. -/
def State.failsResidual (s : State) (a : Nat) : Bool :=
  let m := s.fld (TTU_OSUP a) TTU_OSUP_RESMAX
  decide (m ≠ 0) && decide (m < s.fld (TTU_OBSR a) TTU_OBSR_RESID)

/-- The speed jump check. -/
def State.failsJump (s : State) (a : Nat) : Bool :=
  let j := (s.rd (TTU_JMAX a)).toNat
  match (s.ax a).prevW with
  | none => false
  | some w => decide (j ≠ 0) && decide (j < ((s.rd (TTU_OBSW a)).toInt - w.toInt).natAbs)

/-- The disagreement check against the resolver angle of the opening update point. -/
def State.failsDisagreement (s : State) (a : Nat) : Bool :=
  let r := s.fld (TTU_OCTL a) TTU_OCTL_RSRC
  let m := s.fld (TTU_OSUP a) TTU_OSUP_DISMAX
  let open_ := if r = 2 then (s.ax a).openAng2 else (s.ax a).openAng
  let d := ((s.rd (TTU_OBSA a) - open_).extractLsb' 16 16).toInt
  decide (r ≠ 0) && decide (m ≠ 0) && s.flag (RES_STAT (r - 1)) RES_STAT_LOCK && decide (m < d.natAbs)

/-- A write to TTU_OBSA has completed a report (R174, R177). -/
def observerReport (a : Nat) (s : State) : State :=
  let checked := s.obsChecked a
  let res := s.failsResidual a
  let jump := s.failsJump a
  let dis := s.failsDisagreement a
  let w := s.rd (TTU_OBSW a)
  let s := s.updAx a (fun x => { x with reported := true, repAt := x.upAt, repW := w, prevW := some w })
  if !checked then s
  else
    let s := if !res && !jump && !dis then s.updAx a (fun x => { x with trustedW := some w }) else s
    let s := if res then checkFails a TTU_STAT_RES s else s
    let s := if jump then checkFails a TTU_STAT_JUMP s else s
    if dis then checkFails a TTU_STAT_DIS s else s

/-- The interval closes at an update point (R177). -/
def ttuClose (a : Nat) (s : State) : State :=
  let checked := s.obsChecked a
  let s := if checked && !(s.ax a).reported then checkFails a TTU_STAT_REPMISS s else s
  if checked && !(s.ax a).intervalFailed then s.setFld (TTU_STAT a) TTU_STAT_FCNT 0 else s

/-- An interval opens at an update point, which latches the resolvers' angles (R174, R177). -/
def ttuOpen (a : Nat) (s : State) : State :=
  let ang := fun (r : Nat) => word (s.latchedAngle r * 65536)
  let t := s.now
  s.updAx a (fun x => { x with
    reported := false, intervalFailed := false, openAng := ang 0, openAng2 := ang 1, upAt := t })

/-! ### Commutation index (R176) -/

def State.ncom (s : State) (a : Nat) : Nat := s.fld (TTU_CFG a) TTU_CFG_NCOM
def State.com (s : State) (a k : Nat) : Nat := (s.rd (TTU_COM a k)).toNat

/-- The crossings in use ascend strictly. -/
def State.comAscend (s : State) (a : Nat) : Bool :=
  (List.range (s.ncom a - 1)).all (fun k => decide (s.com a k < s.com a (k + 1)))

/-- The sector in which an angle lies: the last crossing at or below it, else the last one of the turn before. -/
def State.comSector (s : State) (a ang : Nat) : Nat :=
  ((List.range (s.ncom a)).reverse.find? (fun k => decide (s.com a k ≤ ang))).getD (s.ncom a - 1)

/-- The index that the live angle gives; a step back waits for the hysteresis. -/
def State.comIndex (s : State) (a : Nat) : Nat :=
  let ang := s.liveAngle a
  let idx := s.fld (TTU_STAT a) TTU_STAT_CIDX
  let n := max 1 (s.ncom a)
  let k := s.comSector a ang.toNat
  let back := decide (k ≠ idx) && decide (k = (idx + n - 1) % n)
  let dist := (s.rd (TTU_COM a idx) - ang).toNat
  if back && decide (dist ≤ s.fld (TTU_CFG a) TTU_CFG_CHYS * 65536) then idx else k

/-- The index after a change of angle, crossings or COMEN (R116, R176). -/
def updateIndex (a : Nat) (s : State) : State :=
  let old := s.fld (TTU_STAT a) TTU_STAT_CIDX
  if !s.flag (TTU_CFG a) TTU_CFG_COMEN then
    if old = 0 then s else recomposeAxle a (s.setFld (TTU_STAT a) TTU_STAT_CIDX 0)
  else if !s.comAscend a then (s.sq (TTU_STAT a) TTU_STAT_COMERR).raise (evSup a 2)
  else
    let k := s.comIndex a
    if k = old then s else recomposeAxle a (s.setFld (TTU_STAT a) TTU_STAT_CIDX k)

/-! ### Carrier derating (R181) -/

/-- Limits of PERIOD in a mode (R93). -/
def periodRange (mode : Nat) : Nat × Nat := if mode = 0 then (4000, 400000) else (2000, 200000)
def periodOk (mode p : Nat) : Bool := decide ((periodRange mode).1 ≤ p) && decide (p ≤ (periodRange mode).2)

/-- A carrier-derating request on one Axle (R181). -/
def derateAxle (a : Nat) (s : State) : State :=
  let cdr := s.rd (TTU_CDR a)
  if s.running a && TTU_CDR_AUTO.bit cdr && !s.flag (AXL_PRDSCH a) AXL_PRDSCH_ARM then
    let p := s.period a
    let want := p + (p * TTU_CDR_DSTEP.get cdr + 15) / 16
    let r := periodRange (s.axlMode a)
    let p' := max r.1 (min (min want (TTU_CDR_PMAX.get cdr)) r.2)
    if p' = p then (s.sq (TTU_STAT a) TTU_STAT_CDRMAX).raise (evSup a 4)
    else
      let s := s.setFld (AXL_PRDSCH a) AXL_PRDSCH_PERIOD p'
      let s := s.wr (AXL_PRDAT a) (s.rd (AXL_CARNUM a) + word (TTU_CDR_LEAD.get cdr))
      let s := s.setFlag (AXL_PRDSCH a) AXL_PRDSCH_ARM true
      (s.sq (TTU_STAT a) TTU_STAT_CDRADJ).raise (evSup a 3)
  else s

def execCommutationIndexChange (a : Fin 4) (t : Nat) (s : State) : Out := settled (updateIndex a (s.at t))

end Sys2Proof.Machine
end

