-- ==== Sys2Proof/Machine/Axle.lean ====
section
/-! DEFINITION. The Axle timebases (R17, R92 to R109): turning points and update points, compare edges, triggers, starts
and stops, and writes against the running counter. -/

namespace Sys2Proof.Machine

open Sys2Proof

/-! ### The counter -/

/-- The counter counts down (R92). -/
def State.dirDown (s : State) (a : Nat) : Bool := s.flag (AXL_CNT a) AXL_CNT_DIR

/-- AXL_CNT at an instant: its value and direction. -/
def setCount (a n : Nat) (down : Bool) (s : State) : State :=
  s.wr (AXL_CNT a) (AXL_CNT_DIR.put (AXL_CNT_VALUE.put 0 n) (b2n down))

/-- The counter is frozen by a debug halt of the Lead (R108). -/
def State.frozen (s : State) (a : Nat) : Bool :=
  s.flag TRK_STAT TRK_STAT_HALT && s.flag (AXL_CTRL a) AXL_CTRL_DBGFRZ

/-- The counter moves. -/
def State.counts (s : State) (a : Nat) : Bool := s.awake && s.running a && !s.frozen a

/-- Ticks of the half that ends at a turning point: the up half (or the ramp) with its corrected ticks, or the down half
(R92, R100, R106). -/
def State.halfTicks (s : State) (a : Nat) : Nat :=
  let x := s.ax a
  if s.dirDown a then x.top
  else ((((x.latePeak.getD (s.turn a) : Nat) : Int) - x.slewTicks).toNat)

/-- Ticks since the last update point: a half in mode 0b10, the carrier otherwise (R92, R214). -/
def State.intervalTicks (s : State) (a : Nat) : Nat :=
  if s.axlMode a = 1 then s.halfTicks a + ((((s.ax a).top : Nat) : Int) - (s.ax a).slewTicks).toNat else s.halfTicks a

/-- Ticks of the half in progress that have passed at the present instant (R92, R109). -/
def State.elapsedTicks (s : State) (a : Nat) : Nat :=
  let e := (s.now - (s.ax a).halfAt) / 32
  if (s.ax a).onDray then Config.drayTicks e / 4 * 4 else e

/-- The counter at the present instant, no further than the next turning point: in an up half with its removed or added
ticks (R92, R106); as AXL_CNT holds it while the counter does not move. -/
def State.countNow (s : State) (a : Nat) : Nat :=
  let x := s.ax a
  let e := s.elapsedTicks a
  if !s.counts a then s.fld (AXL_CNT a) AXL_CNT_VALUE
  else if s.dirDown a then x.top - e
  else min (x.latePeak.getD (s.turn a)) (if e = 0 then 0 else ((e : Int) + x.slewTicks).toNat)

/-- The counter stops where it is (R108). -/
def holdCount (a : Nat) (s : State) : State := if s.running a then setCount a (s.countNow a) (s.dirDown a) s else s

/-- The counter moves again from where it stopped (R108). -/
def releaseCount (a : Nat) (s : State) : State :=
  let x := s.ax a
  let n := s.fld (AXL_CNT a) AXL_CNT_VALUE
  let e := if s.dirDown a then x.top - n else ((n : Int) - x.slewTicks).toNat
  if s.running a then s.setAx a { x with halfAt := s.now - 32 * e } else s

/-- Is the commit watchdog counting: the Axle running, in Drive and under Full service (R17)? -/
def State.wdCounts (s : State) (a : Nat) : Bool := s.running a && decide (s.power = .drive) && s.full

/-- The commit watchdog has passed its count (R17). -/
def State.wdExpired (s : State) (a : Nat) : Bool :=
  decide (0 < (s.ax a).wd) && decide (s.fld (AXL_WDOG a) AXL_WDOG_COUNT ≤ (s.ax a).wd)

/-! ### Update points -/

/-- The commit watchdog at an update point (R17); an expiry is a cause of the fallback at that point (R189). -/
def watchdogPoint (a : Nat) (s : State) : State :=
  let on := s.wdCounts a
  let s := s.updAx a (fun x => { x with wd := if on then x.wd + 1 else 0 })
  if s.wdExpired a && (s.ax a).fbPending.isSome then askFallback a 2 s else s

/-- The return from a debug halt at an update point (R108). -/
def haltUpdate (a : Nat) (s : State) : State :=
  let x := s.ax a
  if x.haltHold && x.resumed && x.commitSinceResume then
    endCause .debugHalt (s.legsOf a) (s.updAx a (fun y => { y with haltHold := false, resumed := false }))
  else s

/-- What every update point does, after its event and before the half that it opens (R94): the watchdog, the closing of
the torque monitor's and the reports' intervals (none closes at a start, `len` 0), the legs, the windows, the fallback and
the release of SAFE. A cause of entry that arises here waits for the next update point (R178, R189). -/
def updatePoint (a len : Nat) (s : State) : State :=
  let s := watchdogPoint a s
  let pend := (s.ax a).fbPending
  let s := s.updAx a (fun x => { x with fbPending := none })
  let out := !s.phasesSafe a
  let s := if len = 0 then s else monitorInterval a len s
  let cut := out && s.phasesSafe a
  let s := gateUpdate a s
  let s := ttuOpen a (if len = 0 then s else ttuClose a s)
  let s := fallbackUpdate a pend (handbackUpdate a (windowUpdate a s))
  let s := releaseAxle a (haltUpdate a (catchUpdate a s))
  monitorBegin a cut (s.updAx a (fun x => { x with fired := [], trgFired := [], trgBehind := [] }))

/-! ### Grids (R103 to R107) -/

/-- The carrier length in taps (R92). -/
def State.carrierTaps (s : State) (a : Nat) : Nat :=
  max 1 (if s.axlMode a = 0 then 32 * s.turn a else 64 * s.turn a)

/-- The counter of the Axle reaches a valley in the present cycle, of which the command is still to come. -/
def State.valleyDue (s : State) (a : Nat) : Bool :=
  s.counts a && (s.dirDown a || decide (s.axlMode a = 0)) && decide (s.now = (s.ax a).halfAt + 32 * s.halfTicks a)

/-- The Axle that an Axle's grid follows (R104). -/
def State.sourceAxle (s : State) (a : Nat) : Nat := s.fld (AXL_SYNC a) AXL_SYNC_SRC - 1

/-- The instant of the source's latest valley, its fine offset included; one due in the present cycle counts. -/
def State.sourceValley (s : State) (a : Nat) : Int :=
  let b := s.sourceAxle a
  if s.valleyDue b then ((s.now + (s.ax b).fineOfs : Nat) : Int) else ((s.ax b).valleyAt : Int)

/-- Offset of the grid from the source's valleys: AXL_SYNCOFS modulo the carrier length, or what a scheduled change has
re-anchored (R104, R107). -/
def State.gridOffset (s : State) (a : Nat) : Nat :=
  (s.ax a).gridOfs.getD ((s.rd (AXL_SYNCOFS a)).toNat % s.carrierTaps a)

/-- The representative of a difference modulo a length that is nearest to 0; of two the positive one (R106). -/
def nearest (d : Int) (len : Nat) : Int :=
  let r := d % (len : Int)
  if 2 * r ≤ (len : Int) then r else r - len

/-- e of R106: the actual valley instant, at the present tick with the fine offset in force, less the grid's nearest one;
none where the valley is not measured. -/
def State.valleyError (s : State) (a : Nat) : Option Int :=
  let src := s.fld (AXL_SYNC a) AXL_SYNC_SRC
  let v : Int := ((s.now + (s.ax a).fineOfs : Nat) : Int)
  if src = 0 then none
  else if src ≤ 4 then
    if s.running (src - 1) then some (nearest (v - (s.sourceValley a + s.gridOffset a)) (s.carrierTaps (src - 1))) else none
  else some (nearest (v + s.cpl.ofs - (s.ax a).anchor) (s.carrierTaps a))

/-- The grid is re-anchored at the present valley (R105, R107). -/
def reanchorHere (a : Nat) (s : State) : State :=
  let src := s.fld (AXL_SYNC a) AXL_SYNC_SRC
  let v : Int := ((s.now + (s.ax a).fineOfs : Nat) : Int)
  let anchor := v + s.cpl.ofs
  let ofs := if 1 ≤ src ∧ src ≤ 4 ∧ s.running (src - 1) then
      some ((v - s.sourceValley a) % (s.carrierTaps (src - 1) : Int)).toNat else (s.ax a).gridOfs
  s.updAx a (fun x => { x with anchor := anchor, gridOfs := ofs })

/-- The first instant A + k × L, for an integer k, that is not before `m`, with its k. -/
def firstGrid (anchor m : Int) (len : Nat) : Int × Int :=
  let k := -((anchor - m) / (len : Int))
  (anchor + k * len, k)

/-- The instant of a pending start, with the carrier number that its grid gives (R103 to R105): the cycle after the write,
or the first valley of the grid after it; a start of Dray service follows no grid (R289). -/
def State.startInstant (s : State) (a : Nat) : Nat × Word :=
  let src := s.fld (AXL_SYNC a) AXL_SYNC_SRC
  let w := (s.ax a).startFrom
  let m : Int := ((max (w + 1) s.now : Nat) : Int)
  if (s.ax a).onDray then ((w / 128 + 1) * 128, 0)
  else if src = 0 then ((w / 32 + 1) * 32, 0)
  else if src ≤ 4 then
    let b := src - 1
    let (t, _) := firstGrid (s.sourceValley a + ((s.rd (AXL_SYNCOFS a)).toNat % s.carrierTaps a : Nat)) m (s.carrierTaps b)
    (t.toNat, s.rd (AXL_CARNUM b) + (if s.valleyDue b then 1 else 0))
  else
    let (t, k) := firstGrid (((s.rd (AXL_SYNCOFS a)).toNat : Int) - s.cpl.ofs) m (s.carrierTaps a)
    (t.toNat, wordI k)

/-- A scheduled period change applies at the valley whose number AXL_PRDAT names (R107). -/
def scheduledPeriod (a : Nat) (s : State) : State :=
  let p := s.rd (AXL_PRDSCH a)
  let due := AXL_PRDSCH_ARM.bit p && decide (s.rd (AXL_CARNUM a) = s.rd (AXL_PRDAT a))
  let s := s.updAx a (fun x => { x with sched := due })
  if due then
    let s := s.setFld (AXL_PRD a) AXL_PRD_PERIOD (AXL_PRDSCH_PERIOD.get p)
    reanchorHere a (s.setFlag (AXL_PRDSCH a) AXL_PRDSCH_ARM false)
  else s

/-- The alignment at a valley (R106). -/
def alignValley (a : Nat) (s : State) : State :=
  let sync := s.rd (AXL_SYNC a)
  match s.valleyError a with
  | none => (s.setFlag (AXL_STAT a) AXL_STAT_SYNCED false).updAx a (fun x => { x with slewTicks := 0 })
  | some e =>
    let lim : Int := AXL_SYNC_SLEW.get sync
    let k := e / 32
    let r := (e - 32 * k).toNat
    let inTol := decide (e.natAbs ≤ 32 * AXL_SYNC_TOL.get sync)
    let s := s.updAx a (fun x => { x with slewTicks := clampI (-lim) lim k, fineOfs := (x.fineOfs + 32 - r) % 32 })
    let s := s.setFlag (AXL_STAT a) AXL_STAT_SYNCED inTol
    if inTol then s else (s.sq (AXL_STAT a) AXL_STAT_SYNCERR).raise (evAxle a 15)

/-- SYS_CLK.DRAY falls when no running Axle counts on the Dray oscillator in Full service (R290). -/
def drayFlag (s : State) : State :=
  if s.full && (List.range 4).all (fun a => !(s.running a && (s.ax a).onDray)) then s.setFlag SYS_CLK SYS_CLK_DRAY false
  else s

/-- The change to PLL-T at a valley in Full service (R109, R290). -/
def clockChange (a : Nat) (s : State) : State :=
  if s.full && (s.ax a).onDray then drayFlag (s.updAx a (fun x => { x with onDray := false })) else s

/-- SDF_AXW takes over from the Dray window (R156). -/
def axwTakes (a : Nat) (s : State) : State :=
  if s.full && s.flag (SDF_AXW a) SDF_AXW_EN then s.updAx a (fun x => { x with axwGoverns := true }) else s

/-- A stop at a valley (R103, R189): the counter holds 0, RUNNING falls and the legs go to SAFE. A commit watchdog that
expires at that valley, which it has counted, still times out, but the stop prevails over its entry (R17). -/
def stopAxle (a : Nat) (s : State) : State :=
  let s := if s.wdCounts a && s.wdExpired a then s.raise (evAxle a 12) else s
  let s := (s.setFlag (AXL_STAT a) AXL_STAT_RUNNING false).updAx a (fun x => { x with stopPending := false, wd := 0 })
  safeFor .axleStop (s.legsOf a) (endFallback a s)

/-- Before the update point of a stop: its legs are not released there, and no entry to the fallback or catch decided at
that valley takes place (R103, R189). -/
def prepareStop (a : Nat) (s : State) : State :=
  each (s.legsOf a) (addCause .axleStop) (s.updAx a (fun x => { x with fbPending := none, catchPending := false }))

/-- A valley's own part, before the update point: the counter at 0, and the instant from which the half counts. -/
def beginCarrier (a : Nat) (s : State) : State :=
  let s := (setCount a 0 false s).raise (evAxle a 0)
  let t := s.now
  let s := if (s.ax a).reanchor then reanchorHere a s else s
  s.updAx a (fun y => { y with halfAt := t, valleyAt := t + y.fineOfs, latePeak := none, reanchor := false })

/-- The counter reaches 0 (R94, R99, R103, R106, R107): a valley, which ends a down half, or a ramp in mode 0b00. -/
def valley (a : Nat) (s : State) : State :=
  if !(s.counts a && (s.dirDown a || decide (s.axlMode a = 0))) then s
  else
    let len := s.intervalTicks a
    let s := s.at ((s.ax a).halfAt + 32 * s.halfTicks a)
    let s := (beginCarrier a s).wr (AXL_CARNUM a) (s.rd (AXL_CARNUM a) + 1)
    let s := axwTakes a (clockChange a (alignValley a (scheduledPeriod a s)))
    let stop := (s.ax a).stopPending
    if stop then stopAxle a (updatePoint a len (prepareStop a s)) else updatePoint a len s

/-- The counter reaches PERIOD in an up-down mode (R92, R94); an update point in mode 0b10 only. -/
def peak (a : Nat) (s : State) : State :=
  if s.counts a && decide (s.axlMode a ≠ 0) && !s.dirDown a then
    let len := s.halfTicks a
    let top := ((s.ax a).latePeak).getD (s.turn a)
    let s := setCount a top true (s.at ((s.ax a).halfAt + 32 * len))
    let t := s.now
    let s := s.updAx a (fun x => { x with halfAt := t, top := top, latePeak := none })
    if s.axlMode a = 2 then updatePoint a len (s.raise (evAxle a 1))
    else s.updAx a (fun x => { x with fired := [], trgFired := [], trgBehind := [] })
  else s

/-- A start of the counter (R103): at 0 with DIR up, a valley update point. The counter starts at a tick, and its valley
shifted by the common fine offset is the grid's (R104 to R106). -/
def startAxle (a : Nat) (s : State) : State :=
  let (t, num) := s.startInstant a
  let s := s.at (t / 32 * 32)
  let fine := t % 32
  let s := s.setFlag (AXL_STAT a) AXL_STAT_RUNNING true
  let ofs : Int := (s.rd (AXL_SYNCOFS a)).toNat
  let s := s.updAx a (fun x => { x with
    startPending := false, stopPending := false, slewTicks := 0, fineOfs := fine, wd := 0, fbPending := none, fired := [],
    top := 0, reanchor := false, anchor := ofs, gridOfs := none })
  let ls := s.legsOf a
  let s := each ls (fun l t => dropCause .axleStop l (dropCause .clkLoss l t)) s
  let s := (beginCarrier a s).wr (AXL_CARNUM a) num
  updatePoint a 0 (axwTakes a (clockChange a (scheduledPeriod a s)))

/-- A pending start may begin: under SRC 1 to 4 only while the source runs (R103). -/
def State.startReady (s : State) (a : Nat) : Bool :=
  let src := s.fld (AXL_SYNC a) AXL_SYNC_SRC
  s.awake && (s.ax a).startPending && (src = 0 || src = 5 || (decide (src ≤ 4) && s.running (src - 1)))

/-- AXL_CTRL has been written, RUN included (R103). -/
def runWritten (a : Nat) (s : State) : State :=
  let run := s.flag (AXL_CTRL a) AXL_CTRL_RUN
  let x := s.ax a
  let t := s.now
  if run then
    if s.running a then s.setAx a { x with stopPending := false }
    else if x.startPending then s
    else s.setAx a { x with startPending := true, startFrom := t }
  else if s.running a then s.setAx a { x with stopPending := true }
  else s.setAx a { x with startPending := false }

/-- DBGFRZ written during a debug halt of the Lead stops the counter, which held n, or lets it go on (R108). -/
def freezeWritten (a n : Nat) (rose fell : Bool) (s : State) : State :=
  if !(s.flag TRK_STAT TRK_STAT_HALT && s.running a) then s
  else if rose then setCount a n (s.dirDown a) s
  else if fell then releaseCount a s else s

/-- Loss of PLL-T (R108, R280): every Axle on it that counts or waits to start stops, with its legs in SAFE; RUN is cleared,
and CLKLOSS set where it was 1. -/
def pllTLost (s : State) : State :=
  let hit := (List.range 4).filter (fun a =>
    (s.flag (AXL_CTRL a) AXL_CTRL_RUN || s.running a) && !(s.ax a).onDray)
  let s := s.setFlag SYS_CLK SYS_CLK_TLOCK false
  each hit (fun a t =>
    let run := t.flag (AXL_CTRL a) AXL_CTRL_RUN
    let t := holdCount a t
    let t := (t.setFlag (AXL_CTRL a) AXL_CTRL_RUN false).setFlag (AXL_STAT a) AXL_STAT_RUNNING false
    let t := t.updAx a (fun x => { x with startPending := false, stopPending := false, wd := 0 })
    let t := if run then (t.sq (AXL_STAT a) AXL_STAT_CLKLOSS).raise (evSup a 14) else t
    endFallback a (safeFor .clkLoss (t.legsOf a) t)) s

/-! ### Compare edges (R95 to R98) -/

/-- A slot that produces a raw command, with its position (R97). -/
def State.governs (s : State) (a k : Nat) : Option Nat :=
  let p := s.slotPos a k
  if s.slotValid a k && s.slotOf a p = some k then some p else none

/-- The mark of a compare in the list of those that have fired. -/
def fireMark (k : Nat) (down : Bool) : Nat := 2 * k + b2n down

def State.hasFired (s : State) (a k : Nat) (down : Bool) : Bool := (s.ax a).fired.contains (fireMark k down)

/-- A compare edge fires at the present instant, `phase` taps into its half (R95). -/
def fireEdge (a k p : Nat) (down : Bool) (phase : Nat) (s : State) : State :=
  rawEdge p (!down) phase (s.updAx a (fun x => { x with fired := fireMark k down :: x.fired }))

/-- The edge of a slot that is still to come in the half in progress: the half of its compare and its placement in taps
from the start of the half (R95, R96). Of two edges of one ramp at one instant only the off edge is left. -/
def State.nextEdge (s : State) (a k : Nat) : Option (Bool × Nat) :=
  let n := 32 * s.turn a
  let u := s.cmpTaps a k false
  let d := s.cmpTaps a k true
  let uOk := !s.hasFired a k false && decide (u < n)
  if s.axlMode a = 0 then
    let dOk := !s.hasFired a k true && decide (d < n)
    if uOk && (!dOk || decide (u < d)) then some (false, u) else if dOk then some (true, d) else none
  else if s.dirDown a then
    if !s.hasFired a k true && decide (0 < d) then some (true, 32 * (s.ax a).top - d) else none
  else if uOk then some (false, u) else none

/-- The placement of a slot's pending compare is reached at `t` (R95). An edge placed in removed ticks fires in the first
cycle after them (R106). -/
def compareEdge (a k t : Nat) (s : State) : State :=
  if !s.counts a then s
  else match s.governs a k, s.nextEdge a k with
    | some p, some (down, phase) =>
      let k' := (s.ax a).slewTicks
      let tick : Int := (phase / 32 : Nat)
      let removed := !s.dirDown a && decide (1 ≤ tick) && decide (tick ≤ k')
      let s := s.at (if removed then (s.ax a).halfAt + 32 + (s.ax a).fineOfs else t)
      let now := s.now
      let late : Int := if s.dirDown a || decide (tick = 0) then 0 else 32 * k'
      let s := if removed then s
        else s.updAx a (fun x => { x with halfAt := ((now : Int) + late - phase - x.fineOfs).toNat })
      let both := decide (s.axlMode a = 0) && down && decide (s.cmpTaps a k false = phase)
      let s := if both then s.updAx a (fun x => { x with fired := fireMark k false :: x.fired }) else s
      fireEdge a k p down phase s
    | _, _ => s

/-! ### Triggers (R101, R102) -/

/-- The value of a trigger; in Dray service without the two lowest bits (R109). -/
def State.trgValue (s : State) (a m : Nat) : Nat :=
  let v := s.fld (AXL_TRG a m) AXL_TRG_VALUE
  if (s.ax a).onDray then v / 4 * 4 else v

/-- The counter value at which the half in progress ends, or from which it came down. -/
def State.halfTop (s : State) (a : Nat) : Nat :=
  if s.dirDown a then (s.ax a).top else (s.ax a).latePeak.getD (s.turn a)

/-- A trigger may fire in the half in progress (R101, R102). -/
def State.triggerDue (s : State) (a m : Nat) : Bool :=
  let sel := s.fld (AXL_TRG a m) AXL_TRG_DIRSEL
  let v := s.trgValue a m
  let p := s.halfTop a
  s.counts a && !(s.ax a).trgFired.contains m && !(s.ax a).trgBehind.contains m &&
    (if s.dirDown a then sel.testBit 1 && decide (0 < v) && decide (v ≤ p) else sel.testBit 0 && decide (v < p))

/-- Trigger m fires: its event and its line to the windows, the converters and the latches (R101, R139, R150, R153). -/
def fireTrigger (a m : Nat) (s : State) : State :=
  let s := (s.updAx a (fun x => { x with trgFired := m :: x.trgFired })).raise (evAxle a (2 + m))
  angleLatches a m (sarAxleTrigger a m (windowTrigger a m s))

/-- AXL_TRG has been written while the counter holds n (R102): at the new value it fires now, behind the counter not in the
half in progress. -/
def triggerWritten (a m n : Nat) (s : State) : State :=
  let v := s.trgValue a m
  let n := if (s.ax a).onDray then n / 4 * 4 else n
  let behind := if s.dirDown a then decide (n < v) else decide (v < n)
  let s := s.updAx a (fun x => { x with
    trgBehind := if behind then m :: x.trgBehind.filter (fun j => j ≠ m) else x.trgBehind.filter (fun j => j ≠ m) })
  if v = n ∧ s.triggerDue a m then fireTrigger a m s else s

/-! ### Writes against the running counter (R97 to R100) -/

/-- The cycle with the counter at n is that of the turning point still to come: a write in it belongs to the half that
begins there (R86, R99). -/
def State.turnComes (s : State) (a n : Nat) : Bool :=
  if s.dirDown a then n = 0 else decide (s.halfTop a ≤ n)

/-- The cycle with the counter at n is that of the turning point just passed (R86, R99). -/
def State.turnNow (s : State) (a n : Nat) : Bool :=
  if s.dirDown a then n = (s.ax a).top else n = 0

/-- The instant of the cycle in which the counter holds n in the half in progress (R92, R106). -/
def State.cycleAt (s : State) (a n : Nat) : Nat :=
  let x := s.ax a
  x.halfAt + 32 * (if s.dirDown a then x.top - n else if n = 0 then 0 else ((n : Int) - x.slewTicks).toNat)

/-- A scheduled change meets a write of PERIOD in the cycle with the counter at n, with the PERIOD that it gives: at the
valley just passed, or at the one to come (R107). -/
def State.schedMeets (s : State) (a n : Nat) : Option Nat :=
  let p := s.rd (AXL_PRDSCH a)
  let valleyNext := s.dirDown a || decide (s.axlMode a = 0)
  if !s.running a then none
  else if s.turnNow a n && !s.dirDown a && (s.ax a).sched then some (s.period a)
  else if s.turnComes a n && valleyNext && AXL_PRDSCH_ARM.bit p && decide (s.rd (AXL_CARNUM a) + 1 = s.rd (AXL_PRDAT a)) then
    some (AXL_PRDSCH_PERIOD.get p)
  else none

/-- A write of one compare: its slot, its half and its value. -/
abbrev CmpWrite := Nat × Bool × Word

/-- The slot of a compare write is reported (R97). -/
def State.mapBad (s : State) (a k : Nat) : Bool :=
  let p := s.slotPos a k
  s.slotValid a k && (decide (s.legAxle (p / 2) ≠ a) ||
    (List.range 16).any (fun j => j ≠ k && s.slotValid a j && decide (s.slotPos a j = p)))

/-- The compare belongs to the half in progress (R98). -/
def State.inHalf (s : State) (a : Nat) (down : Bool) : Bool :=
  s.axlMode a = 0 || (down = s.dirDown a)

/-- Placement from the start of the half of the apply cycle, at counter n. -/
def State.applyPhase (s : State) (a n : Nat) : Nat := if s.dirDown a then 32 * (s.ax a).top - 32 * n else 32 * n

/-- The placement of a compare lies behind the counter n in the half in progress (R95, R98). -/
def State.passed (s : State) (a n k : Nat) (down : Bool) : Bool :=
  let v := s.cmpTaps a k down
  if s.dirDown a then decide (32 * n < v) else decide (v < 32 * n) && decide (v < 32 * s.turn a)

/-- The edge of a compare has fired in the half in progress; the compare of a valid slot that produces no raw command
counts as fired once the counter has passed it (R98, log entry 64). -/
def State.spent (s : State) (a n k : Nat) (down : Bool) : Bool :=
  s.hasFired a k down || (s.slotValid a k && (s.governs a k).isNone && s.passed a n k down)

/-- R98 for one compare already stored over `old`, and whether it counts as late. Only a slot that produces a raw command
has an edge. -/
def lateRule (a n : Nat) (old : State) (c : CmpWrite) (s : State) : State × Bool :=
  let (k, down, _) := c
  if !s.running a || !s.inHalf a down then (s, false)
  else if s.hasFired a k down || old.spent a n k down then (s, true)
  else
    let v := s.cmpTaps a k down
    let ahead := if s.dirDown a then decide (v ≤ 32 * n) else decide (32 * n ≤ v)
    if ahead then (s, false)
    else match s.governs a k with
      | some p => (fireEdge a k p down (s.applyPhase a n) s, true)
      | none => (s.updAx a (fun x => { x with fired := fireMark k down :: x.fired }), true)

/-- Store one compare. -/
def storeCompare (a : Nat) (c : CmpWrite) (s : State) : State :=
  s.wr (if c.2.1 then AXL_CMPD a c.1 else AXL_CMPU a c.1) c.2.2

/-- MAPERR for the compares of one write (R97). -/
def noteMap (a : Nat) (cs : List CmpWrite) (s : State) : State :=
  if cs.any (fun c => s.mapBad a c.1) then (s.sq (AXL_STAT a) AXL_STAT_MAPERR).raise (evSup a 15) else s

/-- All compares of one write are applied in one cycle, while the counter holds n (R97 to R99): edges behind fire at the
instant of that cycle; in the cycle of a turning point to come every compare of the half that begins there is ahead. -/
def applyCompares (a n : Nat) (cs : List CmpWrite) (s : State) : State :=
  let old := s
  let s := each cs (storeCompare a) s
  if !s.running a || s.turnComes a n then noteMap a cs s
  else
    let s := setCount a n (s.dirDown a) (if (s.ax a).onDray then s else s.at (s.cycleAt a n))
    let r := cs.foldl (fun (acc : State × Nat) c =>
      let o := lateRule a n old c acc.1
      (o.1, acc.2 + b2n o.2)) (s, 0)
    let s := r.1
    let s := if 0 < r.2 then ((s.rc (AXL_CNTS a) AXL_CNTS_LATE r.2).sq (AXL_STAT a) AXL_STAT_LATE).raise (evAxle a 13) else s
    noteMap a cs s

/-- PRDLATE (R100, R107). -/
def periodLate (a : Nat) (s : State) : State := (s.sq (AXL_STAT a) AXL_STAT_PRDLATE).raise (evAxle a 14)

/-- PERIOD has been written over `old` while the counter holds n (R100, R105). In the cycle of a turning point to come the
half before it ends where the old PERIOD has it. -/
def periodWritten (a n old : Nat) (s : State) : State :=
  if !s.running a then s
  else
    let top := (s.ax a).latePeak.getD (if (s.ax a).onDray then old / 4 * 4 else old)
    let s := setCount a n (s.dirDown a) s
    let s := if s.fld (AXL_SYNC a) AXL_SYNC_SRC = 5 then s.updAx a (fun x => { x with reanchor := true }) else s
    if s.dirDown a then s
    else if top ≤ n then s.updAx a (fun x => { x with latePeak := some top })
    else if s.period a ≤ n then periodLate a (s.updAx a (fun x => { x with latePeak := some (n + 1) }))
    else s

/-- AXL_PRDSCH has been written: an ARM whose carrier number has passed is missed (R107). -/
def scheduleWritten (a : Nat) (s : State) : State :=
  let d := (s.rd (AXL_PRDAT a) - s.rd (AXL_CARNUM a)).toNat
  if s.flag (AXL_PRDSCH a) AXL_PRDSCH_ARM && (d = 0 || decide (2 ^ 31 ≤ d)) then
    periodLate a (s.setFlag (AXL_PRDSCH a) AXL_PRDSCH_ARM false)
  else s

/-- A lane of a COMMIT in taps (R85). -/
def laneTaps (f : Bool) (period : Nat) (lane : Word) : Word :=
  if f then
    let u := (lane.extractLsb' 0 16).toInt.toNat
    word ((u * 32 * period + 2 ^ 14) / 2 ^ 15)
  else lane

/-- The compares that a COMMIT writes (R85). -/
def CommitEntry.writes (e : CommitEntry) (period : Nat) : List CmpWrite :=
  (List.range e.lanes.length).flatMap (fun k =>
    let v := laneTaps e.f period (e.lanes.getD k 0)
    (if e.halves.getLsbD 0 then [(k, false, v)] else []) ++ (if e.halves.getLsbD 1 then [(k, true, v)] else []))

/-- The period by which a COMMIT applied with the counter at n is scaled (R85, R107). -/
def State.commitPeriod (s : State) (a n : Nat) : Nat := (s.schedMeets a n).getD (s.period a)

/-- The cycle with the counter at n is that of an update point that has been made already (R86). -/
def State.pointNow (s : State) (a n : Nat) : Bool :=
  s.running a && s.turnNow a n && (!s.dirDown a || decide (s.axlMode a = 2))

/-- The Axle applies a COMMIT while its counter holds n (R85, R86): compares, and the watchdog restarts. In the cycle of an
update point the write counts as applied first, so the point counts for the watchdog and for the returns of R108, R193. -/
def applyCommit (e : CommitEntry) (n : Nat) (s : State) : State :=
  let a := e.ax.val
  let ws := e.writes (s.commitPeriod a n)
  if ws = [] then s
  else
    let point := s.pointNow a n
    let s := applyCompares a n ws s
    let counted := point && s.wdCounts a
    let s := s.updAx a (fun x => { x with
      wd := if counted then 1 else 0, commitSinceHb := true, commitSinceResume := true })
    let held := (s.ax a).haltHold
    let s := if point then haltUpdate a (handbackUpdate a s) else s
    if held && !(s.ax a).haltHold then releaseAxle a s else s

/-! ### The commands -/

def execValley (a : Fin 4) (s : State) : Out := settled (settleBrake (valley a s))
def execPeak (a : Fin 4) (s : State) : Out := settled (settleBrake (peak a s))
def execCompareEdge (a : Fin 4) (k : Fin 16) (t : Nat) (s : State) : Out := settled (compareEdge a k t s)

/-- A trigger compare, or an end of the Dray window (R101, R156). -/
def execTrigger (a : Fin 4) (m : TrigSel) (s : State) : Out := match m with
  | .trg m => if s.triggerDue a m then settled (fireTrigger a m s) else .next s
  | .drayOpen => if s.counts a then settled (drayWindow a true s) else .next s
  | .drayClose => if s.counts a then settled (drayWindow a false s) else .next s

/-- The commit watchdog expires (R17, R189). -/
def execCommitTimeout (a : Fin 4) (s : State) : Out :=
  if s.wdCounts a && s.wdExpired a then
    let s := (s.updAx a (fun x => { x with wd := 0 })).raise (evAxle a 12)
    settled (settleBrake (enterFallback a 2 s))
  else .next s

def execAxleStart (a : Fin 4) (s : State) : Out :=
  if s.startReady a then settled (settleBrake (startAxle a s)) else .next s

def execPllTLoss (s : State) : Out :=
  if s.awake && s.flag SYS_CLK SYS_CLK_TLOCK then settled (settleBrake (pllTLost s)) else .next s

end Sys2Proof.Machine
end

