-- ==== Sys2Proof/Machine/StoreBuf.lean ====
section
/-! DEFINITION. The store buffer of the cores with its COMMITs (R60, R86): how its entries leave, and room for a new one. -/

namespace Sys2Proof.Machine

open Sys2Proof

/-- The counter at which a COMMIT is applied that an ordered access pushes out: an instant that the spec leaves open
(log entry 34). -/
def State.drainCount (s : State) (e : CommitEntry) : Nat :=
  let a := e.ax.val
  Config.freeNat s.draws % (max (s.period a) (s.ax a).top + 1)

/-- The oldest entry leaves the store buffer. -/
def drainOldest (s : State) : State := match s.troika.storeBuf with
  | [] => s
  | .commit e :: rest =>
    (syncStretches (applyCommit e (s.drainCount e) (s.updTrk (fun t => { t with storeBuf := rest })))).drew 1
  | .store _ _ _ _ :: _ => drainLead 1 s

/-- Every entry leaves before an ordered access (R60, R86, R90). -/
def drainStores (s : State) : State := s.troika.storeBuf.foldl (fun t _ => drainOldest t) s

/-- A store or a COMMIT enters the buffer of 8 entries; a full one drains its oldest entry first (R60). -/
def pushEntry (e : BufEntry) (s : State) : State :=
  let s := if 8 ≤ s.troika.storeBuf.length then drainOldest s else s
  s.updTrk (fun t => { t with storeBuf := t.storeBuf ++ [e] })

/-- The oldest COMMIT in the store buffer is applied while its Axle's counter holds n, after the stores ahead of it
(R86). -/
def applyOldest (n : Nat) (s : State) : State :=
  let t := drainLead (leadStores s.troika.storeBuf) s
  match t.troika.storeBuf with
  | .commit e :: rest => applyCommit e n (t.updTrk (fun x => { x with storeBuf := rest }))
  | _ => s

/-- A step of a HYS set (R184); where it reads the map it sees memory as another master does (R60). -/
def execEstimatorStep (set : Fin 8) (finding : Ecc) (s : State) : Out :=
  let s := if s.setSteps set && s.usesMap (s.setAxle set) then busView s else s
  settled (settleBrake (estimatorStep set finding s))

end Sys2Proof.Machine
end

