-- ==== Sys2Proof/Machine/Float32.lean ====
section
/-! DEFINITION. binary32 arithmetic of R54: IEEE 754 with round to nearest even only, subnormals read as zero and
flushed to zero, one quiet NaN, and flags recorded. -/

namespace Sys2Proof.Machine

open Sys2Proof

/-- Flags of FSTAT that a binary32 operation records, as bits of FSTAT (R49). -/
def fNX : Word := 1
def fUF : Word := 2
def fOF : Word := 4
def fDZ : Word := 8
def fNV : Word := 16

/-- The one NaN result (R54). -/
def qNaN : Word := 0x7FC00000

/-- A binary32 operand as read: a finite value is (−1)^s × m × 2^e. -/
inductive FVal where
  | nan (signalling : Bool)
  | inf (s : Bool)
  | fin (s : Bool) (m : Nat) (e : Int)
  deriving DecidableEq, Repr

/-- Read a binary32 word; a subnormal is a zero of the same sign (R54). -/
def fUnpack (w : Word) : FVal :=
  let s := w.getLsbD 31
  let e := (w.toNat >>> 23) % 256
  let m := w.toNat % 2 ^ 23
  if e = 255 then (if m = 0 then .inf s else .nan (!w.getLsbD 22))
  else if e = 0 then .fin s 0 0
  else .fin s (2 ^ 23 + m) ((e : Int) - 150)

def signWord (s : Bool) : Word := if s then 0x80000000 else 0

def fInf (s : Bool) : Word := signWord s ||| 0x7F800000

/-- Round m × 2^e to nearest even at an LSB of 2^q: the mantissa and whether it is inexact. -/
def roundAt (m : Nat) (e q : Int) : Nat × Bool :=
  if q ≤ e then (m * 2 ^ (e - q).toNat, false)
  else
    let sh := (q - e).toNat
    let t := m / 2 ^ sh
    let r := m % 2 ^ sh
    let h := 2 ^ (sh - 1)
    (if h < r ∨ (r = h ∧ t % 2 = 1) then t + 1 else t, decide (r ≠ 0))

/-- Deliver (−1)^s × m × 2^e as binary32 with its flags: overflow to infinity, a would-be subnormal to zero (R54). -/
def fPack (s : Bool) (m : Nat) (e : Int) : Word × Word :=
  if m = 0 then (signWord s, 0)
  else
    let q0 := e + (m.log2 : Int) - 23
    let q := max q0 (-149)
    let r := roundAt m e q
    let nx : Word := if r.2 then fNX else 0
    if r.1 < 2 ^ 23 then (signWord s, fUF ||| fNX)
    else
      let mant := if r.1 = 2 ^ 24 then 2 ^ 23 else r.1
      let be := (if r.1 = 2 ^ 24 then q + 1 else q) + 150
      if 255 ≤ be then (fInf s, fOF ||| fNX)
      else
        let tiny := decide (q0 < -149) && r.2 &&
          (Config.tinyBeforeRounding || decide ((roundAt m e q0).1 < 2 ^ 24))
        (signWord s ||| word (be.toNat * 2 ^ 23 + (mant - 2 ^ 23)), nx ||| (if tiny then fUF else 0))

/-- NV for a signalling NaN among the operands (IEEE 754). -/
def sigNV (x : FVal) : Word := match x with
  | .nan true => fNV
  | _ => 0

def FVal.isNaN (x : FVal) : Bool := match x with
  | .nan _ => true
  | _ => false

/-- Signed value of a finite operand at exponent `q`, for exact sums. -/
def finAt (s : Bool) (m : Nat) (e q : Int) : Int :=
  let n : Int := (m * 2 ^ (e - q).toNat : Nat)
  if s then -n else n

/-- Exact sum of two finite values, rounded once; an exact zero sum is +0 unless both are −0. -/
def fSum (s1 : Bool) (m1 : Nat) (e1 : Int) (s2 : Bool) (m2 : Nat) (e2 : Int) : Word × Word :=
  let q := min e1 e2
  let v := finAt s1 m1 e1 q + finAt s2 m2 e2 q
  if v = 0 then (signWord (s1 && s2), 0)
  else fPack (decide (v < 0)) v.natAbs q

/-- Sum of two read operands. -/
def fAddV (x y : FVal) : Word × Word := match x, y with
  | .nan a, y => (qNaN, sigNV (.nan a) ||| sigNV y)
  | x, .nan b => (qNaN, sigNV x ||| sigNV (.nan b))
  | .inf a, .inf b => if a = b then (fInf a, 0) else (qNaN, fNV)
  | .inf a, .fin _ _ _ => (fInf a, 0)
  | .fin _ _ _, .inf b => (fInf b, 0)
  | .fin s1 m1 e1, .fin s2 m2 e2 => fSum s1 m1 e1 s2 m2 e2

def fNegV (x : FVal) : FVal := match x with
  | .nan a => .nan a
  | .inf s => .inf (!s)
  | .fin s m e => .fin (!s) m e

def fAdd (a b : Word) : Word × Word := fAddV (fUnpack a) (fUnpack b)
def fSub (a b : Word) : Word × Word := fAddV (fUnpack a) (fNegV (fUnpack b))

def fMul (a b : Word) : Word × Word := match fUnpack a, fUnpack b with
  | .nan x, y => (qNaN, sigNV (.nan x) ||| sigNV y)
  | x, .nan y => (qNaN, sigNV x ||| sigNV (.nan y))
  | .inf s, .inf t => (fInf (s != t), 0)
  | .inf s, .fin t m _ => if m = 0 then (qNaN, fNV) else (fInf (s != t), 0)
  | .fin s m _, .inf t => if m = 0 then (qNaN, fNV) else (fInf (s != t), 0)
  | .fin s m e, .fin t n f => fPack (s != t) (m * n) (e + f)

/-- c + a × b, rounded once (R54). -/
def fFma (c a b : Word) : Word × Word := match fUnpack a, fUnpack b, fUnpack c with
  | .nan x, y, z => (qNaN, sigNV (.nan x) ||| sigNV y ||| sigNV z)
  | x, .nan y, z => (qNaN, sigNV x ||| sigNV (.nan y) ||| sigNV z)
  | .inf s, .fin t m e, z => fFmaInf s t (decide (m = 0)) z (.fin t m e)
  | .fin s m e, .inf t, z => fFmaInf s t (decide (m = 0)) z (.fin s m e)
  | .inf s, .inf t, z => fFmaInf s t false z (.inf t)
  | .fin _ _ _, .fin _ _ _, .nan z => (qNaN, sigNV (.nan z))
  | .fin _ _ _, .fin _ _ _, .inf z => (fInf z, 0)
  | .fin s m e, .fin t n f, .fin u k g => fSum (s != t) (m * n) (e + f) u k g
where
  /-- An infinite product, or the invalid product of zero and infinity. -/
  fFmaInf (s t : Bool) (zero : Bool) (z : FVal) (_other : FVal) : Word × Word :=
    if zero then
      match z with
      | .nan true => (qNaN, fNV)
      | .nan false => (qNaN, if Config.fusedInvalid then fNV else 0)
      | _ => (qNaN, fNV)
    else match z with
      | .nan y => (qNaN, sigNV (.nan y))
      | .inf u => if (s != t) = u then (fInf u, 0) else (qNaN, fNV)
      | .fin _ _ _ => (fInf (s != t), 0)

/-- a / b: 30 extra quotient bits and a sticky bit round exactly. -/
def fDivW (a b : Word) : Word × Word := match fUnpack a, fUnpack b with
  | .nan x, y => (qNaN, sigNV (.nan x) ||| sigNV y)
  | x, .nan y => (qNaN, sigNV x ||| sigNV (.nan y))
  | .inf _, .inf _ => (qNaN, fNV)
  | .inf s, .fin t _ _ => (fInf (s != t), 0)
  | .fin s _ _, .inf t => (signWord (s != t), 0)
  | .fin s m e, .fin t n f =>
    if n = 0 then (if m = 0 then (qNaN, fNV) else (fInf (s != t), fDZ))
    else
      let num := m * 2 ^ 30
      fPack (s != t) (2 * (num / n) + b2n (decide (num % n ≠ 0))) (e - f - 31)

/-- Square root; the root of −0 is −0. -/
def fSqrtW (a : Word) : Word × Word := match fUnpack a with
  | .nan x => (qNaN, sigNV (.nan x))
  | .inf s => if s then (qNaN, fNV) else (fInf false, 0)
  | .fin s m e =>
    if m = 0 then (signWord s, 0)
    else if s then (qNaN, fNV)
    else
      -- an even exponent, then 60 further bits of the radicand and a sticky bit
      let m2 := if e % 2 = 0 then m * 2 ^ 60 else m * 2 ^ 61
      let e2 := if e % 2 = 0 then e - 60 else e - 61
      let r := isqrt m2
      fPack false (2 * r + b2n (decide (r * r ≠ m2))) (e2 / 2 - 1)

/-- Order of two finite or infinite operands: x < y. -/
def fLtV (x y : FVal) : Bool := match x, y with
  | .nan _, _ => false
  | _, .nan _ => false
  | .inf s, .inf t => s && !t
  | .inf s, .fin _ _ _ => s
  | .fin _ _ _, .inf t => !t
  | .fin s m e, .fin t n f => let q := min e f; decide (finAt s m e q < finAt t n f q)

def fEqV (x y : FVal) : Bool := match x, y with
  | .nan _, _ => false
  | _, .nan _ => false
  | .inf s, .inf t => s == t
  | .fin s m e, .fin t n f => let q := min e f; decide (finAt s m e q = finAt t n f q)
  | _, _ => false

/-- A read operand as a word again: a subnormal comes back as zero, a NaN as the quiet NaN. -/
def fFlush (w : Word) : Word := match fUnpack w with
  | .nan _ => qNaN
  | .inf s => fInf s
  | .fin s m _ => if m = 0 then signWord s else w

/-- FMIN and FMAX (R54): the non-NaN operand where exactly one is NaN. -/
def fMinMax (mx : Bool) (a b : Word) : Word × Word :=
  let x := fUnpack a
  let y := fUnpack b
  let fl := sigNV x ||| sigNV y
  if x.isNaN && y.isNaN then (qNaN, fl)
  else if x.isNaN then (fFlush b, fl)
  else if y.isNaN then (fFlush a, fl)
  else if fEqV x y then (if Config.zeroPick then (fFlush b, fl) else (fFlush a, fl))
  else if fLtV x y = mx then (fFlush b, fl) else (fFlush a, fl)

/-- The compares of R57: a NaN compares false; FLT and FLE set NV for any NaN, FEQ for a signalling one. -/
def fCompare (lt orEq : Bool) (a b : Word) : Bool × Word :=
  let x := fUnpack a
  let y := fUnpack b
  let r := (lt && fLtV x y) || (orEq && fEqV x y)
  (r, if lt then (if x.isNaN || y.isNaN then fNV else 0) else sigNV x ||| sigNV y)

/-- A value times 2^scale toward zero and saturated to 32 bits (R54): the word, whether it saturated, NX or NV. -/
def fToFixed (scale : Nat) (a : Word) : Word × Bool × Word := match fUnpack a with
  | .nan _ => (0, false, fNV)
  | .inf s => (if s then 0x80000000 else 0x7FFFFFFF, true, 0)
  | .fin s m e =>
    let k := e + scale
    let n := if 0 ≤ k then m * 2 ^ (min k 64).toNat else m / 2 ^ (-k).toNat
    let inexact := decide (k < 0) && decide (m % 2 ^ (-k).toNat ≠ 0)
    let v : Int := if s then -(n : Int) else n
    if v < -(2 ^ 31) then (0x80000000, true, 0)
    else if 2 ^ 31 ≤ v then (0x7FFFFFFF, true, 0)
    else (BitVec.ofInt 32 v, false, if inexact then fNX else 0)

/-- FCVT.W.S: out of range is the invalid operation of IEEE 754. -/
def fToInt (a : Word) : Word × Word :=
  let r := fToFixed 0 a
  (r.1, if r.2.1 then fNV else r.2.2)

/-- FCVT.Q.S: saturation sets QSAT (R52). -/
def fToQ (a : Word) : Word × Bool × Word :=
  let r := fToFixed 31 a
  (r.1, r.2.1, if r.2.1 && Config.cvtQInvalid then fNV else r.2.2)

/-- A signed integer times 2^−scale, rounded to nearest even. -/
def fFromFixed (scale : Nat) (x : Int) : Word × Word := fPack (decide (x < 0)) x.natAbs (-(scale : Int))

end Sys2Proof.Machine
end

