-- ==== Sys2Proof/Machine/Flags.lean ====
section
/-! DEFINITION. The sticky arithmetic flags of FSTAT (R49): an instruction sets them and never clears them. -/

namespace Sys2Proof.Machine

open Sys2Proof

/-- FSTAT.QSAT and FSTAT.IDZ (R49); the binary32 flags stand in Float32. -/
def fQSAT : Word := 32
def fIDZ : Word := 64

/-- Set flags of FSTAT. -/
def CoreState.flags (c : CoreState) (f : Word) : CoreState := c.setC cFSTAT (c.cx cFSTAT ||| f)

/-- QSAT where a result saturated (R52). -/
def CoreState.qsat (c : CoreState) (b : Bool) : CoreState := if b then c.flags fQSAT else c

/-- Write a general register and set flags. -/
def CoreState.put (c : CoreState) (rd : GReg) (r : Word × Word) : CoreState := (c.flags r.2).setG rd r.1

/-- Write a fixed-point result with its saturation flag. -/
def CoreState.putQ (c : CoreState) (rd : GReg) (r : Word × Bool) : CoreState := (c.qsat r.2).setG rd r.1

end Sys2Proof.Machine
end

