-- ==== Sys2Proof/Machine/Operands.lean ====
section
/-! DEFINITION. The operand forms: immediates, effective addresses, vector lanes and lane counts (R55, R59, R70). -/

namespace Sys2Proof.Machine

open Sys2Proof

/-- A B-format immediate sign-extended, or zero-extended. -/
def sext16 (i : BitVec 16) : Word := i.signExtend 32
def zext16 (i : BitVec 16) : Word := i.zeroExtend 32

/-- The effective address of a C-format access: rb plus the signed byte offset (R55). -/
def effAddr (c : CoreState) (rb : GReg) (off : BitVec 15) : Word := c.gr rb + off.signExtend 32

/-- The target of a D-format branch: the signed offset in words, added to the branch's own PC (R55). -/
def branchTarget (c : CoreState) (off : BitVec 16) : Word := c.pc + 4 * off.signExtend 32

/-- Number of lanes and lane width that W selects (R70). -/
def laneCount (w : Bool) : Nat := if w then 4 else 8
def laneBits (w : Bool) : Nat := if w then 32 else 16

/-- Lane k as the signed value of its bits. -/
def laneI (w : Bool) (v : VWord) (k : Nat) : Int :=
  if w then (v.extractLsb' (32 * k) 32).toInt else (v.extractLsb' (16 * k) 16).toInt

/-- Lane k as its raw bits. -/
def laneN (w : Bool) (v : VWord) (k : Nat) : Nat := (v.toNat >>> (laneBits w * k)) % 2 ^ laneBits w

/-- A 16-bit lane, signed. -/
def lane16 (v : VWord) (k : Nat) : Int := laneI false v k

/-- A vector with lane k replaced, its value taken modulo the lane's range. -/
def setLane (w : Bool) (v : VWord) (k : Nat) (x : Int) : VWord :=
  let b := laneBits w
  let mask : VWord := BitVec.ofNat 128 ((2 ^ b - 1) <<< (b * k))
  (v &&& ~~~ mask) ||| (BitVec.ofNat 128 ((x % 2 ^ b).toNat <<< (b * k)))

/-- Replace lanes 0 to n − 1 by a function of the lane number; the others keep their value (R71). -/
def mapLanes (w : Bool) (n : Nat) (old : VWord) (f : Nat → Int) : VWord :=
  (List.range n).foldl (fun v k => setLane w v k (f k)) old

/-- The active lane count: the general register, limited to the number of lanes (R70). -/
def activeLanes (c : CoreState) (w : Bool) (gn : GReg) : Nat := min (c.gr gn).toNat (laneCount w)

/-- Word k of a vector register. -/
def vecWord (v : VWord) (k : Nat) : Word := v.extractLsb' (32 * k) 32

/-- A vector from four words. -/
def vecOf (ws : List Word) : VWord :=
  (List.range 4).foldl (fun v k => setLane true v k ((ws.getD k 0).toNat : Int)) 0

end Sys2Proof.Machine
end

