-- ==== Sys2Proof/Machine/Scalar.lean ====
section
/-! DEFINITION. The scalar integer, immediate and control-flow instructions of Molvek (R51, R55 to R57, R62). -/

namespace Sys2Proof.Machine

open Sys2Proof

/-- An instruction of Molvek-L (R68): on the Lantern core an encoding naming g16 to g31 is illegal. -/
def common (h : Hart) (rs : List GReg) (body : State → State) (s : State) : Out :=
  issue h (fun s => if lowRegs h rs then body s else illegal h s) s

/-- An instruction outside Molvek-L is illegal on the Lantern core (R68). -/
def fullOnly (h : Hart) (body : State → State) (s : State) : Out :=
  issue h (fun s => match h with
    | .troika => body s
    | .lantern => illegal h s) s

/-- rd takes a function of the core's state, and the instruction retires. -/
def setRd (h : Hart) (rd : GReg) (f : CoreState → Word) : State → State := retire h (fun c => c.setG rd (f c))

/-- ADD, SUB, AND, OR, XOR (R57). -/
def aluVal (op : AluOp) (x y : Word) : Word := match op with
  | .add => x + y
  | .sub => x - y
  | .and => x &&& y
  | .or => x ||| y
  | .xor => x ^^^ y

/-- A shift by 0 to 31 (R51, R57). -/
def shiftVal (op : ShiftOp) (x : Word) (n : Nat) : Word := match op with
  | .sll => x <<< n
  | .srl => x >>> n
  | .sra => x.sshiftRight n

def execAddSubAndOrXor (h : Hart) (op : AluOp) (rd rs1 rs2 : GReg) (s : State) : Out :=
  common h [rd, rs1, rs2] (setRd h rd (fun c => aluVal op (c.gr rs1) (c.gr rs2))) s

/-- A shift uses bits [4:0] of its amount (R51). -/
def execSllSrlSra (h : Hart) (op : ShiftOp) (rd rs1 rs2 : GReg) (s : State) : Out :=
  common h [rd, rs1, rs2] (setRd h rd (fun c => shiftVal op (c.gr rs1) ((c.gr rs2).toNat % 32))) s

/-- rs1 < rs2 as signed or unsigned values. -/
def ltVal (unsigned : Bool) (x y : Word) : Bool := if unsigned then x.ult y else x.slt y

def execSltSltu (h : Hart) (unsigned : Bool) (rd rs1 rs2 : GReg) (s : State) : Out :=
  common h [rd, rs1, rs2] (setRd h rd (fun c => word (b2n (ltVal unsigned (c.gr rs1) (c.gr rs2))))) s

/-- Signed minimum or maximum (R57). -/
def minMaxVal (mx : Bool) (x y : Word) : Word := if x.slt y = mx then y else x

def execMinMax (h : Hart) (max : Bool) (rd rs1 rs2 : GReg) (s : State) : Out :=
  common h [rd, rs1, rs2] (setRd h rd (fun c => minMaxVal max (c.gr rs1) (c.gr rs2))) s

def execClz (h : Hart) (rd rs1 : GReg) (s : State) : Out :=
  common h [rd, rs1] (setRd h rd (fun c => word (clzW (c.gr rs1)))) s

/-- The rs2 field is the 5-bit amount (R57). -/
def execSlliSrliSrai (h : Hart) (op : ShiftOp) (rd rs1 : GReg) (amt : BitVec 5) (s : State) : Out :=
  common h [rd, rs1] (setRd h rd (fun c => shiftVal op (c.gr rs1) amt.toNat)) s

def execMul (h : Hart) (rd rs1 rs2 : GReg) (s : State) : Out :=
  common h [rd, rs1, rs2] (setRd h rd (fun c => c.gr rs1 * c.gr rs2)) s

/-- The high half of the exact product (R57). -/
def mulHigh (unsigned : Bool) (x y : Word) : Word :=
  if unsigned then word (x.toNat * y.toNat / 2 ^ 32) else wordI (x.toInt * y.toInt / 2 ^ 32)

def execMulhMulhu (h : Hart) (unsigned : Bool) (rd rs1 rs2 : GReg) (s : State) : Out :=
  common h [rd, rs1, rs2] (setRd h rd (fun c => mulHigh unsigned (c.gr rs1) (c.gr rs2))) s

/-- DIV, DIVU, REM, REMU with the results of R51 for a zero divisor and for −2^31 / −1. -/
def divVal (op : DivOp) (x y : Word) : Word := match op with
  | .div => wordI (divS x.toInt y.toInt)
  | .divu => if y = 0 then 0 else word (x.toNat / y.toNat)
  | .rem => wordI (remS x.toInt y.toInt)
  | .remu => if y = 0 then x else word (x.toNat % y.toNat)

/-- Division by zero sets FSTAT.IDZ and raises nothing (R51). -/
def execDivDivuRemRemu (h : Hart) (op : DivOp) (rd rs1 rs2 : GReg) (s : State) : Out :=
  common h [rd, rs1, rs2] (retire h (fun c =>
    c.put rd (divVal op (c.gr rs1) (c.gr rs2), if c.gr rs2 = 0 then fIDZ else 0))) s

def execAddi (h : Hart) (rd rs1 : GReg) (imm : BitVec 16) (s : State) : Out :=
  common h [rd, rs1] (setRd h rd (fun c => c.gr rs1 + sext16 imm)) s

def execAndi (h : Hart) (rd rs1 : GReg) (imm : BitVec 16) (s : State) : Out :=
  common h [rd, rs1] (setRd h rd (fun c => c.gr rs1 &&& zext16 imm)) s

def execOri (h : Hart) (rd rs1 : GReg) (imm : BitVec 16) (s : State) : Out :=
  common h [rd, rs1] (setRd h rd (fun c => c.gr rs1 ||| zext16 imm)) s

def execXori (h : Hart) (rd rs1 : GReg) (imm : BitVec 16) (s : State) : Out :=
  common h [rd, rs1] (setRd h rd (fun c => c.gr rs1 ^^^ zext16 imm)) s

def execSlti (h : Hart) (rd rs1 : GReg) (imm : BitVec 16) (s : State) : Out :=
  common h [rd, rs1] (setRd h rd (fun c => word (b2n ((c.gr rs1).slt (sext16 imm))))) s

/-- The immediate is sign-extended and then compared as unsigned (R56). -/
def execSltiu (h : Hart) (rd rs1 : GReg) (imm : BitVec 16) (s : State) : Out :=
  common h [rd, rs1] (setRd h rd (fun c => word (b2n ((c.gr rs1).ult (sext16 imm))))) s

def execLui (h : Hart) (rd : GReg) (imm : BitVec 16) (s : State) : Out :=
  common h [rd] (setRd h rd (fun _ => zext16 imm <<< 16)) s

/-- The condition of a branch (R56). -/
def condVal (c : Cond) (x y : Word) : Bool := match c with
  | .eq => x == y
  | .ne => x != y
  | .lt => x.slt y
  | .ge => !x.slt y
  | .ltu => x.ult y
  | .geu => !x.ult y

/-- A taken branch goes to its target, another to the next instruction (R55, R62). -/
def execBranch (h : Hart) (cond : Cond) (rs1 rs2 : GReg) (off : BitVec 16) (s : State) : Out :=
  common h [rs1, rs2] (fun s => s.updCore h (fun c =>
    if condVal cond (c.gr rs1) (c.gr rs2) then { c with pc := branchTarget c off } else c.advance)) s

/-- JAL: rd = PC + 4, PC = the target (R56). -/
def execJal (h : Hart) (rd : GReg) (off : BitVec 16) (s : State) : Out :=
  common h [rd] (fun s => s.updCore h (fun c =>
    { c.setG rd (c.pc + 4) with pc := branchTarget c off })) s

/-- JALR: rd = PC + 4, PC = rs1. A target whose bits [1:0] are not zero raises cause 0x03 with the target in EADDR, and
the JALR then changes nothing (R56, R63; DEDUCED, log entry 14). -/
def execJalr (h : Hart) (rd rs1 : GReg) (s : State) : Out :=
  common h [rd, rs1] (fun s =>
    let t := (s.core h).gr rs1
    if t &&& 3 ≠ 0 then fail h 0x03 t s
    else s.updCore h (fun c => { c.setG rd (c.pc + 4) with pc := t })) s

end Sys2Proof.Machine
end

