-- ==== Sys2Proof/Machine/FixedOps.lean ====
section
/-! DEFINITION. The scalar fixed-point and accumulator instructions (R52, R53, R57). -/

namespace Sys2Proof.Machine

open Sys2Proof

/-- rd takes a saturating fixed-point result of the core's state, with QSAT. -/
def setQ (h : Hart) (rd : GReg) (f : CoreState → Word × Bool) : State → State := retire h (fun c => c.putQ rd (f c))

def execQaddWQsubW (h : Hart) (sub : Bool) (rd rs1 rs2 : GReg) (s : State) : Out :=
  common h [rd, rs1, rs2] (setQ h rd (fun c => satW (qadd sub (q31 (c.gr rs1)) (q31 (c.gr rs2))))) s

/-- Not in Molvek-L (R68). -/
def execQmulW (h : Hart) (rd rs1 rs2 : GReg) (s : State) : Out :=
  fullOnly h (setQ h rd (fun c => satW (qmulWide (q31 (c.gr rs1)) (q31 (c.gr rs2))))) s

def execQaddHQsubH (h : Hart) (sub : Bool) (rd rs1 rs2 : GReg) (s : State) : Out :=
  common h [rd, rs1, rs2] (setQ h rd (fun c => satH (qadd sub (q15 (c.gr rs1)) (q15 (c.gr rs2))))) s

def execQmulH (h : Hart) (rd rs1 rs2 : GReg) (s : State) : Out :=
  fullOnly h (setQ h rd (fun c => satH (qmulHalf (q15 (c.gr rs1)) (q15 (c.gr rs2))))) s

/-- Saturating negation or magnitude: −1 gives 0x7FFF_FFFF (R57). -/
def qnegAbs (abs : Bool) (x : Int) : Int := if abs then (x.natAbs : Int) else -x

def execQnegWQabsW (h : Hart) (abs : Bool) (rd rs1 : GReg) (s : State) : Out :=
  common h [rd, rs1] (setQ h rd (fun c => satW (qnegAbs abs (q31 (c.gr rs1))))) s

/-- Left shift by rs2[4:0], saturating (R57). -/
def execQshlW (h : Hart) (rd rs1 rs2 : GReg) (s : State) : Out :=
  fullOnly h (setQ h rd (fun c => satW (q31 (c.gr rs1) * 2 ^ ((c.gr rs2).toNat % 32)))) s

/-- Rounding right shift by rs2[4:0]; an amount of 0 returns rs1 (R57). -/
def execQrshrW (h : Hart) (rd rs1 rs2 : GReg) (s : State) : Out :=
  fullOnly h (setQ h rd (fun c => satW (rshr (q31 (c.gr rs1)) ((c.gr rs2).toNat % 32)))) s

/-- Q1.31 to Q1.15, rounded half up and saturated (R57). -/
def narrowQ (x : Int) : Int × Bool := satI 16 (rshr x 16)

def execQnarrow (h : Hart) (rd rs1 : GReg) (s : State) : Out :=
  common h [rd, rs1] (setQ h rd (fun c => let r := narrowQ (q31 (c.gr rs1)); (wordI r.1, r.2))) s

/-- An accumulator takes an exact value, saturated to 72 bits with QSAT (R53). -/
def putAcc (c : CoreState) (a : AReg) (x : Int) : CoreState :=
  let r := satA x
  (c.qsat r.2).setA a r.1

/-- Accumulate or subtract an exact product. -/
def macVal (c : CoreState) (a : AReg) (sub : Bool) (p : Int) : Int :=
  if sub then (c.ar a).toInt - p else (c.ar a).toInt + p

def execMacWMsuW (h : Hart) (sub : Bool) (a : AReg) (rs1 rs2 : GReg) (s : State) : Out :=
  fullOnly h (retire h (fun c => putAcc c a (macVal c a sub (q31 (c.gr rs1) * q31 (c.gr rs2))))) s

/-- The Q1.15 product multiplied by 2^32 (R53). -/
def execMacHMsuH (h : Hart) (sub : Bool) (a : AReg) (rs1 rs2 : GReg) (s : State) : Out :=
  fullOnly h (retire h (fun c => putAcc c a (macVal c a sub (q15 (c.gr rs1) * q15 (c.gr rs2) * 2 ^ 32)))) s

def execAclr (h : Hart) (a : AReg) (s : State) : Out := fullOnly h (retire h (fun c => c.setA a 0)) s

/-- The sign-extended Q1.31 value times 2^31 (R53). -/
def execAld (h : Hart) (a : AReg) (rs1 : GReg) (s : State) : Out :=
  fullOnly h (retire h (fun c => c.setA a (BitVec.ofInt 72 (q31 (c.gr rs1) * 2 ^ 31)))) s

/-- rd = sat32((A + 2^30) >> 31) (R53). -/
def execArd (h : Hart) (rd : GReg) (a : AReg) (s : State) : Out :=
  fullOnly h (setQ h rd (fun c => satW (rshr (c.ar a).toInt 31))) s

/-- Arithmetic right shift by 0 to 63, truncating (R53, R57). -/
def execAshr (h : Hart) (a : AReg) (amt : BitVec 6) (s : State) : Out :=
  fullOnly h (retire h (fun c => c.setA a ((c.ar a).sshiftRight amt.toNat))) s

end Sys2Proof.Machine
end

