-- ==== Sys2Proof/Machine/FloatOps.lean ====
section
/-! DEFINITION. The scalar binary32 instructions (R54, R57); none is in Molvek-L (R68). -/

namespace Sys2Proof.Machine

open Sys2Proof

/-- rd takes a binary32 result with its flags. -/
def setF (h : Hart) (rd : GReg) (f : CoreState → Word × Word) : State → State := retire h (fun c => c.put rd (f c))

/-- FADD, FSUB, FMUL. -/
def fArith (op : FOp) (x y : Word) : Word × Word := match op with
  | .add => fAdd x y
  | .sub => fSub x y
  | .mul => fMul x y

def execFaddFsubFmul (h : Hart) (op : FOp) (rd rs1 rs2 : GReg) (s : State) : Out :=
  fullOnly h (setF h rd (fun c => fArith op (c.gr rs1) (c.gr rs2))) s

/-- rd = rd + rs1 × rs2, rounded once (R54). -/
def execFmac (h : Hart) (rd rs1 rs2 : GReg) (s : State) : Out :=
  fullOnly h (setF h rd (fun c => fFma (c.gr rd) (c.gr rs1) (c.gr rs2))) s

def execFdiv (h : Hart) (rd rs1 rs2 : GReg) (s : State) : Out :=
  fullOnly h (setF h rd (fun c => fDivW (c.gr rs1) (c.gr rs2))) s

def execFsqrt (h : Hart) (rd rs1 : GReg) (s : State) : Out :=
  fullOnly h (setF h rd (fun c => fSqrtW (c.gr rs1))) s

def execFminFmax (h : Hart) (max : Bool) (rd rs1 rs2 : GReg) (s : State) : Out :=
  fullOnly h (setF h rd (fun c => fMinMax max (c.gr rs1) (c.gr rs2))) s

/-- FEQ, FLT, FLE: rd = 1 or 0 (R57). -/
def fCmpVal (op : FCmp) (x y : Word) : Word × Word :=
  let r := match op with
    | .eq => fCompare false true x y
    | .lt => fCompare true false x y
    | .le => fCompare true true x y
  (word (b2n r.1), r.2)

def execFeqFltFle (h : Hart) (op : FCmp) (rd rs1 rs2 : GReg) (s : State) : Out :=
  fullOnly h (setF h rd (fun c => fCmpVal op (c.gr rs1) (c.gr rs2))) s

/-- The sign bit only; no flags (R57). -/
def execFabsFneg (h : Hart) (neg : Bool) (rd rs1 : GReg) (s : State) : Out :=
  fullOnly h (setF h rd (fun c =>
    (if neg then c.gr rs1 ^^^ 0x80000000 else c.gr rs1 &&& 0x7FFFFFFF, 0))) s

def execFcvtWSFcvtSW (h : Hart) (toFloat : Bool) (rd rs1 : GReg) (s : State) : Out :=
  fullOnly h (setF h rd (fun c => if toFloat then fFromFixed 0 (q31 (c.gr rs1)) else fToInt (c.gr rs1))) s

def execFcvtQSFcvtSQ (h : Hart) (toFloat : Bool) (rd rs1 : GReg) (s : State) : Out :=
  fullOnly h (retire h (fun c =>
    if toFloat then c.put rd (fFromFixed 31 (q31 (c.gr rs1)))
    else
      let r := fToQ (c.gr rs1)
      (c.flags r.2.2).putQ rd (r.1, r.2.1))) s

end Sys2Proof.Machine
end

