-- ==== Sys2Proof/Machine/Vector.lean ====
section
/-! DEFINITION. The format E vector instructions (R70 to R74): they run on the Troika only. -/

namespace Sys2Proof.Machine

open Sys2Proof

/-- An instruction of the Troika. -/
def trk (body : State → State) (s : State) : Out := issue .troika body s

/-- Active lanes 0 to n − 1 of vd take f of the lane number; a count of zero changes nothing (R71). Inactive lanes keep
their value. A flag is set if any active lane raises it (R74). -/
def laneOp (w : Bool) (vd : VReg) (gn : GReg) (f : CoreState → Nat → Int × Word) : State → State :=
  retire .troika (fun c =>
    let n := activeLanes c w gn
    let fl := (List.range n).foldl (fun acc k => acc ||| (f c k).2) 0
    if n = 0 then c else (c.flags fl).setV vd (mapLanes w n (c.vr vd) (fun k => (f c k).1)))

/-- A lane result without a flag. -/
def plain (x : Int) : Int × Word := (x, 0)

/-- A saturated lane result, with QSAT where it saturated (R52). -/
def satLane (w : Bool) (x : Int) : Int × Word :=
  let r := satI (laneBits w) x
  (r.1, if r.2 then fQSAT else 0)

/-- The QMUL product of two lanes (R72). -/
def qmulLane (w : Bool) (x y : Int) : Int := if w then qmulWide x y else qmulHalf x y

/-- The shift amount of a lane: bits [3:0] or [4:0] (R72). -/
def laneShift (w : Bool) (y : Int) : Nat := (y % (laneBits w : Int)).toNat

def execVaddVsub (sub w : Bool) (vd vs1 vs2 : VReg) (gn : GReg) (s : State) : Out :=
  trk (laneOp w vd gn (fun c k => plain (qadd sub (laneI w (c.vr vs1) k) (laneI w (c.vr vs2) k)))) s

def execVqaddVqsub (sub w : Bool) (vd vs1 vs2 : VReg) (gn : GReg) (s : State) : Out :=
  trk (laneOp w vd gn (fun c k => satLane w (qadd sub (laneI w (c.vr vs1) k) (laneI w (c.vr vs2) k)))) s

def execVqmul (w : Bool) (vd vs1 vs2 : VReg) (gn : GReg) (s : State) : Out :=
  trk (laneOp w vd gn (fun c k => satLane w (qmulLane w (laneI w (c.vr vs1) k) (laneI w (c.vr vs2) k)))) s

def execVminVmax (max w : Bool) (vd vs1 vs2 : VReg) (gn : GReg) (s : State) : Out :=
  trk (laneOp w vd gn (fun c k =>
    let x := laneI w (c.vr vs1) k
    let y := laneI w (c.vr vs2) k
    plain (if decide (x < y) = max then y else x))) s

/-- Bitwise AND, OR, XOR of two whole registers, taken lane by lane. -/
def bitVal (op : BitOp) (x y : VWord) : VWord := match op with
  | .and => x &&& y
  | .or => x ||| y
  | .xor => x ^^^ y

def execVandVorVxor (op : BitOp) (w : Bool) (vd vs1 vs2 : VReg) (gn : GReg) (s : State) : Out :=
  trk (laneOp w vd gn (fun c k => plain (laneI w (bitVal op (c.vr vs1) (c.vr vs2)) k))) s

def execVqnegVqabs (abs w : Bool) (vd vs1 : VReg) (gn : GReg) (s : State) : Out :=
  trk (laneOp w vd gn (fun c k => satLane w (qnegAbs abs (laneI w (c.vr vs1) k)))) s

def execVsra (w : Bool) (vd vs1 vs2 : VReg) (gn : GReg) (s : State) : Out :=
  trk (laneOp w vd gn (fun c k =>
    plain (laneI w (c.vr vs1) k / 2 ^ laneShift w (laneI w (c.vr vs2) k)))) s

def execVqrshr (w : Bool) (vd vs1 vs2 : VReg) (gn : GReg) (s : State) : Out :=
  trk (laneOp w vd gn (fun c k =>
    satLane w (rshr (laneI w (c.vr vs1) k) (laneShift w (laneI w (c.vr vs2) k))))) s

def execVqshl (w : Bool) (vd vs1 vs2 : VReg) (gn : GReg) (s : State) : Out :=
  trk (laneOp w vd gn (fun c k =>
    satLane w (laneI w (c.vr vs1) k * 2 ^ laneShift w (laneI w (c.vr vs2) k)))) s

/-- sat(vd + the VQMUL product), the product saturated as VQMUL delivers it (R72; DEDUCED, log entry 16). -/
def execVmac (w : Bool) (vd vs1 vs2 : VReg) (gn : GReg) (s : State) : Out :=
  trk (laneOp w vd gn (fun c k =>
    let p := satLane w (qmulLane w (laneI w (c.vr vs1) k) (laneI w (c.vr vs2) k))
    let r := satLane w (laneI w (c.vr vd) k + p.1)
    (r.1, p.2 ||| r.2))) s

/-- The exact sum over the active lanes of vs1 × vs2, scaled as MAC.H or MAC.W (R72, R74). -/
def dotVal (w : Bool) (n : Nat) (x y : VWord) : Int :=
  (List.range n).foldl (fun t k => t + laneI w x k * laneI w y k * (if w then 1 else 2 ^ 32)) 0

/-- VDOT writes an accumulator and no vector register (R72). -/
def execVdot (w : Bool) (a : AReg) (vs1 vs2 : VReg) (gn : GReg) (s : State) : Out :=
  trk (retire .troika (fun c =>
    let n := activeLanes c w gn
    if n = 0 then c else putAcc c a ((c.ar a).toInt + dotVal w n (c.vr vs1) (c.vr vs2)))) s

/-- A binary32 lane result with its flags. -/
def floatLane (r : Word × Word) : Int × Word := ((r.1.toNat : Int), r.2)

def execVfaddVfsubVfmul (op : FOp) (vd vs1 vs2 : VReg) (gn : GReg) (s : State) : Out :=
  trk (laneOp true vd gn (fun c k => floatLane (fArith op (vecWord (c.vr vs1) k) (vecWord (c.vr vs2) k)))) s

def execVfmac (vd vs1 vs2 : VReg) (gn : GReg) (s : State) : Out :=
  trk (laneOp true vd gn (fun c k =>
    floatLane (fFma (vecWord (c.vr vd) k) (vecWord (c.vr vs1) k) (vecWord (c.vr vs2) k)))) s

def execVfminVfmax (max : Bool) (vd vs1 vs2 : VReg) (gn : GReg) (s : State) : Out :=
  trk (laneOp true vd gn (fun c k => floatLane (fMinMax max (vecWord (c.vr vs1) k) (vecWord (c.vr vs2) k)))) s

/-- VFCVT.S.Q (to float) and VFCVT.Q.S (R72, R54). -/
def execVfcvtSQVfcvtQS (toFloat : Bool) (vd vs1 : VReg) (gn : GReg) (s : State) : Out :=
  trk (laneOp true vd gn (fun c k =>
    let x := vecWord (c.vr vs1) k
    if toFloat then floatLane (fFromFixed 31 x.toInt)
    else
      let r := fToQ x
      ((r.1.toNat : Int), r.2.2 ||| (if r.2.1 then fQSAT else 0)))) s

/-- VSPLAT writes every lane from a general register (R73). -/
def execVsplat (w : Bool) (vd : VReg) (g : GReg) (s : State) : Out :=
  trk (retire .troika (fun c =>
    c.setV vd (mapLanes w (laneCount w) (c.vr vd) (fun _ => ((c.gr g).toNat : Int))))) s

/-- A lane index above 3 with W = 1 is illegal (R73; for VBCAST DEDUCED, log entry 17). -/
def laneOk (w : Bool) (lane : BitVec 3) : Bool := !w || decide (lane.toNat < 4)

def execVins (w : Bool) (vd : VReg) (lane : BitVec 3) (g : GReg) (s : State) : Out :=
  trk (fun s =>
    if laneOk w lane then
      retire .troika (fun c => c.setV vd (setLane w (c.vr vd) lane.toNat ((c.gr g).toNat : Int))) s
    else illegalAlone .troika s) s

/-- The lane, sign-extended when W = 0 (R72). -/
def execVext (w : Bool) (g : GReg) (vs1 : VReg) (lane : BitVec 3) (s : State) : Out :=
  trk (fun s =>
    if laneOk w lane then retire .troika (fun c => c.setG g (wordI (laneI w (c.vr vs1) lane.toNat))) s
    else illegalAlone .troika s) s

def execVbcast (w : Bool) (vd vs1 : VReg) (lane : BitVec 3) (gn : GReg) (s : State) : Out :=
  trk (fun s =>
    if laneOk w lane then laneOp w vd gn (fun c _ => plain (laneI w (c.vr vs1) lane.toNat)) s
    else illegalAlone .troika s) s

def execVcmplt (w : Bool) (vd vs1 vs2 : VReg) (gn : GReg) (s : State) : Out :=
  trk (laneOp w vd gn (fun c k =>
    plain (if laneI w (c.vr vs1) k < laneI w (c.vr vs2) k then -1 else 0))) s

/-- vs1 where the old vd lane is nonzero, else vs2 (R72). -/
def execVsel (w : Bool) (vd vs1 vs2 : VReg) (gn : GReg) (s : State) : Out :=
  trk (laneOp w vd gn (fun c k =>
    plain (if laneI w (c.vr vd) k ≠ 0 then laneI w (c.vr vs1) k else laneI w (c.vr vs2) k))) s

def execVmov (w : Bool) (vd vs1 : VReg) (gn : GReg) (s : State) : Out :=
  trk (laneOp w vd gn (fun c k => plain (laneI w (c.vr vs1) k))) s

/-- Lanes 0 to 3 from vs1 and lanes 4 to 7 from vs2, each Q1.31 narrowed as QNARROW (R72). -/
def execVnarrow (vd vs1 vs2 : VReg) (gn : GReg) (s : State) : Out :=
  trk (laneOp false vd gn (fun c k =>
    let r := narrowQ (if k < 4 then laneI true (c.vr vs1) k else laneI true (c.vr vs2) (k - 4))
    (r.1, if r.2 then fQSAT else 0))) s

/-- Lanes 0 to 3 of vs1 read as Q1.15 and scaled to Q1.31 (R72). -/
def execVwiden (vd vs1 : VReg) (gn : GReg) (s : State) : Out :=
  trk (laneOp true vd gn (fun c k => plain (lane16 (c.vr vs1) k * 2 ^ 16))) s

end Sys2Proof.Machine
end

