-- ==== Sys2Proof/Machine/Motor.lean ====
section
/-! DEFINITION. The motor-control instructions that compute (R75 to R84): transforms, modulation, the waveform table,
regulators and limits. -/

namespace Sys2Proof.Machine

open Sys2Proof

/-- 16-bit lane k of v(vr), v(vr + 1), counted on through the registers (R78). -/
def wideLane (c : CoreState) (vr : VReg) (k : Nat) : Int := lane16 (c.vr (vr + BitVec.ofNat 3 (k / 8))) (k % 8)

/-- Write 16-bit lane k counted from v(vr). -/
def setWideLane (c : CoreState) (vr : VReg) (k : Nat) (x : Int) : CoreState :=
  let r := vr + BitVec.ofNat 3 (k / 8)
  c.setV r (setLane false (c.vr r) (k % 8) x)

/-- Lanes 0 to n − 1 take saturated values; QSAT where one saturates (R52). -/
def putLanes (c : CoreState) (vr : VReg) (xs : List Int) : CoreState :=
  (xs.zipIdx).foldl (fun c e => let r := satI 16 e.1; setWideLane (c.qsat r.2) vr e.2 r.1) c

/-- A size field that the transform unit takes with a register pair (R78, R81): above 8 lanes v7 has no successor. -/
def wideOk (n : BitVec 4) (vr : VReg) : Bool := decide (n.toNat ≤ 8) || decide (vr.toNat ≠ 7)

/-- The sizes of CLK: 0 or 3 to 12 (R76, R78). -/
def clkSize (n : BitVec 4) : Bool := n = 0 || (decide (3 ≤ n.toNat) && decide (n.toNat ≤ 12))

/-- Coefficient (i, j) of a matrix of an Axle, signed Q1.15 (R171). -/
def coefficient (s : State) (inverse : Bool) (ax i j : Nat) : Int :=
  let off := if inverse then TTU_IMAT ax i (j / 2) else TTU_FMAT ax i (j / 2)
  s.sfld off (if j % 2 = 0 then TTU_FMAT_C0 else TTU_FMAT_C1)

/-- One output lane of CLK: the exact sum, rounded half up (R78). -/
def clkLane (s : State) (inverse : Bool) (ax n i : Nat) (x : Nat → Int) : Int :=
  rshr ((List.range n).foldl (fun t j => t + coefficient s inverse ax i j * x j) 0) 15

/-- CLK and CLK.I (R78): n = 0 is a no-op under R71. -/
def clkBody (inverse : Bool) (n : BitVec 4) (vr : VReg) (ax : Fin 4) (s : State) : State :=
  if !clkSize n || !wideOk n vr then illegalAlone .troika s
  else
    let m := n.toNat
    retire .troika (fun c => putLanes c vr ((List.range m).map (fun i => clkLane s inverse ax m i (wideLane c vr)))) s

def execClk (n : BitVec 4) (vr : VReg) (ax : Fin 4) (s : State) : Out := trk (clkBody false n vr ax) s

def execClkI (n : BitVec 4) (vr : VReg) (ax : Fin 4) (s : State) : Out := trk (clkBody true n vr ax) s

/-- Lane 2p + i of a register. -/
def pairLane (c : CoreState) (vr : VReg) (p : BitVec 2) (i : Nat) : Int := lane16 (c.vr vr) (2 * p.toNat + i)

/-- Lanes 2p and 2p + 1 take a pair, each saturated with QSAT. -/
def putPair (c : CoreState) (vr : VReg) (p : BitVec 2) (x y : Int) : CoreState :=
  let a := satI 16 x
  let b := satI 16 y
  let c := c.qsat (a.2 || b.2)
  c.setV vr (setLane false (setLane false (c.vr vr) (2 * p.toNat) a.1) (2 * p.toNat + 1) b.1)

/-- The rotation of PRK: the exact sums, rounded half up (R79). -/
def rotate (x y sn cs : Int) : Int × Int := (rshr (x * cs + y * sn) 15, rshr (y * cs - x * sn) 15)

def execPrk (ga : GReg) (p : BitVec 2) (vr : VReg) (s : State) : Out :=
  trk (retire .troika (fun c =>
    let t := c.gr ga
    let r := rotate (pairLane c vr p 0) (pairLane c vr p 1) (sinQ15 t) (cosQ15 t)
    putPair c vr p r.1 r.2)) s

/-- The magnitude of a pair, rounded half up (R79). -/
def magnitude (x y : Int) : Int := (isqrt (4 * (x * x + y * y).toNat) + 1) / 2

/-- IPRK: the inverse rotation, or with P = 1 the magnitude in lane 2p, zero in lane 2p + 1, and the angle added to
ga (R79). -/
def execIprk (ga : GReg) (p : BitVec 2) (polar : Bool) (vr : VReg) (s : State) : Out :=
  trk (retire .troika (fun c =>
    let t := c.gr ga
    let d := pairLane c vr p 0
    let q := pairLane c vr p 1
    if polar then (putPair c vr p (magnitude d q) 0).setG ga (t + wordI (atan2Free q d))
    else
      let r := rotate d q (-(sinQ15 t)) (cosQ15 t)
      putPair c vr p r.1 r.2)) s

/-- √3 × 2^60, rounded down. -/
def sqrt3 : Int := 1996918623117814387

/-- A value in units of 2^-40, rounded to one of its neighbours where it is not exact (R80, log entry 18). -/
def roundFree (k : Nat) (a b : Int) (x : Int) : Int :=
  let f := x / 2 ^ 40
  if x % 2 ^ 40 = 0 then f else if Config.roundUp k a b then f + 1 else f

/-- Sector of (vα, vβ), 1 to 6 (R80). -/
def svmSector (a b : Int) : Nat :=
  let inner := decide (b * b < 3 * a * a)
  if a = 0 ∧ b = 0 then 1
  else if 0 < b ∨ (b = 0 ∧ 0 < a) then (if inner then (if 0 < a then 1 else 3) else 2)
  else (if inner then (if a < 0 then 4 else 6) else 5)

/-- Phase voltages in units of 2^-40 Q1.15 LSB (R80). -/
def svmPhases (a b : Int) : List Int :=
  let h := b * sqrt3 / 2 ^ 21
  [a * 2 ^ 40, -(a * 2 ^ 39) + h, -(a * 2 ^ 39) - h]

/-- Maximum, middle and minimum of three values. -/
def max3 (v : List Int) : Int := v.foldl max (v.headD 0)
def min3 (v : List Int) : Int := v.foldl min (v.headD 0)
def mid3 (v : List Int) : Int := v.foldl (· + ·) 0 - max3 v - min3 v

/-- The duties of SVM in units of 2^-40, and whether the vector was scaled (R80). -/
def svmDuties (a b : Int) : List Int × Bool :=
  let v := svmPhases a b
  let span := max3 v - min3 v
  let one : Int := 2 ^ 55
  let scaled := decide (one < span)
  let v := if scaled then v.map (fun x => x * one / span) else v
  (v.map (fun x => 2 ^ 54 + x - (max3 v + min3 v) / 2), scaled)

/-- SVM (R80). -/
def execSvm (ga : GReg) (p : BitVec 2) (vr : VReg) (s : State) : Out :=
  trk (retire .troika (fun c =>
    let a := pairLane c vr p 0
    let b := pairLane c vr p 1
    let (d, scaled) := svmDuties a b
    let u := (d.zipIdx).map (fun e => clampI 0 0x7FFF (roundFree e.2 a b (2 ^ 55 - e.1)))
    let l3 := satI 16 (roundFree 3 a b (max3 d - mid3 d))
    let l4 := satI 16 (roundFree 4 a b (mid3 d - min3 d))
    let l5 := min (roundFree 5 a b (2 ^ 55 - (max3 d - min3 d))) 0x7FFF
    let c := c.qsat (scaled || l3.2 || l4.2)
    (putLanes c vr (u ++ [l3.1, l4.1, l5])).setG ga (word (svmSector a b)))) s

/-- Address of the waveform entry of an angle (R81, R168). -/
def waveAddr (ax : Nat) (angle : Word) : Nat := 0x20000000 + ax * 0x20000 + 4 * (angle.toNat >>> 18)

/-- Angle of lane k: ga + OFS_k modulo 2^32 (R81). -/
def atabAngle (s : State) (ax : Nat) (t : Word) (k : Nat) : Word := t + s.rd (TTU_OFS ax k)

/-- The interpolated waveform, saturated (R81). -/
def waveVal (s : State) (ax : Nat) (angle : Word) : Int × Bool :=
  let e := s.word32 (waveAddr ax angle)
  let v := (e.extractLsb' 16 16).toInt
  let sl := (e.extractLsb' 0 16).toInt
  satI 16 (v + (sl * ((angle.toNat % 2 ^ 18 : Nat) : Int) + 2 ^ 17) / 2 ^ 18)

/-- What the read of lane k's entry meets. -/
def laneEnv (reads : List (Fin 12 × Env)) (k : Nat) : Env := ((reads.find? (fun e => e.1.val = k)).map Prod.snd).getD {}

/-- The table reads of ATAB in lane order (R81, R91, R233, R251): each is voted; an uncorrectable word raises 0x0A with its
address, and nothing is written. -/
def atabReads (addr : Nat → Nat) (env : Nat → Env) (body : State → State) : List Nat → State → State
  | [], s => body s
  | k :: ks, s => vote kAccess (addr k) (env k).vote (fun s =>
      let (s, good) := memCheck (addr k) (env k).ecc s
      if good then atabReads addr env body ks s else failAlone .troika 0x0A (word (addr k)) s) s

/-- ATAB (R81, R91, R251): it reads the table beside the stores that still wait in the store buffer. -/
def execAtab (ga gb : GReg) (n : BitVec 4) (vr : VReg) (ax : Fin 4) (reads : List (Fin 12 × Env)) (s : State) : Out :=
  trk (fun s =>
    if 12 < n.toNat ∨ wideOk n vr = false then illegalAlone .troika s
    else
      let t := (s.core .troika).gr ga
      let m := q15 ((s.core .troika).gr gb)
      let ks := List.range n.toNat
      let read := atabReads (fun k => waveAddr ax (atabAngle s ax t k)) (laneEnv reads) (fun s =>
        let ws := ks.map (fun k => waveVal s ax (atabAngle s ax t k))
        retire .troika (fun c => putLanes (c.qsat (ws.any Prod.snd)) vr (ws.map (fun w => rshr (m * w.1) 15))) s) ks
      heldBy (.atab ga gb n vr ax reads) (fun s => if ks.isEmpty then read s else read (waitFor 0x20000000 (busView s))) s) s

/-- SAT clamps lanes 0 to n − 1, the upper limit last; a size above 8 is illegal (R76, R84). -/
def execSat (ga gb : GReg) (n : BitVec 4) (vr : VReg) (s : State) : Out :=
  trk (fun s =>
    if 8 < n.toNat then illegalAlone .troika s
    else retire .troika (fun c =>
      c.setV vr (mapLanes false n.toNat (c.vr vr)
        (fun k => clampI (q15 (c.gr ga)) (q15 (c.gr gb)) (lane16 (c.vr vr) k)))) s) s

/-- The sign of a value applied to a magnitude. -/
def withSign (x m : Int) : Int := if x < 0 then -m else m

/-- The square root of a ratio, to one of its neighbours where it is not exact (R84, log entry 18). -/
def rootFree (k : Nat) (a b : Int) (num den : Nat) : Int :=
  let r := isqrt (num / den)
  if r * r * den = num then r else if Config.roundUp k a b then r + 1 else r

/-- The limited pair of SAT.C (R84): within the limit nothing changes; mode 0 scales both lanes, mode 1 clamps d first
and then takes q from the circle. -/
def satCircle (mode : Bool) (lim d q : Int) : Int × Int :=
  let sq := (d * d + q * q).toNat
  if ((sq : Nat) : Int) ≤ lim * lim then (d, q)
  else if mode then
    let d' := clampI (-lim) lim d
    (d', withSign q (rootFree 0 d q (lim * lim - d' * d').toNat 1))
  else
    (withSign d (rootFree 1 d q (d * d * lim * lim).toNat sq), withSign q (rootFree 2 d q (q * q * lim * lim).toNat sq))

/-- SAT.C (R84): a negative limit is used as zero; ga tells whether a lane changed. -/
def execSatC (ga gb : GReg) (p : BitVec 2) (mode : Bool) (vr : VReg) (s : State) : Out :=
  trk (retire .troika (fun c =>
    let lim := max 0 (q15 (c.gr gb))
    let d := pairLane c vr p 0
    let q := pairLane c vr p 1
    let r := satCircle mode lim d q
    (putPair c vr p r.1 r.2).setG ga (word (b2n (decide (r.1 ≠ d ∨ r.2 ≠ q)))))) s

/-- The block of PIA and RMP must lie in a RAM (R91): alignment first, then the region, then the data (R63). -/
def blockOk (a : Nat) : Bool := match region a with
  | .sram => true
  | .tandem => true
  | .table _ => true
  | _ => false

/-- Load the 4-word block at an address, work on it, and store one word of it back (R82, R83), both accesses voted (R233):
`f` gives the new core state, the index of the stored word and its value. -/
def blockStep (addr : Word) (env : Env) (f : CoreState → (Nat → Word) → CoreState × Nat × Word) (s : State) : State :=
  let a := addr.toNat
  if a % 16 ≠ 0 then failAlone .troika 0x05 addr s
  else if !blockOk a then failAlone .troika 0x07 addr s
  else
    vote kAccess a env.vote (fun s =>
      let s := if region a = .sram then s else drainStores s
      let (s, good) := if s.forwards a 16 then (s, true) else readCheck a 16 env (waitFor a s)
      if good then
        let (c, k, w) := f (s.core .troika) (fun k => word (leNat (s.coreBytes (a + 4 * k) 4)))
        vote kAccess (a + 4 * k) env.storeVote (fun s =>
          (pushEntry (.store (a + 4 * k) (wordBytes w) .clean env.tandemPortF) s).setCore .troika c.advance) s
      else failAlone .troika 0x0A addr s) s

/-- The PI step of R82: output, integrator, and whether p, i or ic saturated. -/
def piStep (kp ki i lim e : Word) (sh : Nat) : Word × Word × Bool :=
  let gain (k : Word) : Int × Bool := satI 32 (rshr (k.toInt * e.toInt) (31 - sh))
  let p := gain kp
  let di := gain ki
  let ic := satI 32 (i.toInt + di.1)
  let hi := (lim.extractLsb' 16 16).toInt * 2 ^ 16
  let lo := (lim.extractLsb' 0 16).toInt * 2 ^ 16
  let x := p.1 + ic.1
  let held := (decide (hi < x) && decide (0 < e.toInt)) || (decide (x < lo) && decide (e.toInt < 0))
  let icv := if held then i.toInt else ic.1
  (wordI (clampI lo hi (p.1 + icv)), wordI icv, p.2 || di.2 || ic.2)

/-- PIA (R82). -/
def execPia (ga gb : GReg) (shift : BitVec 4) (env : Env) (s : State) : Out :=
  trk (heldBy (.pia ga gb shift env) <| fun s =>
    blockStep ((s.core .troika).gr ga) env (fun c w =>
      let (y, i, q) := piStep (w 0) (w 1) (w 2) (w 3) (c.gr gb) shift.toNat
      ((c.qsat q).setG gb y, 2, i)) s) s

/-- A step word of RMP: bits [30:0], and zero where bit 31 is set (R83). -/
def rampStep (w : Word) : Int := if w.getLsbD 31 then 0 else w.toNat

/-- The rate-limited step of R83: the new value and whether a sum saturated. -/
def rmpStep (v up dn hold target : Word) : Int × Bool :=
  let x := v.toInt
  let g := target.toInt
  if x < g then
    if hold.getLsbD 0 then (x, false) else let r := satI 32 (x + rampStep up); (min g r.1, r.2)
  else if g < x then
    if hold.getLsbD 1 then (x, false) else let r := satI 32 (x - rampStep dn); (max g r.1, r.2)
  else (x, false)

/-- RMP (R83). -/
def execRmp (ga gb : GReg) (env : Env) (s : State) : Out :=
  trk (heldBy (.rmp ga gb env) <| fun s =>
    blockStep ((s.core .troika).gr ga) env (fun c w =>
      let (y, q) := rmpStep (w 0) (w 1) (w 2) (w 3) (c.gr gb)
      ((c.qsat q).setG gb (wordI y), 0, wordI y)) s) s

end Sys2Proof.Machine
end

