-- ==== Sys2Proof/Machine/System.lean ====
section
/-! DEFINITION. The system instructions and interrupt entry (R49, R50, R57, R64 to R69). BRK stands with the
Troika, whose debug halt it may take. -/

namespace Sys2Proof.Machine

open Sys2Proof

/-- The control registers a core has: c0 to c11 on the Troika; on the Lantern core MSTAT, ESTAT, EPC, ECAUSE, EADDR,
VBASE, FSTAT, SCR0 and SCR1 (R49, R68). -/
def hasCreg (h : Hart) (n : Nat) : Bool := match h with
  | .troika => decide (n < 12)
  | .lantern => decide (n < 7) || n = 9 || n = 10

/-- The control registers that Passenger mode may name: FSTAT, CYCLE and CYCLEH (R49). -/
def passengerCreg (n : Nat) : Bool := n = 6 || n = 7 || n = 8

/-- MFC (R57): a number from c12 up is illegal; a register marked None raises the privilege exception in Passenger
mode (R50). -/
def execMfc (h : Hart) (rd : GReg) (c : BitVec 5) (s : State) : Out :=
  common h [rd] (fun s =>
    if !hasCreg h c.toNat then illegalAlone h s
    else if (s.core h).passenger && !passengerCreg c.toNat then failAlone h 0x02 0 s
    else setRd h rd (fun k => k.cx c.toNat) s) s

/-- What an MTC leaves in a control register (R49): reserved and read-only fields keep their value. -/
def mtcVal (h : Hart) (n : Nat) (old v : Word) : Word :=
  if n = cMSTAT then (v &&& (mstatBits h &&& 0xF3)) ||| (old &&& 0x100)
  else if n = cESTAT then v &&& mstatBits h
  else if n = cECAUSE then old
  else if n = cVBASE then v &&& 0xFFFFF000
  else if n = cFSTAT then v &&& (match h with | .troika => 0x7F | .lantern => 0x60)
  else if n = cCYCLE ∨ n = cCYCLEH then old
  else if n = 11 then v &&& 3
  else v

/-- MTC (R49, R57). The first one to VBASE after the release ends the rule of R290. -/
def execMtc (h : Hart) (c : BitVec 5) (rs1 : GReg) (s : State) : Out :=
  common h [rs1] (fun s =>
    if !hasCreg h c.toNat then illegalAlone h s
    else if (s.core h).passenger && !passengerCreg c.toNat then failAlone h 0x02 0 s
    else
      let s := retire h (fun k => k.setC c.toNat (mtcVal h c.toNat (k.cx c.toNat) (k.gr rs1))) s
      if h = .troika ∧ c.toNat = cVBASE then s.updTrk (fun t => { t with vbaseWritten := true }) else s) s

/-- SYSC: EPC is the next instruction (R63, R64). -/
def execSysc (h : Hart) (s : State) : Out :=
  issue h (fun s => takeAlone h 0x0B 0 ((s.core h).pc + 4) s) s

/-- ERET (R64); a privilege exception in Passenger mode (R50). -/
def execEret (h : Hart) (s : State) : Out :=
  issue h (fun s => if (s.core h).passenger then failAlone h 0x02 0 s else s.updCore h (returnCore h)) s

/-- An interrupt is taken at an instruction boundary (R64, R66): on the Troika the request that R261 takes next, if IE is
1 and its level is above IPL, also during a WEV or a FENCE, which it leaves to run again (R87, R90); on the Lantern core its
single interrupt of level 1 (R271). -/
def execInterruptEntry (h : Hart) (s : State) : Out := match h with
  | .troika =>
    let t := s.rd TRK_STAT
    let c := s.troika.core
    let may := s.awake && s.troika.released && !TRK_STAT_STOP.bit t && !TRK_STAT_RESYNC.bit t &&
      !TRK_STAT_HALT.bit t && !s.troika.heldAccess && MSTAT_IE.bit (c.cx cMSTAT) &&
      (match s.troika.wait with | .load _ _ _ => false | _ => true)
    match s.intRequest with
    | some (lvl, _) =>
      if may && decide (MSTAT_IPL.get (c.cx cMSTAT) < lvl) then
        .next (takeInterrupt .troika lvl (s.updTrk (fun t => { t with wait := .none })))
      else .next s
    | none => .next s
  | .lantern =>
    let c := s.lan.core
    if s.lanIssues && s.lanternIrq && MSTAT_IE.bit (c.cx cMSTAT) && decide (MSTAT_IPL.get (c.cx cMSTAT) < 1) then
      .next (takeInterrupt .lantern 1 s)
    else .next s

end Sys2Proof.Machine
end

