-- ==== Sys2Proof/Machine/Troika.lean ====
section
/-! DEFINITION. The Troika and the Whiffletree (R232 to R247) and the ordering instructions (R85 to R90): COMMIT, WEV,
XCH, SIG, FENCE, the votes, recovery, the path test and debugging. -/

namespace Sys2Proof.Machine

open Sys2Proof

/-! ### COMMIT and the store buffer (R60, R85, R86) -/

/-- The lanes of a COMMIT from v(vr) up, as far as the count and v7 allow (R85). -/
def commitLanes (c : CoreState) (f : Bool) (vr : VReg) (count : Nat) : List Word :=
  let per := if f then 8 else 4
  let n := min count (min 16 (per * (8 - vr.toNat)))
  (List.range n).map (fun k => word (laneN (!f) (c.vr (vr + BitVec.ofNat 3 (k / per))) (k % per)))

/-- A COMMIT issues (R85, R86, R91): a privilege exception in Passenger mode, also where count or halves are zero (log
entry 136); in Coachman mode a count or halves of zero do nothing. -/
def execCommit (ga : GReg) (halves : BitVec 2) (f : Bool) (vr : VReg) (ax : Fin 4) (v : Vote) (s : State) : Out :=
  trk (heldBy (.commit ga halves f vr ax v) <| fun s =>
    let c := s.core .troika
    let lanes := commitLanes c f vr (c.gr ga).toNat
    if c.passenger then failAlone .troika 0x02 0 s
    else if lanes = [] ∨ halves = 0 then retire .troika id s
    else vote kAccess (0x40000000 + AXL_CMPU ax 0) v
      (fun s => retire .troika id (pushEntry (.commit ⟨ax, halves, f, lanes⟩) s)) s) s

/-- The Axle applies the oldest COMMIT (R86). -/
def execCommitApply (n : Nat) (s : State) : Out := settled (applyOldest n s)

/-! ### WEV (R87) -/

/-- Masked wake lines that are pending. -/
def State.wevHit (s : State) (mask : Word) : Nat := s.wakeLines &&& mask.toNat % 65536

/-- WEV returns lines: ga takes them and they clear. -/
def wevTake (ga : GReg) (hit : Nat) (s : State) : State :=
  let s := { s with wakePend := s.wakePend.filter (fun e => !hit.testBit e.2) }
  retire .troika (fun c => c.setG ga (word hit)) (s.updTrk (fun t => { t with wait := .none }))

/-- WEV issues: a pending masked line, a zero timeout or a zero mask returns at once; otherwise it waits. -/
def execWev (ga gb : GReg) (s : State) : Out :=
  trk (fun s =>
    let s := s.updTrk (fun t => { t with wevSeen := true })
    let c := s.core .troika
    let hit := s.wevHit (c.gr ga)
    if hit ≠ 0 ∨ c.gr gb = 0 ∨ (c.gr ga).toNat % 65536 = 0 then wevTake ga hit s
    else s.updTrk (fun t => { t with wait := .wev ga gb })) s

/-- The Troika may end a wait: it runs, and is neither paused nor halted. -/
def State.trkResumes (s : State) : Bool := ({ s with troika := { s.troika with wait := .none } } : State).trkIssues

/-- A waiting WEV returns with a masked line that has become pending. -/
def execWevReturn (s : State) : Out := match s.troika.wait with
  | .wev ga _ =>
    let hit := s.wevHit ((s.core .troika).gr ga)
    if s.trkResumes && decide (hit ≠ 0) then .next (deliverImprecise (countCycles (wevTake ga hit s))) else .next s
  | _ => .next s

/-- The timeout of a waiting WEV passes: it returns zero. -/
def execWevTimeout (s : State) : Out := match s.troika.wait with
  | .wev ga _ =>
    if s.trkResumes && decide (s.wevHit ((s.core .troika).gr ga) = 0) then
      .next (deliverImprecise (countCycles (wevTake ga 0 s)))
    else .next s
  | _ => .next s

/-! ### Which cores take part -/

/-- The cores that are isolated or excluded. -/
def State.outCores (s : State) : Nat := s.fld TRK_STAT TRK_STAT_ISO ||| s.fld TRK_STAT TRK_STAT_PERM

/-- What a comparison of the three cores' values finds, given what differs on each core. -/
inductive Agreement where
  | all | odd (k : Fin 3) | pairDiffers | allDiffer
  deriving DecidableEq, Repr

/-- Compare the values of the cores in service, as the changes of each from the agreed value; and the majority's change. -/
def compareCores (out : Nat) (u : BitVec 32 × BitVec 32 × BitVec 32) : Agreement × BitVec 32 :=
  let (u0, u1, u2) := u
  if out.testBit 0 then (if u1 = u2 then .all else .pairDiffers, u1)
  else if out.testBit 1 then (if u0 = u2 then .all else .pairDiffers, u0)
  else if out.testBit 2 then (if u0 = u1 then .all else .pairDiffers, u0)
  else if u0 = u1 then (if u1 = u2 then .all else .odd 2, u0)
  else if u0 = u2 then (.odd 1, u0)
  else if u1 = u2 then (.odd 0, u1)
  else (.allDiffer, 0)

/-- The bit of the XCH value in TRK_LAST.FIELDS (R234). -/
def fXch : Nat := 32

/-- XCH (R88, R234, R238): the majority on all cores; without one, zero and the Troika stops. A disagreement of the voter
copies takes precedence (R238, R241). -/
def execXch (ga gb : GReg) (upset : BitVec 32 × BitVec 32 × BitVec 32) (copiesDiffer : Bool) (s : State) : Out :=
  trk (heldBy (.xch ga gb upset copiesDiffer) <| fun s =>
    let s := drainStores s
    let x := (s.core .troika).gr ga
    let (g, d) := compareCores s.outCores upset
    let set := fun (v : Word) => retire .troika (fun c => c.setG gb v)
    if copiesDiffer && decide (s.fld TRK_STAT TRK_STAT_VOTER = 0) then copyDisagreement 0 fXch s
    else match g with
    | .all => set (x ^^^ d) s
    | .odd k => set (x ^^^ d) (coreMismatch k.val kXch 0 fXch s)
    | _ => set 0 (unlocated (setFinding 3 kXch 0 fXch s))) s

/-! ### Signatures (R89, R237) -/

/-- The bit of the signature in TRK_LAST.FIELDS. -/
def fSig : Nat := 0x40


/-- The little-endian bytes that SIG folds (R89). -/
def sigBytes (c : CoreState) (sigS : Word) (ga : GReg) : List Byte :=
  let le := fun {n : Nat} (k : Nat) (x : BitVec n) => (List.range k).map (byteOf x)
  le 4 sigS ++ (List.range 31).flatMap (fun k => le 4 (c.gr (BitVec.ofNat 5 (k + 1))))
    ++ (List.range 8).flatMap (fun k => le 16 (c.vr (BitVec.ofNat 3 k)))
    ++ (List.range 4).flatMap (fun k => le 9 (c.ar (BitVec.ofNat 2 k))) ++ le 4 (c.cx cFSTAT) ++ le 4 (c.gr ga)

/-- SIG (R89, R91); a scrub that is due takes place at it, while the pair checks each other (R237): a difference between
them is not located. -/
def execSig (ga : GReg) (scrubDiffers : Bool) (s : State) : Out :=
  trk (fun s =>
    let c := s.core .troika
    if c.passenger then failAlone .troika 0x02 0 s
    else if scrubDiffers && s.troika.scrub.isSome then unlocated (setFinding 3 kSignature 0 fSig s)
    else
      let v := crc32c (sigBytes c s.troika.sigS ga)
      retire .troika id (s.updTrk (fun t => { t with sigS := v, sigVoted := v, scrub := none }))) s

/-- Latent divergence of a core (R237): at its third odd vote a core mismatch. -/
def latentDivergence (k : Fin 3) (s : State) : State :=
  let n := mget (fun _ => 0) s.troika.oddVotes k.val + 1
  let s := s.updTrk (fun t => { t with oddVotes := mset (fun _ => 0) t.oddVotes k.val n })
  if 3 ≤ n then coreMismatch k.val kSignature 0 fSig s
  else
    let s := (((setFinding k.val kSignature 0 fSig s).sq TRK_STAT TRK_STAT_LATENT).rc TRK_CNT TRK_CNT_LATENT).raise TRK_LATENT
    s.updTrk (fun t => { t with scrub := some k })

/-- The 1 ms vote on the signatures (R237); skipped in a debug halt or a copy pause, not in a path test, and nothing is
voted while the Troika is stopped. -/
def execSignatureVote (upset : BitVec 32 × BitVec 32 × BitVec 32) (s : State) : Out :=
  let st := s.rd TRK_STAT
  if !s.awake || !s.troika.released || TRK_STAT_HALT.bit st || s.troika.copying || TRK_STAT_STOP.bit st then .next s
  else
    let (g, d) := compareCores s.outCores upset
    let v := s.troika.sigVoted ^^^ d
    match g with
    | .all => .next (s.wr TRK_SIGV v)
    | .odd k => .next (latentDivergence k (s.wr TRK_SIGV v))
    | _ => .next (unlocated (setFinding 3 kSignature 0 fSig s))

/-! ### FENCE (R90) -/

/-- Stores through the Coupler window that wait for their acknowledgement. -/
def State.remoteStores (s : State) : Bool :=
  s.cpl.tags.any (fun e => match e.2 with | .store _ _ => true | _ => false)

/-- FENCE (R90): W and T drain the store buffer, whose stores and COMMITs their targets then have; a store through the
Coupler window is with the fabric by then, and only C waits for its answer (log entry 137). A failed one is raised as cause
0x09 before the FENCE completes. R holds at once: every load has returned when its instruction has. -/
def execFence (sel : BitVec 4) (s : State) : Out :=
  trk (fun s =>
    let s := if sel.getLsbD 0 || sel.getLsbD 2 then drainStores s else s
    if sel.getLsbD 3 && s.remoteStores then s.updTrk (fun t => { t with wait := .fenceC })
    else if sel.getLsbD 3 && !s.troika.imprecise.isEmpty then s
    else retire .troika id s) s

/-- What may go on after an answer to a remote store and at the end of a pause: an imprecise error that is due, and a FENCE
whose condition holds (R63, R90). -/
def fenceAnswered (s : State) : State := match s.troika.wait with
  | .fenceC =>
    if s.remoteStores || !s.trkResumes then s
    else
      let s := s.updTrk (fun t => { t with wait := .none })
      stepOver (if s.troika.imprecise.isEmpty then retire .troika id s else deliverImprecise s)
  | _ => deliverImprecise s

/-! ### Debug halts (R108, R245 to R247) -/

/-- A debug halt may be requested: a session is open, the Lead takes part, and the Troika runs (R246). -/
def State.haltOk (s : State) : Bool :=
  let st := s.rd TRK_STAT
  s.awake && s.troika.released && s.flag TRK_DBG TRK_DBG_SESSION && !s.flag TRK_DBG TRK_DBG_LEADOUT
    && !TRK_STAT_STOP.bit st && !TRK_STAT_HALT.bit st

/-- The cores stand at an instruction boundary, or at an instruction that waits and can run again (R87, R90, R246): no
remote load, no held access and no pause. -/
def State.atBoundary (s : State) : Bool :=
  !s.flag TRK_STAT TRK_STAT_RESYNC && !s.troika.heldAccess && (match s.troika.wait with | .load _ _ _ => false | _ => true)

/-- The cores halt and all gates go to their safe states (R108, R246). -/
def haltCores (s : State) : State :=
  let s := each (List.range 4) (fun a t => if t.flag (AXL_CTRL a) AXL_CTRL_DBGFRZ then holdCount a t else t) s
  let s := (s.setFlag TRK_STAT TRK_STAT_HALT true).setFlag TRK_DBG TRK_DBG_HALTED true
  let s := each (List.range 4) (fun a t => t.updAx a (fun x => { x with
    haltHold := true, resumed := false, commitSinceResume := false })) s
  safeFor .debugHalt (List.range 32) s

/-- The elements that hold key-derived data are zero before a scan (R362). -/
def clearSecrets (s : State) : State :=
  let s := each (List.range 8) (fun k t => ((t.wr (CPL_ADMKEY k) 0).wr (GRD_RXID k) 0).wr (GRD_TXID k) 0) s
  s.wr (SAFE_SEALPW 0) 0 |>.wr (SAFE_SEALPW 1) 0

/-- A requested halt takes place at the boundary; an instruction that waits runs again after the resume (R246). The
request is dropped where the halt has become impossible. -/
def haltDue (s : State) : State := match s.troika.haltWanted with
  | none => s
  | some scan =>
    if !s.haltOk then s.updTrk (fun t => { t with haltWanted := none })
    else if s.atBoundary then
      let s := haltCores (s.updTrk (fun t => { t with haltWanted := none, wait := .none }))
      if scan then clearSecrets s else s
    else s

/-- The cores go on after a pause or an answer: what has waited for that (R63, R90, R246). -/
def coresGoOn (s : State) : State := haltDue (fenceAnswered s)

/-! ### Recovery of an isolated core (R239) -/

/-- The copy pause begins, once the isolated core has passed its slice; Axles with RSMODE = 1 ask for the fallback
(R189). -/
def execCopyPause (s : State) : Out :=
  let st := s.rd TRK_STAT
  let waiting := match s.troika.wait with | .load _ _ _ => false | _ => true
  if s.troika.rejoinReady && waiting && s.trkResumes && !TRK_STAT_HALT.bit st then
    let s := drainStores s
    let s := each ((List.range 4).filter (fun a => s.running a && decide (s.power = .drive) && !s.underFallback a
      && s.flag (HYS_CFG a) HYS_CFG_RSMODE)) (fun a t => askFallback a 3 t) s
    settled ((s.setFlag TRK_STAT TRK_STAT_RESYNC true).updTrk (fun t => { t with copying := true }))
  else .next s

/-- DUAL shows whether a core is out. -/
def setDual (s : State) : State := setLeadOut (s.setFlag TRK_STAT TRK_STAT_DUAL (decide (s.outCores ≠ 0)))

/-- The copy ends (R239): all cores resume, unless the pair has differed in its check of the copy, which is not located. -/
def execTrkRejoin (pairDiffers : Bool) (s : State) : Out :=
  if s.awake && s.troika.copying && !s.troika.pathTesting then
    let t := (s.setFlag TRK_STAT TRK_STAT_RESYNC false).updTrk (fun t => { t with rejoinReady := false, copying := false })
    if pairDiffers then settled (unlocated (setFinding 3 kAccess 0 0 t))
    else
      let s := setDual ((t.updTrk (fun x => { x with plannedIso := none })).setFld TRK_STAT TRK_STAT_ISO 0)
      settled (coresGoOn (((s.sq TRK_STAT TRK_STAT_REJOIN).rc TRK_CNT TRK_CNT_REJOIN).raise TRK_REJOIN))
  else .next s

/-! ### Debugging (R245 to R247) -/

/-- The debugger's answer to the challenge that the port presents (R245): a signature over the challenge and SYS_ID, under
the public key whose hash stands in one-time-programmable memory. Every one is refused while SYS_CHOCK.DBG is 1. -/
def execDebugAuthentication (challenge : BitVec 128) (qx qy r sg : BitVec 256) (s : State) : Out :=
  let digest := sha256 ((List.range 16).map (byteOf challenge) ++ wordBytes (s.rd SYS_ID))
  let known := decide (beNat (sha256 (beBytes 32 qx.toNat ++ beBytes 32 qy.toNat)) = Config.otpDebugKeyHash)
  if s.awake && !s.flag SYS_CHOCK SYS_CHOCK_DBG && known && ecdsaVerify qx.toNat qy.toNat (beNat digest) r.toNat sg.toNat then
    .next (s.setFlag TRK_DBG TRK_DBG_SESSION true)
  else .next s

/-- The debugger asks for a halt, refused only where none is possible (R246); `scan`: an internal scan through the debug port
follows. It takes place at the next instruction boundary. -/
def execDebugHalt (scan : Bool) (s : State) : Out :=
  if s.haltOk then settled (haltDue (s.updTrk (fun t => { t with haltWanted := some scan }))) else .next s

/-- The cores resume; legs of no Axle leave SAFE, the others at an update point after a COMMIT (R108, R247). -/
def execDebugResume (s : State) : Out :=
  if s.awake && s.flag TRK_STAT TRK_STAT_HALT then
    let s := (s.setFlag TRK_STAT TRK_STAT_HALT false).setFlag TRK_DBG TRK_DBG_HALTED false
    let s := each (List.range 4) (fun a t => if s.flag (AXL_CTRL a) AXL_CTRL_DBGFRZ then releaseCount a t else t) s
    let s := each (List.range 4) (fun a t => t.updAx a (fun x => { x with resumed := true, commitSinceResume := false })) s
    let s := s.updTrk (fun t => { t with stepArmed := false })
    settled (coresGoOn (endCause .debugHalt ((List.range 32).filter (fun l => decide (4 ≤ s.legAxle l))) s))
  else .next s

/-- One instruction may issue before the cores halt again (R247); an instruction that waits may finish. -/
def execSingleStep (s : State) : Out :=
  if s.awake && s.flag TRK_STAT TRK_STAT_HALT then .next (fenceAnswered (s.updTrk (fun t => { t with stepArmed := true })))
  else .next s

/-- A BRK halts the cores: a session is open with BRKDBG = 1, and the Lead takes part (R246). -/
def State.brkHalts (s : State) : Bool :=
  s.flag TRK_DBG TRK_DBG_SESSION && s.flag TRK_CFG TRK_CFG_BRKDBG && !s.flag TRK_DBG TRK_DBG_LEADOUT

/-- BRK (R63, R246): a debug halt with the pc at the next instruction, which a single step is already in; otherwise cause
0x0C, whose EPC is the next instruction (R64). -/
def execBrk (h : Hart) (s : State) : Out :=
  issue h (fun s =>
    if h = .troika ∧ s.brkHalts then
      let s := retire h id s
      if s.flag TRK_STAT TRK_STAT_HALT then s else syncStretches (haltCores s)
    else takeAlone h 0x0C 0 ((s.core h).pc + 4) s) s

end Sys2Proof.Machine
end

