-- ==== Sys2Proof/Machine/Coupler.lean ====
section
/-! DEFINITION. The Coupler (R295 to R313) and the Rake's leases and epochs (R314 to R325): links, hitching, routes,
queues and their outputs, reception, tags, rings, reassembly, fabric time, leases, epochs and declarations. The WR and RD
frames, which access the registers, are performed in Sys2Proof/Machine/LoadStore.lean. -/

namespace Sys2Proof.Machine

open Sys2Proof

/-! ### Small accessors -/

def State.pt (s : State) (p : Nat) : PortSt := mget (fun _ => {}) s.cpl.ports p
def State.updPt (s : State) (p : Nat) (f : PortSt → PortSt) : State :=
  s.updCpl (fun c => { c with ports := mset (fun _ => {}) c.ports p (f (s.pt p)) })
def State.seat (s : State) : Nat := s.fld CPL_ADDR CPL_ADDR_SEAT
def State.hitched (s : State) : Bool := s.flag CPL_ADDR CPL_ADDR_HITCHED
def State.isHead (s : State) : Bool := s.flag CPL_ADDR CPL_ADDR_HEAD
def State.epoch (s : State) : Nat := s.fld CPL_ADDR CPL_ADDR_EPOCH
def State.portUp (s : State) (p : Nat) : Bool := s.flag (CPL_PORT p) CPL_PORT_UP
def State.upPorts (s : State) : List Nat := (List.range 4).filter s.portUp

/-- The word of seat d, 1 to 32. -/
def routeOf (d : Nat) : Nat := CPL_ROUTE (d - 1)

/-- Seat d is a seat of the fabric and its route is valid (R302). -/
def State.routed (s : State) (d : Nat) : Bool := decide (1 ≤ d) && decide (d ≤ 32) && s.flag (routeOf d) CPL_ROUTE_VALID

/-- The port that the route of a seat uses (R302, R303). -/
def State.routePort (s : State) (d : Nat) : Nat :=
  if s.flag (routeOf d) CPL_ROUTE_ACTALT then s.fld (routeOf d) CPL_ROUTE_ALT else s.fld (routeOf d) CPL_ROUTE_PRI

def cplDrop (s : State) : State := s.rc CPL_CNT CPL_CNT_DROP
def cplLink (s : State) : State := s.raise (evCom 10)
def cplLease (s : State) : State := s.raise (evCom 11)
def cplEpoch (s : State) : State := s.raise (evCom 12)
def cplDropEvent (s : State) : State := s.raise (evCom 13)

/-- `n` bytes of a number, little-endian (R297). -/
def leBytes (n x : Nat) : List Byte := (List.range n).map (fun k => BitVec.ofNat 8 (x / 256 ^ k))

/-! ### Fabric time and the time tree (R304, R311) -/

/-- Hops to a seat as the device knows them: its own seat 0, a set entry its field, else the smallest advertised count
plus 1; 31 unreachable. -/
def State.hopsTo (s : State) (d : Nat) : Nat :=
  if d = s.seat then 0
  else if !s.routed d then 31
  else if s.flag (routeOf d) CPL_ROUTE_MAN then s.fld (routeOf d) CPL_ROUTE_HOPS
  else (s.upPorts.map (fun p => (s.pt p).adv.getD (d - 1) 31)).foldl min 30 + 1

/-- The time root: the head in seat 1, or else the reachable device with the lowest seat (R311). -/
def State.timeRoot (s : State) : Nat :=
  if s.seat = 0 then 0
  else (((List.range 32).map (· + 1)).find? (fun d => decide (d = s.seat) || s.routed d)).getD 0

/-- The port toward the root. -/
def State.timeParent (s : State) : Option Nat :=
  let r := s.timeRoot
  if r = 0 ∨ r = s.seat then none else some (s.routePort r)

/-- A neighbour behind a port is a time child: it advertises the root from farther away (log entry 36). -/
def State.timeChild (s : State) (p : Nat) : Bool :=
  let r := s.timeRoot
  let n := (s.pt p).adv.getD (r - 1) 31
  decide (r ≠ 0) && s.portUp p && decide (n < 31) && decide (s.hopsTo r < n)

/-- The time-tree ports. -/
def State.treePorts (s : State) : List Nat :=
  (List.range 4).filter (fun p => s.portUp p && (decide (s.timeParent = some p) || s.timeChild p))

/-! ### Output ports (R302, R304) -/

/-- The output ports of a destination, but for the port the frame came on (R302, R304). -/
def State.outPorts (s : State) (dst inp : Nat) : List Nat :=
  let ps := if dst = 63 then s.treePorts
    else if 33 ≤ dst ∧ dst < 49 then
      (List.range 4).filter (fun p => (s.fld (CPL_MGRP (dst - 33)) CPL_MGRP_PMASK).testBit p && s.portUp p)
    else if s.routed dst ∧ dst ≠ s.seat then [s.routePort dst] else []
  ps.filter (fun p => p ≠ inp)

/-- The ports on which a frame has still to leave. -/
def State.portsLeft (s : State) (f : TxFrame) : List Nat := match f.port with
  | some p => if f.sent.contains p then [] else [p]
  | none => (s.outPorts f.dst f.inp).filter (fun p => !f.sent.contains p)

/-- A multicast frame with no port left to leave on goes nowhere. -/
def State.nowhere (s : State) (f : TxFrame) : Bool := f.port.isNone && decide (33 ≤ f.dst) && (s.portsLeft f).isEmpty

/-- An event forward as a frame, and the ports on which it has left (R260). -/
def forwardFrame (e : Nat × Nat) (sent : List Nat) : TxFrame :=
  { cls := 0, dst := 33 + e.2, kind := 0x05, payload := [BitVec.ofNat 8 e.1], sent := sent }

/-- The event forwards, without those that go nowhere. -/
def pruneForwards (s : State) : State :=
  let gone := fun (e : Nat × Nat) (sent : List Nat) => s.nowhere (forwardFrame e sent)
  match s.cpl.fwdQ with
  | [] => s
  | e :: es =>
    let rest := es.filter (fun x => !gone x [])
    if gone e s.cpl.fwdSent then s.updCpl (fun c => { c with fwdQ := rest, fwdSent := [] })
    else s.updCpl (fun c => { c with fwdQ := e :: rest })

/-- The queues, without the frames that go nowhere since the tree or a mask changed (log entry 143). -/
def pruneQueues (s : State) : State :=
  let keep := fun (q : List TxFrame) => q.filter (fun f => !s.nowhere f)
  pruneForwards (s.updCpl (fun c => { c with
    ownQ := keep c.ownQ, mailQ := keep c.mailQ, stageQ := keep c.stageQ, freightQ := keep c.freightQ,
    transit := keep c.transit }))

/-- A frame of the device itself joins its frames to be sent. -/
def sendOwn (f : TxFrame) (s : State) : State :=
  if s.nowhere f then s else s.updCpl (fun c => { c with ownQ := c.ownQ ++ [f] })

/-- A link-control frame on one port (R297). -/
def sendLink (p kind : Nat) (payload : List Byte) (s : State) : State :=
  sendOwn { cls := 3, kind := kind, payload := payload, port := some p } s

def portMask (ps : List Nat) : Nat := ps.foldl (fun m p => m ||| 2 ^ p) 0

/-- ROOT, TPARENT and the PMASK of every group with MAN = 0 follow the tree (R304, R311), and the queues with them. -/
def settleTree (s : State) : State :=
  let s := s.setFld CPL_ADDR CPL_ADDR_ROOT s.timeRoot
  let s := each (List.range 4) (fun p t => t.setFlag (CPL_PORT p) CPL_PORT_TPARENT (decide (t.timeParent = some p))) s
  let m := portMask s.treePorts
  pruneQueues
    (each (List.range 16) (fun g t => if t.flag (CPL_MGRP g) CPL_MGRP_MAN then t else t.setFld (CPL_MGRP g) CPL_MGRP_PMASK m) s)

/-! ### Routes (R302, R303) -/

/-- The counts that an ADVERT carries. -/
def State.advertBytes (s : State) : List Byte := (List.range 32).map (fun k => BitVec.ofNat 8 (s.hopsTo (k + 1)))

def sendAdvert (p : Nat) (s : State) : State := sendLink p 0x13 s.advertBytes s

/-- The table changed: one ADVERT on each port that is up. -/
def advertIfChanged (was : List Word) (s : State) : State :=
  if (List.range 32).map (fun k => s.rd (CPL_ROUTE k)) = was then s else each s.upPorts sendAdvert s

def State.routeTable (s : State) : List Word := (List.range 32).map (fun k => s.rd (CPL_ROUTE k))

/-- Ports that reach a seat, nearest first, ties to the lower number. -/
def State.offersOf (s : State) (d : Nat) : List (Nat × Nat) :=
  let all := (s.upPorts.map (fun p => ((s.pt p).adv.getD (d - 1) 31, p))).filter (fun e => e.1 < 31)
  (List.range 31).flatMap (fun h => all.filter (fun e => e.1 = h))

/-- One entry of discovery (R302); the own seat is local, and a set entry is not written. -/
def discover (d : Nat) (s : State) : State :=
  if s.flag (routeOf d) CPL_ROUTE_MAN then s
  else
    let w := if d = s.seat then 0 else match s.offersOf d with
      | [] => 0
      | (h, p) :: rest =>
        let w := CPL_ROUTE_PRI.put (CPL_ROUTE_HOPS.put 0 (min (h + 1) 15)) p
        let w := CPL_ROUTE_VALID.put w (b2n (decide (h + 1 < 31)))
        match rest with
        | (_, q) :: _ => CPL_ROUTE_ALTV.put (CPL_ROUTE_ALT.put w q) 1
        | [] => w
    s.wr (routeOf d) w

/-- Discovery of the whole table. -/
def discoverAll (s : State) : State :=
  let was := s.routeTable
  advertIfChanged was (settleTree (each ((List.range 32).map (· + 1)) discover s))

/-- An entry after the loss of a port (R303). -/
def failover (p d : Nat) (s : State) : State :=
  let r := routeOf d
  let w := s.rd r
  if !CPL_ROUTE_VALID.bit w then s
  else if CPL_ROUTE_PRI.get w = p ∧ CPL_ROUTE_ALTV.bit w ∧ CPL_ROUTE_ACTALT.bit w = false ∧ CPL_ROUTE_ALT.get w ≠ p then
    s.setFlag r CPL_ROUTE_ACTALT true
  else if s.routePort d = p then s.setFlag r CPL_ROUTE_VALID false
  else s

/-! ### Links (R296) -/

/-- A port comes up; a hitched device offers on it (R299, log entry 36). -/
def execPortUp (p : Fin 4) (s : State) : Out :=
  if s.awake && s.flag (CPL_PORT p) CPL_PORT_EN && s.flag SYS_CLK SYS_CLK_SLOCK && !s.portUp p then
    let s := ((s.setFlag (CPL_PORT p) CPL_PORT_UP true).sq CPL_STAT CPL_STAT_LINKCHG)
    let s := cplLink s
    let s := if s.hitched && s.flag CPL_CFG CPL_CFG_HEN then sendLink p 0x10 (leBytes 16 s.cpl.challenge.toNat) s else s
    .next (if s.hitched then sendAdvert p s else s)
  else .next s

/-- Whether the frame that came last from a port had arrived whole. -/
def cutLast (p : Nat) (whole : Bool) : List TxFrame → List TxFrame
  | [] => []
  | f :: fs => if f.inp = p ∧ fs.all (fun g => g.inp ≠ p) then { f with good := f.good && whole } :: fs
               else f :: cutLast p whole fs

/-- A link is lost: UP falls, the port and its own register are reset, the routes that used it change over or become
invalid, and what it had still to send is lost (R287, R296, R303). Whether the last frame from it was still being forwarded
cut-through, and then ends with /E/, is a free value (log entry 141). -/
def portLost (p : Nat) (s : State) : State :=
  let was := s.routeTable
  let s := (s.wr (CPL_PORT p) 0).updPt p (fun _ => {})
  let whole := Config.freeBool s.draws
  let s := (s.updCpl (fun c => { c with transit := cutLast p whole c.transit })).drew 1
  let s := each ((List.range 32).map (· + 1)) (failover p) s
  let s := s.updCpl (fun c => { c with ownQ := c.ownQ.filter (fun f => f.port ≠ some p) })
  cplLink ((advertIfChanged was (settleTree s)).sq CPL_STAT CPL_STAT_LINKCHG)

def execPortDown (p : Fin 4) (s : State) : Out := if s.awake && s.portUp p then .next (portLost p s) else .next s

/-- CPL_PORTp.EN has been written: an enabled port that is switched off goes down (R296). -/
def portWritten (p : Nat) (s : State) : State :=
  if s.portUp p && !s.flag (CPL_PORT p) CPL_PORT_EN then portLost p s else s

/-- The 1 ms ADVERT of a port (R302). -/
def execAdvertSend (p : Fin 4) (s : State) : Out := if s.awake && s.portUp p then .next (sendAdvert p s) else .next s

/-- A received ADVERT (R302). -/
def execAdvert (p : Fin 4) (counts : List Nat) (s : State) : Out :=
  if s.awake && s.portUp p then
    .next (discoverAll (s.updPt p (fun x => { x with adv := (counts.take 32).map (fun n => min n 31) })))
  else .next s

/-! ### Seats (R299 to R301, R312, R320) -/

/-- The device's serial (R41, R299). -/
def State.serial (s : State) : Nat := (s.wb 6).toNat + 2 ^ 32 * (s.wb 7).toNat

/-- The seat word that CPL_CFG.SEATW names (R300). -/
def State.seatWord (s : State) : Word := s.wb (0x200 + s.fld CPL_CFG CPL_CFG_SEATW)

/-- The device's own admission secret (R301). -/
def ownSecret : List Byte := hmac ((List.range 32).map Config.deviceKey) [0x43, 0x50, 0x4C, 0x2D, 0x41, 0x44, 0x4D, 0x49, 0x54]

/-- Word k of the own admission secret (R301). -/
def secretWord (k : Nat) : Word := word (leNat ((ownSecret.drop (4 * k)).take 4))

/-- An admission code (R301): the first 16 bytes of the HMAC over challenge, joiner's serial and head's serial. -/
def admissionCode (secret : List Byte) (challenge : BitVec 128) (joiner head : Nat) : List Byte :=
  (hmac secret (leBytes 16 challenge.toNat ++ leBytes 8 joiner ++ leBytes 8 head)).take 16

/-- OFFER on a list of ports (R299). -/
def offerOn (ps : List Nat) (s : State) : State :=
  each ps (fun p t => sendLink p 0x10 (leBytes 16 t.cpl.challenge.toNat) t) s

/-- A seat is taken (R299): nothing has been adopted since (R319), and the routes start anew. -/
def takeSeat (seat : Nat) (s : State) : State :=
  let s := (s.setFld CPL_ADDR CPL_ADDR_SEAT seat).setFlag CPL_ADDR CPL_ADDR_HITCHED (decide (seat ≠ 0))
  let s := s.updCpl (fun c => { c with adopted := false })
  discoverAll s

/-- The seat is given up (R312, R320); forwards still queued are discarded and counted (R262). -/
def leaveSeat (s : State) : State :=
  let s := s.rc EVT_CNT EVT_CNT_CPLDROP s.cpl.fwdQ.length
  let s := s.updCpl (fun c => { c with fwdQ := [], fwdSent := [] })
  takeSeat 0 s

/-- HEN has been written to 1 at the head (R299): it takes seat 1 and offers, with a challenge that is a free value. -/
def henWritten (s : State) : State :=
  if s.isHead && !s.hitched && !s.cpl.uncoupled then
    let ch := (List.range 4).foldl (fun n k => n + (Config.freeWord (s.draws + k)).toNat * 2 ^ (32 * k)) 0
    let s := (s.updCpl (fun c => { c with challenge := BitVec.ofNat 128 ch })).drew 4
    let s := takeSeat 1 s
    offerOn s.upPorts s
  else s

/-- The bytes of an ANSWER (R299). -/
def answerBytes (serial : Nat) (code : List Byte) (seat : Nat) : List Byte := leBytes 8 serial ++ code ++ leBytes 1 seat

/-- A received OFFER (R299, R300). -/
def execOffer (p : Fin 4) (otherHead : Bool) (challenge : BitVec 128) (headSerial : BitVec 64) (s : State) : Out :=
  if !s.awake || !s.portUp p then .next s
  else if s.isHead then
    if otherHead then .next (cplLink (s.sq CPL_STAT CPL_STAT_HEADERR)) else .next s
  else if s.seat = 0 ∧ s.flag CPL_CFG CPL_CFG_HEN ∧ s.cpl.uncoupled = false then
    let code := admissionCode ownSecret challenge s.serial headSerial.toNat
    let s := (s.updCpl (fun c => { c with challenge := challenge })).updPt p (fun x => { x with answered := true })
    .next (sendLink p 0x11 (answerBytes s.serial code s.seatWord.toNat) s)
  else .next s

/-- A seat is free at the head (R299, R320). -/
def State.seatFree (s : State) (d : Nat) : Bool :=
  decide (2 ≤ d) && decide (d ≤ 32) && !s.cpl.granted.contains d && !s.cpl.struck.getLsbD (d - 1)

/-- The head grants a seat to an admitted joiner (R299). -/
def grantSeat (a : Answer) (s : State) : State :=
  match if s.seatFree a.seat then some a.seat else ((List.range 33).find? s.seatFree) with
  | some d =>
    let s := s.updCpl (fun c => { c with granted := insertRising c.granted d })
    sendLink a.port 0x12 (leBytes 1 d) s
  | none => cplLink s

/-- The head takes up the ANSWER in front (R299, R301): with ADMEN = 1 it awaits the key, and without it grants at once, the
following answers too. -/
def takeAnswer (s : State) : State := match s.cpl.answers with
  | [] => s.setFlag CPL_STAT CPL_STAT_ADMPEND false
  | a :: _ =>
    if s.flag CPL_CFG CPL_CFG_ADMEN then
      let s := (s.wr (CPL_ADMSN 0) (word a.serial.toNat)).wr (CPL_ADMSN 1) (word (a.serial.toNat / 2 ^ 32))
      s.setFlag CPL_STAT CPL_STAT_ADMPEND true
    else
      (each s.cpl.answers grantSeat (s.updCpl (fun c => { c with answers := [] }))).setFlag CPL_STAT CPL_STAT_ADMPEND false

/-- A device that is not the head passes an ANSWER on over its route to the head (R299, log entry 145). -/
def relayAnswer (p serial code seat : Nat) (s : State) : State :=
  if s.hitched && !s.isHead && s.routed 1 && decide (s.routePort 1 ≠ p) then
    sendLink (s.routePort 1) 0x11 (answerBytes serial (leBytes 16 code) seat) (s.updPt p (fun x => { x with relayed := true }))
  else s

/-- An ANSWER that such a device passed on has its GRANT: it goes on to the port that waits for it; which one where several
wait is a free value (log entry 145). -/
def relayGrant (p seat : Nat) (s : State) : State :=
  let waiting := (List.range 4).filter (fun q => (s.pt q).relayed)
  let q := waiting.getD (Config.freeNat s.draws % waiting.length) 0
  if s.hitched && !s.isHead && s.routed 1 && decide (s.routePort 1 = p) && !waiting.isEmpty then
    sendLink q 0x12 (leBytes 1 seat) ((s.updPt q (fun x => { x with relayed := false })).drew 1)
  else s

/-- An ANSWER reaches the head (R299): one at a time, in order of arrival. -/
def execAnswer (p : Fin 4) (serial : BitVec 64) (code : BitVec 128) (seat : Fin 64) (s : State) : Out :=
  if s.awake && s.isHead && s.hitched && s.portUp p then
    let first := s.cpl.answers.isEmpty
    let s := s.updCpl (fun c => { c with answers := c.answers ++ [⟨p, serial, code, seat⟩] })
    .next (if first then takeAnswer s else s)
  else if s.awake && s.portUp p then .next (relayAnswer p serial.toNat code.toNat seat s)
  else .next s

/-- Word 7 of the key has been written (R301). -/
def keyWritten (s : State) : State :=
  if s.flag CPL_STAT CPL_STAT_ADMPEND then s.updCpl (fun c => { c with checking := true })
  else each (List.range 8) (fun k t => t.wr (CPL_ADMKEY k) 0) s

/-- The outcome of the admission of the ANSWER in front, and the next one (R299). -/
def admissionOver (ok : Bool) (s : State) : State := match s.cpl.answers with
  | [] => s
  | a :: rest =>
    let s := s.updCpl (fun c => { c with answers := rest, checking := false })
    let s := if ok then grantSeat a s else cplLink (s.sq CPL_STAT CPL_STAT_ADMFAIL)
    takeAnswer s

/-- The check completes; the key words are cleared (R301). -/
def execAdmissionCheckDone (s : State) : Out := match s.cpl.answers with
  | a :: _ =>
    if s.awake && s.cpl.checking then
      let key := (List.range 8).flatMap (fun k => wordBytes (s.rd (CPL_ADMKEY k)))
      let good := decide (leNat (admissionCode key s.cpl.challenge a.serial.toNat s.serial) = a.code.toNat)
      .next (admissionOver good (each (List.range 8) (fun k t => t.wr (CPL_ADMKEY k) 0) s))
    else .next s
  | [] => .next s

/-- No key within 10 ms: the check fails (R301). -/
def execAdmissionTimeout (s : State) : Out :=
  if s.awake && s.flag CPL_STAT CPL_STAT_ADMPEND && !s.cpl.checking then .next (admissionOver false s) else .next s

/-- A GRANT (R299, R300): the seat, the seat word where it differs, and offers on the other ports. -/
def execGrant (p : Fin 4) (seat : Fin 64) (s : State) : Out :=
  if s.awake && s.portUp p && (s.pt p).answered && decide (s.seat = 0) && !s.cpl.uncoupled
      && decide (1 ≤ seat.val) && decide (seat.val ≤ 32) then
    let s := each (List.range 4) (fun q t => t.updPt q (fun x => { x with answered := false })) s
    let s := takeSeat seat s
    let s := if s.seatWord = word seat then s else s.updCpl (fun c => { c with seatWrite := some (word seat) })
    .next (offerOn (s.upPorts.filter (fun q => q ≠ p.val)) s)
  else if s.awake && s.portUp p then .next (relayGrant p seat s)
  else .next s

/-- DETT has passed with no other hitched device reached (R312). -/
def execDetach (s : State) : Out :=
  if s.awake && s.hitched && (List.range 32).all (fun k => decide (k + 1 = s.seat) || !s.routed (k + 1)) then
    .next (cplLink (leaveSeat s))
  else .next s

/-- The head frees a seat whose device has been unreachable, but never a struck one (R312, R320). -/
def execSeatFreed (seat : Fin 64) (s : State) : Out :=
  if s.awake && s.isHead && s.cpl.granted.contains seat && !s.routed seat && !s.cpl.struck.getLsbD (seat.val - 1) then
    .next (s.updCpl (fun c => { c with granted := c.granted.filter (fun d => d ≠ seat.val) }))
  else .next s

/-! ### Output ports (R304, R305, R308) -/

/-- A DST is valid (R297, R298). -/
def dstValid (d : Nat) : Bool := decide (1 ≤ d) && (decide (d < 49) || decide (d = 63))

/-- Class maximum of LEN (R297). -/
def classMax (cls : Nat) : Nat := if cls = 0 then 32 else if cls = 3 then 64 else 256

/-- Fragments of a Freight message (R308); other frames count as one. -/
def TxFrame.frags (f : TxFrame) : Nat := if f.cls = 2 ∧ f.inp = 4 then max 1 ((f.payload.length + 255) / 256) else 1

/-- A frame has left on one port: none if it, or its last fragment, has left on all. -/
def State.afterSend (s : State) (p : Nat) (f : TxFrame) : Option TxFrame :=
  let f := { f with sent := f.sent ++ [p] }
  if s.portsLeft f ≠ [] then some f
  else if f.frag + 1 < f.frags then some { f with frag := f.frag + 1, sent := [] }
  else none

/-- Take the first frame of a list that may leave on a port: that frame, and the list without it or with the rest of it. -/
def takeFirst (ok : TxFrame → Bool) (after : TxFrame → Option TxFrame) : List TxFrame → Option (List TxFrame)
  | [] => none
  | f :: fs => if ok f then some ((after f).toList ++ fs) else (takeFirst ok after fs).map (f :: ·)

/-- A frame of one source may leave on a port in a class. -/
def State.mayLeave (s : State) (p cls : Nat) (f : TxFrame) : Bool := decide (f.cls = cls) && (s.portsLeft f).contains p

/-- The state after a transit frame from one input port has left (R305). -/
def sendTransit (p cls inp : Nat) (s : State) : Option State :=
  (takeFirst (fun f => s.mayLeave p cls f && decide (f.inp = inp)) (s.afterSend p) s.cpl.transit).map
    (fun q => s.updCpl (fun c => { c with transit := q }))

/-- The queue of a class. -/
def Coupler.queue (c : Coupler) (cls : Nat) : List TxFrame :=
  if cls = 0 then c.mailQ else if cls = 1 then c.stageQ else if cls = 2 then c.freightQ else []

def Coupler.setQueue (c : Coupler) (cls : Nat) (q : List TxFrame) : Coupler :=
  if cls = 0 then { c with mailQ := q } else if cls = 1 then { c with stageQ := q }
  else if cls = 2 then { c with freightQ := q } else c

/-- The state after the local sender has sent a frame: the device's own frames, the head of the class queue, then the Mail
forward in front (log entry 36). -/
def sendLocal (p cls : Nat) (s : State) : Option State :=
  match takeFirst (s.mayLeave p cls) (s.afterSend p) s.cpl.ownQ with
  | some q => some (s.updCpl (fun c => { c with ownQ := q }))
  | none =>
    match s.cpl.queue cls with
    | f :: fs =>
      if s.mayLeave p cls f then some (s.updCpl (fun c => c.setQueue cls ((s.afterSend p f).toList ++ fs))) else none
    | [] =>
      match s.cpl.fwdQ with
      | e :: es =>
        let f := forwardFrame e s.cpl.fwdSent
        if cls = 0 ∧ s.mayLeave p 0 f then
          match s.afterSend p f with
          | some f => some (s.updCpl (fun c => { c with fwdSent := f.sent }))
          | none => some (s.updCpl (fun c => { c with fwdQ := es, fwdSent := [] }))
        else none
      | [] => none

/-- The state after a source has sent, marked as served last (R305). -/
def sendFrom (p cls src : Nat) (s : State) : Option State :=
  (if src = 4 then sendLocal p cls s else sendTransit p cls src s).map
    (fun t => t.updPt p (fun x => { x with served := mset (fun _ => 4) x.served cls src }))

/-- The sources of a class in their round-robin order after the one served last (R305). -/
def State.sources (s : State) (p cls : Nat) : List Nat :=
  let last := mget (fun _ => 4) (s.pt p).served cls
  ((List.range 5).map (fun k => (last + 1 + k) % 5)).filter (fun src => src ≠ p)

/-- One frame of a class leaves on a port, if there is one (R305). -/
def sendClass (p cls : Nat) (s : State) : Option State := (s.sources p cls).findSome? (fun src => sendFrom p cls src s)

/-- Link control always may leave; other frames only of a device that is not uncoupled and holds a seat (R320), and a
class only while no higher one waits at the port (R305). -/
def execCouplerFrameSent (p : Fin 4) (cls : Fin 4) (s : State) : Out :=
  if !s.awake || !s.portUp p then .next s
  else
    let higher := (List.range cls.val).any (fun c => decide (cls.val < 3) && (sendClass p c s).isSome)
    if decide (cls.val < 3) && (s.cpl.uncoupled || decide (s.seat = 0) || higher) then .next s
    else .next ((sendClass p cls s).getD s)

/-! ### Tags (R307) -/

def State.tagOf (s : State) (n : Nat) : TagSt := mget (fun _ => TagSt.free) s.cpl.tags n
def State.setTag (s : State) (n : Nat) (t : TagSt) : State :=
  s.updCpl (fun c => { c with tags := mset (fun _ => TagSt.free) c.tags n t })

/-- The lowest free tag of 1 to 256. -/
def State.freeTag (s : State) : Option Nat := ((List.range 256).map (· + 1)).find? (fun n => s.tagOf n = TagSt.free)

/-- A remote load completes: the register takes the word, rotated as the instruction says, or cause 0x07 (R63, R307). -/
def loadAnswered (rt : GReg) (rot : Nat) (addr : Word) (data : Option Word) (s : State) : State :=
  let s := s.updTrk (fun t => { t with wait := .none })
  let s := match data with
    | some v => retire .troika (fun c => c.setG rt (v.rotateRight rot)) s
    | none => fail .troika 0x07 addr s
  haltDue (deliverImprecise (stepOver s))

/-- The outcome of a transaction (R307): `data` is the word of an RDR with status 0. -/
def transactionOver (ok : Bool) (data : Word) (t : TagSt) (s : State) : State := match t with
  | .load _ rt rot addr => loadAnswered rt rot addr (if ok then some data else none) s
  | .store _ addr =>
    fenceAnswered (if ok then s else s.updTrk (fun x => { x with imprecise := x.imprecise ++ [addr] }))
  | .freight _ => if ok then s.rcWrap CPL_CNT CPL_CNT_FDONE else cplDrop s
  | _ => s

/-- The destination of an outstanding transaction. -/
def TagSt.dst? : TagSt → Option Nat
  | .load d _ _ _ => some d
  | .store d _ => some d
  | .freight d => some d
  | _ => none

/-- The transaction is a load. -/
def TagSt.isLoad : TagSt → Bool
  | .load _ _ _ _ => true
  | _ => false

/-- A response of a kind (R307); one that fits no outstanding request is discarded and counted. -/
def responseArrived (f : Frame) (rdr : Bool) (s : State) : State :=
  let t := s.tagOf f.tag
  if decide (1 ≤ f.tag.val) && decide (t.dst? = some f.src.val) && decide (t.isLoad = rdr) then
    transactionOver (decide (f.arg.toNat % 4 = 0)) (word (leNat (f.payload.take 4))) t (s.setTag f.tag .free)
  else cplDrop s

/-- No response within TIMEOUT: as status 2; the tag stays unused (R307). -/
def execTransactionTimeout (tag : Fin 257) (s : State) : Out :=
  let t := s.tagOf tag
  if s.awake && t.dst?.isSome then
    let s := ((s.setTag tag .held).sq CPL_STAT CPL_STAT_TXTO).rc CPL_CNT CPL_CNT_TXTO
    .next (transactionOver false 0 t s)
  else .next s

/-- A further TIMEOUT has passed (R307). -/
def execTagHoldEnd (tag : Fin 257) (s : State) : Out :=
  if s.awake && decide (s.tagOf tag = TagSt.held) then .next (s.setTag tag .free) else .next s

/-! ### Rings (R309) -/

def tandemBase : Nat := 0x10800000

/-- Bytes from an address on, cut at the boundaries of 8-byte words. -/
def cutWords : Nat → Nat → List Byte → List (Nat × List Byte)
  | 0, _, _ => []
  | n + 1, a, bs =>
    if bs = [] then []
    else
      let k := 8 - a % 8
      (a, bs.take k) :: cutWords n (a + k) (bs.drop k)

/-- The finding in the ECC word of an address. -/
def portFinding (m : PortF) (a : Nat) : Ecc := (m.finds.find? (fun f => f.1 = unitBase a)).elim .clean (·.2)

/-- Port F begins to access Tandem RAM: it waits for the clearing (R252), and sees memory as another master does (R60). -/
def portFOpen (s : State) : State := busView (waitCleared .tandem s)

/-- Port F writes bytes of Tandem RAM (R251, R253): bytes outside it go nowhere, and those that port T writes in the same
cycle are lost. -/
def portFWrite (a : Nat) (bs : List Byte) (m : PortF) (s : State) : State :=
  each (cutWords (bs.length + 1) a bs) (fun e t =>
    let (b, xs) := e
    if region b ≠ .tandem then t
    else
      let keep := m.lost.filter (fun x => decide (b ≤ x) && decide (x < b + xs.length))
      let old := keep.map (fun x => (x, t.byte x))
      let t := memWriteUnit b xs (portFinding m b) t
      if keep = [] then t
      else
        let t := each old (fun e u => u.setByte e.1 e.2) t
        (t.sq MEM_STAT MEM_STAT_TCOL).raise (evMem 2)) s

/-- Port F reads `n` bytes of Tandem RAM, word by word (R251): the state with what it notes, and whether it had no error
response. -/
def portFCheck (a n : Nat) (m : PortF) (s : State) : State × Bool :=
  (List.range ((a % 8 + n + 7) / 8)).foldl (fun (t, ok) k =>
    let b := a / 8 * 8 + 8 * k
    if ok && (region b == .tandem) then memCheck b (portFinding m b) t else (t, ok)) (s, true)

/-- CRC-16 of polynomial 0x1021 from 0xFFFF, most significant bit first (R297). -/
def crc16 (bs : List Byte) : BitVec 16 :=
  bs.foldl (fun (r : BitVec 16) (b : Byte) =>
    (List.range 8).foldl (fun x _ => if x.getLsbD 15 then (x <<< 1) ^^^ 0x1021 else x <<< 1)
      (r ^^^ BitVec.ofNat 16 (256 * b.toNat))) 0xFFFF

/-- The 16 bytes of a header (R297). -/
def headerBytes (f : Frame) : List Byte :=
  let h := [BitVec.ofNat 8 (f.cls.val * 64 + f.dst.val), BitVec.ofNat 8 f.src.val, f.epoch, f.kind,
    BitVec.ofNat 8 f.tag.val, BitVec.ofNat 8 (f.hops.val * 8 + f.tag.val / 256)]
    ++ leBytes 2 f.payload.length ++ wordBytes f.arg ++ leBytes 2 f.xarg.toNat
  h ++ leBytes 2 (crc16 h).toNat

/-- A delivered MSG or EVT takes a slot of its class's ring, or is dropped at a full one (R309). -/
def toRing (f : Frame) (m : PortF) (s : State) : State :=
  let stage := decide (f.cls.val = 1)
  let cfg := s.rd (if stage then CPL_RXS else CPL_RXM)
  let ptr := if stage then CPL_RXSP else CPL_RXMP
  let n := CPL_RXM_NSLOT.get cfg
  let wr := s.fld ptr CPL_RXMP_WR
  if n = 0 ∨ (wr + 1) % n = s.fld ptr CPL_RXMP_RD then cplDropEvent (cplDrop (s.sq CPL_STAT CPL_STAT_RXFULL))
  else
    let size := if stage then 288 else 64
    let a := tandemBase + 16 * CPL_RXM_BASE.get cfg + size * wr
    let s := portFWrite a (headerBytes f) m (portFOpen s)
    let s := portFWrite (a + 16) f.payload m s
    let s := portFWrite (a + size - 16) (leBytes 16 s.fabric.toNat) m s
    (s.setFld ptr CPL_RXMP_WR ((wr + 1) % n)).raise (evCom 9)

/-! ### Reception (R297, R298, R304, R319) -/

/-- The class a kind belongs to (R298). -/
def kindFits (kind cls len : Nat) : Bool :=
  if kind = 1 ∨ kind = 2 ∨ kind = 3 ∨ kind = 4 then decide (cls = 1)
  else if kind = 5 ∨ kind = 9 ∨ kind = 10 then decide (cls = 0)
  else if kind = 6 then decide (cls ≤ 1)
  else if kind = 7 then decide (cls = 2)
  else if kind = 8 then decide (cls = if len ≤ 32 then 0 else 1)
  else decide (0x10 ≤ kind) && decide (kind ≤ 0x14) && decide (cls = 3)

/-- What R298 checks in the header of a frame. -/
def headerOk (f : Frame) : Bool :=
  f.hcrcOk && (decide (f.cls.val = 3) || dstValid f.dst) && kindFits f.kind.toNat f.cls f.payload.length
    && decide (f.payload.length ≤ classMax f.cls)

/-- A frame is discarded (R298). -/
def badFrame (s : State) : State := cplDropEvent (s.sq CPL_STAT CPL_STAT_BADFRM)

/-- The frame is for this device (R304). -/
def State.isLocal (s : State) (f : Frame) : Bool :=
  (decide (f.dst.val = s.seat) && decide (s.seat ≠ 0)) || decide (f.dst.val = 63)
    || (decide (33 ≤ f.dst.val) && decide (f.dst.val < 49) && s.flag (CPL_MGRP (f.dst.val - 33)) CPL_MGRP_LOCAL)

/-- The frame as a transit frame, its hop limit decremented (R297). -/
def onwardFrame (f : Frame) : TxFrame :=
  { cls := f.cls, dst := f.dst, src := f.src, epoch := f.epoch.toNat, kind := f.kind.toNat, tag := f.tag,
    hops := f.hops - 1, arg := f.arg, xarg := f.xarg, payload := f.payload, good := f.fcrcOk, inp := f.port }

/-- The frame would go on from here (R304): to another seat, or to the further ports of its group. -/
def State.goesOn (s : State) (f : Frame) : Bool :=
  decide (s.seat ≠ 0) && decide (f.dst.val ≠ s.seat) && (decide (f.dst.val < 33) || !(s.outPorts f.dst f.port).isEmpty)

/-- Forward a frame, if it goes on from here (R304); a unicast frame without a route is lost. -/
def forward (f : Frame) (s : State) : State :=
  if !s.goesOn f then s
  else if s.outPorts f.dst f.port = [] then (if f.dst.val < 33 then cplDrop s else s)
  else s.updCpl (fun c => { c with transit := c.transit ++ [onwardFrame f] })

/-- The seat is an authority (R317). -/
def State.authority (s : State) (seat : Nat) : Bool :=
  let w := s.rd CPL_LEASE
  decide (seat ≠ 0) && (decide (seat = CPL_LEASE_ASEAT0.get w) || decide (seat = CPL_LEASE_ASEAT1.get w))

/-- A mask names a seat of 1 to 32. -/
def seatIn (m : Word) (seat : Nat) : Bool := decide (1 ≤ seat) && m.getLsbD (seat - 1)

/-- 1 µs in taps. -/
def usTaps : Nat := 25600

/-- e less E modulo 256 (R319). -/
def State.ahead (s : State) (f : Frame) : Nat := (f.epoch.toNat + 256 - s.epoch) % 256

/-- UNCPL to a seat, at most one in 100 µs (R319). -/
def sendUncpl (seat : Nat) (s : State) : State :=
  let due := match mget (fun _ => none) s.cpl.uncplAt seat with
    | some t => decide (t + 100 * usTaps ≤ s.now)
    | none => true
  if due then
    sendOwn { cls := 0, dst := seat, kind := 0x0A }
      (s.updCpl (fun c => { c with uncplAt := mset (fun _ => none) c.uncplAt seat (some s.now) }))
  else s

/-- A frame from the past (R319). -/
def staleEpoch (f : Frame) (s : State) : State := sendUncpl f.src (cplEpoch (cplDrop s))

/-- The epoch check of a frame that is neither a LEASE of an authority nor an UNCPL (R319). -/
def epochCheck (f : Frame) (body : State → State) (s : State) : State :=
  let a := s.ahead f
  if !s.cpl.adopted then s
  else if a < 128 then body s
  else if a = 255 ∧ seatIn s.cpl.struck f.src = false ∧ s.now ≤ s.cpl.adoptAt + 250 * usTaps then body s
  else staleEpoch f s

/-- A frame is discarded on arrival (R298): what its header shows, HOPS 0 where it would go on, and a link-control frame,
which has arrived at its destination, with a failed FCRC. -/
def State.discards (s : State) (f : Frame) : Bool :=
  !headerOk f || (decide (f.cls.val ≠ 3) && decide (f.hops.val = 0) && s.goesOn f) || (decide (f.cls.val = 3) && !f.fcrcOk)

/-- A frame of some kinds arrives: the checks of R298, the forwarding, and the delivery with its epoch check. A frame of
another kind, and one on a port that is not up, is not this command's step. -/
def receive (kinds : List Nat) (f : Frame) (deliver : State → State) (s : State) : State :=
  let s := s.at f.t
  if !s.awake || !s.portUp f.port then s
  else if s.discards f then badFrame s
  else if !kinds.contains f.kind.toNat then s
  else
    let s := forward f s
    if !s.isLocal f then s
    else if !f.fcrcOk then badFrame s
    else deliver s

/-- A response is sent to where a request came from (R298). -/
def respond (f : Frame) (kind status : Nat) (payload : List Byte) (s : State) : State :=
  sendOwn { cls := 1, dst := f.src, kind := kind, tag := f.tag, arg := word status, payload := payload } s

def execAckFrame (f : Frame) (s : State) : Out := .next <| receive [0x02] f (epochCheck f (responseArrived f false)) s
def execRdrFrame (f : Frame) (s : State) : Out := .next <| receive [0x04] f (epochCheck f (responseArrived f true)) s
def execEvtFrame (f : Frame) (m : PortF) (s : State) : Out := .next <| receive [0x05] f (epochCheck f (toRing f m)) s

/-! ### Freight (R310) -/

def State.buf (s : State) (k : Nat) : Option ReasmBuf := mget (fun _ => none) s.cpl.reasm k
def State.setBuf (s : State) (k : Nat) (b : Option ReasmBuf) : State :=
  s.updCpl (fun c => { c with reasm := mset (fun _ => none) c.reasm k b })
def State.setStale (s : State) (src : Nat) (x : Option Nat) : State :=
  s.updCpl (fun c => { c with stale := mset (fun _ => none) c.stale src x })

def fwrFid (f : Frame) : Nat := f.xarg.toNat / 256
def fwrIndex (f : Frame) : Nat := f.xarg.toNat / 64 % 4
def fwrLast (f : Frame) : Bool := f.xarg.getLsbD 5

/-- A buffer with one more fragment; a second copy of an index adds nothing. -/
def ReasmBuf.add (b : ReasmBuf) (f : Frame) : ReasmBuf :=
  { b with
    lastIdx := if fwrLast f then some (fwrIndex f) else b.lastIdx
    frags := if b.frags.any (fun e => e.1 = fwrIndex f) then b.frags else b.frags ++ [(fwrIndex f, f.arg, f.payload)] }

/-- Every index from 0 to the LAST fragment is present. -/
def ReasmBuf.complete (b : ReasmBuf) : Bool := match b.lastIdx with
  | some n => (List.range (n + 1)).all (fun k => b.frags.any (fun e => e.1 = k))
  | none => false

/-- A fragment lies inside Tandem RAM. -/
def inTandem (a : Word) (len : Nat) : Bool :=
  decide (tandemBase ≤ a.toNat) && decide (a.toNat + len ≤ tandemBase + 0x40000)

/-- The whole message is written and acknowledged, or refused with status 1 (R310). -/
def writeMessage (f : Frame) (b : ReasmBuf) (m : PortF) (s : State) : State :=
  let parts := b.frags.filter (fun e => decide (e.1 ≤ b.lastIdx.getD 0))
  if parts.all (fun e => inTandem e.2.1 e.2.2.length) then
    respond { f with tag := Fin.ofNat 512 b.tag } 0x02 0 []
      (each parts (fun e t => portFWrite e.2.1.toNat e.2.2 m t) (portFOpen s))
  else respond { f with tag := Fin.ofNat 512 b.tag } 0x02 1 [] s

/-- A Freight fragment (R310). -/
def fragmentArrived (f : Frame) (m : PortF) (s : State) : State :=
  let src := f.src.val
  let stale := mget (fun _ => none) s.cpl.stale src
  if stale = some (fwrFid f) then s.sq CPL_STAT CPL_STAT_STALE
  else
    let s := if stale.isSome then s.setStale src none else s
    let mine := fun k => match s.buf k with
      | some b => decide (b.src = src) && decide (b.fid = fwrFid f)
      | none => false
    match (match (List.range 8).find? mine with
      | some k => some k
      | none => (List.range 8).find? (fun k => (s.buf k).isNone)) with
    | none => s
    | some k =>
      let b := (((s.buf k).filter (fun _ => mine k)).getD ⟨src, fwrFid f, f.tag, none, []⟩).add f
      if b.complete then writeMessage f b m (s.setBuf k none) else s.setBuf k (some b)

def execFwrFrame (f : Frame) (m : PortF) (s : State) : Out := .next <| receive [0x07] f (epochCheck f (fragmentArrived f m)) s

/-- 50 µs since the buffer last accepted a fragment (R310). -/
def execReassemblyTimeout (buf : Fin 8) (s : State) : Out := match s.buf buf with
  | some b =>
    if s.awake then
      .next (cplDropEvent (((s.setBuf buf none).setStale b.src (some b.fid)).sq CPL_STAT CPL_STAT_REASM))
    else .next s
  | none => .next s

/-! ### Launch (R307, R308) -/

/-- The values of CPL_TXCTL that are refused (R313's card). -/
def txctlBad (w : Word) : Bool :=
  let cls := CPL_TXCTL_CLS.get w
  let kind := CPL_TXCTL_KIND.get w
  decide (cls = 3) || !dstValid (CPL_TXCTL_DST.get w) || !(decide (kind = 6) || decide (kind = 7))
    || decide ((if cls = 0 then 32 else if cls = 1 then 256 else 1024) < CPL_TXCTL_LEN.get w)

/-- A launched frame as it arrives at its own sender (R302, R304). -/
def State.ownFrame (s : State) (f : TxFrame) : Frame :=
  { cls := Fin.ofNat 4 f.cls, dst := Fin.ofNat 64 f.dst, src := Fin.ofNat 64 s.seat, epoch := BitVec.ofNat 8 s.epoch,
    kind := BitVec.ofNat 8 f.kind, tag := Fin.ofNat 512 f.tag, arg := f.arg, xarg := f.xarg, payload := f.payload }

/-- The launch is not performed (R307, R308). -/
def txFull (event : Bool) (s : State) : State :=
  let s := s.sq CPL_STAT CPL_STAT_TXFULL
  if event then cplDropEvent s else s

/-- CPL_TXCTL has been written (R308): the payload is copied and the frame joins its queue; a Freight message takes a tag
(R307) and the next FID. A frame for this device itself is delivered here (R302, R304). -/
def launchFrame (m : PortF) (s : State) : State :=
  let w := s.rd CPL_TXCTL
  let cls := CPL_TXCTL_CLS.get w
  let len := CPL_TXCTL_LEN.get w
  let a := tandemBase + 16 * s.fld CPL_TXSRC CPL_TXSRC_OFS
  if 16 ≤ (s.cpl.queue cls).length then txFull true s
  else match portFCheck a len m (portFOpen s) with
    | (s, false) => txFull false s
    | (s, true) =>
      let f : TxFrame :=
        { cls := cls, dst := CPL_TXCTL_DST.get w, kind := CPL_TXCTL_KIND.get w, arg := s.rd CPL_TXDST,
          payload := s.bytes a len }
      if cls = 2 ∧ f.kind = 7 then
        match s.freeTag with
        | none => txFull false s
        | some n =>
          let f := { f with tag := n, xarg := BitVec.ofNat 16 (s.cpl.fid % 256 * 256) }
          let s := s.setTag n (.freight f.dst)
          s.updCpl (fun c => { c with freightQ := c.freightQ ++ [f], fid := (c.fid + 1) % 256 })
      else
        let s := if f.kind = 6 ∧ cls ≤ 1 ∧ s.isLocal (s.ownFrame f) then toRing (s.ownFrame f) m s else s
        if f.dst = s.seat ∨ s.nowhere f then s else s.updCpl (fun c => c.setQueue cls (c.queue cls ++ [f]))

/-! ### Time synchronisation (R311) -/

/-- The parent sends /Y/ on a port and records t1. -/
def execTimeSync (p : Fin 4) (t1 : Nat) (s : State) : Out :=
  if s.awake && s.hitched && s.portUp p && s.timeChild p then .next (State.updPt (s.at t1) p (fun x => { x with t1 := t1 }))
  else .next s

/-- The child receives /Y/ from its parent, records t2 and answers with /Z/, recording t3. -/
def execTimeSyncMark (p : Fin 4) (t2 t3 : Nat) (s : State) : Out :=
  if s.awake && s.portUp p && decide (s.timeParent = some p.val) then
    .next (State.updPt (s.at t3) p (fun x => { x with t2 := t2, t3 := t3 }))
  else .next s

/-- The parent receives /Z/, records t4 and sends both in a SYNC frame. -/
def execTimeSyncEcho (p : Fin 4) (t4 : Nat) (s : State) : Out :=
  if s.awake && s.portUp p && s.timeChild p then
    let s := State.updPt (s.at t4) p (fun x => { x with t4 := t4 })
    .next (sendLink p 0x14 (leBytes 8 (s.pt p).t1 ++ leBytes 8 t4) s)
  else .next s

/-- The child computes the link delay and its offset, and slews by at most the 16 taps of 16 µs (log entry 36); the
instants are in taps of each side's fabric time. -/
def execSync (p : Fin 4) (t1 t4 : Nat) (s : State) : Out :=
  if s.awake && s.portUp p && decide (s.timeParent = some p.val) then
    let x := s.pt p
    let there : Int := (x.t2 : Int) - t1
    let back : Int := (t4 : Int) - x.t3
    let delay := (((t4 : Int) - t1) - ((x.t3 : Int) - x.t2)).fdiv 2
    let ofs := (there - back).fdiv 2
    let s := s.setFldI (CPL_PORT p) CPL_PORT_DELAY delay
    .next (s.updCpl (fun c => { c with ofs := c.ofs - max (-16) (min 16 ofs) }))
  else .next s

/-! ### Leases and epochs (R316 to R322) -/

def leaseState (s : State) : Nat := s.fld CPL_LEASE CPL_LEASE_LSTATE

/-- While LEN = 1 and the lease is not held every leg is in SAFE (R318). -/
def settleLease (s : State) : State :=
  if s.flag CPL_LEASE CPL_LEASE_LEN && decide (leaseState s ≠ 1) then safeFor .lease (List.range 32) s
  else endCause .lease (List.range 32) s

/-- A renewal (R317, R318). -/
def renewLease (s : State) : State :=
  if s.flag CPL_LEASE CPL_LEASE_LEN && !s.cpl.uncoupled then
    let regained := decide (leaseState s = 2)
    let s := (s.setFld CPL_LEASE CPL_LEASE_LSTATE 1).updCpl (fun c => { c with renewAt := s.now })
    settleLease (if regained then cplLease s else s)
  else s

/-- 220 µs without a renewal (R317, R318). -/
def execLeaseExpiry (s : State) : Out :=
  if s.awake && s.flag CPL_LEASE CPL_LEASE_LEN && decide (leaseState s = 1) then
    settled (settleLease (cplLease (s.setFld CPL_LEASE CPL_LEASE_LSTATE 2)))
  else .next s

/-- This device may act as an authority (R316, R321). -/
def State.acts (s : State) : Bool := s.flag CPL_LEASE CPL_LEASE_AUTH && s.authority s.seat

/-- The grant mask of a sender (R316). -/
def State.grantMask (s : State) : Nat :=
  (List.range 32).foldl (fun m k =>
    if (decide (k + 1 = s.seat) || s.flag (CPL_ROUTE k) CPL_ROUTE_VALID) && !s.cpl.struck.getLsbD k then m + 2 ^ k else m) 0

/-- A LEASE frame with its heartbeat number (R316). -/
def sendLease (beat : Word) (s : State) : State :=
  sendOwn { cls := 0, dst := 63, kind := 0x09, arg := beat, payload := leBytes 4 s.grantMask ++ wordBytes s.cpl.struck } s

/-- The heartbeat of an authority (R316, R317). -/
def execLeaseHeartbeat (t : Nat) (s : State) : Out :=
  let s := s.at t
  if s.awake && s.hitched && s.acts && !s.cpl.listening then
    settled (renewLease (sendLease (word (s.fabric.toNat / (100 * usTaps))) s))
  else .next s

/-- An epoch is adopted (R319). -/
def adopt (e : Nat) (s : State) : State :=
  cplEpoch ((s.setFld CPL_ADDR CPL_ADDR_EPOCH e).updCpl (fun c => { c with adopted := true, adoptAt := s.now, listening := false }))

/-- Uncoupling (R320). -/
def uncouple (s : State) : State :=
  let s := (s.setFld CPL_LEASE CPL_LEASE_LSTATE 3).updCpl (fun c => { c with uncoupled := true })
  settleLease (cplLease (leaveSeat s))

/-- The masks of a LEASE frame (R316). -/
def leaseGrant (f : Frame) : Word := word (leNat (f.payload.take 4))
def leaseStruck (f : Frame) : Word := word (leNat ((f.payload.drop 4).take 4))

/-- A LEASE that is accepted renews (R317), uncouples a struck device (R320), and settles two simultaneous declarations
(R322): the authority with the higher seat advances the epoch once more. -/
def acceptLease (f : Frame) (differ : Bool) (s : State) : State :=
  let s := if s.acts && differ && decide (f.src.val < s.seat) then sendLease 0xFFFFFFFF (adopt ((s.epoch + 1) % 256) s) else s
  if seatIn (leaseGrant f) s.seat && !seatIn (leaseStruck f) s.seat then renewLease s else s

/-- A LEASE from an authority seat (R319). -/
def leaseArrived (f : Frame) (s : State) : State :=
  let a := s.ahead f
  let struckHere := seatIn (leaseStruck f) s.seat
  let finish := fun (t : State) => if struckHere then uncouple t else t
  if !s.cpl.adopted then
    finish ((adopt f.epoch.toNat s).updCpl (fun c => { c with struck := leaseStruck f }))
  else if a = 0 then
    let differ := decide (s.cpl.struck ≠ leaseStruck f)
    let s := s.updCpl (fun c => { c with struck := c.struck ||| leaseStruck f, listening := false })
    finish (acceptLease f differ s)
  else if a < 128 then
    finish (acceptLease f false ((adopt f.epoch.toNat s).updCpl (fun c => { c with struck := leaseStruck f })))
  else s

/-- A LEASE frame: of an authority seat, or like any other frame, without effect where it is accepted (R317, R319). -/
def execLease (f : Frame) (s : State) : Out :=
  settled (receive [0x09] f (fun s => if s.authority f.src then leaseArrived f s else epochCheck f id s) s)

/-- An UNCPL (R319, R320). -/
def execUncpl (f : Frame) (s : State) : Out :=
  settled (receive [0x0A] f (fun s =>
    let a := s.ahead f
    if s.cpl.adopted && decide (1 ≤ a) && decide (a < 128) && s.authority f.src then uncouple s else s) s)

/-- A declaration is refused (R321). -/
def State.declBad (s : State) (dseat : Nat) : Bool :=
  !s.acts || decide (dseat = 0) || decide (32 < dseat) || decide (dseat = s.seat) || seatIn s.cpl.struck dseat

/-- An accepted declaration (R321). -/
def declare (s : State) : State :=
  let d := s.fld CPL_LEASE CPL_LEASE_DSEAT
  let s := s.setFlag CPL_LEASE CPL_LEASE_DECL false
  let s := s.updCpl (fun c => { c with struck := c.struck ||| word (2 ^ (d - 1)) })
  sendLease 0xFFFFFFFF (adopt ((s.epoch + 1) % 256) s)

/-- A reset authority has heard no LEASE in 250 µs (R322). -/
def execAuthorityListenExpiry (s : State) : Out :=
  if s.awake && s.hitched && s.acts && s.cpl.listening then
    .next ((s.setFld CPL_ADDR CPL_ADDR_EPOCH 0).updCpl (fun c => { c with
      struck := 0, adopted := true, adoptAt := s.now, listening := false }))
  else .next s

end Sys2Proof.Machine
end

