-- ==== Sys2Proof/Machine/Memory.lean ====
section
/-! DEFINITION. The memories' own steps (R249 to R256): migration, scrubbing, clearing, programming of code NVM, and the
secure boot check. -/

namespace Sys2Proof.Machine

open Sys2Proof

/-! ### Spare rotation (R249, R250) -/

/-- Steps 1 and 2 of R250: the migration begins. -/
def migrationStart (s : State) : State := { s.setFlag MEM_SPARE MEM_SPARE_MIG true with migPtr := 0 }

/-- Step 3 of R250: the rest of the bank is copied, and the map switches; both banks hold the same words, so no word of the
address space changes. The released bank is then tested (step 4). -/
def execMigrationDone (s : State) : Out :=
  if s.awake && s.flag MEM_SPARE MEM_SPARE_MIG then
    let (src, down) := s.rotationSource
    let s := migCopy 65536 s
    let s := (s.setFld MEM_SPARE MEM_SPARE_SPARE src).setFlag MEM_SPARE MEM_SPARE_DOWN down
    let s := s.setFlag MEM_SPARE MEM_SPARE_MIG false
    .next ({ s with bist := .bank src }.setFlag BST_STAT BST_STAT_BUSY true)
  else .next s

/-- A failing bank becomes the permanent spare (R250, R291). -/
def retireBank (s : State) : State :=
  let s := (s.setFlag MEM_SPARE MEM_SPARE_RET true).setFlag MEM_SPARE MEM_SPARE_ROTEN false
  (s.sq MEM_STAT MEM_STAT_RETIRE).raise (evMem 3)

/-! ### Scrubbing and clearing (R251, R252) -/

/-- The scrubber reads a 64-bit word of main SRAM or Tandem RAM. -/
def execScrubber (tandem : Bool) (word : Nat) (finding : Ecc) (s : State) : Out :=
  let n := if tandem then 0x8000 else 0x100000
  if s.awake && decide (word < n) then
    let a := (if tandem then 0x10800000 else 0x10000000) + 8 * word
    .next (memCheck a finding (waitFor a s)).1
  else .next s

/-- The clearing of a memory ends (R252): those of the fast domain after a cold reset, the Lantern RAM after power-up. -/
def execMemoryClearDone (m : ClearMem) (s : State) : Out :=
  if (if m = .lantern then s.lanternUp else s.awake) then .next (waitCleared m s) else .next s

/-! ### Code NVM (R254) -/

/-- A command on the NVM is accepted. -/
def nvmStart (erase : Bool) (s : State) : State :=
  let a := s.fld MEM_NVADDR MEM_NVADDR_ADDR * 16
  let data := (List.range 4).map (fun k => s.rd (MEM_NVDATA k))
  let s := (s.setFlag MEM_NVSTAT MEM_NVSTAT_BUSY true).setFld MEM_NVSTAT MEM_NVSTAT_HALF (a / 0x800000)
  { s with nvm := some ⟨erase, a, data⟩ }

/-- The sector reads all ones. -/
def eraseSector (a : Nat) (s : State) : State :=
  { s with mem := s.mem.filter (fun c => !(decide (c.1 < 0x01000000) && decide (c.1 / 0x10000 = a / 0x10000))) }

/-- What a completed command has written; a read-back that differs leaves bytes that the spec does not state. -/
def nvmApply (op : NvmOp) (differs : Bool) (s : State) : State :=
  if op.erase then eraseSector op.addr s
  else if differs then
    (s.setBytes op.addr ((List.range 16).map (fun k => BitVec.ofNat 8 (Config.freeNat (s.draws + k))))).drew 16
  else s.setBytes op.addr (op.data.flatMap wordBytes)

/-- The command completes (R254). -/
def execNvmCommandDone (readBackDiffers : Bool) (s : State) : Out := match s.nvm with
  | none => .next s
  | some op =>
    let s := { nvmApply op readBackDiffers s with nvm := none }
    let s := (s.setFlag MEM_NVSTAT MEM_NVSTAT_BUSY false).sq MEM_NVSTAT MEM_NVSTAT_DONE
    if readBackDiffers && !op.erase then .next ((s.sq MEM_NVSTAT MEM_NVSTAT_ERR).raise (evMem 4)) else .next s

/-- A command that a reset cuts short has completed or has not: a free value (log entry 35). -/
def nvmAbort (s : State) : State := match s.nvm with
  | none => s
  | some op =>
    let s' := if Config.freeBool s.draws then nvmApply op false s else s
    { s'.drew 1 with nvm := none }

/-! ### Secure boot (R255) -/

/-- A run of zero bytes. -/
def State.zeroBytes (s : State) (a n : Nat) : Bool := (s.bytes a n).all (fun b => b = 0)

/-- The header of a slot is in range. -/
def State.headerOk (s : State) (base : Nat) : Bool :=
  let len := (s.word32 (base + 8)).toNat
  let entry := (s.word32 (base + 12)).toNat
  decide (s.word32 base = 0x564B494D) && decide (16 ≤ len) && decide (len ≤ 0x7FFF00) && decide (len % 16 = 0)
    && decide (0x100 ≤ entry) && decide (entry < 0x100 + len) && s.zeroBytes (base + 0x10) 0x30 && s.zeroBytes (base + 0xC0) 0x40

/-- A slot is valid. -/
def State.slotOk (s : State) (base : Nat) : Bool :=
  s.headerOk base
    && decide (beNat (sha256 (s.bytes (base + 0x40) 64)) = Config.otpKeyHash)
    && decide (Config.otpVersionFloor ≤ (s.word32 (base + 4)).toNat)
    && ecdsaVerify (beNat (s.bytes (base + 0x40) 32)) (beNat (s.bytes (base + 0x60) 32))
      (beNat (sha256 (s.bytes base 0x80 ++ s.bytes (base + 0x100) (s.word32 (base + 8)).toNat)))
      (beNat (s.bytes (base + 0x80) 32)) (beNat (s.bytes (base + 0xA0) 32))

/-- The chosen slot: the valid one of higher version, half 0 on a tie. -/
def State.bootSlot (s : State) : Option Nat :=
  let v := fun (k : Nat) => (s.word32 (k * 0x800000 + 4)).toNat
  match s.slotOk 0, s.slotOk 0x800000 with
  | true, true => some (if v 0 < v 1 then 1 else 0)
  | true, false => some 0
  | false, true => some 1
  | false, false => none

/-- A start-up test refuses the release of the Troika: captured once for each finding (R291, R382). -/
def refuseRelease (s : State) : State := capture 3 0 { s with bringup := { s.bringup with refused := true } }

/-- The tests that start at PLL lock may end (R288). -/
def State.testing (s : State) : Bool := s.awake && !s.troika.released && s.flag SYS_CLK SYS_CLK_CLOCK

/-- The boot check ends (R255, R291). -/
def execBootCheckDone (s : State) : Out :=
  if s.testing && !s.bringup.booted then
    let s := { s with bringup := { s.bringup with booted := true } }
    match s.bootSlot with
    | some k =>
      let e := word (k * 0x800000) + s.word32 (k * 0x800000 + 12)
      .next ({ s with bringup := { s.bringup with entry := e } }.setFld MEM_NVSTAT MEM_NVSTAT_SLOT k)
    | none => .next (refuseRelease ((s.setFlag MEM_NVSTAT MEM_NVSTAT_BOOTF true).setFlag BST_SU BST_SU_BOOT true))
  else .next s

end Sys2Proof.Machine
end

