-- ==== Sys2Proof/Machine/Thermal.lean ====
section
/-! DEFINITION. Temperature sensing and throttling (R351 to R355), and the periodic self-test (R358 to R360). -/

namespace Sys2Proof.Machine

open Sys2Proof

/-! ### Sensors (R351 to R353) -/

/-- The rise over the last 10 valid conversions in 0.1 °C, rounded down, zero for a fall, saturating (R352). -/
def riseOf (hist : List Int) : Nat :=
  match hist.head?, hist.getLast? with
  | some a, some b => if 10 ≤ hist.length then (clampI 0 255 ((a - b) * 5 / 2)).toNat else 0
  | _, _ => 0

/-- One sensor's conversion: none is an oscillator count out of range, or a bad trim entry. -/
def convertSensor (k : Nat) (r : Option Int) (s : State) : State :=
  let reg := THM_T k
  match r with
  | some t =>
    let h := (t :: (s.tm k).hist).take 10
    let s := s.updTm k (fun _ => { hist := h })
    let s := ((s.setFlag reg THM_T_VALID true).setFlag reg THM_T_FAULT false).setFldI reg THM_T_TEMP t
    s.setFld reg THM_T_RATE (riseOf h)
  | none =>
    let was := s.flag reg THM_T_FAULT
    let s := (s.updTm k (fun _ => {})).setFlag reg THM_T_FAULT true
    let s := s.setFld reg THM_T_RATE 0
    if was then s else s.sq THM_STAT THM_STAT_SFLT

/-- Sensor 15 as the Lantern domain holds it (R353). -/
def lanternSensor (r : Option Int) (s : State) : State := match r with
  | some t => s.updLan (fun l => { l with t15 := t, t15Valid := true, t15Fault := false })
  | none => s.updLan (fun l => { l with t15Fault := true })

/-- A sensor counts in maxima and thresholds. -/
def State.sensorValid (s : State) (k : Nat) : Bool := s.flag (THM_T k) THM_T_VALID && !s.flag (THM_T k) THM_T_FAULT

/-- THM_MAX: the highest valid reading and its sensor, the lowest number on a tie (R352). -/
def updateMax (s : State) : State :=
  let best := (List.range 16).foldl (fun (m : Option (Int × Nat)) k =>
    if s.sensorValid k then
      let t := s.sfld (THM_T k) THM_T_TEMP
      match m with
      | none => some (t, k)
      | some (u, _) => if u < t then some (t, k) else m
    else m) none
  match best with
  | some (t, k) => (s.setFldI THM_MAX THM_MAX_TEMP t).setFld THM_MAX THM_MAX_SENSOR k
  | none => s

/-! ### Throttling (R354, R355) -/

def State.throttle (s : State) : Nat := s.fld THM_STAT THM_STAT_LEVEL
def State.setThrottle (s : State) (n : Nat) : State := s.setFld THM_STAT THM_STAT_LEVEL n
def State.lmax (s : State) : Nat := s.fld THM_CTL THM_CTL_LMAX
def State.thmFrozen (s : State) : Bool := s.flag THM_CTL THM_CTL_FREEZE

/-- THM_MAX is at or above TWARN; at or below TWARN − THYS. -/
def State.tooHot (s : State) : Bool := decide (s.sfld THM_ABS THM_ABS_TWARN ≤ s.sfld THM_MAX THM_MAX_TEMP)
def State.coolEnough (s : State) : Bool :=
  decide (s.sfld THM_MAX THM_MAX_TEMP ≤ s.sfld THM_ABS THM_ABS_TWARN - (s.fld THM_ABS THM_ABS_THYS : Int))

/-- THM_MAX has risen to TWARN at level 0. -/
def absRise (s : State) : State :=
  let hot := s.tooHot
  let rises := hot && !s.thmHot && decide (s.throttle = 0)
  let s := { s with thmHot := hot }
  if rises then
    let s := (s.sq THM_STAT THM_STAT_ABS).raise (evMem 5)
    let s := { s with thmStepping := true }
    if s.thmFrozen || s.lmax = 0 then s else s.setThrottle 1
  else s

/-- A valid rate at or above RATE. -/
def rateRise (s : State) : State :=
  let hit := (List.range 16).any (fun k =>
    s.sensorValid k && decide (10 ≤ (s.tm k).hist.length) && decide (s.fld THM_CTL THM_CTL_RATE ≤ s.fld (THM_T k) THM_T_RATE))
  if s.flag THM_CTL THM_CTL_RATEEN && hit then
    let s := (s.sq THM_STAT THM_STAT_RATEF).raise (evMem 6)
    if s.flag THM_CTL THM_CTL_RATEACT && !s.thmFrozen then { s.setThrottle s.lmax with thmStepping := true } else s
  else s

/-- A conversion of the sensors (R351): all 16 in Stand and Drive, sensor 15 alone in the Lantern state. -/
def execSensorConversion (readings : List (Option Int)) (s : State) : Out :=
  let r := fun (k : Nat) => readings.getD k none
  if s.power = .lantern then .next (lanternSensor (r 15) s)
  else if s.awake then
    let s := lanternSensor (r 15) (each (List.range 16) (fun k t => convertSensor k (r k) t) s)
    .next (rateRise (absRise (updateMax s)))
  else .next s

/-- The carrier-derating request (R181, R355). -/
def derateAll (s : State) : State :=
  each (List.range 4) derateAxle ((s.sq THM_STAT THM_STAT_CDR).raise (evMem 7))

/-- A step of TSTEP ends (R355). -/
def execThrottleStepEnd (s : State) : Out :=
  if s.awake && s.thmStepping then
    let lvl := s.throttle
    let s :=
      if s.thmFrozen then s
      else if s.tooHot then
        if lvl < s.lmax then s.setThrottle (lvl + 1)
        else if lvl = s.lmax ∧ s.flag THM_CTL THM_CTL_CDREN then derateAll s else s
      else if s.coolEnough && decide (0 < lvl) then s.setThrottle (lvl - 1)
      else s
    .next (if s.throttle = 0 && !s.tooHot then { s with thmStepping := false } else s)
  else .next s

/-! ### Periodic self-test (R358 to R360) -/

/-- The kind of a slot: 0 core, 1 memory, 2 channel group. -/
def slotKind (n : Nat) : Nat := if n < 3 then 0 else if n < 139 then 1 else 2

/-- The slots of a kind are taken. -/
def State.kindOn (s : State) (k : Nat) : Bool :=
  if k = 0 then s.flag BST_CFG BST_CFG_CORE else if k = 1 then s.flag BST_CFG BST_CFG_MEM else s.flag BST_CFG BST_CFG_CHAN

/-- The first slot at or after n that the configuration takes. -/
def State.slotFrom (s : State) (n : Nat) : Option Nat :=
  (List.range 155).find? (fun k => decide (n ≤ k) && s.kindOn (slotKind k))

/-- A pass is complete (R358). -/
def passDone (s : State) : State := ((s.sq BST_STAT BST_STAT_DONE).rcWrap BST_CNT BST_CNT_PASSES).raise (evMem 8)

/-- BST_STAT.SLOT moves to the first slot from n that the configuration takes, over the end of the pass if need be. -/
def moveSlot (n : Nat) (s : State) : State := match s.slotFrom n with
  | some k => s.setFld BST_STAT BST_STAT_SLOT k
  | none =>
    let s := passDone s
    s.setFld BST_STAT BST_STAT_SLOT ((s.slotFrom 0).getD 0)

/-- A slice begins on a unit. -/
def sliceStart (u : BistUnit) (s : State) : State := { s with bist := u }.setFlag BST_STAT BST_STAT_BUSY true

/-- The core that waits for its recovery slice (R239). -/
def State.coreToTest (s : State) : Option (Fin 3) :=
  if s.troika.rejoinReady then none
  else ([0, 1, 2] : List (Fin 3)).find? (fun k => (s.fld TRK_STAT TRK_STAT_ISO).testBit k.val && s.troika.plannedIso ≠ some k)

/-- A slot that cannot start is deferred. -/
def deferSlot (s : State) : State := s.sq BST_STAT BST_STAT_SKIP

/-- A planned core slot (R359): at a WEV, the core is isolated without any finding. -/
def coreSlot (k : Fin 3) (s : State) : State :=
  if s.flag TRK_STAT TRK_STAT_DUAL || decide (s.outCores ≠ 0) then deferSlot s
  else match s.troika.wait with
    | .wev _ _ =>
      let s := (s.setFld TRK_STAT TRK_STAT_ISO (2 ^ k.val)).updTrk (fun t => { t with plannedIso := some k })
      sliceStart (.core k) (setDual s)
    | _ => s

/-- A memory slot: the first of each eight begins the rotation step, the others test its released bank. -/
def memorySlot (n : Nat) (s : State) : State :=
  if !s.flag MEM_SPARE MEM_SPARE_ROTEN || s.flag MEM_SPARE MEM_SPARE_RET then deferSlot s
  else if (n - 3) % 8 = 0 then migrationStart s
  else sliceStart (.bank (s.fld MEM_SPARE MEM_SPARE_SPARE)) s

/-- A slot of the pass. -/
def passSlot (s : State) : State := match s.slotFrom (s.fld BST_STAT BST_STAT_SLOT) with
  | none => moveSlot 155 s
  | some n =>
    let s := s.setFld BST_STAT BST_STAT_SLOT n
    if s.flag MEM_SPARE MEM_SPARE_MIG then deferSlot s
    else if n < 3 then coreSlot ⟨n % 3, Nat.mod_lt _ (by decide)⟩ s
    else if n < 139 then memorySlot n s
    else sliceStart (.group (n - 139)) s

/-- The slice interval brings a slot (R239, R358): an isolated core first. -/
def execBistSlotStart (s : State) : Out :=
  if !s.awake || s.flag BST_STAT BST_STAT_BUSY then .next s
  else match s.coreToTest with
    | some k => .next (sliceStart (.core k) s)
    | none =>
      if s.flag BST_CFG BST_CFG_EN && (s.kindOn 0 || s.kindOn 1 || s.kindOn 2) then .next (passSlot s) else .next s

/-- FAIL, its event, its first finding and the capture (R360). -/
def sliceFailed (kind index mask : Nat) (s : State) : State :=
  let s := if s.flag BST_STAT BST_STAT_FAIL then s
    else s.wr BST_RES (BST_RES_CHMASK.put (BST_RES_INDEX.put (BST_RES_KIND.put 0 kind) index) mask)
  capture 4 (evMem 9) ((s.sq BST_STAT BST_STAT_FAIL).raise (evMem 9))

/-- A core's slice ends (R239, R241, R359, R360): with an unconfirmed count that reaches UNCONF at a core isolated again a path
test is due. -/
def coreSliceDone (k : Fin 3) (pass : Bool) (s : State) : State :=
  let planned := decide (s.troika.plannedIso = some k)
  let ready := fun (t : State) => t.updTrk (fun x => { x with rejoinReady := true })
  if pass then
    if planned then ready s
    else
      let n := s.unconfOf k.val + 1
      let s := s.updTrk (fun t => { t with unconf := mset (fun _ => 0) t.unconf k.val n })
      let s := if 2 ≤ s.isosOf k.val ∧ s.fld TRK_CFG TRK_CFG_UNCONF ≤ n then s.updTrk (fun t => { t with pathTestDue := true }) else s
      if s.flag TRK_CFG TRK_CFG_REJEN then ready s else excludeCore k.val s
  else
    let s := s.updTrk (fun t => { t with plannedIso := none })
    sliceFailed 0 k.val 0 (excludeCore k.val (s.sq TRK_STAT TRK_STAT_BISTF))

/-- A failing channel of a group (R360): a mapped one fails its spare line, an unmapped one may not be mapped. -/
def channelFailed (c : Nat) (s : State) : State :=
  if s.chanEn c then delayLineSwap c false s else s.updCh c (fun x => { x with bstBad := true })

/-- The block reset of a channel of which the whole path was tested, so an unmapped one (R287, R359): its internal state and
its own registers, but no GDO, no pin level, and not what R360 holds until the next reset. -/
def resetChannel (c : Nat) (s : State) : State :=
  let pins := s.rd (GCH_STAT c) &&& (GCH_STAT_GAK.mask ||| GCH_STAT_GDO.mask)
  let s := s.updCh c (fun x => { pin := x.pin, bstBad := x.bstBad })
  (each ((List.range 10).map (fun k => GCH_CFG c + 4 * k)) (fun o t => t.wr o (regDefault o)) s).wr (GCH_STAT c) pins

/-- The channels of a group of which the whole path is tested (R359). -/
def State.wholeTested (s : State) (g : Nat) : List Nat :=
  ((List.range 16).map (fun i => 16 * g + i)).filter (fun c => !s.chanEn c)

/-- A channel group's slice ends (R287, R359, R360). -/
def groupSliceDone (g : Nat) (pass : Bool) (chmask : BitVec 16) (s : State) : State :=
  let t := if pass then s
    else sliceFailed 2 g chmask.toNat
      (each ((List.range 16).filter (fun i => chmask.getLsbD i)) (fun i t => channelFailed (16 * g + i) t) s)
  each (s.wholeTested g) resetChannel t

/-- A slice ends, with the failing channels of a group (R359, R360). -/
def execBistSliceDone (pass : Bool) (chmask : BitVec 16) (s : State) : Out :=
  if !s.awake || !s.flag BST_STAT BST_STAT_BUSY then .next s
  else
    let u := s.bist
    let recovery := match u with
      | .core k => decide (s.troika.plannedIso ≠ some k)
      | _ => false
    let s := ({ s with bist := .none }.setFlag BST_STAT BST_STAT_BUSY false).rcWrap BST_CNT BST_CNT_SLICES
    let s := match u with
      | .none => s
      | .core k => coreSliceDone k pass s
      | .bank b => if pass then s else sliceFailed 1 b 0 (retireBank s)
      | .group g => groupSliceDone g pass chmask s
    .next (if recovery then s else moveSlot (s.fld BST_STAT BST_STAT_SLOT + 1) s)

end Sys2Proof.Machine
end

