-- ==== Sys2Proof/Machine/Reset.lean ====
section
/-! DEFINITION. Reset and bring-up (R283 to R294): what a cold and a warm reset leave, the release, and the conditions of
the Troika's release. -/

namespace Sys2Proof.Machine

open Sys2Proof

/-! ### What each reset keeps (R286) -/

/-- Bits of a register that keep their value through a reset: those that show a level from outside, at both kinds, and
those that R286 and R368 name for a warm reset. -/
def keepBits (warm : Bool) (off : Nat) : Word :=
  let win := off / 0x10000
  if off = SYS_RSTCAUSE then 0xFFFFFFFF
  else if off = SYS_CLK then
    (if warm then SYS_CLK_XSRC.mask ||| SYS_CLK_XOK.mask ||| SYS_CLK_HOLDOVER.mask else SYS_CLK_XSRC.mask)
  else if off = PMU_SUP then PMU_SUP_VBKOK.mask ||| PMU_SUP_VBATOK.mask
  else if off = PMU_REGSTAT then PMU_REGSTAT_LIVE.mask
  else if off = SAFE_BRKSTAT then SAFE_BRKSTAT_FA.mask ||| SAFE_BRKSTAT_FB.mask ||| (if warm then SAFE_BRKSTAT_RELEASED.mask else 0)
  else if !warm then 0
  else if win = 23 ∨ off = BST_SU ∨ off = MEM_SPARE ∨ off = PMU_HCFG ∨ off = PMU_HEN then 0xFFFFFFFF
  else if (List.range 16).any (fun k => off = CMP_CFG k) then 0xFFFFFFFF
  else if (List.range 4).any (fun a => off = SAFE_TMSTAT a) then SAFE_TMSTAT_TRIP.mask
  else if off = SAFE_BRKCTL then SAFE_BRKCTL_REL.mask
  else if off = CPL_ADDR then CPL_ADDR_HEAD.mask
  else if win = 31 ∧ 0x100 ≤ off % 0x10000 then PMU_HSV_UV.mask
  else 0

/-- A register after a reset: the bits it keeps, else its card's. -/
def resetWord (warm : Bool) (off : Nat) (w : Word) : Word :=
  let k := keepBits warm off
  (w &&& k) ||| (regDefault off &&& ~~~ k)

/-- The registers after a reset, still in canonical form. -/
def resetRegs (warm : Bool) : FMap Word → FMap Word
  | [] => []
  | (off, w) :: m =>
    let v := resetWord warm off w
    if v = regDefault off then resetRegs warm m else (off, v) :: resetRegs warm m

/-- A state in which a reset is in effect (R283 to R286): the engines, the cores and the registers as the reset leaves
them; memory is cleared only later (R252), and only by a cold reset. -/
def resetState (warm : Bool) (s : State) : State :=
  let s := nvmAbort s
  { pending := s.pending, now := s.now, draws := s.draws, mem := s.mem, poison := s.poison, lan := s.lan,
    power := s.power, tripPins := s.tripPins, regs := resetRegs warm s.regs,
    chan := (s.chan.map (fun e => (e.1, ({ pin := e.2.pin } : ChanSt)))).filter (fun e => e.2 ≠ {}),
    sdd := (s.sdd.map (fun e => (e.1, ({ recent := e.2.recent, clk := e.2.clk } : SddSt)))).filter (fun e => e.2 ≠ {}),
    cpl := { ofs := -(s.now : Int) }, grdAt := s.now,
    enc := (s.enc.map (fun e => (e.1, { e.2 with lastAt := none }))).filter (fun e => e.2 ≠ {}),
    chop := if warm then { s.chop with on := false, warned := false } else {},
    brake := if warm then { outA := s.brake.outA, outB := s.brake.outB } else {},
    spareMem := s.spareMem,
    harnessAt := if warm then s.harnessAt else [],
    records := if warm then { prot := s.records.prot, harness := s.records.harness } else {},
    bringup := { active := some (if warm then .warm else .cold), causes := s.bringup.causes, cold := s.bringup.cold,
                 uncleared := if warm then s.bringup.uncleared
                   else [.mainSram, .tandem, .table] ++ s.bringup.uncleared.filter (fun m => m = .lantern) } }

/-! ### The keeper at a warm reset (R206) -/

/-- The phase legs of the Axles that run. -/
def State.runningLegs (s : State) : List Nat :=
  (List.range 24).filter (fun l => decide (s.legAxle l < 4) && s.running (s.legAxle l))

/-- The phase legs whose codes the keeper carries through a warm reset: those of running Axles, and every other one of an
Axle that is in SAFE already (R206, R286). -/
def State.keptLegs (s : State) : List Nat :=
  (List.range 24).filter (fun l => decide (s.legAxle l < 4) && (s.running (s.legAxle l) || decide (s.legSafe l ≠ 0)))

/-- The mapping of a held leg as the keeper takes it, and the registers that go on showing its levels and states. -/
def heldMap (s : State) (l : Nat) : List (Nat × Word) :=
  (LEG_CFG l, s.inForce (LEG_CFG l)) :: (s.chans (2 * l) ++ s.chans (2 * l + 1)).map (fun c => (GCH_CFG c, s.inForce (GCH_CFG c)))
def heldRegs (s : State) (l : Nat) : List (Nat × Word) :=
  [(LEG_STAT l, LEG_STAT_SAFE.put 0 (s.legSafe l)),
   (POS_STAT (2 * l), s.rd (POS_STAT (2 * l)) &&& 0x1FFF), (POS_STAT (2 * l + 1), s.rd (POS_STAT (2 * l + 1)) &&& 0x1FFF)]
  ++ (s.chans (2 * l) ++ s.chans (2 * l + 1)).map (fun c =>
    (GCH_STAT c, s.rd (GCH_STAT c) &&& (GCH_STAT_GAK.mask ||| GCH_STAT_GDO.mask ||| GCH_STAT_EXCLD.mask)))

/-- A warm reset takes effect: the phase legs of running Axles, and those in SAFE, stay in the keeper with their codes of
R204; with a running Axle KHOLD and KEEP_HOLD, which the reset itself raises (R206, log entries 91, 134). -/
def warmEnter (s : State) : State :=
  let ls := s.keptLegs
  if ls = [] then resetState true s
  else
    let holds := !s.runningLegs.isEmpty
    let codes := ls.map (fun l => (l, (s.legCode l).getD (if s.legSafe l = 0 then s.baseCode l else s.legSafe l)))
    let s1 := each codes (fun e t => t.updLg e.1 (fun x => { x with keptCode := e.2 })) s
    let s1 := safeFor .keeper ls s1
    let t := resetState true s1
    let t := each ls (fun l u =>
      let u := each (heldMap s1 l) (fun e v => { v with kept := minsert v.kept e.1 e.2 }) u
      let u := each (heldRegs s1 l) (fun e v => v.wr e.1 e.2) u
      let u := u.setLg l { causes := [.keeper], keptCode := (s1.lg l).keptCode }
      each [2 * l, 2 * l + 1] (fun p v => v.setPs p
        { fallAt := (s1.ps p).fallAt, shownOffAt := (s1.ps p).shownOffAt, asyncOn := (s1.ps p).asyncOn,
          sdtDone := (s1.ps p).sdtDone }) u) t
    if holds then raiseOnce (evProt 3) (t.sq PROT_STAT PROT_STAT_KHOLD) else t

/-! ### Causes (R283, R284) -/

/-- A reset cause is accepted: a cold one takes precedence over a warm one in effect, and every cause is remembered for
SYS_RSTCAUSE (R284, R294). -/
def resetCause (kind : ResetKind) (flag : Fld) (s : State) : State :=
  let s' := match kind, s.bringup.active with
    | .cold, some .cold => s
    | .cold, _ => resetState false s
    | .warm, none => warmEnter s
    | .warm, some _ => s
  { s' with bringup := { s'.bringup with causes := (if s.bringup.active.isSome then s.bringup.causes else 0) ||| flag.mask } }

/-- The fast domain has power. -/
def State.fastPower (s : State) : Bool := decide (s.power = .stand) || decide (s.power = .drive)

/-- A reset passes the device to Stand (R283). -/
def resetNow (kind : ResetKind) (flag : Fld) (s : State) : State :=
  if s.fastPower then { resetCause kind flag s with power := .stand } else s

/-- PORST_N low (R283). -/
def execPorstN (s : State) : Out := .next (resetNow .cold SYS_RSTCAUSE_PORST s)

/-- WRST_N low (R283). -/
def execWrstN (s : State) : Out := .next (resetNow .warm SYS_RSTCAUSE_WRST s)

/-- A detected loss of PLL-C or of PLL-P (R280). -/
def execPllCLoss (s : State) : Out :=
  if s.awake && s.flag SYS_CLK SYS_CLK_CLOCK then .next (resetNow .warm SYS_RSTCAUSE_CLKRST s) else .next s
def execPllPLoss (s : State) : Out :=
  if s.awake && s.flag SYS_CLK SYS_CLK_PLOCK then .next (resetNow .warm SYS_RSTCAUSE_CLKRST s) else .next s

/-- The 40 MHz reference has been lost for 1 ms (R280), also during a warm reset (R284). -/
def execHoldoverExpiry (s : State) : Out :=
  if s.fastPower && s.flag SYS_CLK SYS_CLK_HOLDOVER then
    .next (resetNow .warm SYS_RSTCAUSE_CLKRST (s.setFlag SYS_CLK SYS_CLK_HOLDOVER false))
  else .next s

/-! ### The release (R288, R294) -/

/-- SYS_RSTCAUSE in the release cycle (R294). -/
def rstCauseAt (kind : ResetKind) (causes old : Word) : Word :=
  let w := match kind with
    | .cold => causes
    | .warm => (old &&& 0xFFFF0000) ||| causes
  let w := SYS_RSTCAUSE_LAST.put w (match kind with | .cold => 1 | .warm => 2)
  seqFld.put w ((match kind with | .cold => 0 | .warm => seqFld.get old) + 1)

/-- Sensor 15 as the Lantern domain holds it shows in THM_T15 (R353). -/
def showT15 (s : State) : State :=
  let s := (s.setFlag (THM_T 15) THM_T_VALID s.lan.t15Valid).setFlag (THM_T 15) THM_T_FAULT s.lan.t15Fault
  s.setFldI (THM_T 15) THM_T_TEMP s.lan.t15

/-- The reset is released (R283, R288, R294): the harness record at a cold reset, the head pin, the persistent states that
registers show, the records, a torque-monitor trip that a warm reset has kept (R218), and every leg in SAFE for Stand;
`headLow` is the level of HEAD_N, which a cold reset samples (R368). -/
def releaseReset (kind : ResetKind) (headLow : Bool) (s : State) : State :=
  let cold := decide (kind = .cold)
  let cause := rstCauseAt kind s.bringup.causes (s.rd SYS_RSTCAUSE)
  let s := { s with bringup := { cold := cold, uncleared := s.bringup.uncleared } }
  let s := (s.wr SYS_RSTCAUSE cause).setFlag SYS_CLK SYS_CLK_DRAY true
  let s := if kind = .cold then s.setFlag CPL_ADDR CPL_ADDR_HEAD headLow else s
  let s := showProg (showT15 (onlyIf cold (fun t => harnessStarts t (loadHarness t)) s))
  let s := loadRecords cold s
  let s := each ((List.range 4).filter s.tmTrip) (fun a t => each (t.phaseLegs a) (addCause .tmTrip) t) s
  settleBrake (safeFor .stand (List.range 32) s)

/-- RESET_RELEASE. -/
def execResetRelease (headLow : Bool) (s : State) : Out := match s.bringup.active with
  | some kind => if s.fastPower then settled (releaseReset kind headLow s) else .next s
  | none => .next s

/-! ### Bring-up (R288 to R291) -/

/-- Dray service starts an Axle: its records are good, the sealed record is in force with its EN, and it has an enabled
HYS set (R289). -/
def State.drayStarts (s : State) (a : Nat) : Bool :=
  s.recordsGood && s.flag SAFE_SEALSTAT SAFE_SEALSTAT_RECOK && (s.monWord a 0).getLsbD 31 && !(s.setsOf a).isEmpty

/-- Dray service becomes available (R289). -/
def execDrayServiceAvailable (s : State) : Out :=
  if s.awake && !s.bringup.drayAvail then
    let s := { s with bringup := { s.bringup with drayAvail := true } }
    settled (settleSafe <| each ((List.range 4).filter s.drayStarts) (fun a t =>
      let t := t.setFlag (AXL_CTRL a) AXL_CTRL_RUN true
      startAxle a (t.updAx a (fun x => { x with onDray := true, drayStarted := true, startFrom := t.now }))) s)
  else .next s

/-- The 40 MHz reference is valid (R269, R280). -/
def execCrystalValid (s : State) : Out :=
  if s.fastPower then .next ((s.setFlag SYS_CLK SYS_CLK_XOK true).setFlag SYS_CLK SYS_CLK_HOLDOVER false) else .next s

/-- The reference is lost and the PLLs hold (R280). -/
def execReferenceLoss (s : State) : Out :=
  if s.fastPower && s.flag SYS_CLK SYS_CLK_XOK then
    .next ((s.setFlag SYS_CLK SYS_CLK_XOK false).setFlag SYS_CLK SYS_CLK_HOLDOVER true)
  else .next s

/-- PLL-T, PLL-C and PLL-P lock (R269, R279). -/
def execPllLock (s : State) : Out :=
  if s.awake && s.flag SYS_CLK SYS_CLK_XOK then
    .next (((s.setFlag SYS_CLK SYS_CLK_TLOCK true).setFlag SYS_CLK SYS_CLK_CLOCK true).setFlag SYS_CLK SYS_CLK_PLOCK true)
  else .next s

/-- PLL-S locks (R279). -/
def execPllSLock (s : State) : Out :=
  if s.awake && s.flag SYS_CLK SYS_CLK_SEN && s.flag SYS_CLK SYS_CLK_XOK then
    .next (s.setFlag SYS_CLK SYS_CLK_SLOCK true)
  else .next s

/-- PLL-S stops: the Coupler ports are lost (R280). -/
def pllSLost (s : State) : State := each s.upPorts portLost (s.setFlag SYS_CLK SYS_CLK_SLOCK false)

def execPllSLoss (s : State) : Out := if s.awake && s.flag SYS_CLK SYS_CLK_SLOCK then .next (pllSLost s) else .next s

/-- One core fails: excluded, with BISTF (R291). -/
def startupExclude (k : Nat) (s : State) : State :=
  excludeCore k (s.sq TRK_STAT TRK_STAT_BISTF)

/-- The core test is done: the cores that failed; with one excluded or none the path test has followed it, and its failing
steps are `pathFail` (R242, R244, R291). -/
def execCoreTestDone (cores : BitVec 3) (pathFail : BitVec 6) (s : State) : Out :=
  if s.testing && !s.bringup.coreTested then
    let s := { s with bringup := { s.bringup with coreTested := true } }
    let s := s.setFld BST_SU BST_SU_CORES cores.toNat
    let bad := (List.range 3).filter (fun k => cores.getLsbD k)
    if 2 ≤ bad.length then .next (refuseRelease s)
    else
      let s := s.setFlag BST_SU BST_SU_PATH (decide (pathFail ≠ 0))
      let s := match bad with
        | [k] => startupExclude k s
        | _ => s
      let s := (s.rc TRK_INJ TRK_INJ_RUNS).setFld TRK_INJ TRK_INJ_FAIL pathFail.toNat
      .next (if pathFail = 0 then s else refuseRelease (s.setFlag TRK_STAT TRK_STAT_INJF true))
  else .next s

/-- The memory test and the reclear are done, after a cold reset only: the banks that failed, Tandem RAM and table
memory (R291). -/
def execMemoryTestDone (banks : BitVec 17) (tandem table : Bool) (s : State) : Out :=
  if s.testing && s.bringup.cold && !s.bringup.memTested then
    let s := { s with bringup := { s.bringup with memTested := true } }
    let s := (s.setFld BST_SU BST_SU_BANKS banks.toNat).setFlag BST_SU BST_SU_TANDEM tandem
    let s := s.setFlag BST_SU BST_SU_TABLE table
    let bad := (List.range 17).filter (fun b => banks.getLsbD b)
    let s := match bad with
      | [b] => retireBank (s.setFld MEM_SPARE MEM_SPARE_SPARE b)
      | _ => s
    let s := waitCleared .table (waitCleared .tandem (waitCleared .mainSram s))
    let s := clearMemory .table (clearMemory .tandem (clearMemory .mainSram s))
    .next (if 2 ≤ bad.length ∨ tandem ∨ table then refuseRelease s else s)
  else .next s

/-- Every condition of R288 holds. -/
def State.releasable288 (s : State) : Bool :=
  let b := s.bringup
  s.awake && !s.troika.released && !b.refused && b.drayAvail && s.flag SYS_CLK SYS_CLK_TLOCK && s.flag SYS_CLK SYS_CLK_CLOCK
    && s.flag SYS_CLK SYS_CLK_PLOCK && b.coreTested && b.booted && (!b.cold || b.memTested)

/-- The Troika is released at the boot entry, whose bits [1:0] the PC does not hold (R47), and the device is in Full service (R48, R290): Axles that do not run and
legs of no Axle change to PLL-T at once. -/
def execTroikaRelease (s : State) : Out :=
  if s.releasable288 then
    let e := s.bringup.entry
    let s := s.updTrk (fun t => { t with released := true, vbaseWritten := false, core := { pc := e &&& 0xFFFFFFFC } })
    let s := s.setFlag SYS_STATE SYS_STATE_SERVICE true
    let s := each ((List.range 4).filter (fun a => !s.running a)) (fun a t => t.updAx a (fun x => { x with onDray := false })) s
    settled (settleSafe (drayFlag s))
  else .next s

end Sys2Proof.Machine
end

