-- ==== Sys2Proof/Machine/Power.lean ====
section
/-! DEFINITION. Power states, supplies, the Lantern domain's own steps and the Harness supplies (R264 to R278). -/

namespace Sys2Proof.Machine

open Sys2Proof

/-! ### Stand and Drive (R265, R266) -/

/-- Passage to Stand: every leg in SAFE (R23, R265), the commit watchdogs at zero (R17), and no catch begins any more (R189). -/
def enterStand (s : State) : State :=
  let s := ({ s with power := .stand }).setFld SYS_STATE SYS_STATE_STATE 2
  let s := each (List.range 4) (fun a t => t.updAx a (fun x => { x with wd := 0, catchPending := false })) s
  settleBrake (safeFor .stand (List.range 32) s)

/-- Passage to Drive: the gates are enabled. Axles that Dray service has started begin their catch at the next update
point, at the first such passage (R192, R289). -/
def enterDrive (s : State) : State :=
  let s := ({ s with power := .drive }).setFld SYS_STATE SYS_STATE_STATE 3
  let s := each ((List.range 4).filter (fun a => (s.ax a).drayStarted && s.running a && decide (s.hysMode a = 0)))
    (fun a t => t.updAx a (fun x => { x with catchPending := true })) s
  settleBrake (endCause .stand (List.range 32) s)

/-- VCORE or VIO is outside its operating range. -/
def State.railsBad (s : State) : Bool := decide (s.fld PMU_REGSTAT PMU_REGSTAT_LIVE % 4 ≠ 0)

/-- What R266 refuses in either service, as WHY. -/
def State.driveWhy (s : State) : Option Nat :=
  if !s.flag SAFE_SEALSTAT SAFE_SEALSTAT_RECOK then some 1
  else if s.flag SAFE_SEALSTAT SAFE_SEALSTAT_UNLOCKED then some 2
  else if s.railsBad || (!s.flag PMU_SUP PMU_SUP_VBATOK && !s.flag PMU_SUP PMU_SUP_VBKOK) then some 3
  else none

/-- A wake source is enabled (R267, R268). -/
def State.wakeEnabled (s : State) : Bool :=
  LAN_CTL_AEN.bit (s.lanW 0) || LAN_CTL_VBKEN.bit (s.lanW 0)
    || (List.range 4).any (fun k => (s.lanW 1).getLsbD (8 * k + 7))

/-- What R267 refuses, as WHY. -/
def State.lanternWhy (s : State) : Option Nat :=
  if s.power = .drive then some 7
  else if (List.range 4).any s.running then some 4
  else if s.flag PROT_DIS PROT_DIS_START then some 5
  else if !s.wakeEnabled && !LAN_CTL_RUN.bit (s.lanW 0) then some 6
  else none

/-- Why a request of SYS_STATE.REQ is refused, if it is (R265 to R267): a request for the state in force is not. -/
def State.reqWhy (s : State) (req : Nat) : Option Nat :=
  if req = 2 then (if !s.full then some 8 else if s.power = .drive then none else s.driveWhy)
  else if req = 3 then s.lanternWhy
  else none

/-- An accepted Lantern request (R267): BRK_A and BRK_B fall, whatever the speed, and LIX writes are refused from now on. -/
def lanternAsked (s : State) : State := dropBrake (s.updLan (fun l => { l with entering := true }))

/-- An accepted request. -/
def stateRequested (req : Nat) (s : State) : State :=
  if req = 1 then (if s.power = .drive then enterStand s else s)
  else if req = 2 then (if s.power = .drive then s else enterDrive s)
  else if req = 3 then lanternAsked s
  else s

/-- In Dray service the Guard's drive enable is the request (R265, R266); a refused one shows WHY and is repeated by the
next command. -/
def drayDrive (enable : Bool) (s : State) : State :=
  if s.full then s
  else if enable then
    if s.power = .drive then s
    else match s.driveWhy with
      | none => enterDrive s
      | some w => s.setFld SYS_STATE SYS_STATE_WHY w
  else if s.power = .drive then enterStand s else s

/-! ### The Lantern state, Off and waking (R265 to R269, R274, R275) -/

/-- The fast domain without power (R264): what a cold reset leaves, with GDO, BRK_A, BRK_B and DIS_EN unpowered. -/
def fastOff (s : State) : State :=
  let t := resetState false s
  { t with bringup := { uncleared := t.bringup.uncleared.filter (fun m => m = .lantern) },
           lan := { t.lan with entering := false }, power := .lantern }

/-- The Lantern state is reached; a wake held since the request acts now (R267). -/
def reachLantern (s : State) : State :=
  let held := s.lan.wakeHeld
  let s := (fastOff s).updLan (fun l => { l with wakeHeld := false })
  if held then fastWakes ([.mainSram, .tandem, .table] ++ s.bringup.uncleared) s else s

/-- LANTERN_REACHED (R267). -/
def execLanternReached (s : State) : Out :=
  if s.fastPower && s.lan.entering && s.lan.prog.isEmpty then .next (reachLantern s) else .next s

/-- The ORed rail has fallen below 4.5 V (R275). -/
def execFastDomainOff (s : State) : Out := if s.fastPower then .next (reachLantern s) else .next s

/-- Words of a persistent programming cut short hold the old or the new value (R43): a free value. -/
def cutProg (s : State) : State := match s.lan.prog with
  | [] => s
  | p :: _ =>
    let s' := if Config.freeBool s.draws then s else s.setLanW p.addr p.old
    (s'.drew 1).updLan (fun l => { l with prog := [] })

/-- A black-box record cut short: the words before a free point hold their new values (R383). -/
def cutRecord (s : State) : State := match s.lan.bb with
  | [] => s
  | c :: _ =>
    let n := Config.freeNat s.draws % 19
    let s' := each ((bbWrites s c).take n) (fun e t => t.setLanW e.1 e.2) s
    (s'.drew 1).updLan (fun l => { l with bb := [] })

/-- Lantern words that keep their contents without power: the Waybill, the wear counters, the change log and the black
box (R43). -/
def persistentWord (w : Nat) : Bool := decide (0x1000 ≤ w)

/-- Off (R274): the Lantern domain has no power. -/
def execSupplyLoss (s : State) : Out :=
  if s.power = .off then .next s
  else
    let s := cutRecord (cutProg (if s.fastPower then fastOff s else s))
    .next { s with power := .off, bringup := {},
                   lan := { words := s.lan.words.filter (fun e => persistentWord e.1), logNum := s.lan.logNum } }

/-- Power-up from Off (R265, R270): first the Lantern domain, then the fast domain in a cold reset. -/
def execPowerUp (s : State) : Out :=
  if s.power = .off then
    .next (fastWakes [.mainSram, .tandem, .table, .lantern] s)
  else .next s

/-- The alarm matches (R268). -/
def State.alarmDue (s : State) : Bool := LAN_CTL_AEN.bit (s.lanW 0) && decide (s.lanW 3 = s.lanW 4)

/-- An enabled wake source is accepted (R268). -/
def execWake (w : WakeSrc) (s : State) : Out :=
  if !s.lanternUp then .next s
  else match w with
    | .pin k => if (s.lanW 1).getLsbD (8 * k.val + 7) then .next (acceptWake (LAN_WSTAT_PIN k) s) else .next s
    | .alarm => if s.alarmDue then .next (acceptWake LAN_WSTAT_ALARM s) else .next s
    | .vbk => if LAN_CTL_VBKEN.bit (s.lanW 0) then .next (acceptWake LAN_WSTAT_VBK s) else .next s
    | .lanternCore =>
      if s.power = .lantern && LAN_CTL_RUN.bit (s.lanW 0) then .next (acceptWake LAN_WSTAT_LCORE s) else .next s

/-- LAN_TIME advances by one second (R272); an alarm match wakes. -/
def execLanTimeIncrement (s : State) : Out :=
  if s.lanternUp then
    let s := s.setLanW 3 (s.lanW 3 + 1)
    .next (if s.alarmDue then acceptWake LAN_WSTAT_ALARM s else s)
  else .next s

/-- The 32.768 kHz crystal qualifies or stops (R272). -/
def execX32ok (qualified : Bool) (s : State) : Out :=
  if s.lanternUp && (!qualified || LAN_CLK_X32EN.bit (s.lanW 5)) then .next (s.setLanF 5 LAN_CLK_X32OK (b2n qualified))
  else .next s

/-! ### The Lantern core's commands (R270, R271) -/

/-- LAN_IMGDATA written through the LIX pair; refused with DENY while RUN = 1 (R270). -/
def execLanImgdataWrite (data : Word) (s : State) : Out :=
  if s.awake then .next (lanWrite (.lix LIX_DATA) 7 data s) else .next s

/-- RUN written through the LIX pair: 1 and 0 (R270); refused with DENY after an accepted Lantern request (R267). -/
def runCmd (run : Bool) (s : State) : State :=
  if s.lan.entering then lanDeny (.lix LIX_DATA) false s else lanRunWrite run s

def execLanRun (s : State) : Out := if s.awake then .next (runCmd true s) else .next s
def execLanStop (s : State) : Out := if s.awake then .next (runCmd false s) else .next s

/-- A mailbox write (R271). -/
def execLanMbox (w : MboxWrite) (s : State) : Out := match w with
  | .lixSet d => if s.awake then .next (lanWrite (.lix LIX_DATA) 0x200 d s) else .next s
  | .coreClear d => if s.lanIssues then .next (lanWrite .core 0x200 d s) else .next s
  | .coreRaise d => if s.lanIssues then .next (lanWrite .core 0x20F d s) else .next s

/-- The Lantern core writes SLEEP = 1 (R271). -/
def execLanSleep (s : State) : Out := if s.lanIssues then .next (lanSleep s) else .next s

/-! ### Supplies (R275) -/

def pmuSupply (s : State) : State := s.raise (evMem 12)

/-- The ORed rail has stayed below 5.0 V (R275): PFAIL in the Lantern domain; with the fast domain powered every leg in SAFE,
PMU_SUPPLY and a capture. -/
def execPfail (s : State) : Out :=
  if !s.lanternUp then .next s
  else
    let s := wakeLantern (s.lanSq 2 LAN_WSTAT_PFAIL)
    if !s.fastPower then .next s
    else
      let s := pmuSupply s
      settled (capture 2 0 (onlyIf s.awake (safeFor .pfail (List.range 32)) s))

/-- VBAT has stayed below 5.5 V; reported where VBK is good (R275). -/
def execBatlow (s : State) : Out :=
  if s.awake then
    let s := s.setFlag PMU_SUP PMU_SUP_VBATOK false
    .next (if s.flag PMU_SUP PMU_SUP_VBKOK then pmuSupply (s.sq PMU_SUP PMU_SUP_BATLOW) else s)
  else .next s

/-- VBK has fallen below 8.5 V; reported where it was enabled and VBAT is good (R275). -/
def execBklow (s : State) : Out :=
  if s.awake then
    let was := s.flag PMU_SUP PMU_SUP_VBKOK || s.lan.vbkSeen
    let s := s.setFlag PMU_SUP PMU_SUP_VBKOK false
    .next (if s.flag PMU_SUP PMU_SUP_VBATOK && was then pmuSupply (s.sq PMU_SUP PMU_SUP_BKLOW) else s)
  else .next s

/-- The bit of a rail in PMU_REGSTAT. -/
def railBit : Rail → Nat
  | .vcore => 0
  | .vio => 1
  | .vsns => 2
  | .v18 => 3

/-- A rail has been outside its operating range for 2 µs (R275); VCORE and VIO take Drive to Stand, and outside the reset
window they reset the fast domain, also where a warm reset is in effect (R284). -/
def execPmuReg (r : Rail) (resetWindow : Bool) (s : State) : Out :=
  if !s.fastPower then .next s
  else
    let b := railBit r
    let s := s.setFld PMU_REGSTAT PMU_REGSTAT_LIVE (s.fld PMU_REGSTAT PMU_REGSTAT_LIVE ||| 2 ^ b)
    let s := (s.sqMask PMU_REGSTAT (word (2 ^ (20 + b)))).raise (evMem 11)
    let s := if b < 2 ∧ s.power = .drive then enterStand s else s
    if b < 2 ∧ resetWindow then settled (resetNow .cold SYS_RSTCAUSE_REGRST s) else settled s

/-- A supply becomes good again (R275); with it PFAIL's hold of the legs ends, under R19 (log entry 37). -/
def execSupplyGood (x : Supply) (s : State) : Out :=
  if !s.fastPower then .next s
  else match x with
    | .vbat => settled (endCause .pfail (List.range 32) (s.setFlag PMU_SUP PMU_SUP_VBATOK true))
    | .vbk =>
      let s := s.updLan (fun l => { l with vbkSeen := true })
      settled (endCause .pfail (List.range 32) (s.setFlag PMU_SUP PMU_SUP_VBKOK true))
    | .rail r =>
      .next (s.setFld PMU_REGSTAT PMU_REGSTAT_LIVE (s.fld PMU_REGSTAT PMU_REGSTAT_LIVE &&& (15 - 2 ^ railBit r)))

/-! ### Harness supplies (R276, R277) -/

/-- A millisecond in taps. -/
def msTaps : Nat := 25600000

/-- A Harness rail falls below its threshold (R277), after the controller's 1 ms start. -/
def execPmuHuv (h : Fin 36) (t : Nat) (s : State) : Out :=
  let s := s.at t
  if s.awake && s.harnessOn h && decide (mget (fun _ => 0) s.harnessAt h + msTaps ≤ s.now) then
    let s := s.setFlag (PMU_HSV h) PMU_HSV_UV true
    .next ((s.sqMask (PMU_HUV (h.val / 24)) (word (2 ^ (h.val % 24)))).raise (evMem 10))
  else .next s

end Sys2Proof.Machine
end

