-- ==== Sys2Proof/Machine/Guard.lean ====
section
/-! DEFINITION. The Guard (R326 to R337): frames, reception, resynchronisation, commands, expiry, and the hand-over of its
frames to the CAN queues, the Ethernet MAC and the Coupler (R335, R340, R349). -/

namespace Sys2Proof.Machine

open Sys2Proof

/-! ### The CAN transmit queue (R340, R345) -/

/-- A flag of CAN_STAT sets and the controller's event is raised (R345). -/
def canFlag (n : Nat) (f : Fld) (s : State) : State := (s.sq (CAN_STAT n) f).raise (evCom (4 + n))

/-- The transmit queue of a controller, with its level shown. -/
def setCanTx (n : Nat) (q : List CanEntry) (s : State) : State :=
  (s.updCn n (fun x => { x with tx := q })).setFld (CAN_TXCTL n) CAN_TXCTL_LEVEL q.length

/-- The head leaves a controller's transmit queue: the Guard connection that waited with it is no longer BUSY (R334, R340,
log entry 108). -/
def popCan (n : Nat) (s : State) : State := match (s.cn n).tx with
  | [] => s
  | e :: rest =>
    let s := setCanTx n rest s
    match e.conn with
    | some c => s.setFlag (GRD_TXCTL c) GRD_TXCTL_BUSY false
    | none => s

/-- A controller takes part in the bus: enabled or with its last frame in progress, with a valid reference, and not in
bus-off (R338, R339). -/
def State.canActive (s : State) (n : Nat) : Bool :=
  s.awake && (s.flag (CAN_CFG n) CAN_CFG_EN || (s.cn n).lastFrame) && s.flag SYS_CLK SYS_CLK_XOK && decide (s.fld (CAN_ERR n) CAN_ERR_STATE ≠ 2)

/-! ### Guard frames (R326, R327) -/

/-- Guard time (R330): 10 µs of 256,000 taps since the last reset. -/
def State.grdTime (s : State) : Nat := (s.now - s.grdAt) / 256000

/-- A Guard frame with its CRC under an identity (R326, R327). -/
def guardFrame (ident : Word) (cid seq dl : Nat) (payload : List Byte) : List Byte :=
  let body := leBytes 2 cid ++ leBytes 2 seq ++ leBytes 2 dl ++ payload
  body ++ wordBytes (crc32cFrom ident body)

/-- Little-endian number of some bytes of a frame. -/
def bytesAt (bs : List Byte) (at_ n : Nat) : Nat := leNat ((bs.drop at_).take n)

/-! ### Carriers (R334, R335) -/

/-- Data lengths of CAN FD (R335, R346). -/
def fdLens : List Nat := [0, 1, 2, 3, 4, 5, 6, 7, 8, 12, 16, 20, 24, 32, 48, 64]

/-- Bytes padded with zeros to a length. -/
def padTo (n : Nat) (bs : List Byte) : List Byte := bs ++ List.replicate (n - bs.length) 0

/-- The CAN identifier of an ADR word in the place of CanFrame.id: the identifier itself, base or extended (R335). -/
def adrId (ide : Bool) (addr : Nat) : BitVec 29 := BitVec.ofNat 29 (if ide then addr else addr % 2 ^ 11 * 2 ^ 18)

/-- CAN takes a Guard frame into its queue as an FD frame, its bit-rate switch a free value (log entry 38); none where it
cannot (R334, R340). `data`: a data frame, for which the connection is BUSY while it waits there (R340). -/
def canCarry (n p : Nat) (data : Bool) (bytes : List Byte) (s : State) : Option State :=
  let q := (s.cn n).tx
  if s.flag (CAN_CFG n) CAN_CFG_EN && decide (q.length < 32) then
    let len := (fdLens.find? (fun x => decide (bytes.length ≤ x))).getD 64
    let ide := s.flag (GRD_TXADR p) GRD_TXADR_IDE
    let f : CanFrame := { ide := ide, fdf := true, brs := Config.freeBool s.draws,
                          id := adrId ide (s.fld (GRD_TXADR p) GRD_TXADR_ADDR), data := padTo len bytes }
    let e : CanEntry := { frame := f, conn := if data then some (Fin.ofNat 8 p) else none }
    let s := setCanTx n (q ++ [e]) (s.drew 1)
    some (if data then s.setFlag (GRD_TXCTL p) GRD_TXCTL_BUSY true else s)
  else none

/-- The Ethernet MAC takes a Guard frame for the next frame boundary (R349). -/
def ethCarry (bytes : List Byte) (s : State) : Option State :=
  if s.flag ETH_CFG ETH_CFG_EN && s.flag ETH_STAT ETH_STAT_LINK then
    some { s with eth := { s.eth with guardQ := s.eth.guardQ ++ [padTo 46 bytes] } }
  else none

/-- The Coupler takes a Guard frame while the device holds a seat with a route (R335). -/
def cplCarry (p : Nat) (bytes : List Byte) (s : State) : Option State :=
  let cls := if bytes.length ≤ 32 then 0 else 1
  let dst := s.fld (GRD_TXADR p) GRD_TXADR_ADDR % 64
  if s.seat ≠ 0 ∧ (s.cpl.queue cls).length < 16 ∧ s.outPorts dst 4 ≠ [] then
    some (s.updCpl (fun c => c.setQueue cls (c.queue cls ++ [{ cls := cls, dst := dst, kind := 0x08, payload := bytes }])))
  else none

/-- Hand a frame to the carrier of transmit connection p (R334): NSENT counts it, or LOST is set. -/
def handOver (p : Nat) (data : Bool) (bytes : List Byte) (s : State) : State :=
  let carr := s.fld (GRD_TXCFG p) GRD_TXCFG_CARR
  let taken := if !s.flag (GRD_TXCFG p) GRD_TXCFG_EN then none
    else if carr < 4 then canCarry carr p data bytes s
    else if carr = 4 then ethCarry bytes s
    else if carr = 5 then cplCarry p bytes s
    else none
  match taken with
  | some t => (t.setFlag (GRD_TXCTL p) GRD_TXCTL_LOST false).setFld (GRD_TXSEQ p) GRD_TXSEQ_NSENT
      (t.fld (GRD_TXSEQ p) GRD_TXSEQ_NSENT + 1)
  | none => s.setFlag (GRD_TXCTL p) GRD_TXCTL_LOST true

/-! ### Transmission (R334) -/

/-- The number after one along the cycle of R326. -/
def seqAfter (n : Nat) : Nat := if 65535 ≤ n then 1 else n + 1

/-- A write to GRD_TXCTL is refused (R334). -/
def State.txctlRefused (s : State) (c : Nat) (w : Word) : Bool :=
  let len := GRD_TXCTL_LEN.get w
  let dlv := GRD_TXCTL_DLV.get w
  s.flag (GRD_TXCTL c) GRD_TXCTL_BUSY || decide (48 < len) || decide (len = 8) || decide (dlv = 0) || decide (32767 < dlv)

/-- GRD_TXCTL has been written: a data frame is sent (R334). -/
def guardLaunch (c : Nat) (s : State) : State :=
  let w := s.rd (GRD_TXCTL c)
  let seq := seqAfter (s.fld (GRD_TXSEQ c) GRD_TXSEQ_LAST)
  let payload := ((List.range 12).flatMap (fun k => wordBytes (s.rd (GRD_TXDATA c k)))).take (GRD_TXCTL_LEN.get w)
  let dl := (s.grdTime + GRD_TXCTL_DLV.get w) % 65536
  let f := guardFrame (s.rd (GRD_TXID c)) (s.fld (GRD_TXCFG c) GRD_TXCFG_CID) seq dl payload
  handOver c true f (s.setFld (GRD_TXSEQ c) GRD_TXSEQ_LAST seq)

/-! ### Flags and states -/

def grdNEW : Nat := 0
def grdWAIT : Nat := 1
def grdLIVE : Nat := 2

def State.grdState (s : State) (c : Nat) : Nat := s.fld (GRD_RXSTAT c) GRD_RXSTAT_STATE
def State.grdEn (s : State) (c : Nat) : Bool := s.flag (GRD_RXCFG c) GRD_RXCFG_EN
def State.grdCmd (s : State) (c : Nat) : Bool := s.flag (GRD_RXCFG c) GRD_RXCFG_CMD
def State.grdAxl (s : State) (c : Nat) : Nat := s.fld (GRD_RXCFG c) GRD_RXCFG_AXL

/-- CRCF and GRD_CRC (R328, R329). -/
def crcFail (c : Nat) (s : State) : State := (s.sq (GRD_RXSTAT c) GRD_RXSTAT_CRCF).raise (evCom 3)

/-- SEQREF and GRD_SEQ (R329). -/
def seqRefused (c : Nat) (s : State) : State := (s.sq (GRD_RXSTAT c) GRD_RXSTAT_SEQREF).raise (evCom 2)

/-! ### Resynchronisation (R331) -/

/-- 10 ms have passed since the connection's latest request. -/
def State.mayRequest (s : State) (c : Nat) : Bool := match (s.gr c).reqAt with
  | none => true
  | some t => decide (t + 1000 ≤ s.grdTime)

/-- A request on the PAIR transmit connection; one that is disabled sends nothing. `wait`: the state becomes WAIT. -/
def sendRequest (c : Nat) (wait : Bool) (s : State) : State :=
  let p := s.fld (GRD_RXCFG c) GRD_RXCFG_PAIR
  if !s.flag (GRD_TXCFG p) GRD_TXCFG_EN then s
  else
    let now := s.grdTime
    let payload := [1, 0] ++ leBytes 2 (s.fld (GRD_RXCFG c) GRD_RXCFG_CID) ++ leBytes 4 now
    let f := guardFrame (s.rd (GRD_TXID p)) (s.fld (GRD_TXCFG p) GRD_TXCFG_CID) 0 (now % 65536) payload
    let s := s.updGr c (fun x => { x with challenge := some (word now), reqAt := some now, asked := false })
    handOver p false f (if wait then s.setFld (GRD_RXSTAT c) GRD_RXSTAT_STATE grdWAIT else s)

/-- A refused frame asks for a request, sent at once unless the spacing holds it back. -/
def askRequest (c : Nat) (s : State) : State :=
  if s.mayRequest c then sendRequest c true s else s.updGr c (fun x => { x with asked := true })

/-- RESYNC_REQUEST_SEND: a request held back, or the periodic one of RSYP while LIVE. -/
def execResyncRequestSend (c : Fin 8) (t : Nat) (s : State) : Out :=
  let s := s.at t
  if !s.awake || !s.grdEn c || !s.mayRequest c then .next s
  else if (s.gr c).asked then .next (sendRequest c true s)
  else if s.grdState c = grdLIVE ∧ s.fld (GRD_RXDL c) GRD_RXDL_RSYP ≠ 0 then .next (sendRequest c false s)
  else .next s

/-- Base S of an answer (R331): TXSEQ.LAST; before the first data frame its predecessor along the cycle. -/
def State.baseS (s : State) (p : Nat) : Nat :=
  let last := s.fld (GRD_TXSEQ p) GRD_TXSEQ_LAST
  if last = 0 then 65535 else last

/-- A request received (R331): answered on the enabled transmit connection that it names. -/
def answerRequest (payload : List Byte) (s : State) : State :=
  let named := fun p => s.flag (GRD_TXCFG p) GRD_TXCFG_EN && decide (s.fld (GRD_TXCFG p) GRD_TXCFG_CID = bytesAt payload 2 2)
  match (List.range 8).find? named with
  | none => s
  | some p =>
    let pl := [2, 0] ++ leBytes 2 (s.baseS p) ++ (payload.drop 4).take 4
    handOver p false (guardFrame (s.rd (GRD_TXID p)) (s.fld (GRD_TXCFG p) GRD_TXCFG_CID) 0 (s.grdTime % 65536) pl) s

/-- An answer received (R331). -/
def takeAnswer331 (c dl : Nat) (payload : List Byte) (s : State) : State :=
  let base := bytesAt payload 2 2
  let good := match (s.gr c).challenge with
    | none => false
    | some ch => decide (bytesAt payload 4 4 = ch.toNat) && decide (base ≠ 0)
        && decide (s.grdTime - ch.toNat ≤ s.fld (GRD_RXDL c) GRD_RXDL_RTTMAX)
  if good then
    let ofs := (dl + 65536 - s.grdTime % 65536) % 65536
    let s := (s.setFld (GRD_RXSEQ c) GRD_RXSEQ_LAST base).setFld (GRD_RXSEQ c) GRD_RXSEQ_OFFSET ofs
    let s := s.updGr c (fun x => { x with challenge := none, asked := false, refusals := 0 })
    ((s.setFld (GRD_RXSTAT c) GRD_RXSTAT_STATE grdLIVE).sq (GRD_RXSTAT c) GRD_RXSTAT_RSYNC).raise (evCom 2)
  else s.sq (GRD_RXSTAT c) GRD_RXSTAT_SEQREF

/-- A resynchronisation frame by its first payload byte (R331). -/
def resyncFrame (c dl : Nat) (payload : List Byte) (s : State) : State :=
  if payload.getD 1 0 ≠ 0 then s
  else if payload.getD 0 0 = 1 then answerRequest payload s
  else if payload.getD 0 0 = 2 then takeAnswer331 c dl payload s
  else s

/-! ### Commands (R332, R333) -/

/-- A payload that R332 refuses. -/
def payloadBad (pl : List Byte) : Bool :=
  decide ((word (bytesAt pl 4 4)).toInt < (word (bytesAt pl 8 4)).toInt) || decide (8 ≤ bytesAt pl 12 1) || decide (bytesAt pl 13 3 ≠ 0)

/-- Some Axle's command in force carries drive enable. -/
def State.anyDrv (s : State) : Bool := (List.range 4).any s.grdDrv

/-- An accepted command replaces the Axle's, and clears EXP and ZERO; its drive enable is the request in Dray service. -/
def takeCommand (c : Nat) (pl : List Byte) (s : State) : State :=
  let a := s.grdAxl c
  let s := s.wr (GRD_CMDSET a) (word (bytesAt pl 0 4))
  let s := s.wr (GRD_CMDMAX a) (word (bytesAt pl 4 4))
  let s := s.wr (GRD_CMDMIN a) (word (bytesAt pl 8 4))
  let s := s.setFld (GRD_CMDFLG a) GRD_CMDFLG_FLAGS (bytesAt pl 12 1)
  let s := (s.setFlag (GRD_RXSTAT c) GRD_RXSTAT_EXP false).setFlag (GRD_RXSTAT c) GRD_RXSTAT_ZERO false
  settleBrake (drayDrive s.anyDrv s)

/-- The payload of an accepted frame in GRD_RXDATA. -/
def showData (c : Nat) (pl : List Byte) (s : State) : State :=
  each (List.range 12) (fun k t => t.wr (GRD_RXDATA c k) (word (bytesAt pl (4 * k) 4))) s

/-- An accepted data frame (R329). -/
def acceptData (c seq delta : Nat) (pl : List Byte) (s : State) : State :=
  let s := s.updGr c (fun x => { x with expiry := some (s.grdTime + delta), refusals := 0 })
  let s := s.setFld (GRD_RXSEQ c) GRD_RXSEQ_LAST seq
  let s := s.setFld (GRD_RXSTAT c) GRD_RXSTAT_ACNT (s.fld (GRD_RXSTAT c) GRD_RXSTAT_ACNT + 1)
  let s := if pl = [] then s else showData c pl s
  let s := if s.grdCmd c then (if pl = [] then s else takeCommand c pl s)
    else s.setFlag (GRD_RXSTAT c) GRD_RXSTAT_EXP false
  s.raise (evCom 0)

/-- Steps from LAST to SEQ along the cycle of R326. -/
def seqSteps (last seq : Nat) : Nat := (seq + 65535 - last) % 65535

/-- δ of R330 as a signed number. -/
def State.delta (s : State) (c dl : Nat) : Int :=
  (BitVec.ofNat 16 dl - BitVec.ofNat 16 (s.fld (GRD_RXSEQ c) GRD_RXSEQ_OFFSET) - BitVec.ofNat 16 s.grdTime).toInt

/-- A data frame that passes R328 (R329, R330). -/
def dataFrame (c seq dl : Nat) (pl : List Byte) (s : State) : State :=
  if s.grdCmd c && !pl.isEmpty && payloadBad pl then crcFail c s
  else if s.grdState c ≠ grdLIVE then askRequest c (seqRefused c s)
  else
    let d := seqSteps (s.fld (GRD_RXSEQ c) GRD_RXSEQ_LAST) seq
    if d = 0 then s
    else if s.fld (GRD_RXTIM c) GRD_RXTIM_WIN < d then
      let n := (s.gr c).refusals + 1
      let s := seqRefused c (s.updGr c (fun x => { x with refusals := n }))
      if 3 ≤ n ∨ s.flag (GRD_RXSTAT c) GRD_RXSTAT_EXP then askRequest c s else s
    else
      let x := s.delta c dl
      if 1 ≤ x ∧ x ≤ s.fld (GRD_RXDL c) GRD_RXDL_DMAX then acceptData c seq x.toNat pl s
      else (s.sq (GRD_RXSTAT c) GRD_RXSTAT_LATE).raise (evCom 2)

/-! ### Reception (R328, R335) -/

/-- A length that makes a frame of carrier payload `bs` check (R328). -/
def State.lenFits (s : State) (c : Nat) (bs : List Byte) (len : Nat) : Bool :=
  let l := bs.length
  let exact := decide (s.fld (GRD_RXCFG c) GRD_RXCFG_CARR = 5)
  let seq := bytesAt bs 2 2
  decide (10 + len ≤ l)
    && decide (crc32cFrom (s.rd (GRD_RXID c)) (bs.take (6 + len)) = word (bytesAt bs (6 + len) 4))
    && (if exact then decide (l = 10 + len) else (bs.drop (10 + len)).all (fun b => b = 0))
    && (decide (seq = 0) == decide (len = 8))

/-- LEN of a received frame: PLEN, then 8, then 0 (R328). -/
def State.frameLen (s : State) (c : Nat) (bs : List Byte) : Option Nat :=
  [s.fld (GRD_RXCFG c) GRD_RXCFG_PLEN, 8, 0].find? (s.lenFits c bs)

/-- A frame that the carrier delivers to an enabled connection. -/
def guardReceive (c : Nat) (bs : List Byte) (s : State) : State :=
  match s.frameLen c bs with
  | none => crcFail c s
  | some len =>
    let seq := bytesAt bs 2 2
    let dl := bytesAt bs 4 2
    let pl := (bs.drop 6).take len
    if seq = 0 then resyncFrame c dl pl s else dataFrame c seq dl pl s

/-- The first payload byte of a resynchronisation frame; none for any other frame. -/
def State.resyncKind (s : State) (c : Nat) (bs : List Byte) : Option Byte := match s.frameLen c bs with
  | some 8 => if bytesAt bs 2 2 = 0 then some (bs.getD 6 0) else none
  | _ => none

/-- GUARD_DATA_FRAME: any frame that is no resynchronisation frame. -/
def execGuardDataFrame (c : Fin 8) (bytes : List Byte) (t : Nat) (s : State) : Out :=
  let s := s.at t
  if s.awake && s.grdEn c && (s.resyncKind c bytes).isNone then settled (guardReceive c bytes s) else .next s

/-- RESYNC_REQUEST_FRAME. -/
def execResyncRequestFrame (c : Fin 8) (bytes : List Byte) (t : Nat) (s : State) : Out :=
  let s := s.at t
  if s.awake && s.grdEn c && decide (s.resyncKind c bytes = some 1) then .next (guardReceive c bytes s) else .next s

/-- RESYNC_ANSWER_FRAME. -/
def execResyncAnswerFrame (c : Fin 8) (bytes : List Byte) (t : Nat) (s : State) : Out :=
  let s := s.at t
  if s.awake && s.grdEn c && decide (s.resyncKind c bytes = some 2) then .next (guardReceive c bytes s) else .next s

/-! ### Expiry (R333) -/

/-- GRD_TIME has reached the expiry instant (R333). -/
def execDeadlineExpiry (c : Fin 8) (t : Nat) (s : State) : Out :=
  let s := s.at t
  match (s.gr c).expiry with
  | some e =>
    if s.awake && decide (e ≤ s.grdTime) then
      let hold := 100 * s.fld (GRD_RXTIM c) GRD_RXTIM_HOLD
      let s := s.updGr c (fun x => { x with expiry := none, stepAt := e + hold })
      .next (((s.setFlag (GRD_RXSTAT c) GRD_RXSTAT_EXP true).sq (GRD_RXSTAT c) GRD_RXSTAT_EXPF).raise (evCom 1))
    else .next s
  | none => .next s

/-- A limit moved toward 0 by a step, stopping at 0. -/
def towardZero (x step : Int) : Int := if 0 ≤ x then max 0 (x - step) else min 0 (x + step)

/-- Both limits are 0: ZERO, and what REACT withdraws (R333). -/
def windowZero (c a : Nat) (s : State) : State :=
  let react := s.fld (GRD_RXDL c) GRD_RXDL_REACT
  let f := s.fld (GRD_CMDFLG a) GRD_CMDFLG_FLAGS
  let f := if react.testBit 0 then f &&& 3 else f
  let f := if react.testBit 1 then f &&& 5 else f
  let s := (s.setFlag (GRD_RXSTAT c) GRD_RXSTAT_ZERO true).setFld (GRD_CMDFLG a) GRD_CMDFLG_FLAGS f
  settleBrake (if s.anyDrv then s else drayDrive false s)

/-- One step of the window, every 10 µs after the hold (R333). -/
def execWindowNarrowing (c : Fin 8) (t : Nat) (s : State) : Out :=
  let s := s.at t
  let x := s.gr c
  if s.awake && s.grdCmd c && s.flag (GRD_RXSTAT c) GRD_RXSTAT_EXP && !s.flag (GRD_RXSTAT c) GRD_RXSTAT_ZERO
      && decide (x.stepAt < s.grdTime) then
    let a := s.grdAxl c
    let step : Int := s.fld (GRD_RXTIM c) GRD_RXTIM_RAMP * 65536 / 100
    let hi := towardZero (s.tMax a) step
    let lo := towardZero (s.tMin a) step
    let s := s.updGr c (fun y => { y with stepAt := y.stepAt + 1 })
    let s := (s.wr (GRD_CMDMAX a) (BitVec.ofInt 32 hi)).wr (GRD_CMDMIN a) (BitVec.ofInt 32 lo)
    let s := if s.grdMode a then s
      else s.wr (GRD_CMDSET a) (BitVec.ofInt 32 (max lo (min hi (s.rd (GRD_CMDSET a)).toInt)))
    settled (if hi = 0 ∧ lo = 0 then windowZero c a s else s)
  else .next s

/-! ### Matching (R335) -/

/-- The enabled connection that takes an Ethernet frame: its CID. -/
def State.grdEthMatch (s : State) (bytes : List Byte) : Option Nat :=
  (List.range 8).find? (fun c => s.grdEn c && decide (s.fld (GRD_RXCFG c) GRD_RXCFG_CARR = 4)
    && decide (s.fld (GRD_RXCFG c) GRD_RXCFG_CID = bytesAt bytes 0 2))

/-- The enabled connection that takes a CAN frame: identifier and IDE equal to ADR. -/
def State.grdCanMatch (s : State) (n : Nat) (f : CanFrame) : Option Nat :=
  (List.range 8).find? (fun c =>
    let ide := s.flag (GRD_RXADR c) GRD_RXADR_IDE
    let addr := s.fld (GRD_RXADR c) GRD_RXADR_ADDR
    s.grdEn c && decide (s.fld (GRD_RXCFG c) GRD_RXCFG_CARR = n) && decide (ide = f.ide)
      && decide (addr = if ide then f.id.toNat else f.id.toNat / 2 ^ 18))

/-- The enabled connection that takes a Coupler frame: CID, and the source seat unless ADR names none. -/
def State.grdCplMatch (s : State) (f : Frame) : Option Nat :=
  (List.range 8).find? (fun c =>
    let src := s.fld (GRD_RXADR c) GRD_RXADR_ADDR % 64
    s.grdEn c && decide (s.fld (GRD_RXCFG c) GRD_RXCFG_CARR = 5) && (decide (src = 0) || decide (src = f.src.val))
      && decide (s.fld (GRD_RXCFG c) GRD_RXCFG_CID = bytesAt f.payload 0 2))

/-- A delivered GRD frame: to the connection that matches, else like any other frame of its class (R335). -/
def guardCoupler (f : Frame) (m : PortF) (s : State) : State := match s.grdCplMatch f with
  | some c => guardReceive c f.payload s
  | none => toRing f m s

/-- MSG takes a ring slot (R309); a GRD frame of the same classes goes to the Guard (R335) or on (R304). -/
def execMsgFrame (f : Frame) (m : PortF) (s : State) : Out :=
  settled (receive [0x06, 0x08] f (epochCheck f (if f.kind = 0x06 then toRing f m else guardCoupler f m)) s)

end Sys2Proof.Machine
end

