-- ==== Sys2Proof/Machine/CanEth.lean ====
section
/-! DEFINITION. CAN FD and Ethernet (R338 to R350): queues, filters, errors, the time master, the rings and the MDIO port. -/

namespace Sys2Proof.Machine

open Sys2Proof

/-! ### CAN errors and states (R338) -/

/-- Error counts after a step, with the state they give; bus-off above 255. -/
def setCanErr (n tec rec_ : Nat) (s : State) : State :=
  let st := if 256 ≤ tec then 2 else if 128 ≤ tec ∨ 128 ≤ rec_ then 1 else 0
  let was := s.fld (CAN_ERR n) CAN_ERR_STATE
  let s := (s.setFld (CAN_ERR n) CAN_ERR_TEC tec).setFld (CAN_ERR n) CAN_ERR_REC rec_
  let s := s.setFld (CAN_ERR n) CAN_ERR_STATE st
  if st = 2 ∧ was ≠ 2 then canFlag n CAN_STAT_BUSOFF s
  else if st = 1 ∧ was ≠ 1 then canFlag n CAN_STAT_EPASS s
  else s

def State.tec (s : State) (n : Nat) : Nat := s.fld (CAN_ERR n) CAN_ERR_TEC
def State.recCnt (s : State) (n : Nat) : Nat := s.fld (CAN_ERR n) CAN_ERR_REC

/-- A frame was sent: TEC falls by one (ISO 11898-1). -/
def canSentOk (n : Nat) (s : State) : State := setCanErr n (s.tec n - 1) (s.recCnt n) s

/-- A frame was received: REC falls by one, or from above 127 to a value of 119 to 127 that ISO 11898-1 leaves open. -/
def canGotOk (n : Nat) (s : State) : State :=
  let r := s.recCnt n
  setCanErr n (s.tec n) (if 127 < r then 119 + Config.freeNat s.draws % 9 else r - 1) (s.drew 1)

/-- The head leaves without being sent: an abort that waited for the end of the frame, or the single attempt of DAR
(R338, R340). -/
def headFails (n : Nat) (s : State) : State :=
  let x := s.cn n
  if x.abortPending then
    canFlag n CAN_STAT_ABORTED (popCan n (s.updCn n (fun y => { y with abortPending := false })))
  else if s.flag (CAN_CFG n) CAN_CFG_DAR then popCan n s
  else s

/-- The end of a frame of a controller that has been switched off (R339). -/
def canFrameEnd (n : Nat) (s : State) : State := s.updCn n (fun x => { x with lastFrame := false })

/-- An error on the bus (R338): the counts that ISO 11898-1 gives after it; a TEC that grows is an error of the head's
own transmission. -/
def execCanBusError (n : Fin 4) (e : CanErr) (s : State) : Out :=
  if !s.canActive n then .next s
  else if e.protExc then
    if s.flag (CAN_CFG n) CAN_CFG_PXHE then .next (canFlag n CAN_STAT_PROTEXC (canFrameEnd n s)) else .next s
  else
    let mine := e.ofHead || decide (s.tec n < e.tec.toNat)
    let s := setCanErr n e.tec.toNat e.recv.toNat (canFrameEnd n s)
    .next (if mine then headFails n s else s)

/-- Bus integration ends, which keeps the error counts of a controller that was not in bus-off, or 128 occurrences of 11
recessive bits end bus-off (R338, R339). -/
def execBusOffRecovery (n : Fin 4) (s : State) : Out :=
  let st := s.fld (CAN_ERR n) CAN_ERR_STATE
  if s.awake && s.flag (CAN_CFG n) CAN_CFG_EN && s.flag SYS_CLK SYS_CLK_XOK && decide (2 ≤ st) then
    .next (if st = 3 ∧ s.tec n < 256 then setCanErr n (s.tec n) (s.recCnt n) s else setCanErr n 0 0 s)
  else .next s

/-! ### CAN transmission (R340, R344, R345) -/

/-- CAN_TXCTL.PUSH: the staged frame joins the queue. -/
def canPush (n : Nat) (s : State) : State :=
  let q := (s.cn n).tx
  if 32 ≤ q.length then canFlag n CAN_STAT_TXFULL s
  else
    let h := s.rd (CAN_TXHDR n)
    let id := s.rd (CAN_TXID n)
    let data := ((List.range 16).flatMap (fun k => wordBytes (s.rd (CAN_TXDATA n k)))).take (CAN_TXHDR_LEN.get h)
    let f : CanFrame := { ide := CAN_TXID_IDE.bit id, fdf := CAN_TXHDR_FDF.bit h, brs := CAN_TXHDR_BRS.bit h,
                          id := BitVec.ofNat 29 (CAN_TXID_ID.get id), data := data }
    setCanTx n (q ++ [{ frame := f }]) s

/-- CAN_TXCTL.ABORT: the head goes at once, or at the end of its frame if it is in transmission. -/
def canAbort (n : Nat) (inTx : Bool) (s : State) : State :=
  match (s.cn n).tx with
  | [] => s
  | _ :: _ =>
    if inTx then s.updCn n (fun x => { x with abortPending := true })
    else canFlag n CAN_STAT_ABORTED (popCan n s)

/-- The head has been sent: TXDONE and SENT. -/
def execTxdone (n : Fin 4) (s : State) : Out := match (s.cn n).tx with
  | [] => .next s
  | _ :: _ =>
    if s.canActive n then
      let s := popCan n (s.updCn n (fun x => { x with abortPending := false, lastFrame := false }))
      .next (canFlag n CAN_STAT_TXDONE ((canSentOk n s).rcWrap (CAN_TXCTL n) CAN_TXCTL_SENT))
    else .next s

/-- The head has lost arbitration: it is offered again, unless an abort or DAR removes it. -/
def execLostArbitration (n : Fin 4) (s : State) : Out :=
  if s.canActive n && !(s.cn n).tx.isEmpty then .next (headFails n s) else .next s

/-- The attempt of a reference message (R344): sent with its start-of-frame instant, or skipped. -/
def execReferenceMessage (n : Fin 4) (r : RefTry) (s : State) : Out :=
  if s.canActive n && s.flag (CAN_TMCFG n) CAN_TMCFG_TMEN then
    match r with
    | .skipped => .next (canFlag n CAN_STAT_REFSKIP s)
    | .sent sof =>
      let s := s.at sof
      let t := ((sof : Int) + s.cpl.ofs).toNat / 32
      .next (canSentOk n (s.updCn n (fun x => { x with lastFrame := false, refCount := (x.refCount + 1) % 65536, refPrev := some t })))
  else .next s

/-! ### CAN reception (R341, R342) -/

def State.canQ (s : State) (n : Nat) (b : Bool) : List CanEntry := if b then (s.cn n).rxB else (s.cn n).rxA

/-- The head entry shows in the registers of its queue (R342). -/
def showHead (n : Nat) (b : Bool) (s : State) : State :=
  let q := b2n b
  let words := fun (data : List Byte) (t : State) =>
    each (List.range 16) (fun k u => u.wr (CAN_RXDATA n q k) (word (bytesAt data (4 * k) 4))) t
  match s.canQ n b with
  | [] => words [] (((s.wr (CAN_RXHDR n q) 0).wr (CAN_RXID n q) 0).wr (CAN_RXTS n q) 0)
  | e :: _ =>
    let f := e.frame
    let h := CAN_RXHDR_FDF.put (CAN_RXHDR_ND.put 0 1) (b2n f.fdf)
    let h := CAN_RXHDR_ESI.put (CAN_RXHDR_BRS.put h (b2n f.brs)) (b2n f.esi)
    let h := CAN_RXHDR_LEN.put (CAN_RXHDR_FILT.put (CAN_RXHDR_TAG.put h e.tag) e.filt) f.data.length
    let id := CAN_RXID_ID.put (CAN_RXID_RTR.put (CAN_RXID_IDE.put 0 (b2n f.ide)) (b2n f.rtr)) f.id.toNat
    words f.data (((s.wr (CAN_RXHDR n q) h).wr (CAN_RXID n q) id).wr (CAN_RXTS n q) (word e.ts))

/-- A receive queue of a controller, with its head shown. -/
def setCanRx (n : Nat) (b : Bool) (q : List CanEntry) (s : State) : State :=
  showHead n b (s.updCn n (fun x => if b then { x with rxB := q } else { x with rxA := q }))

/-- The lowest enabled filter that matches (R341). -/
def State.canFilter (s : State) (n : Nat) (f : CanFrame) : Option Nat :=
  (List.range 64).find? (fun k =>
    let m := s.rd (CAN_FLTMATCH n k)
    let w := s.rd (CAN_FLTMASK n k)
    CAN_FLTMATCH_EN.bit m && decide ((f.id.toNat ^^^ CAN_FLTMATCH_ID.get m) &&& CAN_FLTMASK_ID.get w = 0)
      && (!CAN_FLTMASK_IDE.bit w || decide (f.ide = CAN_FLTMATCH_IDE.bit m)))

/-- A frame for queue A or B (R342). -/
def canQueue (n : Nat) (b : Bool) (filt ts : Nat) (f : CanFrame) (s : State) : State :=
  let q := s.canQ n b
  let full := decide (64 ≤ q.length)
  let ovw := s.flag (CAN_CFG n) (if b then CAN_CFG_OVWB else CAN_CFG_OVWA)
  let s := if full then canFlag n CAN_STAT_RXLOST (s.rc (CAN_CNT n) CAN_CNT_LOST) else s
  if full && !ovw then s
  else
    let x := s.cn n
    let w := ((if b then x.writtenB else x.writtenA) + 1) % 256
    let s := s.updCn n (fun x => if b then { x with writtenB := w } else { x with writtenA := w })
    let q := if full then q.tail else q
    canFlag n (if b then CAN_STAT_RXB else CAN_STAT_RXA)
      (setCanRx n b (q ++ [{ frame := f, ts := ts, tag := w, filt := filt }]) s)

/-- A frame is received (R339, R341): to the Guard, to the queue of the first matching filter, or discarded. -/
def execCanFrameReceived (n : Fin 4) (f : CanFrame) (sof : Nat) (s : State) : Out :=
  let s := s.at sof
  if !s.canActive n || (f.fdf && !s.flag (CAN_CFG n) CAN_CFG_FDEN) then .next s
  else
    let s := canGotOk n (canFrameEnd n s)
    match s.grdCanMatch n f with
    | some c => settled (guardReceive c f.data s)
    | none =>
      match s.canFilter n f with
      | some k =>
        let ts := ((sof : Int) + s.cpl.ofs).toNat / 32 % 2 ^ 32
        .next (canQueue n (s.flag (CAN_FLTMATCH n k) CAN_FLTMATCH_DEST) k ts f s)
      | none => .next (canFlag n CAN_STAT_NOMATCH (s.rc (CAN_CNT n) CAN_CNT_NOMATCH))

/-- A write of CAN_RXxPOP (R342): only the head's own TAG removes it. -/
def canPopTag (n : Nat) (b : Bool) (tag : Nat) (s : State) : State := match s.canQ n b with
  | e :: rest => if e.tag = tag then setCanRx n b rest s else s
  | [] => s

/-! ### Ethernet (R347 to R349) -/

def ethFlag (f : Fld) (s : State) : State := (s.sq ETH_STAT f).raise (evCom 8)

/-- The MAC runs. -/
def State.ethUp (s : State) : Bool := s.awake && s.flag ETH_CFG ETH_CFG_EN && s.flag ETH_STAT ETH_STAT_LINK

/-- Own address, byte 0 in the lowest place. -/
def State.ethMac (s : State) : Nat := (s.rd ETH_MAC0).toNat + 2 ^ 32 * s.fld ETH_MAC1 ETH_MAC1_ADDR

/-- The address filter (R347). -/
def State.ethAccepts (s : State) (f : EthFrame) : Bool :=
  let cfg := s.rd ETH_CFG
  ETH_CFG_PROM.bit cfg
    || (if f.dst = 0xFFFFFFFFFFFF then ETH_CFG_BCAST.bit cfg
        else if f.dst.getLsbD 0 then ETH_CFG_MCAST.bit cfg
        else decide (f.dst.toNat = s.ethMac))

/-- Address of a ring's descriptor. -/
def ethDesc (ring : Word) (k : Nat) : Nat := tandemBase + 16 * ETH_TXR_BASE.get ring + 16 * k

/-- The two words of a timestamp: the layout of CPL_TIME0 and CPL_TIME1 (R349). -/
def timeWords (t : Nat) : Word × Word := (word t, word (t / 2 ^ 32))

/-- The MAC reads a descriptor: the state with what the ECC notes, and whether the MAC owns it; one whose read has an error
response counts as not owned (R251, log entry 142). -/
def ethFetch (a : Nat) (m : PortF) (s : State) : State × Bool :=
  let (s, ok) := portFCheck a 16 m (portFOpen s)
  (s, ok && (region a == .tandem) && (s.word32 a).getLsbD 31)

/-- A frame goes to the receive ring (R349). -/
def ethToRing (f : EthFrame) (t : Nat) (m : PortF) (s : State) : State :=
  let ring := s.rd ETH_RXR
  let n := ETH_RXR_NDESC.get ring
  let a := ethDesc ring s.eth.rxIdx
  let (s, own) := if n = 0 then (s, false) else ethFetch a m s
  if !own then ethFlag ETH_STAT_RXNOBUF (s.rc ETH_CNT ETH_CNT_RXDROP)
  else
    let body := leBytes 6 f.dst.toNat ++ leBytes 6 f.src.toNat ++ [byteOf f.etherType 1, byteOf f.etherType 0] ++ f.payload
    let w1 := s.word32 (a + 4)
    let buf := tandemBase + 16 * (w1.toNat % 2 ^ 14)
    let (t0, t1) := timeWords t
    let tci := match f.tag with
      | some x => x.toNat
      | none => 0
    let s := portFWrite buf body m s
    let s := portFWrite (a + 8) (wordBytes t0 ++ wordBytes t1) m s
    let w0 := word (b2n f.tag.isSome * 2 ^ 29 + body.length % 2 ^ 11)
    let s := portFWrite a (wordBytes w0 ++ wordBytes (word (tci * 2 ^ 16 + w1.toNat % 2 ^ 16))) m s
    ethFlag ETH_STAT_RXF { s with eth := { s.eth with rxIdx := (s.eth.rxIdx + 1) % n } }

/-- Length of a frame on the wire, its FCS included (R347). -/
def ethLength (f : EthFrame) : Nat := 18 + f.payload.length + (if f.tag.isSome then 4 else 0)

/-- A frame is received at an instant (R347, R349): errors, length, pause frames, the address filter, the Guard, the
ring. -/
def execEthFrameReceived (f : EthFrame) (ts : Nat) (m : PortF) (s : State) : Out :=
  let s := s.at ts
  if !s.ethUp then .next s
  else if !f.good then .next (ethFlag ETH_STAT_RXERR (s.rc ETH_CNT ETH_CNT_RXERR))
  else if ethLength f < 64 ∨ 1522 < ethLength f then .next (ethFlag ETH_STAT_RXERR (s.rc ETH_CNT ETH_CNT_RXDROP))
  else if f.etherType = 0x8808 ∨ s.ethAccepts f = false then .next s
  else
    let stamp := ((ts : Int) + s.cpl.ofs).toNat
    match if f.etherType = 0x88B5 then s.grdEthMatch f.payload else none with
    | some c => settled (guardReceive c f.payload s)
    | none => .next (ethToRing f stamp m s)

/-- A frame of the transmit ring is read and sent, and its descriptor returned with the egress timestamp, OWN clear, and
ERR where the read of its buffer had an error response (R251, R349, log entry 142). -/
def ethSend (a ts : Nat) (m : PortF) (s : State) : State :=
  let (t0, t1) := timeWords ((ts : Int) + s.cpl.ofs).toNat
  let w0 := s.word32 a
  let buf := tandemBase + 16 * ((s.word32 (a + 4)).toNat % 2 ^ 14)
  let (s, ok) := portFCheck buf (w0.toNat % 2 ^ 11) m s
  let s := portFWrite (a + 8) (wordBytes t0 ++ wordBytes t1) m s
  portFWrite a (wordBytes (if ok then w0 &&& 0x7FFFFFFF else (w0 &&& 0x7FFFFFFF) ||| 0x40000000)) { lost := m.lost } s

/-- A frame boundary (R349): a Guard frame that waits goes first; else the next ring frame is sent and its descriptor
returned, while OWN = 1. -/
def execEthFrameSent (ts : Nat) (m : PortF) (s : State) : Out :=
  let s := s.at ts
  if !s.ethUp then .next s
  else match s.eth.guardQ with
    | _ :: rest => .next { s with eth := { s.eth with guardQ := rest } }
    | [] =>
      let ring := s.rd ETH_TXR
      let n := ETH_TXR_NDESC.get ring
      let a := ethDesc ring s.eth.txIdx
      if !s.eth.scanning then .next s
      else
        let (s, own) := if n = 0 then (s, false) else ethFetch a m s
        if !own then .next { s with eth := { s.eth with scanning := false } }
        else
          let s := ethSend a ts m s
          .next (ethFlag ETH_STAT_TXF { s with eth := { s.eth with txIdx := (s.eth.txIdx + 1) % n } })

/-- ETH_TXR.KICK (R349): the scan of the ring resumes. -/
def ethKick (s : State) : State := { s with eth := { s.eth with scanning := true } }

/-- ETH_MDIO.GO: the operation starts (R350). -/
def mdioStart (s : State) : State := s.setFlag ETH_MDIO ETH_MDIO_BUSY true

/-- The operation ends: BUSY falls, a read shows its data (R350). -/
def execMdioDone (data : BitVec 16) (s : State) : Out :=
  if s.awake && s.flag ETH_MDIO ETH_MDIO_BUSY then
    let s := s.setFlag ETH_MDIO ETH_MDIO_BUSY false
    .next (if s.flag ETH_MDIO ETH_MDIO_RD then s.setFld ETH_MDIO ETH_MDIO_DATA data.toNat else s)
  else .next s

/-- The link changes (R347). -/
def execEthLinkChange (up : Bool) (speed : BitVec 2) (s : State) : Out :=
  if s.awake && s.flag ETH_CFG ETH_CFG_EN then
    let s := s.setFld ETH_STAT ETH_STAT_SPEED speed.toNat
    .next (if s.flag ETH_STAT ETH_STAT_LINK = up then s else ethFlag ETH_STAT_LINKCHG (s.setFlag ETH_STAT ETH_STAT_LINK up))
  else .next s

end Sys2Proof.Machine
end

