-- ==== Sys2Proof/Machine/Illegal.lean ====
section
/-! DEFINITION. Instruction words that no encoding allows, and fetches that fault (R55, R56, R63, R68, R254). -/

namespace Sys2Proof.Machine

open Sys2Proof

/-- An illegal instruction word (R55, R56, R63, R68). A word that stands for an instruction is that instruction's command,
not this one, and nothing happens here (log entry 138). -/
def execIllegalInstruction (h : Hart) (w : Word) (s : State) : Out :=
  if (decodeMolvek h {} w).isSome then .next s else issue h (illegal h) s

/-- A fetch from an unmapped address, with an uncorrectable error, which counts, or from an NVM half under a command (R63,
R251, R254); on the Lantern core too, where R68 gives data errors of the Lantern RAM cause 0x0A (log entry 139). -/
def execFetchBusError (h : Hart) (uncorrectable : Bool) (s : State) : Out :=
  issue h (fun s =>
    let pc := (s.core h).pc
    fail h 0x04 pc (onlyIf (uncorrectable && decide (h = .troika)) (noteEcc true pc.toNat) s)) s

end Sys2Proof.Machine
end

