-- ==== Sys2Proof/Machine/RegRead.lean ====
section
/-! DEFINITION. Reads of the register views: which register an offset reaches, what a Passenger read leaves out (R27), the
registers that show what other state holds, and the reads with an effect of their own (R14, R40, R311). -/

namespace Sys2Proof.Machine

open Sys2Proof

/-- A register that an offset of the first page names: its card, and the numbers of its instance. The EVT_CFG words of
numbers that the table of R259 does not assign hold nothing (R259, R263). -/
def regAt (o : Nat) : Option (Card × List Nat) :=
  if 0x10000 ≤ o ∧ o < 0x10400 ∧ evReserved ((o - 0x10000) / 4) then none else cardAt o

/-- The bits of the fields of a card that satisfy a test. -/
def cardBits (c : Card) (p : FieldCard → Bool) : Word :=
  c.fields.foldl (fun m f => if p f then m ||| f.fld.mask else m) 0

/-- The first Coachman-only field makes every Passenger write a violation (R27). -/
def coachAny (c : Card) : Bool := c.coach || c.fields.any (fun f => f.coach)

/-- EVT_REQ: the interrupt that R261 takes next. -/
def State.evtReq (s : State) : Word := match s.intRequest with
  | some (lvl, src) => word (2 ^ 31 + 256 * lvl + src)
  | none => 0

/-- LAGE of CPL_LEASE: the age of the latest renewal in µs, 255 at most (R317). -/
def State.leaseAge (s : State) : Nat :=
  if leaseState s = 0 then 0 else min 255 ((s.now - s.cpl.renewAt) / usTaps)

/-- PMU_HSV of a controller that runs (R276, R277): the last sample of HSS, and whether the level is still below the
threshold after an undervoltage, are values from outside that no command brings (log entry 95). -/
def State.harnessSample (s : State) (h : Nat) : Word :=
  let w := s.rd (PMU_HSV h)
  if s.harnessOn h then
    PMU_HSV_UV.put (PMU_HSV_VALUE.put w (Config.freeNat s.draws)) (b2n (PMU_HSV_UV.bit w && Config.freeBool s.draws))
  else w

/-- A register as it stands, all fields of it: the registers that only show other state are formed here (R92, R175, R215,
R260, R261, R301, R311, R317, R330, R332). -/
def State.shown (s : State) (o : Nat) : Word :=
  if o = EVT_WPEND then word s.wakeLines
  else if o = EVT_REQ then s.evtReq
  else if o = GRD_TIME then word s.grdTime
  else if o = CPL_TIME0 then word ((s.fabric % 2 ^ 32).toNat)
  else if 0x80000 ≤ o ∧ o < 0xC0000 ∧ o % 0x10000 = 0x08 then
    let a := (o - 0x80000) / 0x10000
    AXL_CNT_VALUE.put (s.rd o) (s.countNow a)
  else if o = CPL_LEASE then CPL_LEASE_LAGE.put (s.rd o) s.leaseAge
  else if 0x1C0220 ≤ o ∧ o < 0x1C0240 then
    (if s.flag SAFE_SEALSTAT SAFE_SEALSTAT_UNLOCKED then secretWord ((o - 0x1C0220) / 4) else 0)
  else if 0x160000 ≤ o ∧ o < 0x164000 ∧ o % 0x1000 = 0x480 then s.liveAngle ((o - 0x160000) / 0x1000)
  else if 0x180000 ≤ o ∧ o < 0x180100 ∧ o % 0x40 = 0xC then
    let a := (o - 0x180000) / 0x40
    SAFE_TMWIN_TMIN.put (SAFE_TMWIN_TMAX.put 0 ((s.rd (GRD_CMDMAX a)).toNat / 65536)) ((s.rd (GRD_CMDMIN a)).toNat / 65536)
  else if 0x190210 ≤ o ∧ o < 0x190250 ∧ o % 0x10 ≠ 0 then mget (fun _ => 0) s.grdCap o
  else if 0x1F0100 ≤ o ∧ o < 0x1F0190 then s.harnessSample ((o - 0x1F0100) / 4)
  else s.rd o

/-- What a read of an offset through a view returns, without its effect (R27, R30). -/
def State.peekReg (s : State) (v : View) (o : Nat) : Word := match regAt o with
  | none => 0
  | some (c, _) =>
    if v = .passenger ∧ c.coach = true then 0
    else s.shown o &&& ~~~ cardBits c (fun f => f.readsZero && !(decide (0x1C0220 ≤ o) && decide (o < 0x1C0240)))
      &&& ~~~ cardBits c (fun f => decide (v = .passenger) && f.coach)

/-- A read of GRD_CMDSET captures the other three words of the command (R14, R332). -/
def captureCommand (a : Nat) (s : State) : State :=
  { s with grdCap := [GRD_CMDMAX a, GRD_CMDMIN a, GRD_CMDFLG a].foldl (fun m o => mset (fun _ => 0) m o (s.rd o)) s.grdCap }

/-- A read of the register views: the word and what the read itself changes: PRIV_VIOL (R27), the captures of GRD_CMDSET
(R332) and CPL_TIME0 (R311), and the advance of LIX_DATA (R40). -/
def readReg (v : View) (o : Nat) (s : State) : Word × State := match regAt o with
  | none => (0, s)
  | some (c, _) =>
    if v = .passenger ∧ c.coach = true then (0, s.raise PRIV_VIOL)
    else if o = LIX_DATA then lixDataRead s
    else
      let w := s.peekReg v o
      if o = CPL_TIME0 then (w, s.wr CPL_TIME1 (word (s.fabric / 2 ^ 32 % 2 ^ 32).toNat))
      else if 0x1F0100 ≤ o ∧ o < 0x1F0190 then (w, (s.wr o w).drew 1)
      else if 0x190210 ≤ o ∧ o < 0x190250 ∧ o % 0x10 = 0 then (w, captureCommand ((o - 0x190210) / 0x10) s)
      else (w, s)

end Sys2Proof.Machine
end

