-- ==== Sys2Proof/Machine/RegCheck.lean ====
section
/-! DEFINITION. The writes that R34 refuses as a whole: values outside the range of a card, and the conditions under which
a chapter refuses a write. Each predicate takes the register's offset on the first page, the word in force and the word as
the write would leave it. -/

namespace Sys2Proof.Machine

open Sys2Proof

/-- A value outside a range. -/
def outside (lo hi n : Nat) : Bool := !(decide (lo ≤ n) && decide (n ≤ hi))

/-- The leg's Axle runs; a leg of no Axle never does (R113). -/
def State.axleRuns (s : State) (a : Nat) : Bool := decide (a < 4) && s.running a

/-- SYS: a refused request of R265 to R267, and a reset request without its key (R294). -/
def State.badSYS (s : State) (o : Nat) (new : Word) : Bool :=
  if o = SYS_STATE then (s.reqWhy (SYS_STATE_REQ.get new)).isSome
  else if o = SYS_RSTCAUSE then
    decide (SYS_RSTCAUSE_REQ.get new = 3) ||
      (decide (SYS_RSTCAUSE_REQ.get new ≠ 0) && decide (SYS_RSTCAUSE_KEY.get new ≠ 0xC3))
  else false

/-- TRK_CFG counts, and a path test asked for while the Troika stops or copies (R244). -/
def State.badTRK (s : State) (o : Nat) (new : Word) : Bool :=
  if o = TRK_CFG then decide (TRK_CFG_MAXISO.get new = 0) || decide (TRK_CFG_UNCONF.get new = 0)
  else if o = TRK_INJ then
    TRK_INJ_REQ.bit new && (s.flag TRK_STAT TRK_STAT_STOP || s.flag TRK_STAT TRK_STAT_RESYNC)
  else false

/-- MEM_NVCMD (R254). -/
def State.badMEM (s : State) (o : Nat) (new : Word) : Bool :=
  if o = MEM_NVCMD then
    decide (MEM_NVCMD_KEY.get new ≠ 0xA5) || outside 1 2 (MEM_NVCMD_CMD.get new) || s.flag MEM_NVSTAT MEM_NVSTAT_BUSY
  else false

/-- AXL_CTRL: a MODE write (R92, R93), and a start without PLL-T (R108) or without the Axle's torque monitor (R217). -/
def State.badCtrl (s : State) (a : Nat) (old new : Word) : Bool :=
  let m := AXL_CTRL_MODE.get new
  (decide (m ≠ AXL_CTRL_MODE.get old) && (AXL_CTRL_RUN.bit old || decide (m = 3) || !periodOk m (s.period a)))
    || (AXL_CTRL_RUN.bit new && s.full && !s.flag SYS_CLK SYS_CLK_TLOCK)
    || (AXL_CTRL_RUN.bit new && !(s.phaseLegs a).isEmpty && !s.flag (SAFE_TMSTAT a) SAFE_TMSTAT_EN)

/-- The Axle block (R17, R93, R104, R107). -/
def State.badAXL (s : State) (o : Nat) (old new : Word) : Bool :=
  let a := (o - 0x80000) / 0x10000
  let r := o % 0x10000
  let run := s.flag (AXL_CTRL a) AXL_CTRL_RUN
  if r = 0 then s.badCtrl a old new
  else if r = 0x04 then !periodOk (s.axlMode a) (AXL_PRD_PERIOD.get new)
  else if r = 0x14 then decide (AXL_WDOG_COUNT.get new = 0)
  else if r = 0x18 then
    let src := AXL_SYNC_SRC.get new
    decide (6 ≤ src) || decide (src = a + 1) || (run && decide (src ≠ AXL_SYNC_SRC.get old))
  else if r = 0x1C then run && decide (new ≠ old)
  else if r = 0x24 then AXL_PRDSCH_ARM.bit new && !periodOk (s.axlMode a) (AXL_PRDSCH_PERIOD.get new)
  else false

/-- GCH_CFG: a change of EN or POS while the Axle of the old or the new assignment runs, a 17th channel (R113), and a
channel that failed its slice (R360). -/
def State.badMap (s : State) (c : Nat) (old new : Word) : Bool :=
  let en := GCH_CFG_EN.bit new
  let p := GCH_CFG_POS.get new
  let p0 := GCH_CFG_POS.get old
  (decide (en ≠ GCH_CFG_EN.bit old) || decide (p ≠ p0)) &&
    ((GCH_CFG_EN.bit old && s.axleRuns (s.legAxle (p0 / 2))) || (en && s.axleRuns (s.legAxle (p / 2)))
      || (en && decide (16 ≤ ((s.chans p).filter (fun d => d ≠ c)).length)))
    || (en && (s.ch c).bstBad)

/-- The gate channel block. -/
def State.badGCH (s : State) (o : Nat) (old new : Word) : Bool :=
  let c := (o - 0x100000) / 0x40
  if o % 0x40 = 0 then s.badMap c old new
  else if o % 0x40 = 0x0C then GCH_CTRL_READMIT.bit new && !s.flag (GCH_STAT c) GCH_STAT_EXCLD
  else false

/-- A group whose ASC side is high holds the leg (R131, R204). -/
def State.ascHigh (s : State) (l : Nat) : Bool := (List.range 8).any (fun g => s.inGroup g l && s.ascSideHigh g)

/-- LEG_CFG (R113, R131). -/
def State.badLeg (s : State) (l : Nat) (old new : Word) : Bool :=
  let a := LEG_CFG_AXLE.get new
  let a0 := LEG_CFG_AXLE.get old
  decide (4 < a) || (decide (a ≠ a0) && (s.axleRuns a || s.axleRuns a0
      || (decide (l < 24) && decide (a < 4) && decide (12 ≤ (s.phaseLegs a).length))))
    || (LEG_CFG_BOOT.bit new && s.ascHigh l)

/-- The position and leg block (R114, R116 and the ranges of its cards). -/
def State.badPOS (s : State) (o : Nat) (old new : Word) : Bool :=
  if o < 0x110400 then
    let p := (o - 0x110000) / 0x10
    if o % 0x10 = 0 then
      decide (POS_CFG_MINLIVE.get new = 0) || decide (POS_CFG_MSRC.get new = 3) || (POS_CFG_COMP.bit new && decide (p % 2 = 0))
    else if o % 0x10 = 4 then
      decide (POS_MASK_MASK.get new = 3) || (List.range 8).any (fun k => decide ((msetEntry k).get new = 3))
    else false
  else if o < 0x110C00 then
    let l := (o - 0x110400) / 0x40
    let r := o % 0x40
    if r = 0 then s.badLeg l old new
    else if r = 0x04 then
      outside 16 8192 (LEG_DT_DTMIN.get new) || outside 16 8192 (LEG_DT_DTMAX.get new)
        || decide (LEG_DT_DTMAX.get new < LEG_DT_DTMIN.get new)
    else if r = 0x08 then outside 160 4000 (LEG_TIM_ACKTO.get new) || decide (4000 < LEG_TIM_MINPULSE.get new)
    else if r = 0x10 then decide (LEG_BOOT_BSLIM.get new = 0) || outside 16 4000 (LEG_BOOT_BSCHG.get new)
    else false
  else if o = GATE_EVN then decide (64 < GATE_EVN_LIM.get new) || decide (64 < GATE_EVN_STEP.get new)
  else false

/-- The channel is the control channel of an enabled leg whose Axle runs (R158). -/
def State.sdfBusy (s : State) (c : Nat) : Bool :=
  (List.range 32).any (fun l => s.flag (SDF_LMAP l) SDF_LMAP_EN && decide (s.cch l = c) && s.axleRuns (s.legAxle l))

/-- The channel is some leg's monitor channel (R148). -/
def State.isMonitor (s : State) (c : Nat) : Bool :=
  (List.range 24).any (fun l => s.flag (SDF_LMAP l) SDF_LMAP_MEN && decide (s.mch l = c))

/-- The SDC output from which a channel's clock comes, its modulator's where the clock returns (R135). -/
def State.sdcOf (s : State) (c : Nat) : Nat :=
  let k := s.fld (SDF_CFG c) SDF_CFG_CKIN
  if s.flag (SDF_CFG c) SDF_CFG_CKRET then s.fld (SDF_CFG k) SDF_CFG_CKIN else k

/-- SDF_LMAP (R148, R158). -/
def State.badLmap (s : State) (l : Nat) (old new : Word) : Bool :=
  let set := SDF_LMAP_SET.get new
  let moved := decide (SDF_LMAP_EN.get new ≠ SDF_LMAP_EN.get old) || decide (SDF_LMAP_CCH.get new ≠ SDF_LMAP_CCH.get old)
    || decide (set ≠ SDF_LMAP_SET.get old)
  let m := SDF_LMAP_MCH.get new
  decide (95 < SDF_LMAP_CCH.get new) || outside 0 7 set && decide (set ≠ 15) || decide (SDF_LMAP_PLIM.get new = 0)
    || (moved && s.axleRuns (s.legAxle l))
    || (SDF_LMAP_MEN.bit new && (s.wr (SDF_LMAP l) new).sharesSource l m (s.fld (SDF_CFG m) SDF_CFG_CKIN))

/-- The sigma-delta block (R135 to R149, R158). -/
def State.badSDF (s : State) (o : Nat) (old new : Word) : Bool :=
  if o < 0x120C00 then
    let c := (o - 0x120000) / 0x20
    let r := o % 0x20
    if r = 0 then
      decide ((if SDF_CFG_CKRET.bit new then 95 else 7) < SDF_CFG_CKIN.get new) || outside 8 256 (SDF_CFG_DEC.get new)
        || outside 8 32 (SDF_CFG_PDEC.get new) || s.isMonitor c || s.sdfBusy c
    else if r = 0x08 then decide (SDF_PCMP_HI.sget new < SDF_PCMP_LO.sget new)
    else if r = 0x0C then outside 1 8 (SDF_PCTL_QCNT.get new) || (SDF_PCTL_REARM.bit new && !s.rearmOk c)
    else false
  else if 0x120C80 ≤ o ∧ o < 0x120D00 then s.badLmap ((o - 0x120C80) / 4) old new
  else if 0x120E20 ≤ o ∧ o < 0x120E30 then decide (SDF_AXW_MINOUT.get new < 2)
  else if o = SDF_GLB then decide (SDF_GLB_XN.get new = 0) || outside 8 63 (SDF_GLB_SUSP.get new)
  else if 0x120E40 ≤ o then
    !sdcDivOk (SDF_SDC_DIV.get new)
      || (List.range 96).any (fun c => s.sdfBusy c && decide (s.sdcOf c = (o - 0x120E40) / 4))
  else false

/-- SAR_CTL (R150). -/
def badSAR (o : Nat) (new : Word) : Bool :=
  decide (o < 0x130080) && decide (o % 0x10 = 0)
    && (decide (8 < SAR_CTL_LEN.get new) || decide (SAR_CTL_TSRC.get new = 3))

/-- Resolver and encoder (R153, R155). -/
def badRES (o : Nat) (new : Word) : Bool :=
  let r := o % 0x40
  if o < 0x140100 then r = 0 && (outside 500 2000 (RES_CFG_EXC.get new) || outside 1 8 (RES_CFG_MULT.get new))
  else if r = 0 then decide (ENC_CFG_PP.get new = 0) || decide (ENC_CFG_MODE.get new = 3)
  else if r = 4 then decide (ENC_CPR_CPR.get new < 4)
  else false

/-- The legs that a HYS_SET word names. -/
def setWordLegs (w : Word) : List Nat := [HYS_SET_LEGA.get w, HYS_SET_LEGB.get w, HYS_SET_LEGC.get w]

/-- HYS_SET (R196): a leg above 23 or of another enabled set, legs of different Axles, or an enabled assignment whose Axle
runs. -/
def State.badSet (s : State) (k : Nat) (old new : Word) : Bool :=
  let ls := setWordLegs new
  let ax := ls.map s.legAxle
  ls.any (fun l => decide (23 < l))
    || (List.range 8).any (fun j => j ≠ k && s.flag (HYS_SET j) HYS_SET_EN
      && (setWordLegs (s.rd (HYS_SET j))).any (fun l => ls.contains l))
    || !(ax.all (fun a => a = ax.headD 4))
    || (HYS_SET_EN.bit old && s.axleRuns (s.legAxle (HYS_SET_LEGA.get old)))
    || (HYS_SET_EN.bit new && s.axleRuns (ax.headD 4))

/-- HYS_CTRL (R183, R189, R192, R193). -/
def State.badHysCtrl (s : State) (a : Nat) (new : Word) : Bool :=
  (HYS_CTRL_CATCH.bit new && !(decide (s.hysMode a = 2) && s.hasFallback a))
    || (HYS_CTRL_HANDBACK.bit new && !(decide (s.hysMode a = 1) && s.full && !s.flag (TTU_STAT a) TTU_STAT_LOST))
    || (HYS_CTRL_FORCE.bit new && s.power ≠ .drive)

/-- The HYS block (the ranges of its cards). -/
def State.badHYS (s : State) (o : Nat) (old new : Word) : Bool :=
  if o < 0x150100 then
    let a := (o - 0x150000) / 0x40
    let r := o % 0x40
    if r = 0 then decide (95 < HYS_CFG_VDCCH.get new)
    else if r = 0x04 then decide (HYS_MOD_LS.get new = 0)
    else if r = 0x08 then decide (HYS_FLX_TFLX.get new = 0)
    else if r = 0x10 then decide (0x2666 < HYS_LIM_TLIM.get new)
    else if r = 0x18 then decide (HYS_TIM_NCONV.get new = 0) || decide (HYS_TIM_TCONV.get new < 100)
    else if r = 0x20 then decide (HYS_CATCH_PRB.get new < 16) || decide (HYS_CATCH_PGAP.get new = 0)
    else if r = 0x24 then s.badHysCtrl a new
    else false
  else if o % 0x20 = 0 then s.badSet ((o - 0x150100) / 0x20) old new
  else false

/-- The transform and table unit (R182 and the ranges of its cards). -/
def State.badTTU (s : State) (o : Nat) (old new : Word) : Bool :=
  let a := (o - 0x160000) / 0x1000
  let r := o % 0x1000
  if r < 0x440 then s.running a
  else if r = 0x460 then
    outside 0 4 (TTU_CFG_ANGSRC.get new) || outside 1 8 (TTU_CFG_NCOM.get new)
      || (decide (TTU_CFG_ANGSRC.get new ≠ TTU_CFG_ANGSRC.get old) && s.running a)
  else if r = 0x478 then decide (TTU_OCTL_RSRC.get new = 3) || outside 1 2 (TTU_OCTL_NLOSS.get new)
  else if r = 0x484 then decide (TTU_MAPS_WFS.get new = 0)
  else if r = 0x488 then
    decide (TTU_CDR_LEAD.get new < 2) || outside 1 8 (TTU_CDR_DSTEP.get new) || outside 2000 400000 (TTU_CDR_PMAX.get new)
  else false

/-- A leg with BOOT = 1 among those of a mask (R131). -/
def State.bootIn (s : State) (legs : Nat) : Bool :=
  (List.range 32).any (fun l => legs.testBit l && s.flag (LEG_CFG l) LEG_CFG_BOOT)

/-- The protection block (R199, R204, R206, R209, R211 and the ranges of its cards). -/
def State.badPROT (s : State) (o : Nat) (new : Word) : Bool :=
  if o < 0x170380 then decide (32 < PROT_SRC_FILT.get new)
  else if 0x1703C0 ≤ o ∧ o < 0x1703E0 then
    let g := (o - 0x1703C0) / 4
    s.trippedGroups.testBit g || (s.ascSideHigh g && s.bootIn new.toNat)
  else if 0x170400 ≤ o ∧ o < 0x170420 then
    decide (95 < PROT_SEL_VCH.get new)
      || (PROT_SEL_ASCSIDE.bit new && s.bootIn (s.rd (PROT_GRP ((o - 0x170400) / 4))).toNat)
  else if 0x170420 ≤ o ∧ o < 0x170440 then decide (PROT_SELT_SPDHI.get new < PROT_SELT_SPDLO.get new)
  else if 0x170440 ≤ o ∧ o < 0x170460 then decide (PROT_SELV_VHI.sget new < PROT_SELV_VLO.sget new)
  else if o = PROT_CHOP then
    let l := PROT_CHOP_LEG.get new
    decide (l < 24) || decide (95 < PROT_CHOP_VCH.get new) || decide (PROT_CHOP_CHKT.get new = 0)
      || (PROT_CHOP_EN.bit new && decide (s.legAxle l ≠ 4))
  else if o = PROT_CHOPV then decide (PROT_CHOPV_VON.sget new ≤ PROT_CHOPV_VOFF.sget new)
  else if o = PROT_DIS then
    decide (PROT_DIS_DTIME.get new = 0) || decide (95 < PROT_DIS_VCH.get new)
      || (PROT_DIS_START.bit new && decide (PROT_DIS_MODE.get new = 0))
  else if o = PROT_CTRL then PROT_CTRL_KREL.bit new && !s.full
  else false

/-- Torque monitor, Drag Shoe and seal (R221, R223, R228). -/
def State.badSAFE (s : State) (o : Nat) (new : Word) : Bool :=
  if o = SAFE_BRKCTL then SAFE_BRKCTL_TSTART.bit new && !s.brakeTestOk
  else if o = SAFE_SEALCTL then s.sealBad new
  else false

/-- GRD_RXCFG and GRD_TXCFG share EN and CARR: only a clear of EN passes while it is 1 (R337), and carriers 6 and 7 do
not exist (R335). -/
def badConn (old new : Word) : Bool :=
  (GRD_RXCFG_EN.bit old && GRD_RXCFG_EN.bit new) || decide (6 ≤ GRD_RXCFG_CARR.get new)

/-- GRD_RXCFG (R332, R337). -/
def State.badRxcfg (s : State) (c : Nat) (old new : Word) : Bool :=
  let n := GRD_RXCFG_PLEN.get new
  badConn old new || decide (48 < n) || decide (n = 8) || (GRD_RXCFG_CMD.bit new && decide (n ≠ 16))
    || (GRD_RXCFG_CMD.bit new && GRD_RXCFG_EN.bit new && (List.range 8).any (fun d => d ≠ c && s.grdEn d && s.grdCmd d
      && decide (s.grdAxl d = GRD_RXCFG_AXL.get new)))

/-- The Guard block (R330, R334). -/
def State.badGRD (s : State) (o : Nat) (old new : Word) : Bool :=
  let c := o / 0x20 % 8
  if o < 0x190100 then
    let r := o % 0x20
    if r = 0 then s.badRxcfg c old new
    else if r = 0x0C then decide (GRD_RXTIM_WIN.get new = 0)
    else if r = 0x10 then outside 1 32767 (GRD_RXDL_DMAX.get new) || decide (GRD_RXDL_RTTMAX.get new = 0)
    else false
  else if o < 0x190200 then
    if o % 0x20 = 0 then badConn old new
    else if o % 0x20 = 0x0C then s.txctlRefused c new
    else false
  else false

/-- The CAN bit times (R339 and the ranges of the card). -/
def badNbt (w : Word) : Bool :=
  let t2 := CAN_NBT_TSEG2.get w
  decide (CAN_NBT_BRP.get w = 0) || decide (CAN_NBT_TSEG1.get w < 2) || outside 1 127 t2
    || outside 1 127 (CAN_NBT_SJW.get w) || decide (t2 < CAN_NBT_SJW.get w)
def badDbt (w : Word) : Bool :=
  let t2 := CAN_DBT_TSEG2.get w
  decide (CAN_DBT_BRP.get w = 0) || outside 1 31 (CAN_DBT_TSEG1.get w) || outside 1 15 t2
    || outside 1 15 (CAN_DBT_SJW.get w) || decide (t2 < CAN_DBT_SJW.get w)

/-- The CAN block (R339, R344 and the cards). -/
def State.badCAN (s : State) (o : Nat) (old new : Word) : Bool :=
  let n := (o - 0x1A0000) / 0x1000
  let en := s.flag (CAN_CFG n) CAN_CFG_EN
  let r := o % 0x1000
  if r = 0 then en && decide (CAN_CFG_EN.put new 0 ≠ CAN_CFG_EN.put old 0)
  else if r = 0x04 then en || badNbt new
  else if r = 0x08 then en || badDbt new
  else if r = 0x1C then CAN_TMCFG_TMEN.bit new && decide (CAN_TMCFG_REFP.get new = 0)
  else if r = 0x304 then
    let len := CAN_TXHDR_LEN.get new
    if CAN_TXHDR_FDF.bit new then !fdLens.contains len else decide (8 < len)
  else false

/-- The Ethernet block (R350). -/
def State.badETH (s : State) (o : Nat) (old new : Word) : Bool :=
  let en := s.flag ETH_CFG ETH_CFG_EN
  if o = ETH_CFG then en && ETH_CFG_EN.bit new
  else if o = ETH_TXR then en && decide (ETH_TXR_KICK.put new 0 ≠ ETH_TXR_KICK.put old 0)
  else if o = ETH_RXR then en && decide (new ≠ old)
  else if o = ETH_MDIO then ETH_MDIO_GO.bit new && s.flag ETH_MDIO ETH_MDIO_BUSY
  else false

/-- CPL_LEASE (R321, R325). -/
def State.badLease (s : State) (old new : Word) : Bool :=
  let cfg : Word := CPL_LEASE_LEN.mask ||| CPL_LEASE_AUTH.mask ||| CPL_LEASE_ASEAT0.mask ||| CPL_LEASE_ASEAT1.mask
    ||| CPL_LEASE_LSPO.mask
  (s.power = .drive && decide (new &&& cfg ≠ old &&& cfg))
    || (CPL_LEASE_LEN.bit new && decide (CPL_LEASE_ASEAT0.get new = 0))
    || decide (32 < CPL_LEASE_ASEAT0.get new) || decide (32 < CPL_LEASE_ASEAT1.get new)
    || (CPL_LEASE_DECL.bit new && (s.wr CPL_LEASE new).declBad (CPL_LEASE_DSEAT.get new))

/-- The Coupler block (R308, R309 and the ranges of its cards). -/
def State.badCPL (s : State) (o : Nat) (old new : Word) : Bool :=
  if o = CPL_CFG then decide (CPL_CFG_DETT.get new = 0)
  else if o = CPL_TXTO then decide (CPL_TXTO_TIMEOUT.get new = 0)
  else if o = CPL_TXCTL then txctlBad new
  else if o = CPL_RXMP then decide (s.fld CPL_RXM CPL_RXM_NSLOT ≤ CPL_RXMP_RD.get new)
  else if o = CPL_RXSP then decide (s.fld CPL_RXS CPL_RXS_NSLOT ≤ CPL_RXSP_RD.get new)
  else if o = CPL_LEASE then s.badLease old new
  else false

/-- The write is refused as a whole (R34). -/
def State.badWrite (s : State) (o : Nat) (old new : Word) : Bool :=
  let win := o / 0x10000
  if win = 0 then s.badSYS o new
  else if win = 1 then decide (o = EVT_RAISE) && evReserved (EVT_RAISE_SOURCE.get new)
  else if win = 2 then s.badTRK o new
  else if win = 3 then s.badMEM o new
  else if 8 ≤ win ∧ win < 12 then s.badAXL o old new
  else if win = 16 then s.badGCH o old new
  else if win = 17 then s.badPOS o old new
  else if win = 18 then s.badSDF o old new
  else if win = 19 then badSAR o new
  else if win = 20 then badRES o new
  else if win = 21 then s.badHYS o old new
  else if win = 22 then s.badTTU o old new
  else if win = 23 then s.badPROT o new
  else if win = 24 then s.badSAFE o new
  else if win = 25 then s.badGRD o old new
  else if win = 26 then s.badCAN o old new
  else if win = 27 then s.badETH o old new
  else if win = 28 then s.badCPL o old new
  else if win = 29 then
    decide (o = THM_CTL) && (decide (THM_CTL_RATE.get new = 0) || decide (THM_CTL_TSTEP.get new = 0))
  else if win = 31 then decide (o = PMU_HCFG) && outside 200 2000 (PMU_HCFG_HDIV.get new)
  else false

end Sys2Proof.Machine
end

