-- ==== Sys2Proof/Machine/RegWrite.lean ====
section
/-! DEFINITION. A write to the register views (R27, R30, R32 to R37): privilege, chock and value checks, the field types,
sequence clears, and what the written registers start. -/

namespace Sys2Proof.Machine

open Sys2Proof

/-! ### Field types (R32, R33) -/

/-- Nothing meets the access: no hardware update and no increment in its cycle, at instant 0. -/
def noUpdate : CoUpdate := {}

/-- Hardware updates a field in the cycle of the write. -/
def coHits (co : CoUpdate) (f : FieldCard) : Bool := decide (co.rhMask &&& f.fld.mask ≠ 0)

/-- An RC counter plus the coincident increment: saturating, or wrapping where its card says so (R33). -/
def rcPlus (co : CoUpdate) (f : FieldCard) (n : Nat) : Nat :=
  let k := n + f.fld.get co.rcInc
  if f.ty = .rcw then k else min k (2 ^ f.fld.len - 1)

/-- The field after the hardware's own update alone. -/
def hwField (co : CoUpdate) (w : Word) (f : FieldCard) : Word := match f.ty with
  | .rh => if coHits co f then f.fld.put w (f.fld.get co.rhVal) else w
  | .rc | .rcw => f.fld.put w (rcPlus co f (f.fld.get w))
  | _ => w

/-- The field after a write of `data`, with the coincident update. -/
def swField (co : CoUpdate) (data w : Word) (f : FieldCard) : Word := match f.ty with
  | .rw => f.fld.put w (f.fld.get data)
  | .rh => f.fld.put w (f.fld.get (if coHits co f then co.rhVal else data))
  | .rc | .rcw => f.fld.put w (rcPlus co f (f.fld.get data))
  | .ck => w ||| (data &&& f.fld.mask)
  | .ro | .rz | .sq => w

/-- The write of an RH field loses to the hardware's update (R32). -/
def coLost (co : CoUpdate) (f : FieldCard) : Bool := decide (f.ty = .rh) && coHits co f

/-! ### Chock (R37) -/

/-- The Axle of a set, if the word assigns it to one (R196). -/
def State.setWordAxle (s : State) (w : Word) : Option Nat :=
  let a := s.legAxle (HYS_SET_LEGA.get w)
  if HYS_SET_EN.bit w && decide (a < 4) then some a else none

/-- The SYS_CHOCK bits that cover a field (R37); every field of a route with MAN = 1 is covered (R313). -/
def State.chockBits (s : State) (o : Nat) (ix : List Nat) (old new : Word) (f : FieldCard) : List Nat :=
  if 0x1C0100 ≤ o ∧ o < 0x1C0180 ∧ CPL_ROUTE_MAN.bit old = true then [11]
  else match f.chock with
    | .none => []
    | .bit n => [n]
    | .axle => [3 + ix.headD 0]
    | .hysSet => ((s.setWordAxle old).toList ++ (s.setWordAxle new).toList).map (fun a => 3 + a)

/-- A chock bit covers the field now. -/
def State.chocks (s : State) (o : Nat) (ix : List Nat) (old new : Word) (f : FieldCard) : Bool :=
  (s.chockBits o ix old new f).any (fun b => decide (b ≤ 14) && (s.rd SYS_CHOCK).getLsbD b)

/-! ### Sequence clears (R35) -/

/-- The flags of SAFE_BRKSTAT that may clear: FLTA and FLTB only while the feedback agrees with its output (R227). -/
def State.brkClearable (s : State) : Word :=
  let m : Word := 0xFFFFFFFF
  let m := if s.flag SAFE_BRKSTAT SAFE_BRKSTAT_FA = s.brake.outA then m else m &&& ~~~ SAFE_BRKSTAT_FLTA.mask
  if s.flag SAFE_BRKSTAT SAFE_BRKSTAT_FB = s.brake.outB then m else m &&& ~~~ SAFE_BRKSTAT_FLTB.mask

/-- A matching sequence clears the flags written as 1 (R35); the conditional clears of R202, R218, R227 and R294. `flags`
are the SQ fields that the write may reach. -/
def sqClear (o : Nat) (ix : List Nat) (flags data req : Word) (s : State) : State :=
  if 0x170380 ≤ o ∧ o < 0x1703C0 then tripClear (ix.headD 0) data s
  else if 0x180000 ≤ o ∧ o < 0x180100 ∧ o % 0x40 = 0x08 then tmClear (ix.headD 0) data s
  else if flags = 0 ∨ seqFld.get data ≠ s.fld o seqFld then s
  else if o = SYS_RSTCAUSE ∧ SYS_RSTCAUSE_REQ.get req ≠ 0 then s
  else
    let m := data &&& flags
    let m := if o = SAFE_BRKSTAT then m &&& s.brkClearable else m
    let s := s.wr o (s.rd o &&& ~~~ m)
    if o = SAFE_BRKSTAT then settleBrake s else s

/-! ### What a written register starts -/

/-- The flag has risen with the write. -/
def rose (f : Fld) (old new : Word) : Bool := f.bit new && !f.bit old
def fell (f : Fld) (old new : Word) : Bool := f.bit old && !f.bit new

/-- SYS: requests of SYS_STATE and SYS_RSTCAUSE, PLL-S off (R265, R279, R294). -/
def wroteSYS (o : Nat) (old new : Word) (s : State) : State :=
  if o = SYS_STATE then stateRequested (SYS_STATE_REQ.get new) (s.setFld SYS_STATE SYS_STATE_REQ 0)
  else if o = SYS_RSTCAUSE then
    let s := (s.setFld SYS_RSTCAUSE SYS_RSTCAUSE_REQ 0).setFld SYS_RSTCAUSE SYS_RSTCAUSE_KEY 0
    if SYS_RSTCAUSE_REQ.get new = 1 then resetNow .warm SYS_RSTCAUSE_SWWARM s
    else if SYS_RSTCAUSE_REQ.get new = 2 then resetNow .cold SYS_RSTCAUSE_SWCOLD s
    else s
  else if o = SYS_CLK ∧ fell SYS_CLK_SEN old new then pllSLost s
  else s

/-- MEM_NVCMD starts its command (R254). -/
def wroteMEM (o : Nat) (new : Word) (s : State) : State :=
  if o = MEM_NVCMD then nvmStart (decide (MEM_NVCMD_CMD.get new = 2)) (s.setFld MEM_NVCMD MEM_NVCMD_KEY 0) else s

/-- The Axle block (R97, R100, R102, R103, R107, R108), while the counter holds n; `lost`: the write lost to a scheduled
change. -/
def wroteAXL (o : Nat) (old new : Word) (n : Nat) (lost : Bool) (s : State) : State :=
  let a := (o - 0x80000) / 0x10000
  let r := o % 0x10000
  if r = 0 then freezeWritten a n (rose AXL_CTRL_DBGFRZ old new) (fell AXL_CTRL_DBGFRZ old new) (runWritten a s)
  else if r = 0x04 then (if lost then s else periodWritten a n (AXL_PRD_PERIOD.get old) s)
  else if r = 0x24 then scheduleWritten a s
  else if 0x30 ≤ r ∧ r < 0x40 then each (s.legsOf a) mapChanged s
  else if 0x40 ≤ r ∧ r < 0x60 then triggerWritten a ((r - 0x40) / 4) n s
  else s

/-- The mapping of a channel has been written. -/
def mapWritten (c p0 : Nat) (before s : State) : State :=
  let p := s.fld (GCH_CFG c) GCH_CFG_POS
  let s := joinChannel c s
  recompose (p / 2) (recompose (p0 / 2) (mappingSettled before p (mappingSettled before p0 s)))

/-- The gate channel block (R121, R126, R127). -/
def wroteGCH (o : Nat) (old new : Word) (before s : State) : State :=
  let c := (o - 0x100000) / 0x40
  let r := o % 0x40
  if r = 0 then mapWritten c (GCH_CFG_POS.get old) before s
  else if r = 0x0C then (if GCH_CTRL_REARM.bit new then rearmChannel c s else s)
  else if r = 0x20 then dieTempUpdate c s
  else s

/-- LEG_CFG has been written (R113, R122). -/
def legWritten (l : Nat) (old new : Word) (s : State) : State :=
  let s := if LEG_CFG_PMODE.get old ≠ LEG_CFG_PMODE.get new then clearCarries l s else s
  let s := if LEG_CFG_AXLE.get old ≠ LEG_CFG_AXLE.get new then clearRaw l (dropEdges l s) else s
  let s := if 4 ≤ s.legAxle l then clampDeadTime l s else s
  recompose l (settleSafe s)

/-- The position and leg block (R115, R116, R127, R130). -/
def wrotePOS (o : Nat) (old new : Word) (s : State) : State :=
  if o < 0x110400 then (if o % 0x10 < 8 then recompose ((o - 0x110000) / 0x20) s else s)
  else if o < 0x110C00 then
    let l := (o - 0x110400) / 0x40
    if o % 0x40 = 0 then legWritten l old new s
    else if o % 0x40 = 4 ∧ 4 ≤ s.legAxle l then clampDeadTime l s
    else s
  else if o = GATE_TREF then each (List.range 256) dieTempUpdate s
  else s

/-- The sigma-delta block (R138, R139, R147). -/
def wroteSDF (o : Nat) (old new : Word) (s : State) : State :=
  if o < 0x120C00 then
    let c := (o - 0x120000) / 0x20
    if o % 0x20 = 0x0C then
      let s := if SDF_PCTL_PEN.bit new then s else s.updSd c (fun x => { x with hi := 0, lo := 0, hiHolds := false, loHolds := false })
      if SDF_PCTL_REARM.bit new then rearmSdf c (s.setFlag (SDF_PCTL c) SDF_PCTL_REARM false) else s
    else s
  else if 0x120C80 ≤ o ∧ o < 0x120D00 then lmapWritten ((o - 0x120C80) / 4) s
  else if 0x120E20 ≤ o ∧ o < 0x120E30 then
    (if fell SDF_AXW_EN old new then axwOff ((o - 0x120E20) / 4) s else s)
  else s

/-- SAR_CTL and CMP_CFG (R150, R152): START, continuous mode that no sequence is under way in, and a comparator switched
off. -/
def wroteSAR (o : Nat) (new : Word) (s : State) : State :=
  if o < 0x130080 ∧ o % 0x10 = 0 then
    let c := (o - 0x130000) / 0x10
    let s := s.setFlag (SAR_CTL c) SAR_CTL_START false
    if SAR_CTL_START.bit new && SAR_CTL_EN.bit new && decide (SAR_CTL_TSRC.get new = 0) then sarTrigger c s
    else if SAR_CTL_EN.bit new && decide (SAR_CTL_TSRC.get new = 2) && !s.flag (SAR_STAT c) SAR_STAT_BUSY then sarTrigger c s
    else s
  else if 0x130400 ≤ o ∧ o < 0x130440 then
    (if CMP_CFG_EN.bit new then s else cmpOff ((o - 0x130400) / 4) s)
  else s

/-- The encoder's angle follows its configuration, and a rise of EN starts afresh (R155, R160); the brake test and the Drag
Shoe see a source that has gone (R226, R228). -/
def wroteRES (o : Nat) (old new : Word) (s : State) : State :=
  let e := (o - 0x140100) / 0x40
  if 0x140100 ≤ o ∧ o % 0x40 < 8 then
    let s := if o % 0x40 = 0 ∧ rose ENC_CFG_EN old new = true then
        (s.setFlag (ENC_STAT e) ENC_STAT_ZSEEN false).updEn e (fun x => { x with lastAt := none }) else s
    settleBrake (s.setFld (ENC_ANG e) ENC_ANG_ANGLE (encAngle s e))
  else s

/-- HYS_CTRL and HYS_SET (R183, R189, R192, R193). -/
def wroteHYS (o : Nat) (old new : Word) (s : State) : State :=
  if o < 0x150100 then
    let a := (o - 0x150000) / 0x40
    if o % 0x40 = 0x24 then
      let s := s.wr o 0
      let s := onlyIf (HYS_CTRL_CATCH.bit new) (catchAsked a) s
      let s := onlyIf (HYS_CTRL_HANDBACK.bit new) (handbackAsked a) s
      onlyIf (HYS_CTRL_FORCE.bit new) (askFallback a 4) s
    else s
  else each (setWordLegs old ++ setWordLegs new) recompose s

/-- The transform and table unit (R174, R176, R177, R179). -/
def wroteTTU (o : Nat) (old new : Word) (s : State) : State :=
  let a := (o - 0x160000) / 0x1000
  let r := o % 0x1000
  if 0x440 ≤ r ∧ r < 0x464 then updateIndex a s
  else if r = 0x46C then observerReport a s
  else if r = 0x478 then
    let s := s.setFlag o TTU_OCTL_REARM false
    if TTU_OCTL_REARM.bit new || rose TTU_OCTL_SEN old new then ttuRearm a s else s
  else s

/-- The protection block (R198, R203 to R206, R209, R211). -/
def wrotePROT (o : Nat) (old new : Word) (before s : State) : State :=
  if o = PROT_CTRL then
    let s := (s.setFlag o PROT_CTRL_SWTRIP false).setFlag o PROT_CTRL_KREL false
    let s := onlyIf (PROT_CTRL_SWTRIP.bit new) (swTrip (PROT_CTRL_SWG.get new)) s
    onlyIf (PROT_CTRL_KREL.bit new) keeperRelease s
  else if o = PROT_DIS then dischargeWritten s
  else if o = PROT_DCL then { s with chop := { s.chop with warned := false } }
  else if o = PROT_CHOP then
    let s := if PROT_CHOP_EN.bit new then s else { s with chop := { s.chop with on := false } }
    changeSource (PROT_CHOP_LEG.get new) (changeSource (PROT_CHOP_LEG.get old) s)
  else if o < 0x170380 ∨ (0x1703C0 ≤ o ∧ o < 0x170460) then settleSafe (codesFollow before s)
  else s

/-- Drag Shoe and seal (R221 to R228): a release asked for during the test ends it. -/
def wroteSAFE (o : Nat) (new : Word) (s : State) : State :=
  if o = SAFE_BRKCTL then
    let s := s.setFlag o SAFE_BRKCTL_TSTART false
    let s := if SAFE_BRKCTL_TSTART.bit new then brakeTestStart s else s
    let s := if SAFE_BRKCTL_REL.bit new && s.brakeTesting then brakeTestCut 3 s else s
    settleBrake s
  else if o = SAFE_SEALCTL then sealWritten s
  else s

/-- The Guard block (R334, R337). -/
def wroteGRD (o : Nat) (old new : Word) (s : State) : State :=
  let c := o / 0x20 % 8
  if o < 0x190100 then
    (if o % 0x20 = 0 ∧ rose GRD_RXCFG_EN old new then
      (s.setFld (GRD_RXSTAT c) GRD_RXSTAT_STATE grdNEW).updGr c (fun x => { x with challenge := none, asked := false, refusals := 0 })
    else s)
  else if o < 0x190200 then (if o % 0x20 = 0x0C then guardLaunch c s else s)
  else s

/-- The CAN block (R339, R340, R342, R344): a controller that is switched off ends its frame in progress, and one that is
switched on integrates (log entry 57). -/
def wroteCAN (o : Nat) (old new : Word) (inTx : Bool) (s : State) : State :=
  let n := (o - 0x1A0000) / 0x1000
  let r := o % 0x1000
  if r = 0 then
    (if fell CAN_CFG_EN old new then
      (if s.flag SYS_CLK SYS_CLK_XOK && decide (s.fld (CAN_ERR n) CAN_ERR_STATE < 2) then
        s.updCn n (fun x => { x with lastFrame := true })
      else s.setFld (CAN_ERR n) CAN_ERR_STATE 3)
    else if rose CAN_CFG_EN old new then
      (s.updCn n (fun x => { x with lastFrame := false })).setFld (CAN_ERR n) CAN_ERR_STATE 3
    else s)
  else if r = 0x14 then
    let s := (s.setFlag o CAN_TXCTL_PUSH false).setFlag o CAN_TXCTL_ABORT false
    let s := if CAN_TXCTL_ABORT.bit new then canAbort n inTx s else s
    if CAN_TXCTL_PUSH.bit new then canPush n s else s
  else if r = 0x1C then
    (if rose CAN_TMCFG_TMEN old new then s.updCn n (fun x => { x with refPrev := none }) else s)
  else if r = 0x40C ∨ r = 0x50C then canPopTag n (decide (r = 0x50C)) (CAN_RXPOP_TAG.get new) (s.wr o 0)
  else s

/-- The Ethernet block (R349, R350). -/
def wroteETH (o : Nat) (old new : Word) (s : State) : State :=
  if o = ETH_CFG ∧ rose ETH_CFG_EN old new then { s with eth := { s.eth with txIdx := 0, rxIdx := 0 } }
  else if o = ETH_TXR then (if ETH_TXR_KICK.bit new then ethKick (s.setFlag o ETH_TXR_KICK false) else s)
  else if o = ETH_MDIO then (if ETH_MDIO_GO.bit new then mdioStart (s.setFlag o ETH_MDIO_GO false) else s)
  else s

/-- The Coupler block (R296, R299, R301, R304, R308, R318, R321). -/
def wroteCPL (o : Nat) (old new : Word) (m : PortF) (s : State) : State :=
  if o = CPL_CFG then (if rose CPL_CFG_HEN old new then henWritten s else s)
  else if o = CPL_TXCTL then launchFrame m s
  else if 0x1C0020 ≤ o ∧ o < 0x1C0030 then portWritten ((o - 0x1C0020) / 4) s
  else if 0x1C0100 ≤ o ∧ o < 0x1C01C0 then settleTree s
  else if o = CPL_ADMKEY 7 then keyWritten s
  else if o = CPL_LEASE then
    let s := settleSafe (settleLease s)
    if CPL_LEASE_DECL.bit new then declare s else s
  else s

/-- The effect of an accepted write, the register itself already written. -/
def wrote (o : Nat) (old new : Word) (n : Nat) (co : CoUpdate) (before s : State) : State :=
  let win := o / 0x10000
  if win = 0 then wroteSYS o old new s
  else if win = 1 then
    (if o = EVT_RAISE then s.raise (EVT_RAISE_SOURCE.get new) else if o < 0x10400 then wakeLantern s else s)
  else if win = 2 then
    (if o = TRK_INJ ∧ rose TRK_INJ_REQ old new then s.updTrk (fun t => { t with wevSeen := false }) else s)
  else if win = 3 then wroteMEM o new s
  else if win = 4 then (if o = LIX_ADDR then lixAddrWritten s else s)
  else if 8 ≤ win ∧ win < 12 then wroteAXL o old new n (decide (co.rhMask &&& AXL_PRD_PERIOD.mask ≠ 0)) s
  else if win = 16 then wroteGCH o old new before s
  else if win = 17 then wrotePOS o old new s
  else if win = 18 then wroteSDF o old new s
  else if win = 19 then wroteSAR o new s
  else if win = 20 then wroteRES o old new s
  else if win = 21 then wroteHYS o old new s
  else if win = 22 then wroteTTU o old new s
  else if win = 23 then wrotePROT o old new before s
  else if win = 24 then wroteSAFE o new s
  else if win = 25 then wroteGRD o old new s
  else if win = 26 then wroteCAN o old new co.inTx s
  else if win = 27 then wroteETH o old new s
  else if win = 28 then wroteCPL o old new co.portF s
  else if win = 31 then harnessStarts before s
  else s

/-! ### The write -/

/-- PRIV_VIOL and its capture: a Passenger write to a register with a Coachman-only field (R27). -/
def notePriv (v : View) (off : Nat) (c : Card) (s : State) : State :=
  if v = .passenger ∧ coachAny c = true then captureRefused v off 2 (s.raise PRIV_VIOL) else s

/-- The fields that a write through the view reaches (R27). -/
def openFields (v : View) (c : Card) : List FieldCard :=
  if v = .passenger then (if c.coach then [] else c.fields.filter (fun f => !f.coach)) else c.fields

/-- A write refused as a whole; a refused state request shows its reason (R34, R266, R267). -/
def refuseWrite (v : View) (off o : Nat) (new : Word) (s : State) : State :=
  let s := if o = SYS_STATE then
      (match s.reqWhy (SYS_STATE_REQ.get new) with
        | some w => s.setFld SYS_STATE SYS_STATE_WHY w
        | none => s)
    else s
  badValue v off s

/-- FILT of PROT_SRC reads zero and takes nothing for sources that are not pins (R199). -/
def dataAt (o : Nat) (data : Word) : Word :=
  if 0x170100 ≤ o ∧ o < 0x170380 then PROT_SRC_FILT.put data 0 else data

/-- What meets a write at the offset: what the command carries, and for AXL_PRD a scheduled change in the same cycle
(R107). -/
def State.meets (s : State) (o n : Nat) (co : CoUpdate) : CoUpdate :=
  if 0x80000 ≤ o ∧ o < 0xC0000 ∧ o % 0x10000 = 0x04 then
    match s.schedMeets ((o - 0x80000) / 0x10000) n with
    | some p => { co with rhMask := co.rhMask ||| AXL_PRD_PERIOD.mask, rhVal := AXL_PRD_PERIOD.put co.rhVal p }
    | none => co
  else co

/-- The checks and the field types of R27, R32 to R37 on a register of the first page: `off` is the offset as presented,
`n` the counter of its Axle where it is an Axle register. -/
def writeFields (v : View) (off o : Nat) (c : Card) (ix : List Nat) (data : Word) (co : CoUpdate) (n : Nat)
    (s : State) : State :=
  let before := s
  let s := notePriv v off c s
  let fs := openFields v c
  let data := dataAt o data
  let old := s.rd o
  let whole := fs.foldl (swField co data) old
  let shut := fun f => s.chocks o ix old whole f && decide (f.fld.get (swField noUpdate data old f) ≠ f.fld.get old)
  let ok := fs.filter (fun f => !shut f)
  let hw := c.fields.foldl (hwField co) old
  let new := ok.foldl (fun w f => f.fld.put w (f.fld.get (swField co data old f))) hw
  let s := if fs.any shut then captureRefused v off 1 (s.raise CHOCK_VIOL) else s
  if (fs.any shut && decide (o = MEM_NVCMD)) || ok.all (fun f => f.ty = .ro || f.ty = .rz) then s.wr o hw
  else if s.badWrite o old new then refuseWrite v off o new (s.wr o hw)
  else
    let s := if ok.any (coLost co) then captureLost v off s else s
    let s := sqClear o ix (ok.foldl (fun m f => if f.ty = .sq then m ||| f.fld.mask else m) 0) data new (s.wr o new)
    wrote o old new n co before s

/-- A write to an offset of the register views (R30): the page folds, reserved offsets ignore it, and a window that is not
decoded is the caller's. A compare is applied by R97 and R98, LIX_DATA by R40. -/
def writeReg (v : View) (off : Nat) (data : Word) (co : CoUpdate) (n : Option Nat) (s : State) : State :=
  match foldOff off with
  | none => s
  | some o => match regAt o with
    | none => s
    | some (c, ix) =>
      if o = LIX_DATA ∧ v = .coachman then lixDataWrite off data s
      else if 0x80000 ≤ o ∧ o < 0xC0000 ∧ 0x80 ≤ o % 0x10000 then
        let a := (o - 0x80000) / 0x10000
        applyCompares a (n.getD (s.countNow a)) [(o / 4 % 16, decide (0xC0 ≤ o % 0x10000), data)] s
      else
        let n := n.getD (s.countNow (ix.headD 0))
        writeFields v off o c ix data (s.meets o n co) n s

/-- A register write by a command of its own: at its instant, while the fast domain is awake. -/
def writeCmd (v : View) (off : Nat) (data : Word) (co : CoUpdate) (n : Option Nat) (s : State) : Out :=
  if s.awake then settled (writeReg v off data co n (s.at co.t)) else .next s

/-- A write to a register (R32). -/
def execRegisterWrite (v : View) (off : BitVec 21) (data : Word) (co : CoUpdate) (s : State) : Out :=
  writeCmd v off.toNat data co none s

end Sys2Proof.Machine
end

