-- ==== Sys2Proof/Machine/LoadStore.lean ====
section
/-! DEFINITION. Loads and stores (R24, R25, R28, R50, R58 to R60, R63, R69, R307), the accesses of the debugger (R247), and
the requests that reach this device's registers from the fabric (R29, R298, R307). -/

namespace Sys2Proof.Machine

open Sys2Proof

/-! ### Regions of an access -/

/-- What an access by the Troika reaches, once the device's own window is taken as its own Passenger view (R25). -/
def State.target (s : State) (a : Nat) : Region := match region a with
  | .window d off => if d = s.seat ∧ s.seat ≠ 0 then .view .passenger off else .window d off
  | r => r

/-- The region is never cached: its accesses keep program order with every COMMIT that has issued (R60). -/
def uncached : Region → Bool
  | .nvm | .sram | .unmapped => false
  | _ => true

/-- The region accepts an access of this many bytes: the register views and the Coupler window accept aligned words in
decoded windows alone (R7, R25, R58). -/
def widthOk (r : Region) (n : Nat) : Bool := match r with
  | .unmapped => false
  | .view _ off => decide (n = 4) && (foldOff off).isSome
  | .window _ _ => decide (n = 4)
  | _ => true

/-- Passenger code may not address the Coachman view, nor the space above it up to 0x4FFFFFFF (R28, R50). -/
def coachmanSpace (a : Nat) : Bool := decide (0x40000000 ≤ a) && decide (a < 0x50000000)

/-! ### Loads of the Troika -/

/-- A load of `n` bytes of memory at the address `a`: `put` takes the bytes into the core's registers. Bytes that buffered
stores hold are returned from there (R60). -/
def loadMemory (a : Word) (n : Nat) (env : Env) (put : List Byte → CoreState → CoreState) (s : State) : State :=
  if s.nvmBlocked a.toNat then fail .troika 0x07 a s
  else if s.forwards a.toNat n then retire .troika (put (s.coreBytes a.toNat n)) s
  else
    let (s, good) := readCheck a.toNat n env (waitFor a.toNat s)
    if good then retire .troika (put (s.coreBytes a.toNat n)) s else fail .troika 0x0A a s

/-- A word load through a register view (R26, R27). -/
def loadView (v : View) (off : Nat) (a : Word) (env : Env) (put : List Byte → CoreState → CoreState) (s : State) : State :=
  match foldOff off with
  | none => fail .troika 0x07 a s
  | some o =>
    let (w, s) := readReg v o (s.at env.co.t)
    retire .troika (put (wordBytes w)) s

/-- A word load through the Coupler window becomes an RD frame and waits for its answer (R307): at once status 2 without a
valid route or seat, and at issue while no tag is free. -/
def loadRemote (d off : Nat) (a : Word) (rt : GReg) (rot : Nat) (s : State) : State :=
  if s.seat = 0 ∨ s.routed d = false then fail .troika 0x07 a s
  else match s.freeTag with
    | none => s
    | some n =>
      let s := (s.setTag n (.load d rt rot a)).updTrk (fun t => { t with wait := .load n rt rot })
      sendOwn { cls := 1, dst := d, kind := 0x03, tag := n, arg := word off, xarg := 4 } s

/-- A load of the Troika of `n` bytes at an address, its privilege, alignment and width first (R28, R58, R63). A remote
word goes to rt, rotated right by `rot` bits. -/
def loadAt (a : Word) (n : Nat) (rt : GReg) (rot : Nat) (env : Env) (put : List Byte → CoreState → CoreState)
    (s : State) : State :=
  let r := s.target a.toNat
  if (s.core .troika).passenger && coachmanSpace a.toNat then fail .troika 0x02 a s
  else if a.toNat % n ≠ 0 then fail .troika 0x05 a s
  else if !widthOk r n then fail .troika 0x07 a s
  else
    vote kAccess a.toNat env.vote (fun s =>
      let s := if uncached r then drainStores s else s
      match r with
      | .view v off => loadView v off a env put s
      | .window d off => loadRemote d off a rt rot s
      | _ => loadMemory a n env put s) s

/-! ### Stores of the Troika -/

/-- A store to a RAM enters the store buffer (R60). -/
def storeMemory (a : Word) (bs : List Byte) (env : Env) (s : State) : State :=
  retire .troika id (pushEntry (.store a.toNat bs env.ecc env.tandemPortF) s)

/-- A word store through a register view (R27, R30, R32). -/
def storeView (v : View) (off : Nat) (a : Word) (w : Word) (env : Env) (s : State) : State :=
  if (foldOff off).isNone then fail .troika 0x08 a s
  else syncStretches (retire .troika id (writeReg v off w env.co none (s.at env.co.t)))

/-- A word store through the Coupler window becomes a WR frame (R307): without a valid route or seat it fails at once and
is reported as cause 0x09 (R63). -/
def storeRemote (d off : Nat) (a : Word) (w : Word) (s : State) : State :=
  if s.seat = 0 ∨ s.routed d = false then
    retire .troika id (s.updTrk (fun t => { t with imprecise := t.imprecise ++ [a] }))
  else match s.freeTag with
    | none => s
    | some n =>
      retire .troika id (sendOwn { cls := 1, dst := d, kind := 0x01, tag := n, arg := word off, payload := wordBytes w }
        (s.setTag n (.store d a)))

/-- A store of the Troika (R28, R58, R63): the bytes, least significant first; code NVM takes no store (R24, log entry
44). One to a register view or the Coupler window follows the stores that wait (R60). -/
def storeAt (a : Word) (bs : List Byte) (env : Env) (s : State) : State :=
  let r := s.target a.toNat
  if (s.core .troika).passenger && coachmanSpace a.toNat then fail .troika 0x02 a s
  else if a.toNat % bs.length ≠ 0 then fail .troika 0x06 a s
  else if decide (r = .nvm) || !widthOk r bs.length then fail .troika 0x08 a s
  else
    vote kAccess a.toNat env.vote (fun s =>
      match r with
      | .view v off => storeView v off a (word (leNat bs)) env (drainStores s)
      | .window d off => storeRemote d off a (word (leNat bs)) (drainStores s)
      | _ => storeMemory a bs env s) s

/-! ### Loads and stores of the Lantern core (R68, R69) -/

/-- The Lantern word at an address of the Lantern core. -/
def lanWordAt (a : Nat) : Option Nat := if 0x10000 ≤ a ∧ a < 0x50000 then some ((a - 0x10000) / 4) else none

/-- A read of a Lantern word by the Lantern core: LAN_IMGDATA advances LAN_IMGADDR (R281). -/
def lanFetch (w : Nat) (s : State) : Word × State := (s.lanRead w, onlyIf (decide (w = 7)) imgAdvance s)

/-- A load of the Lantern core: RAM bytes, or an aligned Lantern word (R69). -/
def lanLoadAt (a : Word) (n : Nat) (env : Env) (put : List Byte → CoreState → CoreState) (s : State) : State :=
  if a.toNat % n ≠ 0 then fail .lantern 0x05 a s
  else if a.toNat < 0x10000 then
    let s := waitCleared .lantern s
    if env.ecc = .uncorrectable then fail .lantern 0x0A a s
    else retire .lantern (put ((List.range n).map (fun k => mget (fun _ => (0 : Byte)) s.lan.ram (a.toNat + k)))) s
  else match lanWordAt a.toNat with
    | some w =>
      if n = 4 then
        let (v, s) := lanFetch w s
        retire .lantern (put (wordBytes v)) s
      else fail .lantern 0x07 a s
    | none => fail .lantern 0x07 a s

/-- A store of the Lantern core (R69). A store of less than an ECC word into an uncorrectable one raises cause 0x0A. -/
def lanStoreAt (a : Word) (bs : List Byte) (env : Env) (s : State) : State :=
  if a.toNat % bs.length ≠ 0 then fail .lantern 0x06 a s
  else if a.toNat < 0x10000 then
    let s := waitCleared .lantern s
    if env.ecc = .uncorrectable ∧ bs.length < 4 then fail .lantern 0x0A a s
    else
      retire .lantern id (each (List.range bs.length)
        (fun k t => t.setLanRamByte (a.toNat + k) (bs.getD k 0)) s)
  else match lanWordAt a.toNat with
    | some w =>
      if bs.length = 4 then retire .lantern id (lanWrite .core w (word (leNat bs)) s) else fail .lantern 0x08 a s
    | none => fail .lantern 0x08 a s

/-! ### The instructions -/

/-- A load on either core. -/
def loadOn (h : Hart) (a : Word) (n : Nat) (rt : GReg) (rot : Nat) (env : Env)
    (put : List Byte → CoreState → CoreState) : State → State := match h with
  | .troika => loadAt a n rt rot env put
  | .lantern => lanLoadAt a n env put

/-- A store on either core. -/
def storeOn (h : Hart) (a : Word) (bs : List Byte) (env : Env) : State → State := match h with
  | .troika => storeAt a bs env
  | .lantern => lanStoreAt a bs env

/-- The address of a load or store. -/
def State.ea (s : State) (h : Hart) (rb : GReg) (off : BitVec 15) : Word := effAddr (s.core h) rb off

/-- Bytes and extension of a narrow load (R56). -/
def subBytes (k : SubLoad) : Nat := match k with
  | .b | .bu => 1
  | .h | .hu => 2

/-- The value of a narrow load (R56). -/
def subVal (k : SubLoad) (bs : List Byte) : Word := match k with
  | .b => (BitVec.ofNat 8 (leNat bs)).signExtend 32
  | .h => (BitVec.ofNat 16 (leNat bs)).signExtend 32
  | .bu | .hu => word (leNat bs)

/-- LDB, LDBU, LDH, LDHU (R56, R58). -/
def execLdbLdbuLdhLdhu (h : Hart) (k : SubLoad) (rt rb : GReg) (off : BitVec 15) (env : Env) (s : State) : Out :=
  common h [rt, rb] (heldBy (.ldbLdbuLdhLdhu h k rt rb off env) <| fun s =>
    loadOn h (s.ea h rb off) (subBytes k) rt 0 env (fun bs c => c.setG rt (subVal k bs)) s) s

/-- LDW (R56, R58). -/
def execLdw (h : Hart) (rt rb : GReg) (off : BitVec 15) (env : Env) (s : State) : Out :=
  common h [rt, rb] (heldBy (.ldw h rt rb off env) <| fun s =>
    loadOn h (s.ea h rb off) 4 rt 0 env (fun bs c => c.setG rt (word (leNat bs))) s) s

/-- The word address of a rotated access (R59). -/
def rotBase (ea : Word) : Word := ea &&& 0xFFFFFFFC

/-- The rotation of a rotated access in bits (R59). -/
def rotBits (ea : Word) : Nat := 8 * (ea.toNat % 4)

/-- LDW.ROT (R59): the word at A, rotated right by 8 × k. -/
def execLdwRot (h : Hart) (rt rb : GReg) (off : BitVec 15) (env : Env) (s : State) : Out :=
  common h [rt, rb] (heldBy (.ldwRot h rt rb off env) <| fun s =>
    let ea := s.ea h rb off
    loadOn h (rotBase ea) 4 rt (rotBits ea) env
      (fun bs c => c.setG rt ((word (leNat bs)).rotateRight (rotBits ea))) s) s

/-- LDV (R56, R58): the Troika alone has vectors (R68). -/
def execLdv (h : Hart) (vt : VReg) (rb : GReg) (off : BitVec 15) (env : Env) (s : State) : Out :=
  fullOnly h (heldBy (.ldv h vt rb off env) <| fun s => loadAt (s.ea .troika rb off) 16 0 0 env (fun bs c => c.setV vt (BitVec.ofNat 128 (leNat bs))) s) s

/-- STB, STH (R56, R58). -/
def execStbSth (h : Hart) (half : Bool) (rt rb : GReg) (off : BitVec 15) (env : Env) (s : State) : Out :=
  common h [rt, rb] (heldBy (.stbSth h half rt rb off env) <| fun s =>
    storeOn h (s.ea h rb off) ((wordBytes ((s.core h).gr rt)).take (if half then 2 else 1)) env s) s

/-- STW (R56, R58). -/
def execStw (h : Hart) (rt rb : GReg) (off : BitVec 15) (env : Env) (s : State) : Out :=
  common h [rt, rb] (heldBy (.stw h rt rb off env) <| fun s => storeOn h (s.ea h rb off) (wordBytes ((s.core h).gr rt)) env s) s

/-- STW.ROT (R59): rt rotated left by 8 × k goes to the word at A. -/
def execStwRot (h : Hart) (rt rb : GReg) (off : BitVec 15) (env : Env) (s : State) : Out :=
  common h [rt, rb] (heldBy (.stwRot h rt rb off env) <| fun s =>
    let ea := s.ea h rb off
    storeOn h (rotBase ea) (wordBytes (((s.core h).gr rt).rotateLeft (rotBits ea))) env s) s

/-- The 16 bytes of a vector register, lowest lane first. -/
def vecBytes (v : VWord) : List Byte := (List.range 16).map (byteOf v)

/-- STV (R56, R58). -/
def execStv (h : Hart) (vt : VReg) (rb : GReg) (off : BitVec 15) (env : Env) (s : State) : Out :=
  fullOnly h (heldBy (.stv h vt rb off env) <| fun s => storeAt (s.ea .troika rb off) (vecBytes ((s.core .troika).vr vt)) env s) s

/-! ### The debugger (R247) -/

/-- A word that the debugger writes to memory, performed once on the bus after the stores that wait; an address that takes no
word takes nothing. -/
def debugStore (a : Word) (w : Word) (co : CoUpdate) (s : State) : State :=
  if a.toNat % 4 ≠ 0 then s
  else match s.target a.toNat with
    | .view v off => writeReg v off w co none (s.at co.t)
    | .window d off =>
      if s.seat = 0 ∨ s.routed d = false then s
      else match s.freeTag with
        | none => s
        | some n => sendOwn { cls := 1, dst := d, kind := 0x01, tag := n, arg := word off, payload := wordBytes w }
            (s.setTag n (.store d a))
    | .nvm | .unmapped => s
    | _ => memWrite a.toNat (wordBytes w) .clean (waitFor a.toNat (drainStores s))

/-- A debugger write, replayed through the exchange and counted (R245, R247): to the bus whenever a session is open, to the
cores in a halt. A control register takes what an MTC of it would leave. -/
def execDebuggerWrite (w : DbgTarget) (co : CoUpdate) (s : State) : Out :=
  if s.awake && s.flag TRK_DBG TRK_DBG_SESSION then
    let t := s.rc TRK_DBG TRK_DBG_REPLAY
    let upd := fun f => if s.flag TRK_STAT TRK_STAT_HALT then settled (t.updCore .troika f) else .next s
    match w with
    | .greg r v => upd (fun c => c.setG r v)
    | .vreg r v => upd (fun c => c.setV r v)
    | .areg r v => upd (fun c => c.setA r v)
    | .creg r v => upd (fun c => c.setC r.val (mtcVal .troika r.val (c.cx r.val) v))
    | .pc v => upd (fun c => { c with pc := v &&& 0xFFFFFFFC })
    | .mem a v => settled (debugStore a v co t)
  else .next s

/-! ### Requests from the fabric (R29, R298, R307) -/

/-- A target of the Passenger view that takes a request: an aligned offset in a decoded window (R24, R25, R307). -/
def remoteOk (off : Nat) : Bool := decide (off < 0x200000) && decide (off % 4 = 0) && (foldOff off).isSome

/-- A write from the fabric is refused: it changes nothing and is captured in SYS_REFUSED, or it may not reach a
Coachman-only field (R27, R29, R34, R37). -/
def remoteRefused (before after : State) : Bool :=
  decide (seqFld.get (before.rd SYS_REFUSED) ≠ seqFld.get (after.rd SYS_REFUSED))

/-- A WR frame: a write through this device's Passenger view, which hardware's own updates meet as they meet every write
(R29, R32), and its ACK: status 1 where the target is unmapped or refuses the write (R298, R307). -/
def wrArrived (f : Frame) (co : CoUpdate) (s : State) : State :=
  if remoteOk f.arg.toNat && decide (f.payload.length = 4) then
    let t := writeReg .passenger f.arg.toNat (word (leNat f.payload)) co none (s.at co.t)
    respond f 0x02 (b2n (remoteRefused s t)) [] t
  else respond f 0x02 1 [] s

def execWrFrame (f : Frame) (co : CoUpdate) (s : State) : Out := settled (receive [0x01] f (epochCheck f (wrArrived f co)) s)

/-- An RD frame: a read through this device's Passenger view, and its RDR with the word (R298, R307). A word is read
whatever number of bytes XARG asks for (log entry 140). -/
def rdArrived (f : Frame) (s : State) : State :=
  match foldOff f.arg.toNat with
  | some o =>
    if remoteOk f.arg.toNat then
      let (w, s) := readReg .passenger o s
      respond f 0x04 0 (wordBytes w) s
    else respond f 0x04 1 [] s
  | none => respond f 0x04 1 [] s

def execRdFrame (f : Frame) (s : State) : Out := settled (receive [0x03] f (epochCheck f (rdArrived f)) s)

end Sys2Proof.Machine
end

