-- ==== Sys2Proof/Machine/PathTest.lean ====
section
/-! DEFINITION. The path test of the Whiffletree and the re-vote of a held access (R241 to R244). -/

namespace Sys2Proof.Machine

open Sys2Proof

/-! ### Findings (R242) -/

/-- The delay registers OD-L, OD-1, ID-1 and ID-2 belong to the paths of the cores 0, 1, 1 and 2 (R232). -/
def registerOwner (k : Nat) : Nat := if k = 0 then 0 else if k < 3 then 1 else 2

/-- The failing steps, as TRK_INJ.FAIL shows them. -/
def stepBits (f : PathFindings) : Nat :=
  b2n f.copyA + 2 * b2n f.copyB + 4 * b2n f.comparator + 8 * b2n (decide (f.pattern ≠ 0)) + 16 * b2n (decide (f.owner ≠ 0))
    + 32 * b2n (decide (f.ports ≠ 0))

/-- The cores on whose paths steps 4 to 6 fail. -/
def failingPaths (f : PathFindings) : List Nat :=
  [0, 1, 2].filter (fun c => f.ports.getLsbD c ||
    (List.range 4).any (fun k => decide (registerOwner k = c) && (f.pattern.getLsbD k || f.owner.getLsbD k)))

/-! ### The test -/

/-- A path test may start: for a voter-copy disagreement, for a program's request at a WEV, or for an unconfirmed count at
a copy pause or with no core isolated. -/
def State.pathTestReady (s : State) : Bool :=
  let st := s.rd TRK_STAT
  let running := s.awake && s.troika.released && !TRK_STAT_STOP.bit st && !TRK_STAT_HALT.bit st && !s.troika.pathTesting
  running && (s.troika.heldAccess
    || (s.flag TRK_INJ TRK_INJ_REQ && s.troika.wevSeen && !TRK_STAT_RESYNC.bit st)
    || (s.troika.pathTestDue && (s.troika.copying || decide (TRK_STAT_ISO.get st = 0))))

/-- The path test begins and pauses the cores. -/
def execPathTest (s : State) : Out :=
  if s.pathTestReady then
    let s := (s.setFlag TRK_INJ TRK_INJ_REQ false).rc TRK_INJ TRK_INJ_RUNS
    let s := s.setFlag TRK_STAT TRK_STAT_RESYNC true
    .next (s.updTrk (fun t => { t with pathTesting := true, pathTestDue := false }))
  else .next s

/-- An unlocated fault of the checking path: every leg enters SAFE and the Troika stops (R243). -/
def pathUnlocated (s : State) : State := unlocated (safeFor .unlocated (List.range 32) s)

/-- The device goes on with one voter copy (R243). -/
def oneCopy (voter : Nat) (s : State) : State :=
  ((s.setFld TRK_STAT TRK_STAT_VOTER voter).sq TRK_STAT TRK_STAT_SVC).raise TRK_SVC

/-- The copies disagree again at the re-vote. -/
def Vote.differs : Vote → Bool
  | .copiesDisagree _ => true
  | _ => false

/-- The outcome of a path test (R243). -/
def pathOutcome (f : PathFindings) (revote : Vote) (s : State) : State :=
  match failingPaths f with
  | [] =>
    if f.copyA && f.copyB then pathUnlocated s
    else if f.copyA then oneCopy 2 s
    else if f.copyB || f.comparator then oneCopy 1 s
    else
      let s := s.updTrk (fun t => { t with unconf := [] })
      if s.troika.heldAccess && decide (s.fld TRK_STAT TRK_STAT_VOTER = 0) && Vote.differs revote then pathUnlocated s else s
  | [k] =>
    if f.copyA || f.copyB || f.comparator then pathUnlocated s
    else if s.outCores &&& (7 - 2 ^ k) = 0 then excludeCore k s
    else pathUnlocated s
  | _ => pathUnlocated s

/-- The env of an access with another vote on it. -/
def revoted (e : Env) (v : Vote) : Env := { e with vote := v, storeVote := .agree }

/-- The instruction whose access is held is performed with the outcome of the re-vote (R241, R243). -/
def performHeld (i : Instr) (v : Vote) (s : State) : Out := match i with
  | .ldbLdbuLdhLdhu h k rt rb off env => execLdbLdbuLdhLdhu h k rt rb off (revoted env v) s
  | .ldw h rt rb off env => execLdw h rt rb off (revoted env v) s
  | .ldwRot h rt rb off env => execLdwRot h rt rb off (revoted env v) s
  | .ldv h vt rb off env => execLdv h vt rb off (revoted env v) s
  | .stbSth h half rt rb off env => execStbSth h half rt rb off (revoted env v) s
  | .stw h rt rb off env => execStw h rt rb off (revoted env v) s
  | .stwRot h rt rb off env => execStwRot h rt rb off (revoted env v) s
  | .stv h vt rb off env => execStv h vt rb off (revoted env v) s
  | .atab ga gb n vr ax reads => execAtab ga gb n vr ax (reads.map (fun e => (e.1, revoted e.2 v))) s
  | .pia ga gb shift env => execPia ga gb shift (revoted env v) s
  | .rmp ga gb env => execRmp ga gb (revoted env v) s
  | .commit ga halves f vr ax _ => execCommit ga halves f vr ax v s
  | .xch ga gb upset _ => execXch ga gb upset (Vote.differs v) s
  | _ => .next s

/-- A change of the state that a command has answered. -/
def Out.thenDo (o : Out) (f : State → State) : Out := match o with
  | .next s => .next (f s)
  | o => o

/-- The path test ends (R242, R243): the pause is over, unless a copy pause goes on, and a held access is voted again by
the copies that remain, and performed. -/
def execPathTestDone (f : PathFindings) (revote : Vote) (s : State) : Out :=
  if s.awake && s.troika.pathTesting then
    let s := pathOutcome f revote (s.setFld TRK_INJ TRK_INJ_FAIL (stepBits f))
    let held := s.troika.heldInstr
    let s := s.updTrk (fun t => { t with pathTesting := false, heldAccess := false, heldInstr := none })
    let s := s.setFlag TRK_STAT TRK_STAT_RESYNC s.troika.copying
    Out.thenDo (match held with | some i => performHeld i revote s | none => .next s) (fun s => syncStretches (coresGoOn s))
  else .next s

end Sys2Proof.Machine
end

