-- ==== Sys2Proof/Machine/RegCmds.lean ====
section
/-! DEFINITION. The commands that are register writes with a row of their own: each composes the word that it writes and
goes through the same checks as every other write (R27, R32 to R37). -/

namespace Sys2Proof.Machine

open Sys2Proof

/-- A write that keeps the word in force but for one field. -/
def fieldCmd (v : View) (off : Nat) (f : Fld) (n : Nat) (s : State) : Out := writeCmd v off (f.put (s.rd off) n) noUpdate none s

/-- A write of a whole word. -/
def wordCmd (v : View) (off : Nat) (w : Word) (s : State) : Out := writeCmd v off w noUpdate none s

/-! ### Axles (R97, R100, R103, R107) -/

def execRunStart (v : View) (a : Fin 4) (s : State) : Out := fieldCmd v (AXL_CTRL a) AXL_CTRL_RUN 1 s
def execRunStop (v : View) (a : Fin 4) (s : State) : Out := fieldCmd v (AXL_CTRL a) AXL_CTRL_RUN 0 s
def execPeriodWrite (v : View) (a : Fin 4) (period : Word) (n : Nat) (s : State) : Out :=
  writeCmd v (AXL_PRD a) period noUpdate (some n) s
def execCompareWrite (v : View) (a : Fin 4) (k : Fin 16) (down : Bool) (c : Word) (n : Nat) (s : State) : Out :=
  writeCmd v (if down then AXL_CMPD a k else AXL_CMPU a k) c noUpdate (some n) s
def execPrdschArm (v : View) (a : Fin 4) (period : BitVec 19) (s : State) : Out :=
  wordCmd v (AXL_PRDSCH a) (AXL_PRDSCH_ARM.put (AXL_PRDSCH_PERIOD.put 0 period.toNat) 1) s

/-! ### Gate channels and sensing (R121, R126, R147, R150) -/

def execReadmit (v : View) (c : Fin 256) (s : State) : Out := fieldCmd v (GCH_CTRL c) GCH_CTRL_READMIT 1 s
def execGchRearm (v : View) (c : Fin 256) (s : State) : Out := fieldCmd v (GCH_CTRL c) GCH_CTRL_REARM 1 s

/-- SDF_PCTL.REARM, with what the input has shown in the apply cycle (R147). -/
def execSdfRearm (v : View) (c : Fin 96) (recentTransition clockPresent : Bool) (s : State) : Out :=
  if s.awake then
    fieldCmd v (SDF_PCTL c) SDF_PCTL_REARM 1 (s.updSd c (fun x => { x with recent := recentTransition, clk := clockPresent }))
  else .next s

def execSarStart (v : View) (c : Fin 8) (s : State) : Out := fieldCmd v (SAR_CTL c) SAR_CTL_START 1 s

/-! ### Observer and fallback (R174, R179, R189, R192, R193) -/

def execObserverReport (v : View) (a : Fin 4) (angle : Word) (s : State) : Out := wordCmd v (TTU_OBSA a) angle s
def execTtuRearm (v : View) (a : Fin 4) (s : State) : Out := fieldCmd v (TTU_OCTL a) TTU_OCTL_REARM 1 s
def execCatch (v : View) (a : Fin 4) (s : State) : Out := wordCmd v (HYS_CTRL a) HYS_CTRL_CATCH.mask s
def execHandback (v : View) (a : Fin 4) (s : State) : Out := wordCmd v (HYS_CTRL a) HYS_CTRL_HANDBACK.mask s
def execForce (v : View) (a : Fin 4) (s : State) : Out := wordCmd v (HYS_CTRL a) HYS_CTRL_FORCE.mask s

/-! ### Protection (R198, R202, R206, R211) -/

def execTripClear (v : View) (n : Fin 9) (data : Word) (s : State) : Out := wordCmd v (PROT_TRIP n) data s
def execSwtrip (v : View) (swg : BitVec 8) (s : State) : Out :=
  wordCmd v PROT_CTRL (PROT_CTRL_SWTRIP.put (PROT_CTRL_SWG.put 0 swg.toNat) 1) s
def execKrel (v : View) (s : State) : Out := fieldCmd v PROT_CTRL PROT_CTRL_KREL 1 s
def execDischargeStart (v : View) (s : State) : Out := fieldCmd v PROT_DIS PROT_DIS_START 1 s
def execDischargeStop (v : View) (s : State) : Out := fieldCmd v PROT_DIS PROT_DIS_START 0 s

/-! ### Torque monitor, seal and Drag Shoe (R218, R221 to R223, R228) -/

def execTmClear (v : View) (a : Fin 4) (data : Word) (s : State) : Out := wordCmd v (SAFE_TMSTAT a) data s
def execUnlock (v : View) (s : State) : Out := fieldCmd v SAFE_SEALCTL SAFE_SEALCTL_UNLOCK 1 s
def execLock (v : View) (s : State) : Out := fieldCmd v SAFE_SEALCTL SAFE_SEALCTL_LOCK 1 s
def execSetpw (v : View) (slot : BitVec 2) (s : State) : Out :=
  wordCmd v SAFE_SEALCTL (SAFE_SEALCTL_SETPW.put (SAFE_SEALCTL_SLOT.put 0 slot.toNat) 1) s
def execBrakeTestStart (v : View) (s : State) : Out := fieldCmd v SAFE_BRKCTL SAFE_BRKCTL_TSTART 1 s

/-! ### Troika, memory and events (R244, R254, R263) -/

def execPathTestRequest (v : View) (s : State) : Out := fieldCmd v TRK_INJ TRK_INJ_REQ 1 s
def execNvmProgram (v : View) (s : State) : Out := wordCmd v MEM_NVCMD (MEM_NVCMD_CMD.put (MEM_NVCMD_KEY.put 0 0xA5) 1) s
def execNvmErase (v : View) (s : State) : Out := wordCmd v MEM_NVCMD (MEM_NVCMD_CMD.put (MEM_NVCMD_KEY.put 0 0xA5) 2) s
def execEvtRaise (v : View) (source : BitVec 8) (s : State) : Out := wordCmd v EVT_RAISE (word source.toNat) s

/-! ### States and resets (R265, R294) -/

def execReqStand (v : View) (s : State) : Out := wordCmd v SYS_STATE (SYS_STATE_REQ.put 0 1) s
def execReqDrive (v : View) (s : State) : Out := wordCmd v SYS_STATE (SYS_STATE_REQ.put 0 2) s
def execReqLantern (v : View) (s : State) : Out := wordCmd v SYS_STATE (SYS_STATE_REQ.put 0 3) s
def execSoftwareWarmReset (v : View) (s : State) : Out :=
  wordCmd v SYS_RSTCAUSE (SYS_RSTCAUSE_REQ.put (SYS_RSTCAUSE_KEY.put 0 0xC3) 1) s
def execSoftwareColdReset (v : View) (s : State) : Out :=
  wordCmd v SYS_RSTCAUSE (SYS_RSTCAUSE_REQ.put (SYS_RSTCAUSE_KEY.put 0 0xC3) 2) s

/-! ### Coupler and Guard (R299, R301, R308, R321, R334) -/

def execHen (v : View) (s : State) : Out := fieldCmd v CPL_CFG CPL_CFG_HEN 1 s
def execAdmissionKeyWrite (v : View) (w : Word) (s : State) : Out := wordCmd v (CPL_ADMKEY 7) w s
def execLaunch (v : View) (data : Word) (m : PortF) (s : State) : Out :=
  writeCmd v CPL_TXCTL data { noUpdate with portF := m } none s
def execDecl (v : View) (dseat : BitVec 6) (s : State) : Out :=
  wordCmd v CPL_LEASE (CPL_LEASE_DECL.put (CPL_LEASE_DSEAT.put (s.rd CPL_LEASE) dseat.toNat) 1) s
def execGuardTransmit (v : View) (c : Fin 8) (data : Word) (t : Nat) (s : State) : Out :=
  writeCmd v (GRD_TXCTL c) data { t := t } none s

/-! ### CAN and Ethernet (R340, R342, R349, R350) -/

def execPush (v : View) (n : Fin 4) (s : State) : Out := fieldCmd v (CAN_TXCTL n) CAN_TXCTL_PUSH 1 s
def execAbort (v : View) (n : Fin 4) (inTx : Bool) (s : State) : Out :=
  writeCmd v (CAN_TXCTL n) (CAN_TXCTL_ABORT.put (s.rd (CAN_TXCTL n)) 1) { inTx := inTx } none s
def execCanPop (v : View) (n : Fin 4) (queueB : Bool) (tag : BitVec 8) (s : State) : Out :=
  wordCmd v (CAN_RXPOP n (b2n queueB)) (word tag.toNat) s
def execKick (v : View) (s : State) : Out := fieldCmd v ETH_TXR ETH_TXR_KICK 1 s
def execMdioGo (v : View) (data : Word) (s : State) : Out := wordCmd v ETH_MDIO (ETH_MDIO_GO.put data 1) s

end Sys2Proof.Machine
end

