-- ==== Sys2Proof/Machine/Dispatch.lean ====
section
/-! DEFINITION. One arm per command: its meaning. -/

namespace Sys2Proof.Machine

open Sys2Proof

/-- The effect of a command on everything but the queue. -/
def exec (i : Instr) (s : State) : Host.Outcome State Fault Refusal :=
  match i with
  | .addSubAndOrXor h op rd rs1 rs2 => Sys2Proof.Machine.execAddSubAndOrXor h op rd rs1 rs2 s
  | .sllSrlSra h op rd rs1 rs2 => Sys2Proof.Machine.execSllSrlSra h op rd rs1 rs2 s
  | .sltSltu h unsigned rd rs1 rs2 => Sys2Proof.Machine.execSltSltu h unsigned rd rs1 rs2 s
  | .minMax h max rd rs1 rs2 => Sys2Proof.Machine.execMinMax h max rd rs1 rs2 s
  | .clz h rd rs1 => Sys2Proof.Machine.execClz h rd rs1 s
  | .slliSrliSrai h op rd rs1 amt => Sys2Proof.Machine.execSlliSrliSrai h op rd rs1 amt s
  | .mul h rd rs1 rs2 => Sys2Proof.Machine.execMul h rd rs1 rs2 s
  | .mulhMulhu h unsigned rd rs1 rs2 => Sys2Proof.Machine.execMulhMulhu h unsigned rd rs1 rs2 s
  | .divDivuRemRemu h op rd rs1 rs2 => Sys2Proof.Machine.execDivDivuRemRemu h op rd rs1 rs2 s
  | .qaddWQsubW h sub rd rs1 rs2 => Sys2Proof.Machine.execQaddWQsubW h sub rd rs1 rs2 s
  | .qmulW h rd rs1 rs2 => Sys2Proof.Machine.execQmulW h rd rs1 rs2 s
  | .qaddHQsubH h sub rd rs1 rs2 => Sys2Proof.Machine.execQaddHQsubH h sub rd rs1 rs2 s
  | .qmulH h rd rs1 rs2 => Sys2Proof.Machine.execQmulH h rd rs1 rs2 s
  | .qnegWQabsW h abs rd rs1 => Sys2Proof.Machine.execQnegWQabsW h abs rd rs1 s
  | .qshlW h rd rs1 rs2 => Sys2Proof.Machine.execQshlW h rd rs1 rs2 s
  | .qrshrW h rd rs1 rs2 => Sys2Proof.Machine.execQrshrW h rd rs1 rs2 s
  | .qnarrow h rd rs1 => Sys2Proof.Machine.execQnarrow h rd rs1 s
  | .faddFsubFmul h op rd rs1 rs2 => Sys2Proof.Machine.execFaddFsubFmul h op rd rs1 rs2 s
  | .fmac h rd rs1 rs2 => Sys2Proof.Machine.execFmac h rd rs1 rs2 s
  | .fdiv h rd rs1 rs2 => Sys2Proof.Machine.execFdiv h rd rs1 rs2 s
  | .fsqrt h rd rs1 => Sys2Proof.Machine.execFsqrt h rd rs1 s
  | .fminFmax h max rd rs1 rs2 => Sys2Proof.Machine.execFminFmax h max rd rs1 rs2 s
  | .feqFltFle h op rd rs1 rs2 => Sys2Proof.Machine.execFeqFltFle h op rd rs1 rs2 s
  | .fabsFneg h neg rd rs1 => Sys2Proof.Machine.execFabsFneg h neg rd rs1 s
  | .fcvtWSFcvtSW h toFloat rd rs1 => Sys2Proof.Machine.execFcvtWSFcvtSW h toFloat rd rs1 s
  | .fcvtQSFcvtSQ h toFloat rd rs1 => Sys2Proof.Machine.execFcvtQSFcvtSQ h toFloat rd rs1 s
  | .macWMsuW h sub a rs1 rs2 => Sys2Proof.Machine.execMacWMsuW h sub a rs1 rs2 s
  | .macHMsuH h sub a rs1 rs2 => Sys2Proof.Machine.execMacHMsuH h sub a rs1 rs2 s
  | .aclr h a => Sys2Proof.Machine.execAclr h a s
  | .ald h a rs1 => Sys2Proof.Machine.execAld h a rs1 s
  | .ard h rd a => Sys2Proof.Machine.execArd h rd a s
  | .ashr h a amt => Sys2Proof.Machine.execAshr h a amt s
  | .mfc h rd c => Sys2Proof.Machine.execMfc h rd c s
  | .mtc h c rs1 => Sys2Proof.Machine.execMtc h c rs1 s
  | .sysc h => Sys2Proof.Machine.execSysc h s
  | .brk h => Sys2Proof.Machine.execBrk h s
  | .eret h => Sys2Proof.Machine.execEret h s
  | .jalr h rd rs1 => Sys2Proof.Machine.execJalr h rd rs1 s
  | .addi h rd rs1 imm => Sys2Proof.Machine.execAddi h rd rs1 imm s
  | .andi h rd rs1 imm => Sys2Proof.Machine.execAndi h rd rs1 imm s
  | .ori h rd rs1 imm => Sys2Proof.Machine.execOri h rd rs1 imm s
  | .xori h rd rs1 imm => Sys2Proof.Machine.execXori h rd rs1 imm s
  | .slti h rd rs1 imm => Sys2Proof.Machine.execSlti h rd rs1 imm s
  | .sltiu h rd rs1 imm => Sys2Proof.Machine.execSltiu h rd rs1 imm s
  | .lui h rd imm => Sys2Proof.Machine.execLui h rd imm s
  | .ldbLdbuLdhLdhu h k rt rb off env => Sys2Proof.Machine.execLdbLdbuLdhLdhu h k rt rb off env s
  | .ldw h rt rb off env => Sys2Proof.Machine.execLdw h rt rb off env s
  | .ldwRot h rt rb off env => Sys2Proof.Machine.execLdwRot h rt rb off env s
  | .ldv h vt rb off env => Sys2Proof.Machine.execLdv h vt rb off env s
  | .stbSth h half rt rb off env => Sys2Proof.Machine.execStbSth h half rt rb off env s
  | .stw h rt rb off env => Sys2Proof.Machine.execStw h rt rb off env s
  | .stwRot h rt rb off env => Sys2Proof.Machine.execStwRot h rt rb off env s
  | .stv h vt rb off env => Sys2Proof.Machine.execStv h vt rb off env s
  | .branch h c rs1 rs2 off => Sys2Proof.Machine.execBranch h c rs1 rs2 off s
  | .jal h rd off => Sys2Proof.Machine.execJal h rd off s
  | .vaddVsub sub w vd vs1 vs2 gn => Sys2Proof.Machine.execVaddVsub sub w vd vs1 vs2 gn s
  | .vqaddVqsub sub w vd vs1 vs2 gn => Sys2Proof.Machine.execVqaddVqsub sub w vd vs1 vs2 gn s
  | .vqmul w vd vs1 vs2 gn => Sys2Proof.Machine.execVqmul w vd vs1 vs2 gn s
  | .vminVmax max w vd vs1 vs2 gn => Sys2Proof.Machine.execVminVmax max w vd vs1 vs2 gn s
  | .vandVorVxor op w vd vs1 vs2 gn => Sys2Proof.Machine.execVandVorVxor op w vd vs1 vs2 gn s
  | .vqnegVqabs abs w vd vs1 gn => Sys2Proof.Machine.execVqnegVqabs abs w vd vs1 gn s
  | .vsra w vd vs1 vs2 gn => Sys2Proof.Machine.execVsra w vd vs1 vs2 gn s
  | .vqrshr w vd vs1 vs2 gn => Sys2Proof.Machine.execVqrshr w vd vs1 vs2 gn s
  | .vqshl w vd vs1 vs2 gn => Sys2Proof.Machine.execVqshl w vd vs1 vs2 gn s
  | .vmac w vd vs1 vs2 gn => Sys2Proof.Machine.execVmac w vd vs1 vs2 gn s
  | .vdot w a vs1 vs2 gn => Sys2Proof.Machine.execVdot w a vs1 vs2 gn s
  | .vfaddVfsubVfmul op vd vs1 vs2 gn => Sys2Proof.Machine.execVfaddVfsubVfmul op vd vs1 vs2 gn s
  | .vfmac vd vs1 vs2 gn => Sys2Proof.Machine.execVfmac vd vs1 vs2 gn s
  | .vfminVfmax max vd vs1 vs2 gn => Sys2Proof.Machine.execVfminVfmax max vd vs1 vs2 gn s
  | .vfcvtSQVfcvtQS toFloat vd vs1 gn => Sys2Proof.Machine.execVfcvtSQVfcvtQS toFloat vd vs1 gn s
  | .vsplat w vd g => Sys2Proof.Machine.execVsplat w vd g s
  | .vins w vd lane g => Sys2Proof.Machine.execVins w vd lane g s
  | .vext w g vs1 lane => Sys2Proof.Machine.execVext w g vs1 lane s
  | .vbcast w vd vs1 lane gn => Sys2Proof.Machine.execVbcast w vd vs1 lane gn s
  | .vcmplt w vd vs1 vs2 gn => Sys2Proof.Machine.execVcmplt w vd vs1 vs2 gn s
  | .vsel w vd vs1 vs2 gn => Sys2Proof.Machine.execVsel w vd vs1 vs2 gn s
  | .vmov w vd vs1 gn => Sys2Proof.Machine.execVmov w vd vs1 gn s
  | .vnarrow vd vs1 vs2 gn => Sys2Proof.Machine.execVnarrow vd vs1 vs2 gn s
  | .vwiden vd vs1 gn => Sys2Proof.Machine.execVwiden vd vs1 gn s
  | .clk n vr ax => Sys2Proof.Machine.execClk n vr ax s
  | .clkI n vr ax => Sys2Proof.Machine.execClkI n vr ax s
  | .prk ga p vr => Sys2Proof.Machine.execPrk ga p vr s
  | .iprk ga p polar vr => Sys2Proof.Machine.execIprk ga p polar vr s
  | .svm ga p vr => Sys2Proof.Machine.execSvm ga p vr s
  | .atab ga gb n vr ax reads => Sys2Proof.Machine.execAtab ga gb n vr ax reads s
  | .pia ga gb shift env => Sys2Proof.Machine.execPia ga gb shift env s
  | .rmp ga gb env => Sys2Proof.Machine.execRmp ga gb env s
  | .sat ga gb n vr => Sys2Proof.Machine.execSat ga gb n vr s
  | .satC ga gb p mode vr => Sys2Proof.Machine.execSatC ga gb p mode vr s
  | .commit ga halves f vr ax vote => Sys2Proof.Machine.execCommit ga halves f vr ax vote s
  | .commitApply n => Sys2Proof.Machine.execCommitApply n s
  | .wev ga gb => Sys2Proof.Machine.execWev ga gb s
  | .wevReturn => Sys2Proof.Machine.execWevReturn s
  | .wevTimeout => Sys2Proof.Machine.execWevTimeout s
  | .xch ga gb upset copiesDiffer => Sys2Proof.Machine.execXch ga gb upset copiesDiffer s
  | .sig ga scrubDiffers => Sys2Proof.Machine.execSig ga scrubDiffers s
  | .fence sel => Sys2Proof.Machine.execFence sel s
  | .interruptEntry h => Sys2Proof.Machine.execInterruptEntry h s
  | .registerWrite v off data co => Sys2Proof.Machine.execRegisterWrite v off data co s
  | .lixAddrWrite data => Sys2Proof.Machine.execLixAddrWrite data s
  | .lixDataRead => Sys2Proof.Machine.execLixDataRead s
  | .lixDataWrite data => Sys2Proof.Machine.execLixDataWrite data s
  | .lixFetchDone => Sys2Proof.Machine.execLixFetchDone s
  | .lixTransferDone => Sys2Proof.Machine.execLixTransferDone s
  | .waybillProgrammingDone => Sys2Proof.Machine.execWaybillProgrammingDone s
  | .seatWordWrite => Sys2Proof.Machine.execSeatWordWrite s
  | .valley a => Sys2Proof.Machine.execValley a s
  | .peak a => Sys2Proof.Machine.execPeak a s
  | .compareEdge a k t => Sys2Proof.Machine.execCompareEdge a k t s
  | .trigger a m => Sys2Proof.Machine.execTrigger a m s
  | .commitTimeout a => Sys2Proof.Machine.execCommitTimeout a s
  | .runStart v a => Sys2Proof.Machine.execRunStart v a s
  | .runStop v a => Sys2Proof.Machine.execRunStop v a s
  | .axleStart a => Sys2Proof.Machine.execAxleStart a s
  | .periodWrite v a period n => Sys2Proof.Machine.execPeriodWrite v a period n s
  | .compareWrite v a k down c n => Sys2Proof.Machine.execCompareWrite v a k down c n s
  | .prdschArm v a period => Sys2Proof.Machine.execPrdschArm v a period s
  | .pllTLoss => Sys2Proof.Machine.execPllTLoss s
  | .gakTransition c level t => Sys2Proof.Machine.execGakTransition c level t s
  | .release p t => Sys2Proof.Machine.execRelease p t s
  | .ackTimeout c rising => Sys2Proof.Machine.execAckTimeout c rising s
  | .asyncDeadTimeExpiry l => Sys2Proof.Machine.execAsyncDeadTimeExpiry l s
  | .delayLineSwap c ok => Sys2Proof.Machine.execDelayLineSwap c ok s
  | .bootstrapRefresh l => Sys2Proof.Machine.execBootstrapRefresh l s
  | .bootstrapRefreshEnd l => Sys2Proof.Machine.execBootstrapRefreshEnd l s
  | .readmit v c => Sys2Proof.Machine.execReadmit v c s
  | .gchRearm v c => Sys2Proof.Machine.execGchRearm v c s
  | .controlFilterOutput c samples => Sys2Proof.Machine.execControlFilterOutput c samples s
  | .protectionFilterOutput c samples => Sys2Proof.Machine.execProtectionFilterOutput c samples s
  | .publication a => Sys2Proof.Machine.execPublication a s
  | .suspectRun c => Sys2Proof.Machine.execSuspectRun c s
  | .sdfStall c => Sys2Proof.Machine.execSdfStall c s
  | .sdfCklost c => Sys2Proof.Machine.execSdfCklost c s
  | .sdfRearm v c recentTransition clockPresent => Sys2Proof.Machine.execSdfRearm v c recentTransition clockPresent s
  | .sarStart v c => Sys2Proof.Machine.execSarStart v c s
  | .sarSlotResult c code => Sys2Proof.Machine.execSarSlotResult c code s
  | .cmpHit k uv => Sys2Proof.Machine.execCmpHit k uv s
  | .comparatorRelease k uv => Sys2Proof.Machine.execComparatorRelease k uv s
  | .resFlt r amp err track speed => Sys2Proof.Machine.execResFlt r amp err track speed s
  | .encCount e a b stable t => Sys2Proof.Machine.execEncCount e a b stable t s
  | .encZ e stable => Sys2Proof.Machine.execEncZ e stable s
  | .observerReport v a angle => Sys2Proof.Machine.execObserverReport v a angle s
  | .ttuRearm v a => Sys2Proof.Machine.execTtuRearm v a s
  | .commutationIndexChange a t => Sys2Proof.Machine.execCommutationIndexChange a t s
  | .estimatorStep set finding => Sys2Proof.Machine.execEstimatorStep set finding s
  | .hysNoconv set => Sys2Proof.Machine.execHysNoconv set s
  | .catch_ v a => Sys2Proof.Machine.execCatch v a s
  | .autoCatch a => Sys2Proof.Machine.execAutoCatch a s
  | .catchProbe a => Sys2Proof.Machine.execCatchProbe a s
  | .handback v a => Sys2Proof.Machine.execHandback v a s
  | .force v a => Sys2Proof.Machine.execForce v a s
  | .tripPin src ev => Sys2Proof.Machine.execTripPin src ev s
  | .tripClear v n data => Sys2Proof.Machine.execTripClear v n data s
  | .swtrip v swg => Sys2Proof.Machine.execSwtrip v swg s
  | .krel v => Sys2Proof.Machine.execKrel v s
  | .selectionEvaluation => Sys2Proof.Machine.execSelectionEvaluation s
  | .chopFlt => Sys2Proof.Machine.execChopFlt s
  | .dischargeStart v => Sys2Proof.Machine.execDischargeStart v s
  | .dischargeStop v => Sys2Proof.Machine.execDischargeStop v s
  | .disFlt => Sys2Proof.Machine.execDisFlt s
  | .torqueMonitorStep a => Sys2Proof.Machine.execTorqueMonitorStep a s
  | .tmClear v a data => Sys2Proof.Machine.execTmClear v a data s
  | .unlock v => Sys2Proof.Machine.execUnlock v s
  | .unlockHashDone => Sys2Proof.Machine.execUnlockHashDone s
  | .lock v => Sys2Proof.Machine.execLock v s
  | .setpw v slot => Sys2Proof.Machine.execSetpw v slot s
  | .brkFlt channelB fa fb => Sys2Proof.Machine.execBrkFlt channelB fa fb s
  | .brakeTestStart v => Sys2Proof.Machine.execBrakeTestStart v s
  | .brakeTestPhaseEnd imin => Sys2Proof.Machine.execBrakeTestPhaseEnd imin s
  | .signatureVote upset => Sys2Proof.Machine.execSignatureVote upset s
  | .copyPause => Sys2Proof.Machine.execCopyPause s
  | .trkRejoin pairDiffers => Sys2Proof.Machine.execTrkRejoin pairDiffers s
  | .pathTest => Sys2Proof.Machine.execPathTest s
  | .pathTestDone f revote => Sys2Proof.Machine.execPathTestDone f revote s
  | .pathTestRequest v => Sys2Proof.Machine.execPathTestRequest v s
  | .debugAuthentication challenge qx qy r src => Sys2Proof.Machine.execDebugAuthentication challenge qx qy r src s
  | .debugHalt scan => Sys2Proof.Machine.execDebugHalt scan s
  | .debuggerWrite w co => Sys2Proof.Machine.execDebuggerWrite w co s
  | .singleStep => Sys2Proof.Machine.execSingleStep s
  | .debugResume => Sys2Proof.Machine.execDebugResume s
  | .migrationDone => Sys2Proof.Machine.execMigrationDone s
  | .scrubber tandem word finding => Sys2Proof.Machine.execScrubber tandem word finding s
  | .memoryClearDone m => Sys2Proof.Machine.execMemoryClearDone m s
  | .nvmProgram v => Sys2Proof.Machine.execNvmProgram v s
  | .nvmErase v => Sys2Proof.Machine.execNvmErase v s
  | .nvmCommandDone readBackDiffers => Sys2Proof.Machine.execNvmCommandDone readBackDiffers s
  | .bootCheckDone => Sys2Proof.Machine.execBootCheckDone s
  | .evtRaise v source => Sys2Proof.Machine.execEvtRaise v source s
  | .reqStand v => Sys2Proof.Machine.execReqStand v s
  | .reqDrive v => Sys2Proof.Machine.execReqDrive v s
  | .reqLantern v => Sys2Proof.Machine.execReqLantern v s
  | .lanternReached => Sys2Proof.Machine.execLanternReached s
  | .wake src => Sys2Proof.Machine.execWake src s
  | .powerUp => Sys2Proof.Machine.execPowerUp s
  | .supplyLoss => Sys2Proof.Machine.execSupplyLoss s
  | .pfail => Sys2Proof.Machine.execPfail s
  | .blackBoxRecordDone => Sys2Proof.Machine.execBlackBoxRecordDone s
  | .fastDomainOff => Sys2Proof.Machine.execFastDomainOff s
  | .batlow => Sys2Proof.Machine.execBatlow s
  | .bklow => Sys2Proof.Machine.execBklow s
  | .pmuReg r resetWindow => Sys2Proof.Machine.execPmuReg r resetWindow s
  | .lanImgdataWrite data => Sys2Proof.Machine.execLanImgdataWrite data s
  | .lanRun => Sys2Proof.Machine.execLanRun s
  | .lanStop => Sys2Proof.Machine.execLanStop s
  | .lanMbox w => Sys2Proof.Machine.execLanMbox w s
  | .lanSleep => Sys2Proof.Machine.execLanSleep s
  | .lanTimeIncrement => Sys2Proof.Machine.execLanTimeIncrement s
  | .x32ok qualified => Sys2Proof.Machine.execX32ok qualified s
  | .pmuHuv h t => Sys2Proof.Machine.execPmuHuv h t s
  | .referenceLoss => Sys2Proof.Machine.execReferenceLoss s
  | .holdoverExpiry => Sys2Proof.Machine.execHoldoverExpiry s
  | .pllCLoss => Sys2Proof.Machine.execPllCLoss s
  | .pllPLoss => Sys2Proof.Machine.execPllPLoss s
  | .crystalValid => Sys2Proof.Machine.execCrystalValid s
  | .pllLock => Sys2Proof.Machine.execPllLock s
  | .porstN => Sys2Proof.Machine.execPorstN s
  | .wrstN => Sys2Proof.Machine.execWrstN s
  | .softwareWarmReset v => Sys2Proof.Machine.execSoftwareWarmReset v s
  | .softwareColdReset v => Sys2Proof.Machine.execSoftwareColdReset v s
  | .resetRelease headLow => Sys2Proof.Machine.execResetRelease headLow s
  | .drayServiceAvailable => Sys2Proof.Machine.execDrayServiceAvailable s
  | .coreTestDone cores pathFail => Sys2Proof.Machine.execCoreTestDone cores pathFail s
  | .memoryTestDone banks tandem table => Sys2Proof.Machine.execMemoryTestDone banks tandem table s
  | .troikaRelease => Sys2Proof.Machine.execTroikaRelease s
  | .portUp p => Sys2Proof.Machine.execPortUp p s
  | .portDown p => Sys2Proof.Machine.execPortDown p s
  | .hen v => Sys2Proof.Machine.execHen v s
  | .offer p otherHead challenge headSerial => Sys2Proof.Machine.execOffer p otherHead challenge headSerial s
  | .answer p serial code seat => Sys2Proof.Machine.execAnswer p serial code seat s
  | .grant p seat => Sys2Proof.Machine.execGrant p seat s
  | .admissionKeyWrite v w => Sys2Proof.Machine.execAdmissionKeyWrite v w s
  | .admissionTimeout => Sys2Proof.Machine.execAdmissionTimeout s
  | .advertSend p => Sys2Proof.Machine.execAdvertSend p s
  | .advert p counts => Sys2Proof.Machine.execAdvert p counts s
  | .wrFrame f co => Sys2Proof.Machine.execWrFrame f co s
  | .rdFrame f => Sys2Proof.Machine.execRdFrame f s
  | .ackFrame f => Sys2Proof.Machine.execAckFrame f s
  | .rdrFrame f => Sys2Proof.Machine.execRdrFrame f s
  | .evtFrame f m => Sys2Proof.Machine.execEvtFrame f m s
  | .msgFrame f m => Sys2Proof.Machine.execMsgFrame f m s
  | .fwrFrame f m => Sys2Proof.Machine.execFwrFrame f m s
  | .transactionTimeout tag => Sys2Proof.Machine.execTransactionTimeout tag s
  | .launch v data m => Sys2Proof.Machine.execLaunch v data m s
  | .reassemblyTimeout buf => Sys2Proof.Machine.execReassemblyTimeout buf s
  | .timeSync p t1 => Sys2Proof.Machine.execTimeSync p t1 s
  | .sync p t1 t4 => Sys2Proof.Machine.execSync p t1 t4 s
  | .detach => Sys2Proof.Machine.execDetach s
  | .leaseHeartbeat t => Sys2Proof.Machine.execLeaseHeartbeat t s
  | .lease f => Sys2Proof.Machine.execLease f s
  | .leaseExpiry => Sys2Proof.Machine.execLeaseExpiry s
  | .uncpl f => Sys2Proof.Machine.execUncpl f s
  | .decl v dseat => Sys2Proof.Machine.execDecl v dseat s
  | .authorityListenExpiry => Sys2Proof.Machine.execAuthorityListenExpiry s
  | .guardDataFrame c bytes t => Sys2Proof.Machine.execGuardDataFrame c bytes t s
  | .resyncRequestFrame c bytes t => Sys2Proof.Machine.execResyncRequestFrame c bytes t s
  | .resyncAnswerFrame c bytes t => Sys2Proof.Machine.execResyncAnswerFrame c bytes t s
  | .resyncRequestSend c t => Sys2Proof.Machine.execResyncRequestSend c t s
  | .deadlineExpiry c t => Sys2Proof.Machine.execDeadlineExpiry c t s
  | .windowNarrowing c t => Sys2Proof.Machine.execWindowNarrowing c t s
  | .guardTransmit v c data t => Sys2Proof.Machine.execGuardTransmit v c data t s
  | .push v n => Sys2Proof.Machine.execPush v n s
  | .abort v n inTx => Sys2Proof.Machine.execAbort v n inTx s
  | .canFrameReceived n f sof => Sys2Proof.Machine.execCanFrameReceived n f sof s
  | .txdone n => Sys2Proof.Machine.execTxdone n s
  | .canPop v n queueB tag => Sys2Proof.Machine.execCanPop v n queueB tag s
  | .referenceMessage n r => Sys2Proof.Machine.execReferenceMessage n r s
  | .busOffRecovery n => Sys2Proof.Machine.execBusOffRecovery n s
  | .ethFrameReceived f ts m => Sys2Proof.Machine.execEthFrameReceived f ts m s
  | .ethFrameSent ts m => Sys2Proof.Machine.execEthFrameSent ts m s
  | .kick v => Sys2Proof.Machine.execKick v s
  | .mdioGo v data => Sys2Proof.Machine.execMdioGo v data s
  | .mdioDone data => Sys2Proof.Machine.execMdioDone data s
  | .ethLinkChange up speed => Sys2Proof.Machine.execEthLinkChange up speed s
  | .sensorConversion readings => Sys2Proof.Machine.execSensorConversion readings s
  | .throttleStepEnd => Sys2Proof.Machine.execThrottleStepEnd s
  | .bistSlotStart => Sys2Proof.Machine.execBistSlotStart s
  | .bistSliceDone pass chmask => Sys2Proof.Machine.execBistSliceDone pass chmask s
  | .illegalInstruction h w => Sys2Proof.Machine.execIllegalInstruction h w s
  | .fetchBusError h uncorrectable => Sys2Proof.Machine.execFetchBusError h uncorrectable s
  | .heldClosingEdge p t => Sys2Proof.Machine.execHeldClosingEdge p t s
  | .pllSLock => Sys2Proof.Machine.execPllSLock s
  | .pllSLoss => Sys2Proof.Machine.execPllSLoss s
  | .admissionCheckDone => Sys2Proof.Machine.execAdmissionCheckDone s
  | .seatFreed seat => Sys2Proof.Machine.execSeatFreed seat s
  | .tagHoldEnd tag => Sys2Proof.Machine.execTagHoldEnd tag s
  | .timeSyncMark p t2 t3 => Sys2Proof.Machine.execTimeSyncMark p t2 t3 s
  | .timeSyncEcho p t4 => Sys2Proof.Machine.execTimeSyncEcho p t4 s
  | .couplerFrameSent p cls => Sys2Proof.Machine.execCouplerFrameSent p cls s
  | .canBusError n e => Sys2Proof.Machine.execCanBusError n e s
  | .lostArbitration n => Sys2Proof.Machine.execLostArbitration n s
  | .brakeTestMotion angle => Sys2Proof.Machine.execBrakeTestMotion angle s
  | .dragShoeHoldEnd => Sys2Proof.Machine.execDragShoeHoldEnd s
  | .supplyGood src => Sys2Proof.Machine.execSupplyGood src s

end Sys2Proof.Machine
end

