-- ==== Sys2Proof/Safety.lean ====
section
/-! DEFINITION. The terms in which statements speak of a step: when a core may run an instruction, what an instruction
leaves as it was, and the invariants that every step keeps. -/

namespace Sys2Proof.Safety

open Sys2Proof Sys2Proof.Machine

/-! ### Instructions -/

/-- A core may issue an instruction (R239, R240, R246, R270, R271), and no imprecise error of the Troika is due (R63). -/
def Ready (h : Hart) (s : State) : Prop := s.issues h = true ∧ s.troika.imprecise = []

/-- Nothing changes but the registers of one core and, on the Troika, what every instruction leaves: an armed single step
is used up, and one free value is drawn for the cycle count. -/
def OnlyCore (h : Hart) (s t : State) : Prop := match h with
  | .troika => t = { s with
      troika := { s.troika with core := t.troika.core, stepArmed := false }, draws := s.draws + 1 }
  | .lantern => t = { s with lan := { s.lan with core := t.lan.core } }

/-- The control registers of a core that only an MTC, an exception or a return changes: all but FSTAT and, on the Troika,
the cycle count (R49). -/
def KeepsControl (h : Hart) (c d : CoreState) : Prop :=
  ∀ n, n ≠ cFSTAT → (h = .troika → n ≠ cCYCLE ∧ n ≠ cCYCLEH) → d.cx n = c.cx n

/-- What a core holds after an instruction that writes `v` to g(rd) and sets flags of FSTAT, and nothing else: a write to
g0 is discarded (R47), and flags are never cleared (R49). -/
def WritesG (h : Hart) (rd : GReg) (v : Word) (fl : Word) (c d : CoreState) : Prop :=
  (∀ r, d.gr r = if r = rd ∧ r ≠ 0 then v else c.gr r) ∧ (∀ r, d.vr r = c.vr r) ∧ (∀ r, d.ar r = c.ar r) ∧
    d.cx cFSTAT = c.cx cFSTAT ||| fl ∧ KeepsControl h c d

/-- An instruction retires: g(rd) takes `v`, flags of FSTAT are set, the next instruction follows, and nothing else
changes. -/
def RetiresG (h : Hart) (rd : GReg) (v : Word) (fl : Word) (s t : State) : Prop :=
  OnlyCore h s t ∧ (t.core h).pc = (s.core h).pc + 4 ∧ WritesG h rd v fl (s.core h) (t.core h)

/-- An instruction of the Troika retires: an accumulator takes `v`, flags of FSTAT are set, and nothing else changes. -/
def RetiresA (a : AReg) (v : AWord) (fl : Word) (s t : State) : Prop :=
  let c := s.core .troika
  let d := t.core .troika
  OnlyCore .troika s t ∧ d.pc = c.pc + 4 ∧ (∀ r, d.gr r = c.gr r) ∧ (∀ r, d.vr r = c.vr r) ∧
    (∀ r, d.ar r = if r = a then v else c.ar r) ∧ d.cx cFSTAT = c.cx cFSTAT ||| fl ∧ KeepsControl .troika c d

/-- An instruction of the Troika retires: vector register vd takes `v`, flags of FSTAT are set, and nothing else
changes. -/
def RetiresV (vd : VReg) (v : VWord) (fl : Word) (s t : State) : Prop :=
  let c := s.core .troika
  let d := t.core .troika
  OnlyCore .troika s t ∧ d.pc = c.pc + 4 ∧ (∀ r, d.gr r = c.gr r) ∧ (∀ r, d.ar r = c.ar r) ∧
    (∀ r, d.vr r = if r = vd then v else c.vr r) ∧ d.cx cFSTAT = c.cx cFSTAT ||| fl ∧ KeepsControl .troika c d

/-- The flag `f` where a condition holds. -/
def flagIf (b : Bool) (f : Word) : Word := if b then f else 0

/-- A value saturated to `n` bits of two's complement (R52). -/
def saturate (n : Nat) (x : Int) : Int := max (-(2 ^ (n - 1))) (min (2 ^ (n - 1) - 1) x)

/-- QSAT where the exact value lies outside its format (R52). -/
def qsatIf (n : Nat) (x : Int) : Word := flagIf (decide (saturate n x ≠ x)) 32

/-- A Q1.31 result of an exact value (R52). -/
def RetiresQ (h : Hart) (rd : GReg) (n : Nat) (x : Int) (s t : State) : Prop :=
  RetiresG h rd (BitVec.ofInt 32 (saturate n x)) (qsatIf n x) s t

/-- Half an output LSB is added and the sum is truncated toward minus infinity (R52). -/
def roundHalfUp (x : Int) (n : Nat) : Int := (2 * x + 2 ^ n).fdiv (2 ^ (n + 1))

/-- A quotient by a positive number, half rounded up (R141). -/
def roundHalfUpDiv (x : Int) (d : Nat) : Int := (2 * x + d).fdiv (2 * d)

/-! ### Loads and stores -/

/-- The effective address of a load or store (R55). -/
def ea (h : Hart) (s : State) (rb : GReg) (off : BitVec 15) : Word := (s.core h).gr rb + BitVec.ofInt 32 off.toInt

/-- A byte as a core reads it: of the Troika's address map under the stores that wait in its store buffer (R60), or of Lantern
RAM (R24, R69). -/
def byteAt (h : Hart) (s : State) (a : Nat) : Byte := match h with
  | .troika => s.coreByte a
  | .lantern => mget (fun _ => (0 : Byte)) s.lan.ram a

/-- `n` bytes from an address up as one number, little-endian. -/
def littleEndian (h : Hart) (s : State) (a n : Nat) : Nat :=
  (List.range n).foldl (fun v k => v + (byteAt h s (a + k)).toNat * 256 ^ k) 0

/-- The region is a RAM of the Troika (R24). -/
def isRam : Region → Bool
  | .sram | .tandem | .table _ => true
  | _ => false

/-- Aligned data that a core may read (R24, R58, R69, R251, R252, R254): RAM that is cleared, with no word that holds the poison
pattern, or code NVM outside the half of a running command. Memory outside main SRAM and the NVM is not cached, and the
store buffer is empty there (R60). -/
def Readable (h : Hart) (s : State) (a : Word) (n : Nat) : Prop :=
  a.toNat % n = 0 ∧ match h with
    | .troika => (isRam (region a.toNat) = true ∨ (region a.toNat = .nvm ∧ s.nvmBlocked a.toNat = false)) ∧
        (∀ k, k < n → s.poisoned (a.toNat + k) = false) ∧ s.bringup.uncleared = [] ∧
        (region a.toNat = .sram ∨ region a.toNat = .nvm ∨ s.troika.storeBuf = [])
    | .lantern => a.toNat < 0x10000 ∧ s.bringup.uncleared = []

/-- Aligned RAM that a core may write (R24, R58, R69), with room in the store buffer of the Troika (R60). -/
def Writable (h : Hart) (s : State) (a : Word) (n : Nat) : Prop :=
  a.toNat % n = 0 ∧ match h with
    | .troika => isRam (region a.toNat) = true ∧ s.troika.storeBuf.length < 8
    | .lantern => a.toNat < 0x10000 ∧ s.bringup.uncleared = []

/-- Nothing befalls the access: the cores agree, and the word is good. -/
def Quiet (env : Env) : Prop := env.vote = .agree ∧ env.storeVote = .agree ∧ env.ecc = .clean

/-- A store retires: the bytes stand from the address `a` up as the core reads them, every other byte and every register is as
it was. On the Troika the store enters the store buffer, and memory itself is as it was (R60). -/
def Stores (h : Hart) (a : Nat) (bs : List Byte) (env : Env) (s t : State) : Prop :=
  (match h with
    | .troika => t = { s with
        troika := { s.troika with
          core := t.troika.core, stepArmed := false, storeBuf := s.troika.storeBuf ++ [.store a bs env.ecc env.tandemPortF] }
        draws := s.draws + 1 }
    | .lantern => t = { s with lan := { s.lan with core := t.lan.core, ram := t.lan.ram } }) ∧
  (t.core h).pc = (s.core h).pc + 4 ∧ WritesG h 0 0 0 (s.core h) (t.core h) ∧
  (∀ k, k < bs.length → byteAt h t (a + k) = bs.getD k 0) ∧
  ∀ x, (x < a ∨ a + bs.length ≤ x) → byteAt h t x = byteAt h s x

/-! ### Blocks of PIA and RMP -/

/-- A 16-byte block of RAM that PIA or RMP may work on (R82, R83, R91): aligned, cleared and good, where what waits in the
store buffer need not leave first, and the buffer has room. -/
def Block (s : State) (a : Nat) : Prop :=
  a % 16 = 0 ∧ isRam (region a) = true ∧ (∀ k, k < 16 → s.poisoned (a + k) = false) ∧ s.bringup.uncleared = [] ∧
    (region a = .sram ∨ s.troika.storeBuf = []) ∧ s.troika.storeBuf.length < 8

/-- One step on a block retires: gb takes `y`, word `k` of the block takes `w`, which waits in the store buffer, flags of FSTAT
are set, and nothing else changes. -/
def BlockStep (gb : GReg) (a k : Nat) (y w fl : Word) (env : Env) (s t : State) : Prop :=
  let c := s.core .troika
  let d := t.core .troika
  t = { s with
    troika := { s.troika with
      core := d, stepArmed := false
      storeBuf := s.troika.storeBuf ++ [.store (a + 4 * k) (wordBytes w) .clean env.tandemPortF] }
    draws := s.draws + 1 } ∧
  d.pc = c.pc + 4 ∧ WritesG .troika gb y fl c d ∧ littleEndian .troika t (a + 4 * k) 4 = w.toNat ∧
  ∀ x, (x < a + 4 * k ∨ a + 4 * k + 4 ≤ x) → byteAt .troika t x = byteAt .troika s x

/-! ### Vector instructions -/

/-- Lanes 0 to n − 1 of a vector register take f of the lane number, modulo the lane's range; the lanes above keep their
value (R71); flags of the active lanes are set (R74); nothing else changes. -/
def RetiresLanes (w : Bool) (vd : VReg) (n : Nat) (f : Nat → Int) (fl : Nat → Word) (s t : State) : Prop :=
  let c := s.core .troika
  let d := t.core .troika
  OnlyCore .troika s t ∧ d.pc = c.pc + 4 ∧ (∀ r, d.gr r = c.gr r) ∧ (∀ r, d.ar r = c.ar r) ∧
    (∀ r, r ≠ vd → d.vr r = c.vr r) ∧
    (∀ k, k < laneCount w → laneI w (d.vr vd) k = if k < n then (f k).bmod (2 ^ laneBits w) else laneI w (c.vr vd) k) ∧
    d.cx cFSTAT = c.cx cFSTAT ||| (List.range n).foldl (fun x k => x ||| fl k) 0 ∧ KeepsControl .troika c d

/-- A vector result saturated lane by lane, with QSAT where an active lane saturates (R52, R74). -/
def RetiresSaturated (w : Bool) (vd : VReg) (n : Nat) (f : Nat → Int) (s t : State) : Prop :=
  RetiresLanes w vd n (fun k => saturate (laneBits w) (f k)) (fun k => qsatIf (laneBits w) (f k)) s t

/-- The number of active lanes (R70). -/
def active (s : State) (w : Bool) (gn : GReg) : Nat := min ((s.core .troika).gr gn).toNat (if w then 4 else 8)

/-! ### Register writes -/

/-- The word that a write through a view leaves in a register whose checks it passes, no hardware update meeting it: each
field as its type says (R27, R32, R33). -/
def writtenWord (v : View) (o : Nat) (data : Word) (s : State) : Word := match regAt o with
  | none => s.rd o
  | some (c, _) => (openFields v c).foldl
      (fun w f => f.fld.put w (f.fld.get (swField noUpdate (dataAt o data) (s.rd o) f))) (s.rd o)

/-- A write of a register on the first page passes the checks of R27, R34 and R37: no Coachman-only field through the
Passenger view, no chocked field, no value and no situation for which the write is refused. -/
def accepted (v : View) (o : Nat) (data : Word) (s : State) : Bool := match regAt o with
  | none => false
  | some (c, ix) =>
    let whole := (openFields v c).foldl (swField noUpdate (dataAt o data)) (s.rd o)
    s.awake && !(decide (v = .passenger) && coachAny c) &&
      (openFields v c).all (fun f => !s.chocks o ix (s.rd o) whole f) &&
      !s.badWrite o (s.rd o) (writtenWord v o data s)

/-- The register word with one field replaced, as the commands that write one field present it. -/
def withField (s : State) (o : Nat) (f : Fld) (n : Nat) : Word := f.put (s.rd o) n

/-! ### Frames of the fabric -/

/-- A frame of a kind arrives good, for this device's own seat, in the epoch that the device has adopted (R298, R304,
R319). -/
def Delivered (kind : Nat) (f : Frame) (s : State) : Prop :=
  s.awake = true ∧ s.portUp f.port = true ∧ headerOk f = true ∧ f.fcrcOk = true ∧ f.kind.toNat = kind ∧
    f.dst.val = s.seat ∧ s.seat ≠ 0 ∧ s.cpl.adopted = true ∧ f.epoch.toNat = s.epoch

/-! ### Invariants -/

/-- Memory, the registers, the Lantern words and Lantern RAM stand in canonical form. -/
def Canonical (s : State) : Prop :=
  mwf memDefault s.mem = true ∧ mwf regDefault s.regs = true ∧ mwf lanDefault s.lan.words = true ∧
    mwf (fun _ => (0 : Byte)) s.lan.ram = true

end Sys2Proof.Safety
end

