-- ==== Sys2Proof/Certificates/Slice0/Obligations.lean ====
section
/-! DEFINITION. The statements for the provers. Each quotes or cites the rules of spec/ that it formalises in
OBLIGATIONS.json. -/

open Sys2Proof Sys2Proof.Machine Sys2Proof.Safety

/-! ### The queue and reset -/

/-- With a command at the front of the queue, a step is that command's `exec` on the state with the queue's rest. -/
def Obligations.StepRunsFront : Prop :=
  ∀ (c : Instr) (rest : List Instr) (s : State), s.pending = c :: rest → step s = exec c { s with pending := rest }

/-- An empty queue leaves the state as it is (the model's choice, log entry 3). -/
def Obligations.EmptyQueueIdles : Prop := ∀ s : State, s.pending = [] → step s = .next s

/-! ### Scalar instructions (R47 to R57, R68) -/

/-- ADD to XOR, the shifts, SLT, SLTU, MIN, MAX and CLZ complete with the results of R57. -/
def Rules.IntegerAluResults : Prop :=
  ∀ (h : Hart) (s : State), Ready h s → ∀ (rd rs1 rs2 : GReg),
    let x := (s.core h).gr rs1
    let y := (s.core h).gr rs2
    (lowRegs h [rd, rs1, rs2] = true →
      (∀ op, ∃ t, exec (.addSubAndOrXor h op rd rs1 rs2) s = .next t ∧
        RetiresG h rd (match op with
          | .add => x + y | .sub => x - y | .and => x &&& y | .or => x ||| y | .xor => x ^^^ y) 0 s t) ∧
      (∀ op, ∃ t, exec (.sllSrlSra h op rd rs1 rs2) s = .next t ∧
        RetiresG h rd (match op with
          | .sll => x <<< (y.toNat % 32) | .srl => x >>> (y.toNat % 32)
          | .sra => BitVec.ofInt 32 (x.toInt.fdiv (2 ^ (y.toNat % 32)))) 0 s t) ∧
      (∀ u, ∃ t, exec (.sltSltu h u rd rs1 rs2) s = .next t ∧
        RetiresG h rd (if (if u then decide (x.toNat < y.toNat) else decide (x.toInt < y.toInt)) then 1 else 0) 0 s t) ∧
      (∀ mx, ∃ t, exec (.minMax h mx rd rs1 rs2) s = .next t ∧
        RetiresG h rd (BitVec.ofInt 32 (if mx then max x.toInt y.toInt else min x.toInt y.toInt)) 0 s t)) ∧
    (lowRegs h [rd, rs1] = true →
      (∃ t n, exec (.clz h rd rs1) s = .next t ∧ n ≤ 32 ∧ x.toNat < 2 ^ (32 - n) ∧
        (n < 32 → 2 ^ (31 - n) ≤ x.toNat) ∧ RetiresG h rd (BitVec.ofNat 32 n) 0 s t) ∧
      (∀ op amt, ∃ t, exec (.slliSrliSrai h op rd rs1 amt) s = .next t ∧
        RetiresG h rd (match op with
          | .sll => x <<< amt.toNat | .srl => x >>> amt.toNat
          | .sra => BitVec.ofInt 32 (x.toInt.fdiv (2 ^ amt.toNat))) 0 s t))

/-- MUL, MULH, MULHU and the division group complete with the results of R51 and R57: a division by zero sets IDZ. -/
def Rules.MultiplyDivideResults : Prop :=
  ∀ (h : Hart) (s : State), Ready h s → ∀ (rd rs1 rs2 : GReg), lowRegs h [rd, rs1, rs2] = true →
    let x := (s.core h).gr rs1
    let y := (s.core h).gr rs2
    (∃ t, exec (.mul h rd rs1 rs2) s = .next t ∧ RetiresG h rd (BitVec.ofNat 32 (x.toNat * y.toNat)) 0 s t) ∧
    (∃ t, exec (.mulhMulhu h true rd rs1 rs2) s = .next t ∧
      RetiresG h rd (BitVec.ofNat 32 (x.toNat * y.toNat / 2 ^ 32)) 0 s t) ∧
    (∃ t, exec (.mulhMulhu h false rd rs1 rs2) s = .next t ∧
      RetiresG h rd (BitVec.ofInt 32 ((x.toInt * y.toInt).fdiv (2 ^ 32))) 0 s t) ∧
    (∀ op, ∃ t, exec (.divDivuRemRemu h op rd rs1 rs2) s = .next t ∧
      RetiresG h rd
        (if y = 0 then (match op with | .div => 0 | .divu => 0 | .rem => x | .remu => x)
        else match op with
          | .div => BitVec.ofInt 32 (x.toInt.tdiv y.toInt)
          | .divu => BitVec.ofNat 32 (x.toNat / y.toNat)
          | .rem => BitVec.ofInt 32 (x.toInt.tmod y.toInt)
          | .remu => BitVec.ofNat 32 (x.toNat % y.toNat))
        (flagIf (decide (y = 0)) 64) s t)

/-- The immediate instructions complete with the results of R56. -/
def Rules.ImmediateResults : Prop :=
  ∀ (h : Hart) (s : State), Ready h s → ∀ (rd rs1 : GReg) (imm : BitVec 16), lowRegs h [rd, rs1] = true →
    let x := (s.core h).gr rs1
    let signed : Word := BitVec.ofInt 32 imm.toInt
    let zero : Word := BitVec.ofNat 32 imm.toNat
    (∃ t, exec (.addi h rd rs1 imm) s = .next t ∧ RetiresG h rd (x + signed) 0 s t) ∧
    (∃ t, exec (.andi h rd rs1 imm) s = .next t ∧ RetiresG h rd (x &&& zero) 0 s t) ∧
    (∃ t, exec (.ori h rd rs1 imm) s = .next t ∧ RetiresG h rd (x ||| zero) 0 s t) ∧
    (∃ t, exec (.xori h rd rs1 imm) s = .next t ∧ RetiresG h rd (x ^^^ zero) 0 s t) ∧
    (∃ t, exec (.slti h rd rs1 imm) s = .next t ∧ RetiresG h rd (if x.toInt < imm.toInt then 1 else 0) 0 s t) ∧
    (∃ t, exec (.sltiu h rd rs1 imm) s = .next t ∧ RetiresG h rd (if x.toNat < signed.toNat then 1 else 0) 0 s t) ∧
    (∃ t, exec (.lui h rd imm) s = .next t ∧ RetiresG h rd (BitVec.ofNat 32 (imm.toNat * 2 ^ 16)) 0 s t)

/-- The integer instructions (R51, R56, R57). -/
def Obligations.ScalarIntegerResults : Prop := Rules.IntegerAluResults ∧ Rules.MultiplyDivideResults ∧ Rules.ImmediateResults

/-- Branches, JAL and JALR complete: the pc goes to the target or to the next instruction, and the link register takes the
address of the next instruction (R55, R56). -/
def Obligations.ControlFlowResults : Prop :=
  ∀ (h : Hart) (s : State), Ready h s →
    let pc := (s.core h).pc
    (∀ cond rs1 rs2 off, lowRegs h [rs1, rs2] = true →
      let x := (s.core h).gr rs1
      let y := (s.core h).gr rs2
      let taken := match cond with
        | .eq => decide (x = y) | .ne => decide (x ≠ y)
        | .lt => decide (x.toInt < y.toInt) | .ge => decide (y.toInt ≤ x.toInt)
        | .ltu => decide (x.toNat < y.toNat) | .geu => decide (y.toNat ≤ x.toNat)
      ∃ t, exec (.branch h cond rs1 rs2 off) s = .next t ∧ OnlyCore h s t ∧
        WritesG h 0 0 0 (s.core h) (t.core h) ∧
        (t.core h).pc = if taken then pc + BitVec.ofInt 32 (4 * off.toInt) else pc + 4) ∧
    (∀ rd off, lowRegs h [rd] = true → ∃ t, exec (.jal h rd off) s = .next t ∧ OnlyCore h s t ∧
      WritesG h rd (pc + 4) 0 (s.core h) (t.core h) ∧ (t.core h).pc = pc + BitVec.ofInt 32 (4 * off.toInt)) ∧
    (∀ rd rs1, lowRegs h [rd, rs1] = true → ((s.core h).gr rs1).toNat % 4 = 0 →
      ∃ t, exec (.jalr h rd rs1) s = .next t ∧ OnlyCore h s t ∧ WritesG h rd (pc + 4) 0 (s.core h) (t.core h) ∧
        (t.core h).pc = (s.core h).gr rs1)

/-- The fixed-point instructions complete with the exact value, rounded half up where R57 rounds, saturated to its format,
with QSAT where it saturated (R52). -/
def Rules.FixedPointResults : Prop :=
  ∀ (h : Hart) (s : State), Ready h s → ∀ (rd rs1 rs2 : GReg),
    let x := (s.core h).gr rs1
    let y := (s.core h).gr rs2
    let xh : Int := (x.setWidth 16).toInt
    let yh : Int := (y.setWidth 16).toInt
    (lowRegs h [rd, rs1, rs2] = true →
      (∀ sub, ∃ t, exec (.qaddWQsubW h sub rd rs1 rs2) s = .next t ∧
        RetiresQ h rd 32 (if sub then x.toInt - y.toInt else x.toInt + y.toInt) s t) ∧
      (∀ sub, ∃ t, exec (.qaddHQsubH h sub rd rs1 rs2) s = .next t ∧
        RetiresQ h rd 16 (if sub then xh - yh else xh + yh) s t)) ∧
    (lowRegs h [rd, rs1] = true →
      (∀ abs, ∃ t, exec (.qnegWQabsW h abs rd rs1) s = .next t ∧
        RetiresQ h rd 32 (if abs then |x.toInt| else -x.toInt) s t) ∧
      (∃ t, exec (.qnarrow h rd rs1) s = .next t ∧ RetiresQ h rd 16 (roundHalfUp x.toInt 16) s t)) ∧
    (h = .troika →
      (∃ t, exec (.qmulW h rd rs1 rs2) s = .next t ∧ RetiresQ h rd 32 (roundHalfUp (x.toInt * y.toInt) 31) s t) ∧
      (∃ t, exec (.qmulH h rd rs1 rs2) s = .next t ∧ RetiresQ h rd 16 (roundHalfUp (xh * yh) 15) s t) ∧
      (∃ t, exec (.qshlW h rd rs1 rs2) s = .next t ∧ RetiresQ h rd 32 (x.toInt * 2 ^ (y.toNat % 32)) s t) ∧
      (∃ t, exec (.qrshrW h rd rs1 rs2) s = .next t ∧ RetiresQ h rd 32 (roundHalfUp x.toInt (y.toNat % 32)) s t))

/-- The accumulator instructions complete with the values of R53: an accumulate saturates to 72 bits. -/
def Rules.AccumulatorResults : Prop :=
  ∀ s : State, Ready .troika s → ∀ (a : AReg) (rd rs1 rs2 : GReg),
    let x := (s.core .troika).gr rs1
    let y := (s.core .troika).gr rs2
    let acc : Int := ((s.core .troika).ar a).toInt
    let accumulates := fun (p : Int) (sub : Bool) (t : State) =>
      let v := if sub then acc - p else acc + p
      RetiresA a (BitVec.ofInt 72 (saturate 72 v)) (qsatIf 72 v) s t
    (∀ sub, ∃ t, exec (.macWMsuW .troika sub a rs1 rs2) s = .next t ∧ accumulates (x.toInt * y.toInt) sub t) ∧
    (∀ sub, ∃ t, exec (.macHMsuH .troika sub a rs1 rs2) s = .next t ∧
      accumulates ((x.setWidth 16).toInt * (y.setWidth 16).toInt * 2 ^ 32) sub t) ∧
    (∃ t, exec (.aclr .troika a) s = .next t ∧ RetiresA a 0 0 s t) ∧
    (∃ t, exec (.ald .troika a rs1) s = .next t ∧ RetiresA a (BitVec.ofInt 72 (x.toInt * 2 ^ 31)) 0 s t) ∧
    (∃ t, exec (.ard .troika rd a) s = .next t ∧ RetiresQ .troika rd 32 (roundHalfUp acc 31) s t) ∧
    (∀ amt, ∃ t, exec (.ashr .troika a amt) s = .next t ∧
      RetiresA a (BitVec.ofInt 72 (acc.fdiv (2 ^ amt.toNat))) 0 s t)

/-- The fixed-point and accumulator instructions (R52, R53, R57). -/
def Obligations.ScalarFixedResults : Prop := Rules.FixedPointResults ∧ Rules.AccumulatorResults

/-- The binary32 instructions complete (R54, R57): FABS and FNEG change the sign bit alone; every NaN result is the quiet
NaN and every other operation answers what the model's rounding function gives, with its flags recorded in FSTAT. -/
def Obligations.Binary32Results : Prop :=
  ∀ s : State, Ready .troika s → ∀ (rd rs1 rs2 : GReg),
    let x := (s.core .troika).gr rs1
    let y := (s.core .troika).gr rs2
    let z := (s.core .troika).gr rd
    let nan := fun (w : Word) => (fUnpack w).isNaN
    (∀ op, ∃ t r, exec (.faddFsubFmul .troika op rd rs1 rs2) s = .next t ∧ r = fArith op x y ∧
      (nan x || nan y → r.1 = 0x7FC00000) ∧ RetiresG .troika rd r.1 r.2 s t) ∧
    (∃ t r, exec (.fmac .troika rd rs1 rs2) s = .next t ∧ r = fFma z x y ∧
      (nan x || nan y || nan z → r.1 = 0x7FC00000) ∧ RetiresG .troika rd r.1 r.2 s t) ∧
    (∃ t r, exec (.fdiv .troika rd rs1 rs2) s = .next t ∧ r = fDivW x y ∧
      (nan x || nan y → r.1 = 0x7FC00000) ∧ RetiresG .troika rd r.1 r.2 s t) ∧
    (∃ t r, exec (.fsqrt .troika rd rs1) s = .next t ∧ r = fSqrtW x ∧
      (nan x → r.1 = 0x7FC00000) ∧ RetiresG .troika rd r.1 r.2 s t) ∧
    (∀ mx, ∃ t r, exec (.fminFmax .troika mx rd rs1 rs2) s = .next t ∧ r = fMinMax mx x y ∧
      (nan x && nan y → r.1 = 0x7FC00000) ∧ (nan x && !nan y → r.1 = fFlush y) ∧ (nan y && !nan x → r.1 = fFlush x) ∧
      RetiresG .troika rd r.1 r.2 s t) ∧
    (∀ op, ∃ t r, exec (.feqFltFle .troika op rd rs1 rs2) s = .next t ∧ r = fCmpVal op x y ∧
      (nan x || nan y → r.1 = 0 ∧ (op ≠ .eq → r.2 = 16)) ∧ RetiresG .troika rd r.1 r.2 s t) ∧
    (∃ t, exec (.fabsFneg .troika false rd rs1) s = .next t ∧ RetiresG .troika rd (x &&& 0x7FFFFFFF) 0 s t) ∧
    (∃ t, exec (.fabsFneg .troika true rd rs1) s = .next t ∧ RetiresG .troika rd (x ^^^ 0x80000000) 0 s t) ∧
    (∃ t r, exec (.fcvtWSFcvtSW .troika false rd rs1) s = .next t ∧ r = fToInt x ∧ (nan x → r = (0, 16)) ∧
      RetiresG .troika rd r.1 r.2 s t) ∧
    (∃ t r, exec (.fcvtWSFcvtSW .troika true rd rs1) s = .next t ∧ r = fFromFixed 0 x.toInt ∧
      RetiresG .troika rd r.1 r.2 s t) ∧
    (∃ t r, exec (.fcvtQSFcvtSQ .troika false rd rs1) s = .next t ∧ r = fToQ x ∧ (nan x → r = (0, false, 16)) ∧
      RetiresG .troika rd r.1 (r.2.2 ||| flagIf r.2.1 32) s t) ∧
    (∃ t r, exec (.fcvtQSFcvtSQ .troika true rd rs1) s = .next t ∧ r = fFromFixed 31 x.toInt ∧
      RetiresG .troika rd r.1 r.2 s t)

/-- MFC reads a control register and MTC writes one (R49, R50, R57): reserved bits read zero and read-only bits keep their
value. -/
def Obligations.ControlRegisterAccess : Prop :=
  ∀ (h : Hart) (s : State), Ready h s → ∀ (n : BitVec 5) (r : GReg), lowRegs h [r] = true →
    hasCreg h n.toNat = true → ((s.core h).passenger = true → passengerCreg n.toNat = true) →
    (∃ t, exec (.mfc h r n) s = .next t ∧ RetiresG h r ((s.core h).cx n.toNat) 0 s t) ∧
    (∃ t, exec (.mtc h n r) s = .next t ∧
      (t.core h).pc = (s.core h).pc + 4 ∧ (∀ g, (t.core h).gr g = (s.core h).gr g) ∧
      (∀ m, m ≠ n.toNat → (h = .troika → m ≠ cCYCLE ∧ m ≠ cCYCLEH) → (t.core h).cx m = (s.core h).cx m) ∧
      t.mem = s.mem ∧ t.regs = s.regs ∧
      let v := (s.core h).gr r
      let w := (t.core h).cx n.toNat
      (n = 0 → w &&& 0xFFFFFE0C = 0 ∧ w &&& 0x100 = (s.core h).cx 0 &&& 0x100 ∧
        w &&& 0xF2 = v &&& 0xF2 ∧ (h = .troika → w &&& 1 = v &&& 1) ∧ (h = .lantern → w &&& 1 = 0)) ∧
      (n = 1 → w = v &&& mstatBits h) ∧ (n = 2 ∨ n = 4 ∨ n = 9 ∨ n = 10 → w = v) ∧ (n = 3 → w = (s.core h).cx 3) ∧ (n = 5 → w = v &&& 0xFFFFF000) ∧
      (n = 6 → h = .troika → w = v &&& 0x7F) ∧ (n = 6 → h = .lantern → w = v &&& 0x60) ∧ (n = 11 → w = v &&& 3))

/-- What an exception leaves (R64): the status and the pc saved, the cause and the address written, Coachman mode with interrupts disabled and EXC set, and the pc at the vector. Memory and, but for the count of an ECC error at a fetch, every
register stay. SLOT, bit 8 of ECAUSE, is 0 for SYSC and BRK (R61); for the others the statement leaves it open. A word that
stands for an instruction is no illegal one, and the command then does nothing (the model's choice, log entry 138). -/
def Rules.ExceptionEntry : Prop :=
  ∀ (h : Hart) (s : State), Ready h s → MSTAT_EXC.bit ((s.core h).cx cMSTAT) = false →
    (h = .troika → s.troika.vbaseWritten = true) →
    let c := s.core h
    let enters := fun (code epc eaddr : Word) (t : State) =>
      let d := t.core h
      d.cx cESTAT = c.cx cMSTAT ∧ d.cx cEPC = epc ∧ d.cx cECAUSE &&& 0xFFFFFEFF = code ∧ d.cx cEADDR = eaddr ∧
      d.cx cMSTAT = (c.cx cMSTAT &&& 0xFFFFFFFC) ||| 0x100 ∧ d.pc = c.cx cVBASE ∧ d.cx cVBASE = c.cx cVBASE ∧
      (∀ r, d.gr r = c.gr r) ∧ (∀ r, d.vr r = c.vr r) ∧ (∀ r, d.ar r = c.ar r) ∧ d.cx cFSTAT = c.cx cFSTAT ∧
      t.mem = s.mem
    (∃ t, exec (.sysc h) s = .next t ∧ enters 0x0B (c.pc + 4) 0 t ∧ (t.core h).cx cECAUSE = 0x0B ∧ t.regs = s.regs) ∧
    ((h = .troika → s.brkHalts = false) →
      ∃ t, exec (.brk h) s = .next t ∧ enters 0x0C (c.pc + 4) 0 t ∧ (t.core h).cx cECAUSE = 0x0C ∧ t.regs = s.regs) ∧
    (∀ w, (decodeMolvek h {} w = none → ∃ t, exec (.illegalInstruction h w) s = .next t ∧ enters 0x01 c.pc 0 t ∧
        t.regs = s.regs) ∧
      (decodeMolvek h {} w ≠ none → exec (.illegalInstruction h w) s = .next s)) ∧
    (∃ t, exec (.fetchBusError h false) s = .next t ∧ enters 0x04 c.pc c.pc t ∧ t.regs = s.regs) ∧
    (∃ t, exec (.fetchBusError h true) s = .next t ∧ enters 0x04 c.pc c.pc t ∧
      (h = .troika → t.flag MEM_STAT MEM_STAT_UE = true) ∧ (h = .lantern → t.regs = s.regs)) ∧
    (∀ rd rs1, lowRegs h [rd, rs1] = true → (c.gr rs1).toNat % 4 ≠ 0 →
      ∃ t, exec (.jalr h rd rs1) s = .next t ∧ enters 0x03 c.pc (c.gr rs1) t ∧ t.regs = s.regs)

/-- An exception while one is being handled stops the core (R65, R69): the Troika sets STOP and DFLT and raises TRK_DFLT and
TRK_FATAL (R240); the Lantern core clears RUN, and raises LAN_DFLT where the fast domain has power. -/
def Rules.DoubleFaultStops : Prop :=
  ∀ (h : Hart) (s : State), Ready h s → MSTAT_EXC.bit ((s.core h).cx cMSTAT) = true →
    ∃ t, exec (.sysc h) s = .next t ∧ t.issues h = false ∧
      (h = .troika → t.flag TRK_STAT TRK_STAT_STOP = true ∧ t.flag TRK_STAT TRK_STAT_DFLT = true ∧
        t.evPending TRK_DFLT = true ∧ t.evPending TRK_FATAL = true) ∧
      (h = .lantern → LAN_CTL_RUN.bit (t.lanW 0) = false ∧ (s.awake = true → t.evPending LAN_DFLT = true))

/-- Exceptions and double faults (R63 to R65, R69). -/
def Obligations.ExceptionTaken : Prop := Rules.ExceptionEntry ∧ Rules.DoubleFaultStops

/-- ERET in Coachman mode returns to EPC, whose bits [1:0] are zero, with the saved status (R47, R64); no other register
changes. -/
def Rules.ReturnFromException : Prop :=
  ∀ (h : Hart) (s : State), Ready h s → (s.core h).passenger = false →
    ∃ t, exec (.eret h) s = .next t ∧ OnlyCore h s t ∧
      (t.core h).pc = (s.core h).cx cEPC &&& 0xFFFFFFFC ∧
      (t.core h).cx cMSTAT = (s.core h).cx cESTAT &&& mstatBits h ∧
      (∀ r, (t.core h).gr r = (s.core h).gr r) ∧ (∀ r, (t.core h).vr r = (s.core h).vr r) ∧
      (∀ r, (t.core h).ar r = (s.core h).ar r) ∧ (∀ n, n ≠ cMSTAT → (h = .troika → n ≠ cCYCLE ∧ n ≠ cCYCLEH) → (t.core h).cx n = (s.core h).cx n)

/-- An interrupt is taken between instructions (R64, R66, R271): on the Troika the request of R261 above IPL, on the Lantern
core its single one of level 1. The level becomes IPL, interrupts are disabled, and the pc goes to the vector of the level;
the Troika enters Coachman mode and ends a WEV or a FENCE that waits, with EPC on it. -/
def Rules.InterruptEntry : Prop :=
  (∀ (s : State) (lvl src : Nat), s.trkResumes = true → s.flag TRK_STAT TRK_STAT_HALT = false →
    (∀ tag rt rot, s.troika.wait ≠ .load tag rt rot) →
    s.intRequest = some (lvl, src) → MSTAT_IE.bit (s.troika.core.cx cMSTAT) = true →
    MSTAT_IPL.get (s.troika.core.cx cMSTAT) < lvl →
    ∃ t, exec (.interruptEntry .troika) s = .next t ∧
      let c := s.troika.core
      let d := t.troika.core
      d.cx cESTAT = c.cx cMSTAT ∧ d.cx cEPC = c.pc ∧ d.cx cECAUSE = BitVec.ofNat 32 (2 ^ 31 + lvl) ∧ d.cx cEADDR = 0 ∧
      MSTAT_IPL.get (d.cx cMSTAT) = lvl % 16 ∧ MSTAT_IE.bit (d.cx cMSTAT) = false ∧ d.passenger = false ∧
      MSTAT_EXC.bit (d.cx cMSTAT) = MSTAT_EXC.bit (c.cx cMSTAT) ∧
      d.pc = c.cx cVBASE + BitVec.ofNat 32 (0x100 + 0x20 * lvl) ∧ (∀ r, d.gr r = c.gr r) ∧
      t.troika.wait = .none ∧ t.mem = s.mem ∧ t.regs = s.regs) ∧
  (∀ s : State, s.lanIssues = true → s.lanternIrq = true → MSTAT_IE.bit (s.lan.core.cx cMSTAT) = true →
    MSTAT_IPL.get (s.lan.core.cx cMSTAT) = 0 →
    ∃ t, exec (.interruptEntry .lantern) s = .next t ∧
      let c := s.lan.core
      let d := t.lan.core
      d.cx cESTAT = c.cx cMSTAT ∧ d.cx cEPC = c.pc ∧ MSTAT_IE.bit (d.cx cMSTAT) = false ∧
      MSTAT_IPL.get (d.cx cMSTAT) = 1 ∧ d.pc = c.cx cVBASE + BitVec.ofNat 32 (0x100 + 0x20 * 1) ∧ (∀ r, d.gr r = c.gr r) ∧ t.mem = s.mem)

/-- The return and the interrupt (R64, R66, R271). -/
def Obligations.ReturnAndInterrupt : Prop := Rules.ReturnFromException ∧ Rules.InterruptEntry

/-- In Passenger mode, ERET, SIG, COMMIT and an access to a control register marked None take the privilege exception, and
so do LDW and STW that address the Coachman view, with the address in EADDR (R28, R50, R91). A COMMIT of no lanes traps too
(the model's choice, log entry 136). -/
def Obligations.PassengerTraps : Prop :=
  ∀ s : State, Ready .troika s → (s.core .troika).passenger = true →
    MSTAT_EXC.bit ((s.core .troika).cx cMSTAT) = false → s.troika.vbaseWritten = true →
    let c := s.core .troika
    let traps := fun (eaddr : Word) (t : State) =>
      (t.core .troika).cx cECAUSE &&& 0xFFFFFEFF = 0x02 ∧ (eaddr = 0 → (t.core .troika).cx cECAUSE = 0x02) ∧
      (t.core .troika).cx cEADDR = eaddr ∧ (t.core .troika).cx cEPC = c.pc ∧ (t.core .troika).pc = c.cx cVBASE ∧
      (∀ r, (t.core .troika).gr r = c.gr r) ∧ t.mem = s.mem ∧ t.regs = s.regs
    (∃ t, exec (.eret .troika) s = .next t ∧ traps 0 t) ∧
    (∀ ga d, ∃ t, exec (.sig ga d) s = .next t ∧ traps 0 t) ∧
    (∀ ga halves f vr ax v, ∃ t, exec (.commit ga halves f vr ax v) s = .next t ∧ traps 0 t) ∧
    (∀ (n : BitVec 5) r, n.toNat < 12 → n ≠ 6 → n ≠ 7 → n ≠ 8 →
      (∃ t, exec (.mfc .troika r n) s = .next t ∧ traps 0 t) ∧ ∃ t, exec (.mtc .troika n r) s = .next t ∧ traps 0 t) ∧
    (∀ rt rb (off : BitVec 15) env,
      let a := c.gr rb + BitVec.ofInt 32 off.toInt
      0x40000000 ≤ a.toNat → a.toNat < 0x50000000 →
      (∃ t, exec (.ldw .troika rt rb off env) s = .next t ∧ traps a t) ∧
      (∃ t, exec (.stw .troika rt rb off env) s = .next t ∧ traps a t))

/-! ### Loads and stores (R7, R24, R28, R58, R59, R63, R69, R251, R307) -/

/-- Loads from memory complete with the bytes at the effective address, those of waiting stores included (R60), extended as
the instruction says (R56, R58), and LDW.ROT with the word at ea AND 0xFFFFFFFC rotated right by 8 × k (R59). Nothing else
changes. -/
def Obligations.LoadsFromMemory : Prop :=
  ∀ (h : Hart) (s : State), Ready h s →
    ∀ (rt rb : GReg) (off : BitVec 15) (env : Env), Quiet env → lowRegs h [rt, rb] = true →
    let a := ea h s rb off
    (Readable h s a 1 →
      (∃ t, exec (.ldbLdbuLdhLdhu h .b rt rb off env) s = .next t ∧
        RetiresG h rt (BitVec.ofInt 32 (byteAt h s a.toNat).toInt) 0 s t) ∧
      (∃ t, exec (.ldbLdbuLdhLdhu h .bu rt rb off env) s = .next t ∧
        RetiresG h rt (BitVec.ofNat 32 (byteAt h s a.toNat).toNat) 0 s t)) ∧
    (Readable h s a 2 →
      (∃ t, exec (.ldbLdbuLdhLdhu h .h rt rb off env) s = .next t ∧
        RetiresG h rt (BitVec.ofInt 32 (BitVec.ofNat 16 (littleEndian h s a.toNat 2)).toInt) 0 s t) ∧
      (∃ t, exec (.ldbLdbuLdhLdhu h .hu rt rb off env) s = .next t ∧
        RetiresG h rt (BitVec.ofNat 32 (littleEndian h s a.toNat 2)) 0 s t)) ∧
    (Readable h s a 4 → ∃ t, exec (.ldw h rt rb off env) s = .next t ∧
      RetiresG h rt (BitVec.ofNat 32 (littleEndian h s a.toNat 4)) 0 s t) ∧
    (Readable h s (a &&& 0xFFFFFFFC) 4 → ∃ t, exec (.ldwRot h rt rb off env) s = .next t ∧
      RetiresG h rt
        ((BitVec.ofNat 32 (littleEndian h s (a &&& 0xFFFFFFFC).toNat 4)).rotateRight (8 * (a.toNat % 4))) 0 s t) ∧
    (h = .troika → Readable h s a 16 → ∀ vt, ∃ t, exec (.ldv h vt rb off env) s = .next t ∧
      RetiresV vt (BitVec.ofNat 128 (littleEndian h s a.toNat 16)) 0 s t)

/-- Stores to RAM complete: as the core reads them, the bytes of rt stand at the effective address, least significant first,
and every other byte reads as before (R56, R58, R60); STW.ROT stores rt rotated left by 8 × k at ea AND 0xFFFFFFFC (R59). On
the Troika the store waits in the store buffer while that has room; a full one lets its oldest entry out first. -/
def Obligations.StoresToMemory : Prop :=
  ∀ (h : Hart) (s : State), Ready h s →
    ∀ (rt rb : GReg) (off : BitVec 15) (env : Env), Quiet env → lowRegs h [rt, rb] = true →
    let a := ea h s rb off
    let w := (s.core h).gr rt
    (Writable h s a 1 → ∃ t, exec (.stbSth h false rt rb off env) s = .next t ∧ Stores h a.toNat [byteOf w 0] env s t) ∧
    (Writable h s a 2 → ∃ t, exec (.stbSth h true rt rb off env) s = .next t ∧
      Stores h a.toNat [byteOf w 0, byteOf w 1] env s t) ∧
    (Writable h s a 4 → ∃ t, exec (.stw h rt rb off env) s = .next t ∧
      Stores h a.toNat [byteOf w 0, byteOf w 1, byteOf w 2, byteOf w 3] env s t) ∧
    (Writable h s (a &&& 0xFFFFFFFC) 4 → ∃ t, exec (.stwRot h rt rb off env) s = .next t ∧
      let v := w.rotateLeft (8 * (a.toNat % 4))
      Stores h (a &&& 0xFFFFFFFC).toNat [byteOf v 0, byteOf v 1, byteOf v 2, byteOf v 3] env s t) ∧
    (h = .troika → Writable h s a 16 → ∀ vt, ∃ t, exec (.stv h vt rb off env) s = .next t ∧
      Stores h a.toNat ((List.range 16).map (byteOf ((s.core h).vr vt))) env s t) ∧
    (h = .troika → 8 ≤ s.troika.storeBuf.length → (s.core .troika).passenger = false →
      a.toNat % 4 = 0 → isRam (region a.toNat) = true →
      ∃ t, exec (.stw h rt rb off env) s = .next t ∧ t.troika.storeBuf =
        (drainOldest s).troika.storeBuf ++
          [.store a.toNat [byteOf w 0, byteOf w 1, byteOf w 2, byteOf w 3] env.ecc env.tandemPortF])

/-- Alignment and width (R58): an ordinary load or store whose address is not a multiple of its size takes an alignment
exception, and one of another width than a word at a register view or at the Coupler window a bus error; nothing is
accessed. In Passenger mode the Coachman view is left to R28. -/
def Rules.AlignmentAndWidth : Prop :=
  ∀ (h : Hart) (s : State), Ready h s → (h = .troika → s.troika.vbaseWritten = true) →
    MSTAT_EXC.bit ((s.core h).cx cMSTAT) = false →
    ∀ (rt rb : GReg) (off : BitVec 15) (env : Env) (vt : VReg), lowRegs h [rt, rb] = true →
    let c := s.core h
    let a := ea h s rb off
    (h = .troika → c.passenger = true → a.toNat / 0x10000000 ≠ 4) →
    let traps := fun (code : Word) (o : Host.Outcome State Fault Refusal) => ∃ t, o = .next t ∧
      (t.core h).cx cECAUSE &&& 0xFFFFFEFF = code ∧ (t.core h).cx cEADDR = a ∧
      (t.core h).cx cEPC = c.pc ∧ (t.core h).pc = c.cx cVBASE ∧ (∀ r, (t.core h).gr r = c.gr r) ∧
      (∀ r, (t.core h).vr r = c.vr r) ∧ t.mem = s.mem ∧ t.regs = s.regs ∧ t.lan.ram = s.lan.ram ∧ t.cpl = s.cpl
    let window := match region a.toNat with
      | .view _ _ => true
      | .window _ _ => true
      | _ => false
    (a.toNat % 2 ≠ 0 → (∀ k, k = .h ∨ k = .hu → traps 0x05 (exec (.ldbLdbuLdhLdhu h k rt rb off env) s)) ∧
      traps 0x06 (exec (.stbSth h true rt rb off env) s)) ∧
    (a.toNat % 4 ≠ 0 → traps 0x05 (exec (.ldw h rt rb off env) s) ∧ traps 0x06 (exec (.stw h rt rb off env) s)) ∧
    (h = .troika → a.toNat % 16 ≠ 0 →
      traps 0x05 (exec (.ldv h vt rb off env) s) ∧ traps 0x06 (exec (.stv h vt rb off env) s)) ∧
    (h = .troika → window = true →
      (∀ k, k = .b ∨ k = .bu ∨ a.toNat % 2 = 0 → traps 0x07 (exec (.ldbLdbuLdhLdhu h k rt rb off env) s)) ∧
      (∀ half, half = false ∨ a.toNat % 2 = 0 → traps 0x08 (exec (.stbSth h half rt rb off env) s)) ∧
      (a.toNat % 16 = 0 → traps 0x07 (exec (.ldv h vt rb off env) s) ∧ traps 0x08 (exec (.stv h vt rb off env) s)))

/-- Where a load or store of the Troika in Coachman mode takes a bus error (R24, R63, R254): an unmapped address, a store
to code NVM, and a read of an NVM half under a command. Nothing is accessed. -/
def Rules.AccessTraps : Prop :=
  ∀ s : State, Ready .troika s → (s.core .troika).passenger = false →
    MSTAT_EXC.bit ((s.core .troika).cx cMSTAT) = false → s.troika.vbaseWritten = true → s.troika.storeBuf = [] →
    ∀ (rt rb : GReg) (off : BitVec 15) (env : Env), env.vote = .agree →
    let c := s.core .troika
    let a := ea .troika s rb off
    let traps := fun (code : Word) (t : State) =>
      (t.core .troika).cx cECAUSE &&& 0xFFFFFEFF = code ∧ (t.core .troika).cx cEADDR = a ∧
      (t.core .troika).cx cEPC = c.pc ∧ (t.core .troika).pc = c.cx cVBASE ∧
      (∀ r, (t.core .troika).gr r = c.gr r) ∧ t.mem = s.mem ∧ t.regs = s.regs
    (a.toNat % 4 = 0 → region a.toNat = .unmapped →
      (∃ t, exec (.ldw .troika rt rb off env) s = .next t ∧ traps 0x07 t) ∧
      ∃ t, exec (.stw .troika rt rb off env) s = .next t ∧ traps 0x08 t) ∧
    (a.toNat % 4 = 0 → region a.toNat = .nvm → ∃ t, exec (.stw .troika rt rb off env) s = .next t ∧ traps 0x08 t) ∧
    (a.toNat % 4 = 0 → region a.toNat = .nvm → s.nvmBlocked a.toNat = true →
      ∃ t, exec (.ldw .troika rt rb off env) s = .next t ∧ traps 0x07 t)

/-- An uncorrectable word (R60, R251): a Troika read of it takes cause 0x0A; a store of less than the word, once a FENCE with W
brings it to its memory, leaves its bytes and its poison. Both set MEM_STAT.UE and raise MEM_UE. -/
def Rules.PoisonedWord : Prop :=
  ∀ s : State, Ready .troika s → (s.core .troika).passenger = false →
    MSTAT_EXC.bit ((s.core .troika).cx cMSTAT) = false → s.troika.vbaseWritten = true → s.bringup.uncleared = [] →
    ∀ (rt rb : GReg) (off : BitVec 15) (env : Env), Quiet env →
    let a := ea .troika s rb off
    a.toNat % 4 = 0 → (region a.toNat = .sram ∨ region a.toNat = .tandem) → s.poisoned a.toNat = true →
    (s.troika.storeBuf = [] → ∃ t, exec (.ldw .troika rt rb off env) s = .next t ∧
      (t.core .troika).cx cECAUSE &&& 0xFFFFFEFF = 0x0A ∧ (t.core .troika).cx cEADDR = a ∧
      (∀ r, (t.core .troika).gr r = (s.core .troika).gr r) ∧
      t.flag MEM_STAT MEM_STAT_UE = true ∧ t.evPending (evMem 1) = true ∧ t.mem = s.mem) ∧
    (∀ (bs : List Byte) (portF : Bool), bs.length = 4 →
      s.troika.storeBuf = [.store a.toNat bs .clean portF] → ∃ t, exec (.fence 1) s = .next t ∧
      t.troika.storeBuf = [] ∧ t.mem = s.mem ∧ t.poisoned a.toNat = true ∧ t.flag MEM_STAT MEM_STAT_UE = true ∧
      t.evPending (evMem 1) = true ∧ (t.core .troika).pc = (s.core .troika).pc + 4)

/-- The exceptions of loads and stores: alignment and width (R58), unmapped and read-only space (R24, R63, R254), and
uncorrectable words (R251). -/
def Obligations.AccessFaults : Prop := Rules.AlignmentAndWidth ∧ Rules.AccessTraps ∧ Rules.PoisonedWord

/-- An LDW or STW through the Coupler window to a reachable seat becomes an RD or WR frame with the lowest free tag (R298,
R307): the load waits for its answer, the store goes on. -/
def Obligations.WindowAccess : Prop :=
  ∀ s : State, Ready .troika s → s.troika.storeBuf = [] →
    ∀ (rt rb : GReg) (off : BitVec 15) (env : Env) (d o n : Nat), Quiet env →
    let a := ea .troika s rb off
    a.toNat % 4 = 0 → region a.toNat = .window d o → d ≠ s.seat → s.seat ≠ 0 → s.routed d = true →
    s.freeTag = some n →
    (∃ t, exec (.ldw .troika rt rb off env) s = .next t ∧ t.troika.wait = .load n rt 0 ∧
      t.tagOf n = .load d rt 0 a ∧
      t.cpl.ownQ = s.cpl.ownQ ++
        [{ cls := 1, dst := d, kind := 0x03, tag := n, arg := BitVec.ofNat 32 o, xarg := 4 }] ∧
      (t.core .troika).pc = (s.core .troika).pc ∧ (∀ r, (t.core .troika).gr r = (s.core .troika).gr r)) ∧
    (∃ t, exec (.stw .troika rt rb off env) s = .next t ∧ t.troika.wait = .none ∧ t.tagOf n = .store d a ∧
      t.cpl.ownQ = s.cpl.ownQ ++ [{ cls := 1, dst := d, kind := 0x01, tag := n, arg := BitVec.ofNat 32 o
                                    payload := wordBytes ((s.core .troika).gr rt) }] ∧
      (t.core .troika).pc = (s.core .troika).pc + 4 ∧ t.mem = s.mem)

/-! ### Vector instructions (R70 to R74) -/

/-- The fixed-point vector instructions complete: each active lane takes the result of R72, saturated where R72 says so, and
the lanes above the count keep their value (R71). -/
def Rules.VectorFixedResults : Prop :=
  ∀ s : State, Ready .troika s → ∀ (w : Bool) (vd vs1 vs2 : VReg) (gn : GReg),
    let n := active s w gn
    let c := s.core .troika
    let x := fun k => laneI w (c.vr vs1) k
    let y := fun k => laneI w (c.vr vs2) k
    let old := fun k => laneI w (c.vr vd) k
    let amount := fun k => (y k % (laneBits w : Int)).toNat
    let none := fun (_ : Nat) => (0 : Word)
    (∀ sub, ∃ t, exec (.vaddVsub sub w vd vs1 vs2 gn) s = .next t ∧
      RetiresLanes w vd n (fun k => if sub then x k - y k else x k + y k) none s t) ∧
    (∀ sub, ∃ t, exec (.vqaddVqsub sub w vd vs1 vs2 gn) s = .next t ∧
      RetiresSaturated w vd n (fun k => if sub then x k - y k else x k + y k) s t) ∧
    (∃ t, exec (.vqmul w vd vs1 vs2 gn) s = .next t ∧
      RetiresSaturated w vd n (fun k => roundHalfUp (x k * y k) (laneBits w - 1)) s t) ∧
    (∀ mx, ∃ t, exec (.vminVmax mx w vd vs1 vs2 gn) s = .next t ∧
      RetiresLanes w vd n (fun k => if mx then max (x k) (y k) else min (x k) (y k)) none s t) ∧
    (∀ abs, ∃ t, exec (.vqnegVqabs abs w vd vs1 gn) s = .next t ∧
      RetiresSaturated w vd n (fun k => if abs then |x k| else -x k) s t) ∧
    (∃ t, exec (.vsra w vd vs1 vs2 gn) s = .next t ∧
      RetiresLanes w vd n (fun k => (x k).fdiv (2 ^ amount k)) none s t) ∧
    (∃ t, exec (.vqrshr w vd vs1 vs2 gn) s = .next t ∧
      RetiresSaturated w vd n (fun k => roundHalfUp (x k) (amount k)) s t) ∧
    (∃ t, exec (.vqshl w vd vs1 vs2 gn) s = .next t ∧
      RetiresSaturated w vd n (fun k => x k * 2 ^ amount k) s t) ∧
    (∃ t, exec (.vcmplt w vd vs1 vs2 gn) s = .next t ∧
      RetiresLanes w vd n (fun k => if x k < y k then -1 else 0) none s t) ∧
    (∃ t, exec (.vsel w vd vs1 vs2 gn) s = .next t ∧
      RetiresLanes w vd n (fun k => if old k ≠ 0 then x k else y k) none s t) ∧
    (∃ t, exec (.vmov w vd vs1 gn) s = .next t ∧ RetiresLanes w vd n x none s t)

/-- VMAC and VDOT complete (R72, R74): VMAC adds the saturated VQMUL product to the old lane (the model's reading, log entry
16); VDOT adds the exact sum of the active products to the accumulator. -/
def Rules.VectorAccumulateResults : Prop :=
  ∀ s : State, Ready .troika s → ∀ (w : Bool) (vd vs1 vs2 : VReg) (gn : GReg),
    let n := active s w gn
    let c := s.core .troika
    let x := fun k => laneI w (c.vr vs1) k
    let y := fun k => laneI w (c.vr vs2) k
    let product := fun k => roundHalfUp (x k * y k) (laneBits w - 1)
    let sum := fun k => laneI w (c.vr vd) k + saturate (laneBits w) (product k)
    (∃ t, exec (.vmac w vd vs1 vs2 gn) s = .next t ∧
      RetiresLanes w vd n (fun k => saturate (laneBits w) (sum k))
        (fun k => qsatIf (laneBits w) (product k) ||| qsatIf (laneBits w) (sum k)) s t) ∧
    (∀ a, ∃ t, exec (.vdot w a vs1 vs2 gn) s = .next t ∧
      let v := (c.ar a).toInt + (List.range n).foldl (fun z k => z + x k * y k * (if w then 1 else 2 ^ 32)) 0
      RetiresA a (BitVec.ofInt 72 (saturate 72 v)) (qsatIf 72 v) s t)

/-- The fixed-point vector arithmetic (R52, R71, R72, R74). -/
def Obligations.VectorArithmetic : Prop := Rules.VectorFixedResults ∧ Rules.VectorAccumulateResults

/-- The bitwise and lane-moving vector instructions complete (R72, R73). -/
def Rules.VectorMoveResults : Prop :=
  ∀ s : State, Ready .troika s → ∀ (w : Bool) (vd vs1 vs2 : VReg) (gn g : GReg),
    let n := active s w gn
    let c := s.core .troika
    let none := fun (_ : Nat) => (0 : Word)
    (∀ op, ∃ t, exec (.vandVorVxor op w vd vs1 vs2 gn) s = .next t ∧
      RetiresLanes w vd n (fun k => laneI w (match op with
        | .and => c.vr vs1 &&& c.vr vs2 | .or => c.vr vs1 ||| c.vr vs2 | .xor => c.vr vs1 ^^^ c.vr vs2) k) none s t) ∧
    (∃ t, exec (.vsplat w vd g) s = .next t ∧
      RetiresLanes w vd (laneCount w) (fun _ => (c.gr g).toInt) none s t) ∧
    (∀ lane : BitVec 3, (w = true → lane.toNat < 4) →
      (∃ t, exec (.vins w vd lane g) s = .next t ∧
        RetiresLanes w vd (laneCount w)
          (fun k => if k = lane.toNat then (c.gr g).toInt else laneI w (c.vr vd) k) none s t) ∧
      (∃ t, exec (.vext w g vs1 lane) s = .next t ∧
        RetiresG .troika g (BitVec.ofInt 32 (laneI w (c.vr vs1) lane.toNat)) 0 s t) ∧
      (∃ t, exec (.vbcast w vd vs1 lane gn) s = .next t ∧
        RetiresLanes w vd n (fun _ => laneI w (c.vr vs1) lane.toNat) none s t)) ∧
    (∃ t, exec (.vnarrow vd vs1 vs2 gn) s = .next t ∧
      RetiresSaturated false vd (active s false gn)
        (fun k => roundHalfUp (if k < 4 then laneI true (c.vr vs1) k else laneI true (c.vr vs2) (k - 4)) 16) s t) ∧
    (∃ t, exec (.vwiden vd vs1 gn) s = .next t ∧
      RetiresLanes true vd (active s true gn) (fun k => laneI false (c.vr vs1) k * 2 ^ 16) none s t)

/-- The binary32 vector instructions complete lane by lane as their scalar counterparts do (R54, R72, R74). -/
def Rules.VectorFloatResults : Prop :=
  ∀ s : State, Ready .troika s → ∀ (vd vs1 vs2 : VReg) (gn : GReg),
    let n := active s true gn
    let c := s.core .troika
    let x := fun k => vecWord (c.vr vs1) k
    let y := fun k => vecWord (c.vr vs2) k
    let z := fun k => vecWord (c.vr vd) k
    let lanes := fun (f : Nat → Word × Word) (t : State) =>
      RetiresLanes true vd n (fun k => (f k).1.toInt) (fun k => (f k).2) s t
    (∀ op, ∃ t, exec (.vfaddVfsubVfmul op vd vs1 vs2 gn) s = .next t ∧ lanes (fun k => fArith op (x k) (y k)) t) ∧
    (∃ t, exec (.vfmac vd vs1 vs2 gn) s = .next t ∧ lanes (fun k => fFma (z k) (x k) (y k)) t) ∧
    (∀ mx, ∃ t, exec (.vfminVfmax mx vd vs1 vs2 gn) s = .next t ∧ lanes (fun k => fMinMax mx (x k) (y k)) t) ∧
    (∃ t, exec (.vfcvtSQVfcvtQS true vd vs1 gn) s = .next t ∧ lanes (fun k => fFromFixed 31 (x k).toInt) t) ∧
    (∃ t, exec (.vfcvtSQVfcvtQS false vd vs1 gn) s = .next t ∧
      lanes (fun k => ((fToQ (x k)).1, (fToQ (x k)).2.2 ||| flagIf (fToQ (x k)).2.1 32)) t)

/-- The lane-moving and binary32 vector instructions (R54, R71 to R74). -/
def Obligations.VectorMovesAndFloat : Prop := Rules.VectorMoveResults ∧ Rules.VectorFloatResults

/-! ### Motor-control instructions (R75 to R84, R91) -/

/-- CLK and CLK.I complete (R78): lane i takes the exact sum of row i of the Axle's forward or inverse matrix over the input
lanes, rounded half up and saturated, with QSAT where a lane saturates; a size of zero changes nothing; the lanes beyond the
size and everything else stay. -/
def Rules.MatrixTransform : Prop :=
  ∀ s : State, Ready .troika s → ∀ (n : BitVec 4) (vr : VReg) (ax : Fin 4),
    (n = 0 ∨ 3 ≤ n.toNat ∧ n.toNat ≤ 12) → (n.toNat ≤ 8 ∨ vr ≠ 7) →
    let transformed := fun (inverse : Bool) (t : State) =>
      let c := s.core .troika
      let d := t.core .troika
      let sum := fun (k : Nat) => roundHalfUp
        ((List.range n.toNat).foldl (fun z j => z + coefficient s inverse ax k j * wideLane c vr j) 0) 15
      OnlyCore .troika s t ∧ d.pc = c.pc + 4 ∧ (∀ r, d.gr r = c.gr r) ∧ (∀ r, d.ar r = c.ar r) ∧ KeepsControl .troika c d ∧
      d.cx cFSTAT = c.cx cFSTAT ||| (List.range n.toNat).foldl (fun f k => f ||| qsatIf 16 (sum k)) 0 ∧
      (∀ k, k < 16 → (vr = 7 → k < 8) →
        wideLane d vr k = if k < n.toNat then saturate 16 (sum k) else wideLane c vr k) ∧
      ∀ r, r ≠ vr → (r ≠ vr + 1 ∨ n.toNat ≤ 8) → d.vr r = c.vr r
    (∃ t, exec (.clk n vr ax) s = .next t ∧ transformed false t) ∧
    (∃ t, exec (.clkI n vr ax) s = .next t ∧ transformed true t)

/-- PRK and IPRK complete (R79). PRK rotates the pair (2p, 2p + 1) by the angle in ga and IPRK with P = 0 rotates it back, with
the sine and the cosine that the model takes for that angle: each sum is exact, rounded half up and saturated, with QSAT. IPRK
with P = 1 writes the magnitude, rounded half up and saturated, and zero, and adds to ga an angle at most 2^18 units from the
arc tangent, which is zero for the zero vector. Everything else stays. -/
def Rules.Rotation : Prop :=
  ∀ s : State, Ready .troika s → ∀ (ga : GReg) (p : BitVec 2) (vr : VReg),
    let c := s.core .troika
    let x := pairLane c vr p 0
    let y := pairLane c vr p 1
    let sn := sinQ15 (c.gr ga)
    let cs := cosQ15 (c.gr ga)
    let pair := fun (u v : Int) (t : State) =>
      let d := t.core .troika
      OnlyCore .troika s t ∧ d.pc = c.pc + 4 ∧ (∀ r, r ≠ vr → d.vr r = c.vr r) ∧ (∀ r, d.ar r = c.ar r) ∧
      KeepsControl .troika c d ∧ d.cx cFSTAT = c.cx cFSTAT ||| qsatIf 16 u ||| qsatIf 16 v ∧
      pairLane d vr p 0 = saturate 16 u ∧ pairLane d vr p 1 = saturate 16 v ∧
      ∀ k, k < 8 → k ≠ 2 * p.toNat → k ≠ 2 * p.toNat + 1 → lane16 (d.vr vr) k = lane16 (c.vr vr) k
    (∃ t, exec (.prk ga p vr) s = .next t ∧ (∀ r, (t.core .troika).gr r = c.gr r) ∧
      pair (roundHalfUp (x * cs + y * sn) 15) (roundHalfUp (y * cs - x * sn) 15) t) ∧
    (∃ t, exec (.iprk ga p false vr) s = .next t ∧ (∀ r, (t.core .troika).gr r = c.gr r) ∧
      pair (roundHalfUp (x * cs - y * sn) 15) (roundHalfUp (y * cs + x * sn) 15) t) ∧
    (∃ t m e, exec (.iprk ga p true vr) s = .next t ∧ pair m 0 t ∧
      0 ≤ m ∧ (2 * m - 1) ^ 2 ≤ 4 * (x * x + y * y) + (if m = 0 then 1 else 0) ∧ 4 * (x * x + y * y) < (2 * m + 1) ^ 2 ∧
      (∀ r, (t.core .troika).gr r = if r = ga ∧ r ≠ 0 then c.gr ga + BitVec.ofInt 32 e else c.gr r) ∧
      |e * 2 ^ 64 - (atan2Wide y x).1| ≤ 2 ^ 82 ∧ (x = 0 → y = 0 → e = 0))

/-- SVM completes (R80). The phase voltages stand in units of 2^-40 of an output LSB, with √3 to 60 bits; the spec gives no
rounding of the outputs, and each is an integer less than one LSB from its value. Lanes 0 to 2 take 1 − d, clamped to 0 to
0x7FFF, lanes 3 and 4 the differences of the duties, saturated, lane 5 the rest of the period, clamped at 0x7FFF, and ga the
sector. QSAT is set where the vector is scaled or a difference saturates. Everything else stays. -/
def Rules.Modulation : Prop :=
  ∀ s : State, Ready .troika s → ∀ (ga : GReg) (p : BitVec 2) (vr : VReg),
    let c := s.core .troika
    let x := pairLane c vr p 0
    let y := pairLane c vr p 1
    let one : Int := 2 ^ 55
    let h := (y * 1996918623117814387).fdiv (2 ^ 21)
    let a0 := x * 2 ^ 40
    let b0 := -(x * 2 ^ 39) + h
    let c0 := -(x * 2 ^ 39) - h
    let span := max a0 (max b0 c0) - min a0 (min b0 c0)
    let scale := fun (v : Int) => if one < span then (v * one).fdiv span else v
    let high := max (scale a0) (max (scale b0) (scale c0))
    let low := min (scale a0) (min (scale b0) (scale c0))
    let middle := scale a0 + scale b0 + scale c0 - high - low
    let duty := fun (v : Int) => 2 ^ 54 + scale v - (high + low).fdiv 2
    let exact := [one - duty a0, one - duty b0, one - duty c0, high - middle, middle - low, one - (high - low)]
    let sector : Nat := if x = 0 ∧ y = 0 then 1
      else if 0 < x ∧ 0 ≤ y ∧ y * y < 3 * x * x then 1 else if 0 < y ∧ 3 * x * x ≤ y * y then 2
      else if x < 0 ∧ 0 < y then 3 else if x < 0 ∧ y * y < 3 * x * x then 4 else if 3 * x * x ≤ y * y then 5 else 6
    ∃ (t : State) (u : Nat → Int), exec (.svm ga p vr) s = .next t ∧
      let d := t.core .troika
      (∀ k, k < 6 → |u k * 2 ^ 40 - exact.getD k 0| < 2 ^ 40) ∧
      (∀ k, k < 3 → lane16 (d.vr vr) k = max 0 (min 0x7FFF (u k))) ∧
      lane16 (d.vr vr) 3 = saturate 16 (u 3) ∧ lane16 (d.vr vr) 4 = saturate 16 (u 4) ∧
      lane16 (d.vr vr) 5 = min 0x7FFF (u 5) ∧
      lane16 (d.vr vr) 6 = lane16 (c.vr vr) 6 ∧ lane16 (d.vr vr) 7 = lane16 (c.vr vr) 7 ∧
      (∀ r, d.gr r = if r = ga ∧ r ≠ 0 then BitVec.ofNat 32 sector else c.gr r) ∧
      d.cx cFSTAT = c.cx cFSTAT ||| flagIf (decide (one < span)) 32 ||| qsatIf 16 (u 3) ||| qsatIf 16 (u 4) ∧
      (x = 0 → y = 0 → (∀ k, k < 3 → lane16 (d.vr vr) k = 0x4000) ∧ lane16 (d.vr vr) 5 = 0x7FFF) ∧
      OnlyCore .troika s t ∧ d.pc = c.pc + 4 ∧ (∀ r, r ≠ vr → d.vr r = c.vr r) ∧ (∀ r, d.ar r = c.ar r) ∧
      KeepsControl .troika c d

/-- The transforms between frames: CLK, CLK.I, PRK, IPRK and SVM (R78 to R80). -/
def Obligations.FrameTransforms : Prop := Rules.MatrixTransform ∧ Rules.Rotation ∧ Rules.Modulation

/-- ATAB completes with no store waiting and every entry good (R81): lane k takes the factor in gb times the interpolated
waveform entry at ga plus the lane's offset, rounded half up and saturated, with QSAT; everything else stays. Where an entry
is uncorrectable, the first such one gives cause 0x0A with its address, and no register but those of the exception changes
(R91, R251). -/
def Rules.WaveformTable : Prop :=
  ∀ s : State, Ready .troika s → s.troika.storeBuf = [] → s.bringup.uncleared = [] →
    ∀ (ga gb : GReg) (n : BitVec 4) (vr : VReg) (ax : Fin 4) (reads : List (Fin 12 × Env)),
    n.toNat ≤ 12 → (n.toNat ≤ 8 ∨ vr ≠ 7) → (∀ e ∈ reads, Quiet e.2) →
    let c := s.core .troika
    let angle := fun (k : Nat) => c.gr ga + s.rd (TTU_OFS ax k)
    let entry := fun (k : Nat) => 0x20000000 + ax.val * 0x20000 + 4 * ((angle k).toNat / 2 ^ 18)
    let e := fun (k : Nat) => s.word32 (entry k)
    let wave := fun (k : Nat) => ((e k).extractLsb' 16 16).toInt +
      roundHalfUp (((e k).extractLsb' 0 16).toInt * ((angle k).toNat % 2 ^ 18 : Nat)) 18
    let out := fun (k : Nat) => roundHalfUp (((c.gr gb).setWidth 16).toInt * saturate 16 (wave k)) 15
    ((∀ k, k < n.toNat → s.poisoned (entry k) = false) →
      ∃ t, exec (.atab ga gb n vr ax reads) s = .next t ∧
        let d := t.core .troika
        OnlyCore .troika s t ∧ d.pc = c.pc + 4 ∧ (∀ r, d.gr r = c.gr r) ∧ (∀ r, d.ar r = c.ar r) ∧ KeepsControl .troika c d ∧
        d.cx cFSTAT = c.cx cFSTAT |||
          (List.range n.toNat).foldl (fun f k => f ||| qsatIf 16 (wave k) ||| qsatIf 16 (out k)) 0 ∧
        (∀ k, k < 16 → (vr = 7 → k < 8) →
          wideLane d vr k = if k < n.toNat then saturate 16 (out k) else wideLane c vr k) ∧
        ∀ r, r ≠ vr → (r ≠ vr + 1 ∨ n.toNat ≤ 8) → d.vr r = c.vr r) ∧
    (∀ k, k < n.toNat → (∀ j, j < k → s.poisoned (entry j) = false) → s.poisoned (entry k) = true →
      MSTAT_EXC.bit (c.cx cMSTAT) = false → s.troika.vbaseWritten = true →
      ∃ t, exec (.atab ga gb n vr ax reads) s = .next t ∧
        let d := t.core .troika
        d.cx cECAUSE = 0x0A ∧ d.cx cEADDR = BitVec.ofNat 32 (entry k) ∧ d.cx cEPC = c.pc ∧ d.pc = c.cx cVBASE ∧
        (∀ r, d.gr r = c.gr r) ∧ (∀ r, d.vr r = c.vr r) ∧ d.cx cFSTAT = c.cx cFSTAT ∧ t.mem = s.mem)

/-- SAT and SAT.C complete (R84). SAT clamps lanes 0 to n − 1 between ga and gb, the upper limit last. SAT.C with the limit L in
gb, zero for a negative one, leaves a pair within L alone; else mode 0 gives each lane its sign and its magnitude times L over
that of the pair, mode 1 clamps the first lane to L and gives the second its sign and the rest of the circle; the spec gives
no rounding of the roots, and each is an integer less than one LSB from its value. ga tells whether a lane changed, and
everything else stays. -/
def Rules.LimitResults : Prop :=
  ∀ s : State, Ready .troika s → ∀ (ga gb : GReg) (vr : VReg),
    let c := s.core .troika
    let lo : Int := ((c.gr ga).setWidth 16).toInt
    let hi : Int := ((c.gr gb).setWidth 16).toInt
    (∀ n : BitVec 4, n.toNat ≤ 8 → ∃ t, exec (.sat ga gb n vr) s = .next t ∧
      RetiresLanes false vr n.toNat (fun k => min (max (lane16 (c.vr vr) k) lo) hi) (fun _ => 0) s t) ∧
    (∀ (p : BitVec 2) (mode : Bool), ∃ t, exec (.satC ga gb p mode vr) s = .next t ∧
      let d := t.core .troika
      let x := pairLane c vr p 0
      let y := pairLane c vr p 1
      let x' := pairLane d vr p 0
      let y' := pairLane d vr p 1
      let lim := max 0 hi
      let sq := x * x + y * y
      let signed := fun (v : Int) (r : Nat) => if v < 0 then -(r : Int) else r
      let root := fun (r : Nat) (num den : Int) => ((r - 1 : Nat) : Int) ^ 2 * den ≤ num ∧ num < ((r : Int) + 1) ^ 2 * den
      (sq ≤ lim * lim → d.vr vr = c.vr vr) ∧
      (lim * lim < sq → mode = false → (∃ r, x' = signed x r ∧ root r (x * x * lim * lim) sq) ∧
        ∃ r, y' = signed y r ∧ root r (y * y * lim * lim) sq) ∧
      (lim * lim < sq → mode = true → x' = max (-lim) (min x lim) ∧
        ∃ r, y' = signed y r ∧ root r (lim * lim - x' * x') 1) ∧
      (∀ r, d.gr r = if r = ga ∧ r ≠ 0 then (if x' ≠ x ∨ y' ≠ y then 1 else 0) else c.gr r) ∧
      (∀ k, k < 8 → k ≠ 2 * p.toNat → k ≠ 2 * p.toNat + 1 → lane16 (d.vr vr) k = lane16 (c.vr vr) k) ∧
      OnlyCore .troika s t ∧ d.pc = c.pc + 4 ∧ (∀ r, r ≠ vr → d.vr r = c.vr r) ∧ (∀ r, d.ar r = c.ar r) ∧
      d.cx cFSTAT = c.cx cFSTAT ∧ KeepsControl .troika c d)

/-- A size that CLK, CLK.I, ATAB or SAT does not define is an illegal instruction (R75, R76, R78, R81, R91): cause 0x01, and
nothing is written. -/
def Rules.IllegalSizes : Prop :=
  ∀ s : State, Ready .troika s → MSTAT_EXC.bit ((s.core .troika).cx cMSTAT) = false → s.troika.vbaseWritten = true →
    ∀ (ga gb : GReg) (n : BitVec 4) (vr : VReg) (ax : Fin 4) (reads : List (Fin 12 × Env)),
    let c := s.core .troika
    let illegal := fun (i : Instr) => ∃ t, exec i s = .next t ∧
      let d := t.core .troika
      d.cx cECAUSE = 0x01 ∧ d.cx cEPC = c.pc ∧ d.pc = c.cx cVBASE ∧ (∀ r, d.gr r = c.gr r) ∧ (∀ r, d.vr r = c.vr r) ∧
      t.mem = s.mem ∧ t.regs = s.regs
    (n.toNat = 1 ∨ n.toNat = 2 ∨ 12 < n.toNat ∨ (8 < n.toNat ∧ vr = 7) → illegal (.clk n vr ax) ∧ illegal (.clkI n vr ax)) ∧
    (12 < n.toNat ∨ (8 < n.toNat ∧ vr = 7) → illegal (.atab ga gb n vr ax reads)) ∧
    (8 < n.toNat → illegal (.sat ga gb n vr))

/-- The waveform table and the limits: ATAB, SAT and SAT.C, with the sizes that are illegal (R75, R76, R78, R81, R84, R91). -/
def Obligations.TableAndLimits : Prop := Rules.WaveformTable ∧ Rules.LimitResults ∧ Rules.IllegalSizes

/-- PIA completes on a block of four words in RAM (R82): gb takes the output within the limits, the integrator is stored
back, QSAT is set where p, i or their sum into the integrator saturates, and nothing else changes. -/
def Rules.RegulatorResults : Prop :=
  ∀ s : State, Ready .troika s → ∀ (ga gb : GReg) (shift : BitVec 4) (env : Env), Quiet env →
    let c := s.core .troika
    let a := (c.gr ga).toNat
    Block s a →
    let word := fun (k : Nat) => BitVec.ofNat 32 (littleEndian .troika s (a + 4 * k) 4)
    let integral := (word 2).toInt
    let e := (c.gr gb).toInt
    let hi := ((word 3).extractLsb' 16 16).toInt * 2 ^ 16
    let lo := ((word 3).extractLsb' 0 16).toInt * 2 ^ 16
    let p0 := roundHalfUp ((word 0).toInt * e) (31 - shift.toNat)
    let i0 := roundHalfUp ((word 1).toInt * e) (31 - shift.toNat)
    let p := saturate 32 p0
    let ic0 := integral + saturate 32 i0
    let ic := saturate 32 ic0
    let held := (hi < p + ic ∧ 0 < e) ∨ (p + ic < lo ∧ e < 0)
    ∃ t i', exec (.pia ga gb shift env) s = .next t ∧ (held → i' = integral) ∧ (¬held → i' = ic) ∧
      BlockStep gb a 2 (BitVec.ofInt 32 (min (max (p + i') lo) hi)) (BitVec.ofInt 32 i')
        (qsatIf 32 p0 ||| qsatIf 32 i0 ||| qsatIf 32 ic0) env s t

/-- RMP completes on a block of four words in RAM (R83): the value moves toward the target in gb by at most its step, unless
HOLD stops it, goes to gb and is stored back, with QSAT where its sum saturates, and nothing else changes. -/
def Rules.RampResults : Prop :=
  ∀ s : State, Ready .troika s → ∀ (ga gb : GReg) (env : Env), Quiet env →
    let c := s.core .troika
    let a := (c.gr ga).toNat
    Block s a →
    let word := fun (k : Nat) => BitVec.ofNat 32 (littleEndian .troika s (a + 4 * k) 4)
    let x := (word 0).toInt
    let step := fun (w : Word) => if w.getLsbD 31 then (0 : Int) else (w.toNat : Int)
    let up := x + step (word 1)
    let down := x - step (word 2)
    let rises := x < (c.gr gb).toInt ∧ (word 3).getLsbD 0 = false
    let falls := (c.gr gb).toInt < x ∧ (word 3).getLsbD 1 = false
    ∃ t y fl, exec (.rmp ga gb env) s = .next t ∧
      (rises → y = min (c.gr gb).toInt (saturate 32 up) ∧ fl = qsatIf 32 up) ∧
      (falls → y = max (c.gr gb).toInt (saturate 32 down) ∧ fl = qsatIf 32 down) ∧
      (¬rises → ¬falls → y = x ∧ fl = 0) ∧
      BlockStep gb a 0 (BitVec.ofInt 32 y) (BitVec.ofInt 32 y) fl env s t

/-- The regulator and the ramp: PIA and RMP (R82, R83). -/
def Obligations.RegulatorAndRamp : Prop := Rules.RegulatorResults ∧ Rules.RampResults

/-! ### Ordering instructions (R60, R85 to R90) -/

/-- COMMIT in Coachman mode issues into the store buffer with the lanes of R85: word k of the registers from v(vr) up, or
with F = 1 half-word k, as many as the count, 16 and v7 allow. A count or halves of zero change nothing but the pc. -/
def Rules.CommitIssues : Prop :=
  ∀ s : State, Ready .troika s → (s.core .troika).passenger = false →
    ∀ (ga : GReg) (halves : BitVec 2) (f : Bool) (vr : VReg) (ax : Fin 4),
    let c := s.core .troika
    let count := min (c.gr ga).toNat (min 16 ((if f then 8 else 4) * (8 - vr.toNat)))
    let lane := fun (k : Nat) =>
      if f then ((c.vr (vr + BitVec.ofNat 3 (k / 8))).extractLsb' (16 * (k % 8)) 16).setWidth 32
      else (c.vr (vr + BitVec.ofNat 3 (k / 4))).extractLsb' (32 * (k % 4)) 32
    (c.gr ga ≠ 0 → halves ≠ 0 → s.troika.storeBuf.length < 8 →
      ∃ t, exec (.commit ga halves f vr ax .agree) s = .next t ∧
        t = { s with
          troika := { s.troika with
            core := t.troika.core, stepArmed := false
            storeBuf := s.troika.storeBuf ++ [.commit ⟨ax, halves, f, (List.range count).map lane⟩] }
          draws := s.draws + 1 } ∧
        (t.core .troika).pc = c.pc + 4 ∧ WritesG .troika 0 0 0 c (t.core .troika)) ∧
    (c.gr ga = 0 ∨ halves = 0 → ∃ t, exec (.commit ga halves f vr ax .agree) s = .next t ∧ RetiresG .troika 0 0 0 s t)

/-- When the Axle applies the oldest COMMIT (R85, R86, R97, R107), every lane stands in the compares of its slot that the
halves select, scaled with F = 1 by the period that is in force then; the commit watchdog restarts, counting the update point
in whose cycle the COMMIT comes; the next entry is the oldest. -/
def Rules.CommitApplies : Prop :=
  ∀ (s : State) (e : CommitEntry) (rest : List BufEntry) (n : Nat), s.troika.storeBuf = .commit e :: rest →
    e.lanes ≠ [] → e.lanes.length ≤ 16 → e.halves ≠ 0 →
    ∃ t, exec (.commitApply n) s = .next t ∧ t.troika.storeBuf = rest ∧
      (t.ax e.ax).wd = (if s.pointNow e.ax n && s.wdCounts e.ax then 1 else 0) ∧
      (t.ax e.ax).commitSinceHb = true ∧ (t.ax e.ax).commitSinceResume = true ∧
      ∀ k, k < e.lanes.length →
        let lane := e.lanes.getD k 0
        let u := (max 0 (lane.setWidth 16).toInt).toNat
        let c := if e.f then BitVec.ofNat 32 ((u * 32 * s.commitPeriod e.ax n + 2 ^ 14) / 2 ^ 15) else lane
        (e.halves.getLsbD 0 = true → t.rd (AXL_CMPU e.ax k) = c) ∧
        (e.halves.getLsbD 1 = true → t.rd (AXL_CMPD e.ax k) = c)

/-- COMMIT from its issue to the Axle (R85, R86, R97). -/
def Obligations.CommitResults : Prop := Rules.CommitIssues ∧ Rules.CommitApplies

/-- WEV (R87): a pending masked line, a zero timeout or a zero mask returns at once; otherwise it waits for a line or for its
timeout. A return writes the masked pending lines to ga and clears them. -/
def Obligations.WaitForEvent : Prop :=
  ∀ (s : State) (ga gb : GReg),
    let c := s.core .troika
    let lines := s.wakeLines &&& (c.gr ga).toNat % 65536
    let returned := fun (v : Nat) (t : State) =>
      (∀ r, (t.core .troika).gr r = if r = ga ∧ r ≠ 0 then BitVec.ofNat 32 v else c.gr r) ∧
      (t.core .troika).pc = c.pc + 4 ∧ t.troika.wait = .none ∧
      t.wakePend = s.wakePend.filter (fun e => !v.testBit e.2) ∧ t.regs = s.regs ∧ t.mem = s.mem
    (Ready .troika s →
      (lines ≠ 0 ∨ c.gr gb = 0 ∨ (c.gr ga).toNat % 65536 = 0 →
        ∃ t, exec (.wev ga gb) s = .next t ∧ returned lines t) ∧
      (lines = 0 → c.gr gb ≠ 0 → (c.gr ga).toNat % 65536 ≠ 0 → ∃ t, exec (.wev ga gb) s = .next t ∧
        t.troika.wait = .wev ga gb ∧ (t.core .troika).pc = c.pc ∧ (∀ r, (t.core .troika).gr r = c.gr r) ∧
        t.wakePend = s.wakePend)) ∧
    (s.troika.wait = .wev ga gb → s.trkResumes = true → s.troika.imprecise = [] →
      (lines ≠ 0 → ∃ t, exec .wevReturn s = .next t ∧ returned lines t) ∧
      (lines = 0 → ∃ t, exec .wevTimeout s = .next t ∧ returned 0 t))

/-- XCH, SIG and FENCE complete with no store waiting (R88 to R90): XCH gives every core the majority of the three values and
reports an odd one as a mismatch, with three different ones it gives zero and the Troika stops (R238); SIG folds the core's
state into the signature that the Whiffletree votes; a FENCE whose condition on the Coupler holds changes nothing but the pc,
and one whose condition does not hold waits. -/
def Obligations.ExchangeSignatureFence : Prop :=
  ∀ s : State, Ready .troika s → s.troika.storeBuf = [] →
    let c := s.core .troika
    (∀ ga gb d, ∃ t, exec (.xch ga gb (d, d, d) false) s = .next t ∧ RetiresG .troika gb (c.gr ga ^^^ d) 0 s t) ∧
    (∀ ga gb d e, d ≠ e → s.outCores = 0 → ∃ t, exec (.xch ga gb (e, d, d) false) s = .next t ∧
      (∀ r, (t.core .troika).gr r = if r = gb ∧ r ≠ 0 then c.gr ga ^^^ d else c.gr r) ∧
      t.flag TRK_STAT TRK_STAT_MISM = true ∧ t.fld TRK_LAST TRK_LAST_CORE = 0 ∧ t.evPending TRK_MISMATCH = true) ∧
    (∀ ga gb d e f, d ≠ e → d ≠ f → e ≠ f → s.outCores = 0 → ∃ t, exec (.xch ga gb (d, e, f) false) s = .next t ∧
      (∀ r, (t.core .troika).gr r = if r = gb then 0 else c.gr r) ∧ t.flag TRK_STAT TRK_STAT_STOP = true ∧
      t.flag TRK_STAT TRK_STAT_UNLOC = true) ∧
    (c.passenger = false → ∀ ga differs, (differs = true → s.troika.scrub = none) →
      ∃ t, exec (.sig ga differs) s = .next t ∧
      let le := fun (n : Nat) (x : Nat) => (List.range n).map (fun k => BitVec.ofNat 8 (x / 256 ^ k))
      let folded := le 4 s.troika.sigS.toNat ++ (List.range 31).flatMap (fun k => le 4 (c.gr (BitVec.ofNat 5 (k + 1))).toNat)
        ++ (List.range 8).flatMap (fun k => le 16 (c.vr (BitVec.ofNat 3 k)).toNat)
        ++ (List.range 4).flatMap (fun k => le 9 (c.ar (BitVec.ofNat 2 k)).toNat) ++ le 4 (c.cx cFSTAT).toNat
        ++ le 4 (c.gr ga).toNat
      t.troika.sigS = crc32c folded ∧ t.troika.sigVoted = crc32c folded ∧ (t.core .troika).pc = c.pc + 4 ∧
      WritesG .troika 0 0 0 c (t.core .troika) ∧ t.regs = s.regs ∧ t.mem = s.mem) ∧
    (∀ sel : BitVec 4, (sel.getLsbD 3 = true → s.remoteStores = false) →
      ∃ t, exec (.fence sel) s = .next t ∧ RetiresG .troika 0 0 0 s t) ∧
    (∀ sel : BitVec 4, sel.getLsbD 3 = true → s.remoteStores = true →
      ∃ t, exec (.fence sel) s = .next t ∧ t.troika.wait = .fenceC ∧ (t.core .troika).pc = c.pc)

/-! ### Registers and the Lantern indirect pair (R27, R30 to R45) -/

/-- An accepted write of SYS_SCRATCH or of a temperature, self-test or PMU register leaves every field of it as its type says,
through every alias, and no other register changes (R27, R30, R32, R33); a reserved offset ignores the write. Beside the
register, only the windows of sensed legs follow their conditions, and a harness controller that is enabled notes its start. -/
def Obligations.RegisterWriteTypes : Prop :=
  ∀ (v : View) (off : BitVec 21) (data : Word) (s : State) (o : Nat),
    foldOff off.toNat = some o → (o = SYS_SCRATCH ∨ 29 ≤ o / 0x10000) → s.awake = true →
    match regAt o with
    | none => ∃ t, exec (.registerWrite v off data noUpdate) s = .next t ∧ t = { s with leg := t.leg, sdd := t.sdd }
    | some (c, _) => accepted v o data s = true → (∀ f ∈ c.fields, f.ty ≠ .sq) →
        ∃ t, exec (.registerWrite v off data noUpdate) s = .next t ∧ t = { s with regs := t.regs, leg := t.leg, sdd := t.sdd, harnessAt := t.harnessAt } ∧
          ∀ x, t.rd x = if x = o then writtenWord v o data s else s.rd x

/-- A write that meets a hardware update or an increment, on GCH_TRIM and EVT_CNT (R32, R33): the RH field keeps hardware's
value and the write is reported as lost, the other field is written; an RC field takes the written value plus the increment,
saturating. -/
def Rules.CoincidentUpdate : Prop :=
  ∀ (v : View) (s : State) (data m x : Word), s.awake = true →
    (∀ c : Fin 256, (m &&& 0x7F ≠ 0) → (m &&& 0x7F00 = 0) →
      ∃ t, exec (.registerWrite v (BitVec.ofNat 21 (GCH_TRIM c)) data { rhMask := m, rhVal := x }) s = .next t ∧
        t.fld (GCH_TRIM c) GCH_TRIM_TRIM_ON = GCH_TRIM_TRIM_ON.get x ∧
        t.fld (GCH_TRIM c) GCH_TRIM_TRIM_OFF = GCH_TRIM_TRIM_OFF.get data ∧
        t.evPending WR_LOST = true ∧ t.flag SYS_WRLOST SYS_WRLOST_LOST = true) ∧
    (∃ t, exec (.registerWrite v (BitVec.ofNat 21 EVT_CNT) data { rcInc := x }) s = .next t ∧
      t.rd EVT_CNT = BitVec.ofNat 32 (min (data.toNat / 65536 + x.toNat / 65536) 65535 * 65536 +
        min (data.toNat % 65536 + x.toNat % 65536) 65535))

/-- A flag of MEM_STAT or EVT_PEND clears on a write of 1 with the SEQ that the register shows, and not otherwise; no other
register changes (R35). -/
def Rules.SequenceClears : Prop :=
  ∀ (v : View) (s : State) (data : Word) (o : Nat) (flags : Word),
    ((o = MEM_STAT ∧ flags = 0x00F00000 ∧ v = .coachman) ∨ (∃ n, n < 10 ∧ o = EVT_PEND n ∧ flags = 0x00FFFFFF)) →
    s.awake = true →
    ∃ t, exec (.registerWrite v (BitVec.ofNat 21 o) data noUpdate) s = .next t ∧
      t.rd o = (if data.toNat / 2 ^ 24 = (s.rd o).toNat / 2 ^ 24 then s.rd o &&& ~~~ (data &&& flags) else s.rd o) ∧
      ∀ x, x ≠ o → t.rd x = s.rd x

/-- Hardware updates that meet a write, and sequence clears (R32, R33, R35). -/
def Obligations.UpdatesAndClears : Prop := Rules.CoincidentUpdate ∧ Rules.SequenceClears

/-- A refused write changes nothing of its register and is reported with its cause, view and address: TRK_CFG through the
Passenger view (R27), a count of zero to CPL_TXTO (R34), a trigger of an Axle under its chock bit (R37). A chock bit is only
ever set. -/
def Obligations.RefusedWrites : Prop :=
  ∀ (s : State) (data : Word), s.awake = true → s.flag SYS_REFUSED SYS_REFUSED_REF = false →
    let refused := fun (v : View) (o cause ev : Nat) =>
      ∃ t, exec (.registerWrite v (BitVec.ofNat 21 o) data noUpdate) s = .next t ∧ t.rd o = s.rd o ∧
        t.evPending ev = true ∧ t.flag SYS_REFUSED SYS_REFUSED_REF = true ∧
        t.fld SYS_REFUSED SYS_REFUSED_CAUSE = cause ∧ t.fld SYS_REFUSED SYS_REFUSED_VIEW = viewBit v ∧
        t.fld SYS_REFUSED SYS_REFUSED_ADDR = o / 4
    refused .passenger TRK_CFG 2 PRIV_VIOL ∧
    (s.rd SYS_CHOCK = 0 → data.toNat % 65536 = 0 → refused .coachman CPL_TXTO 0 BAD_VALUE) ∧
    (∀ (v : View) (a : Fin 4) (m : Fin 8), (s.rd SYS_CHOCK).getLsbD (3 + a.val) = true →
      (data ^^^ s.rd (AXL_TRG a m)) &&& 0xC007FFFF ≠ 0 → refused v (AXL_TRG a m) 1 CHOCK_VIOL) ∧
    (∃ t, exec (.registerWrite .coachman (BitVec.ofNat 21 SYS_CHOCK) data noUpdate) s = .next t ∧
      t.rd SYS_CHOCK = s.rd SYS_CHOCK ||| (data &&& 0x7FFF))

/-- The LIX pair (R38 to R40): a write of LIX_ADDR starts a fetch, which puts the word into LIX_DATA, a mirror of the pending
bits among them, and zero with UNMAP for an address that holds none; a read of LIX_DATA leaves everything as it was, or
advances the address and fetches again where AINC is set; a write of it starts a transfer; both are reported as early during
BUSY. -/
def Rules.LixPair : Prop :=
  ∀ s : State, s.awake = true →
    (∀ data, s.lix = .idle → ∃ t, exec (.lixAddrWrite data) s = .next t ∧ t.rd LIX_ADDR = data &&& 0x1FFFF ∧
      t.lix = .fetch ∧ t.flag LIX_STAT LIX_STAT_BUSY = true ∧ t.lan = s.lan) ∧
    (s.lix = .fetch → ∃ t, exec .lixFetchDone s = .next t ∧ t.lix = .idle ∧ t.flag LIX_STAT LIX_STAT_BUSY = false ∧
      t.lan = s.lan ∧
      (∀ w, s.fld LIX_ADDR LIX_ADDR_WADDR = w →
        (w < 7 ∨ (0x1000 ≤ w ∧ w < 0x1800) ∨ (0x2000 ≤ w ∧ w < 0x2800) → t.rd LIX_DATA = s.lanW w) ∧
        (0x40 ≤ w → w ≤ 0x4A → t.rd LIX_DATA = s.rd (EVT_PEND (w - 0x40))) ∧
        (0x3100 ≤ w → t.rd LIX_DATA = 0 ∧ t.flag LIX_STAT LIX_STAT_UNMAP = true))) ∧
    (s.lix = .idle → s.fld LIX_ADDR LIX_ADDR_WADDR ≠ 7 → ∃ t, exec .lixDataRead s = .next t ∧ t.lan = s.lan ∧
      (s.flag LIX_ADDR LIX_ADDR_AINC = false → t = s) ∧
      (s.flag LIX_ADDR LIX_ADDR_AINC = true → t.lix = .fetch ∧
        t.fld LIX_ADDR LIX_ADDR_WADDR = (s.fld LIX_ADDR LIX_ADDR_WADDR + 1) % 65536)) ∧
    (∀ data, s.lix = .idle → ∃ t, exec (.lixDataWrite data) s = .next t ∧ t.rd LIX_DATA = data ∧ t.lan = s.lan ∧
      t.lix = .transfer (BitVec.ofNat 16 (s.fld LIX_ADDR LIX_ADDR_WADDR)) data LIX_DATA (s.flag LIX_ADDR LIX_ADDR_AINC) false) ∧
    (s.lix ≠ .idle → (∃ t, exec .lixDataRead s = .next t ∧ t.flag LIX_STAT LIX_STAT_EARLY = true ∧ t.lix = s.lix) ∧
      ∀ data, ∃ t, exec (.lixDataWrite data) s = .next t ∧ t.flag LIX_STAT LIX_STAT_EARLY = true ∧ t.lix = s.lix)

/-- The Waybill (R41, R42, R44, R45): an accepted transfer to a word of the program is read back at once, counts wear and is
programmed; one during programming is rejected, and one to a factory word is refused; the end of the last programming clears
WBPROG; the device's own write of its seat word begins once no programming is in progress. -/
def Rules.WaybillWrites : Prop :=
  ∀ s : State, s.awake = true → s.lan.entering = false →
    (∀ (w : Nat) (d : Word), w < 0x400 → s.lix = .transfer (BitVec.ofNat 16 (0x1000 + w)) d LIX_DATA false false →
      (0x200 ≤ w → s.lan.prog = [] → ∃ t, exec .lixTransferDone s = .next t ∧ t.lix = .idle ∧ t.wb w = d ∧
        t.lanW (0x1400 + w) = BitVec.ofNat 32 (min ((s.lanW (0x1400 + w)).toNat + (if s.hotWear then 5 else 1)) 0xFFFFFF) ∧
        t.flag LIX_STAT LIX_STAT_WBPROG = true ∧ t.lan.prog.length = 1) ∧
      (0x200 ≤ w → s.lan.prog ≠ [] → ∃ t, exec .lixTransferDone s = .next t ∧ t.lan = s.lan ∧
        t.flag LIX_STAT LIX_STAT_WBREJ = true) ∧
      (w < 0x40 → ∃ t, exec .lixTransferDone s = .next t ∧ t.lan = s.lan ∧ t.flag LIX_STAT LIX_STAT_DENY = true)) ∧
    (∀ p, s.lan.prog = [p] → s.cpl.seatWrite = none → ∃ t, exec .waybillProgrammingDone s = .next t ∧ t.lan.prog = [] ∧
      t.flag LIX_STAT LIX_STAT_WBPROG = false ∧ ∀ w, t.lanW w = s.lanW w) ∧
    (∀ v, s.lan.prog = [] → s.cpl.seatWrite = some v → ∃ t, exec .seatWordWrite s = .next t ∧
      t.wb (0x200 + s.fld CPL_CFG CPL_CFG_SEATW % 0x200) = v ∧ t.cpl.seatWrite = none ∧ t.lan.prog.length = 1)

/-- The LIX pair and the Waybill (R38 to R45). -/
def Obligations.IndirectPairAndWaybill : Prop := Rules.LixPair ∧ Rules.WaybillWrites
/-! ### The Lantern domain, power states and clocks (R264 to R280) -/

/-- The Lantern domain (R267, R268, R270 to R272): the image is written through the LIX pair while RUN is 0 and refused with DENY
while it is 1; a start resets the core to address 0x400 with its registers zero, a stop keeps them, and both are refused once a
Lantern request has been accepted; the mailbox sets and clears the request to the core and raises LAN_MBOX; SLEEP holds while no
interrupt is requested; the time counts, and the alarm shows; the crystal's flag follows. -/
def Obligations.LanternDomain : Prop :=
  ∀ s : State,
    (s.awake = true → s.lan.entering = false → ∀ d : Word,
      let w := s.lanF 6 IMGADDR_WORD
      (LAN_CTL_RUN.bit (s.lanW 0) = false → .lantern ∉ s.bringup.uncleared → ∃ t, exec (.lanImgdataWrite d) s = .next t ∧
        (∀ a, byteAt .lantern t a = if a / 4 = w then BitVec.ofNat 8 (d.toNat / 256 ^ (a % 4)) else byteAt .lantern s a) ∧
        t.lanF 6 IMGADDR_WORD = (w + 1) % 2 ^ 14) ∧
      (LAN_CTL_RUN.bit (s.lanW 0) = true → ∃ t, exec (.lanImgdataWrite d) s = .next t ∧ t.lan = s.lan ∧
        t.flag LIX_STAT LIX_STAT_DENY = true) ∧
      (LAN_CTL_RUN.bit (s.lanW 0) = false → ∃ t, exec .lanRun s = .next t ∧ LAN_CTL_RUN.bit (t.lanW 0) = true ∧
        (t.core .lantern).pc = 0x400 ∧ (∀ r, (t.core .lantern).gr r = 0) ∧ ∀ n, (t.core .lantern).cx n = 0) ∧
      (∃ t, exec .lanStop s = .next t ∧ LAN_CTL_RUN.bit (t.lanW 0) = false ∧ t.lan.core = s.lan.core ∧ t.regs = s.regs) ∧
      (∃ t, exec (.lanMbox (.lixSet d)) s = .next t ∧ t.lanW 0x200 = d ∧ t.lan.mbox = true)) ∧
    (s.awake = true → s.lan.entering = true → ∀ i, i = .lanRun ∨ i = .lanStop → ∃ t, exec i s = .next t ∧ t.lan = s.lan ∧
      t.flag LIX_STAT LIX_STAT_DENY = true) ∧
    (s.lanIssues = true → ∀ d : Word,
      (∃ t, exec (.lanMbox (.coreClear d)) s = .next t ∧ t.lanW 0x200 = d ∧ t.lan.mbox = false) ∧
      (∃ t, exec (.lanMbox (.coreRaise d)) s = .next t ∧ t.lanW 0x20F = d ∧
        (s.awake = true → t.evPending LAN_MBOX = true)) ∧
      (∃ t, exec .lanSleep s = .next t ∧ LAN_CTL_SLEEP.bit (t.lanW 0) = !s.lanternIrq ∧ t.regs = s.regs)) ∧
    (s.lanternUp = true →
      (∃ t, exec .lanTimeIncrement s = .next t ∧ t.lanW 3 = s.lanW 3 + 1 ∧
        (LAN_CTL_AEN.bit (s.lanW 0) = true → s.lanW 4 = s.lanW 3 + 1 → LAN_WSTAT_ALARM.bit (t.lanW 2) = true)) ∧
      ∀ q, (q = true → LAN_CLK_X32EN.bit (s.lanW 5) = true) → ∃ t, exec (.x32ok q) s = .next t ∧
        LAN_CLK_X32OK.bit (t.lanW 5) = q ∧ t.regs = s.regs)

/-- Stand, Drive, the Lantern state and Off (R264 to R269, R274): what each power command leaves of the power state and of the
registers named. A request for Stand in Drive leaves STATE 2 and every leg in SAFE; one for Drive leaves STATE 3 in Full service
where none of R266's conditions fails, and WHY 8 with BAD_VALUE without Full service; an accepted Lantern request drops both
brake outputs. At LANTERN_REACHED every gate pin is low and a wake held since the request starts a cold reset. An enabled wake
pin in the Lantern state sets its flag and starts a cold reset of cause WAKE; a power-up starts one too, with the reference that
LAN_CLK.XSRC names; a loss of supply leaves Off, with the words from 0x1000 up kept and the others at their defaults. -/
def Obligations.PowerStates : Prop :=
  ∀ s : State,
    (s.awake = true → s.power = .drive → ∃ t, exec (.reqStand .coachman) s = .next t ∧ t.power = .stand ∧
      t.fld SYS_STATE SYS_STATE_STATE = 2 ∧ ∀ l, l < 32 → t.legSafe l ≠ 0) ∧
    (s.awake = true → s.full = true → s.power = .stand → s.driveWhy = none →
      ∃ t, exec (.reqDrive .coachman) s = .next t ∧ t.power = .drive ∧ t.fld SYS_STATE SYS_STATE_STATE = 3) ∧
    (s.awake = true → s.full = false → ∃ t, exec (.reqDrive .coachman) s = .next t ∧ t.power = s.power ∧
      t.fld SYS_STATE SYS_STATE_WHY = 8 ∧ t.evPending BAD_VALUE = true) ∧
    (s.awake = true → s.power = .stand → (∀ a, a < 4 → s.running a = false) → s.flag PROT_DIS PROT_DIS_START = false →
      LAN_CTL_AEN.bit (s.lanW 0) = true → ∃ t, exec (.reqLantern .coachman) s = .next t ∧ t.lan.entering = true ∧
        t.brake.outA = false ∧ t.brake.outB = false) ∧
    (s.power = .stand → s.lan.entering = true → s.lan.prog = [] → ∃ t, exec .lanternReached s = .next t ∧
      t.lan.entering = false ∧ t.troika.released = false ∧ (∀ c, c < 256 → t.gdo c = false) ∧
      (s.lan.wakeHeld = false → t.power = .lantern) ∧
      (s.lan.wakeHeld = true → t.power = .stand ∧ t.bringup.active = some .cold)) ∧
    (∀ k : Fin 4, s.power = .lantern → (s.lanW 1).getLsbD (8 * k.val + 7) = true → ∃ t, exec (.wake (.pin k)) s = .next t ∧
      (LAN_WSTAT_PIN k).bit (t.lanW 2) = true ∧ t.power = .stand ∧ t.bringup.active = some .cold ∧
      t.bringup.causes = SYS_RSTCAUSE_WAKE.mask) ∧
    (s.power = .off → ∃ t, exec .powerUp s = .next t ∧ t.power = .stand ∧ t.bringup.active = some .cold ∧
      (∀ x, x ≠ SYS_CLK → t.rd x = s.rd x) ∧ t.flag SYS_CLK SYS_CLK_XSRC = LAN_CLK_XSRC.bit (s.lanW 5) ∧
      t.lan = s.lan) ∧
    (s.power ≠ .off → s.lan.prog = [] → s.lan.bb = [] → ∃ t, exec .supplyLoss s = .next t ∧ t.power = .off ∧
      ∀ w, t.lanW w = if 0x1000 ≤ w then s.lanW w else lanDefault w)

/-- Supplies and their loss (R275, R277, R284, R383): with no reset in effect each command sets its flag and its event is
pending; PFAIL leaves every leg in SAFE, VCORE or VIO outside its range takes Drive to Stand, and outside its reset window it
starts a cold reset, also where a warm one is in effect. A Harness rail low is noted once its controller's first millisecond is
over, and not before. A supply that is good again ends PFAIL's hold. The loss of the fast domain's power leaves the Lantern
state, or the cold reset of a held wake; a buffered capture becomes the next record of the ring. -/
def Obligations.SupplyEvents : Prop :=
  ∀ s : State,
    (s.awake = true →
      (∃ t, exec .pfail s = .next t ∧ LAN_WSTAT_PFAIL.bit (t.lanW 2) = true ∧ t.evPending (evMem 12) = true ∧
        ∀ l, l < 32 → t.legSafe l ≠ 0) ∧
      (∃ t, exec .batlow s = .next t ∧ t.flag PMU_SUP PMU_SUP_VBATOK = false ∧
        (s.flag PMU_SUP PMU_SUP_VBKOK = true → t.flag PMU_SUP PMU_SUP_BATLOW = true ∧ t.evPending (evMem 12) = true)) ∧
      (∃ t, exec .bklow s = .next t ∧ t.flag PMU_SUP PMU_SUP_VBKOK = false ∧
        (s.flag PMU_SUP PMU_SUP_VBKOK = true → s.flag PMU_SUP PMU_SUP_VBATOK = true →
          t.flag PMU_SUP PMU_SUP_BKLOW = true ∧ t.evPending (evMem 12) = true)) ∧
      (∀ r, ∃ t, exec (.pmuReg r false) s = .next t ∧ t.evPending (evMem 11) = true ∧
        (t.rd PMU_REGSTAT).getLsbD (20 + railBit r) = true ∧
        ((r = .vcore ∨ r = .vio) → s.power = .drive → t.power = .stand)) ∧
      ∀ (h : Fin 36) (at_ : Nat), s.harnessOn h = true →
        ∃ t, exec (.pmuHuv h at_) s = .next t ∧
          if mget (fun _ => 0) s.harnessAt h + msTaps ≤ max s.now at_ then
            t.flag (PMU_HSV h) PMU_HSV_UV = true ∧ (t.rd (PMU_HUV (h.val / 24))).getLsbD (h.val % 24) = true ∧
              t.evPending (evMem 10) = true
          else t.regs = s.regs) ∧
    ((s.power = .stand ∨ s.power = .drive) →
      (∀ r w, ∃ t, exec (.pmuReg r w) s = .next t ∧ (t.fld PMU_REGSTAT PMU_REGSTAT_LIVE).testBit (railBit r) = true ∧
        (w = true → (r = .vcore ∨ r = .vio) → t.bringup.active = some .cold ∧ t.power = .stand ∧
          t.bringup.causes &&& SYS_RSTCAUSE_REGRST.mask ≠ 0)) ∧
      (∃ t, exec (.supplyGood .vbat) s = .next t ∧ t.flag PMU_SUP PMU_SUP_VBATOK = true ∧
        ∀ l, l < 32 → ¬ (t.lg l).causes.contains .pfail) ∧
      (∃ t, exec (.supplyGood .vbk) s = .next t ∧ t.flag PMU_SUP PMU_SUP_VBKOK = true ∧
        ∀ l, l < 32 → ¬ (t.lg l).causes.contains .pfail) ∧
      (∀ r, ∃ t, exec (.supplyGood (.rail r)) s = .next t ∧ ∀ k, k < 4 →
        (t.fld PMU_REGSTAT PMU_REGSTAT_LIVE).testBit k =
          (decide (k ≠ railBit r) && (s.fld PMU_REGSTAT PMU_REGSTAT_LIVE).testBit k)) ∧
      ∃ t, exec .fastDomainOff s = .next t ∧ t.troika.released = false ∧ t.brake.outA = false ∧ t.brake.outB = false ∧
        (s.lan.wakeHeld = false → t.power = .lantern) ∧
        (s.lan.wakeHeld = true → t.power = .stand ∧ t.bringup.active = some .cold)) ∧
    (∀ c rest, s.lan.bb = c :: rest → c.regs.length = 13 → ∃ t, exec .blackBoxRecordDone s = .next t ∧ t.lan.bb = rest ∧
      t.lanF 0x3000 bbCount = (s.lanF 0x3000 bbCount + 1) % 65536 ∧
      ∃ r, r < 15 ∧ t.lanF 0x3001 bbIndex = r ∧ t.lanW (0x3010 + 16 * r) = c.time ∧
        (s.lanF 0x3000 bbCount ≠ 0 → r = (s.lanF 0x3001 bbIndex + 1) % 15) ∧
        ∀ k, k < 13 → t.lanW (0x3012 + 16 * r + k) = c.regs.getD k 0)

/-- The clocks (R108, R279, R280), each command in a fast domain that runs with no reset in effect: the reference and its
loss, the locks of the PLLs, the loss of PLL-S with every Coupler port, and the loss of PLL-T, after which no Axle counts on it:
one that ran or had RUN = 1 stands with RUN 0, every leg of it in SAFE, and with CLKLOSS and its event where RUN was 1. A loss
of PLL-C or PLL-P, and a holdover of 1 ms, start a warm reset of cause CLKRST. -/
def Obligations.Clocks : Prop :=
  ∀ s : State, s.awake = true →
    (∃ t, exec .crystalValid s = .next t ∧ t.flag SYS_CLK SYS_CLK_XOK = true ∧ t.flag SYS_CLK SYS_CLK_HOLDOVER = false) ∧
    (s.flag SYS_CLK SYS_CLK_XOK = true →
      (∃ t, exec .referenceLoss s = .next t ∧ t.flag SYS_CLK SYS_CLK_XOK = false ∧ t.flag SYS_CLK SYS_CLK_HOLDOVER = true) ∧
      (∃ t, exec .pllLock s = .next t ∧ t.flag SYS_CLK SYS_CLK_TLOCK = true ∧ t.flag SYS_CLK SYS_CLK_CLOCK = true ∧
        t.flag SYS_CLK SYS_CLK_PLOCK = true) ∧
      (s.flag SYS_CLK SYS_CLK_SEN = true → ∃ t, exec .pllSLock s = .next t ∧ t.flag SYS_CLK SYS_CLK_SLOCK = true)) ∧
    (s.flag SYS_CLK SYS_CLK_SLOCK = true → ∃ t, exec .pllSLoss s = .next t ∧ t.flag SYS_CLK SYS_CLK_SLOCK = false ∧
      ∀ p, p < 4 → t.portUp p = false) ∧
    (s.flag SYS_CLK SYS_CLK_TLOCK = true → ∃ t, exec .pllTLoss s = .next t ∧ t.flag SYS_CLK SYS_CLK_TLOCK = false ∧
      ∀ a, a < 4 → (s.flag (AXL_CTRL a) AXL_CTRL_RUN = true ∨ s.running a = true) → (s.ax a).onDray = false →
        t.flag (AXL_CTRL a) AXL_CTRL_RUN = false ∧ t.running a = false ∧ (∀ l, l ∈ s.legsOf a → t.legSafe l ≠ 0) ∧
        (s.flag (AXL_CTRL a) AXL_CTRL_RUN = true → t.flag (AXL_STAT a) AXL_STAT_CLKLOSS = true ∧ t.evPending (evSup a 14) = true)) ∧
    (∀ c, (c = .pllCLoss ∧ s.flag SYS_CLK SYS_CLK_CLOCK = true) ∨ (c = .pllPLoss ∧ s.flag SYS_CLK SYS_CLK_PLOCK = true) ∨
        (c = .holdoverExpiry ∧ s.flag SYS_CLK SYS_CLK_HOLDOVER = true) →
      ∃ t, exec c s = .next t ∧ t.bringup.active = some .warm ∧ t.bringup.causes = SYS_RSTCAUSE_CLKRST.mask ∧
        t.power = .stand)

/-! ### Reset and bring-up (R283 to R294) -/

/-- The two kinds of reset (R283, R284, R286): a pin or a request puts the fast domain into reset with its cause, in Stand. A
cold reset gives every register its reset value but the cause register, SYS_CLK, whose XSRC stays, and those that show a level
from outside; a warm one clears the scratch register and keeps CPL_ADDR.HEAD, and where it puts no leg into the keeper it leaves
the Lantern domain, MEM_SPARE and the protection block's registers as they were. -/
def Obligations.ResetKinds : Prop :=
  ∀ s : State, s.awake = true → mwf regDefault s.regs = true →
    let warm := fun (t : State) => t.bringup.active = some .warm ∧ t.power = .stand ∧ t.troika.released = false ∧
      t.rd SYS_SCRATCH = 0 ∧ t.flag CPL_ADDR CPL_ADDR_HEAD = s.flag CPL_ADDR CPL_ADDR_HEAD ∧
      (s.keptLegs = [] →
        t.lan = s.lan ∧ t.rd MEM_SPARE = s.rd MEM_SPARE ∧ ∀ x, x / 0x10000 = 23 → t.rd x = s.rd x)
    let cold := fun (t : State) => t.bringup.active = some .cold ∧ t.power = .stand ∧ t.troika.released = false ∧
      t.lan = s.lan ∧ t.flag SYS_CLK SYS_CLK_XSRC = s.flag SYS_CLK SYS_CLK_XSRC ∧
      ∀ x, x ≠ SYS_RSTCAUSE → x ≠ SYS_CLK → x ≠ PMU_SUP → x ≠ PMU_REGSTAT → x ≠ SAFE_BRKSTAT → t.rd x = regDefault x
    (∃ t, exec .wrstN s = .next t ∧ warm t ∧ t.bringup.causes = SYS_RSTCAUSE_WRST.mask) ∧
    (∃ t, exec .porstN s = .next t ∧ cold t ∧ t.bringup.causes = SYS_RSTCAUSE_PORST.mask) ∧
    (∃ t, exec (.softwareWarmReset .coachman) s = .next t ∧ warm t ∧ t.bringup.causes = SYS_RSTCAUSE_SWWARM.mask) ∧
    (∃ t, exec (.softwareColdReset .coachman) s = .next t ∧ cold t ∧ t.bringup.causes = SYS_RSTCAUSE_SWCOLD.mask)

/-- The release and the bring-up (R47, R252, R255, R288 to R291, R294): the release of a reset leaves the head pin as sampled
by a cold reset, the kind and causes in SYS_RSTCAUSE, and every leg in SAFE; a memory whose clearing ends reads zero and nothing
else changes; Dray service starts the Axles of R289; a core test with at most one failing core takes the path test's findings
with it, and one with more refuses the release; a memory test without a finding leaves the cleared memories zero; the boot check
picks the valid slot of higher version; the Troika is released at its entry, whose two low bits the pc does not hold, with its
general and control registers zero, in Full service. -/
def Obligations.BringUp : Prop :=
  ∀ s : State,
    (∀ (kind : ResetKind) (headLow : Bool), s.bringup.active = some kind → s.power = .stand →
      ∃ t, exec (.resetRelease headLow) s = .next t ∧ t.awake = true ∧
        t.flag CPL_ADDR CPL_ADDR_HEAD = (match kind with | .cold => headLow | .warm => s.flag CPL_ADDR CPL_ADDR_HEAD) ∧
        t.fld SYS_RSTCAUSE SYS_RSTCAUSE_LAST = (match kind with | .cold => 1 | .warm => 2) ∧
        (t.rd SYS_RSTCAUSE &&& 0x00FE0000 =
          (s.bringup.causes ||| (match kind with | .cold => 0 | .warm => s.rd SYS_RSTCAUSE)) &&& 0x00FE0000) ∧
        ∀ l, l < 32 → t.legSafe l ≠ 0) ∧
    (∀ m, m ∈ s.bringup.uncleared → m ≠ .lantern → s.awake = true → ∃ t, exec (.memoryClearDone m) s = .next t ∧
      m ∉ t.bringup.uncleared ∧ t.regs = s.regs ∧
      (∀ a, inClearMem m a = true → t.byte a = 0) ∧ ∀ a, inClearMem m a = false → t.byte a = s.byte a) ∧
    (.lantern ∈ s.bringup.uncleared → s.lanternUp = true → ∃ t, exec (.memoryClearDone .lantern) s = .next t ∧
      .lantern ∉ t.bringup.uncleared ∧ t.regs = s.regs ∧ ∀ a, byteAt .lantern t a = 0) ∧
    (s.awake = true → s.bringup.drayAvail = false → ∃ t, exec .drayServiceAvailable s = .next t ∧
      t.bringup.drayAvail = true ∧
      ∀ a, a < 4 → s.drayStarts a = true → t.running a = true ∧ t.flag (AXL_CTRL a) AXL_CTRL_RUN = true) ∧
    (s.testing = true → s.bringup.coreTested = false →
      (∃ t, exec (.coreTestDone 0 0) s = .next t ∧ t.bringup.coreTested = true ∧ t.bringup.refused = s.bringup.refused) ∧
      (∀ k : Fin 3, ∃ t, exec (.coreTestDone (1 <<< k.val) 0) s = .next t ∧ t.bringup.refused = s.bringup.refused ∧
        t.flag TRK_STAT TRK_STAT_BISTF = true ∧ (t.fld TRK_STAT TRK_STAT_PERM).testBit k = true) ∧
      (∀ cores steps, steps ≠ 0 → cores = 0 ∨ cores = 1 ∨ cores = 2 ∨ cores = 4 →
        ∃ t, exec (.coreTestDone cores steps) s = .next t ∧ t.bringup.coreTested = true ∧ t.bringup.refused = true ∧
          t.flag TRK_STAT TRK_STAT_INJF = true ∧ t.fld TRK_INJ TRK_INJ_FAIL = steps.toNat) ∧
      (∀ cores steps, cores = 3 ∨ cores = 5 ∨ cores = 6 ∨ cores = 7 →
        ∃ t, exec (.coreTestDone cores steps) s = .next t ∧ t.bringup.coreTested = true ∧ t.bringup.refused = true ∧
          t.rd TRK_INJ = s.rd TRK_INJ)) ∧
    (s.testing = true → s.bringup.cold = true → s.bringup.memTested = false →
      ∃ t, exec (.memoryTestDone 0 false false) s = .next t ∧ t.bringup.memTested = true ∧
        t.bringup.refused = s.bringup.refused ∧ ∀ a, t.byte a =
          if inClearMem .mainSram a || inClearMem .tandem a || inClearMem .table a then 0 else s.byte a) ∧
    (s.testing = true → s.bringup.booted = false → ∃ t, exec .bootCheckDone s = .next t ∧ t.bringup.booted = true ∧
      let version := fun (base : Nat) => (s.word32 (base + 4)).toNat
      let chosen := if s.slotOk 0 && !(s.slotOk 0x800000 && decide (version 0 < version 0x800000)) then some 0
        else if s.slotOk 0x800000 then some 1 else none
      match chosen with
      | some k => t.bringup.entry = BitVec.ofNat 32 (k * 0x800000) + s.word32 (k * 0x800000 + 12) ∧
          t.fld MEM_NVSTAT MEM_NVSTAT_SLOT = k ∧ t.bringup.refused = s.bringup.refused
      | none => t.bringup.refused = true ∧ t.flag MEM_NVSTAT MEM_NVSTAT_BOOTF = true) ∧
    (s.releasable288 = true → ∃ t, exec .troikaRelease s = .next t ∧ t.troika.released = true ∧ t.full = true ∧
      (t.core .troika).pc = s.bringup.entry &&& 0xFFFFFFFC ∧ (∀ r, (t.core .troika).gr r = 0) ∧ ∀ n, (t.core .troika).cx n = 0)
/-! ### Axle timebases (R17, R92 to R109) -/

/-- Turning points of a counter that moves (R92, R94, R99, R103, R107): the valley that ends a down half or a ramp puts the
counter at 0, advances the carrier number, has its event pending and no compare or trigger fired, takes over a scheduled period
whose number has come, and goes on running unless a stop is pending, which leaves it stopped with every leg of the Axle in SAFE.
The peak of an up half in an up-down mode leaves the counter at its turning value with DIR down and the carrier number as it was;
in mode 0b10 its event is pending. -/
def Obligations.TurningPoints : Prop :=
  ∀ (s : State) (a : Fin 4), s.counts a = true →
    (s.dirDown a = true ∨ s.axlMode a = 0 → ∃ t, exec (.valley a) s = .next t ∧ t.rd (AXL_CARNUM a) = s.rd (AXL_CARNUM a) + 1 ∧ t.rd (AXL_CNT a) = 0 ∧
      t.evPending (evAxle a 0) = true ∧ (t.ax a).fired = [] ∧ (t.ax a).trgFired = [] ∧
      (s.flag (AXL_PRDSCH a) AXL_PRDSCH_ARM = true → s.rd (AXL_PRDAT a) = s.rd (AXL_CARNUM a) + 1 →
        t.period a = s.fld (AXL_PRDSCH a) AXL_PRDSCH_PERIOD ∧ t.flag (AXL_PRDSCH a) AXL_PRDSCH_ARM = false) ∧
      ((s.ax a).stopPending = false → t.running a = true) ∧
      ((s.ax a).stopPending = true → t.running a = false ∧ ∀ l, l < 32 → s.legAxle l = a → t.legSafe l ≠ 0)) ∧
    (s.axlMode a ≠ 0 → s.dirDown a = false → (s.ax a).latePeak = none → ∃ t, exec (.peak a) s = .next t ∧
      t.fld (AXL_CNT a) AXL_CNT_VALUE = s.turn a ∧ t.dirDown a = true ∧ (t.ax a).fired = [] ∧
      t.rd (AXL_CARNUM a) = s.rd (AXL_CARNUM a) ∧ (s.axlMode a = 2 → t.evPending (evAxle a 1) = true))

/-- Edges and triggers of the half in progress (R95, R97, R101, R156), for a counter that moves: the pending compare of a slot
that governs its position gives that position the raw command of its half, after which that compare has no edge to come; a due
trigger has its event pending and is no longer due. With a good sensing record, a nonzero WHALF and no SDF_AXW in charge, the Dray
window opens, and an open one closes with a publication due. -/
def Obligations.EdgesAndTriggers : Prop :=
  ∀ (s : State) (a : Fin 4), s.counts a = true →
    (∀ (k : Fin 16) (p t phase : Nat) (down : Bool), s.governs a k = some p → s.nextEdge a k = some (down, phase) →
      ∃ u, exec (.compareEdge a k t) s = .next u ∧ (u.ps p).raw = !down ∧ u.hasFired a k down = true ∧
        (∀ n, u.nextEdge a k ≠ some (down, n)) ∧ (s.dirDown a = true → u.now = max s.now t)) ∧
    (∀ m : Fin 8, s.triggerDue a m = true → ∃ u, exec (.trigger a (.trg m)) s = .next u ∧
      u.evPending (evAxle a (2 + m.val)) = true ∧ u.triggerDue a m = false) ∧
    (s.records.sense = true → 0 < s.whalf → s.axwGoverns a = false →
      (∃ u, exec (.trigger a .drayOpen) s = .next u ∧ (u.ax a).winOpen = true) ∧
      ((s.ax a).winOpen = true → ∃ u, exec (.trigger a .drayClose) s = .next u ∧ (u.ax a).winOpen = false ∧
        (u.ax a).pubDue = true))

/-- Starts, stops and the commit watchdog (R17, R103 to R105, R189): an accepted RUN = 1 leaves a counter that stands waiting for
its start, and RUN = 0 leaves one that runs with a stop pending. A start that is ready leaves the counter running from 0 with the
valley event pending, at the tick and with the carrier number that its grid gives: 0 with no source, the source's number, or k
of the fabric's grid. An expired watchdog has its event pending and counts from 0; an Axle not yet under the fallback is then in
MODE 1 where it has a fallback, else in MODE 2. -/
def Rules.StartStop : Prop :=
  ∀ (s : State) (a : Fin 4),
    (accepted .coachman (AXL_CTRL a) (withField s (AXL_CTRL a) AXL_CTRL_RUN 1) s = true →
      ∃ t, exec (.runStart .coachman a) s = .next t ∧ t.flag (AXL_CTRL a) AXL_CTRL_RUN = true ∧
        t.running a = s.running a ∧ (s.running a = false → (t.ax a).startPending = true)) ∧
    (accepted .coachman (AXL_CTRL a) (withField s (AXL_CTRL a) AXL_CTRL_RUN 0) s = true →
      ∃ t, exec (.runStop .coachman a) s = .next t ∧ t.flag (AXL_CTRL a) AXL_CTRL_RUN = false ∧
        t.running a = s.running a ∧ (s.running a = true → (t.ax a).stopPending = true)) ∧
    (s.startReady a = true → ∃ t, exec (.axleStart a) s = .next t ∧ t.running a = true ∧
      (t.ax a).startPending = false ∧ t.rd (AXL_CNT a) = 0 ∧ t.evPending (evAxle a 0) = true ∧
      t.now = max s.now ((s.startInstant a).1 / 32 * 32) ∧
      t.rd (AXL_CARNUM a) = (let src := s.fld (AXL_SYNC a) AXL_SYNC_SRC
        if (s.ax a).onDray = true ∨ src = 0 then 0
        else if src ≤ 4 then s.rd (AXL_CARNUM (src - 1)) + (if s.valleyDue (src - 1) then 1 else 0)
        else (s.startInstant a).2)) ∧
    (s.awake = true → s.wdCounts a = true → 0 < (s.ax a).wd → s.fld (AXL_WDOG a) AXL_WDOG_COUNT ≤ (s.ax a).wd →
      ∃ t, exec (.commitTimeout a) s = .next t ∧ t.evPending (evAxle a 12) = true ∧ (t.ax a).wd = 0 ∧
        (s.hysMode a = 0 → t.hysMode a = if s.hasFallback a then 1 else 2))

/-- Writes against the running counter (R97 to R100, R107): a compare write leaves every compare but its own as it was; on an up
half in mode 0b10, before its turning point, a value behind the counter has fired, with LATE and its event. An accepted PERIOD
that no scheduled change meets is in force, with PRDLATE and its event where an up half has reached it already; one that a
scheduled change meets gives way to it, with SYS_WRLOST's capture. An accepted ARM stays only where its carrier number is still to
come; otherwise the event is pending. -/
def Rules.TimebaseWrites : Prop :=
  ∀ (s : State) (v : View) (a : Fin 4), s.awake = true →
    (∀ (k : Fin 16) (down : Bool) (c : Word) (n : Nat),
      ∃ t, exec (.compareWrite v a k down c n) s = .next t ∧
        (∀ j d, j < 16 → t.rd (if d then AXL_CMPD a j else AXL_CMPU a j) =
          if j = k.val ∧ d = down then c else s.rd (if d then AXL_CMPD a j else AXL_CMPU a j)) ∧
        (s.running a = true → s.axlMode a = 2 → s.dirDown a = false → down = false → (∃ p, s.governs a k = some p) →
          s.hasFired a k false = false → (s.ax a).onDray = false → n < s.halfTop a → c.toNat < 32 * n →
          c.toNat ≤ 32 * s.period a →
          t.hasFired a k false = true ∧ t.flag (AXL_STAT a) AXL_STAT_LATE = true ∧ t.evPending (evAxle a 13) = true)) ∧
    (∀ (period : Word) (n : Nat), accepted v (AXL_PRD a) period s = true →
      ∃ t, exec (.periodWrite v a period n) s = .next t ∧
        match s.schedMeets a n with
        | none => t.period a = period.toNat % 2 ^ 19 ∧
            (s.running a = true → s.dirDown a = false → n < (s.ax a).latePeak.getD (s.turn a) → period.toNat % 2 ^ 19 ≤ n →
              t.flag (AXL_STAT a) AXL_STAT_PRDLATE = true ∧ t.evPending (evAxle a 14) = true)
        | some q => periodOk (s.axlMode a) q = true → t.period a = q % 2 ^ 19 ∧ t.evPending WR_LOST = true) ∧
    (∀ period : BitVec 19, accepted v (AXL_PRDSCH a) (BitVec.ofNat 32 (2 ^ 31 + period.toNat)) s = true →
      let ahead := (s.rd (AXL_PRDAT a) - s.rd (AXL_CARNUM a)).toNat
      ∃ t, exec (.prdschArm v a period) s = .next t ∧ t.fld (AXL_PRDSCH a) AXL_PRDSCH_PERIOD = period.toNat ∧
        t.flag (AXL_PRDSCH a) AXL_PRDSCH_ARM = (decide (0 < ahead) && decide (ahead < 2 ^ 31)) ∧
        (ahead = 0 ∨ 2 ^ 31 ≤ ahead → t.evPending (evAxle a 14) = true))

/-- Starts and stops (`Rules.StartStop`) and writes against the running counter (`Rules.TimebaseWrites`) (R17, R97 to R105, R107). -/
def Obligations.StartStopAndTimebase : Prop := Rules.StartStop ∧ Rules.TimebaseWrites

/-! ### Gate channels, positions and legs (R111 to R134) -/

/-- Acknowledgements (R111, R118, R121, R126), with no reset in effect: an unmapped channel only keeps the level of its pin, a
mapped one shows an accepted change of it. An acknowledgement of the channel's own edge within its limits, outside Dray service,
leaves its delay; a fall of a live channel in a position that has shown on sets ACKDROP. ACKTO past an own rise sets ACKMISS, and
excludes the channel where EXCLEN and MINLIVE allow it, else sets ACKFLT; past an own fall, or past that of the position of an
excluded channel that was high, it sets STUCK. Each of these flags has its event pending. -/
def Rules.Acknowledgements : Prop :=
  ∀ (s : State) (c : Fin 256), s.awake = true →
    let p := s.chanPos c
    (∀ (level : Bool) (t : Nat),
      (s.chanEn c = false → ∃ u, exec (.gakTransition c level t) s = .next u ∧ (u.ch c).pin = level ∧
        u.regs = s.regs) ∧
      (s.chanEn c = true → s.gak c = !level → ∃ u, exec (.gakTransition c level t) s = .next u ∧
        (u.ch c).pin = level ∧ u.gak c = level ∧
        (∀ e, (s.ch c).edge = some (level, e) → s.legOnDray (p / 2) = false → e ≤ t → t - e ≤ 128000 →
          t - e ≤ 32 * s.fld (LEG_TIM (p / 2)) LEG_TIM_ACKTO →
          u.fld (if level then GCH_DON c else GCH_DOFF c) GCH_DON_DELAY = t - e) ∧
        (level = false → s.flag (GCH_STAT c) GCH_STAT_EXCLD = false → s.posState p = pON → (s.ps p).shownOn = true →
          u.flag (GCH_STAT c) GCH_STAT_ACKDROP = true ∧ u.evPending (evGate 3) = true))) ∧
    (s.chanEn c = true →
      (∀ e, (s.ch c).edge = some (true, e) → s.gak c = false → s.flag (GCH_STAT c) GCH_STAT_EXCLD = false →
        ∃ u, exec (.ackTimeout c true) s = .next u ∧ u.flag (GCH_STAT c) GCH_STAT_ACKMISS = true ∧
          u.evPending (evGate 1) = true ∧
          if GCH_CFG_EXCLEN.bit (s.inForce (GCH_CFG c)) = true ∧ s.fld (POS_CFG p) POS_CFG_MINLIVE ≤ s.liveWithout p c then
            u.flag (GCH_STAT c) GCH_STAT_EXCLD = true ∧ u.gdo c = false ∧ u.evPending (evGate 5) = true
          else u.flag (POS_STAT p) POS_STAT_ACKFLT = true) ∧
      ((∃ e, (s.ch c).edge = some (false, e)) ∨ ((s.ch c).edge = none ∧ (s.ch c).watch = true) → s.gak c = true →
        ∃ u, exec (.ackTimeout c false) s = .next u ∧ u.flag (GCH_STAT c) GCH_STAT_STUCK = true ∧
          u.evPending (evGate 2) = true))

/-- Interlock (R117, R119, R122 to R124): where the partner is off and shown off and its dead time has passed, RELEASE leaves the
position ON with every live channel's output high and every other output as it was; before that it changes no register. On the
async path of SAFE the position that the code turns on comes on only where the opposite one shows off: then its live channels'
outputs are high, else no register changes and the elapsed dead time is kept. A held closing edge that is due gives its command. -/
def Obligations.InterlockedRelease : Prop :=
  ∀ s : State,
    (∀ (p : Fin 64) (t : Nat),
      (s.posState p = pARM → s.posState (partner p) = pOFF → (s.ps (partner p)).fallAt + 32 * (s.ps p).dtInForce ≤ t →
        (s.ps (partner p)).shownOffAt ≤ t →
        ∃ u, exec (.release p t) s = .next u ∧ u.posState p = pON ∧ (∀ c, c ∈ s.liveChans p → u.gdo c = true) ∧
          ∀ c, c < 256 → c ∉ s.liveChans p → u.gdo c = s.gdo c) ∧
      (s.posState p ≠ pARM ∨ s.posState (partner p) ≠ pOFF ∨ t < (s.ps (partner p)).fallAt + 32 * (s.ps p).dtInForce ∨
        t < (s.ps (partner p)).shownOffAt → ∃ u, exec (.release p t) s = .next u ∧ u.regs = s.regs)) ∧
    (∀ (l : Fin 32) (on off : Nat),
      (s.legSafe l = cASCL ∧ on = 2 * l.val + 1 ∧ off = 2 * l.val) ∨
        (s.legSafe l = cASCH ∧ on = 2 * l.val ∧ off = 2 * l.val + 1) → (s.ps on).asyncOn = false →
      (s.showsOff off = true → s.used on = true → s.ascAllowed l = true →
        ∃ u, exec (.asyncDeadTimeExpiry l) s = .next u ∧ (u.ps on).asyncOn = true ∧
          ∀ c, c ∈ s.liveChans on → u.gdo c = true) ∧
      (s.showsOff off = false → ∃ u, exec (.asyncDeadTimeExpiry l) s = .next u ∧ u.regs = s.regs ∧
        (u.ps off).sdtDone = true)) ∧
    (∀ (p : Fin 64) (t e : Nat) (v : Bool) (rest : List (Nat × Bool)), (s.ps p).edges = (e, v) :: rest → e ≤ t →
      ∃ u, exec (.heldClosingEdge p t) s = .next u ∧ (u.ps p).edges = rest ∧ (u.ps p).cmd3 = v)

/-- Calibration, bootstrap refresh, readmission and re-arm (R121, R125, R126, R131), with no reset in effect: in Full service a
calibrated delay line comes into use where no edge of the channel is in flight, and a failed calibration sets CALFAIL, the third
in a row COARSE and its event. A refresh forces high off and low on with its flag and event; it ends with both forces released
once the low position is ON and shows on. An accepted READMIT stays for the update point; an accepted REARM clears the VALID bits. -/
def Rules.GateService : Prop :=
  ∀ s : State, s.awake = true →
    (s.full = true → ∀ c : Fin 256,
      (s.inFlight c = false → ∃ t, exec (.delayLineSwap c true) s = .next t ∧ t.flag (GCH_STAT c) GCH_STAT_COARSE = false ∧
        (t.ch c).calFails = 0) ∧
      (s.inFlight c = true → exec (.delayLineSwap c true) s = .next s) ∧
      (∃ t, exec (.delayLineSwap c false) s = .next t ∧ t.flag (GCH_STAT c) GCH_STAT_CALFAIL = true ∧
        ((s.ch c).calFails = 2 → t.flag (GCH_STAT c) GCH_STAT_COARSE = true ∧ t.evPending (evGate 8) = true))) ∧
    (∀ l : Fin 32, s.flag (LEG_CFG l) LEG_CFG_BOOT = true → s.legSafe l = 0 → (s.lg l).refreshing = false →
      ∃ t, exec (.bootstrapRefresh l) s = .next t ∧ (t.lg l).refreshing = true ∧ (t.ps (2 * l.val)).cmd = false ∧
        (t.ps (2 * l.val + 1)).cmd = true ∧ t.flag (LEG_STAT l) LEG_STAT_BSREF = true ∧ t.evPending (evGate 12) = true) ∧
    (∀ l : Fin 32, (s.lg l).refreshing = true → s.posState (2 * l.val + 1) = pON → s.showsOn (2 * l.val + 1) = true →
      ∃ t, exec (.bootstrapRefreshEnd l) s = .next t ∧ (t.lg l).refreshing = false ∧
        (t.ps (2 * l.val)).bsForce = none ∧ (t.ps (2 * l.val + 1)).bsForce = none) ∧
    (∀ c : Fin 256, accepted .coachman (GCH_CTRL c) (withField s (GCH_CTRL c) GCH_CTRL_READMIT 1) s = true →
      ∃ t, exec (.readmit .coachman c) s = .next t ∧ t.flag (GCH_CTRL c) GCH_CTRL_READMIT = true) ∧
    (∀ c : Fin 256, accepted .coachman (GCH_CTRL c) (withField s (GCH_CTRL c) GCH_CTRL_REARM 1) s = true →
      ∃ t, exec (.gchRearm .coachman c) s = .next t ∧ t.flag (GCH_DONF c) GCH_DONF_VALID = false ∧
        t.flag (GCH_DOFFF c) GCH_DOFFF_VALID = false ∧ t.flag (GCH_TEMP c) GCH_TEMP_VALID = false ∧
        t.flag (GCH_CTRL c) GCH_CTRL_REARM = false)

/-- Gate channels (R111, R118, R121, R125, R126, R131): `Rules.Acknowledgements` and `Rules.GateService`. -/
def Obligations.GateChannels : Prop := Rules.Acknowledgements ∧ Rules.GateService
/-! ### Sensing (R135 to R156) -/

/-- Filter outputs (R137, R138, R140, R143, R147), with no reset in effect and an input that is sampled. Where the samples are as
many as the control filter takes, its output, the normalised value of `sincOutput`, is discarded while outputs remain to be
discarded after a re-arm; goes into the sum of every stretch in progress of a leg on the channel; or, with no stretch in progress,
is calibrated into SDF_CRES with its tag. An output of the protection filter is discarded likewise, or shows in PRES; above HI for
the QCNT-th time it sets PHI with its event. A suspect run ends every stretch of the channel's legs. -/
def Rules.FilterOutputs : Prop :=
  ∀ (s : State) (c : Fin 96) (samples : List Bool), s.awake = true → s.sampled c = true →
    (samples.length = s.controlTakes c →
      let d := s.fld (SDF_CFG c) SDF_CFG_DEC
      let out := (density 23 (d ^ 3) (sincOutput true samples (s.sd c).ctl).2).toInt
      ∃ t, exec (.controlFilterOutput c samples) s = .next t ∧
        (0 < (s.sd c).dropC → (t.sd c).dropC = (s.sd c).dropC - 1 ∧ t.regs = s.regs) ∧
        ((s.sd c).dropC = 0 → (∀ l, l ∈ s.legsOfCch c → (s.lg l).stretch = false) →
          t.sfld (SDF_CRES c) SDF_CRES_VALUE = s.calibrated c out ∧
          t.fld (SDF_CRES c) SDF_CRES_CTAG = (s.fld (SDF_CRES c) SDF_CRES_CTAG + 1) % 256) ∧
        ∀ l, l ∈ s.legsOfCch c → (s.sd c).dropC = 0 → (s.lg l).stretch = true → s.stretchOk l = true →
          (t.lg l).sum = (s.lg l).sum + out ∧ (t.lg l).nout = (s.lg l).nout + 1 ∧ t.regs = s.regs) ∧
    (let p := s.fld (SDF_CFG c) SDF_CFG_PDEC
     let out := (density 24 (p ^ 2) (sincOutput false samples (s.sd c).prot).2).toInt
     samples.length = p → ∃ t, exec (.protectionFilterOutput c samples) s = .next t ∧
        (0 < (s.sd c).dropP → (t.sd c).dropP = (s.sd c).dropP - 1 ∧ t.regs = s.regs) ∧
        ((s.sd c).dropP = 0 → t.pres c = out ∧
          (s.flag (SDF_PCTL c) SDF_PCTL_PEN = true → s.sfld (SDF_PCMP c) SDF_PCMP_HI < out → (s.sd c).hiHolds = false →
            s.fld (SDF_PCTL c) SDF_PCTL_QCNT ≤ min ((s.sd c).hi + 1) 8 →
            t.flag (SDF_STAT c) SDF_STAT_PHI = true ∧ t.evPending (evSense 9) = true ∧ (t.sd c).hiHolds = true))) ∧
    (∃ t, exec (.suspectRun c) s = .next t ∧ t.regs = s.regs ∧
      ∀ l, l ∈ s.legsOfCch c → (t.lg l).stretch = false ∧ (t.lg l).suspect = true)

/-- A stalled channel and its re-arm (R146, R147), with no reset in effect: the stall of a sampled input leaves STALL, FAULT, its
event, and the fault of every leg whose CCH is the channel; a lost clock leaves CKLOST with its event and stalls every input
sampled on it. An accepted re-arm clears the faults and leaves three outputs of each filter to be discarded; one without a recent
transition or without a clock is refused with BAD_VALUE where nothing is chocked. -/
def Rules.StallAndRearm : Prop :=
  ∀ (s : State) (c : Fin 96), s.awake = true →
    (s.sampled c = true → ∃ t, exec (.sdfStall c) s = .next t ∧ t.flag (SDF_STAT c) SDF_STAT_STALL = true ∧
      t.flag (SDF_STAT c) SDF_STAT_FAULT = true ∧ t.evPending (evSense 12) = true ∧
      ∀ l, l ∈ s.legsOnCch c → t.flag (SDF_LSTAT l) SDF_LSTAT_FAULT = true) ∧
    (s.flag (SDF_CFG c) SDF_CFG_EN = true → s.flag (SDF_CFG c) SDF_CFG_CLKRET = true →
      ∃ t, exec (.sdfCklost c) s = .next t ∧ t.flag (SDF_STAT c) SDF_STAT_CKLOST = true ∧ t.evPending (evSense 13) = true ∧
        ∀ d, d < 96 → s.sampled d = true → s.flag (SDF_CFG d) SDF_CFG_CKRET = true → s.fld (SDF_CFG d) SDF_CFG_CKIN = c →
          t.flag (SDF_STAT d) SDF_STAT_STALL = true ∧ (t.sd d).clk = false) ∧
    (let s' := s.updSd c (fun x => { x with recent := true, clk := true })
     accepted .coachman (SDF_PCTL c) (withField s (SDF_PCTL c) SDF_PCTL_REARM 1) s' = true →
      ∃ t, exec (.sdfRearm .coachman c true true) s = .next t ∧ t.flag (SDF_STAT c) SDF_STAT_FAULT = false ∧
        t.flag (SDF_PCTL c) SDF_PCTL_REARM = false ∧ (t.sd c).dropC = 3 ∧ (t.sd c).dropP = 3 ∧
        ∀ l, l ∈ s.legsOnCch c → t.flag (SDF_LSTAT l) SDF_LSTAT_FAULT = false) ∧
    (∀ r k, (r && k) = false → s.rd SYS_CHOCK = 0 →
      ∃ t, exec (.sdfRearm .coachman c r k) s = .next t ∧ t.rd (SDF_PCTL c) = s.rd (SDF_PCTL c) ∧
        t.evPending BAD_VALUE = true)

/-- The sigma-delta filters (`Rules.FilterOutputs`), their stalls and re-arm (`Rules.StallAndRearm`) (R137 to R147). -/
def Obligations.FiltersAndStalls : Prop := Rules.FilterOutputs ∧ Rules.StallAndRearm

/-- A publication that is due (R141 to R145), with no reset in effect: it is no longer due, its event is pending, the Axle's count
advances, and every enabled sensed leg holds that count modulo 64 and its result: the calibrated mean of the window's outputs
where it was measured; else, where all other legs of its set were, the negative sum of theirs, saturated; else the program's
prediction, or the HYS estimate. -/
def Obligations.PublicationResults : Prop :=
  ∀ (s : State) (a : Fin 4), s.awake = true → (s.ax a).pubDue = true →
    ∃ t, exec (.publication a) s = .next t ∧ (t.ax a).pubDue = false ∧ t.evPending (evAxle a 10) = true ∧
      (t.ax a).pubs = (s.ax a).pubs + 1 ∧
      ∀ l, l ∈ s.sensedLegs a →
        let won := (s.lg l).won
        let mates := s.setMates a l
        t.fld (SDF_LRES l) SDF_LRES_WTAG = ((s.ax a).pubs + 1) % 64 ∧
        (s.measured l = true → t.fld (SDF_LRES l) SDF_LRES_SRC = 0 ∧
          t.sfld (SDF_LRES l) SDF_LRES_I = s.calibrated (s.cch l) (roundHalfUpDiv won.sum (max 1 won.nout)) ∧
          (won.nout < 256 → t.fld (SDF_LRES l) SDF_LRES_NOUT = won.nout)) ∧
        (s.measured l = false → t.fld (SDF_LRES l) SDF_LRES_NOUT = 0 ∧
          if mates ≠ [] ∧ mates.all s.measured = true then
            t.fld (SDF_LRES l) SDF_LRES_SRC = 1 ∧
              t.sfld (SDF_LRES l) SDF_LRES_I = sat16 (-(mates.foldl (fun m k => m + s.measuredI k) 0))
          else
            t.fld (SDF_LRES l) SDF_LRES_SRC = 2 ∧
              t.sfld (SDF_LRES l) SDF_LRES_I =
                if s.flag (SDF_AXW a) SDF_AXW_PSRC = false ∧ s.full = true ∧ s.hysMode a = 0 then (s.lg l).pred.toInt
                else s.hysEstimate l)

/-- SAR converters and comparators (R150, R152), with no reset in effect: an accepted START with TSRC 0 on an idle converter leaves
it busy at slot 0 with the next tag, on a busy one OVR with its event; a slot's result goes to its channel with the sequence's
tag, and the last one has the event pending, with the next sequence begun in continuous mode. An input beyond the threshold by
more than the comparator's 10 mV of offset makes it active, with its flag, its event and its latch; one within does not. An input
back beyond the margin of HYST makes it inactive, and no other one. -/
def Rules.ConvertersAndComparators : Prop :=
  ∀ s : State, s.awake = true →
    (∀ (v : View) (c : Fin 8), accepted v (SAR_CTL c) (withField s (SAR_CTL c) SAR_CTL_START 1) s = true →
      s.flag (SAR_CTL c) SAR_CTL_EN = true → s.fld (SAR_CTL c) SAR_CTL_TSRC = 0 → s.fld (SAR_CTL c) SAR_CTL_LEN ≠ 0 →
      (s.flag (SAR_STAT c) SAR_STAT_BUSY = false → ∃ t, exec (.sarStart v c) s = .next t ∧
        t.flag (SAR_STAT c) SAR_STAT_BUSY = true ∧ (t.sr c).slot = 0 ∧ (t.sr c).seq = (s.sr c).seq + 1) ∧
      (s.flag (SAR_STAT c) SAR_STAT_BUSY = true → ∃ t, exec (.sarStart v c) s = .next t ∧ t.sr c = s.sr c ∧
        t.flag (SAR_STAT c) SAR_STAT_OVR = true ∧ t.evPending (evSense 8) = true)) ∧
    (∀ (c : Fin 8) (code : BitVec 16), s.flag (SAR_STAT c) SAR_STAT_BUSY = true → (s.sr c).slot < 8 →
      let i := 8 * c.val + s.fld (SAR_SEQ c) ⟨3 * (s.sr c).slot, 3⟩
      let continuous := s.flag (SAR_CTL c) SAR_CTL_EN && decide (s.fld (SAR_CTL c) SAR_CTL_TSRC = 2) &&
        decide (s.fld (SAR_CTL c) SAR_CTL_LEN ≠ 0)
      ∃ t, exec (.sarSlotResult c code) s = .next t ∧ t.fld (SAR_RES i) SAR_RES_VALUE = code.toNat ∧
        t.fld (SAR_RES i) SAR_RES_TAG = (s.sr c).seq % 256 ∧
        ((s.sr c).slot + 1 < s.fld (SAR_CTL c) SAR_CTL_LEN → (t.sr c).slot = (s.sr c).slot + 1) ∧
        (s.fld (SAR_CTL c) SAR_CTL_LEN ≤ (s.sr c).slot + 1 → t.evPending (evSense c) = true ∧
          t.flag (SAR_STAT c) SAR_STAT_BUSY = continuous ∧
          (continuous = true → (t.sr c).slot = 0 ∧ (t.sr c).seq = (s.sr c).seq + 1))) ∧
    (∀ (k : Fin 16) (uv : Nat), s.flag (CMP_CFG k) CMP_CFG_EN = true → s.cmpActive k = false →
      let input : Int := 1024 * uv
      let thr : Int := 3000000 * s.fld (CMP_CFG k) CMP_CFG_THR
      let high := s.flag (CMP_CFG k) CMP_CFG_POL
      (if high then thr + 10240000 < input else input < thr - 10240000) →
        ∃ t, exec (.cmpHit k uv) s = .next t ∧
          t.cmpActive k = true ∧ (t.rd CMP_STAT).getLsbD k = true ∧ t.evPending (evSense 17) = true ∧
          (s.srcAct (64 + k.val) ≠ 0 → t.latched (64 + k.val) = true)) ∧
    (∀ (k : Fin 16) (uv : Nat), s.flag (CMP_CFG k) CMP_CFG_EN = true → s.cmpActive k = false →
      let input : Int := 1024 * uv
      let thr : Int := 3000000 * s.fld (CMP_CFG k) CMP_CFG_THR
      (if s.flag (CMP_CFG k) CMP_CFG_POL then input ≤ thr - 10240000 else thr + 10240000 ≤ input) →
        ∃ t, exec (.cmpHit k uv) s = .next t ∧ t.regs = s.regs) ∧
    (∀ (k : Fin 16) (uv : Nat), s.cmpActive k = true →
      let input : Int := 1024 * uv
      let thr : Int := 3000000 * s.fld (CMP_CFG k) CMP_CFG_THR
      let margin := 1024 * hystMargin (s.fld (CMP_CFG k) CMP_CFG_HYST)
      (if s.flag (CMP_CFG k) CMP_CFG_POL then input < thr - margin - 10240000 else thr + margin + 10240000 < input) →
        ∃ t, exec (.comparatorRelease k uv) s = .next t ∧ t.cmpActive k = false ∧
          ∀ j, j < 16 → j ≠ k.val → t.cmpActive j = s.cmpActive j)

/-- Resolver and encoder (R153 to R155), with no reset in effect. An enabled resolver's sample leaves the speed given, the angle
MULT × tracking angle + OFFSET modulo one turn, and LOCK where none of LOS (amplitude below 0.40 in two periods running), LOT
(error above 1/64 turn) and OVS (above 4 kHz) is present; LOS that begins sets its flag with the event. On an enabled encoder,
levels that have stood for FILT: in MODE 0 a change of one input moves POS by one modulo CPR, either way, with OVR and the event
within 80 ns of the last count; a change of B alone does not count in MODE 1 and 2; a change of both sets ILL with the event and
leaves POS. Z sets ZSEEN; with ZEN it leaves POS and the angle 0, and sets ZERR where Z had been seen before and POS was not 0. -/
def Rules.PositionSensors : Prop :=
  ∀ s : State, s.awake = true →
    (∀ (r : Fin 2) (amp : Nat) (err track : BitVec 16) (speed : Word), s.flag (RES_CFG r) RES_CFG_EN = true →
      let los := decide (amp * 10 < 4 * 65536) && decide (1 ≤ (s.rs r).low)
      let lot := decide (1024 < err.toInt.natAbs)
      let ovs := decide (4000 * 65536 * s.fld (RES_CFG r) RES_CFG_MULT < speed.toInt.natAbs)
      ∃ t, exec (.resFlt r amp err track speed) s = .next t ∧ t.rd (RES_SPD r) = speed ∧
        t.fld (RES_ANG r) RES_ANG_ANGLE =
          (s.fld (RES_CFG r) RES_CFG_MULT * track.toNat + s.fld (RES_OFS r) RES_OFS_OFFSET) % 65536 ∧
        t.flag (RES_STAT r) RES_STAT_LOCK = !(los || lot || ovs) ∧
        (los = true → (s.rs r).los = false →
          t.flag (RES_STAT r) RES_STAT_LOS = true ∧ t.evPending (evSense (18 + r.val)) = true)) ∧
    (∀ (e : Fin 2) (stable : Nat), s.flag (ENC_CFG e) ENC_CFG_EN = true → s.fld (ENC_CFG e) ENC_CFG_FILT ≤ stable →
      let pos := s.fld (ENC_POS e) ENC_POS_POS
      let cpr := s.fld (ENC_CPR e) ENC_CPR_CPR
      (∀ (a b : Bool) (t : Nat), pos < cpr → s.fld (ENC_CFG e) ENC_CFG_MODE = 0 →
        (a ≠ (s.en e).a ∧ b = (s.en e).b) ∨ (a = (s.en e).a ∧ b ≠ (s.en e).b) →
        ∃ u, exec (.encCount e a b stable t) s = .next u ∧
          (u.fld (ENC_POS e) ENC_POS_POS = (pos + 1) % cpr ∨ u.fld (ENC_POS e) ENC_POS_POS = (pos + cpr - 1) % cpr) ∧
          (u.en e).lastAt = some t ∧
          ∀ w, (s.en e).lastAt = some w → t < w + 2048 →
            u.flag (ENC_STAT e) ENC_STAT_OVR = true ∧ u.evPending (evSense (20 + e.val)) = true) ∧
      (∀ (b : Bool) (t : Nat), s.fld (ENC_CFG e) ENC_CFG_MODE = 1 ∨ s.fld (ENC_CFG e) ENC_CFG_MODE = 2 →
        ∃ u, exec (.encCount e (s.en e).a b stable t) s = .next u ∧ u.fld (ENC_POS e) ENC_POS_POS = pos ∧ (u.en e).b = b) ∧
      (∀ t, ∃ u, exec (.encCount e (!(s.en e).a) (!(s.en e).b) stable t) s = .next u ∧
        u.flag (ENC_STAT e) ENC_STAT_ILL = true ∧ u.fld (ENC_POS e) ENC_POS_POS = pos ∧
        u.evPending (evSense (20 + e.val)) = true) ∧
      (∃ t, exec (.encZ e stable) s = .next t ∧ t.flag (ENC_STAT e) ENC_STAT_ZSEEN = true ∧
        (s.flag (ENC_CFG e) ENC_CFG_ZEN = true → t.fld (ENC_POS e) ENC_POS_POS = 0 ∧ t.fld (ENC_ANG e) ENC_ANG_ANGLE = 0 ∧
          (s.flag (ENC_STAT e) ENC_STAT_ZSEEN = true → pos ≠ 0 → t.flag (ENC_STAT e) ENC_STAT_ZERR = true))))

/-- Converters and comparators (`Rules.ConvertersAndComparators`), resolver and encoder (`Rules.PositionSensors`) (R150 to R155). -/
def Obligations.ConvertersAndPosition : Prop := Rules.ConvertersAndComparators ∧ Rules.PositionSensors

/-! ### Reports and commutation (R174 to R179) -/

/-- Reports and the commutation index (R174, R176 to R179): an accepted report is taken with the speed in OBSW; where checks act, a
residual above its limit sets RES with its event, and as the NLOSS-th failed interval it leaves the observer LOST with its event.
An accepted re-arm clears the loss, its count and the last speed. Without COMEN the commutation index is 0; crossings that do not
ascend set COMERR and leave it; otherwise it is the one of the live angle at the command's instant. -/
def Obligations.ObserverReports : Prop :=
  ∀ (s : State) (v : View) (a : Fin 4),
    (∀ angle, accepted v (TTU_OBSA a) angle s = true → ∃ t, exec (.observerReport v a angle) s = .next t ∧
      t.rd (TTU_OBSA a) = angle ∧ (t.ax a).reported = true ∧ (t.ax a).prevW = some (s.rd (TTU_OBSW a)) ∧
      (t.ax a).repW = s.rd (TTU_OBSW a) ∧
      (s.obsChecked a = true → s.failsResidual a = true →
        t.flag (TTU_STAT a) TTU_STAT_RES = true ∧ t.evPending (evSup a 0) = true ∧
        ((s.ax a).intervalFailed = false → s.fld (TTU_STAT a) TTU_STAT_FCNT + 1 = s.fld (TTU_OCTL a) TTU_OCTL_NLOSS →
          t.flag (TTU_STAT a) TTU_STAT_LOST = true ∧ t.evPending (evSup a 1) = true))) ∧
    (accepted .coachman (TTU_OCTL a) (withField s (TTU_OCTL a) TTU_OCTL_REARM 1) s = true →
      ∃ t, exec (.ttuRearm .coachman a) s = .next t ∧ t.flag (TTU_STAT a) TTU_STAT_LOST = false ∧
        t.fld (TTU_STAT a) TTU_STAT_FCNT = 0 ∧ t.flag (TTU_OCTL a) TTU_OCTL_REARM = false ∧ (t.ax a).prevW = none) ∧
    (∀ n, (s.flag (TTU_CFG a) TTU_CFG_COMEN = false → ∃ t, exec (.commutationIndexChange a n) s = .next t ∧
        t.fld (TTU_STAT a) TTU_STAT_CIDX = 0) ∧
      (s.flag (TTU_CFG a) TTU_CFG_COMEN = true → s.comAscend a = false →
        ∃ t, exec (.commutationIndexChange a n) s = .next t ∧ t.flag (TTU_STAT a) TTU_STAT_COMERR = true ∧
          t.fld (TTU_STAT a) TTU_STAT_CIDX = s.fld (TTU_STAT a) TTU_STAT_CIDX) ∧
      (s.flag (TTU_CFG a) TTU_CFG_COMEN = true → s.comAscend a = true → s.ncom a ≤ 8 →
        ∃ t, exec (.commutationIndexChange a n) s = .next t ∧
          t.fld (TTU_STAT a) TTU_STAT_CIDX = (s.at n).comIndex a))

/-! ### The direct torque fallback (R183 to R194) -/

/-- The commands of the fallback (R184, R186, R188 to R193). An enabled set of an Axle in MODE 1 without CONV passes the Axle to
MODE 2 with NOCONV, its event and every leg of the Axle in SAFE, and counts an attempt where a catch began the regulation. A step
of a set that steps shows its speed in HYS_SSPD, slews T_f where it is the Axle's lowest set in MODE 1, and leaves the vector as it
was outside MODE 1. An accepted CATCH waits for its update point, and so does one that AUTO asks for in MODE 2; a probe that may
begin in MODE 3 puts every set of the Axle at vector 0; an accepted HANDBACK waits for a COMMIT; an accepted FORCE is a pending
cause of entry, the lower one of two being kept, and none under the fallback. -/
def Obligations.FallbackCommands : Prop :=
  ∀ s : State,
    (∀ k : Fin 8, s.awake = true → s.flag (HYS_SET k) HYS_SET_EN = true → s.setAxle k < 4 → s.hysMode (s.setAxle k) = 1 →
      s.flag (HYS_SSTAT k) HYS_SSTAT_CONV = false → ∃ t, exec (.hysNoconv k) s = .next t ∧
        t.hysMode (s.setAxle k) = 2 ∧ t.flag (HYS_STAT (s.setAxle k)) HYS_STAT_NOCONV = true ∧
        t.evPending (evSup (s.setAxle k) 6) = true ∧
        (t.ax (s.setAxle k)).attempts = (s.ax (s.setAxle k)).attempts + (if (s.hy k).caught then 1 else 0) ∧
        ∀ l, l ∈ s.legsOf (s.setAxle k) → t.legSafe l ≠ 0) ∧
    (∀ (k : Fin 8) (finding : Ecc), s.setSteps k = true →
      ∃ t, exec (.estimatorStep k finding) s = .next t ∧ t.rd (HYS_SSPD k) = BitVec.ofInt 32 (t.hy k).w ∧
        (s.hysMode (s.setAxle k) = 1 → (s.setsOf (s.setAxle k)).head? = some k.val →
          (t.ax (s.setAxle k)).tf = slewStep (s.ax (s.setAxle k)).tf (s.torqueTarget (s.setAxle k))
            (s.fld (HYS_CFG (s.setAxle k)) HYS_CFG_TSLEW)) ∧
        (s.hysMode (s.setAxle k) ≠ 1 → t.fld (HYS_SSTAT k) HYS_SSTAT_VEC = s.fld (HYS_SSTAT k) HYS_SSTAT_VEC)) ∧
    ∀ a : Fin 4,
      (accepted .coachman (HYS_CTRL a) HYS_CTRL_CATCH.mask s = true → ∃ t, exec (.catch_ .coachman a) s = .next t ∧
        (t.ax a).catchPending = true ∧ (t.ax a).attempts = 0 ∧ t.rd (HYS_CTRL a) = 0) ∧
      (s.hysMode a = 2 → HYS_CATCH_AUTO.bit (s.rd (HYS_CATCH a)) = true →
        (s.ax a).attempts < s.fld (HYS_CATCH a) HYS_CATCH_MAXTRY → s.hasFallback a = true →
        ∃ t, exec (.autoCatch a) s = .next t ∧ (t.ax a).catchPending = true ∧ t.regs = s.regs) ∧
      (s.hysMode a = 3 → (s.ax a).probing = false → (s.ax a).probeDue = false → (s.ax a).probes < 2 →
        (s.ax a).winOpen = false ∨ s.probeSpaced a = true → ∃ t, exec (.catchProbe a) s = .next t ∧
        (t.ax a).probing = true ∧ t.hysMode a = 3 ∧ ∀ k, k ∈ s.setsOf a → t.fld (HYS_SSTAT k) HYS_SSTAT_VEC = 0) ∧
      (accepted .coachman (HYS_CTRL a) HYS_CTRL_HANDBACK.mask s = true → ∃ t, exec (.handback .coachman a) s = .next t ∧
        (t.ax a).handback = true ∧ (t.ax a).commitSinceHb = false ∧ t.hysMode a = s.hysMode a) ∧
      (accepted .coachman (HYS_CTRL a) HYS_CTRL_FORCE.mask s = true → ∃ t, exec (.force .coachman a) s = .next t ∧
        t.hysMode a = s.hysMode a ∧
        (t.ax a).fbPending = if s.underFallback a then (s.ax a).fbPending else some (min 4 ((s.ax a).fbPending.getD 4)))
/-! ### Protection (R197 to R211) -/

/-- Trips (R197 to R203), with no reset in effect: a TRIP pin that stands past its filter, or a pulse of at least F, latches its
source where that has an action, with the event pending, and from ACT 2 up every leg of the source's groups is in SAFE; the pin
that stands is active, a pulse over is not. A pulse below 0.7 F and the end of a high level change no register. A write of PROT_TRIPn
whose sequence differs changes no latch; one whose sequence agrees clears exactly the named latches of inactive sources, and for a
named latch of an active one it sets CLRREF with its event. -/
def Rules.TripLatches : Prop :=
  ∀ s : State, s.awake = true →
    (∀ (k : Fin 64) (ev : PinEvent), s.srcAct k ≠ 0 →
      ev = .rise ∨ (∃ n, ev = .pulse n ∧ 10 * s.fld (PROT_SRC k) PROT_SRC_FILT ≤ n) →
      ∃ t, exec (.tripPin k ev) s = .next t ∧ t.latched k = true ∧ t.evPending (evProt 0) = true ∧
        t.srcActive k = decide (ev = .rise) ∧
        ∀ g l, g < 8 → l < 32 → 2 ≤ s.srcAct k → (s.srcGroups k).testBit g = true → s.inGroup g l = true → t.legSafe l ≠ 0) ∧
    (∀ (k : Fin 64) (ev : PinEvent),
      ev = .fall ∨ (∃ n, ev = .pulse n ∧ 10 * n < 7 * (10 * s.fld (PROT_SRC k) PROT_SRC_FILT)) →
      ∃ t, exec (.tripPin k ev) s = .next t ∧ t.regs = s.regs ∧ t.srcActive k = false) ∧
    (∀ (n : Fin 9) (data : Word), ∃ t, exec (.tripClear .coachman n data) s = .next t ∧
      (data.toNat / 2 ^ 24 ≠ (s.rd (PROT_TRIP n)).toNat / 2 ^ 24 → t.rd (PROT_TRIP n) = s.rd (PROT_TRIP n)) ∧
      (data.toNat / 2 ^ 24 = (s.rd (PROT_TRIP n)).toNat / 2 ^ 24 → ∀ b, b < 24 →
        t.latched (24 * n.val + b) = (s.latched (24 * n.val + b) && !(data.getLsbD b && !s.srcActive (24 * n.val + b))) ∧
        (s.latched (24 * n.val + b) = true → data.getLsbD b = true → s.srcActive (24 * n.val + b) = true →
          t.flag PROT_STAT PROT_STAT_CLRREF = true ∧ t.evPending (evProt 1) = true)))

/-- Software trip, keeper release and the selection (R198, R205, R206): an accepted SWTRIP keeps its groups and, with an action,
latches source 210 with the event; an accepted KREL leaves in the keeper only legs that wait for a catch; at an evaluation, a group
without a speed source follows a good DC-link channel with the hysteresis of VHI and VLO. -/
def Rules.ProtectionControl : Prop :=
  ∀ s : State,
    (∀ swg : BitVec 8, accepted .coachman PROT_CTRL (PROT_CTRL_SWTRIP.put (PROT_CTRL_SWG.put 0 swg.toNat) 1) s = true →
      ∃ t, exec (.swtrip .coachman swg) s = .next t ∧ t.chop.swGroups &&& swg = swg ∧
        t.flag PROT_CTRL PROT_CTRL_SWTRIP = false ∧
        (s.srcAct 210 ≠ 0 → t.latched 210 = true ∧ t.evPending (evProt 0) = true)) ∧
    (accepted .coachman PROT_CTRL (withField s PROT_CTRL PROT_CTRL_KREL 1) s = true →
      s.flag PROT_CTRL PROT_CTRL_SWTRIP = false →
      ∃ t, exec (.krel .coachman) s = .next t ∧ t.flag PROT_CTRL PROT_CTRL_KREL = false ∧
        ∀ l, l < 24 → s.heldForCatch l = false → ¬ (t.lg l).causes.contains .keeper) ∧
    (s.awake = true → ∃ t, exec .selectionEvaluation s = .next t ∧
      ∀ g, g < 8 → s.fld (PROT_SEL g) PROT_SEL_SPDSRC = 3 →
        let c := s.fld (PROT_SEL g) PROT_SEL_VCH
        s.flag (SDF_STAT c) SDF_STAT_FAULT = false → s.flag (SDF_CFG c) SDF_CFG_EN = true →
        s16 (s.fld (PROT_SELV g) PROT_SELV_VLO) ≤ s16 (s.fld (PROT_SELV g) PROT_SELV_VHI) →
        t.selAsc g = (if s16 (s.fld (PROT_SELV g) PROT_SELV_VHI) ≤ s.pres c then true
          else if s.pres c < s16 (s.fld (PROT_SELV g) PROT_SELV_VLO) then false else s.selAsc g))

/-- Chopper and discharge (R209 to R211), with no reset in effect: a chopper that is on with the link above V0 − DV is off and
faulty, with CHOPFLT, its event and the latch of source 208 where that has an action. An accepted START = 1 begins the supervision
afresh, with DIS_EN in a MODE that drives it; START = 0 ends both. A discharge that is late for the first time sets DISFLT with its
event and the latch of source 209 where that has an action, and stays under supervision. -/
def Rules.ChopperAndDischarge : Prop :=
  ∀ s : State, s.awake = true →
    (s.chop.on = true → s.chop.v0 - (s.fld PROT_DCL PROT_DCL_DV : Int) < s.pres (s.fld PROT_CHOP PROT_CHOP_VCH) →
      ∃ t, exec .chopFlt s = .next t ∧ t.chop.on = false ∧ t.chop.faulty = true ∧
        t.flag PROT_STAT PROT_STAT_CHOPFLT = true ∧ t.evPending (evProt 6) = true ∧
        (s.srcAct 208 ≠ 0 → t.latched 208 = true)) ∧
    (accepted .coachman PROT_DIS (withField s PROT_DIS PROT_DIS_START 1) s = true →
      ∃ t, exec (.dischargeStart .coachman) s = .next t ∧
        t.flag PROT_DIS PROT_DIS_START = true ∧ t.chop.supervising = true ∧ t.chop.late = false ∧
        ((s.fld PROT_DIS PROT_DIS_MODE).testBit 0 = true → t.flag PROT_STAT PROT_STAT_DISON = true)) ∧
    (accepted .coachman PROT_DIS (withField s PROT_DIS PROT_DIS_START 0) s = true →
      ∃ t, exec (.dischargeStop .coachman) s = .next t ∧ t.flag PROT_DIS PROT_DIS_START = false ∧
        t.chop.supervising = false ∧ t.flag PROT_STAT PROT_STAT_DISON = false) ∧
    (s.chop.supervising = true → s.chop.late = false → ∃ t, exec .disFlt s = .next t ∧
      t.chop.supervising = true ∧ t.chop.late = true ∧
      t.flag PROT_STAT PROT_STAT_DISFLT = true ∧ t.evPending (evProt 8) = true ∧
      (s.srcAct 209 ≠ 0 → t.latched 209 = true))

/-- Trips (`Rules.TripLatches`), the protection controls (`Rules.ProtectionControl`), chopper and discharge
(`Rules.ChopperAndDischarge`) (R197 to R211). -/
def Obligations.TripsAndProtection : Prop := Rules.TripLatches ∧ Rules.ProtectionControl ∧ Rules.ChopperAndDischarge

/-! ### Safety without the program (R214 to R228) -/

/-- The torque monitor (R214, R218): a step of a monitor that runs adds one to the steps of its interval and changes no register;
a write that names TRIP with the right sequence clears it where the window in force contains zero, and elsewhere leaves it with
CLRREF and its event. -/
def Rules.TorqueMonitor : Prop :=
  ∀ (s : State) (a : Fin 4),
    (s.monitorRuns a = true → ∃ t, exec (.torqueMonitorStep a) s = .next t ∧
      (t.ax a).tmSteps = (s.ax a).tmSteps + 1 ∧ t.regs = s.regs) ∧
    (∀ (v : View) (data : Word), s.awake = true → s.tmTrip a = true → data.getLsbD 23 = true →
      data.toNat / 2 ^ 24 = (s.rd (SAFE_TMSTAT a)).toNat / 2 ^ 24 →
      (s.tMin a ≤ 0 → 0 ≤ s.tMax a → ∃ t, exec (.tmClear v a data) s = .next t ∧ t.tmTrip a = false) ∧
      (0 < s.tMin a ∨ s.tMax a < 0 → ∃ t, exec (.tmClear v a data) s = .next t ∧ t.tmTrip a = true ∧
        t.flag (SAFE_TMSTAT a) SAFE_TMSTAT_CLRREF = true ∧ t.evPending (evSup a 13) = true))

/-- The seal (R221 to R224): an accepted UNLOCK leaves BUSY. When the hash is done BUSY falls and the password registers are zero:
the first slot that matches unlocks with its number and no attempt counted; with no password at all it unlocks with SLOT 15; a miss
leaves the seal as it was with one attempt more and DENY, and the third attempt LOCKOUT. An accepted LOCK ends the unlocked state
and clears the password registers, and an accepted SETPW clears them with the words of the hash queued for the slot. -/
def Obligations.SealOperations : Prop :=
  ∀ s : State,
    (accepted .coachman SAFE_SEALCTL (withField s SAFE_SEALCTL SAFE_SEALCTL_UNLOCK 1) s = true →
      ∃ t, exec (.unlock .coachman) s = .next t ∧ t.flag SAFE_SEALSTAT SAFE_SEALSTAT_BUSY = true ∧
        t.flag SAFE_SEALCTL SAFE_SEALCTL_UNLOCK = false) ∧
    (s.flag SAFE_SEALSTAT SAFE_SEALSTAT_BUSY = true → ∃ t, exec .unlockHashDone s = .next t ∧
      t.flag SAFE_SEALSTAT SAFE_SEALSTAT_BUSY = false ∧ t.rd (SAFE_SEALPW 0) = 0 ∧ t.rd (SAFE_SEALPW 1) = 0 ∧
      (∀ k, k < 4 → s.slotEmpty k = false → s.slotWords k = s.pwHash →
        (∀ j, j < k → s.slotEmpty j = true ∨ s.slotWords j ≠ s.pwHash) →
        t.flag SAFE_SEALSTAT SAFE_SEALSTAT_UNLOCKED = true ∧ t.fld SAFE_SEALSTAT SAFE_SEALSTAT_SLOT = k ∧
        t.fld SAFE_SEALSTAT SAFE_SEALSTAT_ATT = 0) ∧
      ((∀ k, k < 4 → s.slotEmpty k = true) → t.flag SAFE_SEALSTAT SAFE_SEALSTAT_UNLOCKED = true ∧
        t.fld SAFE_SEALSTAT SAFE_SEALSTAT_SLOT = 15) ∧
      ((∃ k, k < 4 ∧ s.slotEmpty k = false) → (∀ k, k < 4 → s.slotEmpty k = true ∨ s.slotWords k ≠ s.pwHash) →
        t.flag SAFE_SEALSTAT SAFE_SEALSTAT_UNLOCKED = s.flag SAFE_SEALSTAT SAFE_SEALSTAT_UNLOCKED ∧
        t.fld SAFE_SEALSTAT SAFE_SEALSTAT_ATT = min 3 (s.fld SAFE_SEALSTAT SAFE_SEALSTAT_ATT + 1) ∧
        t.flag SAFE_SEALSTAT SAFE_SEALSTAT_DENY = true ∧
        (2 ≤ s.fld SAFE_SEALSTAT SAFE_SEALSTAT_ATT → t.flag SAFE_SEALSTAT SAFE_SEALSTAT_LOCKOUT = true))) ∧
    (accepted .coachman SAFE_SEALCTL (withField s SAFE_SEALCTL SAFE_SEALCTL_LOCK 1) s = true →
      ∃ t, exec (.lock .coachman) s = .next t ∧ t.flag SAFE_SEALSTAT SAFE_SEALSTAT_UNLOCKED = false ∧
        t.fld SAFE_SEALSTAT SAFE_SEALSTAT_SLOT = 15 ∧ t.rd (SAFE_SEALPW 0) = 0 ∧ t.rd (SAFE_SEALPW 1) = 0) ∧
    (∀ slot : BitVec 2, accepted .coachman SAFE_SEALCTL (SAFE_SEALCTL_SETPW.put (SAFE_SEALCTL_SLOT.put 0 slot.toNat) 1) s = true →
      ∃ t, exec (.setpw .coachman slot) s = .next t ∧ t.rd (SAFE_SEALPW 0) = 0 ∧ t.rd (SAFE_SEALPW 1) = 0 ∧
        ∀ j, j < 4 → ∃ p, p ∈ t.lan.prog ∧ p.addr = 0x11F0 + 4 * slot.toNat + j ∧ p.value = s.pwHash.getD j 0)

/-- The Drag Shoe and its test (R225 to R228). With no reset in effect a feedback that differs from its output sets the fault of its
channel with the event, and feedbacks that agree just show. An accepted TSTART with no release asked for and no torque trip is in
phase 1 from the angle of its source. A phase that ends at or above ITEST passes from phase 1 to 2, or ends the test DONE with the
event and the smallest magnitude in IMIN; below ITEST the test ends with TFAIL and cause 2. An angle within AMAX of the start only
counts toward EXC; beyond it the test ends with TFAIL and cause 1. The end of the hold on a resolver speed lets both outputs fall. -/
def Rules.DragShoe : Prop :=
  ∀ s : State,
    (s.awake = true → ∀ fa fb,
      (fa ≠ s.brake.outA → ∃ t, exec (.brkFlt false fa fb) s = .next t ∧
        t.flag SAFE_BRKSTAT SAFE_BRKSTAT_FLTA = true ∧ t.evPending (evProt 14) = true) ∧
      (fb ≠ s.brake.outB → ∃ t, exec (.brkFlt true fa fb) s = .next t ∧
        t.flag SAFE_BRKSTAT SAFE_BRKSTAT_FLTB = true ∧ t.evPending (evProt 14) = true) ∧
      (fa = s.brake.outA → ∃ t, exec (.brkFlt false fa fb) s = .next t ∧ t.flag SAFE_BRKSTAT SAFE_BRKSTAT_FA = fa ∧
        t.flag SAFE_BRKSTAT SAFE_BRKSTAT_FB = fb ∧
        t.flag SAFE_BRKSTAT SAFE_BRKSTAT_FLTA = s.flag SAFE_BRKSTAT SAFE_BRKSTAT_FLTA)) ∧
    (accepted .coachman SAFE_BRKCTL (withField s SAFE_BRKCTL SAFE_BRKCTL_TSTART 1) s = true →
      s.flag SAFE_BRKCTL SAFE_BRKCTL_REL = false → s.tmTrip s.shoeAxle = false →
      ∃ t, exec (.brakeTestStart .coachman) s = .next t ∧ t.fld SAFE_BRKSTAT SAFE_BRKSTAT_PHASE = 1 ∧
        t.brake.a0 = s.shoeAngle ∧ t.flag SAFE_BRKCTL SAFE_BRKCTL_TSTART = false) ∧
    (s.awake = true → ∀ imin : BitVec 16, s.fld SAFE_BRKSTAT SAFE_BRKSTAT_PHASE ≠ 0 →
      (s.shoeTest ≤ imin.toNat → s.fld SAFE_BRKSTAT SAFE_BRKSTAT_PHASE = 1 → ∃ t, exec (.brakeTestPhaseEnd imin) s = .next t ∧
        t.fld SAFE_BRKSTAT SAFE_BRKSTAT_PHASE = 2) ∧
      (s.shoeTest ≤ imin.toNat → s.fld SAFE_BRKSTAT SAFE_BRKSTAT_PHASE = 2 → ∃ t, exec (.brakeTestPhaseEnd imin) s = .next t ∧
        t.fld SAFE_BRKSTAT SAFE_BRKSTAT_PHASE = 0 ∧ t.fld SAFE_BRKSTAT SAFE_BRKSTAT_TCAUSE = 0 ∧
        t.flag SAFE_BRKSTAT SAFE_BRKSTAT_TDONE = true ∧ t.evPending (evProt 15) = true ∧
        t.fld SAFE_BRKRES SAFE_BRKRES_IMIN = min s.brake.imin imin.toNat) ∧
      (imin.toNat < s.shoeTest → ∃ t, exec (.brakeTestPhaseEnd imin) s = .next t ∧ t.fld SAFE_BRKSTAT SAFE_BRKSTAT_PHASE = 0 ∧
        t.fld SAFE_BRKSTAT SAFE_BRKSTAT_TCAUSE = 2 ∧ t.flag SAFE_BRKSTAT SAFE_BRKSTAT_TFAIL = true)) ∧
    (∀ angle : BitVec 16, s.shoeAngleSrc < 2 → s.fld SAFE_BRKSTAT SAFE_BRKSTAT_PHASE ≠ 0 →
      let d := (angle - s.brake.a0).toInt.natAbs
      (d ≤ (s.sealed 0x182).toNat % 65536 → ∃ t, exec (.brakeTestMotion angle) s = .next t ∧
        t.brake.exc = max s.brake.exc d ∧ t.regs = s.regs) ∧
      ((s.sealed 0x182).toNat % 65536 < d → ∃ t, exec (.brakeTestMotion angle) s = .next t ∧
        t.fld SAFE_BRKSTAT SAFE_BRKSTAT_PHASE = 0 ∧ t.fld SAFE_BRKSTAT SAFE_BRKSTAT_TCAUSE = 1 ∧
        t.flag SAFE_BRKSTAT SAFE_BRKSTAT_TFAIL = true)) ∧
    (s.flag SAFE_BRKSTAT SAFE_BRKSTAT_HOLD = true → (s.shoeSpeedSrc = 1 ∨ s.shoeSpeedSrc = 2) →
      ∃ t, exec .dragShoeHoldEnd s = .next t ∧ t.brake.outA = false ∧ t.brake.outB = false ∧
        t.flag SAFE_BRKSTAT SAFE_BRKSTAT_HOLD = false)

/-- The torque monitor (`Rules.TorqueMonitor`) and the Drag Shoe (`Rules.DragShoe`) (R214, R218, R225 to R228). -/
def Obligations.TorqueMonitorAndDragShoe : Prop := Rules.TorqueMonitor ∧ Rules.DragShoe

/-! ### Temperature, throttling and self-test (R250, R351 to R360) -/

/-- Temperature (R351 to R355): a conversion shows every valid reading in its sensor's register without FAULT, and FAULT with a rise
of 0 where there is none; in the Lantern state only the Lantern domain's sensor takes its reading. While throttling steps, not
frozen, the end of a step moves one level up where the device is too hot and below LMAX, asks for carrier derating at LMAX with
CDREN, and moves one level down where it is cool enough. -/
def Obligations.Throttling : Prop :=
  ∀ s : State,
    (∀ readings, s.awake = true → ∃ t, exec (.sensorConversion readings) s = .next t ∧
      ∀ k, k < 16 → match readings.getD k none with
        | some x => t.flag (THM_T k) THM_T_VALID = true ∧ t.flag (THM_T k) THM_T_FAULT = false ∧
            (-2048 ≤ x → x < 2048 → t.sfld (THM_T k) THM_T_TEMP = x)
        | none => t.flag (THM_T k) THM_T_FAULT = true ∧ t.fld (THM_T k) THM_T_RATE = 0) ∧
    (∀ readings x, s.power = .lantern → readings.getD 15 none = some x →
      ∃ t, exec (.sensorConversion readings) s = .next t ∧ t.lan.t15 = x ∧ t.lan.t15Valid = true ∧ t.regs = s.regs) ∧
    (s.awake = true → s.thmStepping = true → s.thmFrozen = false →
      (s.tooHot = true → s.throttle < s.lmax → ∃ t, exec .throttleStepEnd s = .next t ∧ t.throttle = s.throttle + 1) ∧
      (s.tooHot = true → s.throttle = s.lmax → s.flag THM_CTL THM_CTL_CDREN = true →
        ∃ t, exec .throttleStepEnd s = .next t ∧ t.throttle = s.throttle ∧ t.flag THM_STAT THM_STAT_CDR = true ∧
          t.evPending (evMem 7) = true) ∧
      (s.tooHot = false → s.coolEnough = true → 0 < s.throttle →
        ∃ t, exec .throttleStepEnd s = .next t ∧ t.throttle = s.throttle - 1))

/-- The periodic test and the spare rotation (R239, R250, R287, R358 to R360), with no reset in effect. A slot tests a core that
waits for it first; else a channel-group slot starts its group. A migration that is done leaves MIG clear, the spare and its
direction as R250 has them, every byte of memory as it was, and the test of the released bank begun. A failed slice sets FAIL with
its event, and excludes a core that was isolated, or retires a bank; a passed slice of such a core makes it ready to rejoin under
REJEN; a passed group counts, with the unmapped channels' registers at their reset values and every gate output as it was. -/
def Obligations.SelfTest : Prop :=
  ∀ s : State, s.awake = true →
    (∀ k, s.flag BST_STAT BST_STAT_BUSY = false → s.coreToTest = some k → ∃ t, exec .bistSlotStart s = .next t ∧
      t.bist = .core k ∧ t.flag BST_STAT BST_STAT_BUSY = true) ∧
    (∀ n, s.flag BST_STAT BST_STAT_BUSY = false → s.coreToTest = none → s.flag BST_CFG BST_CFG_EN = true →
      s.flag BST_CFG BST_CFG_CHAN = true → s.fld BST_STAT BST_STAT_SLOT = n → 139 ≤ n → n < 155 →
      s.flag MEM_SPARE MEM_SPARE_MIG = false → ∃ t, exec .bistSlotStart s = .next t ∧ t.bist = .group (n - 139) ∧
        t.flag BST_STAT BST_STAT_BUSY = true) ∧
    (s.flag MEM_SPARE MEM_SPARE_MIG = true → s.fld MEM_SPARE MEM_SPARE_SPARE ≤ 16 → ∃ t, exec .migrationDone s = .next t ∧
      t.flag MEM_SPARE MEM_SPARE_MIG = false ∧ t.flag BST_STAT BST_STAT_BUSY = true ∧ t.mem = s.mem ∧
      let n := s.fld MEM_SPARE MEM_SPARE_SPARE
      let down := if n = 0 then false else if n = 16 then true else s.flag MEM_SPARE MEM_SPARE_DOWN
      t.flag MEM_SPARE MEM_SPARE_DOWN = down ∧ t.fld MEM_SPARE MEM_SPARE_SPARE = (if down then n - 1 else n + 1) ∧
      t.bist = .bank (if down then n - 1 else n + 1)) ∧
    (∀ k : Fin 3, s.flag BST_STAT BST_STAT_BUSY = true → s.bist = .core k → s.troika.plannedIso ≠ some k →
      (∃ t, exec (.bistSliceDone false 0) s = .next t ∧ t.bist = .none ∧ t.flag BST_STAT BST_STAT_BUSY = false ∧
        t.flag BST_STAT BST_STAT_FAIL = true ∧ t.evPending (evMem 9) = true ∧ t.flag TRK_STAT TRK_STAT_BISTF = true ∧
        (t.fld TRK_STAT TRK_STAT_PERM).testBit k = true) ∧
      (s.flag TRK_CFG TRK_CFG_REJEN = true → ∃ t, exec (.bistSliceDone true 0) s = .next t ∧ t.bist = .none ∧
        t.troika.rejoinReady = true ∧ t.unconfOf k = s.unconfOf k + 1)) ∧
    (∀ b mask, s.flag BST_STAT BST_STAT_BUSY = true → s.bist = .bank b → ∃ t, exec (.bistSliceDone false mask) s = .next t ∧
      t.bist = .none ∧ t.flag MEM_SPARE MEM_SPARE_RET = true ∧ t.flag MEM_SPARE MEM_SPARE_ROTEN = false ∧
      t.flag BST_STAT BST_STAT_FAIL = true ∧ t.evPending (evMem 9) = true) ∧
    (∀ g mask, g < 16 → s.flag BST_STAT BST_STAT_BUSY = true → s.bist = .group g →
      ∃ t, exec (.bistSliceDone true mask) s = .next t ∧ t.bist = .none ∧ t.flag BST_STAT BST_STAT_BUSY = false ∧
        t.fld BST_CNT BST_CNT_SLICES = (s.fld BST_CNT BST_CNT_SLICES + 1) % 65536 ∧
        (∀ i, i < 16 → s.chanEn (16 * g + i) = false → t.rd (GCH_TRIM (16 * g + i)) = regDefault (GCH_TRIM (16 * g + i))) ∧
        ∀ c, c < 256 → t.gdo c = s.gdo c)
/-! ### The Whiffletree, recovery and debugging (R234 to R247), memory (R250 to R254) and events (R260) -/

/-- The signature vote and recovery (R237 to R239), with no reset in effect. On a released Troika that is neither stopped, halted
nor in a copy pause, three equal signatures show in TRK_SIGV and leave the Troika as it was; core 0 alone different is a latent
divergence with its event and a scrub due, and at its third odd vote a mismatch with its event, which takes the core out; three
different ones stop the Troika with UNLOC and TRK_FATAL. A copy pause that may begin holds the cores with the store buffer empty
and their registers as they were; a copy that ends brings back every core but the excluded, with REJOIN and its event, or, where
the pair has differed in it, stops the Troika with UNLOC. -/
def Obligations.SignatureAndRecovery : Prop :=
  ∀ s : State, s.awake = true →
    (s.troika.released = true → s.flag TRK_STAT TRK_STAT_HALT = false → s.troika.copying = false →
      s.flag TRK_STAT TRK_STAT_STOP = false →
      (∀ d, ∃ t, exec (.signatureVote (d, d, d)) s = .next t ∧ t.rd TRK_SIGV = s.troika.sigVoted ^^^ d ∧
        t.troika = s.troika) ∧
      (∀ d e, d ≠ e → s.outCores = 0 → let n := mget (fun _ => 0) s.troika.oddVotes 0
        (n < 2 → ∃ t, exec (.signatureVote (e, d, d)) s = .next t ∧ t.flag TRK_STAT TRK_STAT_LATENT = true ∧
          t.evPending TRK_LATENT = true ∧ t.troika.scrub = some 0 ∧ t.outCores = 0) ∧
        (2 ≤ n → ∃ t, exec (.signatureVote (e, d, d)) s = .next t ∧ t.flag TRK_STAT TRK_STAT_MISM = true ∧
          t.evPending TRK_MISMATCH = true ∧ t.outCores.testBit 0 = true)) ∧
      (∀ d e f, d ≠ e → d ≠ f → e ≠ f → s.outCores = 0 → ∃ t, exec (.signatureVote (d, e, f)) s = .next t ∧
        t.flag TRK_STAT TRK_STAT_STOP = true ∧ t.flag TRK_STAT TRK_STAT_UNLOC = true ∧ t.evPending TRK_FATAL = true)) ∧
    (s.troika.rejoinReady = true → s.trkResumes = true → s.flag TRK_STAT TRK_STAT_HALT = false →
      (∀ tag rt rot, s.troika.wait ≠ .load tag rt rot) → ∃ t, exec .copyPause s = .next t ∧
        t.flag TRK_STAT TRK_STAT_RESYNC = true ∧ t.troika.copying = true ∧ t.troika.core = s.troika.core ∧
        t.troika.storeBuf = []) ∧
    (s.troika.copying = true → s.troika.pathTesting = false →
      (∃ t, exec (.trkRejoin false) s = .next t ∧ t.flag TRK_STAT TRK_STAT_RESYNC = false ∧ t.troika.copying = false ∧
        t.fld TRK_STAT TRK_STAT_ISO = 0 ∧ t.flag TRK_STAT TRK_STAT_DUAL = decide (s.fld TRK_STAT TRK_STAT_PERM ≠ 0) ∧
        t.flag TRK_STAT TRK_STAT_REJOIN = true ∧ t.evPending TRK_REJOIN = true) ∧
      (∃ t, exec (.trkRejoin true) s = .next t ∧ t.flag TRK_STAT TRK_STAT_STOP = true ∧
        t.flag TRK_STAT TRK_STAT_UNLOC = true))

/-- The path test (R242 to R244), with no reset in effect: an accepted request stays in REQ; a test that may start pauses the cores
and takes the request. At its end, with no instruction whose access is held: without a finding FAIL is 0 and the pause is over but
for a copy pause; one failing voter copy, or the comparator, leaves the other copy in charge with SVC and its event; a failing
core path, with all three cores in service, excludes its core with the event; both voter copies stop the Troika with UNLOC and
every leg in SAFE. -/
def Obligations.PathTest : Prop :=
  ∀ s : State, s.awake = true →
    (accepted .coachman TRK_INJ (withField s TRK_INJ TRK_INJ_REQ 1) s = true → ∃ t, exec (.pathTestRequest .coachman) s = .next t ∧
      t.flag TRK_INJ TRK_INJ_REQ = true ∧ (s.flag TRK_INJ TRK_INJ_REQ = false → t.troika.wevSeen = false)) ∧
    (s.pathTestReady = true → ∃ t, exec .pathTest s = .next t ∧ t.troika.pathTesting = true ∧
      t.flag TRK_STAT TRK_STAT_RESYNC = true ∧ t.flag TRK_INJ TRK_INJ_REQ = false) ∧
    (s.troika.pathTesting = true → s.troika.heldInstr = none →
      (∃ t, exec (.pathTestDone {} .agree) s = .next t ∧ t.troika.pathTesting = false ∧
        t.troika.heldAccess = false ∧ t.fld TRK_INJ TRK_INJ_FAIL = 0 ∧
        t.flag TRK_STAT TRK_STAT_RESYNC = s.troika.copying ∧ t.outCores = s.outCores) ∧
      (∃ t, exec (.pathTestDone { copyA := true } .agree) s = .next t ∧ t.fld TRK_STAT TRK_STAT_VOTER = 2 ∧
        t.fld TRK_INJ TRK_INJ_FAIL = 1 ∧ t.flag TRK_STAT TRK_STAT_SVC = true ∧ t.evPending TRK_SVC = true) ∧
      (∀ b c, (b || c) = true → ∃ t, exec (.pathTestDone { copyB := b, comparator := c } .agree) s = .next t ∧
        t.fld TRK_STAT TRK_STAT_VOTER = 1 ∧ t.flag TRK_STAT TRK_STAT_SVC = true ∧ t.evPending TRK_SVC = true) ∧
      (∀ k : Fin 3, s.outCores = 0 → ∃ t, exec (.pathTestDone { ports := 1 <<< k.val } .agree) s = .next t ∧
        (t.fld TRK_STAT TRK_STAT_PERM).testBit k = true ∧ t.fld TRK_INJ TRK_INJ_FAIL = 32 ∧ t.evPending TRK_SVC = true) ∧
      (∀ f revote, f.copyA = true → f.copyB = true → ∃ t, exec (.pathTestDone f revote) s = .next t ∧
        t.flag TRK_STAT TRK_STAT_STOP = true ∧ t.flag TRK_STAT TRK_STAT_UNLOC = true ∧
        ∀ l, l < 32 → t.legSafe l ≠ 0))

/-- Debugging (R108, R245 to R247, R362), with no reset in effect. A debug answer opens a session exactly where SYS_CHOCK.DBG is 0,
the key's hash is the device's and the signature over challenge and SYS_ID verifies. A halt that may be requested holds the cores
at an instruction boundary with every leg in SAFE, and a scan with the key-derived registers zero; elsewhere it waits. A BRK under
BRKDBG halts after it. In a halt, a step is armed and lets a FENCE finish whose condition holds; with nothing waiting the cores
resume with their registers as they were. In a session the debugger writes a RAM word once no store or clearing waits, and in a
halt the cores' registers. -/
def Obligations.Debugging : Prop :=
  ∀ s : State, s.awake = true →
    (∀ challenge qx qy r sg, ∃ t, exec (.debugAuthentication challenge qx qy r sg) s = .next t ∧
      (∀ x, x ≠ TRK_DBG → t.rd x = s.rd x) ∧
      t.flag TRK_DBG TRK_DBG_SESSION = (s.flag TRK_DBG TRK_DBG_SESSION || (!s.flag SYS_CHOCK SYS_CHOCK_DBG &&
        decide (beNat (sha256 (beBytes 32 qx.toNat ++ beBytes 32 qy.toNat)) = Config.otpDebugKeyHash) &&
        ecdsaVerify qx.toNat qy.toNat (beNat (sha256 ((List.range 16).map (byteOf challenge) ++ wordBytes (s.rd SYS_ID))))
          r.toNat sg.toNat))) ∧
    (∀ scan, s.haltOk = true →
      (s.atBoundary = true → ∃ t, exec (.debugHalt scan) s = .next t ∧
        t.flag TRK_STAT TRK_STAT_HALT = true ∧ t.troika.core = s.troika.core ∧ (∀ l, l < 32 → t.legSafe l ≠ 0) ∧
        (scan = true → t.rd (SAFE_SEALPW 0) = 0 ∧ ∀ k, k < 8 → t.rd (CPL_ADMKEY k) = 0)) ∧
      (s.atBoundary = false → ∃ t, exec (.debugHalt scan) s = .next t ∧ t.troika.haltWanted = some scan ∧ t.regs = s.regs)) ∧
    (Ready .troika s → s.brkHalts = true → s.flag TRK_STAT TRK_STAT_HALT = false → ∃ t, exec (.brk .troika) s = .next t ∧
      t.flag TRK_STAT TRK_STAT_HALT = true ∧ (t.core .troika).pc = (s.core .troika).pc + 4 ∧
      (∀ r, (t.core .troika).gr r = (s.core .troika).gr r) ∧ ∀ l, l < 32 → t.legSafe l ≠ 0) ∧
    (s.flag TRK_STAT TRK_STAT_HALT = true →
      (s.troika.wait ≠ .fenceC → s.troika.imprecise = [] →
        exec .singleStep s = .next { s with troika := { s.troika with stepArmed := true } }) ∧
      (s.troika.wait = .fenceC → s.remoteStores = false → s.troika.imprecise = [] →
        (s.updTrk (fun t => { t with stepArmed := true })).trkResumes = true → ∃ t, exec .singleStep s = .next t ∧
          t.troika.wait = .none ∧ (t.core .troika).pc = (s.core .troika).pc + 4) ∧
      (s.troika.wait = .none → s.troika.imprecise = [] → s.troika.haltWanted = none → ∃ t, exec .debugResume s = .next t ∧
        t.flag TRK_STAT TRK_STAT_HALT = false ∧ t.troika.core = s.troika.core ∧ ∀ a, a < 4 → (t.ax a).resumed = true)) ∧
    (s.flag TRK_DBG TRK_DBG_SESSION = true → ∀ co,
      (∀ a v, isRam (region a.toNat) = true → a.toNat % 4 = 0 → s.poisoned a.toNat = false → s.bringup.uncleared = [] →
        s.troika.storeBuf = [] → ∃ t, exec (.debuggerWrite (.mem a v) co) s = .next t ∧
          littleEndian .troika t a.toNat 4 = v.toNat ∧
          ∀ x, (x < a.toNat ∨ a.toNat + 4 ≤ x) → byteAt .troika t x = byteAt .troika s x) ∧
      (s.flag TRK_STAT TRK_STAT_HALT = true →
        (∀ r v, ∃ t, exec (.debuggerWrite (.greg r v) co) s = .next t ∧
          ∀ q, (t.core .troika).gr q = if q = r ∧ q ≠ 0 then v else (s.core .troika).gr q) ∧
        (∀ r v, ∃ t, exec (.debuggerWrite (.vreg r v) co) s = .next t ∧
          ∀ q, (t.core .troika).vr q = if q = r then v else (s.core .troika).vr q) ∧
        (∀ r v, ∃ t, exec (.debuggerWrite (.areg r v) co) s = .next t ∧
          ∀ q, (t.core .troika).ar q = if q = r then v else (s.core .troika).ar q) ∧
        (∀ v, ∃ t, exec (.debuggerWrite (.pc v) co) s = .next t ∧ (t.core .troika).pc = v &&& 0xFFFFFFFC) ∧
        (∀ v, ∃ t, exec (.debuggerWrite (.creg 5 v) co) s = .next t ∧ (t.core .troika).cx cVBASE = v &&& 0xFFFFF000)))

/-- Memory service and events (R251, R254, R260), with no reset in effect. The scrubber's finding in a good word of main SRAM sets CE
and counts it, or sets UE, and as the first finding leaves the word's address; each has its event pending. An accepted command with
its key on the code NVM is under way with memory as it was; done, it has programmed its 16 bytes, or erased its sector of 64 KiB to
ones, and nothing else; a read-back that differs sets ERR with its event and changes no byte outside the 16. An accepted EVT_RAISE
leaves its source pending, and with WEN its wake line too. -/
def Obligations.MemoryService : Prop :=
  ∀ s : State, s.awake = true →
    (∀ w, w < 0x100000 → s.poisoned (0x10000000 + 8 * w) = false →
      (∃ t, exec (.scrubber false w .corrected) s = .next t ∧ t.flag MEM_STAT MEM_STAT_CE = true ∧
        t.evPending (evMem 0) = true ∧ t.fld MEM_ECCCNT MEM_ECCCNT_CE = min (s.fld MEM_ECCCNT MEM_ECCCNT_CE + 1) 65535) ∧
      (∃ t, exec (.scrubber false w .uncorrectable) s = .next t ∧ t.flag MEM_STAT MEM_STAT_UE = true ∧
        t.evPending (evMem 1) = true ∧
        (s.flag MEM_STAT MEM_STAT_CE = false → s.flag MEM_STAT MEM_STAT_UE = false →
          t.fld MEM_ECCADDR MEM_ECCADDR_ADDR * 8 = 0x10000000 + 8 * w ∧ t.flag MEM_ECCADDR MEM_ECCADDR_UNC = true))) ∧
    (let cmd := fun (n : Nat) => MEM_NVCMD_CMD.put (MEM_NVCMD_KEY.put 0 0xA5) n
     let op := fun (erase : Bool) => (⟨erase, s.fld MEM_NVADDR MEM_NVADDR_ADDR * 16,
       (List.range 4).map (fun k => s.rd (MEM_NVDATA k))⟩ : NvmOp)
     (accepted .coachman MEM_NVCMD (cmd 1) s = true → ∃ t, exec (.nvmProgram .coachman) s = .next t ∧
        t.nvm = some (op false) ∧ t.flag MEM_NVSTAT MEM_NVSTAT_BUSY = true ∧ t.mem = s.mem) ∧
     (accepted .coachman MEM_NVCMD (cmd 2) s = true → ∃ t, exec (.nvmErase .coachman) s = .next t ∧
        t.nvm = some (op true) ∧ t.flag MEM_NVSTAT MEM_NVSTAT_BUSY = true ∧ t.mem = s.mem)) ∧
    (∀ a data, s.nvm = some ⟨false, a, data⟩ → data.length = 4 →
      (∃ t, exec (.nvmCommandDone false) s = .next t ∧ t.nvm = none ∧ t.flag MEM_NVSTAT MEM_NVSTAT_BUSY = false ∧
        t.flag MEM_NVSTAT MEM_NVSTAT_DONE = true ∧
        ∀ x, t.byte x = if a ≤ x ∧ x < a + 16 then
          BitVec.ofNat 8 ((data.getD ((x - a) / 4) 0).toNat / 256 ^ ((x - a) % 4)) else s.byte x) ∧
      (∃ t, exec (.nvmCommandDone true) s = .next t ∧ t.nvm = none ∧ t.flag MEM_NVSTAT MEM_NVSTAT_ERR = true ∧
        t.evPending (evMem 4) = true ∧ ∀ x, (x < a ∨ a + 16 ≤ x) → t.byte x = s.byte x)) ∧
    (∀ a data b, s.nvm = some ⟨true, a, data⟩ → ∃ t, exec (.nvmCommandDone b) s = .next t ∧ t.nvm = none ∧
      t.flag MEM_NVSTAT MEM_NVSTAT_DONE = true ∧
      ∀ x, t.byte x = if x < 0x01000000 ∧ x / 0x10000 = a / 0x10000 then 0xFF else s.byte x) ∧
    (∀ (v : View) (source : BitVec 8), accepted v EVT_RAISE (BitVec.ofNat 32 source.toNat) s = true →
      ∃ t, exec (.evtRaise v source) s = .next t ∧ t.evPending source.toNat = true ∧
        (s.flag (EVT_CFG source.toNat) EVT_CFG_WEN = true → t.wakePending source.toNat = true))


/-! ### The Coupler: links, seats and routes (R296 to R303, R312) -/

/-- Links and routes (R287, R296, R299, R302, R303). An enabled port that comes up is shown and reported, and a hitched device
sends its OFFER, where HEN is set, and then an ADVERT on it. A port that is lost is shown with its register at reset and
reported; of the valid routes that use it as their first port, those with an alternative on another port use that, and the
others become invalid. The periodic ADVERT carries the hop counts of the 32 seats. A received ADVERT is kept, and each route to
another seat that no write has set follows the neighbours' counts, by the fewest hops and the lowest port. -/
def Rules.LinksAndRoutes : Prop :=
  ∀ (s : State) (p : Fin 4), s.awake = true →
    (s.portUp p = false → s.flag (CPL_PORT p) CPL_PORT_EN = true → s.flag SYS_CLK SYS_CLK_SLOCK = true →
      ∃ t, exec (.portUp p) s = .next t ∧ t.portUp p = true ∧ t.flag CPL_STAT CPL_STAT_LINKCHG = true ∧
        t.evPending (evCom 10) = true ∧
        (s.hitched = true → ∃ f, f.cls = 3 ∧ f.kind = 0x13 ∧ f.port = some p.val ∧ t.cpl.ownQ = s.cpl.ownQ ++
          (if s.flag CPL_CFG CPL_CFG_HEN then
            [{ cls := 3, kind := 0x10, payload := leBytes 16 s.cpl.challenge.toNat, port := some p.val }] else []) ++ [f])) ∧
    (s.portUp p = true →
      (∃ t, exec (.portDown p) s = .next t ∧ t.portUp p = false ∧ t.flag (CPL_PORT p) CPL_PORT_EN = false ∧
        t.flag CPL_STAT CPL_STAT_LINKCHG = true ∧
        t.evPending (evCom 10) = true ∧
        ∀ d, 1 ≤ d → d ≤ 32 → s.routed d = true → s.flag (routeOf d) CPL_ROUTE_ACTALT = false →
          s.fld (routeOf d) CPL_ROUTE_PRI = p →
          if s.flag (routeOf d) CPL_ROUTE_ALTV = true ∧ s.fld (routeOf d) CPL_ROUTE_ALT ≠ p then
            t.routed d = true ∧ t.routePort d = s.fld (routeOf d) CPL_ROUTE_ALT
          else t.routed d = false) ∧
      (∃ t, exec (.advertSend p) s = .next t ∧ t.regs = s.regs ∧ ∃ f, t.cpl.ownQ = s.cpl.ownQ ++ [f] ∧ f.cls = 3 ∧
        f.kind = 0x13 ∧ f.port = some p.val ∧ f.payload = (List.range 32).map (fun k => BitVec.ofNat 8 (s.hopsTo (k + 1)))) ∧
      (∀ counts : List Nat, counts.length = 32 → ∃ t, exec (.advert p counts) s = .next t ∧
        (t.pt p).adv = counts.map (fun n => min n 31) ∧
        ∀ d, 1 ≤ d → d ≤ 32 → d ≠ s.seat → s.flag (routeOf d) CPL_ROUTE_MAN = false →
          let best := (s.upPorts.map (fun q => (t.pt q).adv.getD (d - 1) 31)).foldl min 31
          let q := t.fld (routeOf d) CPL_ROUTE_PRI
          t.routed d = decide (best + 1 < 31) ∧
          (best + 1 < 31 → t.fld (routeOf d) CPL_ROUTE_HOPS = min (best + 1) 15 ∧ s.portUp q = true ∧
            (t.pt q).adv.getD (d - 1) 31 = best ∧
            ∀ r, r < q → s.portUp r = true → best < (t.pt r).adv.getD (d - 1) 31)))

/-- Hitching (R299 to R301, R312, R320). HEN written to 1 puts an unhitched head into seat 1, and it offers on its ports; a head
that hears an OFFER of another head reports it; a device without a seat answers an OFFER with its serial, its code and the seat
asked for. The head shows a lone ANSWER under ADMEN, and without ADMEN grants the seat asked for if it is free. A granted device
takes its seat, has the seat word written where it differs, and offers on its other ports. Word 7 of the key starts the check of
an ANSWER that is shown, and otherwise clears the key; a check clears the key and, with the right code, grants the seat asked for
if it is free; a wrong code, or no key in time, is reported. The head frees a granted seat that is unreachable and not struck. A
device that reaches no other seat gives up its own and reports it. -/
def Rules.Hitching : Prop :=
  ∀ (s : State) (p : Fin 4), s.awake = true →
    (∀ v, accepted v CPL_CFG (withField s CPL_CFG CPL_CFG_HEN 1) s = true → ∃ t, exec (.hen v) s = .next t ∧
      t.flag CPL_CFG CPL_CFG_HEN = true ∧
      (s.flag CPL_CFG CPL_CFG_HEN = false → s.isHead = true → s.hitched = false → s.cpl.uncoupled = false →
        t.seat = 1 ∧ t.hitched = true ∧ ∀ q, s.portUp q = true → q < 4 → ∃ f ∈ t.cpl.ownQ, f.kind = 0x10 ∧ f.port = some q ∧
          f.payload = leBytes 16 t.cpl.challenge.toNat)) ∧
    (s.portUp p = true →
      (∀ ch hs, s.isHead = true → ∃ t, exec (.offer p true ch hs) s = .next t ∧
        t.flag CPL_STAT CPL_STAT_HEADERR = true ∧ t.evPending (evCom 10) = true) ∧
      (∀ b ch (hs : BitVec 64), s.isHead = false → s.seat = 0 → s.flag CPL_CFG CPL_CFG_HEN = true → s.cpl.uncoupled = false →
        ∃ t, exec (.offer p b ch hs) s = .next t ∧ t.regs = s.regs ∧ (t.pt p).answered = true ∧
          ∃ f, t.cpl.ownQ = s.cpl.ownQ ++ [f] ∧ f.cls = 3 ∧ f.kind = 0x11 ∧ f.port = some p.val ∧
            f.payload = leBytes 8 s.serial ++
              (hmac ownSecret (leBytes 16 ch.toNat ++ leBytes 8 s.serial ++ leBytes 8 hs.toNat)).take 16 ++
              leBytes 1 s.seatWord.toNat) ∧
      (∀ sn code (seat : Fin 64), s.isHead = true → s.hitched = true → s.cpl.answers = [] →
        ∃ t, exec (.answer p sn code seat) s = .next t ∧
          (s.flag CPL_CFG CPL_CFG_ADMEN = true → t.flag CPL_STAT CPL_STAT_ADMPEND = true ∧
            t.cpl.answers = [⟨p, sn, code, seat⟩] ∧ (t.rd (CPL_ADMSN 0)).toNat = sn.toNat % 2 ^ 32 ∧
            (t.rd (CPL_ADMSN 1)).toNat = sn.toNat / 2 ^ 32 ∧ t.cpl.granted = s.cpl.granted) ∧
          (s.flag CPL_CFG CPL_CFG_ADMEN = false → s.seatFree seat = true → seat.val ∈ t.cpl.granted ∧
            ∃ f, t.cpl.ownQ = s.cpl.ownQ ++ [f] ∧ f.kind = 0x12 ∧ f.port = some p.val ∧
              f.payload = [BitVec.ofNat 8 seat.val])) ∧
      (∀ seat : Fin 64, (s.pt p).answered = true → s.seat = 0 → s.cpl.uncoupled = false → 1 ≤ seat.val → seat.val ≤ 32 →
        ∃ t, exec (.grant p seat) s = .next t ∧ t.seat = seat.val ∧ t.hitched = true ∧
          (s.seatWord ≠ BitVec.ofNat 32 seat.val → t.cpl.seatWrite = some (BitVec.ofNat 32 seat.val)) ∧
          ∀ q, q < 4 → q ≠ p.val → s.portUp q = true → ∃ f ∈ t.cpl.ownQ, f.kind = 0x10 ∧ f.port = some q ∧
            f.payload = leBytes 16 s.cpl.challenge.toNat)) ∧
    (∀ v w, accepted v (CPL_ADMKEY 7) w s = true → ∃ t, exec (.admissionKeyWrite v w) s = .next t ∧
      (s.flag CPL_STAT CPL_STAT_ADMPEND = true → t.cpl.checking = true ∧ t.rd (CPL_ADMKEY 7) = w) ∧
      (s.flag CPL_STAT CPL_STAT_ADMPEND = false → ∀ k, k < 8 → t.rd (CPL_ADMKEY k) = 0)) ∧
    (∀ a rest, s.cpl.answers = a :: rest → s.flag CPL_CFG CPL_CFG_ADMEN = true →
      let failed := fun (t : State) => t.flag CPL_STAT CPL_STAT_ADMFAIL = true ∧ t.evPending (evCom 10) = true ∧
        t.cpl.granted = s.cpl.granted
      (s.cpl.checking = true → ∃ t, exec .admissionCheckDone s = .next t ∧ t.cpl.answers = rest ∧ t.cpl.checking = false ∧
        (∀ k, k < 8 → t.rd (CPL_ADMKEY k) = 0) ∧
        (if leNat ((hmac ((List.range 8).flatMap (fun k => wordBytes (s.rd (CPL_ADMKEY k))))
            (leBytes 16 s.cpl.challenge.toNat ++ leBytes 8 a.serial.toNat ++ leBytes 8 s.serial)).take 16) = a.code.toNat then
          s.seatFree a.seat = true → a.seat ∈ t.cpl.granted else failed t)) ∧
      (s.cpl.checking = false → s.flag CPL_STAT CPL_STAT_ADMPEND = true → ∃ t, exec .admissionTimeout s = .next t ∧
        t.cpl.answers = rest ∧ failed t)) ∧
    (∀ seat : Fin 64, s.isHead = true → seat.val ∈ s.cpl.granted → s.routed seat = false →
      s.cpl.struck.getLsbD (seat.val - 1) = false → ∃ t, exec (.seatFreed seat) s = .next t ∧ t.regs = s.regs ∧
        ∀ d, d ∈ t.cpl.granted ↔ d ∈ s.cpl.granted ∧ d ≠ seat.val) ∧
    (s.hitched = true → (∀ d, 1 ≤ d → d ≤ 32 → d ≠ s.seat → s.routed d = false) → ∃ t, exec .detach s = .next t ∧
      t.seat = 0 ∧ t.hitched = false ∧ t.evPending (evCom 10) = true)

/-- The Coupler's links, routes and seats (R296, R299 to R303, R312). -/
def Obligations.LinksAndSeats : Prop := Rules.LinksAndRoutes ∧ Rules.Hitching

/-! ### The Coupler: frames (R297, R298, R304 to R310) -/

/-- Remote accesses (R29, R298, R304, R307). A WR delivered from a seat writes a register of SYS_SCRATCH or of the temperature,
self-test or PMU pages through the Passenger view, no hardware update meeting it, and a RD reads it; each is answered with
status 0, and with status 1 where the target is unmapped. An ACK of an outstanding store or Freight message frees its tag; a
failed store waits as an imprecise error where the Troika cannot take it, and a Freight message is counted as done or dropped. An
RDR of status 0 for an outstanding load frees its tag and puts the rotated word into the register. A transaction without an answer
is reported and its tag held; a held tag becomes free after a further time. -/
def Rules.Transactions : Prop :=
  ∀ (s : State) (f : Frame),
    (Delivered 1 f s → f.src.val ≤ 32 →
      (∀ o c ix w, foldOff f.arg.toNat = some o → (o = SYS_SCRATCH ∨ 29 ≤ o / 0x10000) → f.arg.toNat % 4 = 0 → regAt o = some (c, ix) →
        f.payload = wordBytes w → accepted .passenger o w s = true → (∀ x ∈ c.fields, x.ty ≠ .sq) →
        ∃ t, exec (.wrFrame f noUpdate) s = .next t ∧ t.rd o = writtenWord .passenger o w s ∧ (∀ x, x ≠ o → t.rd x = s.rd x) ∧
          t.cpl.ownQ = s.cpl.ownQ ++ [{ cls := 1, dst := f.src, kind := 0x02, tag := f.tag }]) ∧
      (remoteOk f.arg.toNat = false → ∃ t, exec (.wrFrame f noUpdate) s = .next t ∧ t.regs = s.regs ∧
        t.cpl.ownQ = s.cpl.ownQ ++ [{ cls := 1, dst := f.src, kind := 0x02, tag := f.tag, arg := 1 }])) ∧
    (Delivered 3 f s → f.src.val ≤ 32 →
      (∀ o c ix, foldOff f.arg.toNat = some o → (o = SYS_SCRATCH ∨ 29 ≤ o / 0x10000) → f.arg.toNat % 4 = 0 → regAt o = some (c, ix) →
        c.coach = false → (∀ x ∈ c.fields, x.coach = false ∧ x.readsZero = false) →
        ∃ t, exec (.rdFrame f) s = .next t ∧ t.regs = s.regs ∧ t.cpl.ownQ = s.cpl.ownQ ++
          [{ cls := 1, dst := f.src, kind := 0x04, tag := f.tag, payload := wordBytes (s.rd o) }]) ∧
      (remoteOk f.arg.toNat = false → ∃ t, exec (.rdFrame f) s = .next t ∧ t.regs = s.regs ∧
        t.cpl.ownQ = s.cpl.ownQ ++ [{ cls := 1, dst := f.src, kind := 0x04, tag := f.tag, arg := 1 }])) ∧
    (Delivered 2 f s → 1 ≤ f.tag.val → s.troika.wait = .none → s.troika.imprecise = [] →
      (∀ addr, s.tagOf f.tag = .store f.src addr → ∃ t, exec (.ackFrame f) s = .next t ∧ t.tagOf f.tag = .free ∧
        (f.arg.toNat % 4 = 0 → t.troika = s.troika) ∧
        (f.arg.toNat % 4 ≠ 0 → s.trkIssues = false → t.troika.imprecise = [addr])) ∧
      (s.tagOf f.tag = .freight f.src → ∃ t, exec (.ackFrame f) s = .next t ∧ t.tagOf f.tag = .free ∧
        (f.arg.toNat % 4 = 0 → t.fld CPL_CNT CPL_CNT_FDONE = (s.fld CPL_CNT CPL_CNT_FDONE + 1) % 256) ∧
        (f.arg.toNat % 4 ≠ 0 → t.fld CPL_CNT CPL_CNT_DROP = min (s.fld CPL_CNT CPL_CNT_DROP + 1) 65535))) ∧
    (Delivered 4 f s → 1 ≤ f.tag.val → s.troika.imprecise = [] → s.troika.haltWanted = none → ∀ rt rot addr, s.tagOf f.tag = .load f.src rt rot addr →
      f.arg.toNat % 4 = 0 → ∃ t, exec (.rdrFrame f) s = .next t ∧ t.tagOf f.tag = .free ∧ t.troika.wait = .none ∧
        (t.core .troika).pc = (s.core .troika).pc + 4 ∧
        ∀ r, (t.core .troika).gr r = if r = rt ∧ r ≠ 0 then
          (BitVec.ofNat 32 (leNat (f.payload.take 4))).rotateRight rot else (s.core .troika).gr r) ∧
    (s.awake = true → ∀ tag : Fin 257,
      ((s.tagOf tag).dst?.isSome = true → ∃ t, exec (.transactionTimeout tag) s = .next t ∧ t.tagOf tag = .held ∧
        t.flag CPL_STAT CPL_STAT_TXTO = true ∧ t.fld CPL_CNT CPL_CNT_TXTO = min (s.fld CPL_CNT CPL_CNT_TXTO + 1) 255) ∧
      (s.tagOf tag = .held → ∃ t, exec (.tagHoldEnd tag) s = .next t ∧ t.tagOf tag = .free ∧
        (∀ n, n ≠ tag.val → t.tagOf n = s.tagOf n) ∧ t.regs = s.regs))

/-- Messages (R297, R298, R308 to R310), where Tandem RAM is cleared, nothing befalls port F and no store waits. A delivered EVT
or MSG takes a slot of its class's ring with its header and payload, or is dropped, counted and reported where the ring is full
or has no slots. The first fragment of a Freight message from a seat, with no buffer in use, is written and acknowledged where it
is also the last and lies in Tandem RAM, acknowledged with status 1 where it is the last and does not, and held otherwise. A
buffer is given up after its time, and reported. A launched MSG for another seat joins its class's queue with the payload; a launched
Freight message takes a free tag and joins its queue; at a full queue the launch is reported and not performed. -/
def Rules.Messages : Prop :=
  ∀ (s : State) (f : Frame), s.bringup.uncleared = [] → s.troika.storeBuf = [] →
    (∀ evt : Bool, Delivered (if evt then 5 else 6) f s →
      let stage := decide (f.cls.val = 1)
      let cfg := s.rd (if stage then CPL_RXS else CPL_RXM)
      let ptr := if stage then CPL_RXSP else CPL_RXMP
      let n := CPL_RXM_NSLOT.get cfg
      let w := s.fld ptr CPL_RXMP_WR
      let size := if stage then 288 else 64
      let a := 0x10800000 + 16 * CPL_RXM_BASE.get cfg + size * w
      ∃ t, exec (if evt then .evtFrame f {} else .msgFrame f {}) s = .next t ∧
        (n ≠ 0 → (w + 1) % n ≠ s.fld ptr CPL_RXMP_RD → a + size ≤ 0x10840000 →
          (∀ x, a ≤ x → x < a + size → s.poisoned x = false) →
          t.fld ptr CPL_RXMP_WR = (w + 1) % n ∧ t.evPending (evCom 9) = true ∧
          (∀ k, k < 16 → t.byte (a + k) = (headerBytes f).getD k 0) ∧
          (∀ k, k < f.payload.length → t.byte (a + 16 + k) = f.payload.getD k 0) ∧
          ∀ x, (x < a ∨ a + size ≤ x) → t.byte x = s.byte x) ∧
        ((n = 0 ∨ (w + 1) % n = s.fld ptr CPL_RXMP_RD) → t.flag CPL_STAT CPL_STAT_RXFULL = true ∧ t.evPending (evCom 13) = true ∧
          t.fld CPL_CNT CPL_CNT_DROP = min (s.fld CPL_CNT CPL_CNT_DROP + 1) 65535 ∧ t.mem = s.mem)) ∧
    (Delivered 7 f s → f.src.val ≤ 32 → (∀ k, k < 8 → s.buf k = none) → mget (fun _ => none) s.cpl.stale f.src.val = none → fwrIndex f = 0 →
      ∃ t, exec (.fwrFrame f {}) s = .next t ∧
        (fwrLast f = true → inTandem f.arg f.payload.length = true →
          (∀ x, f.arg.toNat ≤ x → x < f.arg.toNat + f.payload.length → s.poisoned x = false) →
          t.regs = s.regs ∧ (∀ k, k < f.payload.length → t.byte (f.arg.toNat + k) = f.payload.getD k 0) ∧
          (∀ x, (x < f.arg.toNat ∨ f.arg.toNat + f.payload.length ≤ x) → t.byte x = s.byte x) ∧
          t.cpl.ownQ = s.cpl.ownQ ++ [{ cls := 1, dst := f.src, kind := 0x02, tag := f.tag }]) ∧
        (fwrLast f = true → inTandem f.arg f.payload.length = false → t.mem = s.mem ∧
          t.cpl.ownQ = s.cpl.ownQ ++ [{ cls := 1, dst := f.src, kind := 0x02, tag := f.tag, arg := 1 }]) ∧
        (fwrLast f = false → t.mem = s.mem ∧ t.cpl.ownQ = s.cpl.ownQ ∧
          t.buf 0 = some ⟨f.src, fwrFid f, f.tag, none, [(0, f.arg, f.payload)]⟩)) ∧
    (∀ (k : Fin 8) b, s.awake = true → s.buf k = some b → ∃ t, exec (.reassemblyTimeout k) s = .next t ∧ t.buf k = none ∧
      t.flag CPL_STAT CPL_STAT_REASM = true ∧ t.evPending (evCom 13) = true ∧
      mget (fun _ => none) t.cpl.stale b.src = some b.fid) ∧
    (∀ v data, accepted v CPL_TXCTL data s = true →
      let cls := CPL_TXCTL_CLS.get data
      let dst := CPL_TXCTL_DST.get data
      let len := CPL_TXCTL_LEN.get data
      let a := 0x10800000 + 16 * s.fld CPL_TXSRC CPL_TXSRC_OFS
      ∃ t, exec (.launch v data {}) s = .next t ∧
        (16 ≤ (s.cpl.queue cls).length → t.flag CPL_STAT CPL_STAT_TXFULL = true ∧ t.cpl.queue cls = s.cpl.queue cls ∧
          t.evPending (evCom 13) = true) ∧
        ((s.cpl.queue cls).length < 16 → CPL_TXCTL_KIND.get data = 6 → dst ≤ 32 → dst ≠ s.seat →
          (∀ k, k < len → s.poisoned (a + k) = false) → t.cpl.queue cls = s.cpl.queue cls ++
            [{ cls := cls, dst := dst, kind := 6, arg := s.rd CPL_TXDST, payload := s.bytes a len }]) ∧
        ((s.cpl.queue cls).length < 16 → cls = 2 → CPL_TXCTL_KIND.get data = 7 →
          (∀ k, k < len → s.poisoned (a + k) = false) → ∀ n, s.freeTag = some n → t.tagOf n = .freight dst ∧
            ∃ x, t.cpl.freightQ = s.cpl.freightQ ++ [x] ∧ x.tag = n ∧ x.dst = dst ∧ x.kind = 7 ∧
              x.xarg.toNat / 256 = s.cpl.fid % 256 ∧ x.payload = s.bytes a len))

/-- The output of a port that is up, with no transit frames (R304, R305): the one link-control frame waiting for it leaves; the
one Mail message of a device with a seat leaves on the port of its route, and nothing leaves there as Stage before it. -/
def Rules.PortOutput : Prop :=
  ∀ (s : State) (p : Fin 4), s.awake = true → s.portUp p = true → s.cpl.transit = [] →
    (∀ f : TxFrame, s.cpl.ownQ = [f] → f.cls = 3 → f.port = some p.val → f.sent = [] → f.frag = 0 →
      ∃ t, exec (.couplerFrameSent p 3) s = .next t ∧ t.cpl.ownQ = [] ∧ t.regs = s.regs) ∧
    (∀ d pl, d ≤ 32 → s.cpl.ownQ = [] → s.cpl.mailQ = [{ cls := 0, dst := d, kind := 6, payload := pl }] → s.routed d = true →
      d ≠ s.seat → s.routePort d = p → s.seat ≠ 0 → s.cpl.uncoupled = false →
      (∃ t, exec (.couplerFrameSent p 0) s = .next t ∧ t.cpl.mailQ = [] ∧ t.regs = s.regs) ∧
      exec (.couplerFrameSent p 1) s = .next s)

/-- The Coupler's frames (R297, R298, R304, R305, R307 to R310). -/
def Obligations.CouplerFrames : Prop := Rules.Transactions ∧ Rules.Messages ∧ Rules.PortOutput

/-! ### Fabric time, leases and epochs (R311, R316 to R322) -/

/-- Fabric time (R311) at a port that is up: the parent records t1, and at the answer t4 and sends both in a SYNC frame; the child
records t2 and t3, and with the SYNC frame shows the link delay and moves its time by its offset, but at most by 16 taps (the
slew of one exchange, log entry 36). -/
def Rules.FabricTime : Prop :=
  ∀ (s : State) (p : Fin 4), s.awake = true → s.portUp p = true →
    (∀ t1, s.hitched = true → s.timeChild p = true → ∃ t, exec (.timeSync p t1) s = .next t ∧ (t.pt p).t1 = t1 ∧
      t.regs = s.regs) ∧
    (∀ t4, s.timeChild p = true → ∃ t, exec (.timeSyncEcho p t4) s = .next t ∧ (t.pt p).t4 = t4 ∧ t.regs = s.regs ∧
      ∃ f, t.cpl.ownQ = s.cpl.ownQ ++ [f] ∧ f.cls = 3 ∧ f.kind = 0x14 ∧ f.port = some p.val ∧
        f.payload = leBytes 8 (s.pt p).t1 ++ leBytes 8 t4) ∧
    (s.timeParent = some p.val →
      (∀ t2 t3, ∃ t, exec (.timeSyncMark p t2 t3) s = .next t ∧ (t.pt p).t2 = t2 ∧ (t.pt p).t3 = t3 ∧ t.regs = s.regs) ∧
      (∀ t1 t4 : Nat, ∃ t, exec (.sync p t1 t4) s = .next t ∧
        let ofs := ((((s.pt p).t2 : Int) - t1) - ((t4 : Int) - (s.pt p).t3)).fdiv 2
        let delay := ((((s.pt p).t2 : Int) - t1) + ((t4 : Int) - (s.pt p).t3)).fdiv 2
        (t.fld (CPL_PORT p) CPL_PORT_DELAY : Int) = delay % 2 ^ 16 ∧
        t.cpl.ofs = s.cpl.ofs - max (-16) (min 16 ofs)))

/-- Leases and epochs (R316 to R322). A hitched authority with a time-tree port sends its LEASE at each heartbeat, with the grant and
struck masks, and renews its own lease. On a device that is no authority, a LEASE of an authority in the present epoch adds its
struck seats, and renews where it grants the seat; one of a later epoch has its epoch and struck seats adopted and reported. A
lease that expires is reported and every leg is in SAFE; an UNCPL of an authority in a later epoch uncouples the device, with every
leg in SAFE where leases are in force. An accepted declaration strikes its seat, advances the epoch and sends a LEASE. A reset
authority that has heard no LEASE starts epoch 0 with no seat struck. -/
def Rules.Leases : Prop :=
  ∀ s : State, s.awake = true →
    let en := s.flag CPL_LEASE CPL_LEASE_LEN
    (∀ now : Nat, s.hitched = true → s.acts = true → s.cpl.listening = false →
      s.treePorts ≠ [] → ∃ t, exec (.leaseHeartbeat now) s = .next t ∧
        (en = true → s.cpl.uncoupled = false → t.fld CPL_LEASE CPL_LEASE_LSTATE = 1 ∧ t.cpl.renewAt = max s.now now) ∧
        ∃ f, t.cpl.ownQ = s.cpl.ownQ ++ [f] ∧ f.cls = 0 ∧ f.dst = 63 ∧ f.kind = 9 ∧ f.payload.length = 8 ∧
          f.payload.drop 4 = wordBytes s.cpl.struck ∧
          ∀ k, k < 32 → (leNat (f.payload.take 4)).testBit k =
            ((decide (k + 1 = s.seat) || s.flag (CPL_ROUTE k) CPL_ROUTE_VALID) && !s.cpl.struck.getLsbD k)) ∧
    (∀ f : Frame, s.portUp f.port = true → headerOk f = true → f.fcrcOk = true → f.kind = 9 → f.dst.val = 63 → f.hops.val ≠ 0 →
      s.authority f.src = true → s.acts = false → s.cpl.adopted = true → seatIn (leaseStruck f) s.seat = false →
      (f.epoch.toNat = s.epoch → ∃ t, exec (.lease f) s = .next t ∧ t.cpl.struck = s.cpl.struck ||| leaseStruck f ∧
        (seatIn (leaseGrant f) s.seat = true → en = true → s.cpl.uncoupled = false →
          t.fld CPL_LEASE CPL_LEASE_LSTATE = 1 ∧ t.cpl.renewAt = max s.now f.t)) ∧
      (1 ≤ (f.epoch.toNat + 256 - s.epoch) % 256 → (f.epoch.toNat + 256 - s.epoch) % 256 < 128 →
        ∃ t, exec (.lease f) s = .next t ∧ t.epoch = f.epoch.toNat ∧ t.cpl.struck = leaseStruck f ∧
          t.evPending (evCom 12) = true)) ∧
    (en = true → s.fld CPL_LEASE CPL_LEASE_LSTATE = 1 → ∃ t, exec .leaseExpiry s = .next t ∧
      t.fld CPL_LEASE CPL_LEASE_LSTATE = 2 ∧ t.evPending (evCom 11) = true ∧ ∀ l, l < 32 → t.legSafe l ≠ 0) ∧
    (∀ f : Frame, s.portUp f.port = true → headerOk f = true → f.fcrcOk = true → f.kind = 0x0A → f.dst.val = s.seat → s.seat ≠ 0 →
      s.authority f.src = true → s.cpl.adopted = true → 1 ≤ (f.epoch.toNat + 256 - s.epoch) % 256 →
      (f.epoch.toNat + 256 - s.epoch) % 256 < 128 → ∃ t, exec (.uncpl f) s = .next t ∧ t.seat = 0 ∧ t.hitched = false ∧
        t.cpl.uncoupled = true ∧ t.fld CPL_LEASE CPL_LEASE_LSTATE = 3 ∧ t.evPending (evCom 11) = true ∧
        (en = true → ∀ l, l < 32 → t.legSafe l ≠ 0)) ∧
    (∀ v (d : BitVec 6), accepted v CPL_LEASE (CPL_LEASE_DECL.put (CPL_LEASE_DSEAT.put (s.rd CPL_LEASE) d.toNat) 1) s = true →
      ∃ t, exec (.decl v d) s = .next t ∧ t.epoch = (s.epoch + 1) % 256 ∧ t.flag CPL_LEASE CPL_LEASE_DECL = false ∧
        (∀ k, k < 32 → t.cpl.struck.getLsbD k = (s.cpl.struck.getLsbD k || decide (k + 1 = d.toNat))) ∧
        t.evPending (evCom 12) = true ∧
        (s.treePorts ≠ [] → ∃ f, t.cpl.ownQ = s.cpl.ownQ ++ [f] ∧ f.cls = 0 ∧ f.dst = 63 ∧ f.kind = 9 ∧ f.arg = 0xFFFFFFFF)) ∧
    (s.hitched = true → s.acts = true → s.cpl.listening = true → ∃ t, exec .authorityListenExpiry s = .next t ∧
      t.epoch = 0 ∧ t.cpl.struck = 0 ∧ t.cpl.adopted = true ∧ t.cpl.listening = false)

/-- Fabric time, leases and epochs (R311, R316, R317, R319 to R322). -/
def Obligations.TimeAndLeases : Prop := Rules.FabricTime ∧ Rules.Leases


/-! ### The Guard (R326 to R334) -/

/-- Transmission of data frames (R326, R327, R334, R335, R340): each takes the number after the last and has the bytes of R326, with
the check sequence under the connection's identity. The CAN queue of a controller that is enabled and has room takes it, padded
to a data length of CAN FD, and the connection is BUSY; the Ethernet MAC with its link takes it, padded to 46 bytes; the Coupler takes
it at a device with a seat, a way to the destination and room in the queue. A frame that is taken is counted and clears LOST; on a
disabled connection, and where none of these takes it, LOST is set and nothing is counted. -/
def Rules.GuardSends : Prop :=
  ∀ (v : View) (c : Fin 8) (data : Word) (now : Nat) (s : State), accepted v (GRD_TXCTL c) data s = true →
    let len := GRD_TXCTL_LEN.get data
    let last := s.fld (GRD_TXSEQ c) GRD_TXSEQ_LAST
    let seq := if last = 65535 then 1 else last + 1
    let payload := ((List.range 12).flatMap (fun k => wordBytes (s.rd (GRD_TXDATA c k)))).take len
    let dl := (((max s.now now) - s.grdAt) / 256000 + GRD_TXCTL_DLV.get data) % 65536
    let body := leBytes 2 (s.fld (GRD_TXCFG c) GRD_TXCFG_CID) ++ leBytes 2 seq ++ leBytes 2 dl ++ payload
    let frame := body ++ wordBytes (crc32cFrom (s.rd (GRD_TXID c)) body)
    let carr := s.fld (GRD_TXCFG c) GRD_TXCFG_CARR
    ∃ t, exec (.guardTransmit v c data now) s = .next t ∧ t.fld (GRD_TXSEQ c) GRD_TXSEQ_LAST = seq ∧
      let can := carr < 4 ∧ s.flag (CAN_CFG carr) CAN_CFG_EN = true ∧ (s.cn carr).tx.length < 32
      let eth := carr = 4 ∧ s.flag ETH_CFG ETH_CFG_EN = true ∧ s.flag ETH_STAT ETH_STAT_LINK = true
      let cls := if len ≤ 22 then 0 else 1
      let dst := s.fld (GRD_TXADR c) GRD_TXADR_ADDR % 64
      let cpl := carr = 5 ∧ s.seat ≠ 0 ∧ (s.cpl.queue cls).length < 16 ∧ s.outPorts dst 4 ≠ []
      let taken := s.flag (GRD_TXCFG c) GRD_TXCFG_EN = true ∧ (can ∨ eth ∨ cpl)
      (taken → t.flag (GRD_TXCTL c) GRD_TXCTL_LOST = false ∧
        t.fld (GRD_TXSEQ c) GRD_TXSEQ_NSENT = (s.fld (GRD_TXSEQ c) GRD_TXSEQ_NSENT + 1) % 65536 ∧
        (can → t.flag (GRD_TXCTL c) GRD_TXCTL_BUSY = true ∧ ∃ e, (t.cn carr).tx = (s.cn carr).tx ++ [e] ∧ e.conn = some c ∧
          e.frame.fdf = true ∧ e.frame.ide = s.flag (GRD_TXADR c) GRD_TXADR_IDE ∧
          e.frame.id = adrId e.frame.ide (s.fld (GRD_TXADR c) GRD_TXADR_ADDR) ∧ e.frame.data.take (10 + len) = frame ∧
          fdLens.contains e.frame.data.length = true ∧ ∀ b ∈ e.frame.data.drop (10 + len), b = 0) ∧
        (eth → t.eth.guardQ = s.eth.guardQ ++ [frame ++ List.replicate (46 - frame.length) 0]) ∧
        (cpl → t.cpl.queue cls = s.cpl.queue cls ++ [{ cls := cls, dst := dst, kind := 8, payload := frame }])) ∧
      (¬ taken → t.flag (GRD_TXCTL c) GRD_TXCTL_LOST = true ∧
        t.fld (GRD_TXSEQ c) GRD_TXSEQ_NSENT = s.fld (GRD_TXSEQ c) GRD_TXSEQ_NSENT)

/-- Reception of data frames of the connection's length (R328 to R330, R332). A frame whose check sequence fails, and on a command
connection one whose payload R332 refuses, sets CRCF and leaves the number. Of the frames that check: where the connection is not
live, and where the number lies beyond the window, SEQREF is set and the number stays; one of the same number changes no
register; one in the window with a delay out of its limits sets LATE and leaves the number; any other is accepted, with its number,
its expiry, its data and its count, and on a command connection in Full service the command of its Axle is replaced. -/
def Rules.GuardReceives : Prop :=
  ∀ (s : State) (c : Fin 8) (now seq dl : Nat) (pl : List Byte), s.awake = true → s.grdEn c = true →
    pl.length = s.fld (GRD_RXCFG c) GRD_RXCFG_PLEN → pl.length ≠ 8 → pl ≠ [] → 1 ≤ seq → seq ≤ 65535 → dl < 65536 →
    let frame := fun (ident : Word) => guardFrame ident (s.fld (GRD_RXCFG c) GRD_RXCFG_CID) seq dl pl
    let last := s.fld (GRD_RXSEQ c) GRD_RXSEQ_LAST
    let steps := (seq + 65535 - last) % 65535
    let delta : Int := (BitVec.ofNat 16 dl - BitVec.ofNat 16 (s.fld (GRD_RXSEQ c) GRD_RXSEQ_OFFSET) -
      BitVec.ofNat 16 (s.at now).grdTime).toInt
    ((s.frameLen c (frame 0) = none → ∃ t, exec (.guardDataFrame c (frame 0) now) s = .next t ∧
      t.flag (GRD_RXSTAT c) GRD_RXSTAT_CRCF = true ∧ t.evPending (evCom 3) = true ∧
      t.rd (GRD_RXSEQ c) = s.rd (GRD_RXSEQ c)) ∧
    (s.grdCmd c = true → payloadBad pl = true → ∃ t, exec (.guardDataFrame c (frame (s.rd (GRD_RXID c))) now) s = .next t ∧
      t.flag (GRD_RXSTAT c) GRD_RXSTAT_CRCF = true ∧ t.rd (GRD_RXSEQ c) = s.rd (GRD_RXSEQ c)) ∧
    ((s.grdCmd c = true → payloadBad pl = false) →
      ∃ t, exec (.guardDataFrame c (frame (s.rd (GRD_RXID c))) now) s = .next t ∧
        (s.grdState c ≠ grdLIVE → t.flag (GRD_RXSTAT c) GRD_RXSTAT_SEQREF = true ∧ t.evPending (evCom 2) = true ∧
          t.rd (GRD_RXSEQ c) = s.rd (GRD_RXSEQ c)) ∧
        (s.grdState c = grdLIVE → steps = 0 → t.regs = s.regs) ∧
        (s.grdState c = grdLIVE → s.fld (GRD_RXTIM c) GRD_RXTIM_WIN < steps →
          t.flag (GRD_RXSTAT c) GRD_RXSTAT_SEQREF = true ∧ t.rd (GRD_RXSEQ c) = s.rd (GRD_RXSEQ c)) ∧
        (s.grdState c = grdLIVE → 1 ≤ steps → steps ≤ s.fld (GRD_RXTIM c) GRD_RXTIM_WIN →
          (delta < 1 ∨ s.fld (GRD_RXDL c) GRD_RXDL_DMAX < delta → t.flag (GRD_RXSTAT c) GRD_RXSTAT_LATE = true ∧
            t.rd (GRD_RXSEQ c) = s.rd (GRD_RXSEQ c)) ∧
          (1 ≤ delta → delta ≤ s.fld (GRD_RXDL c) GRD_RXDL_DMAX →
            t.fld (GRD_RXSEQ c) GRD_RXSEQ_LAST = seq ∧ (t.gr c).expiry = some ((s.at now).grdTime + delta.toNat) ∧
            t.fld (GRD_RXSTAT c) GRD_RXSTAT_ACNT = (s.fld (GRD_RXSTAT c) GRD_RXSTAT_ACNT + 1) % 256 ∧
            t.flag (GRD_RXSTAT c) GRD_RXSTAT_EXP = false ∧ t.evPending (evCom 0) = true ∧
            (∀ k, k < 12 → t.rd (GRD_RXDATA c k) = BitVec.ofNat 32 (leNat ((pl.drop (4 * k)).take 4))) ∧
            (s.grdCmd c = true → s.full = true →
              let a := s.fld (GRD_RXCFG c) GRD_RXCFG_AXL
              let word := fun k => BitVec.ofNat 32 (leNat ((pl.drop (4 * k)).take 4))
              t.rd (GRD_CMDSET a) = word 0 ∧ t.rd (GRD_CMDMAX a) = word 1 ∧ t.rd (GRD_CMDMIN a) = word 2 ∧
              t.fld (GRD_CMDFLG a) GRD_CMDFLG_FLAGS = (pl.getD 12 0).toNat % 8 ∧
              t.flag (GRD_RXSTAT c) GRD_RXSTAT_ZERO = false)))))

/-- Resynchronisation (R331): a request that was held back makes the connection wait, with a challenge of the Guard time; a request
received for a transmit connection on the Ethernet MAC is answered with its base and the request's challenge; an answer with the
challenge, in its time and with a base that is not 0, makes the connection live with that base and the offset of the two times,
and any other sets SEQREF. -/
def Rules.GuardResync : Prop :=
  ∀ (s : State) (c : Fin 8) (now : Nat), s.awake = true → s.grdEn c = true →
    let p := s.fld (GRD_RXCFG c) GRD_RXCFG_PAIR
    let time := (s.at now).grdTime
    let resync := fun (dl kind base ch : Nat) => guardFrame (s.rd (GRD_RXID c)) (s.fld (GRD_RXCFG c) GRD_RXCFG_CID) 0 dl
      ([BitVec.ofNat 8 kind, 0] ++ leBytes 2 base ++ leBytes 4 ch)
    ((s.gr c).asked = true → (s.at now).mayRequest c = true → s.flag (GRD_TXCFG p) GRD_TXCFG_EN = true →
      ∃ t, exec (.resyncRequestSend c now) s = .next t ∧ t.fld (GRD_RXSTAT c) GRD_RXSTAT_STATE = 1 ∧
        (t.gr c).challenge = some (BitVec.ofNat 32 time) ∧ (t.gr c).reqAt = some time ∧ (t.gr c).asked = false) ∧
    (∀ q dl ch, q < 8 → dl < 65536 → ch < 2 ^ 32 → s.flag (GRD_TXCFG q) GRD_TXCFG_EN = true →
      (∀ r, r < q → s.flag (GRD_TXCFG r) GRD_TXCFG_EN = true →
        s.fld (GRD_TXCFG r) GRD_TXCFG_CID ≠ s.fld (GRD_TXCFG q) GRD_TXCFG_CID) →
      s.fld (GRD_TXCFG q) GRD_TXCFG_CARR = 4 → s.flag ETH_CFG ETH_CFG_EN = true → s.flag ETH_STAT ETH_STAT_LINK = true →
      ∃ t, exec (.resyncRequestFrame c (resync dl 1 (s.fld (GRD_TXCFG q) GRD_TXCFG_CID) ch) now) s = .next t ∧
        ∃ f, t.eth.guardQ = s.eth.guardQ ++ [f] ∧ f.take 18 = guardFrame (s.rd (GRD_TXID q))
          (s.fld (GRD_TXCFG q) GRD_TXCFG_CID) 0 (time % 65536)
          ([2, 0] ++ leBytes 2 (if s.fld (GRD_TXSEQ q) GRD_TXSEQ_LAST = 0 then 65535 else s.fld (GRD_TXSEQ q) GRD_TXSEQ_LAST) ++
            leBytes 4 ch)) ∧
    (∀ dl base ch, dl < 65536 → base < 65536 → (s.gr c).challenge = some (BitVec.ofNat 32 ch) → ch < 2 ^ 32 →
      ∃ t, exec (.resyncAnswerFrame c (resync dl 2 base ch) now) s = .next t ∧
        (if base ≠ 0 ∧ time - ch ≤ s.fld (GRD_RXDL c) GRD_RXDL_RTTMAX then
          t.fld (GRD_RXSTAT c) GRD_RXSTAT_STATE = 2 ∧ t.fld (GRD_RXSEQ c) GRD_RXSEQ_LAST = base ∧
          (t.fld (GRD_RXSEQ c) GRD_RXSEQ_OFFSET + time) % 65536 = dl ∧ (t.gr c).challenge = none ∧
          t.flag (GRD_RXSTAT c) GRD_RXSTAT_RSYNC = true ∧ t.evPending (evCom 2) = true
        else t.flag (GRD_RXSTAT c) GRD_RXSTAT_SEQREF = true ∧ t.rd (GRD_RXSEQ c) = s.rd (GRD_RXSEQ c)))

/-- Expiry (R333): an expiry instant that is reached is shown and reported; after the hold, in Full service, a step of the window
moves both limits of the command toward zero by a hundredth of RAMP, keeps a torque setpoint between them, and at two limits of
zero shows ZERO. -/
def Rules.GuardExpiry : Prop :=
  ∀ (s : State) (c : Fin 8) (now : Nat), s.awake = true →
    (∀ e, (s.gr c).expiry = some e → e ≤ (s.at now).grdTime → ∃ t, exec (.deadlineExpiry c now) s = .next t ∧
      t.flag (GRD_RXSTAT c) GRD_RXSTAT_EXP = true ∧ t.flag (GRD_RXSTAT c) GRD_RXSTAT_EXPF = true ∧
      t.evPending (evCom 1) = true ∧ (t.gr c).expiry = none ∧ t.rd (GRD_RXSEQ c) = s.rd (GRD_RXSEQ c)) ∧
    (s.grdCmd c = true → s.flag (GRD_RXSTAT c) GRD_RXSTAT_EXP = true → s.flag (GRD_RXSTAT c) GRD_RXSTAT_ZERO = false →
      (s.gr c).stepAt < (s.at now).grdTime → s.full = true →
      let a := s.fld (GRD_RXCFG c) GRD_RXCFG_AXL
      let step : Int := s.fld (GRD_RXTIM c) GRD_RXTIM_RAMP * 65536 / 100
      let narrow := fun (x : Int) => if 0 ≤ x then max 0 (x - step) else min 0 (x + step)
      ∃ t, exec (.windowNarrowing c now) s = .next t ∧
        t.rd (GRD_CMDMAX a) = BitVec.ofInt 32 (narrow (s.rd (GRD_CMDMAX a)).toInt) ∧
        t.rd (GRD_CMDMIN a) = BitVec.ofInt 32 (narrow (s.rd (GRD_CMDMIN a)).toInt) ∧
        (s.grdMode a = false → t.rd (GRD_CMDSET a) = BitVec.ofInt 32 (max (narrow (s.rd (GRD_CMDMIN a)).toInt)
          (min (narrow (s.rd (GRD_CMDMAX a)).toInt) (s.rd (GRD_CMDSET a)).toInt))) ∧
        (t.rd (GRD_CMDMAX a) = 0 → t.rd (GRD_CMDMIN a) = 0 → t.flag (GRD_RXSTAT c) GRD_RXSTAT_ZERO = true) ∧
        (t.gr c).stepAt = (s.gr c).stepAt + 1)

/-- The Guard (R326 to R334). -/
def Obligations.GuardConnections : Prop :=
  Rules.GuardSends ∧ Rules.GuardReceives ∧ Rules.GuardResync ∧ Rules.GuardExpiry


/-! ### CAN FD and Ethernet (R338 to R350) -/

/-- CAN queues (R338, R340, R345): a push joins the staged frame to a queue with room, or reports it full; an abort removes the head
at once, or is kept while that is in transmission; a frame sent leaves, is counted and reported, and a Guard connection that
waited with it is no longer BUSY; at lost arbitration the head leaves for an abort that is kept, or without automatic
retransmission, and stays otherwise. -/
def Rules.CanSends : Prop :=
  ∀ (s : State) (n : Fin 4),
    let tx := (s.cn n).tx
    (∀ v, accepted v (CAN_TXCTL n) (withField s (CAN_TXCTL n) CAN_TXCTL_PUSH 1) s = true →
      s.flag (CAN_TXCTL n) CAN_TXCTL_ABORT = false → ∃ t, exec (.push v n) s = .next t ∧
        (tx.length < 32 → t.fld (CAN_TXCTL n) CAN_TXCTL_LEVEL = tx.length + 1 ∧
          let h := s.rd (CAN_TXHDR n)
          let f : CanFrame := {
            ide := s.flag (CAN_TXID n) CAN_TXID_IDE, fdf := CAN_TXHDR_FDF.bit h, brs := CAN_TXHDR_BRS.bit h,
            id := BitVec.ofNat 29 (s.fld (CAN_TXID n) CAN_TXID_ID),
            data := ((List.range 16).flatMap (fun k => wordBytes (s.rd (CAN_TXDATA n k)))).take (CAN_TXHDR_LEN.get h) }
          (t.cn n).tx = tx ++ [{ frame := f }]) ∧
        (32 ≤ tx.length → (t.cn n).tx = tx ∧ t.flag (CAN_STAT n) CAN_STAT_TXFULL = true ∧ t.evPending (evCom (4 + n)) = true)) ∧
    (∀ v inTx e rest, accepted v (CAN_TXCTL n) (withField s (CAN_TXCTL n) CAN_TXCTL_ABORT 1) s = true →
      s.flag (CAN_TXCTL n) CAN_TXCTL_PUSH = false → tx = e :: rest → ∃ t, exec (.abort v n inTx) s = .next t ∧
        (inTx = true → (t.cn n).tx = tx ∧ (t.cn n).abortPending = true) ∧
        (inTx = false → (t.cn n).tx = rest ∧ t.flag (CAN_STAT n) CAN_STAT_ABORTED = true)) ∧
    (∀ e rest, s.canActive n = true → tx = e :: rest →
      (∃ t, exec (.txdone n) s = .next t ∧ (t.cn n).tx = rest ∧ t.flag (CAN_STAT n) CAN_STAT_TXDONE = true ∧
        t.evPending (evCom (4 + n)) = true ∧ (∀ c, e.conn = some c → t.flag (GRD_TXCTL c) GRD_TXCTL_BUSY = false) ∧
        t.fld (CAN_TXCTL n) CAN_TXCTL_SENT = (s.fld (CAN_TXCTL n) CAN_TXCTL_SENT + 1) % 256) ∧
      (∃ t, exec (.lostArbitration n) s = .next t ∧
        ((s.cn n).abortPending = true → (t.cn n).tx = rest ∧ t.flag (CAN_STAT n) CAN_STAT_ABORTED = true) ∧
        ((s.cn n).abortPending = false → s.flag (CAN_CFG n) CAN_CFG_DAR = true → (t.cn n).tx = rest) ∧
        ((s.cn n).abortPending = false → s.flag (CAN_CFG n) CAN_CFG_DAR = false → t = s)))

/-- CAN reception (R341, R342) of frames that no Guard connection takes: a frame joins the queue that its filter names, with its
instant and the filter's number, and is reported; at a full queue it is counted, and is lost or takes the place of the oldest; one
that no filter takes is counted. The head leaves by its own tag only. -/
def Rules.CanReceives : Prop :=
  ∀ (s : State) (n : Fin 4),
    (∀ (f : CanFrame) (sof : Nat), s.canActive n = true → (f.fdf = true → s.flag (CAN_CFG n) CAN_CFG_FDEN = true) →
      s.grdCanMatch n f = none → ∃ t, exec (.canFrameReceived n f sof) s = .next t ∧
        (s.canFilter n f = none → t.flag (CAN_STAT n) CAN_STAT_NOMATCH = true ∧
          t.fld (CAN_CNT n) CAN_CNT_NOMATCH = min (s.fld (CAN_CNT n) CAN_CNT_NOMATCH + 1) 65535) ∧
        ∀ k, s.canFilter n f = some k →
          let b := s.flag (CAN_FLTMATCH n k) CAN_FLTMATCH_DEST
          let q := s.canQ n b
          (q.length < 64 → t.evPending (evCom (4 + n)) = true ∧
            t.flag (CAN_STAT n) (if b then CAN_STAT_RXB else CAN_STAT_RXA) = true ∧
            t.canQ n (!b) = s.canQ n (!b) ∧ t.flag (CAN_RXHDR n (b2n b)) CAN_RXHDR_ND = true ∧
            ∃ e, t.canQ n b = q ++ [e] ∧ e.frame = f ∧ e.filt = k ∧ e.ts = ((sof : Int) + s.cpl.ofs).toNat / 32 % 2 ^ 32) ∧
          (64 ≤ q.length → t.flag (CAN_STAT n) CAN_STAT_RXLOST = true ∧
            t.fld (CAN_CNT n) CAN_CNT_LOST = min (s.fld (CAN_CNT n) CAN_CNT_LOST + 1) 65535 ∧
            (s.flag (CAN_CFG n) (if b then CAN_CFG_OVWB else CAN_CFG_OVWA) = false → t.canQ n b = q) ∧
            (s.flag (CAN_CFG n) (if b then CAN_CFG_OVWB else CAN_CFG_OVWA) = true → ∃ e, t.canQ n b = q.tail ++ [e] ∧
              e.frame = f))) ∧
    (∀ v b (tag : BitVec 8) e rest, accepted v (CAN_RXPOP n (b2n b)) (BitVec.ofNat 32 tag.toNat) s = true →
      s.canQ n b = e :: rest → ∃ t, exec (.canPop v n b tag) s = .next t ∧
        t.canQ n b = (if e.tag = tag.toNat then rest else e :: rest))

/-- CAN errors and the time master (R338, R339, R344): after a bus error the counts are those that the command gives, with
error-passive from 128 and bus-off above 255, which is reported; a protocol exception is shown where it is handled. The end of
bus-off clears the counts, and the end of integration keeps them where they are no bus-off. A reference message that is sent
counts and notes its instant, and a skipped one is shown. -/
def Rules.CanErrors : Prop :=
  ∀ (s : State) (n : Fin 4),
    (∀ e : CanErr, s.canActive n = true →
      (e.protExc = false → ∃ t, exec (.canBusError n e) s = .next t ∧ t.fld (CAN_ERR n) CAN_ERR_TEC = e.tec.toNat ∧
        t.fld (CAN_ERR n) CAN_ERR_REC = e.recv.toNat ∧
        t.fld (CAN_ERR n) CAN_ERR_STATE =
          (if 255 < e.tec.toNat then 2 else if 127 < e.tec.toNat ∨ 127 < e.recv.toNat then 1 else 0) ∧
        (255 < e.tec.toNat → t.flag (CAN_STAT n) CAN_STAT_BUSOFF = true ∧ t.evPending (evCom (4 + n)) = true)) ∧
      (e.protExc = true → s.flag (CAN_CFG n) CAN_CFG_PXHE = true → ∃ t, exec (.canBusError n e) s = .next t ∧
        t.flag (CAN_STAT n) CAN_STAT_PROTEXC = true)) ∧
    (s.awake = true → s.flag (CAN_CFG n) CAN_CFG_EN = true → s.flag SYS_CLK SYS_CLK_XOK = true →
      2 ≤ s.fld (CAN_ERR n) CAN_ERR_STATE →
      let kept := s.fld (CAN_ERR n) CAN_ERR_STATE = 3 ∧ s.fld (CAN_ERR n) CAN_ERR_TEC < 256
      let tec := if kept then s.fld (CAN_ERR n) CAN_ERR_TEC else 0
      let rec_ := if kept then s.fld (CAN_ERR n) CAN_ERR_REC else 0
      ∃ t, exec (.busOffRecovery n) s = .next t ∧ t.fld (CAN_ERR n) CAN_ERR_TEC = tec ∧ t.fld (CAN_ERR n) CAN_ERR_REC = rec_ ∧
        t.fld (CAN_ERR n) CAN_ERR_STATE = if 127 < tec ∨ 127 < rec_ then 1 else 0) ∧
    (s.canActive n = true → s.flag (CAN_TMCFG n) CAN_TMCFG_TMEN = true →
      (∃ t, exec (.referenceMessage n .skipped) s = .next t ∧ t.flag (CAN_STAT n) CAN_STAT_REFSKIP = true ∧
        (t.cn n).refCount = (s.cn n).refCount) ∧
      ∀ sof : Nat, ∃ t, exec (.referenceMessage n (.sent sof)) s = .next t ∧
        (t.cn n).refCount = ((s.cn n).refCount + 1) % 65536 ∧
        (t.cn n).refPrev = some (((sof : Int) + s.cpl.ofs).toNat / 32))

/-- The CAN controllers (R338 to R345). -/
def Obligations.CanControllers : Prop := Rules.CanSends ∧ Rules.CanReceives ∧ Rules.CanErrors

/-- Ethernet (R251, R347, R349, R350), where Tandem RAM is cleared, nothing befalls port F and no store waits. A good frame of a legal
length, not of pause or Guard type, that the address filter takes goes to the buffer of the descriptor in front if the MAC owns
that, and is counted and reported if not; one that the filter does not take changes nothing; frames with errors and of other
lengths are counted. A frame boundary sends the Guard's frames first; then a scan of the ring returns the descriptor in front, or
ends where the MAC does not own it; KICK starts the scan. The MDIO port is busy until its operation ends, and a read shows its
data. A link change is shown and reported. -/
def Obligations.EthernetMac : Prop :=
  ∀ s : State, s.awake = true → s.bringup.uncleared = [] → s.troika.storeBuf = [] →
    let owned := fun (a : Nat) => region a = .tandem ∧ (s.word32 a).getLsbD 31 = true
    let good := fun (a : Nat) => ∀ x, a ≤ x → x < a + 16 → s.poisoned x = false
    (∀ (f : EthFrame) (ts : Nat), s.ethUp = true →
      let ring := s.rd ETH_RXR
      let n := ETH_RXR_NDESC.get ring
      let a := 0x10800000 + 16 * ETH_RXR_BASE.get ring + 16 * s.eth.rxIdx
      let buf := 0x10800000 + 16 * ((s.word32 (a + 4)).toNat % 2 ^ 14)
      let body := leBytes 6 f.dst.toNat ++ leBytes 6 f.src.toNat ++ [byteOf f.etherType 1, byteOf f.etherType 0] ++ f.payload
      let len := body.length + 4 + (if f.tag.isSome then 4 else 0)
      ∃ t, exec (.ethFrameReceived f ts {}) s = .next t ∧
        (f.good = false → t.flag ETH_STAT ETH_STAT_RXERR = true ∧
          t.fld ETH_CNT ETH_CNT_RXERR = min (s.fld ETH_CNT ETH_CNT_RXERR + 1) 65535) ∧
        (f.good = true → (len < 64 ∨ 1522 < len) → t.flag ETH_STAT ETH_STAT_RXERR = true ∧
          t.fld ETH_CNT ETH_CNT_RXDROP = min (s.fld ETH_CNT ETH_CNT_RXDROP + 1) 65535) ∧
        (f.good = true → 64 ≤ len → len ≤ 1522 → f.etherType ≠ 0x8808 → f.etherType ≠ 0x88B5 →
          (s.ethAccepts f = false → t.regs = s.regs ∧ t.mem = s.mem) ∧
          (s.ethAccepts f = true → (n = 0 ∨ ¬ owned a) →
            t.flag ETH_STAT ETH_STAT_RXNOBUF = true ∧ t.mem = s.mem ∧
            t.fld ETH_CNT ETH_CNT_RXDROP = min (s.fld ETH_CNT ETH_CNT_RXDROP + 1) 65535) ∧
          (s.ethAccepts f = true → n ≠ 0 → owned a → good a → buf + body.length ≤ 0x10840000 →
            (∀ x, buf ≤ x → x < buf + body.length → s.poisoned x = false) → (a + 16 ≤ buf ∨ buf + body.length ≤ a) →
            t.flag ETH_STAT ETH_STAT_RXF = true ∧ t.evPending (evCom 8) = true ∧ t.eth.rxIdx = (s.eth.rxIdx + 1) % n ∧
            (t.word32 a).getLsbD 31 = false ∧ (t.word32 a).toNat % 2 ^ 11 = body.length ∧
            (∀ k, k < body.length → t.byte (buf + k) = body.getD k 0) ∧
            ∀ x, (x < buf ∨ buf + body.length ≤ x) → (x < a ∨ a + 16 ≤ x) → t.byte x = s.byte x))) ∧
    (∀ ts : Nat, s.ethUp = true →
      let ring := s.rd ETH_TXR
      let n := ETH_TXR_NDESC.get ring
      let a := 0x10800000 + 16 * ETH_TXR_BASE.get ring + 16 * s.eth.txIdx
      ∃ t, exec (.ethFrameSent ts {}) s = .next t ∧
        (∀ g rest, s.eth.guardQ = g :: rest → t.eth.guardQ = rest ∧ t.mem = s.mem ∧ t.eth.txIdx = s.eth.txIdx) ∧
        (s.eth.guardQ = [] → s.eth.scanning = true →
          ((n = 0 ∨ ¬ owned a) → t.eth.scanning = false ∧ t.mem = s.mem) ∧
          (n ≠ 0 → owned a → good a → (t.word32 a).getLsbD 31 = false ∧
            ((∀ x, s.poisoned x = false) → t.word32 a = s.word32 a &&& 0x7FFFFFFF) ∧ t.eth.txIdx = (s.eth.txIdx + 1) % n ∧
            t.flag ETH_STAT ETH_STAT_TXF = true ∧ t.evPending (evCom 8) = true ∧
            ∀ x, (x < a ∨ a + 16 ≤ x) → t.byte x = s.byte x))) ∧
    (∀ v, accepted v ETH_TXR (withField s ETH_TXR ETH_TXR_KICK 1) s = true → ∃ t, exec (.kick v) s = .next t ∧
      t.eth.scanning = true ∧ t.flag ETH_TXR ETH_TXR_KICK = false) ∧
    (∀ v data, accepted v ETH_MDIO (ETH_MDIO_GO.put data 1) s = true → ∃ t, exec (.mdioGo v data) s = .next t ∧
      t.flag ETH_MDIO ETH_MDIO_BUSY = true ∧ t.flag ETH_MDIO ETH_MDIO_GO = false ∧
      t.flag ETH_MDIO ETH_MDIO_RD = ETH_MDIO_RD.bit data) ∧
    (∀ data : BitVec 16, s.flag ETH_MDIO ETH_MDIO_BUSY = true → ∃ t, exec (.mdioDone data) s = .next t ∧
      t.flag ETH_MDIO ETH_MDIO_BUSY = false ∧
      t.fld ETH_MDIO ETH_MDIO_DATA = if s.flag ETH_MDIO ETH_MDIO_RD then data.toNat else s.fld ETH_MDIO ETH_MDIO_DATA) ∧
    (∀ up (speed : BitVec 2), s.flag ETH_CFG ETH_CFG_EN = true → ∃ t, exec (.ethLinkChange up speed) s = .next t ∧
      t.flag ETH_STAT ETH_STAT_LINK = up ∧ t.fld ETH_STAT ETH_STAT_SPEED = speed.toNat ∧
      (s.flag ETH_STAT ETH_STAT_LINK ≠ up → t.flag ETH_STAT ETH_STAT_LINKCHG = true ∧ t.evPending (evCom 8) = true))

/-! ### The whole machine -/

/-- Every step keeps the canonical form of memory, of the registers, of the Lantern words and of Lantern RAM: rising keys, and no
entry at the value that an unlisted key reads as. -/
def Obligations.CanonicalFormKept : Prop :=
  ∀ s t : State, Canonical s → step s = .next t → Canonical t

/-- The state after reset has that form. -/
def Obligations.CanonicalAtReset : Prop := Canonical State.reset

/-- What a power-up leaves (R8, R48, R103, R265, R283, R298): a cold reset is in effect, no command waits, both cores hold zero
in every register, the fast memories hold nothing, the Coupler holds no seat, and registers hold what their cards give. -/
def Obligations.ResetLeaves : Prop :=
  let s := State.reset
  s.bringup.active = some .cold ∧ s.pending = [] ∧ s.troika.released = false ∧ s.mem = [] ∧ s.seat = 0 ∧
    (∀ h r, (s.core h).gr r = 0) ∧ (∀ h r, (s.core h).vr r = 0) ∧ (∀ h r, (s.core h).ar r = 0) ∧
    (∀ h n, (s.core h).cx n = 0) ∧ (∀ a, a < 4 → s.running a = false ∧ s.rd (AXL_CNT a) = 0) ∧
    s.rd SYS_CHOCK = 0 ∧ s.rd SYS_SCRATCH = 0 ∧ s.fld SYS_ID SYS_ID_PART = 0x7256 ∧ s.fld SYS_STATE SYS_STATE_STATE = 2 ∧
    (∀ n, n < 256 → s.flag (GCH_CFG n) GCH_CFG_EN = false) ∧
    (∀ a, a < 4 → s.period a = 8000 ∧ ∀ k, k < 16 → s.rd (AXL_CMPU a k) = 0xFFFFFFFF ∧ s.rd (AXL_CMPD a k) = 0xFFFFFFFF) ∧
    (∀ l, l < 32 → s.rd (LEG_DT l) = 0x06400640) ∧ s.rd CPL_TXTO = 100 ∧
    ∀ n, n < 4 → s.fld (CAN_ERR n) CAN_ERR_STATE = 3
end

