-- ==== Sys2Proof/Laws/Maps.lean ====
section
/-! SUPPORT. The laws of the sparse maps: what a read finds after a write, and that every operation keeps the canonical
form. -/

namespace Sys2Proof.Laws

open Sys2Proof Sys2Proof.Machine

section
variable {α : Type}

theorem mfind_merase_self (m : FMap α) (k : Nat) : mfind (merase m k) k = none := by
  induction m with
  | nil => rfl
  | cons e m ih =>
    obtain ⟨k', v⟩ := e
    by_cases h : k' = k
    · simpa [merase, h] using ih
    · simpa [merase, h, mfind] using ih

theorem mfind_merase_of_ne (m : FMap α) {k key : Nat} (h : key ≠ k) : mfind (merase m k) key = mfind m key := by
  induction m with
  | nil => rfl
  | cons e m ih =>
    obtain ⟨k', v⟩ := e
    by_cases h' : k' = k
    · have : k' ≠ key := by omega
      simpa [merase, h', mfind, this, Ne.symm h] using ih
    · by_cases h2 : k' = key
      · simp [merase, mfind, h2, h]
      · simpa [merase, h', mfind, h2] using ih

theorem mfind_minsert_self (m : FMap α) (k : Nat) (v : α) (h : mfind m k = none) : mfind (minsert m k v) k = some v := by
  induction m with
  | nil => simp [minsert, mfind]
  | cons e m ih =>
    obtain ⟨k', w⟩ := e
    simp only [mfind] at h
    split at h
    · simp at h
    · rename_i hne
      simp only [minsert]
      split
      · simp [mfind]
      · simpa [mfind, hne] using ih h

theorem mfind_minsert_of_ne (m : FMap α) {k key : Nat} (v : α) (h : key ≠ k) :
    mfind (minsert m k v) key = mfind m key := by
  induction m with
  | nil => simp [minsert, mfind, Ne.symm h]
  | cons e m ih =>
    obtain ⟨k', w⟩ := e
    simp only [minsert]
    split
    · simp [mfind, Ne.symm h]
    · simp only [mfind, ih]

variable [DecidableEq α]

/-- A read after a write to the same key gives the value written. -/
@[simp] theorem mget_mset_self (d : Nat → α) (m : FMap α) (k : Nat) (v : α) : mget d (mset d m k v) k = v := by
  unfold mget mset
  split
  · rename_i h
    simp [mfind_merase_self, h]
  · simp [mfind_minsert_self, mfind_merase_self]

/-- A write leaves every other key alone. -/
theorem mget_mset_of_ne (d : Nat → α) (m : FMap α) {k key : Nat} (v : α) (h : key ≠ k) :
    mget d (mset d m k v) key = mget d m key := by
  unfold mget mset
  split
  · simp [mfind_merase_of_ne _ h]
  · simp [mfind_minsert_of_ne _ _ h, mfind_merase_of_ne _ h]

/-- A read after a write, at any key. -/
theorem mget_mset (d : Nat → α) (m : FMap α) (k key : Nat) (v : α) :
    mget d (mset d m k v) key = if key = k then v else mget d m key := by
  by_cases h : key = k
  · subst h; simp
  · simp [h, mget_mset_of_ne]

omit [DecidableEq α] in
@[simp] theorem mget_nil (d : Nat → α) (k : Nat) : mget d [] k = d k := rfl

/-! ### The canonical form -/

/-- Keys of a canonical tail lie above the bound. -/
theorem mwfFrom_mono (d : Nat → α) (m : FMap α) {lo : Option Nat} {b : Nat} (hb : ∀ l, lo = some l → l ≤ b)
    (h : mwfFrom d (some b) m = true) : mwfFrom d lo m = true := by
  cases m with
  | nil => rfl
  | cons e m =>
    obtain ⟨k, v⟩ := e
    cases lo with
    | none => simp_all [mwfFrom]
    | some l =>
      have := hb l rfl
      simp only [mwfFrom, Bool.and_eq_true, decide_eq_true_eq] at h ⊢
      exact ⟨⟨by omega, h.1.2⟩, h.2⟩

/-- A filter of a canonical map is canonical. -/
theorem mwfFrom_filter (d : Nat → α) (p : Nat × α → Bool) (m : FMap α) :
    ∀ lo, mwfFrom d lo m = true → mwfFrom d lo (m.filter p) = true := by
  induction m with
  | nil => intro lo h; simpa using h
  | cons e m ih =>
    obtain ⟨k, v⟩ := e
    intro lo h
    simp only [mwfFrom, Bool.and_eq_true] at h
    by_cases hp : p (k, v) = true
    · simp only [List.filter_cons_of_pos hp, mwfFrom, Bool.and_eq_true]
      exact ⟨h.1, ih _ h.2⟩
    · simp only [List.filter_cons_of_neg hp]
      refine ih lo ?_
      refine mwfFrom_mono d m ?_ h.2
      intro l hl
      subst hl
      have := h.1.1
      simp only [decide_eq_true_eq] at this
      omega

theorem mwf_filter (d : Nat → α) (p : Nat × α → Bool) (m : FMap α) (h : mwf d m = true) : mwf d (m.filter p) = true :=
  mwfFrom_filter d p m none h

theorem mwfFrom_minsert (d : Nat → α) (m : FMap α) (k : Nat) (v : α) (hv : v ≠ d k) :
    ∀ lo, (∀ l, lo = some l → l < k) → mfind m k = none → mwfFrom d lo m = true →
      mwfFrom d lo (minsert m k v) = true := by
  induction m with
  | nil =>
    intro lo hlo _ _
    cases lo with
    | none => simp [minsert, mwfFrom, hv]
    | some l => simp [minsert, mwfFrom, hv, hlo l rfl]
  | cons e m ih =>
    obtain ⟨k', w⟩ := e
    intro lo hlo hf h
    simp only [mfind] at hf
    split at hf
    · simp at hf
    · rename_i hne
      simp only [minsert]
      split
      · rename_i hlt
        simp only [mwfFrom, Bool.and_eq_true] at h ⊢
        refine ⟨⟨?_, by simp [hv]⟩, ⟨by simpa using hlt, h.1.2⟩, h.2⟩
        cases lo with
        | none => rfl
        | some l => simpa using hlo l rfl
      · rename_i hlt
        simp only [mwfFrom, Bool.and_eq_true] at h ⊢
        refine ⟨h.1, ih _ ?_ hf h.2⟩
        intro l hl
        cases hl
        omega

/-- A write keeps the canonical form. -/
theorem mwf_mset (d : Nat → α) (m : FMap α) (k : Nat) (v : α) (h : mwf d m = true) : mwf d (mset d m k v) = true := by
  have he : mwf d (merase m k) = true := mwf_filter d _ m h
  unfold mset
  split
  · exact he
  · rename_i hv
    exact mwfFrom_minsert d _ k v hv none (by simp) (mfind_merase_self m k) he

end

/-! ### Lists of addresses without repeats -/

theorem mem_insertRising (l : List Nat) (x y : Nat) : y ∈ insertRising l x ↔ y = x ∨ y ∈ l := by
  induction l with
  | nil => simp [insertRising]
  | cons a l ih =>
    simp only [insertRising]
    split
    · simp
    · split
      · rename_i h; subst h; simp
      · simp only [List.mem_cons, ih]; tauto

end Sys2Proof.Laws
end

