-- ==== Sys2Proof/Laws/Fields.lean ====
section
/-! SUPPORT. The laws of register words and their fields. -/

namespace Sys2Proof.Laws

open Sys2Proof Sys2Proof.Machine

/-- A register reads what was written to it. -/
@[simp] theorem rd_wr_self (s : State) (o : Nat) (w : Word) : (s.wr o w).rd o = w := by simp [State.rd, State.wr]

/-- A write of one register leaves the others alone. -/
theorem rd_wr_of_ne (s : State) {o o' : Nat} (w : Word) (h : o' ≠ o) : (s.wr o w).rd o' = s.rd o' := by
  simp [State.rd, State.wr, mget_mset_of_ne, h]

theorem rd_wr (s : State) (o o' : Nat) (w : Word) : (s.wr o w).rd o' = if o' = o then w else s.rd o' := by
  by_cases h : o' = o
  · subst h; simp
  · simp [h, rd_wr_of_ne]

/-- Bit i of the mask of a field. -/
theorem mask_getLsbD (f : Fld) (i : Nat) :
    f.mask.getLsbD i = (decide (f.lo ≤ i) && decide (i < f.lo + f.len) && decide (i < 32)) := by
  simp only [Fld.mask, word, BitVec.getLsbD_ofNat, Nat.testBit_shiftLeft, Nat.testBit_two_pow_sub_one]
  by_cases h1 : i < 32 <;> by_cases h2 : f.lo ≤ i <;> by_cases h3 : i < f.lo + f.len <;> simp [h1, h2, h3]
  all_goals omega

/-- Bit i of a word with a field replaced. -/
theorem put_getLsbD (f : Fld) (w : Word) (n i : Nat) :
    (f.put w n).getLsbD i =
      if f.lo ≤ i ∧ i < f.lo + f.len ∧ i < 32 then n.testBit (i - f.lo) else w.getLsbD i := by
  rcases Nat.lt_or_ge i 32 with h1 | h1
  · simp only [Fld.put, BitVec.getLsbD_or, BitVec.getLsbD_and, BitVec.getLsbD_not, mask_getLsbD, word,
      BitVec.getLsbD_ofNat, Nat.testBit_shiftLeft, Nat.testBit_mod_two_pow]
    by_cases h2 : f.lo ≤ i <;> by_cases h3 : i < f.lo + f.len
    · have h4 : i - f.lo < f.len := by omega
      simp [h1, h2, h3, h4]
    · have h4 : ¬(i - f.lo < f.len) := by omega
      simp [h1, h2, h3, h4]
    · simp [h1, h2]
    · simp [h1, h2]
  · rw [BitVec.getLsbD_of_ge _ _ h1, BitVec.getLsbD_of_ge _ _ h1]
    simp [Nat.not_lt.mpr h1]

/-- Bit i of a field read as a number. -/
theorem get_testBit (f : Fld) (w : Word) (i : Nat) :
    (f.get w).testBit i = (decide (i < f.len) && w.getLsbD (f.lo + i)) := by
  simp [Fld.get, Nat.testBit_mod_two_pow, Nat.testBit_shiftRight, BitVec.getLsbD]

/-- A field reads what was put into it. -/
theorem get_put_self (f : Fld) (w : Word) (n : Nat) (h : f.lo + f.len ≤ 32) : f.get (f.put w n) = n % 2 ^ f.len := by
  refine Nat.eq_of_testBit_eq fun i => ?_
  rw [get_testBit, put_getLsbD, Nat.testBit_mod_two_pow]
  by_cases h1 : i < f.len
  · have : f.lo + i < f.lo + f.len ∧ f.lo + i < 32 := by omega
    simp [h1, this]
  · simp [h1]

/-- Two fields that share no bit. -/
def apart (f g : Fld) : Prop := f.lo + f.len ≤ g.lo ∨ g.lo + g.len ≤ f.lo

/-- A field keeps its value when a field apart from it is replaced. -/
theorem get_put_apart (f g : Fld) (w : Word) (n : Nat) (h : apart f g) : g.get (f.put w n) = g.get w := by
  refine Nat.eq_of_testBit_eq fun i => ?_
  rw [get_testBit, put_getLsbD, get_testBit]
  by_cases h1 : i < g.len
  · have : ¬(f.lo ≤ g.lo + i ∧ g.lo + i < f.lo + f.len ∧ g.lo + i < 32) := by
      unfold apart at h; omega
    simp [this]
  · simp [h1]

/-- Bit `lo` of a field after the field is replaced. -/
theorem bit_put_self (f : Fld) (w : Word) (n : Nat) (h : f.lo < 32) (hl : 0 < f.len) :
    f.bit (f.put w n) = n.testBit 0 := by
  rw [Fld.bit, put_getLsbD]
  simp [h, hl]

theorem fld_setFld_self (s : State) (o : Nat) (f : Fld) (n : Nat) (h : f.lo + f.len ≤ 32) :
    (s.setFld o f n).fld o f = n % 2 ^ f.len := by simp [State.setFld, State.fld, get_put_self, h]

theorem flag_setFlag_self (s : State) (o : Nat) (f : Fld) (b : Bool) (h : f.lo < 32) (hl : 0 < f.len) :
    (s.setFlag o f b).flag o f = b := by
  simp only [State.setFlag, State.setFld, State.flag, rd_wr_self, bit_put_self f _ _ h hl]
  cases b <;> rfl

/-- An SQ flag is set after its event (R35). -/
theorem flag_sq_self (s : State) (o : Nat) (f : Fld) (h : f.lo < 24) (hl : 0 < f.len) : (s.sq o f).flag o f = true := by
  simp only [State.sq, State.sqMask, State.flag, rd_wr_self, Fld.bit, put_getLsbD, seqFld]
  have h1 : ¬(24 ≤ f.lo) := by omega
  simp only [h1, false_and, if_false, BitVec.getLsbD_or, mask_getLsbD]
  simp [hl, show f.lo < 32 by omega]

/-- SEQ advances by one at an event (R35). -/
theorem seq_sq (s : State) (o : Nat) (f : Fld) (h : f.lo + f.len ≤ 24) :
    (s.sq o f).fld o seqFld = (s.fld o seqFld + 1) % 256 := by
  have : seqFld.get ((s.rd o) ||| f.mask) = seqFld.get (s.rd o) := by
    refine Nat.eq_of_testBit_eq fun i => ?_
    rw [get_testBit, get_testBit, BitVec.getLsbD_or, mask_getLsbD]
    simp only [seqFld]
    have h2 : ¬(24 + i < f.lo + f.len) := by omega
    simp [h2]
  simp [State.sq, State.sqMask, State.fld, rd_wr_self, get_put_self, seqFld] at this ⊢

end Sys2Proof.Laws
end

