-- ==== Sys2Proof/Laws/State.lean ====
section
/-! SUPPORT. Each named update of the state leaves every field but its own as it was: one lemma per field and update. -/

namespace Sys2Proof.Laws

open Sys2Proof Sys2Proof.Machine

variable (s : State)


@[simp] theorem wr_pending (o : Nat) (w : Word) : (s.wr o w).pending = s.pending := rfl
@[simp] theorem wr_now (o : Nat) (w : Word) : (s.wr o w).now = s.now := rfl
@[simp] theorem wr_mem (o : Nat) (w : Word) : (s.wr o w).mem = s.mem := rfl
@[simp] theorem wr_poison (o : Nat) (w : Word) : (s.wr o w).poison = s.poison := rfl
@[simp] theorem wr_wakePend (o : Nat) (w : Word) : (s.wr o w).wakePend = s.wakePend := rfl
@[simp] theorem wr_troika (o : Nat) (w : Word) : (s.wr o w).troika = s.troika := rfl
@[simp] theorem wr_axle (o : Nat) (w : Word) : (s.wr o w).axle = s.axle := rfl
@[simp] theorem wr_pos (o : Nat) (w : Word) : (s.wr o w).pos = s.pos := rfl
@[simp] theorem wr_leg (o : Nat) (w : Word) : (s.wr o w).leg = s.leg := rfl
@[simp] theorem wr_chan (o : Nat) (w : Word) : (s.wr o w).chan = s.chan := rfl
@[simp] theorem wr_sdd (o : Nat) (w : Word) : (s.wr o w).sdd = s.sdd := rfl
@[simp] theorem wr_sar (o : Nat) (w : Word) : (s.wr o w).sar = s.sar := rfl
@[simp] theorem wr_res (o : Nat) (w : Word) : (s.wr o w).res = s.res := rfl
@[simp] theorem wr_enc (o : Nat) (w : Word) : (s.wr o w).enc = s.enc := rfl
@[simp] theorem wr_hys (o : Nat) (w : Word) : (s.wr o w).hys = s.hys := rfl
@[simp] theorem wr_mon (o : Nat) (w : Word) : (s.wr o w).mon = s.mon := rfl
@[simp] theorem wr_chop (o : Nat) (w : Word) : (s.wr o w).chop = s.chop := rfl
@[simp] theorem wr_kept (o : Nat) (w : Word) : (s.wr o w).kept = s.kept := rfl
@[simp] theorem wr_tripPins (o : Nat) (w : Word) : (s.wr o w).tripPins = s.tripPins := rfl
@[simp] theorem wr_brake (o : Nat) (w : Word) : (s.wr o w).brake = s.brake := rfl
@[simp] theorem wr_sealedRec (o : Nat) (w : Word) : (s.wr o w).sealedRec = s.sealedRec := rfl
@[simp] theorem wr_lix (o : Nat) (w : Word) : (s.wr o w).lix = s.lix := rfl
@[simp] theorem wr_lan (o : Nat) (w : Word) : (s.wr o w).lan = s.lan := rfl
@[simp] theorem wr_cpl (o : Nat) (w : Word) : (s.wr o w).cpl = s.cpl := rfl
@[simp] theorem wr_grd (o : Nat) (w : Word) : (s.wr o w).grd = s.grd := rfl
@[simp] theorem wr_grdAt (o : Nat) (w : Word) : (s.wr o w).grdAt = s.grdAt := rfl
@[simp] theorem wr_grdCap (o : Nat) (w : Word) : (s.wr o w).grdCap = s.grdCap := rfl
@[simp] theorem wr_can (o : Nat) (w : Word) : (s.wr o w).can = s.can := rfl
@[simp] theorem wr_eth (o : Nat) (w : Word) : (s.wr o w).eth = s.eth := rfl
@[simp] theorem wr_thm (o : Nat) (w : Word) : (s.wr o w).thm = s.thm := rfl
@[simp] theorem wr_thmStepping (o : Nat) (w : Word) : (s.wr o w).thmStepping = s.thmStepping := rfl
@[simp] theorem wr_thmHot (o : Nat) (w : Word) : (s.wr o w).thmHot = s.thmHot := rfl
@[simp] theorem wr_bist (o : Nat) (w : Word) : (s.wr o w).bist = s.bist := rfl
@[simp] theorem wr_migPtr (o : Nat) (w : Word) : (s.wr o w).migPtr = s.migPtr := rfl
@[simp] theorem wr_spareMem (o : Nat) (w : Word) : (s.wr o w).spareMem = s.spareMem := rfl
@[simp] theorem wr_harnessAt (o : Nat) (w : Word) : (s.wr o w).harnessAt = s.harnessAt := rfl
@[simp] theorem wr_nvm (o : Nat) (w : Word) : (s.wr o w).nvm = s.nvm := rfl
@[simp] theorem wr_bringup (o : Nat) (w : Word) : (s.wr o w).bringup = s.bringup := rfl
@[simp] theorem wr_records (o : Nat) (w : Word) : (s.wr o w).records = s.records := rfl
@[simp] theorem wr_power (o : Nat) (w : Word) : (s.wr o w).power = s.power := rfl
@[simp] theorem wr_draws (o : Nat) (w : Word) : (s.wr o w).draws = s.draws := rfl

@[simp] theorem setFld_pending (o : Nat) (f : Fld) (n : Nat) : (s.setFld o f n).pending = s.pending := rfl
@[simp] theorem setFld_now (o : Nat) (f : Fld) (n : Nat) : (s.setFld o f n).now = s.now := rfl
@[simp] theorem setFld_mem (o : Nat) (f : Fld) (n : Nat) : (s.setFld o f n).mem = s.mem := rfl
@[simp] theorem setFld_poison (o : Nat) (f : Fld) (n : Nat) : (s.setFld o f n).poison = s.poison := rfl
@[simp] theorem setFld_wakePend (o : Nat) (f : Fld) (n : Nat) : (s.setFld o f n).wakePend = s.wakePend := rfl
@[simp] theorem setFld_troika (o : Nat) (f : Fld) (n : Nat) : (s.setFld o f n).troika = s.troika := rfl
@[simp] theorem setFld_axle (o : Nat) (f : Fld) (n : Nat) : (s.setFld o f n).axle = s.axle := rfl
@[simp] theorem setFld_pos (o : Nat) (f : Fld) (n : Nat) : (s.setFld o f n).pos = s.pos := rfl
@[simp] theorem setFld_leg (o : Nat) (f : Fld) (n : Nat) : (s.setFld o f n).leg = s.leg := rfl
@[simp] theorem setFld_chan (o : Nat) (f : Fld) (n : Nat) : (s.setFld o f n).chan = s.chan := rfl
@[simp] theorem setFld_sdd (o : Nat) (f : Fld) (n : Nat) : (s.setFld o f n).sdd = s.sdd := rfl
@[simp] theorem setFld_sar (o : Nat) (f : Fld) (n : Nat) : (s.setFld o f n).sar = s.sar := rfl
@[simp] theorem setFld_res (o : Nat) (f : Fld) (n : Nat) : (s.setFld o f n).res = s.res := rfl
@[simp] theorem setFld_enc (o : Nat) (f : Fld) (n : Nat) : (s.setFld o f n).enc = s.enc := rfl
@[simp] theorem setFld_hys (o : Nat) (f : Fld) (n : Nat) : (s.setFld o f n).hys = s.hys := rfl
@[simp] theorem setFld_mon (o : Nat) (f : Fld) (n : Nat) : (s.setFld o f n).mon = s.mon := rfl
@[simp] theorem setFld_chop (o : Nat) (f : Fld) (n : Nat) : (s.setFld o f n).chop = s.chop := rfl
@[simp] theorem setFld_kept (o : Nat) (f : Fld) (n : Nat) : (s.setFld o f n).kept = s.kept := rfl
@[simp] theorem setFld_tripPins (o : Nat) (f : Fld) (n : Nat) : (s.setFld o f n).tripPins = s.tripPins := rfl
@[simp] theorem setFld_brake (o : Nat) (f : Fld) (n : Nat) : (s.setFld o f n).brake = s.brake := rfl
@[simp] theorem setFld_sealedRec (o : Nat) (f : Fld) (n : Nat) : (s.setFld o f n).sealedRec = s.sealedRec := rfl
@[simp] theorem setFld_lix (o : Nat) (f : Fld) (n : Nat) : (s.setFld o f n).lix = s.lix := rfl
@[simp] theorem setFld_lan (o : Nat) (f : Fld) (n : Nat) : (s.setFld o f n).lan = s.lan := rfl
@[simp] theorem setFld_cpl (o : Nat) (f : Fld) (n : Nat) : (s.setFld o f n).cpl = s.cpl := rfl
@[simp] theorem setFld_grd (o : Nat) (f : Fld) (n : Nat) : (s.setFld o f n).grd = s.grd := rfl
@[simp] theorem setFld_grdAt (o : Nat) (f : Fld) (n : Nat) : (s.setFld o f n).grdAt = s.grdAt := rfl
@[simp] theorem setFld_grdCap (o : Nat) (f : Fld) (n : Nat) : (s.setFld o f n).grdCap = s.grdCap := rfl
@[simp] theorem setFld_can (o : Nat) (f : Fld) (n : Nat) : (s.setFld o f n).can = s.can := rfl
@[simp] theorem setFld_eth (o : Nat) (f : Fld) (n : Nat) : (s.setFld o f n).eth = s.eth := rfl
@[simp] theorem setFld_thm (o : Nat) (f : Fld) (n : Nat) : (s.setFld o f n).thm = s.thm := rfl
@[simp] theorem setFld_thmStepping (o : Nat) (f : Fld) (n : Nat) : (s.setFld o f n).thmStepping = s.thmStepping := rfl
@[simp] theorem setFld_thmHot (o : Nat) (f : Fld) (n : Nat) : (s.setFld o f n).thmHot = s.thmHot := rfl
@[simp] theorem setFld_bist (o : Nat) (f : Fld) (n : Nat) : (s.setFld o f n).bist = s.bist := rfl
@[simp] theorem setFld_migPtr (o : Nat) (f : Fld) (n : Nat) : (s.setFld o f n).migPtr = s.migPtr := rfl
@[simp] theorem setFld_spareMem (o : Nat) (f : Fld) (n : Nat) : (s.setFld o f n).spareMem = s.spareMem := rfl
@[simp] theorem setFld_harnessAt (o : Nat) (f : Fld) (n : Nat) : (s.setFld o f n).harnessAt = s.harnessAt := rfl
@[simp] theorem setFld_nvm (o : Nat) (f : Fld) (n : Nat) : (s.setFld o f n).nvm = s.nvm := rfl
@[simp] theorem setFld_bringup (o : Nat) (f : Fld) (n : Nat) : (s.setFld o f n).bringup = s.bringup := rfl
@[simp] theorem setFld_records (o : Nat) (f : Fld) (n : Nat) : (s.setFld o f n).records = s.records := rfl
@[simp] theorem setFld_power (o : Nat) (f : Fld) (n : Nat) : (s.setFld o f n).power = s.power := rfl
@[simp] theorem setFld_draws (o : Nat) (f : Fld) (n : Nat) : (s.setFld o f n).draws = s.draws := rfl

@[simp] theorem setFldI_pending (o : Nat) (f : Fld) (n : Int) : (s.setFldI o f n).pending = s.pending := rfl
@[simp] theorem setFldI_now (o : Nat) (f : Fld) (n : Int) : (s.setFldI o f n).now = s.now := rfl
@[simp] theorem setFldI_mem (o : Nat) (f : Fld) (n : Int) : (s.setFldI o f n).mem = s.mem := rfl
@[simp] theorem setFldI_poison (o : Nat) (f : Fld) (n : Int) : (s.setFldI o f n).poison = s.poison := rfl
@[simp] theorem setFldI_wakePend (o : Nat) (f : Fld) (n : Int) : (s.setFldI o f n).wakePend = s.wakePend := rfl
@[simp] theorem setFldI_troika (o : Nat) (f : Fld) (n : Int) : (s.setFldI o f n).troika = s.troika := rfl
@[simp] theorem setFldI_axle (o : Nat) (f : Fld) (n : Int) : (s.setFldI o f n).axle = s.axle := rfl
@[simp] theorem setFldI_pos (o : Nat) (f : Fld) (n : Int) : (s.setFldI o f n).pos = s.pos := rfl
@[simp] theorem setFldI_leg (o : Nat) (f : Fld) (n : Int) : (s.setFldI o f n).leg = s.leg := rfl
@[simp] theorem setFldI_chan (o : Nat) (f : Fld) (n : Int) : (s.setFldI o f n).chan = s.chan := rfl
@[simp] theorem setFldI_sdd (o : Nat) (f : Fld) (n : Int) : (s.setFldI o f n).sdd = s.sdd := rfl
@[simp] theorem setFldI_sar (o : Nat) (f : Fld) (n : Int) : (s.setFldI o f n).sar = s.sar := rfl
@[simp] theorem setFldI_res (o : Nat) (f : Fld) (n : Int) : (s.setFldI o f n).res = s.res := rfl
@[simp] theorem setFldI_enc (o : Nat) (f : Fld) (n : Int) : (s.setFldI o f n).enc = s.enc := rfl
@[simp] theorem setFldI_hys (o : Nat) (f : Fld) (n : Int) : (s.setFldI o f n).hys = s.hys := rfl
@[simp] theorem setFldI_mon (o : Nat) (f : Fld) (n : Int) : (s.setFldI o f n).mon = s.mon := rfl
@[simp] theorem setFldI_chop (o : Nat) (f : Fld) (n : Int) : (s.setFldI o f n).chop = s.chop := rfl
@[simp] theorem setFldI_kept (o : Nat) (f : Fld) (n : Int) : (s.setFldI o f n).kept = s.kept := rfl
@[simp] theorem setFldI_tripPins (o : Nat) (f : Fld) (n : Int) : (s.setFldI o f n).tripPins = s.tripPins := rfl
@[simp] theorem setFldI_brake (o : Nat) (f : Fld) (n : Int) : (s.setFldI o f n).brake = s.brake := rfl
@[simp] theorem setFldI_sealedRec (o : Nat) (f : Fld) (n : Int) : (s.setFldI o f n).sealedRec = s.sealedRec := rfl
@[simp] theorem setFldI_lix (o : Nat) (f : Fld) (n : Int) : (s.setFldI o f n).lix = s.lix := rfl
@[simp] theorem setFldI_lan (o : Nat) (f : Fld) (n : Int) : (s.setFldI o f n).lan = s.lan := rfl
@[simp] theorem setFldI_cpl (o : Nat) (f : Fld) (n : Int) : (s.setFldI o f n).cpl = s.cpl := rfl
@[simp] theorem setFldI_grd (o : Nat) (f : Fld) (n : Int) : (s.setFldI o f n).grd = s.grd := rfl
@[simp] theorem setFldI_grdAt (o : Nat) (f : Fld) (n : Int) : (s.setFldI o f n).grdAt = s.grdAt := rfl
@[simp] theorem setFldI_grdCap (o : Nat) (f : Fld) (n : Int) : (s.setFldI o f n).grdCap = s.grdCap := rfl
@[simp] theorem setFldI_can (o : Nat) (f : Fld) (n : Int) : (s.setFldI o f n).can = s.can := rfl
@[simp] theorem setFldI_eth (o : Nat) (f : Fld) (n : Int) : (s.setFldI o f n).eth = s.eth := rfl
@[simp] theorem setFldI_thm (o : Nat) (f : Fld) (n : Int) : (s.setFldI o f n).thm = s.thm := rfl
@[simp] theorem setFldI_thmStepping (o : Nat) (f : Fld) (n : Int) : (s.setFldI o f n).thmStepping = s.thmStepping := rfl
@[simp] theorem setFldI_thmHot (o : Nat) (f : Fld) (n : Int) : (s.setFldI o f n).thmHot = s.thmHot := rfl
@[simp] theorem setFldI_bist (o : Nat) (f : Fld) (n : Int) : (s.setFldI o f n).bist = s.bist := rfl
@[simp] theorem setFldI_migPtr (o : Nat) (f : Fld) (n : Int) : (s.setFldI o f n).migPtr = s.migPtr := rfl
@[simp] theorem setFldI_spareMem (o : Nat) (f : Fld) (n : Int) : (s.setFldI o f n).spareMem = s.spareMem := rfl
@[simp] theorem setFldI_harnessAt (o : Nat) (f : Fld) (n : Int) : (s.setFldI o f n).harnessAt = s.harnessAt := rfl
@[simp] theorem setFldI_nvm (o : Nat) (f : Fld) (n : Int) : (s.setFldI o f n).nvm = s.nvm := rfl
@[simp] theorem setFldI_bringup (o : Nat) (f : Fld) (n : Int) : (s.setFldI o f n).bringup = s.bringup := rfl
@[simp] theorem setFldI_records (o : Nat) (f : Fld) (n : Int) : (s.setFldI o f n).records = s.records := rfl
@[simp] theorem setFldI_power (o : Nat) (f : Fld) (n : Int) : (s.setFldI o f n).power = s.power := rfl
@[simp] theorem setFldI_draws (o : Nat) (f : Fld) (n : Int) : (s.setFldI o f n).draws = s.draws := rfl

@[simp] theorem setFlag_pending (o : Nat) (f : Fld) (b : Bool) : (s.setFlag o f b).pending = s.pending := rfl
@[simp] theorem setFlag_now (o : Nat) (f : Fld) (b : Bool) : (s.setFlag o f b).now = s.now := rfl
@[simp] theorem setFlag_mem (o : Nat) (f : Fld) (b : Bool) : (s.setFlag o f b).mem = s.mem := rfl
@[simp] theorem setFlag_poison (o : Nat) (f : Fld) (b : Bool) : (s.setFlag o f b).poison = s.poison := rfl
@[simp] theorem setFlag_wakePend (o : Nat) (f : Fld) (b : Bool) : (s.setFlag o f b).wakePend = s.wakePend := rfl
@[simp] theorem setFlag_troika (o : Nat) (f : Fld) (b : Bool) : (s.setFlag o f b).troika = s.troika := rfl
@[simp] theorem setFlag_axle (o : Nat) (f : Fld) (b : Bool) : (s.setFlag o f b).axle = s.axle := rfl
@[simp] theorem setFlag_pos (o : Nat) (f : Fld) (b : Bool) : (s.setFlag o f b).pos = s.pos := rfl
@[simp] theorem setFlag_leg (o : Nat) (f : Fld) (b : Bool) : (s.setFlag o f b).leg = s.leg := rfl
@[simp] theorem setFlag_chan (o : Nat) (f : Fld) (b : Bool) : (s.setFlag o f b).chan = s.chan := rfl
@[simp] theorem setFlag_sdd (o : Nat) (f : Fld) (b : Bool) : (s.setFlag o f b).sdd = s.sdd := rfl
@[simp] theorem setFlag_sar (o : Nat) (f : Fld) (b : Bool) : (s.setFlag o f b).sar = s.sar := rfl
@[simp] theorem setFlag_res (o : Nat) (f : Fld) (b : Bool) : (s.setFlag o f b).res = s.res := rfl
@[simp] theorem setFlag_enc (o : Nat) (f : Fld) (b : Bool) : (s.setFlag o f b).enc = s.enc := rfl
@[simp] theorem setFlag_hys (o : Nat) (f : Fld) (b : Bool) : (s.setFlag o f b).hys = s.hys := rfl
@[simp] theorem setFlag_mon (o : Nat) (f : Fld) (b : Bool) : (s.setFlag o f b).mon = s.mon := rfl
@[simp] theorem setFlag_chop (o : Nat) (f : Fld) (b : Bool) : (s.setFlag o f b).chop = s.chop := rfl
@[simp] theorem setFlag_kept (o : Nat) (f : Fld) (b : Bool) : (s.setFlag o f b).kept = s.kept := rfl
@[simp] theorem setFlag_tripPins (o : Nat) (f : Fld) (b : Bool) : (s.setFlag o f b).tripPins = s.tripPins := rfl
@[simp] theorem setFlag_brake (o : Nat) (f : Fld) (b : Bool) : (s.setFlag o f b).brake = s.brake := rfl
@[simp] theorem setFlag_sealedRec (o : Nat) (f : Fld) (b : Bool) : (s.setFlag o f b).sealedRec = s.sealedRec := rfl
@[simp] theorem setFlag_lix (o : Nat) (f : Fld) (b : Bool) : (s.setFlag o f b).lix = s.lix := rfl
@[simp] theorem setFlag_lan (o : Nat) (f : Fld) (b : Bool) : (s.setFlag o f b).lan = s.lan := rfl
@[simp] theorem setFlag_cpl (o : Nat) (f : Fld) (b : Bool) : (s.setFlag o f b).cpl = s.cpl := rfl
@[simp] theorem setFlag_grd (o : Nat) (f : Fld) (b : Bool) : (s.setFlag o f b).grd = s.grd := rfl
@[simp] theorem setFlag_grdAt (o : Nat) (f : Fld) (b : Bool) : (s.setFlag o f b).grdAt = s.grdAt := rfl
@[simp] theorem setFlag_grdCap (o : Nat) (f : Fld) (b : Bool) : (s.setFlag o f b).grdCap = s.grdCap := rfl
@[simp] theorem setFlag_can (o : Nat) (f : Fld) (b : Bool) : (s.setFlag o f b).can = s.can := rfl
@[simp] theorem setFlag_eth (o : Nat) (f : Fld) (b : Bool) : (s.setFlag o f b).eth = s.eth := rfl
@[simp] theorem setFlag_thm (o : Nat) (f : Fld) (b : Bool) : (s.setFlag o f b).thm = s.thm := rfl
@[simp] theorem setFlag_thmStepping (o : Nat) (f : Fld) (b : Bool) : (s.setFlag o f b).thmStepping = s.thmStepping := rfl
@[simp] theorem setFlag_thmHot (o : Nat) (f : Fld) (b : Bool) : (s.setFlag o f b).thmHot = s.thmHot := rfl
@[simp] theorem setFlag_bist (o : Nat) (f : Fld) (b : Bool) : (s.setFlag o f b).bist = s.bist := rfl
@[simp] theorem setFlag_migPtr (o : Nat) (f : Fld) (b : Bool) : (s.setFlag o f b).migPtr = s.migPtr := rfl
@[simp] theorem setFlag_spareMem (o : Nat) (f : Fld) (b : Bool) : (s.setFlag o f b).spareMem = s.spareMem := rfl
@[simp] theorem setFlag_harnessAt (o : Nat) (f : Fld) (b : Bool) : (s.setFlag o f b).harnessAt = s.harnessAt := rfl
@[simp] theorem setFlag_nvm (o : Nat) (f : Fld) (b : Bool) : (s.setFlag o f b).nvm = s.nvm := rfl
@[simp] theorem setFlag_bringup (o : Nat) (f : Fld) (b : Bool) : (s.setFlag o f b).bringup = s.bringup := rfl
@[simp] theorem setFlag_records (o : Nat) (f : Fld) (b : Bool) : (s.setFlag o f b).records = s.records := rfl
@[simp] theorem setFlag_power (o : Nat) (f : Fld) (b : Bool) : (s.setFlag o f b).power = s.power := rfl
@[simp] theorem setFlag_draws (o : Nat) (f : Fld) (b : Bool) : (s.setFlag o f b).draws = s.draws := rfl

@[simp] theorem sqMask_pending (o : Nat) (m : Word) : (s.sqMask o m).pending = s.pending := rfl
@[simp] theorem sqMask_now (o : Nat) (m : Word) : (s.sqMask o m).now = s.now := rfl
@[simp] theorem sqMask_mem (o : Nat) (m : Word) : (s.sqMask o m).mem = s.mem := rfl
@[simp] theorem sqMask_poison (o : Nat) (m : Word) : (s.sqMask o m).poison = s.poison := rfl
@[simp] theorem sqMask_wakePend (o : Nat) (m : Word) : (s.sqMask o m).wakePend = s.wakePend := rfl
@[simp] theorem sqMask_troika (o : Nat) (m : Word) : (s.sqMask o m).troika = s.troika := rfl
@[simp] theorem sqMask_axle (o : Nat) (m : Word) : (s.sqMask o m).axle = s.axle := rfl
@[simp] theorem sqMask_pos (o : Nat) (m : Word) : (s.sqMask o m).pos = s.pos := rfl
@[simp] theorem sqMask_leg (o : Nat) (m : Word) : (s.sqMask o m).leg = s.leg := rfl
@[simp] theorem sqMask_chan (o : Nat) (m : Word) : (s.sqMask o m).chan = s.chan := rfl
@[simp] theorem sqMask_sdd (o : Nat) (m : Word) : (s.sqMask o m).sdd = s.sdd := rfl
@[simp] theorem sqMask_sar (o : Nat) (m : Word) : (s.sqMask o m).sar = s.sar := rfl
@[simp] theorem sqMask_res (o : Nat) (m : Word) : (s.sqMask o m).res = s.res := rfl
@[simp] theorem sqMask_enc (o : Nat) (m : Word) : (s.sqMask o m).enc = s.enc := rfl
@[simp] theorem sqMask_hys (o : Nat) (m : Word) : (s.sqMask o m).hys = s.hys := rfl
@[simp] theorem sqMask_mon (o : Nat) (m : Word) : (s.sqMask o m).mon = s.mon := rfl
@[simp] theorem sqMask_chop (o : Nat) (m : Word) : (s.sqMask o m).chop = s.chop := rfl
@[simp] theorem sqMask_kept (o : Nat) (m : Word) : (s.sqMask o m).kept = s.kept := rfl
@[simp] theorem sqMask_tripPins (o : Nat) (m : Word) : (s.sqMask o m).tripPins = s.tripPins := rfl
@[simp] theorem sqMask_brake (o : Nat) (m : Word) : (s.sqMask o m).brake = s.brake := rfl
@[simp] theorem sqMask_sealedRec (o : Nat) (m : Word) : (s.sqMask o m).sealedRec = s.sealedRec := rfl
@[simp] theorem sqMask_lix (o : Nat) (m : Word) : (s.sqMask o m).lix = s.lix := rfl
@[simp] theorem sqMask_lan (o : Nat) (m : Word) : (s.sqMask o m).lan = s.lan := rfl
@[simp] theorem sqMask_cpl (o : Nat) (m : Word) : (s.sqMask o m).cpl = s.cpl := rfl
@[simp] theorem sqMask_grd (o : Nat) (m : Word) : (s.sqMask o m).grd = s.grd := rfl
@[simp] theorem sqMask_grdAt (o : Nat) (m : Word) : (s.sqMask o m).grdAt = s.grdAt := rfl
@[simp] theorem sqMask_grdCap (o : Nat) (m : Word) : (s.sqMask o m).grdCap = s.grdCap := rfl
@[simp] theorem sqMask_can (o : Nat) (m : Word) : (s.sqMask o m).can = s.can := rfl
@[simp] theorem sqMask_eth (o : Nat) (m : Word) : (s.sqMask o m).eth = s.eth := rfl
@[simp] theorem sqMask_thm (o : Nat) (m : Word) : (s.sqMask o m).thm = s.thm := rfl
@[simp] theorem sqMask_thmStepping (o : Nat) (m : Word) : (s.sqMask o m).thmStepping = s.thmStepping := rfl
@[simp] theorem sqMask_thmHot (o : Nat) (m : Word) : (s.sqMask o m).thmHot = s.thmHot := rfl
@[simp] theorem sqMask_bist (o : Nat) (m : Word) : (s.sqMask o m).bist = s.bist := rfl
@[simp] theorem sqMask_migPtr (o : Nat) (m : Word) : (s.sqMask o m).migPtr = s.migPtr := rfl
@[simp] theorem sqMask_spareMem (o : Nat) (m : Word) : (s.sqMask o m).spareMem = s.spareMem := rfl
@[simp] theorem sqMask_harnessAt (o : Nat) (m : Word) : (s.sqMask o m).harnessAt = s.harnessAt := rfl
@[simp] theorem sqMask_nvm (o : Nat) (m : Word) : (s.sqMask o m).nvm = s.nvm := rfl
@[simp] theorem sqMask_bringup (o : Nat) (m : Word) : (s.sqMask o m).bringup = s.bringup := rfl
@[simp] theorem sqMask_records (o : Nat) (m : Word) : (s.sqMask o m).records = s.records := rfl
@[simp] theorem sqMask_power (o : Nat) (m : Word) : (s.sqMask o m).power = s.power := rfl
@[simp] theorem sqMask_draws (o : Nat) (m : Word) : (s.sqMask o m).draws = s.draws := rfl

@[simp] theorem sq_pending (o : Nat) (f : Fld) : (s.sq o f).pending = s.pending := rfl
@[simp] theorem sq_now (o : Nat) (f : Fld) : (s.sq o f).now = s.now := rfl
@[simp] theorem sq_mem (o : Nat) (f : Fld) : (s.sq o f).mem = s.mem := rfl
@[simp] theorem sq_poison (o : Nat) (f : Fld) : (s.sq o f).poison = s.poison := rfl
@[simp] theorem sq_wakePend (o : Nat) (f : Fld) : (s.sq o f).wakePend = s.wakePend := rfl
@[simp] theorem sq_troika (o : Nat) (f : Fld) : (s.sq o f).troika = s.troika := rfl
@[simp] theorem sq_axle (o : Nat) (f : Fld) : (s.sq o f).axle = s.axle := rfl
@[simp] theorem sq_pos (o : Nat) (f : Fld) : (s.sq o f).pos = s.pos := rfl
@[simp] theorem sq_leg (o : Nat) (f : Fld) : (s.sq o f).leg = s.leg := rfl
@[simp] theorem sq_chan (o : Nat) (f : Fld) : (s.sq o f).chan = s.chan := rfl
@[simp] theorem sq_sdd (o : Nat) (f : Fld) : (s.sq o f).sdd = s.sdd := rfl
@[simp] theorem sq_sar (o : Nat) (f : Fld) : (s.sq o f).sar = s.sar := rfl
@[simp] theorem sq_res (o : Nat) (f : Fld) : (s.sq o f).res = s.res := rfl
@[simp] theorem sq_enc (o : Nat) (f : Fld) : (s.sq o f).enc = s.enc := rfl
@[simp] theorem sq_hys (o : Nat) (f : Fld) : (s.sq o f).hys = s.hys := rfl
@[simp] theorem sq_mon (o : Nat) (f : Fld) : (s.sq o f).mon = s.mon := rfl
@[simp] theorem sq_chop (o : Nat) (f : Fld) : (s.sq o f).chop = s.chop := rfl
@[simp] theorem sq_kept (o : Nat) (f : Fld) : (s.sq o f).kept = s.kept := rfl
@[simp] theorem sq_tripPins (o : Nat) (f : Fld) : (s.sq o f).tripPins = s.tripPins := rfl
@[simp] theorem sq_brake (o : Nat) (f : Fld) : (s.sq o f).brake = s.brake := rfl
@[simp] theorem sq_sealedRec (o : Nat) (f : Fld) : (s.sq o f).sealedRec = s.sealedRec := rfl
@[simp] theorem sq_lix (o : Nat) (f : Fld) : (s.sq o f).lix = s.lix := rfl
@[simp] theorem sq_lan (o : Nat) (f : Fld) : (s.sq o f).lan = s.lan := rfl
@[simp] theorem sq_cpl (o : Nat) (f : Fld) : (s.sq o f).cpl = s.cpl := rfl
@[simp] theorem sq_grd (o : Nat) (f : Fld) : (s.sq o f).grd = s.grd := rfl
@[simp] theorem sq_grdAt (o : Nat) (f : Fld) : (s.sq o f).grdAt = s.grdAt := rfl
@[simp] theorem sq_grdCap (o : Nat) (f : Fld) : (s.sq o f).grdCap = s.grdCap := rfl
@[simp] theorem sq_can (o : Nat) (f : Fld) : (s.sq o f).can = s.can := rfl
@[simp] theorem sq_eth (o : Nat) (f : Fld) : (s.sq o f).eth = s.eth := rfl
@[simp] theorem sq_thm (o : Nat) (f : Fld) : (s.sq o f).thm = s.thm := rfl
@[simp] theorem sq_thmStepping (o : Nat) (f : Fld) : (s.sq o f).thmStepping = s.thmStepping := rfl
@[simp] theorem sq_thmHot (o : Nat) (f : Fld) : (s.sq o f).thmHot = s.thmHot := rfl
@[simp] theorem sq_bist (o : Nat) (f : Fld) : (s.sq o f).bist = s.bist := rfl
@[simp] theorem sq_migPtr (o : Nat) (f : Fld) : (s.sq o f).migPtr = s.migPtr := rfl
@[simp] theorem sq_spareMem (o : Nat) (f : Fld) : (s.sq o f).spareMem = s.spareMem := rfl
@[simp] theorem sq_harnessAt (o : Nat) (f : Fld) : (s.sq o f).harnessAt = s.harnessAt := rfl
@[simp] theorem sq_nvm (o : Nat) (f : Fld) : (s.sq o f).nvm = s.nvm := rfl
@[simp] theorem sq_bringup (o : Nat) (f : Fld) : (s.sq o f).bringup = s.bringup := rfl
@[simp] theorem sq_records (o : Nat) (f : Fld) : (s.sq o f).records = s.records := rfl
@[simp] theorem sq_power (o : Nat) (f : Fld) : (s.sq o f).power = s.power := rfl
@[simp] theorem sq_draws (o : Nat) (f : Fld) : (s.sq o f).draws = s.draws := rfl

@[simp] theorem rc_pending (o : Nat) (f : Fld) (k : Nat) : (s.rc o f k).pending = s.pending := rfl
@[simp] theorem rc_now (o : Nat) (f : Fld) (k : Nat) : (s.rc o f k).now = s.now := rfl
@[simp] theorem rc_mem (o : Nat) (f : Fld) (k : Nat) : (s.rc o f k).mem = s.mem := rfl
@[simp] theorem rc_poison (o : Nat) (f : Fld) (k : Nat) : (s.rc o f k).poison = s.poison := rfl
@[simp] theorem rc_wakePend (o : Nat) (f : Fld) (k : Nat) : (s.rc o f k).wakePend = s.wakePend := rfl
@[simp] theorem rc_troika (o : Nat) (f : Fld) (k : Nat) : (s.rc o f k).troika = s.troika := rfl
@[simp] theorem rc_axle (o : Nat) (f : Fld) (k : Nat) : (s.rc o f k).axle = s.axle := rfl
@[simp] theorem rc_pos (o : Nat) (f : Fld) (k : Nat) : (s.rc o f k).pos = s.pos := rfl
@[simp] theorem rc_leg (o : Nat) (f : Fld) (k : Nat) : (s.rc o f k).leg = s.leg := rfl
@[simp] theorem rc_chan (o : Nat) (f : Fld) (k : Nat) : (s.rc o f k).chan = s.chan := rfl
@[simp] theorem rc_sdd (o : Nat) (f : Fld) (k : Nat) : (s.rc o f k).sdd = s.sdd := rfl
@[simp] theorem rc_sar (o : Nat) (f : Fld) (k : Nat) : (s.rc o f k).sar = s.sar := rfl
@[simp] theorem rc_res (o : Nat) (f : Fld) (k : Nat) : (s.rc o f k).res = s.res := rfl
@[simp] theorem rc_enc (o : Nat) (f : Fld) (k : Nat) : (s.rc o f k).enc = s.enc := rfl
@[simp] theorem rc_hys (o : Nat) (f : Fld) (k : Nat) : (s.rc o f k).hys = s.hys := rfl
@[simp] theorem rc_mon (o : Nat) (f : Fld) (k : Nat) : (s.rc o f k).mon = s.mon := rfl
@[simp] theorem rc_chop (o : Nat) (f : Fld) (k : Nat) : (s.rc o f k).chop = s.chop := rfl
@[simp] theorem rc_kept (o : Nat) (f : Fld) (k : Nat) : (s.rc o f k).kept = s.kept := rfl
@[simp] theorem rc_tripPins (o : Nat) (f : Fld) (k : Nat) : (s.rc o f k).tripPins = s.tripPins := rfl
@[simp] theorem rc_brake (o : Nat) (f : Fld) (k : Nat) : (s.rc o f k).brake = s.brake := rfl
@[simp] theorem rc_sealedRec (o : Nat) (f : Fld) (k : Nat) : (s.rc o f k).sealedRec = s.sealedRec := rfl
@[simp] theorem rc_lix (o : Nat) (f : Fld) (k : Nat) : (s.rc o f k).lix = s.lix := rfl
@[simp] theorem rc_lan (o : Nat) (f : Fld) (k : Nat) : (s.rc o f k).lan = s.lan := rfl
@[simp] theorem rc_cpl (o : Nat) (f : Fld) (k : Nat) : (s.rc o f k).cpl = s.cpl := rfl
@[simp] theorem rc_grd (o : Nat) (f : Fld) (k : Nat) : (s.rc o f k).grd = s.grd := rfl
@[simp] theorem rc_grdAt (o : Nat) (f : Fld) (k : Nat) : (s.rc o f k).grdAt = s.grdAt := rfl
@[simp] theorem rc_grdCap (o : Nat) (f : Fld) (k : Nat) : (s.rc o f k).grdCap = s.grdCap := rfl
@[simp] theorem rc_can (o : Nat) (f : Fld) (k : Nat) : (s.rc o f k).can = s.can := rfl
@[simp] theorem rc_eth (o : Nat) (f : Fld) (k : Nat) : (s.rc o f k).eth = s.eth := rfl
@[simp] theorem rc_thm (o : Nat) (f : Fld) (k : Nat) : (s.rc o f k).thm = s.thm := rfl
@[simp] theorem rc_thmStepping (o : Nat) (f : Fld) (k : Nat) : (s.rc o f k).thmStepping = s.thmStepping := rfl
@[simp] theorem rc_thmHot (o : Nat) (f : Fld) (k : Nat) : (s.rc o f k).thmHot = s.thmHot := rfl
@[simp] theorem rc_bist (o : Nat) (f : Fld) (k : Nat) : (s.rc o f k).bist = s.bist := rfl
@[simp] theorem rc_migPtr (o : Nat) (f : Fld) (k : Nat) : (s.rc o f k).migPtr = s.migPtr := rfl
@[simp] theorem rc_spareMem (o : Nat) (f : Fld) (k : Nat) : (s.rc o f k).spareMem = s.spareMem := rfl
@[simp] theorem rc_harnessAt (o : Nat) (f : Fld) (k : Nat) : (s.rc o f k).harnessAt = s.harnessAt := rfl
@[simp] theorem rc_nvm (o : Nat) (f : Fld) (k : Nat) : (s.rc o f k).nvm = s.nvm := rfl
@[simp] theorem rc_bringup (o : Nat) (f : Fld) (k : Nat) : (s.rc o f k).bringup = s.bringup := rfl
@[simp] theorem rc_records (o : Nat) (f : Fld) (k : Nat) : (s.rc o f k).records = s.records := rfl
@[simp] theorem rc_power (o : Nat) (f : Fld) (k : Nat) : (s.rc o f k).power = s.power := rfl
@[simp] theorem rc_draws (o : Nat) (f : Fld) (k : Nat) : (s.rc o f k).draws = s.draws := rfl

@[simp] theorem rcWrap_pending (o : Nat) (f : Fld) (k : Nat) : (s.rcWrap o f k).pending = s.pending := rfl
@[simp] theorem rcWrap_now (o : Nat) (f : Fld) (k : Nat) : (s.rcWrap o f k).now = s.now := rfl
@[simp] theorem rcWrap_mem (o : Nat) (f : Fld) (k : Nat) : (s.rcWrap o f k).mem = s.mem := rfl
@[simp] theorem rcWrap_poison (o : Nat) (f : Fld) (k : Nat) : (s.rcWrap o f k).poison = s.poison := rfl
@[simp] theorem rcWrap_wakePend (o : Nat) (f : Fld) (k : Nat) : (s.rcWrap o f k).wakePend = s.wakePend := rfl
@[simp] theorem rcWrap_troika (o : Nat) (f : Fld) (k : Nat) : (s.rcWrap o f k).troika = s.troika := rfl
@[simp] theorem rcWrap_axle (o : Nat) (f : Fld) (k : Nat) : (s.rcWrap o f k).axle = s.axle := rfl
@[simp] theorem rcWrap_pos (o : Nat) (f : Fld) (k : Nat) : (s.rcWrap o f k).pos = s.pos := rfl
@[simp] theorem rcWrap_leg (o : Nat) (f : Fld) (k : Nat) : (s.rcWrap o f k).leg = s.leg := rfl
@[simp] theorem rcWrap_chan (o : Nat) (f : Fld) (k : Nat) : (s.rcWrap o f k).chan = s.chan := rfl
@[simp] theorem rcWrap_sdd (o : Nat) (f : Fld) (k : Nat) : (s.rcWrap o f k).sdd = s.sdd := rfl
@[simp] theorem rcWrap_sar (o : Nat) (f : Fld) (k : Nat) : (s.rcWrap o f k).sar = s.sar := rfl
@[simp] theorem rcWrap_res (o : Nat) (f : Fld) (k : Nat) : (s.rcWrap o f k).res = s.res := rfl
@[simp] theorem rcWrap_enc (o : Nat) (f : Fld) (k : Nat) : (s.rcWrap o f k).enc = s.enc := rfl
@[simp] theorem rcWrap_hys (o : Nat) (f : Fld) (k : Nat) : (s.rcWrap o f k).hys = s.hys := rfl
@[simp] theorem rcWrap_mon (o : Nat) (f : Fld) (k : Nat) : (s.rcWrap o f k).mon = s.mon := rfl
@[simp] theorem rcWrap_chop (o : Nat) (f : Fld) (k : Nat) : (s.rcWrap o f k).chop = s.chop := rfl
@[simp] theorem rcWrap_kept (o : Nat) (f : Fld) (k : Nat) : (s.rcWrap o f k).kept = s.kept := rfl
@[simp] theorem rcWrap_tripPins (o : Nat) (f : Fld) (k : Nat) : (s.rcWrap o f k).tripPins = s.tripPins := rfl
@[simp] theorem rcWrap_brake (o : Nat) (f : Fld) (k : Nat) : (s.rcWrap o f k).brake = s.brake := rfl
@[simp] theorem rcWrap_sealedRec (o : Nat) (f : Fld) (k : Nat) : (s.rcWrap o f k).sealedRec = s.sealedRec := rfl
@[simp] theorem rcWrap_lix (o : Nat) (f : Fld) (k : Nat) : (s.rcWrap o f k).lix = s.lix := rfl
@[simp] theorem rcWrap_lan (o : Nat) (f : Fld) (k : Nat) : (s.rcWrap o f k).lan = s.lan := rfl
@[simp] theorem rcWrap_cpl (o : Nat) (f : Fld) (k : Nat) : (s.rcWrap o f k).cpl = s.cpl := rfl
@[simp] theorem rcWrap_grd (o : Nat) (f : Fld) (k : Nat) : (s.rcWrap o f k).grd = s.grd := rfl
@[simp] theorem rcWrap_grdAt (o : Nat) (f : Fld) (k : Nat) : (s.rcWrap o f k).grdAt = s.grdAt := rfl
@[simp] theorem rcWrap_grdCap (o : Nat) (f : Fld) (k : Nat) : (s.rcWrap o f k).grdCap = s.grdCap := rfl
@[simp] theorem rcWrap_can (o : Nat) (f : Fld) (k : Nat) : (s.rcWrap o f k).can = s.can := rfl
@[simp] theorem rcWrap_eth (o : Nat) (f : Fld) (k : Nat) : (s.rcWrap o f k).eth = s.eth := rfl
@[simp] theorem rcWrap_thm (o : Nat) (f : Fld) (k : Nat) : (s.rcWrap o f k).thm = s.thm := rfl
@[simp] theorem rcWrap_thmStepping (o : Nat) (f : Fld) (k : Nat) : (s.rcWrap o f k).thmStepping = s.thmStepping := rfl
@[simp] theorem rcWrap_thmHot (o : Nat) (f : Fld) (k : Nat) : (s.rcWrap o f k).thmHot = s.thmHot := rfl
@[simp] theorem rcWrap_bist (o : Nat) (f : Fld) (k : Nat) : (s.rcWrap o f k).bist = s.bist := rfl
@[simp] theorem rcWrap_migPtr (o : Nat) (f : Fld) (k : Nat) : (s.rcWrap o f k).migPtr = s.migPtr := rfl
@[simp] theorem rcWrap_spareMem (o : Nat) (f : Fld) (k : Nat) : (s.rcWrap o f k).spareMem = s.spareMem := rfl
@[simp] theorem rcWrap_harnessAt (o : Nat) (f : Fld) (k : Nat) : (s.rcWrap o f k).harnessAt = s.harnessAt := rfl
@[simp] theorem rcWrap_nvm (o : Nat) (f : Fld) (k : Nat) : (s.rcWrap o f k).nvm = s.nvm := rfl
@[simp] theorem rcWrap_bringup (o : Nat) (f : Fld) (k : Nat) : (s.rcWrap o f k).bringup = s.bringup := rfl
@[simp] theorem rcWrap_records (o : Nat) (f : Fld) (k : Nat) : (s.rcWrap o f k).records = s.records := rfl
@[simp] theorem rcWrap_power (o : Nat) (f : Fld) (k : Nat) : (s.rcWrap o f k).power = s.power := rfl
@[simp] theorem rcWrap_draws (o : Nat) (f : Fld) (k : Nat) : (s.rcWrap o f k).draws = s.draws := rfl

@[simp] theorem updAx_pending (a : Nat) (f : AxleSt → AxleSt) : (s.updAx a f).pending = s.pending := rfl
@[simp] theorem updAx_now (a : Nat) (f : AxleSt → AxleSt) : (s.updAx a f).now = s.now := rfl
@[simp] theorem updAx_regs (a : Nat) (f : AxleSt → AxleSt) : (s.updAx a f).regs = s.regs := rfl
@[simp] theorem updAx_mem (a : Nat) (f : AxleSt → AxleSt) : (s.updAx a f).mem = s.mem := rfl
@[simp] theorem updAx_poison (a : Nat) (f : AxleSt → AxleSt) : (s.updAx a f).poison = s.poison := rfl
@[simp] theorem updAx_wakePend (a : Nat) (f : AxleSt → AxleSt) : (s.updAx a f).wakePend = s.wakePend := rfl
@[simp] theorem updAx_troika (a : Nat) (f : AxleSt → AxleSt) : (s.updAx a f).troika = s.troika := rfl
@[simp] theorem updAx_pos (a : Nat) (f : AxleSt → AxleSt) : (s.updAx a f).pos = s.pos := rfl
@[simp] theorem updAx_leg (a : Nat) (f : AxleSt → AxleSt) : (s.updAx a f).leg = s.leg := rfl
@[simp] theorem updAx_chan (a : Nat) (f : AxleSt → AxleSt) : (s.updAx a f).chan = s.chan := rfl
@[simp] theorem updAx_sdd (a : Nat) (f : AxleSt → AxleSt) : (s.updAx a f).sdd = s.sdd := rfl
@[simp] theorem updAx_sar (a : Nat) (f : AxleSt → AxleSt) : (s.updAx a f).sar = s.sar := rfl
@[simp] theorem updAx_res (a : Nat) (f : AxleSt → AxleSt) : (s.updAx a f).res = s.res := rfl
@[simp] theorem updAx_enc (a : Nat) (f : AxleSt → AxleSt) : (s.updAx a f).enc = s.enc := rfl
@[simp] theorem updAx_hys (a : Nat) (f : AxleSt → AxleSt) : (s.updAx a f).hys = s.hys := rfl
@[simp] theorem updAx_mon (a : Nat) (f : AxleSt → AxleSt) : (s.updAx a f).mon = s.mon := rfl
@[simp] theorem updAx_chop (a : Nat) (f : AxleSt → AxleSt) : (s.updAx a f).chop = s.chop := rfl
@[simp] theorem updAx_kept (a : Nat) (f : AxleSt → AxleSt) : (s.updAx a f).kept = s.kept := rfl
@[simp] theorem updAx_tripPins (a : Nat) (f : AxleSt → AxleSt) : (s.updAx a f).tripPins = s.tripPins := rfl
@[simp] theorem updAx_brake (a : Nat) (f : AxleSt → AxleSt) : (s.updAx a f).brake = s.brake := rfl
@[simp] theorem updAx_sealedRec (a : Nat) (f : AxleSt → AxleSt) : (s.updAx a f).sealedRec = s.sealedRec := rfl
@[simp] theorem updAx_lix (a : Nat) (f : AxleSt → AxleSt) : (s.updAx a f).lix = s.lix := rfl
@[simp] theorem updAx_lan (a : Nat) (f : AxleSt → AxleSt) : (s.updAx a f).lan = s.lan := rfl
@[simp] theorem updAx_cpl (a : Nat) (f : AxleSt → AxleSt) : (s.updAx a f).cpl = s.cpl := rfl
@[simp] theorem updAx_grd (a : Nat) (f : AxleSt → AxleSt) : (s.updAx a f).grd = s.grd := rfl
@[simp] theorem updAx_grdAt (a : Nat) (f : AxleSt → AxleSt) : (s.updAx a f).grdAt = s.grdAt := rfl
@[simp] theorem updAx_grdCap (a : Nat) (f : AxleSt → AxleSt) : (s.updAx a f).grdCap = s.grdCap := rfl
@[simp] theorem updAx_can (a : Nat) (f : AxleSt → AxleSt) : (s.updAx a f).can = s.can := rfl
@[simp] theorem updAx_eth (a : Nat) (f : AxleSt → AxleSt) : (s.updAx a f).eth = s.eth := rfl
@[simp] theorem updAx_thm (a : Nat) (f : AxleSt → AxleSt) : (s.updAx a f).thm = s.thm := rfl
@[simp] theorem updAx_thmStepping (a : Nat) (f : AxleSt → AxleSt) : (s.updAx a f).thmStepping = s.thmStepping := rfl
@[simp] theorem updAx_thmHot (a : Nat) (f : AxleSt → AxleSt) : (s.updAx a f).thmHot = s.thmHot := rfl
@[simp] theorem updAx_bist (a : Nat) (f : AxleSt → AxleSt) : (s.updAx a f).bist = s.bist := rfl
@[simp] theorem updAx_migPtr (a : Nat) (f : AxleSt → AxleSt) : (s.updAx a f).migPtr = s.migPtr := rfl
@[simp] theorem updAx_spareMem (a : Nat) (f : AxleSt → AxleSt) : (s.updAx a f).spareMem = s.spareMem := rfl
@[simp] theorem updAx_harnessAt (a : Nat) (f : AxleSt → AxleSt) : (s.updAx a f).harnessAt = s.harnessAt := rfl
@[simp] theorem updAx_nvm (a : Nat) (f : AxleSt → AxleSt) : (s.updAx a f).nvm = s.nvm := rfl
@[simp] theorem updAx_bringup (a : Nat) (f : AxleSt → AxleSt) : (s.updAx a f).bringup = s.bringup := rfl
@[simp] theorem updAx_records (a : Nat) (f : AxleSt → AxleSt) : (s.updAx a f).records = s.records := rfl
@[simp] theorem updAx_power (a : Nat) (f : AxleSt → AxleSt) : (s.updAx a f).power = s.power := rfl
@[simp] theorem updAx_draws (a : Nat) (f : AxleSt → AxleSt) : (s.updAx a f).draws = s.draws := rfl

@[simp] theorem updPs_pending (p : Nat) (f : PosSt → PosSt) : (s.updPs p f).pending = s.pending := rfl
@[simp] theorem updPs_now (p : Nat) (f : PosSt → PosSt) : (s.updPs p f).now = s.now := rfl
@[simp] theorem updPs_regs (p : Nat) (f : PosSt → PosSt) : (s.updPs p f).regs = s.regs := rfl
@[simp] theorem updPs_mem (p : Nat) (f : PosSt → PosSt) : (s.updPs p f).mem = s.mem := rfl
@[simp] theorem updPs_poison (p : Nat) (f : PosSt → PosSt) : (s.updPs p f).poison = s.poison := rfl
@[simp] theorem updPs_wakePend (p : Nat) (f : PosSt → PosSt) : (s.updPs p f).wakePend = s.wakePend := rfl
@[simp] theorem updPs_troika (p : Nat) (f : PosSt → PosSt) : (s.updPs p f).troika = s.troika := rfl
@[simp] theorem updPs_axle (p : Nat) (f : PosSt → PosSt) : (s.updPs p f).axle = s.axle := rfl
@[simp] theorem updPs_leg (p : Nat) (f : PosSt → PosSt) : (s.updPs p f).leg = s.leg := rfl
@[simp] theorem updPs_chan (p : Nat) (f : PosSt → PosSt) : (s.updPs p f).chan = s.chan := rfl
@[simp] theorem updPs_sdd (p : Nat) (f : PosSt → PosSt) : (s.updPs p f).sdd = s.sdd := rfl
@[simp] theorem updPs_sar (p : Nat) (f : PosSt → PosSt) : (s.updPs p f).sar = s.sar := rfl
@[simp] theorem updPs_res (p : Nat) (f : PosSt → PosSt) : (s.updPs p f).res = s.res := rfl
@[simp] theorem updPs_enc (p : Nat) (f : PosSt → PosSt) : (s.updPs p f).enc = s.enc := rfl
@[simp] theorem updPs_hys (p : Nat) (f : PosSt → PosSt) : (s.updPs p f).hys = s.hys := rfl
@[simp] theorem updPs_mon (p : Nat) (f : PosSt → PosSt) : (s.updPs p f).mon = s.mon := rfl
@[simp] theorem updPs_chop (p : Nat) (f : PosSt → PosSt) : (s.updPs p f).chop = s.chop := rfl
@[simp] theorem updPs_kept (p : Nat) (f : PosSt → PosSt) : (s.updPs p f).kept = s.kept := rfl
@[simp] theorem updPs_tripPins (p : Nat) (f : PosSt → PosSt) : (s.updPs p f).tripPins = s.tripPins := rfl
@[simp] theorem updPs_brake (p : Nat) (f : PosSt → PosSt) : (s.updPs p f).brake = s.brake := rfl
@[simp] theorem updPs_sealedRec (p : Nat) (f : PosSt → PosSt) : (s.updPs p f).sealedRec = s.sealedRec := rfl
@[simp] theorem updPs_lix (p : Nat) (f : PosSt → PosSt) : (s.updPs p f).lix = s.lix := rfl
@[simp] theorem updPs_lan (p : Nat) (f : PosSt → PosSt) : (s.updPs p f).lan = s.lan := rfl
@[simp] theorem updPs_cpl (p : Nat) (f : PosSt → PosSt) : (s.updPs p f).cpl = s.cpl := rfl
@[simp] theorem updPs_grd (p : Nat) (f : PosSt → PosSt) : (s.updPs p f).grd = s.grd := rfl
@[simp] theorem updPs_grdAt (p : Nat) (f : PosSt → PosSt) : (s.updPs p f).grdAt = s.grdAt := rfl
@[simp] theorem updPs_grdCap (p : Nat) (f : PosSt → PosSt) : (s.updPs p f).grdCap = s.grdCap := rfl
@[simp] theorem updPs_can (p : Nat) (f : PosSt → PosSt) : (s.updPs p f).can = s.can := rfl
@[simp] theorem updPs_eth (p : Nat) (f : PosSt → PosSt) : (s.updPs p f).eth = s.eth := rfl
@[simp] theorem updPs_thm (p : Nat) (f : PosSt → PosSt) : (s.updPs p f).thm = s.thm := rfl
@[simp] theorem updPs_thmStepping (p : Nat) (f : PosSt → PosSt) : (s.updPs p f).thmStepping = s.thmStepping := rfl
@[simp] theorem updPs_thmHot (p : Nat) (f : PosSt → PosSt) : (s.updPs p f).thmHot = s.thmHot := rfl
@[simp] theorem updPs_bist (p : Nat) (f : PosSt → PosSt) : (s.updPs p f).bist = s.bist := rfl
@[simp] theorem updPs_migPtr (p : Nat) (f : PosSt → PosSt) : (s.updPs p f).migPtr = s.migPtr := rfl
@[simp] theorem updPs_spareMem (p : Nat) (f : PosSt → PosSt) : (s.updPs p f).spareMem = s.spareMem := rfl
@[simp] theorem updPs_harnessAt (p : Nat) (f : PosSt → PosSt) : (s.updPs p f).harnessAt = s.harnessAt := rfl
@[simp] theorem updPs_nvm (p : Nat) (f : PosSt → PosSt) : (s.updPs p f).nvm = s.nvm := rfl
@[simp] theorem updPs_bringup (p : Nat) (f : PosSt → PosSt) : (s.updPs p f).bringup = s.bringup := rfl
@[simp] theorem updPs_records (p : Nat) (f : PosSt → PosSt) : (s.updPs p f).records = s.records := rfl
@[simp] theorem updPs_power (p : Nat) (f : PosSt → PosSt) : (s.updPs p f).power = s.power := rfl
@[simp] theorem updPs_draws (p : Nat) (f : PosSt → PosSt) : (s.updPs p f).draws = s.draws := rfl

@[simp] theorem updLg_pending (l : Nat) (f : LegSt → LegSt) : (s.updLg l f).pending = s.pending := rfl
@[simp] theorem updLg_now (l : Nat) (f : LegSt → LegSt) : (s.updLg l f).now = s.now := rfl
@[simp] theorem updLg_regs (l : Nat) (f : LegSt → LegSt) : (s.updLg l f).regs = s.regs := rfl
@[simp] theorem updLg_mem (l : Nat) (f : LegSt → LegSt) : (s.updLg l f).mem = s.mem := rfl
@[simp] theorem updLg_poison (l : Nat) (f : LegSt → LegSt) : (s.updLg l f).poison = s.poison := rfl
@[simp] theorem updLg_wakePend (l : Nat) (f : LegSt → LegSt) : (s.updLg l f).wakePend = s.wakePend := rfl
@[simp] theorem updLg_troika (l : Nat) (f : LegSt → LegSt) : (s.updLg l f).troika = s.troika := rfl
@[simp] theorem updLg_axle (l : Nat) (f : LegSt → LegSt) : (s.updLg l f).axle = s.axle := rfl
@[simp] theorem updLg_pos (l : Nat) (f : LegSt → LegSt) : (s.updLg l f).pos = s.pos := rfl
@[simp] theorem updLg_chan (l : Nat) (f : LegSt → LegSt) : (s.updLg l f).chan = s.chan := rfl
@[simp] theorem updLg_sdd (l : Nat) (f : LegSt → LegSt) : (s.updLg l f).sdd = s.sdd := rfl
@[simp] theorem updLg_sar (l : Nat) (f : LegSt → LegSt) : (s.updLg l f).sar = s.sar := rfl
@[simp] theorem updLg_res (l : Nat) (f : LegSt → LegSt) : (s.updLg l f).res = s.res := rfl
@[simp] theorem updLg_enc (l : Nat) (f : LegSt → LegSt) : (s.updLg l f).enc = s.enc := rfl
@[simp] theorem updLg_hys (l : Nat) (f : LegSt → LegSt) : (s.updLg l f).hys = s.hys := rfl
@[simp] theorem updLg_mon (l : Nat) (f : LegSt → LegSt) : (s.updLg l f).mon = s.mon := rfl
@[simp] theorem updLg_chop (l : Nat) (f : LegSt → LegSt) : (s.updLg l f).chop = s.chop := rfl
@[simp] theorem updLg_kept (l : Nat) (f : LegSt → LegSt) : (s.updLg l f).kept = s.kept := rfl
@[simp] theorem updLg_tripPins (l : Nat) (f : LegSt → LegSt) : (s.updLg l f).tripPins = s.tripPins := rfl
@[simp] theorem updLg_brake (l : Nat) (f : LegSt → LegSt) : (s.updLg l f).brake = s.brake := rfl
@[simp] theorem updLg_sealedRec (l : Nat) (f : LegSt → LegSt) : (s.updLg l f).sealedRec = s.sealedRec := rfl
@[simp] theorem updLg_lix (l : Nat) (f : LegSt → LegSt) : (s.updLg l f).lix = s.lix := rfl
@[simp] theorem updLg_lan (l : Nat) (f : LegSt → LegSt) : (s.updLg l f).lan = s.lan := rfl
@[simp] theorem updLg_cpl (l : Nat) (f : LegSt → LegSt) : (s.updLg l f).cpl = s.cpl := rfl
@[simp] theorem updLg_grd (l : Nat) (f : LegSt → LegSt) : (s.updLg l f).grd = s.grd := rfl
@[simp] theorem updLg_grdAt (l : Nat) (f : LegSt → LegSt) : (s.updLg l f).grdAt = s.grdAt := rfl
@[simp] theorem updLg_grdCap (l : Nat) (f : LegSt → LegSt) : (s.updLg l f).grdCap = s.grdCap := rfl
@[simp] theorem updLg_can (l : Nat) (f : LegSt → LegSt) : (s.updLg l f).can = s.can := rfl
@[simp] theorem updLg_eth (l : Nat) (f : LegSt → LegSt) : (s.updLg l f).eth = s.eth := rfl
@[simp] theorem updLg_thm (l : Nat) (f : LegSt → LegSt) : (s.updLg l f).thm = s.thm := rfl
@[simp] theorem updLg_thmStepping (l : Nat) (f : LegSt → LegSt) : (s.updLg l f).thmStepping = s.thmStepping := rfl
@[simp] theorem updLg_thmHot (l : Nat) (f : LegSt → LegSt) : (s.updLg l f).thmHot = s.thmHot := rfl
@[simp] theorem updLg_bist (l : Nat) (f : LegSt → LegSt) : (s.updLg l f).bist = s.bist := rfl
@[simp] theorem updLg_migPtr (l : Nat) (f : LegSt → LegSt) : (s.updLg l f).migPtr = s.migPtr := rfl
@[simp] theorem updLg_spareMem (l : Nat) (f : LegSt → LegSt) : (s.updLg l f).spareMem = s.spareMem := rfl
@[simp] theorem updLg_harnessAt (l : Nat) (f : LegSt → LegSt) : (s.updLg l f).harnessAt = s.harnessAt := rfl
@[simp] theorem updLg_nvm (l : Nat) (f : LegSt → LegSt) : (s.updLg l f).nvm = s.nvm := rfl
@[simp] theorem updLg_bringup (l : Nat) (f : LegSt → LegSt) : (s.updLg l f).bringup = s.bringup := rfl
@[simp] theorem updLg_records (l : Nat) (f : LegSt → LegSt) : (s.updLg l f).records = s.records := rfl
@[simp] theorem updLg_power (l : Nat) (f : LegSt → LegSt) : (s.updLg l f).power = s.power := rfl
@[simp] theorem updLg_draws (l : Nat) (f : LegSt → LegSt) : (s.updLg l f).draws = s.draws := rfl

@[simp] theorem updCh_pending (c : Nat) (f : ChanSt → ChanSt) : (s.updCh c f).pending = s.pending := rfl
@[simp] theorem updCh_now (c : Nat) (f : ChanSt → ChanSt) : (s.updCh c f).now = s.now := rfl
@[simp] theorem updCh_regs (c : Nat) (f : ChanSt → ChanSt) : (s.updCh c f).regs = s.regs := rfl
@[simp] theorem updCh_mem (c : Nat) (f : ChanSt → ChanSt) : (s.updCh c f).mem = s.mem := rfl
@[simp] theorem updCh_poison (c : Nat) (f : ChanSt → ChanSt) : (s.updCh c f).poison = s.poison := rfl
@[simp] theorem updCh_wakePend (c : Nat) (f : ChanSt → ChanSt) : (s.updCh c f).wakePend = s.wakePend := rfl
@[simp] theorem updCh_troika (c : Nat) (f : ChanSt → ChanSt) : (s.updCh c f).troika = s.troika := rfl
@[simp] theorem updCh_axle (c : Nat) (f : ChanSt → ChanSt) : (s.updCh c f).axle = s.axle := rfl
@[simp] theorem updCh_pos (c : Nat) (f : ChanSt → ChanSt) : (s.updCh c f).pos = s.pos := rfl
@[simp] theorem updCh_leg (c : Nat) (f : ChanSt → ChanSt) : (s.updCh c f).leg = s.leg := rfl
@[simp] theorem updCh_sdd (c : Nat) (f : ChanSt → ChanSt) : (s.updCh c f).sdd = s.sdd := rfl
@[simp] theorem updCh_sar (c : Nat) (f : ChanSt → ChanSt) : (s.updCh c f).sar = s.sar := rfl
@[simp] theorem updCh_res (c : Nat) (f : ChanSt → ChanSt) : (s.updCh c f).res = s.res := rfl
@[simp] theorem updCh_enc (c : Nat) (f : ChanSt → ChanSt) : (s.updCh c f).enc = s.enc := rfl
@[simp] theorem updCh_hys (c : Nat) (f : ChanSt → ChanSt) : (s.updCh c f).hys = s.hys := rfl
@[simp] theorem updCh_mon (c : Nat) (f : ChanSt → ChanSt) : (s.updCh c f).mon = s.mon := rfl
@[simp] theorem updCh_chop (c : Nat) (f : ChanSt → ChanSt) : (s.updCh c f).chop = s.chop := rfl
@[simp] theorem updCh_kept (c : Nat) (f : ChanSt → ChanSt) : (s.updCh c f).kept = s.kept := rfl
@[simp] theorem updCh_tripPins (c : Nat) (f : ChanSt → ChanSt) : (s.updCh c f).tripPins = s.tripPins := rfl
@[simp] theorem updCh_brake (c : Nat) (f : ChanSt → ChanSt) : (s.updCh c f).brake = s.brake := rfl
@[simp] theorem updCh_sealedRec (c : Nat) (f : ChanSt → ChanSt) : (s.updCh c f).sealedRec = s.sealedRec := rfl
@[simp] theorem updCh_lix (c : Nat) (f : ChanSt → ChanSt) : (s.updCh c f).lix = s.lix := rfl
@[simp] theorem updCh_lan (c : Nat) (f : ChanSt → ChanSt) : (s.updCh c f).lan = s.lan := rfl
@[simp] theorem updCh_cpl (c : Nat) (f : ChanSt → ChanSt) : (s.updCh c f).cpl = s.cpl := rfl
@[simp] theorem updCh_grd (c : Nat) (f : ChanSt → ChanSt) : (s.updCh c f).grd = s.grd := rfl
@[simp] theorem updCh_grdAt (c : Nat) (f : ChanSt → ChanSt) : (s.updCh c f).grdAt = s.grdAt := rfl
@[simp] theorem updCh_grdCap (c : Nat) (f : ChanSt → ChanSt) : (s.updCh c f).grdCap = s.grdCap := rfl
@[simp] theorem updCh_can (c : Nat) (f : ChanSt → ChanSt) : (s.updCh c f).can = s.can := rfl
@[simp] theorem updCh_eth (c : Nat) (f : ChanSt → ChanSt) : (s.updCh c f).eth = s.eth := rfl
@[simp] theorem updCh_thm (c : Nat) (f : ChanSt → ChanSt) : (s.updCh c f).thm = s.thm := rfl
@[simp] theorem updCh_thmStepping (c : Nat) (f : ChanSt → ChanSt) : (s.updCh c f).thmStepping = s.thmStepping := rfl
@[simp] theorem updCh_thmHot (c : Nat) (f : ChanSt → ChanSt) : (s.updCh c f).thmHot = s.thmHot := rfl
@[simp] theorem updCh_bist (c : Nat) (f : ChanSt → ChanSt) : (s.updCh c f).bist = s.bist := rfl
@[simp] theorem updCh_migPtr (c : Nat) (f : ChanSt → ChanSt) : (s.updCh c f).migPtr = s.migPtr := rfl
@[simp] theorem updCh_spareMem (c : Nat) (f : ChanSt → ChanSt) : (s.updCh c f).spareMem = s.spareMem := rfl
@[simp] theorem updCh_harnessAt (c : Nat) (f : ChanSt → ChanSt) : (s.updCh c f).harnessAt = s.harnessAt := rfl
@[simp] theorem updCh_nvm (c : Nat) (f : ChanSt → ChanSt) : (s.updCh c f).nvm = s.nvm := rfl
@[simp] theorem updCh_bringup (c : Nat) (f : ChanSt → ChanSt) : (s.updCh c f).bringup = s.bringup := rfl
@[simp] theorem updCh_records (c : Nat) (f : ChanSt → ChanSt) : (s.updCh c f).records = s.records := rfl
@[simp] theorem updCh_power (c : Nat) (f : ChanSt → ChanSt) : (s.updCh c f).power = s.power := rfl
@[simp] theorem updCh_draws (c : Nat) (f : ChanSt → ChanSt) : (s.updCh c f).draws = s.draws := rfl

@[simp] theorem updSd_pending (c : Nat) (f : SddSt → SddSt) : (s.updSd c f).pending = s.pending := rfl
@[simp] theorem updSd_now (c : Nat) (f : SddSt → SddSt) : (s.updSd c f).now = s.now := rfl
@[simp] theorem updSd_regs (c : Nat) (f : SddSt → SddSt) : (s.updSd c f).regs = s.regs := rfl
@[simp] theorem updSd_mem (c : Nat) (f : SddSt → SddSt) : (s.updSd c f).mem = s.mem := rfl
@[simp] theorem updSd_poison (c : Nat) (f : SddSt → SddSt) : (s.updSd c f).poison = s.poison := rfl
@[simp] theorem updSd_wakePend (c : Nat) (f : SddSt → SddSt) : (s.updSd c f).wakePend = s.wakePend := rfl
@[simp] theorem updSd_troika (c : Nat) (f : SddSt → SddSt) : (s.updSd c f).troika = s.troika := rfl
@[simp] theorem updSd_axle (c : Nat) (f : SddSt → SddSt) : (s.updSd c f).axle = s.axle := rfl
@[simp] theorem updSd_pos (c : Nat) (f : SddSt → SddSt) : (s.updSd c f).pos = s.pos := rfl
@[simp] theorem updSd_leg (c : Nat) (f : SddSt → SddSt) : (s.updSd c f).leg = s.leg := rfl
@[simp] theorem updSd_chan (c : Nat) (f : SddSt → SddSt) : (s.updSd c f).chan = s.chan := rfl
@[simp] theorem updSd_sar (c : Nat) (f : SddSt → SddSt) : (s.updSd c f).sar = s.sar := rfl
@[simp] theorem updSd_res (c : Nat) (f : SddSt → SddSt) : (s.updSd c f).res = s.res := rfl
@[simp] theorem updSd_enc (c : Nat) (f : SddSt → SddSt) : (s.updSd c f).enc = s.enc := rfl
@[simp] theorem updSd_hys (c : Nat) (f : SddSt → SddSt) : (s.updSd c f).hys = s.hys := rfl
@[simp] theorem updSd_mon (c : Nat) (f : SddSt → SddSt) : (s.updSd c f).mon = s.mon := rfl
@[simp] theorem updSd_chop (c : Nat) (f : SddSt → SddSt) : (s.updSd c f).chop = s.chop := rfl
@[simp] theorem updSd_kept (c : Nat) (f : SddSt → SddSt) : (s.updSd c f).kept = s.kept := rfl
@[simp] theorem updSd_tripPins (c : Nat) (f : SddSt → SddSt) : (s.updSd c f).tripPins = s.tripPins := rfl
@[simp] theorem updSd_brake (c : Nat) (f : SddSt → SddSt) : (s.updSd c f).brake = s.brake := rfl
@[simp] theorem updSd_sealedRec (c : Nat) (f : SddSt → SddSt) : (s.updSd c f).sealedRec = s.sealedRec := rfl
@[simp] theorem updSd_lix (c : Nat) (f : SddSt → SddSt) : (s.updSd c f).lix = s.lix := rfl
@[simp] theorem updSd_lan (c : Nat) (f : SddSt → SddSt) : (s.updSd c f).lan = s.lan := rfl
@[simp] theorem updSd_cpl (c : Nat) (f : SddSt → SddSt) : (s.updSd c f).cpl = s.cpl := rfl
@[simp] theorem updSd_grd (c : Nat) (f : SddSt → SddSt) : (s.updSd c f).grd = s.grd := rfl
@[simp] theorem updSd_grdAt (c : Nat) (f : SddSt → SddSt) : (s.updSd c f).grdAt = s.grdAt := rfl
@[simp] theorem updSd_grdCap (c : Nat) (f : SddSt → SddSt) : (s.updSd c f).grdCap = s.grdCap := rfl
@[simp] theorem updSd_can (c : Nat) (f : SddSt → SddSt) : (s.updSd c f).can = s.can := rfl
@[simp] theorem updSd_eth (c : Nat) (f : SddSt → SddSt) : (s.updSd c f).eth = s.eth := rfl
@[simp] theorem updSd_thm (c : Nat) (f : SddSt → SddSt) : (s.updSd c f).thm = s.thm := rfl
@[simp] theorem updSd_thmStepping (c : Nat) (f : SddSt → SddSt) : (s.updSd c f).thmStepping = s.thmStepping := rfl
@[simp] theorem updSd_thmHot (c : Nat) (f : SddSt → SddSt) : (s.updSd c f).thmHot = s.thmHot := rfl
@[simp] theorem updSd_bist (c : Nat) (f : SddSt → SddSt) : (s.updSd c f).bist = s.bist := rfl
@[simp] theorem updSd_migPtr (c : Nat) (f : SddSt → SddSt) : (s.updSd c f).migPtr = s.migPtr := rfl
@[simp] theorem updSd_spareMem (c : Nat) (f : SddSt → SddSt) : (s.updSd c f).spareMem = s.spareMem := rfl
@[simp] theorem updSd_harnessAt (c : Nat) (f : SddSt → SddSt) : (s.updSd c f).harnessAt = s.harnessAt := rfl
@[simp] theorem updSd_nvm (c : Nat) (f : SddSt → SddSt) : (s.updSd c f).nvm = s.nvm := rfl
@[simp] theorem updSd_bringup (c : Nat) (f : SddSt → SddSt) : (s.updSd c f).bringup = s.bringup := rfl
@[simp] theorem updSd_records (c : Nat) (f : SddSt → SddSt) : (s.updSd c f).records = s.records := rfl
@[simp] theorem updSd_power (c : Nat) (f : SddSt → SddSt) : (s.updSd c f).power = s.power := rfl
@[simp] theorem updSd_draws (c : Nat) (f : SddSt → SddSt) : (s.updSd c f).draws = s.draws := rfl

@[simp] theorem updSr_pending (c : Nat) (f : SarSt → SarSt) : (s.updSr c f).pending = s.pending := rfl
@[simp] theorem updSr_now (c : Nat) (f : SarSt → SarSt) : (s.updSr c f).now = s.now := rfl
@[simp] theorem updSr_regs (c : Nat) (f : SarSt → SarSt) : (s.updSr c f).regs = s.regs := rfl
@[simp] theorem updSr_mem (c : Nat) (f : SarSt → SarSt) : (s.updSr c f).mem = s.mem := rfl
@[simp] theorem updSr_poison (c : Nat) (f : SarSt → SarSt) : (s.updSr c f).poison = s.poison := rfl
@[simp] theorem updSr_wakePend (c : Nat) (f : SarSt → SarSt) : (s.updSr c f).wakePend = s.wakePend := rfl
@[simp] theorem updSr_troika (c : Nat) (f : SarSt → SarSt) : (s.updSr c f).troika = s.troika := rfl
@[simp] theorem updSr_axle (c : Nat) (f : SarSt → SarSt) : (s.updSr c f).axle = s.axle := rfl
@[simp] theorem updSr_pos (c : Nat) (f : SarSt → SarSt) : (s.updSr c f).pos = s.pos := rfl
@[simp] theorem updSr_leg (c : Nat) (f : SarSt → SarSt) : (s.updSr c f).leg = s.leg := rfl
@[simp] theorem updSr_chan (c : Nat) (f : SarSt → SarSt) : (s.updSr c f).chan = s.chan := rfl
@[simp] theorem updSr_sdd (c : Nat) (f : SarSt → SarSt) : (s.updSr c f).sdd = s.sdd := rfl
@[simp] theorem updSr_res (c : Nat) (f : SarSt → SarSt) : (s.updSr c f).res = s.res := rfl
@[simp] theorem updSr_enc (c : Nat) (f : SarSt → SarSt) : (s.updSr c f).enc = s.enc := rfl
@[simp] theorem updSr_hys (c : Nat) (f : SarSt → SarSt) : (s.updSr c f).hys = s.hys := rfl
@[simp] theorem updSr_mon (c : Nat) (f : SarSt → SarSt) : (s.updSr c f).mon = s.mon := rfl
@[simp] theorem updSr_chop (c : Nat) (f : SarSt → SarSt) : (s.updSr c f).chop = s.chop := rfl
@[simp] theorem updSr_kept (c : Nat) (f : SarSt → SarSt) : (s.updSr c f).kept = s.kept := rfl
@[simp] theorem updSr_tripPins (c : Nat) (f : SarSt → SarSt) : (s.updSr c f).tripPins = s.tripPins := rfl
@[simp] theorem updSr_brake (c : Nat) (f : SarSt → SarSt) : (s.updSr c f).brake = s.brake := rfl
@[simp] theorem updSr_sealedRec (c : Nat) (f : SarSt → SarSt) : (s.updSr c f).sealedRec = s.sealedRec := rfl
@[simp] theorem updSr_lix (c : Nat) (f : SarSt → SarSt) : (s.updSr c f).lix = s.lix := rfl
@[simp] theorem updSr_lan (c : Nat) (f : SarSt → SarSt) : (s.updSr c f).lan = s.lan := rfl
@[simp] theorem updSr_cpl (c : Nat) (f : SarSt → SarSt) : (s.updSr c f).cpl = s.cpl := rfl
@[simp] theorem updSr_grd (c : Nat) (f : SarSt → SarSt) : (s.updSr c f).grd = s.grd := rfl
@[simp] theorem updSr_grdAt (c : Nat) (f : SarSt → SarSt) : (s.updSr c f).grdAt = s.grdAt := rfl
@[simp] theorem updSr_grdCap (c : Nat) (f : SarSt → SarSt) : (s.updSr c f).grdCap = s.grdCap := rfl
@[simp] theorem updSr_can (c : Nat) (f : SarSt → SarSt) : (s.updSr c f).can = s.can := rfl
@[simp] theorem updSr_eth (c : Nat) (f : SarSt → SarSt) : (s.updSr c f).eth = s.eth := rfl
@[simp] theorem updSr_thm (c : Nat) (f : SarSt → SarSt) : (s.updSr c f).thm = s.thm := rfl
@[simp] theorem updSr_thmStepping (c : Nat) (f : SarSt → SarSt) : (s.updSr c f).thmStepping = s.thmStepping := rfl
@[simp] theorem updSr_thmHot (c : Nat) (f : SarSt → SarSt) : (s.updSr c f).thmHot = s.thmHot := rfl
@[simp] theorem updSr_bist (c : Nat) (f : SarSt → SarSt) : (s.updSr c f).bist = s.bist := rfl
@[simp] theorem updSr_migPtr (c : Nat) (f : SarSt → SarSt) : (s.updSr c f).migPtr = s.migPtr := rfl
@[simp] theorem updSr_spareMem (c : Nat) (f : SarSt → SarSt) : (s.updSr c f).spareMem = s.spareMem := rfl
@[simp] theorem updSr_harnessAt (c : Nat) (f : SarSt → SarSt) : (s.updSr c f).harnessAt = s.harnessAt := rfl
@[simp] theorem updSr_nvm (c : Nat) (f : SarSt → SarSt) : (s.updSr c f).nvm = s.nvm := rfl
@[simp] theorem updSr_bringup (c : Nat) (f : SarSt → SarSt) : (s.updSr c f).bringup = s.bringup := rfl
@[simp] theorem updSr_records (c : Nat) (f : SarSt → SarSt) : (s.updSr c f).records = s.records := rfl
@[simp] theorem updSr_power (c : Nat) (f : SarSt → SarSt) : (s.updSr c f).power = s.power := rfl
@[simp] theorem updSr_draws (c : Nat) (f : SarSt → SarSt) : (s.updSr c f).draws = s.draws := rfl

@[simp] theorem updRs_pending (r : Nat) (f : ResSt → ResSt) : (s.updRs r f).pending = s.pending := rfl
@[simp] theorem updRs_now (r : Nat) (f : ResSt → ResSt) : (s.updRs r f).now = s.now := rfl
@[simp] theorem updRs_regs (r : Nat) (f : ResSt → ResSt) : (s.updRs r f).regs = s.regs := rfl
@[simp] theorem updRs_mem (r : Nat) (f : ResSt → ResSt) : (s.updRs r f).mem = s.mem := rfl
@[simp] theorem updRs_poison (r : Nat) (f : ResSt → ResSt) : (s.updRs r f).poison = s.poison := rfl
@[simp] theorem updRs_wakePend (r : Nat) (f : ResSt → ResSt) : (s.updRs r f).wakePend = s.wakePend := rfl
@[simp] theorem updRs_troika (r : Nat) (f : ResSt → ResSt) : (s.updRs r f).troika = s.troika := rfl
@[simp] theorem updRs_axle (r : Nat) (f : ResSt → ResSt) : (s.updRs r f).axle = s.axle := rfl
@[simp] theorem updRs_pos (r : Nat) (f : ResSt → ResSt) : (s.updRs r f).pos = s.pos := rfl
@[simp] theorem updRs_leg (r : Nat) (f : ResSt → ResSt) : (s.updRs r f).leg = s.leg := rfl
@[simp] theorem updRs_chan (r : Nat) (f : ResSt → ResSt) : (s.updRs r f).chan = s.chan := rfl
@[simp] theorem updRs_sdd (r : Nat) (f : ResSt → ResSt) : (s.updRs r f).sdd = s.sdd := rfl
@[simp] theorem updRs_sar (r : Nat) (f : ResSt → ResSt) : (s.updRs r f).sar = s.sar := rfl
@[simp] theorem updRs_enc (r : Nat) (f : ResSt → ResSt) : (s.updRs r f).enc = s.enc := rfl
@[simp] theorem updRs_hys (r : Nat) (f : ResSt → ResSt) : (s.updRs r f).hys = s.hys := rfl
@[simp] theorem updRs_mon (r : Nat) (f : ResSt → ResSt) : (s.updRs r f).mon = s.mon := rfl
@[simp] theorem updRs_chop (r : Nat) (f : ResSt → ResSt) : (s.updRs r f).chop = s.chop := rfl
@[simp] theorem updRs_kept (r : Nat) (f : ResSt → ResSt) : (s.updRs r f).kept = s.kept := rfl
@[simp] theorem updRs_tripPins (r : Nat) (f : ResSt → ResSt) : (s.updRs r f).tripPins = s.tripPins := rfl
@[simp] theorem updRs_brake (r : Nat) (f : ResSt → ResSt) : (s.updRs r f).brake = s.brake := rfl
@[simp] theorem updRs_sealedRec (r : Nat) (f : ResSt → ResSt) : (s.updRs r f).sealedRec = s.sealedRec := rfl
@[simp] theorem updRs_lix (r : Nat) (f : ResSt → ResSt) : (s.updRs r f).lix = s.lix := rfl
@[simp] theorem updRs_lan (r : Nat) (f : ResSt → ResSt) : (s.updRs r f).lan = s.lan := rfl
@[simp] theorem updRs_cpl (r : Nat) (f : ResSt → ResSt) : (s.updRs r f).cpl = s.cpl := rfl
@[simp] theorem updRs_grd (r : Nat) (f : ResSt → ResSt) : (s.updRs r f).grd = s.grd := rfl
@[simp] theorem updRs_grdAt (r : Nat) (f : ResSt → ResSt) : (s.updRs r f).grdAt = s.grdAt := rfl
@[simp] theorem updRs_grdCap (r : Nat) (f : ResSt → ResSt) : (s.updRs r f).grdCap = s.grdCap := rfl
@[simp] theorem updRs_can (r : Nat) (f : ResSt → ResSt) : (s.updRs r f).can = s.can := rfl
@[simp] theorem updRs_eth (r : Nat) (f : ResSt → ResSt) : (s.updRs r f).eth = s.eth := rfl
@[simp] theorem updRs_thm (r : Nat) (f : ResSt → ResSt) : (s.updRs r f).thm = s.thm := rfl
@[simp] theorem updRs_thmStepping (r : Nat) (f : ResSt → ResSt) : (s.updRs r f).thmStepping = s.thmStepping := rfl
@[simp] theorem updRs_thmHot (r : Nat) (f : ResSt → ResSt) : (s.updRs r f).thmHot = s.thmHot := rfl
@[simp] theorem updRs_bist (r : Nat) (f : ResSt → ResSt) : (s.updRs r f).bist = s.bist := rfl
@[simp] theorem updRs_migPtr (r : Nat) (f : ResSt → ResSt) : (s.updRs r f).migPtr = s.migPtr := rfl
@[simp] theorem updRs_spareMem (r : Nat) (f : ResSt → ResSt) : (s.updRs r f).spareMem = s.spareMem := rfl
@[simp] theorem updRs_harnessAt (r : Nat) (f : ResSt → ResSt) : (s.updRs r f).harnessAt = s.harnessAt := rfl
@[simp] theorem updRs_nvm (r : Nat) (f : ResSt → ResSt) : (s.updRs r f).nvm = s.nvm := rfl
@[simp] theorem updRs_bringup (r : Nat) (f : ResSt → ResSt) : (s.updRs r f).bringup = s.bringup := rfl
@[simp] theorem updRs_records (r : Nat) (f : ResSt → ResSt) : (s.updRs r f).records = s.records := rfl
@[simp] theorem updRs_power (r : Nat) (f : ResSt → ResSt) : (s.updRs r f).power = s.power := rfl
@[simp] theorem updRs_draws (r : Nat) (f : ResSt → ResSt) : (s.updRs r f).draws = s.draws := rfl

@[simp] theorem updEn_pending (e : Nat) (f : EncSt → EncSt) : (s.updEn e f).pending = s.pending := rfl
@[simp] theorem updEn_now (e : Nat) (f : EncSt → EncSt) : (s.updEn e f).now = s.now := rfl
@[simp] theorem updEn_regs (e : Nat) (f : EncSt → EncSt) : (s.updEn e f).regs = s.regs := rfl
@[simp] theorem updEn_mem (e : Nat) (f : EncSt → EncSt) : (s.updEn e f).mem = s.mem := rfl
@[simp] theorem updEn_poison (e : Nat) (f : EncSt → EncSt) : (s.updEn e f).poison = s.poison := rfl
@[simp] theorem updEn_wakePend (e : Nat) (f : EncSt → EncSt) : (s.updEn e f).wakePend = s.wakePend := rfl
@[simp] theorem updEn_troika (e : Nat) (f : EncSt → EncSt) : (s.updEn e f).troika = s.troika := rfl
@[simp] theorem updEn_axle (e : Nat) (f : EncSt → EncSt) : (s.updEn e f).axle = s.axle := rfl
@[simp] theorem updEn_pos (e : Nat) (f : EncSt → EncSt) : (s.updEn e f).pos = s.pos := rfl
@[simp] theorem updEn_leg (e : Nat) (f : EncSt → EncSt) : (s.updEn e f).leg = s.leg := rfl
@[simp] theorem updEn_chan (e : Nat) (f : EncSt → EncSt) : (s.updEn e f).chan = s.chan := rfl
@[simp] theorem updEn_sdd (e : Nat) (f : EncSt → EncSt) : (s.updEn e f).sdd = s.sdd := rfl
@[simp] theorem updEn_sar (e : Nat) (f : EncSt → EncSt) : (s.updEn e f).sar = s.sar := rfl
@[simp] theorem updEn_res (e : Nat) (f : EncSt → EncSt) : (s.updEn e f).res = s.res := rfl
@[simp] theorem updEn_hys (e : Nat) (f : EncSt → EncSt) : (s.updEn e f).hys = s.hys := rfl
@[simp] theorem updEn_mon (e : Nat) (f : EncSt → EncSt) : (s.updEn e f).mon = s.mon := rfl
@[simp] theorem updEn_chop (e : Nat) (f : EncSt → EncSt) : (s.updEn e f).chop = s.chop := rfl
@[simp] theorem updEn_kept (e : Nat) (f : EncSt → EncSt) : (s.updEn e f).kept = s.kept := rfl
@[simp] theorem updEn_tripPins (e : Nat) (f : EncSt → EncSt) : (s.updEn e f).tripPins = s.tripPins := rfl
@[simp] theorem updEn_brake (e : Nat) (f : EncSt → EncSt) : (s.updEn e f).brake = s.brake := rfl
@[simp] theorem updEn_sealedRec (e : Nat) (f : EncSt → EncSt) : (s.updEn e f).sealedRec = s.sealedRec := rfl
@[simp] theorem updEn_lix (e : Nat) (f : EncSt → EncSt) : (s.updEn e f).lix = s.lix := rfl
@[simp] theorem updEn_lan (e : Nat) (f : EncSt → EncSt) : (s.updEn e f).lan = s.lan := rfl
@[simp] theorem updEn_cpl (e : Nat) (f : EncSt → EncSt) : (s.updEn e f).cpl = s.cpl := rfl
@[simp] theorem updEn_grd (e : Nat) (f : EncSt → EncSt) : (s.updEn e f).grd = s.grd := rfl
@[simp] theorem updEn_grdAt (e : Nat) (f : EncSt → EncSt) : (s.updEn e f).grdAt = s.grdAt := rfl
@[simp] theorem updEn_grdCap (e : Nat) (f : EncSt → EncSt) : (s.updEn e f).grdCap = s.grdCap := rfl
@[simp] theorem updEn_can (e : Nat) (f : EncSt → EncSt) : (s.updEn e f).can = s.can := rfl
@[simp] theorem updEn_eth (e : Nat) (f : EncSt → EncSt) : (s.updEn e f).eth = s.eth := rfl
@[simp] theorem updEn_thm (e : Nat) (f : EncSt → EncSt) : (s.updEn e f).thm = s.thm := rfl
@[simp] theorem updEn_thmStepping (e : Nat) (f : EncSt → EncSt) : (s.updEn e f).thmStepping = s.thmStepping := rfl
@[simp] theorem updEn_thmHot (e : Nat) (f : EncSt → EncSt) : (s.updEn e f).thmHot = s.thmHot := rfl
@[simp] theorem updEn_bist (e : Nat) (f : EncSt → EncSt) : (s.updEn e f).bist = s.bist := rfl
@[simp] theorem updEn_migPtr (e : Nat) (f : EncSt → EncSt) : (s.updEn e f).migPtr = s.migPtr := rfl
@[simp] theorem updEn_spareMem (e : Nat) (f : EncSt → EncSt) : (s.updEn e f).spareMem = s.spareMem := rfl
@[simp] theorem updEn_harnessAt (e : Nat) (f : EncSt → EncSt) : (s.updEn e f).harnessAt = s.harnessAt := rfl
@[simp] theorem updEn_nvm (e : Nat) (f : EncSt → EncSt) : (s.updEn e f).nvm = s.nvm := rfl
@[simp] theorem updEn_bringup (e : Nat) (f : EncSt → EncSt) : (s.updEn e f).bringup = s.bringup := rfl
@[simp] theorem updEn_records (e : Nat) (f : EncSt → EncSt) : (s.updEn e f).records = s.records := rfl
@[simp] theorem updEn_power (e : Nat) (f : EncSt → EncSt) : (s.updEn e f).power = s.power := rfl
@[simp] theorem updEn_draws (e : Nat) (f : EncSt → EncSt) : (s.updEn e f).draws = s.draws := rfl

@[simp] theorem updHy_pending (h : Nat) (f : HysSt → HysSt) : (s.updHy h f).pending = s.pending := rfl
@[simp] theorem updHy_now (h : Nat) (f : HysSt → HysSt) : (s.updHy h f).now = s.now := rfl
@[simp] theorem updHy_regs (h : Nat) (f : HysSt → HysSt) : (s.updHy h f).regs = s.regs := rfl
@[simp] theorem updHy_mem (h : Nat) (f : HysSt → HysSt) : (s.updHy h f).mem = s.mem := rfl
@[simp] theorem updHy_poison (h : Nat) (f : HysSt → HysSt) : (s.updHy h f).poison = s.poison := rfl
@[simp] theorem updHy_wakePend (h : Nat) (f : HysSt → HysSt) : (s.updHy h f).wakePend = s.wakePend := rfl
@[simp] theorem updHy_troika (h : Nat) (f : HysSt → HysSt) : (s.updHy h f).troika = s.troika := rfl
@[simp] theorem updHy_axle (h : Nat) (f : HysSt → HysSt) : (s.updHy h f).axle = s.axle := rfl
@[simp] theorem updHy_pos (h : Nat) (f : HysSt → HysSt) : (s.updHy h f).pos = s.pos := rfl
@[simp] theorem updHy_leg (h : Nat) (f : HysSt → HysSt) : (s.updHy h f).leg = s.leg := rfl
@[simp] theorem updHy_chan (h : Nat) (f : HysSt → HysSt) : (s.updHy h f).chan = s.chan := rfl
@[simp] theorem updHy_sdd (h : Nat) (f : HysSt → HysSt) : (s.updHy h f).sdd = s.sdd := rfl
@[simp] theorem updHy_sar (h : Nat) (f : HysSt → HysSt) : (s.updHy h f).sar = s.sar := rfl
@[simp] theorem updHy_res (h : Nat) (f : HysSt → HysSt) : (s.updHy h f).res = s.res := rfl
@[simp] theorem updHy_enc (h : Nat) (f : HysSt → HysSt) : (s.updHy h f).enc = s.enc := rfl
@[simp] theorem updHy_mon (h : Nat) (f : HysSt → HysSt) : (s.updHy h f).mon = s.mon := rfl
@[simp] theorem updHy_chop (h : Nat) (f : HysSt → HysSt) : (s.updHy h f).chop = s.chop := rfl
@[simp] theorem updHy_kept (h : Nat) (f : HysSt → HysSt) : (s.updHy h f).kept = s.kept := rfl
@[simp] theorem updHy_tripPins (h : Nat) (f : HysSt → HysSt) : (s.updHy h f).tripPins = s.tripPins := rfl
@[simp] theorem updHy_brake (h : Nat) (f : HysSt → HysSt) : (s.updHy h f).brake = s.brake := rfl
@[simp] theorem updHy_sealedRec (h : Nat) (f : HysSt → HysSt) : (s.updHy h f).sealedRec = s.sealedRec := rfl
@[simp] theorem updHy_lix (h : Nat) (f : HysSt → HysSt) : (s.updHy h f).lix = s.lix := rfl
@[simp] theorem updHy_lan (h : Nat) (f : HysSt → HysSt) : (s.updHy h f).lan = s.lan := rfl
@[simp] theorem updHy_cpl (h : Nat) (f : HysSt → HysSt) : (s.updHy h f).cpl = s.cpl := rfl
@[simp] theorem updHy_grd (h : Nat) (f : HysSt → HysSt) : (s.updHy h f).grd = s.grd := rfl
@[simp] theorem updHy_grdAt (h : Nat) (f : HysSt → HysSt) : (s.updHy h f).grdAt = s.grdAt := rfl
@[simp] theorem updHy_grdCap (h : Nat) (f : HysSt → HysSt) : (s.updHy h f).grdCap = s.grdCap := rfl
@[simp] theorem updHy_can (h : Nat) (f : HysSt → HysSt) : (s.updHy h f).can = s.can := rfl
@[simp] theorem updHy_eth (h : Nat) (f : HysSt → HysSt) : (s.updHy h f).eth = s.eth := rfl
@[simp] theorem updHy_thm (h : Nat) (f : HysSt → HysSt) : (s.updHy h f).thm = s.thm := rfl
@[simp] theorem updHy_thmStepping (h : Nat) (f : HysSt → HysSt) : (s.updHy h f).thmStepping = s.thmStepping := rfl
@[simp] theorem updHy_thmHot (h : Nat) (f : HysSt → HysSt) : (s.updHy h f).thmHot = s.thmHot := rfl
@[simp] theorem updHy_bist (h : Nat) (f : HysSt → HysSt) : (s.updHy h f).bist = s.bist := rfl
@[simp] theorem updHy_migPtr (h : Nat) (f : HysSt → HysSt) : (s.updHy h f).migPtr = s.migPtr := rfl
@[simp] theorem updHy_spareMem (h : Nat) (f : HysSt → HysSt) : (s.updHy h f).spareMem = s.spareMem := rfl
@[simp] theorem updHy_harnessAt (h : Nat) (f : HysSt → HysSt) : (s.updHy h f).harnessAt = s.harnessAt := rfl
@[simp] theorem updHy_nvm (h : Nat) (f : HysSt → HysSt) : (s.updHy h f).nvm = s.nvm := rfl
@[simp] theorem updHy_bringup (h : Nat) (f : HysSt → HysSt) : (s.updHy h f).bringup = s.bringup := rfl
@[simp] theorem updHy_records (h : Nat) (f : HysSt → HysSt) : (s.updHy h f).records = s.records := rfl
@[simp] theorem updHy_power (h : Nat) (f : HysSt → HysSt) : (s.updHy h f).power = s.power := rfl
@[simp] theorem updHy_draws (h : Nat) (f : HysSt → HysSt) : (s.updHy h f).draws = s.draws := rfl

@[simp] theorem updMn_pending (h : Nat) (f : MonSt → MonSt) : (s.updMn h f).pending = s.pending := rfl
@[simp] theorem updMn_now (h : Nat) (f : MonSt → MonSt) : (s.updMn h f).now = s.now := rfl
@[simp] theorem updMn_regs (h : Nat) (f : MonSt → MonSt) : (s.updMn h f).regs = s.regs := rfl
@[simp] theorem updMn_mem (h : Nat) (f : MonSt → MonSt) : (s.updMn h f).mem = s.mem := rfl
@[simp] theorem updMn_poison (h : Nat) (f : MonSt → MonSt) : (s.updMn h f).poison = s.poison := rfl
@[simp] theorem updMn_wakePend (h : Nat) (f : MonSt → MonSt) : (s.updMn h f).wakePend = s.wakePend := rfl
@[simp] theorem updMn_troika (h : Nat) (f : MonSt → MonSt) : (s.updMn h f).troika = s.troika := rfl
@[simp] theorem updMn_axle (h : Nat) (f : MonSt → MonSt) : (s.updMn h f).axle = s.axle := rfl
@[simp] theorem updMn_pos (h : Nat) (f : MonSt → MonSt) : (s.updMn h f).pos = s.pos := rfl
@[simp] theorem updMn_leg (h : Nat) (f : MonSt → MonSt) : (s.updMn h f).leg = s.leg := rfl
@[simp] theorem updMn_chan (h : Nat) (f : MonSt → MonSt) : (s.updMn h f).chan = s.chan := rfl
@[simp] theorem updMn_sdd (h : Nat) (f : MonSt → MonSt) : (s.updMn h f).sdd = s.sdd := rfl
@[simp] theorem updMn_sar (h : Nat) (f : MonSt → MonSt) : (s.updMn h f).sar = s.sar := rfl
@[simp] theorem updMn_res (h : Nat) (f : MonSt → MonSt) : (s.updMn h f).res = s.res := rfl
@[simp] theorem updMn_enc (h : Nat) (f : MonSt → MonSt) : (s.updMn h f).enc = s.enc := rfl
@[simp] theorem updMn_hys (h : Nat) (f : MonSt → MonSt) : (s.updMn h f).hys = s.hys := rfl
@[simp] theorem updMn_chop (h : Nat) (f : MonSt → MonSt) : (s.updMn h f).chop = s.chop := rfl
@[simp] theorem updMn_kept (h : Nat) (f : MonSt → MonSt) : (s.updMn h f).kept = s.kept := rfl
@[simp] theorem updMn_tripPins (h : Nat) (f : MonSt → MonSt) : (s.updMn h f).tripPins = s.tripPins := rfl
@[simp] theorem updMn_brake (h : Nat) (f : MonSt → MonSt) : (s.updMn h f).brake = s.brake := rfl
@[simp] theorem updMn_sealedRec (h : Nat) (f : MonSt → MonSt) : (s.updMn h f).sealedRec = s.sealedRec := rfl
@[simp] theorem updMn_lix (h : Nat) (f : MonSt → MonSt) : (s.updMn h f).lix = s.lix := rfl
@[simp] theorem updMn_lan (h : Nat) (f : MonSt → MonSt) : (s.updMn h f).lan = s.lan := rfl
@[simp] theorem updMn_cpl (h : Nat) (f : MonSt → MonSt) : (s.updMn h f).cpl = s.cpl := rfl
@[simp] theorem updMn_grd (h : Nat) (f : MonSt → MonSt) : (s.updMn h f).grd = s.grd := rfl
@[simp] theorem updMn_grdAt (h : Nat) (f : MonSt → MonSt) : (s.updMn h f).grdAt = s.grdAt := rfl
@[simp] theorem updMn_grdCap (h : Nat) (f : MonSt → MonSt) : (s.updMn h f).grdCap = s.grdCap := rfl
@[simp] theorem updMn_can (h : Nat) (f : MonSt → MonSt) : (s.updMn h f).can = s.can := rfl
@[simp] theorem updMn_eth (h : Nat) (f : MonSt → MonSt) : (s.updMn h f).eth = s.eth := rfl
@[simp] theorem updMn_thm (h : Nat) (f : MonSt → MonSt) : (s.updMn h f).thm = s.thm := rfl
@[simp] theorem updMn_thmStepping (h : Nat) (f : MonSt → MonSt) : (s.updMn h f).thmStepping = s.thmStepping := rfl
@[simp] theorem updMn_thmHot (h : Nat) (f : MonSt → MonSt) : (s.updMn h f).thmHot = s.thmHot := rfl
@[simp] theorem updMn_bist (h : Nat) (f : MonSt → MonSt) : (s.updMn h f).bist = s.bist := rfl
@[simp] theorem updMn_migPtr (h : Nat) (f : MonSt → MonSt) : (s.updMn h f).migPtr = s.migPtr := rfl
@[simp] theorem updMn_spareMem (h : Nat) (f : MonSt → MonSt) : (s.updMn h f).spareMem = s.spareMem := rfl
@[simp] theorem updMn_harnessAt (h : Nat) (f : MonSt → MonSt) : (s.updMn h f).harnessAt = s.harnessAt := rfl
@[simp] theorem updMn_nvm (h : Nat) (f : MonSt → MonSt) : (s.updMn h f).nvm = s.nvm := rfl
@[simp] theorem updMn_bringup (h : Nat) (f : MonSt → MonSt) : (s.updMn h f).bringup = s.bringup := rfl
@[simp] theorem updMn_records (h : Nat) (f : MonSt → MonSt) : (s.updMn h f).records = s.records := rfl
@[simp] theorem updMn_power (h : Nat) (f : MonSt → MonSt) : (s.updMn h f).power = s.power := rfl
@[simp] theorem updMn_draws (h : Nat) (f : MonSt → MonSt) : (s.updMn h f).draws = s.draws := rfl

@[simp] theorem updGr_pending (c : Nat) (f : GrdRx → GrdRx) : (s.updGr c f).pending = s.pending := rfl
@[simp] theorem updGr_now (c : Nat) (f : GrdRx → GrdRx) : (s.updGr c f).now = s.now := rfl
@[simp] theorem updGr_regs (c : Nat) (f : GrdRx → GrdRx) : (s.updGr c f).regs = s.regs := rfl
@[simp] theorem updGr_mem (c : Nat) (f : GrdRx → GrdRx) : (s.updGr c f).mem = s.mem := rfl
@[simp] theorem updGr_poison (c : Nat) (f : GrdRx → GrdRx) : (s.updGr c f).poison = s.poison := rfl
@[simp] theorem updGr_wakePend (c : Nat) (f : GrdRx → GrdRx) : (s.updGr c f).wakePend = s.wakePend := rfl
@[simp] theorem updGr_troika (c : Nat) (f : GrdRx → GrdRx) : (s.updGr c f).troika = s.troika := rfl
@[simp] theorem updGr_axle (c : Nat) (f : GrdRx → GrdRx) : (s.updGr c f).axle = s.axle := rfl
@[simp] theorem updGr_pos (c : Nat) (f : GrdRx → GrdRx) : (s.updGr c f).pos = s.pos := rfl
@[simp] theorem updGr_leg (c : Nat) (f : GrdRx → GrdRx) : (s.updGr c f).leg = s.leg := rfl
@[simp] theorem updGr_chan (c : Nat) (f : GrdRx → GrdRx) : (s.updGr c f).chan = s.chan := rfl
@[simp] theorem updGr_sdd (c : Nat) (f : GrdRx → GrdRx) : (s.updGr c f).sdd = s.sdd := rfl
@[simp] theorem updGr_sar (c : Nat) (f : GrdRx → GrdRx) : (s.updGr c f).sar = s.sar := rfl
@[simp] theorem updGr_res (c : Nat) (f : GrdRx → GrdRx) : (s.updGr c f).res = s.res := rfl
@[simp] theorem updGr_enc (c : Nat) (f : GrdRx → GrdRx) : (s.updGr c f).enc = s.enc := rfl
@[simp] theorem updGr_hys (c : Nat) (f : GrdRx → GrdRx) : (s.updGr c f).hys = s.hys := rfl
@[simp] theorem updGr_mon (c : Nat) (f : GrdRx → GrdRx) : (s.updGr c f).mon = s.mon := rfl
@[simp] theorem updGr_chop (c : Nat) (f : GrdRx → GrdRx) : (s.updGr c f).chop = s.chop := rfl
@[simp] theorem updGr_kept (c : Nat) (f : GrdRx → GrdRx) : (s.updGr c f).kept = s.kept := rfl
@[simp] theorem updGr_tripPins (c : Nat) (f : GrdRx → GrdRx) : (s.updGr c f).tripPins = s.tripPins := rfl
@[simp] theorem updGr_brake (c : Nat) (f : GrdRx → GrdRx) : (s.updGr c f).brake = s.brake := rfl
@[simp] theorem updGr_sealedRec (c : Nat) (f : GrdRx → GrdRx) : (s.updGr c f).sealedRec = s.sealedRec := rfl
@[simp] theorem updGr_lix (c : Nat) (f : GrdRx → GrdRx) : (s.updGr c f).lix = s.lix := rfl
@[simp] theorem updGr_lan (c : Nat) (f : GrdRx → GrdRx) : (s.updGr c f).lan = s.lan := rfl
@[simp] theorem updGr_cpl (c : Nat) (f : GrdRx → GrdRx) : (s.updGr c f).cpl = s.cpl := rfl
@[simp] theorem updGr_grdAt (c : Nat) (f : GrdRx → GrdRx) : (s.updGr c f).grdAt = s.grdAt := rfl
@[simp] theorem updGr_grdCap (c : Nat) (f : GrdRx → GrdRx) : (s.updGr c f).grdCap = s.grdCap := rfl
@[simp] theorem updGr_can (c : Nat) (f : GrdRx → GrdRx) : (s.updGr c f).can = s.can := rfl
@[simp] theorem updGr_eth (c : Nat) (f : GrdRx → GrdRx) : (s.updGr c f).eth = s.eth := rfl
@[simp] theorem updGr_thm (c : Nat) (f : GrdRx → GrdRx) : (s.updGr c f).thm = s.thm := rfl
@[simp] theorem updGr_thmStepping (c : Nat) (f : GrdRx → GrdRx) : (s.updGr c f).thmStepping = s.thmStepping := rfl
@[simp] theorem updGr_thmHot (c : Nat) (f : GrdRx → GrdRx) : (s.updGr c f).thmHot = s.thmHot := rfl
@[simp] theorem updGr_bist (c : Nat) (f : GrdRx → GrdRx) : (s.updGr c f).bist = s.bist := rfl
@[simp] theorem updGr_migPtr (c : Nat) (f : GrdRx → GrdRx) : (s.updGr c f).migPtr = s.migPtr := rfl
@[simp] theorem updGr_spareMem (c : Nat) (f : GrdRx → GrdRx) : (s.updGr c f).spareMem = s.spareMem := rfl
@[simp] theorem updGr_harnessAt (c : Nat) (f : GrdRx → GrdRx) : (s.updGr c f).harnessAt = s.harnessAt := rfl
@[simp] theorem updGr_nvm (c : Nat) (f : GrdRx → GrdRx) : (s.updGr c f).nvm = s.nvm := rfl
@[simp] theorem updGr_bringup (c : Nat) (f : GrdRx → GrdRx) : (s.updGr c f).bringup = s.bringup := rfl
@[simp] theorem updGr_records (c : Nat) (f : GrdRx → GrdRx) : (s.updGr c f).records = s.records := rfl
@[simp] theorem updGr_power (c : Nat) (f : GrdRx → GrdRx) : (s.updGr c f).power = s.power := rfl
@[simp] theorem updGr_draws (c : Nat) (f : GrdRx → GrdRx) : (s.updGr c f).draws = s.draws := rfl

@[simp] theorem updCn_pending (n : Nat) (f : CanSt → CanSt) : (s.updCn n f).pending = s.pending := rfl
@[simp] theorem updCn_now (n : Nat) (f : CanSt → CanSt) : (s.updCn n f).now = s.now := rfl
@[simp] theorem updCn_regs (n : Nat) (f : CanSt → CanSt) : (s.updCn n f).regs = s.regs := rfl
@[simp] theorem updCn_mem (n : Nat) (f : CanSt → CanSt) : (s.updCn n f).mem = s.mem := rfl
@[simp] theorem updCn_poison (n : Nat) (f : CanSt → CanSt) : (s.updCn n f).poison = s.poison := rfl
@[simp] theorem updCn_wakePend (n : Nat) (f : CanSt → CanSt) : (s.updCn n f).wakePend = s.wakePend := rfl
@[simp] theorem updCn_troika (n : Nat) (f : CanSt → CanSt) : (s.updCn n f).troika = s.troika := rfl
@[simp] theorem updCn_axle (n : Nat) (f : CanSt → CanSt) : (s.updCn n f).axle = s.axle := rfl
@[simp] theorem updCn_pos (n : Nat) (f : CanSt → CanSt) : (s.updCn n f).pos = s.pos := rfl
@[simp] theorem updCn_leg (n : Nat) (f : CanSt → CanSt) : (s.updCn n f).leg = s.leg := rfl
@[simp] theorem updCn_chan (n : Nat) (f : CanSt → CanSt) : (s.updCn n f).chan = s.chan := rfl
@[simp] theorem updCn_sdd (n : Nat) (f : CanSt → CanSt) : (s.updCn n f).sdd = s.sdd := rfl
@[simp] theorem updCn_sar (n : Nat) (f : CanSt → CanSt) : (s.updCn n f).sar = s.sar := rfl
@[simp] theorem updCn_res (n : Nat) (f : CanSt → CanSt) : (s.updCn n f).res = s.res := rfl
@[simp] theorem updCn_enc (n : Nat) (f : CanSt → CanSt) : (s.updCn n f).enc = s.enc := rfl
@[simp] theorem updCn_hys (n : Nat) (f : CanSt → CanSt) : (s.updCn n f).hys = s.hys := rfl
@[simp] theorem updCn_mon (n : Nat) (f : CanSt → CanSt) : (s.updCn n f).mon = s.mon := rfl
@[simp] theorem updCn_chop (n : Nat) (f : CanSt → CanSt) : (s.updCn n f).chop = s.chop := rfl
@[simp] theorem updCn_kept (n : Nat) (f : CanSt → CanSt) : (s.updCn n f).kept = s.kept := rfl
@[simp] theorem updCn_tripPins (n : Nat) (f : CanSt → CanSt) : (s.updCn n f).tripPins = s.tripPins := rfl
@[simp] theorem updCn_brake (n : Nat) (f : CanSt → CanSt) : (s.updCn n f).brake = s.brake := rfl
@[simp] theorem updCn_sealedRec (n : Nat) (f : CanSt → CanSt) : (s.updCn n f).sealedRec = s.sealedRec := rfl
@[simp] theorem updCn_lix (n : Nat) (f : CanSt → CanSt) : (s.updCn n f).lix = s.lix := rfl
@[simp] theorem updCn_lan (n : Nat) (f : CanSt → CanSt) : (s.updCn n f).lan = s.lan := rfl
@[simp] theorem updCn_cpl (n : Nat) (f : CanSt → CanSt) : (s.updCn n f).cpl = s.cpl := rfl
@[simp] theorem updCn_grd (n : Nat) (f : CanSt → CanSt) : (s.updCn n f).grd = s.grd := rfl
@[simp] theorem updCn_grdAt (n : Nat) (f : CanSt → CanSt) : (s.updCn n f).grdAt = s.grdAt := rfl
@[simp] theorem updCn_grdCap (n : Nat) (f : CanSt → CanSt) : (s.updCn n f).grdCap = s.grdCap := rfl
@[simp] theorem updCn_eth (n : Nat) (f : CanSt → CanSt) : (s.updCn n f).eth = s.eth := rfl
@[simp] theorem updCn_thm (n : Nat) (f : CanSt → CanSt) : (s.updCn n f).thm = s.thm := rfl
@[simp] theorem updCn_thmStepping (n : Nat) (f : CanSt → CanSt) : (s.updCn n f).thmStepping = s.thmStepping := rfl
@[simp] theorem updCn_thmHot (n : Nat) (f : CanSt → CanSt) : (s.updCn n f).thmHot = s.thmHot := rfl
@[simp] theorem updCn_bist (n : Nat) (f : CanSt → CanSt) : (s.updCn n f).bist = s.bist := rfl
@[simp] theorem updCn_migPtr (n : Nat) (f : CanSt → CanSt) : (s.updCn n f).migPtr = s.migPtr := rfl
@[simp] theorem updCn_spareMem (n : Nat) (f : CanSt → CanSt) : (s.updCn n f).spareMem = s.spareMem := rfl
@[simp] theorem updCn_harnessAt (n : Nat) (f : CanSt → CanSt) : (s.updCn n f).harnessAt = s.harnessAt := rfl
@[simp] theorem updCn_nvm (n : Nat) (f : CanSt → CanSt) : (s.updCn n f).nvm = s.nvm := rfl
@[simp] theorem updCn_bringup (n : Nat) (f : CanSt → CanSt) : (s.updCn n f).bringup = s.bringup := rfl
@[simp] theorem updCn_records (n : Nat) (f : CanSt → CanSt) : (s.updCn n f).records = s.records := rfl
@[simp] theorem updCn_power (n : Nat) (f : CanSt → CanSt) : (s.updCn n f).power = s.power := rfl
@[simp] theorem updCn_draws (n : Nat) (f : CanSt → CanSt) : (s.updCn n f).draws = s.draws := rfl

@[simp] theorem updTm_pending (k : Nat) (f : ThmSt → ThmSt) : (s.updTm k f).pending = s.pending := rfl
@[simp] theorem updTm_now (k : Nat) (f : ThmSt → ThmSt) : (s.updTm k f).now = s.now := rfl
@[simp] theorem updTm_regs (k : Nat) (f : ThmSt → ThmSt) : (s.updTm k f).regs = s.regs := rfl
@[simp] theorem updTm_mem (k : Nat) (f : ThmSt → ThmSt) : (s.updTm k f).mem = s.mem := rfl
@[simp] theorem updTm_poison (k : Nat) (f : ThmSt → ThmSt) : (s.updTm k f).poison = s.poison := rfl
@[simp] theorem updTm_wakePend (k : Nat) (f : ThmSt → ThmSt) : (s.updTm k f).wakePend = s.wakePend := rfl
@[simp] theorem updTm_troika (k : Nat) (f : ThmSt → ThmSt) : (s.updTm k f).troika = s.troika := rfl
@[simp] theorem updTm_axle (k : Nat) (f : ThmSt → ThmSt) : (s.updTm k f).axle = s.axle := rfl
@[simp] theorem updTm_pos (k : Nat) (f : ThmSt → ThmSt) : (s.updTm k f).pos = s.pos := rfl
@[simp] theorem updTm_leg (k : Nat) (f : ThmSt → ThmSt) : (s.updTm k f).leg = s.leg := rfl
@[simp] theorem updTm_chan (k : Nat) (f : ThmSt → ThmSt) : (s.updTm k f).chan = s.chan := rfl
@[simp] theorem updTm_sdd (k : Nat) (f : ThmSt → ThmSt) : (s.updTm k f).sdd = s.sdd := rfl
@[simp] theorem updTm_sar (k : Nat) (f : ThmSt → ThmSt) : (s.updTm k f).sar = s.sar := rfl
@[simp] theorem updTm_res (k : Nat) (f : ThmSt → ThmSt) : (s.updTm k f).res = s.res := rfl
@[simp] theorem updTm_enc (k : Nat) (f : ThmSt → ThmSt) : (s.updTm k f).enc = s.enc := rfl
@[simp] theorem updTm_hys (k : Nat) (f : ThmSt → ThmSt) : (s.updTm k f).hys = s.hys := rfl
@[simp] theorem updTm_mon (k : Nat) (f : ThmSt → ThmSt) : (s.updTm k f).mon = s.mon := rfl
@[simp] theorem updTm_chop (k : Nat) (f : ThmSt → ThmSt) : (s.updTm k f).chop = s.chop := rfl
@[simp] theorem updTm_kept (k : Nat) (f : ThmSt → ThmSt) : (s.updTm k f).kept = s.kept := rfl
@[simp] theorem updTm_tripPins (k : Nat) (f : ThmSt → ThmSt) : (s.updTm k f).tripPins = s.tripPins := rfl
@[simp] theorem updTm_brake (k : Nat) (f : ThmSt → ThmSt) : (s.updTm k f).brake = s.brake := rfl
@[simp] theorem updTm_sealedRec (k : Nat) (f : ThmSt → ThmSt) : (s.updTm k f).sealedRec = s.sealedRec := rfl
@[simp] theorem updTm_lix (k : Nat) (f : ThmSt → ThmSt) : (s.updTm k f).lix = s.lix := rfl
@[simp] theorem updTm_lan (k : Nat) (f : ThmSt → ThmSt) : (s.updTm k f).lan = s.lan := rfl
@[simp] theorem updTm_cpl (k : Nat) (f : ThmSt → ThmSt) : (s.updTm k f).cpl = s.cpl := rfl
@[simp] theorem updTm_grd (k : Nat) (f : ThmSt → ThmSt) : (s.updTm k f).grd = s.grd := rfl
@[simp] theorem updTm_grdAt (k : Nat) (f : ThmSt → ThmSt) : (s.updTm k f).grdAt = s.grdAt := rfl
@[simp] theorem updTm_grdCap (k : Nat) (f : ThmSt → ThmSt) : (s.updTm k f).grdCap = s.grdCap := rfl
@[simp] theorem updTm_can (k : Nat) (f : ThmSt → ThmSt) : (s.updTm k f).can = s.can := rfl
@[simp] theorem updTm_eth (k : Nat) (f : ThmSt → ThmSt) : (s.updTm k f).eth = s.eth := rfl
@[simp] theorem updTm_thmStepping (k : Nat) (f : ThmSt → ThmSt) : (s.updTm k f).thmStepping = s.thmStepping := rfl
@[simp] theorem updTm_thmHot (k : Nat) (f : ThmSt → ThmSt) : (s.updTm k f).thmHot = s.thmHot := rfl
@[simp] theorem updTm_bist (k : Nat) (f : ThmSt → ThmSt) : (s.updTm k f).bist = s.bist := rfl
@[simp] theorem updTm_migPtr (k : Nat) (f : ThmSt → ThmSt) : (s.updTm k f).migPtr = s.migPtr := rfl
@[simp] theorem updTm_spareMem (k : Nat) (f : ThmSt → ThmSt) : (s.updTm k f).spareMem = s.spareMem := rfl
@[simp] theorem updTm_harnessAt (k : Nat) (f : ThmSt → ThmSt) : (s.updTm k f).harnessAt = s.harnessAt := rfl
@[simp] theorem updTm_nvm (k : Nat) (f : ThmSt → ThmSt) : (s.updTm k f).nvm = s.nvm := rfl
@[simp] theorem updTm_bringup (k : Nat) (f : ThmSt → ThmSt) : (s.updTm k f).bringup = s.bringup := rfl
@[simp] theorem updTm_records (k : Nat) (f : ThmSt → ThmSt) : (s.updTm k f).records = s.records := rfl
@[simp] theorem updTm_power (k : Nat) (f : ThmSt → ThmSt) : (s.updTm k f).power = s.power := rfl
@[simp] theorem updTm_draws (k : Nat) (f : ThmSt → ThmSt) : (s.updTm k f).draws = s.draws := rfl

@[simp] theorem drew_pending (n : Nat) : (s.drew n).pending = s.pending := rfl
@[simp] theorem drew_now (n : Nat) : (s.drew n).now = s.now := rfl
@[simp] theorem drew_regs (n : Nat) : (s.drew n).regs = s.regs := rfl
@[simp] theorem drew_mem (n : Nat) : (s.drew n).mem = s.mem := rfl
@[simp] theorem drew_poison (n : Nat) : (s.drew n).poison = s.poison := rfl
@[simp] theorem drew_wakePend (n : Nat) : (s.drew n).wakePend = s.wakePend := rfl
@[simp] theorem drew_troika (n : Nat) : (s.drew n).troika = s.troika := rfl
@[simp] theorem drew_axle (n : Nat) : (s.drew n).axle = s.axle := rfl
@[simp] theorem drew_pos (n : Nat) : (s.drew n).pos = s.pos := rfl
@[simp] theorem drew_leg (n : Nat) : (s.drew n).leg = s.leg := rfl
@[simp] theorem drew_chan (n : Nat) : (s.drew n).chan = s.chan := rfl
@[simp] theorem drew_sdd (n : Nat) : (s.drew n).sdd = s.sdd := rfl
@[simp] theorem drew_sar (n : Nat) : (s.drew n).sar = s.sar := rfl
@[simp] theorem drew_res (n : Nat) : (s.drew n).res = s.res := rfl
@[simp] theorem drew_enc (n : Nat) : (s.drew n).enc = s.enc := rfl
@[simp] theorem drew_hys (n : Nat) : (s.drew n).hys = s.hys := rfl
@[simp] theorem drew_mon (n : Nat) : (s.drew n).mon = s.mon := rfl
@[simp] theorem drew_chop (n : Nat) : (s.drew n).chop = s.chop := rfl
@[simp] theorem drew_kept (n : Nat) : (s.drew n).kept = s.kept := rfl
@[simp] theorem drew_tripPins (n : Nat) : (s.drew n).tripPins = s.tripPins := rfl
@[simp] theorem drew_brake (n : Nat) : (s.drew n).brake = s.brake := rfl
@[simp] theorem drew_sealedRec (n : Nat) : (s.drew n).sealedRec = s.sealedRec := rfl
@[simp] theorem drew_lix (n : Nat) : (s.drew n).lix = s.lix := rfl
@[simp] theorem drew_lan (n : Nat) : (s.drew n).lan = s.lan := rfl
@[simp] theorem drew_cpl (n : Nat) : (s.drew n).cpl = s.cpl := rfl
@[simp] theorem drew_grd (n : Nat) : (s.drew n).grd = s.grd := rfl
@[simp] theorem drew_grdAt (n : Nat) : (s.drew n).grdAt = s.grdAt := rfl
@[simp] theorem drew_grdCap (n : Nat) : (s.drew n).grdCap = s.grdCap := rfl
@[simp] theorem drew_can (n : Nat) : (s.drew n).can = s.can := rfl
@[simp] theorem drew_eth (n : Nat) : (s.drew n).eth = s.eth := rfl
@[simp] theorem drew_thm (n : Nat) : (s.drew n).thm = s.thm := rfl
@[simp] theorem drew_thmStepping (n : Nat) : (s.drew n).thmStepping = s.thmStepping := rfl
@[simp] theorem drew_thmHot (n : Nat) : (s.drew n).thmHot = s.thmHot := rfl
@[simp] theorem drew_bist (n : Nat) : (s.drew n).bist = s.bist := rfl
@[simp] theorem drew_migPtr (n : Nat) : (s.drew n).migPtr = s.migPtr := rfl
@[simp] theorem drew_spareMem (n : Nat) : (s.drew n).spareMem = s.spareMem := rfl
@[simp] theorem drew_harnessAt (n : Nat) : (s.drew n).harnessAt = s.harnessAt := rfl
@[simp] theorem drew_nvm (n : Nat) : (s.drew n).nvm = s.nvm := rfl
@[simp] theorem drew_bringup (n : Nat) : (s.drew n).bringup = s.bringup := rfl
@[simp] theorem drew_records (n : Nat) : (s.drew n).records = s.records := rfl
@[simp] theorem drew_power (n : Nat) : (s.drew n).power = s.power := rfl

@[simp] theorem at_pending (t : Nat) : (s.at t).pending = s.pending := rfl
@[simp] theorem at_regs (t : Nat) : (s.at t).regs = s.regs := rfl
@[simp] theorem at_mem (t : Nat) : (s.at t).mem = s.mem := rfl
@[simp] theorem at_poison (t : Nat) : (s.at t).poison = s.poison := rfl
@[simp] theorem at_wakePend (t : Nat) : (s.at t).wakePend = s.wakePend := rfl
@[simp] theorem at_troika (t : Nat) : (s.at t).troika = s.troika := rfl
@[simp] theorem at_axle (t : Nat) : (s.at t).axle = s.axle := rfl
@[simp] theorem at_pos (t : Nat) : (s.at t).pos = s.pos := rfl
@[simp] theorem at_leg (t : Nat) : (s.at t).leg = s.leg := rfl
@[simp] theorem at_chan (t : Nat) : (s.at t).chan = s.chan := rfl
@[simp] theorem at_sdd (t : Nat) : (s.at t).sdd = s.sdd := rfl
@[simp] theorem at_sar (t : Nat) : (s.at t).sar = s.sar := rfl
@[simp] theorem at_res (t : Nat) : (s.at t).res = s.res := rfl
@[simp] theorem at_enc (t : Nat) : (s.at t).enc = s.enc := rfl
@[simp] theorem at_hys (t : Nat) : (s.at t).hys = s.hys := rfl
@[simp] theorem at_mon (t : Nat) : (s.at t).mon = s.mon := rfl
@[simp] theorem at_chop (t : Nat) : (s.at t).chop = s.chop := rfl
@[simp] theorem at_kept (t : Nat) : (s.at t).kept = s.kept := rfl
@[simp] theorem at_tripPins (t : Nat) : (s.at t).tripPins = s.tripPins := rfl
@[simp] theorem at_brake (t : Nat) : (s.at t).brake = s.brake := rfl
@[simp] theorem at_sealedRec (t : Nat) : (s.at t).sealedRec = s.sealedRec := rfl
@[simp] theorem at_lix (t : Nat) : (s.at t).lix = s.lix := rfl
@[simp] theorem at_lan (t : Nat) : (s.at t).lan = s.lan := rfl
@[simp] theorem at_cpl (t : Nat) : (s.at t).cpl = s.cpl := rfl
@[simp] theorem at_grd (t : Nat) : (s.at t).grd = s.grd := rfl
@[simp] theorem at_grdAt (t : Nat) : (s.at t).grdAt = s.grdAt := rfl
@[simp] theorem at_grdCap (t : Nat) : (s.at t).grdCap = s.grdCap := rfl
@[simp] theorem at_can (t : Nat) : (s.at t).can = s.can := rfl
@[simp] theorem at_eth (t : Nat) : (s.at t).eth = s.eth := rfl
@[simp] theorem at_thm (t : Nat) : (s.at t).thm = s.thm := rfl
@[simp] theorem at_thmStepping (t : Nat) : (s.at t).thmStepping = s.thmStepping := rfl
@[simp] theorem at_thmHot (t : Nat) : (s.at t).thmHot = s.thmHot := rfl
@[simp] theorem at_bist (t : Nat) : (s.at t).bist = s.bist := rfl
@[simp] theorem at_migPtr (t : Nat) : (s.at t).migPtr = s.migPtr := rfl
@[simp] theorem at_spareMem (t : Nat) : (s.at t).spareMem = s.spareMem := rfl
@[simp] theorem at_harnessAt (t : Nat) : (s.at t).harnessAt = s.harnessAt := rfl
@[simp] theorem at_nvm (t : Nat) : (s.at t).nvm = s.nvm := rfl
@[simp] theorem at_bringup (t : Nat) : (s.at t).bringup = s.bringup := rfl
@[simp] theorem at_records (t : Nat) : (s.at t).records = s.records := rfl
@[simp] theorem at_power (t : Nat) : (s.at t).power = s.power := rfl
@[simp] theorem at_draws (t : Nat) : (s.at t).draws = s.draws := rfl

@[simp] theorem setLanW_pending (w : Nat) (v : Word) : (s.setLanW w v).pending = s.pending := rfl
@[simp] theorem setLanW_now (w : Nat) (v : Word) : (s.setLanW w v).now = s.now := rfl
@[simp] theorem setLanW_regs (w : Nat) (v : Word) : (s.setLanW w v).regs = s.regs := rfl
@[simp] theorem setLanW_mem (w : Nat) (v : Word) : (s.setLanW w v).mem = s.mem := rfl
@[simp] theorem setLanW_poison (w : Nat) (v : Word) : (s.setLanW w v).poison = s.poison := rfl
@[simp] theorem setLanW_wakePend (w : Nat) (v : Word) : (s.setLanW w v).wakePend = s.wakePend := rfl
@[simp] theorem setLanW_troika (w : Nat) (v : Word) : (s.setLanW w v).troika = s.troika := rfl
@[simp] theorem setLanW_axle (w : Nat) (v : Word) : (s.setLanW w v).axle = s.axle := rfl
@[simp] theorem setLanW_pos (w : Nat) (v : Word) : (s.setLanW w v).pos = s.pos := rfl
@[simp] theorem setLanW_leg (w : Nat) (v : Word) : (s.setLanW w v).leg = s.leg := rfl
@[simp] theorem setLanW_chan (w : Nat) (v : Word) : (s.setLanW w v).chan = s.chan := rfl
@[simp] theorem setLanW_sdd (w : Nat) (v : Word) : (s.setLanW w v).sdd = s.sdd := rfl
@[simp] theorem setLanW_sar (w : Nat) (v : Word) : (s.setLanW w v).sar = s.sar := rfl
@[simp] theorem setLanW_res (w : Nat) (v : Word) : (s.setLanW w v).res = s.res := rfl
@[simp] theorem setLanW_enc (w : Nat) (v : Word) : (s.setLanW w v).enc = s.enc := rfl
@[simp] theorem setLanW_hys (w : Nat) (v : Word) : (s.setLanW w v).hys = s.hys := rfl
@[simp] theorem setLanW_mon (w : Nat) (v : Word) : (s.setLanW w v).mon = s.mon := rfl
@[simp] theorem setLanW_chop (w : Nat) (v : Word) : (s.setLanW w v).chop = s.chop := rfl
@[simp] theorem setLanW_kept (w : Nat) (v : Word) : (s.setLanW w v).kept = s.kept := rfl
@[simp] theorem setLanW_tripPins (w : Nat) (v : Word) : (s.setLanW w v).tripPins = s.tripPins := rfl
@[simp] theorem setLanW_brake (w : Nat) (v : Word) : (s.setLanW w v).brake = s.brake := rfl
@[simp] theorem setLanW_sealedRec (w : Nat) (v : Word) : (s.setLanW w v).sealedRec = s.sealedRec := rfl
@[simp] theorem setLanW_lix (w : Nat) (v : Word) : (s.setLanW w v).lix = s.lix := rfl
@[simp] theorem setLanW_cpl (w : Nat) (v : Word) : (s.setLanW w v).cpl = s.cpl := rfl
@[simp] theorem setLanW_grd (w : Nat) (v : Word) : (s.setLanW w v).grd = s.grd := rfl
@[simp] theorem setLanW_grdAt (w : Nat) (v : Word) : (s.setLanW w v).grdAt = s.grdAt := rfl
@[simp] theorem setLanW_grdCap (w : Nat) (v : Word) : (s.setLanW w v).grdCap = s.grdCap := rfl
@[simp] theorem setLanW_can (w : Nat) (v : Word) : (s.setLanW w v).can = s.can := rfl
@[simp] theorem setLanW_eth (w : Nat) (v : Word) : (s.setLanW w v).eth = s.eth := rfl
@[simp] theorem setLanW_thm (w : Nat) (v : Word) : (s.setLanW w v).thm = s.thm := rfl
@[simp] theorem setLanW_thmStepping (w : Nat) (v : Word) : (s.setLanW w v).thmStepping = s.thmStepping := rfl
@[simp] theorem setLanW_thmHot (w : Nat) (v : Word) : (s.setLanW w v).thmHot = s.thmHot := rfl
@[simp] theorem setLanW_bist (w : Nat) (v : Word) : (s.setLanW w v).bist = s.bist := rfl
@[simp] theorem setLanW_migPtr (w : Nat) (v : Word) : (s.setLanW w v).migPtr = s.migPtr := rfl
@[simp] theorem setLanW_spareMem (w : Nat) (v : Word) : (s.setLanW w v).spareMem = s.spareMem := rfl
@[simp] theorem setLanW_harnessAt (w : Nat) (v : Word) : (s.setLanW w v).harnessAt = s.harnessAt := rfl
@[simp] theorem setLanW_nvm (w : Nat) (v : Word) : (s.setLanW w v).nvm = s.nvm := rfl
@[simp] theorem setLanW_bringup (w : Nat) (v : Word) : (s.setLanW w v).bringup = s.bringup := rfl
@[simp] theorem setLanW_records (w : Nat) (v : Word) : (s.setLanW w v).records = s.records := rfl
@[simp] theorem setLanW_power (w : Nat) (v : Word) : (s.setLanW w v).power = s.power := rfl
@[simp] theorem setLanW_draws (w : Nat) (v : Word) : (s.setLanW w v).draws = s.draws := rfl

@[simp] theorem setLanF_pending (w : Nat) (f : Fld) (n : Nat) : (s.setLanF w f n).pending = s.pending := rfl
@[simp] theorem setLanF_now (w : Nat) (f : Fld) (n : Nat) : (s.setLanF w f n).now = s.now := rfl
@[simp] theorem setLanF_regs (w : Nat) (f : Fld) (n : Nat) : (s.setLanF w f n).regs = s.regs := rfl
@[simp] theorem setLanF_mem (w : Nat) (f : Fld) (n : Nat) : (s.setLanF w f n).mem = s.mem := rfl
@[simp] theorem setLanF_poison (w : Nat) (f : Fld) (n : Nat) : (s.setLanF w f n).poison = s.poison := rfl
@[simp] theorem setLanF_wakePend (w : Nat) (f : Fld) (n : Nat) : (s.setLanF w f n).wakePend = s.wakePend := rfl
@[simp] theorem setLanF_troika (w : Nat) (f : Fld) (n : Nat) : (s.setLanF w f n).troika = s.troika := rfl
@[simp] theorem setLanF_axle (w : Nat) (f : Fld) (n : Nat) : (s.setLanF w f n).axle = s.axle := rfl
@[simp] theorem setLanF_pos (w : Nat) (f : Fld) (n : Nat) : (s.setLanF w f n).pos = s.pos := rfl
@[simp] theorem setLanF_leg (w : Nat) (f : Fld) (n : Nat) : (s.setLanF w f n).leg = s.leg := rfl
@[simp] theorem setLanF_chan (w : Nat) (f : Fld) (n : Nat) : (s.setLanF w f n).chan = s.chan := rfl
@[simp] theorem setLanF_sdd (w : Nat) (f : Fld) (n : Nat) : (s.setLanF w f n).sdd = s.sdd := rfl
@[simp] theorem setLanF_sar (w : Nat) (f : Fld) (n : Nat) : (s.setLanF w f n).sar = s.sar := rfl
@[simp] theorem setLanF_res (w : Nat) (f : Fld) (n : Nat) : (s.setLanF w f n).res = s.res := rfl
@[simp] theorem setLanF_enc (w : Nat) (f : Fld) (n : Nat) : (s.setLanF w f n).enc = s.enc := rfl
@[simp] theorem setLanF_hys (w : Nat) (f : Fld) (n : Nat) : (s.setLanF w f n).hys = s.hys := rfl
@[simp] theorem setLanF_mon (w : Nat) (f : Fld) (n : Nat) : (s.setLanF w f n).mon = s.mon := rfl
@[simp] theorem setLanF_chop (w : Nat) (f : Fld) (n : Nat) : (s.setLanF w f n).chop = s.chop := rfl
@[simp] theorem setLanF_kept (w : Nat) (f : Fld) (n : Nat) : (s.setLanF w f n).kept = s.kept := rfl
@[simp] theorem setLanF_tripPins (w : Nat) (f : Fld) (n : Nat) : (s.setLanF w f n).tripPins = s.tripPins := rfl
@[simp] theorem setLanF_brake (w : Nat) (f : Fld) (n : Nat) : (s.setLanF w f n).brake = s.brake := rfl
@[simp] theorem setLanF_sealedRec (w : Nat) (f : Fld) (n : Nat) : (s.setLanF w f n).sealedRec = s.sealedRec := rfl
@[simp] theorem setLanF_lix (w : Nat) (f : Fld) (n : Nat) : (s.setLanF w f n).lix = s.lix := rfl
@[simp] theorem setLanF_cpl (w : Nat) (f : Fld) (n : Nat) : (s.setLanF w f n).cpl = s.cpl := rfl
@[simp] theorem setLanF_grd (w : Nat) (f : Fld) (n : Nat) : (s.setLanF w f n).grd = s.grd := rfl
@[simp] theorem setLanF_grdAt (w : Nat) (f : Fld) (n : Nat) : (s.setLanF w f n).grdAt = s.grdAt := rfl
@[simp] theorem setLanF_grdCap (w : Nat) (f : Fld) (n : Nat) : (s.setLanF w f n).grdCap = s.grdCap := rfl
@[simp] theorem setLanF_can (w : Nat) (f : Fld) (n : Nat) : (s.setLanF w f n).can = s.can := rfl
@[simp] theorem setLanF_eth (w : Nat) (f : Fld) (n : Nat) : (s.setLanF w f n).eth = s.eth := rfl
@[simp] theorem setLanF_thm (w : Nat) (f : Fld) (n : Nat) : (s.setLanF w f n).thm = s.thm := rfl
@[simp] theorem setLanF_thmStepping (w : Nat) (f : Fld) (n : Nat) : (s.setLanF w f n).thmStepping = s.thmStepping := rfl
@[simp] theorem setLanF_thmHot (w : Nat) (f : Fld) (n : Nat) : (s.setLanF w f n).thmHot = s.thmHot := rfl
@[simp] theorem setLanF_bist (w : Nat) (f : Fld) (n : Nat) : (s.setLanF w f n).bist = s.bist := rfl
@[simp] theorem setLanF_migPtr (w : Nat) (f : Fld) (n : Nat) : (s.setLanF w f n).migPtr = s.migPtr := rfl
@[simp] theorem setLanF_spareMem (w : Nat) (f : Fld) (n : Nat) : (s.setLanF w f n).spareMem = s.spareMem := rfl
@[simp] theorem setLanF_harnessAt (w : Nat) (f : Fld) (n : Nat) : (s.setLanF w f n).harnessAt = s.harnessAt := rfl
@[simp] theorem setLanF_nvm (w : Nat) (f : Fld) (n : Nat) : (s.setLanF w f n).nvm = s.nvm := rfl
@[simp] theorem setLanF_bringup (w : Nat) (f : Fld) (n : Nat) : (s.setLanF w f n).bringup = s.bringup := rfl
@[simp] theorem setLanF_records (w : Nat) (f : Fld) (n : Nat) : (s.setLanF w f n).records = s.records := rfl
@[simp] theorem setLanF_power (w : Nat) (f : Fld) (n : Nat) : (s.setLanF w f n).power = s.power := rfl
@[simp] theorem setLanF_draws (w : Nat) (f : Fld) (n : Nat) : (s.setLanF w f n).draws = s.draws := rfl

@[simp] theorem lanSq_pending (w : Nat) (f : Fld) : (s.lanSq w f).pending = s.pending := rfl
@[simp] theorem lanSq_now (w : Nat) (f : Fld) : (s.lanSq w f).now = s.now := rfl
@[simp] theorem lanSq_regs (w : Nat) (f : Fld) : (s.lanSq w f).regs = s.regs := rfl
@[simp] theorem lanSq_mem (w : Nat) (f : Fld) : (s.lanSq w f).mem = s.mem := rfl
@[simp] theorem lanSq_poison (w : Nat) (f : Fld) : (s.lanSq w f).poison = s.poison := rfl
@[simp] theorem lanSq_wakePend (w : Nat) (f : Fld) : (s.lanSq w f).wakePend = s.wakePend := rfl
@[simp] theorem lanSq_troika (w : Nat) (f : Fld) : (s.lanSq w f).troika = s.troika := rfl
@[simp] theorem lanSq_axle (w : Nat) (f : Fld) : (s.lanSq w f).axle = s.axle := rfl
@[simp] theorem lanSq_pos (w : Nat) (f : Fld) : (s.lanSq w f).pos = s.pos := rfl
@[simp] theorem lanSq_leg (w : Nat) (f : Fld) : (s.lanSq w f).leg = s.leg := rfl
@[simp] theorem lanSq_chan (w : Nat) (f : Fld) : (s.lanSq w f).chan = s.chan := rfl
@[simp] theorem lanSq_sdd (w : Nat) (f : Fld) : (s.lanSq w f).sdd = s.sdd := rfl
@[simp] theorem lanSq_sar (w : Nat) (f : Fld) : (s.lanSq w f).sar = s.sar := rfl
@[simp] theorem lanSq_res (w : Nat) (f : Fld) : (s.lanSq w f).res = s.res := rfl
@[simp] theorem lanSq_enc (w : Nat) (f : Fld) : (s.lanSq w f).enc = s.enc := rfl
@[simp] theorem lanSq_hys (w : Nat) (f : Fld) : (s.lanSq w f).hys = s.hys := rfl
@[simp] theorem lanSq_mon (w : Nat) (f : Fld) : (s.lanSq w f).mon = s.mon := rfl
@[simp] theorem lanSq_chop (w : Nat) (f : Fld) : (s.lanSq w f).chop = s.chop := rfl
@[simp] theorem lanSq_kept (w : Nat) (f : Fld) : (s.lanSq w f).kept = s.kept := rfl
@[simp] theorem lanSq_tripPins (w : Nat) (f : Fld) : (s.lanSq w f).tripPins = s.tripPins := rfl
@[simp] theorem lanSq_brake (w : Nat) (f : Fld) : (s.lanSq w f).brake = s.brake := rfl
@[simp] theorem lanSq_sealedRec (w : Nat) (f : Fld) : (s.lanSq w f).sealedRec = s.sealedRec := rfl
@[simp] theorem lanSq_lix (w : Nat) (f : Fld) : (s.lanSq w f).lix = s.lix := rfl
@[simp] theorem lanSq_cpl (w : Nat) (f : Fld) : (s.lanSq w f).cpl = s.cpl := rfl
@[simp] theorem lanSq_grd (w : Nat) (f : Fld) : (s.lanSq w f).grd = s.grd := rfl
@[simp] theorem lanSq_grdAt (w : Nat) (f : Fld) : (s.lanSq w f).grdAt = s.grdAt := rfl
@[simp] theorem lanSq_grdCap (w : Nat) (f : Fld) : (s.lanSq w f).grdCap = s.grdCap := rfl
@[simp] theorem lanSq_can (w : Nat) (f : Fld) : (s.lanSq w f).can = s.can := rfl
@[simp] theorem lanSq_eth (w : Nat) (f : Fld) : (s.lanSq w f).eth = s.eth := rfl
@[simp] theorem lanSq_thm (w : Nat) (f : Fld) : (s.lanSq w f).thm = s.thm := rfl
@[simp] theorem lanSq_thmStepping (w : Nat) (f : Fld) : (s.lanSq w f).thmStepping = s.thmStepping := rfl
@[simp] theorem lanSq_thmHot (w : Nat) (f : Fld) : (s.lanSq w f).thmHot = s.thmHot := rfl
@[simp] theorem lanSq_bist (w : Nat) (f : Fld) : (s.lanSq w f).bist = s.bist := rfl
@[simp] theorem lanSq_migPtr (w : Nat) (f : Fld) : (s.lanSq w f).migPtr = s.migPtr := rfl
@[simp] theorem lanSq_spareMem (w : Nat) (f : Fld) : (s.lanSq w f).spareMem = s.spareMem := rfl
@[simp] theorem lanSq_harnessAt (w : Nat) (f : Fld) : (s.lanSq w f).harnessAt = s.harnessAt := rfl
@[simp] theorem lanSq_nvm (w : Nat) (f : Fld) : (s.lanSq w f).nvm = s.nvm := rfl
@[simp] theorem lanSq_bringup (w : Nat) (f : Fld) : (s.lanSq w f).bringup = s.bringup := rfl
@[simp] theorem lanSq_records (w : Nat) (f : Fld) : (s.lanSq w f).records = s.records := rfl
@[simp] theorem lanSq_power (w : Nat) (f : Fld) : (s.lanSq w f).power = s.power := rfl
@[simp] theorem lanSq_draws (w : Nat) (f : Fld) : (s.lanSq w f).draws = s.draws := rfl

@[simp] theorem updLan_pending (f : Lantern → Lantern) : (s.updLan f).pending = s.pending := rfl
@[simp] theorem updLan_now (f : Lantern → Lantern) : (s.updLan f).now = s.now := rfl
@[simp] theorem updLan_regs (f : Lantern → Lantern) : (s.updLan f).regs = s.regs := rfl
@[simp] theorem updLan_mem (f : Lantern → Lantern) : (s.updLan f).mem = s.mem := rfl
@[simp] theorem updLan_poison (f : Lantern → Lantern) : (s.updLan f).poison = s.poison := rfl
@[simp] theorem updLan_wakePend (f : Lantern → Lantern) : (s.updLan f).wakePend = s.wakePend := rfl
@[simp] theorem updLan_troika (f : Lantern → Lantern) : (s.updLan f).troika = s.troika := rfl
@[simp] theorem updLan_axle (f : Lantern → Lantern) : (s.updLan f).axle = s.axle := rfl
@[simp] theorem updLan_pos (f : Lantern → Lantern) : (s.updLan f).pos = s.pos := rfl
@[simp] theorem updLan_leg (f : Lantern → Lantern) : (s.updLan f).leg = s.leg := rfl
@[simp] theorem updLan_chan (f : Lantern → Lantern) : (s.updLan f).chan = s.chan := rfl
@[simp] theorem updLan_sdd (f : Lantern → Lantern) : (s.updLan f).sdd = s.sdd := rfl
@[simp] theorem updLan_sar (f : Lantern → Lantern) : (s.updLan f).sar = s.sar := rfl
@[simp] theorem updLan_res (f : Lantern → Lantern) : (s.updLan f).res = s.res := rfl
@[simp] theorem updLan_enc (f : Lantern → Lantern) : (s.updLan f).enc = s.enc := rfl
@[simp] theorem updLan_hys (f : Lantern → Lantern) : (s.updLan f).hys = s.hys := rfl
@[simp] theorem updLan_mon (f : Lantern → Lantern) : (s.updLan f).mon = s.mon := rfl
@[simp] theorem updLan_chop (f : Lantern → Lantern) : (s.updLan f).chop = s.chop := rfl
@[simp] theorem updLan_kept (f : Lantern → Lantern) : (s.updLan f).kept = s.kept := rfl
@[simp] theorem updLan_tripPins (f : Lantern → Lantern) : (s.updLan f).tripPins = s.tripPins := rfl
@[simp] theorem updLan_brake (f : Lantern → Lantern) : (s.updLan f).brake = s.brake := rfl
@[simp] theorem updLan_sealedRec (f : Lantern → Lantern) : (s.updLan f).sealedRec = s.sealedRec := rfl
@[simp] theorem updLan_lix (f : Lantern → Lantern) : (s.updLan f).lix = s.lix := rfl
@[simp] theorem updLan_cpl (f : Lantern → Lantern) : (s.updLan f).cpl = s.cpl := rfl
@[simp] theorem updLan_grd (f : Lantern → Lantern) : (s.updLan f).grd = s.grd := rfl
@[simp] theorem updLan_grdAt (f : Lantern → Lantern) : (s.updLan f).grdAt = s.grdAt := rfl
@[simp] theorem updLan_grdCap (f : Lantern → Lantern) : (s.updLan f).grdCap = s.grdCap := rfl
@[simp] theorem updLan_can (f : Lantern → Lantern) : (s.updLan f).can = s.can := rfl
@[simp] theorem updLan_eth (f : Lantern → Lantern) : (s.updLan f).eth = s.eth := rfl
@[simp] theorem updLan_thm (f : Lantern → Lantern) : (s.updLan f).thm = s.thm := rfl
@[simp] theorem updLan_thmStepping (f : Lantern → Lantern) : (s.updLan f).thmStepping = s.thmStepping := rfl
@[simp] theorem updLan_thmHot (f : Lantern → Lantern) : (s.updLan f).thmHot = s.thmHot := rfl
@[simp] theorem updLan_bist (f : Lantern → Lantern) : (s.updLan f).bist = s.bist := rfl
@[simp] theorem updLan_migPtr (f : Lantern → Lantern) : (s.updLan f).migPtr = s.migPtr := rfl
@[simp] theorem updLan_spareMem (f : Lantern → Lantern) : (s.updLan f).spareMem = s.spareMem := rfl
@[simp] theorem updLan_harnessAt (f : Lantern → Lantern) : (s.updLan f).harnessAt = s.harnessAt := rfl
@[simp] theorem updLan_nvm (f : Lantern → Lantern) : (s.updLan f).nvm = s.nvm := rfl
@[simp] theorem updLan_bringup (f : Lantern → Lantern) : (s.updLan f).bringup = s.bringup := rfl
@[simp] theorem updLan_records (f : Lantern → Lantern) : (s.updLan f).records = s.records := rfl
@[simp] theorem updLan_power (f : Lantern → Lantern) : (s.updLan f).power = s.power := rfl
@[simp] theorem updLan_draws (f : Lantern → Lantern) : (s.updLan f).draws = s.draws := rfl

@[simp] theorem updTrk_pending (f : Troika → Troika) : (s.updTrk f).pending = s.pending := rfl
@[simp] theorem updTrk_now (f : Troika → Troika) : (s.updTrk f).now = s.now := rfl
@[simp] theorem updTrk_regs (f : Troika → Troika) : (s.updTrk f).regs = s.regs := rfl
@[simp] theorem updTrk_mem (f : Troika → Troika) : (s.updTrk f).mem = s.mem := rfl
@[simp] theorem updTrk_poison (f : Troika → Troika) : (s.updTrk f).poison = s.poison := rfl
@[simp] theorem updTrk_wakePend (f : Troika → Troika) : (s.updTrk f).wakePend = s.wakePend := rfl
@[simp] theorem updTrk_axle (f : Troika → Troika) : (s.updTrk f).axle = s.axle := rfl
@[simp] theorem updTrk_pos (f : Troika → Troika) : (s.updTrk f).pos = s.pos := rfl
@[simp] theorem updTrk_leg (f : Troika → Troika) : (s.updTrk f).leg = s.leg := rfl
@[simp] theorem updTrk_chan (f : Troika → Troika) : (s.updTrk f).chan = s.chan := rfl
@[simp] theorem updTrk_sdd (f : Troika → Troika) : (s.updTrk f).sdd = s.sdd := rfl
@[simp] theorem updTrk_sar (f : Troika → Troika) : (s.updTrk f).sar = s.sar := rfl
@[simp] theorem updTrk_res (f : Troika → Troika) : (s.updTrk f).res = s.res := rfl
@[simp] theorem updTrk_enc (f : Troika → Troika) : (s.updTrk f).enc = s.enc := rfl
@[simp] theorem updTrk_hys (f : Troika → Troika) : (s.updTrk f).hys = s.hys := rfl
@[simp] theorem updTrk_mon (f : Troika → Troika) : (s.updTrk f).mon = s.mon := rfl
@[simp] theorem updTrk_chop (f : Troika → Troika) : (s.updTrk f).chop = s.chop := rfl
@[simp] theorem updTrk_kept (f : Troika → Troika) : (s.updTrk f).kept = s.kept := rfl
@[simp] theorem updTrk_tripPins (f : Troika → Troika) : (s.updTrk f).tripPins = s.tripPins := rfl
@[simp] theorem updTrk_brake (f : Troika → Troika) : (s.updTrk f).brake = s.brake := rfl
@[simp] theorem updTrk_sealedRec (f : Troika → Troika) : (s.updTrk f).sealedRec = s.sealedRec := rfl
@[simp] theorem updTrk_lix (f : Troika → Troika) : (s.updTrk f).lix = s.lix := rfl
@[simp] theorem updTrk_lan (f : Troika → Troika) : (s.updTrk f).lan = s.lan := rfl
@[simp] theorem updTrk_cpl (f : Troika → Troika) : (s.updTrk f).cpl = s.cpl := rfl
@[simp] theorem updTrk_grd (f : Troika → Troika) : (s.updTrk f).grd = s.grd := rfl
@[simp] theorem updTrk_grdAt (f : Troika → Troika) : (s.updTrk f).grdAt = s.grdAt := rfl
@[simp] theorem updTrk_grdCap (f : Troika → Troika) : (s.updTrk f).grdCap = s.grdCap := rfl
@[simp] theorem updTrk_can (f : Troika → Troika) : (s.updTrk f).can = s.can := rfl
@[simp] theorem updTrk_eth (f : Troika → Troika) : (s.updTrk f).eth = s.eth := rfl
@[simp] theorem updTrk_thm (f : Troika → Troika) : (s.updTrk f).thm = s.thm := rfl
@[simp] theorem updTrk_thmStepping (f : Troika → Troika) : (s.updTrk f).thmStepping = s.thmStepping := rfl
@[simp] theorem updTrk_thmHot (f : Troika → Troika) : (s.updTrk f).thmHot = s.thmHot := rfl
@[simp] theorem updTrk_bist (f : Troika → Troika) : (s.updTrk f).bist = s.bist := rfl
@[simp] theorem updTrk_migPtr (f : Troika → Troika) : (s.updTrk f).migPtr = s.migPtr := rfl
@[simp] theorem updTrk_spareMem (f : Troika → Troika) : (s.updTrk f).spareMem = s.spareMem := rfl
@[simp] theorem updTrk_harnessAt (f : Troika → Troika) : (s.updTrk f).harnessAt = s.harnessAt := rfl
@[simp] theorem updTrk_nvm (f : Troika → Troika) : (s.updTrk f).nvm = s.nvm := rfl
@[simp] theorem updTrk_bringup (f : Troika → Troika) : (s.updTrk f).bringup = s.bringup := rfl
@[simp] theorem updTrk_records (f : Troika → Troika) : (s.updTrk f).records = s.records := rfl
@[simp] theorem updTrk_power (f : Troika → Troika) : (s.updTrk f).power = s.power := rfl
@[simp] theorem updTrk_draws (f : Troika → Troika) : (s.updTrk f).draws = s.draws := rfl

@[simp] theorem updCpl_pending (f : Coupler → Coupler) : (s.updCpl f).pending = s.pending := rfl
@[simp] theorem updCpl_now (f : Coupler → Coupler) : (s.updCpl f).now = s.now := rfl
@[simp] theorem updCpl_regs (f : Coupler → Coupler) : (s.updCpl f).regs = s.regs := rfl
@[simp] theorem updCpl_mem (f : Coupler → Coupler) : (s.updCpl f).mem = s.mem := rfl
@[simp] theorem updCpl_poison (f : Coupler → Coupler) : (s.updCpl f).poison = s.poison := rfl
@[simp] theorem updCpl_wakePend (f : Coupler → Coupler) : (s.updCpl f).wakePend = s.wakePend := rfl
@[simp] theorem updCpl_troika (f : Coupler → Coupler) : (s.updCpl f).troika = s.troika := rfl
@[simp] theorem updCpl_axle (f : Coupler → Coupler) : (s.updCpl f).axle = s.axle := rfl
@[simp] theorem updCpl_pos (f : Coupler → Coupler) : (s.updCpl f).pos = s.pos := rfl
@[simp] theorem updCpl_leg (f : Coupler → Coupler) : (s.updCpl f).leg = s.leg := rfl
@[simp] theorem updCpl_chan (f : Coupler → Coupler) : (s.updCpl f).chan = s.chan := rfl
@[simp] theorem updCpl_sdd (f : Coupler → Coupler) : (s.updCpl f).sdd = s.sdd := rfl
@[simp] theorem updCpl_sar (f : Coupler → Coupler) : (s.updCpl f).sar = s.sar := rfl
@[simp] theorem updCpl_res (f : Coupler → Coupler) : (s.updCpl f).res = s.res := rfl
@[simp] theorem updCpl_enc (f : Coupler → Coupler) : (s.updCpl f).enc = s.enc := rfl
@[simp] theorem updCpl_hys (f : Coupler → Coupler) : (s.updCpl f).hys = s.hys := rfl
@[simp] theorem updCpl_mon (f : Coupler → Coupler) : (s.updCpl f).mon = s.mon := rfl
@[simp] theorem updCpl_chop (f : Coupler → Coupler) : (s.updCpl f).chop = s.chop := rfl
@[simp] theorem updCpl_kept (f : Coupler → Coupler) : (s.updCpl f).kept = s.kept := rfl
@[simp] theorem updCpl_tripPins (f : Coupler → Coupler) : (s.updCpl f).tripPins = s.tripPins := rfl
@[simp] theorem updCpl_brake (f : Coupler → Coupler) : (s.updCpl f).brake = s.brake := rfl
@[simp] theorem updCpl_sealedRec (f : Coupler → Coupler) : (s.updCpl f).sealedRec = s.sealedRec := rfl
@[simp] theorem updCpl_lix (f : Coupler → Coupler) : (s.updCpl f).lix = s.lix := rfl
@[simp] theorem updCpl_lan (f : Coupler → Coupler) : (s.updCpl f).lan = s.lan := rfl
@[simp] theorem updCpl_grd (f : Coupler → Coupler) : (s.updCpl f).grd = s.grd := rfl
@[simp] theorem updCpl_grdAt (f : Coupler → Coupler) : (s.updCpl f).grdAt = s.grdAt := rfl
@[simp] theorem updCpl_grdCap (f : Coupler → Coupler) : (s.updCpl f).grdCap = s.grdCap := rfl
@[simp] theorem updCpl_can (f : Coupler → Coupler) : (s.updCpl f).can = s.can := rfl
@[simp] theorem updCpl_eth (f : Coupler → Coupler) : (s.updCpl f).eth = s.eth := rfl
@[simp] theorem updCpl_thm (f : Coupler → Coupler) : (s.updCpl f).thm = s.thm := rfl
@[simp] theorem updCpl_thmStepping (f : Coupler → Coupler) : (s.updCpl f).thmStepping = s.thmStepping := rfl
@[simp] theorem updCpl_thmHot (f : Coupler → Coupler) : (s.updCpl f).thmHot = s.thmHot := rfl
@[simp] theorem updCpl_bist (f : Coupler → Coupler) : (s.updCpl f).bist = s.bist := rfl
@[simp] theorem updCpl_migPtr (f : Coupler → Coupler) : (s.updCpl f).migPtr = s.migPtr := rfl
@[simp] theorem updCpl_spareMem (f : Coupler → Coupler) : (s.updCpl f).spareMem = s.spareMem := rfl
@[simp] theorem updCpl_harnessAt (f : Coupler → Coupler) : (s.updCpl f).harnessAt = s.harnessAt := rfl
@[simp] theorem updCpl_nvm (f : Coupler → Coupler) : (s.updCpl f).nvm = s.nvm := rfl
@[simp] theorem updCpl_bringup (f : Coupler → Coupler) : (s.updCpl f).bringup = s.bringup := rfl
@[simp] theorem updCpl_records (f : Coupler → Coupler) : (s.updCpl f).records = s.records := rfl
@[simp] theorem updCpl_power (f : Coupler → Coupler) : (s.updCpl f).power = s.power := rfl
@[simp] theorem updCpl_draws (f : Coupler → Coupler) : (s.updCpl f).draws = s.draws := rfl

@[simp] theorem setByte_pending (a : Nat) (b : Byte) : (s.setByte a b).pending = s.pending := rfl
@[simp] theorem setByte_now (a : Nat) (b : Byte) : (s.setByte a b).now = s.now := rfl
@[simp] theorem setByte_regs (a : Nat) (b : Byte) : (s.setByte a b).regs = s.regs := rfl
@[simp] theorem setByte_poison (a : Nat) (b : Byte) : (s.setByte a b).poison = s.poison := rfl
@[simp] theorem setByte_wakePend (a : Nat) (b : Byte) : (s.setByte a b).wakePend = s.wakePend := rfl
@[simp] theorem setByte_troika (a : Nat) (b : Byte) : (s.setByte a b).troika = s.troika := rfl
@[simp] theorem setByte_axle (a : Nat) (b : Byte) : (s.setByte a b).axle = s.axle := rfl
@[simp] theorem setByte_pos (a : Nat) (b : Byte) : (s.setByte a b).pos = s.pos := rfl
@[simp] theorem setByte_leg (a : Nat) (b : Byte) : (s.setByte a b).leg = s.leg := rfl
@[simp] theorem setByte_chan (a : Nat) (b : Byte) : (s.setByte a b).chan = s.chan := rfl
@[simp] theorem setByte_sdd (a : Nat) (b : Byte) : (s.setByte a b).sdd = s.sdd := rfl
@[simp] theorem setByte_sar (a : Nat) (b : Byte) : (s.setByte a b).sar = s.sar := rfl
@[simp] theorem setByte_res (a : Nat) (b : Byte) : (s.setByte a b).res = s.res := rfl
@[simp] theorem setByte_enc (a : Nat) (b : Byte) : (s.setByte a b).enc = s.enc := rfl
@[simp] theorem setByte_hys (a : Nat) (b : Byte) : (s.setByte a b).hys = s.hys := rfl
@[simp] theorem setByte_mon (a : Nat) (b : Byte) : (s.setByte a b).mon = s.mon := rfl
@[simp] theorem setByte_chop (a : Nat) (b : Byte) : (s.setByte a b).chop = s.chop := rfl
@[simp] theorem setByte_kept (a : Nat) (b : Byte) : (s.setByte a b).kept = s.kept := rfl
@[simp] theorem setByte_tripPins (a : Nat) (b : Byte) : (s.setByte a b).tripPins = s.tripPins := rfl
@[simp] theorem setByte_brake (a : Nat) (b : Byte) : (s.setByte a b).brake = s.brake := rfl
@[simp] theorem setByte_sealedRec (a : Nat) (b : Byte) : (s.setByte a b).sealedRec = s.sealedRec := rfl
@[simp] theorem setByte_lix (a : Nat) (b : Byte) : (s.setByte a b).lix = s.lix := rfl
@[simp] theorem setByte_lan (a : Nat) (b : Byte) : (s.setByte a b).lan = s.lan := rfl
@[simp] theorem setByte_cpl (a : Nat) (b : Byte) : (s.setByte a b).cpl = s.cpl := rfl
@[simp] theorem setByte_grd (a : Nat) (b : Byte) : (s.setByte a b).grd = s.grd := rfl
@[simp] theorem setByte_grdAt (a : Nat) (b : Byte) : (s.setByte a b).grdAt = s.grdAt := rfl
@[simp] theorem setByte_grdCap (a : Nat) (b : Byte) : (s.setByte a b).grdCap = s.grdCap := rfl
@[simp] theorem setByte_can (a : Nat) (b : Byte) : (s.setByte a b).can = s.can := rfl
@[simp] theorem setByte_eth (a : Nat) (b : Byte) : (s.setByte a b).eth = s.eth := rfl
@[simp] theorem setByte_thm (a : Nat) (b : Byte) : (s.setByte a b).thm = s.thm := rfl
@[simp] theorem setByte_thmStepping (a : Nat) (b : Byte) : (s.setByte a b).thmStepping = s.thmStepping := rfl
@[simp] theorem setByte_thmHot (a : Nat) (b : Byte) : (s.setByte a b).thmHot = s.thmHot := rfl
@[simp] theorem setByte_bist (a : Nat) (b : Byte) : (s.setByte a b).bist = s.bist := rfl
@[simp] theorem setByte_migPtr (a : Nat) (b : Byte) : (s.setByte a b).migPtr = s.migPtr := rfl
@[simp] theorem setByte_spareMem (a : Nat) (b : Byte) : (s.setByte a b).spareMem = s.spareMem := rfl
@[simp] theorem setByte_harnessAt (a : Nat) (b : Byte) : (s.setByte a b).harnessAt = s.harnessAt := rfl
@[simp] theorem setByte_nvm (a : Nat) (b : Byte) : (s.setByte a b).nvm = s.nvm := rfl
@[simp] theorem setByte_bringup (a : Nat) (b : Byte) : (s.setByte a b).bringup = s.bringup := rfl
@[simp] theorem setByte_records (a : Nat) (b : Byte) : (s.setByte a b).records = s.records := rfl
@[simp] theorem setByte_power (a : Nat) (b : Byte) : (s.setByte a b).power = s.power := rfl
@[simp] theorem setByte_draws (a : Nat) (b : Byte) : (s.setByte a b).draws = s.draws := rfl

@[simp] theorem setTroikaCore_pending (c : CoreState) : (s.setCore .troika c).pending = s.pending := rfl
@[simp] theorem setTroikaCore_now (c : CoreState) : (s.setCore .troika c).now = s.now := rfl
@[simp] theorem setTroikaCore_regs (c : CoreState) : (s.setCore .troika c).regs = s.regs := rfl
@[simp] theorem setTroikaCore_mem (c : CoreState) : (s.setCore .troika c).mem = s.mem := rfl
@[simp] theorem setTroikaCore_poison (c : CoreState) : (s.setCore .troika c).poison = s.poison := rfl
@[simp] theorem setTroikaCore_wakePend (c : CoreState) : (s.setCore .troika c).wakePend = s.wakePend := rfl
@[simp] theorem setTroikaCore_axle (c : CoreState) : (s.setCore .troika c).axle = s.axle := rfl
@[simp] theorem setTroikaCore_pos (c : CoreState) : (s.setCore .troika c).pos = s.pos := rfl
@[simp] theorem setTroikaCore_leg (c : CoreState) : (s.setCore .troika c).leg = s.leg := rfl
@[simp] theorem setTroikaCore_chan (c : CoreState) : (s.setCore .troika c).chan = s.chan := rfl
@[simp] theorem setTroikaCore_sdd (c : CoreState) : (s.setCore .troika c).sdd = s.sdd := rfl
@[simp] theorem setTroikaCore_sar (c : CoreState) : (s.setCore .troika c).sar = s.sar := rfl
@[simp] theorem setTroikaCore_res (c : CoreState) : (s.setCore .troika c).res = s.res := rfl
@[simp] theorem setTroikaCore_enc (c : CoreState) : (s.setCore .troika c).enc = s.enc := rfl
@[simp] theorem setTroikaCore_hys (c : CoreState) : (s.setCore .troika c).hys = s.hys := rfl
@[simp] theorem setTroikaCore_mon (c : CoreState) : (s.setCore .troika c).mon = s.mon := rfl
@[simp] theorem setTroikaCore_chop (c : CoreState) : (s.setCore .troika c).chop = s.chop := rfl
@[simp] theorem setTroikaCore_kept (c : CoreState) : (s.setCore .troika c).kept = s.kept := rfl
@[simp] theorem setTroikaCore_tripPins (c : CoreState) : (s.setCore .troika c).tripPins = s.tripPins := rfl
@[simp] theorem setTroikaCore_brake (c : CoreState) : (s.setCore .troika c).brake = s.brake := rfl
@[simp] theorem setTroikaCore_sealedRec (c : CoreState) : (s.setCore .troika c).sealedRec = s.sealedRec := rfl
@[simp] theorem setTroikaCore_lix (c : CoreState) : (s.setCore .troika c).lix = s.lix := rfl
@[simp] theorem setTroikaCore_lan (c : CoreState) : (s.setCore .troika c).lan = s.lan := rfl
@[simp] theorem setTroikaCore_cpl (c : CoreState) : (s.setCore .troika c).cpl = s.cpl := rfl
@[simp] theorem setTroikaCore_grd (c : CoreState) : (s.setCore .troika c).grd = s.grd := rfl
@[simp] theorem setTroikaCore_grdAt (c : CoreState) : (s.setCore .troika c).grdAt = s.grdAt := rfl
@[simp] theorem setTroikaCore_grdCap (c : CoreState) : (s.setCore .troika c).grdCap = s.grdCap := rfl
@[simp] theorem setTroikaCore_can (c : CoreState) : (s.setCore .troika c).can = s.can := rfl
@[simp] theorem setTroikaCore_eth (c : CoreState) : (s.setCore .troika c).eth = s.eth := rfl
@[simp] theorem setTroikaCore_thm (c : CoreState) : (s.setCore .troika c).thm = s.thm := rfl
@[simp] theorem setTroikaCore_thmStepping (c : CoreState) : (s.setCore .troika c).thmStepping = s.thmStepping := rfl
@[simp] theorem setTroikaCore_thmHot (c : CoreState) : (s.setCore .troika c).thmHot = s.thmHot := rfl
@[simp] theorem setTroikaCore_bist (c : CoreState) : (s.setCore .troika c).bist = s.bist := rfl
@[simp] theorem setTroikaCore_migPtr (c : CoreState) : (s.setCore .troika c).migPtr = s.migPtr := rfl
@[simp] theorem setTroikaCore_spareMem (c : CoreState) : (s.setCore .troika c).spareMem = s.spareMem := rfl
@[simp] theorem setTroikaCore_harnessAt (c : CoreState) : (s.setCore .troika c).harnessAt = s.harnessAt := rfl
@[simp] theorem setTroikaCore_nvm (c : CoreState) : (s.setCore .troika c).nvm = s.nvm := rfl
@[simp] theorem setTroikaCore_bringup (c : CoreState) : (s.setCore .troika c).bringup = s.bringup := rfl
@[simp] theorem setTroikaCore_records (c : CoreState) : (s.setCore .troika c).records = s.records := rfl
@[simp] theorem setTroikaCore_power (c : CoreState) : (s.setCore .troika c).power = s.power := rfl
@[simp] theorem setTroikaCore_draws (c : CoreState) : (s.setCore .troika c).draws = s.draws := rfl

@[simp] theorem setLanternCore_pending (c : CoreState) : (s.setCore .lantern c).pending = s.pending := rfl
@[simp] theorem setLanternCore_now (c : CoreState) : (s.setCore .lantern c).now = s.now := rfl
@[simp] theorem setLanternCore_regs (c : CoreState) : (s.setCore .lantern c).regs = s.regs := rfl
@[simp] theorem setLanternCore_mem (c : CoreState) : (s.setCore .lantern c).mem = s.mem := rfl
@[simp] theorem setLanternCore_poison (c : CoreState) : (s.setCore .lantern c).poison = s.poison := rfl
@[simp] theorem setLanternCore_wakePend (c : CoreState) : (s.setCore .lantern c).wakePend = s.wakePend := rfl
@[simp] theorem setLanternCore_troika (c : CoreState) : (s.setCore .lantern c).troika = s.troika := rfl
@[simp] theorem setLanternCore_axle (c : CoreState) : (s.setCore .lantern c).axle = s.axle := rfl
@[simp] theorem setLanternCore_pos (c : CoreState) : (s.setCore .lantern c).pos = s.pos := rfl
@[simp] theorem setLanternCore_leg (c : CoreState) : (s.setCore .lantern c).leg = s.leg := rfl
@[simp] theorem setLanternCore_chan (c : CoreState) : (s.setCore .lantern c).chan = s.chan := rfl
@[simp] theorem setLanternCore_sdd (c : CoreState) : (s.setCore .lantern c).sdd = s.sdd := rfl
@[simp] theorem setLanternCore_sar (c : CoreState) : (s.setCore .lantern c).sar = s.sar := rfl
@[simp] theorem setLanternCore_res (c : CoreState) : (s.setCore .lantern c).res = s.res := rfl
@[simp] theorem setLanternCore_enc (c : CoreState) : (s.setCore .lantern c).enc = s.enc := rfl
@[simp] theorem setLanternCore_hys (c : CoreState) : (s.setCore .lantern c).hys = s.hys := rfl
@[simp] theorem setLanternCore_mon (c : CoreState) : (s.setCore .lantern c).mon = s.mon := rfl
@[simp] theorem setLanternCore_chop (c : CoreState) : (s.setCore .lantern c).chop = s.chop := rfl
@[simp] theorem setLanternCore_kept (c : CoreState) : (s.setCore .lantern c).kept = s.kept := rfl
@[simp] theorem setLanternCore_tripPins (c : CoreState) : (s.setCore .lantern c).tripPins = s.tripPins := rfl
@[simp] theorem setLanternCore_brake (c : CoreState) : (s.setCore .lantern c).brake = s.brake := rfl
@[simp] theorem setLanternCore_sealedRec (c : CoreState) : (s.setCore .lantern c).sealedRec = s.sealedRec := rfl
@[simp] theorem setLanternCore_lix (c : CoreState) : (s.setCore .lantern c).lix = s.lix := rfl
@[simp] theorem setLanternCore_cpl (c : CoreState) : (s.setCore .lantern c).cpl = s.cpl := rfl
@[simp] theorem setLanternCore_grd (c : CoreState) : (s.setCore .lantern c).grd = s.grd := rfl
@[simp] theorem setLanternCore_grdAt (c : CoreState) : (s.setCore .lantern c).grdAt = s.grdAt := rfl
@[simp] theorem setLanternCore_grdCap (c : CoreState) : (s.setCore .lantern c).grdCap = s.grdCap := rfl
@[simp] theorem setLanternCore_can (c : CoreState) : (s.setCore .lantern c).can = s.can := rfl
@[simp] theorem setLanternCore_eth (c : CoreState) : (s.setCore .lantern c).eth = s.eth := rfl
@[simp] theorem setLanternCore_thm (c : CoreState) : (s.setCore .lantern c).thm = s.thm := rfl
@[simp] theorem setLanternCore_thmStepping (c : CoreState) : (s.setCore .lantern c).thmStepping = s.thmStepping := rfl
@[simp] theorem setLanternCore_thmHot (c : CoreState) : (s.setCore .lantern c).thmHot = s.thmHot := rfl
@[simp] theorem setLanternCore_bist (c : CoreState) : (s.setCore .lantern c).bist = s.bist := rfl
@[simp] theorem setLanternCore_migPtr (c : CoreState) : (s.setCore .lantern c).migPtr = s.migPtr := rfl
@[simp] theorem setLanternCore_spareMem (c : CoreState) : (s.setCore .lantern c).spareMem = s.spareMem := rfl
@[simp] theorem setLanternCore_harnessAt (c : CoreState) : (s.setCore .lantern c).harnessAt = s.harnessAt := rfl
@[simp] theorem setLanternCore_nvm (c : CoreState) : (s.setCore .lantern c).nvm = s.nvm := rfl
@[simp] theorem setLanternCore_bringup (c : CoreState) : (s.setCore .lantern c).bringup = s.bringup := rfl
@[simp] theorem setLanternCore_records (c : CoreState) : (s.setCore .lantern c).records = s.records := rfl
@[simp] theorem setLanternCore_power (c : CoreState) : (s.setCore .lantern c).power = s.power := rfl
@[simp] theorem setLanternCore_draws (c : CoreState) : (s.setCore .lantern c).draws = s.draws := rfl

@[simp] theorem updTroikaCore_pending (f : CoreState → CoreState) : (s.updCore .troika f).pending = s.pending := rfl
@[simp] theorem updTroikaCore_now (f : CoreState → CoreState) : (s.updCore .troika f).now = s.now := rfl
@[simp] theorem updTroikaCore_regs (f : CoreState → CoreState) : (s.updCore .troika f).regs = s.regs := rfl
@[simp] theorem updTroikaCore_mem (f : CoreState → CoreState) : (s.updCore .troika f).mem = s.mem := rfl
@[simp] theorem updTroikaCore_poison (f : CoreState → CoreState) : (s.updCore .troika f).poison = s.poison := rfl
@[simp] theorem updTroikaCore_wakePend (f : CoreState → CoreState) : (s.updCore .troika f).wakePend = s.wakePend := rfl
@[simp] theorem updTroikaCore_axle (f : CoreState → CoreState) : (s.updCore .troika f).axle = s.axle := rfl
@[simp] theorem updTroikaCore_pos (f : CoreState → CoreState) : (s.updCore .troika f).pos = s.pos := rfl
@[simp] theorem updTroikaCore_leg (f : CoreState → CoreState) : (s.updCore .troika f).leg = s.leg := rfl
@[simp] theorem updTroikaCore_chan (f : CoreState → CoreState) : (s.updCore .troika f).chan = s.chan := rfl
@[simp] theorem updTroikaCore_sdd (f : CoreState → CoreState) : (s.updCore .troika f).sdd = s.sdd := rfl
@[simp] theorem updTroikaCore_sar (f : CoreState → CoreState) : (s.updCore .troika f).sar = s.sar := rfl
@[simp] theorem updTroikaCore_res (f : CoreState → CoreState) : (s.updCore .troika f).res = s.res := rfl
@[simp] theorem updTroikaCore_enc (f : CoreState → CoreState) : (s.updCore .troika f).enc = s.enc := rfl
@[simp] theorem updTroikaCore_hys (f : CoreState → CoreState) : (s.updCore .troika f).hys = s.hys := rfl
@[simp] theorem updTroikaCore_mon (f : CoreState → CoreState) : (s.updCore .troika f).mon = s.mon := rfl
@[simp] theorem updTroikaCore_chop (f : CoreState → CoreState) : (s.updCore .troika f).chop = s.chop := rfl
@[simp] theorem updTroikaCore_kept (f : CoreState → CoreState) : (s.updCore .troika f).kept = s.kept := rfl
@[simp] theorem updTroikaCore_tripPins (f : CoreState → CoreState) : (s.updCore .troika f).tripPins = s.tripPins := rfl
@[simp] theorem updTroikaCore_brake (f : CoreState → CoreState) : (s.updCore .troika f).brake = s.brake := rfl
@[simp] theorem updTroikaCore_sealedRec (f : CoreState → CoreState) : (s.updCore .troika f).sealedRec = s.sealedRec := rfl
@[simp] theorem updTroikaCore_lix (f : CoreState → CoreState) : (s.updCore .troika f).lix = s.lix := rfl
@[simp] theorem updTroikaCore_lan (f : CoreState → CoreState) : (s.updCore .troika f).lan = s.lan := rfl
@[simp] theorem updTroikaCore_cpl (f : CoreState → CoreState) : (s.updCore .troika f).cpl = s.cpl := rfl
@[simp] theorem updTroikaCore_grd (f : CoreState → CoreState) : (s.updCore .troika f).grd = s.grd := rfl
@[simp] theorem updTroikaCore_grdAt (f : CoreState → CoreState) : (s.updCore .troika f).grdAt = s.grdAt := rfl
@[simp] theorem updTroikaCore_grdCap (f : CoreState → CoreState) : (s.updCore .troika f).grdCap = s.grdCap := rfl
@[simp] theorem updTroikaCore_can (f : CoreState → CoreState) : (s.updCore .troika f).can = s.can := rfl
@[simp] theorem updTroikaCore_eth (f : CoreState → CoreState) : (s.updCore .troika f).eth = s.eth := rfl
@[simp] theorem updTroikaCore_thm (f : CoreState → CoreState) : (s.updCore .troika f).thm = s.thm := rfl
@[simp] theorem updTroikaCore_thmStepping (f : CoreState → CoreState) : (s.updCore .troika f).thmStepping = s.thmStepping := rfl
@[simp] theorem updTroikaCore_thmHot (f : CoreState → CoreState) : (s.updCore .troika f).thmHot = s.thmHot := rfl
@[simp] theorem updTroikaCore_bist (f : CoreState → CoreState) : (s.updCore .troika f).bist = s.bist := rfl
@[simp] theorem updTroikaCore_migPtr (f : CoreState → CoreState) : (s.updCore .troika f).migPtr = s.migPtr := rfl
@[simp] theorem updTroikaCore_spareMem (f : CoreState → CoreState) : (s.updCore .troika f).spareMem = s.spareMem := rfl
@[simp] theorem updTroikaCore_harnessAt (f : CoreState → CoreState) : (s.updCore .troika f).harnessAt = s.harnessAt := rfl
@[simp] theorem updTroikaCore_nvm (f : CoreState → CoreState) : (s.updCore .troika f).nvm = s.nvm := rfl
@[simp] theorem updTroikaCore_bringup (f : CoreState → CoreState) : (s.updCore .troika f).bringup = s.bringup := rfl
@[simp] theorem updTroikaCore_records (f : CoreState → CoreState) : (s.updCore .troika f).records = s.records := rfl
@[simp] theorem updTroikaCore_power (f : CoreState → CoreState) : (s.updCore .troika f).power = s.power := rfl
@[simp] theorem updTroikaCore_draws (f : CoreState → CoreState) : (s.updCore .troika f).draws = s.draws := rfl

@[simp] theorem updLanternCore_pending (f : CoreState → CoreState) : (s.updCore .lantern f).pending = s.pending := rfl
@[simp] theorem updLanternCore_now (f : CoreState → CoreState) : (s.updCore .lantern f).now = s.now := rfl
@[simp] theorem updLanternCore_regs (f : CoreState → CoreState) : (s.updCore .lantern f).regs = s.regs := rfl
@[simp] theorem updLanternCore_mem (f : CoreState → CoreState) : (s.updCore .lantern f).mem = s.mem := rfl
@[simp] theorem updLanternCore_poison (f : CoreState → CoreState) : (s.updCore .lantern f).poison = s.poison := rfl
@[simp] theorem updLanternCore_wakePend (f : CoreState → CoreState) : (s.updCore .lantern f).wakePend = s.wakePend := rfl
@[simp] theorem updLanternCore_troika (f : CoreState → CoreState) : (s.updCore .lantern f).troika = s.troika := rfl
@[simp] theorem updLanternCore_axle (f : CoreState → CoreState) : (s.updCore .lantern f).axle = s.axle := rfl
@[simp] theorem updLanternCore_pos (f : CoreState → CoreState) : (s.updCore .lantern f).pos = s.pos := rfl
@[simp] theorem updLanternCore_leg (f : CoreState → CoreState) : (s.updCore .lantern f).leg = s.leg := rfl
@[simp] theorem updLanternCore_chan (f : CoreState → CoreState) : (s.updCore .lantern f).chan = s.chan := rfl
@[simp] theorem updLanternCore_sdd (f : CoreState → CoreState) : (s.updCore .lantern f).sdd = s.sdd := rfl
@[simp] theorem updLanternCore_sar (f : CoreState → CoreState) : (s.updCore .lantern f).sar = s.sar := rfl
@[simp] theorem updLanternCore_res (f : CoreState → CoreState) : (s.updCore .lantern f).res = s.res := rfl
@[simp] theorem updLanternCore_enc (f : CoreState → CoreState) : (s.updCore .lantern f).enc = s.enc := rfl
@[simp] theorem updLanternCore_hys (f : CoreState → CoreState) : (s.updCore .lantern f).hys = s.hys := rfl
@[simp] theorem updLanternCore_mon (f : CoreState → CoreState) : (s.updCore .lantern f).mon = s.mon := rfl
@[simp] theorem updLanternCore_chop (f : CoreState → CoreState) : (s.updCore .lantern f).chop = s.chop := rfl
@[simp] theorem updLanternCore_kept (f : CoreState → CoreState) : (s.updCore .lantern f).kept = s.kept := rfl
@[simp] theorem updLanternCore_tripPins (f : CoreState → CoreState) : (s.updCore .lantern f).tripPins = s.tripPins := rfl
@[simp] theorem updLanternCore_brake (f : CoreState → CoreState) : (s.updCore .lantern f).brake = s.brake := rfl
@[simp] theorem updLanternCore_sealedRec (f : CoreState → CoreState) : (s.updCore .lantern f).sealedRec = s.sealedRec := rfl
@[simp] theorem updLanternCore_lix (f : CoreState → CoreState) : (s.updCore .lantern f).lix = s.lix := rfl
@[simp] theorem updLanternCore_cpl (f : CoreState → CoreState) : (s.updCore .lantern f).cpl = s.cpl := rfl
@[simp] theorem updLanternCore_grd (f : CoreState → CoreState) : (s.updCore .lantern f).grd = s.grd := rfl
@[simp] theorem updLanternCore_grdAt (f : CoreState → CoreState) : (s.updCore .lantern f).grdAt = s.grdAt := rfl
@[simp] theorem updLanternCore_grdCap (f : CoreState → CoreState) : (s.updCore .lantern f).grdCap = s.grdCap := rfl
@[simp] theorem updLanternCore_can (f : CoreState → CoreState) : (s.updCore .lantern f).can = s.can := rfl
@[simp] theorem updLanternCore_eth (f : CoreState → CoreState) : (s.updCore .lantern f).eth = s.eth := rfl
@[simp] theorem updLanternCore_thm (f : CoreState → CoreState) : (s.updCore .lantern f).thm = s.thm := rfl
@[simp] theorem updLanternCore_thmStepping (f : CoreState → CoreState) : (s.updCore .lantern f).thmStepping = s.thmStepping := rfl
@[simp] theorem updLanternCore_thmHot (f : CoreState → CoreState) : (s.updCore .lantern f).thmHot = s.thmHot := rfl
@[simp] theorem updLanternCore_bist (f : CoreState → CoreState) : (s.updCore .lantern f).bist = s.bist := rfl
@[simp] theorem updLanternCore_migPtr (f : CoreState → CoreState) : (s.updCore .lantern f).migPtr = s.migPtr := rfl
@[simp] theorem updLanternCore_spareMem (f : CoreState → CoreState) : (s.updCore .lantern f).spareMem = s.spareMem := rfl
@[simp] theorem updLanternCore_harnessAt (f : CoreState → CoreState) : (s.updCore .lantern f).harnessAt = s.harnessAt := rfl
@[simp] theorem updLanternCore_nvm (f : CoreState → CoreState) : (s.updCore .lantern f).nvm = s.nvm := rfl
@[simp] theorem updLanternCore_bringup (f : CoreState → CoreState) : (s.updCore .lantern f).bringup = s.bringup := rfl
@[simp] theorem updLanternCore_records (f : CoreState → CoreState) : (s.updCore .lantern f).records = s.records := rfl
@[simp] theorem updLanternCore_power (f : CoreState → CoreState) : (s.updCore .lantern f).power = s.power := rfl
@[simp] theorem updLanternCore_draws (f : CoreState → CoreState) : (s.updCore .lantern f).draws = s.draws := rfl

end Sys2Proof.Laws
end

