-- ==== Sys2Proof/Laws/Writes.lean ====
section
/-! SUPPORT. What an accepted register write does. -/

namespace Sys2Proof.Laws

open Sys2Proof Sys2Proof.Machine Sys2Proof.Safety

/-- A field put back into its own word changes nothing. -/
theorem put_get_self (f : Fld) (w : Word) : f.put w (f.get w) = w := by
  refine BitVec.eq_of_getLsbD_eq fun i hi => ?_
  rw [put_getLsbD]
  split
  · rename_i h
    rw [get_testBit]
    have h1 : i - f.lo < f.len := by omega
    have h2 : f.lo + (i - f.lo) = i := by omega
    simp [h1, h2]
  · rfl

/-- Without a coincident update the hardware leaves every field alone. -/
theorem hwField_none (w : Word) (f : FieldCard) : hwField noUpdate w f = w := by
  have hrc : rcPlus noUpdate f (f.fld.get w) = f.fld.get w := by
    have hk : f.fld.get (0 : Word) = 0 := by simp [Fld.get]
    have hb : f.fld.get w < 2 ^ f.fld.len := Nat.mod_lt _ (Nat.two_pow_pos _)
    simp only [rcPlus, noUpdate, hk, Nat.add_zero]
    split
    · rfl
    · omega
  have h0 : coHits noUpdate f = false := by simp [coHits, noUpdate]
  unfold hwField
  cases f.ty <;> simp only [h0, hrc, put_get_self, Bool.false_eq_true, if_false]

theorem hwFields_none (fs : List FieldCard) (w : Word) : fs.foldl (hwField noUpdate) w = w := by
  induction fs with
  | nil => rfl
  | cons f fs ih => rw [List.foldl_cons, hwField_none, ih]

/-- An accepted write: every field takes its value, the flags that a matching sequence clears are cleared, and then what the
register starts. -/
theorem writeFields_accepted {v : View} {off o : Nat} {c : Card} {ix : List Nat} {data : Word} {n : Nat} {s : State}
    (hc : regAt o = some (c, ix)) (ha : accepted v o data s = true)
    (hw : (openFields v c).all (fun f => f.ty = .ro || f.ty = .rz) = false) :
    writeFields v off o c ix data noUpdate n s =
      wrote o (s.rd o) (writtenWord v o data s) n noUpdate s
        (sqClear o ix ((openFields v c).foldl (fun m f => if f.ty = .sq then m ||| f.fld.mask else m) 0) (dataAt o data)
          (writtenWord v o data s) (s.wr o (writtenWord v o data s))) := by
  simp only [accepted, hc, Bool.and_eq_true, Bool.not_eq_true', List.all_eq_true] at ha
  obtain ⟨⟨⟨_, hp⟩, hch⟩, hb⟩ := ha
  have hpriv : notePriv v off c s = s := by
    unfold notePriv
    split
    · rename_i h
      simp [h.1, h.2] at hp
    · rfl
  have hlost : ∀ f : FieldCard, coLost noUpdate f = false := by intro f; simp [coLost, coHits, noUpdate]
  have hshut : (openFields v c).filter (fun f => !(s.chocks o ix (s.rd o)
      ((openFields v c).foldl (swField noUpdate (dataAt o data)) (s.rd o)) f &&
      decide (f.fld.get (swField noUpdate (dataAt o data) (s.rd o) f) ≠ f.fld.get (s.rd o)))) = openFields v c := by
    rw [List.filter_eq_self]
    intro f hf
    simp [hch f hf]
  have hany : (openFields v c).any (fun f => s.chocks o ix (s.rd o)
      ((openFields v c).foldl (swField noUpdate (dataAt o data)) (s.rd o)) f &&
      decide (f.fld.get (swField noUpdate (dataAt o data) (s.rd o) f) ≠ f.fld.get (s.rd o))) = false := by
    rw [List.any_eq_false]
    intro f hf
    simp [hch f hf]
  have hnew : writtenWord v o data s = (openFields v c).foldl
      (fun w f => f.fld.put w (f.fld.get (swField noUpdate (dataAt o data) (s.rd o) f))) (s.rd o) := by
    simp [writtenWord, hc]
  unfold writeFields
  have hl : (openFields v c).any (coLost noUpdate) = false := by
    rw [List.any_eq_false]; intro f _; simp [hlost]
  simp only [hpriv, hwFields_none, hshut, hany, ← hnew, hw, hb, hl, Bool.false_and, Bool.or_self, Bool.false_eq_true,
    if_false]

end Sys2Proof.Laws
end

