-- ==== Sys2Proof/WellFormed.lean ====
section
/-! DEFINITION. Well-formed commands: what the types of the operands leave open and the spec bounds. A command that the spec
allows only in some state is no matter of form: `exec` says what it does there. -/

namespace Sys2Proof

/-- A Coupler frame as the wire can carry it: LEN is 11 bits wide (R297). -/
def Frame.wf (f : Frame) : Bool := decide (f.payload.length < 2 ^ 11)

/-- Findings lie in ECC words of Tandem RAM (R251). -/
def PortF.wf (m : PortF) : Bool := m.finds.all (fun e => decide (e.1 % 8 = 0))

/-- The data lengths of CAN FD (R346). -/
def CanFrame.fdLengths : List Nat := [0, 1, 2, 3, 4, 5, 6, 7, 8, 12, 16, 20, 24, 32, 48, 64]

/-- A CAN frame as the wire can carry it (R338, R346): a length of its format, a base identifier in the upper eleven bits
alone, remote frames, which hold no data, in the classical format alone, a bit-rate switch in FD alone. -/
def CanFrame.wf (f : CanFrame) : Bool :=
  (if f.fdf then CanFrame.fdLengths.contains f.data.length else decide (f.data.length ≤ 8))
    && (f.ide || decide (f.id.toNat % 2 ^ 18 = 0)) && (!f.rtr || (!f.fdf && f.data.isEmpty))
    && (f.fdf || (!f.brs && !f.esi))

/-- Well-formed commands: counter values within PERIOD's 19 bits (the Axle's cards), an ADVERT of 32 counts up to 31 (R302), a word of the memory that
the scrubber reads (R251), a reading for every sensor (R351), frames as their carriers hold them. -/
def Instr.wf : Instr → Bool
  | .commitApply n => decide (n < 2 ^ 19)
  | .periodWrite _ _ _ n => decide (n < 2 ^ 19)
  | .compareWrite _ _ _ _ _ n => decide (n < 2 ^ 19)
  | .advert _ counts => decide (counts.length = 32) && counts.all (fun n => decide (n ≤ 31))
  | .scrubber tandem w _ => decide (w < if tandem then 0x8000 else 0x100000)
  | .sensorConversion readings => decide (readings.length = 16)
  | .guardDataFrame _ bytes _ => decide (bytes.length ≤ 1500)
  | .resyncRequestFrame _ bytes _ => decide (bytes.length ≤ 1500)
  | .resyncAnswerFrame _ bytes _ => decide (bytes.length ≤ 1500)
  | .canFrameReceived _ f _ => f.wf
  | .fwrFrame f m => f.wf && m.wf
  | .evtFrame f m => f.wf && m.wf
  | .msgFrame f m => f.wf && m.wf
  | .launch _ _ m => m.wf
  | .ethFrameSent _ m => m.wf
  | .ethFrameReceived f _ m => decide (f.payload.length < 2 ^ 16) && m.wf
  | .wrFrame f _ => f.wf
  | .rdFrame f => f.wf
  | .ackFrame f => f.wf
  | .rdrFrame f => f.wf
  | .lease f => f.wf
  | .uncpl f => f.wf
  | .addSubAndOrXor .. | .sllSrlSra .. | .sltSltu .. | .minMax .. | .clz .. | .slliSrliSrai .. | .mul ..
  | .mulhMulhu .. | .divDivuRemRemu .. | .qaddWQsubW .. | .qmulW .. | .qaddHQsubH .. | .qmulH .. | .qnegWQabsW ..
  | .qshlW .. | .qrshrW .. | .qnarrow .. | .faddFsubFmul .. | .fmac .. | .fdiv .. | .fsqrt .. | .fminFmax ..
  | .feqFltFle .. | .fabsFneg .. | .fcvtWSFcvtSW .. | .fcvtQSFcvtSQ .. | .macWMsuW .. | .macHMsuH .. | .aclr ..
  | .ald .. | .ard .. | .ashr .. | .mfc .. | .mtc .. | .sysc .. | .brk .. | .eret .. | .jalr .. | .addi .. | .andi ..
  | .ori .. | .xori .. | .slti .. | .sltiu .. | .lui .. | .ldbLdbuLdhLdhu .. | .ldw .. | .ldwRot .. | .ldv ..
  | .stbSth .. | .stw .. | .stwRot .. | .stv .. | .branch .. | .jal .. | .vaddVsub .. | .vqaddVqsub .. | .vqmul ..
  | .vminVmax .. | .vandVorVxor .. | .vqnegVqabs .. | .vsra .. | .vqrshr .. | .vqshl .. | .vmac .. | .vdot ..
  | .vfaddVfsubVfmul .. | .vfmac .. | .vfminVfmax .. | .vfcvtSQVfcvtQS .. | .vsplat .. | .vins .. | .vext ..
  | .vbcast .. | .vcmplt .. | .vsel .. | .vmov .. | .vnarrow .. | .vwiden .. | .clk .. | .clkI .. | .prk ..
  | .iprk .. | .svm .. | .atab .. | .pia .. | .rmp .. | .sat .. | .satC .. | .commit .. | .wev .. | .wevReturn
  | .wevTimeout | .xch .. | .sig .. | .fence .. | .interruptEntry .. | .registerWrite .. | .lixAddrWrite ..
  | .lixDataRead | .lixDataWrite .. | .lixFetchDone | .lixTransferDone | .waybillProgrammingDone | .seatWordWrite
  | .valley .. | .peak .. | .compareEdge .. | .trigger .. | .commitTimeout .. | .runStart .. | .runStop ..
  | .axleStart .. | .prdschArm .. | .pllTLoss | .gakTransition .. | .release .. | .ackTimeout ..
  | .asyncDeadTimeExpiry .. | .delayLineSwap .. | .bootstrapRefresh .. | .bootstrapRefreshEnd .. | .readmit ..
  | .gchRearm .. | .controlFilterOutput .. | .protectionFilterOutput .. | .publication .. | .suspectRun ..
  | .sdfStall .. | .sdfCklost .. | .sdfRearm .. | .sarStart .. | .sarSlotResult .. | .cmpHit ..
  | .comparatorRelease .. | .resFlt .. | .encCount .. | .encZ .. | .observerReport .. | .ttuRearm ..
  | .commutationIndexChange .. | .estimatorStep .. | .hysNoconv .. | .catch_ .. | .autoCatch .. | .catchProbe ..
  | .handback .. | .force .. | .tripPin .. | .tripClear .. | .swtrip .. | .krel .. | .selectionEvaluation | .chopFlt
  | .dischargeStart .. | .dischargeStop .. | .disFlt | .torqueMonitorStep .. | .tmClear .. | .unlock ..
  | .unlockHashDone | .lock .. | .setpw .. | .brkFlt .. | .brakeTestStart .. | .brakeTestPhaseEnd ..
  | .signatureVote .. | .copyPause | .trkRejoin .. | .pathTest | .pathTestDone .. | .pathTestRequest ..
  | .debugAuthentication .. | .debugHalt .. | .debuggerWrite .. | .singleStep | .debugResume | .migrationDone
  | .memoryClearDone .. | .nvmProgram .. | .nvmErase .. | .nvmCommandDone .. | .bootCheckDone | .evtRaise ..
  | .reqStand .. | .reqDrive .. | .reqLantern .. | .lanternReached | .wake .. | .powerUp | .supplyLoss | .pfail
  | .blackBoxRecordDone | .fastDomainOff | .batlow | .bklow | .pmuReg .. | .lanImgdataWrite .. | .lanRun | .lanStop
  | .lanMbox .. | .lanSleep | .lanTimeIncrement | .x32ok .. | .pmuHuv .. | .referenceLoss | .holdoverExpiry
  | .pllCLoss | .pllPLoss | .crystalValid | .pllLock | .porstN | .wrstN | .softwareWarmReset ..
  | .softwareColdReset .. | .resetRelease .. | .drayServiceAvailable | .coreTestDone .. | .memoryTestDone ..
  | .troikaRelease | .portUp .. | .portDown .. | .hen .. | .offer .. | .answer .. | .grant .. | .admissionKeyWrite ..
  | .admissionTimeout | .advertSend .. | .transactionTimeout .. | .reassemblyTimeout .. | .timeSync .. | .sync ..
  | .detach | .leaseHeartbeat .. | .leaseExpiry | .decl .. | .authorityListenExpiry | .resyncRequestSend ..
  | .deadlineExpiry .. | .windowNarrowing .. | .guardTransmit .. | .push .. | .abort .. | .txdone .. | .canPop ..
  | .referenceMessage .. | .busOffRecovery .. | .kick .. | .mdioGo .. | .mdioDone .. | .ethLinkChange ..
  | .throttleStepEnd | .bistSlotStart | .bistSliceDone .. | .illegalInstruction .. | .fetchBusError ..
  | .heldClosingEdge .. | .pllSLock | .pllSLoss | .admissionCheckDone | .seatFreed .. | .tagHoldEnd ..
  | .timeSyncMark .. | .timeSyncEcho .. | .couplerFrameSent .. | .canBusError .. | .lostArbitration ..
  | .brakeTestMotion .. | .dragShoeHoldEnd | .supplyGood .. => true

end Sys2Proof
end

