-- ==== Sys2Proof/Tests/Slice0.lean ====
section
/-! SUPPORT. Tests. Each `witness_` theorem shows a state and operands that meet the hypotheses of the clauses of one statement, and
that the step then answers what the clause says in a few points worked out by hand from the rules; the `wf_` theorems
refuse an ill-formed command for each check. -/

namespace Sys2Proof.Tests

set_option Elab.async false

open Sys2Proof Sys2Proof.Machine Sys2Proof.Safety

/-- The command answers a next state that passes the test. -/
def yields (c : Instr) (s : State) (p : State → Bool) : Bool := match exec c s with
  | .next t => p t
  | _ => false

/-- The fast domain is awake, in Stand, every register at its reset value. -/
def up : State := {}
/-- The Troika runs. -/
def run : State := { troika := { released := true, vbaseWritten := true } }
/-- The Lantern core runs. -/
def lant : State := up.setLanW 0 (LAN_CTL_RUN.put 0 1)

/-- A state with a general register set. -/
def withG (h : Hart) (r : GReg) (v : Word) (s : State) : State := s.updCore h (fun c => c.setG r v)
/-- A state with a control register set. -/
def withC (h : Hart) (n : Nat) (v : Word) (s : State) : State := s.updCore h (fun c => c.setC n v)
/-- A general register of a core. -/
def reg (h : Hart) (s : State) (r : GReg) : Word := (s.core h).gr r
/-- The command answers a next state of the Troika, which may issue, that passes the test. -/
def runs (c : Instr) (s : State) (p : State → Bool) : Bool :=
  s.issues .troika && s.troika.imprecise.isEmpty && yields c s p
/-- Hypotheses and outcomes that hold together. -/
@[irreducible] def checks (l : List Bool) : Bool := l.all id

/-! ### Well-formed commands -/

theorem wf_refuses_counter : (Instr.commitApply (2 ^ 19)).wf = false := by decide
theorem wf_refuses_period_counter : (Instr.periodWrite .coachman 0 8000 (2 ^ 19)).wf = false := by decide
theorem wf_refuses_compare_counter : (Instr.compareWrite .coachman 0 3 false 0 (2 ^ 19)).wf = false := by decide
theorem wf_refuses_short_advert : (Instr.advert 0 [1, 2, 3]).wf = false := by decide
theorem wf_refuses_far_advert : (Instr.advert 0 (List.replicate 32 32)).wf = false := by decide
theorem wf_refuses_scrub_word : (Instr.scrubber true 0x8000 .corrected).wf = false ∧
    (Instr.scrubber false 0x8000 .corrected).wf = true := by decide
theorem wf_refuses_missing_sensor : (Instr.sensorConversion (List.replicate 15 none)).wf = false := by decide
theorem wf_refuses_fd_length : (Instr.canFrameReceived 0
    { ide := false, fdf := true, id := 0, data := List.replicate 9 0 } 0).wf = false := by decide
theorem wf_refuses_classical_length : (Instr.canFrameReceived 0
    { ide := false, fdf := false, id := 0, data := List.replicate 9 0 } 0).wf = false := by decide
theorem wf_refuses_base_identifier : (Instr.canFrameReceived 0
    { ide := false, fdf := false, id := 1, data := [] } 0).wf = false := by decide
theorem wf_refuses_remote_fd : (Instr.canFrameReceived 0
    { ide := false, fdf := true, rtr := true, id := 0, data := [] } 0).wf = false := by decide
theorem wf_refuses_classical_switch : (Instr.canFrameReceived 0
    { ide := false, fdf := false, brs := true, id := 0, data := [] } 0).wf = false := by decide
theorem wf_refuses_guard_length : (Instr.guardDataFrame 0 (List.replicate 1501 0) 0).wf = false := by decide +kernel
theorem wf_refuses_request_length : (Instr.resyncRequestFrame 0 (List.replicate 1501 0) 0).wf = false := by decide +kernel
theorem wf_refuses_answer_length : (Instr.resyncAnswerFrame 0 (List.replicate 1501 0) 0).wf = false := by decide +kernel
theorem wf_refuses_frame_length : (Instr.wrFrame
    { cls := 1, dst := 1, src := 2, epoch := 0, kind := 1, tag := 1, payload := List.replicate 2048 0 } {}).wf = false := by
  decide +kernel
theorem wf_refuses_finding_address : (Instr.fwrFrame { cls := 2, dst := 1, src := 2, epoch := 0, kind := 7, tag := 1 }
    { finds := [(0x10800001, .corrected)] }).wf = false := by decide
theorem wf_refuses_ethernet_length : (Instr.ethFrameReceived
    { dst := 0, src := 0, etherType := 0, payload := List.replicate 65536 0 } 0 {}).wf = false := by decide +kernel

/-! ### The queue -/

theorem run_ready : run.issues .troika = true ∧ run.troika.imprecise = [] := by decide +kernel
theorem lant_ready : lant.issues .lantern = true ∧ lant.troika.imprecise = [] := by decide +kernel
theorem witness_StepRunsFront : let s : State := { up with pending := [Instr.lixFetchDone] }
    s.pending = .lixFetchDone :: [] ∧ step s = exec .lixFetchDone { s with pending := [] } := by
  exact ⟨rfl, rfl⟩
theorem witness_EmptyQueueIdles : up.pending = [] ∧ step up = .next up := ⟨rfl, rfl⟩

/-! ### The scalar instructions -/

/-- g1 = 0x80000000, g2 = 33, g3 = 0. -/
def nums (h : Hart) (s : State) : State := withG h 1 0x80000000 (withG h 2 33 s)
theorem witness_IntegerAlu : checks (let s := nums .troika run
    [runs (.addSubAndOrXor .troika .add 4 1 1) s (fun t => reg .troika t 4 = 0),
    runs (.addSubAndOrXor .troika .sub 0 2 1) s (fun t => reg .troika t 0 = 0 && (t.core .troika).pc = 4),
    runs (.sllSrlSra .troika .srl 4 1 2) s (fun t => reg .troika t 4 = 0x40000000),
    runs (.sllSrlSra .troika .sra 4 1 2) s (fun t => reg .troika t 4 = 0xC0000000),
    runs (.slliSrliSrai .troika .sll 4 2 31) s (fun t => reg .troika t 4 = 0x80000000),
    runs (.sltSltu .troika false 4 1 2) s (fun t => reg .troika t 4 = 1),
    runs (.sltSltu .troika true 4 1 2) s (fun t => reg .troika t 4 = 0),
    runs (.minMax .troika false 4 1 2) s (fun t => reg .troika t 4 = 0x80000000),
    runs (.clz .troika 4 2) s (fun t => reg .troika t 4 = 26),
    runs (.clz .troika 4 3) s (fun t => reg .troika t 4 = 32),
    lowRegs .lantern [15, 1, 2] && yields (.addSubAndOrXor .lantern .add 15 1 2) (nums .lantern lant) (fun t => reg .lantern t 15 = 0x80000021)]) = true := by decide +kernel

theorem witness_MultiplyDivide : checks (let s := withG .troika 4 0xFFFFFFFF (nums .troika run)
    [runs (.mul .troika 5 4 2) s (fun t => reg .troika t 5 = 0xFFFFFFDF),
    runs (.mulhMulhu .troika true 5 4 4) s (fun t => reg .troika t 5 = 0xFFFFFFFE),
    runs (.mulhMulhu .troika false 5 4 2) s (fun t => reg .troika t 5 = 0xFFFFFFFF),
    runs (.divDivuRemRemu .troika .div 5 1 4) s (fun t => reg .troika t 5 = 0x80000000 && (t.core .troika).cx cFSTAT = 0),
    runs (.divDivuRemRemu .troika .rem 5 1 4) s (fun t => reg .troika t 5 = 0),
    runs (.divDivuRemRemu .troika .rem 5 2 3) s (fun t => reg .troika t 5 = 33 && (t.core .troika).cx cFSTAT = 64)]) = true := by decide +kernel

theorem witness_Immediate : checks (let s := nums .troika run
    [runs (.addi .troika 4 2 0xFFFF) s (fun t => reg .troika t 4 = 32),
    runs (.andi .troika 4 1 0xFFFF) s (fun t => reg .troika t 4 = 0),
    runs (.ori .troika 4 2 0x8000) s (fun t => reg .troika t 4 = 0x8021),
    runs (.xori .troika 4 2 0xFFFF) s (fun t => reg .troika t 4 = 0xFFDE),
    runs (.slti .troika 4 1 0xFFFF) s (fun t => reg .troika t 4 = 1),
    runs (.sltiu .troika 4 2 0xFFFF) s (fun t => reg .troika t 4 = 1),
    runs (.lui .troika 4 0xFFFF) s (fun t => reg .troika t 4 = 0xFFFF0000)]) = true := by decide +kernel

theorem witness_ControlFlow : checks (let s := withG .troika 5 0x100 (nums .troika run)
    [runs (.branch .troika .lt 1 2 0xFFFF) s (fun t => (t.core .troika).pc = 0xFFFFFFFC),
    runs (.branch .troika .ltu 1 2 0xFFFF) s (fun t => (t.core .troika).pc = 4),
    runs (.jal .troika 6 0x8000) s (fun t => (t.core .troika).pc = 0xFFFE0000 && reg .troika t 6 = 4),
    ((s.core .troika).gr 5).toNat % 4 = 0,
    runs (.jalr .troika 5 5) s (fun t => (t.core .troika).pc = 0x100 && reg .troika t 5 = 4)]) = true := by decide +kernel

theorem witness_FixedPoint : checks (let s := withG .troika 4 0x7FFFFFFF (nums .troika run)
    [runs (.qaddWQsubW .troika false 5 4 4) s (fun t => reg .troika t 5 = 0x7FFFFFFF && (t.core .troika).cx cFSTAT = 32),
    runs (.qaddHQsubH .troika true 5 3 4) s (fun t => reg .troika t 5 = 1),
    runs (.qnegWQabsW .troika true 5 1) s (fun t => reg .troika t 5 = 0x7FFFFFFF),
    runs (.qnarrow .troika 5 4) s (fun t => reg .troika t 5 = 0x7FFF),
    runs (.qmulW .troika 5 1 1) s (fun t => reg .troika t 5 = 0x7FFFFFFF),
    runs (.qmulH .troika 5 4 4) s (fun t => reg .troika t 5 = 0),
    runs (.qshlW .troika 5 2 2) s (fun t => reg .troika t 5 = 66),
    runs (.qrshrW .troika 5 2 2) s (fun t => reg .troika t 5 = 17)]) = true := by decide +kernel

theorem witness_Accumulator : checks (let s := withG .troika 4 0x7FFFFFFF (nums .troika run)
    [runs (.macWMsuW .troika true 1 1 1) s (fun t => (t.core .troika).ar 1 = BitVec.ofInt 72 (-(2 ^ 62))),
    runs (.macHMsuH .troika false 1 4 4) s (fun t => (t.core .troika).ar 1 = BitVec.ofInt 72 (2 ^ 32)),
    runs (.aclr .troika 1) s (fun t => (t.core .troika).ar 1 = 0),
    runs (.ald .troika 1 2) s (fun t => (t.core .troika).ar 1 = BitVec.ofInt 72 (33 * 2 ^ 31)),
    runs (.ard .troika 5 1) s (fun t => reg .troika t 5 = 0),
    runs (.ashr .troika 1 63) s (fun t => (t.core .troika).ar 1 = 0)]) = true := by decide +kernel

theorem witness_Binary32 : checks (let s := withG .troika 1 0x3FC00000 (withG .troika 2 0x40000000 (withG .troika 3 0x7FC00001 run))
    [runs (.faddFsubFmul .troika .add 4 1 2) s (fun t => reg .troika t 4 = 0x40600000),
    runs (.faddFsubFmul .troika .mul 4 1 3) s (fun t => reg .troika t 4 = 0x7FC00000),
    runs (.fmac .troika 4 1 2) s (fun t => reg .troika t 4 = 0x40400000),
    runs (.fdiv .troika 4 1 2) s (fun t => reg .troika t 4 = 0x3F400000),
    runs (.fsqrt .troika 4 2) s (fun t => reg .troika t 4 = 0x3FB504F3),
    runs (.fminFmax .troika true 4 1 3) s (fun t => reg .troika t 4 = 0x3FC00000),
    runs (.feqFltFle .troika .lt 4 1 2) s (fun t => reg .troika t 4 = 1),
    runs (.fabsFneg .troika true 4 1) s (fun t => reg .troika t 4 = 0xBFC00000),
    runs (.fcvtWSFcvtSW .troika false 4 1) s (fun t => reg .troika t 4 = 1),
    runs (.fcvtQSFcvtSQ .troika false 4 1) s (fun t => reg .troika t 4 = 0x7FFFFFFF)]) = true := by decide +kernel

theorem witness_ControlRegister : checks (let s := withG .troika 1 0xFFFFFFFF run
    [hasCreg .troika 6 && lowRegs .troika [1] && !(s.core .troika).passenger,
    runs (.mtc .troika 6 1) s (fun t => (t.core .troika).cx 6 = 0x7F),
    runs (.mtc .troika 5 1) s (fun t => (t.core .troika).cx 5 = 0xFFFFF000),
    runs (.mfc .troika 2 6) (withC .troika 6 0x21 s) (fun t => reg .troika t 2 = 0x21),
    hasCreg .lantern 0 && yields (.mtc .lantern 0 1) (withG .lantern 1 0xFFFFFFFF lant) (fun t => (t.core .lantern).cx 0 = 0xF2)]) = true := by decide +kernel

theorem witness_ExceptionEntry : checks (let s := withC .troika cVBASE 0x1000 (withG .troika 1 2 run)
    let enters := fun (t : State) => (t.core .troika).pc = 0x1000
    [!MSTAT_EXC.bit ((s.core .troika).cx cMSTAT) && s.troika.vbaseWritten && !s.brkHalts,
    runs (.sysc .troika) s enters,
    runs (.brk .troika) s enters,
    runs (.illegalInstruction .troika 0) s enters,
    decodeMolvek .troika {} 0 = none && runs (.fetchBusError .troika false) s enters,
    runs (.fetchBusError .troika true) s (fun t => enters t && t.flag MEM_STAT MEM_STAT_UE && t.evPending (evMem 1)),
    decodeMolvek .troika {} 0x2061FFFB ≠ none && yields (.illegalInstruction .troika 0x2061FFFB) s (fun t => (t.core .troika).pc = 0),
    reg .troika s 1 = 2,
    runs (.jalr .troika 3 1) s enters,
    yields (.sysc .lantern) (withC .lantern cVBASE 0x1000 lant) (fun t => (t.core .lantern).pc = 0x1000 && (t.core .lantern).cx cECAUSE = 0x0B)]) = true := by decide +kernel

theorem witness_DoubleFault : checks (let s := withC .troika cMSTAT 0x100 run
    let l := withC .lantern cMSTAT 0x100 lant
    [MSTAT_EXC.bit ((s.core .troika).cx cMSTAT),
    runs (.sysc .troika) s (fun t => t.flag TRK_STAT TRK_STAT_DFLT && t.flag TRK_STAT TRK_STAT_STOP && t.evPending TRK_DFLT && t.evPending TRK_FATAL),
    l.issues .lantern && yields (.sysc .lantern) l (fun t => !LAN_CTL_RUN.bit (t.lanW 0) && t.evPending LAN_DFLT && !t.issues .lantern)]) = true := by decide +kernel

theorem witness_Return : checks (let s := withC .troika cEPC 0x203 (withC .troika cESTAT 0x2 run)
    [!(s.core .troika).passenger,
    runs (.eret .troika) s (fun t => (t.core .troika).pc = 0x200 && (t.core .troika).cx cMSTAT = 2),
    yields (.eret .lantern) (withC .lantern cEPC 0x404 lant) (fun t => (t.core .lantern).pc = 0x404)]) = true := by decide +kernel

theorem witness_Interrupt : checks (let s := withC .troika cMSTAT 2 ((run.wr (EVT_CFG 5) (EVT_CFG_PRIO.put (EVT_CFG_INT.put 0 1) 15)).raise 5)
    let l := withC .lantern cMSTAT 2 (lant.updLan (fun x => { x with mbox := true }))
    [s.trkIssues && s.intRequest = some (15, 5) && MSTAT_IE.bit (s.troika.core.cx cMSTAT) && !s.flag TRK_STAT TRK_STAT_HALT,
    MSTAT_IPL.get (s.troika.core.cx cMSTAT) < 15,
    yields (.interruptEntry .troika) s (fun t => t.troika.core.pc = 0x2E0 && t.troika.core.cx cECAUSE = 0x8000000F),
    l.lanIssues && l.lanternIrq && MSTAT_IE.bit (l.lan.core.cx cMSTAT),
    yields (.interruptEntry .lantern) l (fun t => t.lan.core.pc = 0x120 && t.lan.core.cx cESTAT = 2)]) = true := by decide +kernel

theorem witness_PassengerTraps : checks (let s := withG .troika 1 0x4FFFFFFF (withG .troika 2 0x40000000 (withC .troika cVBASE 0x1000 (withC .troika cMSTAT 1 run)))
    let traps := fun (t : State) => (t.core .troika).pc = 0x1000
    [(s.core .troika).passenger && s.troika.vbaseWritten && !MSTAT_EXC.bit ((s.core .troika).cx cMSTAT),
    runs (.eret .troika) s traps,
    runs (.sig 1 false) s traps,
    runs (.commit 1 3 false 0 0 .agree) s traps,
    runs (.mfc .troika 1 5) s traps,
    runs (.mtc .troika 11 1) s traps,
    runs (.ldw .troika 3 1 0 {}) s traps,
    runs (.stw .troika 3 2 0 {}) s traps]) = true := by decide +kernel


/-! ### Words of the spec (R55 to R59, R72 to R76) -/

theorem test_specWordsDecode : checks (let d := fun (w : Word) => decodeMolvek .troika {} w
    [d 0x2061FFFB = some (.addi .troika 3 1 0xFFFB) && d 0x00E74003 = some (.addSubAndOrXor .troika .and 7 7 8) && d 0x00C63804 = some (.addSubAndOrXor .troika .or 6 6 7),
    d 0x50C48000 = some (.ldwRot .troika 6 4 0 {}) && d 0x50E48004 = some (.ldwRot .troika 7 4 4 {}),
    d 0x3900FFFF = some (.lui .troika 8 0xFFFF) && d 0x24C6FFFF = some (.andi .troika 6 6 0xFFFF),
    d 0xE8A06101 = some (.commit 5 2 true 1 0 .agree) && d 0xE6246301 = some (.atab 17 4 6 3 0 []) && d 0xCC002342 = some (.vins false 0 1 13),
    d 0 = none && d 0xFFFFFFFF = none && decodeMolvek .lantern {} 0xE8A06101 = none && decodeMolvek .lantern {} 0x2061FFFB = some (.addi .lantern 3 1 0xFFFB)]) = true := by decide +kernel


/-! ### Loads, stores and vectors -/

/-- g1 = an SRAM address, g2 = data, g3 = v, g4 = an odd base; SRAM holds 0x80, 0x91, 0xA2, 0xB3. -/
def data (h : Hart) (s : State) (base : Word) : State :=
  let t := withG h 1 base (withG h 2 0x11223344 (withC h cVBASE 0x1000 s))
  match h with
  | .troika => [(0, 0x80), (1, 0x91), (2, 0xA2), (3, 0xB3)].foldl (fun u e => u.setByte (base.toNat + e.1) e.2) t
  | .lantern => t
theorem witness_Loads : checks (let s := data .troika run 0x10000000
    [ea .troika s 1 3 = 0x10000003 && isRam (region 0x10000003) && !s.poisoned 0x10000003 && s.troika.storeBuf.isEmpty,
    runs (.ldbLdbuLdhLdhu .troika .b 3 1 3 {}) s (fun t => reg .troika t 3 = 0xFFFFFFB3),
    runs (.ldbLdbuLdhLdhu .troika .bu 3 1 3 {}) s (fun t => reg .troika t 3 = 0xB3),
    runs (.ldbLdbuLdhLdhu .troika .h 3 1 2 {}) s (fun t => reg .troika t 3 = 0xFFFFB3A2),
    runs (.ldbLdbuLdhLdhu .troika .hu 3 1 2 {}) s (fun t => reg .troika t 3 = 0xB3A2),
    runs (.ldw .troika 3 1 0 {}) s (fun t => reg .troika t 3 = 0xB3A29180),
    runs (.ldwRot .troika 3 1 1 {}) s (fun t => reg .troika t 3 = 0x80B3A291),
    runs (.ldv .troika 3 1 0 {}) s (fun t => (t.core .troika).vr 3 = 0xB3A29180),
    region 0x00FFFFFC = .nvm && !s.nvmBlocked 0x00FFFFFC && runs (.ldw .troika 3 1 0 {}) (withG .troika 1 0x00FFFFFC run) (fun t => reg .troika t 3 = 0xFFFFFFFF),
    yields (.ldw .lantern 3 1 0 {}) (withG .lantern 1 0xFFFC lant) (fun t => reg .lantern t 3 = 0)]) = true := by decide +kernel

/-- Eight stores wait, the oldest at the foot of main SRAM. -/
def filled (s : State) : State :=
  { s with troika := { s.troika with storeBuf := (List.range 8).map (fun k => .store (0x10000000 + 8 * k) [9] .clean false) } }
theorem witness_Stores : checks (let s := data .troika run 0x107FFFF0
    let l := data .lantern lant 0xFFFC
    [isRam (region 0x107FFFFF) && ea .troika s 1 15 = 0x107FFFFF,
    runs (.stbSth .troika false 2 1 15 {}) s (fun t => t.coreByte 0x107FFFFF = 0x44 && t.coreByte 0x107FFFFE = 0 && t.byte 0x107FFFFF = 0),
    runs (.stbSth .troika true 2 1 14 {}) s (fun t => t.coreByte 0x107FFFFF = 0x33 && t.coreByte 0x107FFFFE = 0x44),
    runs (.stw .troika 2 1 12 {}) s (fun t => littleEndian .troika t 0x107FFFFC 4 = 0x11223344),
    runs (.stwRot .troika 2 1 13 {}) s (fun t => littleEndian .troika t 0x107FFFFC 4 = 0x22334411),
    runs (.stv .troika 2 1 0 {}) s (fun t => t.troika.storeBuf.length = 1),
    8 ≤ (filled s).troika.storeBuf.length && runs (.stw .troika 2 1 12 {}) (filled s) (fun t => t.byte 0x10000000 = 9 && t.troika.storeBuf.length = 8 && littleEndian .troika t 0x107FFFFC 4 = 0x11223344),
    yields (.stw .lantern 2 1 0 {}) l (fun t => byteAt .lantern t 0xFFFF = 0x11)]) = true := by decide +kernel

theorem witness_AccessFaults : checks (let s := data .troika run 0x10000001
    let at7 := fun (a : Word) => withG .troika 1 a (withC .troika cVBASE 0x1000 run)
    let traps := fun (t : State) => (t.core .troika).pc = 0x1000
    [runs (.ldw .troika 3 1 0 {}) s traps && runs (.stw .troika 3 1 0 {}) s traps,
    runs (.ldbLdbuLdhLdhu .troika .hu 3 1 0 {}) s traps && runs (.stbSth .troika true 3 1 0 {}) s traps,
    runs (.ldv .troika 3 1 7 {}) s traps && runs (.stv .troika 3 1 7 {}) s traps,
    region 0x50000000 = .view .passenger 0 && runs (.ldbLdbuLdhLdhu .troika .bu 3 1 0 {}) (at7 0x50000000) traps,
    region 0x61000000 = .window 1 0 && runs (.stbSth .troika true 3 1 0 {}) (at7 0x61000000) traps,
    runs (.ldv .troika 3 1 0 {}) (at7 0x401FFFF0) traps && runs (.stv .troika 3 1 0 {}) (at7 0x401FFFF0) traps,
    region 0x01000000 = .unmapped && runs (.ldw .troika 3 1 0 {}) (at7 0x01000000) traps && runs (.stw .troika 3 1 0 {}) (at7 0x01000000) traps,
    region 0x00FFFFFC = .nvm && runs (.stw .troika 3 1 0 {}) (at7 0x00FFFFFC) traps]) = true := by decide +kernel

theorem witness_NvmBusy : checks (let s := withG .troika 1 0x800000 (withC .troika cVBASE 0x1000 { run with nvm := some ⟨true, 0x800000, []⟩ })
    [s.nvmBlocked 0x800000 && runs (.ldw .troika 3 1 0 {}) s (fun t => (t.core .troika).pc = 0x1000)]) = true := by decide +kernel

theorem witness_Poisoned : checks (let s := (withG .troika 1 0x10000000 (withC .troika cVBASE 0x1000 run)).setPoison 0x10000004 true
    [s.poisoned 0x10000000,
    runs (.ldw .troika 3 1 0 {}) s (fun t => (t.core .troika).pc = 0x1000 && t.flag MEM_STAT MEM_STAT_UE && t.evPending (evMem 1)),
    runs (.fence 1) { s with troika := { s.troika with storeBuf := [.store 0x10000000 [1, 2, 3, 4] .clean false] } } (fun t => t.poisoned 0x10000000 && t.byte 0x10000000 = 0 && t.evPending (evMem 1) && t.troika.storeBuf.isEmpty)]) = true := by decide +kernel

theorem witness_Window : checks (let s := (withG .troika 1 0x80000000 (withG .troika 2 7 run)).wr CPL_ADDR (CPL_ADDR_SEAT.put 0 2) |>.wr (routeOf 32) (CPL_ROUTE_VALID.put 0 1)
    [region 0x80000000 = .window 32 0 && s.routed 32 && s.seat = 2 && s.freeTag = some 1,
    runs (.ldw .troika 3 1 0 {}) s (fun t => t.troika.wait = .load 1 3 0 && t.cpl.ownQ.length = 1),
    runs (.stw .troika 2 1 0 {}) s (fun t => t.tagOf 1 = .store 32 0x80000000)]) = true := by decide +kernel

def withV (r : VReg) (v : VWord) (s : State) : State := s.updCore .troika (fun c => c.setV r v)
theorem witness_VectorFixed : checks (let s := withV 1 0x7FFF8000 (withV 2 0x00018000 (withG .troika 1 2 run))
    let low := fun (t : State) => ((t.core .troika).vr 3).extractLsb' 0 32
    [active s false 1 = 2 && active s true 1 = 2,
    runs (.vaddVsub false false 3 1 2 1) s (fun t => low t = 0x80000000),
    runs (.vqaddVqsub false false 3 1 2 1) s (fun t => low t = 0x7FFF8000 && (t.core .troika).cx cFSTAT = 32),
    runs (.vqmul false 3 1 2 1) s (fun t => low t = 0x00017FFF),
    runs (.vminVmax true false 3 1 2 1) s (fun t => low t = 0x7FFF8000),
    runs (.vqnegVqabs false false 3 1 1) s (fun t => low t = 0x80017FFF),
    runs (.vsra false 3 1 2 1) s (fun t => low t = 0x3FFF8000),
    runs (.vqrshr false 3 1 2 1) s (fun t => low t = 0x40008000),
    runs (.vqshl false 3 1 2 1) s (fun t => low t = 0x7FFF8000),
    runs (.vcmplt false 3 2 1 1) s (fun t => low t = 0xFFFF0000),
    runs (.vsel false 3 1 2 1) s (fun t => low t = 0x00018000),
    runs (.vmov true 3 1 1) s (fun t => (t.core .troika).vr 3 = 0x7FFF8000),
    runs (.vmac false 3 1 2 1) s (fun t => low t = 0x00017FFF),
    runs (.vdot false 0 1 2 1) s (fun t => (t.core .troika).ar 0 = BitVec.ofInt 72 ((0x7FFF + 2 ^ 30) * 2 ^ 32))]) = true := by decide +kernel

theorem witness_VectorMoves : checks (let s := withV 1 0x7FFF8000 (withV 2 0x00018000 (withG .troika 1 2 (withG .troika 2 0x12345678 run)))
    [runs (.vandVorVxor .xor false 3 1 2 1) s (fun t => (t.core .troika).vr 3 = 0x7FFE0000),
    runs (.vsplat false 3 2) s (fun t => (t.core .troika).vr 3 = 0x56785678567856785678567856785678),
    runs (.vins false 3 7 2) s (fun t => (t.core .troika).vr 3 = 0x56780000000000000000000000000000),
    runs (.vext false 4 1 0) s (fun t => reg .troika t 4 = 0xFFFF8000),
    runs (.vbcast true 3 1 0 1) s (fun t => (t.core .troika).vr 3 = 0x7FFF80007FFF8000),
    runs (.vnarrow 3 1 2 1) s (fun t => (t.core .troika).vr 3 = 0x7FFF),
    runs (.vwiden 3 1 1) s (fun t => (t.core .troika).vr 3 = 0x7FFF000080000000)]) = true := by decide +kernel

theorem witness_VectorFloat : checks (let s := withV 1 0x3FC00000 (withV 2 0x40000000 (withG .troika 1 1 run))
    [runs (.vfaddVfsubVfmul .add 3 1 2 1) s (fun t => (t.core .troika).vr 3 = 0x40600000),
    runs (.vfmac 3 1 2 1) s (fun t => (t.core .troika).vr 3 = 0x40400000),
    runs (.vfminVfmax true 3 1 2 1) s (fun t => (t.core .troika).vr 3 = 0x40000000),
    runs (.vfcvtSQVfcvtQS true 3 2 1) s (fun t => (t.core .troika).vr 3 = 0x3F000000)]) = true := by decide +kernel


/-! ### Motor-control instructions -/

theorem witness_Transforms : checks (let s := withV 1 0x40002000 (withG .troika 1 0 run)
    [runs (.clk 0 1 0) s (fun t => (t.core .troika).vr 1 = 0x40002000),
    runs (.clk 3 1 0) s (fun t => (t.core .troika).pc = 4),
    runs (.clkI 12 6 3) s (fun t => (t.core .troika).pc = 4),
    s.issues .troika && s.troika.imprecise.isEmpty,
    runs (.iprk 2 0 true 2) s (fun t => (t.core .troika).gr 2 = 0),
    runs (.svm 1 0 2) s (fun t => reg .troika t 1 = 1 && (t.core .troika).vr 2 = 0x7FFF00000000400040004000),
    runs (.svm 1 3 1) s (fun t => reg .troika t 1 = 1)]) = true := by decide +kernel

theorem witness_TableAndLimits : checks (let s := withV 1 0x40002000 (withG .troika 1 0xFFFFF000 (withG .troika 2 0x3000 run))
    [!s.poisoned (waveAddr 3 (atabAngle s 3 0xFFFFF000 11)),
    runs (.atab 1 2 12 6 3 []) s (fun t => (t.core .troika).vr 6 = 0),
    runs (.atab 1 2 1 6 3 []) ((withC .troika cVBASE 0x1000 s).setPoison (waveAddr 3 (atabAngle s 3 0xFFFFF000 0)) true) (fun t => (t.core .troika).cx cECAUSE = 0x0A && (t.core .troika).pc = 0x1000),
    runs (.clk 2 1 0) (withC .troika cVBASE 0x1000 s) (fun t => (t.core .troika).cx cECAUSE = 1 && (t.core .troika).pc = 0x1000),
    runs (.clkI 9 7 0) s (fun t => (t.core .troika).cx cECAUSE = 1) && runs (.atab 1 2 13 6 3 []) s (fun t => (t.core .troika).cx cECAUSE = 1),
    runs (.sat 1 2 9 1) s (fun t => (t.core .troika).cx cECAUSE = 1),
    runs (.satC 3 2 0 true 2) (withV 2 0x40006000 s) (fun t => reg .troika t 3 = 1 && (t.core .troika).vr 2 = 0x3000),
    runs (.sat 1 2 2 1) s (fun t => (t.core .troika).vr 1 = 0x30002000),
    runs (.satC 3 2 1 false 1) s (fun t => (t.core .troika).vr 1 = 0x40002000 && (t.core .troika).gr 3 = 0)]) = true := by decide +kernel

/-- A PIA block with KP = 0.5, KI = 0, integrator 0 and limits ±0.25, and a ramp block up 5, down 3. -/
def blocks : State :=
  let s := withG .troika 1 0x20017FF0 (withG .troika 2 0x7FFF0000 (withG .troika 3 0x10000010 run))
  let s := s.setWord32 0x20017FF0 0x40000000
  let s := s.setWord32 0x20017FFC 0x2000E000
  let s := s.setWord32 0x10000014 5
  s.setWord32 0x10000018 3
theorem witness_Blocks : checks (let s := blocks
    [isRam (region 0x20017FF0) && !s.poisoned 0x20017FFF,
    runs (.pia 1 2 0 {}) s (fun t => reg .troika t 2 = 0x20000000 && littleEndian .troika t 0x20017FF8 4 = 0),
    runs (.rmp 3 2 {}) s (fun t => reg .troika t 2 = 5 && littleEndian .troika t 0x10000010 4 = 5),
    runs (.rmp 3 4 {}) (s.setWord32 0x10000010 2) (fun t => reg .troika t 4 = 0 && littleEndian .troika t 0x10000010 4 = 0)]) = true := by decide +kernel


/-! ### Ordering instructions -/

theorem witness_Commit : checks (let s := withV 7 0xFFFF8000 (withG .troika 1 20 run)
    let q := fun (f : Bool) => { s with troika := { s.troika with storeBuf := [.commit ⟨3, 3, f, [0x4000, 0x8000]⟩] } }
    [!(s.core .troika).passenger && s.troika.storeBuf.length < 8,
    runs (.commit 1 3 false 7 3 .agree) s (fun t => t.troika.storeBuf = [.commit ⟨3, 3, false, [0xFFFF8000, 0, 0, 0]⟩]),
    runs (.commit 1 1 true 7 0 .agree) s (fun t => t.troika.storeBuf = [.commit ⟨0, 1, true, [0x8000, 0xFFFF, 0, 0, 0, 0, 0, 0]⟩]),
    runs (.commit 0 3 false 7 3 .agree) s (fun t => t.troika.storeBuf = []),
    yields (.commitApply 5) (q false) (fun t => t.rd (AXL_CMPU 3 1) = 0x8000 && t.rd (AXL_CMPD 3 0) = 0x4000 && t.troika.storeBuf = []),
    yields (.commitApply 5) (q true) (fun t => t.rd (AXL_CMPU 3 1) = 0 && (t.ax 3).wd = 0)]) = true := by decide +kernel

theorem witness_WaitForEvent : checks (let s := { withG .troika 1 0x8001 (withG .troika 2 7 run) with wakePend := [(3, 15), (4, 2)] }
    let idle := { s with wakePend := [(4, 2)] }
    let waits := { idle with troika := { s.troika with wait := .wev 1 2 } }
    let back := { s with troika := { s.troika with wait := .wev 1 2 } }
    [s.wakeLines &&& 0x8001 = 0x8000 && runs (.wev 1 2) s (fun t => reg .troika t 1 = 0x8000 && t.wakePend = [(4, 2)]),
    runs (.wev 1 3) idle (fun t => reg .troika t 1 = 0),
    runs (.wev 3 2) s (fun t => t.troika.wait = .none),
    idle.wakeLines &&& 0x8001 = 0 && runs (.wev 1 2) idle (fun t => t.troika.wait = .wev 1 2),
    waits.trkResumes && yields .wevTimeout waits (fun t => reg .troika t 1 = 0 && t.troika.core.pc = 4),
    back.trkResumes && yields .wevReturn back (fun t => reg .troika t 1 = 0x8000 && t.troika.core.pc = 4)]) = true := by decide +kernel

theorem witness_ExchangeSignatureFence : checks (let s := withG .troika 1 5 run
    let rem := { s with cpl := { s.cpl with tags := [(1, .store 32 0x80000000)] } }
    [runs (.xch 1 2 (3, 3, 3) false) s (fun t => reg .troika t 2 = 6),
    s.outCores = 0 && runs (.xch 1 2 (7, 3, 3) false) s (fun t => reg .troika t 2 = 6 && t.evPending TRK_MISMATCH),
    runs (.xch 1 1 (7, 3, 5) false) s (fun t => reg .troika t 1 = 0 && t.flag TRK_STAT TRK_STAT_UNLOC && t.flag TRK_STAT TRK_STAT_STOP),
    s.troika.scrub = none && runs (.sig 1 true) s (fun t => t.troika.core.pc = 4),
    !s.remoteStores && runs (.fence 15) s (fun t => t.troika.core.pc = 4),
    rem.remoteStores && runs (.fence 8) rem (fun t => t.troika.wait = .fenceC)]) = true := by decide +kernel


/-! ### Registers -/

theorem witness_RegisterWriteTypes : checks (let s := up
    let o := THM_ABS
    [s.awake && foldOff 0x1DFF44 = some THM_ABS && 29 ≤ o / 0x10000,
    accepted .coachman o 0x01900500 s && yields (.registerWrite .coachman (BitVec.ofNat 21 o) 0x01900500 noUpdate) s (fun t => t.rd o = writtenWord .coachman o 0x01900500 s),
    yields (.registerWrite .passenger (BitVec.ofNat 21 (GCH_TRIM 255)) 0x00007F7F { rhMask := 0x7F, rhVal := 0x12 }) s (fun t => t.rd (GCH_TRIM 255) = 0x7F12 && t.evPending WR_LOST),
    yields (.registerWrite .coachman (BitVec.ofNat 21 EVT_CNT) 0xFFFF0001 { rcInc := 0x00010001 }) s (fun t => t.rd EVT_CNT = 0xFFFF0002)]) = true := by decide +kernel

theorem witness_SequenceClears : checks (let s := up.wr (EVT_PEND 9) 0x05000003
    [yields (.registerWrite .passenger (BitVec.ofNat 21 (EVT_PEND 9)) 0x05000001 noUpdate) s (fun t => t.rd (EVT_PEND 9) = 0x05000002),
    yields (.registerWrite .passenger (BitVec.ofNat 21 (EVT_PEND 9)) 0x04000001 noUpdate) s (fun t => t.rd (EVT_PEND 9) = 0x05000003),
    yields (.registerWrite .coachman (BitVec.ofNat 21 MEM_STAT) 0x01100000 noUpdate) (up.wr MEM_STAT 0x01300000) (fun t => t.rd MEM_STAT = 0x01200000)]) = true := by decide +kernel

theorem witness_RefusedWrites : checks (let s := up
    let chock := up.wr SYS_CHOCK 0x40
    [s.awake && !s.flag SYS_REFUSED SYS_REFUSED_REF && s.rd SYS_CHOCK = 0,
    yields (.registerWrite .passenger (BitVec.ofNat 21 TRK_CFG) 0 noUpdate) s (fun t => t.evPending PRIV_VIOL && t.rd TRK_CFG = s.rd TRK_CFG),
    yields (.registerWrite .coachman (BitVec.ofNat 21 CPL_TXTO) 0x10000 noUpdate) s (fun t => t.evPending BAD_VALUE && t.fld SYS_REFUSED SYS_REFUSED_CAUSE = 0),
    yields (.registerWrite .passenger (BitVec.ofNat 21 (AXL_TRG 3 7)) 1 noUpdate) chock (fun t => t.evPending CHOCK_VIOL && t.rd (AXL_TRG 3 7) = 0),
    yields (.registerWrite .coachman (BitVec.ofNat 21 SYS_CHOCK) 0x7F01 noUpdate) chock (fun t => t.rd SYS_CHOCK = 0x7F41)]) = true := by decide +kernel

theorem witness_LixPair : checks (let s := { up with lix := .fetch }
    let ainc := fun (w : Nat) => up.wr LIX_ADDR (LIX_ADDR_AINC.put (LIX_ADDR_WADDR.put 0 w) 1)
    [yields (.lixAddrWrite 0xFFFFFFFF) up (fun t => t.rd LIX_ADDR = 0x1FFFF && t.lix = .fetch),
    yields .lixFetchDone (s.wr LIX_ADDR 0x27FF) (fun t => t.lix = .idle && t.rd LIX_DATA = s.lanW 0x27FF),
    yields .lixFetchDone ((s.wr LIX_ADDR 0x4A).wr (EVT_PEND 10) 0) (fun t => t.rd LIX_DATA = 0),
    yields .lixFetchDone (s.wr LIX_ADDR 0x3100) (fun t => t.rd LIX_DATA = 0 && t.flag LIX_STAT LIX_STAT_UNMAP),
    yields .lixDataRead (ainc 0xFFFF) (fun t => t.fld LIX_ADDR LIX_ADDR_WADDR = 0 && t.lix = .fetch),
    yields (.lixDataWrite 5) (ainc 0x1200) (fun t => t.lix = .transfer 0x1200 5 LIX_DATA true false),
    yields .lixDataRead s (fun t => t.flag LIX_STAT LIX_STAT_EARLY),
    yields (.lixDataWrite 5) s (fun t => t.flag LIX_STAT LIX_STAT_EARLY && t.lix = .fetch)]) = true := by decide +kernel

theorem witness_Waybill : checks (let s := fun (w : BitVec 16) => { up with lix := .transfer w 5 LIX_DATA false false }
    let busy := fun (u : State) => { u with lan := { u.lan with prog := [⟨0x1200, 0, 5⟩] } }
    [!(s 0).lan.entering,
    yields .lixTransferDone (s 0x13FF) (fun t => t.wb 0x3FF = 5 && t.lanW 0x17FF = 5 && t.lan.prog.length = 1),
    yields .lixTransferDone (busy (s 0x1200)) (fun t => t.flag LIX_STAT LIX_STAT_WBREJ && t.wb 0x200 = 0),
    yields .lixTransferDone (s 0x103F) (fun t => t.flag LIX_STAT LIX_STAT_DENY),
    yields .waybillProgrammingDone (busy up) (fun t => t.lan.prog.isEmpty),
    yields .seatWordWrite { up with cpl := { up.cpl with seatWrite := some 9 } } (fun t => t.wb (0x200 + t.fld CPL_CFG CPL_CFG_SEATW % 0x200) = 9)]) = true := by decide +kernel


/-! ### The Lantern domain, supplies and clocks -/

def lanWord (w : Nat) (v : Word) (s : State) : State := s.setLanW w v
theorem witness_LanternDomain : checks (let s := lanWord 6 0x3FFF up
    let asleep := lanWord 2 0 lant
    [s.awake && !s.lan.entering && s.lanF 6 IMGADDR_WORD = 0x3FFF,
    yields (.lanImgdataWrite 0x11223344) s (fun t => byteAt .lantern t 0xFFFF = 0x11 && byteAt .lantern t 0xFFFB = 0 && t.lanF 6 IMGADDR_WORD = 0),
    LAN_CTL_RUN.bit (lant.lanW 0) && yields (.lanImgdataWrite 1) lant (fun t => t.flag LIX_STAT LIX_STAT_DENY),
    yields .lanRun s (fun t => LAN_CTL_RUN.bit (t.lanW 0) && (t.core .lantern).pc = 0x400),
    yields .lanStop lant (fun t => !LAN_CTL_RUN.bit (t.lanW 0)),
    yields .lanStop { lant with lan := { lant.lan with entering := true } } (fun t => LAN_CTL_RUN.bit (t.lanW 0) && t.flag LIX_STAT LIX_STAT_DENY),
    yields .lanRun { s with lan := { s.lan with entering := true } } (fun t => !LAN_CTL_RUN.bit (t.lanW 0) && t.flag LIX_STAT LIX_STAT_DENY),
    yields (.lanMbox (.lixSet 7)) s (fun t => t.lanW 0x200 = 7 && t.lan.mbox),
    lant.lanIssues && yields (.lanMbox (.coreClear 7)) lant (fun t => t.lanW 0x200 = 7 && !t.lan.mbox),
    yields (.lanMbox (.coreRaise 7)) lant (fun t => t.lanW 0x20F = 7 && t.evPending LAN_MBOX),
    yields .lanSleep asleep (fun t => LAN_CTL_SLEEP.bit (t.lanW 0) && !t.lanIssues),
    yields .lanTimeIncrement (lanWord 0 (LAN_CTL_AEN.put 0 1) (lanWord 3 0xFFFFFFFF up)) (fun t => t.lanW 3 = 0 && LAN_WSTAT_ALARM.bit (t.lanW 2)),
    yields (.x32ok true) (lanWord 5 (LAN_CLK_X32EN.put 0 1) up) (fun t => LAN_CLK_X32OK.bit (t.lanW 5)),
    yields (.x32ok false) up (fun t => !LAN_CLK_X32OK.bit (t.lanW 5))]) = true := by decide +kernel

theorem witness_PowerStates : checks (let full := (up.setFlag SYS_STATE SYS_STATE_SERVICE true).setFlag PMU_SUP PMU_SUP_VBATOK true
    let sealed := full.setFlag SAFE_SEALSTAT SAFE_SEALSTAT_RECOK true
    let drv := { up with power := .drive }
    [drv.awake && drv.power = .drive,
    sealed.full && sealed.driveWhy = none && yields (.reqDrive .coachman) sealed (fun t => t.power = .drive && t.fld SYS_STATE SYS_STATE_STATE = 3),
    full.driveWhy = some 1 && yields (.reqDrive .coachman) full (fun t => t.power = .stand && t.fld SYS_STATE SYS_STATE_WHY = 1),
    !up.full && yields (.reqDrive .coachman) up (fun t => t.power = .stand && t.fld SYS_STATE SYS_STATE_WHY = 8 && t.evPending BAD_VALUE),
    (List.range 4).all (fun a => !up.running a) && !up.flag PROT_DIS PROT_DIS_START && yields (.reqLantern .coachman) (lanWord 0 (LAN_CTL_AEN.put 0 1) up) (fun t => t.lan.entering && !t.brake.outA),
    yields .lanternReached { up with lan := { up.lan with entering := true } } (fun t => t.power = .lantern && !t.troika.released && !t.gdo 255),
    yields .lanternReached { up with lan := { up.lan with entering := true, wakeHeld := true } } (fun t => t.power = .stand && t.bringup.active = some .cold),
    (lanWord 1 0x80000000 up).lanW 1 = 0x80000000 && yields (.wake (.pin 3)) { lanWord 1 0x80000000 up with power := .lantern } (fun t => (LAN_WSTAT_PIN 3).bit (t.lanW 2) && t.bringup.active = some .cold),
    yields .powerUp (lanWord 5 (LAN_CLK_XSRC.put 0 1) { up with power := .off }) (fun t => t.power = .stand && t.bringup.active = some .cold && t.flag SYS_CLK SYS_CLK_XSRC),
    yields .supplyLoss (lanWord 0x1200 5 (lanWord 3 9 up)) (fun t => t.power = .off && t.lanW 0x1200 = 5 && t.lanW 3 = lanDefault 3)]) = true := by decide +kernel

theorem witness_SupplyEvents : checks (let vbk := up.setFlag PMU_SUP PMU_SUP_VBKOK true
    let vbat := vbk.setFlag PMU_SUP PMU_SUP_VBATOK true
    let rec1 : Capture := ⟨1, 2, 3, List.replicate 13 7⟩
    let bb := { up with lan := { up.lan with bb := [rec1] } }
    [up.awake,
    yields .batlow vbk (fun t => t.flag PMU_SUP PMU_SUP_BATLOW && !t.flag PMU_SUP PMU_SUP_VBATOK),
    yields .batlow up (fun t => !t.flag PMU_SUP PMU_SUP_BATLOW),
    yields .bklow vbat (fun t => t.flag PMU_SUP PMU_SUP_BKLOW && !t.flag PMU_SUP PMU_SUP_VBKOK),
    yields (.supplyGood .vbat) up (fun t => t.flag PMU_SUP PMU_SUP_VBATOK && !(t.lg 31).causes.contains .pfail),
    yields (.pmuReg .v18 false) up (fun t => (t.fld PMU_REGSTAT PMU_REGSTAT_LIVE).testBit (railBit .v18) && t.evPending (evMem 11)),
    ({ up with power := .drive } : State).awake,
    yields (.pmuReg .vcore true) { up with bringup := { up.bringup with active := some .warm, causes := 0 } } (fun t => t.bringup.active = some .cold && t.bringup.causes = SYS_RSTCAUSE_REGRST.mask),
    yields (.supplyGood (.rail .v18)) (up.wr PMU_REGSTAT 0xF) (fun t => t.fld PMU_REGSTAT PMU_REGSTAT_LIVE = 15 - 2 ^ railBit .v18),
    yields (.supplyGood .vbk) up (fun t => t.flag PMU_SUP PMU_SUP_VBKOK),
    yields (.pmuReg .vcore true) up (fun t => t.bringup.active = some .cold),
    (up.wr PMU_HCFG (PMU_HCFG_LEN.put 0 8)).harnessOn 35 && yields (.pmuHuv 35 msTaps) (up.wr PMU_HCFG (PMU_HCFG_LEN.put 0 8)) (fun t => t.flag (PMU_HSV 35) PMU_HSV_UV && (t.rd (PMU_HUV 1)).getLsbD 11),
    yields (.pmuHuv 35 (msTaps - 1)) (up.wr PMU_HCFG (PMU_HCFG_LEN.put 0 8)) (fun t => !t.flag (PMU_HSV 35) PMU_HSV_UV),
    yields .fastDomainOff up (fun t => t.power = .lantern && !t.brake.outB),
    yields .fastDomainOff { up with lan := { up.lan with wakeHeld := true } } (fun t => t.power = .stand && t.bringup.active = some .cold),
    yields .blackBoxRecordDone bb (fun t => t.lan.bb.isEmpty && t.lanF 0x3000 bbCount = 1 && t.lanW 0x3010 = 3 && t.lanW 0x301E = 7),
    yields .blackBoxRecordDone (lanWord 0x3001 14 (lanWord 0x3000 0xFFFF0000 bb)) (fun t => t.lanF 0x3000 bbCount = 0 && t.lanF 0x3001 bbIndex = 0)]) = true := by decide +kernel

theorem witness_Clocks : checks (let s := up.wr SYS_CLK 0xFFFFFFFF
    let axle := (s.wr (AXL_CTRL 3) (AXL_CTRL_RUN.put 0 1)).updAx 3 (fun x => { x with onDray := false })
    [yields .crystalValid up (fun t => t.flag SYS_CLK SYS_CLK_XOK && !t.flag SYS_CLK SYS_CLK_HOLDOVER),
    s.flag SYS_CLK SYS_CLK_XOK && yields .referenceLoss s (fun t => !t.flag SYS_CLK SYS_CLK_XOK && t.flag SYS_CLK SYS_CLK_HOLDOVER),
    yields .pllLock s (fun t => t.flag SYS_CLK SYS_CLK_TLOCK && t.flag SYS_CLK SYS_CLK_PLOCK),
    s.flag SYS_CLK SYS_CLK_SEN && yields .pllSLock s (fun t => t.flag SYS_CLK SYS_CLK_SLOCK),
    s.flag SYS_CLK SYS_CLK_SLOCK && yields .pllSLoss s (fun t => !t.portUp 3),
    axle.flag (AXL_CTRL 3) AXL_CTRL_RUN && !(axle.ax 3).onDray && yields .pllTLoss axle (fun t => !t.flag (AXL_CTRL 3) AXL_CTRL_RUN && t.flag (AXL_STAT 3) AXL_STAT_CLKLOSS && t.evPending (evSup 3 14)),
    yields .pllCLoss s (fun t => t.bringup.active = some .warm && t.bringup.causes = SYS_RSTCAUSE_CLKRST.mask),
    s.flag SYS_CLK SYS_CLK_HOLDOVER && yields .holdoverExpiry s (fun t => t.bringup.active = some .warm)]) = true := by decide +kernel


/-! ### Reset and bring-up -/

theorem witness_ResetKinds : checks (let s := ((up.wr SYS_SCRATCH 5).wr TRK_CFG 0).wr (PROT_SELT 0) 0x12345678
    [s.awake && s.runningLegs.isEmpty && mwf regDefault s.regs,
    yields .wrstN s (fun t => t.bringup.active = some .warm && t.rd SYS_SCRATCH = 0 && t.rd (PROT_SELT 0) = 0x12345678),
    yields .porstN s (fun t => t.bringup.active = some .cold && t.rd (PROT_SELT 0) = regDefault (PROT_SELT 0) && t.rd TRK_CFG = regDefault TRK_CFG),
    yields (.softwareWarmReset .coachman) s (fun t => t.bringup.causes = SYS_RSTCAUSE_SWWARM.mask),
    yields (.softwareColdReset .coachman) s (fun t => t.bringup.causes = SYS_RSTCAUSE_SWCOLD.mask)]) = true := by decide +kernel

theorem witness_BringUp : checks (let s := { up with bringup := { up.bringup with active := some .cold, causes := SYS_RSTCAUSE_PORST.mask } }
    let testing := up.setFlag SYS_CLK SYS_CLK_CLOCK true
    let done := { up.wr SYS_CLK 0xFFFFFFFF with bringup := { up.bringup with drayAvail := true, coreTested := true, booted := true, memTested := true, entry := 0x100 } }
    [s.bringup.active = some .cold && s.power = .stand,
    yields (.memoryClearDone .table) { up.setByte 0x20077FFF 9 with bringup := { up.bringup with uncleared := [.table] } } (fun t => t.bringup.uncleared.isEmpty && t.byte 0x20077FFF = 0),
    yields .drayServiceAvailable up (fun t => t.bringup.drayAvail && !t.running 3),
    yields (.memoryClearDone .lantern) { up with lan := { up.lan with ram := [(5, 9)] }, bringup := { up.bringup with uncleared := [.lantern] } } (fun t => t.bringup.uncleared.isEmpty && byteAt .lantern t 5 = 0),
    yields (.coreTestDone 5 1) testing (fun t => t.bringup.refused && t.rd TRK_INJ = testing.rd TRK_INJ),
    testing.testing && yields (.coreTestDone 4 0) testing (fun t => !t.bringup.refused && (t.fld TRK_STAT TRK_STAT_PERM).testBit 2),
    yields (.coreTestDone 0 1) testing (fun t => t.bringup.refused && t.flag TRK_STAT TRK_STAT_INJF),
    yields (.memoryTestDone 0 false false) (testing.setByte 0x10000000 9) (fun t => t.bringup.memTested && t.byte 0x10000000 = 0),
    yields .bootCheckDone testing (fun t => t.bringup.refused && t.flag MEM_NVSTAT MEM_NVSTAT_BOOTF),
    done.releasable288 && yields .troikaRelease done (fun t => t.troika.released && t.full && (t.core .troika).pc = 0x100)]) = true := by decide +kernel


/-! ### Axle timebases and gate channels -/

/-- Fields of registers set. -/
def put (l : List (Nat × Fld × Nat)) (s : State) : State := l.foldl (fun t e => t.setFld e.1 e.2.1 e.2.2) s
/-- Axle 3 counts on PLL-T, up and down, with PERIOD 8000. -/
def axle3 : State := (put [(AXL_STAT 3, AXL_STAT_RUNNING, 1), (AXL_CTRL 3, AXL_CTRL_MODE, 2), (AXL_PRD 3, AXL_PRD_PERIOD, 8000)] up).updAx 3
  (fun x => { x with onDray := false })
theorem witness_TurningPoints : checks (let s := axle3
    let sch := put [(AXL_CARNUM 3, AXL_CARNUM_NUM, 0xFFFFFFFF), (AXL_PRDSCH 3, AXL_PRDSCH_ARM, 1), (AXL_PRDSCH 3, AXL_PRDSCH_PERIOD, 16000), (AXL_CNT 3, AXL_CNT_DIR, 1)] s
    let down := put [(AXL_CNT 3, AXL_CNT_DIR, 1)] s
    let stop := down.updAx 3 (fun x => { x with stopPending := true })
    [s.counts 3 && down.dirDown 3 && yields (.valley 3) down (fun t => t.rd (AXL_CARNUM 3) = 1 && t.rd (AXL_CNT 3) = 0 && t.evPending (evAxle 3 0) && t.running 3),
    yields (.valley 3) sch (fun t => t.rd (AXL_CARNUM 3) = 0 && t.period 3 = 16000 && !t.flag (AXL_PRDSCH 3) AXL_PRDSCH_ARM),
    yields (.valley 3) stop (fun t => !t.running 3),
    s.axlMode 3 ≠ 0 && !s.dirDown 3 && (s.ax 3).latePeak = none && yields (.peak 3) s (fun t => t.fld (AXL_CNT 3) AXL_CNT_VALUE = 8000 && t.dirDown 3 && t.evPending (evAxle 3 1))]) = true := by decide +kernel

theorem witness_EdgesAndTriggers : checks (let s := put [(AXL_CMAP 3 3, ⟨24, 8⟩, 0xBF), (AXL_CMPU 3 15, ⟨0, 32⟩, 255999), (AXL_TRG 3 7, AXL_TRG_DIRSEL, 1), (AXL_TRG 3 7, AXL_TRG_VALUE, 7999), (LEG_CFG 31, LEG_CFG_AXLE, 3)] axle3
    let w := { lanWord 0x1061 1 s with records := { s.records with sense := true } }
    let o := w.updAx 3 (fun x => { x with winOpen := true })
    [s.governs 3 15 = some 63 && s.nextEdge 3 15 = some (false, 255999),
    yields (.compareEdge 3 15 9) s (fun u => (u.ps 63).raw && u.hasFired 3 15 false && u.now = 9),
    s.triggerDue 3 7 && yields (.trigger 3 (.trg 7)) s (fun u => u.evPending (evAxle 3 9) && (u.ax 3).trgFired = [7]),
    w.records.sense && 0 < w.whalf && !w.axwGoverns 3,
    yields (.trigger 3 .drayOpen) w (fun u => (u.ax 3).winOpen),
    yields (.trigger 3 .drayClose) o (fun u => !(u.ax 3).winOpen && (u.ax 3).pubDue)]) = true := by decide +kernel

theorem witness_StartStop : checks (let s := put [(AXL_STAT 3, AXL_STAT_RUNNING, 0)] axle3
    let ready := fun (src : Nat) => put [(AXL_SYNC 3, AXL_SYNC_SRC, src)] (s.updAx 3 (fun x => { x with startPending := true }))
    let wd := { put [(AXL_WDOG 3, AXL_WDOG_COUNT, 2)] (axle3.updAx 3 (fun x => { x with wd := 2 })) with power := .drive }.setFlag SYS_STATE SYS_STATE_SERVICE true
    [accepted .coachman (AXL_CTRL 3) (withField s (AXL_CTRL 3) AXL_CTRL_RUN 1) s,
    yields (.runStart .coachman 3) s (fun t => t.flag (AXL_CTRL 3) AXL_CTRL_RUN && !t.running 3 && (t.ax 3).startPending),
    accepted .coachman (AXL_CTRL 3) (withField axle3 (AXL_CTRL 3) AXL_CTRL_RUN 0) axle3,
    yields (.runStop .coachman 3) axle3 (fun t => t.running 3),
    (ready 0).startReady 3 && yields (.axleStart 3) (ready 0) (fun t => t.running 3 && t.rd (AXL_CARNUM 3) = 0),
    (ready 5).startReady 3 && yields (.axleStart 3) (ready 5) (fun t => t.running 3 && t.rd (AXL_CARNUM 3) = 1),
    wd.wdCounts 3 && wd.fld (AXL_WDOG 3) AXL_WDOG_COUNT ≤ (wd.ax 3).wd,
    yields (.commitTimeout 3) wd (fun t => t.evPending (evAxle 3 12) && t.hysMode 3 = 2)]) = true := by decide +kernel

theorem witness_TimebaseWrites : checks (let s := put [(AXL_CMAP 3 3, ⟨24, 8⟩, 0xBF), (LEG_CFG 31, LEG_CFG_AXLE, 3)] axle3
    let late := put [(AXL_PRDAT 3, AXL_PRDAT_CARNUM, 5), (AXL_CARNUM 3, AXL_CARNUM_NUM, 5)] s
    let sch := put [(AXL_PRDAT 3, AXL_PRDAT_CARNUM, 6), (AXL_PRDSCH 3, AXL_PRDSCH_ARM, 1), (AXL_PRDSCH 3, AXL_PRDSCH_PERIOD, 16000), (AXL_CNT 3, AXL_CNT_DIR, 1)] late
    [s.awake && s.running 3 && !s.hasFired 3 15 false,
    yields (.compareWrite .coachman 3 15 false 32 2) s (fun t => t.rd (AXL_CMPU 3 15) = 32 && t.hasFired 3 15 false && t.evPending (evAxle 3 13)),
    yields (.compareWrite .coachman 3 15 true 32 2) s (fun t => t.rd (AXL_CMPD 3 15) = 32 && !t.hasFired 3 15 true),
    accepted .coachman (AXL_PRD 3) 7000 s && yields (.periodWrite .coachman 3 7000 7500) s (fun t => t.period 3 = 7000 && t.flag (AXL_STAT 3) AXL_STAT_PRDLATE),
    sch.schedMeets 3 0 = some 16000 && yields (.periodWrite .coachman 3 9000 0) sch (fun t => t.period 3 = 16000 && t.evPending WR_LOST),
    accepted .coachman (AXL_PRDSCH 3) (BitVec.ofNat 32 (2 ^ 31 + 9000)) late,
    yields (.prdschArm .coachman 3 9000) late (fun t => !t.flag (AXL_PRDSCH 3) AXL_PRDSCH_ARM && t.evPending (evAxle 3 14)),
    yields (.prdschArm .coachman 3 9000) (put [(AXL_PRDAT 3, AXL_PRDAT_CARNUM, 6)] late) (fun t => t.flag (AXL_PRDSCH 3) AXL_PRDSCH_ARM)]) = true := by decide +kernel

/-- Channel 255 is mapped to position 63 of leg 31. -/
def chan255 : State := put [(GCH_CFG 255, GCH_CFG_EN, 1), (GCH_CFG 255, GCH_CFG_POS, 63), (LEG_TIM 31, LEG_TIM_ACKTO, 4000), (LEG_CFG 31, LEG_CFG_AXLE, 3)] axle3
theorem witness_Acknowledgements : checks (let s := chan255.updCh 255 (fun x => { x with edge := some (true, 0) })
    let on := (put [(GCH_STAT 255, GCH_STAT_GAK, 1), (POS_STAT 63, POS_STAT_STATE, pON)] chan255).updPs 63 (fun x => { x with shownOn := true })
    let stuck := on.updCh 255 (fun x => { x with edge := some (false, 0) })
    let ex := put [(GCH_CFG 255, GCH_CFG_EXCLEN, 1), (POS_CFG 63, POS_CFG_MINLIVE, 0)] s
    [yields (.gakTransition 0 true 5) up (fun u => (u.ch 0).pin && u.rd (GCH_STAT 0) = 0),
    !s.legOnDray 31 && yields (.gakTransition 255 true 128000) s (fun u => u.gak 255 && u.fld (GCH_DON 255) GCH_DON_DELAY = 128000),
    yields (.gakTransition 255 false 5) on (fun u => u.flag (GCH_STAT 255) GCH_STAT_ACKDROP && u.evPending (evGate 3)),
    yields (.ackTimeout 255 true) s (fun u => u.flag (GCH_STAT 255) GCH_STAT_ACKMISS && u.evPending (evGate 1)),
    ex.fld (POS_CFG 63) POS_CFG_MINLIVE ≤ ex.liveWithout 63 255 && yields (.ackTimeout 255 true) ex (fun u => u.flag (GCH_STAT 255) GCH_STAT_EXCLD),
    (ex.updCh 255 (fun x => { x with edge := none, watch := true })).chanEn 255,
    yields (.ackTimeout 255 false) stuck (fun u => u.flag (GCH_STAT 255) GCH_STAT_STUCK && u.evPending (evGate 2))]) = true := by decide +kernel

theorem witness_InterlockedRelease : checks (let s := put [(POS_STAT 63, POS_STAT_STATE, pARM), (POS_STAT 62, POS_STAT_STATE, pOFF)] (chan255.updPs 62 (fun x => { x with fallAt := 5, shownOffAt := 37 }))
    let asc := put [(LEG_STAT 31, LEG_STAT_SAFE, cASCL), (SYS_STATE, SYS_STATE_SERVICE, 1)] chan255
    let opp := put [(GCH_CFG 254, GCH_CFG_EN, 1), (GCH_CFG 254, GCH_CFG_POS, 62), (GCH_STAT 254, GCH_STAT_GAK, 1)] asc
    let held := s.updPs 63 (fun x => { x with edges := [(5, true)] })
    [s.posState 63 = pARM && s.posState (partner 63) = pOFF && yields (.release 63 37) s (fun u => u.posState 63 = pON && u.gdo 255 && !u.gdo 254),
    yields (.release 63 36) s (fun u => u.posState 63 = pARM && !u.gdo 255),
    asc.legSafe 31 = cASCL && asc.showsOff 62 && asc.used 63 && asc.ascAllowed 31 && yields (.asyncDeadTimeExpiry 31) asc (fun u => (u.ps 63).asyncOn && u.gdo 255),
    !opp.showsOff 62 && yields (.asyncDeadTimeExpiry 31) opp (fun u => (u.ps 62).sdtDone && !u.gdo 255),
    yields (.heldClosingEdge 63 5) held (fun u => (u.ps 63).edges.isEmpty && (u.ps 63).cmd3)]) = true := by decide +kernel

theorem witness_GateService : checks (let s := put [(LEG_CFG 31, LEG_CFG_BOOT, 1), (LEG_STAT 31, LEG_STAT_SAFE, 0)] (chan255.setFlag SYS_STATE SYS_STATE_SERVICE true)
    let ex := put [(GCH_STAT 255, GCH_STAT_EXCLD, 1)] s
    let fails := s.updCh 255 (fun x => { x with calFails := 2 })
    let r := (put [(POS_STAT 63, POS_STAT_STATE, pON), (GCH_STAT 255, GCH_STAT_GAK, 1)] s).updLg 31 (fun x => { x with refreshing := true })
    [s.full && yields (.delayLineSwap 255 true) fails (fun t => !t.flag (GCH_STAT 255) GCH_STAT_COARSE && (t.ch 255).calFails = 0),
    yields (.delayLineSwap 255 false) fails (fun t => t.flag (GCH_STAT 255) GCH_STAT_COARSE && t.evPending (evGate 8)),
    (s.updCh 255 (fun x => { x with edge := some (true, 5) })).inFlight 255,
    s.legSafe 31 = 0 && yields (.bootstrapRefresh 31) s (fun t => (t.lg 31).refreshing && t.evPending (evGate 12)),
    r.showsOn 63 && yields (.bootstrapRefreshEnd 31) r (fun t => !(t.lg 31).refreshing),
    accepted .coachman (GCH_CTRL 255) (withField ex (GCH_CTRL 255) GCH_CTRL_READMIT 1) ex && yields (.readmit .coachman 255) ex (fun t => t.flag (GCH_CTRL 255) GCH_CTRL_READMIT),
    accepted .coachman (GCH_CTRL 255) (withField s (GCH_CTRL 255) GCH_CTRL_REARM 1) s && yields (.gchRearm .coachman 255) s (fun t => !t.flag (GCH_DONF 255) GCH_DONF_VALID)]) = true := by decide +kernel


/-! ### Sensing, reports and commutation -/

/-- Filter channel 95 is enabled and controls leg 23 of Axle 3. -/
def sdf95 : State := put [(SDF_SDC 0, SDF_SDC_EN, 1), (SDF_CFG 95, SDF_CFG_EN, 1), (SDF_CFG 95, SDF_CFG_DEC, 32), (SDF_CFG 95, SDF_CFG_PDEC, 8), (SDF_LMAP 23, SDF_LMAP_EN, 1), (SDF_LMAP 23, SDF_LMAP_CCH, 95), (SDF_LMAP 23, SDF_LMAP_SET, 15),
  (LEG_CFG 23, LEG_CFG_AXLE, 3)] up
theorem witness_FilterOutputs : checks (let s := sdf95
    let other := put [(SDF_CFG 0, SDF_CFG_EN, 1), (SDF_CFG 0, SDF_CFG_DEC, 32), (SDF_CFG 0, SDF_CFG_PDEC, 8)] s
    let lows := fun (n : Nat) => List.replicate n false
    let drop := (s.updSd 95 (fun x => { x with dropC := 3, dropP := 3 }))
    let open_ := (put [(POS_STAT 47, POS_STAT_STATE, pON), (GCH_CFG 0, GCH_CFG_EN, 1), (GCH_CFG 0, GCH_CFG_POS, 47), (GCH_STAT 0, GCH_STAT_GAK, 1)]
      ((s.updAx 3 (fun x => { x with winOpen := true })).updLg 23 (fun x => { x with stretch := true })))
    let prot := put [(SDF_PCTL 0, SDF_PCTL_PEN, 1), (SDF_PCTL 0, SDF_PCTL_QCNT, 1), (SDF_PCMP 0, SDF_PCMP_HI, 0x7FFE)] (other.updSd 0 (fun x => { x with prot := { x.prot with z2 := -28 } }))
    [s.sampled 95 && drop.controlTakes 95 = 32 && yields (.controlFilterOutput 95 (lows 32)) drop (fun t => (t.sd 95).dropC = 2),
    other.legsOfCch 0 = [] && other.sampled 0 && yields (.controlFilterOutput 0 (lows 32)) other (fun t => t.sfld (SDF_CRES 0) SDF_CRES_VALUE = -32768 && t.fld (SDF_CRES 0) SDF_CRES_CTAG = 1),
    open_.legsOfCch 95 = [23] && open_.stretchOk 23 && open_.controlTakes 95 = 32 && yields (.controlFilterOutput 95 (lows 32)) open_ (fun t => (t.lg 23).sum = -32768 && (t.lg 23).nout = 1),
    yields (.protectionFilterOutput 95 (lows 8)) drop (fun t => (t.sd 95).dropP = 2),
    !(prot.sd 0).hiHolds && yields (.protectionFilterOutput 0 (List.replicate 8 true)) prot (fun t => t.pres 0 = 0x7FFF && t.flag (SDF_STAT 0) SDF_STAT_PHI && t.evPending (evSense 9)),
    yields (.suspectRun 95) open_ (fun t => !(t.lg 23).stretch && (t.lg 23).suspect)]) = true := by decide +kernel

theorem witness_StallAndRearm : checks (let s := put [(SDF_SDC 0, SDF_SDC_EN, 1)] sdf95
    let ret := put [(SDF_CFG 0, SDF_CFG_EN, 1), (SDF_CFG 0, SDF_CFG_CLKRET, 1), (SDF_CFG 95, SDF_CFG_CKRET, 1), (SDF_CFG 95, SDF_CFG_CKIN, 0)] s
    let live := s.updSd 95 (fun x => { x with recent := true, clk := true })
    [s.sampled 95 && yields (.sdfStall 95) s (fun t => t.flag (SDF_STAT 95) SDF_STAT_STALL && t.evPending (evSense 12) && t.flag (SDF_LSTAT 23) SDF_LSTAT_FAULT),
    ret.sampled 95 && yields (.sdfCklost 0) ret (fun t => t.flag (SDF_STAT 0) SDF_STAT_CKLOST && t.flag (SDF_STAT 95) SDF_STAT_STALL && !(t.sd 95).clk),
    accepted .coachman (SDF_PCTL 95) (withField s (SDF_PCTL 95) SDF_PCTL_REARM 1) live && yields (.sdfRearm .coachman 95 true true) s (fun t => (t.sd 95).dropC = 3 && !t.flag (SDF_PCTL 95) SDF_PCTL_REARM),
    s.rd SYS_CHOCK = 0 && yields (.sdfRearm .coachman 95 false true) s (fun t => t.evPending BAD_VALUE)]) = true := by decide +kernel

theorem witness_Publication : checks (let s := sdf95.updAx 3 (fun x => { x with pubDue := true })
    let m := s.updLg 23 (fun x => { x with won := { closed := true, sum := 7, nout := 2 } })
    let pair := put [(SDF_LMAP 22, SDF_LMAP_EN, 1), (SDF_LMAP 22, SDF_LMAP_SET, 1), (SDF_LMAP 23, SDF_LMAP_SET, 1), (LEG_CFG 22, LEG_CFG_AXLE, 3)] m
    [s.sensedLegs 3 = [23] && !s.measured 23 && s.setMates 3 23 = [],
    m.measured 23 && yields (.publication 3) m (fun t => t.sfld (SDF_LRES 23) SDF_LRES_I = 4 && t.fld (SDF_LRES 23) SDF_LRES_NOUT = 2),
    !pair.measured 22 && pair.setMates 3 22 = [23] && yields (.publication 3) pair (fun t => t.fld (SDF_LRES 22) SDF_LRES_SRC = 1)]) = true := by decide +kernel

theorem witness_ConvertersAndComparators : checks (let s := put [(SAR_CTL 7, SAR_CTL_EN, 1), (SAR_CTL 7, SAR_CTL_LEN, 1), (SAR_SEQ 7, SAR_SEQ_SLOT, 7)] up
    let busy := put [(SAR_STAT 7, SAR_STAT_BUSY, 1)] (s.updSr 7 (fun x => { x with seq := 256 }))
    let two := put [(SAR_CTL 7, SAR_CTL_LEN, 2)] busy
    let cmp := put [(CMP_CFG 15, CMP_CFG_EN, 1), (CMP_CFG 15, CMP_CFG_POL, 1), (CMP_CFG 15, CMP_CFG_THR, 100), (PROT_SRC 79, PROT_SRC_ACT, 1)] up
    let act := put [(CMP_LVL, CMP_LVL_LVL, 0x8001)] cmp
    [accepted .passenger (SAR_CTL 7) (withField s (SAR_CTL 7) SAR_CTL_START 1) s && yields (.sarStart .passenger 7) s (fun t => t.flag (SAR_STAT 7) SAR_STAT_BUSY && (t.sr 7).seq = (s.sr 7).seq + 1),
    yields (.sarStart .passenger 7) busy (fun t => t.flag (SAR_STAT 7) SAR_STAT_OVR && t.evPending (evSense 8)),
    yields (.sarSlotResult 7 0xFFFF) busy (fun t => t.fld (SAR_RES 63) SAR_RES_VALUE = 0xFFFF && t.fld (SAR_RES 63) SAR_RES_TAG = 0 && t.evPending (evSense 7) && !t.flag (SAR_STAT 7) SAR_STAT_BUSY),
    yields (.sarSlotResult 7 0xFFFF) two (fun t => (t.sr 7).slot = 1 && t.flag (SAR_STAT 7) SAR_STAT_BUSY),
    cmp.srcAct 79 ≠ 0 && cmp.flag (CMP_CFG 15) CMP_CFG_EN && cmp.flag (CMP_CFG 15) CMP_CFG_POL && !cmp.cmpActive 15,
    3000000 * (cmp.fld (CMP_CFG 15) CMP_CFG_THR : Int) + 10240000 < 1024 * 400000 && (0 : Int) ≤ 3000000 * cmp.fld (CMP_CFG 15) CMP_CFG_THR - 10240000,
    act.cmpActive 15 && act.flag (CMP_CFG 15) CMP_CFG_POL && 0 < 3000000 * (act.fld (CMP_CFG 15) CMP_CFG_THR : Int) - 1024 * hystMargin (act.fld (CMP_CFG 15) CMP_CFG_HYST) - 10240000]) = true := by decide +kernel

theorem witness_PositionSensors : checks (let s := put [(RES_CFG 1, RES_CFG_EN, 1), (RES_CFG 1, RES_CFG_MULT, 2), (RES_OFS 1, RES_OFS_OFFSET, 1), (ENC_CFG 1, ENC_CFG_EN, 1), (ENC_CFG 1, ENC_CFG_ZEN, 1), (ENC_CPR 1, ENC_CPR_CPR, 1000), (ENC_POS 1, ENC_POS_POS, 999)] up
    [yields (.resFlt 1 65536 0 0x8000 7) s (fun t => t.fld (RES_ANG 1) RES_ANG_ANGLE = 1 && t.flag (RES_STAT 1) RES_STAT_LOCK && t.rd (RES_SPD 1) = 7),
    yields (.resFlt 1 0 0 0 7) (s.updRs 1 (fun x => { x with low := 1 })) (fun t => t.flag (RES_STAT 1) RES_STAT_LOS && t.evPending (evSense 19) && !t.flag (RES_STAT 1) RES_STAT_LOCK),
    s.fld (ENC_POS 1) ENC_POS_POS < s.fld (ENC_CPR 1) ENC_CPR_CPR && s.fld (ENC_CFG 1) ENC_CFG_MODE = 0 && !(s.en 1).a && !(s.en 1).b && s.flag (ENC_CFG 1) ENC_CFG_EN && s.fld (ENC_CFG 1) ENC_CFG_FILT = 0,
    yields (.encCount 1 false true 0 5) (put [(ENC_CFG 1, ENC_CFG_MODE, 1)] s) (fun t => t.fld (ENC_POS 1) ENC_POS_POS = 999 && (t.en 1).b),
    yields (.encCount 1 true true 0 5) s (fun t => t.flag (ENC_STAT 1) ENC_STAT_ILL && t.evPending (evSense 21)),
    yields (.encZ 1 0) s (fun t => t.fld (ENC_POS 1) ENC_POS_POS = 0 && t.flag (ENC_STAT 1) ENC_STAT_ZSEEN)]) = true := by decide +kernel

theorem witness_ObserverReports : checks (let s := put [(TTU_OCTL 3, TTU_OCTL_SEN, 1), (TTU_OCTL 3, TTU_OCTL_NLOSS, 1), (TTU_OSUP 3, TTU_OSUP_RESMAX, 1), (TTU_OBSR 3, TTU_OBSR_RESID, 2), (TTU_OBSW 3, TTU_OBSW_SPEED, 9)] up
    let com := put [(TTU_CFG 3, TTU_CFG_COMEN, 1), (TTU_CFG 3, TTU_CFG_NCOM, 8), (TTU_CFG 3, TTU_CFG_ANGSRC, 3)] up
    let up8 := put ((List.range 8).map (fun k => (TTU_COM 3 k, TTU_COM_ANGLE, k * 0x20000000))) com
    [accepted .coachman (TTU_OBSA 3) 5 s && s.obsChecked 3 && s.failsResidual 3,
    yields (.observerReport .coachman 3 5) s (fun t => t.rd (TTU_OBSA 3) = 5 && (t.ax 3).prevW = some 9 && t.flag (TTU_STAT 3) TTU_STAT_LOST && t.evPending (evSup 3 1)),
    accepted .coachman (TTU_OCTL 3) (withField s (TTU_OCTL 3) TTU_OCTL_REARM 1) s && yields (.ttuRearm .coachman 3) s (fun t => !t.flag (TTU_STAT 3) TTU_STAT_LOST && !t.flag (TTU_OCTL 3) TTU_OCTL_REARM),
    yields (.commutationIndexChange 3 7) up (fun t => t.fld (TTU_STAT 3) TTU_STAT_CIDX = 0),
    !com.comAscend 3 && yields (.commutationIndexChange 3 7) com (fun t => t.flag (TTU_STAT 3) TTU_STAT_COMERR),
    up8.comAscend 3 && up8.ncom 3 = 8 && yields (.commutationIndexChange 3 7) (put [(ENC_ANG 0, ENC_ANG_ANGLE, 0xFFFFFFFF)] up8) (fun t => t.fld (TTU_STAT 3) TTU_STAT_CIDX = 7)]) = true := by decide +kernel

theorem witness_FallbackCommands : checks (let base := put [(HYS_SET 7, HYS_SET_EN, 1), (HYS_SET 7, HYS_SET_LEGA, 23), (HYS_SET 7, HYS_SET_LEGB, 22), (HYS_SET 7, HYS_SET_LEGC, 21), (LEG_CFG 23, LEG_CFG_AXLE, 3), (LEG_CFG 22, LEG_CFG_AXLE, 3), (LEG_CFG 21, LEG_CFG_AXLE, 3), (HYS_CFG 3, HYS_CFG_EN, 1), (HYS_CATCH 3, HYS_CATCH_AUTO, 1), (HYS_CATCH 3, HYS_CATCH_MAXTRY, 1)] up
    let mode := fun (m : Nat) => put [(HYS_STAT 3, HYS_STAT_MODE, m), (SYS_STATE, SYS_STATE_SERVICE, 1)] { base with power := .drive }
    [base.setAxle 7 = 3 && (mode 1).hysMode 3 = 1 && base.hasFallback 3 && base.phaseLegs 3 = [21, 22, 23],
    yields (.hysNoconv 7) (mode 1) (fun t => t.hysMode 3 = 2 && t.evPending (evSup 3 6)),
    accepted .coachman (HYS_CTRL 3) HYS_CTRL_CATCH.mask (mode 2) && yields (.catch_ .coachman 3) (mode 2) (fun t => (t.ax 3).catchPending),
    yields (.autoCatch 3) (mode 2) (fun t => (t.ax 3).catchPending),
    yields (.catchProbe 3) (mode 3) (fun t => (t.ax 3).probing),
    accepted .coachman (HYS_CTRL 3) HYS_CTRL_HANDBACK.mask (mode 1) && yields (.handback .coachman 3) (mode 1) (fun t => (t.ax 3).handback && t.hysMode 3 = 1),
    accepted .coachman (HYS_CTRL 3) HYS_CTRL_FORCE.mask (mode 0) && yields (.force .coachman 3) (mode 0) (fun t => (t.ax 3).fbPending = some 4),
    (mode 1).awake && (mode 1).setsOf 3 = [7]]) = true := by decide +kernel


/-! ### Protection and safety -/

theorem witness_TripLatches : checks (let s := put [(PROT_SRC 63, PROT_SRC_ACT, 2), (PROT_SRC 63, PROT_SRC_GMASK, 0x80), (PROT_SRC 63, PROT_SRC_FILT, 5), (PROT_GRP 7, PROT_GRP_LEGS, 0x80000000)] up
    let latched := put [(PROT_TRIP 2, PROT_TRIP_LATCH, 0x008001), (PROT_TRIP 2, PROT_TRIP_SEQ, 3)] { s with tripPins := [63] }
    [s.srcAct 63 = 2 && (s.srcGroups 63).testBit 7 && s.inGroup 7 31 && yields (.tripPin 63 (.pulse 50)) s (fun t => t.latched 63 && t.evPending (evProt 0) && t.legSafe 31 ≠ 0 && !t.srcActive 63),
    yields (.tripPin 63 .rise) s (fun t => t.latched 63 && t.srcActive 63),
    yields (.tripPin 63 (.pulse 34)) s (fun t => !t.latched 63),
    yields (.tripPin 63 .fall) latched (fun t => t.latched 63 && !t.srcActive 63),
    latched.srcActive 63 && !latched.srcActive 48 && yields (.tripClear .coachman 2 0x03008001) latched (fun t => t.latched 63 && !t.latched 48 && t.flag PROT_STAT PROT_STAT_CLRREF && t.evPending (evProt 1)),
    yields (.tripClear .coachman 2 0x04008001) latched (fun t => t.latched 63 && t.latched 48)]) = true := by decide +kernel

theorem witness_ProtectionControl : checks (let s := put [(PROT_SRC 210, PROT_SRC_ACT, 1), (PROT_SEL 7, PROT_SEL_SPDSRC, 3), (PROT_SEL 7, PROT_SEL_VCH, 95), (PROT_SELV 7, PROT_SELV_VHI, 5), (PROT_SELV 7, PROT_SELV_VLO, 0), (SDF_CFG 95, SDF_CFG_EN, 1)] up
    let hot := put [(SDF_STAT 95, SDF_STAT_PRES, 5)] s
    let kept := put [(SYS_STATE, SYS_STATE_SERVICE, 1)] <| s.updLg 23 (fun x => { x with causes := [.keeper] })
    [accepted .coachman PROT_CTRL (PROT_CTRL_SWTRIP.put (PROT_CTRL_SWG.put 0 128) 1) s && yields (.swtrip .coachman 128) s (fun t => t.chop.swGroups = 128 && t.latched 210),
    accepted .coachman PROT_CTRL (withField kept PROT_CTRL PROT_CTRL_KREL 1) kept,
    !kept.heldForCatch 23,
    kept.heldLeg 23 && !kept.flag PROT_CTRL PROT_CTRL_SWTRIP,
    yields .selectionEvaluation hot (fun t => t.selAsc 7),
    yields .selectionEvaluation (put [(SDF_STAT 95, SDF_STAT_PRES, 0xFFFF), (PROT_GSTAT, PROT_GSTAT_SELASC, 128)] s) (fun t => !t.selAsc 7),
    yields .selectionEvaluation (put [(PROT_GSTAT, PROT_GSTAT_SELASC, 128)] s) (fun t => t.selAsc 7)]) = true := by decide +kernel

theorem witness_ChopperAndDischarge : checks (let s := put [(PROT_SRC 208, PROT_SRC_ACT, 1), (PROT_SRC 209, PROT_SRC_ACT, 1), (PROT_DIS, PROT_DIS_MODE, 1)] up
    let on := { s with chop := { s.chop with on := true, v0 := -1 } }
    let dis := { put [(PROT_DIS, PROT_DIS_START, 1)] s with chop := { s.chop with supervising := true } }
    [on.chop.v0 < on.pres 0 && yields .chopFlt on (fun t => !t.chop.on && t.chop.faulty && t.latched 208 && t.evPending (evProt 6)),
    accepted .coachman PROT_DIS (withField s PROT_DIS PROT_DIS_START 1) s && yields (.dischargeStart .coachman) s (fun t => t.chop.supervising && t.flag PROT_STAT PROT_STAT_DISON),
    accepted .coachman PROT_DIS (withField dis PROT_DIS PROT_DIS_START 0) dis && yields (.dischargeStop .coachman) dis (fun t => !t.chop.supervising),
    yields .disFlt dis (fun t => t.chop.supervising && t.chop.late && t.flag PROT_STAT PROT_STAT_DISFLT && t.latched 209 && t.evPending (evProt 8))]) = true := by decide +kernel

theorem witness_TorqueMonitor : checks (let s := put [(SAFE_TMSTAT 3, SAFE_TMSTAT_EN, 1), (SAFE_TMSTAT 3, SAFE_TMSTAT_TRIP, 1), (SAFE_TMSTAT 3, SAFE_TMSTAT_SEQ, 9)] up
    let win := fun (lo hi : Word) => (s.wr (GRD_CMDMIN 3) lo).wr (GRD_CMDMAX 3) hi
    [s.flag (SAFE_TMSTAT 3) SAFE_TMSTAT_EN && s.tmTrip 3,
    yields (.tmClear .coachman 3 0x09800000) (win 0 0) (fun t => !t.tmTrip 3),
    yields (.tmClear .passenger 3 0x09800000) (win 1 5) (fun t => t.tmTrip 3 && t.flag (SAFE_TMSTAT 3) SAFE_TMSTAT_CLRREF && t.evPending (evSup 3 13)),
    yields (.tmClear .coachman 3 0x09800000) (win 0x80000000 0xFFFFFFFF) (fun t => t.tmTrip 3)]) = true := by decide +kernel

theorem witness_SealOperations : checks (let s := up
    let busy := put [(SAFE_SEALSTAT, SAFE_SEALSTAT_BUSY, 1), (SAFE_SEALSTAT, SAFE_SEALSTAT_ATT, 2)] up
    let erased := (List.range 16).foldl (fun t j => t.setLanW (0x11F0 + j) 0xFFFFFFFF) busy
    let open_ := put [(SAFE_SEALSTAT, SAFE_SEALSTAT_UNLOCKED, 1), (SAFE_SEALSTAT, SAFE_SEALSTAT_SLOT, 3)] up
    [accepted .coachman SAFE_SEALCTL (withField s SAFE_SEALCTL SAFE_SEALCTL_UNLOCK 1) s && yields (.unlock .coachman) s (fun t => t.flag SAFE_SEALSTAT SAFE_SEALSTAT_BUSY),
    !busy.slotEmpty 3 && yields .unlockHashDone busy (fun t => t.fld SAFE_SEALSTAT SAFE_SEALSTAT_ATT = 3 && t.flag SAFE_SEALSTAT SAFE_SEALSTAT_LOCKOUT),
    (List.range 4).all erased.slotEmpty && yields .unlockHashDone erased (fun t => t.flag SAFE_SEALSTAT SAFE_SEALSTAT_UNLOCKED && t.fld SAFE_SEALSTAT SAFE_SEALSTAT_SLOT = 15),
    yields .unlockHashDone ((List.range 4).foldl (fun t j => t.setLanW (0x11FC + j) (t.pwHash.getD j 0)) busy) (fun t => t.fld SAFE_SEALSTAT SAFE_SEALSTAT_SLOT = 3),
    accepted .coachman SAFE_SEALCTL (withField open_ SAFE_SEALCTL SAFE_SEALCTL_LOCK 1) open_,
    accepted .coachman SAFE_SEALCTL (SAFE_SEALCTL_SETPW.put (SAFE_SEALCTL_SLOT.put 0 3) 1) open_ && yields (.setpw .coachman 3) open_ (fun t => t.lan.prog.length = 20)]) = true := by decide +kernel

theorem witness_DragShoe : checks (let shoe := fun (w : Word) => { up with sealedRec := [(0x180, w), (0x182, 0x00040005)] }
    let test := fun (ph : Nat) => put [(SAFE_BRKSTAT, SAFE_BRKSTAT_PHASE, ph), (SYS_STATE, SYS_STATE_SERVICE, 1), (RES_STAT 0, RES_STAT_LOCK, 1)] { shoe 0x90000000 with power := .drive }
    let hold := put [(SAFE_BRKSTAT, SAFE_BRKSTAT_HOLD, 1)] { shoe 0x90000000 with brake := { up.brake with outA := true, outB := true } }
    [yields (.brkFlt false true false) up (fun t => t.flag SAFE_BRKSTAT SAFE_BRKSTAT_FLTA && t.evPending (evProt 14)),
    yields (.brkFlt true false true) up (fun t => t.flag SAFE_BRKSTAT SAFE_BRKSTAT_FLTB && t.evPending (evProt 14)),
    accepted .coachman SAFE_BRKCTL (withField (test 0) SAFE_BRKCTL SAFE_BRKCTL_TSTART 1) (test 0) && !(test 0).tmTrip (test 0).shoeAxle,
    yields (.brakeTestStart .coachman) (test 0) (fun t => t.fld SAFE_BRKSTAT SAFE_BRKSTAT_PHASE = 1),
    (test 1).shoeTest = 4 && yields (.brakeTestPhaseEnd 5) (test 1) (fun t => t.fld SAFE_BRKSTAT SAFE_BRKSTAT_PHASE = 2),
    yields (.brakeTestPhaseEnd 4) (test 2) (fun t => t.flag SAFE_BRKSTAT SAFE_BRKSTAT_TDONE && t.evPending (evProt 15)),
    yields (.brakeTestPhaseEnd 3) (test 2) (fun t => t.flag SAFE_BRKSTAT SAFE_BRKSTAT_TFAIL && t.fld SAFE_BRKSTAT SAFE_BRKSTAT_TCAUSE = 2),
    (test 1).shoeAngleSrc < 2 && yields (.brakeTestMotion 0xFFFB) (test 1) (fun t => t.brake.exc = 5),
    yields (.brakeTestMotion 6) (test 1) (fun t => t.fld SAFE_BRKSTAT SAFE_BRKSTAT_TCAUSE = 1),
    hold.shoeSpeedSrc = 1 && yields .dragShoeHoldEnd hold (fun t => !t.brake.outA && !t.flag SAFE_BRKSTAT SAFE_BRKSTAT_HOLD)]) = true := by decide +kernel


/-! ### Temperature and self-test -/

theorem witness_Throttling : checks (let s := put [(THM_CTL, THM_CTL_LMAX, 1), (THM_CTL, THM_CTL_CDREN, 1), (THM_ABS, THM_ABS_TWARN, 400), (THM_ABS, THM_ABS_THYS, 10), (THM_MAX, THM_MAX_TEMP, 400)] { up with thmStepping := true }
    let l1 := put [(THM_STAT, THM_STAT_LEVEL, 1)] s
    let sleep := { up with power := .lantern }
    [yields (.sensorConversion (none :: List.replicate 15 (some (-2048)))) up (fun t => t.flag (THM_T 0) THM_T_FAULT && t.sfld (THM_T 15) THM_T_TEMP = -2048 && t.flag (THM_T 15) THM_T_VALID),
    yields (.sensorConversion (List.replicate 16 (some 9))) sleep (fun t => t.lan.t15 = 9 && t.lan.t15Valid),
    s.tooHot && s.throttle < s.lmax && !s.thmFrozen && yields .throttleStepEnd s (fun t => t.throttle = 1),
    yields .throttleStepEnd l1 (fun t => t.throttle = 1 && t.flag THM_STAT THM_STAT_CDR && t.evPending (evMem 7)),
    (put [(THM_MAX, THM_MAX_TEMP, 390)] l1).coolEnough && yields .throttleStepEnd (put [(THM_MAX, THM_MAX_TEMP, 390)] l1) (fun t => t.throttle = 0)]) = true := by decide +kernel

theorem witness_SelfTest : checks (let s := up
    let iso := put [(TRK_STAT, TRK_STAT_ISO, 4)] s
    let grp := put [(BST_CFG, BST_CFG_EN, 1), (BST_CFG, BST_CFG_CHAN, 1), (BST_STAT, BST_STAT_SLOT, 154)] s
    let mig := fun (n d : Nat) => put [(MEM_SPARE, MEM_SPARE_MIG, 1), (MEM_SPARE, MEM_SPARE_SPARE, n), (MEM_SPARE, MEM_SPARE_DOWN, d)] s
    let core := { put [(BST_STAT, BST_STAT_BUSY, 1)] s with bist := .core 2 }
    [iso.coreToTest = some 2 && yields .bistSlotStart iso (fun t => t.bist = .core 2),
    grp.coreToTest = none && yields .bistSlotStart grp (fun t => t.bist = .group 15),
    yields .migrationDone (mig 16 0) (fun t => t.bist = .bank 15 && t.flag MEM_SPARE MEM_SPARE_DOWN),
    yields .migrationDone (mig 0 1) (fun t => t.bist = .bank 1 && !t.flag MEM_SPARE MEM_SPARE_DOWN),
    yields (.bistSliceDone false 0) core (fun t => t.evPending (evMem 9) && (t.fld TRK_STAT TRK_STAT_PERM).testBit 2),
    yields (.bistSliceDone true 0) { core with bist := .group 15 } (fun t => t.bist = .none && t.fld BST_CNT BST_CNT_SLICES = 1)]) = true := by decide +kernel


/-! ### The Whiffletree, debugging and memory -/

theorem witness_SignatureAndRecovery : checks (let s := run
    let odd := fun (n : Nat) => { s with troika := { s.troika with oddVotes := [(0, n)] } }
    let ready := { s with troika := { s.troika with rejoinReady := true } }
    let paused := { put [(TRK_STAT, TRK_STAT_RESYNC, 1), (TRK_STAT, TRK_STAT_ISO, 4)] ready with troika := { ready.troika with copying := true } }
    [s.rd TRK_STAT &&& 0x0000000B = 0 && s.outCores = 0 && yields (.signatureVote (5, 5, 5)) s (fun t => t.rd TRK_SIGV = 5),
    yields (.signatureVote (1, 0, 0)) (odd 1) (fun t => t.evPending TRK_LATENT && t.troika.scrub = some 0),
    yields (.signatureVote (1, 0, 0)) (odd 2) (fun t => t.evPending TRK_MISMATCH && t.outCores.testBit 0),
    yields (.signatureVote (1, 2, 3)) s (fun t => t.flag TRK_STAT TRK_STAT_UNLOC && t.evPending TRK_FATAL),
    ready.trkResumes && yields .copyPause ready (fun t => t.flag TRK_STAT TRK_STAT_RESYNC),
    yields (.trkRejoin false) paused (fun t => t.fld TRK_STAT TRK_STAT_ISO = 0 && t.evPending TRK_REJOIN),
    yields (.trkRejoin true) paused (fun t => t.flag TRK_STAT TRK_STAT_STOP && t.flag TRK_STAT TRK_STAT_UNLOC)]) = true := by decide +kernel

theorem witness_PathTest : checks (let s := run
    let ready := { put [(TRK_INJ, TRK_INJ_REQ, 1)] s with troika := { s.troika with wevSeen := true } }
    let testing := { s with troika := { s.troika with pathTesting := true } }
    [accepted .coachman TRK_INJ (withField s TRK_INJ TRK_INJ_REQ 1) s && yields (.pathTestRequest .coachman) s (fun t => t.flag TRK_INJ TRK_INJ_REQ),
    ready.pathTestReady && yields .pathTest ready (fun t => t.troika.pathTesting && !t.flag TRK_INJ TRK_INJ_REQ),
    yields (.pathTestDone {} .agree) testing (fun t => !t.troika.pathTesting && t.trkIssues),
    yields (.pathTestDone { copyA := true } .agree) testing (fun t => t.fld TRK_STAT TRK_STAT_VOTER = 2 && t.evPending TRK_SVC),
    yields (.pathTestDone { copyB := true } .agree) testing (fun t => t.fld TRK_STAT TRK_STAT_VOTER = 1 && t.evPending TRK_SVC),
    yields (.pathTestDone { ports := 4 } .agree) testing (fun t => t.fld TRK_STAT TRK_STAT_PERM = 4 && t.fld TRK_INJ TRK_INJ_FAIL = 32),
    testing.outCores = 0 && testing.troika.pathTesting]) = true := by decide +kernel

theorem witness_Debugging : checks (let s := put [(TRK_DBG, TRK_DBG_SESSION, 1)] run
    let halt := put [(TRK_STAT, TRK_STAT_HALT, 1)] s
    let load := s.updTrk (fun t => { t with wait := .load 1 2 0 })
    let brk := put [(TRK_CFG, TRK_CFG_BRKDBG, 1)] s
    [s.haltOk && s.troika.wait = .none,
    yields (.debugAuthentication 0 0 0 0 0) (up.wr SYS_CHOCK SYS_CHOCK_DBG.mask) (fun t => !t.flag TRK_DBG TRK_DBG_SESSION),
    s.atBoundary && s.haltOk && load.haltOk && !load.atBoundary && yields (.debugHalt true) load (fun t => t.troika.haltWanted = some true),
    brk.brkHalts && brk.issues .troika && brk.troika.imprecise.isEmpty && !brk.flag TRK_STAT TRK_STAT_HALT,
    yields .singleStep (halt.updTrk (fun t => { t with wait := .fenceC })) (fun t => t.troika.wait = .none && (t.core .troika).pc = 4),
    yields .singleStep halt (fun t => t.troika.stepArmed && t.trkIssues),
    yields .debugResume halt (fun t => !t.flag TRK_STAT TRK_STAT_HALT && (t.ax 3).resumed),
    yields (.debuggerWrite (.greg 31 7) {}) halt (fun t => reg .troika t 31 = 7),
    yields (.debuggerWrite (.greg 0 7) {}) halt (fun t => reg .troika t 0 = 0),
    yields (.debuggerWrite (.vreg 7 7) {}) halt (fun t => (t.core .troika).vr 7 = 7),
    yields (.debuggerWrite (.areg 3 7) {}) halt (fun t => (t.core .troika).ar 3 = 7),
    yields (.debuggerWrite (.pc 7) {}) halt (fun t => (t.core .troika).pc = 4),
    yields (.debuggerWrite (.creg 5 0xFFFFFFFF) {}) halt (fun t => (t.core .troika).cx cVBASE = 0xFFFFF000),
    isRam (region 0x1083FFFC) && !halt.poisoned 0x1083FFFC && yields (.debuggerWrite (.mem 0x1083FFFC 0x01020304) {}) halt (fun t => t.byte 0x1083FFFF = 1)]) = true := by decide +kernel

theorem witness_MemoryService : checks (let s := up
    let nv := fun (n : Nat) => MEM_NVCMD_CMD.put (MEM_NVCMD_KEY.put 0 0xA5) n
    let prog := { up with nvm := some ⟨false, 0xFFFFF0, [0x04030201, 0, 0, 0x0F0E0D0C]⟩ }
    let erase := { up.setByte 0xFFFFFF 7 with nvm := some ⟨true, 0xFF0000, []⟩ }
    [!s.poisoned (0x10000000 + 8 * 0xFFFFF) && yields (.scrubber false 0xFFFFF .corrected) s (fun t => t.evPending (evMem 0) && t.fld MEM_ECCCNT MEM_ECCCNT_CE = 1),
    yields (.scrubber false 0xFFFFF .uncorrectable) s (fun t => t.evPending (evMem 1) && t.fld MEM_ECCADDR MEM_ECCADDR_ADDR * 8 = 0x107FFFF8),
    accepted .coachman MEM_NVCMD (nv 1) s && yields (.nvmProgram .coachman) s (fun t => t.flag MEM_NVSTAT MEM_NVSTAT_BUSY),
    accepted .coachman MEM_NVCMD (nv 2) s && yields (.nvmErase .coachman) s (fun t => t.nvm = some ⟨true, 0, [0, 0, 0, 0]⟩),
    yields (.nvmCommandDone false) prog (fun t => t.byte 0xFFFFF0 = 1 && t.byte 0xFFFFFF = 0x0F && t.nvm = none),
    yields (.nvmCommandDone true) prog (fun t => t.nvm = none && t.evPending (evMem 4)),
    yields (.nvmCommandDone false) erase (fun t => t.byte 0xFFFFFF = 0xFF && t.nvm = none),
    accepted .coachman EVT_RAISE 1 s && yields (.evtRaise .coachman 1) s (fun t => t.evPending 1)]) = true := by decide +kernel


/-! ### The Coupler -/

/-- Port 3 is up, with the frames' checks passed on seat 2 in epoch 0. -/
def cpl3 : State := { put [(CPL_PORT 3, CPL_PORT_UP, 1), (CPL_PORT 3, CPL_PORT_EN, 1), (CPL_ADDR, CPL_ADDR_SEAT, 2), (CPL_ADDR, CPL_ADDR_HITCHED, 1)] up with
  cpl := { up.cpl with adopted := true } }
/-- A good frame from seat 5 on port 3. -/
def frame (cls : Fin 4) (kind : BitVec 8) (tag : Fin 512) (arg : Word) (payload : List Byte) : Frame :=
  { cls := cls, dst := 2, src := 5, epoch := 0, kind := kind, tag := tag, arg := arg, payload := payload, port := 3 }
/-- The frame is delivered. -/
def good (kind : Nat) (f : Frame) (s : State) : Bool := s.awake && s.portUp f.port && headerOk f && f.fcrcOk && decide (f.kind.toNat = kind)
  && decide (f.dst.val = s.seat) && s.cpl.adopted && decide (f.epoch.toNat = s.epoch)
theorem witness_LinksAndRoutes : checks (let s := cpl3
    let down := put [(CPL_PORT 3, CPL_PORT_UP, 0), (SYS_CLK, SYS_CLK_SLOCK, 1)] s
    let route := put [(routeOf 32, CPL_ROUTE_VALID, 1), (routeOf 32, CPL_ROUTE_PRI, 3), (routeOf 32, CPL_ROUTE_ALTV, 1), (routeOf 32, CPL_ROUTE_ALT, 1), (routeOf 31, CPL_ROUTE_VALID, 1), (routeOf 31, CPL_ROUTE_PRI, 3)] s
    [!down.portUp 3 && yields (.portUp 3) down (fun t => t.portUp 3 && t.evPending (evCom 10) && t.cpl.ownQ.map (fun f => f.kind) = [0x13]),
    yields (.portUp 3) (put [(CPL_CFG, CPL_CFG_HEN, 1)] down) (fun t => t.cpl.ownQ.map (fun f => f.kind) = [0x10, 0x13]),
    route.routed 32 && yields (.portDown 3) route (fun t => t.routed 32 && t.routePort 32 = 1 && !t.routed 31 && t.evPending (evCom 10) && !t.flag (CPL_PORT 3) CPL_PORT_EN),
    yields (.advertSend 3) s (fun t => t.cpl.ownQ.length = 1),
    yields (.advert 3 (List.replicate 31 31 ++ [29])) s (fun t => t.routed 32 && t.fld (routeOf 32) CPL_ROUTE_HOPS = 15 && t.fld (routeOf 32) CPL_ROUTE_PRI = 3 && !t.routed 31),
    yields (.advert 3 (List.replicate 32 30)) s (fun t => !t.routed 32)]) = true := by decide +kernel

theorem witness_Hitching : checks (let head := put [(CPL_ADDR, CPL_ADDR_HEAD, 1), (CPL_ADDR, CPL_ADDR_SEAT, 1), (CPL_CFG, CPL_CFG_HEN, 1)] cpl3
    let fresh := put [(CPL_ADDR, CPL_ADDR_SEAT, 0), (CPL_ADDR, CPL_ADDR_HITCHED, 0)] cpl3
    let joiner := put [(CPL_CFG, CPL_CFG_HEN, 1)] fresh
    let asked := put [(CPL_CFG, CPL_CFG_ADMEN, 1), (CPL_STAT, CPL_STAT_ADMPEND, 1)] { head with cpl := { head.cpl with answers := [⟨3, 7, 9, 5⟩] } }
    let granted := { head with cpl := { head.cpl with granted := [5] } }
    [accepted .coachman CPL_CFG (withField fresh CPL_CFG CPL_CFG_HEN 1) fresh,
    yields (.hen .coachman) (put [(CPL_ADDR, CPL_ADDR_HEAD, 1)] fresh) (fun t => t.seat = 1 && t.hitched && t.cpl.ownQ.any (fun f => f.kind = 0x10)),
    yields (.offer 3 true 1 2) head (fun t => t.flag CPL_STAT CPL_STAT_HEADERR && t.evPending (evCom 10)),
    !joiner.isHead && joiner.seat = 0 && joiner.flag CPL_CFG CPL_CFG_HEN,
    head.seatFree 32 && yields (.answer 3 7 9 32) head (fun t => t.cpl.granted = [32] && t.cpl.ownQ.length = 1),
    yields (.answer 3 7 9 32) (put [(CPL_CFG, CPL_CFG_ADMEN, 1)] head) (fun t => t.flag CPL_STAT CPL_STAT_ADMPEND && t.rd (CPL_ADMSN 0) = 7),
    yields (.grant 3 32) (joiner.updPt 3 (fun x => { x with answered := true })) (fun t => t.seat = 32 && t.hitched),
    accepted .coachman (CPL_ADMKEY 7) 5 asked && yields (.admissionKeyWrite .coachman 5) asked (fun t => t.cpl.checking),
    yields (.admissionKeyWrite .coachman 5) head (fun t => t.rd (CPL_ADMKEY 7) = 0),
    yields .admissionTimeout asked (fun t => t.cpl.answers.isEmpty && t.flag CPL_STAT CPL_STAT_ADMFAIL),
    !granted.routed 5 && yields (.seatFreed 5) granted (fun t => t.cpl.granted.isEmpty),
    yields .detach cpl3 (fun t => t.seat = 0 && !t.hitched && t.evPending (evCom 10))]) = true := by decide +kernel

theorem witness_Transactions : checks (let s := cpl3
    let wr := frame 1 1 9 0x1C (wordBytes 0x01020304)
    let rd := frame 1 3 9 0x1D003C []
    let tag := fun (n : Nat) (x : TagSt) => s.setTag n x
    let load := { tag 256 (.load 5 3 0 0x65000000) with troika := { run.troika with wait := .load 256 3 0 } }
    [good 1 wr s && accepted .passenger SYS_SCRATCH 0x01020304 s && yields (.wrFrame wr {}) s (fun t => t.rd SYS_SCRATCH = 0x01020304 && t.cpl.ownQ.length = 1),
    good 3 rd s && yields (.rdFrame rd) s (fun t => t.cpl.ownQ.map (fun f => f.payload) = [wordBytes (regDefault (THM_T 15))]),
    !remoteOk 0x200000 && yields (.wrFrame (frame 1 1 9 0x200000 (wordBytes 0)) {}) s (fun t => t.cpl.ownQ.map (fun f => f.arg) = [1]),
    yields (.rdFrame (frame 1 3 9 0x200000 [])) s (fun t => t.cpl.ownQ.map (fun f => f.arg) = [1]),
    good 2 (frame 1 2 256 0 []) s && yields (.ackFrame (frame 1 2 256 0 [])) (tag 256 (.store 5 0x65000000)) (fun t => t.tagOf 256 = .free && t.troika.imprecise.isEmpty),
    yields (.ackFrame (frame 1 2 1 1 [])) (tag 1 (.store 5 0x65000000)) (fun t => t.troika.imprecise = [0x65000000]),
    yields (.ackFrame (frame 1 2 1 0 [])) (tag 1 (.freight 5)) (fun t => t.fld CPL_CNT CPL_CNT_FDONE = 1),
    good 4 (frame 1 4 256 0 (wordBytes 9)) load && yields (.rdrFrame (frame 1 4 256 0 (wordBytes 9))) load (fun t => reg .troika t 3 = 9 && t.tagOf 256 = .free && t.troika.wait = .none),
    yields (.transactionTimeout 256) (tag 256 (.store 5 0x65000000)) (fun t => t.tagOf 256 = .held && t.flag CPL_STAT CPL_STAT_TXTO),
    yields (.tagHoldEnd 256) (tag 256 .held) (fun t => t.tagOf 256 = .free)]) = true := by decide +kernel

theorem witness_Messages : checks (let s := put [(CPL_RXM, CPL_RXM_NSLOT, 255), (CPL_RXMP, CPL_RXMP_WR, 253)] cpl3
    let full := put [(CPL_RXMP, CPL_RXMP_WR, 254)] s
    let msg := frame 0 6 0 0x11223344 [7, 8]
    let fwr := { frame 2 7 9 0x1083FFFE [7, 8] with xarg := 0x0020 }
    let more := { frame 2 7 9 0x1083FFFE [7, 8] with xarg := 0 }
    let held : ReasmBuf := ⟨5, 1, 9, none, []⟩
    let tx := put [(CPL_TXSRC, CPL_TXSRC_OFS, 0)] s
    let ctl := fun (cls kind len : Nat) => CPL_TXCTL_LEN.put (CPL_TXCTL_KIND.put (CPL_TXCTL_DST.put (CPL_TXCTL_CLS.put 0 cls) 32) kind) len
    [s.bringup.uncleared.isEmpty && s.troika.storeBuf.isEmpty && good 6 msg s && yields (.msgFrame msg {}) s (fun t => t.fld CPL_RXMP CPL_RXMP_WR = 254 && t.evPending (evCom 9) && t.byte (0x10800000 + 64 * 253 + 17) = 8),
    good 6 msg full && yields (.msgFrame msg {}) full (fun t => t.flag CPL_STAT CPL_STAT_RXFULL && t.evPending (evCom 13) && t.mem = []),
    good 5 (frame 0 5 0 1 []) s && yields (.evtFrame (frame 0 5 0 1 []) {}) s (fun t => t.evPending (evCom 9)),
    good 7 fwr s && fwrLast fwr && inTandem fwr.arg 2 && yields (.fwrFrame fwr {}) s (fun t => t.byte 0x1083FFFF = 8 && t.cpl.ownQ.length = 1),
    !inTandem 0x1083FFFF 2 && yields (.fwrFrame { fwr with arg := 0x1083FFFF } {}) s (fun t => t.byte 0x1083FFFF = 0 && t.cpl.ownQ.map (fun f => f.arg) = [1]),
    yields (.fwrFrame more {}) s (fun t => t.buf 0 = some ⟨5, 0, 9, none, [(0, 0x1083FFFE, [7, 8])]⟩),
    yields (.reassemblyTimeout 7) (s.setBuf 7 (some held)) (fun t => t.buf 7 = none && t.flag CPL_STAT CPL_STAT_REASM),
    accepted .coachman CPL_TXCTL (ctl 0 6 2) tx && yields (.launch .coachman (ctl 0 6 2) {}) tx (fun t => (t.cpl.queue 0).length = 1),
    accepted .coachman CPL_TXCTL (ctl 2 7 2) tx && yields (.launch .coachman (ctl 2 7 2) {}) tx (fun t => t.tagOf 1 = .freight 32),
    yields (.launch .coachman (ctl 0 6 2) {}) { tx with cpl := { tx.cpl with mailQ := List.replicate 16 { cls := 0, kind := 6 } } } (fun t => t.flag CPL_STAT CPL_STAT_TXFULL && (t.cpl.queue 0).length = 16)]) = true := by decide +kernel

theorem witness_PortOutput : checks (let q := fun (c : Coupler) => { put [(routeOf 32, CPL_ROUTE_VALID, 1), (routeOf 32, CPL_ROUTE_PRI, 3)] cpl3 with cpl := c }
    let lc := q { ownQ := [{ cls := 3, kind := 0x13, port := some 3 }] }
    let mail := q { mailQ := [{ cls := 0, dst := 32, kind := 6, payload := [1] }] }
    [yields (.couplerFrameSent 3 3) lc (fun t => t.cpl.ownQ.isEmpty),
    mail.routePort 32 = 3 && yields (.couplerFrameSent 3 0) mail (fun t => t.cpl.mailQ.isEmpty),
    yields (.couplerFrameSent 3 1) mail (fun t => t.cpl.mailQ.length = 1)]) = true := by decide +kernel

theorem witness_FabricTime : checks (let child := put [(CPL_ADDR, CPL_ADDR_ROOT, 1), (routeOf 1, CPL_ROUTE_VALID, 1), (routeOf 1, CPL_ROUTE_PRI, 3)] cpl3
    let parent := put [(CPL_ADDR, CPL_ADDR_ROOT, 2)] (cpl3.updPt 3 (fun x => { x with adv := List.replicate 32 1 }))
    let c2 := child.updPt 3 (fun x => { x with t2 := 100, t3 := 200 })
    [child.timeParent = some 3 && yields (.timeSyncMark 3 100 200) child (fun t => (t.pt 3).t2 = 100 && (t.pt 3).t3 = 200),
    yields (.sync 3 90 230) c2 (fun t => t.fld (CPL_PORT 3) CPL_PORT_DELAY = 20 && t.cpl.ofs = 10),
    parent.hitched && parent.timeChild 3 && yields (.timeSync 3 7) parent (fun t => (t.pt 3).t1 = 7),
    yields (.timeSyncEcho 3 9) parent (fun t => (t.pt 3).t4 = 9 && t.cpl.ownQ.length = 1)]) = true := by decide +kernel

theorem witness_Leases : checks (let s := put [(CPL_LEASE, CPL_LEASE_LEN, 1), (CPL_LEASE, CPL_LEASE_ASEAT0, 5), (CPL_LEASE, CPL_LEASE_LSTATE, 1)] cpl3
    let auth := put [(CPL_LEASE, CPL_LEASE_AUTH, 1), (CPL_LEASE, CPL_LEASE_ASEAT0, 2), (CPL_ADDR, CPL_ADDR_ROOT, 2)] { s.updPt 3 (fun x => { x with adv := List.replicate 32 1 }) with cpl := { (s.updPt 3 (fun x => { x with adv := List.replicate 32 1 })).cpl with listening := false } }
    let listens := { auth with cpl := { auth.cpl with listening := true } }
    let lease := fun (epoch : BitVec 8) => { frame 0 9 0 0xFFFFFFFF (wordBytes 2 ++ wordBytes 0x80000000) with dst := 63, epoch := epoch, t := 9 }
    let uncpl := { frame 0 0x0A 0 0 [] with epoch := 127 }
    [auth.acts && auth.hitched && auth.awake,
    !auth.treePorts.isEmpty && yields (.leaseHeartbeat 9) auth (fun t => t.fld CPL_LEASE CPL_LEASE_LSTATE = 1 && t.cpl.renewAt = 9 && t.cpl.ownQ.length = 1),
    headerOk (lease 0) && s.authority 5 && !s.acts && yields (.lease (lease 0)) s (fun t => t.cpl.struck = 0x80000000 && t.cpl.renewAt = 9),
    yields (.lease (lease 127)) s (fun t => t.epoch = 127 && t.evPending (evCom 12)),
    s.flag CPL_LEASE CPL_LEASE_LEN && s.fld CPL_LEASE CPL_LEASE_LSTATE = 1 && s.awake,
    headerOk uncpl && uncpl.dst.val = s.seat && s.authority uncpl.src,
    accepted .coachman CPL_LEASE (CPL_LEASE_DECL.put (CPL_LEASE_DSEAT.put (auth.rd CPL_LEASE) 32) 1) auth && yields (.decl .coachman 32) auth (fun t => t.epoch = 1 && t.cpl.struck = 0x80000000),
    listens.hitched && listens.acts && yields .authorityListenExpiry listens (fun t => t.epoch = 0 && !t.cpl.listening)]) = true := by decide +kernel


/-! ### The Guard -/

/-- Connection 7 receives and sends over Ethernet, commands Axle 3 with payloads of 16 bytes, and is live. -/
def grd7 : State := put [(GRD_RXCFG 7, GRD_RXCFG_EN, 1), (GRD_RXCFG 7, GRD_RXCFG_CARR, 4), (GRD_RXCFG 7, GRD_RXCFG_CMD, 1), (GRD_RXCFG 7, GRD_RXCFG_AXL, 3),
  (GRD_RXCFG 7, GRD_RXCFG_PLEN, 16), (GRD_RXCFG 7, GRD_RXCFG_CID, 5), (GRD_RXCFG 7, GRD_RXCFG_PAIR, 7), (GRD_RXID 7, GRD_RXID_IDENT, 0x12345678),
  (GRD_RXTIM 7, GRD_RXTIM_WIN, 2), (GRD_RXTIM 7, GRD_RXTIM_RAMP, 100), (GRD_RXDL 7, GRD_RXDL_DMAX, 10), (GRD_RXDL 7, GRD_RXDL_RTTMAX, 1), (GRD_RXSTAT 7, GRD_RXSTAT_STATE, grdLIVE),
  (GRD_RXSEQ 7, GRD_RXSEQ_LAST, 65535), (GRD_TXCFG 7, GRD_TXCFG_EN, 1), (GRD_TXCFG 7, GRD_TXCFG_CARR, 4), (GRD_TXCFG 7, GRD_TXCFG_CID, 6), (GRD_TXSEQ 7, GRD_TXSEQ_LAST, 65535),
  (ETH_CFG, ETH_CFG_EN, 1), (ETH_STAT, ETH_STAT_LINK, 1), (SYS_STATE, SYS_STATE_SERVICE, 1)] up
/-- A command payload: torque 1, window 0 to 2, flags 5. -/
def cmdPl : List Byte := wordBytes 1 ++ wordBytes 2 ++ wordBytes 0 ++ wordBytes 5
theorem witness_GuardSends : checks (let s := grd7
    let can := put [(GRD_TXCFG 7, GRD_TXCFG_CARR, 3), (CAN_CFG 3, CAN_CFG_EN, 1)] s
    let cpl := put [(GRD_TXCFG 7, GRD_TXCFG_CARR, 5), (GRD_TXADR 7, GRD_TXADR_ADDR, 32), (CPL_ADDR, CPL_ADDR_SEAT, 2), (routeOf 32, CPL_ROUTE_VALID, 1), (routeOf 32, CPL_ROUTE_PRI, 3), (CPL_PORT 3, CPL_PORT_UP, 1)] s
    let data := GRD_TXCTL_DLV.put (GRD_TXCTL_LEN.put 0 4) 32767
    [accepted .coachman (GRD_TXCTL 7) data s && yields (.guardTransmit .coachman 7 data 0) s (fun t => t.fld (GRD_TXSEQ 7) GRD_TXSEQ_LAST = 1 && t.eth.guardQ.map (·.length) = [46]),
    accepted .coachman (GRD_TXCTL 7) data can && yields (.guardTransmit .coachman 7 data 0) can (fun t => (t.cn 3).tx.map (fun e => (e.conn, e.frame.data.length)) = [(some 7, 16)] && t.flag (GRD_TXCTL 7) GRD_TXCTL_BUSY),
    accepted .coachman (GRD_TXCTL 7) data cpl && !(cpl.outPorts 32 4).isEmpty && yields (.guardTransmit .coachman 7 data 0) cpl (fun t => (t.cpl.queue 0).map (fun f => (f.dst, f.payload.length)) = [(32, 14)]),
    accepted .coachman (GRD_TXCTL 7) data (put [(GRD_TXCFG 7, GRD_TXCFG_EN, 0)] s) && yields (.guardTransmit .coachman 7 data 0) (put [(GRD_TXCFG 7, GRD_TXCFG_EN, 0)] s) (fun t => t.flag (GRD_TXCTL 7) GRD_TXCTL_LOST)]) = true := by decide +kernel

theorem witness_GuardReceives : checks (let s := grd7
    let fr := fun (ident : Word) (seq dl : Nat) (pl : List Byte) => guardFrame ident 5 seq dl pl
    let bad := wordBytes 1 ++ wordBytes 0 ++ wordBytes 2 ++ wordBytes 5
    let get := fun (ident : Word) (seq dl : Nat) (pl : List Byte) (p : State → Bool) => yields (.guardDataFrame 7 (fr ident seq dl pl) 0) s p
    [s.awake && s.grdEn 7 && s.grdCmd 7 && s.grdState 7 = grdLIVE && !payloadBad cmdPl,
    s.frameLen 7 (fr 0 1 1 cmdPl) = none && get 0 1 1 cmdPl (fun t => t.flag (GRD_RXSTAT 7) GRD_RXSTAT_CRCF && t.evPending (evCom 3)),
    payloadBad bad && get 0x12345678 1 1 bad (fun t => t.flag (GRD_RXSTAT 7) GRD_RXSTAT_CRCF),
    get 0x12345678 2 10 cmdPl (fun t => t.fld (GRD_RXSEQ 7) GRD_RXSEQ_LAST = 2 && t.rd (GRD_CMDMAX 3) = 2 && t.fld (GRD_CMDFLG 3) GRD_CMDFLG_FLAGS = 5 && (t.gr 7).expiry = some 10),
    get 0x12345678 1 11 cmdPl (fun t => t.flag (GRD_RXSTAT 7) GRD_RXSTAT_LATE && t.fld (GRD_RXSEQ 7) GRD_RXSEQ_LAST = 65535),
    get 0x12345678 1 0 cmdPl (fun t => t.flag (GRD_RXSTAT 7) GRD_RXSTAT_LATE),
    get 0x12345678 3 1 cmdPl (fun t => t.flag (GRD_RXSTAT 7) GRD_RXSTAT_SEQREF && t.evPending (evCom 2)),
    get 0x12345678 65535 1 cmdPl (fun t => !t.flag (GRD_RXSTAT 7) GRD_RXSTAT_SEQREF && !t.evPending (evCom 2)),
    yields (.guardDataFrame 7 (fr 0x12345678 1 1 cmdPl) 0) (put [(GRD_RXSTAT 7, GRD_RXSTAT_STATE, 0)] s) (fun t => t.flag (GRD_RXSTAT 7) GRD_RXSTAT_SEQREF)]) = true := by decide +kernel

theorem witness_GuardResync : checks (let s := grd7
    let asks := s.updGr 7 (fun x => { x with asked := true })
    let waits := s.updGr 7 (fun x => { x with challenge := some 0 })
    let rs := fun (dl kind base ch : Nat) => guardFrame 0x12345678 5 0 dl ([BitVec.ofNat 8 kind, 0] ++ leBytes 2 base ++ leBytes 4 ch)
    [asks.mayRequest 7 && yields (.resyncRequestSend 7 0) asks (fun t => t.fld (GRD_RXSTAT 7) GRD_RXSTAT_STATE = 1 && !(t.gr 7).asked),
    yields (.resyncRequestFrame 7 (rs 0 1 6 0xFFFFFFFF) 0) s (fun t => t.eth.guardQ.length = 1),
    yields (.resyncAnswerFrame 7 (rs 9 2 65535 0) 0) waits (fun t => t.fld (GRD_RXSTAT 7) GRD_RXSTAT_STATE = 2 && t.fld (GRD_RXSEQ 7) GRD_RXSEQ_OFFSET = 9),
    yields (.resyncAnswerFrame 7 (rs 9 2 0 0) 0) waits (fun t => t.flag (GRD_RXSTAT 7) GRD_RXSTAT_SEQREF)]) = true := by decide +kernel

theorem witness_GuardExpiry : checks (let s := grd7.updGr 7 (fun x => { x with expiry := some 0 })
    let narrows := (put [(GRD_RXSTAT 7, GRD_RXSTAT_EXP, 1), (GRD_RXSTAT 7, GRD_RXSTAT_ZERO, 0)] grd7).wr (GRD_CMDMAX 3) 65536 |>.wr (GRD_CMDMIN 3) (-65537)
    [yields (.deadlineExpiry 7 0) s (fun t => t.flag (GRD_RXSTAT 7) GRD_RXSTAT_EXPF && t.evPending (evCom 1)),
    (narrows.gr 7).stepAt < (narrows.at 256000).grdTime && narrows.full && !narrows.flag (GRD_RXSTAT 7) GRD_RXSTAT_ZERO,
    yields (.windowNarrowing 7 256000) narrows (fun t => t.rd (GRD_CMDMAX 3) = 0 && t.rd (GRD_CMDMIN 3) = 0xFFFFFFFF && (t.gr 7).stepAt = 1)]) = true := by decide +kernel


/-! ### CAN and Ethernet -/

/-- Controller 3 is on the bus. -/
def can3 : State := put [(CAN_CFG 3, CAN_CFG_EN, 1), (CAN_ERR 3, CAN_ERR_STATE, 0), (CAN_TXHDR 3, CAN_TXHDR_LEN, 1), (CAN_TXDATA 3 0, CAN_TXDATA_DATA, 0x44332211),
  (CAN_FLTMATCH 3 31, CAN_FLTMATCH_EN, 1), (CAN_FLTMATCH 3 31, CAN_FLTMATCH_DEST, 1), (CAN_FLTMATCH 3 31, CAN_FLTMATCH_ID, 0x40000), (CAN_FLTMASK 3 31, CAN_FLTMASK_ID, 0x1FFC0000), (SYS_CLK, SYS_CLK_XOK, 1)] up
def canF (id : BitVec 29) : CanFrame := { ide := false, fdf := false, id := id, data := [7] }
theorem witness_CanSends : checks (let s := can3
    let full := s.updCn 3 (fun x => { x with tx := List.replicate 32 { frame := canF 0 } })
    let one := s.updCn 3 (fun x => { x with tx := [{ frame := canF 0 }] })
    let conn := put [(GRD_TXCTL 7, GRD_TXCTL_BUSY, 1)] (s.updCn 3 (fun x => { x with tx := [{ frame := canF 0, conn := some 7 }] }))
    let ab := one.updCn 3 (fun x => { x with abortPending := true })
    [accepted .coachman (CAN_TXCTL 3) (withField s (CAN_TXCTL 3) CAN_TXCTL_PUSH 1) s && yields (.push .coachman 3) s (fun t => (t.cn 3).tx.map (fun e => e.frame.data) = [[0x11]] && t.fld (CAN_TXCTL 3) CAN_TXCTL_LEVEL = 1),
    yields (.push .coachman 3) full (fun t => (t.cn 3).tx.length = 32 && t.flag (CAN_STAT 3) CAN_STAT_TXFULL),
    accepted .coachman (CAN_TXCTL 3) (withField one (CAN_TXCTL 3) CAN_TXCTL_ABORT 1) one && yields (.abort .coachman 3 true) one (fun t => (t.cn 3).tx.length = 1 && (t.cn 3).abortPending),
    yields (.abort .coachman 3 false) one (fun t => (t.cn 3).tx.isEmpty && t.flag (CAN_STAT 3) CAN_STAT_ABORTED),
    one.canActive 3 && yields (.txdone 3) one (fun t => (t.cn 3).tx.isEmpty && t.fld (CAN_TXCTL 3) CAN_TXCTL_SENT = 1 && t.evPending (evCom 7)),
    yields (.txdone 3) conn (fun t => (t.cn 3).tx.isEmpty && !t.flag (GRD_TXCTL 7) GRD_TXCTL_BUSY),
    yields (.lostArbitration 3) ab (fun t => (t.cn 3).tx.isEmpty && t.flag (CAN_STAT 3) CAN_STAT_ABORTED),
    yields (.lostArbitration 3) (put [(CAN_CFG 3, CAN_CFG_DAR, 1)] one) (fun t => (t.cn 3).tx.isEmpty),
    yields (.lostArbitration 3) one (fun t => (t.cn 3).tx.length = 1)]) = true := by decide +kernel

theorem witness_CanReceives : checks (let s := can3
    let f := canF 0x40000
    let q64 := { s with can := mset (fun _ => {}) s.can 3 { s.cn 3 with rxB := List.replicate 64 { frame := f, filt := 0, tag := 0, ts := 0 } } }
    [s.canActive 3 && s.canFilter 3 f = some 31 && yields (.canFrameReceived 3 f 320) s (fun t => (t.canQ 3 true).map (fun e => (e.filt, e.ts)) = [(31, 10)] && t.evPending (evCom 7) && t.flag (CAN_RXHDR 3 1) CAN_RXHDR_ND),
    s.canFilter 3 (canF 0x80000) = none && yields (.canFrameReceived 3 (canF 0x80000) 0) s (fun t => t.flag (CAN_STAT 3) CAN_STAT_NOMATCH && t.fld (CAN_CNT 3) CAN_CNT_NOMATCH = 1),
    yields (.canFrameReceived 3 f 0) q64 (fun t => (t.canQ 3 true).length = 64 && t.flag (CAN_STAT 3) CAN_STAT_RXLOST),
    accepted .coachman (CAN_RXPOP 3 1) 0 q64 && yields (.canPop .coachman 3 true 0) q64 (fun t => (t.canQ 3 true).length = 63),
    yields (.canPop .coachman 3 true 1) q64 (fun t => (t.canQ 3 true).length = 64)]) = true := by decide +kernel

theorem witness_CanErrors : checks (let s := put [(CAN_CFG 3, CAN_CFG_PXHE, 1), (CAN_TMCFG 3, CAN_TMCFG_TMEN, 1)] can3
    [s.canActive 3 && yields (.canBusError 3 { tec := 256, recv := 0 }) s (fun t => t.fld (CAN_ERR 3) CAN_ERR_STATE = 2 && t.flag (CAN_STAT 3) CAN_STAT_BUSOFF),
    yields (.canBusError 3 { tec := 127, recv := 128 }) s (fun t => t.fld (CAN_ERR 3) CAN_ERR_STATE = 1),
    yields (.canBusError 3 { tec := 127, recv := 127 }) s (fun t => t.fld (CAN_ERR 3) CAN_ERR_STATE = 0),
    yields (.canBusError 3 { tec := 0, recv := 0, protExc := true }) s (fun t => t.flag (CAN_STAT 3) CAN_STAT_PROTEXC),
    s.flag SYS_CLK SYS_CLK_XOK && yields (.busOffRecovery 3) (put [(CAN_ERR 3, CAN_ERR_STATE, 2), (CAN_ERR 3, CAN_ERR_TEC, 256)] s) (fun t => t.fld (CAN_ERR 3) CAN_ERR_STATE = 0 && t.fld (CAN_ERR 3) CAN_ERR_TEC = 0),
    yields (.busOffRecovery 3) (put [(CAN_ERR 3, CAN_ERR_STATE, 3), (CAN_ERR 3, CAN_ERR_TEC, 128)] s) (fun t => t.fld (CAN_ERR 3) CAN_ERR_STATE = 1 && t.fld (CAN_ERR 3) CAN_ERR_TEC = 128),
    yields (.referenceMessage 3 .skipped) s (fun t => t.flag (CAN_STAT 3) CAN_STAT_REFSKIP),
    yields (.referenceMessage 3 (.sent 320)) s (fun t => (t.cn 3).refCount = 1 && (t.cn 3).refPrev = some 10)]) = true := by decide +kernel

theorem witness_EthernetMac : checks (let s := put [(ETH_CFG, ETH_CFG_EN, 1), (ETH_CFG, ETH_CFG_PROM, 1), (ETH_STAT, ETH_STAT_LINK, 1), (ETH_RXR, ETH_RXR_NDESC, 1), (ETH_TXR, ETH_TXR_NDESC, 1), (ETH_TXR, ETH_TXR_BASE, 1), (SYS_CLK, SYS_CLK_XOK, 1)] up
    let ring := (s.setWord32 0x10800000 0x80000000).setWord32 0x10800004 2
    let f : EthFrame := { dst := 1, src := 2, etherType := 0x0800, payload := List.replicate 46 9 }
    let sends := { s.setWord32 0x10800010 0x80000001 with eth := { s.eth with scanning := true } }
    [s.ethUp && yields (.ethFrameReceived { f with good := false } 0 {}) s (fun t => t.flag ETH_STAT ETH_STAT_RXERR && t.fld ETH_CNT ETH_CNT_RXERR = 1),
    yields (.ethFrameReceived { f with payload := List.replicate 45 9 } 0 {}) s (fun t => t.fld ETH_CNT ETH_CNT_RXDROP = 1 && t.flag ETH_STAT ETH_STAT_RXERR),
    s.ethAccepts f && !(s.word32 0x10800000).getLsbD 31 && yields (.ethFrameReceived f 0 {}) s (fun t => t.flag ETH_STAT ETH_STAT_RXNOBUF && t.mem = []),
    !(put [(ETH_CFG, ETH_CFG_PROM, 0)] s).ethAccepts f && yields (.ethFrameReceived f 0 {}) (put [(ETH_CFG, ETH_CFG_PROM, 0)] s) (fun t => t.mem = []),
    (ring.word32 0x10800000).getLsbD 31 && region 0x10800000 = .tandem && yields (.ethFrameReceived f 0 {}) ring (fun t => t.byte (0x10800020 + 59) = 9 && t.word32 0x10800000 = 60 && t.flag ETH_STAT ETH_STAT_RXF),
    yields (.ethFrameSent 0 {}) { sends with eth := { sends.eth with guardQ := [[1]] } } (fun t => t.eth.guardQ.isEmpty && t.eth.scanning),
    (sends.word32 0x10800010).getLsbD 31 && yields (.ethFrameSent 0 {}) sends (fun t => !(t.word32 0x10800010).getLsbD 31 && t.flag ETH_STAT ETH_STAT_TXF),
    yields (.ethFrameSent 0 {}) { s with eth := { s.eth with scanning := true } } (fun t => !t.eth.scanning),
    accepted .coachman ETH_TXR (withField s ETH_TXR ETH_TXR_KICK 1) s && yields (.kick .coachman) s (fun t => t.eth.scanning),
    accepted .coachman ETH_MDIO (ETH_MDIO_GO.put 0 1) s && yields (.mdioGo .coachman 0) s (fun t => t.flag ETH_MDIO ETH_MDIO_BUSY),
    yields (.mdioDone 5) (put [(ETH_MDIO, ETH_MDIO_BUSY, 1), (ETH_MDIO, ETH_MDIO_RD, 1)] s) (fun t => t.fld ETH_MDIO ETH_MDIO_DATA = 5 && !t.flag ETH_MDIO ETH_MDIO_BUSY),
    yields (.ethLinkChange false 1) s (fun t => !t.flag ETH_STAT ETH_STAT_LINK && t.flag ETH_STAT ETH_STAT_LINKCHG && t.evPending (evCom 8))]) = true := by decide +kernel


/-! ### The invariant -/

theorem witness_CanonicalFormKept : checks (let s := { up.setByte 0x10000000 5 with pending := [.lixFetchDone] }
    [mwf memDefault s.mem && mwf regDefault s.regs && mwf lanDefault s.lan.words && mwf (fun _ => (0 : Byte)) s.lan.ram && s.mem.length = 1,
    (match step s with | .next t => t.pending.isEmpty | _ => false)]) = true := by decide +kernel

end Sys2Proof.Tests
end

section
/-! The scalar instructions (R47 to R57): the registers of a core after each of its updates, what an issued instruction
leaves, the values of the integer and fixed-point operations, and the statements about them. -/

namespace Sys2Proof.Proofs

open Sys2Proof Sys2Proof.Machine Sys2Proof.Safety Sys2Proof.Laws

/-! ### Reads of a core's registers after its updates -/

section
variable (c : CoreState)

theorem gr_setG (rd r : GReg) (v : Word) : (c.setG rd v).gr r = if r = rd ∧ r ≠ 0 then v else c.gr r := by
  by_cases hrd : rd = 0#5
  · have : ¬(r = rd ∧ r ≠ 0) := fun ⟨h, h0⟩ => h0 (h.trans hrd)
    rw [if_neg this]
    simp [CoreState.setG, hrd]
  · by_cases hr : r = 0#5
    · simp [CoreState.gr, hr]
    · simp [CoreState.gr, CoreState.setG, hrd, hr, mget_mset, BitVec.toNat_inj]

@[simp] theorem vr_setG (rd : GReg) (v : Word) (r : VReg) : (c.setG rd v).vr r = c.vr r := by
  unfold CoreState.setG; split <;> rfl
@[simp] theorem ar_setG (rd : GReg) (v : Word) (r : AReg) : (c.setG rd v).ar r = c.ar r := by
  unfold CoreState.setG; split <;> rfl
@[simp] theorem cx_setG (rd : GReg) (v : Word) (n : Nat) : (c.setG rd v).cx n = c.cx n := by
  unfold CoreState.setG; split <;> rfl
@[simp] theorem pc_setG (rd : GReg) (v : Word) : (c.setG rd v).pc = c.pc := by
  unfold CoreState.setG; split <;> rfl

@[simp] theorem gr_setA (a : AReg) (v : AWord) (r : GReg) : (c.setA a v).gr r = c.gr r := rfl
@[simp] theorem vr_setA (a : AReg) (v : AWord) (r : VReg) : (c.setA a v).vr r = c.vr r := rfl
@[simp] theorem cx_setA (a : AReg) (v : AWord) (n : Nat) : (c.setA a v).cx n = c.cx n := rfl
@[simp] theorem pc_setA (a : AReg) (v : AWord) : (c.setA a v).pc = c.pc := rfl
theorem ar_setA (a r : AReg) (v : AWord) : (c.setA a v).ar r = if r = a then v else c.ar r := by
  simp [CoreState.ar, CoreState.setA, mget_mset, BitVec.toNat_inj]

@[simp] theorem gr_setC (n : Nat) (v : Word) (r : GReg) : (c.setC n v).gr r = c.gr r := by
  unfold CoreState.setC; split <;> rfl
@[simp] theorem vr_setC (n : Nat) (v : Word) (r : VReg) : (c.setC n v).vr r = c.vr r := by
  unfold CoreState.setC; split <;> rfl
@[simp] theorem ar_setC (n : Nat) (v : Word) (r : AReg) : (c.setC n v).ar r = c.ar r := by
  unfold CoreState.setC; split <;> rfl
@[simp] theorem pc_setC (n : Nat) (v : Word) : (c.setC n v).pc = c.pc := by
  unfold CoreState.setC; split <;> rfl
/-- CYCLE and CYCLEH take no write (R49); every other control register reads what was written. -/
theorem cx_setC {n : Nat} (hn : ¬(n = cCYCLE ∨ n = cCYCLEH)) (v : Word) (m : Nat) :
    (c.setC n v).cx m = if m = n then v else c.cx m := by
  rw [not_or] at hn
  by_cases hm : m = n
  · subst hm
    simp [CoreState.cx, CoreState.setC, hn]
  · simp [CoreState.cx, CoreState.setC, hn, hm, mget_mset_of_ne]

@[simp] theorem gr_flags (f : Word) (r : GReg) : (c.flags f).gr r = c.gr r := gr_setC ..
@[simp] theorem vr_flags (f : Word) (r : VReg) : (c.flags f).vr r = c.vr r := vr_setC ..
@[simp] theorem ar_flags (f : Word) (r : AReg) : (c.flags f).ar r = c.ar r := ar_setC ..
@[simp] theorem pc_flags (f : Word) : (c.flags f).pc = c.pc := pc_setC ..
theorem cx_flags (f : Word) (n : Nat) : (c.flags f).cx n = if n = cFSTAT then c.cx cFSTAT ||| f else c.cx n :=
  cx_setC c (by decide) _ n

@[simp] theorem gr_qsat (b : Bool) (r : GReg) : (c.qsat b).gr r = c.gr r := by cases b <;> simp [CoreState.qsat]
@[simp] theorem vr_qsat (b : Bool) (r : VReg) : (c.qsat b).vr r = c.vr r := by cases b <;> simp [CoreState.qsat]
@[simp] theorem ar_qsat (b : Bool) (r : AReg) : (c.qsat b).ar r = c.ar r := by cases b <;> simp [CoreState.qsat]
@[simp] theorem pc_qsat (b : Bool) : (c.qsat b).pc = c.pc := by cases b <;> simp [CoreState.qsat]
/-- QSAT joins FSTAT where a result saturated (R52). -/
theorem cx_qsat (b : Bool) (n : Nat) :
    (c.qsat b).cx n = if n = cFSTAT then c.cx cFSTAT ||| flagIf b 32 else c.cx n := by
  cases b
  · simp only [CoreState.qsat, flagIf, Bool.false_eq_true, if_false]
    split <;> simp_all
  · simpa [CoreState.qsat, flagIf, fQSAT] using cx_flags c fQSAT n

end

/-! ### What an issued instruction leaves -/

/-- Two cores hold the same registers, but for the cycle count of a core of the Troika (R49). -/
def SameRegisters (h : Hart) (c d : CoreState) : Prop :=
  d.pc = c.pc ∧ (∀ r, d.gr r = c.gr r) ∧ (∀ r, d.vr r = c.vr r) ∧ (∀ r, d.ar r = c.ar r) ∧
    ∀ n, (h = .troika → n ≠ cCYCLE ∧ n ≠ cCYCLEH) → d.cx n = c.cx n

theorem SameRegisters.refl (h : Hart) (c : CoreState) : SameRegisters h c c :=
  ⟨rfl, fun _ => rfl, fun _ => rfl, fun _ => rfl, fun _ _ => rfl⟩

/-- After an instruction of the Troika the cycle count moves on, a single step that has completed is used up, and one
free value is drawn. -/
theorem countCycles_eq (s : State) : countCycles s = { s with
    troika := { s.troika with
      core := { s.troika.core with cycle := s.troika.core.cycle + BitVec.ofNat 64 (Config.issueCycles s.draws) }
      stepArmed := !(decide (s.troika.wait = .none) && !s.troika.heldAccess) && s.troika.stepArmed }
    draws := s.draws + 1 } := by
  by_cases hw : s.troika.wait = .none <;> cases ha : s.troika.heldAccess <;>
    simp [countCycles, stepOver, State.updTrk, State.drew, hw, ha]

theorem countCycles_core (s : State) : SameRegisters .troika (s.core .troika) ((countCycles s).core .troika) := by
  rw [countCycles_eq]
  refine ⟨rfl, fun _ => rfl, fun _ => rfl, fun _ => rfl, fun n hn => ?_⟩
  obtain ⟨h7, h8⟩ := hn rfl
  simp [State.core, CoreState.cx, h7, h8]

theorem issue_lantern {s : State} (hr : Ready .lantern s) (body : State → State) :
    issue .lantern body s = .next (body s) := by
  simp [issue, hr.1]

/-- An instruction of the Troika after which no imprecise error is due ends with its cycle count. -/
theorem issue_troika {s : State} (hr : Ready .troika s) (body : State → State)
    (hi : (body s).troika.imprecise = []) : issue .troika body s = .next (countCycles (body s)) := by
  have hc : (countCycles (body s)).troika.imprecise = [] := by rw [countCycles_eq]; exact hi
  simp [issue, hr.1, deliverImprecise, hc]

/-- A Troika that may issue is awake, waits for nothing and holds no access (R87, R241). -/
theorem ready_troika {s : State} (hr : Ready .troika s) :
    s.awake = true ∧ s.troika.wait = .none ∧ s.troika.heldAccess = false := by
  have h := hr.1
  simp only [State.issues, State.trkIssues, Bool.and_eq_true, decide_eq_true_eq, Bool.not_eq_true'] at h
  obtain ⟨⟨⟨⟨⟨⟨hawake, -⟩, -⟩, -⟩, -⟩, hwait⟩, hheld⟩ := h
  exact ⟨hawake, hwait, hheld⟩

/-- An instruction that changes the core's registers by `f` retires: the core holds what `f` leaves, the next
instruction follows, and nothing else changes. -/
theorem issue_retire {h : Hart} {s : State} (hr : Ready h s) (f : CoreState → CoreState) :
    ∃ t, issue h (retire h f) s = .next t ∧ OnlyCore h s t ∧
      SameRegisters h (f (s.core h)).advance (t.core h) := by
  cases h with
  | lantern => exact ⟨_, issue_lantern hr _, rfl, SameRegisters.refl ..⟩
  | troika =>
    refine ⟨_, issue_troika hr _ hr.2, ?_, countCycles_core _⟩
    obtain ⟨-, hw, ha⟩ := ready_troika hr
    simp [OnlyCore, countCycles_eq, retire, State.updCore, State.setCore, State.core, hw, ha]

theorem common_of_lowRegs {h : Hart} {rs : List GReg} (hl : lowRegs h rs = true) (body : State → State) (s : State) :
    common h rs body s = issue h body s := by
  simp [common, hl]

/-- An instruction whose change of the core's registers writes g(rd) and sets flags retires so. -/
theorem issue_retire_writesG {h : Hart} {s : State} (hr : Ready h s) {rd : GReg} {v fl : Word}
    {f : CoreState → CoreState} (hpc : (f (s.core h)).pc = (s.core h).pc)
    (hw : WritesG h rd v fl (s.core h) (f (s.core h))) :
    ∃ t, issue h (retire h f) s = .next t ∧ RetiresG h rd v fl s t := by
  obtain ⟨t, ht, ho, hpc', hg, hv, ha, hx⟩ := issue_retire hr f
  obtain ⟨wg, wv, wa, wf, wk⟩ := hw
  refine ⟨t, ht, ho, ?_, fun r => (hg r).trans (wg r), fun r => (hv r).trans (wv r), fun r => (ha r).trans (wa r),
    ?_, ?_⟩
  · rw [hpc', ← hpc]; rfl
  · exact (hx cFSTAT (fun _ => by decide)).trans wf
  · exact fun n hn hc => (hx n hc).trans (wk n hn hc)

theorem writesG_setG (h : Hart) (rd : GReg) (v : Word) (c : CoreState) : WritesG h rd v 0 c (c.setG rd v) :=
  ⟨fun r => gr_setG c rd r v, vr_setG c rd v, ar_setG c rd v, by simp, fun n _ _ => cx_setG c rd v n⟩

theorem writesG_put (h : Hart) (rd : GReg) (v fl : Word) (c : CoreState) : WritesG h rd v fl c (c.put rd (v, fl)) := by
  refine ⟨fun r => ?_, fun r => ?_, fun r => ?_, ?_, fun n hn _ => ?_⟩ <;> simp only [CoreState.put]
  · rw [gr_setG, gr_flags]
  · simp
  · simp
  · simp [cx_flags]
  · simp [cx_flags, hn]

theorem writesG_putQ (h : Hart) (rd : GReg) (v : Word) (b : Bool) (c : CoreState) :
    WritesG h rd v (flagIf b 32) c (c.putQ rd (v, b)) := by
  refine ⟨fun r => ?_, fun r => ?_, fun r => ?_, ?_, fun n hn _ => ?_⟩ <;> simp only [CoreState.putQ]
  · rw [gr_setG, gr_qsat]
  · simp
  · simp
  · simp [cx_qsat]
  · simp [cx_qsat, hn]

/-- An instruction that gives rd a function of the core's state retires with its value. -/
theorem common_setRd {h : Hart} {s : State} (hr : Ready h s) {rs : List GReg} (hl : lowRegs h rs = true) {rd : GReg}
    {f : CoreState → Word} {v : Word} (hv : f (s.core h) = v) :
    ∃ t, common h rs (setRd h rd f) s = .next t ∧ RetiresG h rd v 0 s t := by
  rw [common_of_lowRegs hl, ← hv]
  exact issue_retire_writesG hr (pc_setG ..) (writesG_setG ..)

/-! ### The values of the integer instructions (R51, R56, R57) -/

/-- An arithmetic right shift is the quotient by a power of two, toward minus infinity. -/
theorem sshiftRight_eq_fdiv {w : Nat} (x : BitVec w) (n : Nat) :
    x.sshiftRight n = BitVec.ofInt w (x.toInt.fdiv (2 ^ n)) := by
  rw [BitVec.sshiftRight, Int.shiftRight_eq_div_pow, Int.fdiv_eq_ediv_of_nonneg _ (by positivity)]
  norm_cast

theorem word_b2n (b : Bool) : word (b2n b) = if b then 1 else 0 := by cases b <;> rfl

theorem ltVal_eq (u : Bool) (x y : Word) :
    ltVal u x y = if u then decide (x.toNat < y.toNat) else decide (x.toInt < y.toInt) := by
  cases u <;> rfl

theorem minMaxVal_eq (mx : Bool) (x y : Word) :
    minMaxVal mx x y = BitVec.ofInt 32 (if mx then max x.toInt y.toInt else min x.toInt y.toInt) := by
  have hx : BitVec.ofInt 32 x.toInt = x := BitVec.ofInt_toInt
  have hy : BitVec.ofInt 32 y.toInt = y := BitVec.ofInt_toInt
  rcases lt_or_ge x.toInt y.toInt with hlt | hge
  · cases mx <;> simp [minMaxVal, BitVec.slt, hlt, hlt.le, hx, hy]
  · cases mx <;> simp [minMaxVal, BitVec.slt, not_lt.mpr hge, hge, hx, hy]

/-- CLZ counts the zeros above the leading one (R57). -/
theorem clzW_bounds (x : Word) :
    clzW x ≤ 32 ∧ x.toNat < 2 ^ (32 - clzW x) ∧ (clzW x < 32 → 2 ^ (31 - clzW x) ≤ x.toNat) := by
  by_cases hx : x.toNat = 0
  · simp [clzW, hx]
  · have hlog : x.toNat.log2 < 32 := (Nat.log2_lt hx).2 x.isLt
    have hc : clzW x = 31 - x.toNat.log2 := by simp [clzW, hx]
    have hup : 32 - clzW x = x.toNat.log2 + 1 := by omega
    have hlo : 31 - clzW x = x.toNat.log2 := by omega
    rw [hup, hlo]
    exact ⟨by omega, Nat.lt_log2_self, fun _ => Nat.log2_self_le hx⟩

theorem mulHigh_signed (x y : Word) :
    mulHigh false x y = BitVec.ofInt 32 ((x.toInt * y.toInt).fdiv (2 ^ 32)) := by
  rw [Int.fdiv_eq_ediv_of_nonneg _ (by positivity)]
  rfl

theorem toInt_eq_zero (y : Word) : y.toInt = 0 ↔ y = 0#32 := by
  rw [← BitVec.toInt_inj, BitVec.toInt_zero]

theorem divVal_div (x y : Word) :
    divVal .div x y = if y = 0 then 0 else BitVec.ofInt 32 (x.toInt.tdiv y.toInt) := by
  by_cases hy : y = 0#32 <;> simp [divVal, divS, wordI, toInt_eq_zero, hy]

theorem divVal_rem (x y : Word) :
    divVal .rem x y = if y = 0 then x else BitVec.ofInt 32 (x.toInt.tmod y.toInt) := by
  by_cases hy : y = 0#32 <;> simp [divVal, remS, wordI, toInt_eq_zero, hy]

theorem flagIf_zero_divisor (y : Word) : (if y = 0 then fIDZ else 0) = flagIf (decide (y = 0)) 64 := by
  simp [flagIf, fIDZ]

theorem toInt_sext16 (i : BitVec 16) : (sext16 i).toInt = i.toInt := BitVec.toInt_signExtend_of_le (by decide)

theorem zext16_eq (i : BitVec 16) : zext16 i = BitVec.ofNat 32 i.toNat := (BitVec.ofNat_toNat ..).symm

/-- LUI shifts its zero-extended immediate by 16 (R56). -/
theorem zext16_shift (i : BitVec 16) : zext16 i <<< 16 = BitVec.ofNat 32 (i.toNat * 2 ^ 16) := by
  refine BitVec.eq_of_toNat_eq ?_
  have hi := i.isLt
  simp only [zext16, BitVec.toNat_shiftLeft, BitVec.toNat_setWidth, BitVec.toNat_ofNat, Nat.shiftLeft_eq,
    BitVec.zeroExtend_eq_setWidth]
  omega

/-! ### The integer instructions -/

theorem integerAluResults : Rules.IntegerAluResults := by
  intro h s hr rd rs1 rs2 x y
  refine ⟨fun hl => ⟨fun op => ?_, fun op => ?_, fun u => ?_, fun mx => ?_⟩, fun hl => ⟨?_, fun op amt => ?_⟩⟩
  · cases op <;> exact common_setRd hr hl rfl
  · cases op
    case sra => exact common_setRd hr hl (sshiftRight_eq_fdiv x _)
    all_goals exact common_setRd hr hl rfl
  · exact common_setRd hr hl ((word_b2n _).trans (by rw [ltVal_eq]))
  · exact common_setRd hr hl (minMaxVal_eq mx x y)
  · obtain ⟨hle, hlt, hge⟩ := clzW_bounds x
    obtain ⟨t, ht, hres⟩ := common_setRd hr hl (rd := rd) (f := fun c => word (clzW (c.gr rs1))) rfl
    exact ⟨t, clzW x, ht, hle, hlt, hge, hres⟩
  · cases op
    case sra => exact common_setRd hr hl (sshiftRight_eq_fdiv x _)
    all_goals exact common_setRd hr hl rfl

theorem multiplyDivideResults : Rules.MultiplyDivideResults := by
  intro h s hr rd rs1 rs2 hl x y
  have divides : ∀ op v, divVal op x y = v → ∃ t, exec (.divDivuRemRemu h op rd rs1 rs2) s = .next t ∧
      RetiresG h rd v (flagIf (decide (y = 0)) 64) s t := by
    intro op v hv
    rw [← hv, ← flagIf_zero_divisor]
    obtain ⟨t, ht, hres⟩ := issue_retire_writesG hr
      (f := fun c => c.put rd (divVal op (c.gr rs1) (c.gr rs2), if c.gr rs2 = 0 then fIDZ else 0))
      (by simp [CoreState.put]) (writesG_put ..)
    exact ⟨t, (common_of_lowRegs hl _ s).trans ht, hres⟩
  refine ⟨?_, ?_, ?_, fun op => ?_⟩
  · exact common_setRd hr hl BitVec.mul_def
  · exact common_setRd hr hl rfl
  · exact common_setRd hr hl (mulHigh_signed x y)
  · cases op
    case div => exact divides .div _ (divVal_div x y)
    case rem => exact divides .rem _ (divVal_rem x y)
    all_goals exact divides _ _ rfl

theorem immediateResults : Rules.ImmediateResults := by
  intro h s hr rd rs1 imm hl x signed zero
  have hrd : lowRegs h [rd] = true := by
    cases h
    · rfl
    · simp only [lowRegs, List.all_cons, Bool.and_eq_true] at hl ⊢
      exact ⟨hl.1, rfl⟩
  have hsigned : sext16 imm = signed := rfl
  refine ⟨?_, ?_, ?_, ?_, ?_, ?_, ?_⟩
  · exact common_setRd hr hl rfl
  · exact common_setRd hr hl (by rw [zext16_eq])
  · exact common_setRd hr hl (by rw [zext16_eq])
  · exact common_setRd hr hl (by rw [zext16_eq])
  · refine common_setRd hr hl ((word_b2n _).trans ?_)
    simp [BitVec.slt, toInt_sext16, x]
  · refine common_setRd hr hl ((word_b2n _).trans ?_)
    simp [BitVec.ult, hsigned, x]
  · exact common_setRd hr hrd (zext16_shift imm)

/-- Settles O3: each instruction gives rd the value of its operation and changes nothing else. -/
theorem scalarIntegerResults : Obligations.ScalarIntegerResults :=
  ⟨integerAluResults, multiplyDivideResults, immediateResults⟩

end Sys2Proof.Proofs
end

section
/-! The fixed-point and accumulator instructions (R52, R53, R57): saturation and rounding as exact integers, and the
statements about them. -/

namespace Sys2Proof.Proofs

open Sys2Proof Sys2Proof.Machine Sys2Proof.Safety Sys2Proof.Laws

/-! ### Saturation and rounding (R52) -/

/-- The narrowing of the model is saturation, and its flag says that the value changed. -/
theorem satI_eq (n : Nat) (x : Int) : satI n x = (saturate n x, decide (saturate n x ≠ x)) := by
  have hpos : (0 : Int) < 2 ^ (n - 1) := by positivity
  have hsat : saturate n x = max (-(2 ^ (n - 1))) (min (2 ^ (n - 1) - 1) x) := rfl
  by_cases hi : 2 ^ (n - 1) - 1 < x
  · have : saturate n x = 2 ^ (n - 1) - 1 := by omega
    rw [decide_eq_true (by omega), this]
    simp [satI, hi]
  · by_cases lo : x < -(2 ^ (n - 1))
    · have : saturate n x = -(2 ^ (n - 1)) := by omega
      rw [decide_eq_true (by omega), this]
      simp [satI, hi, lo]
    · have : saturate n x = x := by omega
      simp [satI, hi, lo, this]

theorem satW_eq (x : Int) : satW x = (BitVec.ofInt 32 (saturate 32 x), decide (saturate 32 x ≠ x)) := by
  simp [satW, satI_eq, wordI]

theorem satH_eq (x : Int) : satH x = (BitVec.ofInt 32 (saturate 16 x), decide (saturate 16 x ≠ x)) := by
  simp [satH, satI_eq, wordI]

theorem satA_eq (x : Int) : satA x = (BitVec.ofInt 72 (saturate 72 x), decide (saturate 72 x ≠ x)) := by
  simp [satA, satI_eq]

/-- The rounding shift of the model rounds half up. -/
theorem rshr_eq (x : Int) (n : Nat) : rshr x n = roundHalfUp x n := by
  rw [roundHalfUp, Int.fdiv_eq_ediv_of_nonneg _ (by positivity)]
  cases n with
  | zero => simp only [rshr, if_true]; omega
  | succ m =>
    have hnum : 2 * x + 2 ^ (m + 1) = 2 * (x + 2 ^ m) := by ring
    have hden : (2 : Int) ^ (m + 1 + 1) = 2 * 2 ^ (m + 1) := by ring
    rw [hnum, hden, Int.mul_ediv_mul_of_pos _ _ (by decide)]
    simp [rshr]

theorem qnegAbs_eq (abs : Bool) (x : Int) : qnegAbs abs x = if abs then |x| else -x := by
  simp [qnegAbs]

/-! ### The fixed-point instructions -/

/-- An instruction that gives rd a saturated function of the core's state retires with it, and with QSAT where it
saturated. -/
theorem issue_setQ {h : Hart} {s : State} (hr : Ready h s) {rd : GReg} {f : CoreState → Word × Bool} {n : Nat}
    {x : Int} (hf : f (s.core h) = (BitVec.ofInt 32 (saturate n x), decide (saturate n x ≠ x))) :
    ∃ t, issue h (setQ h rd f) s = .next t ∧ RetiresQ h rd n x s t := by
  refine issue_retire_writesG hr (by simp [CoreState.putQ]) ?_
  rw [hf]
  exact writesG_putQ ..

theorem common_setQ {h : Hart} {s : State} (hr : Ready h s) {rs : List GReg} (hl : lowRegs h rs = true) {rd : GReg}
    {f : CoreState → Word × Bool} {n : Nat} {x : Int}
    (hf : f (s.core h) = (BitVec.ofInt 32 (saturate n x), decide (saturate n x ≠ x))) :
    ∃ t, common h rs (setQ h rd f) s = .next t ∧ RetiresQ h rd n x s t := by
  rw [common_of_lowRegs hl]
  exact issue_setQ hr hf

theorem fixedPointResults : Rules.FixedPointResults := by
  intro h s hr rd rs1 rs2 x y xh yh
  refine ⟨fun hl => ⟨fun sub => ?_, fun sub => ?_⟩, fun hl => ⟨fun abs => ?_, ?_⟩, ?_⟩
  · exact common_setQ hr hl (satW_eq _)
  · exact common_setQ hr hl (satH_eq _)
  · exact common_setQ hr hl (by rw [satW_eq, qnegAbs_eq]; rfl)
  · exact common_setQ hr hl (by simp only [narrowQ, satI_eq, rshr_eq]; rfl)
  · rintro rfl
    refine ⟨?_, ?_, ?_, ?_⟩
    · exact issue_setQ hr (by rw [satW_eq, qmulWide, rshr_eq]; rfl)
    · exact issue_setQ hr (by rw [satH_eq, qmulHalf, rshr_eq]; rfl)
    · exact issue_setQ hr (satW_eq _)
    · exact issue_setQ hr (by rw [satW_eq, rshr_eq]; rfl)

/-! ### The accumulator instructions (R53) -/

/-- An instruction of the Troika that writes one accumulator and sets flags retires so. -/
theorem issue_retire_setA {s : State} (hr : Ready .troika s) {a : AReg} {v : AWord} {fl : Word}
    {f : CoreState → CoreState} {d : CoreState} (hf : f (s.core .troika) = d.setA a v)
    (hpc : d.pc = (s.core .troika).pc) (hw : WritesG .troika 0 0 fl (s.core .troika) d) :
    ∃ t, issue .troika (retire .troika f) s = .next t ∧ RetiresA a v fl s t := by
  obtain ⟨t, ht, ho, hpc', hg, hv, ha, hx⟩ := issue_retire hr f
  obtain ⟨wg, wv, wa, wf, wk⟩ := hw
  rw [hf] at hpc' hg hv ha hx
  refine ⟨t, ht, ho, ?_, fun r => (hg r).trans ?_, fun r => (hv r).trans (wv r), fun r => (ha r).trans ?_, ?_, ?_⟩
  · rw [hpc', ← hpc]; rfl
  · exact (wg r).trans (if_neg fun hr => hr.2 hr.1)
  · rw [← wa r]; exact ar_setA d a r v
  · exact (hx cFSTAT (fun _ => by decide)).trans wf
  · exact fun n hn hc => (hx n hc).trans (wk n hn hc)

/-- A write of g0 is none: the registers stand as they were. -/
theorem writesG_none (h : Hart) (c : CoreState) : WritesG h 0 0 0 c c := writesG_setG h 0 0 c

theorem writesG_qsat (h : Hart) (b : Bool) (c : CoreState) : WritesG h 0 0 (flagIf b 32) c (c.qsat b) :=
  writesG_putQ h 0 0 b c

/-- An accumulate saturates to 72 bits, with QSAT where it does. -/
theorem issue_putAcc {s : State} (hr : Ready .troika s) {a : AReg} {x : CoreState → Int} {v : Int}
    (hv : x (s.core .troika) = v) :
    ∃ t, issue .troika (retire .troika fun c => putAcc c a (x c)) s = .next t ∧
      RetiresA a (BitVec.ofInt 72 (saturate 72 v)) (qsatIf 72 v) s t := by
  have hf : putAcc (s.core .troika) a (x (s.core .troika)) =
      ((s.core .troika).qsat (decide (saturate 72 v ≠ v))).setA a (BitVec.ofInt 72 (saturate 72 v)) := by
    rw [hv, putAcc, satA_eq]
  exact issue_retire_setA hr hf (pc_qsat ..) (writesG_qsat ..)

theorem accumulatorResults : Rules.AccumulatorResults := by
  intro s hr a rd rs1 rs2 x y acc accumulates
  refine ⟨fun sub => ?_, fun sub => ?_, ?_, ?_, ?_, fun amt => ?_⟩
  · exact issue_putAcc hr rfl
  · exact issue_putAcc hr rfl
  · exact issue_retire_setA hr rfl rfl (writesG_none ..)
  · exact issue_retire_setA hr rfl rfl (writesG_none ..)
  · exact issue_setQ hr (by rw [satW_eq, rshr_eq])
  · exact issue_retire_setA hr (by rw [sshiftRight_eq_fdiv]) rfl (writesG_none ..)

/-- Settles O5: each instruction narrows its exact value by saturation, with QSAT where that changes it. -/
theorem scalarFixedResults : Obligations.ScalarFixedResults := ⟨fixedPointResults, accumulatorResults⟩

end Sys2Proof.Proofs
end

section
/-! Events and ECC notes (R35, R251, R260): what raising a source and noting an error leave unchanged, and which flags
stand after them. -/

namespace Sys2Proof.Proofs

open Sys2Proof Sys2Proof.Machine Sys2Proof.Safety Sys2Proof.Laws

/-! ### What a raise leaves unchanged -/

/-- Nothing changes but what reports an event: registers, wake-pending states, the Coupler's forwards and the Lantern
domain. -/
def OnlyEvents (s t : State) : Prop :=
  ∃ regs wakePend cpl words, t =
    { s with regs := regs, wakePend := wakePend, cpl := cpl, lan := { s.lan with words := words } }

section
variable {s t u : State}

theorem OnlyEvents.refl : OnlyEvents s s := ⟨_, _, _, _, rfl⟩
theorem OnlyEvents.trans (h : OnlyEvents s t) (h' : OnlyEvents t u) : OnlyEvents s u := by
  obtain ⟨_, _, _, _, rfl⟩ := h
  obtain ⟨_, _, _, _, rfl⟩ := h'
  exact ⟨_, _, _, _, rfl⟩
theorem OnlyEvents.ite {c : Prop} [Decidable c] (h : OnlyEvents s t) (h' : OnlyEvents s u) :
    OnlyEvents s (if c then t else u) := by
  split
  · exact h
  · exact h'
theorem OnlyEvents.troika (h : OnlyEvents s t) : t.troika = s.troika := by obtain ⟨_, _, _, _, rfl⟩ := h; rfl
theorem OnlyEvents.core (h : OnlyEvents s t) : t.core .troika = s.core .troika := congrArg Troika.core h.troika
theorem OnlyEvents.mem (h : OnlyEvents s t) : t.mem = s.mem := by obtain ⟨_, _, _, _, rfl⟩ := h; rfl
theorem OnlyEvents.poison (h : OnlyEvents s t) : t.poison = s.poison := by obtain ⟨_, _, _, _, rfl⟩ := h; rfl
theorem OnlyEvents.awake (h : OnlyEvents s t) : t.awake = s.awake := by obtain ⟨_, _, _, _, rfl⟩ := h; rfl

end

variable (s : State)

theorem wr_onlyEvents (o : Nat) (w : Word) : OnlyEvents s (s.wr o w) := ⟨_, _, _, _, rfl⟩
theorem sq_onlyEvents (o : Nat) (f : Fld) : OnlyEvents s (s.sq o f) := wr_onlyEvents ..
theorem rc_onlyEvents (o : Nat) (f : Fld) (k : Nat) : OnlyEvents s (s.rc o f k) := wr_onlyEvents ..

/-- Nothing changes but what reports an event, and no register but EVT_CNT and THM_BG. -/
def Forwards (s t : State) : Prop := OnlyEvents s t ∧ ∀ o, o ≠ EVT_CNT → o ≠ THM_BG → t.rd o = s.rd o

section
variable {s t u : State}

theorem Forwards.refl : Forwards s s := ⟨OnlyEvents.refl, fun _ _ _ => rfl⟩
theorem Forwards.trans (h : Forwards s t) (h' : Forwards t u) : Forwards s u :=
  ⟨h.1.trans h'.1, fun o h1 h2 => (h'.2 o h1 h2).trans (h.2 o h1 h2)⟩
theorem Forwards.ite {c : Prop} [Decidable c] (h : Forwards s t) (h' : Forwards s u) :
    Forwards s (if c then t else u) := by
  split
  · exact h
  · exact h'

end

theorem rc_evtCnt_forwards (f : Fld) : Forwards s (s.rc EVT_CNT f) :=
  ⟨wr_onlyEvents .., fun _ h1 _ => rd_wr_of_ne s _ h1⟩
theorem setFlag_thmBg_forwards (f : Fld) (b : Bool) : Forwards s (s.setFlag THM_BG f b) :=
  ⟨wr_onlyEvents .., fun _ _ h2 => rd_wr_of_ne s _ h2⟩
theorem wakePend_forwards (l : List (Nat × Nat)) : Forwards s { s with wakePend := l } :=
  ⟨⟨_, _, _, _, rfl⟩, fun _ _ _ => rfl⟩
theorem cpl_forwards (c : Coupler) : Forwards s { s with cpl := c } := ⟨⟨_, _, _, _, rfl⟩, fun _ _ _ => rfl⟩

/-- One raise sets the pending flag of its source; what follows counts and forwards it (R260, R262, R357). -/
theorem raiseOnce_forwards (src : Nat) :
    Forwards (s.sqMask (EVT_PEND (src / 24)) (word (2 ^ (src % 24)))) (raiseOnce src s) := by
  unfold raiseOnce
  extract_lets cfg pended overrun woken ended
  have hoverrun : Forwards pended overrun :=
    (rc_evtCnt_forwards ..).ite ((wakePend_forwards ..).ite .refl)
  have hwoken : Forwards overrun woken := (wakePend_forwards ..).ite .refl
  have hended : Forwards woken ended := (setFlag_thmBg_forwards ..).ite .refl
  exact ((hoverrun.trans hwoken).trans hended).trans
    (((rc_evtCnt_forwards ..).ite (cpl_forwards ..)).ite .refl)

theorem raiseOnce_onlyEvents (src : Nat) : OnlyEvents s (raiseOnce src s) :=
  (wr_onlyEvents s _ _).trans (raiseOnce_forwards s src).1

theorem wakeLantern_onlyEvents : OnlyEvents s (wakeLantern s) :=
  OnlyEvents.ite ⟨_, _, _, _, rfl⟩ .refl

theorem raise_onlyEvents (src : Nat) : OnlyEvents s (s.raise src) := by
  have hagain := ((raiseOnce_onlyEvents s src).trans (rc_onlyEvents _ (AXL_CNTS (src / 16)) AXL_CNTS_OVR 1)).trans
    (raiseOnce_onlyEvents _ (evAxle (src / 16) 11))
  exact OnlyEvents.refl.ite ((hagain.ite (raiseOnce_onlyEvents s src)).trans (wakeLantern_onlyEvents _))

/-! ### Flags that a raise sets and keeps -/

/-- An event on flags of a register clears no flag of any register (R35). -/
theorem sqMask_keeps_bit {o i : Nat} (hi : i < 24) (o' : Nat) (m : Word) (h : (s.rd o).getLsbD i = true) :
    ((s.sqMask o' m).rd o).getLsbD i = true := by
  by_cases ho : o = o'
  · subst ho
    have : ¬(24 ≤ i) := by omega
    simp [State.sqMask, put_getLsbD, seqFld, this, h]
  · simpa [State.sqMask, rd_wr_of_ne _ _ ho] using h

/-- An event sets its flags (R35). -/
theorem sqMask_sets_bit {o i : Nat} (hi : i < 24) {m : Word} (hm : m.getLsbD i = true) :
    ((s.sqMask o m).rd o).getLsbD i = true := by
  have : ¬(24 ≤ i) := by omega
  simp [State.sqMask, put_getLsbD, seqFld, this, hm]

theorem wakeLantern_rd (o : Nat) : (wakeLantern s).rd o = s.rd o := by
  unfold wakeLantern
  split <;> rfl

/-- A raise of a source other than an Axle timing source, with the clocks running: the pending flag of the source, and
no overrun source (R260, R262). -/
theorem raise_rd {src o : Nat} (ha : s.awake = true) (hs : 0x40 ≤ src) (he : evReserved src = false)
    (h1 : o ≠ EVT_CNT) (h2 : o ≠ THM_BG) :
    (s.raise src).rd o = (s.sqMask (EVT_PEND (src / 24)) (word (2 ^ (src % 24)))).rd o := by
  have hlow : ¬ src < 0x40 := by omega
  simp [State.raise, he, ha, hlow, wakeLantern_rd, (raiseOnce_forwards s src).2 o h1 h2]

theorem raise_keeps_bit {src o i : Nat} (ha : s.awake = true) (hs : 0x40 ≤ src) (he : evReserved src = false)
    (h1 : o ≠ EVT_CNT) (h2 : o ≠ THM_BG) (hi : i < 24) (h : (s.rd o).getLsbD i = true) :
    ((s.raise src).rd o).getLsbD i = true := by
  rw [raise_rd s ha hs he h1 h2]
  exact sqMask_keeps_bit s hi _ _ h

/-- A memory source is pending after its raise (R260). -/
theorem raise_evMem_pending {k : Nat} (hk : k < 13) (ha : s.awake = true) :
    (s.raise (evMem k)).evPending (evMem k) = true := by
  have he : evReserved (evMem k) = false := by unfold evMem; interval_cases k <;> rfl
  have hlt : evMem k % 24 < 24 := Nat.mod_lt _ (by decide)
  have hdiv : evMem k / 24 < 11 := by unfold evMem; omega
  unfold State.evPending
  rw [raise_rd s ha (by unfold evMem; omega) he (by unfold EVT_PEND EVT_CNT; omega) (by unfold EVT_PEND THM_BG; omega)]
  refine sqMask_sets_bit s hlt ?_
  simp only [word, BitVec.getLsbD_ofNat, Nat.testBit_two_pow_self, Bool.and_true, decide_eq_true_eq]
  omega

/-! ### ECC notes (R251) -/

/-- An uncorrectable error is reported: MEM_STAT.UE is set and MEM_UE is pending. -/
def UeReported (s : State) : Prop := s.flag MEM_STAT MEM_STAT_UE = true ∧ s.evPending (evMem 1) = true

/-- An uncorrectable error ends with UE and the raise of MEM_UE. -/
theorem noteEcc_true_eq (a : Nat) :
    ∃ u, OnlyEvents s u ∧ noteEcc true a s = (u.sq MEM_STAT MEM_STAT_UE).raise (evMem 1) := by
  unfold noteEcc
  extract_lets st captured
  have hcaptured : OnlyEvents s captured := (wr_onlyEvents ..).ite .refl
  exact ⟨_, hcaptured.trans (rc_onlyEvents ..), if_pos rfl⟩

theorem noteEcc_true_onlyEvents (a : Nat) : OnlyEvents s (noteEcc true a s) := by
  obtain ⟨u, hu, he⟩ := noteEcc_true_eq s a
  rw [he]
  exact (hu.trans (sq_onlyEvents ..)).trans (raise_onlyEvents ..)

theorem noteEcc_true_reports (a : Nat) (ha : s.awake = true) : UeReported (noteEcc true a s) := by
  obtain ⟨u, hu, he⟩ := noteEcc_true_eq s a
  have hawake : (u.sq MEM_STAT MEM_STAT_UE).awake = true := ((hu.trans (sq_onlyEvents ..)).awake).trans ha
  rw [he]
  refine ⟨?_, raise_evMem_pending _ (by decide) hawake⟩
  exact raise_keeps_bit _ hawake (by decide) (by decide) (by decide) (by decide) (by decide)
    (flag_sq_self u MEM_STAT MEM_STAT_UE (by decide) (by decide))

theorem tandemCollision_onlyEvents (a : Nat) (portF : Bool) : OnlyEvents s (tandemCollision a portF s) :=
  ((sq_onlyEvents ..).trans (raise_onlyEvents ..)).ite .refl

/-- A collision on Tandem RAM leaves an uncorrectable error reported (R253). -/
theorem tandemCollision_reports (a : Nat) (portF : Bool) (ha : s.awake = true) (h : UeReported s) :
    UeReported (tandemCollision a portF s) := by
  have keeps : ∀ o i, o ≠ EVT_CNT → o ≠ THM_BG → i < 24 → (s.rd o).getLsbD i = true →
      (((s.sq MEM_STAT MEM_STAT_TCOL).raise (evMem 2)).rd o).getLsbD i = true :=
    fun o i h1 h2 hi hb => raise_keeps_bit _ ha (by decide) (by decide) h1 h2 hi (sqMask_keeps_bit s hi _ _ hb)
  unfold tandemCollision
  split
  · exact ⟨keeps _ _ (by decide) (by decide) (by decide) h.1, keeps _ _ (by decide) (by decide) (by decide) h.2⟩
  · exact h

end Sys2Proof.Proofs
end

section
/-! The exceptions of loads and stores (R24, R58, R60, R63, R64, R251, R254): entry to an exception, the checks of an
access before it is performed, uncorrectable words, and the statements about them. -/

namespace Sys2Proof.Proofs

open Sys2Proof Sys2Proof.Machine Sys2Proof.Safety Sys2Proof.Laws

/-! ### Entry to an exception (R64) -/

/-- An exception of the core is no double fault (R65, R290). -/
def MayTrap (h : Hart) (s : State) : Prop :=
  MSTAT_EXC.bit ((s.core h).cx cMSTAT) = false ∧ (h = .troika → s.troika.vbaseWritten = true)

/-- The core has entered the handler of an exception of its own instruction, its general and vector registers as they
were. -/
def TrapEntry (code a : Word) (c d : CoreState) : Prop :=
  d.cx cECAUSE &&& 0xFFFFFEFF = code ∧ d.cx cEADDR = a ∧ d.cx cEPC = c.pc ∧ d.pc = c.cx cVBASE ∧
    (∀ r, d.gr r = c.gr r) ∧ ∀ r, d.vr r = c.vr r

/-- The cycle count is no part of the entry. -/
theorem TrapEntry.of_sameRegisters {h : Hart} {code a : Word} {c d e : CoreState} (ht : TrapEntry code a c d)
    (hs : SameRegisters h d e) : TrapEntry code a c e := by
  obtain ⟨hcause, haddr, hepc, hpc, hg, hv⟩ := ht
  obtain ⟨spc, sg, sv, -, sx⟩ := hs
  refine ⟨?_, ?_, ?_, spc.trans hpc, fun r => (sg r).trans (hg r), fun r => (sv r).trans (hv r)⟩
  · rw [sx cECAUSE (fun _ => by decide), hcause]
  · rw [sx cEADDR (fun _ => by decide), haddr]
  · rw [sx cEPC (fun _ => by decide), hepc]

theorem slotted_code : ∀ code < 16, ∀ b, word (code + 256 * b2n b) &&& 0xFFFFFEFF = word code := by decide

/-- ECAUSE holds the code beside the issue slot (R49). -/
theorem ecauseWord_code {code : Nat} (hc : code < 16) (h : Hart) (k : Nat) :
    ecauseWord h code k &&& 0xFFFFFEFF = word code := by
  cases h with
  | troika => exact slotted_code code hc _
  | lantern => exact slotted_code code hc false

/-- The control registers after an entry: the status, the cause, the two addresses and the saved status; every other
one is kept. -/
theorem cx_enterCore (c : CoreState) (mstat epc ecause eaddr : Word) (vec n : Nat) :
    (enterCore c mstat epc ecause eaddr vec).cx n =
      if n = cMSTAT then MSTAT_IE.put (MSTAT_MODE.put mstat 0) 0 else if n = cEADDR then eaddr
      else if n = cECAUSE then ecause else if n = cEPC then epc else if n = cESTAT then c.cx cMSTAT else c.cx n := by
  rw [← cx_setC c (by decide), ← cx_setC _ (by decide), ← cx_setC _ (by decide), ← cx_setC _ (by decide),
    ← cx_setC _ (by decide)]
  rfl

theorem enterCore_trapEntry {code : Nat} (hc : code < 16) (h : Hart) (c : CoreState) (mstat a : Word) (k : Nat) :
    TrapEntry (word code) a c (enterCore c mstat c.pc (ecauseWord h code k) a 0) := by
  have hvbase : (c.setC cESTAT (c.cx cMSTAT)).cx cVBASE = c.cx cVBASE := cx_setC c (by decide) _ _
  refine ⟨?_, cx_enterCore .., cx_enterCore .., ?_, fun r => ?_, fun r => ?_⟩
  · rw [cx_enterCore]
    exact ecauseWord_code hc h k
  · exact (BitVec.add_zero _).trans hvbase
  · exact (gr_setC ..).trans (by simp)
  · exact (vr_setC ..).trans (by simp)

theorem fail_eq {h : Hart} {s : State} (hm : MayTrap h s) (code : Nat) (a : Word) :
    fail h code a s = (s.setCore h (enterCore (s.core h) (MSTAT_EXC.put ((s.core h).cx cMSTAT) 1) (s.core h).pc
      (ecauseWord h code s.draws) a 0)).drew 1 := by
  have hv : ¬(h = .troika ∧ s.troika.vbaseWritten = false) := fun ⟨hh, hf⟩ => by simp [hm.2 hh] at hf
  simp [fail, takeException, enterException, hm.1, hv]

/-- A command ends in an exception of the core, and nothing is accessed. -/
def Traps (h : Hart) (code a : Word) (s : State) (o : Out) : Prop :=
  ∃ t, o = .next t ∧ TrapEntry code a (s.core h) (t.core h) ∧ t.mem = s.mem ∧ t.regs = s.regs ∧
    t.lan.ram = s.lan.ram ∧ t.cpl = s.cpl

@[simp] theorem core_setCore (s : State) (h : Hart) (c : CoreState) : (s.setCore h c).core h = c := by cases h <;> rfl

/-- A write of a core's registers changes nothing outside them. -/
theorem setCore_frame (s : State) (h : Hart) (c : CoreState) :
    (s.setCore h c).troika.heldAccess = s.troika.heldAccess ∧ (s.setCore h c).troika.imprecise = s.troika.imprecise ∧
      (s.setCore h c).mem = s.mem ∧ (s.setCore h c).regs = s.regs ∧ (s.setCore h c).lan.ram = s.lan.ram ∧
      (s.setCore h c).cpl = s.cpl := by
  cases h <;> exact ⟨rfl, rfl, rfl, rfl, rfl, rfl⟩

/-- An exception of the core changes nothing outside the core's registers. -/
theorem fail_frame {h : Hart} {s : State} (hm : MayTrap h s) (code : Nat) (a : Word) :
    (fail h code a s).troika.heldAccess = s.troika.heldAccess ∧
      (fail h code a s).troika.imprecise = s.troika.imprecise ∧ (fail h code a s).mem = s.mem ∧
      (fail h code a s).regs = s.regs ∧ (fail h code a s).lan.ram = s.lan.ram ∧ (fail h code a s).cpl = s.cpl := by
  rw [fail_eq hm]
  exact setCore_frame ..

theorem fail_core {h : Hart} {s : State} (hm : MayTrap h s) {code : Nat} (hc : code < 16) (a : Word) :
    TrapEntry (word code) a (s.core h) ((fail h code a s).core h) := by
  have hcore : ∀ c, ((s.setCore h c).drew 1).core h = c := core_setCore s h
  rw [fail_eq hm, hcore]
  exact enterCore_trapEntry hc ..

/-- The cycle count changes nothing outside the Troika. -/
theorem countCycles_frame (s : State) : (countCycles s).mem = s.mem ∧ (countCycles s).regs = s.regs ∧
    (countCycles s).lan.ram = s.lan.ram ∧ (countCycles s).cpl = s.cpl := by
  rw [countCycles_eq]
  exact ⟨rfl, rfl, rfl, rfl⟩

/-- An instruction whose body fails in a state `u` ends in the exception. -/
theorem issue_fail {h : Hart} {s u : State} (hr : Ready h s) (hm : MayTrap h u) (hi : u.troika.imprecise = [])
    {code : Nat} (hc : code < 16) {a : Word} {body : State → State} (hb : body s = fail h code a u) :
    Traps h (word code) a u (issue h body s) := by
  have hentry := fail_core hm hc a
  obtain ⟨-, himp, hframe⟩ := fail_frame hm code a
  rw [← hb] at hentry hframe himp
  cases h with
  | lantern => exact ⟨body s, issue_lantern hr _, hentry, hframe⟩
  | troika =>
    obtain ⟨hmem, hregs, hram, hcpl⟩ := hframe
    obtain ⟨cmem, cregs, cram, ccpl⟩ := countCycles_frame (body s)
    exact ⟨countCycles (body s), issue_troika hr _ (himp.trans hi), hentry.of_sameRegisters (countCycles_core _),
      cmem.trans hmem, cregs.trans hregs, cram.trans hram, ccpl.trans hcpl⟩

/-- An instruction whose access is not held is not kept for the re-vote. -/
theorem heldBy_of_not_held {i : Instr} {body : State → State} {s : State}
    (hh : (body s).troika.heldAccess = s.troika.heldAccess) : heldBy i body s = body s := by
  cases hs : s.troika.heldAccess <;> simp [heldBy, hh, hs]

theorem heldBy_fail {h : Hart} {s u : State} (hm : MayTrap h u) (hu : u.troika.heldAccess = s.troika.heldAccess)
    {code : Nat} {a : Word} {i : Instr} {body : State → State} (hb : body s = fail h code a u) :
    heldBy i body s = fail h code a u :=
  (heldBy_of_not_held (by rw [hb, (fail_frame hm _ _).1, hu])).trans hb

/-- A load or store of either core whose access fails. -/
theorem common_fail {h : Hart} {s : State} (hr : Ready h s) (hm : MayTrap h s) {rs : List GReg}
    (hl : lowRegs h rs = true) {code : Nat} (hc : code < 16) {a : Word} {i : Instr} {body : State → State}
    (hb : body s = fail h code a s) : Traps h (word code) a s (common h rs (heldBy i body) s) := by
  rw [common_of_lowRegs hl]
  exact issue_fail hr hm hr.2 hc (heldBy_fail hm rfl hb)

/-- A load or store of a vector whose access fails. -/
theorem fullOnly_fail {s : State} (hr : Ready .troika s) (hm : MayTrap .troika s) {code : Nat} (hc : code < 16)
    {a : Word} {i : Instr} {body : State → State} (hb : body s = fail .troika code a s) :
    Traps .troika (word code) a s (fullOnly .troika (heldBy i body) s) :=
  issue_fail (body := heldBy i body) hr hm hr.2 hc (heldBy_fail hm rfl hb)

/-! ### The checks before an access (R24, R28, R58, R254) -/

/-- The access is none of Passenger code to the Coachman view (R28). -/
def Permitted (h : Hart) (a : Word) (s : State) : Prop :=
  h = .troika → ((s.core .troika).passenger && coachmanSpace a.toNat) = false

theorem permitted_of_coachman {a : Word} {s : State} (hp : (s.core .troika).passenger = false) (h : Hart) :
    Permitted h a s := fun _ => by rw [hp, Bool.false_and]

theorem permitted_of_space {h : Hart} {a : Word} {s : State}
    (hp : h = .troika → (s.core h).passenger = true → a.toNat / 0x10000000 ≠ 4) : Permitted h a s := by
  rintro rfl
  cases hpass : (s.core .troika).passenger
  · rfl
  · have := hp rfl hpass
    simp only [coachmanSpace, Bool.true_and, Bool.and_eq_false_iff, decide_eq_false_iff_not]
    omega

section
variable {h : Hart} {s : State} {a : Word} {env : Env}

theorem loadOn_misaligned (hp : Permitted h a s) {n : Nat} (ha : a.toNat % n ≠ 0) (rt : GReg) (rot : Nat)
    (put : List Byte → CoreState → CoreState) : loadOn h a n rt rot env put s = fail h 0x05 a s := by
  cases h with
  | troika => simp [loadOn, loadAt, hp rfl, ha]
  | lantern => simp [loadOn, lanLoadAt, ha]

theorem storeOn_misaligned (hp : Permitted h a s) {bs : List Byte} (ha : a.toNat % bs.length ≠ 0) :
    storeOn h a bs env s = fail h 0x06 a s := by
  cases h with
  | troika => simp [storeOn, storeAt, hp rfl, ha]
  | lantern => simp [storeOn, lanStoreAt, ha]

theorem loadAt_refused (hp : Permitted .troika a s) {n : Nat} (ha : a.toNat % n = 0)
    (hw : widthOk (s.target a.toNat) n = false) (rt : GReg) (rot : Nat) (put : List Byte → CoreState → CoreState) :
    loadAt a n rt rot env put s = fail .troika 0x07 a s := by
  simp [loadAt, hp rfl, ha, hw]

theorem storeAt_refused (hp : Permitted .troika a s) {bs : List Byte} (ha : a.toNat % bs.length = 0)
    (hw : s.target a.toNat = .nvm ∨ widthOk (s.target a.toNat) bs.length = false) :
    storeAt a bs env s = fail .troika 0x08 a s := by
  rcases hw with hw | hw <;> simp [storeAt, hp rfl, ha, hw]

/-- A permitted aligned load whose lanes agree is performed on the region it addresses. -/
theorem loadAt_memory (hp : Permitted .troika a s) {n : Nat} (ha : a.toNat % n = 0) (hv : env.vote = .agree)
    (hb : s.troika.storeBuf = []) (ht : s.target a.toNat = .nvm ∨ s.target a.toNat = .sram ∨ s.target a.toNat = .tandem)
    (rt : GReg) (rot : Nat) (put : List Byte → CoreState → CoreState) :
    loadAt a n rt rot env put s = loadMemory a n env put s := by
  rcases ht with ht | ht | ht <;> simp [loadAt, hp rfl, ha, ht, widthOk, vote, hv, uncached, drainStores, hb]

theorem target_of_not_window {n : Nat} (hn : ∀ d off, region n ≠ .window d off) : s.target n = region n := by
  unfold State.target
  split
  · rename_i d off hr
    exact absurd hr (hn d off)
  · rfl

/-- The register views and the Coupler window take words alone (R58). -/
theorem widthOk_of_view_or_window {m n : Nat} (hn : n ≠ 4)
    (hw : (∃ v off, region m = .view v off) ∨ ∃ d off, region m = .window d off) :
    widthOk (s.target m) n = false := by
  obtain ⟨v, off, hr⟩ | ⟨d, off, hr⟩ := hw
  · simp [State.target, hr, widthOk, hn]
  · simp only [State.target, hr]
    split <;> simp [widthOk, hn]

end

theorem take_wordBytes_length (w : Word) (half : Bool) :
    ((wordBytes w).take (if half then 2 else 1)).length = if half then 2 else 1 := by cases half <;> rfl

theorem alignmentAndWidth : Rules.AlignmentAndWidth := by
  intro h s hr hvb hexc rt rb off env vt hl c a hpass traps window
  have hm : MayTrap h s := ⟨hexc, hvb⟩
  have hp : Permitted h a s := permitted_of_space hpass
  have flat : ∀ {code o}, Traps h code a s o → traps code o := by
    rintro code o ⟨t, ht, ⟨hcause, haddr, hepc, hpc, hg, hv⟩, hmem, hregs, hram, hcpl⟩
    exact ⟨t, ht, hcause, haddr, hepc, hpc, hg, hv, hmem, hregs, hram, hcpl⟩
  refine ⟨fun ha => ⟨fun k hk => flat ?_, flat ?_⟩, fun ha => ⟨flat ?_, flat ?_⟩, ?_, ?_⟩
  · have hsub : subBytes k = 2 := by rcases hk with rfl | rfl <;> rfl
    exact common_fail hr hm hl (by decide) (loadOn_misaligned hp (hsub.symm ▸ ha) ..)
  · exact common_fail hr hm hl (by decide) (storeOn_misaligned hp ha)
  · exact common_fail hr hm hl (by decide) (loadOn_misaligned hp ha ..)
  · exact common_fail hr hm hl (by decide) (storeOn_misaligned hp ha)
  · rintro rfl ha
    exact ⟨flat (fullOnly_fail hr hm (by decide) (loadOn_misaligned hp ha ..)),
      flat (fullOnly_fail hr hm (by decide) (storeOn_misaligned hp ha))⟩
  · rintro rfl hwin
    have hwidth : ∀ n, n ≠ 4 → widthOk (s.target a.toNat) n = false := by
      intro n hn
      refine widthOk_of_view_or_window hn ?_
      cases hreg : region a.toNat <;> simp [window, hreg] at hwin ⊢
    refine ⟨fun k hk => flat ?_, fun half hhalf => flat ?_, fun ha => ⟨flat ?_, flat ?_⟩⟩
    · have hsub : subBytes k ≠ 4 ∧ a.toNat % subBytes k = 0 := by
        cases k <;> simp_all [subBytes, Nat.mod_one]
      exact common_fail hr hm hl (by decide) (loadAt_refused hp hsub.2 (hwidth _ hsub.1) ..)
    · have hlen := take_wordBytes_length (c.gr rt) half
      have hsub : (if half then 2 else 1) ≠ 4 ∧ a.toNat % (if half then 2 else 1) = 0 := by
        cases half <;> simp_all [Nat.mod_one]
      rw [← hlen] at hsub
      exact common_fail hr hm hl (by decide) (storeAt_refused hp hsub.2 (.inr (hwidth _ hsub.1)))
    · exact fullOnly_fail hr hm (by decide) (loadAt_refused hp ha (hwidth 16 (by decide)) ..)
    · exact fullOnly_fail hr hm (by decide) (storeAt_refused hp ha (.inr (hwidth 16 (by decide))))

theorem accessTraps : Rules.AccessTraps := by
  intro s hr hpass hexc hvb hbuf rt rb off env hvote c a traps
  have hm : MayTrap .troika s := ⟨hexc, fun _ => hvb⟩
  have hp : Permitted .troika a s := permitted_of_coachman hpass _
  have flat : ∀ {code o}, Traps .troika code a s o → ∃ t, o = .next t ∧ traps code t := by
    rintro code o ⟨t, ht, ⟨hcause, haddr, hepc, hpc, hg, -⟩, hmem, hregs, -, -⟩
    exact ⟨t, ht, hcause, haddr, hepc, hpc, hg, hmem, hregs⟩
  have target_eq : ∀ {r}, region a.toNat = r → (∀ d o, r ≠ .window d o) → s.target a.toNat = r := by
    rintro r rfl hn
    exact target_of_not_window hn
  refine ⟨fun ha hreg => ⟨flat ?_, flat ?_⟩, fun ha hreg => flat ?_, fun ha hreg hblocked => flat ?_⟩
  · have ht := target_eq hreg (by simp)
    exact common_fail hr hm rfl (by decide) (loadAt_refused hp ha (by rw [ht]; rfl) ..)
  · have ht := target_eq hreg (by simp)
    exact common_fail hr hm rfl (by decide) (storeAt_refused hp ha (.inr (by rw [ht]; rfl)))
  · exact common_fail hr hm rfl (by decide) (storeAt_refused hp ha (.inl (target_eq hreg (by simp))))
  · have hload := loadAt_memory (env := env) hp ha hvote hbuf (.inl (target_eq hreg (by simp))) rt 0
      (fun bs c => c.setG rt (word (leNat bs)))
    exact common_fail hr hm rfl (by decide) (hload.trans (by rw [loadMemory, hblocked]; rfl))

/-! ### Uncorrectable words (R251) -/

/-- A word of main SRAM or Tandem RAM. -/
def EightByteRam (a : Nat) : Prop := region a = .sram ∨ region a = .tandem

section
variable {s : State} {a : Nat}

theorem eccUnit_of_eightByteRam (ha : EightByteRam a) : eccUnit a = 8 := by
  rcases ha with ha | ha <;> simp [eccUnit, ha]

theorem waitFor_of_cleared (hc : s.bringup.uncleared = []) (a : Nat) : waitFor a s = s := by
  unfold waitFor
  split <;> simp [waitCleared, hc]

theorem nvmBlocked_of_eightByteRam (ha : EightByteRam a) : s.nvmBlocked a = false := by
  unfold State.nvmBlocked
  split
  · rcases ha with ha | ha <;> simp [ha]
  · rfl

end

/-- A word load of a word that holds poison fails with the error noted. -/
theorem loadMemory_poisoned {s : State} {a : Word} {env : Env} (hram : EightByteRam a.toNat)
    (hp : s.poisoned a.toNat = true) (hb : s.troika.storeBuf = []) (hc : s.bringup.uncleared = [])
    (put : List Byte → CoreState → CoreState) :
    loadMemory a 4 env put s = fail .troika 0x0A a (noteEcc true a.toNat s) := by
  have hforward : s.forwards a.toNat 4 = false := by simp [State.forwards, bufByte, hb, List.range_succ]
  have hcheck : readCheck a.toNat 4 env s = (noteEcc true a.toNat s, false) := by
    simp [readCheck, eccUnit_of_eightByteRam hram, hp, memCheck]
  simp [loadMemory, nvmBlocked_of_eightByteRam hram, hforward, waitFor_of_cleared hc, hcheck]

theorem poisoned_setPoison (s : State) (a : Nat) : (s.setPoison a true).poisoned a = true := by
  simp [State.setPoison, State.poisoned, mem_insertRising]

/-- A buffered store of less than a word that holds poison reaches its memory as a report alone: memory and the poison
stand. -/
theorem performStore_poisoned {s : State} {a : Nat} {bs : List Byte} {portF : Bool} (hram : EightByteRam a)
    (hlen : bs.length < 8) (hp : s.poisoned a = true) (hc : s.bringup.uncleared = []) (ha : s.awake = true) :
    (performStore a bs .clean portF s).troika = s.troika ∧ (performStore a bs .clean portF s).mem = s.mem ∧
      (performStore a bs .clean portF s).poisoned a = true ∧ UeReported (performStore a bs .clean portF s) := by
  have hunit := eccUnit_of_eightByteRam hram
  have hlt : ¬ 8 ≤ bs.length := by omega
  have heq : performStore a bs .clean portF s = tandemCollision a portF ((noteEcc true a s).setPoison a true) := by
    simp [performStore, waitFor_of_cleared hc, memWrite, memWriteUnit, hunit, hlen.le, hlt, hp]
  have hnote := noteEcc_true_onlyEvents s a
  have hreport : UeReported ((noteEcc true a s).setPoison a true) := noteEcc_true_reports s a ha
  have hcollide := tandemCollision_onlyEvents ((noteEcc true a s).setPoison a true) a portF
  rw [heq]
  refine ⟨hcollide.troika.trans hnote.troika, hcollide.mem.trans hnote.mem, ?_,
    tandemCollision_reports _ a portF (hnote.awake.trans ha) hreport⟩
  rw [State.poisoned, hcollide.poison]
  exact poisoned_setPoison ..

theorem drainStores_single {s : State} {a : Nat} {bs : List Byte} {e : Ecc} {portF : Bool}
    (hb : s.troika.storeBuf = [.store a bs e portF]) :
    drainStores s = performStore a bs e portF (s.updTrk (fun t => { t with storeBuf := [] })) := by
  simp [drainStores, drainOldest, drainLead, hb]

theorem UeReported.of_regs {s t : State} (h : UeReported s) (he : t.regs = s.regs) : UeReported t := by
  simpa only [UeReported, State.flag, State.evPending, State.rd, he] using h

theorem mayTrap_of_onlyEvents {s t : State} (ho : OnlyEvents s t) (hm : MayTrap .troika s) : MayTrap .troika t := by
  simpa only [MayTrap, ho.core, ho.troika] using hm

theorem poisonedWord : Rules.PoisonedWord := by
  intro s hr hpass hexc hvb hclear rt rb off env hq a ha hreg hpois
  obtain ⟨hawake, -, -⟩ := ready_troika hr
  refine ⟨fun hbuf => ?_, fun bs portF hlen hbuf => ?_⟩
  · have hnote := noteEcc_true_onlyEvents s a.toNat
    have hm := mayTrap_of_onlyEvents hnote ⟨hexc, fun _ => hvb⟩
    have ht : s.target a.toNat = region a.toNat :=
      target_of_not_window (by rcases hreg with h | h <;> simp [h])
    have hload := loadAt_memory (env := env) (n := 4) (permitted_of_coachman hpass _) ha hq.1 hbuf
      (.inr (ht ▸ hreg)) rt 0 (fun bs c => c.setG rt (word (leNat bs)))
    have hbody := hload.trans (loadMemory_poisoned hreg hpois hbuf hclear _)
    obtain ⟨t, hexec, ⟨hcause, haddr, -, -, hg, -⟩, hmem, hregs, -, -⟩ :=
      issue_fail hr hm (by rw [hnote.troika]; exact hr.2) (by decide)
        (heldBy_fail (i := .ldw .troika rt rb off env) hm (by rw [hnote.troika]) hbody)
    obtain ⟨hflag, hpend⟩ := (noteEcc_true_reports s a.toNat hawake).of_regs hregs
    exact ⟨t, hexec, hcause, haddr, fun r => by rw [hg, hnote.core], hflag, hpend, hmem.trans hnote.mem⟩
  · obtain ⟨htroika, hmem, hstill, hflag, hpend⟩ := performStore_poisoned (portF := portF)
      (s := s.updTrk (fun t => { t with storeBuf := [] })) hreg (by omega : bs.length < 8) hpois hclear hawake
    rw [← drainStores_single hbuf] at htroika hmem hstill hflag hpend
    have himp : (drainStores s).troika.imprecise = [] := (congrArg Troika.imprecise htroika).trans hr.2
    have hpc : ((drainStores s).core .troika).pc = (s.core .troika).pc := congrArg (fun x => x.core.pc) htroika
    refine ⟨_, issue_troika hr (fun u => retire .troika id (drainStores u)) himp, ?_⟩
    rw [countCycles_eq]
    exact ⟨congrArg Troika.storeBuf htroika, hmem, hstill, hflag, hpend, congrArg (· + 4) hpc⟩

/-- Settles O13: an access that its checks refuse, or that meets a poisoned word, ends in the exception of its rule. -/
theorem accessFaults : Obligations.AccessFaults := ⟨alignmentAndWidth, accessTraps, poisonedWord⟩

end Sys2Proof.Proofs
end

section
/-! The queue of commands and the state at a power-up (R8, R48, R283). -/

namespace Sys2Proof.Proofs

open Sys2Proof Sys2Proof.Machine Sys2Proof.Safety Sys2Proof.Laws

/-- Settles O1: a step is the command at the front of the queue. -/
theorem stepRunsFront : Obligations.StepRunsFront := by
  intro c rest s hs
  simp only [step, hs]

/-- Settles O2: a step with no command waiting answers the state itself. -/
theorem emptyQueueIdles : Obligations.EmptyQueueIdles := by
  intro s hs
  simp only [step, hs]

/-- Settles O59: nothing is listed at a power-up, neither of memory nor of a register. -/
theorem canonicalAtReset : Obligations.CanonicalAtReset := ⟨rfl, rfl, rfl, rfl⟩

theorem reset_rd (off : Nat) : State.reset.rd off = regDefault off := rfl

theorem reset_gr (h : Hart) (r : GReg) : (State.reset.core h).gr r = 0 := by
  cases h <;> exact ite_self _

theorem reset_cx (h : Hart) (n : Nat) : (State.reset.core h).cx n = 0 := by
  have hcycle : (State.reset.core h).cycle = 0 := by cases h <;> rfl
  have hcr : (State.reset.core h).cr = [] := by cases h <;> rfl
  simp [CoreState.cx, hcycle, hcr]

/-! The reset values that a card gives to every register of its family. -/

theorem gchCfg_default : ∀ n < 256, regDefault (GCH_CFG n) = 0 := by decide +kernel

theorem axleCompare_default :
    ∀ a < 4, ∀ k < 16, regDefault (AXL_CMPU a k) = 0xFFFFFFFF ∧ regDefault (AXL_CMPD a k) = 0xFFFFFFFF := by
  decide +kernel

theorem legDt_default : ∀ l < 32, regDefault (LEG_DT l) = 0x06400640 := by decide +kernel

theorem axleTimebase_default : ∀ a < 4, regDefault (AXL_STAT a) = 0 ∧ regDefault (AXL_CNT a) = 0 ∧
    AXL_PRD_PERIOD.get (regDefault (AXL_PRD a)) = 8000 := by decide +kernel

theorem canErr_default : ∀ n < 4, CAN_ERR_STATE.get (regDefault (CAN_ERR n)) = 3 := by decide +kernel

/-- Settles O60: nothing has run, and every register reads as its card gives. -/
theorem resetLeaves : Obligations.ResetLeaves := by
  refine ⟨rfl, rfl, rfl, rfl, rfl, reset_gr, fun h r => by cases h <;> rfl, fun h r => by cases h <;> rfl, reset_cx,
    fun a ha => ?_, by decide +kernel, by decide +kernel, by decide +kernel, by decide +kernel, fun n hn => ?_,
    fun a ha => ⟨?_, axleCompare_default a ha⟩, legDt_default, by decide +kernel, canErr_default⟩
  · obtain ⟨hstat, hcnt, -⟩ := axleTimebase_default a ha
    exact ⟨by simp only [State.running, State.flag, reset_rd, hstat]; rfl, hcnt⟩
  · simp only [State.flag, reset_rd, gchCfg_default n hn]; rfl
  · exact (axleTimebase_default a ha).2.2

end Sys2Proof.Proofs
end

section
/-! The engines of the model: every operation that acts on registers, Lantern words and the engines' own state alone leaves
memory, its poison, Lantern RAM, the bring-up and the queue as they are, keeps an awake fast domain awake, and keeps the
canonical form of the registers and of the Lantern words. One lemma per operation, in the model's order, each from those of
the operations that it runs. -/

namespace Sys2Proof.Proofs

open Sys2Proof Sys2Proof.Machine Sys2Proof.Safety Sys2Proof.Laws

-- The lemmas below find side conditions by an `autoParam`, for which an asynchronous proof would hold a thread.
set_option Elab.async false

/-- What the engines leave alone, and what they may change within its form. -/
structure Stores where
  mem : List Host.Cell
  poison : List Nat
  ram : FMap Byte
  bringup : Bringup
  pending : List Instr
  power : Power
  regs : FMap Word
  words : FMap Word

def stores (s : State) : Stores :=
  ⟨s.mem, s.poison, s.lan.ram, s.bringup, s.pending, s.power, s.regs, s.lan.words⟩

/-- From one state to another only engines have worked: memory stands, the fast domain runs on, and the registers and the
Lantern words keep their canonical form. -/
structure EngineStep (s t : State) : Prop where
  mem : t.mem = s.mem
  poison : t.poison = s.poison
  ram : t.lan.ram = s.lan.ram
  bringup : t.bringup = s.bringup
  pending : t.pending = s.pending
  awake : s.awake = true → t.awake = true
  regs : mwf regDefault s.regs = true → mwf regDefault t.regs = true
  words : mwf lanDefault s.lan.words = true → mwf lanDefault t.lan.words = true

variable {s₀ s t : State}

theorem EngineStep.refl : EngineStep s s := ⟨rfl, rfl, rfl, rfl, rfl, id, id, id⟩

theorem EngineStep.trans {u : State} (h : EngineStep s₀ s) (h' : EngineStep s u) : EngineStep s₀ u :=
  ⟨h'.mem.trans h.mem, h'.poison.trans h.poison, h'.ram.trans h.ram, h'.bringup.trans h.bringup,
    h'.pending.trans h.pending, h'.awake ∘ h.awake, h'.regs ∘ h.regs, h'.words ∘ h.words⟩

/-- An update outside the stores. -/
theorem EngineStep.upd (h : EngineStep s₀ s) (he : stores t = stores s) : EngineStep s₀ t := by
  simp only [stores, Stores.mk.injEq] at he
  obtain ⟨hm, hp, hr, hb, hq, hw, hg, hl⟩ := he
  exact h.trans ⟨hm, hp, hr, hb, hq, by simp [State.awake, hb, hw], by simp [hg], by simp [hl]⟩

theorem EngineStep.ite {c : Prop} [Decidable c] (h : EngineStep s₀ s) (h' : EngineStep s₀ t) :
    EngineStep s₀ (if c then s else t) := by
  split
  · exact h
  · exact h'

theorem EngineStep.wr {off : Nat} {w : Word} (h : EngineStep s₀ s) : EngineStep s₀ (State.wr s off w) :=
  h.trans ⟨rfl, rfl, rfl, rfl, rfl, id, mwf_mset _ _ _ _, id⟩

theorem EngineStep.setLanW {w : Nat} {v : Word} (h : EngineStep s₀ s) : EngineStep s₀ (State.setLanW s w v) :=
  h.trans ⟨rfl, rfl, rfl, rfl, rfl, id, id, mwf_mset _ _ _ _⟩

/-- An update of the Lantern domain outside its RAM and its words. -/
theorem EngineStep.updLan {f : Lantern → Lantern} (h : EngineStep s₀ s) (hr : (f s.lan).ram = s.lan.ram := by rfl)
    (hw : (f s.lan).words = s.lan.words := by rfl) : EngineStep s₀ (s.updLan f) :=
  h.upd (by simp only [stores, State.updLan, hr, hw])

theorem EngineStep.each {α : Type} {xs : List α} {f : α → State → State} (h : EngineStep s₀ s)
    (hf : ∀ x u, EngineStep s₀ u → EngineStep s₀ (f x u)) : EngineStep s₀ (each xs f s) := by
  unfold Machine.each
  induction xs generalizing s with
  | nil => exact h
  | cons x xs ih => exact ih (hf x s h)

theorem EngineStep.onlyIf {c : Bool} {f : State → State} (h : EngineStep s₀ s)
    (hf : ∀ u, EngineStep s₀ u → EngineStep s₀ (f u)) : EngineStep s₀ (onlyIf c f s) := .ite (hf s h) h

theorem EngineStep.setFld {off : Nat} {f : Fld} {n : Nat} (h : EngineStep s₀ s) :
    EngineStep s₀ (State.setFld s off f n) :=
  h.wr
theorem EngineStep.setFldI {off : Nat} {f : Fld} {n : Int} (h : EngineStep s₀ s) :
    EngineStep s₀ (State.setFldI s off f n) :=
  h.setFld
theorem EngineStep.setFlag {off : Nat} {f : Fld} {b : Bool} (h : EngineStep s₀ s) :
    EngineStep s₀ (State.setFlag s off f b) :=
  h.setFld
theorem EngineStep.sqMask {off : Nat} {mask : Word} (h : EngineStep s₀ s) :
    EngineStep s₀ (State.sqMask s off mask) := by
  unfold State.sqMask
  extract_lets +onlyGivenNames w
  exact h.wr
theorem EngineStep.sq {off : Nat} {f : Fld} (h : EngineStep s₀ s) : EngineStep s₀ (State.sq s off f) := h.sqMask
theorem EngineStep.rc {off : Nat} {f : Fld} {k : Nat} (h : EngineStep s₀ s) :
    EngineStep s₀ (State.rc s off f k) :=
  h.setFld
theorem EngineStep.rcWrap {off : Nat} {f : Fld} {k : Nat} (h : EngineStep s₀ s) :
    EngineStep s₀ (State.rcWrap s off f k) :=
  h.setFld
theorem EngineStep.setAx {a : Nat} {x : AxleSt} (h : EngineStep s₀ s) : EngineStep s₀ (State.setAx s a x) := h.upd rfl
theorem EngineStep.updAx {a : Nat} {f : AxleSt → AxleSt} (h : EngineStep s₀ s) :
    EngineStep s₀ (State.updAx s a f) :=
  h.setAx
theorem EngineStep.setPs {p : Nat} {x : PosSt} (h : EngineStep s₀ s) : EngineStep s₀ (State.setPs s p x) := h.upd rfl
theorem EngineStep.updPs {p : Nat} {f : PosSt → PosSt} (h : EngineStep s₀ s) :
    EngineStep s₀ (State.updPs s p f) :=
  h.setPs
theorem EngineStep.setLg {l : Nat} {x : LegSt} (h : EngineStep s₀ s) : EngineStep s₀ (State.setLg s l x) := h.upd rfl
theorem EngineStep.updLg {l : Nat} {f : LegSt → LegSt} (h : EngineStep s₀ s) :
    EngineStep s₀ (State.updLg s l f) :=
  h.setLg
theorem EngineStep.updCh {c : Nat} {f : ChanSt → ChanSt} (h : EngineStep s₀ s) :
    EngineStep s₀ (State.updCh s c f) :=
  h.upd rfl
theorem EngineStep.updSd {c : Nat} {f : SddSt → SddSt} (h : EngineStep s₀ s) :
    EngineStep s₀ (State.updSd s c f) :=
  h.upd rfl
theorem EngineStep.updSr {c : Nat} {f : SarSt → SarSt} (h : EngineStep s₀ s) :
    EngineStep s₀ (State.updSr s c f) :=
  h.upd rfl
theorem EngineStep.updRs {r : Nat} {f : ResSt → ResSt} (h : EngineStep s₀ s) :
    EngineStep s₀ (State.updRs s r f) :=
  h.upd rfl
theorem EngineStep.updEn {e : Nat} {f : EncSt → EncSt} (h : EngineStep s₀ s) :
    EngineStep s₀ (State.updEn s e f) :=
  h.upd rfl
theorem EngineStep.updHy {h' : Nat} {f : HysSt → HysSt} (h : EngineStep s₀ s) :
    EngineStep s₀ (State.updHy s h' f) :=
  h.upd rfl
theorem EngineStep.updMn {h' : Nat} {f : MonSt → MonSt} (h : EngineStep s₀ s) :
    EngineStep s₀ (State.updMn s h' f) :=
  h.upd rfl
theorem EngineStep.updGr {c : Nat} {f : GrdRx → GrdRx} (h : EngineStep s₀ s) :
    EngineStep s₀ (State.updGr s c f) :=
  h.upd rfl
theorem EngineStep.updCn {n : Nat} {f : CanSt → CanSt} (h : EngineStep s₀ s) :
    EngineStep s₀ (State.updCn s n f) :=
  h.upd rfl
theorem EngineStep.updTm {k : Nat} {f : ThmSt → ThmSt} (h : EngineStep s₀ s) :
    EngineStep s₀ (State.updTm s k f) :=
  h.upd rfl
theorem EngineStep.drew {n : Nat} (h : EngineStep s₀ s) : EngineStep s₀ (State.drew s n) := h.upd rfl
theorem EngineStep.setLanF {w : Nat} {f : Fld} {n : Nat} (h : EngineStep s₀ s) :
    EngineStep s₀ (State.setLanF s w f n) :=
  h.setLanW
theorem EngineStep.lanSq {w : Nat} {f : Fld} (h : EngineStep s₀ s) : EngineStep s₀ (State.lanSq s w f) := by
  unfold State.lanSq
  extract_lets +onlyGivenNames x
  exact h.setLanW
theorem EngineStep.raiseOnce {src : Nat} (h : EngineStep s₀ s) : EngineStep s₀ (raiseOnce src s) := by
  unfold Machine.raiseOnce
  extract_lets +onlyGivenNames cfg s1 s2 s3 s4
  have h1 : EngineStep s₀ s1 := h.sqMask
  have h2 : EngineStep s₀ s2 := ite h1.rc (ite (h1.upd rfl) h1)
  have h3 : EngineStep s₀ s3 := ite (h2.upd rfl) h2
  have h4 : EngineStep s₀ s4 := ite h3.setFlag h3
  exact ite (ite h4.rc (h4.upd rfl)) h4
theorem EngineStep.wakeLantern (h : EngineStep s₀ s) : EngineStep s₀ (wakeLantern s) := ite h.setLanF h
theorem EngineStep.raise {src : Nat} (h : EngineStep s₀ s) : EngineStep s₀ (State.raise s src) :=
  ite h ((ite h.raiseOnce.rc.raiseOnce h.raiseOnce).wakeLantern)
theorem EngineStep.harnessStarts {old : State} (h : EngineStep s₀ s) : EngineStep s₀ (harnessStarts old s) :=
  h.each fun _ _ h => h.upd rfl
theorem EngineStep.captureRefused {v : View} {off cause : Nat} (h : EngineStep s₀ s) :
    EngineStep s₀ (captureRefused v off cause s) :=
  ite h.sq h.wr.sq
theorem EngineStep.captureLost {v : View} {off : Nat} (h : EngineStep s₀ s) :
    EngineStep s₀ (captureLost v off s) := by
  unfold Machine.captureLost
  extract_lets +onlyGivenNames _ s1
  have h1 : EngineStep s₀ s1 := ite h.sq h.wr.sq
  exact h1.raise
theorem EngineStep.badValue {v : View} {off : Nat} (h : EngineStep s₀ s) : EngineStep s₀ (badValue v off s) :=
  h.captureRefused.raise
theorem EngineStep.at {t : Nat} (h : EngineStep s₀ s) : EngineStep s₀ (State.at s t) := h.upd rfl
theorem EngineStep.setCore {h' : Hart} {c : CoreState} (h : EngineStep s₀ s) :
    EngineStep s₀ (State.setCore s h' c) := by
  unfold State.setCore
  split
  · exact h.upd rfl
  · exact h.upd rfl
theorem EngineStep.updCore {h' : Hart} {f : CoreState → CoreState} (h : EngineStep s₀ s) :
    EngineStep s₀ (State.updCore s h' f) :=
  h.setCore
theorem EngineStep.updTrk {f : Troika → Troika} (h : EngineStep s₀ s) : EngineStep s₀ (State.updTrk s f) := h.upd rfl
theorem EngineStep.updCpl {f : Coupler → Coupler} (h : EngineStep s₀ s) : EngineStep s₀ (State.updCpl s f) := h.upd rfl
theorem EngineStep.stopIssue (h : EngineStep s₀ s) : EngineStep s₀ (stopIssue s) := h.setFlag
theorem EngineStep.capture {kind source : Nat} (h : EngineStep s₀ s) : EngineStep s₀ (capture kind source s) :=
  ite (h.upd rfl) h.setLanF
theorem EngineStep.trkStop (h : EngineStep s₀ s) : EngineStep s₀ (trkStop s) := h.stopIssue.raise.capture
theorem EngineStep.doubleFault {h' : Hart} (h : EngineStep s₀ s) : EngineStep s₀ (doubleFault h' s) := by
  unfold Machine.doubleFault
  split
  · exact h.sq.raise.trkStop
  · exact h.setLanF.raise
theorem EngineStep.enterException {h' : Hart} {ecause eaddr epc : Word} (h : EngineStep s₀ s) :
    EngineStep s₀ (enterException h' ecause eaddr epc s) := by
  unfold Machine.enterException
  extract_lets +onlyGivenNames c
  exact ite h.doubleFault (ite h.doubleFault h.setCore)
theorem EngineStep.takeException {h' : Hart} {code : Nat} {eaddr epc : Word} (h : EngineStep s₀ s) :
    EngineStep s₀ (takeException h' code eaddr epc s) :=
  h.enterException.drew
theorem EngineStep.takeAlone {h' : Hart} {code : Nat} {eaddr epc : Word} (h : EngineStep s₀ s) :
    EngineStep s₀ (takeAlone h' code eaddr epc s) :=
  h.enterException
theorem EngineStep.takeInterrupt {h' : Hart} {level : Nat} (h : EngineStep s₀ s) :
    EngineStep s₀ (takeInterrupt h' level s) := by
  unfold Machine.takeInterrupt
  extract_lets +onlyGivenNames c
  exact h.setCore
theorem EngineStep.deliverImprecise (h : EngineStep s₀ s) : EngineStep s₀ (deliverImprecise s) := by
  unfold Machine.deliverImprecise
  split
  · exact h
  · exact ite h.updTrk.takeException h
theorem EngineStep.stepOver (h : EngineStep s₀ s) : EngineStep s₀ (stepOver s) := ite h.updTrk h
theorem EngineStep.countCycles (h : EngineStep s₀ s) : EngineStep s₀ (countCycles s) := by
  rw [countCycles_eq]
  exact h.upd rfl
theorem EngineStep.retire {h' : Hart} {f : CoreState → CoreState} (h : EngineStep s₀ s) :
    EngineStep s₀ (retire h' f s) :=
  h.updCore
theorem EngineStep.fail {h' : Hart} {code : Nat} {eaddr : Word} (h : EngineStep s₀ s) :
    EngineStep s₀ (fail h' code eaddr s) :=
  h.takeException
theorem EngineStep.failAlone {h' : Hart} {code : Nat} {eaddr : Word} (h : EngineStep s₀ s) :
    EngineStep s₀ (failAlone h' code eaddr s) :=
  h.takeAlone
theorem EngineStep.illegal {h' : Hart} (h : EngineStep s₀ s) : EngineStep s₀ (illegal h' s) := h.fail
theorem EngineStep.illegalAlone {h' : Hart} (h : EngineStep s₀ s) : EngineStep s₀ (illegalAlone h' s) := h.failAlone
theorem EngineStep.noteEcc {unc : Bool} {a : Nat} (h : EngineStep s₀ s) : EngineStep s₀ (noteEcc unc a s) := by
  unfold Machine.noteEcc
  extract_lets +onlyGivenNames st s1
  have h1 : EngineStep s₀ s1 := ite h.wr h
  exact ite h1.rc.sq.raise h1.rc.sq.raise
theorem EngineStep.migCopy {p : Nat} (h : EngineStep s₀ s) : EngineStep s₀ (migCopy p s) := by
  unfold Machine.migCopy
  extract_lets +onlyGivenNames b lo cells
  exact ite h (h.upd rfl)
theorem EngineStep.migWrite {a : Nat} {bs : List Byte} (h : EngineStep s₀ s) : EngineStep s₀ (migWrite a bs s) := by
  have hc : EngineStep s₀ ((Machine.migCopy (Config.freeNat s.draws % 65537) s).drew 1) := h.migCopy.drew
  exact ite (ite (hc.upd rfl) hc) h
theorem EngineStep.tandemCollision {a : Nat} {portF : Bool} (h : EngineStep s₀ s) :
    EngineStep s₀ (tandemCollision a portF s) :=
  ite h.sq.raise h
theorem EngineStep.setFinding {core kind addr fields : Nat} (h : EngineStep s₀ s) :
    EngineStep s₀ (setFinding core kind addr fields s) := by
  unfold Machine.setFinding
  extract_lets +onlyGivenNames w w w s1
  have h1 : EngineStep s₀ s1 := h.wr
  exact h1.wr
theorem EngineStep.unlocated (h : EngineStep s₀ s) : EngineStep s₀ (unlocated s) := h.sq.trkStop
theorem EngineStep.setLeadOut (h : EngineStep s₀ s) : EngineStep s₀ (setLeadOut s) := by
  unfold Machine.setLeadOut
  extract_lets +onlyGivenNames t
  exact h.setFlag
theorem EngineStep.excludeCore {k : Nat} (h : EngineStep s₀ s) : EngineStep s₀ (excludeCore k s) := by
  unfold Machine.excludeCore
  extract_lets +onlyGivenNames t s1 s2
  have h1 : EngineStep s₀ s1 := ite h.updTrk h
  have h2 : EngineStep s₀ s2 := h1.setFld.setFld.setFlag
  exact h2.sq.setLeadOut.raise
theorem EngineStep.isolateCore {k : Nat} (h : EngineStep s₀ s) : EngineStep s₀ (isolateCore k s) := by
  unfold Machine.isolateCore
  extract_lets +onlyGivenNames n s1 s2
  have h1 : EngineStep s₀ s1 := h.updTrk
  have h2 : EngineStep s₀ s2 := h1.setFld.setFlag
  exact (ite h2.excludeCore h2).setLeadOut
theorem EngineStep.coreMismatch {k kind addr fields : Nat} (h : EngineStep s₀ s) :
    EngineStep s₀ (coreMismatch k kind addr fields s) :=
  h.setFinding.sq.rc.raise.isolateCore
theorem EngineStep.copyDisagreement {addr fields : Nat} (h : EngineStep s₀ s) :
    EngineStep s₀ (copyDisagreement addr fields s) := by
  unfold Machine.copyDisagreement
  extract_lets +onlyGivenNames s1 s2
  have h1 : EngineStep s₀ s1 := h.setFinding
  have h2 : EngineStep s₀ s2 := h1.sq.rc.raise
  exact h2.setFlag.updTrk
theorem EngineStep.oddLane {k : Fin 3} {kind addr fields : Nat} {body : State → State} (h : EngineStep s₀ s)
    (hb : ∀ u, EngineStep s₀ u → EngineStep s₀ (body u)) : EngineStep s₀ (oddLane k kind addr fields body s) :=
  ite (ite (hb _ h) h.setFinding.unlocated) (hb _ h.coreMismatch)
theorem EngineStep.vote {kind addr : Nat} {v : Vote} {perform : State → State} (h : EngineStep s₀ s)
    (hb : ∀ u, EngineStep s₀ u → EngineStep s₀ (perform u)) : EngineStep s₀ (vote kind addr v perform s) := by
  cases v with
  | agree => exact hb _ h
  | odd k f => exact h.oddLane hb
  | extra k => exact h.oddLane hb
  | allDiffer f => exact h.setFinding.unlocated
  | pairDiffers f => exact ite h.setFinding.unlocated (hb _ h)
  | copiesDisagree f => exact ite h.copyDisagreement (hb _ h)
theorem EngineStep.heldBy {i : Instr} {body : State → State} (h : EngineStep s₀ s)
    (hb : ∀ u, EngineStep s₀ u → EngineStep s₀ (body u)) : EngineStep s₀ (heldBy i body s) :=
  ite (hb _ h).updTrk (hb _ h)
theorem EngineStep.setPosState {p st : Nat} (h : EngineStep s₀ s) : EngineStep s₀ (State.setPosState s p st) :=
  h.setFld
theorem EngineStep.joinChannel {c : Nat} (h : EngineStep s₀ s) : EngineStep s₀ (joinChannel c s) :=
  ite h.setFlag h.setFlag
theorem EngineStep.countPos {p : Nat} (h : EngineStep s₀ s) : EngineStep s₀ (countPos p s) := h.setFld.setFld
theorem EngineStep.setGdo {p : Nat} {level : Bool} {t c : Nat} (h : EngineStep s₀ s) :
    EngineStep s₀ (setGdo p level t c s) :=
  ite h h.setFlag.updCh
theorem EngineStep.setGdoAsync {level : Bool} {c : Nat} (h : EngineStep s₀ s) :
    EngineStep s₀ (setGdoAsync level c s) :=
  ite h h.setFlag.updCh
theorem EngineStep.markFall {p : Nat} (h : EngineStep s₀ s) : EngineStep s₀ (markFall p s) := by
  unfold Machine.markFall
  extract_lets +onlyGivenNames t dt
  exact h.updPs.updPs
theorem EngineStep.watchExcluded {p : Nat} (h : EngineStep s₀ s) : EngineStep s₀ (watchExcluded p s) :=
  h.each fun _ _ h => h.updCh
theorem EngineStep.fallPos {p : Nat} (h : EngineStep s₀ s) : EngineStep s₀ (fallPos p s) := by
  unfold Machine.fallPos
  extract_lets +onlyGivenNames s1 s2
  have h1 : EngineStep s₀ s1 := h.markFall.watchExcluded
  have h2 : EngineStep s₀ s2 := h1.each fun _ _ h => h.setGdo
  exact h2.setPosState
theorem EngineStep.commandOff {p : Nat} (h : EngineStep s₀ s) : EngineStep s₀ (commandOff p s) :=
  ite h.fallPos (ite h.setPosState h)
theorem EngineStep.commandOn {p : Nat} (h : EngineStep s₀ s) : EngineStep s₀ (commandOn p s) := by
  unfold Machine.commandOn
  extract_lets +onlyGivenNames q s1
  have h1 : EngineStep s₀ s1 := h.setPosState
  exact ite h1.sq.rc.raise h1
theorem EngineStep.followOff {p : Nat} (h : EngineStep s₀ s) : EngineStep s₀ (followOff p s) := by
  unfold Machine.followOff
  extract_lets +onlyGivenNames x
  exact ite (ite h.updPs h.updPs.commandOff) h
theorem EngineStep.followOn {p : Nat} (h : EngineStep s₀ s) : EngineStep s₀ (followOn p s) := by
  unfold Machine.followOn
  extract_lets +onlyGivenNames x
  exact ite (ite h.updPs h.updPs.commandOn) h
theorem EngineStep.followLeg {l : Nat} (h : EngineStep s₀ s) : EngineStep s₀ (followLeg l s) :=
  h.followOff.followOff.followOn.followOn
theorem EngineStep.setCarry {l : Nat} {on : Bool} {n : Nat} (h : EngineStep s₀ s) :
    EngineStep s₀ (State.setCarry s l on n) :=
  h.setFld
theorem EngineStep.clearCarries {l : Nat} (h : EngineStep s₀ s) : EngineStep s₀ (clearCarries l s) :=
  h.setCarry.setCarry
theorem EngineStep.dropEdges {l : Nat} (h : EngineStep s₀ s) : EngineStep s₀ (dropEdges l s) :=
  h.each fun _ _ h => h.updPs
theorem EngineStep.passEdge {p : Nat} {v : Bool} (h : EngineStep s₀ s) : EngineStep s₀ (passEdge p v s) := by
  unfold Machine.passEdge
  extract_lets +onlyGivenNames t
  exact h.updPs
theorem EngineStep.shapeEdge {p : Nat} {v : Bool} {phase : Option Nat} (h : EngineStep s₀ s) :
    EngineStep s₀ (shapeEdge p v phase s) := by
  unfold Machine.shapeEdge
  refine ite ?_ ?_
  · exact h.passEdge
  · extract_lets +onlyGivenNames l x t th stretchMode len c total isShort
    refine ite ?_ ?_
    · extract_lets +onlyGivenNames s1
      have h1 : EngineStep s₀ s1 := h.setCarry.rc
      exact h1.updPs
    · extract_lets +onlyGivenNames keep s1 next
      have h1 : EngineStep s₀ s1 := ite h.setCarry h
      refine ite ?_ ?_
      · exact h1.updPs
      · split
        · extract_lets +onlyGivenNames lastE cut e' s2 s3
          have h2 : EngineStep s₀ s2 := ite h1.sq.raise h1
          have h3 : EngineStep s₀ s3 := ite h2.sq.raise h2
          exact ite h3.updPs h3.updPs
theorem EngineStep.refreshCmd {p : Nat} (h : EngineStep s₀ s) : EngineStep s₀ (refreshCmd p s) := h.updPs
theorem EngineStep.composePos {p : Nat} {phase : Option Nat} (h : EngineStep s₀ s) :
    EngineStep s₀ (composePos p phase s) := by
  unfold Machine.composePos
  extract_lets +onlyGivenNames v
  exact (ite h h.shapeEdge).refreshCmd
theorem EngineStep.composeLeg {l : Nat} {ph pl : Option Nat} (h : EngineStep s₀ s) :
    EngineStep s₀ (composeLeg l ph pl s) :=
  h.composePos.composePos.followLeg
theorem EngineStep.recompose {l : Nat} (h : EngineStep s₀ s) : EngineStep s₀ (recompose l s) := h.composeLeg
theorem EngineStep.recomposeAxle {a : Nat} (h : EngineStep s₀ s) : EngineStep s₀ (recomposeAxle a s) :=
  h.each fun _ _ h => h.recompose
theorem EngineStep.changeSource {l : Nat} (h : EngineStep s₀ s) : EngineStep s₀ (changeSource l s) :=
  h.dropEdges.recompose
theorem EngineStep.changeSources {a : Nat} (h : EngineStep s₀ s) : EngineStep s₀ (changeSources a s) :=
  h.each fun _ _ h => h.changeSource
theorem EngineStep.clearRaw {l : Nat} (h : EngineStep s₀ s) : EngineStep s₀ (clearRaw l s) :=
  h.each fun _ _ h => ite h h.updPs
theorem EngineStep.mapChanged {l : Nat} (h : EngineStep s₀ s) : EngineStep s₀ (mapChanged l s) := h.clearRaw.recompose
theorem EngineStep.rawEdge {p : Nat} {on : Bool} {phase : Nat} (h : EngineStep s₀ s) :
    EngineStep s₀ (rawEdge p on phase s) :=
  ite h (ite h.updPs.composeLeg h.updPs.composeLeg)
theorem EngineStep.dueEdges {p : Nat} (h : EngineStep s₀ s) : EngineStep s₀ (dueEdges p s) := by
  unfold Machine.dueEdges
  extract_lets +onlyGivenNames t x
  split
  · exact ite ((ite h.updPs.refreshCmd.composePos h.updPs.refreshCmd).followLeg) h
  · exact h
theorem EngineStep.safePos {code p : Nat} (h : EngineStep s₀ s) : EngineStep s₀ (safePos code p s) := by
  unfold Machine.safePos
  extract_lets +onlyGivenNames on
  refine ite ?_ ?_
  · exact h.updPs.setPosState
  · extract_lets +onlyGivenNames s1 s2
    have h1 : EngineStep s₀ s1 := ite h.markFall.watchExcluded h
    have h2 : EngineStep s₀ s2 := h1.each fun _ _ h => h.setGdoAsync
    exact h2.updPs.setPosState
theorem EngineStep.asyncTry {l : Nat} (h : EngineStep s₀ s) : EngineStep s₀ (asyncTry l s) := by
  unfold Machine.asyncTry
  extract_lets +onlyGivenNames code p
  exact ite ((h.each fun _ _ h => h.setGdoAsync).updPs) h
theorem EngineStep.ackSettle {p accepted : Nat} {wasOff : Bool} (h : EngineStep s₀ s) :
    EngineStep s₀ (ackSettle p accepted wasOff s) := by
  unfold Machine.ackSettle
  extract_lets +onlyGivenNames off s1 s2 s3
  have h1 : EngineStep s₀ s1 := ite h.updPs h
  have h2 : EngineStep s₀ s2 := ite h1.setPosState (ite h1.setPosState h1)
  have h3 : EngineStep s₀ s3 := ite h2.updPs h2
  exact h3.asyncTry
theorem EngineStep.dropUnused {p : Nat} (h : EngineStep s₀ s) : EngineStep s₀ (dropUnused p s) :=
  ite h (ite ((ite h.markFall h).updPs) (((ite h.markFall h).updPs).setPosState))
theorem EngineStep.mappingSettled {old : State} {p : Nat} (h : EngineStep s₀ s) :
    EngineStep s₀ (mappingSettled old p s) :=
  h.countPos.dropUnused.ackSettle
theorem EngineStep.enterSafe {l code : Nat} (h : EngineStep s₀ s) : EngineStep s₀ (enterSafe l code s) := by
  unfold Machine.enterSafe
  extract_lets +onlyGivenNames fresh s1 s2
  have h1 : EngineStep s₀ s1 := h.each fun _ _ h => h.safePos
  have h2 : EngineStep s₀ s2 := h1.setFld
  exact ite (h2.clearCarries.updLg.each fun _ _ h => h.updPs.passEdge.refreshCmd) h2
theorem EngineStep.forceSafe {l code : Nat} (h : EngineStep s₀ s) : EngineStep s₀ (forceSafe l code s) :=
  h.enterSafe.asyncTry
theorem EngineStep.leavePos {p : Nat} (h : EngineStep s₀ s) : EngineStep s₀ (leavePos p s) := by
  unfold Machine.leavePos
  extract_lets +onlyGivenNames x s1
  have h1 : EngineStep s₀ s1 := h.updPs
  exact ite (ite h1.setPosState.updPs h1.setPosState.fallPos) h1.setPosState
theorem EngineStep.leaveSafe {l : Nat} (h : EngineStep s₀ s) : EngineStep s₀ (leaveSafe l s) := by
  unfold Machine.leaveSafe
  refine ite ?_ ?_
  · exact h
  · extract_lets +onlyGivenNames s1 s2 s3
    have h1 : EngineStep s₀ s1 := h.composePos.composePos
    have h2 : EngineStep s₀ s2 := h1.setFld
    have h3 : EngineStep s₀ s3 := ite h2.updAx h2
    exact (h3.each fun _ _ h => h.leavePos).followLeg
theorem EngineStep.readmitDue {c : Nat} (h : EngineStep s₀ s) : EngineStep s₀ (readmitDue c s) := by
  unfold Machine.readmitDue
  extract_lets +onlyGivenNames p
  exact ite h.setFlag.setFlag.countPos h
theorem EngineStep.clampDeadTime {l : Nat} (h : EngineStep s₀ s) : EngineStep s₀ (clampDeadTime l s) := by
  unfold Machine.clampDeadTime
  extract_lets +onlyGivenNames lo hi adt next hl lh s1 s2
  have h1 : EngineStep s₀ s1 := h.setFld.setFld
  have h2 : EngineStep s₀ s2 := ite h1.raise h1
  exact ite h2.raise h2
theorem EngineStep.adaptDeadTime {l : Nat} (h : EngineStep s₀ s) : EngineStep s₀ (adaptDeadTime l s) := by
  unfold Machine.adaptDeadTime
  extract_lets +onlyGivenNames hl lh mn adt hl' lh' s1 s2
  have h1 : EngineStep s₀ s1 := h.setFld.setFld
  have h2 : EngineStep s₀ s2 := ite h1.raise h1
  exact ite h2.raise h2
theorem EngineStep.evenChannel {p : Nat} {mon moff tm : Int} {c : Nat} (h : EngineStep s₀ s) :
    EngineStep s₀ (evenChannel p mon moff tm c s) := by
  unfold Machine.evenChannel
  extract_lets +onlyGivenNames lim step don doff b ton toff clamped s1
  have h1 : EngineStep s₀ s1 := ite h.sq.raise h
  exact h1.setFldI.setFldI
theorem EngineStep.evenPos {p : Nat} (h : EngineStep s₀ s) : EngineStep s₀ (evenPos p s) := by
  unfold Machine.evenPos
  extract_lets +onlyGivenNames ok live
  exact ite (ite (((h.each fun _ _ h => h.evenChannel).raise).rc) (h.each fun _ _ h => h.evenChannel)) h
theorem EngineStep.gateUpdate {a : Nat} (h : EngineStep s₀ s) : EngineStep s₀ (gateUpdate a s) :=
  h.each fun _ _ h => h.adaptDeadTime.each fun _ _ h => (h.each fun _ _ h => h.readmitDue).evenPos
theorem EngineStep.settleLegSafe {l : Nat} (h : EngineStep s₀ s) : EngineStep s₀ (settleLegSafe l s) := by
  unfold Machine.settleLegSafe
  split
  · exact ite h.asyncTry h.forceSafe
  · exact ite h.leaveSafe h
theorem EngineStep.settleSafe (h : EngineStep s₀ s) : EngineStep s₀ (settleSafe s) :=
  h.setFld.each fun _ _ h => h.settleLegSafe
theorem EngineStep.releaseAxle {a : Nat} (h : EngineStep s₀ s) : EngineStep s₀ (releaseAxle a s) :=
  h.each fun _ _ h => ite h.leaveSafe h
theorem EngineStep.addCause {c : SafeCause} {l : Nat} (h : EngineStep s₀ s) : EngineStep s₀ (addCause c l s) := h.updLg
theorem EngineStep.dropCause {c : SafeCause} {l : Nat} (h : EngineStep s₀ s) :
    EngineStep s₀ (dropCause c l s) :=
  h.updLg
theorem EngineStep.safeFor {c : SafeCause} {ls : List Nat} (h : EngineStep s₀ s) :
    EngineStep s₀ (safeFor c ls s) :=
  (h.each fun _ _ h => h.addCause).settleSafe
theorem EngineStep.endCause {c : SafeCause} {ls : List Nat} (h : EngineStep s₀ s) :
    EngineStep s₀ (endCause c ls s) :=
  (h.each fun _ _ h => h.dropCause).settleSafe
theorem EngineStep.latchSource {src : Nat} (h : EngineStep s₀ s) : EngineStep s₀ (latchSource src s) :=
  ite h h.sqMask.raise.settleSafe
theorem EngineStep.tripClear {n : Nat} {data : Word} (h : EngineStep s₀ s) :
    EngineStep s₀ (tripClear n data s) := by
  unfold Machine.tripClear
  extract_lets +onlyGivenNames r
  refine ite ?_ ?_
  · exact h
  · extract_lets +onlyGivenNames asked ok s1 _ s2 _ s3 s4
    have h1 : EngineStep s₀ s1 := h.wr
    have h2 : EngineStep s₀ s2 := ite (h1.upd rfl) h1
    have h3 : EngineStep s₀ s3 := ite (h2.upd rfl) h2
    have h4 : EngineStep s₀ s4 := ite h3.sq.raise h3
    exact h4.settleSafe
theorem EngineStep.swTrip {swg : Nat} (h : EngineStep s₀ s) : EngineStep s₀ (swTrip swg s) := by
  unfold Machine.swTrip
  extract_lets +onlyGivenNames old _ s1
  have h1 : EngineStep s₀ s1 := h.upd rfl
  exact h1.latchSource
theorem EngineStep.tripPin {src : Nat} {ev : PinEvent} (h : EngineStep s₀ s) : EngineStep s₀ (tripPin src ev s) := by
  have hlow : EngineStep s₀ { s with tripPins := s.tripPins.filter (fun q => q ≠ src) } := h.upd rfl
  have hhigh : EngineStep s₀ { s with tripPins := insertRising s.tripPins src } := h.upd rfl
  cases ev with
  | rise => exact hhigh.latchSource
  | fall => exact hlow
  | pulse w => exact ite hlow.latchSource (ite hlow (ite hlow.latchSource.drew hlow.drew))
theorem EngineStep.endHold {l : Nat} (h : EngineStep s₀ s) : EngineStep s₀ (endHold l s) := by
  unfold Machine.endHold
  refine ite ?_ h
  extract_lets of _ dropped
  have hdrop : EngineStep s₀ dropped := by
    have hkept : EngineStep s₀ { s with kept := s.kept.filter (fun e => !of e) } := h.upd rfl
    exact hkept.dropCause
  exact ((hdrop.each fun _ _ h => h.joinChannel).each fun _ _ h => h.mappingSettled).settleSafe
theorem EngineStep.keeperRelease (h : EngineStep s₀ s) : EngineStep s₀ (keeperRelease s) := by
  unfold Machine.keeperRelease
  extract_lets +onlyGivenNames ls s1
  have h1 : EngineStep s₀ s1 := h.each fun _ _ h => h.endHold
  exact h1.each fun _ _ h => ite h.leaveSafe h
theorem EngineStep.codesFollow {old : State} (h : EngineStep s₀ s) : EngineStep s₀ (codesFollow old s) :=
  h.each fun _ _ h => ite h.updLg (ite h.forceSafe h)
theorem EngineStep.selectionEvaluation (h : EngineStep s₀ s) : EngineStep s₀ (selectionEvaluation s) := by
  unfold Machine.selectionEvaluation
  extract_lets +onlyGivenNames old new
  exact ite h h.setFld.codesFollow.sq.raise.settleSafe
theorem EngineStep.chopFault (h : EngineStep s₀ s) : EngineStep s₀ (chopFault s) := by
  unfold Machine.chopFault
  extract_lets +onlyGivenNames _ s1 s2
  have h1 : EngineStep s₀ s1 := h.upd rfl
  have h2 : EngineStep s₀ s2 := h1.sq.raise
  exact h2.recompose.latchSource
theorem EngineStep.chopAckFault {l : Nat} (h : EngineStep s₀ s) : EngineStep s₀ (chopAckFault l s) := ite h.chopFault h
theorem EngineStep.setChop {c : Chopper} (h : EngineStep s₀ s) : EngineStep s₀ { s with chop := c } := h.upd rfl
theorem EngineStep.dcLinkReading {c : Nat} (h : EngineStep s₀ s) : EngineStep s₀ (dcLinkReading c s) := by
  unfold Machine.dcLinkReading
  extract_lets +onlyGivenNames v above was _ warned noted _ s1
  have hwarned : EngineStep s₀ warned := h.setChop
  have hnoted : EngineStep s₀ noted := ite hwarned.sq.raise hwarned
  have h1 : EngineStep s₀ s1 :=
    ite (ite (ite (ite hnoted (setChop hnoted).recompose) (ite (setChop hnoted).recompose hnoted)) hnoted) h
  exact ite (setChop h1).sq.raise h1
theorem EngineStep.chopCheck (h : EngineStep s₀ s) : EngineStep s₀ (chopCheck s) := by
  unfold Machine.chopCheck
  extract_lets +onlyGivenNames v
  exact ite h.chopFault h
theorem EngineStep.dischargeLate (h : EngineStep s₀ s) : EngineStep s₀ (dischargeLate s) := by
  unfold Machine.dischargeLate
  refine ite ?_ ?_
  · extract_lets +onlyGivenNames _ s1
    have h1 : EngineStep s₀ s1 := h.upd rfl
    exact h1.sq.raise.latchSource
  · exact h
theorem EngineStep.dischargeWritten (h : EngineStep s₀ s) : EngineStep s₀ (dischargeWritten s) := by
  unfold Machine.dischargeWritten
  extract_lets +onlyGivenNames start _ s1
  have h1 : EngineStep s₀ s1 := h.upd rfl
  exact ite h1.setFlag (ite h1.setFlag h1)
theorem EngineStep.dieTempUpdate {c : Nat} (h : EngineStep s₀ s) : EngineStep s₀ (dieTempUpdate c s) := by
  unfold Machine.dieTempUpdate
  extract_lets +onlyGivenNames kt
  split
  · exact ite h.setFlag (ite h.setFlag.setFldI h.setFlag.setFld.drew)
  · exact h.setFlag
theorem EngineStep.measure {c : Nat} {level : Bool} {d : Option Nat} (h : EngineStep s₀ s) :
    EngineStep s₀ (measure c level d s) := by
  unfold Machine.measure
  extract_lets +onlyGivenNames reg freg
  split
  · exact h.setFld
  · extract_lets +onlyGivenNames s1 f' s2
    have h1 : EngineStep s₀ s1 := h.setFld
    have h2 : EngineStep s₀ s2 := h1.setFldI.setFlag
    exact ite h2.dieTempUpdate h2
theorem EngineStep.gakAccepted {c : Nat} {level : Bool} {t : Nat} (h : EngineStep s₀ s) :
    EngineStep s₀ (gakAccepted c level t s) := by
  have settle : ∀ {u : State} {p' a : Nat} {w b : Bool}, EngineStep s₀ u →
      EngineStep s₀ (if b then Machine.chopAckFault (p' / 2)
        (((Machine.ackSettle p' a w u).sq (GCH_STAT c) GCH_STAT_ACKDROP).raise (evGate 3)) else Machine.ackSettle p' a w u) :=
    fun hu => ite hu.ackSettle.sq.raise.chopAckFault hu.ackSettle
  unfold Machine.gakAccepted
  generalize (s.ch c).edge = own
  have h1 : EngineStep s₀ ((s.setFlag (GCH_STAT c) GCH_STAT_GAK level).updCh c
      (fun x => { x with watch := x.watch && level })) := h.setFlag.updCh
  rcases own with _ | ⟨lv, e⟩
  · exact ite (settle h1).sq.raise (settle h1)
  · exact ite (settle (ite (ite h1.updCh h1.updCh.measure) h1)).sq.raise (settle (ite (ite h1.updCh h1.updCh.measure) h1))
theorem EngineStep.gakTransition {c : Nat} {level : Bool} {t : Nat} (h : EngineStep s₀ s) :
    EngineStep s₀ (gakTransition c level t s) := by
  unfold Machine.gakTransition
  extract_lets +onlyGivenNames s1
  have h1 : EngineStep s₀ s1 := h.updCh
  exact ite h1.at.gakAccepted h1
theorem EngineStep.releasePos {p t : Nat} (h : EngineStep s₀ s) : EngineStep s₀ (releasePos p t s) :=
  ite ((h.at.setPosState.each fun _ _ h => h.setGdo).updPs) h
theorem EngineStep.ackTimeout {c : Nat} {rising : Bool} (h : EngineStep s₀ s) :
    EngineStep s₀ (ackTimeout c rising s) := by
  unfold Machine.ackTimeout
  extract_lets +onlyGivenNames p l due
  refine ite ?_ ?_
  · exact h
  · extract_lets +onlyGivenNames own s1 s2
    have h1 : EngineStep s₀ s1 := h.updCh
    have h2 : EngineStep s₀ s2 := ite h1 h1.measure
    refine ite ?_ ?_
    · refine ite ?_ ?_
      · exact h2
      · extract_lets +onlyGivenNames s3 _ _ _ s4
        have h3 : EngineStep s₀ s3 := h2.sq.raise
        have h4 : EngineStep s₀ s4 := ite h3.setFlag.setFlag.raise.rc.countPos.ackSettle (ite h3.sq.latchSource h3.sq)
        exact h4.chopAckFault
    · extract_lets +onlyGivenNames s3
      have h3 : EngineStep s₀ s3 := h2.sq.raise
      exact h3.latchSource.chopAckFault
theorem EngineStep.asyncExpiry {l : Nat} (h : EngineStep s₀ s) : EngineStep s₀ (asyncExpiry l s) := by
  unfold Machine.asyncExpiry
  extract_lets +onlyGivenNames q
  exact ite h.updPs.asyncTry h
theorem EngineStep.delayLineSwap {c : Nat} {ok : Bool} (h : EngineStep s₀ s) :
    EngineStep s₀ (delayLineSwap c ok s) :=
  ite h (ite h.updCh.setFlag (ite h.updCh.sq.setFlag.raise h.updCh.sq))
theorem EngineStep.refreshStart {l : Nat} (h : EngineStep s₀ s) : EngineStep s₀ (refreshStart l s) :=
  ite h.raise.rc.sq.updLg.updPs.updPs.recompose h
theorem EngineStep.refreshEnd {l : Nat} (h : EngineStep s₀ s) : EngineStep s₀ (refreshEnd l s) :=
  ite h.updLg.updPs.updPs.recompose h
theorem EngineStep.rearmChannel {c : Nat} (h : EngineStep s₀ s) : EngineStep s₀ (rearmChannel c s) :=
  h.setFlag.setFlag.setFlag.dieTempUpdate
theorem EngineStep.syncStretch {l : Nat} (h : EngineStep s₀ s) : EngineStep s₀ (syncStretch l s) := by
  unfold Machine.syncStretch
  extract_lets +onlyGivenNames x ok t
  exact ite (ite h.updLg h.updLg) (ite h.updLg.updSd h)
theorem EngineStep.syncStretches (h : EngineStep s₀ s) : EngineStep s₀ (syncStretches s) :=
  h.each fun _ _ h => h.syncStretch
theorem EngineStep.windowOpen {a : Nat} (h : EngineStep s₀ s) : EngineStep s₀ (windowOpen a s) :=
  ite h (((h.updAx.each fun _ _ h => h.updHy).each fun _ _ h => h.updLg).syncStretches)
theorem EngineStep.endProbe {a : Nat} {kept : Bool} (h : EngineStep s₀ s) : EngineStep s₀ (endProbe a kept s) :=
  ite h.updAx.changeSources h
theorem EngineStep.holdResult {l : Nat} (h : EngineStep s₀ s) : EngineStep s₀ (holdResult l s) := by
  unfold Machine.holdResult
  extract_lets +onlyGivenNames w
  exact h.updLg
theorem EngineStep.windowClose {a : Nat} (h : EngineStep s₀ s) : EngineStep s₀ (windowClose a s) :=
  ite h (((h.updAx.syncStretches.each fun _ _ h => h.updHy).each fun _ _ h => h.holdResult).endProbe)
theorem EngineStep.windowDrop {a : Nat} (h : EngineStep s₀ s) : EngineStep s₀ (windowDrop a s) :=
  ite ((h.updAx.syncStretches.each fun _ _ h => h.updLg).endProbe) h
theorem EngineStep.axwOff {a : Nat} (h : EngineStep s₀ s) : EngineStep s₀ (axwOff a s) := h.windowDrop.updAx
theorem EngineStep.windowUpdate {a : Nat} (h : EngineStep s₀ s) : EngineStep s₀ (windowUpdate a s) :=
  ite (ite h.updAx.windowClose.raise h.updAx) h
theorem EngineStep.windowTrigger {a m : Nat} (h : EngineStep s₀ s) : EngineStep s₀ (windowTrigger a m s) :=
  ite (ite ((ite h.windowOpen h).windowClose) (ite h.windowOpen h)) h
theorem EngineStep.drayWindow {a : Nat} {opens : Bool} (h : EngineStep s₀ s) :
    EngineStep s₀ (drayWindow a opens s) :=
  ite (ite h.windowOpen h.windowClose) h
theorem EngineStep.noteSamples {c : Nat} {last : Bool} {samples : List Bool} (h : EngineStep s₀ s) :
    EngineStep s₀ (noteSamples c last samples s) :=
  ite (h.updSd.each fun _ _ h => h.updLg) h
theorem EngineStep.controlValue {c : Nat} {raw : Int} (h : EngineStep s₀ s) :
    EngineStep s₀ (controlValue c raw s) :=
  ite h.updSd (ite h.setFldI.setFld (h.each fun _ _ h => h.updLg))
theorem EngineStep.controlOutput {c : Nat} {samples : List Bool} (h : EngineStep s₀ s) :
    EngineStep s₀ (controlOutput c samples s) := by
  unfold Machine.controlOutput
  refine ite ?_ ?_
  · extract_lets +onlyGivenNames d old
    split
    · exact h.updSd.controlValue.noteSamples
  · exact h
theorem EngineStep.protectionValue {c : Nat} {raw : Int} (h : EngineStep s₀ s) :
    EngineStep s₀ (protectionValue c raw s) := by
  unfold Machine.protectionValue
  refine ite ?_ ?_
  · exact h.updSd
  · extract_lets +onlyGivenNames s1 s2 old new s3 s4 s5 s6
    have h1 : EngineStep s₀ s1 := h.setFldI
    have h2 : EngineStep s₀ s2 := h1.each fun _ _ h => h.updLg
    have h3 : EngineStep s₀ s3 := h2.updSd
    have h4 : EngineStep s₀ s4 := ite h3.sq.raise h3
    have h5 : EngineStep s₀ s5 := ite h4.sq.raise h4
    have h6 : EngineStep s₀ s6 := ite h5.latchSource h5
    exact h6.dcLinkReading
theorem EngineStep.protectionOutput {c : Nat} {samples : List Bool} (h : EngineStep s₀ s) :
    EngineStep s₀ (protectionOutput c samples s) := by
  unfold Machine.protectionOutput
  extract_lets +onlyGivenNames d
  refine ite ?_ ?_
  · extract_lets +onlyGivenNames old
    split
    · exact h.updSd.protectionValue.noteSamples
  · exact h
theorem EngineStep.faultLeg {l : Nat} (h : EngineStep s₀ s) : EngineStep s₀ (faultLeg l s) := h.setFlag.updLg
theorem EngineStep.stallChannel {c : Nat} (h : EngineStep s₀ s) : EngineStep s₀ (stallChannel c s) := by
  unfold Machine.stallChannel
  extract_lets +onlyGivenNames s1
  have h1 : EngineStep s₀ s1 := h.sq.setFlag.raise
  exact h1.updSd.each fun _ _ h => h.faultLeg
theorem EngineStep.suspectRun {c : Nat} (h : EngineStep s₀ s) : EngineStep s₀ (suspectRun c s) :=
  ite h (h.each fun _ _ h => ite h.updLg h.updLg)
theorem EngineStep.sdfStall {c : Nat} (h : EngineStep s₀ s) : EngineStep s₀ (sdfStall c s) := ite h.stallChannel h
theorem EngineStep.sdfCklost {c : Nat} (h : EngineStep s₀ s) : EngineStep s₀ (sdfCklost c s) :=
  ite (h.sq.raise.each fun _ _ h => h.updSd.stallChannel) h
theorem EngineStep.rearmSdf {c : Nat} (h : EngineStep s₀ s) : EngineStep s₀ (rearmSdf c s) := by
  unfold Machine.rearmSdf
  extract_lets +onlyGivenNames s1 s2
  have h1 : EngineStep s₀ s1 := h.setFlag.setFlag
  have h2 : EngineStep s₀ s2 := h1.updSd
  exact h2.each fun _ _ h => h.setFlag.setFld.updLg
theorem EngineStep.lmapWritten {l : Nat} (h : EngineStep s₀ s) : EngineStep s₀ (lmapWritten l s) := h.setFlag
theorem EngineStep.sarTrigger {c : Nat} (h : EngineStep s₀ s) : EngineStep s₀ (sarTrigger c s) :=
  ite h.sq.raise (ite h h.setFlag.updSr)
theorem EngineStep.sarSlotResult {c : Nat} {code : BitVec 16} (h : EngineStep s₀ s) :
    EngineStep s₀ (sarSlotResult c code s) := by
  unfold Machine.sarSlotResult
  refine ite ?_ ?_
  · exact h
  · extract_lets +onlyGivenNames x i s1
    have h1 : EngineStep s₀ s1 := h.setFld.setFld
    exact ite (ite h1.setFlag.raise.sarTrigger h1.setFlag.raise) h1.updSr
theorem EngineStep.sarAxleTrigger {a m : Nat} (h : EngineStep s₀ s) : EngineStep s₀ (sarAxleTrigger a m s) :=
  h.each fun _ _ h => h.sarTrigger
theorem EngineStep.cmpHit {k uv : Nat} (h : EngineStep s₀ s) : EngineStep s₀ (cmpHit k uv s) :=
  ite h.setFld.sqMask.raise.latchSource h
theorem EngineStep.cmpOff {k : Nat} (h : EngineStep s₀ s) : EngineStep s₀ (cmpOff k s) := ite h.setFld h
theorem EngineStep.cmpRelease {k uv : Nat} (h : EngineStep s₀ s) : EngineStep s₀ (cmpRelease k uv s) := ite h.cmpOff h
theorem EngineStep.resolverSample {r amp : Nat} {err track : BitVec 16} {speed : Word} (h : EngineStep s₀ s) :
    EngineStep s₀ (resolverSample r amp err track speed s) := by
  unfold Machine.resolverSample
  refine ite h ?_
  extract_lets +onlyGivenNames ang old x s1 s2 note
  have hnote : ∀ b f u, EngineStep s₀ u → EngineStep s₀ (note b f u) := fun b f u hu => ite hu.sq.raise hu
  have h2 : EngineStep s₀ s2 := h.setFld.wr.setFlag.updRs
  exact hnote _ _ _ (hnote _ _ _ (hnote _ _ _ (hnote _ _ _ h2)))
theorem EngineStep.encMove {e : Nat} {d : Int} {t : Nat} (h : EngineStep s₀ s) :
    EngineStep s₀ (encMove e d t s) := by
  unfold Machine.encMove
  extract_lets +onlyGivenNames cpr close s1 s2
  have h1 : EngineStep s₀ s1 := h.setFldI
  have h2 : EngineStep s₀ s2 := h1.setFld.updEn
  exact ite h2.sq.raise h2
theorem EngineStep.encoderEdge {e : Nat} {a b : Bool} {stable t : Nat} (h : EngineStep s₀ s) :
    EngineStep s₀ (encoderEdge e a b stable t s) := by
  unfold Machine.encoderEdge
  refine ite ?_ ?_
  · exact h
  · extract_lets +onlyGivenNames old s1
    have h1 : EngineStep s₀ s1 := h.updEn
    refine ite ?_ ?_
    · exact h1
    · refine ite ?_ ?_
      · exact h1.sq.raise
      · split
        · exact h1.encMove
        · exact h1
theorem EngineStep.encoderZ {e stable : Nat} (h : EngineStep s₀ s) : EngineStep s₀ (encoderZ e stable s) :=
  ite h (ite (((ite h.setFlag.sq h.setFlag).setFld).setFld) h.setFlag)
theorem EngineStep.angleLatches {a m : Nat} (h : EngineStep s₀ s) : EngineStep s₀ (angleLatches a m s) := by
  unfold Machine.angleLatches
  extract_lets +onlyGivenNames s1
  have h1 : EngineStep s₀ s1 := h.each fun _ _ h => ite h.setFld h
  exact h1.each fun _ _ h => ite h.setFld h
theorem EngineStep.setVector {k v : Nat} (h : EngineStep s₀ s) : EngineStep s₀ (setVector k v s) :=
  ite h (h.setFld.updHy.each fun _ _ h => h.recompose)
theorem EngineStep.psiRef {a : Nat} {finding : Ecc} (h : EngineStep s₀ s) : EngineStep s₀ (psiRef a finding s).1 := by
  have hown : ∀ {c : Prop} [Decidable c] {u v : State} {m n : Int}, EngineStep s₀ u → EngineStep s₀ v →
      EngineStep s₀ (if c then (u, m) else (v, n)).1 := by
    intro c _ u v m n hu hv
    split
    · exact hu
    · exact hv
  unfold Machine.psiRef
  extract_lets own addr v
  split
  · exact hown h.noteEcc (ite h.noteEcc h)
  · exact h
theorem EngineStep.compareSet {k : Nat} {finding : Ecc} (h : EngineStep s₀ s) :
    EngineStep s₀ (compareSet k finding s).1 := by
  unfold Machine.compareSet
  dsimp only
  exact h.psiRef.updHy
theorem EngineStep.regulate {k : Nat} (h : EngineStep s₀ s) : EngineStep s₀ (regulate k s) :=
  h.compareSet.setVector
theorem EngineStep.showSet {k : Nat} (h : EngineStep s₀ s) : EngineStep s₀ (showSet k s) := by
  unfold Machine.showSet
  extract_lets +onlyGivenNames x s1 s2
  have h1 : EngineStep s₀ s1 := h.setFld
  have h2 : EngineStep s₀ s2 := h1.setFld
  exact h2.wr
theorem EngineStep.showTorque {a : Nat} (h : EngineStep s₀ s) : EngineStep s₀ (showTorque a s) := h.wr
theorem EngineStep.estimate {k : Nat} (h : EngineStep s₀ s) : EngineStep s₀ (estimate k s) := by
  unfold Machine.estimate
  extract_lets +onlyGivenNames a x ls rs tflx legs u lev
  split
  · extract_lets +onlyGivenNames err psiA psiB pra prb theta w ea eb den iA iB ts win y
    exact h.updHy.drew
theorem EngineStep.slewReference {k : Nat} (h : EngineStep s₀ s) : EngineStep s₀ (slewReference k s) := by
  unfold Machine.slewReference
  extract_lets +onlyGivenNames a
  exact ite h.updAx h
theorem EngineStep.estimatorStep {k : Nat} {finding : Ecc} (h : EngineStep s₀ s) :
    EngineStep s₀ (estimatorStep k finding s) := by
  unfold Machine.estimatorStep
  refine ite ?_ h
  split
  rename_i u v huv
  have hu : EngineStep s₀ u := by
    have hc := h.estimate (k := k) |>.showSet (k := k) |>.showTorque (a := s.setAxle k) |>.slewReference (k := k)
      |>.compareSet (k := k) (finding := finding)
    rwa [huv] at hc
  exact ite hu.setVector hu
theorem EngineStep.noteEntry {a cause mode : Nat} (h : EngineStep s₀ s) :
    EngineStep s₀ (noteEntry a cause mode s) := by
  unfold Machine.noteEntry
  extract_lets +onlyGivenNames s1
  have h1 : EngineStep s₀ s1 := h.setFld.setFld
  exact h1.sq.raise
theorem EngineStep.enterFallback {a cause : Nat} (h : EngineStep s₀ s) :
    EngineStep s₀ (enterFallback a cause s) := by
  unfold Machine.enterFallback
  refine ite ?_ ?_
  · exact h
  · refine ite ?_ ?_
    · extract_lets +onlyGivenNames t s1 s2
      have h1 : EngineStep s₀ s1 := h.noteEntry.updAx
      have h2 : EngineStep s₀ s2 := h1.each fun _ _ h => h.clearCarries
      exact (h2.each fun _ _ h => h.regulate).changeSources
    · extract_lets +onlyGivenNames s1
      have h1 : EngineStep s₀ s1 := h.noteEntry.updAx
      exact ((h1.each fun _ _ h => h.clearCarries).safeFor).changeSources
theorem EngineStep.endHeld {a : Nat} (h : EngineStep s₀ s) : EngineStep s₀ (endHeld a s) := h.endCause.endCause
theorem EngineStep.clearCaught {a : Nat} (h : EngineStep s₀ s) : EngineStep s₀ (clearCaught a s) :=
  h.each fun _ _ h => h.updHy
theorem EngineStep.endFallback {a : Nat} (h : EngineStep s₀ s) : EngineStep s₀ (endFallback a s) := by
  unfold Machine.endFallback
  extract_lets +onlyGivenNames s1
  have h1 : EngineStep s₀ s1 := h.setFld.updAx
  exact h1.clearCaught.endHeld.changeSources
theorem EngineStep.hysNoconv {k : Nat} (h : EngineStep s₀ s) : EngineStep s₀ (hysNoconv k s) := by
  unfold Machine.hysNoconv
  extract_lets +onlyGivenNames a
  refine ite ?_ ?_
  · extract_lets +onlyGivenNames again n asc s1 s2 s3
    have h1 : EngineStep s₀ s1 := h.sq.raise.setFld
    have h2 : EngineStep s₀ s2 := h1.clearCaught.updAx
    have h3 : EngineStep s₀ s3 := ite h2.sq.raise h2
    exact h3.safeFor.changeSources
  · exact h
theorem EngineStep.catchAsked {a : Nat} (h : EngineStep s₀ s) : EngineStep s₀ (catchAsked a s) := h.updAx
theorem EngineStep.autoCatch {a : Nat} (h : EngineStep s₀ s) : EngineStep s₀ (autoCatch a s) := by
  unfold Machine.autoCatch
  extract_lets +onlyGivenNames c
  exact ite h.updAx h
theorem EngineStep.catchBegin {a : Nat} (h : EngineStep s₀ s) : EngineStep s₀ (catchBegin a s) := by
  unfold Machine.catchBegin
  extract_lets +onlyGivenNames dray t s1 s2 s3
  have h1 : EngineStep s₀ s1 := h.updAx
  have h2 : EngineStep s₀ s2 := h1.each fun _ _ h => h.updHy
  have h3 : EngineStep s₀ s3 := ite h2.noteEntry h2.setFld
  exact ((h3.each fun _ _ h => h.endHold).endHeld).changeSources
theorem EngineStep.catchUpdate {a : Nat} (h : EngineStep s₀ s) : EngineStep s₀ (catchUpdate a s) :=
  ite h (ite h.catchBegin (ite h.updAx.enterFallback h.updAx))
theorem EngineStep.catchProbe {a : Nat} (h : EngineStep s₀ s) : EngineStep s₀ (catchProbe a s) := by
  unfold Machine.catchProbe
  extract_lets +onlyGivenNames x
  exact ite ((h.updAx.each fun _ _ h => h.setVector).changeSources) h
theorem EngineStep.catchSet {k : Nat} {p2 : Int × Int × Bool × Nat} (h : EngineStep s₀ s) :
    EngineStep s₀ (catchSet k p2 s) := by
  unfold Machine.catchSet
  extract_lets +onlyGivenNames a p1 psiRef still dt w sg den scale s1 s2 s3
  have h1 : EngineStep s₀ s1 := h.setFlag
  have h2 : EngineStep s₀ s2 := h1.updHy
  have h3 : EngineStep s₀ s3 := h2.updHy
  exact h3.drew.showSet
theorem EngineStep.probePublished {a : Nat} (h : EngineStep s₀ s) : EngineStep s₀ (probePublished a s) := by
  unfold Machine.probePublished
  refine ite ?_ ?_
  · exact h
  · extract_lets +onlyGivenNames ks s1
    have h1 : EngineStep s₀ s1 := h.updAx
    refine ite ?_ ?_
    · exact h1.each fun _ _ h => h.updHy
    · extract_lets +onlyGivenNames s2 s3 s4
      have h2 : EngineStep s₀ s2 := h1.each fun _ _ h => h.catchSet
      have h3 : EngineStep s₀ s3 := h2.updAx
      have h4 : EngineStep s₀ s4 := h3.setFld.raise
      exact (h4.each fun _ _ h => h.regulate).changeSources
theorem EngineStep.correctSet {k : Nat} (h : EngineStep s₀ s) : EngineStep s₀ (correctSet k s) := by
  unfold Machine.correctSet
  extract_lets +onlyGivenNames a x
  refine ite ?_ ?_
  · exact h
  · split
    · extract_lets +onlyGivenNames n ea eb ls ok c done s1 s2
      have h1 : EngineStep s₀ s1 := h.updHy
      have h2 : EngineStep s₀ s2 := ite h1.setFlag (ite h1.setFlag h1)
      exact h2.showSet
theorem EngineStep.handbackAsked {a : Nat} (h : EngineStep s₀ s) : EngineStep s₀ (handbackAsked a s) := h.updAx
theorem EngineStep.handbackUpdate {a : Nat} (h : EngineStep s₀ s) : EngineStep s₀ (handbackUpdate a s) := by
  unfold Machine.handbackUpdate
  extract_lets +onlyGivenNames x
  exact ite h.setFld.updAx.clearCaught.sq.raise.changeSources h
theorem EngineStep.askFallback {a cause : Nat} (h : EngineStep s₀ s) : EngineStep s₀ (askFallback a cause s) :=
  ite h h.updAx
theorem EngineStep.fallbackUpdate {a : Nat} {pend : Option Nat} (h : EngineStep s₀ s) :
    EngineStep s₀ (fallbackUpdate a pend s) := by
  unfold Machine.fallbackUpdate
  split
  · exact h
  · exact ite h.enterFallback h
theorem EngineStep.crossCheck {l : Nat} {i : Int} (h : EngineStep s₀ s) : EngineStep s₀ (crossCheck l i s) := by
  unfold Machine.crossCheck
  extract_lets +onlyGivenNames x
  exact ite (ite h.updLg.sq.raise h.updLg) h
theorem EngineStep.countPrediction {a l src : Nat} (h : EngineStep s₀ s) :
    EngineStep s₀ (countPrediction a l src s) :=
  ite h (ite h.setFld (ite (ite h.setFld.updLg.setFlag.sq.raise h.setFld) h))
theorem EngineStep.publishLeg {a num l : Nat} {r : Nat × Int} (h : EngineStep s₀ s) :
    EngineStep s₀ (publishLeg a num l r s) := by
  unfold Machine.publishLeg
  extract_lets +onlyGivenNames reg n s1 s2 s3 s4 s5
  have h1 : EngineStep s₀ s1 := h.setFld
  have h2 : EngineStep s₀ s2 := h1.setFld
  have h3 : EngineStep s₀ s3 := h2.setFld
  have h4 : EngineStep s₀ s4 := h3.setFldI
  have h5 : EngineStep s₀ s5 := ite h4.crossCheck h4
  exact h5.updLg.countPrediction
theorem EngineStep.publication {a : Nat} (h : EngineStep s₀ s) : EngineStep s₀ (publication a s) := by
  unfold Machine.publication
  refine ite ?_ ?_
  · exact h
  · extract_lets +onlyGivenNames ls rs num s1 s2 s3
    have h1 : EngineStep s₀ s1 := h.updAx.each fun _ _ h => h.publishLeg
    have h2 : EngineStep s₀ s2 := h1.raise.drew
    have h3 : EngineStep s₀ s3 := h2.each fun _ _ h => h.correctSet
    exact h3.probePublished
theorem EngineStep.imgAdvance (h : EngineStep s₀ s) : EngineStep s₀ (imgAdvance s) := h.setLanF
theorem EngineStep.startProg (h : EngineStep s₀ s) : EngineStep s₀ (startProg s) := by
  unfold Machine.startProg
  split
  · exact h
  · extract_lets +onlyGivenNames old
    exact h.setLanW.updLan
theorem EngineStep.showProg (h : EngineStep s₀ s) : EngineStep s₀ (showProg s) := ite h h.setFlag
theorem EngineStep.queueProg {ps : List WbProg} (h : EngineStep s₀ s) : EngineStep s₀ (queueProg ps s) := by
  unfold Machine.queueProg
  extract_lets +onlyGivenNames idle s1
  have h1 : EngineStep s₀ s1 := h.updLan
  exact (h1.onlyIf fun _ h => h.startProg).showProg
theorem EngineStep.wearMark {old new mark : Nat} (h : EngineStep s₀ s) :
    EngineStep s₀ (wearMark old new mark s) :=
  ite h.raise h
theorem EngineStep.countWear {w : Nat} (h : EngineStep s₀ s) : EngineStep s₀ (countWear w s) := by
  unfold Machine.countWear
  extract_lets +onlyGivenNames old new
  exact h.setLanW.wearMark.wearMark
theorem EngineStep.appendLog {kind w : Nat} {old new : Word} (h : EngineStep s₀ s) :
    EngineStep s₀ (appendLog kind w old new s) := by
  unfold Machine.appendLog
  extract_lets +onlyGivenNames ps
  exact h.updLan.queueProg
theorem EngineStep.wbAccept {w : Nat} {v : Word} (h : EngineStep s₀ s) : EngineStep s₀ (wbAccept w v s) := by
  unfold Machine.wbAccept
  extract_lets +onlyGivenNames s1 s2
  have h1 : EngineStep s₀ s1 := h.countWear
  have h2 : EngineStep s₀ s2 := ite h1.appendLog h1
  exact h2.queueProg
theorem EngineStep.acceptSeat (h : EngineStep s₀ s) : EngineStep s₀ (acceptSeat s) := by
  unfold Machine.acceptSeat
  split
  · exact h.updCpl.wbAccept
  · exact h
theorem EngineStep.lanDeny {by_ : LanWriter} {chock : Bool} (h : EngineStep s₀ s) :
    EngineStep s₀ (lanDeny by_ chock s) := by
  cases by_ with
  | lix off => exact ite h.sq.captureRefused.raise h.sq.captureRefused
  | core => exact ite h.raise h
theorem EngineStep.lanReject {by_ : LanWriter} (h : EngineStep s₀ s) : EngineStep s₀ (lanReject by_ s) := by
  unfold Machine.lanReject
  split
  · exact h.sq.captureRefused
  · exact h.raise
theorem EngineStep.wbWrite {by_ : LanWriter} {w : Nat} {v : Word} (h : EngineStep s₀ s) :
    EngineStep s₀ (wbWrite by_ w v s) :=
  ite h.lanDeny (ite h.lanDeny (ite h.lanDeny (ite h.lanReject h.wbAccept)))
theorem EngineStep.lanStart (h : EngineStep s₀ s) : EngineStep s₀ (lanStart s) := h.setLanF.setLanF.setCore
theorem EngineStep.lanHalt (h : EngineStep s₀ s) : EngineStep s₀ (lanHalt s) := h.setLanF
theorem EngineStep.lanRunWrite {run : Bool} (h : EngineStep s₀ s) : EngineStep s₀ (lanRunWrite run s) :=
  ite (ite h h.lanStart) h.lanHalt
theorem EngineStep.lanSleep (h : EngineStep s₀ s) : EngineStep s₀ (lanSleep s) := h.setLanF.wakeLantern
theorem EngineStep.mailboxWrite {by_ : LanWriter} {w : Nat} {v : Word} (h : EngineStep s₀ s) :
    EngineStep s₀ (mailboxWrite by_ w v s) := by
  unfold Machine.mailboxWrite
  extract_lets +onlyGivenNames s1
  have h1 : EngineStep s₀ s1 := h.setLanW
  split
  · exact ite h1.updLan.wakeLantern h1
  · exact ite h1.updLan (ite h1.raise h1)
theorem EngineStep.setLix {op : LixOp} (h : EngineStep s₀ s) : EngineStep s₀ (setLix op s) := by
  have hop : EngineStep s₀ { s with lix := op } := h.upd rfl
  exact hop.setFlag
theorem EngineStep.lixAddrWritten (h : EngineStep s₀ s) : EngineStep s₀ (lixAddrWritten s) := by
  unfold Machine.lixAddrWritten
  split
  · exact h.setLix
  · exact h.setLix
theorem EngineStep.lixAdvance (h : EngineStep s₀ s) : EngineStep s₀ (lixAdvance s) := h.setFld.setLix
theorem EngineStep.lixDataWrite {off : Nat} {v : Word} (h : EngineStep s₀ s) :
    EngineStep s₀ (lixDataWrite off v s) :=
  ite h.sq h.wr.setLix
theorem EngineStep.loadChannel {c : Nat} (h : EngineStep s₀ s) : EngineStep s₀ (loadChannel c s) := by
  unfold Machine.loadChannel
  extract_lets +onlyGivenNames b s1 s2
  have h1 : EngineStep s₀ s1 := h.setFld
  have h2 : EngineStep s₀ s2 := h1.setFld
  exact h2.setFld.joinChannel
theorem EngineStep.loadLeg {l : Nat} (h : EngineStep s₀ s) : EngineStep s₀ (loadLeg l s) := by
  unfold Machine.loadLeg
  extract_lets +onlyGivenNames a b dt s1 s2 s3 s4 s5 s6 s7 s8 s9 s10 s11 s12 s13
  have h1 : EngineStep s₀ s1 := h.setFld
  have h2 : EngineStep s₀ s2 := h1.setFld
  have h3 : EngineStep s₀ s3 := h2.setFld
  have h4 : EngineStep s₀ s4 := h3.setFld
  have h5 : EngineStep s₀ s5 := h4.setFld
  have h6 : EngineStep s₀ s6 := h5.setFld
  have h7 : EngineStep s₀ s7 := h6.setFld
  have h8 : EngineStep s₀ s8 := h7.setFld
  have h9 : EngineStep s₀ s9 := h8.setFlag
  have h10 : EngineStep s₀ s10 := h9.setFld
  have h11 : EngineStep s₀ s11 := h10.setFld
  have h12 : EngineStep s₀ s12 := h11.setFlag
  have h13 : EngineStep s₀ s13 := h12.setFlag
  exact h13.setFlag
theorem EngineStep.setRecords {f : Records → Records} (h : EngineStep s₀ s) :
    EngineStep s₀ (State.setRecords s f) :=
  h.upd rfl
theorem EngineStep.loadGate (h : EngineStep s₀ s) : EngineStep s₀ (loadGate s) := by
  unfold Machine.loadGate
  refine ite ?_ ?_
  · exact (((h.each fun _ _ h => h.loadChannel).each fun _ _ h => h.loadLeg).each fun _ _ h => h.countPos).setRecords
  · exact h.raise.setRecords
theorem EngineStep.loadInput {c ckin sdly : Nat} (h : EngineStep s₀ s) :
    EngineStep s₀ (loadInput c ckin sdly s) := by
  unfold Machine.loadInput
  extract_lets +onlyGivenNames s1 s2 s3
  have h1 : EngineStep s₀ s1 := h.setFlag
  have h2 : EngineStep s₀ s2 := h1.setFlag
  have h3 : EngineStep s₀ s3 := h2.setFld
  exact h3.setFld
theorem EngineStep.loadSenseLeg {l : Nat} (h : EngineStep s₀ s) : EngineStep s₀ (loadSenseLeg l s) := by
  unfold Machine.loadSenseLeg
  extract_lets +onlyGivenNames x cch s1 s2 s3
  have h1 : EngineStep s₀ s1 := h.setFlag
  have h2 : EngineStep s₀ s2 := h1.setFld
  have h3 : EngineStep s₀ s3 := h2.setFld
  exact ite h3.loadInput.setFld h3
theorem EngineStep.loadSdc {k : Nat} (h : EngineStep s₀ s) : EngineStep s₀ (loadSdc k s) := by
  unfold Machine.loadSdc
  extract_lets +onlyGivenNames g
  exact ite h.setFlag.setFld h
theorem EngineStep.loadSense (h : EngineStep s₀ s) : EngineStep s₀ (loadSense s) := by
  unfold Machine.loadSense
  refine ite ?_ ?_
  · exact ((h.each fun _ _ h => h.loadSdc).each fun _ _ h => h.loadSenseLeg).setRecords
  · exact h.raise.setRecords
theorem EngineStep.loadHysAxle {a : Nat} (h : EngineStep s₀ s) : EngineStep s₀ (loadHysAxle a s) := by
  unfold Machine.loadHysAxle
  extract_lets +onlyGivenNames b en s1 s2 s3 s4 s5 s6
  have h1 : EngineStep s₀ s1 := h.wr
  have h2 : EngineStep s₀ s2 := h1.wr
  have h3 : EngineStep s₀ s3 := h2.wr
  have h4 : EngineStep s₀ s4 := h3.wr
  have h5 : EngineStep s₀ s5 := h4.setFld
  have h6 : EngineStep s₀ s6 := h5.setFld
  exact ite h6.loadInput.setFld h6
theorem EngineStep.loadHysSet {k : Nat} (h : EngineStep s₀ s) : EngineStep s₀ (loadHysSet k s) := by
  unfold Machine.loadHysSet
  extract_lets +onlyGivenNames w
  exact h.wr
theorem EngineStep.loadHys (h : EngineStep s₀ s) : EngineStep s₀ (loadHys s) := by
  unfold Machine.loadHys
  refine ite ?_ ?_
  · exact ((h.each fun _ _ h => h.loadHysAxle).each fun _ _ h => h.loadHysSet).setRecords
  · exact h.raise.setRecords
theorem EngineStep.loadPin {k : Nat} (h : EngineStep s₀ s) : EngineStep s₀ (loadPin k s) :=
  ite h.setFld.setFld.setFld h
theorem EngineStep.loadOv (h : EngineStep s₀ s) : EngineStep s₀ (loadOv s) := by
  unfold Machine.loadOv
  extract_lets +onlyGivenNames x k
  exact ite h.setFlag.setFlag.setFld.setFld.setFld.setFld h
theorem EngineStep.loadProt (h : EngineStep s₀ s) : EngineStep s₀ (loadProt s) := by
  unfold Machine.loadProt
  refine ite ?_ ?_
  · extract_lets +onlyGivenNames x s1 s2 s3 s4 s5 s6
    have h1 : EngineStep s₀ s1 := (h.each fun _ _ h => h.loadPin).loadOv
    have h2 : EngineStep s₀ s2 := h1.setFld
    have h3 : EngineStep s₀ s3 := h2.setFld
    have h4 : EngineStep s₀ s4 := h3.setFlag
    have h5 : EngineStep s₀ s5 := h4.setFld
    have h6 : EngineStep s₀ s6 := h5.wr.wr
    exact h6.wr.setRecords
  · exact h.sq.raise.setRecords
theorem EngineStep.loadMonLeg {l : Nat} (h : EngineStep s₀ s) : EngineStep s₀ (loadMonLeg l s) := by
  unfold Machine.loadMonLeg
  extract_lets +onlyGivenNames x mch s1 s2
  have h1 : EngineStep s₀ s1 := h.setFlag
  have h2 : EngineStep s₀ s2 := h1.setFld
  exact ite h2.loadInput.setFlag.setFld h2
theorem EngineStep.loadMonAxle {a : Nat} (h : EngineStep s₀ s) : EngineStep s₀ (loadMonAxle a s) := by
  unfold Machine.loadMonAxle
  extract_lets +onlyGivenNames x s1
  have h1 : EngineStep s₀ s1 := h.setFlag
  exact ite h1.loadInput.setFlag h1
theorem EngineStep.takeSealed (h : EngineStep s₀ s) : EngineStep s₀ (takeSealed s) := h.each fun _ _ h => h.upd rfl
theorem EngineStep.loadSealed (h : EngineStep s₀ s) : EngineStep s₀ (loadSealed s) := by
  unfold Machine.loadSealed
  refine ite ?_ ?_
  · exact ((h.takeSealed.each fun _ _ h => h.loadMonLeg).each fun _ _ h => h.loadMonAxle).setFlag
  · exact h.setFlag.sq.raise
theorem EngineStep.loadWord {off : Nat} {w : Word} (h : EngineStep s₀ s) : EngineStep s₀ (loadWord off w s) := h.wr
theorem EngineStep.loadConn {c : Nat} (h : EngineStep s₀ s) : EngineStep s₀ (loadConn c s) := by
  unfold Machine.loadConn
  extract_lets +onlyGivenNames s1 s2 s3 s4 s5 s6 s7
  have h1 : EngineStep s₀ s1 := h.loadWord
  have h2 : EngineStep s₀ s2 := h1.loadWord
  have h3 : EngineStep s₀ s3 := h2.loadWord
  have h4 : EngineStep s₀ s4 := h3.loadWord
  have h5 : EngineStep s₀ s5 := h4.loadWord
  have h6 : EngineStep s₀ s6 := h5.loadWord
  have h7 : EngineStep s₀ s7 := h6.loadWord
  exact h7.loadWord
theorem EngineStep.loadGuard (h : EngineStep s₀ s) : EngineStep s₀ (loadGuard s) :=
  ite (h.each fun _ _ h => h.loadConn) h.sq.raise
theorem EngineStep.loadHarness (h : EngineStep s₀ s) : EngineStep s₀ (loadHarness s) :=
  ite h.wr.wr.setRecords h.sq.raise.setRecords
theorem EngineStep.loadRecords {cold : Bool} (h : EngineStep s₀ s) : EngineStep s₀ (loadRecords cold s) := by
  unfold Machine.loadRecords
  extract_lets +onlyGivenNames s1 s2
  have h1 : EngineStep s₀ s1 := h.loadGate.loadSense.loadHys
  have h2 : EngineStep s₀ s2 := h1.onlyIf fun _ h => h.loadProt
  exact h2.loadSealed.loadGuard.settleSafe
theorem EngineStep.setBrake {level hold : Bool} (h : EngineStep s₀ s) : EngineStep s₀ (setBrake level hold s) := by
  unfold Machine.setBrake
  extract_lets +onlyGivenNames b s1 s2 _ s3
  have h1 : EngineStep s₀ s1 := ite h h.setFlag
  have h2 : EngineStep s₀ s2 := ite h1 h1.setFlag
  have h3 : EngineStep s₀ s3 := h2.upd rfl
  exact h3.setFlag.setFlag
theorem EngineStep.brakeTestOver {cause : Nat} (h : EngineStep s₀ s) : EngineStep s₀ (brakeTestOver cause s) := by
  unfold Machine.brakeTestOver
  extract_lets +onlyGivenNames s1 s2 m
  have h1 : EngineStep s₀ s1 := h.setFld.setFld
  have h2 : EngineStep s₀ s2 := h1.setFld.setFld
  exact h2.sqMask.raise
theorem EngineStep.brakeTestCut {cause : Nat} (h : EngineStep s₀ s) : EngineStep s₀ (brakeTestCut cause s) := by
  unfold Machine.brakeTestCut
  extract_lets n
  have hcut : EngineStep s₀ { s with brake := { s.brake with imin := n } } := h.upd rfl
  exact hcut.brakeTestOver
theorem EngineStep.brakeAbort (h : EngineStep s₀ s) : EngineStep s₀ (brakeAbort s) := ite h.brakeTestCut h
theorem EngineStep.settleBrake (h : EngineStep s₀ s) : EngineStep s₀ (settleBrake s) := by
  unfold Machine.settleBrake
  extract_lets +onlyGivenNames s1
  have h1 : EngineStep s₀ s1 := h.brakeAbort
  exact ite (ite h1.setFlag h1.setBrake) (ite h1 (ite h1.setFlag h1.setBrake))
theorem EngineStep.dropBrake (h : EngineStep s₀ s) : EngineStep s₀ (dropBrake s) := h.setBrake
theorem EngineStep.brakeTestStart (h : EngineStep s₀ s) : EngineStep s₀ (brakeTestStart s) := by
  unfold Machine.brakeTestStart
  extract_lets a0
  have hbegun : EngineStep s₀ { s with brake := { s.brake with a0 := a0, exc := 0, imin := 0xFFFF } } := h.upd rfl
  exact hbegun.setFld
theorem EngineStep.brakeMotion {angle : BitVec 16} (h : EngineStep s₀ s) :
    EngineStep s₀ (brakeMotion angle s) := by
  unfold Machine.brakeMotion
  refine ite ?_ ?_
  · exact h
  · extract_lets +onlyGivenNames d _ s1
    have h1 : EngineStep s₀ s1 := h.upd rfl
    exact ite h1.brakeTestCut h1
theorem EngineStep.monitorSet {a m : Nat} (h : EngineStep s₀ s) : EngineStep s₀ (monitorSet a m s) :=
  h.updMn.updAx.drew
theorem EngineStep.monitorBegin {a : Nat} {cut : Bool} (h : EngineStep s₀ s) :
    EngineStep s₀ (monitorBegin a cut s) := by
  unfold Machine.monitorBegin
  extract_lets +onlyGivenNames safe
  exact h.updAx
theorem EngineStep.monitorTrip {a : Nat} (h : EngineStep s₀ s) : EngineStep s₀ (monitorTrip a s) := by
  unfold Machine.monitorTrip
  extract_lets +onlyGivenNames s1 s2
  have h1 : EngineStep s₀ s1 := h.wr
  have h2 : EngineStep s₀ s2 := h1.sq.raise.capture
  exact h2.safeFor.settleBrake
theorem EngineStep.monitorCount {a len : Nat} {out : Bool} (h : EngineStep s₀ s) :
    EngineStep s₀ (monitorCount a len out s) := by
  unfold Machine.monitorCount
  extract_lets +onlyGivenNames acc n
  exact ite h.monitorTrip h.wr
theorem EngineStep.monitorInterval {a len : Nat} (h : EngineStep s₀ s) :
    EngineStep s₀ (monitorInterval a len s) := by
  unfold Machine.monitorInterval
  refine ite ?_ ?_
  · exact h
  · extract_lets +onlyGivenNames tm band out inv susp recon r s1 s2 s3 s4 s5
    have h1 : EngineStep s₀ s1 := h.wr.drew
    have h2 : EngineStep s₀ s2 := ite h1.sq.raise h1
    have h3 : EngineStep s₀ s3 := ite h2.sq.raise h2
    have h4 : EngineStep s₀ s4 := ite h3.sq h3
    have h5 : EngineStep s₀ s5 := h4.setFlag.setFlag
    exact ite h5 h5.monitorCount
theorem EngineStep.tmClear {a : Nat} {data : Word} (h : EngineStep s₀ s) : EngineStep s₀ (tmClear a data s) := by
  unfold Machine.tmClear
  extract_lets +onlyGivenNames r
  exact ite h (ite h.wr (ite h.wr.setFlag.endCause.settleBrake h.wr.sq.raise))
theorem EngineStep.clearPw (h : EngineStep s₀ s) : EngineStep s₀ (clearPw s) := h.wr.wr
theorem EngineStep.unlockStart (h : EngineStep s₀ s) : EngineStep s₀ (unlockStart s) := h.setFlag
theorem EngineStep.unlockOutcome (h : EngineStep s₀ s) : EngineStep s₀ (unlockOutcome s) := by
  unfold Machine.unlockOutcome
  extract_lets +onlyGivenNames st h'
  split
  · extract_lets +onlyGivenNames s1
    have h1 : EngineStep s₀ s1 := h.setFlag.setFld
    exact h1.setFld.raise.appendLog
  · exact ite h.setFlag.setFld.appendLog (ite h.setFld.sq.raise.appendLog h.setFld.sq.setFlag.raise.appendLog)
theorem EngineStep.sealLock (h : EngineStep s₀ s) : EngineStep s₀ (sealLock s) := by
  unfold Machine.sealLock
  extract_lets +onlyGivenNames s1 ok s2
  have h1 : EngineStep s₀ s1 := h.setFlag.loadSealed.settleSafe
  have h2 : EngineStep s₀ s2 := h1.appendLog
  exact h2.setFld.clearPw.settleBrake
theorem EngineStep.sealSetpw {slot : Nat} (h : EngineStep s₀ s) : EngineStep s₀ (sealSetpw slot s) := by
  unfold Machine.sealSetpw
  extract_lets +onlyGivenNames h'
  exact (h.each fun _ _ h => h.wbAccept).clearPw
theorem EngineStep.sealWritten (h : EngineStep s₀ s) : EngineStep s₀ (sealWritten s) := by
  unfold Machine.sealWritten
  extract_lets +onlyGivenNames w s1
  have h1 : EngineStep s₀ s1 := h.wr
  exact ite h1.unlockStart (ite h1.sealLock (ite h1.sealSetpw h1))
theorem EngineStep.ttuRearm {a : Nat} (h : EngineStep s₀ s) : EngineStep s₀ (ttuRearm a s) := by
  unfold Machine.ttuRearm
  extract_lets +onlyGivenNames s1
  have h1 : EngineStep s₀ s1 := h.setFlag.setFld
  exact h1.updAx.setFlag
theorem EngineStep.obsLost {a : Nat} (h : EngineStep s₀ s) : EngineStep s₀ (obsLost a s) := by
  unfold Machine.obsLost
  extract_lets +onlyGivenNames s1
  have h1 : EngineStep s₀ s1 := h.setFlag.raise
  exact ite h1.askFallback h1
theorem EngineStep.checkFails {a : Nat} {f : Fld} (h : EngineStep s₀ s) : EngineStep s₀ (checkFails a f s) := by
  unfold Machine.checkFails
  extract_lets +onlyGivenNames s1
  have h1 : EngineStep s₀ s1 := h.sq.raise
  exact ite h1 (ite h1.updAx.setFld.obsLost h1.updAx.setFld)
theorem EngineStep.observerReport {a : Nat} (h : EngineStep s₀ s) : EngineStep s₀ (observerReport a s) := by
  unfold Machine.observerReport
  extract_lets +onlyGivenNames checked res jump dis w s1
  have h1 : EngineStep s₀ s1 := h.updAx
  refine ite ?_ ?_
  · exact h1
  · extract_lets +onlyGivenNames s2 s3 s4
    have h2 : EngineStep s₀ s2 := ite h1.updAx h1
    have h3 : EngineStep s₀ s3 := ite h2.checkFails h2
    have h4 : EngineStep s₀ s4 := ite h3.checkFails h3
    exact ite h4.checkFails h4
theorem EngineStep.ttuClose {a : Nat} (h : EngineStep s₀ s) : EngineStep s₀ (ttuClose a s) := by
  unfold Machine.ttuClose
  extract_lets +onlyGivenNames checked s1
  have h1 : EngineStep s₀ s1 := ite h.checkFails h
  exact ite h1.setFld h1
theorem EngineStep.ttuOpen {a : Nat} (h : EngineStep s₀ s) : EngineStep s₀ (ttuOpen a s) := by
  unfold Machine.ttuOpen
  extract_lets +onlyGivenNames ang t
  exact h.updAx
theorem EngineStep.updateIndex {a : Nat} (h : EngineStep s₀ s) : EngineStep s₀ (updateIndex a s) := by
  unfold Machine.updateIndex
  extract_lets +onlyGivenNames old
  exact ite (ite h h.setFld.recomposeAxle) (ite h.sq.raise (ite h h.setFld.recomposeAxle))
theorem EngineStep.derateAxle {a : Nat} (h : EngineStep s₀ s) : EngineStep s₀ (derateAxle a s) := by
  unfold Machine.derateAxle
  extract_lets +onlyGivenNames cdr
  exact ite (ite h.sq.raise h.setFld.wr.setFlag.sq.raise) h
theorem EngineStep.setCount {a n : Nat} {down : Bool} (h : EngineStep s₀ s) :
    EngineStep s₀ (setCount a n down s) :=
  h.wr
theorem EngineStep.holdCount {a : Nat} (h : EngineStep s₀ s) : EngineStep s₀ (holdCount a s) := ite h.setCount h
theorem EngineStep.releaseCount {a : Nat} (h : EngineStep s₀ s) : EngineStep s₀ (releaseCount a s) := by
  unfold Machine.releaseCount
  extract_lets +onlyGivenNames x n e
  exact ite h.setAx h
theorem EngineStep.watchdogPoint {a : Nat} (h : EngineStep s₀ s) : EngineStep s₀ (watchdogPoint a s) := by
  unfold Machine.watchdogPoint
  extract_lets +onlyGivenNames on s1
  have h1 : EngineStep s₀ s1 := h.updAx
  exact ite h1.askFallback h1
theorem EngineStep.haltUpdate {a : Nat} (h : EngineStep s₀ s) : EngineStep s₀ (haltUpdate a s) := by
  unfold Machine.haltUpdate
  extract_lets +onlyGivenNames x
  exact ite h.updAx.endCause h
theorem EngineStep.updatePoint {a len : Nat} (h : EngineStep s₀ s) : EngineStep s₀ (updatePoint a len s) := by
  unfold Machine.updatePoint
  extract_lets +onlyGivenNames s1 pend s2 out s3 cut s4 s5 s6 s7
  have h1 : EngineStep s₀ s1 := h.watchdogPoint
  have h2 : EngineStep s₀ s2 := h1.updAx
  have h3 : EngineStep s₀ s3 := ite h2 h2.monitorInterval
  have h4 : EngineStep s₀ s4 := h3.gateUpdate
  have h5 : EngineStep s₀ s5 := (ite h4 h4.ttuClose).ttuOpen
  have h6 : EngineStep s₀ s6 := h5.windowUpdate.handbackUpdate.fallbackUpdate
  have h7 : EngineStep s₀ s7 := h6.catchUpdate.haltUpdate.releaseAxle
  exact h7.updAx.monitorBegin
theorem EngineStep.reanchorHere {a : Nat} (h : EngineStep s₀ s) : EngineStep s₀ (reanchorHere a s) := by
  unfold Machine.reanchorHere
  extract_lets +onlyGivenNames src v anchor ofs
  exact h.updAx
theorem EngineStep.scheduledPeriod {a : Nat} (h : EngineStep s₀ s) : EngineStep s₀ (scheduledPeriod a s) := by
  unfold Machine.scheduledPeriod
  extract_lets +onlyGivenNames p due s1
  have h1 : EngineStep s₀ s1 := h.updAx
  exact ite h1.setFld.setFlag.reanchorHere h1
theorem EngineStep.alignValley {a : Nat} (h : EngineStep s₀ s) : EngineStep s₀ (alignValley a s) := by
  unfold Machine.alignValley
  extract_lets +onlyGivenNames sync
  split
  · exact h.setFlag.updAx
  · extract_lets +onlyGivenNames lim k r inTol s1 s2
    have h1 : EngineStep s₀ s1 := h.updAx
    have h2 : EngineStep s₀ s2 := h1.setFlag
    exact ite h2 h2.sq.raise
theorem EngineStep.drayFlag (h : EngineStep s₀ s) : EngineStep s₀ (drayFlag s) := ite h.setFlag h
theorem EngineStep.clockChange {a : Nat} (h : EngineStep s₀ s) : EngineStep s₀ (clockChange a s) :=
  ite h.updAx.drayFlag h
theorem EngineStep.axwTakes {a : Nat} (h : EngineStep s₀ s) : EngineStep s₀ (axwTakes a s) := ite h.updAx h
theorem EngineStep.stopAxle {a : Nat} (h : EngineStep s₀ s) : EngineStep s₀ (stopAxle a s) := by
  unfold Machine.stopAxle
  extract_lets +onlyGivenNames s1 s2
  have h1 : EngineStep s₀ s1 := ite h.raise h
  have h2 : EngineStep s₀ s2 := h1.setFlag.updAx
  exact h2.endFallback.safeFor
theorem EngineStep.prepareStop {a : Nat} (h : EngineStep s₀ s) : EngineStep s₀ (prepareStop a s) :=
  h.updAx.each fun _ _ h => h.addCause
theorem EngineStep.beginCarrier {a : Nat} (h : EngineStep s₀ s) : EngineStep s₀ (beginCarrier a s) := by
  unfold Machine.beginCarrier
  extract_lets +onlyGivenNames s1 t s2
  have h1 : EngineStep s₀ s1 := h.setCount.raise
  have h2 : EngineStep s₀ s2 := ite h1.reanchorHere h1
  exact h2.updAx
theorem EngineStep.valley {a : Nat} (h : EngineStep s₀ s) : EngineStep s₀ (valley a s) := by
  unfold Machine.valley
  refine ite ?_ ?_
  · exact h
  · extract_lets +onlyGivenNames len s1 s2 s3 stop
    have h1 : EngineStep s₀ s1 := h.at
    have h2 : EngineStep s₀ s2 := h1.beginCarrier.wr
    have h3 : EngineStep s₀ s3 := h2.scheduledPeriod.alignValley.clockChange.axwTakes
    exact ite h3.prepareStop.updatePoint.stopAxle h3.updatePoint
theorem EngineStep.peak {a : Nat} (h : EngineStep s₀ s) : EngineStep s₀ (peak a s) :=
  ite (ite h.at.setCount.updAx.raise.updatePoint h.at.setCount.updAx.updAx) h
theorem EngineStep.startAxle {a : Nat} (h : EngineStep s₀ s) : EngineStep s₀ (startAxle a s) := by
  unfold Machine.startAxle
  split
  · extract_lets +onlyGivenNames s1 fine s2 ofs s3 ls s4 s5
    have h1 : EngineStep s₀ s1 := h.at
    have h2 : EngineStep s₀ s2 := h1.setFlag
    have h3 : EngineStep s₀ s3 := h2.updAx
    have h4 : EngineStep s₀ s4 := h3.each fun _ _ h => h.dropCause.dropCause
    have h5 : EngineStep s₀ s5 := h4.beginCarrier.wr
    exact h5.scheduledPeriod.clockChange.axwTakes.updatePoint
theorem EngineStep.runWritten {a : Nat} (h : EngineStep s₀ s) : EngineStep s₀ (runWritten a s) := by
  unfold Machine.runWritten
  extract_lets +onlyGivenNames run x t
  exact ite (ite h.setAx (ite h h.setAx)) (ite h.setAx h.setAx)
theorem EngineStep.freezeWritten {a n : Nat} {rose fell : Bool} (h : EngineStep s₀ s) :
    EngineStep s₀ (freezeWritten a n rose fell s) :=
  ite h (ite h.setCount (ite h.releaseCount h))
theorem EngineStep.pllTLost (h : EngineStep s₀ s) : EngineStep s₀ (pllTLost s) := by
  unfold Machine.pllTLost
  extract_lets +onlyGivenNames hit s1
  have h1 : EngineStep s₀ s1 := h.setFlag
  exact h1.each fun _ _ h =>
    ((ite h.holdCount.setFlag.setFlag.updAx.sq.raise h.holdCount.setFlag.setFlag.updAx).safeFor).endFallback
theorem EngineStep.fireEdge {a k p : Nat} {down : Bool} {phase : Nat} (h : EngineStep s₀ s) :
    EngineStep s₀ (fireEdge a k p down phase s) :=
  h.updAx.rawEdge
theorem EngineStep.compareEdge {a k t : Nat} (h : EngineStep s₀ s) : EngineStep s₀ (compareEdge a k t s) := by
  unfold Machine.compareEdge
  refine ite ?_ ?_
  · exact h
  · split
    · extract_lets +onlyGivenNames k' tick removed s1 now late s2 both s3
      have h1 : EngineStep s₀ s1 := h.at
      have h2 : EngineStep s₀ s2 := ite h1 h1.updAx
      have h3 : EngineStep s₀ s3 := ite h2.updAx h2
      exact h3.fireEdge
    · exact h
theorem EngineStep.fireTrigger {a m : Nat} (h : EngineStep s₀ s) : EngineStep s₀ (fireTrigger a m s) := by
  unfold Machine.fireTrigger
  extract_lets +onlyGivenNames s1
  have h1 : EngineStep s₀ s1 := h.updAx.raise
  exact h1.windowTrigger.sarAxleTrigger.angleLatches
theorem EngineStep.triggerWritten {a m n : Nat} (h : EngineStep s₀ s) :
    EngineStep s₀ (triggerWritten a m n s) := by
  unfold Machine.triggerWritten
  extract_lets +onlyGivenNames v n behind s1
  have h1 : EngineStep s₀ s1 := h.updAx
  exact ite h1.fireTrigger h1
theorem EngineStep.storeCompare {a : Nat} {c : CmpWrite} (h : EngineStep s₀ s) :
    EngineStep s₀ (storeCompare a c s) :=
  h.wr
theorem EngineStep.noteMap {a : Nat} {cs : List CmpWrite} (h : EngineStep s₀ s) :
    EngineStep s₀ (noteMap a cs s) :=
  ite h.sq.raise h
theorem EngineStep.lateRule {a n : Nat} {old : State} {c : CmpWrite} (h : EngineStep s₀ s) :
    EngineStep s₀ (lateRule a n old c s).1 := by
  obtain ⟨k, down, w⟩ := c
  simp only [Machine.lateRule]
  split_ifs
  · exact h
  · exact h
  · exact h
  · split
    · exact h.fireEdge
    · dsimp only; exact h.updAx
  · exact h
  · split
    · exact h.fireEdge
    · dsimp only; exact h.updAx
theorem EngineStep.applyCompares {a n : Nat} {cs : List CmpWrite} (h : EngineStep s₀ s) :
    EngineStep s₀ (applyCompares a n cs s) := by
  unfold Machine.applyCompares
  extract_lets +onlyGivenNames old stored
  have hstored : EngineStep s₀ stored := h.each fun _ _ h => h.storeCompare
  refine ite hstored.noteMap ?_
  extract_lets +onlyGivenNames counted r s1 s2
  have hcounted : EngineStep s₀ counted := (ite hstored hstored.at).setCount
  have h1 : EngineStep s₀ s1 := by
    refine List.foldlRecOn cs _ (motive := fun acc : State × Nat => EngineStep s₀ acc.1) hcounted ?_
    exact fun _ hacc _ _ => hacc.lateRule
  have h2 : EngineStep s₀ s2 := ite h1.rc.sq.raise h1
  exact h2.noteMap
theorem EngineStep.periodLate {a : Nat} (h : EngineStep s₀ s) : EngineStep s₀ (periodLate a s) := h.sq.raise
theorem EngineStep.periodWritten {a n old : Nat} (h : EngineStep s₀ s) :
    EngineStep s₀ (periodWritten a n old s) := by
  unfold Machine.periodWritten
  refine ite ?_ ?_
  · exact h
  · extract_lets +onlyGivenNames top s1 s2
    have h1 : EngineStep s₀ s1 := h.setCount
    have h2 : EngineStep s₀ s2 := ite h1.updAx h1
    exact ite h2 (ite h2.updAx (ite h2.updAx.periodLate h2))
theorem EngineStep.scheduleWritten {a : Nat} (h : EngineStep s₀ s) : EngineStep s₀ (scheduleWritten a s) := by
  unfold Machine.scheduleWritten
  extract_lets +onlyGivenNames d
  exact ite h.setFlag.periodLate h
theorem EngineStep.applyCommit {e : CommitEntry} {n : Nat} (h : EngineStep s₀ s) :
    EngineStep s₀ (applyCommit e n s) := by
  unfold Machine.applyCommit
  extract_lets +onlyGivenNames a ws
  refine ite ?_ ?_
  · exact h
  · extract_lets +onlyGivenNames point s1 counted s2 held s3
    have h1 : EngineStep s₀ s1 := h.applyCompares
    have h2 : EngineStep s₀ s2 := h1.updAx
    have h3 : EngineStep s₀ s3 := ite h2.handbackUpdate.haltUpdate h2
    exact ite h3.releaseAxle h3
theorem EngineStep.setRd {h' : Hart} {rd : GReg} {f : CoreState → Word} (h : EngineStep s₀ s) :
    EngineStep s₀ (setRd h' rd f s) :=
  h.retire
theorem EngineStep.setQ {h' : Hart} {rd : GReg} {f : CoreState → Word × Bool} (h : EngineStep s₀ s) :
    EngineStep s₀ (setQ h' rd f s) :=
  h.retire
theorem EngineStep.setF {h' : Hart} {rd : GReg} {f : CoreState → Word × Word} (h : EngineStep s₀ s) :
    EngineStep s₀ (setF h' rd f s) :=
  h.retire
theorem EngineStep.laneOp {w : Bool} {vd : VReg} {gn : GReg} {f : CoreState → Nat → Int × Word} (h : EngineStep s₀ s) :
    EngineStep s₀ (laneOp w vd gn f s) :=
  h.retire
theorem EngineStep.clkBody {inverse : Bool} {n : BitVec 4} {vr : VReg} {ax : Fin 4} (h : EngineStep s₀ s) :
    EngineStep s₀ (clkBody inverse n vr ax s) :=
  ite h.illegalAlone h.retire
theorem EngineStep.wevTake {ga : GReg} {hit : Nat} (h : EngineStep s₀ s) : EngineStep s₀ (wevTake ga hit s) := by
  unfold Machine.wevTake
  extract_lets +onlyGivenNames s1
  have h1 : EngineStep s₀ s1 := h.upd rfl
  exact h1.updTrk.retire
theorem EngineStep.latentDivergence {k : Fin 3} (h : EngineStep s₀ s) : EngineStep s₀ (latentDivergence k s) := by
  unfold Machine.latentDivergence
  extract_lets +onlyGivenNames n s1
  have h1 : EngineStep s₀ s1 := h.updTrk
  exact ite h1.coreMismatch h1.setFinding.sq.rc.raise.updTrk
theorem EngineStep.fenceAnswered (h : EngineStep s₀ s) : EngineStep s₀ (fenceAnswered s) := by
  unfold Machine.fenceAnswered
  split
  · exact ite h ((ite h.updTrk.retire h.updTrk.deliverImprecise).stepOver)
  · exact h.deliverImprecise
theorem EngineStep.haltCores (h : EngineStep s₀ s) : EngineStep s₀ (haltCores s) := by
  unfold Machine.haltCores
  extract_lets +onlyGivenNames s1 s2 s3
  have h1 : EngineStep s₀ s1 := h.each fun _ _ h => ite h.holdCount h
  have h2 : EngineStep s₀ s2 := h1.setFlag.setFlag
  have h3 : EngineStep s₀ s3 := h2.each fun _ _ h => h.updAx
  exact h3.safeFor
theorem EngineStep.clearSecrets (h : EngineStep s₀ s) : EngineStep s₀ (clearSecrets s) := by
  unfold Machine.clearSecrets
  extract_lets +onlyGivenNames s1
  have h1 : EngineStep s₀ s1 := h.each fun _ _ h => h.wr.wr.wr
  exact h1.wr.wr
theorem EngineStep.haltDue (h : EngineStep s₀ s) : EngineStep s₀ (haltDue s) := by
  unfold Machine.haltDue
  split
  · exact h
  · exact ite h.updTrk (ite (ite h.updTrk.haltCores.clearSecrets h.updTrk.haltCores) h)
theorem EngineStep.coresGoOn (h : EngineStep s₀ s) : EngineStep s₀ (coresGoOn s) := h.fenceAnswered.haltDue
theorem EngineStep.setDual (h : EngineStep s₀ s) : EngineStep s₀ (setDual s) := h.setFlag.setLeadOut
theorem EngineStep.updPt {p : Nat} {f : PortSt → PortSt} (h : EngineStep s₀ s) :
    EngineStep s₀ (State.updPt s p f) :=
  h.updCpl
theorem EngineStep.cplDrop (h : EngineStep s₀ s) : EngineStep s₀ (cplDrop s) := h.rc
theorem EngineStep.cplLink (h : EngineStep s₀ s) : EngineStep s₀ (cplLink s) := h.raise
theorem EngineStep.cplLease (h : EngineStep s₀ s) : EngineStep s₀ (cplLease s) := h.raise
theorem EngineStep.cplEpoch (h : EngineStep s₀ s) : EngineStep s₀ (cplEpoch s) := h.raise
theorem EngineStep.cplDropEvent (h : EngineStep s₀ s) : EngineStep s₀ (cplDropEvent s) := h.raise
theorem EngineStep.pruneForwards (h : EngineStep s₀ s) : EngineStep s₀ (pruneForwards s) := by
  unfold Machine.pruneForwards
  extract_lets +onlyGivenNames gone
  split
  · exact h
  · extract_lets +onlyGivenNames rest
    exact ite h.updCpl h.updCpl
theorem EngineStep.pruneQueues (h : EngineStep s₀ s) : EngineStep s₀ (pruneQueues s) := by
  unfold Machine.pruneQueues
  extract_lets +onlyGivenNames keep
  exact h.updCpl.pruneForwards
theorem EngineStep.sendOwn {f : TxFrame} (h : EngineStep s₀ s) : EngineStep s₀ (sendOwn f s) := ite h h.updCpl
theorem EngineStep.sendLink {p kind : Nat} {payload : List Byte} (h : EngineStep s₀ s) :
    EngineStep s₀ (sendLink p kind payload s) :=
  h.sendOwn
theorem EngineStep.settleTree (h : EngineStep s₀ s) : EngineStep s₀ (settleTree s) := by
  unfold Machine.settleTree
  extract_lets +onlyGivenNames s1 s2 m
  have h1 : EngineStep s₀ s1 := h.setFld
  have h2 : EngineStep s₀ s2 := h1.each fun _ _ h => h.setFlag
  exact (h2.each fun _ _ h => ite h h.setFld).pruneQueues
theorem EngineStep.sendAdvert {p : Nat} (h : EngineStep s₀ s) : EngineStep s₀ (sendAdvert p s) := h.sendLink
theorem EngineStep.advertIfChanged {was : List Word} (h : EngineStep s₀ s) :
    EngineStep s₀ (advertIfChanged was s) :=
  ite h (h.each fun _ _ h => h.sendAdvert)
theorem EngineStep.discover {d : Nat} (h : EngineStep s₀ s) : EngineStep s₀ (discover d s) := ite h h.wr
theorem EngineStep.discoverAll (h : EngineStep s₀ s) : EngineStep s₀ (discoverAll s) := by
  unfold Machine.discoverAll
  extract_lets +onlyGivenNames was
  exact ((h.each fun _ _ h => h.discover).settleTree).advertIfChanged
theorem EngineStep.failover {p d : Nat} (h : EngineStep s₀ s) : EngineStep s₀ (failover p d s) := by
  unfold Machine.failover
  extract_lets +onlyGivenNames r w
  exact ite h (ite h.setFlag (ite h.setFlag h))
theorem EngineStep.portLost {p : Nat} (h : EngineStep s₀ s) : EngineStep s₀ (portLost p s) := by
  unfold Machine.portLost
  extract_lets +onlyGivenNames was s1 whole s2 s3 s4
  have h1 : EngineStep s₀ s1 := h.wr.updPt
  have h2 : EngineStep s₀ s2 := h1.updCpl.drew
  have h3 : EngineStep s₀ s3 := h2.each fun _ _ h => h.failover
  have h4 : EngineStep s₀ s4 := h3.updCpl
  exact h4.settleTree.advertIfChanged.sq.cplLink
theorem EngineStep.portWritten {p : Nat} (h : EngineStep s₀ s) : EngineStep s₀ (portWritten p s) := ite h.portLost h
theorem EngineStep.offerOn {ps : List Nat} (h : EngineStep s₀ s) : EngineStep s₀ (offerOn ps s) :=
  h.each fun _ _ h => h.sendLink
theorem EngineStep.takeSeat {seat : Nat} (h : EngineStep s₀ s) : EngineStep s₀ (takeSeat seat s) := by
  unfold Machine.takeSeat
  extract_lets +onlyGivenNames s1 s2
  have h1 : EngineStep s₀ s1 := h.setFld.setFlag
  have h2 : EngineStep s₀ s2 := h1.updCpl
  exact h2.discoverAll
theorem EngineStep.leaveSeat (h : EngineStep s₀ s) : EngineStep s₀ (leaveSeat s) := by
  unfold Machine.leaveSeat
  extract_lets +onlyGivenNames s1 s2
  have h1 : EngineStep s₀ s1 := h.rc
  have h2 : EngineStep s₀ s2 := h1.updCpl
  exact h2.takeSeat
theorem EngineStep.henWritten (h : EngineStep s₀ s) : EngineStep s₀ (henWritten s) :=
  ite h.updCpl.drew.takeSeat.offerOn h
theorem EngineStep.grantSeat {a : Answer} (h : EngineStep s₀ s) : EngineStep s₀ (grantSeat a s) := by
  unfold Machine.grantSeat
  split
  · extract_lets +onlyGivenNames s1
    have h1 : EngineStep s₀ s1 := h.updCpl
    exact h1.sendLink
  · exact h.cplLink
theorem EngineStep.takeAnswer (h : EngineStep s₀ s) : EngineStep s₀ (takeAnswer s) := by
  unfold Machine.takeAnswer
  split
  · exact h.setFlag
  · exact ite h.wr.wr.setFlag ((h.updCpl.each fun _ _ h => h.grantSeat).setFlag)
theorem EngineStep.relayAnswer {p serial code seat : Nat} (h : EngineStep s₀ s) :
    EngineStep s₀ (relayAnswer p serial code seat s) :=
  ite h.updPt.sendLink h
theorem EngineStep.relayGrant {p seat : Nat} (h : EngineStep s₀ s) : EngineStep s₀ (relayGrant p seat s) := by
  unfold Machine.relayGrant
  extract_lets +onlyGivenNames waiting q
  exact ite h.updPt.drew.sendLink h
theorem EngineStep.keyWritten (h : EngineStep s₀ s) : EngineStep s₀ (keyWritten s) :=
  ite h.updCpl (h.each fun _ _ h => h.wr)
theorem EngineStep.admissionOver {ok : Bool} (h : EngineStep s₀ s) : EngineStep s₀ (admissionOver ok s) := by
  unfold Machine.admissionOver
  split
  · exact h
  · extract_lets +onlyGivenNames s1 s2
    have h1 : EngineStep s₀ s1 := h.updCpl
    have h2 : EngineStep s₀ s2 := ite h1.grantSeat h1.sq.cplLink
    exact h2.takeAnswer
theorem EngineStep.setTag {n : Nat} {t : TagSt} (h : EngineStep s₀ s) : EngineStep s₀ (State.setTag s n t) := h.updCpl
theorem EngineStep.loadAnswered {rt : GReg} {rot : Nat} {addr : Word} {data : Option Word} (h : EngineStep s₀ s) :
    EngineStep s₀ (loadAnswered rt rot addr data s) := by
  cases data with
  | none => exact h.updTrk.fail.stepOver.deliverImprecise.haltDue
  | some v => exact h.updTrk.retire.stepOver.deliverImprecise.haltDue
theorem EngineStep.transactionOver {ok : Bool} {data : Word} {t : TagSt} (h : EngineStep s₀ s) :
    EngineStep s₀ (transactionOver ok data t s) := by
  unfold Machine.transactionOver
  split
  · exact h.loadAnswered
  · exact (ite h h.updTrk).fenceAnswered
  · exact ite h.rcWrap h.cplDrop
  · exact h
theorem EngineStep.responseArrived {f : Frame} {rdr : Bool} (h : EngineStep s₀ s) :
    EngineStep s₀ (responseArrived f rdr s) := by
  unfold Machine.responseArrived
  extract_lets +onlyGivenNames t
  exact ite h.setTag.transactionOver h.cplDrop
theorem EngineStep.badFrame (h : EngineStep s₀ s) : EngineStep s₀ (badFrame s) := h.sq.cplDropEvent
theorem EngineStep.forward {f : Frame} (h : EngineStep s₀ s) : EngineStep s₀ (forward f s) :=
  ite h (ite (ite h.cplDrop h) h.updCpl)
theorem EngineStep.sendUncpl {seat : Nat} (h : EngineStep s₀ s) : EngineStep s₀ (sendUncpl seat s) := by
  unfold Machine.sendUncpl
  extract_lets +onlyGivenNames due
  exact ite h.updCpl.sendOwn h
theorem EngineStep.staleEpoch {f : Frame} (h : EngineStep s₀ s) : EngineStep s₀ (staleEpoch f s) :=
  h.cplDrop.cplEpoch.sendUncpl
theorem EngineStep.epochCheck {f : Frame} {body : State → State} (h : EngineStep s₀ s)
    (hb : ∀ u, EngineStep s₀ u → EngineStep s₀ (body u)) : EngineStep s₀ (epochCheck f body s) :=
  ite h (ite (hb _ h) (ite (hb _ h) h.staleEpoch))
theorem EngineStep.receive {kinds : List Nat} {f : Frame} {deliver : State → State} (h : EngineStep s₀ s)
    (hb : ∀ u, EngineStep s₀ u → EngineStep s₀ (deliver u)) : EngineStep s₀ (receive kinds f deliver s) :=
  ite h.at (ite h.at.badFrame (ite h.at (ite h.at.forward (ite h.at.forward.badFrame (hb _ h.at.forward)))))
theorem EngineStep.respond {f : Frame} {kind status : Nat} {payload : List Byte} (h : EngineStep s₀ s) :
    EngineStep s₀ (respond f kind status payload s) :=
  h.sendOwn
theorem EngineStep.setBuf {k : Nat} {b : Option ReasmBuf} (h : EngineStep s₀ s) :
    EngineStep s₀ (State.setBuf s k b) :=
  h.updCpl
theorem EngineStep.setStale {src : Nat} {x : Option Nat} (h : EngineStep s₀ s) :
    EngineStep s₀ (State.setStale s src x) :=
  h.updCpl
theorem EngineStep.txFull {event : Bool} (h : EngineStep s₀ s) : EngineStep s₀ (txFull event s) := by
  unfold Machine.txFull
  extract_lets +onlyGivenNames s1
  have h1 : EngineStep s₀ s1 := h.sq
  exact ite h1.cplDropEvent h1
theorem EngineStep.settleLease (h : EngineStep s₀ s) : EngineStep s₀ (settleLease s) := ite h.safeFor h.endCause
theorem EngineStep.renewLease (h : EngineStep s₀ s) : EngineStep s₀ (renewLease s) :=
  ite ((ite h.setFld.updCpl.cplLease h.setFld.updCpl).settleLease) h
theorem EngineStep.sendLease {beat : Word} (h : EngineStep s₀ s) : EngineStep s₀ (sendLease beat s) := h.sendOwn
theorem EngineStep.adopt {e : Nat} (h : EngineStep s₀ s) : EngineStep s₀ (adopt e s) := h.setFld.updCpl.cplEpoch
theorem EngineStep.uncouple (h : EngineStep s₀ s) : EngineStep s₀ (uncouple s) := by
  unfold Machine.uncouple
  extract_lets +onlyGivenNames s1
  have h1 : EngineStep s₀ s1 := h.setFld.updCpl
  exact h1.leaveSeat.cplLease.settleLease
theorem EngineStep.acceptLease {f : Frame} {differ : Bool} (h : EngineStep s₀ s) :
    EngineStep s₀ (acceptLease f differ s) := by
  unfold Machine.acceptLease
  extract_lets +onlyGivenNames s1
  have h1 : EngineStep s₀ s1 := ite h.adopt.sendLease h
  exact ite h1.renewLease h1
theorem EngineStep.leaseArrived {f : Frame} (h : EngineStep s₀ s) : EngineStep s₀ (leaseArrived f s) := by
  unfold Machine.leaseArrived
  extract_lets +onlyGivenNames a struckHere finish
  have hfinish : ∀ u, EngineStep s₀ u → EngineStep s₀ (finish u) := fun u hu => ite hu.uncouple hu
  exact ite (hfinish _ h.adopt.updCpl) (ite (hfinish _ h.updCpl.acceptLease)
    (ite (hfinish _ h.adopt.updCpl.acceptLease) h))
theorem EngineStep.declare (h : EngineStep s₀ s) : EngineStep s₀ (declare s) := by
  unfold Machine.declare
  extract_lets +onlyGivenNames d s1 s2
  have h1 : EngineStep s₀ s1 := h.setFlag
  have h2 : EngineStep s₀ s2 := h1.updCpl
  exact h2.adopt.sendLease
theorem EngineStep.migrationStart (h : EngineStep s₀ s) : EngineStep s₀ (migrationStart s) := by
  unfold Machine.migrationStart
  extract_lets +onlyGivenNames s1
  have h1 : EngineStep s₀ s1 := h.setFlag
  exact h1.upd rfl
theorem EngineStep.retireBank (h : EngineStep s₀ s) : EngineStep s₀ (retireBank s) := by
  unfold Machine.retireBank
  extract_lets +onlyGivenNames s1
  have h1 : EngineStep s₀ s1 := h.setFlag.setFlag
  exact h1.sq.raise
theorem EngineStep.nvmStart {erase : Bool} (h : EngineStep s₀ s) : EngineStep s₀ (nvmStart erase s) := by
  unfold Machine.nvmStart
  extract_lets +onlyGivenNames a data s1
  have h1 : EngineStep s₀ s1 := h.setFlag.setFld
  exact h1.upd rfl
theorem EngineStep.convertSensor {k : Nat} {r : Option Int} (h : EngineStep s₀ s) :
    EngineStep s₀ (convertSensor k r s) := by
  unfold Machine.convertSensor
  extract_lets +onlyGivenNames reg
  split
  · extract_lets +onlyGivenNames h' s1 s2
    have h1 : EngineStep s₀ s1 := h.updTm
    have h2 : EngineStep s₀ s2 := h1.setFlag.setFlag.setFldI
    exact h2.setFld
  · extract_lets +onlyGivenNames was s1 s2
    have h1 : EngineStep s₀ s1 := h.updTm.setFlag
    have h2 : EngineStep s₀ s2 := h1.setFld
    exact ite h2 h2.sq
theorem EngineStep.lanternSensor {r : Option Int} (h : EngineStep s₀ s) : EngineStep s₀ (lanternSensor r s) := by
  unfold Machine.lanternSensor
  split
  · exact h.updLan
  · exact h.updLan
theorem EngineStep.updateMax (h : EngineStep s₀ s) : EngineStep s₀ (updateMax s) := by
  unfold Machine.updateMax
  generalize List.foldl _ _ _ = best
  cases best with
  | none => exact h
  | some e => exact h.setFldI.setFld
theorem EngineStep.setThrottle {n : Nat} (h : EngineStep s₀ s) : EngineStep s₀ (State.setThrottle s n) := h.setFld
theorem EngineStep.absRise (h : EngineStep s₀ s) : EngineStep s₀ (absRise s) := by
  unfold Machine.absRise
  extract_lets +onlyGivenNames hot rises s1
  have h1 : EngineStep s₀ s1 := h.upd rfl
  refine ite ?_ ?_
  · extract_lets +onlyGivenNames s2 s3
    have h2 : EngineStep s₀ s2 := h1.sq.raise
    have h3 : EngineStep s₀ s3 := h2.upd rfl
    exact ite h3 h3.setThrottle
  · exact h1
theorem EngineStep.rateRise (h : EngineStep s₀ s) : EngineStep s₀ (rateRise s) := by
  unfold Machine.rateRise
  extract_lets +onlyGivenNames hit
  exact ite (ite (h.sq.raise.setThrottle.upd rfl) h.sq.raise) h
theorem EngineStep.derateAll (h : EngineStep s₀ s) : EngineStep s₀ (derateAll s) :=
  h.sq.raise.each fun _ _ h => h.derateAxle
theorem EngineStep.passDone (h : EngineStep s₀ s) : EngineStep s₀ (passDone s) := h.sq.rcWrap.raise
theorem EngineStep.moveSlot {n : Nat} (h : EngineStep s₀ s) : EngineStep s₀ (moveSlot n s) := by
  unfold Machine.moveSlot
  split
  · exact h.setFld
  · extract_lets +onlyGivenNames s1
    have h1 : EngineStep s₀ s1 := h.passDone
    exact h1.setFld
theorem EngineStep.sliceStart {u : BistUnit} (h : EngineStep s₀ s) : EngineStep s₀ (sliceStart u s) := by
  have hunit : EngineStep s₀ { s with bist := u } := h.upd rfl
  exact hunit.setFlag
theorem EngineStep.deferSlot (h : EngineStep s₀ s) : EngineStep s₀ (deferSlot s) := h.sq
theorem EngineStep.coreSlot {k : Fin 3} (h : EngineStep s₀ s) : EngineStep s₀ (coreSlot k s) := by
  unfold Machine.coreSlot
  refine ite ?_ ?_
  · exact h.deferSlot
  · split
    · extract_lets +onlyGivenNames s1
      have h1 : EngineStep s₀ s1 := h.setFld.updTrk
      exact h1.setDual.sliceStart
    · exact h
theorem EngineStep.memorySlot {n : Nat} (h : EngineStep s₀ s) : EngineStep s₀ (memorySlot n s) :=
  ite h.deferSlot (ite h.migrationStart h.sliceStart)
theorem EngineStep.passSlot (h : EngineStep s₀ s) : EngineStep s₀ (passSlot s) := by
  unfold Machine.passSlot
  split
  · exact h.moveSlot
  · extract_lets +onlyGivenNames s1
    have h1 : EngineStep s₀ s1 := h.setFld
    exact ite h1.deferSlot (ite h1.coreSlot (ite h1.memorySlot h1.sliceStart))
theorem EngineStep.sliceFailed {kind index mask : Nat} (h : EngineStep s₀ s) :
    EngineStep s₀ (sliceFailed kind index mask s) := by
  unfold Machine.sliceFailed
  extract_lets +onlyGivenNames s1
  have h1 : EngineStep s₀ s1 := ite h h.wr
  exact h1.sq.raise.capture
theorem EngineStep.coreSliceDone {k : Fin 3} {pass : Bool} (h : EngineStep s₀ s) :
    EngineStep s₀ (coreSliceDone k pass s) := by
  unfold Machine.coreSliceDone
  extract_lets +onlyGivenNames planned ready
  refine ite (ite h.updTrk ?_) h.updTrk.sq.excludeCore.sliceFailed
  extract_lets +onlyGivenNames n s1 s2
  have h2 : EngineStep s₀ s2 := ite h.updTrk.updTrk h.updTrk
  exact ite h2.updTrk h2.excludeCore
theorem EngineStep.channelFailed {c : Nat} (h : EngineStep s₀ s) : EngineStep s₀ (channelFailed c s) :=
  ite h.delayLineSwap h.updCh
theorem EngineStep.resetChannel {c : Nat} (h : EngineStep s₀ s) : EngineStep s₀ (resetChannel c s) := by
  unfold Machine.resetChannel
  extract_lets +onlyGivenNames pins s1
  have h1 : EngineStep s₀ s1 := h.updCh
  exact (h1.each fun _ _ h => h.wr).wr
theorem EngineStep.groupSliceDone {g : Nat} {pass : Bool} {chmask : BitVec 16} (h : EngineStep s₀ s) :
    EngineStep s₀ (groupSliceDone g pass chmask s) := by
  unfold Machine.groupSliceDone
  extract_lets +onlyGivenNames s1
  have h1 : EngineStep s₀ s1 := ite h ((h.each fun _ _ h => h.channelFailed).sliceFailed)
  exact h1.each fun _ _ h => h.resetChannel
theorem EngineStep.showT15 (h : EngineStep s₀ s) : EngineStep s₀ (showT15 s) := by
  unfold Machine.showT15
  extract_lets +onlyGivenNames s1
  have h1 : EngineStep s₀ s1 := h.setFlag.setFlag
  exact h1.setFldI
theorem EngineStep.pllSLost (h : EngineStep s₀ s) : EngineStep s₀ (pllSLost s) :=
  h.setFlag.each fun _ _ h => h.portLost
theorem EngineStep.startupExclude {k : Nat} (h : EngineStep s₀ s) : EngineStep s₀ (startupExclude k s) :=
  h.sq.excludeCore
theorem EngineStep.setFastPower {p : Power} (h : EngineStep s₀ s) (hp : p = .stand ∨ p = .drive) :
    EngineStep s₀ { s with power := p } :=
  h.trans ⟨rfl, rfl, rfl, rfl, rfl, fun ha => by rcases hp with rfl | rfl <;> simp_all [State.awake], id, id⟩
theorem EngineStep.enterStand (h : EngineStep s₀ s) : EngineStep s₀ (enterStand s) := by
  have hp : EngineStep s₀ { s with power := .stand } := h.setFastPower (.inl rfl)
  exact (hp.setFld.each fun _ _ h => h.updAx).safeFor.settleBrake
theorem EngineStep.enterDrive (h : EngineStep s₀ s) : EngineStep s₀ (enterDrive s) := by
  have hp : EngineStep s₀ { s with power := .drive } := h.setFastPower (.inr rfl)
  exact (hp.setFld.each fun _ _ h => h.updAx).endCause.settleBrake
theorem EngineStep.lanternAsked (h : EngineStep s₀ s) : EngineStep s₀ (lanternAsked s) := h.updLan.dropBrake
theorem EngineStep.stateRequested {req : Nat} (h : EngineStep s₀ s) : EngineStep s₀ (stateRequested req s) :=
  ite (ite h.enterStand h) (ite (ite h h.enterDrive) (ite h.lanternAsked h))
theorem EngineStep.drayDrive {enable : Bool} (h : EngineStep s₀ s) : EngineStep s₀ (drayDrive enable s) := by
  unfold Machine.drayDrive
  refine ite ?_ ?_
  · exact h
  · refine ite ?_ ?_
    · refine ite ?_ ?_
      · exact h
      · split
        · exact h.enterDrive
        · exact h.setFld
    · exact ite h.enterStand h
theorem EngineStep.cutProg (h : EngineStep s₀ s) : EngineStep s₀ (cutProg s) := by
  unfold Machine.cutProg
  split
  · exact h
  · extract_lets +onlyGivenNames s1
    have h1 : EngineStep s₀ s1 := ite h h.setLanW
    exact h1.drew.updLan
theorem EngineStep.cutRecord (h : EngineStep s₀ s) : EngineStep s₀ (cutRecord s) := by
  unfold Machine.cutRecord
  split
  · exact h
  · extract_lets +onlyGivenNames n s1
    have h1 : EngineStep s₀ s1 := h.each fun _ _ h => h.setLanW
    exact h1.drew.updLan
theorem EngineStep.runCmd {run : Bool} (h : EngineStep s₀ s) : EngineStep s₀ (runCmd run s) :=
  ite h.lanDeny h.lanRunWrite
theorem EngineStep.pmuSupply (h : EngineStep s₀ s) : EngineStep s₀ (pmuSupply s) := h.raise
theorem EngineStep.canFlag {n : Nat} {f : Fld} (h : EngineStep s₀ s) : EngineStep s₀ (canFlag n f s) := h.sq.raise
theorem EngineStep.setCanTx {n : Nat} {q : List CanEntry} (h : EngineStep s₀ s) :
    EngineStep s₀ (setCanTx n q s) :=
  h.updCn.setFld
theorem EngineStep.popCan {n : Nat} (h : EngineStep s₀ s) : EngineStep s₀ (popCan n s) := by
  unfold Machine.popCan
  split
  · exact h
  · extract_lets +onlyGivenNames s1
    have h1 : EngineStep s₀ s1 := h.setCanTx
    split
    · exact h1.setFlag
    · exact h1
theorem EngineStep.canCarry {n p : Nat} {data : Bool} {bytes : List Byte} {u : State} (h : EngineStep s₀ s)
    (hu : canCarry n p data bytes s = some u) : EngineStep s₀ u := by
  unfold Machine.canCarry at hu
  extract_lets +onlyGivenNames q at hu
  split at hu
  · obtain rfl := Option.some.inj hu
    exact ite h.drew.setCanTx.setFlag h.drew.setCanTx
  · simp at hu
theorem EngineStep.ethCarry {bytes : List Byte} {u : State} (h : EngineStep s₀ s) (hu : ethCarry bytes s = some u) :
    EngineStep s₀ u := by
  unfold Machine.ethCarry at hu
  split at hu
  · obtain rfl := Option.some.inj hu
    exact h.upd rfl
  · simp at hu
theorem EngineStep.cplCarry {p : Nat} {bytes : List Byte} {u : State} (h : EngineStep s₀ s)
    (hu : cplCarry p bytes s = some u) : EngineStep s₀ u := by
  unfold Machine.cplCarry at hu
  extract_lets cls dst at hu
  split at hu
  · obtain rfl := Option.some.inj hu
    exact h.updCpl
  · simp at hu
theorem EngineStep.handOver {p : Nat} {data : Bool} {bytes : List Byte} (h : EngineStep s₀ s) :
    EngineStep s₀ (handOver p data bytes s) := by
  unfold Machine.handOver
  extract_lets carr taken
  have htaken : ∀ u, taken = some u → EngineStep s₀ u := by
    intro u hu
    simp only [taken] at hu
    split_ifs at hu
    · exact h.canCarry hu
    · exact h.ethCarry hu
    · exact h.cplCarry hu
  cases hu : taken with
  | none => exact h.setFlag
  | some u => exact (htaken u hu).setFlag.setFld
theorem EngineStep.guardLaunch {c : Nat} (h : EngineStep s₀ s) : EngineStep s₀ (guardLaunch c s) := by
  unfold Machine.guardLaunch
  extract_lets +onlyGivenNames w seq payload dl f
  exact h.setFld.handOver
theorem EngineStep.crcFail {c : Nat} (h : EngineStep s₀ s) : EngineStep s₀ (crcFail c s) := h.sq.raise
theorem EngineStep.seqRefused {c : Nat} (h : EngineStep s₀ s) : EngineStep s₀ (seqRefused c s) := h.sq.raise
theorem EngineStep.sendRequest {c : Nat} {wait : Bool} (h : EngineStep s₀ s) :
    EngineStep s₀ (sendRequest c wait s) := by
  unfold Machine.sendRequest
  extract_lets +onlyGivenNames p
  exact ite h ((ite h.updGr.setFld h.updGr).handOver)
theorem EngineStep.askRequest {c : Nat} (h : EngineStep s₀ s) : EngineStep s₀ (askRequest c s) :=
  ite h.sendRequest h.updGr
theorem EngineStep.answerRequest {payload : List Byte} (h : EngineStep s₀ s) :
    EngineStep s₀ (answerRequest payload s) := by
  unfold Machine.answerRequest
  extract_lets +onlyGivenNames named
  split
  · exact h
  · extract_lets +onlyGivenNames pl
    exact h.handOver
theorem EngineStep.takeAnswer331 {c dl : Nat} {payload : List Byte} (h : EngineStep s₀ s) :
    EngineStep s₀ (takeAnswer331 c dl payload s) := by
  unfold Machine.takeAnswer331
  extract_lets +onlyGivenNames base good
  exact ite h.setFld.setFld.updGr.setFld.sq.raise h.sq
theorem EngineStep.resyncFrame {c dl : Nat} {payload : List Byte} (h : EngineStep s₀ s) :
    EngineStep s₀ (resyncFrame c dl payload s) :=
  ite h (ite h.answerRequest (ite h.takeAnswer331 h))
theorem EngineStep.takeCommand {c : Nat} {pl : List Byte} (h : EngineStep s₀ s) :
    EngineStep s₀ (takeCommand c pl s) := by
  unfold Machine.takeCommand
  extract_lets +onlyGivenNames a s1 s2 s3 s4 s5
  have h1 : EngineStep s₀ s1 := h.wr
  have h2 : EngineStep s₀ s2 := h1.wr
  have h3 : EngineStep s₀ s3 := h2.wr
  have h4 : EngineStep s₀ s4 := h3.setFld
  have h5 : EngineStep s₀ s5 := h4.setFlag.setFlag
  exact h5.drayDrive.settleBrake
theorem EngineStep.showData {c : Nat} {pl : List Byte} (h : EngineStep s₀ s) :
    EngineStep s₀ (showData c pl s) :=
  h.each fun _ _ h => h.wr
theorem EngineStep.acceptData {c seq delta : Nat} {pl : List Byte} (h : EngineStep s₀ s) :
    EngineStep s₀ (acceptData c seq delta pl s) := by
  unfold Machine.acceptData
  extract_lets +onlyGivenNames s1 s2 s3 s4 s5
  have h1 : EngineStep s₀ s1 := h.updGr
  have h2 : EngineStep s₀ s2 := h1.setFld
  have h3 : EngineStep s₀ s3 := h2.setFld
  have h4 : EngineStep s₀ s4 := ite h3 h3.showData
  have h5 : EngineStep s₀ s5 := ite (ite h4 h4.takeCommand) h4.setFlag
  exact h5.raise
theorem EngineStep.dataFrame {c seq dl : Nat} {pl : List Byte} (h : EngineStep s₀ s) :
    EngineStep s₀ (dataFrame c seq dl pl s) := by
  unfold Machine.dataFrame
  refine ite ?_ ?_
  · exact h.crcFail
  · refine ite ?_ ?_
    · exact h.seqRefused.askRequest
    · extract_lets +onlyGivenNames d
      exact ite h (ite (ite h.updGr.seqRefused.askRequest h.updGr.seqRefused) (ite h.acceptData h.sq.raise))
theorem EngineStep.guardReceive {c : Nat} {bs : List Byte} (h : EngineStep s₀ s) :
    EngineStep s₀ (guardReceive c bs s) := by
  unfold Machine.guardReceive
  split
  · exact h.crcFail
  · extract_lets +onlyGivenNames seq dl pl
    exact ite h.resyncFrame h.dataFrame
theorem EngineStep.windowZero {c a : Nat} (h : EngineStep s₀ s) : EngineStep s₀ (windowZero c a s) := by
  unfold Machine.windowZero
  extract_lets +onlyGivenNames react f f f s1
  have h1 : EngineStep s₀ s1 := h.setFlag.setFld
  exact (ite h1 h1.drayDrive).settleBrake
theorem EngineStep.setCanErr {n tec rec_ : Nat} (h : EngineStep s₀ s) :
    EngineStep s₀ (setCanErr n tec rec_ s) := by
  unfold Machine.setCanErr
  extract_lets +onlyGivenNames st was s1 s2
  have h1 : EngineStep s₀ s1 := h.setFld.setFld
  have h2 : EngineStep s₀ s2 := h1.setFld
  exact ite h2.canFlag (ite h2.canFlag h2)
theorem EngineStep.canSentOk {n : Nat} (h : EngineStep s₀ s) : EngineStep s₀ (canSentOk n s) := h.setCanErr
theorem EngineStep.canGotOk {n : Nat} (h : EngineStep s₀ s) : EngineStep s₀ (canGotOk n s) := by
  unfold Machine.canGotOk
  extract_lets +onlyGivenNames r
  exact h.drew.setCanErr
theorem EngineStep.headFails {n : Nat} (h : EngineStep s₀ s) : EngineStep s₀ (headFails n s) := by
  unfold Machine.headFails
  extract_lets +onlyGivenNames x
  exact ite h.updCn.popCan.canFlag (ite h.popCan h)
theorem EngineStep.canFrameEnd {n : Nat} (h : EngineStep s₀ s) : EngineStep s₀ (canFrameEnd n s) := h.updCn
theorem EngineStep.canPush {n : Nat} (h : EngineStep s₀ s) : EngineStep s₀ (canPush n s) := by
  unfold Machine.canPush
  extract_lets +onlyGivenNames q
  exact ite h.canFlag h.setCanTx
theorem EngineStep.canAbort {n : Nat} {inTx : Bool} (h : EngineStep s₀ s) : EngineStep s₀ (canAbort n inTx s) := by
  unfold Machine.canAbort
  split
  · exact h
  · exact ite h.updCn h.popCan.canFlag
theorem EngineStep.showHead {n : Nat} {b : Bool} (h : EngineStep s₀ s) : EngineStep s₀ (showHead n b s) := by
  unfold Machine.showHead
  extract_lets +onlyGivenNames q words
  have hwords : ∀ data u, EngineStep s₀ u → EngineStep s₀ (words data u) :=
    fun _ _ hu => hu.each fun _ _ h => h.wr
  split
  · exact hwords _ _ h.wr.wr.wr
  · exact hwords _ _ h.wr.wr.wr
theorem EngineStep.setCanRx {n : Nat} {b : Bool} {q : List CanEntry} (h : EngineStep s₀ s) :
    EngineStep s₀ (setCanRx n b q s) :=
  h.updCn.showHead
theorem EngineStep.canQueue {n : Nat} {b : Bool} {filt ts : Nat} {f : CanFrame} (h : EngineStep s₀ s) :
    EngineStep s₀ (canQueue n b filt ts f s) := by
  unfold Machine.canQueue
  extract_lets +onlyGivenNames q full ovw s1
  have h1 : EngineStep s₀ s1 := ite h.rc.canFlag h
  exact ite h1 h1.updCn.setCanRx.canFlag
theorem EngineStep.canPopTag {n : Nat} {b : Bool} {tag : Nat} (h : EngineStep s₀ s) :
    EngineStep s₀ (canPopTag n b tag s) := by
  unfold Machine.canPopTag
  split
  · exact ite h.setCanRx h
  · exact h
theorem EngineStep.ethFlag {f : Fld} (h : EngineStep s₀ s) : EngineStep s₀ (ethFlag f s) := h.sq.raise
theorem EngineStep.ethKick (h : EngineStep s₀ s) : EngineStep s₀ (ethKick s) := h.upd rfl
theorem EngineStep.mdioStart (h : EngineStep s₀ s) : EngineStep s₀ (mdioStart s) := h.setFlag
theorem EngineStep.captureCommand {a : Nat} (h : EngineStep s₀ s) : EngineStep s₀ (captureCommand a s) := h.upd rfl
theorem EngineStep.sqClear {o : Nat} {ix : List Nat} {flags data req : Word} (h : EngineStep s₀ s) :
    EngineStep s₀ (sqClear o ix flags data req s) :=
  ite h.tripClear (ite h.tmClear (ite h (ite h (ite h.wr.settleBrake h.wr))))
theorem EngineStep.wroteMEM {o : Nat} {new : Word} (h : EngineStep s₀ s) : EngineStep s₀ (wroteMEM o new s) :=
  ite h.setFld.nvmStart h
theorem EngineStep.wroteAXL {o : Nat} {old new : Word} {n : Nat} {lost : Bool} (h : EngineStep s₀ s) :
    EngineStep s₀ (wroteAXL o old new n lost s) := by
  unfold Machine.wroteAXL
  extract_lets +onlyGivenNames a r
  refine ite ?_ ?_
  · exact h.runWritten.freezeWritten
  · refine ite ?_ ?_
    · exact ite h h.periodWritten
    · exact ite h.scheduleWritten (ite (h.each fun _ _ h => h.mapChanged) (ite h.triggerWritten h))
theorem EngineStep.mapWritten {c p0 : Nat} {before : State} (h : EngineStep s₀ s) :
    EngineStep s₀ (mapWritten c p0 before s) := by
  unfold Machine.mapWritten
  extract_lets +onlyGivenNames p s1
  have h1 : EngineStep s₀ s1 := h.joinChannel
  exact h1.mappingSettled.mappingSettled.recompose.recompose
theorem EngineStep.wroteGCH {o : Nat} {old new : Word} {before : State} (h : EngineStep s₀ s) :
    EngineStep s₀ (wroteGCH o old new before s) := by
  unfold Machine.wroteGCH
  extract_lets +onlyGivenNames c r
  exact ite h.mapWritten (ite (ite h.rearmChannel h) (ite h.dieTempUpdate h))
theorem EngineStep.legWritten {l : Nat} {old new : Word} (h : EngineStep s₀ s) :
    EngineStep s₀ (legWritten l old new s) := by
  unfold Machine.legWritten
  extract_lets +onlyGivenNames s1 s2 s3
  have h1 : EngineStep s₀ s1 := ite h.clearCarries h
  have h2 : EngineStep s₀ s2 := ite h1.dropEdges.clearRaw h1
  have h3 : EngineStep s₀ s3 := ite h2.clampDeadTime h2
  exact h3.settleSafe.recompose
theorem EngineStep.wrotePOS {o : Nat} {old new : Word} (h : EngineStep s₀ s) :
    EngineStep s₀ (wrotePOS o old new s) := by
  unfold Machine.wrotePOS
  refine ite ?_ ?_
  · exact ite h.recompose h
  · exact ite (ite h.legWritten (ite h.clampDeadTime h)) (ite (h.each fun _ _ h => h.dieTempUpdate) h)
theorem EngineStep.wroteSDF {o : Nat} {old new : Word} (h : EngineStep s₀ s) :
    EngineStep s₀ (wroteSDF o old new s) := by
  unfold Machine.wroteSDF
  refine ite ?_ ?_
  · extract_lets +onlyGivenNames c
    exact ite (ite (((ite h h.updSd).setFlag).rearmSdf) (ite h h.updSd)) h
  · exact ite h.lmapWritten (ite (ite h.axwOff h) h)
theorem EngineStep.wroteSAR {o : Nat} {new : Word} (h : EngineStep s₀ s) : EngineStep s₀ (wroteSAR o new s) :=
  ite (ite h.setFlag.sarTrigger (ite h.setFlag.sarTrigger h.setFlag)) (ite (ite h h.cmpOff) h)
theorem EngineStep.wroteRES {o : Nat} {old new : Word} (h : EngineStep s₀ s) :
    EngineStep s₀ (wroteRES o old new s) := by
  unfold Machine.wroteRES
  extract_lets +onlyGivenNames e
  exact ite (((ite h.setFlag.updEn h).setFld).settleBrake) h
theorem EngineStep.wroteHYS {o : Nat} {old new : Word} (h : EngineStep s₀ s) :
    EngineStep s₀ (wroteHYS o old new s) := by
  unfold Machine.wroteHYS
  refine ite ?_ ?_
  · extract_lets +onlyGivenNames a
    refine ite ?_ ?_
    · extract_lets +onlyGivenNames s1 s2 s3
      have h1 : EngineStep s₀ s1 := h.wr
      have h2 : EngineStep s₀ s2 := h1.onlyIf fun _ h => h.catchAsked
      have h3 : EngineStep s₀ s3 := h2.onlyIf fun _ h => h.handbackAsked
      exact h3.onlyIf fun _ h => h.askFallback
    · exact h
  · exact h.each fun _ _ h => h.recompose
theorem EngineStep.wroteTTU {o : Nat} {old new : Word} (h : EngineStep s₀ s) :
    EngineStep s₀ (wroteTTU o old new s) := by
  unfold Machine.wroteTTU
  extract_lets +onlyGivenNames a r
  exact ite h.updateIndex (ite h.observerReport (ite (ite h.setFlag.ttuRearm h.setFlag) h))
theorem EngineStep.wrotePROT {o : Nat} {old new : Word} {before : State} (h : EngineStep s₀ s) :
    EngineStep s₀ (wrotePROT o old new before s) := by
  unfold Machine.wrotePROT
  refine ite ?_ ?_
  · extract_lets +onlyGivenNames s1 s2
    have h1 : EngineStep s₀ s1 := h.setFlag.setFlag
    have h2 : EngineStep s₀ s2 := h1.onlyIf fun _ h => h.swTrip
    exact h2.onlyIf fun _ h => h.keeperRelease
  · refine ite ?_ ?_
    · exact h.dischargeWritten
    · refine ite ?_ ?_
      · exact h.upd rfl
      · refine ite ?_ ?_
        · extract_lets +onlyGivenNames _ s1
          have h1 : EngineStep s₀ s1 := ite h (h.upd rfl)
          exact h1.changeSource.changeSource
        · exact ite h.codesFollow.settleSafe h
theorem EngineStep.wroteSAFE {o : Nat} {new : Word} (h : EngineStep s₀ s) : EngineStep s₀ (wroteSAFE o new s) := by
  unfold Machine.wroteSAFE
  refine ite ?_ ?_
  · extract_lets +onlyGivenNames s1 s2 s3
    have h1 : EngineStep s₀ s1 := h.setFlag
    have h2 : EngineStep s₀ s2 := ite h1.brakeTestStart h1
    have h3 : EngineStep s₀ s3 := ite h2.brakeTestCut h2
    exact h3.settleBrake
  · exact ite h.sealWritten h
theorem EngineStep.wroteGRD {o : Nat} {old new : Word} (h : EngineStep s₀ s) :
    EngineStep s₀ (wroteGRD o old new s) := by
  unfold Machine.wroteGRD
  extract_lets +onlyGivenNames c
  exact ite (ite h.setFld.updGr h) (ite (ite h.guardLaunch h) h)
theorem EngineStep.wroteCAN {o : Nat} {old new : Word} {inTx : Bool} (h : EngineStep s₀ s) :
    EngineStep s₀ (wroteCAN o old new inTx s) := by
  unfold Machine.wroteCAN
  extract_lets +onlyGivenNames n r
  refine ite ?_ ?_
  · exact ite (ite h.updCn h.setFld) (ite h.updCn.setFld h)
  · refine ite ?_ ?_
    · extract_lets +onlyGivenNames s1 s2
      have h1 : EngineStep s₀ s1 := h.setFlag.setFlag
      have h2 : EngineStep s₀ s2 := ite h1.canAbort h1
      exact ite h2.canPush h2
    · exact ite (ite h.updCn h) (ite h.wr.canPopTag h)
theorem EngineStep.wroteETH {o : Nat} {old new : Word} (h : EngineStep s₀ s) :
    EngineStep s₀ (wroteETH o old new s) :=
  ite (h.upd rfl) (ite (ite h.setFlag.ethKick h) (ite (ite h.setFlag.mdioStart h) h))
theorem EngineStep.notePriv {v : View} {off : Nat} {c : Card} (h : EngineStep s₀ s) :
    EngineStep s₀ (notePriv v off c s) :=
  ite h.raise.captureRefused h
theorem EngineStep.refuseWrite {v : View} {off o : Nat} {new : Word} (h : EngineStep s₀ s) :
    EngineStep s₀ (refuseWrite v off o new s) := by
  unfold Machine.refuseWrite
  extract_lets s1
  have h1 : EngineStep s₀ s1 := by
    refine ite ?_ h
    split
    · exact h.setFld
    · exact h
  exact h1.badValue
theorem EngineStep.lixDataRead (h : EngineStep s₀ s) : EngineStep s₀ (lixDataRead s).2 := by
  unfold Machine.lixDataRead
  split
  · exact h.sq
  · exact (ite h.imgAdvance h).onlyIf fun _ h => h.lixAdvance
theorem EngineStep.readReg {v : View} {o : Nat} (h : EngineStep s₀ s) : EngineStep s₀ (readReg v o s).2 := by
  unfold Machine.readReg
  split
  · exact h
  split
  · exact h.raise
  split
  · exact h.lixDataRead
  dsimp only
  split
  · exact h.wr
  split
  · exact h.wr.drew
  split
  · exact h.captureCommand
  · exact h
theorem EngineStep.loadView {v : View} {off : Nat} {a : Word} {env : Env} {put : List Byte → CoreState → CoreState}
    (h : EngineStep s₀ s) : EngineStep s₀ (loadView v off a env put s) := by
  unfold Machine.loadView
  split
  · exact h.fail
  · exact h.at.readReg.retire
theorem EngineStep.loadRemote {d off : Nat} {a : Word} {rt : GReg} {rot : Nat} (h : EngineStep s₀ s) :
    EngineStep s₀ (loadRemote d off a rt rot s) := by
  unfold Machine.loadRemote
  refine ite ?_ ?_
  · exact h.fail
  · split
    · exact h
    · extract_lets +onlyGivenNames s1
      have h1 : EngineStep s₀ s1 := h.setTag.updTrk
      exact h1.sendOwn
theorem EngineStep.storeRemote {d off : Nat} {a w : Word} (h : EngineStep s₀ s) :
    EngineStep s₀ (storeRemote d off a w s) := by
  unfold Machine.storeRemote
  refine ite ?_ ?_
  · exact h.updTrk.retire
  · split
    · exact h
    · exact h.setTag.sendOwn.retire
theorem EngineStep.rdArrived {f : Frame} (h : EngineStep s₀ s) : EngineStep s₀ (rdArrived f s) := by
  unfold Machine.rdArrived
  split
  · exact ite h.readReg.respond h.respond
  · exact h.respond
theorem EngineStep.pathUnlocated (h : EngineStep s₀ s) : EngineStep s₀ (pathUnlocated s) := h.safeFor.unlocated
theorem EngineStep.oneCopy {voter : Nat} (h : EngineStep s₀ s) : EngineStep s₀ (oneCopy voter s) := h.setFld.sq.raise
theorem EngineStep.pathOutcome {f : PathFindings} {revote : Vote} (h : EngineStep s₀ s) :
    EngineStep s₀ (pathOutcome f revote s) := by
  unfold Machine.pathOutcome
  split
  · exact ite h.pathUnlocated (ite h.oneCopy (ite h.oneCopy (ite h.updTrk.pathUnlocated h.updTrk)))
  · exact ite h.pathUnlocated (ite h.excludeCore h.pathUnlocated)
  · exact h.pathUnlocated
end Sys2Proof.Proofs
end

section
/-! The canonical form of the stores (R13, R30): memory, registers, Lantern words and Lantern RAM list their keys in rising
order and list no key at its default. Each operation that acts on them keeps the form; the engines keep it already. -/

namespace Sys2Proof.Proofs

open Sys2Proof Sys2Proof.Machine Sys2Proof.Safety Sys2Proof.Laws

-- The lemmas below find side conditions by an `autoParam`, for which an asynchronous proof would hold a thread.
set_option Elab.async false

/-- A state whose stores are in their canonical form. -/
structure CanonicalState (s : State) : Prop where
  mem : mwf memDefault s.mem = true
  regs : mwf regDefault s.regs = true
  words : mwf lanDefault s.lan.words = true
  ram : mwf (fun _ => (0 : Byte)) s.lan.ram = true

theorem canonical_iff (s : State) : Canonical s ↔ CanonicalState s :=
  ⟨fun ⟨hm, hr, hw, ha⟩ => ⟨hm, hr, hw, ha⟩, fun ⟨hm, hr, hw, ha⟩ => ⟨hm, hr, hw, ha⟩⟩

variable {s t : State}

theorem CanonicalState.engine (h : CanonicalState s) (he : EngineStep s t) : CanonicalState t :=
  ⟨he.mem ▸ h.mem, he.regs h.regs, he.words h.words, he.ram ▸ h.ram⟩

/-- An update outside the stores. -/
theorem CanonicalState.upd (h : CanonicalState s) (hm : t.mem = s.mem := by rfl) (hr : t.regs = s.regs := by rfl)
    (hw : t.lan.words = s.lan.words := by rfl) (ha : t.lan.ram = s.lan.ram := by rfl) : CanonicalState t :=
  ⟨hm ▸ h.mem, hr ▸ h.regs, hw ▸ h.words, ha ▸ h.ram⟩

theorem CanonicalState.ite {c : Prop} [Decidable c] (h : CanonicalState s) (h' : CanonicalState t) :
    CanonicalState (if c then s else t) := by
  split
  · exact h
  · exact h'

theorem CanonicalState.each {α : Type} {xs : List α} {f : α → State → State} (h : CanonicalState s)
    (hf : ∀ x u, CanonicalState u → CanonicalState (f x u)) : CanonicalState (each xs f s) := by
  unfold Machine.each
  induction xs generalizing s with
  | nil => exact h
  | cons x xs ih => exact ih (hf x s h)

theorem CanonicalState.foldl {α : Type} {xs : List α} {f : State → α → State} (h : CanonicalState s)
    (hf : ∀ u x, CanonicalState u → CanonicalState (f u x)) : CanonicalState (xs.foldl f s) := by
  induction xs generalizing s with
  | nil => exact h
  | cons x xs ih => exact ih (hf s x h)

theorem CanonicalState.onlyIf {c : Bool} {f : State → State} (h : CanonicalState s)
    (hf : ∀ u, CanonicalState u → CanonicalState (f u)) : CanonicalState (onlyIf c f s) := .ite (hf s h) h

/-! ### The Whiffletree around an operation -/

theorem CanonicalState.oddLane {k : Fin 3} {kind addr fields : Nat} {body : State → State} (h : CanonicalState s)
    (hb : ∀ u, CanonicalState u → CanonicalState (body u)) : CanonicalState (oddLane k kind addr fields body s) := by
  unfold Machine.oddLane
  extract_lets +onlyGivenNames st
  exact ite (ite (hb s h) (h.engine EngineStep.refl.setFinding.unlocated)) (hb _
    (h.engine EngineStep.refl.coreMismatch))

theorem CanonicalState.vote {kind addr : Nat} {v : Vote} {perform : State → State} (h : CanonicalState s)
    (hp : ∀ u, CanonicalState u → CanonicalState (perform u)) : CanonicalState (vote kind addr v perform s) := by
  unfold Machine.vote
  cases v with
  | agree => exact hp s h
  | odd k f => exact h.oddLane hp
  | extra k => exact h.oddLane hp
  | allDiffer f => exact h.engine EngineStep.refl.setFinding.unlocated
  | pairDiffers f => exact ite (h.engine EngineStep.refl.setFinding.unlocated) (hp s h)
  | copiesDisagree f => exact ite (h.engine EngineStep.refl.copyDisagreement) (hp s h)

theorem CanonicalState.heldBy {i : Instr} {body : State → State} (h : CanonicalState s)
    (hb : ∀ u, CanonicalState u → CanonicalState (body u)) : CanonicalState (heldBy i body s) := by
  unfold Machine.heldBy
  extract_lets +onlyGivenNames t
  exact ite ((hb s h).engine EngineStep.refl.updTrk) (hb s h)

theorem CanonicalState.epochCheck {f : Frame} {body : State → State} (h : CanonicalState s)
    (hb : ∀ u, CanonicalState u → CanonicalState (body u)) : CanonicalState (epochCheck f body s) := by
  unfold Machine.epochCheck
  extract_lets +onlyGivenNames a
  exact ite h (ite (hb s h) (ite (hb s h) (h.engine EngineStep.refl.staleEpoch)))

theorem CanonicalState.receive {kinds : List Nat} {f : Frame} {deliver : State → State} (h : CanonicalState s)
    (hd : ∀ u, CanonicalState u → CanonicalState (deliver u)) : CanonicalState (receive kinds f deliver s) := by
  unfold Machine.receive
  extract_lets +onlyGivenNames s1 s2
  have h1 : CanonicalState s1 := h.engine EngineStep.refl.at
  have h2 : CanonicalState s2 := h1.engine EngineStep.refl.forward
  exact ite h1 (ite (h1.engine EngineStep.refl.badFrame)
    (ite h1 (ite h2 (ite (h2.engine EngineStep.refl.badFrame) (hd s2 h2)))))

/-! ### Checked reads -/

theorem CanonicalState.memCheck {a : Nat} {e : Ecc} (h : CanonicalState s) : CanonicalState (memCheck a e s).1 := by
  have hnote : ∀ ue, CanonicalState (noteEcc ue a s) := fun _ => h.engine EngineStep.refl.noteEcc
  unfold Machine.memCheck
  split
  · exact hnote true
  split
  · exact hnote false
  · exact h

theorem CanonicalState.readCheck {a n : Nat} {env : Env}
    (h : CanonicalState s) : CanonicalState (readCheck a n env s).1 :=
  h.memCheck

theorem CanonicalState.portFCheck {a n : Nat} {m : PortF}
    (h : CanonicalState s) : CanonicalState (portFCheck a n m s).1 := by
  have hfold : ∀ (ks : List Nat) (f : State × Bool → Nat → State × Bool) (p : State × Bool),
      (∀ q k, CanonicalState q.1 → CanonicalState (f q k).1) → CanonicalState p.1 → CanonicalState
        (ks.foldl f p).1 := by
    intro ks f p hf
    induction ks generalizing p with
    | nil => exact id
    | cons k ks ih => exact fun hp => ih _ (hf p k hp)
  refine hfold _ _ (s, true) (fun q k hq => ?_) h
  dsimp only
  split
  · exact hq.memCheck
  · exact hq

theorem CanonicalState.atabReads {addr : Nat → Nat} {env : Nat → Env} {body : State → State} {ks : List Nat}
    (h : CanonicalState s) (hb : ∀ u, CanonicalState u → CanonicalState (body u)) :
    CanonicalState (atabReads addr env body ks s) := by
  induction ks generalizing s with
  | nil => exact hb s h
  | cons k ks ih =>
    exact h.vote fun u h => .ite (ih h.memCheck) (h.memCheck.engine EngineStep.refl.failAlone)

/-! ### Memory and Lantern RAM -/

theorem CanonicalState.setByte {a : Nat} {b : Byte} (h : CanonicalState s) : CanonicalState (State.setByte s a b) :=
  ⟨mwf_mset _ _ _ _ h.mem, h.regs, h.words, h.ram⟩
theorem CanonicalState.setBytes {a : Nat} {bs : List Byte}
    (h : CanonicalState s) : CanonicalState (State.setBytes s a bs) := by
  induction bs generalizing s a with
  | nil => exact h
  | cons b bs ih => exact ih h.setByte
theorem CanonicalState.setWord32 {a : Nat} {w : Word} (h : CanonicalState s) :
    CanonicalState (State.setWord32 s a w) :=
  h.setBytes
theorem CanonicalState.setPoison {a : Nat} {on : Bool}
    (h : CanonicalState s) : CanonicalState (State.setPoison s a on) := h.upd
theorem CanonicalState.clearMemory {m : ClearMem} (h : CanonicalState s) : CanonicalState (clearMemory m s) := by
  unfold Machine.clearMemory
  extract_lets +onlyGivenNames s1
  have h1 : CanonicalState s1 := ⟨mwf_filter _ _ _ h.mem, h.regs, h.words, h.ram⟩
  exact ite ⟨h1.mem, h1.regs, h1.words, rfl⟩ h1
theorem CanonicalState.waitCleared {m : ClearMem} (h : CanonicalState s) : CanonicalState (waitCleared m s) :=
  ite h.clearMemory.upd h
theorem CanonicalState.waitFor {a : Nat} (h : CanonicalState s) : CanonicalState (waitFor a s) := by
  unfold Machine.waitFor
  split
  · exact h.waitCleared
  · exact h.waitCleared
  · exact h.waitCleared
  · exact h
theorem CanonicalState.putBytes {a : Nat} {bs : List Byte} (h : CanonicalState s) :
    CanonicalState (State.putBytes s a bs) :=
  (h.engine EngineStep.refl.migWrite).setBytes
theorem CanonicalState.memWriteUnit {a : Nat} {bs : List Byte} {e : Ecc} (h : CanonicalState s) :
    CanonicalState (memWriteUnit a bs e s) := by
  unfold Machine.memWriteUnit
  refine ite ?_ ?_
  · exact h.setPoison.putBytes
  · refine ite ?_ ?_
    · exact (h.engine EngineStep.refl.noteEcc).setPoison
    · exact (ite (h.engine EngineStep.refl.noteEcc) h).putBytes
theorem CanonicalState.memWrite {a : Nat} {bs : List Byte} {e : Ecc} (h : CanonicalState s) :
    CanonicalState (memWrite a bs e s) :=
  ite h.memWriteUnit (h.foldl fun _ _ h => h.memWriteUnit)
theorem CanonicalState.performStore {a : Nat} {bs : List Byte} {e : Ecc} {portF : Bool} (h : CanonicalState s) :
    CanonicalState (performStore a bs e portF s) :=
  h.waitFor.memWrite.engine EngineStep.refl.tandemCollision
theorem CanonicalState.drainLead {n : Nat} (h : CanonicalState s) : CanonicalState (drainLead n s) := by
  induction n generalizing s with
  | zero => exact h
  | succ n ih =>
    unfold Machine.drainLead
    split
    · exact ih (h.engine EngineStep.refl.updTrk).performStore
    · exact h
theorem CanonicalState.busView (h : CanonicalState s) : CanonicalState (busView s) := by
  unfold Machine.busView
  extract_lets +onlyGivenNames n
  exact ite h (h.drainLead.engine EngineStep.refl.drew)
theorem CanonicalState.setLanRamByte {a : Nat} {b : Byte} (h : CanonicalState s) :
    CanonicalState (State.setLanRamByte s a b) :=
  ⟨h.mem, h.regs, h.words, mwf_mset _ _ _ _ h.ram⟩
theorem CanonicalState.setLanRam {w : Nat} {v : Word} (h : CanonicalState s) :
    CanonicalState (State.setLanRam s w v) :=
  h.each fun _ _ h => h.setLanRamByte
theorem CanonicalState.fastWakes {mems : List ClearMem} (h : CanonicalState s) : CanonicalState (fastWakes mems s) :=
  (h.engine EngineStep.refl.setFlag).upd
theorem CanonicalState.acceptWake {f : Fld} (h : CanonicalState s) : CanonicalState (acceptWake f s) := by
  unfold Machine.acceptWake
  extract_lets +onlyGivenNames s1
  have h1 : CanonicalState s1 := h.engine EngineStep.refl.lanSq.wakeLantern
  exact ite h1.fastWakes (ite (h1.engine EngineStep.refl.updLan) h1)
theorem CanonicalState.lanCtlWrite {by_ : LanWriter} {v : Word} (h : CanonicalState s) :
    CanonicalState (lanCtlWrite by_ v s) := by
  unfold Machine.lanCtlWrite
  extract_lets +onlyGivenNames s1
  have h1 : CanonicalState s1 := h.engine EngineStep.refl.setLanW
  split
  · exact h1.engine EngineStep.refl.lanRunWrite
  · extract_lets +onlyGivenNames s2
    have h2 : CanonicalState s2 := h1.onlyIf fun _ h => h.engine EngineStep.refl.lanSleep
    exact ite h2.acceptWake h2
theorem CanonicalState.lanControlWrite {by_ : LanWriter} {w : Nat} {v : Word} (h : CanonicalState s) :
    CanonicalState (lanControlWrite by_ w v s) := by
  unfold Machine.lanControlWrite
  refine ite ?_ ?_
  · exact h.lanCtlWrite
  · refine ite ?_ ?_
    · extract_lets +onlyGivenNames x
      exact ite (h.engine EngineStep.refl.setLanW) h
    · refine ite ?_ ?_
      · exact ite (h.engine EngineStep.refl.lanDeny) (h.engine EngineStep.refl.setLanW)
      · refine ite ?_ ?_
        · exact h.engine EngineStep.refl.setLanW
        · refine ite ?_ ?_
          · exact ite (h.engine EngineStep.refl.lanDeny) (h.waitCleared.setLanRam.engine EngineStep.refl.imgAdvance)
          · exact h.engine EngineStep.refl.setLanW
theorem CanonicalState.lanWrite {by_ : LanWriter} {w : Nat} {v : Word} (h : CanonicalState s) :
    CanonicalState (lanWrite by_ w v s) := by
  unfold Machine.lanWrite
  refine ite ?_ ?_
  · exact h.engine EngineStep.refl.lanDeny
  · split
    · exact h.lanControlWrite
    · exact h.engine EngineStep.refl.mailboxWrite
    · exact h.engine EngineStep.refl.wbWrite
    · exact h.engine EngineStep.refl.lanDeny
    · exact h.engine EngineStep.refl.lanDeny
    · exact h.engine EngineStep.refl.lanDeny
    · split
      · exact h.engine EngineStep.refl.sq
      · exact h
theorem CanonicalState.drainOldest (h : CanonicalState s) : CanonicalState (drainOldest s) := by
  unfold Machine.drainOldest
  split
  · exact h
  · exact h.engine EngineStep.refl.updTrk.applyCommit.syncStretches.drew
  · exact h.drainLead
theorem CanonicalState.drainStores (h : CanonicalState s) : CanonicalState (drainStores s) :=
  h.foldl fun _ _ h => h.drainOldest
theorem CanonicalState.pushEntry {e : BufEntry} (h : CanonicalState s) : CanonicalState (pushEntry e s) := by
  unfold Machine.pushEntry
  extract_lets +onlyGivenNames s1
  have h1 : CanonicalState s1 := ite h.drainOldest h
  exact h1.engine EngineStep.refl.updTrk
theorem CanonicalState.applyOldest {n : Nat} (h : CanonicalState s) : CanonicalState (applyOldest n s) := by
  unfold Machine.applyOldest
  extract_lets +onlyGivenNames s1
  have h1 : CanonicalState s1 := h.drainLead
  split
  · exact h1.engine EngineStep.refl.updTrk.applyCommit
  · exact h
theorem CanonicalState.blockStep {addr : Word} {env : Env} {f : CoreState → (Nat → Word) → CoreState × Nat × Word}
    (h : CanonicalState s) : CanonicalState (blockStep addr env f s) := by
  unfold Machine.blockStep
  extract_lets +onlyGivenNames a
  refine ite (h.engine EngineStep.refl.failAlone) (ite (h.engine EngineStep.refl.failAlone) (h.vote fun u h => ?_))
  extract_lets +onlyGivenNames u1
  have h1 : CanonicalState u1 := ite h h.drainStores
  have hread : CanonicalState (if u1.forwards a 16 then (u1, true) else Machine.readCheck a 16 env
    (Machine.waitFor a u1)).1 := by
    split
    · exact h1
    · exact h1.waitFor.readCheck
  refine ite (hread.vote fun _ h => ?_) (hread.engine EngineStep.refl.failAlone)
  exact h.pushEntry.engine EngineStep.refl.setCore
theorem CanonicalState.portFOpen (h : CanonicalState s) : CanonicalState (portFOpen s) := h.waitCleared.busView
theorem CanonicalState.portFWrite {a : Nat} {bs : List Byte} {m : PortF} (h : CanonicalState s) :
    CanonicalState (portFWrite a bs m s) := by
  unfold Machine.portFWrite
  exact h.each fun _ _ h => ite h (ite h.memWriteUnit ((h.memWriteUnit.each fun _ _ h =>
    h.setByte).engine EngineStep.refl.sq.raise))
theorem CanonicalState.toRing {f : Frame} {m : PortF} (h : CanonicalState s) : CanonicalState (toRing f m s) := by
  unfold Machine.toRing
  extract_lets +onlyGivenNames stage cfg ptr n wr
  refine ite ?_ ?_
  · exact h.engine EngineStep.refl.sq.cplDrop.cplDropEvent
  · extract_lets +onlyGivenNames size a s1 s2 s3
    have h1 : CanonicalState s1 := h.portFOpen.portFWrite
    have h2 : CanonicalState s2 := h1.portFWrite
    have h3 : CanonicalState s3 := h2.portFWrite
    exact h3.engine EngineStep.refl.setFld.raise
theorem CanonicalState.writeMessage {f : Frame} {b : ReasmBuf} {m : PortF} (h : CanonicalState s) :
    CanonicalState (writeMessage f b m s) := by
  unfold Machine.writeMessage
  extract_lets +onlyGivenNames parts
  refine ite ?_ ?_
  · exact (h.portFOpen.each fun _ _ h => h.portFWrite).engine EngineStep.refl.respond
  · exact h.engine EngineStep.refl.respond
theorem CanonicalState.fragmentArrived {f : Frame} {m : PortF} (h : CanonicalState s) :
    CanonicalState (fragmentArrived f m s) := by
  unfold Machine.fragmentArrived
  extract_lets +onlyGivenNames src stale
  refine ite ?_ ?_
  · exact h.engine EngineStep.refl.sq
  · extract_lets +onlyGivenNames s1 mine
    have h1 : CanonicalState s1 := ite (h.engine EngineStep.refl.setStale) h
    split
    · exact h1
    · extract_lets +onlyGivenNames b
      exact ite ((h1.engine EngineStep.refl.setBuf).writeMessage) (h1.engine EngineStep.refl.setBuf)
theorem CanonicalState.launchFrame {m : PortF} (h : CanonicalState s) : CanonicalState (launchFrame m s) := by
  unfold Machine.launchFrame
  extract_lets +onlyGivenNames w cls len a
  refine ite (h.engine EngineStep.refl.txFull) ?_
  have hread : CanonicalState (Machine.portFCheck a len m (Machine.portFOpen s)).1 := h.portFOpen.portFCheck
  split
  next hp =>
    rw [hp] at hread
    exact hread.engine EngineStep.refl.txFull
  next u hp =>
    rw [hp] at hread
    extract_lets +onlyGivenNames f
    refine ite ?_ ?_
    · split
      · exact hread.engine EngineStep.refl.txFull
      · exact hread.engine EngineStep.refl.setTag.updCpl
    · extract_lets +onlyGivenNames u1
      have h1 : CanonicalState u1 := ite hread.toRing hread
      exact ite h1 (h1.engine EngineStep.refl.updCpl)
theorem CanonicalState.eraseSector {a : Nat} (h : CanonicalState s) : CanonicalState (eraseSector a s) :=
  ⟨mwf_filter _ _ _ h.mem, h.regs, h.words, h.ram⟩
theorem CanonicalState.nvmApply {op : NvmOp} {differs : Bool} (h : CanonicalState s) :
    CanonicalState (nvmApply op differs s) :=
  ite h.eraseSector (ite (h.setBytes.engine EngineStep.refl.drew) h.setBytes)
theorem CanonicalState.nvmAbort (h : CanonicalState s) : CanonicalState (nvmAbort s) := by
  unfold Machine.nvmAbort
  split
  · exact h
  · extract_lets +onlyGivenNames s1 s2
    have h1 : CanonicalState s1 := ite h.nvmApply h
    have h2 : CanonicalState s2 := h1.engine EngineStep.refl.drew
    exact h2.upd
theorem CanonicalState.refuseRelease (h : CanonicalState s) : CanonicalState (refuseRelease s) := by
  have h1 : CanonicalState { s with bringup := { s.bringup with refused := true } } := h.upd
  exact h1.engine EngineStep.refl.capture
theorem resetRegs_mwfFrom (warm : Bool) (m : FMap Word) :
    ∀ lo, mwfFrom regDefault lo m = true → mwfFrom regDefault lo (resetRegs warm m) = true := by
  induction m with
  | nil => exact fun _ h => h
  | cons e m ih =>
    obtain ⟨off, w⟩ := e
    intro lo h
    simp only [mwfFrom, Bool.and_eq_true] at h
    obtain ⟨⟨hlo, hd⟩, hm⟩ := h
    simp only [resetRegs]
    split
    next => exact ih lo (mwfFrom_mono _ _ (by rintro l rfl; simpa using le_of_lt (of_decide_eq_true hlo)) hm)
    next hv => simp only [mwfFrom, Bool.and_eq_true]; exact ⟨⟨hlo, by simpa using hv⟩, ih _ hm⟩

theorem CanonicalState.resetState {warm : Bool} (h : CanonicalState s) : CanonicalState (resetState warm s) := by
  unfold Machine.resetState
  extract_lets +onlyGivenNames s1
  have h1 : CanonicalState s1 := h.nvmAbort
  exact ⟨h1.mem, resetRegs_mwfFrom _ _ none h1.regs, h1.words, h1.ram⟩
theorem CanonicalState.warmEnter (h : CanonicalState s) : CanonicalState (warmEnter s) := by
  unfold Machine.warmEnter
  extract_lets +onlyGivenNames ls
  refine ite h.resetState ?_
  extract_lets +onlyGivenNames holds codes s1 s2 t t'
  have h1 : CanonicalState s1 := h.each fun _ _ h => h.engine EngineStep.refl.updLg
  have h2 : CanonicalState t := (h1.engine EngineStep.refl.safeFor).resetState
  have hwr : ∀ l u, CanonicalState u → CanonicalState (Machine.each (heldRegs s2 l) (fun e v => v.wr e.1 e.2) u) :=
    fun _ _ h => h.each fun _ _ h => h.engine EngineStep.refl.wr
  have h3 : CanonicalState t' := h2.each fun l u h => by
    extract_lets u1 u2 u3
    have hu1 : CanonicalState u1 := h.each fun _ _ h => h.upd
    have hu3 : CanonicalState u3 := (hwr l u1 hu1).engine EngineStep.refl.setLg
    exact hu3.each fun _ _ h => h.engine EngineStep.refl.setPs
  exact ite (h3.engine EngineStep.refl.sq.raiseOnce) h3
theorem CanonicalState.resetCause {kind : ResetKind} {flag : Fld} (h : CanonicalState s) :
    CanonicalState (resetCause kind flag s) := by
  unfold Machine.resetCause
  extract_lets +onlyGivenNames s1
  have h1 : CanonicalState s1 := by
    dsimp only [s1]
    split
    · exact h
    · exact h.resetState
    · exact h.warmEnter
    · exact h
  exact h1.upd
theorem CanonicalState.resetNow {kind : ResetKind} {flag : Fld} (h : CanonicalState s) :
    CanonicalState (resetNow kind flag s) :=
  have hc : CanonicalState (Machine.resetCause kind flag s) := h.resetCause
  ite hc.upd h
theorem CanonicalState.releaseReset {kind : ResetKind} {headLow : Bool} (h : CanonicalState s) :
    CanonicalState (releaseReset kind headLow s) := by
  unfold Machine.releaseReset
  extract_lets +onlyGivenNames cold cause s1 s2 s3 s4 s5 s6
  have h1 : CanonicalState s1 := h.upd
  have h2 : CanonicalState s2 := h1.engine EngineStep.refl.wr.setFlag
  have h3 : CanonicalState s3 := ite (h2.engine EngineStep.refl.setFlag) h2
  have h4 : CanonicalState s4 :=
    (h3.onlyIf fun _ h => h.engine EngineStep.refl.loadHarness.harnessStarts).engine EngineStep.refl.showT15.showProg
  have h5 : CanonicalState s5 := h4.engine EngineStep.refl.loadRecords
  have h6 : CanonicalState s6 := h5.each fun _ _ h => h.each fun _ _ h => h.engine EngineStep.refl.addCause
  exact h6.engine EngineStep.refl.safeFor.settleBrake
theorem CanonicalState.fastOff (h : CanonicalState s) : CanonicalState (fastOff s) := by
  unfold Machine.fastOff
  extract_lets +onlyGivenNames s1
  have h1 : CanonicalState s1 := h.resetState
  exact h1.upd
theorem CanonicalState.reachLantern (h : CanonicalState s) : CanonicalState (reachLantern s) := by
  unfold Machine.reachLantern
  extract_lets +onlyGivenNames held s1
  have h1 : CanonicalState s1 := h.fastOff.engine EngineStep.refl.updLan
  exact ite h1.fastWakes h1
theorem CanonicalState.guardCoupler {f : Frame} {m : PortF} (h : CanonicalState s) :
    CanonicalState (guardCoupler f m s) := by
  unfold Machine.guardCoupler
  split
  · exact h.engine EngineStep.refl.guardReceive
  · exact h.toRing
theorem CanonicalState.ethFetch {a : Nat} {m : PortF} (h : CanonicalState s) : CanonicalState (ethFetch a m s).1 :=
  h.portFOpen.portFCheck

theorem CanonicalState.ethToRing {f : EthFrame} {t : Nat} {m : PortF} (h : CanonicalState s) :
    CanonicalState (ethToRing f t m s) := by
  unfold Machine.ethToRing
  extract_lets +onlyGivenNames ring n a
  have hread : CanonicalState (if n = 0 then (s, false) else Machine.ethFetch a m s).1 := by
    split
    · exact h
    · exact h.ethFetch
  split
  next u own hp =>
    rw [hp] at hread
    refine ite (hread.engine EngineStep.refl.rc.ethFlag) ?_
    extract_lets +onlyGivenNames body w1 buf
    split
    extract_lets +onlyGivenNames tci u1 u2 w0 u3
    have h3 : CanonicalState u3 := hread.portFWrite.portFWrite.portFWrite
    have h4 : CanonicalState { u3 with eth := { u3.eth with rxIdx := (u3.eth.rxIdx + 1) % n } } := h3.upd
    exact h4.engine EngineStep.refl.ethFlag
theorem CanonicalState.ethSend {a ts : Nat} {m : PortF} (h : CanonicalState s) :
    CanonicalState (ethSend a ts m s) :=
  h.portFCheck.portFWrite.portFWrite
theorem CanonicalState.wroteSYS {o : Nat} {old new : Word} (h : CanonicalState s) :
    CanonicalState (wroteSYS o old new s) := by
  unfold Machine.wroteSYS
  refine ite ?_ ?_
  · exact h.engine EngineStep.refl.setFld.stateRequested
  · refine ite ?_ ?_
    · extract_lets +onlyGivenNames s1
      have h1 : CanonicalState s1 := h.engine EngineStep.refl.setFld.setFld
      exact ite h1.resetNow (ite h1.resetNow h1)
    · exact ite (h.engine EngineStep.refl.pllSLost) h
theorem CanonicalState.wroteCPL {o : Nat} {old new : Word} {m : PortF} (h : CanonicalState s) :
    CanonicalState (wroteCPL o old new m s) := by
  unfold Machine.wroteCPL
  refine ite ?_ ?_
  · exact ite (h.engine EngineStep.refl.henWritten) h
  · refine ite ?_ ?_
    · exact h.launchFrame
    · refine ite ?_ ?_
      · exact h.engine EngineStep.refl.portWritten
      · refine ite ?_ ?_
        · exact h.engine EngineStep.refl.settleTree
        · refine ite ?_ ?_
          · exact h.engine EngineStep.refl.keyWritten
          · refine ite ?_ ?_
            · extract_lets +onlyGivenNames s1
              have h1 : CanonicalState s1 := h.engine EngineStep.refl.settleLease.settleSafe
              exact ite (h1.engine EngineStep.refl.declare) h1
            · exact h
theorem CanonicalState.wrote {o : Nat} {old new : Word} {n : Nat} {co : CoUpdate} {before : State}
    (h : CanonicalState s) :
    CanonicalState (wrote o old new n co before s) := by
  unfold Machine.wrote
  extract_lets +onlyGivenNames win
  refine ite ?_ ?_
  · exact h.wroteSYS
  · refine ite ?_ ?_
    · exact ite (h.engine EngineStep.refl.raise) (ite (h.engine EngineStep.refl.wakeLantern) h)
    · refine ite ?_ ?_
      · exact ite (h.engine EngineStep.refl.updTrk) h
      · refine ite ?_ ?_
        · exact h.engine EngineStep.refl.wroteMEM
        · refine ite ?_ ?_
          · exact ite (h.engine EngineStep.refl.lixAddrWritten) h
          · refine ite ?_ ?_
            · exact h.engine EngineStep.refl.wroteAXL
            · refine ite ?_ ?_
              · exact h.engine EngineStep.refl.wroteGCH
              · refine ite ?_ ?_
                · exact h.engine EngineStep.refl.wrotePOS
                · refine ite ?_ ?_
                  · exact h.engine EngineStep.refl.wroteSDF
                  · refine ite ?_ ?_
                    · exact h.engine EngineStep.refl.wroteSAR
                    · refine ite ?_ ?_
                      · exact h.engine EngineStep.refl.wroteRES
                      · refine ite ?_ ?_
                        · exact h.engine EngineStep.refl.wroteHYS
                        · refine ite ?_ ?_
                          · exact h.engine EngineStep.refl.wroteTTU
                          · refine ite ?_ ?_
                            · exact h.engine EngineStep.refl.wrotePROT
                            · refine ite ?_ ?_
                              · exact h.engine EngineStep.refl.wroteSAFE
                              · refine ite ?_ ?_
                                · exact h.engine EngineStep.refl.wroteGRD
                                · refine ite ?_ ?_
                                  · exact h.engine EngineStep.refl.wroteCAN
                                  · refine ite ?_ ?_
                                    · exact h.engine EngineStep.refl.wroteETH
                                    · exact ite h.wroteCPL (ite (h.engine EngineStep.refl.harnessStarts) h)
theorem CanonicalState.writeFields {v : View} {off o : Nat} {c : Card} {ix : List Nat} {data : Word} {co : CoUpdate} {n : Nat} (h : CanonicalState s) :
    CanonicalState (writeFields v off o c ix data co n s) := by
  unfold Machine.writeFields
  extract_lets +onlyGivenNames s1 s2 fs data old whole shut ok hw new s3
  have h1 : CanonicalState s1 := h
  have h2 : CanonicalState s2 := h.engine EngineStep.refl.notePriv
  have h3 : CanonicalState s3 := ite (h2.engine EngineStep.refl.raise.captureRefused) h2
  refine ite ?_ ?_
  · exact h3.engine EngineStep.refl.wr
  · refine ite ?_ ?_
    · exact h3.engine EngineStep.refl.wr.refuseWrite
    · extract_lets +onlyGivenNames s4 s5
      have h4 : CanonicalState s4 := ite (h3.engine EngineStep.refl.captureLost) h3
      have h5 : CanonicalState s5 := h4.engine EngineStep.refl.wr.sqClear
      exact h5.wrote
theorem CanonicalState.writeReg {v : View} {off : Nat} {data : Word} {co : CoUpdate} {n : Option Nat}
    (h : CanonicalState s) :
    CanonicalState (writeReg v off data co n s) := by
  unfold Machine.writeReg
  split
  · exact h
  · split
    · exact h
    · refine ite ?_ ?_
      · exact h.engine EngineStep.refl.lixDataWrite
      · exact ite (h.engine EngineStep.refl.applyCompares) h.writeFields
theorem CanonicalState.loadMemory {a : Word} {n : Nat} {env : Env} {put : List Byte → CoreState → CoreState}
    (h : CanonicalState s) : CanonicalState (loadMemory a n env put s) := by
  have hread : CanonicalState (Machine.readCheck a.toNat n env (Machine.waitFor a.toNat s)).1 := h.waitFor.readCheck
  exact ite (h.engine EngineStep.refl.fail) (ite (h.engine EngineStep.refl.retire)
    (ite (hread.engine EngineStep.refl.retire) (hread.engine EngineStep.refl.fail)))
theorem CanonicalState.loadAt {a : Word} {n : Nat} {rt : GReg} {rot : Nat} {env : Env}
    {put : List Byte → CoreState → CoreState} (h : CanonicalState s) : CanonicalState
      (loadAt a n rt rot env put s) := by
  unfold Machine.loadAt
  extract_lets +onlyGivenNames r
  refine ite (h.engine EngineStep.refl.fail) (ite (h.engine EngineStep.refl.fail)
    (ite (h.engine EngineStep.refl.fail) (h.vote fun u h => ?_)))
  extract_lets +onlyGivenNames u1
  have h1 : CanonicalState u1 := ite h.drainStores h
  clear_value u1 r
  cases r with
  | view v off => exact h1.engine EngineStep.refl.loadView
  | window d off => exact h1.engine EngineStep.refl.loadRemote
  | _ => exact h1.loadMemory
theorem CanonicalState.storeMemory {a : Word} {bs : List Byte} {env : Env} (h : CanonicalState s) :
    CanonicalState (storeMemory a bs env s) :=
  h.pushEntry.engine EngineStep.refl.retire
theorem CanonicalState.storeView {v : View} {off : Nat} {a w : Word} {env : Env} (h : CanonicalState s) :
    CanonicalState (storeView v off a w env s) := by
  unfold Machine.storeView
  refine ite ?_ ?_
  · exact h.engine EngineStep.refl.fail
  · exact ((h.engine EngineStep.refl.at).writeReg).engine EngineStep.refl.retire.syncStretches
theorem CanonicalState.storeAt {a : Word} {bs : List Byte} {env : Env} (h : CanonicalState s) :
    CanonicalState (storeAt a bs env s) := by
  unfold Machine.storeAt
  extract_lets +onlyGivenNames r
  refine ite (h.engine EngineStep.refl.fail) (ite (h.engine EngineStep.refl.fail)
    (ite (h.engine EngineStep.refl.fail) (h.vote fun u h => ?_)))
  clear_value r
  cases r with
  | view v off => exact h.drainStores.storeView
  | window d off => exact h.drainStores.engine EngineStep.refl.storeRemote
  | _ => exact h.storeMemory
theorem CanonicalState.lanLoadAt {a : Word} {n : Nat} {env : Env} {put : List Byte → CoreState → CoreState}
    (h : CanonicalState s) : CanonicalState (lanLoadAt a n env put s) := by
  unfold Machine.lanLoadAt
  refine ite (h.engine EngineStep.refl.fail) (ite ?_ ?_)
  · extract_lets +onlyGivenNames s1
    have h1 : CanonicalState s1 := h.waitCleared
    exact ite (h1.engine EngineStep.refl.fail) (h1.engine EngineStep.refl.retire)
  · split
    next w _ =>
      have hfetch : CanonicalState (lanFetch w s).2 := h.onlyIf fun _ h => h.engine EngineStep.refl.imgAdvance
      exact ite (hfetch.engine EngineStep.refl.retire) (h.engine EngineStep.refl.fail)
    · exact h.engine EngineStep.refl.fail
theorem CanonicalState.lanStoreAt {a : Word} {bs : List Byte} {env : Env} (h : CanonicalState s) :
    CanonicalState (lanStoreAt a bs env s) := by
  unfold Machine.lanStoreAt
  refine ite ?_ ?_
  · exact h.engine EngineStep.refl.fail
  · refine ite ?_ ?_
    · extract_lets +onlyGivenNames s1
      have h1 : CanonicalState s1 := h.waitCleared
      refine ite ?_ ?_
      · exact h1.engine EngineStep.refl.fail
      · exact (h1.each fun _ _ h => h.setLanRamByte).engine EngineStep.refl.retire
    · split
      · exact ite (h.lanWrite.engine EngineStep.refl.retire) (h.engine EngineStep.refl.fail)
      · exact h.engine EngineStep.refl.fail
theorem CanonicalState.loadOn {hart : Hart} {a : Word} {n : Nat} {rt : GReg} {rot : Nat} {env : Env}
    {put : List Byte → CoreState → CoreState} (h : CanonicalState s) : CanonicalState
      (loadOn hart a n rt rot env put s) := by
  cases hart with
  | troika => exact h.loadAt
  | lantern => exact h.lanLoadAt
theorem CanonicalState.storeOn {hart : Hart} {a : Word} {bs : List Byte} {env : Env} (h : CanonicalState s) :
    CanonicalState (storeOn hart a bs env s) := by
  cases hart with
  | troika => exact h.storeAt
  | lantern => exact h.lanStoreAt
theorem CanonicalState.debugStore {a w : Word} {co : CoUpdate} (h : CanonicalState s) :
    CanonicalState (debugStore a w co s) := by
  unfold Machine.debugStore
  refine ite ?_ ?_
  · exact h
  · split
    · exact (h.engine EngineStep.refl.at).writeReg
    · refine ite ?_ ?_
      · exact h
      · split
        · exact h
        · exact h.engine EngineStep.refl.setTag.sendOwn
    · exact h
    · exact h
    · exact h.drainStores.waitFor.memWrite
theorem CanonicalState.wrArrived {f : Frame} {co : CoUpdate} (h : CanonicalState s) :
    CanonicalState (wrArrived f co s) := by
  unfold Machine.wrArrived
  refine ite ?_ ?_
  · extract_lets +onlyGivenNames s1
    have h1 : CanonicalState s1 := (h.engine EngineStep.refl.at).writeReg
    exact h1.engine EngineStep.refl.respond
  · exact h.engine EngineStep.refl.respond
theorem CanonicalState.withFetchWord {nbits w : Nat} (h : CanonicalState s) :
    CanonicalState (State.withFetchWord s nbits w) := by
  unfold State.withFetchWord
  split
  · exact h.upd
  · exact h

/-! ### What a command answers -/

/-- An answer that is a fault, or a next state in canonical form. -/
def CanonicalOut (o : Out) : Prop := ∀ t, o = .next t → CanonicalState t

theorem CanonicalOut.next (h : CanonicalState s) : CanonicalOut (.next s) := by
  rintro t ⟨⟩
  exact h

theorem CanonicalOut.ite {c : Prop} [Decidable c] {o o' : Out} (h : CanonicalOut o) (h' : CanonicalOut o') :
    CanonicalOut (if c then o else o') := by
  split
  · exact h
  · exact h'

theorem CanonicalOut.thenDo {o : Out} {f : State → State} (h : CanonicalOut o)
    (hf : ∀ u, CanonicalState u → CanonicalState (f u)) : CanonicalOut (o.thenDo f) := by
  cases o with
  | next u => exact .next (hf u (h u rfl))
  | _ => exact fun t ht => nomatch ht

theorem CanonicalState.settled (h : CanonicalState s) : CanonicalOut (settled s) :=
  .next (h.engine EngineStep.refl.syncStretches)

theorem CanonicalState.issue {hart : Hart} {body : State → State} (h : CanonicalState s)
    (hb : ∀ u, CanonicalState u → CanonicalState (body u)) : CanonicalOut (issue hart body s) := by
  unfold Machine.issue
  refine .ite ?_ (.next h)
  cases hart with
  | troika => exact .next ((hb s h).engine EngineStep.refl.countCycles.deliverImprecise)
  | lantern => exact .next (hb s h)

theorem CanonicalState.trk {body : State → State} (h : CanonicalState s)
    (hb : ∀ u, CanonicalState u → CanonicalState (body u)) : CanonicalOut (trk body s) := h.issue hb

theorem CanonicalState.common {hart : Hart} {rs : List GReg} {body : State → State} (h : CanonicalState s)
    (hb : ∀ u, CanonicalState u → CanonicalState (body u)) : CanonicalOut (common hart rs body s) :=
  h.issue fun u h => .ite (hb u h) (h.engine EngineStep.refl.illegal)

theorem CanonicalState.fullOnly {hart : Hart} {body : State → State} (h : CanonicalState s)
    (hb : ∀ u, CanonicalState u → CanonicalState (body u)) : CanonicalOut (fullOnly hart body s) := by
  refine h.issue fun u h => ?_
  cases hart with
  | troika => exact hb u h
  | lantern => exact h.engine EngineStep.refl.illegal

theorem CanonicalState.writeCmd {v : View} {off : Nat} {data : Word} {co : CoUpdate} {n : Option Nat}
    (h : CanonicalState s) : CanonicalOut (writeCmd v off data co n s) :=
  .ite (h.engine EngineStep.refl.at).writeReg.settled (.next h)

theorem CanonicalState.fieldCmd {v : View} {off : Nat} {f : Fld} {n : Nat} (h : CanonicalState s) :
    CanonicalOut (fieldCmd v off f n s) := h.writeCmd

theorem CanonicalState.wordCmd {v : View} {off : Nat} {w : Word} (h : CanonicalState s) :
    CanonicalOut (wordCmd v off w s) := h.writeCmd

theorem CanonicalState.shoeWatches {k : Nat} (h : CanonicalState s) : CanonicalOut (shoeWatches k s) :=
  .ite (.next (h.engine EngineStep.refl.settleBrake.brakeMotion)) (.next (h.engine EngineStep.refl.settleBrake))

theorem CanonicalState.execTripPin {src : Fin 64} {ev : PinEvent} (h : CanonicalState s) :
    CanonicalOut (execTripPin src ev s) :=
  (h.engine EngineStep.refl.tripPin).settled
theorem CanonicalState.execSelectionEvaluation (h : CanonicalState s) :
    CanonicalOut (execSelectionEvaluation s) :=
  (h.engine EngineStep.refl.selectionEvaluation).settled
theorem CanonicalState.execChopFlt (h : CanonicalState s) : CanonicalOut (execChopFlt s) :=
  (h.engine EngineStep.refl.chopCheck).settled
theorem CanonicalState.execDisFlt (h : CanonicalState s) : CanonicalOut (execDisFlt s) :=
  (h.engine EngineStep.refl.dischargeLate).settled
theorem CanonicalState.execSuspectRun {c : Fin 96} (h : CanonicalState s) : CanonicalOut (execSuspectRun c s) :=
  .next (h.engine EngineStep.refl.suspectRun)
theorem CanonicalState.execSdfStall {c : Fin 96} (h : CanonicalState s) : CanonicalOut (execSdfStall c s) :=
  .next (h.engine EngineStep.refl.sdfStall)
theorem CanonicalState.execSdfCklost {c : Fin 96} (h : CanonicalState s) : CanonicalOut (execSdfCklost c s) :=
  .next (h.engine EngineStep.refl.sdfCklost)
theorem CanonicalState.execControlFilterOutput {c : Fin 96} {samples : List Bool} (h : CanonicalState s) :
    CanonicalOut (execControlFilterOutput c samples s) :=
  (h.engine EngineStep.refl.controlOutput).settled
theorem CanonicalState.execProtectionFilterOutput {c : Fin 96} {samples : List Bool} (h : CanonicalState s) :
    CanonicalOut (execProtectionFilterOutput c samples s) :=
  (h.engine EngineStep.refl.protectionOutput).settled
theorem CanonicalState.execSarSlotResult {c : Fin 8} {code : BitVec 16} (h : CanonicalState s) :
    CanonicalOut (execSarSlotResult c code s) :=
  .next (h.engine EngineStep.refl.sarSlotResult)
theorem CanonicalState.execCmpHit {k : Fin 16} {uv : Nat} (h : CanonicalState s) :
    CanonicalOut (execCmpHit k uv s) :=
  (h.engine EngineStep.refl.cmpHit).settled
theorem CanonicalState.execComparatorRelease {k : Fin 16} {uv : Nat} (h : CanonicalState s) :
    CanonicalOut (execComparatorRelease k uv s) :=
  .next (h.engine EngineStep.refl.cmpRelease)
theorem CanonicalState.execGakTransition {c : Fin 256} {level : Bool} {t : Nat} (h : CanonicalState s) :
    CanonicalOut (execGakTransition c level t s) :=
  (h.engine EngineStep.refl.gakTransition).settled
theorem CanonicalState.execRelease {p : Fin 64} {t : Nat} (h : CanonicalState s) :
    CanonicalOut (execRelease p t s) :=
  (h.engine EngineStep.refl.releasePos).settled
theorem CanonicalState.execAckTimeout {c : Fin 256} {rising : Bool} (h : CanonicalState s) :
    CanonicalOut (execAckTimeout c rising s) :=
  (h.engine EngineStep.refl.ackTimeout).settled
theorem CanonicalState.execAsyncDeadTimeExpiry {l : Fin 32} (h : CanonicalState s) :
    CanonicalOut (execAsyncDeadTimeExpiry l s) :=
  (h.engine EngineStep.refl.asyncExpiry).settled
theorem CanonicalState.execDelayLineSwap {c : Fin 256} {ok : Bool} (h : CanonicalState s) :
    CanonicalOut (execDelayLineSwap c ok s) :=
  .ite (.next (h.engine EngineStep.refl.delayLineSwap)) (.next h)
theorem CanonicalState.execBootstrapRefresh {l : Fin 32} (h : CanonicalState s) :
    CanonicalOut (execBootstrapRefresh l s) :=
  (h.engine EngineStep.refl.refreshStart).settled
theorem CanonicalState.execBootstrapRefreshEnd {l : Fin 32} (h : CanonicalState s) :
    CanonicalOut (execBootstrapRefreshEnd l s) :=
  (h.engine EngineStep.refl.refreshEnd).settled
theorem CanonicalState.execHeldClosingEdge {p : Fin 64} {t : Nat} (h : CanonicalState s) :
    CanonicalOut (execHeldClosingEdge p t s) :=
  (h.engine EngineStep.refl.at.dueEdges).settled
theorem CanonicalState.execLixAddrWrite {data : Word} (h : CanonicalState s) :
    CanonicalOut (execLixAddrWrite data s) :=
  .ite (.next (h.engine EngineStep.refl.wr.lixAddrWritten)) (.next h)
theorem CanonicalState.execLixDataRead (h : CanonicalState s) : CanonicalOut (execLixDataRead s) :=
  .ite (.next (h.engine EngineStep.refl.lixDataRead)) (.next h)
theorem CanonicalState.execLixDataWrite {data : Word} (h : CanonicalState s) :
    CanonicalOut (execLixDataWrite data s) :=
  .ite (.next (h.engine EngineStep.refl.lixDataWrite)) (.next h)
theorem CanonicalState.execLixFetchDone (h : CanonicalState s) : CanonicalOut (execLixFetchDone s) := by
  unfold Machine.execLixFetchDone
  refine .ite ?_ ?_
  · extract_lets +onlyGivenNames w s1 s2
    have h1 : CanonicalState s1 := h.engine EngineStep.refl.wr
    have h2 : CanonicalState s2 := ite (h1.engine EngineStep.refl.sq) h1
    exact .next (h2.engine EngineStep.refl.setLix)
  · exact .next h
theorem CanonicalState.execLixTransferDone (h : CanonicalState s) : CanonicalOut (execLixTransferDone s) := by
  unfold Machine.execLixTransferDone
  split
  · extract_lets +onlyGivenNames s1
    have h1 : CanonicalState s1 := (h.engine EngineStep.refl.setLix).lanWrite
    refine .ite ?_ ?_
    · exact .next (h1.engine EngineStep.refl.setLix)
    · exact .next (h1.onlyIf fun _ h => h.engine EngineStep.refl.lixAdvance)
  · exact .next h
theorem CanonicalState.execWaybillProgrammingDone (h : CanonicalState s) :
    CanonicalOut (execWaybillProgrammingDone s) := by
  unfold Machine.execWaybillProgrammingDone
  split
  · exact .next h
  · extract_lets +onlyGivenNames s1
    have h1 : CanonicalState s1 := h.engine EngineStep.refl.updLan.startProg
    exact .next ((h1.onlyIf fun _ h => h.engine EngineStep.refl.acceptSeat).engine EngineStep.refl.showProg)
theorem CanonicalState.execSeatWordWrite (h : CanonicalState s) : CanonicalOut (execSeatWordWrite s) :=
  .ite (.next (h.engine EngineStep.refl.acceptSeat)) (.next h)
theorem CanonicalState.execBlackBoxRecordDone (h : CanonicalState s) :
    CanonicalOut (execBlackBoxRecordDone s) := by
  unfold Machine.execBlackBoxRecordDone
  split
  · exact .next h
  · exact .next ((h.engine EngineStep.refl.updLan).each fun _ _ h => h.engine EngineStep.refl.setLanW)
theorem CanonicalState.execBrkFlt {channelB fa fb : Bool} (h : CanonicalState s) :
    CanonicalOut (execBrkFlt channelB fa fb s) := by
  unfold Machine.execBrkFlt
  refine .ite ?_ ?_
  · exact .next h
  · extract_lets +onlyGivenNames s1 bad
    have h1 : CanonicalState s1 := h.engine EngineStep.refl.setFlag.setFlag
    exact .ite (.next (h1.engine EngineStep.refl.sq.raise.settleBrake)) (.next h1)
theorem CanonicalState.execDragShoeHoldEnd (h : CanonicalState s) : CanonicalOut (execDragShoeHoldEnd s) := by
  unfold Machine.execDragShoeHoldEnd
  extract_lets +onlyGivenNames k
  exact .ite (.next (h.engine EngineStep.refl.dropBrake)) (.next h)
theorem CanonicalState.execBrakeTestPhaseEnd {imin : BitVec 16} (h : CanonicalState s) :
    CanonicalOut (execBrakeTestPhaseEnd imin s) := by
  unfold Machine.execBrakeTestPhaseEnd
  extract_lets +onlyGivenNames ph
  refine .ite ?_ ?_
  · exact .next h
  · extract_lets +onlyGivenNames _ s1
    have h1 : CanonicalState s1 := h.upd
    refine .ite ?_ ?_
    · exact .next (h1.engine EngineStep.refl.brakeTestOver)
    · exact .ite (.next (h1.engine EngineStep.refl.setFld)) (.next (h1.engine EngineStep.refl.brakeTestOver))
theorem CanonicalState.execBrakeTestMotion {angle : BitVec 16} (h : CanonicalState s) :
    CanonicalOut (execBrakeTestMotion angle s) :=
  .ite (.next (h.engine EngineStep.refl.brakeMotion)) (.next h)
theorem CanonicalState.execResFlt {r : Fin 2} {amp : Nat} {err track : BitVec 16} {speed : Word}
    (h : CanonicalState s) :
    CanonicalOut (execResFlt r amp err track speed s) :=
  (h.engine EngineStep.refl.resolverSample).shoeWatches
theorem CanonicalState.execEncCount {e : Fin 2} {a b : Bool} {stable t : Nat} (h : CanonicalState s) :
    CanonicalOut (execEncCount e a b stable t s) :=
  (h.engine EngineStep.refl.at.encoderEdge).shoeWatches
theorem CanonicalState.execEncZ {e : Fin 2} {stable : Nat} (h : CanonicalState s) :
    CanonicalOut (execEncZ e stable s) :=
  (h.engine EngineStep.refl.encoderZ).shoeWatches
theorem CanonicalState.execTorqueMonitorStep {a : Fin 4} (h : CanonicalState s) :
    CanonicalOut (execTorqueMonitorStep a s) := by
  unfold Machine.execTorqueMonitorStep
  refine .ite ?_ ?_
  · extract_lets +onlyGivenNames s1
    have h1 : CanonicalState s1 := h.each fun _ _ h => h.engine EngineStep.refl.monitorSet
    exact .next (h1.engine EngineStep.refl.updAx)
  · exact .next h
theorem CanonicalState.execUnlockHashDone (h : CanonicalState s) : CanonicalOut (execUnlockHashDone s) :=
  .ite (.next (h.engine EngineStep.refl.setFlag.unlockOutcome.clearPw)) (.next h)
theorem CanonicalState.execHysNoconv {set : Fin 8} (h : CanonicalState s) :
    CanonicalOut (execHysNoconv set s) :=
  (h.engine EngineStep.refl.hysNoconv).settled
theorem CanonicalState.execAutoCatch {a : Fin 4} (h : CanonicalState s) : CanonicalOut (execAutoCatch a s) :=
  .next (h.engine EngineStep.refl.autoCatch)
theorem CanonicalState.execCatchProbe {a : Fin 4} (h : CanonicalState s) : CanonicalOut (execCatchProbe a s) :=
  (h.engine EngineStep.refl.catchProbe).settled
theorem CanonicalState.execPublication {a : Fin 4} (h : CanonicalState s) :
    CanonicalOut (execPublication a s) :=
  (h.engine EngineStep.refl.publication).settled
theorem CanonicalState.execCommutationIndexChange {a : Fin 4} {t : Nat} (h : CanonicalState s) :
    CanonicalOut (execCommutationIndexChange a t s) :=
  (h.engine EngineStep.refl.at.updateIndex).settled
theorem CanonicalState.execValley {a : Fin 4} (h : CanonicalState s) : CanonicalOut (execValley a s) :=
  (h.engine EngineStep.refl.valley.settleBrake).settled
theorem CanonicalState.execPeak {a : Fin 4} (h : CanonicalState s) : CanonicalOut (execPeak a s) :=
  (h.engine EngineStep.refl.peak.settleBrake).settled
theorem CanonicalState.execCompareEdge {a : Fin 4} {k : Fin 16} {t : Nat} (h : CanonicalState s) :
    CanonicalOut (execCompareEdge a k t s) :=
  (h.engine EngineStep.refl.compareEdge).settled
theorem CanonicalState.execTrigger {a : Fin 4} {m : TrigSel} (h : CanonicalState s) :
    CanonicalOut (execTrigger a m s) := by
  unfold Machine.execTrigger
  split
  · exact .ite ((h.engine EngineStep.refl.fireTrigger).settled) (.next h)
  · exact .ite ((h.engine EngineStep.refl.drayWindow).settled) (.next h)
  · exact .ite ((h.engine EngineStep.refl.drayWindow).settled) (.next h)
theorem CanonicalState.execCommitTimeout {a : Fin 4} (h : CanonicalState s) :
    CanonicalOut (execCommitTimeout a s) :=
  .ite ((h.engine EngineStep.refl.updAx.raise.enterFallback.settleBrake).settled) (.next h)
theorem CanonicalState.execAxleStart {a : Fin 4} (h : CanonicalState s) : CanonicalOut (execAxleStart a s) :=
  .ite ((h.engine EngineStep.refl.startAxle.settleBrake).settled) (.next h)
theorem CanonicalState.execPllTLoss (h : CanonicalState s) : CanonicalOut (execPllTLoss s) :=
  .ite ((h.engine EngineStep.refl.pllTLost.settleBrake).settled) (.next h)
theorem CanonicalState.execEstimatorStep {set : Fin 8} {finding : Ecc} (h : CanonicalState s) :
    CanonicalOut (execEstimatorStep set finding s) := by
  unfold Machine.execEstimatorStep
  extract_lets +onlyGivenNames s1
  have h1 : CanonicalState s1 := ite h.busView h
  exact (h1.engine EngineStep.refl.estimatorStep.settleBrake).settled
theorem CanonicalState.execAddSubAndOrXor {h' : Hart} {op : AluOp} {rd rs1 rs2 : GReg} (h : CanonicalState s) :
    CanonicalOut (execAddSubAndOrXor h' op rd rs1 rs2 s) :=
  h.common (fun _ h => h.engine EngineStep.refl.setRd)
theorem CanonicalState.execSllSrlSra {h' : Hart} {op : ShiftOp} {rd rs1 rs2 : GReg} (h : CanonicalState s) :
    CanonicalOut (execSllSrlSra h' op rd rs1 rs2 s) :=
  h.common (fun _ h => h.engine EngineStep.refl.setRd)
theorem CanonicalState.execSltSltu {h' : Hart} {unsigned : Bool} {rd rs1 rs2 : GReg} (h : CanonicalState s) :
    CanonicalOut (execSltSltu h' unsigned rd rs1 rs2 s) :=
  h.common (fun _ h => h.engine EngineStep.refl.setRd)
theorem CanonicalState.execMinMax {h' : Hart} {max : Bool} {rd rs1 rs2 : GReg} (h : CanonicalState s) :
    CanonicalOut (execMinMax h' max rd rs1 rs2 s) :=
  h.common (fun _ h => h.engine EngineStep.refl.setRd)
theorem CanonicalState.execClz {h' : Hart} {rd rs1 : GReg} (h : CanonicalState s) :
    CanonicalOut (execClz h' rd rs1 s) :=
  h.common (fun _ h => h.engine EngineStep.refl.setRd)
theorem CanonicalState.execSlliSrliSrai {h' : Hart} {op : ShiftOp} {rd rs1 : GReg} {amt : BitVec 5}
    (h : CanonicalState s) :
    CanonicalOut (execSlliSrliSrai h' op rd rs1 amt s) :=
  h.common (fun _ h => h.engine EngineStep.refl.setRd)
theorem CanonicalState.execMul {h' : Hart} {rd rs1 rs2 : GReg} (h : CanonicalState s) :
    CanonicalOut (execMul h' rd rs1 rs2 s) :=
  h.common (fun _ h => h.engine EngineStep.refl.setRd)
theorem CanonicalState.execMulhMulhu {h' : Hart} {unsigned : Bool} {rd rs1 rs2 : GReg} (h : CanonicalState s) :
    CanonicalOut (execMulhMulhu h' unsigned rd rs1 rs2 s) :=
  h.common (fun _ h => h.engine EngineStep.refl.setRd)
theorem CanonicalState.execDivDivuRemRemu {h' : Hart} {op : DivOp} {rd rs1 rs2 : GReg} (h : CanonicalState s) :
    CanonicalOut (execDivDivuRemRemu h' op rd rs1 rs2 s) :=
  h.common (fun _ h => h.engine EngineStep.refl.retire)
theorem CanonicalState.execAddi {h' : Hart} {rd rs1 : GReg} {imm : BitVec 16} (h : CanonicalState s) :
    CanonicalOut (execAddi h' rd rs1 imm s) :=
  h.common (fun _ h => h.engine EngineStep.refl.setRd)
theorem CanonicalState.execAndi {h' : Hart} {rd rs1 : GReg} {imm : BitVec 16} (h : CanonicalState s) :
    CanonicalOut (execAndi h' rd rs1 imm s) :=
  h.common (fun _ h => h.engine EngineStep.refl.setRd)
theorem CanonicalState.execOri {h' : Hart} {rd rs1 : GReg} {imm : BitVec 16} (h : CanonicalState s) :
    CanonicalOut (execOri h' rd rs1 imm s) :=
  h.common (fun _ h => h.engine EngineStep.refl.setRd)
theorem CanonicalState.execXori {h' : Hart} {rd rs1 : GReg} {imm : BitVec 16} (h : CanonicalState s) :
    CanonicalOut (execXori h' rd rs1 imm s) :=
  h.common (fun _ h => h.engine EngineStep.refl.setRd)
theorem CanonicalState.execSlti {h' : Hart} {rd rs1 : GReg} {imm : BitVec 16} (h : CanonicalState s) :
    CanonicalOut (execSlti h' rd rs1 imm s) :=
  h.common (fun _ h => h.engine EngineStep.refl.setRd)
theorem CanonicalState.execSltiu {h' : Hart} {rd rs1 : GReg} {imm : BitVec 16} (h : CanonicalState s) :
    CanonicalOut (execSltiu h' rd rs1 imm s) :=
  h.common (fun _ h => h.engine EngineStep.refl.setRd)
theorem CanonicalState.execLui {h' : Hart} {rd : GReg} {imm : BitVec 16} (h : CanonicalState s) :
    CanonicalOut (execLui h' rd imm s) :=
  h.common (fun _ h => h.engine EngineStep.refl.setRd)
theorem CanonicalState.execBranch {h' : Hart} {cond : Cond} {rs1 rs2 : GReg} {off : BitVec 16}
    (h : CanonicalState s) :
    CanonicalOut (execBranch h' cond rs1 rs2 off s) :=
  h.common (fun _ h => h.engine EngineStep.refl.updCore)
theorem CanonicalState.execJal {h' : Hart} {rd : GReg} {off : BitVec 16} (h : CanonicalState s) :
    CanonicalOut (execJal h' rd off s) :=
  h.common (fun _ h => h.engine EngineStep.refl.updCore)
theorem CanonicalState.execJalr {h' : Hart} {rd rs1 : GReg} (h : CanonicalState s) :
    CanonicalOut (execJalr h' rd rs1 s) :=
  h.common (fun _ h => ite (h.engine EngineStep.refl.fail) (h.engine EngineStep.refl.updCore))
theorem CanonicalState.execQaddWQsubW {h' : Hart} {sub : Bool} {rd rs1 rs2 : GReg} (h : CanonicalState s) :
    CanonicalOut (execQaddWQsubW h' sub rd rs1 rs2 s) :=
  h.common (fun _ h => h.engine EngineStep.refl.setQ)
theorem CanonicalState.execQmulW {h' : Hart} {rd rs1 rs2 : GReg} (h : CanonicalState s) :
    CanonicalOut (execQmulW h' rd rs1 rs2 s) :=
  h.fullOnly (fun _ h => h.engine EngineStep.refl.setQ)
theorem CanonicalState.execQaddHQsubH {h' : Hart} {sub : Bool} {rd rs1 rs2 : GReg} (h : CanonicalState s) :
    CanonicalOut (execQaddHQsubH h' sub rd rs1 rs2 s) :=
  h.common (fun _ h => h.engine EngineStep.refl.setQ)
theorem CanonicalState.execQmulH {h' : Hart} {rd rs1 rs2 : GReg} (h : CanonicalState s) :
    CanonicalOut (execQmulH h' rd rs1 rs2 s) :=
  h.fullOnly (fun _ h => h.engine EngineStep.refl.setQ)
theorem CanonicalState.execQnegWQabsW {h' : Hart} {abs : Bool} {rd rs1 : GReg} (h : CanonicalState s) :
    CanonicalOut (execQnegWQabsW h' abs rd rs1 s) :=
  h.common (fun _ h => h.engine EngineStep.refl.setQ)
theorem CanonicalState.execQshlW {h' : Hart} {rd rs1 rs2 : GReg} (h : CanonicalState s) :
    CanonicalOut (execQshlW h' rd rs1 rs2 s) :=
  h.fullOnly (fun _ h => h.engine EngineStep.refl.setQ)
theorem CanonicalState.execQrshrW {h' : Hart} {rd rs1 rs2 : GReg} (h : CanonicalState s) :
    CanonicalOut (execQrshrW h' rd rs1 rs2 s) :=
  h.fullOnly (fun _ h => h.engine EngineStep.refl.setQ)
theorem CanonicalState.execQnarrow {h' : Hart} {rd rs1 : GReg} (h : CanonicalState s) :
    CanonicalOut (execQnarrow h' rd rs1 s) :=
  h.common (fun _ h => h.engine EngineStep.refl.setQ)
theorem CanonicalState.execMacWMsuW {h' : Hart} {sub : Bool} {a : AReg} {rs1 rs2 : GReg} (h : CanonicalState s) :
    CanonicalOut (execMacWMsuW h' sub a rs1 rs2 s) :=
  h.fullOnly (fun _ h => h.engine EngineStep.refl.retire)
theorem CanonicalState.execMacHMsuH {h' : Hart} {sub : Bool} {a : AReg} {rs1 rs2 : GReg} (h : CanonicalState s) :
    CanonicalOut (execMacHMsuH h' sub a rs1 rs2 s) :=
  h.fullOnly (fun _ h => h.engine EngineStep.refl.retire)
theorem CanonicalState.execAclr {h' : Hart} {a : AReg} (h : CanonicalState s) :
    CanonicalOut (execAclr h' a s) :=
  h.fullOnly (fun _ h => h.engine EngineStep.refl.retire)
theorem CanonicalState.execAld {h' : Hart} {a : AReg} {rs1 : GReg} (h : CanonicalState s) :
    CanonicalOut (execAld h' a rs1 s) :=
  h.fullOnly (fun _ h => h.engine EngineStep.refl.retire)
theorem CanonicalState.execArd {h' : Hart} {rd : GReg} {a : AReg} (h : CanonicalState s) :
    CanonicalOut (execArd h' rd a s) :=
  h.fullOnly (fun _ h => h.engine EngineStep.refl.setQ)
theorem CanonicalState.execAshr {h' : Hart} {a : AReg} {amt : BitVec 6} (h : CanonicalState s) :
    CanonicalOut (execAshr h' a amt s) :=
  h.fullOnly (fun _ h => h.engine EngineStep.refl.retire)
theorem CanonicalState.execFaddFsubFmul {h' : Hart} {op : FOp} {rd rs1 rs2 : GReg} (h : CanonicalState s) :
    CanonicalOut (execFaddFsubFmul h' op rd rs1 rs2 s) :=
  h.fullOnly (fun _ h => h.engine EngineStep.refl.setF)
theorem CanonicalState.execFmac {h' : Hart} {rd rs1 rs2 : GReg} (h : CanonicalState s) :
    CanonicalOut (execFmac h' rd rs1 rs2 s) :=
  h.fullOnly (fun _ h => h.engine EngineStep.refl.setF)
theorem CanonicalState.execFdiv {h' : Hart} {rd rs1 rs2 : GReg} (h : CanonicalState s) :
    CanonicalOut (execFdiv h' rd rs1 rs2 s) :=
  h.fullOnly (fun _ h => h.engine EngineStep.refl.setF)
theorem CanonicalState.execFsqrt {h' : Hart} {rd rs1 : GReg} (h : CanonicalState s) :
    CanonicalOut (execFsqrt h' rd rs1 s) :=
  h.fullOnly (fun _ h => h.engine EngineStep.refl.setF)
theorem CanonicalState.execFminFmax {h' : Hart} {max : Bool} {rd rs1 rs2 : GReg} (h : CanonicalState s) :
    CanonicalOut (execFminFmax h' max rd rs1 rs2 s) :=
  h.fullOnly (fun _ h => h.engine EngineStep.refl.setF)
theorem CanonicalState.execFeqFltFle {h' : Hart} {op : FCmp} {rd rs1 rs2 : GReg} (h : CanonicalState s) :
    CanonicalOut (execFeqFltFle h' op rd rs1 rs2 s) :=
  h.fullOnly (fun _ h => h.engine EngineStep.refl.setF)
theorem CanonicalState.execFabsFneg {h' : Hart} {neg : Bool} {rd rs1 : GReg} (h : CanonicalState s) :
    CanonicalOut (execFabsFneg h' neg rd rs1 s) :=
  h.fullOnly (fun _ h => h.engine EngineStep.refl.setF)
theorem CanonicalState.execFcvtWSFcvtSW {h' : Hart} {toFloat : Bool} {rd rs1 : GReg} (h : CanonicalState s) :
    CanonicalOut (execFcvtWSFcvtSW h' toFloat rd rs1 s) :=
  h.fullOnly (fun _ h => h.engine EngineStep.refl.setF)
theorem CanonicalState.execFcvtQSFcvtSQ {h' : Hart} {toFloat : Bool} {rd rs1 : GReg} (h : CanonicalState s) :
    CanonicalOut (execFcvtQSFcvtSQ h' toFloat rd rs1 s) :=
  h.fullOnly (fun _ h => h.engine EngineStep.refl.retire)
theorem CanonicalState.execVaddVsub {sub w : Bool} {vd vs1 vs2 : VReg} {gn : GReg} (h : CanonicalState s) :
    CanonicalOut (execVaddVsub sub w vd vs1 vs2 gn s) :=
  h.trk (fun _ h => h.engine EngineStep.refl.laneOp)
theorem CanonicalState.execVqaddVqsub {sub w : Bool} {vd vs1 vs2 : VReg} {gn : GReg} (h : CanonicalState s) :
    CanonicalOut (execVqaddVqsub sub w vd vs1 vs2 gn s) :=
  h.trk (fun _ h => h.engine EngineStep.refl.laneOp)
theorem CanonicalState.execVqmul {w : Bool} {vd vs1 vs2 : VReg} {gn : GReg} (h : CanonicalState s) :
    CanonicalOut (execVqmul w vd vs1 vs2 gn s) :=
  h.trk (fun _ h => h.engine EngineStep.refl.laneOp)
theorem CanonicalState.execVminVmax {max w : Bool} {vd vs1 vs2 : VReg} {gn : GReg} (h : CanonicalState s) :
    CanonicalOut (execVminVmax max w vd vs1 vs2 gn s) :=
  h.trk (fun _ h => h.engine EngineStep.refl.laneOp)
theorem CanonicalState.execVandVorVxor {op : BitOp} {w : Bool} {vd vs1 vs2 : VReg} {gn : GReg}
    (h : CanonicalState s) :
    CanonicalOut (execVandVorVxor op w vd vs1 vs2 gn s) :=
  h.trk (fun _ h => h.engine EngineStep.refl.laneOp)
theorem CanonicalState.execVqnegVqabs {abs w : Bool} {vd vs1 : VReg} {gn : GReg} (h : CanonicalState s) :
    CanonicalOut (execVqnegVqabs abs w vd vs1 gn s) :=
  h.trk (fun _ h => h.engine EngineStep.refl.laneOp)
theorem CanonicalState.execVsra {w : Bool} {vd vs1 vs2 : VReg} {gn : GReg} (h : CanonicalState s) :
    CanonicalOut (execVsra w vd vs1 vs2 gn s) :=
  h.trk (fun _ h => h.engine EngineStep.refl.laneOp)
theorem CanonicalState.execVqrshr {w : Bool} {vd vs1 vs2 : VReg} {gn : GReg} (h : CanonicalState s) :
    CanonicalOut (execVqrshr w vd vs1 vs2 gn s) :=
  h.trk (fun _ h => h.engine EngineStep.refl.laneOp)
theorem CanonicalState.execVqshl {w : Bool} {vd vs1 vs2 : VReg} {gn : GReg} (h : CanonicalState s) :
    CanonicalOut (execVqshl w vd vs1 vs2 gn s) :=
  h.trk (fun _ h => h.engine EngineStep.refl.laneOp)
theorem CanonicalState.execVmac {w : Bool} {vd vs1 vs2 : VReg} {gn : GReg} (h : CanonicalState s) :
    CanonicalOut (execVmac w vd vs1 vs2 gn s) :=
  h.trk (fun _ h => h.engine EngineStep.refl.laneOp)
theorem CanonicalState.execVdot {w : Bool} {a : AReg} {vs1 vs2 : VReg} {gn : GReg} (h : CanonicalState s) :
    CanonicalOut (execVdot w a vs1 vs2 gn s) :=
  h.trk (fun _ h => h.engine EngineStep.refl.retire)
theorem CanonicalState.execVfaddVfsubVfmul {op : FOp} {vd vs1 vs2 : VReg} {gn : GReg} (h : CanonicalState s) :
    CanonicalOut (execVfaddVfsubVfmul op vd vs1 vs2 gn s) :=
  h.trk (fun _ h => h.engine EngineStep.refl.laneOp)
theorem CanonicalState.execVfmac {vd vs1 vs2 : VReg} {gn : GReg} (h : CanonicalState s) :
    CanonicalOut (execVfmac vd vs1 vs2 gn s) :=
  h.trk (fun _ h => h.engine EngineStep.refl.laneOp)
theorem CanonicalState.execVfminVfmax {max : Bool} {vd vs1 vs2 : VReg} {gn : GReg} (h : CanonicalState s) :
    CanonicalOut (execVfminVfmax max vd vs1 vs2 gn s) :=
  h.trk (fun _ h => h.engine EngineStep.refl.laneOp)
theorem CanonicalState.execVfcvtSQVfcvtQS {toFloat : Bool} {vd vs1 : VReg} {gn : GReg} (h : CanonicalState s) :
    CanonicalOut (execVfcvtSQVfcvtQS toFloat vd vs1 gn s) :=
  h.trk (fun _ h => h.engine EngineStep.refl.laneOp)
theorem CanonicalState.execVsplat {w : Bool} {vd : VReg} {g : GReg} (h : CanonicalState s) :
    CanonicalOut (execVsplat w vd g s) :=
  h.trk (fun _ h => h.engine EngineStep.refl.retire)
theorem CanonicalState.execVins {w : Bool} {vd : VReg} {lane : BitVec 3} {g : GReg} (h : CanonicalState s) :
    CanonicalOut (execVins w vd lane g s) :=
  h.trk (fun _ h => ite (h.engine EngineStep.refl.retire) (h.engine EngineStep.refl.illegalAlone))
theorem CanonicalState.execVext {w : Bool} {g : GReg} {vs1 : VReg} {lane : BitVec 3} (h : CanonicalState s) :
    CanonicalOut (execVext w g vs1 lane s) :=
  h.trk (fun _ h => ite (h.engine EngineStep.refl.retire) (h.engine EngineStep.refl.illegalAlone))
theorem CanonicalState.execVbcast {w : Bool} {vd vs1 : VReg} {lane : BitVec 3} {gn : GReg} (h : CanonicalState s) :
    CanonicalOut (execVbcast w vd vs1 lane gn s) :=
  h.trk (fun _ h => ite (h.engine EngineStep.refl.laneOp) (h.engine EngineStep.refl.illegalAlone))
theorem CanonicalState.execVcmplt {w : Bool} {vd vs1 vs2 : VReg} {gn : GReg} (h : CanonicalState s) :
    CanonicalOut (execVcmplt w vd vs1 vs2 gn s) :=
  h.trk (fun _ h => h.engine EngineStep.refl.laneOp)
theorem CanonicalState.execVsel {w : Bool} {vd vs1 vs2 : VReg} {gn : GReg} (h : CanonicalState s) :
    CanonicalOut (execVsel w vd vs1 vs2 gn s) :=
  h.trk (fun _ h => h.engine EngineStep.refl.laneOp)
theorem CanonicalState.execVmov {w : Bool} {vd vs1 : VReg} {gn : GReg} (h : CanonicalState s) :
    CanonicalOut (execVmov w vd vs1 gn s) :=
  h.trk (fun _ h => h.engine EngineStep.refl.laneOp)
theorem CanonicalState.execVnarrow {vd vs1 vs2 : VReg} {gn : GReg} (h : CanonicalState s) :
    CanonicalOut (execVnarrow vd vs1 vs2 gn s) :=
  h.trk (fun _ h => h.engine EngineStep.refl.laneOp)
theorem CanonicalState.execVwiden {vd vs1 : VReg} {gn : GReg} (h : CanonicalState s) :
    CanonicalOut (execVwiden vd vs1 gn s) :=
  h.trk (fun _ h => h.engine EngineStep.refl.laneOp)
theorem CanonicalState.execClk {n : BitVec 4} {vr : VReg} {ax : Fin 4} (h : CanonicalState s) :
    CanonicalOut (execClk n vr ax s) :=
  h.trk (fun _ h => h.engine EngineStep.refl.clkBody)
theorem CanonicalState.execClkI {n : BitVec 4} {vr : VReg} {ax : Fin 4} (h : CanonicalState s) :
    CanonicalOut (execClkI n vr ax s) :=
  h.trk (fun _ h => h.engine EngineStep.refl.clkBody)
theorem CanonicalState.execPrk {ga : GReg} {p : BitVec 2} {vr : VReg} (h : CanonicalState s) :
    CanonicalOut (execPrk ga p vr s) :=
  h.trk (fun _ h => h.engine EngineStep.refl.retire)
theorem CanonicalState.execIprk {ga : GReg} {p : BitVec 2} {polar : Bool} {vr : VReg} (h : CanonicalState s) :
    CanonicalOut (execIprk ga p polar vr s) :=
  h.trk (fun _ h => h.engine EngineStep.refl.retire)
theorem CanonicalState.execSvm {ga : GReg} {p : BitVec 2} {vr : VReg} (h : CanonicalState s) :
    CanonicalOut (execSvm ga p vr s) :=
  h.trk (fun _ h => h.engine EngineStep.refl.retire)
theorem CanonicalState.execAtab {ga gb : GReg} {n : BitVec 4} {vr : VReg} {ax : Fin 4} {reads : List (Fin 12 × Env)}
    (h : CanonicalState s) :
    CanonicalOut (execAtab ga gb n vr ax reads s) := by
  unfold Machine.execAtab
  exact h.trk (fun _ h => ite (h.engine EngineStep.refl.illegalAlone) (h.heldBy (fun _ h => ite (h.atabReads
    (fun _ h => h.engine EngineStep.refl.retire)) (h.busView.waitFor.atabReads (fun _ h =>
      h.engine EngineStep.refl.retire)))))
theorem CanonicalState.execSat {ga gb : GReg} {n : BitVec 4} {vr : VReg} (h : CanonicalState s) :
    CanonicalOut (execSat ga gb n vr s) :=
  h.trk (fun _ h => ite (h.engine EngineStep.refl.illegalAlone) (h.engine EngineStep.refl.retire))
theorem CanonicalState.execSatC {ga gb : GReg} {p : BitVec 2} {mode : Bool} {vr : VReg} (h : CanonicalState s) :
    CanonicalOut (execSatC ga gb p mode vr s) :=
  h.trk (fun _ h => h.engine EngineStep.refl.retire)
theorem CanonicalState.execPia {ga gb : GReg} {shift : BitVec 4} {env : Env} (h : CanonicalState s) :
    CanonicalOut (execPia ga gb shift env s) :=
  h.trk (fun _ h => h.heldBy (fun _ h => h.blockStep))
theorem CanonicalState.execRmp {ga gb : GReg} {env : Env} (h : CanonicalState s) :
    CanonicalOut (execRmp ga gb env s) :=
  h.trk (fun _ h => h.heldBy (fun _ h => h.blockStep))
theorem CanonicalState.execMfc {h' : Hart} {rd : GReg} {c : BitVec 5} (h : CanonicalState s) :
    CanonicalOut (execMfc h' rd c s) := by
  unfold Machine.execMfc
  exact h.common (fun _ h => ite (h.engine EngineStep.refl.illegalAlone) (ite (h.engine EngineStep.refl.failAlone)
    (h.engine EngineStep.refl.setRd)))
theorem CanonicalState.execMtc {h' : Hart} {c : BitVec 5} {rs1 : GReg} (h : CanonicalState s) :
    CanonicalOut (execMtc h' c rs1 s) := by
  unfold Machine.execMtc
  exact h.common (fun _ h => ite (h.engine EngineStep.refl.illegalAlone) (ite (h.engine EngineStep.refl.failAlone)
    (ite (h.engine EngineStep.refl.retire.updTrk) (h.engine EngineStep.refl.retire))))
theorem CanonicalState.execSysc {h' : Hart} (h : CanonicalState s) : CanonicalOut (execSysc h' s) :=
  h.issue (fun _ h => h.engine EngineStep.refl.takeAlone)
theorem CanonicalState.execEret {h' : Hart} (h : CanonicalState s) : CanonicalOut (execEret h' s) :=
  h.issue (fun _ h => ite (h.engine EngineStep.refl.failAlone) (h.engine EngineStep.refl.updCore))
theorem CanonicalState.execInterruptEntry {h' : Hart} (h : CanonicalState s) :
    CanonicalOut (execInterruptEntry h' s) := by
  unfold Machine.execInterruptEntry
  split
  · extract_lets +onlyGivenNames t c may
    split
    · exact .ite (.next (h.engine EngineStep.refl.updTrk.takeInterrupt)) (.next h)
    · exact .next h
  · extract_lets +onlyGivenNames c
    exact .ite (.next (h.engine EngineStep.refl.takeInterrupt)) (.next h)
theorem CanonicalState.execCommit {ga : GReg} {halves : BitVec 2} {f : Bool} {vr : VReg} {ax : Fin 4} {v : Vote}
    (h : CanonicalState s) :
    CanonicalOut (execCommit ga halves f vr ax v s) := by
  unfold Machine.execCommit
  exact h.trk (fun _ h => h.heldBy (fun _ h => ite (h.engine EngineStep.refl.failAlone) (ite
    (h.engine EngineStep.refl.retire) (h.vote (fun _ h => h.pushEntry.engine EngineStep.refl.retire)))))
theorem CanonicalState.execCommitApply {n : Nat} (h : CanonicalState s) : CanonicalOut (execCommitApply n s) :=
  h.applyOldest.settled
theorem CanonicalState.execWev {ga gb : GReg} (h : CanonicalState s) : CanonicalOut (execWev ga gb s) := by
  unfold Machine.execWev
  exact h.trk (fun _ h => ite (h.engine EngineStep.refl.updTrk.wevTake) (h.engine EngineStep.refl.updTrk.updTrk))
theorem CanonicalState.execWevReturn (h : CanonicalState s) : CanonicalOut (execWevReturn s) := by
  unfold Machine.execWevReturn
  split
  · extract_lets +onlyGivenNames hit
    exact .ite (.next (h.engine EngineStep.refl.wevTake.countCycles.deliverImprecise)) (.next h)
  · exact .next h
theorem CanonicalState.execWevTimeout (h : CanonicalState s) : CanonicalOut (execWevTimeout s) := by
  unfold Machine.execWevTimeout
  split
  · exact .ite (.next (h.engine EngineStep.refl.wevTake.countCycles.deliverImprecise)) (.next h)
  · exact .next h
theorem CanonicalState.execXch {ga gb : GReg} {upset : BitVec 32 × BitVec 32 × BitVec 32} {copiesDiffer : Bool}
    (h : CanonicalState s) : CanonicalOut (execXch ga gb upset copiesDiffer s) := by
  unfold Machine.execXch
  refine h.trk fun u h => h.heldBy fun u h => ?_
  extract_lets +onlyGivenNames u1 x
  have h1 : CanonicalState u1 := h.drainStores
  split
  extract_lets +onlyGivenNames set
  refine ite (h1.engine EngineStep.refl.copyDisagreement) ?_
  split
  · exact h1.engine EngineStep.refl.retire
  · exact h1.engine EngineStep.refl.coreMismatch.retire
  · exact h1.engine EngineStep.refl.setFinding.unlocated.retire
theorem CanonicalState.execSig {ga : GReg} {scrubDiffers : Bool} (h : CanonicalState s) :
    CanonicalOut (execSig ga scrubDiffers s) := by
  unfold Machine.execSig
  exact h.trk (fun _ h => ite (h.engine EngineStep.refl.failAlone) (ite
    (h.engine EngineStep.refl.setFinding.unlocated) (h.engine EngineStep.refl.updTrk.retire)))
theorem CanonicalState.execSignatureVote {upset : BitVec 32 × BitVec 32 × BitVec 32} (h : CanonicalState s) :
    CanonicalOut (execSignatureVote upset s) := by
  unfold Machine.execSignatureVote
  extract_lets +onlyGivenNames st
  refine .ite ?_ ?_
  · exact .next h
  · split
    · extract_lets +onlyGivenNames v
      split
      · exact .next (h.engine EngineStep.refl.wr)
      · exact .next (h.engine EngineStep.refl.wr.latentDivergence)
      · exact .next (h.engine EngineStep.refl.setFinding.unlocated)
theorem CanonicalState.execFence {sel : BitVec 4} (h : CanonicalState s) : CanonicalOut (execFence sel s) := by
  unfold Machine.execFence
  exact h.trk (fun _ h => ite ((ite h.drainStores h).engine EngineStep.refl.updTrk) (ite (ite h.drainStores h)
    ((ite h.drainStores h).engine EngineStep.refl.retire)))
theorem CanonicalState.execCopyPause (h : CanonicalState s) : CanonicalOut (execCopyPause s) := by
  unfold Machine.execCopyPause
  extract_lets +onlyGivenNames st waiting
  refine .ite ?_ ?_
  · extract_lets +onlyGivenNames s1 s2
    have h1 : CanonicalState s1 := h.drainStores
    have h2 : CanonicalState s2 := h1.each fun _ _ h => h.engine EngineStep.refl.askFallback
    exact (h2.engine EngineStep.refl.setFlag.updTrk).settled
  · exact .next h
theorem CanonicalState.execTrkRejoin {pairDiffers : Bool} (h : CanonicalState s) :
    CanonicalOut (execTrkRejoin pairDiffers s) := by
  unfold Machine.execTrkRejoin
  refine .ite ?_ ?_
  · extract_lets +onlyGivenNames s1
    have h1 : CanonicalState s1 := h.engine EngineStep.refl.setFlag.updTrk
    refine .ite ?_ ?_
    · exact (h1.engine EngineStep.refl.setFinding.unlocated).settled
    · extract_lets +onlyGivenNames s2
      have h2 : CanonicalState s2 := h1.engine EngineStep.refl.updTrk.setFld.setDual
      exact (h2.engine EngineStep.refl.sq.rc.raise.coresGoOn).settled
  · exact .next h
theorem CanonicalState.execDebugAuthentication {challenge : BitVec 128} {qx qy r sg : BitVec 256}
    (h : CanonicalState s) :
    CanonicalOut (execDebugAuthentication challenge qx qy r sg s) := by
  unfold Machine.execDebugAuthentication
  extract_lets +onlyGivenNames digest known
  exact .ite (.next (h.engine EngineStep.refl.setFlag)) (.next h)
theorem CanonicalState.execDebugHalt {scan : Bool} (h : CanonicalState s) :
    CanonicalOut (execDebugHalt scan s) :=
  .ite ((h.engine EngineStep.refl.updTrk.haltDue).settled) (.next h)
theorem CanonicalState.execDebugResume (h : CanonicalState s) : CanonicalOut (execDebugResume s) := by
  unfold Machine.execDebugResume
  refine .ite ?_ ?_
  · extract_lets +onlyGivenNames s1 s2 s3 s4
    have h1 : CanonicalState s1 := h.engine EngineStep.refl.setFlag.setFlag
    have h2 : CanonicalState s2 := h1.each fun _ _ h => ite (h.engine EngineStep.refl.releaseCount) h
    have h3 : CanonicalState s3 := h2.each fun _ _ h => h.engine EngineStep.refl.updAx
    have h4 : CanonicalState s4 := h3.engine EngineStep.refl.updTrk
    exact (h4.engine EngineStep.refl.endCause.coresGoOn).settled
  · exact .next h
theorem CanonicalState.execSingleStep (h : CanonicalState s) : CanonicalOut (execSingleStep s) :=
  .ite (.next (h.engine EngineStep.refl.updTrk.fenceAnswered)) (.next h)
theorem CanonicalState.execBrk {h' : Hart} (h : CanonicalState s) : CanonicalOut (execBrk h' s) := by
  unfold Machine.execBrk
  exact h.issue (fun _ h => ite (ite (h.engine EngineStep.refl.retire)
    (h.engine EngineStep.refl.retire.haltCores.syncStretches)) (h.engine EngineStep.refl.takeAlone))
theorem CanonicalState.execPortUp {p : Fin 4} (h : CanonicalState s) : CanonicalOut (execPortUp p s) := by
  unfold Machine.execPortUp
  refine .ite ?_ ?_
  · extract_lets +onlyGivenNames s1 s2 s3
    have h1 : CanonicalState s1 := h.engine EngineStep.refl.setFlag.sq
    have h2 : CanonicalState s2 := h1.engine EngineStep.refl.cplLink
    have h3 : CanonicalState s3 := ite (h2.engine EngineStep.refl.sendLink) h2
    exact .next (ite (h3.engine EngineStep.refl.sendAdvert) h3)
  · exact .next h
theorem CanonicalState.execPortDown {p : Fin 4} (h : CanonicalState s) : CanonicalOut (execPortDown p s) :=
  .ite (.next (h.engine EngineStep.refl.portLost)) (.next h)
theorem CanonicalState.execAdvertSend {p : Fin 4} (h : CanonicalState s) : CanonicalOut (execAdvertSend p s) :=
  .ite (.next (h.engine EngineStep.refl.sendAdvert)) (.next h)
theorem CanonicalState.execAdvert {p : Fin 4} {counts : List Nat} (h : CanonicalState s) :
    CanonicalOut (execAdvert p counts s) :=
  .ite (.next (h.engine EngineStep.refl.updPt.discoverAll)) (.next h)
theorem CanonicalState.execOffer {p : Fin 4} {otherHead : Bool} {challenge : BitVec 128} {headSerial : BitVec 64}
    (h : CanonicalState s) :
    CanonicalOut (execOffer p otherHead challenge headSerial s) := by
  unfold Machine.execOffer
  refine .ite ?_ ?_
  · exact .next h
  · refine .ite ?_ ?_
    · exact .ite (.next (h.engine EngineStep.refl.sq.cplLink)) (.next h)
    · exact .ite (.next (h.engine EngineStep.refl.updCpl.updPt.sendLink)) (.next h)
theorem CanonicalState.execAnswer {p : Fin 4} {serial : BitVec 64} {code : BitVec 128} {seat : Fin 64}
    (h : CanonicalState s) :
    CanonicalOut (execAnswer p serial code seat s) := by
  unfold Machine.execAnswer
  refine .ite ?_ ?_
  · extract_lets +onlyGivenNames first s1
    have h1 : CanonicalState s1 := h.engine EngineStep.refl.updCpl
    exact .next (ite (h1.engine EngineStep.refl.takeAnswer) h1)
  · exact .ite (.next (h.engine EngineStep.refl.relayAnswer)) (.next h)
theorem CanonicalState.execAdmissionCheckDone (h : CanonicalState s) :
    CanonicalOut (execAdmissionCheckDone s) := by
  unfold Machine.execAdmissionCheckDone
  split
  · refine .ite ?_ ?_
    · extract_lets +onlyGivenNames key good
      exact .next ((h.each fun _ _ h => h.engine EngineStep.refl.wr).engine EngineStep.refl.admissionOver)
    · exact .next h
  · exact .next h
theorem CanonicalState.execAdmissionTimeout (h : CanonicalState s) : CanonicalOut (execAdmissionTimeout s) :=
  .ite (.next (h.engine EngineStep.refl.admissionOver)) (.next h)
theorem CanonicalState.execGrant {p : Fin 4} {seat : Fin 64} (h : CanonicalState s) :
    CanonicalOut (execGrant p seat s) := by
  unfold Machine.execGrant
  refine .ite ?_ ?_
  · extract_lets +onlyGivenNames s1 s2 s3
    have h1 : CanonicalState s1 := h.each fun _ _ h => h.engine EngineStep.refl.updPt
    have h2 : CanonicalState s2 := h1.engine EngineStep.refl.takeSeat
    have h3 : CanonicalState s3 := ite h2 (h2.engine EngineStep.refl.updCpl)
    exact .next (h3.engine EngineStep.refl.offerOn)
  · exact .ite (.next (h.engine EngineStep.refl.relayGrant)) (.next h)
theorem CanonicalState.execDetach (h : CanonicalState s) : CanonicalOut (execDetach s) :=
  .ite (.next (h.engine EngineStep.refl.leaveSeat.cplLink)) (.next h)
theorem CanonicalState.execSeatFreed {seat : Fin 64} (h : CanonicalState s) :
    CanonicalOut (execSeatFreed seat s) :=
  .ite (.next (h.engine EngineStep.refl.updCpl)) (.next h)
/-- A port's choice of what leaves acts on the Coupler's queues alone. -/
theorem sendLocal_engineStep {p cls : Nat} (hs : sendLocal p cls s = some t) : EngineStep s t := by
  have hupd : ∀ f, EngineStep s (s.updCpl f) := fun _ => EngineStep.refl.updCpl
  unfold sendLocal at hs
  dsimp only at hs
  repeat' split at hs
  all_goals
    cases hs <;> exact hupd _

theorem sendTransit_engineStep {p cls inp : Nat} (hs : sendTransit p cls inp s = some t) : EngineStep s t := by
  obtain ⟨q, -, rfl⟩ := Option.map_eq_some_iff.1 hs
  exact EngineStep.refl.updCpl

theorem sendClass_engineStep {p cls : Nat} (hs : sendClass p cls s = some t) : EngineStep s t := by
  obtain ⟨src, -, hsrc⟩ := List.exists_of_findSome?_eq_some hs
  obtain ⟨u, hu, rfl⟩ := Option.map_eq_some_iff.1 hsrc
  refine EngineStep.updPt ?_
  split at hu
  · exact sendLocal_engineStep hu
  · exact sendTransit_engineStep hu

theorem CanonicalState.sendClass {p cls : Nat}
    (h : CanonicalState s) : CanonicalState ((sendClass p cls s).getD s) := by
  cases hs : Machine.sendClass p cls s with
  | none => exact h
  | some t => exact h.engine (sendClass_engineStep hs)

theorem CanonicalState.execCouplerFrameSent {p cls : Fin 4} (h : CanonicalState s) :
    CanonicalOut (execCouplerFrameSent p cls s) :=
  .ite (.next h) (.ite (.next h) (.next h.sendClass))
theorem CanonicalState.execTransactionTimeout {tag : Fin 257} (h : CanonicalState s) :
    CanonicalOut (execTransactionTimeout tag s) := by
  unfold Machine.execTransactionTimeout
  extract_lets +onlyGivenNames t
  exact .ite (.next (h.engine EngineStep.refl.setTag.sq.rc.transactionOver)) (.next h)
theorem CanonicalState.execTagHoldEnd {tag : Fin 257} (h : CanonicalState s) :
    CanonicalOut (execTagHoldEnd tag s) :=
  .ite (.next (h.engine EngineStep.refl.setTag)) (.next h)
theorem CanonicalState.execAckFrame {f : Frame} (h : CanonicalState s) : CanonicalOut (execAckFrame f s) :=
  .next (h.receive (fun _ h => h.epochCheck (fun _ h => h.engine EngineStep.refl.responseArrived)))
theorem CanonicalState.execRdrFrame {f : Frame} (h : CanonicalState s) : CanonicalOut (execRdrFrame f s) :=
  .next (h.receive (fun _ h => h.epochCheck (fun _ h => h.engine EngineStep.refl.responseArrived)))
theorem CanonicalState.execEvtFrame {f : Frame} {m : PortF} (h : CanonicalState s) :
    CanonicalOut (execEvtFrame f m s) :=
  .next (h.receive (fun _ h => h.epochCheck (fun _ h => h.toRing)))
theorem CanonicalState.execFwrFrame {f : Frame} {m : PortF} (h : CanonicalState s) :
    CanonicalOut (execFwrFrame f m s) :=
  .next (h.receive (fun _ h => h.epochCheck (fun _ h => h.fragmentArrived)))
theorem CanonicalState.execReassemblyTimeout {buf : Fin 8} (h : CanonicalState s) :
    CanonicalOut (execReassemblyTimeout buf s) := by
  unfold Machine.execReassemblyTimeout
  split
  · exact .ite (.next (h.engine EngineStep.refl.setBuf.setStale.sq.cplDropEvent)) (.next h)
  · exact .next h
theorem CanonicalState.execTimeSync {p : Fin 4} {t1 : Nat} (h : CanonicalState s) :
    CanonicalOut (execTimeSync p t1 s) :=
  .ite (.next (h.engine EngineStep.refl.at.updPt)) (.next h)
theorem CanonicalState.execTimeSyncMark {p : Fin 4} {t2 t3 : Nat} (h : CanonicalState s) :
    CanonicalOut (execTimeSyncMark p t2 t3 s) :=
  .ite (.next (h.engine EngineStep.refl.at.updPt)) (.next h)
theorem CanonicalState.execTimeSyncEcho {p : Fin 4} {t4 : Nat} (h : CanonicalState s) :
    CanonicalOut (execTimeSyncEcho p t4 s) :=
  .ite (.next (h.engine EngineStep.refl.at.updPt.sendLink)) (.next h)
theorem CanonicalState.execSync {p : Fin 4} {t1 t4 : Nat} (h : CanonicalState s) :
    CanonicalOut (execSync p t1 t4 s) :=
  .ite (.next (h.engine EngineStep.refl.setFldI.updCpl)) (.next h)
theorem CanonicalState.execLeaseExpiry (h : CanonicalState s) : CanonicalOut (execLeaseExpiry s) :=
  .ite ((h.engine EngineStep.refl.setFld.cplLease.settleLease).settled) (.next h)
theorem CanonicalState.execLeaseHeartbeat {t : Nat} (h : CanonicalState s) :
    CanonicalOut (execLeaseHeartbeat t s) := by
  unfold Machine.execLeaseHeartbeat
  extract_lets +onlyGivenNames s1
  have h1 : CanonicalState s1 := h.engine EngineStep.refl.at
  exact .ite ((h1.engine EngineStep.refl.sendLease.renewLease).settled) (.next h1)
theorem CanonicalState.execLease {f : Frame} (h : CanonicalState s) : CanonicalOut (execLease f s) :=
  (h.receive fun _ h => ite (h.engine EngineStep.refl.leaseArrived) (h.epochCheck fun _ h => h)).settled
theorem CanonicalState.execUncpl {f : Frame} (h : CanonicalState s) : CanonicalOut (execUncpl f s) :=
  (h.receive (fun _ h => ite (h.engine EngineStep.refl.uncouple) h)).settled
theorem CanonicalState.execAuthorityListenExpiry (h : CanonicalState s) :
    CanonicalOut (execAuthorityListenExpiry s) :=
  .ite (.next (h.engine EngineStep.refl.setFld.updCpl)) (.next h)
theorem CanonicalState.execMigrationDone (h : CanonicalState s) : CanonicalOut (execMigrationDone s) := by
  unfold Machine.execMigrationDone
  refine .ite ?_ ?_
  · split
    · extract_lets +onlyGivenNames s1 s2 s3
      have h1 : CanonicalState s1 := h.engine EngineStep.refl.migCopy
      have h2 : CanonicalState s2 := h1.engine EngineStep.refl.setFld.setFlag
      have h3 : CanonicalState s3 := h2.engine EngineStep.refl.setFlag
      exact .next ((h3.upd).engine EngineStep.refl.setFlag)
  · exact .next h
theorem CanonicalState.execScrubber {tandem : Bool} {word : Nat} {finding : Ecc} (h : CanonicalState s) :
    CanonicalOut (execScrubber tandem word finding s) := by
  unfold Machine.execScrubber
  extract_lets +onlyGivenNames n
  exact .ite (.next h.waitFor.memCheck) (.next h)
theorem CanonicalState.execMemoryClearDone {m : ClearMem} (h : CanonicalState s) :
    CanonicalOut (execMemoryClearDone m s) :=
  .ite (.next h.waitCleared) (.next h)
theorem CanonicalState.execNvmCommandDone {readBackDiffers : Bool} (h : CanonicalState s) :
    CanonicalOut (execNvmCommandDone readBackDiffers s) := by
  unfold Machine.execNvmCommandDone
  split
  · exact .next h
  · extract_lets +onlyGivenNames _ s1 s2
    have h1 : CanonicalState s1 := h.nvmApply.upd
    have h2 : CanonicalState s2 := h1.engine EngineStep.refl.setFlag.sq
    exact .ite (.next (h2.engine EngineStep.refl.sq.raise)) (.next h2)
theorem CanonicalState.execBootCheckDone (h : CanonicalState s) : CanonicalOut (execBootCheckDone s) := by
  unfold Machine.execBootCheckDone
  refine .ite ?_ ?_
  · extract_lets +onlyGivenNames _ s1
    have h1 : CanonicalState s1 := h.upd
    split
    · extract_lets +onlyGivenNames e
      exact .next ((h1.upd).engine EngineStep.refl.setFld)
    · exact .next ((h1.engine EngineStep.refl.setFlag.setFlag).refuseRelease)
  · exact .next h
theorem CanonicalState.execSensorConversion {readings : List (Option Int)} (h : CanonicalState s) :
    CanonicalOut (execSensorConversion readings s) := by
  unfold Machine.execSensorConversion
  extract_lets +onlyGivenNames r
  refine .ite ?_ ?_
  · exact .next (h.engine EngineStep.refl.lanternSensor)
  · refine .ite ?_ ?_
    · extract_lets +onlyGivenNames s1
      have h1 : CanonicalState s1 := (h.each fun _ _ h =>
        h.engine EngineStep.refl.convertSensor).engine EngineStep.refl.lanternSensor
      exact .next (h1.engine EngineStep.refl.updateMax.absRise.rateRise)
    · exact .next h
theorem CanonicalState.execThrottleStepEnd (h : CanonicalState s) : CanonicalOut (execThrottleStepEnd s) := by
  unfold Machine.execThrottleStepEnd
  refine .ite ?_ ?_
  · extract_lets +onlyGivenNames lvl s1
    have h1 : CanonicalState s1 := ite h (ite (ite (h.engine EngineStep.refl.setThrottle) (ite
      (h.engine EngineStep.refl.derateAll) h)) (ite (h.engine EngineStep.refl.setThrottle) h))
    exact .next (ite (h1.upd) h1)
  · exact .next h
theorem CanonicalState.execBistSlotStart (h : CanonicalState s) : CanonicalOut (execBistSlotStart s) := by
  unfold Machine.execBistSlotStart
  refine .ite ?_ ?_
  · exact .next h
  · split
    · exact .next (h.engine EngineStep.refl.sliceStart)
    · exact .ite (.next (h.engine EngineStep.refl.passSlot)) (.next h)
theorem CanonicalState.execBistSliceDone {pass : Bool} {chmask : BitVec 16} (h : CanonicalState s) :
    CanonicalOut (execBistSliceDone pass chmask s) := by
  unfold Machine.execBistSliceDone
  refine .ite (.next h) ?_
  extract_lets +onlyGivenNames u recovery s1 s2
  have h0 : CanonicalState { s with bist := .none } := h.upd
  have h1 : CanonicalState s1 := h0.engine EngineStep.refl.setFlag.rcWrap
  have h2 : CanonicalState s2 := by
    dsimp only [s2, u]
    cases s.bist with
    | none => exact h1
    | core k => exact h1.engine EngineStep.refl.coreSliceDone
    | bank b => exact ite h1 (h1.engine EngineStep.refl.retireBank.sliceFailed)
    | group g => exact h1.engine EngineStep.refl.groupSliceDone
  exact .next (ite h2 (h2.engine EngineStep.refl.moveSlot))
theorem CanonicalState.execPorstN (h : CanonicalState s) : CanonicalOut (execPorstN s) := .next h.resetNow
theorem CanonicalState.execWrstN (h : CanonicalState s) : CanonicalOut (execWrstN s) := .next h.resetNow
theorem CanonicalState.execPllCLoss (h : CanonicalState s) : CanonicalOut (execPllCLoss s) :=
  .ite (.next h.resetNow) (.next h)
theorem CanonicalState.execPllPLoss (h : CanonicalState s) : CanonicalOut (execPllPLoss s) :=
  .ite (.next h.resetNow) (.next h)
theorem CanonicalState.execHoldoverExpiry (h : CanonicalState s) : CanonicalOut (execHoldoverExpiry s) :=
  .ite (.next ((h.engine EngineStep.refl.setFlag).resetNow)) (.next h)
theorem CanonicalState.execResetRelease {headLow : Bool} (h : CanonicalState s) :
    CanonicalOut (execResetRelease headLow s) := by
  unfold Machine.execResetRelease
  split
  · exact .ite h.releaseReset.settled (.next h)
  · exact .next h
theorem CanonicalState.execDrayServiceAvailable (h : CanonicalState s) :
    CanonicalOut (execDrayServiceAvailable s) := by
  unfold Machine.execDrayServiceAvailable
  refine .ite ?_ ?_
  · extract_lets +onlyGivenNames _ s1
    have h1 : CanonicalState s1 := h.upd
    exact ((h1.each fun _ _ h =>
      h.engine EngineStep.refl.setFlag.updAx.startAxle).engine EngineStep.refl.settleSafe).settled
  · exact .next h
theorem CanonicalState.execCrystalValid (h : CanonicalState s) : CanonicalOut (execCrystalValid s) :=
  .ite (.next (h.engine EngineStep.refl.setFlag.setFlag)) (.next h)
theorem CanonicalState.execReferenceLoss (h : CanonicalState s) : CanonicalOut (execReferenceLoss s) :=
  .ite (.next (h.engine EngineStep.refl.setFlag.setFlag)) (.next h)
theorem CanonicalState.execPllLock (h : CanonicalState s) : CanonicalOut (execPllLock s) :=
  .ite (.next (h.engine EngineStep.refl.setFlag.setFlag.setFlag)) (.next h)
theorem CanonicalState.execPllSLock (h : CanonicalState s) : CanonicalOut (execPllSLock s) :=
  .ite (.next (h.engine EngineStep.refl.setFlag)) (.next h)
theorem CanonicalState.execPllSLoss (h : CanonicalState s) : CanonicalOut (execPllSLoss s) :=
  .ite (.next (h.engine EngineStep.refl.pllSLost)) (.next h)
theorem CanonicalState.execCoreTestDone {cores : BitVec 3} {pathFail : BitVec 6} (h : CanonicalState s) :
    CanonicalOut (execCoreTestDone cores pathFail s) := by
  unfold Machine.execCoreTestDone
  refine .ite ?_ (.next h)
  extract_lets +onlyGivenNames _ s1 s2 bad
  have h1 : CanonicalState s1 := h.upd
  have h2 : CanonicalState s2 := h1.engine EngineStep.refl.setFld
  refine .ite (.next h2.refuseRelease) ?_
  extract_lets +onlyGivenNames s3 s4 s5
  have h3 : CanonicalState s3 := h2.engine EngineStep.refl.setFlag
  have h4 : CanonicalState s4 := by
    clear_value bad
    dsimp only [s4]
    split
    · exact h3.engine EngineStep.refl.startupExclude
    · exact h3
  have h5 : CanonicalState s5 := h4.engine EngineStep.refl.rc.setFld
  exact .next (ite h5 (h5.engine EngineStep.refl.setFlag).refuseRelease)
theorem CanonicalState.execMemoryTestDone {banks : BitVec 17} {tandem table : Bool} (h : CanonicalState s) :
    CanonicalOut (execMemoryTestDone banks tandem table s) := by
  unfold Machine.execMemoryTestDone
  refine .ite ?_ (.next h)
  extract_lets +onlyGivenNames _ s1 s2 s3 bad s4 s5 s6
  have h1 : CanonicalState s1 := h.upd
  have h3 : CanonicalState s3 := h1.engine EngineStep.refl.setFld.setFlag.setFlag
  have h4 : CanonicalState s4 := by
    clear_value bad
    dsimp only [s4]
    split
    · exact h3.engine EngineStep.refl.setFld.retireBank
    · exact h3
  have h6 : CanonicalState s6 := h4.waitCleared.waitCleared.waitCleared.clearMemory.clearMemory.clearMemory
  exact .next (ite h6.refuseRelease h6)
theorem CanonicalState.execTroikaRelease (h : CanonicalState s) : CanonicalOut (execTroikaRelease s) := by
  unfold Machine.execTroikaRelease
  refine .ite ?_ ?_
  · extract_lets +onlyGivenNames e s1 s2 s3
    have h1 : CanonicalState s1 := h.engine EngineStep.refl.updTrk
    have h2 : CanonicalState s2 := h1.engine EngineStep.refl.setFlag
    have h3 : CanonicalState s3 := h2.each fun _ _ h => h.engine EngineStep.refl.updAx
    exact (h3.engine EngineStep.refl.drayFlag.settleSafe).settled
  · exact .next h
theorem CanonicalState.execLanternReached (h : CanonicalState s) : CanonicalOut (execLanternReached s) :=
  .ite (.next h.reachLantern) (.next h)
theorem CanonicalState.execFastDomainOff (h : CanonicalState s) : CanonicalOut (execFastDomainOff s) :=
  .ite (.next h.reachLantern) (.next h)
theorem CanonicalState.execSupplyLoss (h : CanonicalState s) : CanonicalOut (execSupplyLoss s) := by
  unfold Machine.execSupplyLoss
  refine .ite (.next h) ?_
  extract_lets +onlyGivenNames s1
  have hoff : CanonicalState (if s.fastPower then Machine.fastOff s else s) := ite h.fastOff h
  have h1 : CanonicalState s1 := hoff.engine EngineStep.refl.cutProg.cutRecord
  exact .next ⟨h1.mem, h1.regs, mwf_filter _ _ _ h1.words, rfl⟩
theorem CanonicalState.execPowerUp (h : CanonicalState s) : CanonicalOut (execPowerUp s) :=
  .ite (.next h.fastWakes) (.next h)
theorem CanonicalState.execWake {w : WakeSrc} (h : CanonicalState s) : CanonicalOut (execWake w s) := by
  unfold Machine.execWake
  refine .ite ?_ ?_
  · exact .next h
  · split
    · exact .ite (.next h.acceptWake) (.next h)
    · exact .ite (.next h.acceptWake) (.next h)
    · exact .ite (.next h.acceptWake) (.next h)
    · exact .ite (.next h.acceptWake) (.next h)
theorem CanonicalState.execLanTimeIncrement (h : CanonicalState s) : CanonicalOut (execLanTimeIncrement s) := by
  unfold Machine.execLanTimeIncrement
  refine .ite ?_ ?_
  · extract_lets +onlyGivenNames s1
    have h1 : CanonicalState s1 := h.engine EngineStep.refl.setLanW
    exact .next (ite h1.acceptWake h1)
  · exact .next h
theorem CanonicalState.execX32ok {qualified : Bool} (h : CanonicalState s) :
    CanonicalOut (execX32ok qualified s) :=
  .ite (.next (h.engine EngineStep.refl.setLanF)) (.next h)
theorem CanonicalState.execLanImgdataWrite {data : Word} (h : CanonicalState s) :
    CanonicalOut (execLanImgdataWrite data s) :=
  .ite (.next h.lanWrite) (.next h)
theorem CanonicalState.execLanRun (h : CanonicalState s) : CanonicalOut (execLanRun s) :=
  .ite (.next (h.engine EngineStep.refl.runCmd)) (.next h)
theorem CanonicalState.execLanStop (h : CanonicalState s) : CanonicalOut (execLanStop s) :=
  .ite (.next (h.engine EngineStep.refl.runCmd)) (.next h)
theorem CanonicalState.execLanMbox {w : MboxWrite} (h : CanonicalState s) : CanonicalOut (execLanMbox w s) := by
  unfold Machine.execLanMbox
  split
  · exact .ite (.next h.lanWrite) (.next h)
  · exact .ite (.next h.lanWrite) (.next h)
  · exact .ite (.next h.lanWrite) (.next h)
theorem CanonicalState.execLanSleep (h : CanonicalState s) : CanonicalOut (execLanSleep s) :=
  .ite (.next (h.engine EngineStep.refl.lanSleep)) (.next h)
theorem CanonicalState.execPfail (h : CanonicalState s) : CanonicalOut (execPfail s) := by
  unfold Machine.execPfail
  refine .ite ?_ ?_
  · exact .next h
  · extract_lets +onlyGivenNames s1
    have h1 : CanonicalState s1 := h.engine EngineStep.refl.lanSq.wakeLantern
    refine .ite ?_ ?_
    · exact .next h1
    · extract_lets +onlyGivenNames s2
      have h2 : CanonicalState s2 := h1.engine EngineStep.refl.pmuSupply
      exact ((h2.onlyIf fun _ h => h.engine EngineStep.refl.safeFor).engine EngineStep.refl.capture).settled
theorem CanonicalState.execBatlow (h : CanonicalState s) : CanonicalOut (execBatlow s) := by
  unfold Machine.execBatlow
  refine .ite ?_ ?_
  · extract_lets +onlyGivenNames s1
    have h1 : CanonicalState s1 := h.engine EngineStep.refl.setFlag
    exact .next (ite (h1.engine EngineStep.refl.sq.pmuSupply) h1)
  · exact .next h
theorem CanonicalState.execBklow (h : CanonicalState s) : CanonicalOut (execBklow s) := by
  unfold Machine.execBklow
  refine .ite ?_ ?_
  · extract_lets +onlyGivenNames was s1
    have h1 : CanonicalState s1 := h.engine EngineStep.refl.setFlag
    exact .next (ite (h1.engine EngineStep.refl.sq.pmuSupply) h1)
  · exact .next h
theorem CanonicalState.execPmuReg {r : Rail} {resetWindow : Bool} (h : CanonicalState s) :
    CanonicalOut (execPmuReg r resetWindow s) := by
  unfold Machine.execPmuReg
  refine .ite ?_ ?_
  · exact .next h
  · extract_lets +onlyGivenNames b s1 s2 s3
    have h1 : CanonicalState s1 := h.engine EngineStep.refl.setFld
    have h2 : CanonicalState s2 := h1.engine EngineStep.refl.sqMask.raise
    have h3 : CanonicalState s3 := ite (h2.engine EngineStep.refl.enterStand) h2
    exact .ite h3.resetNow.settled h3.settled
theorem CanonicalState.execSupplyGood {x : Supply} (h : CanonicalState s) : CanonicalOut (execSupplyGood x s) := by
  unfold Machine.execSupplyGood
  refine .ite ?_ ?_
  · exact .next h
  · split
    · exact (h.engine EngineStep.refl.setFlag.endCause).settled
    · extract_lets +onlyGivenNames s1
      have h1 : CanonicalState s1 := h.engine EngineStep.refl.updLan
      exact (h1.engine EngineStep.refl.setFlag.endCause).settled
    · exact .next (h.engine EngineStep.refl.setFld)
theorem CanonicalState.execPmuHuv {h' : Fin 36} {t : Nat} (h : CanonicalState s) :
    CanonicalOut (execPmuHuv h' t s) := by
  unfold Machine.execPmuHuv
  extract_lets +onlyGivenNames s1
  have h1 : CanonicalState s1 := h.engine EngineStep.refl.at
  exact .ite (.next (h1.engine EngineStep.refl.setFlag.sqMask.raise)) (.next h1)
theorem CanonicalState.execResyncRequestSend {c : Fin 8} {t : Nat} (h : CanonicalState s) :
    CanonicalOut (execResyncRequestSend c t s) := by
  unfold Machine.execResyncRequestSend
  extract_lets +onlyGivenNames s1
  have h1 : CanonicalState s1 := h.engine EngineStep.refl.at
  refine .ite ?_ ?_
  · exact .next h1
  · refine .ite ?_ ?_
    · exact .next (h1.engine EngineStep.refl.sendRequest)
    · exact .ite (.next (h1.engine EngineStep.refl.sendRequest)) (.next h1)
theorem CanonicalState.execGuardDataFrame {c : Fin 8} {bytes : List Byte} {t : Nat} (h : CanonicalState s) :
    CanonicalOut (execGuardDataFrame c bytes t s) := by
  unfold Machine.execGuardDataFrame
  extract_lets +onlyGivenNames s1
  have h1 : CanonicalState s1 := h.engine EngineStep.refl.at
  exact .ite ((h1.engine EngineStep.refl.guardReceive).settled) (.next h1)
theorem CanonicalState.execResyncRequestFrame {c : Fin 8} {bytes : List Byte} {t : Nat} (h : CanonicalState s) :
    CanonicalOut (execResyncRequestFrame c bytes t s) := by
  unfold Machine.execResyncRequestFrame
  extract_lets +onlyGivenNames s1
  have h1 : CanonicalState s1 := h.engine EngineStep.refl.at
  exact .ite (.next (h1.engine EngineStep.refl.guardReceive)) (.next h1)
theorem CanonicalState.execResyncAnswerFrame {c : Fin 8} {bytes : List Byte} {t : Nat} (h : CanonicalState s) :
    CanonicalOut (execResyncAnswerFrame c bytes t s) := by
  unfold Machine.execResyncAnswerFrame
  extract_lets +onlyGivenNames s1
  have h1 : CanonicalState s1 := h.engine EngineStep.refl.at
  exact .ite (.next (h1.engine EngineStep.refl.guardReceive)) (.next h1)
theorem CanonicalState.execDeadlineExpiry {c : Fin 8} {t : Nat} (h : CanonicalState s) :
    CanonicalOut (execDeadlineExpiry c t s) := by
  unfold Machine.execDeadlineExpiry
  extract_lets +onlyGivenNames s1
  have h1 : CanonicalState s1 := h.engine EngineStep.refl.at
  split
  · exact .ite (.next (h1.engine EngineStep.refl.updGr.setFlag.sq.raise)) (.next h1)
  · exact .next h1
theorem CanonicalState.execWindowNarrowing {c : Fin 8} {t : Nat} (h : CanonicalState s) :
    CanonicalOut (execWindowNarrowing c t s) := by
  unfold Machine.execWindowNarrowing
  extract_lets +onlyGivenNames s1 x
  have h1 : CanonicalState s1 := h.engine EngineStep.refl.at
  refine .ite ?_ ?_
  · extract_lets +onlyGivenNames a step hi lo s2 s3 s4
    have h2 : CanonicalState s2 := h1.engine EngineStep.refl.updGr
    have h3 : CanonicalState s3 := h2.engine EngineStep.refl.wr.wr
    have h4 : CanonicalState s4 := ite h3 (h3.engine EngineStep.refl.wr)
    exact (ite (h4.engine EngineStep.refl.windowZero) h4).settled
  · exact .next h1
theorem CanonicalState.execMsgFrame {f : Frame} {m : PortF}
    (h : CanonicalState s) : CanonicalOut (execMsgFrame f m s) := by
  refine (h.receive fun _ h => h.epochCheck fun _ h => ?_).settled
  split
  · exact h.toRing
  · exact h.guardCoupler
theorem CanonicalState.execCanBusError {n : Fin 4} {e : CanErr} (h : CanonicalState s) :
    CanonicalOut (execCanBusError n e s) := by
  unfold Machine.execCanBusError
  refine .ite ?_ ?_
  · exact .next h
  · refine .ite ?_ ?_
    · exact .ite (.next (h.engine EngineStep.refl.canFrameEnd.canFlag)) (.next h)
    · extract_lets +onlyGivenNames mine s1
      have h1 : CanonicalState s1 := h.engine EngineStep.refl.canFrameEnd.setCanErr
      exact .next (ite (h1.engine EngineStep.refl.headFails) h1)
theorem CanonicalState.execBusOffRecovery {n : Fin 4} (h : CanonicalState s) :
    CanonicalOut (execBusOffRecovery n s) := by
  unfold Machine.execBusOffRecovery
  extract_lets +onlyGivenNames st
  refine .ite ?_ ?_
  · exact .next (ite (h.engine EngineStep.refl.setCanErr) (h.engine EngineStep.refl.setCanErr))
  · exact .next h
theorem CanonicalState.execTxdone {n : Fin 4} (h : CanonicalState s) : CanonicalOut (execTxdone n s) := by
  unfold Machine.execTxdone
  split
  · exact .next h
  · exact .ite (.next (h.engine EngineStep.refl.updCn.popCan.canSentOk.rcWrap.canFlag)) (.next h)
theorem CanonicalState.execLostArbitration {n : Fin 4} (h : CanonicalState s) :
    CanonicalOut (execLostArbitration n s) :=
  .ite (.next (h.engine EngineStep.refl.headFails)) (.next h)
theorem CanonicalState.execReferenceMessage {n : Fin 4} {r : RefTry} (h : CanonicalState s) :
    CanonicalOut (execReferenceMessage n r s) := by
  unfold Machine.execReferenceMessage
  refine .ite ?_ ?_
  · split
    · exact .next (h.engine EngineStep.refl.canFlag)
    · extract_lets +onlyGivenNames s1 t
      have h1 : CanonicalState s1 := h.engine EngineStep.refl.at
      exact .next (h1.engine EngineStep.refl.updCn.canSentOk)
  · exact .next h
theorem CanonicalState.execCanFrameReceived {n : Fin 4} {f : CanFrame} {sof : Nat} (h : CanonicalState s) :
    CanonicalOut (execCanFrameReceived n f sof s) := by
  unfold Machine.execCanFrameReceived
  extract_lets +onlyGivenNames s1
  have h1 : CanonicalState s1 := h.engine EngineStep.refl.at
  refine .ite ?_ ?_
  · exact .next h1
  · extract_lets +onlyGivenNames s2
    have h2 : CanonicalState s2 := h1.engine EngineStep.refl.canFrameEnd.canGotOk
    split
    · exact (h2.engine EngineStep.refl.guardReceive).settled
    · split
      · extract_lets +onlyGivenNames ts
        exact .next (h2.engine EngineStep.refl.canQueue)
      · exact .next (h2.engine EngineStep.refl.rc.canFlag)
theorem CanonicalState.execEthFrameReceived {f : EthFrame} {ts : Nat} {m : PortF} (h : CanonicalState s) :
    CanonicalOut (execEthFrameReceived f ts m s) := by
  unfold Machine.execEthFrameReceived
  extract_lets +onlyGivenNames s1
  have h1 : CanonicalState s1 := h.engine EngineStep.refl.at
  refine .ite ?_ ?_
  · exact .next h1
  · refine .ite ?_ ?_
    · exact .next (h1.engine EngineStep.refl.rc.ethFlag)
    · refine .ite ?_ ?_
      · exact .next (h1.engine EngineStep.refl.rc.ethFlag)
      · refine .ite ?_ ?_
        · exact .next h1
        · extract_lets +onlyGivenNames stamp
          split
          · exact (h1.engine EngineStep.refl.guardReceive).settled
          · exact .next h1.ethToRing
theorem CanonicalState.execEthFrameSent {ts : Nat} {m : PortF} (h : CanonicalState s) :
    CanonicalOut (execEthFrameSent ts m s) := by
  unfold Machine.execEthFrameSent
  extract_lets +onlyGivenNames s1
  have h1 : CanonicalState s1 := h.engine EngineStep.refl.at
  refine .ite (.next h1) ?_
  split
  · exact .next h1.upd
  · extract_lets +onlyGivenNames ring n a
    have hread : CanonicalState (if n = 0 then (s1, false) else Machine.ethFetch a m s1).1 := by
      split
      · exact h1
      · exact h1.ethFetch
    refine .ite (.next h1) ?_
    split
    next u own hp =>
      rw [hp] at hread
      refine .ite (.next hread.upd) ?_
      extract_lets +onlyGivenNames u1
      have h2 : CanonicalState u1 := hread.ethSend
      have h3 : CanonicalState { u1 with eth := { u1.eth with txIdx := (u1.eth.txIdx + 1) % n } } := h2.upd
      exact .next (h3.engine EngineStep.refl.ethFlag)
theorem CanonicalState.execMdioDone {data : BitVec 16} (h : CanonicalState s) :
    CanonicalOut (execMdioDone data s) := by
  unfold Machine.execMdioDone
  refine .ite ?_ ?_
  · extract_lets +onlyGivenNames s1
    have h1 : CanonicalState s1 := h.engine EngineStep.refl.setFlag
    exact .next (ite (h1.engine EngineStep.refl.setFld) h1)
  · exact .next h
theorem CanonicalState.execEthLinkChange {up : Bool} {speed : BitVec 2} (h : CanonicalState s) :
    CanonicalOut (execEthLinkChange up speed s) := by
  unfold Machine.execEthLinkChange
  refine .ite ?_ ?_
  · extract_lets +onlyGivenNames s1
    have h1 : CanonicalState s1 := h.engine EngineStep.refl.setFld
    exact .next (ite h1 (h1.engine EngineStep.refl.setFlag.ethFlag))
  · exact .next h
theorem CanonicalState.execIllegalInstruction {h' : Hart} {w : Word} (h : CanonicalState s) :
    CanonicalOut (execIllegalInstruction h' w s) :=
  .ite (.next h) (h.issue (fun _ h => h.engine EngineStep.refl.illegal))
theorem CanonicalState.execFetchBusError {h' : Hart} {uncorrectable : Bool} (h : CanonicalState s) :
    CanonicalOut (execFetchBusError h' uncorrectable s) := by
  unfold Machine.execFetchBusError
  exact h.issue (fun _ h => (h.onlyIf fun _ h => h.engine EngineStep.refl.noteEcc).engine EngineStep.refl.fail)
theorem CanonicalState.execRegisterWrite {v : View} {off : BitVec 21} {data : Word} {co : CoUpdate}
    (h : CanonicalState s) :
    CanonicalOut (execRegisterWrite v off data co s) :=
  h.writeCmd
theorem CanonicalState.execLdbLdbuLdhLdhu {h' : Hart} {k : SubLoad} {rt rb : GReg} {off : BitVec 15} {env : Env}
    (h : CanonicalState s) :
    CanonicalOut (execLdbLdbuLdhLdhu h' k rt rb off env s) :=
  h.common (fun _ h => h.heldBy (fun _ h => h.loadOn))
theorem CanonicalState.execLdw {h' : Hart} {rt rb : GReg} {off : BitVec 15} {env : Env} (h : CanonicalState s) :
    CanonicalOut (execLdw h' rt rb off env s) :=
  h.common (fun _ h => h.heldBy (fun _ h => h.loadOn))
theorem CanonicalState.execLdwRot {h' : Hart} {rt rb : GReg} {off : BitVec 15} {env : Env} (h : CanonicalState s) :
    CanonicalOut (execLdwRot h' rt rb off env s) :=
  h.common (fun _ h => h.heldBy (fun _ h => h.loadOn))
theorem CanonicalState.execLdv {h' : Hart} {vt : VReg} {rb : GReg} {off : BitVec 15} {env : Env}
    (h : CanonicalState s) :
    CanonicalOut (execLdv h' vt rb off env s) :=
  h.fullOnly (fun _ h => h.heldBy (fun _ h => h.loadAt))
theorem CanonicalState.execStbSth {h' : Hart} {half : Bool} {rt rb : GReg} {off : BitVec 15} {env : Env}
    (h : CanonicalState s) :
    CanonicalOut (execStbSth h' half rt rb off env s) :=
  h.common (fun _ h => h.heldBy (fun _ h => h.storeOn))
theorem CanonicalState.execStw {h' : Hart} {rt rb : GReg} {off : BitVec 15} {env : Env} (h : CanonicalState s) :
    CanonicalOut (execStw h' rt rb off env s) :=
  h.common (fun _ h => h.heldBy (fun _ h => h.storeOn))
theorem CanonicalState.execStwRot {h' : Hart} {rt rb : GReg} {off : BitVec 15} {env : Env} (h : CanonicalState s) :
    CanonicalOut (execStwRot h' rt rb off env s) :=
  h.common (fun _ h => h.heldBy (fun _ h => h.storeOn))
theorem CanonicalState.execStv {h' : Hart} {vt : VReg} {rb : GReg} {off : BitVec 15} {env : Env}
    (h : CanonicalState s) :
    CanonicalOut (execStv h' vt rb off env s) :=
  h.fullOnly (fun _ h => h.heldBy (fun _ h => h.storeAt))
theorem CanonicalState.execDebuggerWrite {w : DbgTarget} {co : CoUpdate} (h : CanonicalState s) :
    CanonicalOut (execDebuggerWrite w co s) := by
  unfold Machine.execDebuggerWrite
  refine .ite ?_ (.next h)
  extract_lets +onlyGivenNames t upd
  have ht : CanonicalState t := h.engine EngineStep.refl.rc
  have hupd : ∀ f, CanonicalOut (upd f) := fun f => .ite (ht.engine EngineStep.refl.updCore).settled (.next h)
  cases w with
  | mem a v => exact ht.debugStore.settled
  | _ => exact hupd _
theorem CanonicalState.execWrFrame {f : Frame} {co : CoUpdate} (h : CanonicalState s) :
    CanonicalOut (execWrFrame f co s) :=
  (h.receive (fun _ h => h.epochCheck (fun _ h => h.wrArrived))).settled
theorem CanonicalState.execRdFrame {f : Frame} (h : CanonicalState s) : CanonicalOut (execRdFrame f s) :=
  (h.receive (fun _ h => h.epochCheck (fun _ h => h.engine EngineStep.refl.rdArrived))).settled
theorem CanonicalState.execPathTest (h : CanonicalState s) : CanonicalOut (execPathTest s) :=
  .ite (.next (h.engine EngineStep.refl.setFlag.rc.setFlag.updTrk)) (.next h)
theorem CanonicalState.performHeld {i : Instr} {v : Vote}
    (h : CanonicalState s) : CanonicalOut (performHeld i v s) := by
  unfold Machine.performHeld
  split
  · exact h.execLdbLdbuLdhLdhu
  · exact h.execLdw
  · exact h.execLdwRot
  · exact h.execLdv
  · exact h.execStbSth
  · exact h.execStw
  · exact h.execStwRot
  · exact h.execStv
  · exact h.execAtab
  · exact h.execPia
  · exact h.execRmp
  · exact h.execCommit
  · exact h.execXch
  · exact .next h

theorem CanonicalState.execPathTestDone {f : PathFindings} {revote : Vote} (h : CanonicalState s) :
    CanonicalOut (execPathTestDone f revote s) := by
  unfold Machine.execPathTestDone
  refine .ite ?_ (.next h)
  extract_lets +onlyGivenNames s1 held s2 s3
  have h3 : CanonicalState s3 := h.engine EngineStep.refl.setFld.pathOutcome.updTrk.setFlag
  refine .thenDo ?_ fun _ h => h.engine EngineStep.refl.coresGoOn.syncStretches
  clear_value s3 held
  cases held with
  | none => exact .next h3
  | some i => exact h3.performHeld
theorem CanonicalState.execRunStart {v : View} {a : Fin 4} (h : CanonicalState s) :
    CanonicalOut (execRunStart v a s) :=
  h.fieldCmd
theorem CanonicalState.execRunStop {v : View} {a : Fin 4} (h : CanonicalState s) :
    CanonicalOut (execRunStop v a s) :=
  h.fieldCmd
theorem CanonicalState.execPeriodWrite {v : View} {a : Fin 4} {period : Word} {n : Nat} (h : CanonicalState s) :
    CanonicalOut (execPeriodWrite v a period n s) :=
  h.writeCmd
theorem CanonicalState.execCompareWrite {v : View} {a : Fin 4} {k : Fin 16} {down : Bool} {c : Word} {n : Nat}
    (h : CanonicalState s) :
    CanonicalOut (execCompareWrite v a k down c n s) :=
  h.writeCmd
theorem CanonicalState.execPrdschArm {v : View} {a : Fin 4} {period : BitVec 19} (h : CanonicalState s) :
    CanonicalOut (execPrdschArm v a period s) :=
  h.wordCmd
theorem CanonicalState.execReadmit {v : View} {c : Fin 256} (h : CanonicalState s) :
    CanonicalOut (execReadmit v c s) :=
  h.fieldCmd
theorem CanonicalState.execGchRearm {v : View} {c : Fin 256} (h : CanonicalState s) :
    CanonicalOut (execGchRearm v c s) :=
  h.fieldCmd
theorem CanonicalState.execSdfRearm {v : View} {c : Fin 96} {recentTransition clockPresent : Bool}
    (h : CanonicalState s) :
    CanonicalOut (execSdfRearm v c recentTransition clockPresent s) :=
  .ite ((h.engine EngineStep.refl.updSd).fieldCmd) (.next h)
theorem CanonicalState.execSarStart {v : View} {c : Fin 8} (h : CanonicalState s) :
    CanonicalOut (execSarStart v c s) :=
  h.fieldCmd
theorem CanonicalState.execObserverReport {v : View} {a : Fin 4} {angle : Word} (h : CanonicalState s) :
    CanonicalOut (execObserverReport v a angle s) :=
  h.wordCmd
theorem CanonicalState.execTtuRearm {v : View} {a : Fin 4} (h : CanonicalState s) :
    CanonicalOut (execTtuRearm v a s) :=
  h.fieldCmd
theorem CanonicalState.execCatch {v : View} {a : Fin 4} (h : CanonicalState s) :
    CanonicalOut (execCatch v a s) :=
  h.wordCmd
theorem CanonicalState.execHandback {v : View} {a : Fin 4} (h : CanonicalState s) :
    CanonicalOut (execHandback v a s) :=
  h.wordCmd
theorem CanonicalState.execForce {v : View} {a : Fin 4} (h : CanonicalState s) :
    CanonicalOut (execForce v a s) :=
  h.wordCmd
theorem CanonicalState.execTripClear {v : View} {n : Fin 9} {data : Word} (h : CanonicalState s) :
    CanonicalOut (execTripClear v n data s) :=
  h.wordCmd
theorem CanonicalState.execSwtrip {v : View} {swg : BitVec 8} (h : CanonicalState s) :
    CanonicalOut (execSwtrip v swg s) :=
  h.wordCmd
theorem CanonicalState.execKrel {v : View} (h : CanonicalState s) : CanonicalOut (execKrel v s) := h.fieldCmd
theorem CanonicalState.execDischargeStart {v : View} (h : CanonicalState s) :
    CanonicalOut (execDischargeStart v s) :=
  h.fieldCmd
theorem CanonicalState.execDischargeStop {v : View} (h : CanonicalState s) :
    CanonicalOut (execDischargeStop v s) :=
  h.fieldCmd
theorem CanonicalState.execTmClear {v : View} {a : Fin 4} {data : Word} (h : CanonicalState s) :
    CanonicalOut (execTmClear v a data s) :=
  h.wordCmd
theorem CanonicalState.execUnlock {v : View} (h : CanonicalState s) : CanonicalOut (execUnlock v s) := h.fieldCmd
theorem CanonicalState.execLock {v : View} (h : CanonicalState s) : CanonicalOut (execLock v s) := h.fieldCmd
theorem CanonicalState.execSetpw {v : View} {slot : BitVec 2} (h : CanonicalState s) :
    CanonicalOut (execSetpw v slot s) :=
  h.wordCmd
theorem CanonicalState.execBrakeTestStart {v : View} (h : CanonicalState s) :
    CanonicalOut (execBrakeTestStart v s) :=
  h.fieldCmd
theorem CanonicalState.execPathTestRequest {v : View} (h : CanonicalState s) :
    CanonicalOut (execPathTestRequest v s) :=
  h.fieldCmd
theorem CanonicalState.execNvmProgram {v : View} (h : CanonicalState s) : CanonicalOut (execNvmProgram v s) :=
  h.wordCmd
theorem CanonicalState.execNvmErase {v : View} (h : CanonicalState s) : CanonicalOut (execNvmErase v s) := h.wordCmd
theorem CanonicalState.execEvtRaise {v : View} {source : BitVec 8} (h : CanonicalState s) :
    CanonicalOut (execEvtRaise v source s) :=
  h.wordCmd
theorem CanonicalState.execReqStand {v : View} (h : CanonicalState s) : CanonicalOut (execReqStand v s) := h.wordCmd
theorem CanonicalState.execReqDrive {v : View} (h : CanonicalState s) : CanonicalOut (execReqDrive v s) := h.wordCmd
theorem CanonicalState.execReqLantern {v : View} (h : CanonicalState s) : CanonicalOut (execReqLantern v s) :=
  h.wordCmd
theorem CanonicalState.execSoftwareWarmReset {v : View} (h : CanonicalState s) :
    CanonicalOut (execSoftwareWarmReset v s) :=
  h.wordCmd
theorem CanonicalState.execSoftwareColdReset {v : View} (h : CanonicalState s) :
    CanonicalOut (execSoftwareColdReset v s) :=
  h.wordCmd
theorem CanonicalState.execHen {v : View} (h : CanonicalState s) : CanonicalOut (execHen v s) := h.fieldCmd
theorem CanonicalState.execAdmissionKeyWrite {v : View} {w : Word} (h : CanonicalState s) :
    CanonicalOut (execAdmissionKeyWrite v w s) :=
  h.wordCmd
theorem CanonicalState.execLaunch {v : View} {data : Word} {m : PortF} (h : CanonicalState s) :
    CanonicalOut (execLaunch v data m s) :=
  h.writeCmd
theorem CanonicalState.execDecl {v : View} {dseat : BitVec 6} (h : CanonicalState s) :
    CanonicalOut (execDecl v dseat s) :=
  h.wordCmd
theorem CanonicalState.execGuardTransmit {v : View} {c : Fin 8} {data : Word} {t : Nat} (h : CanonicalState s) :
    CanonicalOut (execGuardTransmit v c data t s) :=
  h.writeCmd
theorem CanonicalState.execPush {v : View} {n : Fin 4} (h : CanonicalState s) : CanonicalOut (execPush v n s) :=
  h.fieldCmd
theorem CanonicalState.execAbort {v : View} {n : Fin 4} {inTx : Bool} (h : CanonicalState s) :
    CanonicalOut (execAbort v n inTx s) :=
  h.writeCmd
theorem CanonicalState.execCanPop {v : View} {n : Fin 4} {queueB : Bool} {tag : BitVec 8} (h : CanonicalState s) :
    CanonicalOut (execCanPop v n queueB tag s) :=
  h.wordCmd
theorem CanonicalState.execKick {v : View} (h : CanonicalState s) : CanonicalOut (execKick v s) := h.fieldCmd
theorem CanonicalState.execMdioGo {v : View} {data : Word} (h : CanonicalState s) :
    CanonicalOut (execMdioGo v data s) :=
  h.wordCmd

/-- Every command keeps the form. -/
theorem CanonicalState.exec {c : Instr} (h : CanonicalState s) : CanonicalOut (exec c s) := by
  cases c with
  | addSubAndOrXor => exact h.execAddSubAndOrXor
  | sllSrlSra => exact h.execSllSrlSra
  | sltSltu => exact h.execSltSltu
  | minMax => exact h.execMinMax
  | clz => exact h.execClz
  | slliSrliSrai => exact h.execSlliSrliSrai
  | mul => exact h.execMul
  | mulhMulhu => exact h.execMulhMulhu
  | divDivuRemRemu => exact h.execDivDivuRemRemu
  | qaddWQsubW => exact h.execQaddWQsubW
  | qmulW => exact h.execQmulW
  | qaddHQsubH => exact h.execQaddHQsubH
  | qmulH => exact h.execQmulH
  | qnegWQabsW => exact h.execQnegWQabsW
  | qshlW => exact h.execQshlW
  | qrshrW => exact h.execQrshrW
  | qnarrow => exact h.execQnarrow
  | faddFsubFmul => exact h.execFaddFsubFmul
  | fmac => exact h.execFmac
  | fdiv => exact h.execFdiv
  | fsqrt => exact h.execFsqrt
  | fminFmax => exact h.execFminFmax
  | feqFltFle => exact h.execFeqFltFle
  | fabsFneg => exact h.execFabsFneg
  | fcvtWSFcvtSW => exact h.execFcvtWSFcvtSW
  | fcvtQSFcvtSQ => exact h.execFcvtQSFcvtSQ
  | macWMsuW => exact h.execMacWMsuW
  | macHMsuH => exact h.execMacHMsuH
  | aclr => exact h.execAclr
  | ald => exact h.execAld
  | ard => exact h.execArd
  | ashr => exact h.execAshr
  | mfc => exact h.execMfc
  | mtc => exact h.execMtc
  | sysc => exact h.execSysc
  | brk => exact h.execBrk
  | eret => exact h.execEret
  | jalr => exact h.execJalr
  | addi => exact h.execAddi
  | andi => exact h.execAndi
  | ori => exact h.execOri
  | xori => exact h.execXori
  | slti => exact h.execSlti
  | sltiu => exact h.execSltiu
  | lui => exact h.execLui
  | ldbLdbuLdhLdhu => exact h.execLdbLdbuLdhLdhu
  | ldw => exact h.execLdw
  | ldwRot => exact h.execLdwRot
  | ldv => exact h.execLdv
  | stbSth => exact h.execStbSth
  | stw => exact h.execStw
  | stwRot => exact h.execStwRot
  | stv => exact h.execStv
  | branch => exact h.execBranch
  | jal => exact h.execJal
  | vaddVsub => exact h.execVaddVsub
  | vqaddVqsub => exact h.execVqaddVqsub
  | vqmul => exact h.execVqmul
  | vminVmax => exact h.execVminVmax
  | vandVorVxor => exact h.execVandVorVxor
  | vqnegVqabs => exact h.execVqnegVqabs
  | vsra => exact h.execVsra
  | vqrshr => exact h.execVqrshr
  | vqshl => exact h.execVqshl
  | vmac => exact h.execVmac
  | vdot => exact h.execVdot
  | vfaddVfsubVfmul => exact h.execVfaddVfsubVfmul
  | vfmac => exact h.execVfmac
  | vfminVfmax => exact h.execVfminVfmax
  | vfcvtSQVfcvtQS => exact h.execVfcvtSQVfcvtQS
  | vsplat => exact h.execVsplat
  | vins => exact h.execVins
  | vext => exact h.execVext
  | vbcast => exact h.execVbcast
  | vcmplt => exact h.execVcmplt
  | vsel => exact h.execVsel
  | vmov => exact h.execVmov
  | vnarrow => exact h.execVnarrow
  | vwiden => exact h.execVwiden
  | clk => exact h.execClk
  | clkI => exact h.execClkI
  | prk => exact h.execPrk
  | iprk => exact h.execIprk
  | svm => exact h.execSvm
  | atab => exact h.execAtab
  | pia => exact h.execPia
  | rmp => exact h.execRmp
  | sat => exact h.execSat
  | satC => exact h.execSatC
  | commit => exact h.execCommit
  | commitApply => exact h.execCommitApply
  | wev => exact h.execWev
  | wevReturn => exact h.execWevReturn
  | wevTimeout => exact h.execWevTimeout
  | xch => exact h.execXch
  | sig => exact h.execSig
  | fence => exact h.execFence
  | interruptEntry => exact h.execInterruptEntry
  | registerWrite => exact h.execRegisterWrite
  | lixAddrWrite => exact h.execLixAddrWrite
  | lixDataRead => exact h.execLixDataRead
  | lixDataWrite => exact h.execLixDataWrite
  | lixFetchDone => exact h.execLixFetchDone
  | lixTransferDone => exact h.execLixTransferDone
  | waybillProgrammingDone => exact h.execWaybillProgrammingDone
  | seatWordWrite => exact h.execSeatWordWrite
  | valley => exact h.execValley
  | peak => exact h.execPeak
  | compareEdge => exact h.execCompareEdge
  | trigger => exact h.execTrigger
  | commitTimeout => exact h.execCommitTimeout
  | runStart => exact h.execRunStart
  | runStop => exact h.execRunStop
  | axleStart => exact h.execAxleStart
  | periodWrite => exact h.execPeriodWrite
  | compareWrite => exact h.execCompareWrite
  | prdschArm => exact h.execPrdschArm
  | pllTLoss => exact h.execPllTLoss
  | gakTransition => exact h.execGakTransition
  | release => exact h.execRelease
  | ackTimeout => exact h.execAckTimeout
  | asyncDeadTimeExpiry => exact h.execAsyncDeadTimeExpiry
  | delayLineSwap => exact h.execDelayLineSwap
  | bootstrapRefresh => exact h.execBootstrapRefresh
  | bootstrapRefreshEnd => exact h.execBootstrapRefreshEnd
  | readmit => exact h.execReadmit
  | gchRearm => exact h.execGchRearm
  | controlFilterOutput => exact h.execControlFilterOutput
  | protectionFilterOutput => exact h.execProtectionFilterOutput
  | publication => exact h.execPublication
  | suspectRun => exact h.execSuspectRun
  | sdfStall => exact h.execSdfStall
  | sdfCklost => exact h.execSdfCklost
  | sdfRearm => exact h.execSdfRearm
  | sarStart => exact h.execSarStart
  | sarSlotResult => exact h.execSarSlotResult
  | cmpHit => exact h.execCmpHit
  | comparatorRelease => exact h.execComparatorRelease
  | resFlt => exact h.execResFlt
  | encCount => exact h.execEncCount
  | encZ => exact h.execEncZ
  | observerReport => exact h.execObserverReport
  | ttuRearm => exact h.execTtuRearm
  | commutationIndexChange => exact h.execCommutationIndexChange
  | estimatorStep => exact h.execEstimatorStep
  | hysNoconv => exact h.execHysNoconv
  | catch_ => exact h.execCatch
  | autoCatch => exact h.execAutoCatch
  | catchProbe => exact h.execCatchProbe
  | handback => exact h.execHandback
  | force => exact h.execForce
  | tripPin => exact h.execTripPin
  | tripClear => exact h.execTripClear
  | swtrip => exact h.execSwtrip
  | krel => exact h.execKrel
  | selectionEvaluation => exact h.execSelectionEvaluation
  | chopFlt => exact h.execChopFlt
  | dischargeStart => exact h.execDischargeStart
  | dischargeStop => exact h.execDischargeStop
  | disFlt => exact h.execDisFlt
  | torqueMonitorStep => exact h.execTorqueMonitorStep
  | tmClear => exact h.execTmClear
  | unlock => exact h.execUnlock
  | unlockHashDone => exact h.execUnlockHashDone
  | lock => exact h.execLock
  | setpw => exact h.execSetpw
  | brkFlt => exact h.execBrkFlt
  | brakeTestStart => exact h.execBrakeTestStart
  | brakeTestPhaseEnd => exact h.execBrakeTestPhaseEnd
  | signatureVote => exact h.execSignatureVote
  | copyPause => exact h.execCopyPause
  | trkRejoin => exact h.execTrkRejoin
  | pathTest => exact h.execPathTest
  | pathTestDone => exact h.execPathTestDone
  | pathTestRequest => exact h.execPathTestRequest
  | debugAuthentication => exact h.execDebugAuthentication
  | debugHalt => exact h.execDebugHalt
  | debuggerWrite => exact h.execDebuggerWrite
  | singleStep => exact h.execSingleStep
  | debugResume => exact h.execDebugResume
  | migrationDone => exact h.execMigrationDone
  | scrubber => exact h.execScrubber
  | memoryClearDone => exact h.execMemoryClearDone
  | nvmProgram => exact h.execNvmProgram
  | nvmErase => exact h.execNvmErase
  | nvmCommandDone => exact h.execNvmCommandDone
  | bootCheckDone => exact h.execBootCheckDone
  | evtRaise => exact h.execEvtRaise
  | reqStand => exact h.execReqStand
  | reqDrive => exact h.execReqDrive
  | reqLantern => exact h.execReqLantern
  | lanternReached => exact h.execLanternReached
  | wake => exact h.execWake
  | powerUp => exact h.execPowerUp
  | supplyLoss => exact h.execSupplyLoss
  | pfail => exact h.execPfail
  | blackBoxRecordDone => exact h.execBlackBoxRecordDone
  | fastDomainOff => exact h.execFastDomainOff
  | batlow => exact h.execBatlow
  | bklow => exact h.execBklow
  | pmuReg => exact h.execPmuReg
  | lanImgdataWrite => exact h.execLanImgdataWrite
  | lanRun => exact h.execLanRun
  | lanStop => exact h.execLanStop
  | lanMbox => exact h.execLanMbox
  | lanSleep => exact h.execLanSleep
  | lanTimeIncrement => exact h.execLanTimeIncrement
  | x32ok => exact h.execX32ok
  | pmuHuv => exact h.execPmuHuv
  | referenceLoss => exact h.execReferenceLoss
  | holdoverExpiry => exact h.execHoldoverExpiry
  | pllCLoss => exact h.execPllCLoss
  | pllPLoss => exact h.execPllPLoss
  | crystalValid => exact h.execCrystalValid
  | pllLock => exact h.execPllLock
  | porstN => exact h.execPorstN
  | wrstN => exact h.execWrstN
  | softwareWarmReset => exact h.execSoftwareWarmReset
  | softwareColdReset => exact h.execSoftwareColdReset
  | resetRelease => exact h.execResetRelease
  | drayServiceAvailable => exact h.execDrayServiceAvailable
  | coreTestDone => exact h.execCoreTestDone
  | memoryTestDone => exact h.execMemoryTestDone
  | troikaRelease => exact h.execTroikaRelease
  | portUp => exact h.execPortUp
  | portDown => exact h.execPortDown
  | hen => exact h.execHen
  | offer => exact h.execOffer
  | answer => exact h.execAnswer
  | grant => exact h.execGrant
  | admissionKeyWrite => exact h.execAdmissionKeyWrite
  | admissionTimeout => exact h.execAdmissionTimeout
  | advertSend => exact h.execAdvertSend
  | advert => exact h.execAdvert
  | wrFrame => exact h.execWrFrame
  | rdFrame => exact h.execRdFrame
  | ackFrame => exact h.execAckFrame
  | rdrFrame => exact h.execRdrFrame
  | evtFrame => exact h.execEvtFrame
  | msgFrame => exact h.execMsgFrame
  | fwrFrame => exact h.execFwrFrame
  | transactionTimeout => exact h.execTransactionTimeout
  | launch => exact h.execLaunch
  | reassemblyTimeout => exact h.execReassemblyTimeout
  | timeSync => exact h.execTimeSync
  | sync => exact h.execSync
  | detach => exact h.execDetach
  | leaseHeartbeat => exact h.execLeaseHeartbeat
  | lease => exact h.execLease
  | leaseExpiry => exact h.execLeaseExpiry
  | uncpl => exact h.execUncpl
  | decl => exact h.execDecl
  | authorityListenExpiry => exact h.execAuthorityListenExpiry
  | guardDataFrame => exact h.execGuardDataFrame
  | resyncRequestFrame => exact h.execResyncRequestFrame
  | resyncAnswerFrame => exact h.execResyncAnswerFrame
  | resyncRequestSend => exact h.execResyncRequestSend
  | deadlineExpiry => exact h.execDeadlineExpiry
  | windowNarrowing => exact h.execWindowNarrowing
  | guardTransmit => exact h.execGuardTransmit
  | push => exact h.execPush
  | abort => exact h.execAbort
  | canFrameReceived => exact h.execCanFrameReceived
  | txdone => exact h.execTxdone
  | canPop => exact h.execCanPop
  | referenceMessage => exact h.execReferenceMessage
  | busOffRecovery => exact h.execBusOffRecovery
  | ethFrameReceived => exact h.execEthFrameReceived
  | ethFrameSent => exact h.execEthFrameSent
  | kick => exact h.execKick
  | mdioGo => exact h.execMdioGo
  | mdioDone => exact h.execMdioDone
  | ethLinkChange => exact h.execEthLinkChange
  | sensorConversion => exact h.execSensorConversion
  | throttleStepEnd => exact h.execThrottleStepEnd
  | bistSlotStart => exact h.execBistSlotStart
  | bistSliceDone => exact h.execBistSliceDone
  | illegalInstruction => exact h.execIllegalInstruction
  | fetchBusError => exact h.execFetchBusError
  | heldClosingEdge => exact h.execHeldClosingEdge
  | pllSLock => exact h.execPllSLock
  | pllSLoss => exact h.execPllSLoss
  | admissionCheckDone => exact h.execAdmissionCheckDone
  | seatFreed => exact h.execSeatFreed
  | tagHoldEnd => exact h.execTagHoldEnd
  | timeSyncMark => exact h.execTimeSyncMark
  | timeSyncEcho => exact h.execTimeSyncEcho
  | couplerFrameSent => exact h.execCouplerFrameSent
  | canBusError => exact h.execCanBusError
  | lostArbitration => exact h.execLostArbitration
  | brakeTestMotion => exact h.execBrakeTestMotion
  | dragShoeHoldEnd => exact h.execDragShoeHoldEnd
  | supplyGood => exact h.execSupplyGood

theorem CanonicalState.step (h : CanonicalState s) : CanonicalOut (step s) := by
  unfold Machine.step
  split
  · exact .next h
  · exact (h.upd : CanonicalState { s with pending := _ }).exec

/-- Settles O58: whatever command stands at the front of the queue, its answer keeps the form of every store. -/
theorem canonicalFormKept : Obligations.CanonicalFormKept := fun s t h hs =>
  (canonical_iff t).2 (((canonical_iff s).1 h).step t hs)

end Sys2Proof.Proofs
end

section
/-! Branches and jumps (R55, R56): a change of the core's registers that sets the pc itself. -/

namespace Sys2Proof.Proofs

open Sys2Proof Sys2Proof.Machine Sys2Proof.Safety Sys2Proof.Laws

/-- An instruction that gives the core the registers `d` changes nothing else. -/
theorem issue_setCore {h : Hart} {s : State} (hr : Ready h s) {body : State → State} {d : CoreState}
    (hb : body s = s.setCore h d) :
    ∃ t, issue h body s = .next t ∧ OnlyCore h s t ∧ SameRegisters h d (t.core h) := by
  cases h with
  | lantern =>
    refine ⟨_, issue_lantern hr _, ?_⟩
    rw [hb]
    exact ⟨rfl, SameRegisters.refl ..⟩
  | troika =>
    refine ⟨_, issue_troika hr _ (by rw [hb]; exact hr.2), ?_⟩
    obtain ⟨-, hw, ha⟩ := ready_troika hr
    rw [hb]
    exact ⟨by simp [OnlyCore, countCycles_eq, State.setCore, hw, ha], countCycles_core _⟩

theorem writesG_of_sameRegisters {h : Hart} {rd : GReg} {v fl : Word} {c d e : CoreState} (hw : WritesG h rd v fl c d)
    (hs : SameRegisters h d e) : WritesG h rd v fl c e := by
  obtain ⟨wg, wv, wa, wf, wk⟩ := hw
  obtain ⟨-, sg, sv, sa, sx⟩ := hs
  exact ⟨fun r => (sg r).trans (wg r), fun r => (sv r).trans (wv r), fun r => (sa r).trans (wa r),
    (sx cFSTAT fun _ => by decide).trans wf, fun n hn hc => (sx n hc).trans (wk n hn hc)⟩

/-- An instruction of either core that sends the pc to `p` and writes `v` to its link register. -/
theorem common_jump {h : Hart} {s : State} (hr : Ready h s) {rs : List GReg} (hl : lowRegs h rs = true) {rd : GReg}
    {v p : Word} {d : CoreState} {body : State → State} (hb : body s = s.setCore h { d with pc := p })
    (hw : WritesG h rd v 0 (s.core h) d) :
    ∃ t, common h rs body s = .next t ∧ OnlyCore h s t ∧ WritesG h rd v 0 (s.core h) (t.core h) ∧ (t.core h).pc = p := by
  obtain ⟨t, ht, ho, hs⟩ := issue_setCore hr hb
  exact ⟨t, (common_of_lowRegs hl _ s).trans ht, ho, writesG_of_sameRegisters (d := { d with pc := p }) hw hs, hs.1⟩

/-- The conditions of the branches on signed and unsigned values (R57). -/
theorem condVal_eq (c : Cond) (x y : Word) : condVal c x y = match c with
    | .eq => decide (x = y) | .ne => decide (x ≠ y)
    | .lt => decide (x.toInt < y.toInt) | .ge => decide (y.toInt ≤ x.toInt)
    | .ltu => decide (x.toNat < y.toNat) | .geu => decide (y.toNat ≤ x.toNat) := by
  cases c with
  | eq => rfl
  | ne => exact Bool.beq_eq_decide_eq x y ▸ (decide_not ..).symm
  | lt => rfl
  | ge => simp [condVal, BitVec.slt, ← decide_not]
  | ltu => rfl
  | geu => simp [condVal, BitVec.ult, ← decide_not]

theorem branchTarget_eq (c : CoreState) (off : BitVec 16) : branchTarget c off = c.pc + BitVec.ofInt 32 (4 * off.toInt) := by
  have h : off.signExtend 32 = BitVec.ofInt 32 off.toInt := rfl
  rw [branchTarget, h, BitVec.ofInt_mul]
  rfl

/-- A word is on an instruction boundary where it is a multiple of four. -/
theorem and_three_eq_zero {w : Word} (h : w.toNat % 4 = 0) : w &&& 3 = 0 := by
  refine BitVec.eq_of_toNat_eq ?_
  rw [BitVec.toNat_and]
  exact (Nat.and_two_pow_sub_one_eq_mod w.toNat 2).trans h

/-- Settles O4: each sets the pc and its link register alone. -/
theorem controlFlowResults : Obligations.ControlFlowResults := by
  intro h s hr pc
  refine ⟨?_, fun rd off hl => ?_, fun rd rs1 hl ha => ?_⟩
  · intro cond rs1 rs2 off hl x y taken
    have htaken : condVal cond x y = taken := condVal_eq cond x y
    simp only [exec, execBranch]
    refine common_jump hr hl (d := s.core h) ?_ (writesG_none ..)
    change s.setCore h (if condVal cond x y then _ else _) = _
    rw [htaken, branchTarget_eq]
    cases taken <;> rfl
  · simp only [exec, execJal]
    refine common_jump hr hl ?_ (writesG_setG h rd (pc + 4) (s.core h))
    rw [← branchTarget_eq]
    rfl
  · simp only [exec, execJalr]
    refine common_jump hr hl ?_ (writesG_setG h rd (pc + 4) (s.core h))
    simp only [and_three_eq_zero ha, ne_eq, not_true_eq_false, if_false]
    rfl

end Sys2Proof.Proofs
end

section
/-! The binary32 instructions (R54, R57): what a NaN operand gives, and the statement about them. -/

namespace Sys2Proof.Proofs

open Sys2Proof Sys2Proof.Machine Sys2Proof.Safety Sys2Proof.Laws

/-! ### NaN operands (R54) -/

/-- A value that is a NaN, signalling or quiet. -/
theorem eq_nan_of_isNaN {v : FVal} (h : v.isNaN = true) : ∃ sig, v = .nan sig := by
  cases v with
  | nan sig => exact ⟨sig, rfl⟩
  | inf s => cases h
  | fin s m e => cases h

theorem fAddV_nan {u v : FVal} (h : u.isNaN || v.isNaN) : (fAddV u v).1 = qNaN := by
  rcases Bool.or_eq_true _ _ ▸ h with h | h <;> obtain ⟨sig, rfl⟩ := eq_nan_of_isNaN h
  · cases v <;> rfl
  · cases u <;> rfl

theorem fNegV_isNaN (v : FVal) : (fNegV v).isNaN = v.isNaN := by cases v <;> rfl

theorem fMul_nan {x y : Word} (h : (fUnpack x).isNaN || (fUnpack y).isNaN) : (fMul x y).1 = qNaN := by
  unfold fMul
  generalize fUnpack x = u, fUnpack y = v at h ⊢
  rcases Bool.or_eq_true _ _ ▸ h with h | h <;> obtain ⟨sig, rfl⟩ := eq_nan_of_isNaN h
  · cases v <;> rfl
  · cases u <;> rfl

theorem fArith_nan (op : FOp) {x y : Word} (h : (fUnpack x).isNaN || (fUnpack y).isNaN) : (fArith op x y).1 = qNaN := by
  cases op with
  | add => exact fAddV_nan h
  | sub => exact fAddV_nan (by rwa [fNegV_isNaN])
  | mul => exact fMul_nan h

theorem fDivW_nan {x y : Word} (h : (fUnpack x).isNaN || (fUnpack y).isNaN) : (fDivW x y).1 = qNaN := by
  unfold fDivW
  generalize fUnpack x = u, fUnpack y = v at h ⊢
  rcases Bool.or_eq_true _ _ ▸ h with h | h <;> obtain ⟨sig, rfl⟩ := eq_nan_of_isNaN h
  · cases v <;> rfl
  · cases u <;> rfl

theorem fSqrtW_nan {x : Word} (h : (fUnpack x).isNaN) : (fSqrtW x).1 = qNaN := by
  obtain ⟨sig, hs⟩ := eq_nan_of_isNaN h
  rw [fSqrtW, hs]

/-- An infinite or invalid product with a NaN to add is a NaN. -/
theorem fFmaInf_nan (s t zero sig : Bool) (o : FVal) : (fFma.fFmaInf s t zero (.nan sig) o).1 = qNaN := by
  cases zero <;> cases sig <;> rfl

theorem fFma_nan {z x y : Word} (h : (fUnpack x).isNaN || (fUnpack y).isNaN || (fUnpack z).isNaN) :
    (fFma z x y).1 = qNaN := by
  unfold fFma
  generalize fUnpack x = u, fUnpack y = v, fUnpack z = w at h ⊢
  simp only [Bool.or_eq_true] at h
  rcases h with (h | h) | h <;> obtain ⟨sig, rfl⟩ := eq_nan_of_isNaN h
  · rfl
  · cases u <;> rfl
  · cases u with
    | nan _ => rfl
    | inf s => cases v <;> simp [fFmaInf_nan]
    | fin s m e => cases v <;> simp [fFmaInf_nan]

theorem fLtV_nan {u v : FVal} (h : u.isNaN || v.isNaN) : fLtV u v = false := by
  rcases Bool.or_eq_true _ _ ▸ h with h | h <;> obtain ⟨sig, rfl⟩ := eq_nan_of_isNaN h
  · rfl
  · cases u <;> rfl

theorem fEqV_nan {u v : FVal} (h : u.isNaN || v.isNaN) : fEqV u v = false := by
  rcases Bool.or_eq_true _ _ ▸ h with h | h <;> obtain ⟨sig, rfl⟩ := eq_nan_of_isNaN h
  · rfl
  · cases u <;> rfl

theorem fCmpVal_nan (op : FCmp) {x y : Word} (h : (fUnpack x).isNaN || (fUnpack y).isNaN) :
    (fCmpVal op x y).1 = 0 ∧ (op ≠ .eq → (fCmpVal op x y).2 = fNV) := by
  have hlt : fLtV (fUnpack x) (fUnpack y) = false := fLtV_nan h
  have heq : fEqV (fUnpack x) (fUnpack y) = false := fEqV_nan h
  cases op with
  | eq => simp [fCmpVal, fCompare, heq, word, b2n]
  | _ => simp [fCmpVal, fCompare, hlt, heq, h, word, b2n]

theorem fMinMax_nan (mx : Bool) {x y : Word} (h : (fUnpack x).isNaN && (fUnpack y).isNaN) : (fMinMax mx x y).1 = qNaN := by
  simp only [fMinMax, h, if_true]

theorem fMinMax_nan_left (mx : Bool) {x y : Word} (h : (fUnpack x).isNaN && !(fUnpack y).isNaN) :
    (fMinMax mx x y).1 = fFlush y := by
  simp only [Bool.and_eq_true, Bool.not_eq_true'] at h
  simp [fMinMax, h]

theorem fMinMax_nan_right (mx : Bool) {x y : Word} (h : (fUnpack y).isNaN && !(fUnpack x).isNaN) :
    (fMinMax mx x y).1 = fFlush x := by
  simp only [Bool.and_eq_true, Bool.not_eq_true'] at h
  simp [fMinMax, h]

theorem fToInt_nan {x : Word} (h : (fUnpack x).isNaN) : fToInt x = (0, fNV) := by
  obtain ⟨sig, hs⟩ := eq_nan_of_isNaN h
  simp [fToInt, fToFixed, hs]

theorem fToQ_nan {x : Word} (h : (fUnpack x).isNaN) : fToQ x = (0, false, fNV) := by
  obtain ⟨sig, hs⟩ := eq_nan_of_isNaN h
  simp [fToQ, fToFixed, hs]

/-! ### The instructions -/

/-- An instruction that gives rd a binary32 result retires with its value and its flags. -/
theorem issue_setF {s : State} (hr : Ready .troika s) {rd : GReg} {f : CoreState → Word × Word} {r : Word × Word}
    (hf : f (s.core .troika) = r) :
    ∃ t, issue .troika (setF .troika rd f) s = .next t ∧ RetiresG .troika rd r.1 r.2 s t := by
  subst hf
  exact issue_retire_writesG hr (by simp [CoreState.put]) (writesG_put ..)

/-- A conversion to Q1.31 records QSAT beside its binary32 flags. -/
theorem issue_setFQ {s : State} (hr : Ready .troika s) (rd : GReg) (r : Word × Bool × Word) {f : CoreState → CoreState}
    (hf : f (s.core .troika) = ((s.core .troika).flags r.2.2).putQ rd (r.1, r.2.1)) :
    ∃ t, issue .troika (retire .troika f) s = .next t ∧ RetiresG .troika rd r.1 (r.2.2 ||| flagIf r.2.1 32) s t := by
  refine issue_retire_writesG hr (by rw [hf]; simp [CoreState.putQ]) ?_
  rw [hf]
  obtain ⟨wg, wv, wa, wf, wk⟩ := writesG_putQ .troika rd r.1 r.2.1 ((s.core .troika).flags r.2.2)
  refine ⟨fun g => by rw [wg, gr_flags], fun v => by rw [wv, vr_flags], fun a => by rw [wa, ar_flags], ?_,
    fun n hn hc => ?_⟩
  · rw [wf, cx_flags, if_pos rfl, BitVec.or_assoc]
  · rw [wk n hn hc, cx_flags, if_neg hn]

/-- Settles O6: each instruction records its function's value and flags, and a NaN operand gives the quiet NaN. -/
theorem binary32Results : Obligations.Binary32Results := by
  intro s hr rd rs1 rs2 x y z nan
  refine ⟨fun op => ?_, ?_, ?_, ?_, fun mx => ?_, fun op => ?_, ?_, ?_, ?_, ?_, ?_, ?_⟩
  · obtain ⟨t, ht, hret⟩ := issue_setF hr (rd := rd) (f := fun c => fArith op (c.gr rs1) (c.gr rs2)) rfl
    exact ⟨t, _, ht, rfl, fArith_nan op, hret⟩
  · obtain ⟨t, ht, hret⟩ := issue_setF hr (rd := rd) (f := fun c => fFma (c.gr rd) (c.gr rs1) (c.gr rs2)) rfl
    exact ⟨t, _, ht, rfl, fFma_nan, hret⟩
  · obtain ⟨t, ht, hret⟩ := issue_setF hr (rd := rd) (f := fun c => fDivW (c.gr rs1) (c.gr rs2)) rfl
    exact ⟨t, _, ht, rfl, fDivW_nan, hret⟩
  · obtain ⟨t, ht, hret⟩ := issue_setF hr (rd := rd) (f := fun c => fSqrtW (c.gr rs1)) rfl
    exact ⟨t, _, ht, rfl, fSqrtW_nan, hret⟩
  · obtain ⟨t, ht, hret⟩ := issue_setF hr (rd := rd) (f := fun c => fMinMax mx (c.gr rs1) (c.gr rs2)) rfl
    exact ⟨t, _, ht, rfl, fMinMax_nan mx, fMinMax_nan_left mx, fMinMax_nan_right mx, hret⟩
  · obtain ⟨t, ht, hret⟩ := issue_setF hr (rd := rd) (f := fun c => fCmpVal op (c.gr rs1) (c.gr rs2)) rfl
    exact ⟨t, _, ht, rfl, fCmpVal_nan op, hret⟩
  · exact issue_setF hr (r := (_, 0)) rfl
  · exact issue_setF hr (r := (_, 0)) rfl
  · obtain ⟨t, ht, hret⟩ := issue_setF hr (rd := rd) (f := fun c => fToInt (c.gr rs1)) rfl
    exact ⟨t, _, ht, rfl, fToInt_nan, hret⟩
  · obtain ⟨t, ht, hret⟩ := issue_setF hr (rd := rd) (f := fun c => fFromFixed 0 (q31 (c.gr rs1))) rfl
    exact ⟨t, _, ht, rfl, hret⟩
  · obtain ⟨t, ht, hret⟩ := issue_setFQ hr rd (fToQ x) (f := fun c =>
      (c.flags (fToQ (c.gr rs1)).2.2).putQ rd ((fToQ (c.gr rs1)).1, (fToQ (c.gr rs1)).2.1)) rfl
    exact ⟨t, _, ht, rfl, fToQ_nan, hret⟩
  · obtain ⟨t, ht, hret⟩ := issue_setF hr (rd := rd) (f := fun c => fFromFixed 31 (q31 (c.gr rs1))) rfl
    exact ⟨t, _, ht, rfl, hret⟩

end Sys2Proof.Proofs
end

section
/-! The control registers (R49, R50): what MTC leaves in each of them. -/

namespace Sys2Proof.Proofs

open Sys2Proof Sys2Proof.Machine Sys2Proof.Safety Sys2Proof.Laws

/-! ### What a core leaves once an instruction's body has run -/

/-- The state after an issued instruction whose body leaves `u`: on the Troika its cycles are counted. -/
def afterIssue (h : Hart) (u : State) : State := match h with
  | .troika => countCycles u
  | .lantern => u

theorem issue_eq {h : Hart} {s u : State} (hr : Ready h s) {body : State → State} (hb : body s = u)
    (hi : u.troika.imprecise = []) : issue h body s = .next (afterIssue h u) := by
  subst hb
  cases h with
  | troika => exact issue_troika hr body hi
  | lantern => exact issue_lantern hr body

theorem afterIssue_core (h : Hart) (u : State) : SameRegisters h (u.core h) ((afterIssue h u).core h) := by
  cases h with
  | troika => exact countCycles_core u
  | lantern => exact SameRegisters.refl ..

@[simp] theorem afterIssue_mem (h : Hart) (u : State) : (afterIssue h u).mem = u.mem := by
  cases h with
  | troika => exact (countCycles_frame u).1
  | lantern => rfl

@[simp] theorem afterIssue_regs (h : Hart) (u : State) : (afterIssue h u).regs = u.regs := by
  cases h with
  | troika => exact (countCycles_frame u).2.1
  | lantern => rfl

/-! ### MTC -/

/-- A mask over two masked words is one over each of their masks. -/
theorem masked_or_and (v w a b m : Word) : ((v &&& a) ||| (w &&& b)) &&& m = (v &&& (a &&& m)) ||| (w &&& (b &&& m)) := by
  rw [BitVec.and_or_distrib_right, BitVec.and_assoc, BitVec.and_assoc]

/-- MSTAT takes its writable bits and keeps EXC; its other bits are zero (R49). -/
theorem mtcVal_mstat (h : Hart) (old v : Word) :
    mtcVal h 0 old v &&& 0xFFFFFE0C = 0 ∧ mtcVal h 0 old v &&& 0x100 = old &&& 0x100 ∧
      mtcVal h 0 old v &&& 0xF2 = v &&& 0xF2 ∧ (h = .troika → mtcVal h 0 old v &&& 1 = v &&& 1) ∧
      (h = .lantern → mtcVal h 0 old v &&& 1 = 0) := by
  cases h <;> simp [mtcVal, cMSTAT, mstatBits, masked_or_and]

/-- MTC leaves its value in the register that it names, and every other one but the cycle count as it was. -/
theorem cx_mtc (h : Hart) (c : CoreState) (n m : Nat) (v : Word) (hm : h = .troika → m ≠ cCYCLE ∧ m ≠ cCYCLEH)
    (hn : hasCreg h n = true) :
    (c.setC n (mtcVal h n (c.cx n) v)).cx m = if m = n then mtcVal h n (c.cx n) v else c.cx m := by
  by_cases hc : n = cCYCLE ∨ n = cCYCLEH
  · cases h with
    | troika =>
      have hmn : m ≠ n := by rintro rfl; exact hc.elim (hm rfl).1 (hm rfl).2
      simp [CoreState.setC, hc, hmn]
    | lantern => rcases hc with rfl | rfl <;> cases hn
  · exact cx_setC c hc _ m

/-- What MTC leaves before its cycles are counted: the first write of VBASE is noted (R290). -/
def mtcBody (h : Hart) (n : Nat) (r : GReg) (s : State) : State :=
  let t := retire h (fun k => k.setC n (mtcVal h n (k.cx n) (k.gr r))) s
  if h = .troika ∧ n = cVBASE then t.updTrk (fun x => { x with vbaseWritten := true }) else t

theorem mtcBody_frame (h : Hart) (s : State) (n : Nat) (r : GReg) :
    (mtcBody h n r s).core h = ((s.core h).setC n (mtcVal h n ((s.core h).cx n) ((s.core h).gr r))).advance ∧
      (mtcBody h n r s).mem = s.mem ∧ (mtcBody h n r s).regs = s.regs ∧
      (mtcBody h n r s).troika.imprecise = s.troika.imprecise := by
  unfold mtcBody
  split <;> cases h <;> exact ⟨rfl, rfl, rfl, rfl⟩

/-- Settles O7: MFC gives rd the register, and MTC gives the register its writable bits. -/
theorem controlRegisterAccess : Obligations.ControlRegisterAccess := by
  intro h s hr n r hl hn hpass
  have hallowed : ((s.core h).passenger && !passengerCreg n.toNat) = false := by
    cases hp : (s.core h).passenger with
    | false => rfl
    | true => simp [hpass hp]
  constructor
  · have hmfc : exec (.mfc h r n) s = common h [r] (setRd h r (fun k => k.cx n.toNat)) s := by
      simp [exec, execMfc, common, issue, hn, hallowed, hl]
    rw [hmfc]
    exact common_setRd hr hl rfl
  · obtain ⟨hcore, hmem, hregs, himp⟩ := mtcBody_frame h s n.toNat r
    have hmtc : exec (.mtc h n r) s = .next (afterIssue h (mtcBody h n.toNat r s)) := by
      simp only [exec, execMtc, common_of_lowRegs hl]
      refine issue_eq hr ?_ (himp.trans hr.2)
      simp [hn, hallowed, mtcBody]
    obtain ⟨apc, ag, -, -, ax⟩ := afterIssue_core h (mtcBody h n.toNat r s)
    rw [hcore] at apc ag ax
    have hcx : ∀ m, (h = .troika → m ≠ cCYCLE ∧ m ≠ cCYCLEH) → ((afterIssue h (mtcBody h n.toNat r s)).core h).cx m =
        if m = n.toNat then mtcVal h n.toNat ((s.core h).cx n.toNat) ((s.core h).gr r) else (s.core h).cx m :=
      fun m hm => (ax m hm).trans (cx_mtc h _ _ m _ hm hn)
    refine ⟨_, hmtc, apc.trans (by simp [CoreState.advance]), fun g => (ag g).trans (gr_setC ..), fun m hne hm => ?_,
      by simp [hmem], by simp [hregs], ?_⟩
    · rw [hcx m hm, if_neg hne]
    · have hval : ∀ k : BitVec 5, n = k → k.toNat ≠ cCYCLE → k.toNat ≠ cCYCLEH →
          ((afterIssue h (mtcBody h n.toNat r s)).core h).cx n.toNat =
            mtcVal h k.toNat ((s.core h).cx k.toNat) ((s.core h).gr r) := by
        rintro k rfl h7 h8
        rw [hcx _ fun _ => ⟨h7, h8⟩, if_pos rfl]
      refine ⟨fun h0 => ?_, fun hk => hval 1 hk (by decide) (by decide), ?_, fun hk => hval 3 hk (by decide) (by decide),
        fun hk => hval 5 hk (by decide) (by decide), ?_, ?_, fun hk => hval 11 hk (by decide) (by decide)⟩
      · rw [hval 0 h0 (by decide) (by decide)]
        exact mtcVal_mstat h _ _
      · rintro (hk | hk | hk | hk) <;> exact hval _ hk (by decide) (by decide)
      · rintro hk rfl
        exact hval 6 hk (by decide) (by decide)
      · rintro hk rfl
        exact hval 6 hk (by decide) (by decide)

end Sys2Proof.Proofs
end

section
/-! What a raise leaves, for every source (R260 to R262): the pending flag, the flags that it keeps, and the registers that
it does not touch. -/

namespace Sys2Proof.Proofs

open Sys2Proof Sys2Proof.Machine Sys2Proof.Safety Sys2Proof.Laws

/-- The registers that count what happens to events, and the background flag that an event ends. -/
def eventCounter (o : Nat) : Bool :=
  decide (o = EVT_CNT) || decide (o = THM_BG) || decide (o = AXL_CNTS 0) || decide (o = AXL_CNTS 1) ||
    decide (o = AXL_CNTS 2) || decide (o = AXL_CNTS 3)

/-- The registers that a raise may change. -/
def eventRegister (o : Nat) : Bool := eventCounter o || (decide (EVT_PEND 0 ≤ o) && decide (o < EVT_PEND 11))

/-- A step that only reports events: flags of no register but the counters are cleared, and no register changes but those
of the events. -/
structure Reports (s t : State) : Prop where
  events : OnlyEvents s t
  keeps : ∀ o i, i < 24 → eventCounter o = false → (s.rd o).getLsbD i = true → (t.rd o).getLsbD i = true
  rd : ∀ o, eventRegister o = false → t.rd o = s.rd o
  lanBit : ∀ w i, (w = 0 → i ≠ LAN_CTL_SLEEP.lo) → (t.lanW w).getLsbD i = (s.lanW w).getLsbD i
  fwd : t.cpl = { s.cpl with fwdQ := t.cpl.fwdQ }

section
variable {s t u : State}

theorem Reports.refl : Reports s s := ⟨.refl, fun _ _ _ _ h => h, fun _ _ => rfl, fun _ _ _ => rfl, rfl⟩

theorem Reports.trans (h : Reports s t) (h' : Reports t u) : Reports s u :=
  ⟨h.events.trans h'.events, fun o i hi ho hs => h'.keeps o i hi ho (h.keeps o i hi ho hs),
    fun o ho => (h'.rd o ho).trans (h.rd o ho), fun w i hi => (h'.lanBit w i hi).trans (h.lanBit w i hi),
    h'.fwd.trans (by rw [h.fwd])⟩

theorem Reports.ite {c : Prop} [Decidable c] (h : Reports s t) (h' : Reports s u) : Reports s (if c then t else u) := by
  split
  · exact h
  · exact h'

end

variable (s : State)

theorem eventCounter_false {o : Nat} (h : eventCounter o = false) :
    o ≠ EVT_CNT ∧ o ≠ THM_BG ∧ ∀ a < 4, o ≠ AXL_CNTS a := by
  simp only [eventCounter, Bool.or_eq_false_iff, decide_eq_false_iff_not] at h
  obtain ⟨⟨⟨⟨⟨h1, h2⟩, h3⟩, h4⟩, h5⟩, h6⟩ := h
  refine ⟨h1, h2, fun a ha => ?_⟩
  interval_cases a <;> assumption

theorem eventRegister_false {o : Nat} (h : eventRegister o = false) :
    eventCounter o = false ∧ ∀ k < 11, o ≠ EVT_PEND k := by
  simp only [eventRegister, Bool.or_eq_false_iff, Bool.and_eq_false_iff, decide_eq_false_iff_not] at h
  refine ⟨h.1, fun k hk ho => ?_⟩
  have := h.2
  simp only [EVT_PEND] at this ho
  omega

theorem evReserved_div {src : Nat} (h : evReserved src = false) : src / 24 < 11 := by
  by_contra hc
  have : 0xFE ≤ src := by omega
  simp [evReserved, this] at h

theorem wr_reports {o : Nat} (w : Word) (h : eventRegister o = true)
    (hk : eventCounter o = true ∨ ∀ i < 24, (s.rd o).getLsbD i = true → w.getLsbD i = true) : Reports s (s.wr o w) where
  events := wr_onlyEvents ..
  keeps o' i hi ho hs := by
    by_cases he : o' = o
    · subst he
      rw [rd_wr_self]
      exact hk.elim (fun hc => by simp [hc] at ho) fun hk => hk i hi hs
    · rwa [rd_wr_of_ne s _ he]
  rd o' ho := rd_wr_of_ne s _ fun he => by subst he; simp [h] at ho
  lanBit _ _ _ := rfl
  fwd := rfl

theorem eventCounter_register {o : Nat} (h : eventCounter o = true) : eventRegister o = true := by simp [eventRegister, h]

theorem counter_reports {o : Nat} (w : Word) (h : eventCounter o = true) : Reports s (s.wr o w) :=
  wr_reports s w (eventCounter_register h) (.inl h)

theorem sqMask_evPend_reports {k : Nat} (hk : k < 11) (m : Word) : Reports s (s.sqMask (EVT_PEND k) m) :=
  wr_reports s _ (by interval_cases k <;> decide) <| .inr fun i hi h => by
    have := sqMask_keeps_bit s hi (EVT_PEND k) m h
    rwa [State.sqMask, rd_wr_self] at this

theorem wakePend_reports (l : List (Nat × Nat)) : Reports s { s with wakePend := l } :=
  ⟨⟨_, _, _, _, rfl⟩, fun _ _ _ _ h => h, fun _ _ => rfl, fun _ _ _ => rfl, rfl⟩

theorem fwdQ_reports (l : List (Nat × Nat)) : Reports s { s with cpl := { s.cpl with fwdQ := l } } :=
  ⟨⟨_, _, _, _, rfl⟩, fun _ _ _ _ h => h, fun _ _ => rfl, fun _ _ _ => rfl, rfl⟩

/-- What follows the pending flag in a raise. -/
theorem raiseOnce_tail (src : Nat) :
    Reports (s.sqMask (EVT_PEND (src / 24)) (word (2 ^ (src % 24)))) (raiseOnce src s) := by
  unfold raiseOnce
  extract_lets cfg pended overrun woken ended
  have hoverrun : Reports pended overrun := (counter_reports _ _ (by decide)).ite ((wakePend_reports ..).ite .refl)
  have hwoken : Reports overrun woken := (wakePend_reports ..).ite .refl
  have hended : Reports woken ended := (counter_reports _ _ (by decide)).ite .refl
  exact ((hoverrun.trans hwoken).trans hended).trans
    (((counter_reports _ _ (by decide)).ite (fwdQ_reports ..)).ite .refl)

theorem raiseOnce_reports {src : Nat} (h : evReserved src = false) : Reports s (raiseOnce src s) :=
  (sqMask_evPend_reports s (evReserved_div h) _).trans (raiseOnce_tail s src)

theorem wakeLantern_reports : Reports s (wakeLantern s) where
  events := wakeLantern_onlyEvents s
  keeps o i _ _ hs := by rwa [wakeLantern_rd]
  rd o _ := wakeLantern_rd s o
  lanBit w i hi := by
    unfold wakeLantern
    split
    · by_cases hw : w = 0
      · subst hw
        have hout : ¬(LAN_CTL_SLEEP.lo ≤ i ∧ i < LAN_CTL_SLEEP.lo + LAN_CTL_SLEEP.len ∧ i < 32) := by
          have := hi rfl
          simp only [LAN_CTL_SLEEP] at this ⊢
          omega
        simp only [State.setLanF, State.setLanW, State.lanW, mget_mset_self, put_getLsbD, hout, if_false]
      · simp only [State.setLanF, State.setLanW, State.lanW, mget_mset_of_ne _ _ _ hw]
    · rfl
  fwd := by unfold wakeLantern; split <;> rfl

theorem axlCnts_eventCounter {a : Nat} (ha : a < 4) : eventCounter (AXL_CNTS a) = true := by
  interval_cases a <;> decide

theorem evReserved_overrun {src : Nat} (h : src < 0x40) : evReserved (evAxle (src / 16) 11) = false := by
  have : evAxle (src / 16) 11 < 0x40 := by simp only [evAxle]; omega
  generalize evAxle (src / 16) 11 = e at this
  simp only [evReserved]
  simp
  omega

theorem raise_reports (src : Nat) : Reports s (s.raise src) := by
  unfold State.raise
  split
  · exact .refl
  · next h =>
    have he : evReserved src = false := by simp at h; exact h.1
    refine Reports.trans ?_ (wakeLantern_reports _)
    split
    · next hagain =>
      have hlow : src < 0x40 := by simp at hagain; exact hagain.1.2
      exact ((raiseOnce_reports s he).trans (counter_reports _ _ (axlCnts_eventCounter (by omega)))).trans
        (raiseOnce_reports _ (evReserved_overrun hlow))
    · exact raiseOnce_reports s he

/-- The registers that an event leaves alone (R260, R262). -/
theorem raise_rd_apart (src : Nat) {o : Nat} (ho : eventRegister o = false) : (s.raise src).rd o = s.rd o :=
  (raise_reports s src).rd o ho

section
variable {s t : State}

theorem Reports.flag (h : Reports s t) {o : Nat} (f : Fld) (ho : eventRegister o = false) : t.flag o f = s.flag o f :=
  congrArg f.bit (h.rd o ho)

theorem Reports.fld (h : Reports s t) {o : Nat} (f : Fld) (ho : eventRegister o = false) : t.fld o f = s.fld o f :=
  congrArg f.get (h.rd o ho)

/-- A flag outside the counters stays set. -/
theorem Reports.keepsFlag (h : Reports s t) {o : Nat} {f : Fld} (hf : f.lo < 24) (ho : eventCounter o = false)
    (hs : s.flag o f = true) : t.flag o f = true := h.keeps o _ hf ho hs

theorem evPend_not_counter {k : Nat} (hk : k < 11) : eventCounter (EVT_PEND k) = false := by interval_cases k <;> decide

/-- A pending event stays pending. -/
theorem Reports.pending (h : Reports s t) {src : Nat} (he : evReserved src = false) (hs : s.evPending src = true) :
    t.evPending src = true :=
  h.keeps _ _ (Nat.mod_lt _ (by decide)) (evPend_not_counter (evReserved_div he)) hs

end

/-- An event is pending after its raise (R260). -/
theorem raise_pending {src : Nat} (he : evReserved src = false) (ha : s.awake = true) :
    (s.raise src).evPending src = true := by
  have hlt : src % 24 < 24 := Nat.mod_lt _ (by decide)
  have hpended : (s.sqMask (EVT_PEND (src / 24)) (word (2 ^ (src % 24)))).evPending src = true := by
    refine sqMask_sets_bit s hlt ?_
    simp only [word, BitVec.getLsbD_ofNat, Nat.testBit_two_pow_self, Bool.and_true, decide_eq_true_eq]
    omega
  have honce : (raiseOnce src s).evPending src = true :=
    (raiseOnce_tail s src).pending he hpended
  unfold State.raise
  rw [if_neg (by simp [he, ha])]
  refine (wakeLantern_reports _).pending he ?_
  split
  · next hagain =>
    have hlow : src < 0x40 := by simp at hagain; exact hagain.1.2
    exact ((counter_reports _ _ (axlCnts_eventCounter (by omega))).trans
      (raiseOnce_reports _ (evReserved_overrun hlow))).pending he honce
  · exact honce

/-- A flag of an event is set and the event pending (R35, R260). -/
theorem sq_raise_noted {src o : Nat} {f : Fld} (he : evReserved src = false) (ha : s.awake = true) (hf : f.lo < 24)
    (hl : 0 < f.len) (ho : eventCounter o = false) :
    ((s.sq o f).raise src).flag o f = true ∧ ((s.sq o f).raise src).evPending src = true :=
  ⟨(raise_reports _ src).keepsFlag hf ho (flag_sq_self s o f hf hl),
    raise_pending _ he ((sq_onlyEvents s o f).awake.trans ha)⟩

/-! ### The black box (R383) -/

/-- A capture changes the Lantern domain alone. -/
theorem capture_frame (kind src : Nat) : capture kind src s = { s with lan := (capture kind src s).lan } := by
  unfold capture
  split <;> rfl

@[simp] theorem capture_regs (kind src : Nat) : (capture kind src s).regs = s.regs := by rw [capture_frame]
@[simp] theorem capture_rd (kind src o : Nat) : (capture kind src s).rd o = s.rd o := by rw [capture_frame]; rfl
@[simp] theorem capture_flag (kind src o : Nat) (f : Fld) : (capture kind src s).flag o f = s.flag o f := by
  rw [capture_frame]; rfl
@[simp] theorem capture_evPending (kind src e : Nat) : (capture kind src s).evPending e = s.evPending e := by
  rw [capture_frame]; rfl
@[simp] theorem capture_troika (kind src : Nat) : (capture kind src s).troika = s.troika := by rw [capture_frame]
@[simp] theorem capture_mem (kind src : Nat) : (capture kind src s).mem = s.mem := by rw [capture_frame]
@[simp] theorem capture_awake (kind src : Nat) : (capture kind src s).awake = s.awake := by rw [capture_frame]; rfl

end Sys2Proof.Proofs
end

section
/-! Exceptions and double faults (R63 to R65, R69): what an entry leaves in the core, and the statements about it. -/

namespace Sys2Proof.Proofs

open Sys2Proof Sys2Proof.Machine Sys2Proof.Safety Sys2Proof.Laws

/-! ### What an entry leaves in the core -/

/-- The core has entered a handler with a cause, its return address and the address of the access, and holds its other
registers as they were. -/
def HandlerEntry (cause epc eaddr : Word) (c d : CoreState) : Prop :=
  d.cx cESTAT = c.cx cMSTAT ∧ d.cx cEPC = epc ∧ d.cx cECAUSE = cause ∧ d.cx cEADDR = eaddr ∧
    d.cx cMSTAT = (c.cx cMSTAT &&& 0xFFFFFFFC) ||| 0x100 ∧ d.pc = c.cx cVBASE ∧ d.cx cVBASE = c.cx cVBASE ∧
    (∀ r, d.gr r = c.gr r) ∧ (∀ r, d.vr r = c.vr r) ∧ (∀ r, d.ar r = c.ar r) ∧ d.cx cFSTAT = c.cx cFSTAT

/-- A bit that is set afterwards need not be masked before. -/
theorem and_or_congr {b M N : Word} (h : M ||| b = N ||| b) (m : Word) : (m &&& M) ||| b = (m &&& N) ||| b := by
  ext i hi
  have hbit := congrArg (fun w : Word => w[i]) h
  simp only [BitVec.getElem_or, BitVec.getElem_and] at hbit ⊢
  cases m[i] <;> simp_all

/-- The status of a handler: Coachman mode, interrupts disabled, and EXC set. -/
theorem handler_status (m : Word) :
    MSTAT_IE.put (MSTAT_MODE.put (MSTAT_EXC.put m 1) 0) 0 = (m &&& 0xFFFFFFFC) ||| 0x100 :=
  calc MSTAT_IE.put (MSTAT_MODE.put (MSTAT_EXC.put m 1) 0) 0
    _ = ((((m &&& 0xFFFFFEFF) ||| 0x100) &&& 0xFFFFFFFE ||| 0) &&& 0xFFFFFFFD) ||| 0 := rfl
    _ = (m &&& 0xFFFFFEFC) ||| 0x100 := by simp [BitVec.and_or_distrib_right, BitVec.and_assoc]
    _ = (m &&& 0xFFFFFFFC) ||| 0x100 := and_or_congr (by decide) m

theorem enterCore_handlerEntry (c : CoreState) (epc cause eaddr : Word) :
    HandlerEntry cause epc eaddr c (enterCore c (MSTAT_EXC.put (c.cx cMSTAT) 1) epc cause eaddr 0) := by
  have hv : (c.setC cESTAT (c.cx cMSTAT)).cx cVBASE = c.cx cVBASE := cx_setC c (by decide) _ _
  refine ⟨cx_enterCore .., cx_enterCore .., cx_enterCore .., cx_enterCore .., ?_, ?_, ?_, fun r => ?_, fun r => ?_,
    fun r => ?_, cx_enterCore ..⟩
  · exact (cx_enterCore ..).trans (handler_status _)
  · exact (BitVec.add_zero _).trans hv
  · exact cx_enterCore ..
  · exact (gr_setC ..).trans (by simp)
  · exact (vr_setC ..).trans (by simp)
  · exact (ar_setC ..).trans (by simp)

theorem HandlerEntry.of_sameRegisters {h : Hart} {cause epc eaddr : Word} {c d e : CoreState}
    (he : HandlerEntry cause epc eaddr c d) (hs : SameRegisters h d e) : HandlerEntry cause epc eaddr c e := by
  obtain ⟨hes, hepc, hc, ha, hm, hpc, hv, hg, hvr, har, hf⟩ := he
  obtain ⟨spc, sg, sv, sa, sx⟩ := hs
  exact ⟨(sx _ fun _ => by decide).trans hes, (sx _ fun _ => by decide).trans hepc, (sx _ fun _ => by decide).trans hc,
    (sx _ fun _ => by decide).trans ha, (sx _ fun _ => by decide).trans hm, spc.trans hpc,
    (sx _ fun _ => by decide).trans hv, fun r => (sg r).trans (hg r), fun r => (sv r).trans (hvr r),
    fun r => (sa r).trans (har r), (sx _ fun _ => by decide).trans hf⟩

/-! ### An instruction that ends in a handler -/

theorem enterException_eq {h : Hart} {s : State} (hm : MayTrap h s) (cause eaddr epc : Word) :
    enterException h cause eaddr epc s =
      s.setCore h (enterCore (s.core h) (MSTAT_EXC.put ((s.core h).cx cMSTAT) 1) epc cause eaddr 0) := by
  have hv : ¬(h = .troika ∧ s.troika.vbaseWritten = false) := fun ⟨hh, hf⟩ => by simp [hm.2 hh] at hf
  simp [enterException, hm.1, hv]

theorem enterException_frame {h : Hart} {s : State} (hm : MayTrap h s) (cause eaddr epc : Word) :
    let t := enterException h cause eaddr epc s
    HandlerEntry cause epc eaddr (s.core h) (t.core h) ∧ t.troika.imprecise = s.troika.imprecise ∧ t.mem = s.mem ∧
      t.regs = s.regs := by
  obtain ⟨-, himp, hmem, hregs, -, -⟩ := setCore_frame s h
    (enterCore (s.core h) (MSTAT_EXC.put ((s.core h).cx cMSTAT) 1) epc cause eaddr 0)
  rw [enterException_eq hm]
  exact ⟨by rw [core_setCore]; exact enterCore_handlerEntry .., himp, hmem, hregs⟩

/-- An instruction whose body leaves an entry made in the state `u`, where a value may be drawn. -/
theorem issue_enters {h : Hart} {s u : State} (hr : Ready h s) (hm : MayTrap h u) (hi : u.troika.imprecise = [])
    {cause eaddr epc : Word} {n : Nat} {body : State → State}
    (hb : body s = (enterException h cause eaddr epc u).drew n) :
    ∃ t, issue h body s = .next t ∧ HandlerEntry cause epc eaddr (u.core h) (t.core h) ∧ t.mem = u.mem ∧
      t.regs = u.regs := by
  obtain ⟨he, himp, hmem, hregs⟩ := enterException_frame hm cause eaddr epc
  have hcore : ((enterException h cause eaddr epc u).drew n).core h = (enterException h cause eaddr epc u).core h := by
    cases h <;> rfl
  refine ⟨_, issue_eq hr hb (himp.trans hi), ?_, ?_, ?_⟩
  · exact (hcore ▸ he).of_sameRegisters (afterIssue_core ..)
  · rw [afterIssue_mem]; exact hmem
  · rw [afterIssue_regs]; exact hregs

/-- SLOT is bit 8 of ECAUSE: below it stands the code. -/
theorem HandlerEntry.code {code : Nat} {h : Hart} {k : Nat} {epc eaddr : Word} {c d : CoreState}
    (he : HandlerEntry (ecauseWord h code k) epc eaddr c d) (hc : code < 16) :
    d.cx cECAUSE &&& 0xFFFFFEFF = word code := by
  rw [he.2.2.1]
  exact ecauseWord_code hc h k

/-- A fail in the state `u` as an entry at its own pc. -/
theorem issue_fail_enters {h : Hart} {s u : State} (hr : Ready h s) (hm : MayTrap h u) (hi : u.troika.imprecise = [])
    {code : Nat} {eaddr : Word} {body : State → State} (hb : body s = fail h code eaddr u) :
    ∃ t, issue h body s = .next t ∧
      HandlerEntry (ecauseWord h code u.draws) (u.core h).pc eaddr (u.core h) (t.core h) ∧ t.mem = u.mem ∧
        t.regs = u.regs := issue_enters hr hm hi hb

/-- What a fetch leaves before it traps: an uncorrectable one of the Troika is counted (R251). -/
def fetchNoted (h : Hart) (unc : Bool) (s : State) : State :=
  onlyIf (unc && decide (h = .troika)) (noteEcc true (s.core h).pc.toNat) s

theorem fetchNoted_core (h : Hart) (unc : Bool) (s : State) :
    (fetchNoted h unc s).core h = s.core h ∧ (fetchNoted h unc s).mem = s.mem ∧
      (h = .lantern ∨ unc = false → fetchNoted h unc s = s) := by
  cases h
  · cases unc
    · exact ⟨rfl, rfl, fun _ => rfl⟩
    · have ho := noteEcc_true_onlyEvents s (s.core .troika).pc.toNat
      exact ⟨ho.core, ho.mem, fun hc => by simp at hc⟩
  · cases unc <;> exact ⟨rfl, rfl, fun _ => rfl⟩

theorem fetchNoted_mayTrap {h : Hart} {s : State} (hm : MayTrap h s) (unc : Bool) : MayTrap h (fetchNoted h unc s) := by
  cases h with
  | lantern => rwa [(fetchNoted_core .lantern unc s).2.2 (.inl rfl)]
  | troika => cases unc with
    | false => exact hm
    | true => exact mayTrap_of_onlyEvents (noteEcc_true_onlyEvents ..) hm

theorem fetchNoted_imprecise (h : Hart) (unc : Bool) (s : State) :
    (fetchNoted h unc s).troika.imprecise = s.troika.imprecise := by
  cases h with
  | lantern => rw [(fetchNoted_core .lantern unc s).2.2 (.inl rfl)]
  | troika => cases unc with
    | false => rfl
    | true => exact congrArg Troika.imprecise (noteEcc_true_onlyEvents ..).troika

/-- A fetch error traps at the pc. -/
theorem fetchBusError_enters {h : Hart} {s : State} (hr : Ready h s) (hm : MayTrap h s) (unc : Bool) :
    ∃ t k, exec (.fetchBusError h unc) s = .next t ∧
      HandlerEntry (ecauseWord h 4 k) (s.core h).pc (s.core h).pc (s.core h) (t.core h) ∧ t.mem = s.mem ∧
        t.regs = (fetchNoted h unc s).regs := by
  obtain ⟨hcore, hmem, -⟩ := fetchNoted_core h unc s
  obtain ⟨t, ht, he, hmem', hregs⟩ := issue_fail_enters hr (fetchNoted_mayTrap hm unc)
    ((fetchNoted_imprecise ..).trans hr.2) (body := fun s => fail h 4 (s.core h).pc (fetchNoted h unc s)) rfl
  rw [hcore] at he
  exact ⟨t, _, ht, he, hmem'.trans hmem, hregs⟩

/-- Outside the issue slots SLOT is 0. -/
theorem ecauseIn_false (h : Hart) (code : Nat) : ecauseIn h code false = word code := by cases h <;> rfl

/-- SYSC and BRK return to the next instruction. -/
theorem issue_takeAlone {h : Hart} {s : State} (hr : Ready h s) (hm : MayTrap h s) {code : Nat} {body : State → State}
    (hb : body s = takeAlone h code 0 ((s.core h).pc + 4) s) :
    ∃ t, issue h body s = .next t ∧ HandlerEntry (word code) ((s.core h).pc + 4) 0 (s.core h) (t.core h) ∧
      t.mem = s.mem ∧ t.regs = s.regs :=
  issue_enters (n := 0) hr hm hr.2 (by rw [hb, takeAlone, ecauseIn_false]; rfl)

theorem mod_four_of_and_three {w : Word} (h : w &&& 3 = 0) : w.toNat % 4 = 0 := by
  have := congrArg BitVec.toNat h
  rw [BitVec.toNat_and] at this
  exact (Nat.and_two_pow_sub_one_eq_mod w.toNat 2).symm.trans this

/-! ### The statement about entries -/

theorem exceptionEntry : Rules.ExceptionEntry := by
  intro h s hr hexc hvb c enters
  have hm : MayTrap h s := ⟨hexc, hvb⟩
  have entered : ∀ {t : State} {code cause : Word} {epc eaddr : Word}, HandlerEntry cause epc eaddr c (t.core h) →
      cause &&& 0xFFFFFEFF = code → t.mem = s.mem → enters code epc eaddr t := by
    intro t code cause epc eaddr ⟨hes, hepc, hc, ha, hms, hpc, hv, hg, hvr, har, hf⟩ hcode hmem
    exact ⟨hes, hepc, by rw [hc, hcode], ha, hms, hpc, hv, hg, hvr, har, hf, hmem⟩
  have slot : ∀ {code : Nat} (k : Nat), code < 16 → ecauseWord h code k &&& 0xFFFFFEFF = word code :=
    fun k hc => ecauseWord_code hc h k
  refine ⟨?sysc, fun hbrk => ?brk, fun w => ⟨fun hw => ?illegal, fun hw => ?legal⟩, ?fetch, ?ecc, fun rd rs1 hl ha => ?jalr⟩
  case sysc =>
    obtain ⟨t, ht, he, hmem, hregs⟩ :=
      issue_takeAlone hr hm (code := 0x0B) (body := fun s => takeAlone h 0x0B 0 ((s.core h).pc + 4) s) rfl
    exact ⟨t, ht, entered he (by decide) hmem, he.2.2.1, hregs⟩
  case brk =>
    obtain ⟨t, ht, he, hmem, hregs⟩ := issue_takeAlone hr hm (code := 0x0C)
      (body := fun s => if h = .troika ∧ s.brkHalts then
          let s := retire h id s
          if s.flag TRK_STAT TRK_STAT_HALT then s else syncStretches (haltCores s)
        else takeAlone h 0x0C 0 ((s.core h).pc + 4) s) (if_neg fun ⟨hh, hf⟩ => by simp [hbrk hh] at hf)
    exact ⟨t, ht, entered he (by decide) hmem, he.2.2.1, hregs⟩
  case illegal =>
    obtain ⟨t, ht, he, hmem, hregs⟩ := issue_fail_enters hr hm hr.2 (body := illegal h) rfl
    refine ⟨t, ?_, entered he (slot _ (by decide)) hmem, hregs⟩
    simp only [exec, execIllegalInstruction, hw]
    exact ht
  case legal =>
    simp only [exec, execIllegalInstruction]
    exact if_pos (Option.isSome_iff_ne_none.mpr hw)
  case fetch =>
    obtain ⟨t, k, ht, he, hmem, hregs⟩ := fetchBusError_enters hr hm false
    exact ⟨t, ht, entered he (slot _ (by decide)) hmem, hregs⟩
  case ecc =>
    obtain ⟨t, k, ht, he, hmem, hregs⟩ := fetchBusError_enters hr hm true
    refine ⟨t, ht, entered he (slot _ (by decide)) hmem, ?_, ?_⟩
    · rintro rfl
      have hue : UeReported t := (noteEcc_true_reports s c.pc.toNat (ready_troika hr).1).of_regs hregs
      exact hue.1
    · rintro rfl
      rwa [(fetchNoted_core .lantern true s).2.2 (.inl rfl)] at hregs
  case jalr =>
    have hmis : c.gr rs1 &&& 3 ≠ 0 := fun hz => ha (mod_four_of_and_three hz)
    obtain ⟨t, ht, he, hmem, hregs⟩ := issue_fail_enters hr hm hr.2 (code := 3) (eaddr := c.gr rs1)
      (body := fun s => if ((s.core h).gr rs1) &&& 3 ≠ 0 then fail h 0x03 ((s.core h).gr rs1) s
        else s.updCore h (fun c => { c.setG rd (c.pc + 4) with pc := (s.core h).gr rs1 })) (if_pos hmis)
    exact ⟨t, (common_of_lowRegs hl _ s).trans ht, entered he (slot _ (by decide)) hmem, hregs⟩

/-! ### Double faults -/

/-- A stopped Troika issues nothing (R240). -/
theorem not_issues_of_stop {s : State} (h : s.flag TRK_STAT TRK_STAT_STOP = true) : s.issues .troika = false := by
  have hs : TRK_STAT_STOP.bit (s.rd TRK_STAT) = true := h
  simp [State.issues, State.trkIssues, hs]

/-- A stop of the Troika sets STOP and raises TRK_FATAL; other flags and events that are there stay (R240). -/
theorem trkStop_stops {s : State} (ha : s.awake = true) :
    (trkStop s).flag TRK_STAT TRK_STAT_STOP = true ∧ (trkStop s).evPending TRK_FATAL = true := by
  have hawake : (stopIssue s).awake = true := ha
  simp only [trkStop, capture_flag, capture_evPending]
  refine ⟨?_, raise_pending _ (by decide) hawake⟩
  exact (raise_reports _ _).keepsFlag (by decide) (by decide) (flag_setFlag_self s _ _ true (by decide) (by decide))

theorem stopIssue_keeps {s : State} {o i : Nat} (h : (s.rd o).getLsbD i = true) :
    ((stopIssue s).rd o).getLsbD i = true := by
  by_cases ho : o = TRK_STAT
  · subst ho
    simp only [stopIssue, State.setFlag, State.setFld, rd_wr_self, put_getLsbD]
    split
    · next hi =>
      have : i - TRK_STAT_STOP.lo = 0 := by simp only [TRK_STAT_STOP] at hi ⊢; omega
      rw [this]
      rfl
    · exact h
  · rwa [stopIssue, State.setFlag, State.setFld, rd_wr_of_ne s _ ho]

theorem trkStop_keeps {s : State} {o i : Nat} (hi : i < 24) (ho : eventCounter o = false)
    (h : (s.rd o).getLsbD i = true) : ((trkStop s).rd o).getLsbD i = true := by
  rw [trkStop, capture_rd]
  exact (raise_reports _ _).keeps o i hi ho (stopIssue_keeps h)

/-- A double fault of the Troika sets DFLT and stops it, with both events (R65, R240). -/
theorem doubleFault_troika {s : State} (ha : s.awake = true) :
    let t := doubleFault .troika s
    t.flag TRK_STAT TRK_STAT_STOP = true ∧ t.flag TRK_STAT TRK_STAT_DFLT = true ∧ t.evPending TRK_DFLT = true ∧
      t.evPending TRK_FATAL = true := by
  obtain ⟨hflag, hpend⟩ := sq_raise_noted s (src := TRK_DFLT) (o := TRK_STAT) (f := TRK_STAT_DFLT) (by decide) ha
    (by decide) (by decide) (by decide)
  obtain ⟨hstop, hfatal⟩ := trkStop_stops (((sq_onlyEvents s TRK_STAT TRK_STAT_DFLT).trans (raise_onlyEvents _ TRK_DFLT)).awake.trans ha)
  exact ⟨hstop, trkStop_keeps (by decide) (by decide) hflag, trkStop_keeps (by decide) (by decide) hpend, hfatal⟩

theorem doubleFault_imprecise (h : Hart) (s : State) : (doubleFault h s).troika.imprecise = s.troika.imprecise := by
  cases h with
  | troika =>
    simp only [doubleFault, trkStop, stopIssue, capture_troika, (raise_onlyEvents _ _).troika, setFlag_troika, sq_troika]
  | lantern => exact congrArg Troika.imprecise (raise_onlyEvents _ _).troika

theorem doubleFaultStops : Rules.DoubleFaultStops := by
  intro h s hr hexc
  have hbody : takeAlone h 0x0B 0 ((s.core h).pc + 4) s = doubleFault h s := by
    simp [takeAlone, enterException, hexc]
  refine ⟨_, issue_eq hr hbody ((doubleFault_imprecise h s).trans hr.2), ?_⟩
  cases h with
  | troika =>
    have ha := (ready_troika hr).1
    have hrd : ∀ o, (afterIssue .troika (doubleFault .troika s)).rd o = (doubleFault .troika s).rd o := fun o => by
      simp only [State.rd, afterIssue_regs]
    obtain ⟨hstop, hdflt, hpend, hfatal⟩ := doubleFault_troika ha
    simp only [State.flag, State.evPending, ← hrd] at hstop hdflt hpend hfatal
    exact ⟨not_issues_of_stop hstop, fun _ => ⟨hstop, hdflt, hpend, hfatal⟩, nofun⟩
  | lantern =>
    have hrun : LAN_CTL_RUN.bit ((doubleFault .lantern s).lanW 0) = false := by
      refine ((raise_reports _ LAN_DFLT).lanBit 0 LAN_CTL_RUN.lo (by decide)).trans ?_
      simp only [State.setLanF, State.setLanW, State.lanW, mget_mset_self]
      exact bit_put_self LAN_CTL_RUN _ 0 (by decide) (by decide)
    refine ⟨?_, nofun, fun _ => ⟨hrun, fun ha => raise_pending _ (by decide) ha⟩⟩
    simp [State.issues, State.lanIssues, afterIssue, hrun]

/-- Settles O8: SYSC, BRK, illegal words, fetch errors and a misaligned JALR enter the handler; an exception in a handler
stops the core. -/
theorem exceptionTaken : Obligations.ExceptionTaken := ⟨exceptionEntry, doubleFaultStops⟩

end Sys2Proof.Proofs
end

section
/-! The return and the interrupt (R47, R64, R66, R271). -/

namespace Sys2Proof.Proofs

open Sys2Proof Sys2Proof.Machine Sys2Proof.Safety Sys2Proof.Laws

/-! ### ERET -/

theorem returnCore_cx (h : Hart) (c : CoreState) (n : Nat) :
    (returnCore h c).cx n = if n = cMSTAT then c.cx cESTAT &&& mstatBits h else c.cx n := cx_setC c (by decide) _ n

theorem returnFromException : Rules.ReturnFromException := by
  intro h s hr hp
  have hbody : (if (s.core h).passenger then failAlone h 0x02 0 s else s.updCore h (returnCore h)) =
      s.setCore h (returnCore h (s.core h)) := if_neg (by simp [hp])
  obtain ⟨t, ht, ho, spc, sg, sv, sa, sx⟩ := issue_setCore hr
    (body := fun s => if (s.core h).passenger then failAlone h 0x02 0 s else s.updCore h (returnCore h)) hbody
  refine ⟨t, ht, ho, spc, ?_, fun r => (sg r).trans (gr_setC ..), fun r => (sv r).trans (vr_setC ..),
    fun r => (sa r).trans (ar_setC ..), fun n hn hc => ?_⟩
  · rw [sx cMSTAT fun _ => by decide, returnCore_cx, if_pos rfl]
  · rw [sx n hc, returnCore_cx, if_neg hn]

/-! ### Interrupts -/

/-- A bit outside a field that is replaced. -/
theorem bit_put_apart {f g : Fld} (h : ¬(f.lo ≤ g.lo ∧ g.lo < f.lo + f.len ∧ g.lo < 32)) (w : Word) (n : Nat) :
    g.bit (f.put w n) = g.bit w := (put_getLsbD f w n g.lo).trans (if_neg h)

/-- The status of an interrupt's handler: its level, interrupts disabled, Coachman mode, and EXC as it was. -/
theorem interrupt_status (m : Word) (lvl : Nat) :
    let w := MSTAT_IE.put (MSTAT_MODE.put (MSTAT_IPL.put m lvl) 0) 0
    MSTAT_IPL.get w = lvl % 16 ∧ MSTAT_IE.bit w = false ∧ MSTAT_MODE.bit w = false ∧
      MSTAT_EXC.bit w = MSTAT_EXC.bit m := by
  refine ⟨?_, bit_put_self MSTAT_IE _ 0 (by decide) (by decide), ?_, ?_⟩
  · rw [get_put_apart MSTAT_IE MSTAT_IPL _ _ (.inl (by decide)), get_put_apart MSTAT_MODE MSTAT_IPL _ _ (.inl (by decide)),
      get_put_self MSTAT_IPL _ _ (by decide)]
    rfl
  · rw [bit_put_apart (by decide), bit_put_self MSTAT_MODE _ 0 (by decide) (by decide)]
    rfl
  · rw [bit_put_apart (by decide), bit_put_apart (by decide), bit_put_apart (by decide)]

/-- A core that takes an interrupt of a level. -/
def InterruptTaken (lvl : Nat) (c d : CoreState) : Prop :=
  d.cx cESTAT = c.cx cMSTAT ∧ d.cx cEPC = c.pc ∧ d.cx cECAUSE = BitVec.ofNat 32 (2 ^ 31 + lvl) ∧ d.cx cEADDR = 0 ∧
    MSTAT_IPL.get (d.cx cMSTAT) = lvl % 16 ∧ MSTAT_IE.bit (d.cx cMSTAT) = false ∧ d.passenger = false ∧
    MSTAT_EXC.bit (d.cx cMSTAT) = MSTAT_EXC.bit (c.cx cMSTAT) ∧
    d.pc = c.cx cVBASE + BitVec.ofNat 32 (0x100 + 0x20 * lvl) ∧ ∀ r, d.gr r = c.gr r

theorem enterCore_interruptTaken (c : CoreState) (lvl : Nat) :
    InterruptTaken lvl c (enterCore c (MSTAT_IPL.put (c.cx cMSTAT) lvl) c.pc (word (2 ^ 31 + lvl)) 0
      (0x100 + 0x20 * lvl)) := by
  have hstat : (enterCore c (MSTAT_IPL.put (c.cx cMSTAT) lvl) c.pc (word (2 ^ 31 + lvl)) 0 (0x100 + 0x20 * lvl)).cx cMSTAT
      = MSTAT_IE.put (MSTAT_MODE.put (MSTAT_IPL.put (c.cx cMSTAT) lvl) 0) 0 := cx_enterCore ..
  have hvbase : (c.setC cESTAT (c.cx cMSTAT)).cx cVBASE = c.cx cVBASE := cx_setC c (by decide) _ _
  obtain ⟨hipl, hie, hmode, hexc⟩ := interrupt_status (c.cx cMSTAT) lvl
  rw [← hstat] at hipl hie hmode hexc
  refine ⟨cx_enterCore .., cx_enterCore .., cx_enterCore .., cx_enterCore .., hipl, hie, hmode, hexc, ?_, fun r => ?_⟩
  · exact congrArg (· + word (0x100 + 0x20 * lvl)) hvbase
  · exact (gr_setC ..).trans (by simp)

theorem takeInterrupt_taken (h : Hart) (lvl : Nat) (s : State) :
    InterruptTaken lvl (s.core h) ((takeInterrupt h lvl s).core h) := by
  rw [takeInterrupt, core_setCore]
  exact enterCore_interruptTaken ..

theorem takeInterrupt_frame (h : Hart) (lvl : Nat) (s : State) :
    (takeInterrupt h lvl s).mem = s.mem ∧ (takeInterrupt h lvl s).regs = s.regs := by
  obtain ⟨-, -, hmem, hregs, -⟩ := setCore_frame s h (enterCore (s.core h) (MSTAT_IPL.put ((s.core h).cx cMSTAT) lvl)
    (s.core h).pc (word (2 ^ 31 + lvl)) 0 (0x100 + 0x20 * lvl))
  exact ⟨hmem, hregs⟩

/-- The Troika takes a request above its level (R66). -/
theorem exec_interruptEntry_troika {s : State} {lvl src : Nat} (hres : s.trkResumes = true)
    (hhalt : s.flag TRK_STAT TRK_STAT_HALT = false) (hload : ∀ tag rt rot, s.troika.wait ≠ .load tag rt rot)
    (hreq : s.intRequest = some (lvl, src)) (hie : MSTAT_IE.bit (s.troika.core.cx cMSTAT) = true)
    (hipl : MSTAT_IPL.get (s.troika.core.cx cMSTAT) < lvl) :
    exec (.interruptEntry .troika) s = .next (takeInterrupt .troika lvl (s.updTrk (fun t => { t with wait := .none }))) := by
  have hrunning : (s.awake && s.troika.released && !TRK_STAT_STOP.bit (s.rd TRK_STAT) &&
      !TRK_STAT_RESYNC.bit (s.rd TRK_STAT) && !s.troika.heldAccess) = true := by
    simp only [State.trkResumes, State.trkIssues, Bool.and_eq_true] at hres ⊢
    obtain ⟨⟨⟨⟨⟨⟨ha, hr⟩, hs⟩, hy⟩, -⟩, -⟩, hh⟩ := hres
    exact ⟨⟨⟨⟨ha, hr⟩, hs⟩, hy⟩, hh⟩
  have hhalt' : TRK_STAT_HALT.bit (s.rd TRK_STAT) = false := hhalt
  have hwait : (match s.troika.wait with | .load _ _ _ => false | _ => true) = true := by
    split
    · next hw => exact absurd hw (hload _ _ _)
    · rfl
  simp only [exec, execInterruptEntry, hreq]
  refine if_pos ?_
  simp only [Bool.and_eq_true] at hrunning ⊢
  obtain ⟨⟨⟨⟨ha, hr⟩, hs⟩, hy⟩, hh⟩ := hrunning
  exact ⟨⟨⟨⟨⟨⟨⟨⟨ha, hr⟩, hs⟩, hy⟩, by simp [hhalt']⟩, hh⟩, hie⟩, by simp⟩, by simpa using hipl⟩

theorem interruptEntry : Rules.InterruptEntry := by
  refine ⟨fun s lvl src hres hhalt hload hreq hie hipl => ?_, fun s hiss hirq hie hipl => ?_⟩
  · refine ⟨_, exec_interruptEntry_troika hres hhalt hload hreq hie hipl, ?_⟩
    obtain ⟨hes, hepc, hcause, haddr, hl, hi, hm, hx, hpc, hg⟩ :=
      takeInterrupt_taken .troika lvl (s.updTrk (fun t => { t with wait := .none }))
    obtain ⟨hmem, hregs⟩ := takeInterrupt_frame .troika lvl (s.updTrk (fun t => { t with wait := .none }))
    exact ⟨hes, hepc, hcause, haddr, hl, hi, hm, hx, hpc, hg, rfl, hmem, hregs⟩
  · have hmay : (s.lanIssues && s.lanternIrq && MSTAT_IE.bit (s.lan.core.cx cMSTAT) &&
        decide (MSTAT_IPL.get (s.lan.core.cx cMSTAT) < 1)) = true := by simp [hiss, hirq, hie, hipl]
    obtain ⟨hes, hepc, -, -, hl, hi, -, -, hpc, hg⟩ := takeInterrupt_taken .lantern 1 s
    exact ⟨takeInterrupt .lantern 1 s, if_pos hmay, hes, hepc, hi, hl, hpc, hg, (takeInterrupt_frame ..).1⟩

/-- Settles O9: ERET restores the saved status; an interrupt enters the vector of its level. -/
theorem returnAndInterrupt : Obligations.ReturnAndInterrupt := ⟨returnFromException, interruptEntry⟩

end Sys2Proof.Proofs
end

section
/-! What the Passenger mode may not do (R28, R50, R91). -/

namespace Sys2Proof.Proofs

open Sys2Proof Sys2Proof.Machine Sys2Proof.Safety Sys2Proof.Laws

/-- A trap that is not drawn with an issue slot: SLOT is 0. -/
theorem issue_failAlone {h : Hart} {s : State} (hr : Ready h s) (hm : MayTrap h s) {code : Nat} {body : State → State}
    (hb : body s = failAlone h code 0 s) :
    ∃ t, issue h body s = .next t ∧ HandlerEntry (word code) (s.core h).pc 0 (s.core h) (t.core h) ∧ t.mem = s.mem ∧
      t.regs = s.regs :=
  issue_enters (n := 0) hr hm hr.2 (by rw [hb, failAlone, takeAlone, ecauseIn_false]; rfl)

theorem heldBy_failAlone {s : State} (hm : MayTrap .troika s) {i : Instr} {code : Nat} {body : State → State}
    (hb : body s = failAlone .troika code 0 s) : heldBy i body s = failAlone .troika code 0 s :=
  (heldBy_of_not_held (by
    rw [hb, failAlone, takeAlone, enterException_eq hm]
    exact (setCore_frame ..).1)).trans hb

/-- An access of Passenger code to the Coachman view is refused before any other check. -/
theorem loadAt_passenger {s : State} {a : Word} (h : ((s.core .troika).passenger && coachmanSpace a.toNat) = true)
    (n : Nat) (rt : GReg) (rot : Nat) (env : Env) (put : List Byte → CoreState → CoreState) :
    loadAt a n rt rot env put s = fail .troika 0x02 a s := if_pos h

theorem storeAt_passenger {s : State} {a : Word} (h : ((s.core .troika).passenger && coachmanSpace a.toNat) = true)
    (bs : List Byte) (env : Env) : storeAt a bs env s = fail .troika 0x02 a s := if_pos h

/-- Settles O10: each of them takes cause 0x02 at its own pc, and nothing is done. -/
theorem passengerTraps : Obligations.PassengerTraps := by
  intro s hr hpass hexc hvb c traps
  have hm : MayTrap .troika s := ⟨hexc, fun _ => hvb⟩
  have alone : ∀ {o : Out}, (∃ t, o = .next t ∧
      HandlerEntry (word 2) (s.core .troika).pc 0 (s.core .troika) (t.core .troika) ∧ t.mem = s.mem ∧ t.regs = s.regs) →
      ∃ t, o = .next t ∧ traps 0 t := by
    rintro o ⟨t, ht, ⟨-, hepc, hcause, haddr, -, hpc, -, hg, -⟩, hmem, hregs⟩
    exact ⟨t, ht, by rw [hcause]; decide, fun _ => hcause, haddr, hepc, hpc, hg, hmem, hregs⟩
  have addressed : ∀ {a : Word} {o : Out}, a ≠ 0 → Traps .troika (word 2) a s o → ∃ t, o = .next t ∧ traps a t := by
    rintro a o ha ⟨t, ht, ⟨hcause, haddr, hepc, hpc, hg, -⟩, hmem, hregs, -⟩
    exact ⟨t, ht, hcause, fun hz => absurd hz ha, haddr, hepc, hpc, hg, hmem, hregs⟩
  refine ⟨?eret, fun ga d => ?sig, fun ga halves f vr ax v => ?commit, fun n r hn h6 h7 h8 => ?creg,
    fun rt rb off env => ?access⟩
  case eret => exact alone (issue_failAlone hr hm (body := fun s => if (s.core .troika).passenger
    then failAlone .troika 0x02 0 s else s.updCore .troika (returnCore .troika)) (if_pos hpass))
  case sig =>
    simp only [exec, execSig, trk]
    exact alone (issue_failAlone hr hm (by simp [hpass]))
  case commit =>
    simp only [exec, execCommit, trk]
    exact alone (issue_failAlone hr hm (heldBy_failAlone hm (by simp [hpass])))
  case creg =>
    have hcreg : hasCreg .troika n.toNat = true := by simpa [hasCreg] using hn
    have hnone : passengerCreg n.toNat = false := by
      have (k : BitVec 5) (hk : n ≠ k) : n.toNat ≠ k.toNat := fun hv => hk (BitVec.eq_of_toNat_eq hv)
      simpa [passengerCreg, and_assoc] using ⟨this 6 h6, this 7 h7, this 8 h8⟩
    simp only [exec, execMfc, execMtc, common_of_lowRegs (h := .troika) rfl]
    exact ⟨alone (issue_failAlone hr hm (by simp [hpass, hcreg, hnone])),
      alone (issue_failAlone hr hm (by simp [hpass, hcreg, hnone]))⟩
  case access =>
    intro a hlo hhi
    have hz : a ≠ 0 := by
      intro hz
      simp [hz] at hlo
    have hspace : ((s.core .troika).passenger && coachmanSpace a.toNat) = true := by
      simp [hpass, coachmanSpace, hlo, hhi]
    exact ⟨addressed hz (common_fail hr hm rfl (by decide) (loadAt_passenger hspace ..)),
      addressed hz (common_fail hr hm rfl (by decide) (storeAt_passenger hspace ..))⟩

end Sys2Proof.Proofs
end

section
/-! Loads from memory (R24, R56, R58 to R60, R69): the bytes that a core reads as one number, the access, and the
statement about it. -/

namespace Sys2Proof.Proofs

open Sys2Proof Sys2Proof.Machine Sys2Proof.Safety Sys2Proof.Laws

/-! ### Vector registers -/

section
variable (c : CoreState) (vd : VReg) (v : VWord)

theorem vr_setV (r : VReg) : (c.setV vd v).vr r = if r = vd then v else c.vr r := by
  simp only [CoreState.vr, CoreState.setV, mget_mset]
  by_cases h : r = vd
  · simp [h]
  · rw [if_neg (fun hn => h (BitVec.eq_of_toNat_eq hn)), if_neg h]
@[simp] theorem gr_setV (r : GReg) : (c.setV vd v).gr r = c.gr r := rfl
@[simp] theorem ar_setV (r : AReg) : (c.setV vd v).ar r = c.ar r := rfl
@[simp] theorem cx_setV (n : Nat) : (c.setV vd v).cx n = c.cx n := rfl
@[simp] theorem pc_setV : (c.setV vd v).pc = c.pc := rfl

end

/-- An instruction of the Troika that writes one vector register and sets flags retires so. -/
theorem issue_retire_setV {s : State} (hr : Ready .troika s) {vd : VReg} {v : VWord} {fl : Word}
    {f : CoreState → CoreState} {d : CoreState} (hf : f (s.core .troika) = d.setV vd v)
    (hpc : d.pc = (s.core .troika).pc) (hw : WritesG .troika 0 0 fl (s.core .troika) d) :
    ∃ t, issue .troika (retire .troika f) s = .next t ∧ RetiresV vd v fl s t := by
  obtain ⟨t, ht, ho, hpc', hg, hv, ha, hx⟩ := issue_retire hr f
  obtain ⟨wg, wv, wa, wf, wk⟩ := hw
  rw [hf] at hpc' hg hv ha hx
  refine ⟨t, ht, ho, ?_, fun r => (hg r).trans ?_, fun r => (ha r).trans (wa r), fun r => (hv r).trans ?_, ?_, ?_⟩
  · rw [hpc', ← hpc]; rfl
  · exact (wg r).trans (if_neg fun hr => hr.2 hr.1)
  · rw [← wv r]; exact vr_setV d vd v r
  · exact (hx cFSTAT (fun _ => by decide)).trans wf
  · exact fun n hn hc => (hx n hc).trans (wk n hn hc)

/-! ### Bytes as one number -/

/-- The bytes that a core reads from an address up. -/
def bytesAt (h : Hart) (s : State) (a n : Nat) : List Byte := (List.range n).map (fun k => byteAt h s (a + k))

theorem leNat_append (l : List Byte) (b : Byte) : leNat (l ++ [b]) = leNat l + b.toNat * 256 ^ l.length := by
  induction l with
  | nil => simp [leNat]
  | cons x l ih =>
    simp only [List.cons_append, leNat, ih, List.length_cons, pow_succ]
    ring

/-- The bytes as the model joins them are the little-endian number of the spec (R58). -/
theorem leNat_bytesAt (h : Hart) (s : State) (a n : Nat) : leNat (bytesAt h s a n) = littleEndian h s a n := by
  unfold bytesAt littleEndian
  induction n with
  | zero => rfl
  | succ n ih => rw [List.range_succ, List.map_append, List.foldl_append, ← ih]; exact leNat_append .. |>.trans (by simp)

/-! ### The access -/

section
variable {s : State} {a : Nat}

/-- RAM and code NVM stand below the register views. -/
theorem lt_of_memory (h : isRam (region a) = true ∨ region a = .nvm) : a < 0x40000000 := by
  by_contra hc
  unfold region at h
  split_ifs at h <;> first | omega | simp [isRam] at h

theorem permitted_of_memory {a : Word} (h : isRam (region a.toNat) = true ∨ region a.toNat = .nvm) (c : Hart) :
    Permitted c a s := by
  have := lt_of_memory h
  exact permitted_of_space fun _ _ => by omega

theorem target_of_memory (h : isRam (region a) = true ∨ region a = .nvm) : s.target a = region a :=
  target_of_not_window fun d o hd => by simp [hd, isRam] at h

theorem widthOk_of_memory (h : isRam (region a) = true ∨ region a = .nvm) (n : Nat) : widthOk (region a) n = true := by
  rcases h with h | h
  · cases hr : region a <;> simp_all [isRam, widthOk]
  · simp [h, widthOk]

theorem nvmBlocked_of_ram (h : isRam (region a) = true) : s.nvmBlocked a = false := by
  unfold State.nvmBlocked
  split
  · cases hr : region a <;> simp_all [isRam]
  · rfl

/-- Good bytes that nothing befalls pass the check of their words. -/
theorem readCheck_good {n : Nat} (hn : 0 < n) (hp : ∀ k, k < n → s.poisoned (a + k) = false) {env : Env}
    (he : env.ecc = .clean) : readCheck a n env s = (s, true) := by
  have hunit : 0 < eccUnit a := by unfold eccUnit; split <;> decide
  have good : ∀ k, k < (n + eccUnit a - 1) / eccUnit a → s.poisoned (a + eccUnit a * k) = false := by
    intro k hk
    refine hp _ ?_
    have h1 := Nat.div_mul_le_self (n + eccUnit a - 1) (eccUnit a)
    have h2 : eccUnit a * (k + 1) ≤ (n + eccUnit a - 1) / eccUnit a * eccUnit a := by
      rw [Nat.mul_comm]
      exact Nat.mul_le_mul_right _ hk
    rw [Nat.mul_succ] at h2
    omega
  have hwords : 0 < (n + eccUnit a - 1) / eccUnit a := Nat.div_pos (by omega) hunit
  have hnone : (List.range ((n + eccUnit a - 1) / eccUnit a)).find? (fun k => s.poisoned (a + eccUnit a * k)) = none := by
    rw [List.find?_eq_none]
    intro k hk
    simp [good k (List.mem_range.mp hk)]
  have hpick : env.eccWord % max ((n + eccUnit a - 1) / eccUnit a) 1 < (n + eccUnit a - 1) / eccUnit a := by
    rw [max_eq_left hwords]
    exact Nat.mod_lt _ hwords
  simp [readCheck, hnone, memCheck, good _ hpick, he]

theorem waitCleared_of_cleared (hc : s.bringup.uncleared = []) (m : ClearMem) : waitCleared m s = s := by
  simp [waitCleared, hc]

end

/-- A load of readable bytes is that of their value (R24, R58). -/
theorem loadOn_readable {h : Hart} {s : State} {a : Word} {n : Nat} (hr : Readable h s a n) (hn : 0 < n) {env : Env}
    (hq : Quiet env) (rt : GReg) (rot : Nat) (put : List Byte → CoreState → CoreState) :
    loadOn h a n rt rot env put s = retire h (put (bytesAt h s a.toNat n)) s := by
  obtain ⟨hv, -, he⟩ := hq
  cases h with
  | lantern =>
    obtain ⟨ha, hlt, hc⟩ := hr
    simp [loadOn, lanLoadAt, ha, hlt, waitCleared_of_cleared hc, he, bytesAt, byteAt]
  | troika =>
    obtain ⟨ha, hmem, hp, hc, hbuf⟩ := hr
    have hm : isRam (region a.toNat) = true ∨ region a.toNat = .nvm := hmem.imp id And.left
    have hblocked : s.nvmBlocked a.toNat = false := hmem.elim nvmBlocked_of_ram And.right
    have hload : loadMemory a n env put s = retire .troika (put (bytesAt .troika s a.toNat n)) s := by
      simp [loadMemory, hblocked, waitFor_of_cleared hc, readCheck_good hn hp he, State.coreBytes, bytesAt, byteAt]
    have hdrain : (if uncached (region a.toNat) then drainStores s else s) = s := by
      rcases hbuf with hb | hb | hb <;> simp [hb, uncached, drainStores]
    have hlow : ((s.core .troika).passenger && coachmanSpace a.toNat) = false := permitted_of_memory hm .troika rfl
    simp only [loadOn, loadAt, target_of_memory hm, widthOk_of_memory hm, hlow, ha, hv, vote, hdrain]
    cases hreg : region a.toNat with
    | view v off => simp [hreg, isRam] at hm
    | window d off => simp [hreg, isRam] at hm
    | _ => exact hload

/-- An instruction depends on its body at the state it is issued in alone. -/
theorem issue_congr {h : Hart} {s : State} {body body' : State → State} (hb : body s = body' s) :
    issue h body s = issue h body' s := by
  simp only [issue, hb]

/-- A load of either core whose access is performed retires as its change of the registers does. -/
theorem common_load {h : Hart} {s : State} (hr : Ready h s) {rs : List GReg} (hl : lowRegs h rs = true) {a : Word} {n : Nat}
    (ha : Readable h s a n) (hn : 0 < n) {env : Env} (hq : Quiet env) {i : Instr} {rt : GReg} {rot : Nat}
    {val : List Byte → Word} {v : Word} (hv : val (bytesAt h s a.toNat n) = v) {body : State → State}
    (hb : body s = loadOn h a n rt rot env (fun bs c => c.setG rt (val bs)) s) :
    ∃ t, common h rs (heldBy i body) s = .next t ∧ RetiresG h rt v 0 s t := by
  have hbody : heldBy i body s = retire h (fun c => c.setG rt v) s := by
    rw [heldBy_of_not_held] <;> rw [hb, loadOn_readable ha hn hq, hv]
    cases h <;> rfl
  obtain ⟨t, ht, hret⟩ := issue_retire_writesG hr (f := fun c => c.setG rt v) (pc_setG ..) (writesG_setG ..)
  refine ⟨t, ?_, hret⟩
  rw [common_of_lowRegs hl, ← ht]
  exact issue_congr hbody

/-- A vector load whose access is performed retires with its value. -/
theorem fullOnly_setV {s : State} (hr : Ready .troika s) {v : VWord} {i : Instr} {vt : VReg} {body : State → State}
    (hload : body s = retire .troika (fun c => c.setV vt v) s) :
    ∃ t, fullOnly .troika (heldBy i body) s = .next t ∧ RetiresV vt v 0 s t := by
  have hheld : (body s).troika.heldAccess = s.troika.heldAccess := by
    rw [hload]
    rfl
  obtain ⟨t, ht, hret⟩ := issue_retire_setV hr (vd := vt) (v := v) (f := fun c => c.setV vt v) rfl rfl (writesG_none ..)
  exact ⟨t, (issue_congr ((heldBy_of_not_held hheld).trans hload)).trans ht, hret⟩

theorem fullOnly_load {s : State} (hr : Ready .troika s) {a : Word} (ha : Readable .troika s a 16) {env : Env}
    (hq : Quiet env) {i : Instr} {vt : VReg} {body : State → State}
    (hb : body s = loadAt a 16 0 0 env (fun bs c => c.setV vt (BitVec.ofNat 128 (leNat bs))) s) :
    ∃ t, fullOnly .troika (heldBy i body) s = .next t ∧
      RetiresV vt (BitVec.ofNat 128 (littleEndian .troika s a.toNat 16)) 0 s t := by
  have hload : body s = retire .troika (fun c => c.setV vt (BitVec.ofNat 128 (leNat (bytesAt .troika s a.toNat 16)))) s :=
    hb.trans (loadOn_readable ha (by decide) hq 0 0 _)
  rw [← leNat_bytesAt]
  exact fullOnly_setV hr hload

theorem rotBase_readable {h : Hart} {s : State} {a : Word} (ha : Readable h s (a &&& 0xFFFFFFFC) 4) :
    Readable h s (rotBase a) 4 := ha

/-- Settles O11: a readable access retires with the bytes at its address, extended or rotated. -/
theorem loadsFromMemory : Obligations.LoadsFromMemory := by
  intro h s hr rt rb off env hq hl a
  refine ⟨fun ha => ⟨?_, ?_⟩, fun ha => ⟨?_, ?_⟩, fun ha => ?_, fun ha => ?_, ?_⟩
  · exact common_load hr hl ha (by decide) hq (val := subVal .b) (by
      simp only [subVal, leNat_bytesAt]
      simp [littleEndian, BitVec.signExtend]) rfl
  · exact common_load hr hl ha (by decide) hq (val := subVal .bu) (by
      simp only [subVal, leNat_bytesAt]
      simp [littleEndian, word]) rfl
  · exact common_load hr hl ha (by decide) hq (val := subVal .h) (by
      simp only [subVal, leNat_bytesAt, BitVec.signExtend]) rfl
  · exact common_load hr hl ha (by decide) hq (val := subVal .hu) (by
      simp only [subVal, leNat_bytesAt, word]) rfl
  · exact common_load hr hl ha (by decide) hq (val := fun bs => word (leNat bs)) (by
      simp only [leNat_bytesAt, word]) rfl
  · exact common_load hr hl (rotBase_readable ha) (by decide) hq
      (val := fun bs => (word (leNat bs)).rotateRight (rotBits a)) (by
        simp only [leNat_bytesAt, word, rotBase, rotBits]) rfl
  · rintro rfl ha vt
    exact fullOnly_load hr ha hq rfl

end Sys2Proof.Proofs
end

section
/-! Stores to RAM (R24, R56, R58 to R60, R69): the bytes that a core reads after one, and the statement about it. -/

namespace Sys2Proof.Proofs

open Sys2Proof Sys2Proof.Machine Sys2Proof.Safety Sys2Proof.Laws

/-! ### The bytes after a store -/

/-- A store that joins the buffer gives its bytes, and every other byte is read as before (R60). -/
theorem bufByte_append (buf : List BufEntry) (a : Nat) (bs : List Byte) (e : Ecc) (portF : Bool) (x : Nat) :
    bufByte (buf ++ [.store a bs e portF]) x =
      if a ≤ x ∧ x < a + bs.length then some (bs.getD (x - a) 0) else bufByte buf x := by
  simp [bufByte, List.foldl_append]

theorem ram_setByte (s : State) (a : Nat) (b : Byte) (x : Nat) :
    mget (fun _ => (0 : Byte)) (s.setLanRamByte a b).lan.ram x =
      if x = a then b else mget (fun _ => (0 : Byte)) s.lan.ram x := mget_mset ..

/-- The bytes of Lantern RAM after a store (R69). -/
theorem ram_each_setByte (a : Nat) (bs : List Byte) (n : Nat) (s : State) (x : Nat) :
    mget (fun _ => (0 : Byte)) (each (List.range n) (fun k t => t.setLanRamByte (a + k) (bs.getD k 0)) s).lan.ram x =
      if a ≤ x ∧ x < a + n then bs.getD (x - a) 0 else mget (fun _ => (0 : Byte)) s.lan.ram x := by
  induction n with
  | zero => exact (if_neg (by omega)).symm
  | succ n ih =>
    rw [each] at ih ⊢
    rw [List.range_succ, List.foldl_append, List.foldl_cons, List.foldl_nil, ram_setByte, ih]
    by_cases hx : x = a + n
    · subst hx
      simp
    · have : (a ≤ x ∧ x < a + (n + 1)) ↔ (a ≤ x ∧ x < a + n) := by omega
      simp [hx, this]

/-- A store to Lantern RAM changes nothing else. -/
theorem each_setByte_frame (a : Nat) (bs : List Byte) (ks : List Nat) (s : State) :
    each ks (fun k t => t.setLanRamByte (a + k) (bs.getD k 0)) s =
      { s with lan := { s.lan with ram := (each ks (fun k t => t.setLanRamByte (a + k) (bs.getD k 0)) s).lan.ram } } := by
  induction ks generalizing s with
  | nil => rfl
  | cons k ks ih => exact (ih _).trans rfl

/-! ### The access -/

/-- A store to writable RAM of the Troika joins the store buffer. -/
theorem storeAt_ram {s : State} {a : Word} {bs : List Byte} (ha : a.toNat % bs.length = 0)
    (hram : isRam (region a.toNat) = true) {env : Env} (hv : env.vote = .agree) :
    storeAt a bs env s = storeMemory a bs env s := by
  have hm : isRam (region a.toNat) = true ∨ region a.toNat = .nvm := .inl hram
  have hlow : ((s.core .troika).passenger && coachmanSpace a.toNat) = false := permitted_of_memory hm .troika rfl
  simp only [storeAt, target_of_memory hm, widthOk_of_memory hm, hlow, ha, hv, vote]
  cases hreg : region a.toNat with
  | nvm => simp [hreg, isRam] at hram
  | unmapped => simp [hreg, isRam] at hram
  | view v off => simp [hreg, isRam] at hram
  | window d off => simp [hreg, isRam] at hram
  | _ => simp

/-- An entry joins the store buffer. -/
def buffered (e : BufEntry) (s : State) : State := s.updTrk (fun t => { t with storeBuf := t.storeBuf ++ [e] })

theorem pushEntry_room {s : State} (h : s.troika.storeBuf.length < 8) (e : BufEntry) : pushEntry e s = buffered e s := by
  have : ¬ 8 ≤ s.troika.storeBuf.length := by omega
  simp [pushEntry, this, buffered]

/-- What an instruction of the Troika leaves that sends an entry to the store buffer. -/
def OnlyBuffers (e : BufEntry) (s t : State) : Prop :=
  t = { s with
    troika := { s.troika with core := t.troika.core, stepArmed := false, storeBuf := s.troika.storeBuf ++ [e] }
    draws := s.draws + 1 }

/-- An instruction of the Troika that changes its registers and sends an entry to the store buffer retires so. -/
theorem issue_buffered {s : State} (hr : Ready .troika s) {e : BufEntry} {f : CoreState → CoreState}
    {body : State → State} (hb : body s = retire .troika f (buffered e s)) :
    ∃ t, issue .troika body s = .next t ∧ OnlyBuffers e s t ∧
      SameRegisters .troika (f (s.core .troika)).advance (t.core .troika) := by
  obtain ⟨-, hw, hh⟩ := ready_troika hr
  refine ⟨_, issue_troika hr body (by rw [hb]; exact hr.2), ?_, ?_⟩
  · simp [hb, OnlyBuffers, countCycles_eq, retire, buffered, State.updCore, State.setCore, State.updTrk, hw, hh]
  · rw [hb]
    exact countCycles_core _

/-- The bytes that the core reads once a store has joined the buffer. -/
theorem byteAt_of_onlyBuffers {s t : State} {a : Nat} {bs : List Byte} {e : Ecc} {portF : Bool}
    (ho : OnlyBuffers (.store a bs e portF) s t) (x : Nat) :
    byteAt .troika t x = if a ≤ x ∧ x < a + bs.length then bs.getD (x - a) 0 else byteAt .troika s x := by
  have hbuf : t.troika.storeBuf = s.troika.storeBuf ++ [.store a bs e portF] := by rw [ho]
  have hmem : t.mem = s.mem := by rw [ho]
  simp only [byteAt, State.coreByte, State.byte, hbuf, hmem, bufByte_append]
  split <;> rfl

/-- A store of the Troika retires into its store buffer. -/
theorem issue_store_troika {s : State} (hr : Ready .troika s) {a : Nat} {bs : List Byte} {env : Env}
    {body : State → State} (hb : body s = retire .troika id (buffered (.store a bs env.ecc env.tandemPortF) s)) :
    ∃ t, issue .troika body s = .next t ∧ Safety.Stores .troika a bs env s t := by
  obtain ⟨t, ht, ho, hs⟩ := issue_buffered hr hb
  refine ⟨t, ht, ho, hs.1, writesG_of_sameRegisters (d := (s.core .troika).advance) (writesG_none ..) hs,
    fun k hk => ?_, fun x hx => ?_⟩
  · rw [byteAt_of_onlyBuffers ho, if_pos ⟨by omega, by omega⟩, Nat.add_sub_cancel_left]
  · rw [byteAt_of_onlyBuffers ho, if_neg (by omega)]

/-- A store of the Lantern core retires into its RAM. -/
theorem issue_store_lantern {s : State} (hr : Ready .lantern s) {a : Nat} {bs : List Byte} {env : Env}
    {body : State → State} (hb : body s = retire .lantern id
      (each (List.range bs.length) (fun k t => t.setLanRamByte (a + k) (bs.getD k 0)) s)) :
    ∃ t, issue .lantern body s = .next t ∧ Safety.Stores .lantern a bs env s t := by
  refine ⟨_, issue_lantern hr body, ?_⟩
  rw [hb]
  have hram := ram_each_setByte a bs bs.length s
  rw [each_setByte_frame]
  exact ⟨rfl, rfl, writesG_none .., fun k hk => (hram _).trans ((if_pos ⟨by omega, by omega⟩).trans (by simp)),
    fun x hx => (hram x).trans (if_neg (by omega))⟩

/-- A store of either core to writable memory (R58, R60). -/
theorem issue_storeOn {h : Hart} {s : State} (hr : Ready h s) {a : Word} {bs : List Byte}
    (hw : Writable h s a bs.length) {env : Env} (hq : Quiet env) {i : Instr} {body : State → State}
    (hb : body s = storeOn h a bs env s) :
    ∃ t, issue h (heldBy i body) s = .next t ∧ Safety.Stores h a.toNat bs env s t := by
  obtain ⟨hv, -, he⟩ := hq
  cases h with
  | troika =>
    obtain ⟨ha, hram, hroom⟩ := hw
    have hbody : body s = retire .troika id (buffered (.store a.toNat bs env.ecc env.tandemPortF) s) := by
      rw [hb, storeOn, storeAt_ram ha hram hv, storeMemory, pushEntry_room hroom]
    exact issue_store_troika hr ((heldBy_of_not_held (by rw [hbody]; rfl)).trans hbody)
  | lantern =>
    obtain ⟨ha, hlt, hc⟩ := hw
    have hbody : body s = retire .lantern id
        (each (List.range bs.length) (fun k t => t.setLanRamByte (a.toNat + k) (bs.getD k 0)) s) := by
      rw [hb]
      simp [storeOn, lanStoreAt, ha, hlt, waitCleared_of_cleared hc, he]
    exact issue_store_lantern hr ((heldBy_of_not_held (by rw [hbody, each_setByte_frame]; rfl)).trans hbody)

theorem common_storeOn {h : Hart} {s : State} (hr : Ready h s) {rs : List GReg} (hl : lowRegs h rs = true) {a : Word}
    {bs : List Byte} (hw : Writable h s a bs.length) {env : Env} (hq : Quiet env) {i : Instr} {body : State → State}
    (hb : body s = storeOn h a bs env s) :
    ∃ t, common h rs (heldBy i body) s = .next t ∧ Safety.Stores h a.toNat bs env s t := by
  rw [common_of_lowRegs hl]
  exact issue_storeOn hr hw hq hb

/-! ### A full store buffer -/

theorem doubleFault_troika_storeBuf (s : State) : (doubleFault .troika s).troika.storeBuf = s.troika.storeBuf := by
  simp only [doubleFault, trkStop, stopIssue, capture_troika, (raise_onlyEvents _ _).troika, setFlag_troika, sq_troika]

/-- An imprecise error leaves the store buffer alone (R63). -/
theorem deliverImprecise_storeBuf (s : State) : (deliverImprecise s).troika.storeBuf = s.troika.storeBuf := by
  have entered : ∀ (u : State) (c a e : Word), (enterException .troika c a e u).troika.storeBuf = u.troika.storeBuf := by
    intro u c a e
    simp only [enterException]
    split
    · exact doubleFault_troika_storeBuf u
    · split
      · exact doubleFault_troika_storeBuf u
      · rfl
  unfold deliverImprecise
  split
  · rfl
  · split
    · exact entered ..
    · rfl

theorem issue_troika_storeBuf {s : State} (hr : Ready .troika s) (body : State → State) :
    ∃ t, issue .troika body s = .next t ∧ t.troika.storeBuf = (body s).troika.storeBuf :=
  ⟨_, if_pos hr.1, (deliverImprecise_storeBuf _).trans (by rw [countCycles_eq])⟩

theorem heldBy_storeBuf (i : Instr) (body : State → State) (s : State) :
    (heldBy i body s).troika.storeBuf = (body s).troika.storeBuf := by
  unfold heldBy
  extract_lets t
  split <;> rfl

theorem pushEntry_full {s : State} (h : 8 ≤ s.troika.storeBuf.length) (e : BufEntry) :
    (pushEntry e s).troika.storeBuf = (drainOldest s).troika.storeBuf ++ [e] := by
  simp [pushEntry, h, State.updTrk]

/-! ### The statement -/

theorem vecBytes_length (v : VWord) : (vecBytes v).length = 16 := by simp [vecBytes]

/-- Settles O12: a store to writable RAM leaves its bytes as the core reads them, and a full buffer lets its oldest entry
out. -/
theorem storesToMemory : Obligations.StoresToMemory := by
  intro h s hr rt rb off env hq hl a w
  refine ⟨fun hw => ?_, fun hw => ?_, fun hw => ?_, fun hw => ?_, ?_, ?_⟩
  · exact common_storeOn hr hl (bs := [byteOf w 0]) hw hq rfl
  · exact common_storeOn hr hl (bs := [byteOf w 0, byteOf w 1]) hw hq rfl
  · exact common_storeOn hr hl (bs := wordBytes w) hw hq rfl
  · exact common_storeOn hr hl (bs := wordBytes (w.rotateLeft (rotBits a))) hw hq rfl
  · rintro rfl hw vt
    exact issue_storeOn hr (bs := vecBytes ((s.core .troika).vr vt)) (by rwa [vecBytes_length]) hq rfl
  · rintro rfl hfull hpass ha hram
    obtain ⟨t, ht, hbuf⟩ := issue_troika_storeBuf hr (heldBy (.stw .troika rt rb off env) fun s =>
      storeOn .troika (s.ea .troika rb off) (wordBytes ((s.core .troika).gr rt)) env s)
    refine ⟨t, (common_of_lowRegs hl _ s).trans ht, hbuf.trans ((heldBy_storeBuf ..).trans ?_)⟩
    have hstore : storeAt a (wordBytes w) env s = storeMemory a (wordBytes w) env s := storeAt_ram ha hram hq.1
    exact (congrArg (fun u => u.troika.storeBuf) hstore).trans (pushEntry_full hfull _)

end Sys2Proof.Proofs
end

section
/-! Loads and stores through the Coupler window (R298, R307). -/

namespace Sys2Proof.Proofs

open Sys2Proof Sys2Proof.Machine Sys2Proof.Safety Sys2Proof.Laws

section
variable {s : State} {a : Word} {d o n : Nat} {env : Env}

/-- An address of the Coupler window is none of the Coachman view. -/
theorem window_not_coachman (hw : region a.toNat = .window d o) : coachmanSpace a.toNat = false := by
  by_contra hc
  simp only [coachmanSpace, Bool.not_eq_false, Bool.and_eq_true, decide_eq_true_eq] at hc
  unfold region at hw
  split_ifs at hw <;> omega

theorem target_of_seat_apart (hw : region a.toNat = .window d o) (hd : d ≠ s.seat) : s.target a.toNat = .window d o := by
  simp [State.target, hw, hd]

/-- The load becomes a frame that waits with its tag. -/
theorem loadAt_window (hw : region a.toNat = .window d o) (hd : d ≠ s.seat) (h0 : s.seat ≠ 0) (hroute : s.routed d = true)
    (ht : s.freeTag = some n) (ha : a.toNat % 4 = 0) (hq : env.vote = .agree) (hb : s.troika.storeBuf = [])
    (rt : GReg) (put : List Byte → CoreState → CoreState) :
    loadAt a 4 rt 0 env put s = sendOwn { cls := 1, dst := d, kind := 0x03, tag := n, arg := word o, xarg := 4 }
      ((s.setTag n (.load d rt 0 a)).updTrk (fun t => { t with wait := .load n rt 0 })) := by
  simp [loadAt, target_of_seat_apart hw hd, window_not_coachman hw, ha, widthOk, vote, hq, uncached, drainStores, hb,
    loadRemote, h0, hroute, ht]

theorem storeAt_window (hw : region a.toNat = .window d o) (hd : d ≠ s.seat) (h0 : s.seat ≠ 0) (hroute : s.routed d = true)
    (ht : s.freeTag = some n) (ha : a.toNat % 4 = 0) (hq : env.vote = .agree) (hb : s.troika.storeBuf = []) (w : Word) :
    storeAt a (wordBytes w) env s = retire .troika id
      (sendOwn { cls := 1, dst := d, kind := 0x01, tag := n, arg := word o, payload := wordBytes (word (leNat (wordBytes w))) }
        (s.setTag n (.store d a))) := by
  have hlen : (wordBytes w).length = 4 := rfl
  simp [storeAt, target_of_seat_apart hw hd, window_not_coachman hw, ha, widthOk, vote, hq, drainStores, hb, hlen,
    storeRemote, h0, hroute, ht]

/-- A frame for a seat of the window is queued. -/
theorem sendOwn_eq {f : TxFrame} (hd : f.dst ≤ 32) (s : State) :
    sendOwn f s = s.updCpl (fun c => { c with ownQ := c.ownQ ++ [f] }) := by
  have : ¬ 33 ≤ f.dst := by omega
  simp [sendOwn, State.nowhere, this]

theorem window_seat_le (hw : region a.toNat = .window d o) : d ≤ 32 := by
  unfold region at hw
  split_ifs at hw
  simp only [Region.window.injEq] at hw
  omega

end

/-- The four bytes of a word as one number. -/
theorem leNat_wordBytes (w : Word) : leNat (wordBytes w) = w.toNat := by
  have := w.isLt
  simp only [wordBytes, leNat, byteOf, BitVec.extractLsb'_toNat, Nat.shiftRight_eq_div_pow]
  omega

theorem word_leNat_wordBytes (w : Word) : word (leNat (wordBytes w)) = w := by
  rw [leNat_wordBytes]
  exact BitVec.ofNat_toNat 32 w |>.trans (BitVec.setWidth_eq w)

theorem tagOf_of_tags {s : State} {tags : FMap TagSt} {n : Nat} {x : TagSt}
    (h : s.cpl.tags = mset (fun _ => TagSt.free) tags n x) : s.tagOf n = x := by
  rw [State.tagOf, h, mget_mset_self]

/-- An instruction of the Troika whose access is not held leaves its body's state, with its cycles counted. -/
theorem issue_held {s u : State} (hr : Ready .troika s) {i : Instr} {body : State → State} (hb : body s = u)
    (hh : u.troika.heldAccess = s.troika.heldAccess) (hi : u.troika.imprecise = []) :
    ∃ t, issue .troika (heldBy i body) s = .next t ∧
      t.troika = { u.troika with core := t.troika.core, stepArmed := t.troika.stepArmed } ∧
      SameRegisters .troika (u.core .troika) (t.core .troika) ∧ t.cpl = u.cpl ∧ t.mem = u.mem := by
  have hbody : heldBy i body s = u := (heldBy_of_not_held (by rw [hb, hh])).trans hb
  refine ⟨_, issue_eq hr hbody hi, ?_, afterIssue_core .., ?_⟩ <;> simp [afterIssue, countCycles_eq]

/-- Settles O14: the access becomes a frame with the lowest free tag. -/
theorem windowAccess : Obligations.WindowAccess := by
  intro s hr hb rt rb off env d o n hq a ha hw hd h0 hroute ht
  have hle := window_seat_le hw
  refine ⟨?_, ?_⟩
  · have hbody := loadAt_window hw hd h0 hroute ht ha hq.1 hb rt (fun bs c => c.setG rt (word (leNat bs)))
    rw [sendOwn_eq hle] at hbody
    obtain ⟨t, hexec, htroika, hcore, hcpl, -⟩ := issue_held hr (i := .ldw .troika rt rb off env) (body := fun s =>
      loadOn .troika (s.ea .troika rb off) 4 rt 0 env (fun bs c => c.setG rt (word (leNat bs))) s) hbody rfl hr.2
    exact ⟨t, hexec, congrArg Troika.wait htroika, tagOf_of_tags (congrArg Coupler.tags hcpl),
      congrArg Coupler.ownQ hcpl, hcore.1, hcore.2.1⟩
  · have hbody := storeAt_window hw hd h0 hroute ht ha hq.1 hb ((s.core .troika).gr rt)
    rw [sendOwn_eq hle, word_leNat_wordBytes] at hbody
    obtain ⟨t, hexec, htroika, hcore, hcpl, hmem⟩ := issue_held hr (i := .stw .troika rt rb off env) (body := fun s =>
      storeOn .troika (s.ea .troika rb off) (wordBytes ((s.core .troika).gr rt)) env s) hbody rfl hr.2
    exact ⟨t, hexec, (congrArg Troika.wait htroika).trans (ready_troika hr).2.1, tagOf_of_tags (congrArg Coupler.tags hcpl),
      congrArg Coupler.ownQ hcpl, hcore.1, hmem⟩

end Sys2Proof.Proofs
end

section
/-! Vector lanes (R70 to R74): what a lane holds after it is set, a lane-by-lane instruction, and the statement about the
fixed-point ones. -/

namespace Sys2Proof.Proofs

open Sys2Proof Sys2Proof.Machine Sys2Proof.Safety Sys2Proof.Laws

/-! ### Lanes -/

/-- A slice of a vector after one slice of the same width is replaced. -/
theorem extract_replaced {b k y : Nat} (hk : b * k + b ≤ 128) (hy : y < 2 ^ b) (v : VWord) (j : Nat) :
    ((v &&& ~~~BitVec.ofNat 128 ((2 ^ b - 1) <<< (b * k))) ||| BitVec.ofNat 128 (y <<< (b * k))).extractLsb' (b * j) b =
      if j = k then BitVec.ofNat b y else v.extractLsb' (b * j) b := by
  have far : ∀ {m : Nat}, b ≤ m → y.testBit m = false := fun hm =>
    Nat.testBit_lt_two_pow (hy.trans_le (Nat.pow_le_pow_right (by decide) hm))
  apply BitVec.eq_of_getLsbD_eq
  intro i hi
  simp only [BitVec.getLsbD_extractLsb', BitVec.getLsbD_or, BitVec.getLsbD_and, BitVec.getLsbD_not, BitVec.getLsbD_ofNat,
    Nat.testBit_shiftLeft, Nat.testBit_two_pow_sub_one, hi, decide_true, Bool.true_and]
  by_cases hj : j = k
  · subst hj
    have h128 : b * j + i < 128 := by omega
    rw [if_pos rfl, BitVec.getLsbD_ofNat]
    simp [hi, h128]
  · rw [if_neg hj, BitVec.getLsbD_extractLsb']
    rcases Nat.lt_or_gt_of_ne hj with h | h
    · have hm := Nat.mul_le_mul_left b (Nat.succ_le_of_lt h)
      rw [Nat.mul_succ] at hm
      have h1 : ¬ b * k ≤ b * j + i := by omega
      have h128 : b * j + i < 128 := by omega
      simp [h1, h128, hi]
    · have hm := Nat.mul_le_mul_left b (Nat.succ_le_of_lt h)
      rw [Nat.mul_succ] at hm
      have h1 : ¬ b * j + i - b * k < b := by omega
      by_cases h128 : b * j + i < 128
      · simp [h1, h128, hi, far (m := b * j + i - b * k) (by omega)]
      · have hge : v.getLsbD (b * j + i) = false := BitVec.getLsbD_of_ge v _ (by omega)
        simp [h128, hi, hge]

/-- A lane after one of the same width is set. -/
theorem laneI_setLane {w : Bool} {k : Nat} (hk : k < laneCount w) (v : VWord) (x : Int) (j : Nat) :
    laneI w (setLane w v k x) j = if j = k then x.bmod (2 ^ laneBits w) else laneI w v j := by
  have hx : (x % 2 ^ laneBits w).toNat < 2 ^ laneBits w := by
    have := Int.emod_lt_of_pos x (show (0 : Int) < 2 ^ laneBits w by positivity)
    have := Int.emod_nonneg x (show (2 : Int) ^ laneBits w ≠ 0 by positivity)
    zify
    omega
  have hfit : laneBits w * k + laneBits w ≤ 128 := by cases w <;> simp only [laneBits, laneCount] at hk ⊢ <;> simp at hk ⊢ <;> omega
  have hofInt : BitVec.ofNat (laneBits w) (x % 2 ^ laneBits w).toNat = BitVec.ofInt (laneBits w) x :=
    BitVec.eq_of_toNat_eq (by simp [Nat.mod_eq_of_lt hx])
  have hlane := extract_replaced hfit hx v j
  rw [hofInt] at hlane
  have toInt_lane : ∀ u : VWord, laneI w u j = (u.extractLsb' (laneBits w * j) (laneBits w)).toInt := by
    intro u
    cases w <;> rfl
  rw [toInt_lane, toInt_lane, setLane, hlane]
  split
  · exact BitVec.toInt_ofInt x
  · rfl

/-- The lanes below a count take a function's values, the others are kept (R71). -/
theorem laneI_mapLanes {w : Bool} {n : Nat} (hn : n ≤ laneCount w) (v : VWord) (f : Nat → Int) (j : Nat) :
    laneI w (mapLanes w n v f) j = if j < n then (f j).bmod (2 ^ laneBits w) else laneI w v j := by
  induction n with
  | zero => simp [mapLanes]
  | succ n ih =>
    rw [mapLanes] at ih ⊢
    rw [List.range_succ, List.foldl_append, List.foldl_cons, List.foldl_nil, laneI_setLane (by omega), ih (by omega)]
    by_cases hj : j = n
    · subst hj
      simp
    · have : j < n + 1 ↔ j < n := by omega
      simp [hj, this]

/-! ### A lane-by-lane instruction -/

/-- Flags are set, and nothing else changes. -/
theorem writesG_flags (h : Hart) (fl : Word) (c : CoreState) : WritesG h 0 0 fl c (c.flags fl) := writesG_put h 0 0 fl c

/-- The flags that a lane-by-lane instruction sets: those of its active lanes (R74). -/
def laneFlags (s : State) (w : Bool) (gn : GReg) (f : CoreState → Nat → Int × Word) : Word :=
  (List.range (active s w gn)).foldl (fun acc k => acc ||| (f (s.core .troika) k).2) 0

/-- A lane-by-lane instruction retires with its function's values and flags on the active lanes (R71, R74). -/
theorem issue_laneOp {s : State} (hr : Ready .troika s) (w : Bool) (vd : VReg) (gn : GReg)
    (f : CoreState → Nat → Int × Word) :
    ∃ t, issue .troika (laneOp w vd gn f) s = .next t ∧
      RetiresLanes w vd (active s w gn) (fun k => (f (s.core .troika) k).1) (fun k => (f (s.core .troika) k).2) s t := by
  have hle : active s w gn ≤ laneCount w := min_le_right _ _
  have hn : activeLanes (s.core .troika) w gn = active s w gn := rfl
  by_cases h0 : active s w gn = 0
  · obtain ⟨t, ht, ho, hpc, hg, hv, ha, hf, hk⟩ := issue_retire_writesG hr (f := fun c =>
      let n := activeLanes c w gn
      let fl := (List.range n).foldl (fun acc k => acc ||| (f c k).2) 0
      if n = 0 then c else (c.flags fl).setV vd (mapLanes w n (c.vr vd) (fun k => (f c k).1)))
      (rd := 0) (v := 0) (fl := 0) (by simp [hn, h0]) (by simpa [hn, h0] using writesG_none ..)
    refine ⟨t, ht, ho, hpc, fun r => (hg r).trans (if_neg fun hr => hr.2 hr.1), ha, fun r _ => hv r, fun k _ => ?_, ?_, hk⟩
    · rw [h0, if_neg (Nat.not_lt_zero k), hv]
    · rw [hf, h0]
      rfl
  · obtain ⟨t, ht, ho, hpc, hg, ha, hv, hf, hk⟩ := issue_retire_setV hr (vd := vd)
      (v := mapLanes w (active s w gn) ((s.core .troika).vr vd) fun k => (f (s.core .troika) k).1)
      (fl := laneFlags s w gn f) (d := (s.core .troika).flags (laneFlags s w gn f)) (f := fun c =>
      let n := activeLanes c w gn
      let fl := (List.range n).foldl (fun acc k => acc ||| (f c k).2) 0
      if n = 0 then c else (c.flags fl).setV vd (mapLanes w n (c.vr vd) (fun k => (f c k).1)))
      (by simp only [hn, h0, if_false, laneFlags]) (pc_flags ..) (writesG_flags ..)
    refine ⟨t, ht, ho, hpc, hg, ha, fun r hr => (hv r).trans (if_neg hr), fun k _ => ?_, hf, hk⟩
    rw [hv, if_pos rfl, laneI_mapLanes hle]

/-- Lanes and flags that agree on the active lanes. -/
theorem retiresLanes_congr {w : Bool} {vd : VReg} {n : Nat} {f f' : Nat → Int} {fl fl' : Nat → Word} {s t : State}
    (h : RetiresLanes w vd n f fl s t) (hf : ∀ k, f k = f' k) (hfl : ∀ k, fl k = fl' k) :
    RetiresLanes w vd n f' fl' s t := by
  rwa [← funext hf, ← funext hfl]

/-! ### The values of R72 -/

theorem satLane_eq (w : Bool) (x : Int) : satLane w x = (saturate (laneBits w) x, qsatIf (laneBits w) x) := by
  simp only [satLane, satI_eq, qsatIf, flagIf]
  rfl

theorem qmulLane_eq (w : Bool) (x y : Int) : qmulLane w x y = roundHalfUp (x * y) (laneBits w - 1) := by
  cases w
  · exact rshr_eq (x * y) 15
  · exact rshr_eq (x * y) 31

theorem laneShift_eq (x : Int) (n : Nat) : x / 2 ^ n = x.fdiv (2 ^ n) := (Int.fdiv_eq_ediv_of_nonneg _ (by positivity)).symm

theorem minMax_lane (mx : Bool) (x y : Int) :
    (if decide (x < y) = mx then y else x) = if mx then max x y else min x y := by
  cases mx <;> simp only [decide_eq_true_eq, decide_eq_false_iff_not, Bool.false_eq_true, if_false, if_true] <;> omega

section
variable {s : State} (hr : Ready .troika s) {w : Bool} {vd : VReg} {gn : GReg} {g : CoreState → Nat → Int} {f : Nat → Int}
include hr

/-- Lanes that set no flag. -/
theorem trk_plain (hf : ∀ k, g (s.core .troika) k = f k) :
    ∃ t, trk (laneOp w vd gn fun c k => plain (g c k)) s = .next t ∧
      RetiresLanes w vd (active s w gn) f (fun _ => 0) s t := by
  obtain ⟨t, ht, hret⟩ := issue_laneOp hr w vd gn (fun c k => plain (g c k))
  exact ⟨t, ht, retiresLanes_congr hret hf fun _ => rfl⟩

/-- Lanes that saturate (R52). -/
theorem trk_saturated (hf : ∀ k, g (s.core .troika) k = f k) :
    ∃ t, trk (laneOp w vd gn fun c k => satLane w (g c k)) s = .next t ∧
      RetiresSaturated w vd (active s w gn) f s t := by
  obtain ⟨t, ht, hret⟩ := issue_laneOp hr w vd gn (fun c k => satLane w (g c k))
  exact ⟨t, ht, retiresLanes_congr hret (fun k => by rw [satLane_eq, hf]) fun k => by rw [satLane_eq, hf]⟩

end

theorem vectorFixedResults : Rules.VectorFixedResults := by
  intro s hr w vd vs1 vs2 gn n c x y old amount none
  refine ⟨fun sub => trk_plain hr fun k => rfl, fun sub => trk_saturated hr fun k => rfl,
    trk_saturated hr fun k => qmulLane_eq .., fun mx => trk_plain hr fun k => minMax_lane ..,
    fun abs => trk_saturated hr fun k => qnegAbs_eq .., trk_plain hr fun k => laneShift_eq ..,
    trk_saturated hr fun k => rshr_eq .., trk_saturated hr fun k => rfl, trk_plain hr fun k => rfl,
    trk_plain hr fun k => rfl, trk_plain hr fun k => rfl⟩

/-! ### Accumulation -/

theorem retire_congr {h : Hart} {s : State} {f g : CoreState → CoreState} (hfg : f (s.core h) = g (s.core h)) :
    retire h f s = retire h g s := by
  simp only [retire, State.updCore, hfg]

/-- An instruction that changes no register retires: an accumulator stands as it was. -/
theorem issue_retire_same {s : State} (hr : Ready .troika s) {f : CoreState → CoreState}
    (hf : f (s.core .troika) = s.core .troika) (a : AReg) :
    ∃ t, issue .troika (retire .troika f) s = .next t ∧ RetiresA a ((s.core .troika).ar a) 0 s t := by
  obtain ⟨t, ht, ho, hpc, hg, hv, ha, hfl, hk⟩ := issue_retire_writesG hr (f := f) (rd := 0) (v := 0) (fl := 0)
    (by rw [hf]) (by rw [hf]; exact writesG_none ..)
  refine ⟨t, ht, ho, hpc, fun r => (hg r).trans (if_neg fun hr => hr.2 hr.1), hv, fun r => ?_, hfl, hk⟩
  rw [ha]
  split
  · next h => rw [h]
  · rfl

/-- An accumulator's own value needs no saturation. -/
theorem saturate_toInt {n : Nat} (x : BitVec n) : saturate n x.toInt = x.toInt := by
  have h1 := BitVec.toInt_lt (x := x)
  have h2 := BitVec.le_toInt (x := x)
  unfold saturate
  omega

theorem retiresA_of_fits {a : AReg} {x : AWord} {v : Int} {s t : State} (h : RetiresA a x 0 s t) (hv : x.toInt = v) :
    RetiresA a (BitVec.ofInt 72 (saturate 72 v)) (qsatIf 72 v) s t := by
  subst hv
  simpa only [qsatIf, saturate_toInt x, BitVec.ofInt_toInt, ne_eq, not_true_eq_false, decide_false,
    flagIf, Bool.false_eq_true, if_false] using h

theorem vectorAccumulateResults : Rules.VectorAccumulateResults := by
  intro s hr w vd vs1 vs2 gn n c x y product sum
  refine ⟨?_, fun a => ?_⟩
  · obtain ⟨t, ht, hret⟩ := issue_laneOp hr w vd gn (fun c k =>
      let p := satLane w (qmulLane w (laneI w (c.vr vs1) k) (laneI w (c.vr vs2) k))
      let r := satLane w (laneI w (c.vr vd) k + p.1)
      (r.1, p.2 ||| r.2))
    exact ⟨t, ht, retiresLanes_congr hret (fun k => by simp only [satLane_eq, qmulLane_eq]; rfl)
      (fun k => by simp only [satLane_eq, qmulLane_eq]; rfl)⟩
  · by_cases h0 : n = 0
    · have hn : activeLanes (s.core .troika) w gn = 0 := h0
      obtain ⟨t, ht, hret⟩ := issue_retire_same hr (f := fun c =>
        let n := activeLanes c w gn
        if n = 0 then c else putAcc c a ((c.ar a).toInt + dotVal w n (c.vr vs1) (c.vr vs2))) (by simp [hn]) a
      refine ⟨t, ht, ?_⟩
      rw [h0]
      exact retiresA_of_fits hret ((add_zero _).symm)
    · have hn : activeLanes (s.core .troika) w gn = n := rfl
      obtain ⟨t, ht, hret⟩ := issue_putAcc hr (a := a)
        (x := fun c => (c.ar a).toInt + dotVal w (activeLanes c w gn) (c.vr vs1) (c.vr vs2)) rfl
      exact ⟨t, (issue_congr (retire_congr (by simp only [hn, h0, if_false]))).trans ht, hret⟩

/-- Settles O15: each active lane takes its value of R72, and the accumulator its sum. -/
theorem vectorArithmetic : Obligations.VectorArithmetic := ⟨vectorFixedResults, vectorAccumulateResults⟩

end Sys2Proof.Proofs
end

section
/-! The lane-moving and binary32 vector instructions (R54, R71 to R74). -/

namespace Sys2Proof.Proofs

open Sys2Proof Sys2Proof.Machine Sys2Proof.Safety Sys2Proof.Laws

/-! ### Lanes of any value -/

/-- Lanes that agree modulo the lane's range. -/
theorem retiresLanes_congr_mod {w : Bool} {vd : VReg} {n : Nat} {f f' : Nat → Int} {fl fl' : Nat → Word} {s t : State}
    (h : RetiresLanes w vd n f fl s t) (hf : ∀ k < laneCount w, (f k).bmod (2 ^ laneBits w) = (f' k).bmod (2 ^ laneBits w))
    (hfl : ∀ k, fl k = fl' k) : RetiresLanes w vd n f' fl' s t := by
  obtain ⟨ho, hpc, hg, ha, hv, hl, hx, hk⟩ := h
  refine ⟨ho, hpc, hg, ha, hv, fun k hkc => ?_, ?_, hk⟩
  · rw [hl k hkc, hf k hkc]
  · rwa [← funext hfl]

/-- The unsigned and the signed value of a word agree in every lane. -/
theorem bmod_toNat (w : Bool) (x : Word) : ((x.toNat : Int)).bmod (2 ^ laneBits w) = x.toInt.bmod (2 ^ laneBits w) := by
  rw [BitVec.toInt_eq_toNat_bmod]
  cases w
  · exact (Int.bmod_bmod_of_dvd (by decide)).symm
  · exact Int.bmod_bmod.symm

/-- A lane lies in its range. -/
theorem bmod_laneI (w : Bool) (v : VWord) (k : Nat) : (laneI w v k).bmod (2 ^ laneBits w) = laneI w v k := by
  cases w <;> exact BitVec.toInt_bmod_cancel _

/-- An instruction that sets every lane of a register from the core's state (R73). -/
theorem issue_setLanes {s : State} (hr : Ready .troika s) {w : Bool} {vd : VReg} {f : Nat → Int}
    {g : CoreState → CoreState} {v : VWord} (hg : g (s.core .troika) = (s.core .troika).setV vd v)
    (hv : ∀ k < laneCount w, laneI w v k = (f k).bmod (2 ^ laneBits w)) :
    ∃ t, issue .troika (retire .troika g) s = .next t ∧ RetiresLanes w vd (laneCount w) f (fun _ => 0) s t := by
  obtain ⟨t, ht, ho, hpc, hgr, ha, hvr, hf, hk⟩ := issue_retire_setV hr hg rfl (writesG_none ..)
  refine ⟨t, ht, ho, hpc, hgr, ha, fun r hr => (hvr r).trans (if_neg hr), fun k hkc => ?_, ?_, hk⟩
  · rw [hvr, if_pos rfl, if_pos hkc, hv k hkc]
  · rw [hf]
    cases w <;> rfl

theorem vectorMoveResults : Rules.VectorMoveResults := by
  intro s hr w vd vs1 vs2 gn g n c none
  refine ⟨fun op => trk_plain hr fun k => by cases op <;> rfl, ?splat, fun lane hlane => ?lane, ?narrow, ?widen⟩
  case splat =>
    exact issue_setLanes hr rfl fun k hk => by rw [laneI_mapLanes le_rfl, if_pos hk, bmod_toNat]
  case lane =>
    have hok : laneOk w lane = true := by cases w <;> simp_all [laneOk]
    have hlt : lane.toNat < laneCount w := by
      have := lane.isLt
      cases w
      · exact this
      · exact hlane rfl
    simp only [exec, execVins, execVext, execVbcast, trk]
    refine ⟨?ins, ?ext, ?bcast⟩
    case ins =>
      obtain ⟨t, ht, hret⟩ := issue_setLanes hr (w := w) (vd := vd) (f := fun k => if k = lane.toNat then (c.gr g).toInt
        else laneI w (c.vr vd) k) (g := fun c => c.setV vd (setLane w (c.vr vd) lane.toNat ((c.gr g).toNat : Int))) rfl
        (fun k hk => by
          rw [laneI_setLane hlt]
          split
          · exact bmod_toNat ..
          · exact (bmod_laneI ..).symm)
      exact ⟨t, (issue_congr (by simp only [hok, if_true])).trans ht, hret⟩
    case ext =>
      obtain ⟨t, ht, hret⟩ := issue_retire_writesG hr (rd := g) (v := wordI (laneI w (c.vr vs1) lane.toNat)) (fl := 0)
        (f := fun c => c.setG g (wordI (laneI w (c.vr vs1) lane.toNat))) (pc_setG ..) (writesG_setG ..)
      exact ⟨t, (issue_congr (by simp only [hok, if_true])).trans ht, hret⟩
    case bcast =>
      obtain ⟨t, ht, hret⟩ := trk_plain hr (w := w) (vd := vd) (gn := gn) (g := fun c _ => laneI w (c.vr vs1) lane.toNat)
        (f := fun _ => laneI w (c.vr vs1) lane.toNat) fun _ => rfl
      exact ⟨t, (issue_congr (by simp only [hok, if_true])).trans ht, hret⟩
  case narrow =>
    obtain ⟨t, ht, hret⟩ := issue_laneOp hr false vd gn (fun c k =>
      let r := narrowQ (if k < 4 then laneI true (c.vr vs1) k else laneI true (c.vr vs2) (k - 4))
      (r.1, if r.2 then fQSAT else 0))
    exact ⟨t, ht, retiresLanes_congr hret (fun k => by simp only [narrowQ, satI_eq, rshr_eq]; rfl)
      (fun k => by simp only [narrowQ, satI_eq, rshr_eq]; rfl)⟩
  case widen => exact trk_plain hr fun k => rfl

/-! ### binary32 lanes -/

/-- A lane of words keeps a word's value, read with its sign. -/
theorem trk_float {s : State} (hr : Ready .troika s) {vd : VReg} {gn : GReg} {g : CoreState → Nat → Word × Word}
    {f : Nat → Word × Word} (hf : ∀ k, g (s.core .troika) k = f k) :
    ∃ t, trk (laneOp true vd gn fun c k => floatLane (g c k)) s = .next t ∧
      RetiresLanes true vd (active s true gn) (fun k => (f k).1.toInt) (fun k => (f k).2) s t := by
  obtain ⟨t, ht, hret⟩ := issue_laneOp hr true vd gn (fun c k => floatLane (g c k))
  exact ⟨t, ht, retiresLanes_congr_mod hret (fun k _ => by rw [← hf]; exact bmod_toNat true _)
    fun k => by rw [← hf]; rfl⟩

theorem vectorFloatResults : Rules.VectorFloatResults := by
  intro s hr vd vs1 vs2 gn n c x y z lanes
  refine ⟨fun op => trk_float hr fun k => rfl, trk_float hr fun k => rfl, fun mx => trk_float hr fun k => rfl,
    trk_float hr fun k => rfl, ?_⟩
  exact trk_float hr (g := fun c k => ((fToQ (vecWord (c.vr vs1) k)).1,
    (fToQ (vecWord (c.vr vs1) k)).2.2 ||| flagIf (fToQ (vecWord (c.vr vs1) k)).2.1 32)) fun k => rfl

/-- Settles O16: lanes move and binary32 lanes take the values of the scalar instructions. -/
theorem vectorMovesAndFloat : Obligations.VectorMovesAndFloat := ⟨vectorMoveResults, vectorFloatResults⟩

end Sys2Proof.Proofs
end

section
/-! The lanes that the motor-control instructions write (R78 to R84): lanes counted through the registers, and pairs. -/

namespace Sys2Proof.Proofs

open Sys2Proof Sys2Proof.Machine Sys2Proof.Safety Sys2Proof.Laws

/-! ### One lane -/

theorem saturate_bmod (x : Int) : (saturate 16 x).bmod (2 ^ 16) = saturate 16 x := by
  have h : -32768 ≤ saturate 16 x ∧ saturate 16 x ≤ 32767 := by unfold saturate; omega
  exact Int.bmod_eq_of_le (by omega) (by omega)

theorem lane16_setLane {k : Nat} (hk : k < 8) (v : VWord) (x : Int) (j : Nat) :
    lane16 (setLane false v k x) j = if j = k then x.bmod (2 ^ 16) else lane16 v j := laneI_setLane hk v x j

/-- A lane counted through the registers, after another one is set. -/
theorem wideLane_setWideLane (c : CoreState) (vr : VReg) {j k : Nat} (hj : j < 16) (hk : k < 16) (x : Int) :
    wideLane (setWideLane c vr k x) vr j = if j = k then x.bmod (2 ^ 16) else wideLane c vr j := by
  have hreg : vr + BitVec.ofNat 3 (j / 8) = vr + BitVec.ofNat 3 (k / 8) ↔ j / 8 = k / 8 := by
    rw [BitVec.add_right_inj, ← BitVec.toNat_inj]
    simp
    omega
  simp only [wideLane, setWideLane, vr_setV, hreg]
  by_cases h8 : j / 8 = k / 8
  · have hmod : j % 8 = k % 8 ↔ j = k := by omega
    rw [if_pos h8, lane16_setLane (Nat.mod_lt _ (by decide)), h8]
    simp only [hmod]
  · have : j ≠ k := fun h => h8 (by rw [h])
    rw [if_neg h8, if_neg this]

/-! ### Several lanes -/

/-- The core after lanes 0 to m − 1 have been set to saturated values, with QSAT where one saturates. -/
def LanesPut (vr : VReg) (m : Nat) (f : Nat → Int) (c d : CoreState) : Prop :=
  d.pc = c.pc ∧ (∀ r, d.gr r = c.gr r) ∧ (∀ r, d.ar r = c.ar r) ∧ (∀ n, n ≠ cFSTAT → d.cx n = c.cx n) ∧
    d.cx cFSTAT = c.cx cFSTAT ||| (List.range m).foldl (fun x k => x ||| qsatIf 16 (f k)) 0 ∧
    (∀ k, k < 16 → wideLane d vr k = if k < m then saturate 16 (f k) else wideLane c vr k) ∧
    ∀ r, r ≠ vr → (r ≠ vr + 1 ∨ m ≤ 8) → d.vr r = c.vr r

theorem putLanes_succ (c : CoreState) (vr : VReg) (m : Nat) (f : Nat → Int) :
    putLanes c vr ((List.range (m + 1)).map f) =
      setWideLane ((putLanes c vr ((List.range m).map f)).qsat (decide (saturate 16 (f m) ≠ f m))) vr m (saturate 16 (f m)) := by
  simp [putLanes, List.range_succ, List.zipIdx_append, List.foldl_append, satI_eq]

theorem putLanes_lanesPut (c : CoreState) (vr : VReg) {m : Nat} (hm : m ≤ 16) (f : Nat → Int) :
    LanesPut vr m f c (putLanes c vr ((List.range m).map f)) := by
  induction m with
  | zero =>
    exact ⟨rfl, fun _ => rfl, fun _ => rfl, fun _ _ => rfl, by simp [putLanes], fun k _ => by simp [putLanes],
      fun _ _ _ => rfl⟩
  | succ m ih =>
    obtain ⟨hpc, hg, ha, hx, hf, hl, hv⟩ := ih (by omega)
    rw [putLanes_succ]
    generalize putLanes c vr ((List.range m).map f) = d at hpc hg ha hx hf hl hv ⊢
    refine ⟨?_, fun r => ?_, fun r => ?_, fun n hn => ?_, ?_, fun k hk => ?_, fun r hr hr1 => ?_⟩
    · simpa [setWideLane] using hpc
    · simpa [setWideLane] using hg r
    · simpa [setWideLane] using ha r
    · simpa [setWideLane, cx_qsat, hn] using hx n hn
    · simp only [setWideLane, cx_setV, cx_qsat, if_true, hf, List.range_succ, List.foldl_append, List.foldl_cons,
        List.foldl_nil, BitVec.or_assoc]
      rfl
    · have hq : wideLane (d.qsat (decide (saturate 16 (f m) ≠ f m))) vr k = wideLane d vr k := by simp [wideLane]
      rw [wideLane_setWideLane _ vr hk (by omega), saturate_bmod, hq, hl k hk]
      by_cases hkm : k = m
      · subst hkm
        simp
      · have : k < m + 1 ↔ k < m := by omega
        simp only [hkm, this, if_false]
    · have hout : r ≠ vr + BitVec.ofNat 3 (m / 8) := by
        rcases (by omega : m / 8 = 0 ∨ m / 8 = 1) with h | h <;> rw [h]
        · simpa using hr
        · exact hr1.resolve_right (by omega)
      simp only [setWideLane, vr_setV, if_neg hout, vr_qsat]
      exact hv r hr (hr1.imp id fun h => by omega)

/-! ### A pair -/

/-- The core after the lanes 2p and 2p + 1 have taken a pair, each saturated with QSAT. -/
def PairPut (vr : VReg) (p : BitVec 2) (u v : Int) (c d : CoreState) : Prop :=
  d.pc = c.pc ∧ (∀ r, d.gr r = c.gr r) ∧ (∀ r, r ≠ vr → d.vr r = c.vr r) ∧ (∀ r, d.ar r = c.ar r) ∧
    (∀ n, n ≠ cFSTAT → d.cx n = c.cx n) ∧ d.cx cFSTAT = c.cx cFSTAT ||| qsatIf 16 u ||| qsatIf 16 v ∧
    pairLane d vr p 0 = saturate 16 u ∧ pairLane d vr p 1 = saturate 16 v ∧
    ∀ k, k < 8 → k ≠ 2 * p.toNat → k ≠ 2 * p.toNat + 1 → lane16 (d.vr vr) k = lane16 (c.vr vr) k

theorem flagIf_or (a b : Bool) (f : Word) : flagIf (a || b) f = flagIf a f ||| flagIf b f := by
  cases a <;> cases b <;> simp [flagIf]

theorem cx_qsat_fstat (c : CoreState) (b : Bool) : (c.qsat b).cx cFSTAT = c.cx cFSTAT ||| flagIf b 32 := by
  rw [cx_qsat, if_pos rfl]

theorem putPair_pairPut (c : CoreState) (vr : VReg) (p : BitVec 2) (u v : Int) : PairPut vr p u v c (putPair c vr p u v) := by
  have hp := p.isLt
  have hlane : ∀ k, lane16 ((putPair c vr p u v).vr vr) k = if k = 2 * p.toNat + 1 then saturate 16 v
      else if k = 2 * p.toNat then saturate 16 u else lane16 (c.vr vr) k := by
    intro k
    simp only [putPair, vr_setV, if_true, vr_qsat, satI_eq]
    rw [lane16_setLane (by omega), lane16_setLane (by omega), saturate_bmod, saturate_bmod]
  refine ⟨?_, fun r => ?_, fun r hr => ?_, fun r => ?_, fun n hn => ?_, ?_, ?_, ?_, fun k hk h0 h1 => ?_⟩
  · simp [putPair]
  · simp [putPair]
  · simp [putPair, vr_setV, hr]
  · simp [putPair]
  · simp [putPair, cx_qsat, hn]
  · simp only [putPair, cx_setV, cx_qsat_fstat, satI_eq, flagIf_or, BitVec.or_assoc]
    rfl
  · rw [pairLane, hlane, if_neg (by omega), if_pos (by omega)]
  · rw [pairLane, hlane, if_pos rfl]
  · rw [hlane, if_neg h1, if_neg h0]

/-! ### Square roots -/

theorem isqrtFrom_bounds (k n r : Nat) (hlo : r * r ≤ n) (hhi : n < (r + 2 ^ k) * (r + 2 ^ k)) :
    isqrtFrom k n r * isqrtFrom k n r ≤ n ∧ n < (isqrtFrom k n r + 1) * (isqrtFrom k n r + 1) := by
  induction k generalizing r with
  | zero => exact ⟨hlo, hhi⟩
  | succ k ih =>
    simp only [isqrtFrom]
    split
    · next h => exact ih _ h (by rwa [add_assoc, ← two_mul, ← pow_succ'])
    · next h => exact ih _ hlo (not_le.mp h)

/-- The integer square root of a number of the model's range. -/
theorem isqrt_eq_sqrt {n : Nat} (h : n < 2 ^ 192) : isqrt n = Nat.sqrt n := by
  obtain ⟨hlo, hhi⟩ := isqrtFrom_bounds 96 n 0 (Nat.zero_le _) (by
    rw [zero_add, ← pow_add]
    exact h)
  exact (Nat.eq_sqrt.mpr ⟨hlo, hhi⟩)

/-! ### Instructions that write lanes -/

/-- An instruction of the Troika that changes its registers retires with what its change leaves, the cycle count apart. -/
theorem issue_put {s : State} (hr : Ready .troika s) {f : CoreState → CoreState} {d : CoreState}
    (hf : f (s.core .troika) = d) (hpc : d.pc = (s.core .troika).pc)
    (hx : ∀ n, n ≠ cFSTAT → d.cx n = (s.core .troika).cx n) :
    ∃ t, issue .troika (retire .troika f) s = .next t ∧ OnlyCore .troika s t ∧
      (t.core .troika).pc = (s.core .troika).pc + 4 ∧ (∀ r, (t.core .troika).gr r = d.gr r) ∧
      (∀ r, (t.core .troika).vr r = d.vr r) ∧ (∀ r, (t.core .troika).ar r = d.ar r) ∧
      (t.core .troika).cx cFSTAT = d.cx cFSTAT ∧ KeepsControl .troika (s.core .troika) (t.core .troika) := by
  subst hf
  obtain ⟨t, ht, ho, hpc', hg, hv, ha, hx'⟩ := issue_retire hr f
  exact ⟨t, ht, ho, by rw [hpc', ← hpc]; rfl, hg, hv, ha, hx' cFSTAT fun _ => by decide,
    fun n hn hc => (hx' n hc).trans (hx n hn)⟩

end Sys2Proof.Proofs
end

section
/-! The transforms between frames: CLK, PRK, IPRK and SVM (R78 to R80). -/

namespace Sys2Proof.Proofs

open Sys2Proof Sys2Proof.Machine Sys2Proof.Safety Sys2Proof.Laws

/-! ### CLK (R78) -/

theorem clkSize_of {n : BitVec 4} (h : n = 0 ∨ 3 ≤ n.toNat ∧ n.toNat ≤ 12) : clkSize n = true := by
  simpa [clkSize] using h

theorem wideOk_of {n : BitVec 4} {vr : VReg} (h : n.toNat ≤ 8 ∨ vr ≠ 7) : wideOk n vr = true := by
  have hv : vr ≠ 7 → vr.toNat ≠ 7 := fun hv ht => hv (BitVec.eq_of_toNat_eq ht)
  simpa [wideOk] using h.imp id hv

/-- An output lane of a transform: the exact sum over the input lanes, rounded half up. -/
def clkSum (s : State) (inverse : Bool) (n : BitVec 4) (vr : VReg) (ax k : Nat) : Int :=
  roundHalfUp ((List.range n.toNat).foldl (fun z j =>
    z + coefficient s inverse ax k j * wideLane (s.core .troika) vr j) 0) 15

/-- What a transform leaves, forward or inverse. -/
theorem issue_clk {s : State} (hr : Ready .troika s) {n : BitVec 4} {vr : VReg} (ax : Fin 4)
    (hsize : n = 0 ∨ 3 ≤ n.toNat ∧ n.toNat ≤ 12) (hwide : n.toNat ≤ 8 ∨ vr ≠ 7) (inverse : Bool) :
    ∃ t d, trk (clkBody inverse n vr ax) s = .next t ∧ LanesPut vr n.toNat (clkSum s inverse n vr ax)
      (s.core .troika) d ∧
      OnlyCore .troika s t ∧ (t.core .troika).pc = (s.core .troika).pc + 4 ∧ (∀ r, (t.core .troika).gr r = d.gr r) ∧
      (∀ r, (t.core .troika).vr r = d.vr r) ∧ (∀ r, (t.core .troika).ar r = d.ar r) ∧
      (t.core .troika).cx cFSTAT = d.cx cFSTAT ∧ KeepsControl .troika (s.core .troika) (t.core .troika) := by
  have hput := putLanes_lanesPut (s.core .troika) vr (by omega : n.toNat ≤ 16) (clkSum s inverse n vr ax)
  obtain ⟨t, ht, hrest⟩ := issue_put hr (f := fun c => putLanes c vr ((List.range n.toNat).map
    (fun i => clkLane s inverse ax n.toNat i (wideLane c vr)))) (d := putLanes (s.core .troika) vr
      ((List.range n.toNat).map (clkSum s inverse n vr ax)))
        (by simp only [clkLane, rshr_eq]; rfl) hput.1 hput.2.2.2.1
  refine ⟨t, _, (issue_congr ?_).trans ht, hput, hrest⟩
  simp [clkBody, clkSize_of hsize, wideOk_of hwide]

theorem matrixTransform : Rules.MatrixTransform := by
  intro s hr n vr ax hsize hwide transformed
  have both : ∀ inverse, ∃ t, trk (clkBody inverse n vr ax) s = .next t ∧ transformed inverse t := by
    intro inverse
    obtain ⟨t, d, ht, ⟨-, dg, da, -, df, dl, dv⟩, ho, hpc, hg, hv, ha, hf, hk⟩ := issue_clk hr ax hsize hwide inverse
    have hlane : ∀ k, wideLane (t.core .troika) vr k = wideLane d vr k := fun k => by simp only [wideLane, hv]
    exact ⟨t, ht, ho, hpc, fun r => (hg r).trans (dg r), fun r => (ha r).trans (da r), hk, hf.trans df,
      fun k hk _ => (hlane k).trans (dl k hk), fun r hr h8 => (hv r).trans (dv r hr h8)⟩
  exact ⟨both false, both true⟩

/-! ### PRK and IPRK (R79) -/

/-- A lane is a Q1.15 value. -/
theorem lane16_bounds (v : VWord) (k : Nat) : -32768 ≤ lane16 v k ∧ lane16 v k ≤ 32767 := by
  have h1 := BitVec.toInt_lt (x := v.extractLsb' (16 * k) 16)
  have h2 := BitVec.le_toInt (x := v.extractLsb' (16 * k) 16)
  have heq : lane16 v k = (v.extractLsb' (16 * k) 16).toInt := rfl
  omega

theorem square_le {x : Int} (h : -32768 ≤ x ∧ x ≤ 32767) : 0 ≤ x * x ∧ x * x ≤ 2 ^ 30 :=
  ⟨mul_self_nonneg x, by nlinarith⟩

/-- The magnitude of a pair is the root of its square, rounded half up. -/
theorem magnitude_bounds {x y : Int} (hx : -32768 ≤ x ∧ x ≤ 32767) (hy : -32768 ≤ y ∧ y ≤ 32767) :
    0 ≤ magnitude x y ∧
      (2 * magnitude x y - 1) ^ 2 ≤ 4 * (x * x + y * y) + (if magnitude x y = 0 then 1 else 0) ∧
      4 * (x * x + y * y) < (2 * magnitude x y + 1) ^ 2 := by
  obtain ⟨hx0, hx1⟩ := square_le hx
  obtain ⟨hy0, hy1⟩ := square_le hy
  obtain ⟨n, hn⟩ := Int.eq_ofNat_of_zero_le (by omega : 0 ≤ x * x + y * y)
  have hlt : 4 * n < 2 ^ 192 := by
    have : (n : Int) ≤ 2 ^ 31 := by omega
    have : n ≤ 2 ^ 31 := by exact_mod_cast this
    calc 4 * n ≤ 4 * 2 ^ 31 := by omega
      _ < 2 ^ 192 := by norm_num
  obtain ⟨m, r, hm, hr, hcase⟩ : ∃ m r : Nat, magnitude x y = m ∧ r = Nat.sqrt (4 * n) ∧
    (r = 2 * m ∨ r + 1 = 2 * m) := by
    refine ⟨(Nat.sqrt (4 * n) + 1) / 2, _, ?_, rfl, by omega⟩
    simp only [magnitude, hn, Int.toNat_natCast, isqrt_eq_sqrt hlt]
    norm_cast
  have hlo : (r : Int) * r ≤ 4 * n := by
    rw [hr]
    exact_mod_cast Nat.sqrt_le (4 * n)
  have hhi : 4 * (n : Int) < (r + 1) * (r + 1) := by
    rw [hr]
    exact_mod_cast Nat.lt_succ_sqrt (4 * n)
  rw [hn, hm]
  refine ⟨Int.natCast_nonneg m, ?_, ?_⟩
  · by_cases h0 : m = 0
    · simp [h0]
    · have hle : 2 * (m : Int) - 1 ≤ r := by omega
      have h1 : 0 ≤ 2 * (m : Int) - 1 := by omega
      have hm0 : ¬ (m : Int) = 0 := by omega
      rw [if_neg hm0]
      nlinarith
  · have hle : (r : Int) + 1 ≤ 2 * m + 1 := by omega
    nlinarith

/-- A value drawn in between the bounds of an angle lies within them. -/
theorem clampI_within {slack : Int} (h1 : 2 ^ 81 ≤ slack) (h2 : slack ≤ 2 ^ 82) (v e : Int) :
    |clampI (-((slack - v) / 2 ^ 64)) ((v + slack) / 2 ^ 64) e * 2 ^ 64 - v| ≤ 2 ^ 82 := by
  rw [abs_le]
  simp only [clampI]
  omega

theorem atan2Free_bounds (q d : Int) :
    |atan2Free q d * 2 ^ 64 - (atan2Wide q d).1| ≤ 2 ^ 82 ∧ (d = 0 → q = 0 → atan2Free q d = 0) := by
  unfold atan2Free
  split
  · next h =>
    obtain ⟨rfl, rfl⟩ := h
    exact ⟨by decide, fun _ _ => rfl⟩
  · next h =>
    refine ⟨?_, fun hd hq => absurd ⟨hq, hd⟩ h⟩
    have hslack : ∀ b : Bool, 2 ^ 81 ≤ (if b then 2 ^ 82 else 2 ^ 82 - 2 ^ 14 : Int) ∧
        (if b then 2 ^ 82 else 2 ^ 82 - 2 ^ 14 : Int) ≤ 2 ^ 82 := by decide
    exact clampI_within (hslack _).1 (hslack _).2 _ _

/-- What an instruction that puts a pair leaves, beside a general register that it may write. -/
theorem issue_pair {s : State}
    (hr : Ready .troika s) {vr : VReg} {p : BitVec 2} {u v : Int} {f : CoreState → CoreState}
    {rd : GReg} {w : Word} (hf : f (s.core .troika) = (putPair (s.core .troika) vr p u v).setG rd w) :
    ∃ t, issue .troika (retire .troika f) s = .next t ∧ OnlyCore .troika s t ∧
      (t.core .troika).pc = (s.core .troika).pc + 4 ∧
      (∀ r, (t.core .troika).gr r = if r = rd ∧ r ≠ 0 then w else (s.core .troika).gr r) ∧
      KeepsControl .troika (s.core .troika) (t.core .troika) ∧
      (∀ r, (t.core .troika).ar r = (s.core .troika).ar r) ∧
      (t.core .troika).cx cFSTAT = (s.core .troika).cx cFSTAT ||| qsatIf 16 u ||| qsatIf 16 v ∧
      (∀ r, r ≠ vr → (t.core .troika).vr r = (s.core .troika).vr r) ∧
      pairLane (t.core .troika) vr p 0 = saturate 16 u ∧ pairLane (t.core .troika) vr p 1 = saturate 16 v ∧
      ∀ k, k < 8 → k ≠ 2 * p.toNat → k ≠ 2 * p.toNat + 1 →
        lane16 ((t.core .troika).vr vr) k = lane16 ((s.core .troika).vr vr) k := by
  obtain ⟨hpc, hg, hv, ha, hx, hfl, h0, h1, hl⟩ := putPair_pairPut (s.core .troika) vr p u v
  obtain ⟨t, ht, ho, tpc, tg, tv, ta, tf, tk⟩ := issue_put hr hf ((pc_setG ..).trans hpc)
    fun n hn => (cx_setG ..).trans (hx n hn)
  have tvr : ∀ r, (t.core .troika).vr r = (putPair (s.core .troika) vr p u v).vr r := fun r =>
    (tv r).trans (vr_setG ..)
  refine ⟨t, ht, ho, tpc, fun r => ?_, tk, fun r => (ta r).trans ((ar_setG ..).trans (ha r)),
    tf.trans ((cx_setG ..).trans hfl), fun r hr => (tvr r).trans (hv r hr), ?_, ?_, fun k hk k0 k1 => ?_⟩
  · rw [tg, gr_setG, hg]
  · rw [← h0, pairLane, pairLane, tvr]
  · rw [← h1, pairLane, pairLane, tvr]
  · rw [tvr, hl k hk k0 k1]

theorem setG_zero (c : CoreState) (w : Word) : c.setG 0 w = c := rfl

/-- A rotation of a pair: no general register changes. -/
theorem issue_rotation {s : State}
    (hr : Ready .troika s) {vr : VReg} {p : BitVec 2} {u v : Int} {f : CoreState → CoreState}
    (hf : f (s.core .troika) = putPair (s.core .troika) vr p u v) :
    ∃ t, issue .troika (retire .troika f) s = .next t ∧ (∀ r, (t.core .troika).gr r = (s.core .troika).gr r) ∧
      OnlyCore .troika s t ∧ (t.core .troika).pc = (s.core .troika).pc + 4 ∧
      (∀ r, r ≠ vr → (t.core .troika).vr r = (s.core .troika).vr r) ∧
      (∀ r, (t.core .troika).ar r = (s.core .troika).ar r) ∧ KeepsControl .troika (s.core .troika) (t.core .troika) ∧
      (t.core .troika).cx cFSTAT = (s.core .troika).cx cFSTAT ||| qsatIf 16 u ||| qsatIf 16 v ∧
      pairLane (t.core .troika) vr p 0 = saturate 16 u ∧ pairLane (t.core .troika) vr p 1 = saturate 16 v ∧
      ∀ k, k < 8 → k ≠ 2 * p.toNat → k ≠ 2 * p.toNat + 1 →
        lane16 ((t.core .troika).vr vr) k = lane16 ((s.core .troika).vr vr) k := by
  obtain ⟨t, ht, ho, hpc, hg, hk, ha, hfl, hv, h0, h1, hl⟩ := issue_pair hr (hf.trans (setG_zero _ 0).symm)
  exact ⟨t, ht, fun r => (hg r).trans (if_neg fun h => h.2 h.1), ho, hpc, hv, ha, hk, hfl, h0, h1, hl⟩

theorem rotation : Rules.Rotation := by
  intro s hr ga p vr c x y sn cs pair
  refine ⟨?forward, ?back, ?polar⟩
  case forward =>
    exact issue_rotation hr (by simp only [rotate, rshr_eq]; rfl)
  case back =>
    exact issue_rotation hr (u := roundHalfUp (x * cs - y * sn) 15) (v := roundHalfUp (y * cs + x * sn) 15) (by
      simp only [rotate, rshr_eq, mul_neg, sub_neg_eq_add, ← sub_eq_add_neg]
      rfl)
  case polar =>
    obtain ⟨hm0, hm1, hm2⟩ := magnitude_bounds (lane16_bounds _ _ : -32768 ≤ x ∧ x ≤ 32767)
      (lane16_bounds _ _ : -32768 ≤ y ∧ y ≤ 32767)
    obtain ⟨he, hz⟩ := atan2Free_bounds y x
    obtain ⟨t, ht, ho, hpc, hg, hk, ha, hfl, hv, h0, h1, hl⟩ := issue_pair hr (f := fun c =>
      let t := c.gr ga
      let d := pairLane c vr p 0
      let q := pairLane c vr p 1
      if true then (putPair c vr p (magnitude d q) 0).setG ga (t + wordI (atan2Free q d))
      else
        let r := rotate d q (-(sinQ15 t)) (cosQ15 t)
        putPair c vr p r.1 r.2) (if_pos rfl)
    exact ⟨t, magnitude x y, atan2Free y x, ht, ⟨ho, hpc, hv, ha, hk, hfl, h0, h1, hl⟩, hm0, hm1, hm2, hg, he, hz⟩

/-! ### SVM (R80) -/

/-- The phase voltages in units of 2^-40 of an output LSB. -/
def phaseH (y : Int) : Int := (y * 1996918623117814387).fdiv (2 ^ 21)
def phaseA (x : Int) : Int := x * 2 ^ 40
def phaseB (x y : Int) : Int := -(x * 2 ^ 39) + phaseH y
def phaseC (x y : Int) : Int := -(x * 2 ^ 39) - phaseH y

/-- Their span, and the voltages scaled where it exceeds the range. -/
def phaseSpan (x y : Int) : Int :=
  max (phaseA x) (max (phaseB x y) (phaseC x y)) - min (phaseA x) (min (phaseB x y) (phaseC x y))
def phaseScale (x y v : Int) : Int := if 2 ^ 55 < phaseSpan x y then (v * 2 ^ 55).fdiv (phaseSpan x y) else v

def phaseHigh (x y : Int) : Int :=
  max (phaseScale x y (phaseA x)) (max (phaseScale x y (phaseB x y)) (phaseScale x y (phaseC x y)))
def phaseLow (x y : Int) : Int :=
  min (phaseScale x y (phaseA x)) (min (phaseScale x y (phaseB x y)) (phaseScale x y (phaseC x y)))
def phaseMiddle (x y : Int) : Int :=
  phaseScale x y (phaseA x) + phaseScale x y (phaseB x y) + phaseScale x y (phaseC x y) - phaseHigh x y - phaseLow x y
def phaseDuty (x y v : Int) : Int := 2 ^ 54 + phaseScale x y v - (phaseHigh x y + phaseLow x y).fdiv 2

/-- The exact outputs of SVM. -/
def svmExact (x y : Int) : List Int :=
  [2 ^ 55 - phaseDuty x y (phaseA x), 2 ^ 55 - phaseDuty x y (phaseB x y), 2 ^ 55 - phaseDuty x y (phaseC x y),
    phaseHigh x y - phaseMiddle x y, phaseMiddle x y - phaseLow x y, 2 ^ 55 - (phaseHigh x y - phaseLow x y)]

theorem max3_eq (a b c : Int) : max3 [a, b, c] = max a (max b c) := by simp [max3, max_assoc]
theorem min3_eq (a b c : Int) : min3 [a, b, c] = min a (min b c) := by simp [min3, min_assoc]
theorem mid3_eq (a b c : Int) : mid3 [a, b, c] = a + b + c - max a (max b c) - min a (min b c) := by
  simp [mid3, max3_eq, min3_eq]

theorem svmPhases_eq (x y : Int) : svmPhases x y = [phaseA x, phaseB x y, phaseC x y] := by
  have hh : y * sqrt3 / 2 ^ 21 = phaseH y := (Int.fdiv_eq_ediv_of_nonneg _ (by positivity)).symm
  simp only [svmPhases, hh, phaseA, phaseB, phaseC]

theorem svmDuties_eq (x y : Int) :
    svmDuties x y = ([phaseDuty x y (phaseA x), phaseDuty x y (phaseB x y), phaseDuty x y (phaseC x y)],
      decide (2 ^ 55 < phaseSpan x y)) := by
  have hfdiv : ∀ z : Int, z.fdiv 2 = z / 2 := fun z => Int.fdiv_eq_ediv_of_nonneg _ (by decide)
  have hscale : (if decide (2 ^ 55 < phaseSpan x y) then
      [phaseA x, phaseB x y, phaseC x y].map (fun v =>
        v * 2 ^ 55 / phaseSpan x y) else [phaseA x, phaseB x y, phaseC x y]) =
      [phaseScale x y (phaseA x), phaseScale x y (phaseB x y), phaseScale x y (phaseC x y)] := by
    by_cases hs : 2 ^ 55 < phaseSpan x y
    · have hpos : 0 ≤ phaseSpan x y := le_trans (by norm_num) hs.le
      simp only [phaseScale, hs, decide_true, if_true, List.map_cons, List.map_nil, Int.fdiv_eq_ediv_of_nonneg _ hpos]
    · simp only [phaseScale, hs, decide_false, Bool.false_eq_true, if_false]
  have hspan : max3 [phaseA x, phaseB x y, phaseC x y] - min3 [phaseA x, phaseB x y, phaseC x y] = phaseSpan x y := by
    rw [max3_eq, min3_eq]
    rfl
  simp only [svmDuties, svmPhases_eq, hspan, hscale]
  simp only [max3_eq, min3_eq, phaseDuty, hfdiv]
  rfl

/-- The scaled voltages span no more than the range. -/
theorem phase_span_le (x y : Int) : phaseHigh x y - phaseLow x y ≤ 2 ^ 55 := by
  by_cases hs : 2 ^ 55 < phaseSpan x y
  · have hpos : 0 < phaseSpan x y := lt_trans (by norm_num) hs
    have hscale : ∀ v, phaseScale x y v = v * 2 ^ 55 / phaseSpan x y := fun v => by
      rw [phaseScale, if_pos hs, Int.fdiv_eq_ediv_of_nonneg _ hpos.le]
    have hmono : ∀ {v w : Int}, v ≤ w → phaseScale x y v ≤ phaseScale x y w := fun h => by
      rw [hscale, hscale]
      exact Int.ediv_le_ediv hpos (by omega)
    have htop : phaseScale x y (max (phaseA x) (max (phaseB x y) (phaseC x y))) =
        phaseScale x y (min (phaseA x) (min (phaseB x y) (phaseC x y))) + 2 ^ 55 := by
      rw [hscale, hscale, ← Int.add_mul_ediv_left _ _ hpos.ne']
      congr 1
      unfold phaseSpan
      ring
    have hhigh : phaseHigh x y ≤ phaseScale x y (max (phaseA x) (max (phaseB x y) (phaseC x y))) :=
      max_le (hmono (le_max_left _ _)) (max_le (hmono (by omega)) (hmono (by omega)))
    have hlow : phaseScale x y (min (phaseA x) (min (phaseB x y) (phaseC x y))) ≤ phaseLow x y :=
      le_min (hmono (min_le_left _ _)) (le_min (hmono (by omega)) (hmono (by omega)))
    omega
  · have hscale : ∀ v, phaseScale x y v = v := fun v => if_neg hs
    simp only [phaseHigh, phaseLow, hscale]
    exact not_lt.mp hs

theorem roundFree_within (k : Nat) (a b v : Int) : |roundFree k a b v * 2 ^ 40 - v| < 2 ^ 40 := by
  rw [abs_lt]
  simp only [roundFree]
  split_ifs <;> omega

theorem svmSector_eq (x y : Int) : svmSector x y = (if x = 0 ∧ y = 0 then 1
      else if 0 < x ∧ 0 ≤ y ∧ y * y < 3 * x * x then 1 else if 0 < y ∧ 3 * x * x ≤ y * y then 2
      else if x < 0 ∧ 0 < y then 3 else if x < 0 ∧ y * y < 3 * x * x then 4 else if 3 * x * x ≤ y * y then 5 else 6) := by
  have hx : x = 0 ∨ 0 < 3 * x * x := by
    by_cases h : x = 0
    · exact .inl h
    · right
      have := mul_self_pos.mpr h
      nlinarith
  have hy : y = 0 → y * y = 0 := fun h => by simp [h]
  have hxx : x = 0 → 3 * x * x = 0 := fun h => by simp [h]
  have hyy : 0 ≤ y * y := mul_self_nonneg y
  unfold svmSector
  generalize 3 * x * x = xx at *
  generalize y * y = yy at *
  simp only [decide_eq_true_eq]
  split_ifs <;> omega

/-- The outputs of SVM, each rounded to a neighbour where it is not exact. -/
def svmOut (x y : Int) (k : Nat) : Int := roundFree k x y ((svmExact x y).getD k 0)

/-- The lanes that SVM writes. -/
def svmLane (x y : Int) (k : Nat) : Int :=
  if k < 3 then clampI 0 0x7FFF (svmOut x y k) else if k < 5 then saturate 16 (svmOut x y k) else min
    (svmOut x y k) 0x7FFF

theorem svmOut_five_nonneg (x y : Int) : 0 ≤ svmOut x y 5 := by
  have h : svmOut x y 5 = roundFree 5 x y (2 ^ 55 - (phaseHigh x y - phaseLow x y)) := rfl
  have hle := phase_span_le x y
  have hdiv : 0 ≤ (2 ^ 55 - (phaseHigh x y - phaseLow x y)) / 2 ^ 40 := Int.ediv_nonneg (by omega) (by norm_num)
  rw [h, roundFree]
  split_ifs <;> omega

/-- The lanes of SVM stand in their format: putting them sets no flag. -/
theorem svmLane_fits (x y : Int) {k : Nat} (hk : k < 6) : saturate 16 (svmLane x y k) = svmLane x y k := by
  have h5 := svmOut_five_nonneg x y
  unfold svmLane
  split_ifs
  · unfold saturate clampI
    omega
  · unfold saturate
    omega
  · obtain rfl : k = 5 := by omega
    unfold saturate
    omega

/-- What SVM does to the core before it retires. -/
def svmCore (ga : GReg) (p : BitVec 2) (vr : VReg) (c : CoreState) : CoreState :=
  let a := pairLane c vr p 0
  let b := pairLane c vr p 1
  let (d, scaled) := svmDuties a b
  let u := (d.zipIdx).map (fun e => clampI 0 0x7FFF (roundFree e.2 a b (2 ^ 55 - e.1)))
  let l3 := satI 16 (roundFree 3 a b (max3 d - mid3 d))
  let l4 := satI 16 (roundFree 4 a b (mid3 d - min3 d))
  let l5 := min (roundFree 5 a b (2 ^ 55 - (max3 d - min3 d))) 0x7FFF
  let c := c.qsat (scaled || l3.2 || l4.2)
  (putLanes c vr (u ++ [l3.1, l4.1, l5])).setG ga (word (svmSector a b))

theorem execSvm_eq (ga : GReg) (p : BitVec 2) (vr : VReg) (s : State) :
    exec (.svm ga p vr) s = trk (retire .troika (svmCore ga p vr)) s := rfl

/-- The core with the flag that SVM sets for itself. -/
def svmFlagged (x y : Int) (c : CoreState) : CoreState :=
  c.qsat (decide (2 ^ 55 < phaseSpan x y) || decide (saturate 16 (svmOut x y 3) ≠ svmOut x y 3) ||
    decide (saturate 16 (svmOut x y 4) ≠ svmOut x y 4))

/-- The lanes and the flags of the model are those. -/
theorem svmCore_eq (c : CoreState) (ga : GReg) (p : BitVec 2) (vr : VReg) {a b : Int} (ha : pairLane c vr p 0 = a)
    (hb : pairLane c vr p 1 = b) : svmCore ga p vr c =
      (putLanes (svmFlagged a b c) vr ((List.range 6).map (svmLane a b))).setG ga (word (svmSector a b)) := by
  have h3 : max3 [phaseDuty a b (phaseA a), phaseDuty a b (phaseB a b), phaseDuty a b (phaseC a b)] -
      mid3 [phaseDuty a b (phaseA a), phaseDuty a b (phaseB a b), phaseDuty a b (phaseC a b)] =
        phaseHigh a b - phaseMiddle a b := by
    rw [max3_eq, mid3_eq]
    unfold phaseMiddle phaseHigh phaseLow phaseDuty
    omega
  have h4 : mid3 [phaseDuty a b (phaseA a), phaseDuty a b (phaseB a b), phaseDuty a b (phaseC a b)] -
      min3 [phaseDuty a b (phaseA a), phaseDuty a b (phaseB a b), phaseDuty a b (phaseC a b)] =
        phaseMiddle a b - phaseLow a b := by
    rw [min3_eq, mid3_eq]
    unfold phaseMiddle phaseHigh phaseLow phaseDuty
    omega
  have h5 : max3 [phaseDuty a b (phaseA a), phaseDuty a b (phaseB a b), phaseDuty a b (phaseC a b)] -
      min3 [phaseDuty a b (phaseA a), phaseDuty a b (phaseB a b), phaseDuty a b (phaseC a b)] =
        phaseHigh a b - phaseLow a b := by
    rw [min3_eq, max3_eq]
    unfold phaseHigh phaseLow phaseDuty
    omega
  simp only [svmCore, ha, hb, svmDuties_eq, h3, h4, h5, satI_eq]
  rfl

theorem wideLane_of_lt (c : CoreState) (vr : VReg) {k : Nat} (hk : k < 8) : wideLane c vr k = lane16 (c.vr vr) k := by
  simp [wideLane, Nat.div_eq_of_lt hk, Nat.mod_eq_of_lt hk]

/-- Lanes that fit set no flag. -/
theorem or_flags_fit {m : Nat} {f : Nat → Int} (hf : ∀ k < m, saturate 16 (f k) = f k) (w : Word) :
    w ||| (List.range m).foldl (fun x k => x ||| qsatIf 16 (f k)) 0 = w := by
  have hzero : (List.range m).foldl (fun x k => x ||| qsatIf 16 (f k)) (0 : Word) = 0#32 := by
    induction m with
    | zero => rfl
    | succ m ih =>
      rw [List.range_succ, List.foldl_append, ih fun k hk => hf k (by omega)]
      simp [qsatIf, flagIf, hf m (by omega)]
  rw [hzero, BitVec.or_zero]

/-- The zero vector gives half a period to every phase. -/
theorem svmExact_zero : svmExact 0 0 = [2 ^ 54, 2 ^ 54, 2 ^ 54, 0, 0, 2 ^ 55] := by decide

theorem svmLane_zero : (∀ k, k < 3 → svmLane 0 0 k = 0x4000) ∧ svmLane 0 0 5 = 0x7FFF := by
  have hround : ∀ (k : Nat) (n : Int), roundFree k 0 0 (n * 2 ^ 40) = n := fun k n => by
    simp [roundFree]
  have h54 : (2 ^ 54 : Int) = 0x4000 * 2 ^ 40 := by norm_num
  have h55 : (2 ^ 55 : Int) = 0x8000 * 2 ^ 40 := by norm_num
  refine ⟨fun k hk => ?_, ?_⟩
  · interval_cases k <;> simp only [svmLane, svmOut, svmExact_zero, List.getD_cons_zero, List.getD_cons_succ, h54, hround] <;> rfl
  · simp only [svmLane, svmOut, svmExact_zero, List.getD_cons_zero, List.getD_cons_succ, h55, hround]
    rfl

theorem modulation : Rules.Modulation := by
  intro s hr ga p vr c x y one h a0 b0 c0 span scale high low middle duty exact sector
  obtain ⟨pc, pg, pa, px, pf, pl, pv⟩ := putLanes_lanesPut (svmFlagged x y c) vr (by decide : 6 ≤ 16) (svmLane x y)
  obtain ⟨t, ht, ho, tpc, tg, tv, ta, tf, tk⟩ := issue_put hr (svmCore_eq c ga p vr rfl rfl)
    ((pc_setG ..).trans (pc.trans (pc_qsat ..))) fun n hn => (cx_setG ..).trans ((px n hn).trans (by
      rw [svmFlagged, cx_qsat, if_neg hn]))
  have tvr : ∀ r, (t.core .troika).vr r = (putLanes (svmFlagged x y c) vr ((List.range 6).map (svmLane x y))).vr r :=
    fun r =>
    (tv r).trans (vr_setG ..)
  have lane : ∀ k, k < 8 → lane16 ((t.core .troika).vr vr) k = if k < 6 then svmLane x y k else lane16 (c.vr vr) k :=
    by
    intro k hk
    have hq : (svmFlagged x y c).vr vr = c.vr vr := vr_qsat ..
    rw [tvr, ← wideLane_of_lt _ vr hk, pl k (by omega), wideLane_of_lt _ vr hk, hq]
    split
    · next h6 => exact svmLane_fits x y h6
    · rfl
  refine ⟨t, svmOut x y, ht, fun k _ => roundFree_within .., fun k hk => ?_, lane 3 (by decide), lane 4 (by decide),
    ?_, lane 6 (by decide), lane 7 (by decide), fun r => ?_, ?_, ?_, ho, tpc, fun r hr => ?_, fun r => ?_, tk⟩
  · rw [lane k (by omega), if_pos (by omega), svmLane, if_pos hk, clampI]
    omega
  · rw [lane 5 (by decide)]
    exact min_comm _ _
  · rw [tg, gr_setG, pg, svmSector_eq]
    split
    · rfl
    · exact gr_qsat ..
  · rw [tf, cx_setG, pf, or_flags_fit fun k hk => svmLane_fits x y hk, svmFlagged, cx_qsat_fstat,
      flagIf_or, flagIf_or, ← BitVec.or_assoc, ← BitVec.or_assoc]
    rfl
  · intro hx hy
    rw [hx, hy] at lane
    exact ⟨fun k hk => (lane k (by omega)).trans ((if_pos (by omega)).trans (svmLane_zero.1 k hk)),
      (lane 5 (by decide)).trans svmLane_zero.2⟩
  · rw [tvr, pv r hr (.inr (by decide))]
    exact vr_qsat ..
  · rw [ta, ar_setG, pa]
    exact ar_qsat ..

/-- Settles O17: the transforms leave their exact sums rounded, and SVM the duties of its vector. -/
theorem frameTransforms : Obligations.FrameTransforms := ⟨matrixTransform, rotation, modulation⟩

end Sys2Proof.Proofs
end

section
/-! The waveform table and the limits: ATAB, SAT and SAT.C (R75, R76, R78, R81, R84, R91). -/

namespace Sys2Proof.Proofs

open Sys2Proof Sys2Proof.Machine Sys2Proof.Safety Sys2Proof.Laws

/-! ### Sizes that are illegal -/

theorem wideOk_false {n : BitVec 4} {vr : VReg} (h : 8 < n.toNat ∧ vr = 7) : wideOk n vr = false := by
  obtain ⟨h8, rfl⟩ := h
  simp [wideOk, h8]

theorem clkSize_false {n : BitVec 4} (h : n.toNat = 1 ∨ n.toNat = 2 ∨ 12 < n.toNat) : clkSize n = false := by
  have h0 : n ≠ 0 := by
    rintro rfl
    simp at h
  simp only [clkSize, h0, decide_false, Bool.false_or, Bool.and_eq_false_iff, decide_eq_false_iff_not]
  omega

/-- An instruction that is illegal takes cause 0x01 at its own pc. -/
theorem illegalSizes : Rules.IllegalSizes := by
  intro s hr hexc hvb ga gb n vr ax reads c illegal
  have hm : MayTrap .troika s := ⟨hexc, fun _ => hvb⟩
  have alone : ∀ {i : Instr}, (∃ body, exec i s = issue .troika body s ∧ body s = illegalAlone .troika s) → illegal i := by
    rintro i ⟨body, hi, hb⟩
    obtain ⟨t, ht, ⟨-, hepc, hcause, -, -, hpc, -, hg, hv, -, -⟩, hmem, hregs⟩ := issue_failAlone hr hm hb
    exact ⟨t, hi.trans ht, hcause, hepc, hpc, hg, hv, hmem, hregs⟩
  refine ⟨fun h => ?_, fun h => ?_, fun h => ?_⟩
  · have hclk : (!clkSize n || !wideOk n vr) = true := by
      rcases (by tauto : (n.toNat = 1 ∨ n.toNat = 2 ∨ 12 < n.toNat) ∨ (8 < n.toNat ∧ vr = 7)) with h | h
      · simp [clkSize_false h]
      · simp [wideOk_false h]
    exact ⟨alone ⟨_, rfl, if_pos hclk⟩, alone ⟨_, rfl, if_pos hclk⟩⟩
  · refine alone ?_
    simp only [exec, execAtab, trk]
    exact ⟨_, rfl, if_pos (h.imp id wideOk_false)⟩
  · refine alone ?_
    simp only [exec, execSat, trk]
    exact ⟨_, rfl, if_pos h⟩

/-! ### ATAB -/

section
variable {addr : Nat → Nat} {env : Nat → Env} {body : State → State} {s : State}

/-- Entries that are good and met by nothing are read through. -/
theorem atabReads_good (hq : ∀ k, Quiet (env k)) {ks : List Nat} (hg : ∀ k ∈ ks, s.poisoned (addr k) = false) :
    atabReads addr env body ks s = body s := by
  induction ks with
  | nil => rfl
  | cons k ks ih =>
    have hcheck : memCheck (addr k) (env k).ecc s = (s, true) := by simp [memCheck, hg k (by simp), (hq k).2.2]
    simp only [atabReads, (hq k).1, vote, hcheck, if_true]
    exact ih fun j hj => hg j (by simp [hj])

/-- The first entry that is uncorrectable ends the reads with its address. -/
theorem atabReads_poisoned (hq : ∀ k, Quiet (env k)) {pre post : List Nat} {k : Nat}
    (hg : ∀ j ∈ pre, s.poisoned (addr j) = false) (hk : s.poisoned (addr k) = true) :
    atabReads addr env body (pre ++ k :: post) s = failAlone .troika 0x0A (word (addr k)) (noteEcc true (addr k) s) := by
  induction pre with
  | nil => simp [atabReads, (hq k).1, vote, memCheck, hk]
  | cons j pre ih =>
    have hcheck : memCheck (addr j) (env j).ecc s = (s, true) := by simp [memCheck, hg j (by simp), (hq j).2.2]
    simp only [List.cons_append, atabReads, (hq j).1, vote, hcheck, if_true]
    exact ih fun i hi => hg i (by simp [hi])

end

/-! ### The values of ATAB (R81) -/

theorem busView_empty {s : State} (hb : s.troika.storeBuf = []) : busView s = s := by simp [busView, leadStores, hb]

theorem flagIf_any (f : Nat → Bool) (n : Nat) (w : Word) :
    flagIf ((List.range n).any f) w = (List.range n).foldl (fun x k => x ||| flagIf (f k) w) 0 := by
  induction n with
  | zero => rfl
  | succ n ih =>
    rw [List.range_succ, List.any_append, flagIf_or, ih, List.foldl_append]
    simp

theorem foldl_or_or (f g : Nat → Word) (n : Nat) :
    (List.range n).foldl (fun x k => x ||| f k ||| g k) 0 =
      (List.range n).foldl (fun x k => x ||| f k) 0 ||| (List.range n).foldl (fun x k => x ||| g k) 0 := by
  induction n with
  | zero => simp
  | succ n ih =>
    simp only [List.range_succ, List.foldl_append, List.foldl_cons, List.foldl_nil, ih]
    ac_rfl

/-- The address of a lane's entry, and the values that its lane takes. -/
def waveEntry (s : State) (ax : Fin 4) (ga : GReg) (k : Nat) : Nat :=
  waveAddr ax (atabAngle s ax ((s.core .troika).gr ga) k)
def waveExact (s : State) (ax : Fin 4) (ga : GReg) (k : Nat) : Int :=
  let angle := atabAngle s ax ((s.core .troika).gr ga) k
  let e := s.word32 (waveAddr ax angle)
  (e.extractLsb' 16 16).toInt + roundHalfUp ((e.extractLsb' 0 16).toInt * (angle.toNat % 2 ^ 18 : Nat)) 18
def waveOut (s : State) (ax : Fin 4) (ga gb : GReg) (k : Nat) : Int :=
  roundHalfUp ((((s.core .troika).gr gb).setWidth 16).toInt * saturate 16 (waveExact s ax ga k)) 15

theorem waveVal_eq (s : State) (ax : Fin 4) (ga : GReg) (k : Nat) :
    waveVal s ax (atabAngle s ax ((s.core .troika).gr ga) k) =
      (saturate 16 (waveExact s ax ga k), decide (saturate 16 (waveExact s ax ga k) ≠ waveExact s ax ga k)) := by
  have hround : ∀ v : Int, (v + 2 ^ 17) / 2 ^ 18 = roundHalfUp v 18 := fun v => rshr_eq v 18
  simp only [waveVal, hround, satI_eq]
  rfl

/-- What ATAB does to the core before it retires, every entry good. -/
def atabCore (s : State) (ax : Fin 4) (t : Word) (n : Nat) (vr : VReg) (m : Int) (c : CoreState) : CoreState :=
  let ws := (List.range n).map (fun k => waveVal s ax (atabAngle s ax t k))
  putLanes (c.qsat (ws.any Prod.snd)) vr (ws.map (fun w => rshr (m * w.1) 15))

theorem atabCore_eq (s : State) (ax : Fin 4) (ga gb : GReg) (n : Nat) (vr : VReg) (c : CoreState) :
    atabCore s ax ((s.core .troika).gr ga) n vr (q15 ((s.core .troika).gr gb)) c =
      putLanes (c.qsat ((List.range n).any fun k => decide (saturate 16 (waveExact s ax ga k) ≠ waveExact s ax ga k))) vr
        ((List.range n).map (waveOut s ax ga gb)) := by
  simp only [atabCore, List.map_map, List.any_map, Function.comp_def, waveVal_eq, rshr_eq]
  rfl

theorem laneEnv_quiet {reads : List (Fin 12 × Env)} (hq : ∀ e ∈ reads, Quiet e.2) (k : Nat) : Quiet (laneEnv reads k) := by
  unfold laneEnv
  cases hf : reads.find? (fun e => e.1.val = k) with
  | none => exact ⟨rfl, rfl, rfl⟩
  | some e => exact hq e (List.mem_of_find?_eq_some hf)

/-- ATAB is its reads of the table, which are not held. -/
theorem exec_atab {s u : State} (hb : s.troika.storeBuf = []) (hc : s.bringup.uncleared = []) {ga gb : GReg} {n : BitVec 4}
    {vr : VReg} (hn : n.toNat ≤ 12) (hw : n.toNat ≤ 8 ∨ vr ≠ 7) {ax : Fin 4} {reads : List (Fin 12 × Env)}
    (hu : atabReads (waveEntry s ax ga) (laneEnv reads) (fun x => retire .troika (atabCore x ax ((s.core .troika).gr ga)
      n.toNat vr (q15 ((s.core .troika).gr gb))) x) (List.range n.toNat) s = u)
    (hh : u.troika.heldAccess = s.troika.heldAccess) :
    exec (.atab ga gb n vr ax reads) s = issue .troika (fun _ => u) s := by
  have hlegal : ¬(12 < n.toNat ∨ wideOk n vr = false) := by
    rw [wideOk_of hw]
    simp [hn]
  simp only [exec, execAtab, trk]
  refine issue_congr ?_
  rw [if_neg hlegal]
  refine (heldBy_of_not_held ?_).trans ?_ <;>
    simp only [busView_empty hb, waitFor_of_cleared hc, ite_self]
  · exact (congrArg (fun x => x.troika.heldAccess) hu).trans hh
  · exact hu

theorem wideLane_congr {c d : CoreState} (h : ∀ r, d.vr r = c.vr r) (vr : VReg) (k : Nat) :
    wideLane d vr k = wideLane c vr k := by
  simp only [wideLane, h]

/-- A trap whose cause has no issue slot, made in a state where an error was noted. -/
theorem issue_trapAlone {s u : State} (hr : Ready .troika s) (hm : MayTrap .troika u) (ho : OnlyEvents s u) (code : Nat)
    (a : Word) :
    ∃ t, issue .troika (fun _ => failAlone .troika code a u) s = .next t ∧
      HandlerEntry (word code) (s.core .troika).pc a (s.core .troika) (t.core .troika) ∧ t.mem = s.mem := by
  obtain ⟨t, ht, he, hmem, -⟩ := issue_enters hr hm ((congrArg Troika.imprecise ho.troika).trans hr.2) (n := 0)
    (body := fun _ => failAlone .troika code a u) (by rw [failAlone, takeAlone, ecauseIn_false]; rfl)
  rw [ho.core] at he
  exact ⟨t, ht, he, hmem.trans ho.mem⟩

theorem waveformTable : Rules.WaveformTable := by
  intro s hr hb hc ga gb n vr ax reads hn hw hq c angle entry e wave out
  have hentry : ∀ k, waveEntry s ax ga k = entry k := fun k => by
    simp only [waveEntry, waveAddr, Nat.shiftRight_eq_div_pow]
    rfl
  have hwave : ∀ k, waveExact s ax ga k = wave k := fun k => by
    simp only [waveExact, wave, e, ← hentry]
    rfl
  have hout : ∀ k, waveOut s ax ga gb k = out k := fun k => by
    simp only [waveOut, hwave]
    rfl
  refine ⟨fun hgood => ?_, fun k hk hpre hbad hexc hvb => ?_⟩
  · have hread := atabReads_good (addr := waveEntry s ax ga) (s := s) (body := fun x => retire .troika (atabCore x ax
        ((s.core .troika).gr ga) n.toNat vr (q15 ((s.core .troika).gr gb))) x) (laneEnv_quiet hq)
      (ks := List.range n.toNat) fun k hk => hentry k ▸ hgood k (List.mem_range.mp hk)
    obtain ⟨lpc, lg, la, lx, lf, ll, lv⟩ := putLanes_lanesPut (c.qsat ((List.range n.toNat).any fun k =>
      decide (saturate 16 (waveExact s ax ga k) ≠ waveExact s ax ga k))) vr (by omega : n.toNat ≤ 16) (waveOut s ax ga gb)
    obtain ⟨t, ht, ho, hpc, hg, hv, ha, hf, hk⟩ := issue_put hr (atabCore_eq s ax ga gb n.toNat vr c)
      (lpc.trans (pc_qsat ..)) fun m hm => (lx m hm).trans (by rw [cx_qsat, if_neg hm])
    refine ⟨t, (exec_atab hb hc hn hw hread rfl).trans ht, ho, hpc, fun r => ?_, fun r => ?_, hk, ?_, fun k hk16 _ => ?_,
      fun r hr h8 => ?_⟩
    · rw [hg, lg]
      exact gr_qsat ..
    · rw [ha, la]
      exact ar_qsat ..
    · rw [hf, lf, cx_qsat_fstat, flagIf_any, BitVec.or_assoc, foldl_or_or]
      simp only [hwave, hout]
      rfl
    · rw [wideLane_congr hv, ll k hk16, hout, wideLane_congr (vr_qsat _ _)]
    · rw [hv, lv r hr h8]
      exact vr_qsat ..
  · obtain ⟨m, hm⟩ := Nat.exists_eq_add_of_lt hk
    have hsplit : List.range n.toNat = List.range k ++ k :: (List.range m).map (fun x => k + (x + 1)) := by
      rw [hm, Nat.add_assoc, List.range_add, List.range_succ_eq_map, List.map_cons, List.map_map]
      rfl
    have hnote := noteEcc_true_onlyEvents s (entry k)
    have hread := atabReads_poisoned (addr := waveEntry s ax ga) (s := s) (body := fun x => retire .troika (atabCore x ax
        ((s.core .troika).gr ga) n.toNat vr (q15 ((s.core .troika).gr gb))) x) (laneEnv_quiet hq)
      (pre := List.range k) (post := (List.range m).map (fun x => k + (x + 1))) (k := k)
      (fun j hj => hentry j ▸ hpre j (List.mem_range.mp hj)) (hentry k ▸ hbad)
    rw [← hsplit, hentry] at hread
    have hmay : MayTrap .troika (noteEcc true (entry k) s) := mayTrap_of_onlyEvents hnote ⟨hexc, fun _ => hvb⟩
    obtain ⟨t, ht, ⟨-, hepc, hcause, haddr, -, hpc, -, hg, hv, -, hf⟩, hmem⟩ :=
      issue_trapAlone hr hmay hnote 0x0A (word (entry k))
    refine ⟨t, (exec_atab hb hc hn hw hread ?_).trans ht, hcause, haddr, hepc, hpc, hg, hv, hf, hmem⟩
    rw [failAlone, takeAlone, enterException_eq hmay]
    exact (setCore_frame ..).1.trans (congrArg Troika.heldAccess hnote.troika)

/-! ### SAT (R84) -/

/-- An instruction that sets the lanes below a count retires so, with no flag. -/
theorem issue_mapLanes {s : State} (hr : Ready .troika s) {w : Bool} {vd : VReg} {n : Nat} (hn : n ≤ laneCount w)
    {f : Nat → Int} {g : CoreState → CoreState}
    (hg : g (s.core .troika) = (s.core .troika).setV vd (mapLanes w n ((s.core .troika).vr vd) f)) :
    ∃ t, issue .troika (retire .troika g) s = .next t ∧ RetiresLanes w vd n f (fun _ => 0) s t := by
  obtain ⟨t, ht, ho, hpc, hgr, ha, hv, hf, hk⟩ := issue_retire_setV hr hg rfl (writesG_none ..)
  have hzero : ∀ m : Nat, (List.range m).foldl (fun x _ => x ||| (0 : Word)) 0 = 0 := fun m => by
    induction m with
    | zero => rfl
    | succ m ih => rw [List.range_succ, List.foldl_append, ih]; rfl
  refine ⟨t, ht, ho, hpc, hgr, ha, fun r hr => (hv r).trans (if_neg hr), fun k _ => ?_, ?_, hk⟩
  · rw [hv, if_pos rfl, laneI_mapLanes hn]
  · rw [hf, hzero]

/-! ### SAT.C (R84) -/

/-- A root of a ratio to one of its neighbours, no more than any whole number whose square reaches the ratio. -/
theorem rootFree_bounds (k : Nat) (a b : Int) {num den : Nat} (hd : 0 < den) (hn : num < 2 ^ 192) :
    ∃ r : Nat, rootFree k a b num den = r ∧ (r - 1) ^ 2 * den ≤ num ∧ num < (r + 1) ^ 2 * den ∧
      ∀ m : Nat, num ≤ m * m * den → r ≤ m := by
  have hroot : isqrt (num / den) = Nat.sqrt (num / den) := isqrt_eq_sqrt ((Nat.div_le_self ..).trans_lt hn)
  obtain ⟨r, hr⟩ : ∃ r, r = Nat.sqrt (num / den) := ⟨_, rfl⟩
  have hlo : r * r * den ≤ num := (Nat.mul_le_mul_right den (hr ▸ Nat.sqrt_le (num / den))).trans (Nat.div_mul_le_self ..)
  have hhi : num < (r + 1) * (r + 1) * den := (Nat.div_lt_iff_lt_mul hd).mp (hr ▸ Nat.lt_succ_sqrt (num / den))
  have below : (r - 1) ^ 2 * den ≤ r * r * den :=
    Nat.mul_le_mul_right den (by rw [pow_two]; exact Nat.mul_le_mul (Nat.sub_le ..) (Nat.sub_le ..))
  have above : (r + 1) * (r + 1) * den ≤ (r + 1 + 1) ^ 2 * den :=
    Nat.mul_le_mul_right den (by rw [pow_two]; exact Nat.mul_le_mul (by omega) (by omega))
  have reach : ∀ m : Nat, r * r * den < m * m * den → r < m := fun m h =>
    Nat.mul_self_lt_mul_self_iff.mp (Nat.lt_of_mul_lt_mul_right h)
  have reachLe : ∀ m : Nat, r * r * den ≤ m * m * den → r ≤ m := fun m h =>
    Nat.mul_self_le_mul_self_iff.mp (Nat.le_of_mul_le_mul_right h hd)
  simp only [rootFree, hroot, ← hr]
  by_cases hexact : r * r * den = num
  · refine ⟨r, by simp [hexact], below.trans hlo, by rwa [pow_two], fun m hm => reachLe m (hlo.trans hm)⟩
  · have hless : r * r * den < num := lt_of_le_of_ne hlo hexact
    by_cases hup : Config.roundUp k a b = true
    · exact ⟨r + 1, by simp [hexact, hup], by simpa [pow_two] using hlo, hhi.trans_le above,
        fun m hm => reach m (hless.trans_le hm)⟩
    · exact ⟨r, by simp [hexact, hup], below.trans hlo, by rwa [pow_two], fun m hm => (reach m (hless.trans_le hm)).le⟩

/-- A value with the sign of a lane and a root as its magnitude. -/
def signedRoot (v : Int) (r : Nat) : Int := if v < 0 then -(r : Int) else r

/-- The bounds of a root that R84 leaves a rounding. -/
def RootOf (r : Nat) (num den : Int) : Prop :=
  ((r - 1 : Nat) : Int) ^ 2 * den ≤ num ∧ num < ((r : Int) + 1) ^ 2 * den

theorem withSign_rootFree (k : Nat) (a b v : Int) {num den : Int} (hn : 0 ≤ num) (hd : 0 < den) (hlt : num < 2 ^ 192) :
    ∃ r : Nat, withSign v (rootFree k a b num.toNat den.toNat) = signedRoot v r ∧ RootOf r num den ∧
      ∀ m : Nat, num ≤ m * m * den → r ≤ m := by
  obtain ⟨n, rfl⟩ := Int.eq_ofNat_of_zero_le hn
  obtain ⟨d, rfl⟩ := Int.eq_ofNat_of_zero_le hd.le
  obtain ⟨r, hr, hlo, hhi, hm⟩ := rootFree_bounds k a b (by exact_mod_cast hd : 0 < d) (by exact_mod_cast hlt : n < 2 ^ 192)
  refine ⟨r, ?_, ⟨by exact_mod_cast hlo, by exact_mod_cast hhi⟩, fun m h => hm m (by exact_mod_cast h)⟩
  rw [Int.toNat_natCast, Int.toNat_natCast, hr]
  rfl

/-- A lane of a pair outside the limit is scaled no further than its own value. -/
theorem scaled_lane (k : Nat) (a b : Int) {v lim sq : Int} (hv : -32768 ≤ v ∧ v ≤ 32767) (hl : 0 ≤ lim ∧ lim ≤ 32767)
    (hlt : lim * lim < sq) :
    ∃ r : Nat, withSign v (rootFree k a b (v * v * lim * lim).toNat sq.toNat) = signedRoot v r ∧
      RootOf r (v * v * lim * lim) sq ∧ -32768 ≤ signedRoot v r ∧ signedRoot v r ≤ 32767 := by
  obtain ⟨hv0, hv1⟩ := square_le hv
  obtain ⟨hl0, hl1⟩ := square_le (by omega : -32768 ≤ lim ∧ lim ≤ 32767)
  have hnum : v * v * lim * lim = (v * v) * (lim * lim) := by ring
  have hn0 : 0 ≤ v * v * lim * lim := hnum ▸ mul_nonneg hv0 hl0
  have hn1 : v * v * lim * lim < 2 ^ 192 := by
    rw [hnum]
    calc v * v * (lim * lim) ≤ 2 ^ 30 * 2 ^ 30 := mul_le_mul hv1 hl1 hl0 (by norm_num)
      _ < 2 ^ 192 := by norm_num
  obtain ⟨r, hr, hroot, hm⟩ := withSign_rootFree k a b v hn0 (hl0.trans_lt hlt) hn1
  have hle : r ≤ v.natAbs := hm _ (by
    rw [hnum, ← Int.natAbs_mul_self (a := v)]
    exact mul_le_mul_of_nonneg_left hlt.le (by positivity))
  refine ⟨r, hr, hroot, ?_⟩
  unfold signedRoot
  split <;> omega

/-- The second lane on the circle lies within the limit. -/
theorem circle_lane (k : Nat) (a b v : Int) {d lim : Int} (hd : d * d ≤ lim * lim) (hl : 0 ≤ lim ∧ lim ≤ 32767) :
    ∃ r : Nat, withSign v (rootFree k a b (lim * lim - d * d).toNat 1) = signedRoot v r ∧
      RootOf r (lim * lim - d * d) 1 ∧ -32768 ≤ signedRoot v r ∧ signedRoot v r ≤ 32767 := by
  obtain ⟨hl0, hl1⟩ := square_le (by omega : -32768 ≤ lim ∧ lim ≤ 32767)
  have hd0 := mul_self_nonneg d
  obtain ⟨r, hr, hroot, hm⟩ := withSign_rootFree k a b v (num := lim * lim - d * d) (den := 1) (by omega) (by norm_num)
    (by norm_num; omega)
  have hle : r ≤ lim.toNat := hm _ (by
    rw [Int.toNat_of_nonneg hl.1]
    omega)
  refine ⟨r, hr, hroot, ?_⟩
  unfold signedRoot
  split <;> omega

/-- The limited pair as R84 gives it: within the limit unchanged; the results fit their lanes. -/
theorem satCircle_spec (mode : Bool) {lim x y : Int} (hl : 0 ≤ lim ∧ lim ≤ 32767) (hx : -32768 ≤ x ∧ x ≤ 32767)
    (hy : -32768 ≤ y ∧ y ≤ 32767) :
    let sq := x * x + y * y
    let x' := (satCircle mode lim x y).1
    let y' := (satCircle mode lim x y).2
    (sq ≤ lim * lim → x' = x ∧ y' = y) ∧
    (lim * lim < sq → mode = false → (∃ r, x' = signedRoot x r ∧ RootOf r (x * x * lim * lim) sq) ∧
      ∃ r, y' = signedRoot y r ∧ RootOf r (y * y * lim * lim) sq) ∧
    (lim * lim < sq → mode = true → x' = max (-lim) (min x lim) ∧
      ∃ r, y' = signedRoot y r ∧ RootOf r (lim * lim - x' * x') 1) ∧
    saturate 16 x' = x' ∧ saturate 16 y' = y' := by
  intro sq x' y'
  obtain ⟨hx0, hx1⟩ := square_le hx
  obtain ⟨hy0, hy1⟩ := square_le hy
  obtain ⟨hl0, hl1⟩ := square_le (by omega : -32768 ≤ lim ∧ lim ≤ 32767)
  obtain ⟨n, hn⟩ := Int.eq_ofNat_of_zero_le (by omega : 0 ≤ x * x + y * y)
  have fits : ∀ {v : Int}, -32768 ≤ v ∧ v ≤ 32767 → saturate 16 v = v := fun h => by
    unfold saturate
    omega
  by_cases hin : x * x + y * y ≤ lim * lim
  · have hres : satCircle mode lim x y = (x, y) := by simp [satCircle, hn, hn ▸ hin]
    have hx' : x' = x := congrArg Prod.fst hres
    have hy' : y' = y := congrArg Prod.snd hres
    rw [hx', hy']
    exact ⟨fun _ => ⟨rfl, rfl⟩, fun h => absurd hin (not_le.mpr h), fun h => absurd hin (not_le.mpr h), fits hx, fits hy⟩
  · have hout : lim * lim < sq := not_le.mp hin
    have hsq : ¬((((x * x + y * y).toNat : Nat) : Int) ≤ lim * lim) := by rwa [hn, Int.toNat_natCast, ← hn]
    cases mode with
    | false =>
      obtain ⟨r, hr, hroot, hfit⟩ := scaled_lane 1 x y hx hl hout
      obtain ⟨r2, hr2, hroot2, hfit2⟩ := scaled_lane 2 x y hy hl hout
      have hres : satCircle false lim x y = (signedRoot x r, signedRoot y r2) := by
        rw [← hr, ← hr2]
        simp only [satCircle, hsq, if_false, Bool.false_eq_true]
        rfl
      have hx' : x' = signedRoot x r := congrArg Prod.fst hres
      have hy' : y' = signedRoot y r2 := congrArg Prod.snd hres
      rw [hx', hy']
      exact ⟨fun h => absurd h hin, fun _ _ => ⟨⟨r, rfl, hroot⟩, r2, rfl, hroot2⟩, nofun, fits hfit, fits hfit2⟩
    | true =>
      have hclamp : clampI (-lim) lim x = max (-lim) (min x lim) := by
        unfold clampI
        omega
      have hd : clampI (-lim) lim x * clampI (-lim) lim x ≤ lim * lim := by
        have : -lim ≤ clampI (-lim) lim x ∧ clampI (-lim) lim x ≤ lim := by
          unfold clampI
          omega
        nlinarith
      obtain ⟨r, hr, hroot, hfit⟩ := circle_lane 0 x y y hd hl
      have hres : satCircle true lim x y = (clampI (-lim) lim x, signedRoot y r) := by
        rw [← hr]
        simp only [satCircle, hsq, if_false, if_true]
      have hx' : x' = clampI (-lim) lim x := congrArg Prod.fst hres
      have hy' : y' = signedRoot y r := congrArg Prod.snd hres
      rw [hx', hy']
      exact ⟨fun h => absurd h hin, nofun, fun _ _ => ⟨hclamp, r, rfl, hroot⟩, fits (by unfold clampI; omega), fits hfit⟩

theorem qsatIf_of_fits {v : Int} (h : saturate 16 v = v) : qsatIf 16 v = 0#32 := by simp [qsatIf, flagIf, h]

theorem toInt16_bounds (x : BitVec 16) : -32768 ≤ x.toInt ∧ x.toInt ≤ 32767 := by
  have h1 := BitVec.toInt_lt (x := x)
  have h2 := BitVec.le_toInt (x := x)
  omega

/-- A vector is its lanes. -/
theorem vword_ext {u v : VWord} (h : ∀ k, k < 8 → lane16 u k = lane16 v k) : u = v := by
  apply BitVec.eq_of_getLsbD_eq
  intro i hi
  have hlane : u.extractLsb' (16 * (i / 16)) 16 = v.extractLsb' (16 * (i / 16)) 16 :=
    BitVec.eq_of_toInt_eq (h (i / 16) (by omega))
  have hbit := congrArg (fun w : BitVec 16 => w.getLsbD (i % 16)) hlane
  simpa [BitVec.getLsbD_extractLsb', Nat.mod_lt i (by decide : 0 < 16), Nat.div_add_mod] using hbit

theorem limitResults : Rules.LimitResults := by
  intro s hr ga gb vr c lo hi
  refine ⟨fun n hn => ?_, fun p mode => ?_⟩
  · have hn' : ¬ 8 < n.toNat := by omega
    obtain ⟨t, ht, hret⟩ := issue_mapLanes hr (w := false) (vd := vr) (n := n.toNat) hn (f := fun k =>
      clampI (q15 (c.gr ga)) (q15 (c.gr gb)) (lane16 (c.vr vr) k)) (g := fun c => c.setV vr (mapLanes false n.toNat (c.vr vr)
        (fun k => clampI (q15 (c.gr ga)) (q15 (c.gr gb)) (lane16 (c.vr vr) k)))) rfl
    simp only [exec, execSat, trk]
    exact ⟨t, (issue_congr (if_neg hn')).trans ht, hret⟩
  · obtain ⟨hin, hscale, hcircle, fx, fy⟩ := satCircle_spec mode (lim := max 0 hi) (x := pairLane c vr p 0)
      (y := pairLane c vr p 1) (by have := toInt16_bounds ((c.gr gb).setWidth 16); omega) (lane16_bounds ..) (lane16_bounds ..)
    obtain ⟨t, ht, ho, hpc, hg, hk, ha, hf, hv, h0, h1, hl⟩ := issue_pair hr (vr := vr) (p := p) (f := fun c =>
      let lim := max 0 (q15 (c.gr gb))
      let d := pairLane c vr p 0
      let q := pairLane c vr p 1
      let r := satCircle mode lim d q
      (putPair c vr p r.1 r.2).setG ga (word (b2n (decide (r.1 ≠ d ∨ r.2 ≠ q))))) rfl
    have hlim : max 0 (q15 ((s.core .troika).gr gb)) = max 0 hi := rfl
    rw [hlim] at h0 h1 hg hf
    rw [fx] at h0
    rw [fy] at h1
    refine ⟨t, ht, fun hle => ?_, ?_, ?_, fun r => ?_, hl, ho, hpc, hv, ha, ?_, hk⟩
    · obtain ⟨e0, e1⟩ := hin hle
      exact vword_ext fun k hk8 => by
        by_cases hk0 : k = 2 * p.toNat
        · subst hk0
          exact h0.trans e0
        · by_cases hk1 : k = 2 * p.toNat + 1
          · subst hk1
            exact h1.trans e1
          · exact hl k hk8 hk0 hk1
    · rw [h0, h1]
      exact hscale
    · rw [h0, h1]
      exact hcircle
    · rw [hg, h0, h1, word_b2n]
      simp only [decide_eq_true_eq]
      rfl
    · rw [hf, qsatIf_of_fits fx, qsatIf_of_fits fy, BitVec.or_zero, BitVec.or_zero]

/-- Settles O18: ATAB takes the interpolated waveform, SAT and SAT.C stay within their limits, and undefined sizes trap. -/
theorem tableAndLimits : Obligations.TableAndLimits := ⟨waveformTable, limitResults, illegalSizes⟩

end Sys2Proof.Proofs
end

section
/-! The regulator and the ramp: PIA and RMP on a block in RAM (R82, R83). -/

namespace Sys2Proof.Proofs

open Sys2Proof Sys2Proof.Machine Sys2Proof.Safety Sys2Proof.Laws

/-! ### A step on a block -/

theorem blockOk_eq (a : Nat) : blockOk a = isRam (region a) := by
  unfold blockOk isRam
  cases region a <;> rfl

/-- A word of the block as the core reads it. -/
def blockWord (s : State) (a k : Nat) : Word := BitVec.ofNat 32 (littleEndian .troika s (a + 4 * k) 4)

/-- On a good block a step works on its words and sends one of them to the store buffer. -/
theorem blockStep_eq {s : State} {addr : Word} (hb : Block s addr.toNat) {env : Env} (hq : Quiet env)
    {f : CoreState → (Nat → Word) → CoreState × Nat × Word} {c : CoreState} {k : Nat} {w : Word}
    (hf : f (s.core .troika) (blockWord s addr.toNat) = (c, k, w)) :
    blockStep addr env f s = retire .troika (fun _ => c)
      (buffered (.store (addr.toNat + 4 * k) (wordBytes w) .clean env.tandemPortF) s) := by
  obtain ⟨ha, hram, hgood, hclear, hbuf, hroom⟩ := hb
  obtain ⟨hv, hsv, he⟩ := hq
  have hdrain : (if region addr.toNat = .sram then s else drainStores s) = s := by
    rcases hbuf with h | h <;> simp [h, drainStores]
  have hread : (if s.forwards addr.toNat 16 then (s, true) else readCheck addr.toNat 16 env (waitFor addr.toNat s)) =
      (s, true) := by
    rw [waitFor_of_cleared hclear, readCheck_good (by decide) hgood he, ite_self]
  have hwords : (fun k => word (leNat (s.coreBytes (addr.toNat + 4 * k) 4))) = blockWord s addr.toNat := by
    funext j
    exact congrArg word (leNat_bytesAt .troika s (addr.toNat + 4 * j) 4)
  simp only [blockStep, ha, blockOk_eq, hram, hv, hsv, vote, hdrain, hread, hwords, hf, pushEntry_room hroom]
  rfl

/-- The word of the block as the core reads it after the step. -/
theorem littleEndian_stored {s t : State} {a : Nat} {w : Word} {e : Ecc} {portF : Bool}
    (ho : OnlyBuffers (.store a (wordBytes w) e portF) s t) : littleEndian .troika t a 4 = w.toNat := by
  have hbytes : bytesAt .troika t a 4 = wordBytes w := by
    have hbyte : ∀ k, k < 4 → byteAt .troika t (a + k) = (wordBytes w).getD k 0 := fun k hk => by
      rw [byteAt_of_onlyBuffers ho, if_pos ⟨by omega, Nat.add_lt_add_left hk a⟩, Nat.add_sub_cancel_left]
    simp only [bytesAt, List.range_succ, List.range_zero, List.nil_append, List.map_cons, List.map_nil,
      List.cons_append, hbyte 0 (by decide), hbyte 1 (by decide), hbyte 2 (by decide), hbyte 3 (by decide)]
    rfl
  rw [← leNat_bytesAt, hbytes, leNat_wordBytes]

/-- An instruction that makes a step on a good block retires with it. -/
theorem trk_blockStep {s : State} (hr : Ready .troika s) {addr : Word} (hb : Block s addr.toNat) {env : Env} (hq : Quiet env)
    {f : CoreState → (Nat → Word) → CoreState × Nat × Word} {c : CoreState} {k : Nat} {gb : GReg} {y w fl : Word}
    (hf : f (s.core .troika) (blockWord s addr.toNat) = (c, k, w)) (hpc : c.pc = (s.core .troika).pc)
    (hw : WritesG .troika gb y fl (s.core .troika) c) {i : Instr} {body : State → State}
    (hbody : body s = blockStep addr env f s) :
    ∃ t, trk (heldBy i body) s = .next t ∧ BlockStep gb addr.toNat k y w fl env s t := by
  have hstep := hbody.trans (blockStep_eq hb hq hf)
  have hheld : heldBy i body s = retire .troika (fun _ => c)
      (buffered (.store (addr.toNat + 4 * k) (wordBytes w) .clean env.tandemPortF) s) :=
    (heldBy_of_not_held (by rw [hstep]; rfl)).trans hstep
  obtain ⟨t, ht, ho, hs⟩ := issue_buffered hr hheld
  refine ⟨t, ht, ho, hs.1.trans (by rw [← hpc]; rfl), writesG_of_sameRegisters (d := c.advance) hw hs,
    littleEndian_stored ho, fun x hx => ?_⟩
  rw [byteAt_of_onlyBuffers ho]
  exact if_neg fun h => by
    have : (wordBytes w).length = 4 := rfl
    omega

/-! ### PIA and RMP -/

/-- The result of a core that writes gb with QSAT. -/
theorem writesG_stepped (gb : GReg) (y fl : Word) {q : Bool} (c : CoreState) (hf : flagIf q 32 = fl) :
    WritesG .troika gb y fl c ((c.qsat q).setG gb y) := hf ▸ writesG_putQ .troika gb y q c

/-- What PIA and RMP do to the core and to the block. -/
def piaUpdate (gb : GReg) (shift : BitVec 4) (c : CoreState) (w : Nat → Word) : CoreState × Nat × Word :=
  let (y, i, q) := piStep (w 0) (w 1) (w 2) (w 3) (c.gr gb) shift.toNat
  ((c.qsat q).setG gb y, 2, i)
def rmpUpdate (gb : GReg) (c : CoreState) (w : Nat → Word) : CoreState × Nat × Word :=
  let (y, q) := rmpStep (w 0) (w 1) (w 2) (w 3) (c.gr gb)
  ((c.qsat q).setG gb (wordI y), 0, wordI y)

theorem exec_pia (ga gb : GReg) (shift : BitVec 4) (env : Env) (s : State) : exec (.pia ga gb shift env) s =
    trk (heldBy (.pia ga gb shift env) fun s => blockStep ((s.core .troika).gr ga) env (piaUpdate gb shift) s) s := rfl
theorem exec_rmp (ga gb : GReg) (env : Env) (s : State) : exec (.rmp ga gb env) s =
    trk (heldBy (.rmp ga gb env) fun s => blockStep ((s.core .troika).gr ga) env (rmpUpdate gb) s) s := rfl

section
variable (gb : GReg) {c : CoreState} {w : Nat → Word} {q : Bool}

theorem piaUpdate_eq {shift : BitVec 4} {y i : Word}
    (h : piStep (w 0) (w 1) (w 2) (w 3) (c.gr gb) shift.toNat = (y, i, q)) :
    piaUpdate gb shift c w = ((c.qsat q).setG gb y, 2, i) := by simp only [piaUpdate, h]
theorem rmpUpdate_eq {y : Int} (h : rmpStep (w 0) (w 1) (w 2) (w 3) (c.gr gb) = (y, q)) :
    rmpUpdate gb c w = ((c.qsat q).setG gb (wordI y), 0, wordI y) := by simp only [rmpUpdate, h]

end

theorem regulatorResults : Rules.RegulatorResults := by
  intro s hr ga gb shift env hq c a hb word integral e hi lo p0 i0 p ic0 ic held
  have hstep : piStep (word 0) (word 1) (word 2) (word 3) (c.gr gb) shift.toNat =
      (BitVec.ofInt 32 (min (max (p + if held then integral else ic) lo) hi), BitVec.ofInt 32 (if held then integral else ic),
        decide (p ≠ p0) || decide (saturate 32 i0 ≠ i0) || decide (ic ≠ ic0)) := by
    simp only [piStep, satI_eq, rshr_eq, clampI, ← Bool.decide_and, ← Bool.decide_or, decide_eq_true_eq]
    rfl
  have hflag : flagIf (decide (p ≠ p0) || decide (saturate 32 i0 ≠ i0) || decide (ic ≠ ic0)) 32 =
      qsatIf 32 p0 ||| qsatIf 32 i0 ||| qsatIf 32 ic0 := by
    rw [flagIf_or, flagIf_or]
    rfl
  obtain ⟨t, ht, hret⟩ := trk_blockStep hr hb hq (piaUpdate_eq gb (w := blockWord s a) hstep)
    ((pc_setG ..).trans (pc_qsat ..)) (writesG_stepped gb _ _ c hflag) (i := .pia ga gb shift env)
    (body := fun s => blockStep ((s.core .troika).gr ga) env (piaUpdate gb shift) s) rfl
  exact ⟨t, if held then integral else ic, (exec_pia ..).trans ht, fun h => if_pos h, fun h => if_neg h, hret⟩

/-- The three ways of a ramp: it rises, falls, or stays (R83). -/
theorem rmpStep_eq (v up dn hold target : Word) :
    rmpStep v up dn hold target =
      if v.toInt < target.toInt ∧ hold.getLsbD 0 = false then
        (min target.toInt (saturate 32 (v.toInt + rampStep up)),
          decide (saturate 32 (v.toInt + rampStep up) ≠ v.toInt + rampStep up))
      else if target.toInt < v.toInt ∧ hold.getLsbD 1 = false then
        (max target.toInt (saturate 32 (v.toInt - rampStep dn)),
          decide (saturate 32 (v.toInt - rampStep dn) ≠ v.toInt - rampStep dn))
      else (v.toInt, false) := by
  unfold rmpStep
  simp only [satI_eq]
  generalize hold.getLsbD 0 = h0
  generalize hold.getLsbD 1 = h1
  by_cases hlt : v.toInt < target.toInt
  · have hgt : ¬ target.toInt < v.toInt := by omega
    cases h0 <;> simp [hlt, hgt]
  · by_cases hgt : target.toInt < v.toInt <;> cases h1 <;> simp [hlt, hgt]

theorem rampResults : Rules.RampResults := by
  intro s hr ga gb env hq c a hb word x step up down rises falls
  have hstep := rmpStep_eq (word 0) (word 1) (word 2) (word 3) (c.gr gb)
  obtain ⟨y, q, hyq⟩ : ∃ y q, rmpStep (word 0) (word 1) (word 2) (word 3) (c.gr gb) = (y, q) := ⟨_, _, rfl⟩
  obtain ⟨t, ht, hret⟩ := trk_blockStep hr hb hq (rmpUpdate_eq gb (w := blockWord s a) hyq)
    ((pc_setG ..).trans (pc_qsat ..)) (writesG_stepped gb _ _ c rfl) (i := .rmp ga gb env)
    (body := fun s => blockStep ((s.core .troika).gr ga) env (rmpUpdate gb) s) rfl
  refine ⟨t, y, flagIf q 32, (exec_rmp ..).trans ht, fun hup => ?_, fun hdown => ?_, fun hup hdown => ?_, hret⟩
  · have heq := hyq.symm.trans (hstep.trans (if_pos hup))
    exact ⟨congrArg Prod.fst heq, congrArg (fun r => flagIf r.2 32) heq⟩
  · have hup : ¬rises := fun h => by have := h.1; have := hdown.1; omega
    have heq := hyq.symm.trans (hstep.trans ((if_neg hup).trans (if_pos hdown)))
    exact ⟨congrArg Prod.fst heq, congrArg (fun r => flagIf r.2 32) heq⟩
  · have heq := hyq.symm.trans (hstep.trans ((if_neg hup).trans (if_neg hdown)))
    exact ⟨congrArg Prod.fst heq, congrArg (fun r => flagIf r.2 32) heq⟩

/-- Settles O19: PIA and RMP leave their output in gb and one word of their block in the store buffer. -/
theorem regulatorAndRamp : Obligations.RegulatorAndRamp := ⟨regulatorResults, rampResults⟩

end Sys2Proof.Proofs
end

section
/-! Positions, legs and SAFE (R111 to R134, R203 to R206): what every operation of the gate block leaves alone. It writes
the status registers of channels, positions and legs and what reports an event; no flag of an event falls; an excluded
channel whose output is low stays low; and a leg that a cause or a trip holds in SAFE stays there. -/

namespace Sys2Proof.Proofs

open Sys2Proof Sys2Proof.Machine Sys2Proof.Safety Sys2Proof.Laws

/-! ### The registers of the gate block -/

/-- GCH_STAT of a channel, POS_STAT and POS_CNT of a position, and the registers of a leg from LEG_STAT up. -/
abbrev isChannelStatus (o : Nat) : Prop := 0x100000 ≤ o ∧ o < 0x104000 ∧ o % 64 = 8
abbrev isPositionStatus (o : Nat) : Prop := 0x110000 ≤ o ∧ o < 0x110400 ∧ o % 16 = 8
abbrev isPositionCount (o : Nat) : Prop := 0x110000 ≤ o ∧ o < 0x110400 ∧ o % 16 = 12
abbrev isLegStatus (o : Nat) : Prop := 0x110400 ≤ o ∧ o < 0x110C00 ∧ o % 64 = 20
abbrev isLegCount (o : Nat) : Prop := 0x110400 ≤ o ∧ o < 0x110C00 ∧ 24 ≤ o % 64

/-- The trip latches (R201). -/
abbrev isTrip (o : Nat) : Prop := 0x170380 ≤ o ∧ o < 0x1703A4

/-- The registers that an operation of the gate block may write; with `latch`, it may also latch a trip. -/
abbrev gateRegister (latch : Bool) (o : Nat) : Prop :=
  eventRegister o = true ∨ isChannelStatus o ∨ isPositionStatus o ∨ isPositionCount o ∨ isLegStatus o ∨ isLegCount o ∨
    o = PROT_GSTAT ∨ (latch = true ∧ isTrip o)

/-- How many low bits of a register an operation of the gate block may clear. -/
def gateMutable (o : Nat) : Nat :=
  if isChannelStatus o ∨ isLegStatus o then 2
  else if isPositionStatus o then 13
  else if isPositionCount o ∨ isLegCount o ∨ eventCounter o = true ∨ o = PROT_GSTAT then 32
  else 0

/-- A leg that a cause other than the keeper's, or a latched trip of one of its groups, holds in SAFE (R203). -/
def Pinned (s : State) (l : Nat) : Prop :=
  (∃ c ∈ (s.lg l).causes, c ≠ .keeper) ∨
    ∃ src < 211, s.latched src = true ∧ 2 ≤ s.srcAct src ∧
      ∃ g < 8, (s.srcGroups src).testBit g = true ∧ s.inGroup g l = true

/-- Nothing changes but registers, what reports an event, and the gate block's own state. -/
def OnlyGate (s t : State) : Prop :=
  ∃ regs wakePend fwdQ words axle pos leg chan, t = { s with
    regs := regs, wakePend := wakePend, cpl := { s.cpl with fwdQ := fwdQ }, lan := { s.lan with words := words },
    axle := axle, pos := pos, leg := leg, chan := chan }

/-- A step of the gate block. -/
structure GateStep (latch : Bool) (s t : State) : Prop where
  only : OnlyGate s t
  rd : ∀ o, ¬gateRegister latch o → t.rd o = s.rd o
  keeps : ∀ o i, gateMutable o ≤ i → i < 24 → (s.rd o).getLsbD i = true → (t.rd o).getLsbD i = true
  ax : ∀ a, ∃ b, t.ax a = { s.ax a with allSafe := b }
  lg : ∀ l, ∃ b, t.lg l = { s.lg l with refreshing := b }
  ch : ∀ c, ∃ e w, t.ch c = { s.ch c with edge := e, watch := w }
  excluded : ∀ c < 256, s.flag (GCH_STAT c) GCH_STAT_EXCLD = true → s.gdo c = false → t.gdo c = false
  safe : ∀ l < 32, Pinned s l → s.legSafe l ≠ 0 → t.legSafe l ≠ 0
  lanBit : ∀ w i, (w = 0 → i ≠ LAN_CTL_SLEEP.lo) → (t.lanW w).getLsbD i = (s.lanW w).getLsbD i

section
variable {L : Bool} {s₀ s t u : State}

theorem OnlyGate.refl : OnlyGate s s := ⟨_, _, _, _, _, _, _, _, rfl⟩
theorem OnlyGate.trans (h : OnlyGate s t) (h' : OnlyGate t u) : OnlyGate s u := by
  obtain ⟨_, _, _, _, _, _, _, _, rfl⟩ := h
  obtain ⟨_, _, _, _, _, _, _, _, rfl⟩ := h'
  exact ⟨_, _, _, _, _, _, _, _, rfl⟩
theorem OnlyGate.chop (h : OnlyGate s t) : t.chop = s.chop := by obtain ⟨_, _, _, _, _, _, _, _, rfl⟩ := h; rfl
theorem OnlyGate.now (h : OnlyGate s t) : t.now = s.now := by obtain ⟨_, _, _, _, _, _, _, _, rfl⟩ := h; rfl
theorem OnlyGate.troika (h : OnlyGate s t) : t.troika = s.troika := by obtain ⟨_, _, _, _, _, _, _, _, rfl⟩ := h; rfl
theorem OnlyGate.awake (h : OnlyGate s t) : t.awake = s.awake := by obtain ⟨_, _, _, _, _, _, _, _, rfl⟩ := h; rfl
theorem OnlyGate.power (h : OnlyGate s t) : t.power = s.power := by obtain ⟨_, _, _, _, _, _, _, _, rfl⟩ := h; rfl
theorem OnlyGate.kept (h : OnlyGate s t) : t.kept = s.kept := by obtain ⟨_, _, _, _, _, _, _, _, rfl⟩ := h; rfl

theorem gateMutable_channel {c : Nat} (h : c < 256) : gateMutable (GCH_STAT c) = 2 :=
  if_pos (by simp only [isChannelStatus, isLegStatus, GCH_STAT]; omega)
theorem gateMutable_leg {l : Nat} (h : l < 32) : gateMutable (LEG_STAT l) = 2 :=
  if_pos (by simp only [isChannelStatus, isLegStatus, LEG_STAT]; omega)
theorem gateMutable_position {p : Nat} (h : p < 64) : gateMutable (POS_STAT p) = 13 :=
  (if_neg (by simp only [isChannelStatus, isLegStatus, POS_STAT]; omega)).trans
    (if_pos (by simp only [isPositionStatus, POS_STAT]; omega))
theorem gateMutable_trip {n : Nat} (h : n < 9) : gateMutable (PROT_TRIP n) = 0 := by
  interval_cases n <;> decide

/-- The latches only grow in a step of the gate block. -/
theorem GateStep.latched (h : GateStep L s t) {src : Nat} (hs : src < 216) (hl : s.latched src = true) :
    t.latched src = true :=
  h.keeps _ _ (by rw [gateMutable_trip (by omega)]; omega) (Nat.mod_lt _ (by decide)) hl

/-- The configuration of the protection block stands outside. -/
theorem gateRegister_prot {o : Nat} (h : 0x170000 ≤ o) (h' : o < 0x170380 ∨ 0x1703C0 ≤ o ∧ o < 0x170460) :
    ¬gateRegister L o := by
  have he : eventRegister o = false := by
    have h1 : ∀ e, e < 0x170000 → o ≠ e := fun e he => by omega
    have h2 : o ≠ THM_BG := by simp only [THM_BG]; omega
    have h3 : ¬o < EVT_PEND 11 := by simp only [EVT_PEND]; omega
    simp [eventRegister, eventCounter, h1 EVT_CNT (by decide), h1 (AXL_CNTS 0) (by decide), h1 (AXL_CNTS 1) (by decide),
      h1 (AXL_CNTS 2) (by decide), h1 (AXL_CNTS 3) (by decide), h2, h3]
  simp only [gateRegister, he, isChannelStatus, isPositionStatus, isPositionCount, isLegStatus, isLegCount, isTrip,
    PROT_GSTAT, Bool.false_eq_true, false_or, not_or, not_and]
  refine ⟨?_, ?_, ?_, ?_, ?_, ?_, fun _ => ?_⟩ <;> omega

theorem GateStep.srcAct (h : GateStep L s t) (src : Nat) : t.srcAct src = s.srcAct src := by
  unfold State.srcAct State.fld
  split
  · rw [h.rd _ (gateRegister_prot (by simp only [PROT_SRC]; omega) (by simp only [PROT_SRC]; omega))]
  · rfl

theorem GateStep.srcGroups (h : GateStep L s t) {src : Nat} (hs : src < 211) : t.srcGroups src = s.srcGroups src := by
  unfold State.srcGroups State.fld
  rw [h.only.chop, h.rd _ (gateRegister_prot (by simp only [PROT_SRC]; omega) (by simp only [PROT_SRC]; omega))]

theorem GateStep.inGroup (h : GateStep L s t) {g : Nat} (hg : g < 8) (l : Nat) : t.inGroup g l = s.inGroup g l := by
  unfold State.inGroup
  rw [h.rd _ (gateRegister_prot (by simp only [PROT_GRP]; omega) (by simp only [PROT_GRP]; omega))]

theorem GateStep.causes (h : GateStep L s t) (l : Nat) : (t.lg l).causes = (s.lg l).causes := by
  obtain ⟨b, hb⟩ := h.lg l
  rw [hb]

theorem GateStep.pinned (h : GateStep L s t) {l : Nat} (hp : Pinned s l) : Pinned t l := by
  refine hp.imp (fun hc => by rwa [h.causes]) ?_
  rintro ⟨src, hs, hl, ha, g, hg, hb, hin⟩
  exact ⟨src, hs, h.latched (by omega) hl, by rwa [h.srcAct], g, hg, by rwa [h.srcGroups hs], by rwa [h.inGroup hg]⟩

theorem GateStep.refl : GateStep L s s :=
  ⟨.refl, fun _ _ => rfl, fun _ _ _ _ h => h, fun _ => ⟨_, rfl⟩, fun _ => ⟨_, rfl⟩, fun _ => ⟨_, _, rfl⟩,
    fun _ _ _ h => h, fun _ _ _ h => h, fun _ _ _ => rfl⟩

theorem GateStep.trans (h : GateStep L s t) (h' : GateStep L t u) : GateStep L s u where
  only := h.only.trans h'.only
  rd o ho := (h'.rd o ho).trans (h.rd o ho)
  keeps o i hm hi hs := h'.keeps o i hm hi (h.keeps o i hm hi hs)
  ax a := by
    obtain ⟨_, h1⟩ := h.ax a
    obtain ⟨b, h2⟩ := h'.ax a
    exact ⟨b, by rw [h2, h1]⟩
  lg l := by
    obtain ⟨_, h1⟩ := h.lg l
    obtain ⟨b, h2⟩ := h'.lg l
    exact ⟨b, by rw [h2, h1]⟩
  ch c := by
    obtain ⟨_, _, h1⟩ := h.ch c
    obtain ⟨e, w, h2⟩ := h'.ch c
    exact ⟨e, w, by rw [h2, h1]⟩
  excluded c hc hx hg := h'.excluded c hc
    (h.keeps _ _ (by rw [gateMutable_channel hc]; decide) (by decide) hx) (h.excluded c hc hx hg)
  safe l hl hp hs := h'.safe l hl (h.pinned hp) (h.safe l hl hp hs)
  lanBit w i hi := (h'.lanBit w i hi).trans (h.lanBit w i hi)

theorem GateStep.ite {c : Prop} [Decidable c] (h : GateStep L s₀ s) (h' : GateStep L s₀ t) :
    GateStep L s₀ (if c then s else t) := by
  split
  · exact h
  · exact h'

theorem GateStep.each {α : Type} {xs : List α} {f : α → State → State} (h : GateStep L s₀ s)
    (hf : ∀ x ∈ xs, ∀ u, GateStep L s u → GateStep L s (f x u)) : GateStep L s₀ (each xs f s) := by
  have hall : ∀ v, GateStep L s v → GateStep L s (Machine.each xs f v) := by
    unfold Machine.each
    induction xs with
    | nil => exact fun v hv => hv
    | cons x xs ih =>
      exact fun v hv => ih (fun y hy => hf y (List.mem_cons_of_mem _ hy)) _ (hf x List.mem_cons_self v hv)
  exact h.trans (hall s .refl)

/-- Without latching, a leg is held after a step only if it was before. -/
theorem GateStep.pinned_iff (h : GateStep false s t) {l : Nat} : Pinned t l ↔ Pinned s l := by
  refine ⟨fun hp => ?_, h.pinned⟩
  refine hp.imp (fun hc => by rwa [h.causes] at hc) ?_
  rintro ⟨src, hs, hl, ha, g, hg, hb, hin⟩
  have htrip : t.latched src = s.latched src := by
    unfold State.latched
    rw [h.rd]
    have : src / 24 < 9 := by omega
    interval_cases src / 24 <;> decide
  exact ⟨src, hs, htrip ▸ hl, by rwa [h.srcAct] at ha, g, hg, by rwa [h.srcGroups hs] at hb, by rwa [h.inGroup hg] at hin⟩

/-! ### The state's operations -/

theorem GateStep.wr {o : Nat} {w : Word} (h : GateStep L s₀ s) (ho : gateRegister L o)
    (hk : ∀ i, gateMutable o ≤ i → i < 24 → (s.rd o).getLsbD i = true → w.getLsbD i = true)
    (hx : ∀ c < 256, o = GCH_STAT c → s.flag (GCH_STAT c) GCH_STAT_EXCLD = true → s.gdo c = false →
      GCH_STAT_GDO.bit w = false)
    (hs : ∀ l < 32, o = LEG_STAT l → s.legSafe l ≠ 0 → Pinned s l → LEG_STAT_SAFE.get w ≠ 0) :
    GateStep L s₀ (s.wr o w) := by
  refine h.trans ⟨⟨_, _, _, _, _, _, _, _, rfl⟩, fun o' ho' => rd_wr_of_ne s _ fun he => ho' (he ▸ ho), ?_, fun _ => ⟨_, rfl⟩,
    fun _ => ⟨_, rfl⟩, fun _ => ⟨_, _, rfl⟩, ?_, ?_, fun _ _ _ => rfl⟩
  · intro o' i hm hi hb
    by_cases he : o' = o
    · subst he
      rw [rd_wr_self]
      exact hk i hm hi hb
    · rwa [rd_wr_of_ne s _ he]
  · intro c hc hex hg
    by_cases he : GCH_STAT c = o
    · simp only [State.gdo, State.flag, he, rd_wr_self]
      exact hx c hc he.symm hex hg
    · simpa only [State.gdo, State.flag, rd_wr_of_ne s _ he] using hg
  · intro l hl hp hsafe
    by_cases he : LEG_STAT l = o
    · simp only [State.legSafe, State.fld, he, rd_wr_self]
      exact hs l hl he.symm hsafe hp
    · simpa only [State.legSafe, State.fld, rd_wr_of_ne s _ he] using hsafe

/-- A write of a register that is neither a channel's nor a leg's status. -/
theorem GateStep.wrApart {o : Nat} {w : Word} (h : GateStep L s₀ s) (ho : gateRegister L o) (hm : gateMutable o ≠ 2)
    (hk : ∀ i, gateMutable o ≤ i → i < 24 → (s.rd o).getLsbD i = true → w.getLsbD i = true) :
    GateStep L s₀ (s.wr o w) :=
  h.wr ho hk (fun _ hc he => absurd (he ▸ gateMutable_channel hc) hm) fun _ hl he => absurd (he ▸ gateMutable_leg hl) hm

/-- A write of a register that only counts. -/
theorem GateStep.wrCount {o : Nat} {w : Word} (h : GateStep L s₀ s) (ho : gateRegister L o) (hm : gateMutable o = 32) :
    GateStep L s₀ (s.wr o w) :=
  h.wrApart ho (by omega) fun i hi _ => by omega

theorem GateStep.setPosFld {p n : Nat} {f : Fld} (h : GateStep L s₀ s) (hp : p < 64) (hf : f.lo + f.len ≤ 13) :
    GateStep L s₀ (s.setFld (POS_STAT p) f n) := by
  refine h.wrApart (.inr (.inr (.inl (by simp only [isPositionStatus, POS_STAT]; omega)))) ?_ ?_
  · rw [gateMutable_position hp]; decide
  · intro i hi _ hb
    rw [gateMutable_position hp] at hi
    rwa [put_getLsbD, if_neg (by omega)]

theorem GateStep.setPosState {p n : Nat} (h : GateStep L s₀ s) (hp : p < 64) : GateStep L s₀ (s.setPosState p n) :=
  h.setPosFld hp (by decide)

/-- An SQ flag is set that is no level. -/
theorem GateStep.sqMask {o : Nat} {m : Word} (h : GateStep L s₀ s) (ho : gateRegister L o)
    (hm : ∀ i < 2, m.getLsbD i = false) : GateStep L s₀ (s.sqMask o m) := by
  have hlow : ∀ i < 24, (seqFld.put (s.rd o ||| m) (seqFld.get (s.rd o) + 1)).getLsbD i =
      ((s.rd o).getLsbD i || m.getLsbD i) := by
    intro i hi
    rw [put_getLsbD, if_neg (by simp only [seqFld]; omega), BitVec.getLsbD_or]
  refine h.wr ho (fun i _ hi hb => by rw [hlow i hi, hb]; rfl) ?_ ?_
  · intro c _ he _ hg
    subst he
    rw [Fld.bit, hlow _ (by decide), hm _ (by decide), Bool.or_false]
    exact hg
  · intro l _ he hsafe _
    subst he
    have hget : LEG_STAT_SAFE.get (seqFld.put (s.rd (LEG_STAT l) ||| m) (seqFld.get (s.rd (LEG_STAT l)) + 1)) =
        LEG_STAT_SAFE.get (s.rd (LEG_STAT l)) := by
      refine Nat.eq_of_testBit_eq fun i => ?_
      rw [get_testBit, get_testBit]
      by_cases hi : i < 2
      · rw [hlow _ (by simp only [LEG_STAT_SAFE]; omega), hm _ (by simp only [LEG_STAT_SAFE]; omega), Bool.or_false]
      · simp [LEG_STAT_SAFE, hi]
    rwa [hget]

theorem GateStep.sq {o : Nat} {f : Fld} (h : GateStep L s₀ s) (ho : gateRegister L o) (hf : 2 ≤ f.lo) :
    GateStep L s₀ (s.sq o f) :=
  h.sqMask ho fun i hi => by rw [mask_getLsbD]; simp [show ¬f.lo ≤ i by omega]

theorem gateRegister_channel {c : Nat} (hc : c < 256) : gateRegister L (GCH_STAT c) :=
  .inr (.inl (by simp only [isChannelStatus, GCH_STAT]; omega))
theorem gateRegister_leg {l : Nat} (hl : l < 32) : gateRegister L (LEG_STAT l) :=
  .inr (.inr (.inr (.inr (.inl (by simp only [isLegStatus, LEG_STAT]; omega)))))
theorem gateRegister_position {p : Nat} (hp : p < 64) : gateRegister L (POS_STAT p) :=
  .inr (.inr (.inl (by simp only [isPositionStatus, POS_STAT]; omega)))

theorem GateStep.sqChannel {c : Nat} {f : Fld} (h : GateStep L s₀ s) (hc : c < 256) (hf : 2 ≤ f.lo) :
    GateStep L s₀ (s.sq (GCH_STAT c) f) := h.sq (gateRegister_channel hc) hf
theorem GateStep.sqLeg {l : Nat} {f : Fld} (h : GateStep L s₀ s) (hl : l < 32) (hf : 2 ≤ f.lo) :
    GateStep L s₀ (s.sq (LEG_STAT l) f) := h.sq (gateRegister_leg hl) hf
theorem GateStep.sqPos {p : Nat} {f : Fld} (h : GateStep L s₀ s) (hp : p < 64) (hf : 2 ≤ f.lo) :
    GateStep L s₀ (s.sq (POS_STAT p) f) := h.sq (gateRegister_position hp) hf

theorem isLegCount_mutable {o : Nat} (h : isLegCount o) : gateRegister L o ∧ gateMutable o = 32 := by
  refine ⟨.inr (.inr (.inr (.inr (.inr (.inl h))))), ?_⟩
  rw [gateMutable, if_neg (by simp only [isChannelStatus, isLegStatus] at h ⊢; omega),
    if_neg (by simp only [isPositionStatus] at h ⊢; omega), if_pos (.inr (.inl h))]

theorem isPositionCount_mutable {o : Nat} (h : isPositionCount o) : gateRegister L o ∧ gateMutable o = 32 := by
  refine ⟨.inr (.inr (.inr (.inl h))), ?_⟩
  rw [gateMutable, if_neg (by simp only [isChannelStatus, isLegStatus] at h ⊢; omega),
    if_neg (by simp only [isPositionStatus] at h ⊢; omega), if_pos (.inl h)]

theorem GateStep.rcLeg {l k : Nat} {f : Fld} (h : GateStep L s₀ s) (hl : l < 32) :
    GateStep L s₀ (s.rc (LEG_CNT l) f k) := by
  obtain ⟨ho, hm⟩ := isLegCount_mutable (L := L) (o := LEG_CNT l) (by simp only [isLegCount, LEG_CNT]; omega)
  exact h.wrCount ho hm
theorem GateStep.rcPos {p k : Nat} {f : Fld} (h : GateStep L s₀ s) (hp : p < 64) :
    GateStep L s₀ (s.rc (POS_CNT p) f k) := by
  obtain ⟨ho, hm⟩ := isPositionCount_mutable (L := L) (o := POS_CNT p) (by simp only [isPositionCount, POS_CNT]; omega)
  exact h.wrCount ho hm
theorem GateStep.setCarry {l n : Nat} {on : Bool} (h : GateStep L s₀ s) (hl : l < 32) :
    GateStep L s₀ (s.setCarry l on n) := by
  obtain ⟨ho, hm⟩ := isLegCount_mutable (L := L) (o := carryReg l on)
    (by cases on <;> simp only [isLegCount, carryReg, LEG_CARRYON, LEG_CARRYOFF, Bool.false_eq_true, if_true, if_false] <;> omega)
  exact h.wrCount ho hm
theorem GateStep.setGroupCodes {f : Fld} {n : Nat} (h : GateStep L s₀ s) : GateStep L s₀ (s.setFld PROT_GSTAT f n) :=
  h.wrCount (.inr (.inr (.inr (.inr (.inr (.inr (.inl rfl))))))) (by decide)

/-- GDO takes a level, high on a channel that is not excluded. -/
theorem GateStep.setGdoFlag {c : Nat} {b : Bool} (h : GateStep L s₀ s) (hc : c < 256)
    (hb : b = true → s.flag (GCH_STAT c) GCH_STAT_EXCLD = false) :
    GateStep L s₀ (s.setFlag (GCH_STAT c) GCH_STAT_GDO b) := by
  refine h.wr (gateRegister_channel hc) ?_ ?_ fun l hl he => ?_
  · intro i hi _ hs
    rw [gateMutable_channel hc] at hi
    rwa [put_getLsbD, if_neg (by simp only [GCH_STAT_GDO]; omega)]
  · intro c' _ he hex _
    rw [bit_put_self _ _ _ (by decide) (by decide)]
    cases b with
    | false => rfl
    | true =>
      have : c' = c := by simp only [GCH_STAT] at he; omega
      simp [this, hb rfl] at hex
  · simp only [GCH_STAT, LEG_STAT] at he; omega

theorem GateStep.setGak {c : Nat} {b : Bool} (h : GateStep L s₀ s) (hc : c < 256) :
    GateStep L s₀ (s.setFlag (GCH_STAT c) GCH_STAT_GAK b) := by
  refine h.wr (gateRegister_channel hc) ?_ ?_ fun l hl he => ?_
  · intro i hi _ hs
    rw [gateMutable_channel hc] at hi
    rwa [put_getLsbD, if_neg (by simp only [GCH_STAT_GAK]; omega)]
  · intro c' _ he _ hg
    have : c' = c := by simp only [GCH_STAT] at he; omega
    subst this
    rw [Fld.bit, put_getLsbD, if_neg (by decide)]
    exact hg
  · simp only [GCH_STAT, LEG_STAT] at he; omega

/-- EXCLD rises. -/
theorem GateStep.exclude {c : Nat} (h : GateStep L s₀ s) (hc : c < 256) :
    GateStep L s₀ (s.setFlag (GCH_STAT c) GCH_STAT_EXCLD true) := by
  refine h.wr (gateRegister_channel hc) ?_ ?_ fun l hl he => ?_
  · intro i _ _ hs
    rw [put_getLsbD]
    split
    · next hin =>
      have : i = 3 := by simp only [GCH_STAT_EXCLD] at hin; omega
      subst this
      rfl
    · exact hs
  · intro c' _ he _ hg
    have : c' = c := by simp only [GCH_STAT] at he; omega
    subst this
    rw [Fld.bit, put_getLsbD, if_neg (by decide)]
    exact hg
  · simp only [GCH_STAT, LEG_STAT] at he; omega

/-- SAFE of a leg takes a code, zero only on a leg that nothing holds. -/
theorem GateStep.setSafe {l code : Nat} (h : GateStep L s₀ s) (hl : l < 32) (hp : Pinned s l → code % 4 ≠ 0) :
    GateStep L s₀ (s.setFld (LEG_STAT l) LEG_STAT_SAFE code) := by
  refine h.wr (gateRegister_leg hl) ?_ (fun c hc he => ?_) ?_
  · intro i hi _ hs
    rw [gateMutable_leg hl] at hi
    rwa [put_getLsbD, if_neg (by simp only [LEG_STAT_SAFE]; omega)]
  · simp only [GCH_STAT, LEG_STAT] at he; omega
  · intro l' _ he _ hp'
    have : l' = l := by simp only [LEG_STAT] at he; omega
    subst this
    rw [get_put_self _ _ _ (by decide)]
    exact hp hp'

theorem eventRegister_range {o : Nat} (h : eventRegister o = true) : o < 0x100000 ∨ 0x1D0000 ≤ o := by
  simp only [eventRegister, eventCounter, Bool.or_eq_true, Bool.and_eq_true, decide_eq_true_eq] at h
  simp only [EVT_PEND, EVT_CNT, THM_BG, AXL_CNTS] at h
  omega

theorem gateMutable_range {o : Nat} (h : gateMutable o = 2) : 0x100000 ≤ o ∧ o < 0x110C00 := by
  unfold gateMutable at h
  split at h
  · omega
  · split at h
    · omega
    · split at h <;> omega

theorem gateMutable_counter {o : Nat} (h : eventCounter o = true) : gateMutable o = 32 := by
  have hr := eventRegister_range (eventCounter_register h)
  rw [gateMutable, if_neg (by simp only [isChannelStatus, isLegStatus]; omega),
    if_neg (by simp only [isPositionStatus]; omega), if_pos (.inr (.inr (.inl h)))]

/-- Only the events that a step reports. -/
theorem GateStep.reports (h : GateStep L s₀ s) (hr : Reports s t) (hg : OnlyGate s t) (hax : t.axle = s.axle)
    (hlg : t.leg = s.leg) (hch : t.chan = s.chan) : GateStep L s₀ t := by
  have hlow : ∀ o, gateMutable o = 2 → t.rd o = s.rd o := fun o ho => hr.rd o <| by
    by_contra he
    have := eventRegister_range (Bool.not_eq_false _ ▸ he)
    have := gateMutable_range ho
    omega
  refine h.trans ⟨hg, fun o ho => hr.rd o ?_, fun o i hm hi hs => hr.keeps o i hi ?_ hs, fun a => ⟨(s.ax a).allSafe, ?_⟩,
    fun l => ⟨(s.lg l).refreshing, ?_⟩, fun c => ⟨(s.ch c).edge, (s.ch c).watch, ?_⟩, fun c hc _ hgd => ?_,
    fun l hl _ hs => ?_, hr.lanBit⟩
  · simp only [gateRegister, not_or] at ho
    simpa using ho.1
  · by_contra hc
    have := gateMutable_counter (Bool.not_eq_false _ ▸ hc)
    omega
  · simp only [State.ax, hax]
  · simp only [State.lg, hlg]
  · simp only [State.ch, hch]
  · simpa only [State.gdo, State.flag, hlow _ (gateMutable_channel hc)] using hgd
  · simpa only [State.legSafe, State.fld, hlow _ (gateMutable_leg hl)] using hs

/-- What a raise may change, as the gate block sees it. -/
theorem raise_onlyGate (s : State) (src : Nat) : OnlyGate s (s.raise src) := by
  obtain ⟨_, _, _, _, he⟩ := (raise_reports s src).events
  have hf := (raise_reports s src).fwd
  rw [he] at hf ⊢
  simp only at hf
  rw [hf]
  exact ⟨_, _, _, _, _, _, _, _, rfl⟩

theorem GateStep.raise {src : Nat} (h : GateStep L s₀ s) : GateStep L s₀ (s.raise src) := by
  obtain ⟨_, _, _, _, he⟩ := (raise_reports s src).events
  exact h.reports (raise_reports s src) (raise_onlyGate s src) (by rw [he]) (by rw [he]) (by rw [he])

/-- A change of the state of positions, legs and channels. -/
theorem GateStep.upd (h : GateStep L s₀ s) (hg : OnlyGate s t) (hr : t.regs = s.regs) (hw : t.lan.words = s.lan.words)
    (ax : ∀ a, ∃ b, t.ax a = { s.ax a with allSafe := b }) (lg : ∀ l, ∃ b, t.lg l = { s.lg l with refreshing := b })
    (ch : ∀ c, ∃ e w, t.ch c = { s.ch c with edge := e, watch := w }) : GateStep L s₀ t := by
  have hrd : ∀ o, t.rd o = s.rd o := fun o => by simp only [State.rd, hr]
  refine h.trans ⟨hg, fun o _ => hrd o, fun o i _ _ hs => by rwa [hrd], ax, lg, ch, fun c _ _ hgd => ?_, fun l _ _ hs => ?_,
    fun w i _ => by simp only [State.lanW, hw]⟩
  · simpa only [State.gdo, State.flag, hrd] using hgd
  · simpa only [State.legSafe, State.fld, hrd] using hs

theorem GateStep.updPs {p : Nat} {f : PosSt → PosSt} (h : GateStep L s₀ s) : GateStep L s₀ (s.updPs p f) :=
  h.upd ⟨_, _, _, _, _, _, _, _, rfl⟩ rfl rfl (fun _ => ⟨_, rfl⟩) (fun _ => ⟨_, rfl⟩) fun _ => ⟨_, _, rfl⟩

theorem GateStep.updCh {c : Nat} {f : ChanSt → ChanSt} (h : GateStep L s₀ s)
    (hf : ∀ x, ∃ e w, f x = { x with edge := e, watch := w }) : GateStep L s₀ (s.updCh c f) :=
  h.upd ⟨_, _, _, _, _, _, _, _, rfl⟩ rfl rfl (fun _ => ⟨_, rfl⟩) (fun _ => ⟨_, rfl⟩) fun c' => by
    by_cases hc : c' = c
    · subst hc
      simpa only [State.ch, State.updCh, mget_mset_self] using hf _
    · simp only [State.ch, State.updCh, mget_mset_of_ne _ _ _ hc]
      exact ⟨_, _, rfl⟩

theorem GateStep.updSafe {a : Nat} {b : Bool} (h : GateStep L s₀ s) :
    GateStep L s₀ (s.updAx a fun x => { x with allSafe := b }) :=
  h.upd ⟨_, _, _, _, _, _, _, _, rfl⟩ rfl rfl (fun a' => by
    by_cases ha : a' = a
    · subst ha
      simp only [State.ax, State.updAx, State.setAx, mget_mset_self]
      exact ⟨_, rfl⟩
    · simp only [State.ax, State.updAx, State.setAx, mget_mset_of_ne _ _ _ ha]
      exact ⟨_, rfl⟩) (fun _ => ⟨_, rfl⟩) fun _ => ⟨_, _, rfl⟩

theorem GateStep.updRefreshing {l : Nat} {b : Bool} (h : GateStep L s₀ s) :
    GateStep L s₀ (s.updLg l fun x => { x with refreshing := b }) :=
  h.upd ⟨_, _, _, _, _, _, _, _, rfl⟩ rfl rfl (fun _ => ⟨_, rfl⟩) (fun l' => by
    by_cases hl : l' = l
    · subst hl
      simp only [State.lg, State.updLg, State.setLg, mget_mset_self]
      exact ⟨_, rfl⟩
    · simp only [State.lg, State.updLg, State.setLg, mget_mset_of_ne _ _ _ hl]
      exact ⟨_, rfl⟩) fun _ => ⟨_, _, rfl⟩

/-! ### Channels and positions -/

theorem partner_lt {p : Nat} (h : p < 64) : partner p < 64 := by unfold partner; split <;> omega

/-- The channels of a position, live or not, are channels of the device. -/
theorem lt_of_mem_chans {p c : Nat} (h : c ∈ s.chans p) : c < 256 :=
  List.mem_range.mp (List.mem_of_mem_filter h)
theorem mem_liveChans {p c : Nat} (h : c ∈ s.liveChans p) : c < 256 ∧ s.flag (GCH_STAT c) GCH_STAT_EXCLD = false := by
  obtain ⟨h1, h2⟩ := List.mem_filter.mp h
  exact ⟨lt_of_mem_chans h1, by simpa using h2⟩

theorem GateStep.joinChannel {c : Nat} (h : GateStep L s₀ s) (hc : c < 256) : GateStep L s₀ (joinChannel c s) :=
  ite (h.setGak hc) (h.setGdoFlag hc fun he => by cases he)

theorem GateStep.countPos {p : Nat} (h : GateStep L s₀ s) (hp : p < 64) : GateStep L s₀ (countPos p s) :=
  (h.setPosFld hp (by decide)).setPosFld hp (by decide)

/-- A change of GDO leaves EXCLD of every channel. -/
theorem setGdoFlag_excld (c c' : Nat) (b : Bool) :
    (s.setFlag (GCH_STAT c) GCH_STAT_GDO b).flag (GCH_STAT c') GCH_STAT_EXCLD = s.flag (GCH_STAT c') GCH_STAT_EXCLD := by
  unfold State.setFlag State.setFld State.flag
  by_cases he : c' = c
  · subst he
    rw [rd_wr_self, Fld.bit, put_getLsbD, if_neg (by decide)]
    rfl
  · rw [rd_wr_of_ne s _ (by simp only [GCH_STAT]; omega)]

theorem GateStep.setGdo {p c t : Nat} {b : Bool} (h : GateStep L s₀ s) (hc : c < 256)
    (hb : b = true → s.flag (GCH_STAT c) GCH_STAT_EXCLD = false) : GateStep L s₀ (setGdo p b t c s) :=
  ite h ((h.setGdoFlag hc hb).updCh fun _ => ⟨_, _, rfl⟩)

theorem GateStep.setGdoAsync {c : Nat} {b : Bool} (h : GateStep L s₀ s) (hc : c < 256)
    (hb : b = true → s.flag (GCH_STAT c) GCH_STAT_EXCLD = false) : GateStep L s₀ (setGdoAsync b c s) :=
  ite h ((h.setGdoFlag hc hb).updCh fun _ => ⟨_, _, rfl⟩)

theorem setGdoAsync_excld (c c' : Nat) (b : Bool) :
    (setGdoAsync b c s).flag (GCH_STAT c') GCH_STAT_EXCLD = s.flag (GCH_STAT c') GCH_STAT_EXCLD := by
  unfold Machine.setGdoAsync
  split
  · rfl
  · exact setGdoFlag_excld c c' b

/-- Channels that are not excluded take GDO high together. -/
theorem GateStep.raiseGdo {cs : List Nat} (h : GateStep L s₀ s)
    (hc : ∀ c ∈ cs, c < 256 ∧ s.flag (GCH_STAT c) GCH_STAT_EXCLD = false) :
    GateStep L s₀ (Machine.each cs (Machine.setGdoAsync true) s) := by
  unfold Machine.each
  induction cs generalizing s with
  | nil => exact h
  | cons c cs ih =>
    refine ih (h.setGdoAsync (hc c List.mem_cons_self).1 fun _ => (hc c List.mem_cons_self).2) fun c' hc' => ?_
    rw [setGdoAsync_excld]
    exact hc c' (List.mem_cons_of_mem _ hc')

theorem GateStep.markFall {p : Nat} (h : GateStep L s₀ s) : GateStep L s₀ (markFall p s) := by
  unfold Machine.markFall
  extract_lets +onlyGivenNames t dt
  exact h.updPs.updPs

theorem GateStep.watchExcluded {p : Nat} (h : GateStep L s₀ s) : GateStep L s₀ (watchExcluded p s) :=
  h.each fun _ _ _ h => h.updCh fun _ => ⟨_, _, rfl⟩

theorem GateStep.lowerGdo {cs : List Nat} {p t : Nat} (h : GateStep L s₀ s) (hc : ∀ c ∈ cs, c < 256) :
    GateStep L s₀ (Machine.each cs (Machine.setGdo p false t) s) :=
  h.each fun c hm _ h => h.setGdo (hc c hm) fun he => by cases he

theorem GateStep.fallPos {p : Nat} (h : GateStep L s₀ s) (hp : p < 64) : GateStep L s₀ (fallPos p s) := by
  unfold Machine.fallPos
  extract_lets +onlyGivenNames s1 s2
  have h1 : GateStep L s₀ s1 := h.markFall.watchExcluded
  have h2 : GateStep L s₀ s2 := h1.lowerGdo fun _ hm => (mem_liveChans hm).1
  exact h2.setPosState hp

theorem GateStep.commandOff {p : Nat} (h : GateStep L s₀ s) (hp : p < 64) : GateStep L s₀ (commandOff p s) :=
  ite (h.fallPos hp) (ite (h.setPosState hp) h)

theorem GateStep.commandOn {p : Nat} (h : GateStep L s₀ s) (hp : p < 64) : GateStep L s₀ (commandOn p s) := by
  unfold Machine.commandOn
  extract_lets +onlyGivenNames q s1
  have h1 : GateStep L s₀ s1 := h.setPosState hp
  exact ite ((h1.sqLeg (by omega) (by decide)).rcLeg (by omega)).raise h1

theorem GateStep.followOff {p : Nat} (h : GateStep L s₀ s) (hp : p < 64) : GateStep L s₀ (followOff p s) := by
  unfold Machine.followOff
  extract_lets +onlyGivenNames x
  exact ite (ite h.updPs (h.updPs.commandOff hp)) h

theorem GateStep.followOn {p : Nat} (h : GateStep L s₀ s) (hp : p < 64) : GateStep L s₀ (followOn p s) := by
  unfold Machine.followOn
  extract_lets +onlyGivenNames x
  exact ite (ite h.updPs (h.updPs.commandOn hp)) h

theorem GateStep.followLeg {l : Nat} (h : GateStep L s₀ s) (hl : l < 32) : GateStep L s₀ (followLeg l s) :=
  (((h.followOff (by omega)).followOff (by omega)).followOn (by omega)).followOn (by omega)

/-! ### The composing of commands (R115, R122) -/

theorem GateStep.clearCarries {l : Nat} (h : GateStep L s₀ s) (hl : l < 32) : GateStep L s₀ (clearCarries l s) :=
  (h.setCarry hl).setCarry hl

theorem GateStep.dropEdges {l : Nat} (h : GateStep L s₀ s) : GateStep L s₀ (dropEdges l s) :=
  h.each fun _ _ _ h => h.updPs

theorem GateStep.passEdge {p : Nat} {v : Bool} (h : GateStep L s₀ s) : GateStep L s₀ (passEdge p v s) := by
  unfold Machine.passEdge
  extract_lets +onlyGivenNames t
  exact h.updPs

theorem GateStep.shapeEdge {p : Nat} {v : Bool} {phase : Option Nat} (h : GateStep L s₀ s) (hp : p < 64) :
    GateStep L s₀ (shapeEdge p v phase s) := by
  have hl : p / 2 < 32 := by omega
  unfold Machine.shapeEdge
  refine ite h.passEdge ?_
  extract_lets +onlyGivenNames l x t th stretchMode len c total isShort
  refine ite ?_ ?_
  · extract_lets +onlyGivenNames s1
    have h1 : GateStep L s₀ s1 := (h.setCarry hl).rcLeg hl
    exact h1.updPs
  · extract_lets +onlyGivenNames keep s1 next
    have h1 : GateStep L s₀ s1 := ite (h.setCarry hl) h
    refine ite h1.updPs ?_
    split
    extract_lets +onlyGivenNames lastE cut e' s2 s3
    have h2 : GateStep L s₀ s2 := ite (h1.sqLeg hl (by decide)).raise h1
    have h3 : GateStep L s₀ s3 := ite (h2.sqLeg hl (by decide)).raise h2
    exact ite h3.updPs h3.updPs

theorem GateStep.refreshCmd {p : Nat} (h : GateStep L s₀ s) : GateStep L s₀ (refreshCmd p s) := h.updPs

theorem GateStep.composePos {p : Nat} {phase : Option Nat} (h : GateStep L s₀ s) (hp : p < 64) :
    GateStep L s₀ (composePos p phase s) := by
  unfold Machine.composePos
  extract_lets +onlyGivenNames v
  exact (ite h (h.shapeEdge hp)).refreshCmd

theorem GateStep.composeLeg {l : Nat} {ph pl : Option Nat} (h : GateStep L s₀ s) (hl : l < 32) :
    GateStep L s₀ (composeLeg l ph pl s) :=
  ((h.composePos (by omega)).composePos (by omega)).followLeg hl

theorem GateStep.recompose {l : Nat} (h : GateStep L s₀ s) (hl : l < 32) : GateStep L s₀ (recompose l s) :=
  h.composeLeg hl

theorem lt_of_mem_legsOf {a l : Nat} (h : l ∈ s.legsOf a) : l < 32 := List.mem_range.mp (List.mem_of_mem_filter h)

theorem GateStep.recomposeAxle {a : Nat} (h : GateStep L s₀ s) : GateStep L s₀ (recomposeAxle a s) :=
  h.each fun _ hm _ h => h.recompose (lt_of_mem_legsOf hm)

theorem GateStep.changeSource {l : Nat} (h : GateStep L s₀ s) (hl : l < 32) : GateStep L s₀ (changeSource l s) :=
  h.dropEdges.recompose hl

theorem GateStep.changeSources {a : Nat} (h : GateStep L s₀ s) : GateStep L s₀ (changeSources a s) :=
  h.each fun _ hm _ h => h.changeSource (lt_of_mem_legsOf hm)

theorem GateStep.clearRaw {l : Nat} (h : GateStep L s₀ s) : GateStep L s₀ (clearRaw l s) :=
  h.each fun _ _ _ h => ite h h.updPs

theorem GateStep.mapChanged {l : Nat} (h : GateStep L s₀ s) (hl : l < 32) : GateStep L s₀ (mapChanged l s) :=
  h.clearRaw.recompose hl

theorem GateStep.rawEdge {p phase : Nat} {on : Bool} (h : GateStep L s₀ s) (hp : p < 64) :
    GateStep L s₀ (rawEdge p on phase s) :=
  ite h (ite (h.updPs.composeLeg (by omega)) (h.updPs.composeLeg (by omega)))

theorem GateStep.dueEdges {p : Nat} (h : GateStep L s₀ s) (hp : p < 64) : GateStep L s₀ (dueEdges p s) := by
  unfold Machine.dueEdges
  extract_lets +onlyGivenNames t x
  split
  · refine ite ?_ h
    extract_lets +onlyGivenNames s1
    have h1 : GateStep L s₀ s1 := h.updPs.refreshCmd
    refine GateStep.followLeg ?_ (by omega)
    split
    · exact h1.composePos (by omega)
    · exact h1
  · exact h

/-! ### SAFE (R119, R123, R204) -/

theorem GateStep.safePos {code p : Nat} (h : GateStep L s₀ s) (hp : p < 64) : GateStep L s₀ (safePos code p s) := by
  unfold Machine.safePos
  extract_lets +onlyGivenNames on
  refine ite (h.updPs.setPosState hp) ?_
  extract_lets +onlyGivenNames s1 s2
  have h1 : GateStep L s₀ s1 := ite h.markFall.watchExcluded h
  have h2 : GateStep L s₀ s2 := h1.each fun c hm _ h => h.setGdoAsync (lt_of_mem_chans hm) fun he => by cases he
  exact h2.updPs.setPosState hp

theorem GateStep.asyncTry {l : Nat} (h : GateStep L s₀ s) : GateStep L s₀ (asyncTry l s) := by
  unfold Machine.asyncTry
  extract_lets +onlyGivenNames code p
  exact ite (h.raiseGdo fun _ hm => mem_liveChans hm).updPs h

theorem GateStep.ackSettle {p accepted : Nat} {wasOff : Bool} (h : GateStep L s₀ s) (hp : p < 64) :
    GateStep L s₀ (ackSettle p accepted wasOff s) := by
  unfold Machine.ackSettle
  extract_lets +onlyGivenNames off s1 s2 s3
  have h1 : GateStep L s₀ s1 := ite h.updPs h
  have h2 : GateStep L s₀ s2 := ite (h1.setPosState hp) (ite (h1.setPosState hp) h1)
  have h3 : GateStep L s₀ s3 := ite h2.updPs h2
  exact h3.asyncTry

theorem GateStep.dropUnused {p : Nat} (h : GateStep L s₀ s) (hp : p < 64) : GateStep L s₀ (dropUnused p s) := by
  unfold Machine.dropUnused
  refine ite h ?_
  extract_lets +onlyGivenNames s1 s2
  have h1 : GateStep L s₀ s1 := ite h.markFall h
  have h2 : GateStep L s₀ s2 := h1.updPs
  exact ite h2 (h2.setPosState hp)

theorem GateStep.mappingSettled {old : State} {p : Nat} (h : GateStep L s₀ s) (hp : p < 64) :
    GateStep L s₀ (mappingSettled old p s) :=
  ((h.countPos hp).dropUnused hp).ackSettle hp

theorem mem_legPositions {l p : Nat} (hl : l < 32) (h : p ∈ [2 * l, 2 * l + 1]) : p < 64 := by
  simp only [List.mem_cons, List.not_mem_nil, or_false] at h
  omega

/-- The positions of a leg that enters SAFE take its code, and what LEG_STAT shows follows. -/
theorem GateStep.enterSafe {l code : Nat} (h : GateStep L s₀ s) (hl : l < 32) (hc : Pinned s l → code % 4 ≠ 0) :
    GateStep L s₀ (enterSafe l code s) ∧ (Machine.enterSafe l code s).legSafe l = code % 4 := by
  unfold Machine.enterSafe
  extract_lets +onlyGivenNames fresh s1 s2
  have hs : ∀ K, GateStep K s s1 := fun K => GateStep.refl.each fun _ hm _ h => h.safePos (mem_legPositions hl hm)
  have h2 : GateStep L s₀ s2 := (h.trans (hs L)).setSafe hl fun hp => hc ((hs false).pinned_iff.mp hp)
  have hsafe : s2.legSafe l = code % 4 := fld_setFld_self s1 (LEG_STAT l) LEG_STAT_SAFE code (by decide)
  split
  · refine ⟨(h2.clearCarries hl).updRefreshing.each fun _ _ _ h => h.updPs.passEdge.refreshCmd, ?_⟩
    rw [← hsafe]
    have hps : ∀ (p : Nat) (u : State), (Machine.refreshCmd p (Machine.passEdge p (u.ps p).cmd2
        (u.updPs p fun x => { x with bsForce := none }))).regs = u.regs := fun _ _ => rfl
    simp only [Machine.each, List.foldl_cons, List.foldl_nil, State.legSafe, State.fld, State.rd, hps]
    simp only [Machine.clearCarries, State.setCarry, State.setFld, State.updLg, State.setLg]
    show LEG_STAT_SAFE.get (((s2.wr _ _).wr _ _).rd _) = LEG_STAT_SAFE.get (s2.rd _)
    rw [rd_wr_of_ne _ _ (by simp only [LEG_STAT, carryReg, LEG_CARRYOFF, Bool.false_eq_true, if_false]; omega),
      rd_wr_of_ne _ _ (by simp only [LEG_STAT, carryReg, LEG_CARRYON, if_true]; omega)]
  · exact ⟨h2, hsafe⟩

/-- The registers of a leg's status, which an operation on the outputs alone leaves. -/
theorem each_setGdoAsync_legSafe {cs : List Nat} {b : Bool} (l : Nat) (hc : ∀ c ∈ cs, c < 256) :
    (Machine.each cs (setGdoAsync b) s).legSafe l = s.legSafe l := by
  unfold Machine.each
  induction cs generalizing s with
  | nil => rfl
  | cons c cs ih =>
    rw [List.foldl_cons, ih fun c' h => hc c' (List.mem_cons_of_mem _ h)]
    have := hc c List.mem_cons_self
    unfold Machine.setGdoAsync
    split
    · rfl
    · show LEG_STAT_SAFE.get ((s.wr _ _).rd _) = _
      rw [rd_wr_of_ne _ _ (by simp only [LEG_STAT, GCH_STAT]; omega)]
      rfl

theorem asyncTry_legSafe (l l' : Nat) : (asyncTry l' s).legSafe l = s.legSafe l := by
  unfold Machine.asyncTry
  extract_lets +onlyGivenNames code p
  split
  · exact each_setGdoAsync_legSafe l fun _ hm => (mem_liveChans hm).1
  · rfl

theorem GateStep.forceSafe {l code : Nat} (h : GateStep L s₀ s) (hl : l < 32) (hc : Pinned s l → code % 4 ≠ 0) :
    GateStep L s₀ (forceSafe l code s) ∧ (Machine.forceSafe l code s).legSafe l = code % 4 := by
  obtain ⟨h1, h2⟩ := h.enterSafe hl hc
  exact ⟨h1.asyncTry, (asyncTry_legSafe l l).trans h2⟩

theorem GateStep.leavePos {p : Nat} (h : GateStep L s₀ s) (hp : p < 64) : GateStep L s₀ (leavePos p s) := by
  unfold Machine.leavePos
  extract_lets +onlyGivenNames x s1
  have h1 : GateStep L s₀ s1 := h.updPs
  exact ite (ite (h1.setPosState hp).updPs ((h1.setPosState hp).fallPos hp)) (h1.setPosState hp)

theorem GateStep.leaveSafe {l : Nat} (h : GateStep L s₀ s) (hl : l < 32) (hp : ¬Pinned s l) :
    GateStep L s₀ (leaveSafe l s) := by
  unfold Machine.leaveSafe
  refine ite h ?_
  extract_lets +onlyGivenNames s1 s2 s3
  have hs : ∀ K, GateStep K s s1 := fun K => (GateStep.refl.composePos (by omega)).composePos (by omega)
  have h2 : GateStep L s₀ s2 := (h.trans (hs L)).setSafe hl fun hp' => absurd ((hs false).pinned_iff.mp hp') hp
  have h3 : GateStep L s₀ s3 := ite h2.updSafe h2
  exact (h3.each fun _ hm _ h => h.leavePos (mem_legPositions hl hm)).followLeg hl

/-! ### The code of a leg (R204) -/

theorem sideCode_range (b : Bool) : 2 ≤ sideCode b ∧ sideCode b ≤ 3 := by cases b <;> decide

theorem ascCode_range (s : State) (l : Nat) : 2 ≤ s.ascCode l ∧ s.ascCode l ≤ 3 := by
  unfold State.ascCode
  split
  · exact sideCode_range _
  · split
    · exact sideCode_range _
    · decide

theorem baseCode_range (s : State) (l : Nat) : 1 ≤ s.baseCode l ∧ s.baseCode l ≤ 3 := by
  unfold State.baseCode
  have := ascCode_range s l
  split
  · decide
  · omega

theorem causeCode_range (s : State) (l : Nat) {c : SafeCause} (hc : c ≠ .keeper) :
    1 ≤ s.causeCode l c ∧ s.causeCode l c ≤ 3 := by
  have ha := ascCode_range s l
  have hb := baseCode_range s l
  unfold State.causeCode
  split
  · split
    · omega
    · decide
  · split <;> omega
  · split
    · decide
    · exact hb
  · exact absurd rfl hc
  · exact hb

theorem foldl_or_testBit {α : Type} (f : α → Nat) (p : α → Bool) (k : Nat) (xs : List α) (m : Nat) :
    (xs.foldl (fun m x => if p x = true then m ||| f x else m) m).testBit k =
      (m.testBit k || xs.any fun x => p x && (f x).testBit k) := by
  induction xs generalizing m with
  | nil => simp
  | cons x xs ih =>
    rw [List.foldl_cons, ih, List.any_cons]
    cases hp : p x <;> simp [Nat.testBit_or, Bool.or_assoc]

/-- The latched sources, a register of 24 at a time (R201). -/
theorem mem_latchedSources {src : Nat} (hs : src < 216) : src ∈ s.latchedSources ↔ s.latched src = true := by
  have hbit : ∀ n b, b < 24 → s.latched (24 * n + b) = (s.rd (PROT_TRIP n)).getLsbD b := fun n b hb => by
    unfold State.latched
    rw [show (24 * n + b) / 24 = n by omega, show (24 * n + b) % 24 = b by omega]
  simp only [State.latchedSources, List.mem_flatMap, List.mem_range]
  constructor
  · rintro ⟨n, _, hm⟩
    split at hm
    · cases hm
    · obtain ⟨b, hb, rfl⟩ := List.mem_map.mp hm
      exact (List.mem_filter.mp hb).2
  · intro hl
    refine ⟨src / 24, by omega, ?_⟩
    rw [if_neg]
    · refine List.mem_map.mpr ⟨src % 24, List.mem_filter.mpr ⟨List.mem_range.mpr (by omega), ?_⟩, by omega⟩
      rwa [show 24 * (src / 24) + src % 24 = src by omega]
    · intro h0
      have hb : (PROT_TRIP_LATCH.get (s.rd (PROT_TRIP (src / 24)))).testBit (src % 24) = true := by
        rw [get_testBit]
        simp only [PROT_TRIP_LATCH, Nat.zero_add, show src % 24 < 24 by omega, decide_true, Bool.true_and]
        exact hl
      simp [h0] at hb

/-- A latched trip of ACT 2 or 3 holds the legs of its groups (R203). -/
theorem tripHolds_of_latched {l src g : Nat} (hs : src < 216) (hl : s.latched src = true) (ha : 2 ≤ s.srcAct src)
    (hg : g < 8) (hb : (s.srcGroups src).testBit g = true) (hin : s.inGroup g l = true) : s.tripHolds l = true := by
  have htr : s.trippedGroups.testBit g = true := by
    have := foldl_or_testBit s.srcGroups (fun src => decide (2 ≤ s.srcAct src)) g s.latchedSources 0
    simp only [decide_eq_true_eq, Nat.zero_testBit, Bool.false_or] at this
    unfold State.trippedGroups
    rw [this, List.any_eq_true]
    exact ⟨src, (mem_latchedSources hs).mpr hl, by simp [ha, hb]⟩
  unfold State.tripHolds
  simp only [List.any_eq_true, List.mem_range, Bool.and_eq_true]
  exact ⟨g, hg, htr, hin⟩

/-- A leg that is held asks for a code that is no zero (R204). -/
theorem Pinned.wanted {l : Nat} (h : Pinned s l) : ∃ c ∈ s.wantedCodes l, 1 ≤ c ∧ c ≤ 3 := by
  rcases h with ⟨c, hm, hc⟩ | ⟨src, hs, hl, ha, g, hg, hb, hin⟩
  · exact ⟨_, List.mem_append_left _ (List.mem_map_of_mem hm), causeCode_range s l hc⟩
  · refine ⟨s.baseCode l, List.mem_append_right _ ?_, baseCode_range s l⟩
    rw [if_pos (tripHolds_of_latched (by omega) hl ha hg hb hin)]
    exact List.mem_singleton_self _

theorem Pinned.legCode {l : Nat} (h : Pinned s l) : ∃ c, s.legCode l = some c ∧ 1 ≤ c ∧ c ≤ 3 := by
  obtain ⟨w, hw, hr⟩ := h.wanted
  have ha := ascCode_range s l
  unfold State.legCode
  split
  · next he => rw [he] at hw; cases hw
  · next c cs he =>
    rw [he] at hw
    split
    · exact ⟨_, rfl, by decide⟩
    · split
      · exact ⟨_, rfl, by decide⟩
      · split
        · next hall =>
          refine ⟨_, rfl, ?_⟩
          rcases List.mem_cons.mp hw with rfl | hw
          · exact hr
          · have := List.all_eq_true.mp hall w hw
            simp only [decide_eq_true_eq] at this
            exact this ▸ hr
        · split
          · exact ⟨_, rfl, by omega⟩
          · exact ⟨_, rfl, by decide⟩

theorem not_pinned_of_legCode {l : Nat} (h : s.legCode l = none) : ¬Pinned s l := fun hp => by
  obtain ⟨c, hc, _⟩ := hp.legCode
  rw [h] at hc
  cases hc

/-- A leg that is held settles in SAFE (R203, R204). -/
theorem GateStep.settleLegSafe {l : Nat} (h : GateStep L s₀ s) (hl : l < 32) :
    GateStep L s₀ (settleLegSafe l s) ∧ (Pinned s l → (Machine.settleLegSafe l s).legSafe l ≠ 0) := by
  unfold Machine.settleLegSafe
  split
  · next c hc =>
    have hcode : Pinned s l → 1 ≤ c ∧ c ≤ 3 := fun hp => by
      obtain ⟨c', hc', hr⟩ := hp.legCode
      rw [hc] at hc'
      cases hc'
      exact hr
    split
    · next he =>
      refine ⟨h.asyncTry, fun hp => ?_⟩
      have := hcode hp
      rw [asyncTry_legSafe, he]
      omega
    · obtain ⟨h1, h2⟩ := h.forceSafe (code := c) hl fun hp => by have := hcode hp; omega
      refine ⟨h1, fun hp => ?_⟩
      have := hcode hp
      omega
  · next hn => exact ⟨ite (h.leaveSafe hl (not_pinned_of_legCode hn)) h, fun hp => absurd hp (not_pinned_of_legCode hn)⟩

theorem GateStep.settleSafe (h : GateStep L s₀ s) : GateStep L s₀ (settleSafe s) :=
  h.setGroupCodes.each fun _ hm _ h => (h.settleLegSafe (List.mem_range.mp hm)).1

/-- What one element of a list brings about, and the others keep, holds after all of them. -/
theorem each_establishes {α : Type} {xs : List α} {f : α → State → State} {P Q : State → Prop}
    (hP : ∀ x ∈ xs, ∀ u, P u → P (f x u)) (hQ : ∀ x ∈ xs, ∀ u, P u → Q u → Q (f x u)) {x : α} (hx : x ∈ xs)
    (hfx : ∀ u, P u → Q (f x u)) (s : State) (hs : P s) : Q (Machine.each xs f s) := by
  have hkeep : ∀ (ys : List α), (∀ y ∈ ys, y ∈ xs) → ∀ u, P u → Q u → Q (Machine.each ys f u) := by
    intro ys
    induction ys with
    | nil => exact fun _ _ _ hq => hq
    | cons y ys ih =>
      intro hys u hp hq
      exact ih (fun z hz => hys z (List.mem_cons_of_mem _ hz)) _ (hP y (hys y List.mem_cons_self) u hp)
        (hQ y (hys y List.mem_cons_self) u hp hq)
  have hall : ∀ (ys : List α), (∀ y ∈ ys, y ∈ xs) → x ∈ ys → ∀ u, P u → Q (Machine.each ys f u) := by
    intro ys
    induction ys with
    | nil => exact fun _ h => absurd h List.not_mem_nil
    | cons y ys ih =>
      intro hys hm u hp
      have hys' : ∀ z ∈ ys, z ∈ xs := fun z hz => hys z (List.mem_cons_of_mem _ hz)
      have hp' := hP y (hys y List.mem_cons_self) u hp
      rcases List.mem_cons.mp hm with rfl | hm
      · exact hkeep ys hys' _ hp' (hfx u hp)
      · exact ih hys' hm _ hp'
  exact hall xs (fun _ h => h) hx s hs

/-- After a settling every leg that is held is in SAFE (R203). -/
theorem settleSafe_safe {l : Nat} (hl : l < 32) (hp : Pinned s l) : (settleSafe s).legSafe l ≠ 0 := by
  unfold Machine.settleSafe
  have hg := (GateStep.refl (L := false) (s := s)).setGroupCodes (f := PROT_GSTAT_CODE) (n := groupCodes s)
  refine each_establishes (P := fun u => Pinned u l) (Q := fun u => u.legSafe l ≠ 0) (x := l) ?_ ?_
    (List.mem_range.mpr hl) ?_ _ (hg.pinned hp)
  · exact fun x hx u hu => ((GateStep.refl (L := false)).settleLegSafe (List.mem_range.mp hx)).1.pinned hu
  · exact fun x hx u hu hq => ((GateStep.refl (L := false)).settleLegSafe (List.mem_range.mp hx)).1.safe l hl hu hq
  · exact fun u hu => ((GateStep.refl (L := false)).settleLegSafe hl).2 hu

/-- Legs that nothing holds leave SAFE at their update point (R203). -/
theorem GateStep.release {ls : List Nat} (h : GateStep L s₀ s) (hls : ∀ l ∈ ls, l < 32) :
    GateStep L s₀ (Machine.each ls (fun l t => if (t.legCode l).isNone then Machine.leaveSafe l t else t) s) := by
  refine h.each fun l hm u h => ?_
  split
  · next hn => exact h.leaveSafe (hls l hm) (not_pinned_of_legCode (by simpa using hn))
  · exact h

theorem GateStep.releaseAxle {a : Nat} (h : GateStep L s₀ s) : GateStep L s₀ (releaseAxle a s) :=
  h.release fun _ hm => lt_of_mem_legsOf hm

/-- A trip source latches (R201). -/
theorem GateStep.latchSource {src : Nat} (h : GateStep true s₀ s) (hs : src < 211) :
    GateStep true s₀ (latchSource src s) := by
  refine ite h (GateStep.settleSafe (GateStep.raise ?_))
  have ht : isTrip (PROT_TRIP (src / 24)) := by simp only [isTrip, PROT_TRIP]; omega
  have hm : gateMutable (PROT_TRIP (src / 24)) = 0 := gateMutable_trip (by omega)
  refine h.wrApart (.inr (.inr (.inr (.inr (.inr (.inr (.inr ⟨rfl, ht⟩))))))) (by omega) fun i _ hi hb => ?_
  rw [put_getLsbD, if_neg (by simp only [seqFld]; omega), BitVec.getLsbD_or, hb]
  rfl

end

end Sys2Proof.Proofs
end

section
/-! The registers below the gate block (SYS, EVT, TRK, MEM, LIX and the Axles), the Troika and the clocks of the Axles: the
operations of the gate block, of protection, of sensing, of the fallback and of the safety functions leave them alone, but
for what reports an event. One lemma per operation, in the model's order, each from those of the operations that it runs. -/

namespace Sys2Proof.Proofs

open Sys2Proof Sys2Proof.Machine Sys2Proof.Safety Sys2Proof.Laws

/-- A register of a block before the gate block, or the configuration of a gate channel or of a leg. -/
def Low (o : Nat) : Prop := o < 0x100000 ∨ (o % 0x40 = 0 ∧ o < 0x110C00 ∧ ¬(0x110000 ≤ o ∧ o < 0x110400))

/-- Another register of the gate block or of a block after it. -/
def High (o : Nat) : Prop := ¬Low o

theorem low_of_lt {o : Nat} (h : o < 0x100000) : Low o := .inl h
theorem low_legCfg {l : Nat} (h : l < 32) : Low (LEG_CFG l) := .inr (by simp only [LEG_CFG]; omega)
theorem low_gchCfg {c : Nat} (h : c < 256) : Low (GCH_CFG c) := .inr (by simp only [GCH_CFG]; omega)

@[simp] theorem high_cmpLvl : High CMP_LVL := by simp only [High, Low, CMP_LVL]; omega
@[simp] theorem high_cmpStat : High CMP_STAT := by simp only [High, Low, CMP_STAT]; omega
@[simp] theorem high_encAng (a : Nat) : High (ENC_ANG a) := by simp only [High, Low, ENC_ANG]; omega
@[simp] theorem high_encLat (a : Nat) : High (ENC_LAT a) := by simp only [High, Low, ENC_LAT]; omega
@[simp] theorem high_encPos (a : Nat) : High (ENC_POS a) := by simp only [High, Low, ENC_POS]; omega
@[simp] theorem high_encStat (a : Nat) : High (ENC_STAT a) := by simp only [High, Low, ENC_STAT]; omega
@[simp] theorem high_gchCtrl (a : Nat) : High (GCH_CTRL a) := by simp only [High, Low, GCH_CTRL]; omega
@[simp] theorem high_gchDoff (a : Nat) : High (GCH_DOFF a) := by simp only [High, Low, GCH_DOFF]; omega
@[simp] theorem high_gchDofff (a : Nat) : High (GCH_DOFFF a) := by simp only [High, Low, GCH_DOFFF]; omega
@[simp] theorem high_gchDon (a : Nat) : High (GCH_DON a) := by simp only [High, Low, GCH_DON]; omega
@[simp] theorem high_gchDonf (a : Nat) : High (GCH_DONF a) := by simp only [High, Low, GCH_DONF]; omega
@[simp] theorem high_gchStat (a : Nat) : High (GCH_STAT a) := by simp only [High, Low, GCH_STAT]; omega
@[simp] theorem high_gchTemp (a : Nat) : High (GCH_TEMP a) := by simp only [High, Low, GCH_TEMP]; omega
@[simp] theorem high_gchTrim (a : Nat) : High (GCH_TRIM a) := by simp only [High, Low, GCH_TRIM]; omega
@[simp] theorem high_hysSspd (a : Nat) : High (HYS_SSPD a) := by simp only [High, Low, HYS_SSPD]; omega
@[simp] theorem high_hysSstat (a : Nat) : High (HYS_SSTAT a) := by simp only [High, Low, HYS_SSTAT]; omega
@[simp] theorem high_hysStat (a : Nat) : High (HYS_STAT a) := by simp only [High, Low, HYS_STAT]; omega
@[simp] theorem high_hysTest (a : Nat) : High (HYS_TEST a) := by simp only [High, Low, HYS_TEST]; omega
@[simp] theorem high_legCarryoff (a : Nat) : High (LEG_CARRYOFF a) := by simp only [High, Low, LEG_CARRYOFF]; omega
@[simp] theorem high_legCarryon (a : Nat) : High (LEG_CARRYON a) := by simp only [High, Low, LEG_CARRYON]; omega
@[simp] theorem high_legCnt (a : Nat) : High (LEG_CNT a) := by simp only [High, Low, LEG_CNT]; omega
@[simp] theorem high_legDteff (a : Nat) : High (LEG_DTEFF a) := by simp only [High, Low, LEG_DTEFF]; omega
@[simp] theorem high_legStat (a : Nat) : High (LEG_STAT a) := by simp only [High, Low, LEG_STAT]; omega
@[simp] theorem high_posCnt (a : Nat) : High (POS_CNT a) := by simp only [High, Low, POS_CNT]; omega
@[simp] theorem high_posStat (a : Nat) : High (POS_STAT a) := by simp only [High, Low, POS_STAT]; omega
@[simp] theorem high_protGstat : High PROT_GSTAT := by simp only [High, Low, PROT_GSTAT]; omega
@[simp] theorem high_protStat : High PROT_STAT := by simp only [High, Low, PROT_STAT]; omega
@[simp] theorem high_protTrip (a : Nat) : High (PROT_TRIP a) := by simp only [High, Low, PROT_TRIP]; omega
@[simp] theorem high_resAng (a : Nat) : High (RES_ANG a) := by simp only [High, Low, RES_ANG]; omega
@[simp] theorem high_resLat (a : Nat) : High (RES_LAT a) := by simp only [High, Low, RES_LAT]; omega
@[simp] theorem high_resSpd (a : Nat) : High (RES_SPD a) := by simp only [High, Low, RES_SPD]; omega
@[simp] theorem high_resStat (a : Nat) : High (RES_STAT a) := by simp only [High, Low, RES_STAT]; omega
@[simp] theorem high_safeBrkres : High SAFE_BRKRES := by simp only [High, Low, SAFE_BRKRES]; omega
@[simp] theorem high_safeBrkstat : High SAFE_BRKSTAT := by simp only [High, Low, SAFE_BRKSTAT]; omega
@[simp] theorem high_safeSealpw (a : Nat) : High (SAFE_SEALPW a) := by simp only [High, Low, SAFE_SEALPW]; omega
@[simp] theorem high_safeSealstat : High SAFE_SEALSTAT := by simp only [High, Low, SAFE_SEALSTAT]; omega
@[simp] theorem high_safeTmacc (a : Nat) : High (SAFE_TMACC a) := by simp only [High, Low, SAFE_TMACC]; omega
@[simp] theorem high_safeTmest (a : Nat) : High (SAFE_TMEST a) := by simp only [High, Low, SAFE_TMEST]; omega
@[simp] theorem high_safeTmstat (a : Nat) : High (SAFE_TMSTAT a) := by simp only [High, Low, SAFE_TMSTAT]; omega
@[simp] theorem high_sarRes (a : Nat) : High (SAR_RES a) := by simp only [High, Low, SAR_RES]; omega
@[simp] theorem high_sarStat (a : Nat) : High (SAR_STAT a) := by simp only [High, Low, SAR_STAT]; omega
@[simp] theorem high_sdfCres (a : Nat) : High (SDF_CRES a) := by simp only [High, Low, SDF_CRES]; omega
@[simp] theorem high_sdfLres (a : Nat) : High (SDF_LRES a) := by simp only [High, Low, SDF_LRES]; omega
@[simp] theorem high_sdfLstat (a : Nat) : High (SDF_LSTAT a) := by simp only [High, Low, SDF_LSTAT]; omega
@[simp] theorem high_sdfPctl (a : Nat) : High (SDF_PCTL a) := by simp only [High, Low, SDF_PCTL]; omega
@[simp] theorem high_sdfStat (a : Nat) : High (SDF_STAT a) := by simp only [High, Low, SDF_STAT]; omega
@[simp] theorem high_ttuOctl (a : Nat) : High (TTU_OCTL a) := by simp only [High, Low, TTU_OCTL]; omega
@[simp] theorem high_ttuStat (a : Nat) : High (TTU_STAT a) := by simp only [High, Low, TTU_STAT]; omega
@[simp] theorem high_ite (c : Prop) [Decidable c] (a b : Nat) : High (if c then a else b) ↔ if c then High a else High b := by
  split <;> rfl

/-- An Axle's state without what its legs, sets, windows, reports and monitor keep in it: the counter, its starts and stops,
what fired in the half in progress, and the commits. -/
def clock (x : AxleSt) : AxleSt := { x with
  upAt := 0, repAt := 0, reported := false, intervalFailed := false, prevW := none, repW := 0, openAng := 0, openAng2 := 0,
  trustedW := none, fbPending := none, handback := false, haltHold := false, resumed := false, tf := 0,
  catchPending := false, probes := 0, probing := false, probeDue := false, catchAt := 0, probeAt := 0, attempts := 0,
  drayStarted := false, winOpen := false, winUpd := 0, winAt := 0, pubs := 0, pubDue := false, axwGoverns := false,
  tmSum := 0, tmSteps := 0, tmInvalid := false, tmRecon := false, allSafe := false }

/-- Nothing changes but the instant, registers, what reports an event, the black box, and the state of the engines for gates,
sensing, protection, the fallback and the safety functions. -/
def OnlyEngine (s t : State) : Prop :=
  ∃ now regs wakePend fwdQ words bb axle pos leg chan sdd sar res enc hys mon chop tripPins brake sealedRec draws, t = { s with
    now := now, regs := regs, wakePend := wakePend, cpl := { s.cpl with fwdQ := fwdQ }, lan := { s.lan with words := words, bb := bb }
    axle := axle, pos := pos, leg := leg, chan := chan, sdd := sdd, sar := sar, res := res, enc := enc, hys := hys
    mon := mon, chop := chop, tripPins := tripPins, brake := brake, sealedRec := sealedRec, draws := draws }

/-- The registers that report an event or the finding of an ECC. -/
def reportRegister (o : Nat) : Bool :=
  eventRegister o || decide (o = MEM_STAT) || decide (o = MEM_ECCADDR) || decide (o = MEM_ECCCNT)

/-- Those among them that count or show an address. -/
def reportCounter (o : Nat) : Bool := eventCounter o || decide (o = MEM_ECCADDR) || decide (o = MEM_ECCCNT)

/-- A step of those engines, which asks for no catch. -/
structure LowStep (s t : State) : Prop where
  only : OnlyEngine s t
  rd : ∀ o, Low o → reportRegister o = false → t.rd o = s.rd o
  keeps : ∀ o i, Low o → reportCounter o = false → i < 24 → (s.rd o).getLsbD i = true → (t.rd o).getLsbD i = true
  clock : ∀ a, clock (t.ax a) = clock (s.ax a)
  now : t.now = s.now
  asked : ∀ a, (t.ax a).catchPending = true → (s.ax a).catchPending = true

theorem eventRegister_of_reportRegister {o : Nat} (h : reportRegister o = false) : eventRegister o = false := by
  simp only [reportRegister, Bool.or_eq_false_iff] at h
  exact h.1.1.1
theorem eventCounter_of_reportCounter {o : Nat} (h : reportCounter o = false) : eventCounter o = false := by
  simp only [reportCounter, Bool.or_eq_false_iff] at h
  exact h.1.1
theorem evPend_not_reportCounter {n : Nat} (h : n < 11) : reportCounter (EVT_PEND n) = false := by
  simp only [reportCounter, evPend_not_counter h, Bool.false_or, Bool.or_eq_false_iff, decide_eq_false_iff_not]
  simp only [EVT_PEND, MEM_ECCADDR, MEM_ECCCNT]
  omega

section
-- The lemmas below find their side conditions by an `autoParam`, for which an asynchronous proof would hold a thread.
set_option Elab.async false

variable {s₀ s t u : State}

theorem OnlyEngine.refl : OnlyEngine s s := ⟨_, _, _, _, _, _, _, _, _, _, _, _, _, _, _, _, _, _, _, _, _, rfl⟩
theorem OnlyEngine.trans (h : OnlyEngine s t) (h' : OnlyEngine t u) : OnlyEngine s u := by
  obtain ⟨_, _, _, _, _, _, _, _, _, _, _, _, _, _, _, _, _, _, _, _, _, rfl⟩ := h
  obtain ⟨_, _, _, _, _, _, _, _, _, _, _, _, _, _, _, _, _, _, _, _, _, rfl⟩ := h'
  exact ⟨_, _, _, _, _, _, _, _, _, _, _, _, _, _, _, _, _, _, _, _, _, rfl⟩

theorem OnlyEngine.troika (h : OnlyEngine s t) : t.troika = s.troika := by
  obtain ⟨_, _, _, _, _, _, _, _, _, _, _, _, _, _, _, _, _, _, _, _, _, rfl⟩ := h; rfl
theorem OnlyEngine.kept (h : OnlyEngine s t) : t.kept = s.kept := by
  obtain ⟨_, _, _, _, _, _, _, _, _, _, _, _, _, _, _, _, _, _, _, _, _, rfl⟩ := h; rfl
theorem OnlyEngine.power (h : OnlyEngine s t) : t.power = s.power := by
  obtain ⟨_, _, _, _, _, _, _, _, _, _, _, _, _, _, _, _, _, _, _, _, _, rfl⟩ := h; rfl
theorem OnlyEngine.bringup (h : OnlyEngine s t) : t.bringup = s.bringup := by
  obtain ⟨_, _, _, _, _, _, _, _, _, _, _, _, _, _, _, _, _, _, _, _, _, rfl⟩ := h; rfl
theorem OnlyEngine.awake (h : OnlyEngine s t) : t.awake = s.awake := by
  unfold State.awake
  rw [h.power, h.bringup]
theorem OnlyGate.engine (h : OnlyGate s t) : OnlyEngine s t := by
  obtain ⟨_, _, _, _, _, _, _, _, rfl⟩ := h
  exact ⟨_, _, _, _, _, _, _, _, _, _, _, _, _, _, _, _, _, _, _, _, _, rfl⟩

theorem LowStep.refl : LowStep s s := ⟨.refl, fun _ _ _ => rfl, fun _ _ _ _ _ h => h, fun _ => rfl, rfl, fun _ h => h⟩

theorem LowStep.trans (h : LowStep s t) (h' : LowStep t u) : LowStep s u :=
  ⟨h.only.trans h'.only, fun o ho he => (h'.rd o ho he).trans (h.rd o ho he),
    fun o i ho hc hi hs => h'.keeps o i ho hc hi (h.keeps o i ho hc hi hs), fun a => (h'.clock a).trans (h.clock a),
    h'.now.trans h.now, fun a hc => h.asked a (h'.asked a hc)⟩

/-- A flag outside the counters stays set. -/
theorem LowStep.keepsFlag (h : LowStep s t) {o : Nat} {f : Fld} (hl : Low o) (hf : f.lo < 24)
    (ho : reportCounter o = false) (hs : s.flag o f = true) : t.flag o f = true := h.keeps o _ hl ho hf hs

theorem LowStep.flag (h : LowStep s t) {o : Nat} (f : Fld) (hl : Low o) (ho : reportRegister o = false) :
    t.flag o f = s.flag o f := congrArg f.bit (h.rd o hl ho)
theorem LowStep.fld (h : LowStep s t) {o : Nat} (f : Fld) (hl : Low o) (ho : reportRegister o = false) :
    t.fld o f = s.fld o f := congrArg f.get (h.rd o hl ho)

/-- A pending event stays pending. -/
theorem LowStep.pending (h : LowStep s t) {src : Nat} (he : evReserved src = false) (hs : s.evPending src = true) :
    t.evPending src = true :=
  h.keeps _ _ (low_of_lt (by have := evReserved_div he; simp only [EVT_PEND]; omega)) (evPend_not_reportCounter (evReserved_div he))
    (Nat.mod_lt _ (by decide)) hs

theorem LowStep.reports (h : LowStep s₀ s) (hr : Reports s t) (hg : OnlyEngine s t) (ha : t.axle = s.axle)
    (hn : t.now = s.now) : LowStep s₀ t :=
  h.trans ⟨hg, fun o _ he => hr.rd o (eventRegister_of_reportRegister he),
    fun o i _ hc hi hs => hr.keeps o i hi (eventCounter_of_reportCounter hc) hs,
    fun a => by simp only [State.ax, ha], hn, fun a hc => by simpa only [State.ax, ha] using hc⟩

theorem LowStep.raise {src : Nat} (h : LowStep s₀ s) : LowStep s₀ (s.raise src) := by
  obtain ⟨_, _, _, _, he⟩ := (raise_reports s src).events
  exact h.reports (raise_reports s src) (raise_onlyGate s src).engine (by rw [he]) (by rw [he])

/-- An update outside registers and Axles. -/
theorem LowStep.upd (h : LowStep s₀ s)
    (hg : OnlyEngine s t := by exact ⟨_, _, _, _, _, _, _, _, _, _, _, _, _, _, _, _, _, _, _, _, _, rfl⟩)
    (hr : t.regs = s.regs := by rfl) (ha : t.axle = s.axle := by rfl) (hn : t.now = s.now := by rfl) : LowStep s₀ t :=
  h.trans ⟨hg, fun o _ _ => by simp only [State.rd, hr], fun o i _ _ _ hs => by simpa only [State.rd, hr] using hs,
    fun a => by simp only [State.ax, ha], hn, fun a hc => by simpa only [State.ax, ha] using hc⟩

theorem LowStep.ite {c : Prop} [Decidable c] (h : LowStep s₀ s) (h' : LowStep s₀ t) :
    LowStep s₀ (if c then s else t) := by
  split
  · exact h
  · exact h'

theorem LowStep.each {α : Type} {xs : List α} {f : α → State → State} (h : LowStep s₀ s)
    (hf : ∀ x u, LowStep s₀ u → LowStep s₀ (f x u)) : LowStep s₀ (each xs f s) := by
  unfold Machine.each
  induction xs generalizing s with
  | nil => exact h
  | cons x xs ih => exact ih (hf x s h)

theorem LowStep.wr {off : Nat} {w : Word} (h : LowStep s₀ s) (hw : High off := by simp +zetaDelta) :
    LowStep s₀ (State.wr s off w) := by
  have hne : ∀ o, Low o → (s.wr off w).rd o = s.rd o := fun o ho => rd_wr_of_ne s _ (fun he => hw (he ▸ ho))
  exact h.trans ⟨⟨_, _, _, _, _, _, _, _, _, _, _, _, _, _, _, _, _, _, _, _, _, rfl⟩, fun o ho _ => hne o ho,
    fun o i ho _ _ hs => by rwa [hne o ho], fun _ => rfl, rfl, fun _ h => h⟩

theorem LowStep.setFld {off : Nat} {f : Fld} {n : Nat} (h : LowStep s₀ s) (hw : High off := by simp +zetaDelta) :
    LowStep s₀ (State.setFld s off f n) := h.wr hw
theorem LowStep.setFldI {off : Nat} {f : Fld} {n : Int} (h : LowStep s₀ s) (hw : High off := by simp +zetaDelta) :
    LowStep s₀ (State.setFldI s off f n) := h.setFld hw
theorem LowStep.setFlag {off : Nat} {f : Fld} {b : Bool} (h : LowStep s₀ s) (hw : High off := by simp +zetaDelta) :
    LowStep s₀ (State.setFlag s off f b) := h.setFld hw
theorem LowStep.sqMask {off : Nat} {mask : Word} (h : LowStep s₀ s) (hw : High off := by simp +zetaDelta) :
    LowStep s₀ (State.sqMask s off mask) := by
  unfold State.sqMask
  extract_lets +onlyGivenNames w
  exact h.wr hw
theorem LowStep.sq {off : Nat} {f : Fld} (h : LowStep s₀ s) (hw : High off := by simp +zetaDelta) :
    LowStep s₀ (State.sq s off f) :=
  h.sqMask hw
theorem LowStep.rc {off : Nat} {f : Fld} {k : Nat} (h : LowStep s₀ s) (hw : High off := by simp +zetaDelta) :
    LowStep s₀ (State.rc s off f k) := h.setFld hw
theorem LowStep.setAx {a : Nat} {x : AxleSt} (h : LowStep s₀ s) (hx : Proofs.clock x = Proofs.clock (s.ax a))
    (hc : x.catchPending = true → (s.ax a).catchPending = true) :
    LowStep s₀ (State.setAx s a x) :=
  h.trans ⟨⟨_, _, _, _, _, _, _, _, _, _, _, _, _, _, _, _, _, _, _, _, _, rfl⟩, fun _ _ _ => rfl, fun _ _ _ _ _ h => h,
    fun a' => by
      simp only [State.ax, State.setAx, mget_mset] at hx ⊢
      split
      · next he => rw [he, hx]
      · rfl, rfl,
    fun a' hp => by
      simp only [State.ax, State.setAx, mget_mset] at hc hp ⊢
      split at hp
      · next he => rw [he]; exact hc hp
      · exact hp⟩
theorem LowStep.updAx {a : Nat} {f : AxleSt → AxleSt} (h : LowStep s₀ s)
    (hf : ∀ x, Proofs.clock (f x) = Proofs.clock x := by intro _; rfl)
    (hc : ∀ x : AxleSt, (f x).catchPending = true → x.catchPending = true := by intro _ h; exact h) :
    LowStep s₀ (State.updAx s a f) := h.setAx (hf _) (hc _)
theorem LowStep.setPs {p : Nat} {x : PosSt} (h : LowStep s₀ s) : LowStep s₀ (State.setPs s p x) := h.upd
theorem LowStep.updPs {p : Nat} {f : PosSt → PosSt} (h : LowStep s₀ s) : LowStep s₀ (State.updPs s p f) := h.setPs
theorem LowStep.setLg {l : Nat} {x : LegSt} (h : LowStep s₀ s) : LowStep s₀ (State.setLg s l x) := h.upd
theorem LowStep.updLg {l : Nat} {f : LegSt → LegSt} (h : LowStep s₀ s) : LowStep s₀ (State.updLg s l f) := h.setLg
theorem LowStep.updCh {c : Nat} {f : ChanSt → ChanSt} (h : LowStep s₀ s) : LowStep s₀ (State.updCh s c f) := h.upd
theorem LowStep.updSd {c : Nat} {f : SddSt → SddSt} (h : LowStep s₀ s) : LowStep s₀ (State.updSd s c f) := h.upd
theorem LowStep.updSr {c : Nat} {f : SarSt → SarSt} (h : LowStep s₀ s) : LowStep s₀ (State.updSr s c f) := h.upd
theorem LowStep.updRs {r : Nat} {f : ResSt → ResSt} (h : LowStep s₀ s) : LowStep s₀ (State.updRs s r f) := h.upd
theorem LowStep.updEn {e : Nat} {f : EncSt → EncSt} (h : LowStep s₀ s) : LowStep s₀ (State.updEn s e f) := h.upd
theorem LowStep.updHy {k : Nat} {f : HysSt → HysSt} (h : LowStep s₀ s) : LowStep s₀ (State.updHy s k f) := h.upd
theorem LowStep.updMn {k : Nat} {f : MonSt → MonSt} (h : LowStep s₀ s) : LowStep s₀ (State.updMn s k f) := h.upd
theorem LowStep.drew {n : Nat} (h : LowStep s₀ s) : LowStep s₀ (State.drew s n) := h.upd
theorem LowStep.setLanW {w : Nat} {v : Word} (h : LowStep s₀ s) : LowStep s₀ (State.setLanW s w v) := h.upd
/-- A write of a register that shows the finding of an ECC, which sets flags alone. -/
theorem LowStep.wrReport {off : Nat} {w : Word} (h : LowStep s₀ s) (hr : reportRegister off = true)
    (hw : reportCounter off = false → ∀ i, i < 24 → (s.rd off).getLsbD i = true → w.getLsbD i = true) :
    LowStep s₀ (s.wr off w) := by
  have hne : ∀ o, reportRegister o = false → (s.wr off w).rd o = s.rd o := fun o ho => by
    refine rd_wr_of_ne s w ?_
    rintro rfl
    exact absurd ho (by rw [hr]; decide)
  refine h.trans ⟨⟨_, _, _, _, _, _, _, _, _, _, _, _, _, _, _, _, _, _, _, _, _, rfl⟩, fun o _ ho => hne o ho, ?_,
    fun _ => rfl, rfl, fun _ h => h⟩
  intro o i _ hc hi hs
  rw [rd_wr]
  split
  · next he => exact hw (he ▸ hc) i hi (he ▸ hs)
  · exact hs
theorem LowStep.noteEcc {unc : Bool} {a : Nat} (h : LowStep s₀ s) : LowStep s₀ (noteEcc unc a s) := by
  have hsq : ∀ {f : Fld} {u : State}, LowStep s₀ u → LowStep s₀ (u.sq MEM_STAT f) := fun hu =>
    hu.wrReport (by decide) (fun _ i hi hs => by
      rw [put_getLsbD, if_neg (by simp only [seqFld]; omega), BitVec.getLsbD_or, hs, Bool.true_or])
  have hrc : ∀ {f : Fld} {u : State}, LowStep s₀ u → LowStep s₀ (u.rc MEM_ECCCNT f) := fun hu =>
    hu.wrReport (by decide) (fun hc => absurd hc (by decide))
  unfold Machine.noteEcc
  extract_lets +onlyGivenNames st s1
  have h1 : LowStep s₀ s1 := ite (h.wrReport (by decide) (fun hc => absurd hc (by decide))) h
  exact ite (hsq (hrc h1)).raise (hsq (hrc h1)).raise
theorem LowStep.capture {kind source : Nat} (h : LowStep s₀ s) : LowStep s₀ (capture kind source s) :=
  ite h.upd (h.setLanW (w := 0x3000))

theorem LowStep.setPosState {p st : Nat} (h : LowStep s₀ s) : LowStep s₀ (State.setPosState s p st) :=
  h.setFld
theorem LowStep.joinChannel {c : Nat} (h : LowStep s₀ s) : LowStep s₀ (joinChannel c s) :=
  ite h.setFlag h.setFlag
theorem LowStep.countPos {p : Nat} (h : LowStep s₀ s) : LowStep s₀ (countPos p s) := h.setFld.setFld
theorem LowStep.setGdo {p : Nat} {level : Bool} {t c : Nat} (h : LowStep s₀ s) :
    LowStep s₀ (setGdo p level t c s) :=
  ite h h.setFlag.updCh
theorem LowStep.setGdoAsync {level : Bool} {c : Nat} (h : LowStep s₀ s) :
    LowStep s₀ (setGdoAsync level c s) :=
  ite h h.setFlag.updCh
theorem LowStep.markFall {p : Nat} (h : LowStep s₀ s) : LowStep s₀ (markFall p s) := by
  unfold Machine.markFall
  extract_lets +onlyGivenNames t dt
  exact h.updPs.updPs
theorem LowStep.watchExcluded {p : Nat} (h : LowStep s₀ s) : LowStep s₀ (watchExcluded p s) :=
  h.each fun _ _ h => h.updCh
theorem LowStep.fallPos {p : Nat} (h : LowStep s₀ s) : LowStep s₀ (fallPos p s) := by
  unfold Machine.fallPos
  extract_lets +onlyGivenNames s1 s2
  have h1 : LowStep s₀ s1 := h.markFall.watchExcluded
  have h2 : LowStep s₀ s2 := h1.each fun _ _ h => h.setGdo
  exact h2.setPosState
theorem LowStep.commandOff {p : Nat} (h : LowStep s₀ s) : LowStep s₀ (commandOff p s) :=
  ite h.fallPos (ite h.setPosState h)
theorem LowStep.commandOn {p : Nat} (h : LowStep s₀ s) : LowStep s₀ (commandOn p s) := by
  unfold Machine.commandOn
  extract_lets +onlyGivenNames q s1
  have h1 : LowStep s₀ s1 := h.setPosState
  exact ite h1.sq.rc.raise h1
theorem LowStep.followOff {p : Nat} (h : LowStep s₀ s) : LowStep s₀ (followOff p s) := by
  unfold Machine.followOff
  extract_lets +onlyGivenNames x
  exact ite (ite h.updPs h.updPs.commandOff) h
theorem LowStep.followOn {p : Nat} (h : LowStep s₀ s) : LowStep s₀ (followOn p s) := by
  unfold Machine.followOn
  extract_lets +onlyGivenNames x
  exact ite (ite h.updPs h.updPs.commandOn) h
theorem LowStep.followLeg {l : Nat} (h : LowStep s₀ s) : LowStep s₀ (followLeg l s) :=
  h.followOff.followOff.followOn.followOn
theorem LowStep.setCarry {l : Nat} {on : Bool} {n : Nat} (h : LowStep s₀ s) :
    LowStep s₀ (State.setCarry s l on n) := by
  cases on
  · exact h.setFld (high_legCarryoff l)
  · exact h.setFld (high_legCarryon l)
theorem LowStep.clearCarries {l : Nat} (h : LowStep s₀ s) : LowStep s₀ (clearCarries l s) :=
  h.setCarry.setCarry
theorem LowStep.dropEdges {l : Nat} (h : LowStep s₀ s) : LowStep s₀ (dropEdges l s) :=
  h.each fun _ _ h => h.updPs
theorem LowStep.passEdge {p : Nat} {v : Bool} (h : LowStep s₀ s) : LowStep s₀ (passEdge p v s) := by
  unfold Machine.passEdge
  extract_lets +onlyGivenNames t
  exact h.updPs
theorem LowStep.shapeEdge {p : Nat} {v : Bool} {phase : Option Nat} (h : LowStep s₀ s) :
    LowStep s₀ (shapeEdge p v phase s) := by
  unfold Machine.shapeEdge
  refine ite ?_ ?_
  · exact h.passEdge
  · extract_lets +onlyGivenNames l x t th stretchMode len c total isShort
    refine ite ?_ ?_
    · extract_lets +onlyGivenNames s1
      have h1 : LowStep s₀ s1 := h.setCarry.rc
      exact h1.updPs
    · extract_lets +onlyGivenNames keep s1 next
      have h1 : LowStep s₀ s1 := ite h.setCarry h
      refine ite ?_ ?_
      · exact h1.updPs
      · split
        · extract_lets +onlyGivenNames lastE cut e' s2 s3
          have h2 : LowStep s₀ s2 := ite h1.sq.raise h1
          have h3 : LowStep s₀ s3 := ite h2.sq.raise h2
          exact ite h3.updPs h3.updPs
theorem LowStep.refreshCmd {p : Nat} (h : LowStep s₀ s) : LowStep s₀ (refreshCmd p s) := h.updPs
theorem LowStep.composePos {p : Nat} {phase : Option Nat} (h : LowStep s₀ s) :
    LowStep s₀ (composePos p phase s) := by
  unfold Machine.composePos
  extract_lets +onlyGivenNames v
  exact (ite h h.shapeEdge).refreshCmd
theorem LowStep.composeLeg {l : Nat} {ph pl : Option Nat} (h : LowStep s₀ s) :
    LowStep s₀ (composeLeg l ph pl s) :=
  h.composePos.composePos.followLeg
theorem LowStep.recompose {l : Nat} (h : LowStep s₀ s) : LowStep s₀ (recompose l s) := h.composeLeg
theorem LowStep.recomposeAxle {a : Nat} (h : LowStep s₀ s) : LowStep s₀ (recomposeAxle a s) :=
  h.each fun _ _ h => h.recompose
theorem LowStep.changeSource {l : Nat} (h : LowStep s₀ s) : LowStep s₀ (changeSource l s) :=
  h.dropEdges.recompose
theorem LowStep.changeSources {a : Nat} (h : LowStep s₀ s) : LowStep s₀ (changeSources a s) :=
  h.each fun _ _ h => h.changeSource
theorem LowStep.clearRaw {l : Nat} (h : LowStep s₀ s) : LowStep s₀ (clearRaw l s) :=
  h.each fun _ _ h => ite h h.updPs
theorem LowStep.mapChanged {l : Nat} (h : LowStep s₀ s) : LowStep s₀ (mapChanged l s) := h.clearRaw.recompose
theorem LowStep.rawEdge {p : Nat} {on : Bool} {phase : Nat} (h : LowStep s₀ s) :
    LowStep s₀ (rawEdge p on phase s) :=
  ite h (ite h.updPs.composeLeg h.updPs.composeLeg)
theorem LowStep.dueEdges {p : Nat} (h : LowStep s₀ s) : LowStep s₀ (dueEdges p s) := by
  unfold Machine.dueEdges
  extract_lets +onlyGivenNames t x
  split
  · exact ite ((ite h.updPs.refreshCmd.composePos h.updPs.refreshCmd).followLeg) h
  · exact h
theorem LowStep.safePos {code p : Nat} (h : LowStep s₀ s) : LowStep s₀ (safePos code p s) := by
  unfold Machine.safePos
  extract_lets +onlyGivenNames on
  refine ite ?_ ?_
  · exact h.updPs.setPosState
  · extract_lets +onlyGivenNames s1 s2
    have h1 : LowStep s₀ s1 := ite h.markFall.watchExcluded h
    have h2 : LowStep s₀ s2 := h1.each fun _ _ h => h.setGdoAsync
    exact h2.updPs.setPosState
theorem LowStep.asyncTry {l : Nat} (h : LowStep s₀ s) : LowStep s₀ (asyncTry l s) := by
  unfold Machine.asyncTry
  extract_lets +onlyGivenNames code p
  exact ite ((h.each fun _ _ h => h.setGdoAsync).updPs) h
theorem LowStep.ackSettle {p accepted : Nat} {wasOff : Bool} (h : LowStep s₀ s) :
    LowStep s₀ (ackSettle p accepted wasOff s) := by
  unfold Machine.ackSettle
  extract_lets +onlyGivenNames off s1 s2 s3
  have h1 : LowStep s₀ s1 := ite h.updPs h
  have h2 : LowStep s₀ s2 := ite h1.setPosState (ite h1.setPosState h1)
  have h3 : LowStep s₀ s3 := ite h2.updPs h2
  exact h3.asyncTry
theorem LowStep.dropUnused {p : Nat} (h : LowStep s₀ s) : LowStep s₀ (dropUnused p s) :=
  ite h (ite ((ite h.markFall h).updPs) (((ite h.markFall h).updPs).setPosState))
theorem LowStep.mappingSettled {old : State} {p : Nat} (h : LowStep s₀ s) :
    LowStep s₀ (mappingSettled old p s) :=
  h.countPos.dropUnused.ackSettle
theorem LowStep.enterSafe {l code : Nat} (h : LowStep s₀ s) : LowStep s₀ (enterSafe l code s) := by
  unfold Machine.enterSafe
  extract_lets +onlyGivenNames fresh s1 s2
  have h1 : LowStep s₀ s1 := h.each fun _ _ h => h.safePos
  have h2 : LowStep s₀ s2 := h1.setFld
  exact ite (h2.clearCarries.updLg.each fun _ _ h => h.updPs.passEdge.refreshCmd) h2
theorem LowStep.forceSafe {l code : Nat} (h : LowStep s₀ s) : LowStep s₀ (forceSafe l code s) :=
  h.enterSafe.asyncTry
theorem LowStep.leavePos {p : Nat} (h : LowStep s₀ s) : LowStep s₀ (leavePos p s) := by
  unfold Machine.leavePos
  extract_lets +onlyGivenNames x s1
  have h1 : LowStep s₀ s1 := h.updPs
  exact ite (ite h1.setPosState.updPs h1.setPosState.fallPos) h1.setPosState
theorem LowStep.leaveSafe {l : Nat} (h : LowStep s₀ s) : LowStep s₀ (leaveSafe l s) := by
  unfold Machine.leaveSafe
  refine ite ?_ ?_
  · exact h
  · extract_lets +onlyGivenNames s1 s2 s3
    have h1 : LowStep s₀ s1 := h.composePos.composePos
    have h2 : LowStep s₀ s2 := h1.setFld
    have h3 : LowStep s₀ s3 := ite h2.updAx h2
    exact (h3.each fun _ _ h => h.leavePos).followLeg
theorem LowStep.readmitDue {c : Nat} (h : LowStep s₀ s) : LowStep s₀ (readmitDue c s) := by
  unfold Machine.readmitDue
  extract_lets +onlyGivenNames p
  exact ite h.setFlag.setFlag.countPos h
theorem LowStep.clampDeadTime {l : Nat} (h : LowStep s₀ s) : LowStep s₀ (clampDeadTime l s) := by
  unfold Machine.clampDeadTime
  extract_lets +onlyGivenNames lo hi adt next hl lh s1 s2
  have h1 : LowStep s₀ s1 := h.setFld.setFld
  have h2 : LowStep s₀ s2 := ite h1.raise h1
  exact ite h2.raise h2
theorem LowStep.adaptDeadTime {l : Nat} (h : LowStep s₀ s) : LowStep s₀ (adaptDeadTime l s) := by
  unfold Machine.adaptDeadTime
  extract_lets +onlyGivenNames hl lh mn adt hl' lh' s1 s2
  have h1 : LowStep s₀ s1 := h.setFld.setFld
  have h2 : LowStep s₀ s2 := ite h1.raise h1
  exact ite h2.raise h2
theorem LowStep.evenChannel {p : Nat} {mon moff tm : Int} {c : Nat} (h : LowStep s₀ s) :
    LowStep s₀ (evenChannel p mon moff tm c s) := by
  unfold Machine.evenChannel
  extract_lets +onlyGivenNames lim step don doff b ton toff clamped s1
  have h1 : LowStep s₀ s1 := ite h.sq.raise h
  exact h1.setFldI.setFldI
theorem LowStep.evenPos {p : Nat} (h : LowStep s₀ s) : LowStep s₀ (evenPos p s) := by
  unfold Machine.evenPos
  extract_lets +onlyGivenNames ok live
  exact ite (ite (((h.each fun _ _ h => h.evenChannel).raise).rc) (h.each fun _ _ h => h.evenChannel)) h
theorem LowStep.gateUpdate {a : Nat} (h : LowStep s₀ s) : LowStep s₀ (gateUpdate a s) :=
  h.each fun _ _ h => h.adaptDeadTime.each fun _ _ h => (h.each fun _ _ h => h.readmitDue).evenPos
theorem LowStep.settleLegSafe {l : Nat} (h : LowStep s₀ s) : LowStep s₀ (settleLegSafe l s) := by
  unfold Machine.settleLegSafe
  split
  · exact ite h.asyncTry h.forceSafe
  · exact ite h.leaveSafe h
theorem LowStep.settleSafe (h : LowStep s₀ s) : LowStep s₀ (settleSafe s) :=
  h.setFld.each fun _ _ h => h.settleLegSafe
theorem LowStep.releaseAxle {a : Nat} (h : LowStep s₀ s) : LowStep s₀ (releaseAxle a s) :=
  h.each fun _ _ h => ite h.leaveSafe h
theorem LowStep.addCause {c : SafeCause} {l : Nat} (h : LowStep s₀ s) : LowStep s₀ (addCause c l s) := h.updLg
theorem LowStep.dropCause {c : SafeCause} {l : Nat} (h : LowStep s₀ s) :
    LowStep s₀ (dropCause c l s) :=
  h.updLg
theorem LowStep.safeFor {c : SafeCause} {ls : List Nat} (h : LowStep s₀ s) :
    LowStep s₀ (safeFor c ls s) :=
  (h.each fun _ _ h => h.addCause).settleSafe
theorem LowStep.endCause {c : SafeCause} {ls : List Nat} (h : LowStep s₀ s) :
    LowStep s₀ (endCause c ls s) :=
  (h.each fun _ _ h => h.dropCause).settleSafe
theorem LowStep.latchSource {src : Nat} (h : LowStep s₀ s) : LowStep s₀ (latchSource src s) :=
  ite h h.sqMask.raise.settleSafe
theorem LowStep.tripClear {n : Nat} {data : Word} (h : LowStep s₀ s) :
    LowStep s₀ (tripClear n data s) := by
  unfold Machine.tripClear
  extract_lets +onlyGivenNames r
  refine ite ?_ ?_
  · exact h
  · extract_lets +onlyGivenNames asked ok s1 _ s2 _ s3 s4
    have h1 : LowStep s₀ s1 := h.wr
    have h2 : LowStep s₀ s2 := ite (h1.upd) h1
    have h3 : LowStep s₀ s3 := ite (h2.upd) h2
    have h4 : LowStep s₀ s4 := ite h3.sq.raise h3
    exact h4.settleSafe
theorem LowStep.swTrip {swg : Nat} (h : LowStep s₀ s) : LowStep s₀ (swTrip swg s) := by
  unfold Machine.swTrip
  extract_lets +onlyGivenNames old _ s1
  have h1 : LowStep s₀ s1 := h.upd
  exact h1.latchSource
theorem LowStep.tripPin {src : Nat} {ev : PinEvent} (h : LowStep s₀ s) : LowStep s₀ (tripPin src ev s) := by
  have hlow : LowStep s₀ { s with tripPins := s.tripPins.filter (fun q => q ≠ src) } := h.upd
  have hhigh : LowStep s₀ { s with tripPins := insertRising s.tripPins src } := h.upd
  cases ev with
  | rise => exact hhigh.latchSource
  | fall => exact hlow
  | pulse w => exact ite hlow.latchSource (ite hlow (ite hlow.latchSource.drew hlow.drew))
theorem LowStep.codesFollow {old : State} (h : LowStep s₀ s) : LowStep s₀ (codesFollow old s) :=
  h.each fun _ _ h => ite h.updLg (ite h.forceSafe h)
theorem LowStep.selectionEvaluation (h : LowStep s₀ s) : LowStep s₀ (selectionEvaluation s) := by
  unfold Machine.selectionEvaluation
  extract_lets +onlyGivenNames old new
  exact ite h h.setFld.codesFollow.sq.raise.settleSafe
theorem LowStep.chopFault (h : LowStep s₀ s) : LowStep s₀ (chopFault s) := by
  unfold Machine.chopFault
  extract_lets +onlyGivenNames _ s1 s2
  have h1 : LowStep s₀ s1 := h.upd
  have h2 : LowStep s₀ s2 := h1.sq.raise
  exact h2.recompose.latchSource
theorem LowStep.chopAckFault {l : Nat} (h : LowStep s₀ s) : LowStep s₀ (chopAckFault l s) := ite h.chopFault h
theorem LowStep.setChop {c : Chopper} (h : LowStep s₀ s) : LowStep s₀ { s with chop := c } := h.upd
theorem LowStep.dcLinkReading {c : Nat} (h : LowStep s₀ s) : LowStep s₀ (dcLinkReading c s) := by
  unfold Machine.dcLinkReading
  extract_lets +onlyGivenNames v above was _ warned noted _ s1
  have hwarned : LowStep s₀ warned := h.setChop
  have hnoted : LowStep s₀ noted := ite hwarned.sq.raise hwarned
  have h1 : LowStep s₀ s1 :=
    ite (ite (ite (ite hnoted (setChop hnoted).recompose) (ite (setChop hnoted).recompose hnoted)) hnoted) h
  exact ite (setChop h1).sq.raise h1
theorem LowStep.chopCheck (h : LowStep s₀ s) : LowStep s₀ (chopCheck s) := by
  unfold Machine.chopCheck
  extract_lets +onlyGivenNames v
  exact ite h.chopFault h
theorem LowStep.dischargeLate (h : LowStep s₀ s) : LowStep s₀ (dischargeLate s) := by
  unfold Machine.dischargeLate
  refine ite ?_ ?_
  · extract_lets +onlyGivenNames _ s1
    have h1 : LowStep s₀ s1 := h.upd
    exact h1.sq.raise.latchSource
  · exact h
theorem LowStep.dischargeWritten (h : LowStep s₀ s) : LowStep s₀ (dischargeWritten s) := by
  unfold Machine.dischargeWritten
  extract_lets +onlyGivenNames start _ s1
  have h1 : LowStep s₀ s1 := h.upd
  exact ite h1.setFlag (ite h1.setFlag h1)
theorem LowStep.dieTempUpdate {c : Nat} (h : LowStep s₀ s) : LowStep s₀ (dieTempUpdate c s) := by
  unfold Machine.dieTempUpdate
  extract_lets +onlyGivenNames kt
  split
  · exact ite h.setFlag (ite h.setFlag.setFldI h.setFlag.setFld.drew)
  · exact h.setFlag
theorem LowStep.measure {c : Nat} {level : Bool} {d : Option Nat} (h : LowStep s₀ s) :
    LowStep s₀ (measure c level d s) := by
  unfold Machine.measure
  extract_lets +onlyGivenNames reg freg
  split
  · exact h.setFld
  · extract_lets +onlyGivenNames s1 f' s2
    have h1 : LowStep s₀ s1 := h.setFld
    have h2 : LowStep s₀ s2 := h1.setFldI.setFlag
    exact ite h2.dieTempUpdate h2
theorem LowStep.gakAccepted {c : Nat} {level : Bool} {t : Nat} (h : LowStep s₀ s) :
    LowStep s₀ (gakAccepted c level t s) := by
  have settle : ∀ {u : State} {p' a : Nat} {w b : Bool}, LowStep s₀ u →
      LowStep s₀ (if b then Machine.chopAckFault (p' / 2)
        (((Machine.ackSettle p' a w u).sq (GCH_STAT c) GCH_STAT_ACKDROP).raise (evGate 3)) else Machine.ackSettle p' a w u) :=
    fun hu => ite hu.ackSettle.sq.raise.chopAckFault hu.ackSettle
  unfold Machine.gakAccepted
  generalize (s.ch c).edge = own
  have h1 : LowStep s₀ ((s.setFlag (GCH_STAT c) GCH_STAT_GAK level).updCh c
      (fun x => { x with watch := x.watch && level })) := h.setFlag.updCh
  rcases own with _ | ⟨lv, e⟩
  · exact ite (settle h1).sq.raise (settle h1)
  · exact ite (settle (ite (ite h1.updCh h1.updCh.measure) h1)).sq.raise (settle (ite (ite h1.updCh h1.updCh.measure) h1))
theorem LowStep.ackTimeout {c : Nat} {rising : Bool} (h : LowStep s₀ s) :
    LowStep s₀ (ackTimeout c rising s) := by
  unfold Machine.ackTimeout
  extract_lets +onlyGivenNames p l due
  refine ite ?_ ?_
  · exact h
  · extract_lets +onlyGivenNames own s1 s2
    have h1 : LowStep s₀ s1 := h.updCh
    have h2 : LowStep s₀ s2 := ite h1 h1.measure
    refine ite ?_ ?_
    · refine ite ?_ ?_
      · exact h2
      · extract_lets +onlyGivenNames s3 _ _ _ s4
        have h3 : LowStep s₀ s3 := h2.sq.raise
        have h4 : LowStep s₀ s4 := ite h3.setFlag.setFlag.raise.rc.countPos.ackSettle (ite h3.sq.latchSource h3.sq)
        exact h4.chopAckFault
    · extract_lets +onlyGivenNames s3
      have h3 : LowStep s₀ s3 := h2.sq.raise
      exact h3.latchSource.chopAckFault
theorem LowStep.asyncExpiry {l : Nat} (h : LowStep s₀ s) : LowStep s₀ (asyncExpiry l s) := by
  unfold Machine.asyncExpiry
  extract_lets +onlyGivenNames q
  exact ite h.updPs.asyncTry h
theorem LowStep.delayLineSwap {c : Nat} {ok : Bool} (h : LowStep s₀ s) :
    LowStep s₀ (delayLineSwap c ok s) :=
  ite h (ite h.updCh.setFlag (ite h.updCh.sq.setFlag.raise h.updCh.sq))
theorem LowStep.refreshStart {l : Nat} (h : LowStep s₀ s) : LowStep s₀ (refreshStart l s) :=
  ite h.raise.rc.sq.updLg.updPs.updPs.recompose h
theorem LowStep.refreshEnd {l : Nat} (h : LowStep s₀ s) : LowStep s₀ (refreshEnd l s) :=
  ite h.updLg.updPs.updPs.recompose h
theorem LowStep.rearmChannel {c : Nat} (h : LowStep s₀ s) : LowStep s₀ (rearmChannel c s) :=
  h.setFlag.setFlag.setFlag.dieTempUpdate
theorem LowStep.syncStretch {l : Nat} (h : LowStep s₀ s) : LowStep s₀ (syncStretch l s) := by
  unfold Machine.syncStretch
  extract_lets +onlyGivenNames x ok t
  exact ite (ite h.updLg h.updLg) (ite h.updLg.updSd h)
theorem LowStep.syncStretches (h : LowStep s₀ s) : LowStep s₀ (syncStretches s) :=
  h.each fun _ _ h => h.syncStretch
theorem LowStep.windowOpen {a : Nat} (h : LowStep s₀ s) : LowStep s₀ (windowOpen a s) :=
  ite h (((h.updAx.each fun _ _ h => h.updHy).each fun _ _ h => h.updLg).syncStretches)
theorem LowStep.endProbe {a : Nat} {kept : Bool} (h : LowStep s₀ s) : LowStep s₀ (endProbe a kept s) :=
  ite h.updAx.changeSources h
theorem LowStep.holdResult {l : Nat} (h : LowStep s₀ s) : LowStep s₀ (holdResult l s) := by
  unfold Machine.holdResult
  extract_lets +onlyGivenNames w
  exact h.updLg
theorem LowStep.windowClose {a : Nat} (h : LowStep s₀ s) : LowStep s₀ (windowClose a s) :=
  ite h (((h.updAx.syncStretches.each fun _ _ h => h.updHy).each fun _ _ h => h.holdResult).endProbe)
theorem LowStep.windowDrop {a : Nat} (h : LowStep s₀ s) : LowStep s₀ (windowDrop a s) :=
  ite ((h.updAx.syncStretches.each fun _ _ h => h.updLg).endProbe) h
theorem LowStep.axwOff {a : Nat} (h : LowStep s₀ s) : LowStep s₀ (axwOff a s) := h.windowDrop.updAx
theorem LowStep.windowUpdate {a : Nat} (h : LowStep s₀ s) : LowStep s₀ (windowUpdate a s) :=
  ite (ite h.updAx.windowClose.raise h.updAx) h
theorem LowStep.windowTrigger {a m : Nat} (h : LowStep s₀ s) : LowStep s₀ (windowTrigger a m s) :=
  ite (ite ((ite h.windowOpen h).windowClose) (ite h.windowOpen h)) h
theorem LowStep.drayWindow {a : Nat} {opens : Bool} (h : LowStep s₀ s) :
    LowStep s₀ (drayWindow a opens s) :=
  ite (ite h.windowOpen h.windowClose) h
theorem LowStep.noteSamples {c : Nat} {last : Bool} {samples : List Bool} (h : LowStep s₀ s) :
    LowStep s₀ (noteSamples c last samples s) :=
  ite (h.updSd.each fun _ _ h => h.updLg) h
theorem LowStep.controlValue {c : Nat} {raw : Int} (h : LowStep s₀ s) :
    LowStep s₀ (controlValue c raw s) :=
  ite h.updSd (ite h.setFldI.setFld (h.each fun _ _ h => h.updLg))
theorem LowStep.controlOutput {c : Nat} {samples : List Bool} (h : LowStep s₀ s) :
    LowStep s₀ (controlOutput c samples s) := by
  unfold Machine.controlOutput
  refine ite ?_ ?_
  · extract_lets +onlyGivenNames d old
    split
    · exact h.updSd.controlValue.noteSamples
  · exact h
theorem LowStep.protectionValue {c : Nat} {raw : Int} (h : LowStep s₀ s) :
    LowStep s₀ (protectionValue c raw s) := by
  unfold Machine.protectionValue
  refine ite ?_ ?_
  · exact h.updSd
  · extract_lets +onlyGivenNames s1 s2 old new s3 s4 s5 s6
    have h1 : LowStep s₀ s1 := h.setFldI
    have h2 : LowStep s₀ s2 := h1.each fun _ _ h => h.updLg
    have h3 : LowStep s₀ s3 := h2.updSd
    have h4 : LowStep s₀ s4 := ite h3.sq.raise h3
    have h5 : LowStep s₀ s5 := ite h4.sq.raise h4
    have h6 : LowStep s₀ s6 := ite h5.latchSource h5
    exact h6.dcLinkReading
theorem LowStep.protectionOutput {c : Nat} {samples : List Bool} (h : LowStep s₀ s) :
    LowStep s₀ (protectionOutput c samples s) := by
  unfold Machine.protectionOutput
  extract_lets +onlyGivenNames d
  refine ite ?_ ?_
  · extract_lets +onlyGivenNames old
    split
    · exact h.updSd.protectionValue.noteSamples
  · exact h
theorem LowStep.faultLeg {l : Nat} (h : LowStep s₀ s) : LowStep s₀ (faultLeg l s) := h.setFlag.updLg
theorem LowStep.stallChannel {c : Nat} (h : LowStep s₀ s) : LowStep s₀ (stallChannel c s) := by
  unfold Machine.stallChannel
  extract_lets +onlyGivenNames s1
  have h1 : LowStep s₀ s1 := h.sq.setFlag.raise
  exact h1.updSd.each fun _ _ h => h.faultLeg
theorem LowStep.suspectRun {c : Nat} (h : LowStep s₀ s) : LowStep s₀ (suspectRun c s) :=
  ite h (h.each fun _ _ h => ite h.updLg h.updLg)
theorem LowStep.sdfStall {c : Nat} (h : LowStep s₀ s) : LowStep s₀ (sdfStall c s) := ite h.stallChannel h
theorem LowStep.sdfCklost {c : Nat} (h : LowStep s₀ s) : LowStep s₀ (sdfCklost c s) :=
  ite (h.sq.raise.each fun _ _ h => h.updSd.stallChannel) h
theorem LowStep.rearmSdf {c : Nat} (h : LowStep s₀ s) : LowStep s₀ (rearmSdf c s) := by
  unfold Machine.rearmSdf
  extract_lets +onlyGivenNames s1 s2
  have h1 : LowStep s₀ s1 := h.setFlag.setFlag
  have h2 : LowStep s₀ s2 := h1.updSd
  exact h2.each fun _ _ h => h.setFlag.setFld.updLg
theorem LowStep.lmapWritten {l : Nat} (h : LowStep s₀ s) : LowStep s₀ (lmapWritten l s) := h.setFlag
theorem LowStep.sarTrigger {c : Nat} (h : LowStep s₀ s) : LowStep s₀ (sarTrigger c s) :=
  ite h.sq.raise (ite h h.setFlag.updSr)
theorem LowStep.sarSlotResult {c : Nat} {code : BitVec 16} (h : LowStep s₀ s) :
    LowStep s₀ (sarSlotResult c code s) := by
  unfold Machine.sarSlotResult
  refine ite ?_ ?_
  · exact h
  · extract_lets +onlyGivenNames x i s1
    have h1 : LowStep s₀ s1 := h.setFld.setFld
    exact ite (ite h1.setFlag.raise.sarTrigger h1.setFlag.raise) h1.updSr
theorem LowStep.sarAxleTrigger {a m : Nat} (h : LowStep s₀ s) : LowStep s₀ (sarAxleTrigger a m s) :=
  h.each fun _ _ h => h.sarTrigger
theorem LowStep.cmpHit {k uv : Nat} (h : LowStep s₀ s) : LowStep s₀ (cmpHit k uv s) :=
  ite h.setFld.sqMask.raise.latchSource h
theorem LowStep.cmpOff {k : Nat} (h : LowStep s₀ s) : LowStep s₀ (cmpOff k s) := ite h.setFld h
theorem LowStep.cmpRelease {k uv : Nat} (h : LowStep s₀ s) : LowStep s₀ (cmpRelease k uv s) := ite h.cmpOff h
theorem LowStep.resolverSample {r amp : Nat} {err track : BitVec 16} {speed : Word} (h : LowStep s₀ s) :
    LowStep s₀ (resolverSample r amp err track speed s) := by
  unfold Machine.resolverSample
  refine ite h ?_
  extract_lets +onlyGivenNames ang old x s1 s2 note
  have hnote : ∀ b f u, LowStep s₀ u → LowStep s₀ (note b f u) := fun b f u hu => ite hu.sq.raise hu
  have h2 : LowStep s₀ s2 := h.setFld.wr.setFlag.updRs
  exact hnote _ _ _ (hnote _ _ _ (hnote _ _ _ (hnote _ _ _ h2)))
theorem LowStep.encMove {e : Nat} {d : Int} {t : Nat} (h : LowStep s₀ s) :
    LowStep s₀ (encMove e d t s) := by
  unfold Machine.encMove
  extract_lets +onlyGivenNames cpr close s1 s2
  have h1 : LowStep s₀ s1 := h.setFldI
  have h2 : LowStep s₀ s2 := h1.setFld.updEn
  exact ite h2.sq.raise h2
theorem LowStep.encoderEdge {e : Nat} {a b : Bool} {stable t : Nat} (h : LowStep s₀ s) :
    LowStep s₀ (encoderEdge e a b stable t s) := by
  unfold Machine.encoderEdge
  refine ite ?_ ?_
  · exact h
  · extract_lets +onlyGivenNames old s1
    have h1 : LowStep s₀ s1 := h.updEn
    refine ite ?_ ?_
    · exact h1
    · refine ite ?_ ?_
      · exact h1.sq.raise
      · split
        · exact h1.encMove
        · exact h1
theorem LowStep.encoderZ {e stable : Nat} (h : LowStep s₀ s) : LowStep s₀ (encoderZ e stable s) :=
  ite h (ite (((ite h.setFlag.sq h.setFlag).setFld).setFld) h.setFlag)
theorem LowStep.angleLatches {a m : Nat} (h : LowStep s₀ s) : LowStep s₀ (angleLatches a m s) := by
  unfold Machine.angleLatches
  extract_lets +onlyGivenNames s1
  have h1 : LowStep s₀ s1 := h.each fun _ _ h => ite h.setFld h
  exact h1.each fun _ _ h => ite h.setFld h
theorem LowStep.setVector {k v : Nat} (h : LowStep s₀ s) : LowStep s₀ (setVector k v s) :=
  ite h (h.setFld.updHy.each fun _ _ h => h.recompose)
theorem LowStep.psiRef {a : Nat} {finding : Ecc} (h : LowStep s₀ s) : LowStep s₀ (psiRef a finding s).1 := by
  have hown : ∀ {c : Prop} [Decidable c] {u v : State} {m n : Int}, LowStep s₀ u → LowStep s₀ v →
      LowStep s₀ (if c then (u, m) else (v, n)).1 := by
    intro c _ u v m n hu hv
    split
    · exact hu
    · exact hv
  unfold Machine.psiRef
  extract_lets own addr v
  split
  · exact hown h.noteEcc (ite h.noteEcc h)
  · exact h
theorem LowStep.compareSet {k : Nat} {finding : Ecc} (h : LowStep s₀ s) :
    LowStep s₀ (compareSet k finding s).1 := by
  unfold Machine.compareSet
  dsimp only
  exact h.psiRef.updHy
theorem LowStep.regulate {k : Nat} (h : LowStep s₀ s) : LowStep s₀ (regulate k s) :=
  h.compareSet.setVector
theorem LowStep.showSet {k : Nat} (h : LowStep s₀ s) : LowStep s₀ (showSet k s) := by
  unfold Machine.showSet
  extract_lets +onlyGivenNames x s1 s2
  have h1 : LowStep s₀ s1 := h.setFld
  have h2 : LowStep s₀ s2 := h1.setFld
  exact h2.wr
theorem LowStep.showTorque {a : Nat} (h : LowStep s₀ s) : LowStep s₀ (showTorque a s) := h.wr
theorem LowStep.estimate {k : Nat} (h : LowStep s₀ s) : LowStep s₀ (estimate k s) := by
  unfold Machine.estimate
  extract_lets +onlyGivenNames a x ls rs tflx legs u lev
  split
  · extract_lets +onlyGivenNames err psiA psiB pra prb theta w ea eb den iA iB ts win y
    exact h.updHy.drew
theorem LowStep.slewReference {k : Nat} (h : LowStep s₀ s) : LowStep s₀ (slewReference k s) := by
  unfold Machine.slewReference
  extract_lets +onlyGivenNames a
  exact ite h.updAx h
theorem LowStep.estimatorStep {k : Nat} {finding : Ecc} (h : LowStep s₀ s) :
    LowStep s₀ (estimatorStep k finding s) := by
  unfold Machine.estimatorStep
  refine ite ?_ h
  split
  rename_i u v huv
  have hu : LowStep s₀ u := by
    have hc := h.estimate (k := k) |>.showSet (k := k) |>.showTorque (a := s.setAxle k) |>.slewReference (k := k)
      |>.compareSet (k := k) (finding := finding)
    rwa [huv] at hc
  exact ite hu.setVector hu
theorem LowStep.noteEntry {a cause mode : Nat} (h : LowStep s₀ s) :
    LowStep s₀ (noteEntry a cause mode s) := by
  unfold Machine.noteEntry
  extract_lets +onlyGivenNames s1
  have h1 : LowStep s₀ s1 := h.setFld.setFld
  exact h1.sq.raise
theorem LowStep.enterFallback {a cause : Nat} (h : LowStep s₀ s) :
    LowStep s₀ (enterFallback a cause s) := by
  unfold Machine.enterFallback
  refine ite ?_ ?_
  · exact h
  · refine ite ?_ ?_
    · extract_lets +onlyGivenNames t s1 s2
      have h1 : LowStep s₀ s1 := h.noteEntry.updAx
      have h2 : LowStep s₀ s2 := h1.each fun _ _ h => h.clearCarries
      exact (h2.each fun _ _ h => h.regulate).changeSources
    · extract_lets +onlyGivenNames s1
      have h1 : LowStep s₀ s1 := h.noteEntry.updAx
      exact ((h1.each fun _ _ h => h.clearCarries).safeFor).changeSources
theorem LowStep.endHeld {a : Nat} (h : LowStep s₀ s) : LowStep s₀ (endHeld a s) := h.endCause.endCause
theorem LowStep.clearCaught {a : Nat} (h : LowStep s₀ s) : LowStep s₀ (clearCaught a s) :=
  h.each fun _ _ h => h.updHy
theorem LowStep.endFallback {a : Nat} (h : LowStep s₀ s) : LowStep s₀ (endFallback a s) := by
  unfold Machine.endFallback
  extract_lets +onlyGivenNames s1
  have h1 : LowStep s₀ s1 := (h.setFld.updAx (hc := fun _ hf => absurd hf Bool.false_ne_true))
  exact h1.clearCaught.endHeld.changeSources
theorem LowStep.hysNoconv {k : Nat} (h : LowStep s₀ s) : LowStep s₀ (hysNoconv k s) := by
  unfold Machine.hysNoconv
  extract_lets +onlyGivenNames a
  refine ite ?_ ?_
  · extract_lets +onlyGivenNames again n asc s1 s2 s3
    have h1 : LowStep s₀ s1 := h.sq.raise.setFld
    have h2 : LowStep s₀ s2 := h1.clearCaught.updAx
    have h3 : LowStep s₀ s3 := ite h2.sq.raise h2
    exact h3.safeFor.changeSources
  · exact h
theorem LowStep.catchProbe {a : Nat} (h : LowStep s₀ s) : LowStep s₀ (catchProbe a s) := by
  unfold Machine.catchProbe
  extract_lets +onlyGivenNames x
  exact ite ((h.updAx.each fun _ _ h => h.setVector).changeSources) h
theorem LowStep.catchSet {k : Nat} {p2 : Int × Int × Bool × Nat} (h : LowStep s₀ s) :
    LowStep s₀ (catchSet k p2 s) := by
  unfold Machine.catchSet
  extract_lets +onlyGivenNames a p1 psiRef still dt w sg den scale s1 s2 s3
  have h1 : LowStep s₀ s1 := h.setFlag
  have h2 : LowStep s₀ s2 := h1.updHy
  have h3 : LowStep s₀ s3 := h2.updHy
  exact h3.drew.showSet
theorem LowStep.probePublished {a : Nat} (h : LowStep s₀ s) : LowStep s₀ (probePublished a s) := by
  unfold Machine.probePublished
  refine ite ?_ ?_
  · exact h
  · extract_lets +onlyGivenNames ks s1
    have h1 : LowStep s₀ s1 := h.updAx
    refine ite ?_ ?_
    · exact h1.each fun _ _ h => h.updHy
    · extract_lets +onlyGivenNames s2 s3 s4
      have h2 : LowStep s₀ s2 := h1.each fun _ _ h => h.catchSet
      have h3 : LowStep s₀ s3 := h2.updAx
      have h4 : LowStep s₀ s4 := h3.setFld.raise
      exact (h4.each fun _ _ h => h.regulate).changeSources
theorem LowStep.correctSet {k : Nat} (h : LowStep s₀ s) : LowStep s₀ (correctSet k s) := by
  unfold Machine.correctSet
  extract_lets +onlyGivenNames a x
  refine ite ?_ ?_
  · exact h
  · split
    · extract_lets +onlyGivenNames n ea eb ls ok c done s1 s2
      have h1 : LowStep s₀ s1 := h.updHy
      have h2 : LowStep s₀ s2 := ite h1.setFlag (ite h1.setFlag h1)
      exact h2.showSet
theorem LowStep.handbackUpdate {a : Nat} (h : LowStep s₀ s) : LowStep s₀ (handbackUpdate a s) := by
  unfold Machine.handbackUpdate
  extract_lets +onlyGivenNames x
  exact ite h.setFld.updAx.clearCaught.sq.raise.changeSources h
theorem LowStep.askFallback {a cause : Nat} (h : LowStep s₀ s) : LowStep s₀ (askFallback a cause s) :=
  ite h h.updAx
theorem LowStep.fallbackUpdate {a : Nat} {pend : Option Nat} (h : LowStep s₀ s) :
    LowStep s₀ (fallbackUpdate a pend s) := by
  unfold Machine.fallbackUpdate
  split
  · exact h
  · exact ite h.enterFallback h
theorem LowStep.crossCheck {l : Nat} {i : Int} (h : LowStep s₀ s) : LowStep s₀ (crossCheck l i s) := by
  unfold Machine.crossCheck
  extract_lets +onlyGivenNames x
  exact ite (ite h.updLg.sq.raise h.updLg) h
theorem LowStep.countPrediction {a l src : Nat} (h : LowStep s₀ s) :
    LowStep s₀ (countPrediction a l src s) :=
  ite h (ite h.setFld (ite (ite h.setFld.updLg.setFlag.sq.raise h.setFld) h))
theorem LowStep.publishLeg {a num l : Nat} {r : Nat × Int} (h : LowStep s₀ s) :
    LowStep s₀ (publishLeg a num l r s) := by
  unfold Machine.publishLeg
  extract_lets +onlyGivenNames reg n s1 s2 s3 s4 s5
  have h1 : LowStep s₀ s1 := h.setFld
  have h2 : LowStep s₀ s2 := h1.setFld
  have h3 : LowStep s₀ s3 := h2.setFld
  have h4 : LowStep s₀ s4 := h3.setFldI
  have h5 : LowStep s₀ s5 := ite h4.crossCheck h4
  exact h5.updLg.countPrediction
theorem LowStep.publication {a : Nat} (h : LowStep s₀ s) : LowStep s₀ (publication a s) := by
  unfold Machine.publication
  refine ite ?_ ?_
  · exact h
  · extract_lets +onlyGivenNames ls rs num s1 s2 s3
    have h1 : LowStep s₀ s1 := h.updAx.each fun _ _ h => h.publishLeg
    have h2 : LowStep s₀ s2 := h1.raise.drew
    have h3 : LowStep s₀ s3 := h2.each fun _ _ h => h.correctSet
    exact h3.probePublished
theorem LowStep.setBrake {level hold : Bool} (h : LowStep s₀ s) : LowStep s₀ (setBrake level hold s) := by
  unfold Machine.setBrake
  extract_lets +onlyGivenNames b s1 s2 _ s3
  have h1 : LowStep s₀ s1 := ite h h.setFlag
  have h2 : LowStep s₀ s2 := ite h1 h1.setFlag
  have h3 : LowStep s₀ s3 := h2.upd
  exact h3.setFlag.setFlag
theorem LowStep.brakeTestOver {cause : Nat} (h : LowStep s₀ s) : LowStep s₀ (brakeTestOver cause s) := by
  unfold Machine.brakeTestOver
  extract_lets +onlyGivenNames s1 s2 m
  have h1 : LowStep s₀ s1 := h.setFld.setFld
  have h2 : LowStep s₀ s2 := h1.setFld.setFld
  exact h2.sqMask.raise
theorem LowStep.brakeTestCut {cause : Nat} (h : LowStep s₀ s) : LowStep s₀ (brakeTestCut cause s) := by
  unfold Machine.brakeTestCut
  extract_lets n
  have hcut : LowStep s₀ { s with brake := { s.brake with imin := n } } := h.upd
  exact hcut.brakeTestOver
theorem LowStep.brakeAbort (h : LowStep s₀ s) : LowStep s₀ (brakeAbort s) := ite h.brakeTestCut h
theorem LowStep.settleBrake (h : LowStep s₀ s) : LowStep s₀ (settleBrake s) := by
  unfold Machine.settleBrake
  extract_lets +onlyGivenNames s1
  have h1 : LowStep s₀ s1 := h.brakeAbort
  exact ite (ite h1.setFlag h1.setBrake) (ite h1 (ite h1.setFlag h1.setBrake))
theorem LowStep.dropBrake (h : LowStep s₀ s) : LowStep s₀ (dropBrake s) := h.setBrake
theorem LowStep.brakeTestStart (h : LowStep s₀ s) : LowStep s₀ (brakeTestStart s) := by
  unfold Machine.brakeTestStart
  extract_lets a0
  have hbegun : LowStep s₀ { s with brake := { s.brake with a0 := a0, exc := 0, imin := 0xFFFF } } := h.upd
  exact hbegun.setFld
theorem LowStep.brakeMotion {angle : BitVec 16} (h : LowStep s₀ s) :
    LowStep s₀ (brakeMotion angle s) := by
  unfold Machine.brakeMotion
  refine ite ?_ ?_
  · exact h
  · extract_lets +onlyGivenNames d _ s1
    have h1 : LowStep s₀ s1 := h.upd
    exact ite h1.brakeTestCut h1
theorem LowStep.monitorSet {a m : Nat} (h : LowStep s₀ s) : LowStep s₀ (monitorSet a m s) :=
  h.updMn.updAx.drew
theorem LowStep.monitorBegin {a : Nat} {cut : Bool} (h : LowStep s₀ s) :
    LowStep s₀ (monitorBegin a cut s) := by
  unfold Machine.monitorBegin
  extract_lets +onlyGivenNames safe
  exact h.updAx
theorem LowStep.monitorTrip {a : Nat} (h : LowStep s₀ s) : LowStep s₀ (monitorTrip a s) := by
  unfold Machine.monitorTrip
  extract_lets +onlyGivenNames s1 s2
  have h1 : LowStep s₀ s1 := h.wr
  have h2 : LowStep s₀ s2 := h1.sq.raise.capture
  exact h2.safeFor.settleBrake
theorem LowStep.monitorCount {a len : Nat} {out : Bool} (h : LowStep s₀ s) :
    LowStep s₀ (monitorCount a len out s) := by
  unfold Machine.monitorCount
  extract_lets +onlyGivenNames acc n
  exact ite h.monitorTrip h.wr
theorem LowStep.monitorInterval {a len : Nat} (h : LowStep s₀ s) :
    LowStep s₀ (monitorInterval a len s) := by
  unfold Machine.monitorInterval
  refine ite ?_ ?_
  · exact h
  · extract_lets +onlyGivenNames tm band out inv susp recon r s1 s2 s3 s4 s5
    have h1 : LowStep s₀ s1 := h.wr.drew
    have h2 : LowStep s₀ s2 := ite h1.sq.raise h1
    have h3 : LowStep s₀ s3 := ite h2.sq.raise h2
    have h4 : LowStep s₀ s4 := ite h3.sq h3
    have h5 : LowStep s₀ s5 := h4.setFlag.setFlag
    exact ite h5 h5.monitorCount
theorem LowStep.tmClear {a : Nat} {data : Word} (h : LowStep s₀ s) : LowStep s₀ (tmClear a data s) := by
  unfold Machine.tmClear
  extract_lets +onlyGivenNames r
  exact ite h (ite h.wr (ite h.wr.setFlag.endCause.settleBrake h.wr.sq.raise))
theorem LowStep.clearPw (h : LowStep s₀ s) : LowStep s₀ (clearPw s) := h.wr.wr
theorem LowStep.unlockStart (h : LowStep s₀ s) : LowStep s₀ (unlockStart s) := h.setFlag
theorem LowStep.ttuRearm {a : Nat} (h : LowStep s₀ s) : LowStep s₀ (ttuRearm a s) := by
  unfold Machine.ttuRearm
  extract_lets +onlyGivenNames s1
  have h1 : LowStep s₀ s1 := h.setFlag.setFld
  exact h1.updAx.setFlag
theorem LowStep.obsLost {a : Nat} (h : LowStep s₀ s) : LowStep s₀ (obsLost a s) := by
  unfold Machine.obsLost
  extract_lets +onlyGivenNames s1
  have h1 : LowStep s₀ s1 := h.setFlag.raise
  exact ite h1.askFallback h1
theorem LowStep.checkFails {a : Nat} {f : Fld} (h : LowStep s₀ s) : LowStep s₀ (checkFails a f s) := by
  unfold Machine.checkFails
  extract_lets +onlyGivenNames s1
  have h1 : LowStep s₀ s1 := h.sq.raise
  exact ite h1 (ite h1.updAx.setFld.obsLost h1.updAx.setFld)
theorem LowStep.observerReport {a : Nat} (h : LowStep s₀ s) : LowStep s₀ (observerReport a s) := by
  unfold Machine.observerReport
  extract_lets +onlyGivenNames checked res jump dis w s1
  have h1 : LowStep s₀ s1 := h.updAx
  refine ite ?_ ?_
  · exact h1
  · extract_lets +onlyGivenNames s2 s3 s4
    have h2 : LowStep s₀ s2 := ite h1.updAx h1
    have h3 : LowStep s₀ s3 := ite h2.checkFails h2
    have h4 : LowStep s₀ s4 := ite h3.checkFails h3
    exact ite h4.checkFails h4
theorem LowStep.ttuClose {a : Nat} (h : LowStep s₀ s) : LowStep s₀ (ttuClose a s) := by
  unfold Machine.ttuClose
  extract_lets +onlyGivenNames checked s1
  have h1 : LowStep s₀ s1 := ite h.checkFails h
  exact ite h1.setFld h1
theorem LowStep.ttuOpen {a : Nat} (h : LowStep s₀ s) : LowStep s₀ (ttuOpen a s) := by
  unfold Machine.ttuOpen
  extract_lets +onlyGivenNames ang t
  exact h.updAx
theorem LowStep.updateIndex {a : Nat} (h : LowStep s₀ s) : LowStep s₀ (updateIndex a s) := by
  unfold Machine.updateIndex
  extract_lets +onlyGivenNames old
  exact ite (ite h h.setFld.recomposeAxle) (ite h.sq.raise (ite h h.setFld.recomposeAxle))

end

end Sys2Proof.Proofs
end

section
/-! The Axles' operations: which registers each may change. `AxleStep W V` is `LowStep` with
flags of the registers `W` set, and the registers `V` and the clocks of the Axles free, one lemma per operation, in the model's order. -/

namespace Sys2Proof.Proofs

open Sys2Proof Sys2Proof.Machine Sys2Proof.Safety Sys2Proof.Laws

-- The lemmas below find side conditions by an `autoParam`, for which an asynchronous proof would hold a thread.
set_option Elab.async false

theorem ax_updAx_self (s : State) (a : Nat) (f : AxleSt → AxleSt) : (s.updAx a f).ax a = f (s.ax a) := mget_mset_self ..

/-- As `OnlyEngine`, and the records that the keeper holds may change. -/
def OnlyAxle (s t : State) : Prop := ∃ kept, OnlyEngine { s with kept := kept } t

/-- A step of an Axle, which may also set flags of the registers `W`, and change the registers `V` and the Axles' clocks. -/
structure AxleStep (W V : Nat → Prop) (s t : State) : Prop where
  only : OnlyAxle s t
  rd : ∀ o, Low o → ¬W o → ¬V o → reportRegister o = false → t.rd o = s.rd o
  keeps : ∀ o i, Low o → ¬V o → reportCounter o = false → i < 24 → (s.rd o).getLsbD i = true → (t.rd o).getLsbD i = true

/-- The registers of an Axle report nothing but in AXL_CNTS. -/
theorem reportRegister_axle {o : Nat} (h : 0x80000 ≤ o) (h' : o < 0x100000) (hn : o % 0x10000 ≠ 0x10) :
    reportRegister o = false := by
  simp only [reportRegister, eventRegister, eventCounter, Bool.or_eq_false_iff, Bool.and_eq_false_iff, decide_eq_false_iff_not]
  simp only [EVT_PEND, EVT_CNT, THM_BG, AXL_CNTS, MEM_STAT, MEM_ECCADDR, MEM_ECCCNT]
  omega
theorem reportCounter_axle {o : Nat} (h : 0x80000 ≤ o) (h' : o < 0x100000) (hn : o % 0x10000 ≠ 0x10) :
    reportCounter o = false := by
  have := reportRegister_axle h h' hn
  simp only [reportRegister, eventRegister, Bool.or_eq_false_iff] at this
  obtain ⟨⟨⟨⟨hc, -⟩, -⟩, ha⟩, hn⟩ := this
  simp only [reportCounter, hc, ha, hn, Bool.or_false]

section
variable {x y : AxleSt} (h : clock x = clock y)
include h

theorem clock_wd : x.wd = y.wd := (congrArg AxleSt.wd h : _)
theorem clock_fired : x.fired = y.fired := (congrArg AxleSt.fired h : _)
theorem clock_trgFired : x.trgFired = y.trgFired := (congrArg AxleSt.trgFired h : _)
theorem clock_stopPending : x.stopPending = y.stopPending := (congrArg AxleSt.stopPending h : _)
theorem clock_startPending : x.startPending = y.startPending := (congrArg AxleSt.startPending h : _)
theorem clock_onDray : x.onDray = y.onDray := (congrArg AxleSt.onDray h : _)
theorem clock_halfAt : x.halfAt = y.halfAt := (congrArg AxleSt.halfAt h : _)
theorem clock_top : x.top = y.top := (congrArg AxleSt.top h : _)
theorem clock_latePeak : x.latePeak = y.latePeak := (congrArg AxleSt.latePeak h : _)
theorem clock_commitSinceHb : x.commitSinceHb = y.commitSinceHb := (congrArg AxleSt.commitSinceHb h : _)
theorem clock_commitSinceResume : x.commitSinceResume = y.commitSinceResume := (congrArg AxleSt.commitSinceResume h : _)

end

section
variable {W V : Nat → Prop} {s₀ s t u : State}

theorem OnlyEngine.axle (h : OnlyEngine s t) : OnlyAxle s t := ⟨s.kept, h⟩
theorem OnlyAxle.trans (h : OnlyAxle s t) (h' : OnlyAxle t u) : OnlyAxle s u := by
  obtain ⟨_, _, _, _, _, _, _, _, _, _, _, _, _, _, _, _, _, _, _, _, _, _, rfl⟩ := h
  obtain ⟨k, _, _, _, _, _, _, _, _, _, _, _, _, _, _, _, _, _, _, _, _, _, rfl⟩ := h'
  exact ⟨k, _, _, _, _, _, _, _, _, _, _, _, _, _, _, _, _, _, _, _, _, _, rfl⟩
theorem OnlyAxle.troika (h : OnlyAxle s t) : t.troika = s.troika := by
  obtain ⟨_, h⟩ := h
  exact h.troika
theorem OnlyAxle.power (h : OnlyAxle s t) : t.power = s.power := by
  obtain ⟨_, h⟩ := h
  exact h.power
theorem OnlyAxle.awake (h : OnlyAxle s t) : t.awake = s.awake := by
  obtain ⟨_, h⟩ := h
  exact h.awake

theorem LowStep.axle (h : LowStep s t) : AxleStep W V s t :=
  ⟨h.only.axle, fun o hl _ _ hr => h.rd o hl hr, fun o i hl _ hc hi hs => h.keeps o i hl hc hi hs⟩

theorem AxleStep.refl : AxleStep W V s s := LowStep.refl.axle

theorem AxleStep.trans (h : AxleStep W V s t) (h' : AxleStep W V t u) : AxleStep W V s u :=
  ⟨h.only.trans h'.only, fun o hl hw hv hr => (h'.rd o hl hw hv hr).trans (h.rd o hl hw hv hr),
    fun o i hl hv hc hi hs => h'.keeps o i hl hv hc hi (h.keeps o i hl hv hc hi hs)⟩

/-- A step of another engine after one of the Axle. -/
theorem AxleStep.low (h : AxleStep W V s₀ s) (h' : LowStep s t) : AxleStep W V s₀ t := h.trans h'.axle

theorem AxleStep.flag (h : AxleStep W V s t) {o : Nat} (f : Fld) (hl : Low o) (hw : ¬W o) (hv : ¬V o)
    (ho : reportRegister o = false) : t.flag o f = s.flag o f := congrArg f.bit (h.rd o hl hw hv ho)
theorem AxleStep.fld (h : AxleStep W V s t) {o : Nat} (f : Fld) (hl : Low o) (hw : ¬W o) (hv : ¬V o)
    (ho : reportRegister o = false) : t.fld o f = s.fld o f := congrArg f.get (h.rd o hl hw hv ho)

/-- A flag outside the counters stays set. -/
theorem AxleStep.keepsFlag (h : AxleStep W V s t) {o : Nat} {f : Fld} (hl : Low o) (hv : ¬V o) (hf : f.lo < 24)
    (ho : reportCounter o = false) (hs : s.flag o f = true) : t.flag o f = true := h.keeps o _ hl hv ho hf hs

/-- A pending event stays pending. -/
theorem AxleStep.pending (h : AxleStep W V s t) {src : Nat} (hv : ¬V (EVT_PEND (src / 24))) (he : evReserved src = false)
    (hs : s.evPending src = true) : t.evPending src = true :=
  h.keeps _ _ (low_of_lt (by have := evReserved_div he; simp only [EVT_PEND]; omega)) hv
    (evPend_not_reportCounter (evReserved_div he)) (Nat.mod_lt _ (by decide)) hs

/-- An update outside registers. -/
theorem AxleStep.upd (h : AxleStep W V s₀ s)
    (hg : OnlyAxle s t := by exact ⟨_, _, _, _, _, _, _, _, _, _, _, _, _, _, _, _, _, _, _, _, _, _, rfl⟩)
    (hr : t.regs = s.regs := by rfl) : AxleStep W V s₀ t :=
  h.trans ⟨hg, fun o _ _ _ _ => by simp only [State.rd, hr], fun o i _ _ _ _ hs => by simpa only [State.rd, hr] using hs⟩

theorem AxleStep.ite {c : Prop} [Decidable c] (h : AxleStep W V s₀ s) (h' : AxleStep W V s₀ t) :
    AxleStep W V s₀ (if c then s else t) := by
  split
  · exact h
  · exact h'

theorem AxleStep.each {α : Type} {xs : List α} {f : α → State → State} (h : AxleStep W V s₀ s)
    (hf : ∀ x u, AxleStep W V s₀ u → AxleStep W V s₀ (f x u)) : AxleStep W V s₀ (each xs f s) := by
  unfold Machine.each
  induction xs generalizing s with
  | nil => exact h
  | cons x xs ih => exact ih (hf x s h)

theorem AxleStep.wr {off : Nat} {w : Word} (h : AxleStep W V s₀ s) (hv : V off) : AxleStep W V s₀ (State.wr s off w) := by
  have hne : ∀ o, ¬V o → (s.wr off w).rd o = s.rd o := fun o ho => rd_wr_of_ne s _ (fun he => ho (he ▸ hv))
  exact h.trans ⟨OnlyEngine.axle ⟨_, _, _, _, _, _, _, _, _, _, _, _, _, _, _, _, _, _, _, _, _, rfl⟩, fun o _ _ ho _ => hne o ho,
    fun o i _ ho _ _ hs => by rwa [hne o ho]⟩

theorem AxleStep.setFld {off : Nat} {f : Fld} {n : Nat} (h : AxleStep W V s₀ s) (hv : V off) :
    AxleStep W V s₀ (State.setFld s off f n) := h.wr hv
theorem AxleStep.setFlag {off : Nat} {f : Fld} {b : Bool} (h : AxleStep W V s₀ s) (hv : V off) :
    AxleStep W V s₀ (State.setFlag s off f b) := h.wr hv
theorem AxleStep.rc {off : Nat} {f : Fld} {k : Nat} (h : AxleStep W V s₀ s) (hv : V off) :
    AxleStep W V s₀ (State.rc s off f k) := h.wr hv
theorem AxleStep.sq {off : Nat} {f : Fld} (h : AxleStep W V s₀ s) (hw : W off ∨ V off) :
    AxleStep W V s₀ (State.sq s off f) := by
  rcases hw with hw | hv
  · exact h.trans ⟨OnlyEngine.axle ⟨_, _, _, _, _, _, _, _, _, _, _, _, _, _, _, _, _, _, _, _, _, rfl⟩,
      fun o _ ho _ _ => rd_wr_of_ne _ _ (fun he => ho (he ▸ hw)), fun o i _ _ _ hi hs => sqMask_keeps_bit _ hi off f.mask hs⟩
  · exact h.wr hv
theorem AxleStep.raise {src : Nat} (h : AxleStep W V s₀ s) : AxleStep W V s₀ (s.raise src) := h.low (.raise .refl)
theorem AxleStep.setAx {a : Nat} {x : AxleSt} (h : AxleStep W V s₀ s) : AxleStep W V s₀ (s.setAx a x) := h.upd
theorem AxleStep.updAx {a : Nat} {f : AxleSt → AxleSt} (h : AxleStep W V s₀ s) : AxleStep W V s₀ (s.updAx a f) := h.upd
theorem AxleStep.at {t : Nat} (h : AxleStep W V s₀ s) : AxleStep W V s₀ (s.at t) := h.upd

theorem AxleStep.setCount {a n : Nat} {down : Bool} (h : AxleStep W V s₀ s) (hv : V (AXL_CNT a)) :
    AxleStep W V s₀ (setCount a n down s) := h.wr hv
theorem AxleStep.watchdogPoint {a : Nat} (h : AxleStep W V s₀ s) : AxleStep W V s₀ (watchdogPoint a s) := by
  unfold Machine.watchdogPoint
  extract_lets +onlyGivenNames on s1
  have h1 : AxleStep W V s₀ s1 := h.updAx
  exact ite (h1.low (.askFallback .refl)) h1
theorem AxleStep.haltUpdate {a : Nat} (h : AxleStep W V s₀ s) : AxleStep W V s₀ (haltUpdate a s) := by
  unfold Machine.haltUpdate
  extract_lets +onlyGivenNames x
  exact ite (h.updAx.low (.endCause .refl)) h

/-- The hold of a leg that the keeper holds ends. -/
theorem AxleStep.endHold {l : Nat} (h : AxleStep W V s₀ s) : AxleStep W V s₀ (endHold l s) := by
  unfold Machine.endHold
  refine ite ?_ h
  extract_lets of _ dropped
  have hdrop : AxleStep W V s₀ dropped := by
    have hkept : AxleStep W V s₀ { s with kept := s.kept.filter (fun e => !of e) } := h.upd (hg := ⟨_, .refl⟩)
    exact hkept.low (.dropCause .refl)
  exact hdrop.low (((LowStep.refl.each fun _ _ h => h.joinChannel).each fun _ _ h => h.mappingSettled).settleSafe)
theorem AxleStep.catchBegin {a : Nat} (h : AxleStep W V s₀ s) : AxleStep W V s₀ (catchBegin a s) := by
  unfold Machine.catchBegin
  extract_lets +onlyGivenNames dray t s1 s2 s3
  have h1 : AxleStep W V s₀ s1 := h.updAx
  have h2 : AxleStep W V s₀ s2 := h1.each fun _ _ h => h.low (.updHy .refl)
  have h3 : AxleStep W V s₀ s3 := ite (h2.low (.noteEntry .refl)) (h2.low (.setFld .refl))
  exact (h3.each fun _ _ h => h.endHold).low (LowStep.refl.endHeld.changeSources)
theorem AxleStep.catchUpdate {a : Nat} (h : AxleStep W V s₀ s) : AxleStep W V s₀ (catchUpdate a s) :=
  ite h (ite h.catchBegin (ite (h.updAx.low (.enterFallback .refl)) h.updAx))

/-- What an update point does once the watchdog has counted, before it opens the next half. -/
theorem AxleStep.updatePoint {a len : Nat} (h : AxleStep W V s₀ s) : AxleStep W V s₀ (updatePoint a len s) := by
  unfold Machine.updatePoint
  extract_lets +onlyGivenNames s1 pend s2 out s3 cut s4 s5 s6 s7
  have h1 : AxleStep W V s₀ s1 := h.watchdogPoint
  have h2 : AxleStep W V s₀ s2 := h1.updAx
  have h3 : AxleStep W V s₀ s3 := ite h2 (h2.low (.monitorInterval .refl))
  have h4 : AxleStep W V s₀ s4 := h3.low (.gateUpdate .refl)
  have h5 : AxleStep W V s₀ s5 := (ite h4 (h4.low (.ttuClose .refl))).low (.ttuOpen .refl)
  have h6 : AxleStep W V s₀ s6 := h5.low (LowStep.refl.windowUpdate.handbackUpdate.fallbackUpdate)
  have h7 : AxleStep W V s₀ s7 := h6.catchUpdate.haltUpdate.low (.releaseAxle .refl)
  exact h7.updAx.low (.monitorBegin .refl)
theorem AxleStep.reanchorHere {a : Nat} (h : AxleStep W V s₀ s) : AxleStep W V s₀ (reanchorHere a s) := by
  unfold Machine.reanchorHere
  extract_lets +onlyGivenNames src v anchor ofs
  exact h.updAx
theorem AxleStep.scheduledPeriod {a : Nat} (h : AxleStep W V s₀ s) (hp : V (AXL_PRD a)) (hs : V (AXL_PRDSCH a)) :
    AxleStep W V s₀ (scheduledPeriod a s) := by
  unfold Machine.scheduledPeriod
  extract_lets +onlyGivenNames p due s1
  have h1 : AxleStep W V s₀ s1 := h.updAx
  exact ite ((h1.setFld hp).setFlag hs).reanchorHere h1
theorem AxleStep.alignValley {a : Nat} (h : AxleStep W V s₀ s) (hv : V (AXL_STAT a)) : AxleStep W V s₀ (alignValley a s) := by
  unfold Machine.alignValley
  extract_lets +onlyGivenNames sync
  split
  · exact (h.setFlag hv).updAx
  · extract_lets +onlyGivenNames lim k r inTol s1 s2
    have h2 : AxleStep W V s₀ s2 := h.updAx.setFlag hv
    exact ite h2 (h2.sq (.inr hv)).raise
theorem AxleStep.drayFlag (h : AxleStep W V s₀ s) (hv : V SYS_CLK) : AxleStep W V s₀ (drayFlag s) := ite (h.setFlag hv) h
theorem AxleStep.clockChange {a : Nat} (h : AxleStep W V s₀ s) (hv : V SYS_CLK) : AxleStep W V s₀ (clockChange a s) :=
  ite (h.updAx.drayFlag hv) h
theorem AxleStep.axwTakes {a : Nat} (h : AxleStep W V s₀ s) : AxleStep W V s₀ (axwTakes a s) := ite h.updAx h
theorem AxleStep.prepareStop {a : Nat} (h : AxleStep W V s₀ s) : AxleStep W V s₀ (prepareStop a s) :=
  h.updAx.each fun _ _ h => h.low (.addCause .refl)
theorem AxleStep.beginCarrier {a : Nat} (h : AxleStep W V s₀ s) (hv : V (AXL_CNT a)) : AxleStep W V s₀ (beginCarrier a s) := by
  unfold Machine.beginCarrier
  extract_lets +onlyGivenNames s1 t s2
  have h1 : AxleStep W V s₀ s1 := (h.setCount hv).raise
  have h2 : AxleStep W V s₀ s2 := ite h1.reanchorHere h1
  exact h2.updAx
theorem AxleStep.fireEdge {a k p : Nat} {down : Bool} {phase : Nat} (h : AxleStep W V s₀ s) :
    AxleStep W V s₀ (fireEdge a k p down phase s) := h.updAx.low (.rawEdge .refl)
theorem AxleStep.noteMap {a : Nat} {cs : List CmpWrite} (h : AxleStep W V s₀ s) (hw : W (AXL_STAT a) ∨ V (AXL_STAT a)) :
    AxleStep W V s₀ (noteMap a cs s) := ite (h.sq hw).raise h
theorem AxleStep.lateRule {a n : Nat} {old : State} {c : CmpWrite} (h : AxleStep W V s₀ s) :
    AxleStep W V s₀ (lateRule a n old c s).1 := by
  simp only [Machine.lateRule]
  split_ifs
  · exact h
  · exact h
  · exact h
  · split
    · exact h.fireEdge
    · dsimp only; exact h.updAx
  · exact h
  · split
    · exact h.fireEdge
    · dsimp only; exact h.updAx
theorem AxleStep.periodLate {a : Nat} (h : AxleStep W V s₀ s) (hw : W (AXL_STAT a) ∨ V (AXL_STAT a)) : AxleStep W V s₀ (periodLate a s) :=
  (h.sq hw).raise

end

/-! ### The legs of a cause of SAFE -/

section
variable {s : State} {c : SafeCause} {l : Nat}

theorem addCause_causes (k : Nat) :
    (addCause c k s).lg l = if l = k then { s.lg l with
      causes := if (s.lg l).causes.contains c then (s.lg l).causes else (s.lg l).causes ++ [c] } else s.lg l := by
  simp only [addCause, State.lg, State.updLg, State.setLg, mget_mset]
  split
  · next h => rw [h]
  · rfl

/-- A cause that is added stays among those of its legs. -/
theorem mem_causes_addCauses {ls : List Nat} (hc : c ∈ (s.lg l).causes) : c ∈ ((each ls (addCause c) s).lg l).causes := by
  unfold Machine.each
  induction ls generalizing s with
  | nil => exact hc
  | cons k ls ih =>
    refine ih ?_
    rw [addCause_causes]
    split
    · dsimp only
      rwa [if_pos (List.contains_iff_mem.mpr hc)]
    · exact hc

theorem addCauses_causes {ls : List Nat} (h : l ∈ ls) : c ∈ ((each ls (addCause c) s).lg l).causes := by
  induction ls generalizing s with
  | nil => simp at h
  | cons k ls ih =>
    rcases List.mem_cons.mp h with rfl | hl
    · refine mem_causes_addCauses (s := addCause c l s) ?_
      rw [addCause_causes, if_pos rfl]
      dsimp only
      split
      · next hm => exact List.contains_iff_mem.mp hm
      · simp
    · exact ih hl

/-- Every leg that a cause is given to is in SAFE. -/
theorem safeFor_safe {ls : List Nat} (hc : c ≠ .keeper) (hl : l < 32) (h : l ∈ ls) : (safeFor c ls s).legSafe l ≠ 0 :=
  settleSafe_safe hl (.inl ⟨c, addCauses_causes h, hc⟩)

theorem mem_legsOf {a : Nat} : l ∈ s.legsOf a ↔ l < 32 ∧ s.legAxle l = a := by
  simp [State.legsOf]

end

/-! ### The stretches of the sensed legs follow their conditions after every command -/

/-- Only the stretches of legs differ, and the control filters that their starts clear. -/
structure OnlyStretch (s t : State) : Prop where
  only : ∃ leg sdd, t = { s with leg := leg, sdd := sdd }
  leg : ∀ l, t.lg l = { s.lg l with
    sum := (t.lg l).sum, nout := (t.lg l).nout, stretch := (t.lg l).stretch, stAt := (t.lg l).stAt, stEnd := (t.lg l).stEnd
    closed := (t.lg l).closed, monSum := (t.lg l).monSum, monN := (t.lg l).monN }
  sdd : ∀ c, t.sd c = { s.sd c with ctl := (t.sd c).ctl, fresh := (t.sd c).fresh }

theorem OnlyStretch.refl {s : State} : OnlyStretch s s := ⟨⟨_, _, rfl⟩, fun _ => rfl, fun _ => rfl⟩
theorem OnlyStretch.trans {s t u : State} (h : OnlyStretch s t) (h' : OnlyStretch t u) : OnlyStretch s u where
  only := by
    obtain ⟨_, _, hu⟩ := h'.only
    obtain ⟨_, _, ht⟩ := h.only
    exact ⟨_, _, hu.trans (by rw [ht])⟩
  leg l := by rw [h'.leg, h.leg]
  sdd c := by rw [h'.sdd, h.sdd]

theorem OnlyStretch.regs {s t : State} (h : OnlyStretch s t) : t.regs = s.regs := by obtain ⟨_, _, rfl⟩ := h.only; rfl
theorem OnlyStretch.now {s t : State} (h : OnlyStretch s t) : t.now = s.now := by obtain ⟨_, _, rfl⟩ := h.only; rfl
theorem OnlyStretch.mem {s t : State} (h : OnlyStretch s t) : t.mem = s.mem := by obtain ⟨_, _, rfl⟩ := h.only; rfl
theorem OnlyStretch.troika {s t : State} (h : OnlyStretch s t) : t.troika = s.troika := by obtain ⟨_, _, rfl⟩ := h.only; rfl
theorem OnlyStretch.axle {s t : State} (h : OnlyStretch s t) : t.axle = s.axle := by obtain ⟨_, _, rfl⟩ := h.only; rfl
theorem OnlyStretch.pos {s t : State} (h : OnlyStretch s t) : t.pos = s.pos := by obtain ⟨_, _, rfl⟩ := h.only; rfl
theorem OnlyStretch.chan {s t : State} (h : OnlyStretch s t) : t.chan = s.chan := by obtain ⟨_, _, rfl⟩ := h.only; rfl
theorem OnlyStretch.power {s t : State} (h : OnlyStretch s t) : t.power = s.power := by obtain ⟨_, _, rfl⟩ := h.only; rfl
theorem OnlyStretch.bringup {s t : State} (h : OnlyStretch s t) : t.bringup = s.bringup := by obtain ⟨_, _, rfl⟩ := h.only; rfl
theorem OnlyStretch.lan {s t : State} (h : OnlyStretch s t) : t.lan = s.lan := by obtain ⟨_, _, rfl⟩ := h.only; rfl
theorem OnlyStretch.cpl {s t : State} (h : OnlyStretch s t) : t.cpl = s.cpl := by obtain ⟨_, _, rfl⟩ := h.only; rfl
theorem OnlyStretch.brake {s t : State} (h : OnlyStretch s t) : t.brake = s.brake := by obtain ⟨_, _, rfl⟩ := h.only; rfl
theorem OnlyStretch.chop {s t : State} (h : OnlyStretch s t) : t.chop = s.chop := by obtain ⟨_, _, rfl⟩ := h.only; rfl
theorem OnlyStretch.records {s t : State} (h : OnlyStretch s t) : t.records = s.records := by obtain ⟨_, _, rfl⟩ := h.only; rfl
theorem OnlyStretch.causes {s t : State} (h : OnlyStretch s t) (l : Nat) : (t.lg l).causes = (s.lg l).causes :=
  (congrArg LegSt.causes (h.leg l) : _)

theorem onlyStretch_syncStretch (l : Nat) (s : State) : OnlyStretch s (syncStretch l s) := by
  unfold syncStretch
  extract_lets x ok t
  have hleg : ∀ f : LegSt → LegSt, (∀ y : LegSt, f y = { y with
      sum := (f y).sum, nout := (f y).nout, stretch := (f y).stretch, stAt := (f y).stAt, stEnd := (f y).stEnd
      closed := (f y).closed, monSum := (f y).monSum, monN := (f y).monN }) → OnlyStretch s (s.updLg l f) := by
    intro f hf
    refine ⟨⟨_, _, rfl⟩, fun k => ?_, fun _ => rfl⟩
    simp only [State.lg, State.updLg, State.setLg, mget_mset]
    split
    · next hk => rw [hk]; exact hf _
    · rfl
  split
  · split
    · exact hleg _ fun _ => rfl
    · exact hleg _ fun _ => rfl
  · split
    · refine (hleg (fun y => { y with stretch := true, stAt := t, sum := 0, nout := 0, monSum := 0, monN := 0 })
        fun _ => rfl).trans ⟨⟨_, _, rfl⟩, fun _ => rfl, fun c => ?_⟩
      simp only [State.sd, State.updSd, mget_mset]
      split
      · next hc => rw [hc]
      · rfl
    · exact .refl

theorem onlyStretch_syncStretches (s : State) : OnlyStretch s (syncStretches s) := by
  unfold syncStretches each
  generalize List.range 32 = ls
  induction ls generalizing s with
  | nil => exact .refl
  | cons l ls ih => exact (onlyStretch_syncStretch l s).trans (ih _)

section
variable (s : State)

@[simp] theorem syncStretches_regs : (syncStretches s).regs = s.regs := (onlyStretch_syncStretches s).regs
@[simp] theorem syncStretches_now : (syncStretches s).now = s.now := (onlyStretch_syncStretches s).now
@[simp] theorem syncStretches_mem : (syncStretches s).mem = s.mem := (onlyStretch_syncStretches s).mem
@[simp] theorem syncStretches_troika : (syncStretches s).troika = s.troika := (onlyStretch_syncStretches s).troika
@[simp] theorem syncStretches_axle : (syncStretches s).axle = s.axle := (onlyStretch_syncStretches s).axle
@[simp] theorem syncStretches_pos : (syncStretches s).pos = s.pos := (onlyStretch_syncStretches s).pos
@[simp] theorem syncStretches_chan : (syncStretches s).chan = s.chan := (onlyStretch_syncStretches s).chan
@[simp] theorem syncStretches_power : (syncStretches s).power = s.power := (onlyStretch_syncStretches s).power
@[simp] theorem syncStretches_bringup : (syncStretches s).bringup = s.bringup := (onlyStretch_syncStretches s).bringup
@[simp] theorem syncStretches_lan : (syncStretches s).lan = s.lan := (onlyStretch_syncStretches s).lan
@[simp] theorem syncStretches_cpl : (syncStretches s).cpl = s.cpl := (onlyStretch_syncStretches s).cpl
@[simp] theorem syncStretches_brake : (syncStretches s).brake = s.brake := (onlyStretch_syncStretches s).brake
@[simp] theorem syncStretches_chop : (syncStretches s).chop = s.chop := (onlyStretch_syncStretches s).chop
@[simp] theorem syncStretches_records : (syncStretches s).records = s.records := (onlyStretch_syncStretches s).records
@[simp] theorem syncStretches_rd (o : Nat) : (syncStretches s).rd o = s.rd o := by simp only [State.rd, syncStretches_regs]
@[simp] theorem syncStretches_flag (o : Nat) (f : Fld) : (syncStretches s).flag o f = s.flag o f := by
  simp only [State.flag, syncStretches_rd]
@[simp] theorem syncStretches_fld (o : Nat) (f : Fld) : (syncStretches s).fld o f = s.fld o f := by
  simp only [State.fld, syncStretches_rd]
@[simp] theorem syncStretches_evPending (src : Nat) : (syncStretches s).evPending src = s.evPending src := by
  simp only [State.evPending, syncStretches_rd]
@[simp] theorem syncStretches_ax (a : Nat) : (syncStretches s).ax a = s.ax a := by simp only [State.ax, syncStretches_axle]
@[simp] theorem syncStretches_ps (p : Nat) : (syncStretches s).ps p = s.ps p := by simp only [State.ps, syncStretches_pos]
@[simp] theorem syncStretches_ch (c : Nat) : (syncStretches s).ch c = s.ch c := by simp only [State.ch, syncStretches_chan]
@[simp] theorem syncStretches_legSafe (l : Nat) : (syncStretches s).legSafe l = s.legSafe l := by
  simp only [State.legSafe, syncStretches_fld]
@[simp] theorem syncStretches_causes (l : Nat) : ((syncStretches s).lg l).causes = (s.lg l).causes :=
  (onlyStretch_syncStretches s).causes l

end

end Sys2Proof.Proofs
end

section
/-! The Drag Shoe's operations change nothing but its two status registers, its own state and what reports an event. -/

namespace Sys2Proof.Proofs

open Sys2Proof Sys2Proof.Machine Sys2Proof.Safety Sys2Proof.Laws

theorem eventRegister_apart {o : Nat} (h : 0x100000 ≤ o) (h' : o < 0x1D0000) : eventRegister o = false := by
  by_contra hc
  have := eventRegister_range (by simpa using hc)
  omega

/-- The registers that the Drag Shoe writes. -/
abbrev brakeRegister (o : Nat) : Prop := o = SAFE_BRKSTAT ∨ o = SAFE_BRKRES

/-- A step of the Drag Shoe. -/
structure BrakeStep (s t : State) : Prop where
  only : ∃ regs wakePend cpl words bb brake, t = { s with
    regs := regs, wakePend := wakePend, cpl := cpl, lan := { s.lan with words := words, bb := bb }
    brake := brake }
  rd : ∀ o, ¬brakeRegister o → eventRegister o = false → t.rd o = s.rd o
  keeps : ∀ o i, ¬brakeRegister o → eventCounter o = false → i < 24 → (s.rd o).getLsbD i = true → (t.rd o).getLsbD i = true

section
variable {s₀ s t u : State}

theorem BrakeStep.refl : BrakeStep s s := ⟨⟨_, _, _, _, _, _, rfl⟩, fun _ _ _ => rfl, fun _ _ _ _ _ h => h⟩
theorem BrakeStep.trans (h : BrakeStep s t) (h' : BrakeStep t u) : BrakeStep s u := by
  refine ⟨?_, fun o hb he => (h'.rd o hb he).trans (h.rd o hb he),
    fun o i hb hc hi hs => h'.keeps o i hb hc hi (h.keeps o i hb hc hi hs)⟩
  obtain ⟨_, _, _, _, _, _, ht⟩ := h.only
  obtain ⟨_, _, _, _, _, _, hu⟩ := h'.only
  exact ⟨_, _, _, _, _, _, hu.trans (by rw [ht])⟩
theorem BrakeStep.ite {c : Prop} [Decidable c] (h : BrakeStep s₀ s) (h' : BrakeStep s₀ t) :
    BrakeStep s₀ (if c then s else t) := by
  split
  · exact h
  · exact h'
theorem BrakeStep.wr {off : Nat} {w : Word} (h : BrakeStep s₀ s) (hw : brakeRegister off := by decide) :
    BrakeStep s₀ (State.wr s off w) := by
  have hne : ∀ o, ¬brakeRegister o → (s.wr off w).rd o = s.rd o := fun o ho => rd_wr_of_ne s _ (fun he => ho (he ▸ hw))
  exact h.trans ⟨⟨_, _, _, _, _, _, rfl⟩, fun o ho _ => hne o ho, fun o i ho _ _ hs => by rwa [hne o ho]⟩
theorem BrakeStep.setFld {off : Nat} {f : Fld} {n : Nat} (h : BrakeStep s₀ s) (hw : brakeRegister off := by decide) :
    BrakeStep s₀ (State.setFld s off f n) := h.wr hw
theorem BrakeStep.setFlag {off : Nat} {f : Fld} {b : Bool} (h : BrakeStep s₀ s) (hw : brakeRegister off := by decide) :
    BrakeStep s₀ (State.setFlag s off f b) := h.wr hw
theorem BrakeStep.sqMask {off : Nat} {m : Word} (h : BrakeStep s₀ s) (hw : brakeRegister off := by decide) :
    BrakeStep s₀ (State.sqMask s off m) := h.wr hw
theorem BrakeStep.sq {off : Nat} {f : Fld} (h : BrakeStep s₀ s) (hw : brakeRegister off := by decide) :
    BrakeStep s₀ (State.sq s off f) := h.wr hw
theorem BrakeStep.raise {src : Nat} (h : BrakeStep s₀ s) : BrakeStep s₀ (s.raise src) := by
  have hr := raise_reports s src
  refine h.trans ⟨?_, fun o _ he => hr.rd o he, fun o i _ hc hi hs => hr.keeps o i hi hc hs⟩
  obtain ⟨_, _, _, _, he⟩ := hr.events
  exact ⟨_, _, _, _, _, _, he⟩
theorem BrakeStep.upd {b : Brake} (h : BrakeStep s₀ s) : BrakeStep s₀ { s with brake := b } :=
  h.trans ⟨⟨_, _, _, _, _, _, rfl⟩, fun _ _ _ => rfl, fun _ _ _ _ _ hs => hs⟩

theorem BrakeStep.setBrake {level hold : Bool} (h : BrakeStep s₀ s) : BrakeStep s₀ (setBrake level hold s) := by
  unfold Machine.setBrake
  extract_lets +onlyGivenNames b s1 s2 _ s3
  have h1 : BrakeStep s₀ s1 := ite h h.setFlag
  have h2 : BrakeStep s₀ s2 := ite h1 h1.setFlag
  have h3 : BrakeStep s₀ s3 := h2.upd
  exact h3.setFlag.setFlag
theorem BrakeStep.brakeTestOver {cause : Nat} (h : BrakeStep s₀ s) : BrakeStep s₀ (brakeTestOver cause s) := by
  unfold Machine.brakeTestOver
  extract_lets +onlyGivenNames s1 s2 m
  have h1 : BrakeStep s₀ s1 := h.setFld.setFld
  have h2 : BrakeStep s₀ s2 := h1.setFld.setFld
  exact h2.sqMask.raise
theorem BrakeStep.brakeTestCut {cause : Nat} (h : BrakeStep s₀ s) : BrakeStep s₀ (brakeTestCut cause s) := by
  unfold Machine.brakeTestCut
  extract_lets n
  have hcut : BrakeStep s₀ { s with brake := { s.brake with imin := n } } := h.upd
  exact hcut.brakeTestOver
theorem BrakeStep.brakeAbort (h : BrakeStep s₀ s) : BrakeStep s₀ (brakeAbort s) := ite h.brakeTestCut h
theorem BrakeStep.settleBrake (h : BrakeStep s₀ s) : BrakeStep s₀ (settleBrake s) := by
  unfold Machine.settleBrake
  extract_lets +onlyGivenNames s1
  have h1 : BrakeStep s₀ s1 := h.brakeAbort
  exact ite (ite h1.setFlag h1.setBrake) (ite h1 (ite h1.setFlag h1.setBrake))

theorem BrakeStep.flag (h : BrakeStep s t) {o : Nat} (f : Fld) (hb : ¬brakeRegister o) (he : eventRegister o = false) :
    t.flag o f = s.flag o f := congrArg f.bit (h.rd o hb he)
theorem BrakeStep.fld (h : BrakeStep s t) {o : Nat} (f : Fld) (hb : ¬brakeRegister o) (he : eventRegister o = false) :
    t.fld o f = s.fld o f := congrArg f.get (h.rd o hb he)
theorem BrakeStep.pending (h : BrakeStep s t) {src : Nat} (he : evReserved src = false) (hs : s.evPending src = true) :
    t.evPending src = true :=
  h.keeps _ _ (by have := evReserved_div he; simp only [brakeRegister, EVT_PEND, SAFE_BRKSTAT, SAFE_BRKRES]; omega)
    (evPend_not_counter (evReserved_div he)) (Nat.mod_lt _ (by decide)) hs
theorem BrakeStep.legSafe (h : BrakeStep s t) {l : Nat} (hl : l < 32) : t.legSafe l = s.legSafe l :=
  h.fld _ (by simp only [brakeRegister, LEG_STAT, SAFE_BRKSTAT, SAFE_BRKRES]; omega)
    (eventRegister_apart (by simp only [LEG_STAT]; omega) (by simp only [LEG_STAT]; omega))

end

/-- The Drag Shoe settles after a command. -/
theorem brakeStep_settleBrake (s : State) : BrakeStep s (settleBrake s) := .settleBrake .refl

end Sys2Proof.Proofs
end

section
/-! COMMIT from its issue to the Axle (R85, R86, R97). -/

namespace Sys2Proof.Proofs

open Sys2Proof Sys2Proof.Machine Sys2Proof.Safety Sys2Proof.Laws

/-! ### Its issue -/

/-- A lane of a COMMIT (R85). -/
theorem commitLane_eq (c : CoreState) (f : Bool) (vr : VReg) (k : Nat) :
    word (laneN (!f) (c.vr (vr + BitVec.ofNat 3 (k / if f then 8 else 4))) (k % if f then 8 else 4)) =
      if f then ((c.vr (vr + BitVec.ofNat 3 (k / 8))).extractLsb' (16 * (k % 8)) 16).setWidth 32
      else (c.vr (vr + BitVec.ofNat 3 (k / 4))).extractLsb' (32 * (k % 4)) 32 := by
  cases f
  · exact BitVec.eq_of_toNat_eq (by simp [word, laneN, laneBits, BitVec.extractLsb'_toNat])
  · exact BitVec.eq_of_toNat_eq (by simp [word, laneN, laneBits, BitVec.extractLsb'_toNat, BitVec.toNat_setWidth])

/-- The lanes of a COMMIT (R85). -/
theorem commitLanes_eq (c : CoreState) (f : Bool) (vr : VReg) (n : Nat) :
    commitLanes c f vr n = (List.range (min n (min 16 ((if f then 8 else 4) * (8 - vr.toNat))))).map (fun k =>
      if f then ((c.vr (vr + BitVec.ofNat 3 (k / 8))).extractLsb' (16 * (k % 8)) 16).setWidth 32
      else (c.vr (vr + BitVec.ofNat 3 (k / 4))).extractLsb' (32 * (k % 4)) 32) :=
  List.map_congr_left fun k _ => commitLane_eq c f vr k

theorem commitLanes_ne_nil {c : CoreState} {f : Bool} {vr : VReg} {n : Nat} (hn : n ≠ 0) : commitLanes c f vr n ≠ [] := by
  have := vr.isLt
  have h : 0 < (if f = true then 8 else 4) * (8 - vr.toNat) := Nat.mul_pos (by split <;> omega) (by omega)
  simp only [commitLanes, ne_eq, List.map_eq_nil_iff, List.range_eq_nil]
  omega

/-- What a COMMIT in Coachman mode does (R85). -/
def commitBody (ga : GReg) (halves : BitVec 2) (f : Bool) (vr : VReg) (ax : Fin 4) (s : State) : State :=
  let lanes := commitLanes (s.core .troika) f vr ((s.core .troika).gr ga).toNat
  if lanes = [] ∨ halves = 0 then retire .troika id s
  else retire .troika id (pushEntry (.commit ⟨ax, halves, f, lanes⟩) s)

theorem exec_commit {s : State} (hp : (s.core .troika).passenger = false) {ga : GReg} {halves : BitVec 2} {f : Bool}
    {vr : VReg} {ax : Fin 4} {u : State} (hb : commitBody ga halves f vr ax s = u) (hu : u.troika.heldAccess = s.troika.heldAccess) :
    exec (.commit ga halves f vr ax .agree) s = issue .troika (fun _ => u) s := by
  simp only [exec, execCommit, trk]
  refine issue_congr ?_
  have hbody : (fun s =>
      let c := s.core .troika
      let lanes := commitLanes c f vr (c.gr ga).toNat
      if c.passenger then failAlone .troika 0x02 0 s
      else if lanes = [] ∨ halves = 0 then retire .troika id s
      else vote kAccess (0x40000000 + AXL_CMPU ax 0) .agree
        (fun s => retire .troika id (pushEntry (.commit ⟨ax, halves, f, lanes⟩) s)) s) s = u := by
    simpa only [hp, Bool.false_eq_true, if_false, vote, commitBody] using hb
  exact (heldBy_of_not_held ((congrArg (·.troika.heldAccess) hbody).trans hu)).trans hbody

theorem commitIssues : Rules.CommitIssues := by
  intro s hr hp ga halves f vr ax c count lane
  refine ⟨fun hn hh hbuf => ?_, fun hnone => ?_⟩
  · have hne : commitLanes c f vr (c.gr ga).toNat ≠ [] := commitLanes_ne_nil fun h0 => hn (BitVec.eq_of_toNat_eq h0)
    have hbody : commitBody ga halves f vr ax s =
        retire .troika id (buffered (.commit ⟨ax, halves, f, (List.range count).map lane⟩) s) := by
      unfold commitBody
      rw [if_neg (not_or.mpr ⟨hne, hh⟩), pushEntry_room hbuf, commitLanes_eq]
    obtain ⟨t, ht, ho, hs⟩ := issue_buffered hr (body := fun _ => commitBody ga halves f vr ax s) hbody
    exact ⟨t, (exec_commit hp rfl (by rw [hbody]; rfl)).trans ht, ho, hs.1,
      writesG_of_sameRegisters (d := (s.core .troika).advance) (writesG_none ..) hs⟩
  · obtain ⟨t, ht, hret⟩ := issue_retire_writesG hr (f := id) (rd := 0) (v := 0) (fl := 0) rfl (writesG_none ..)
    have hbody : commitBody ga halves f vr ax s = retire .troika id s := by
      unfold commitBody
      refine if_pos (hnone.imp_left fun h0 => ?_)
      rw [show (s.core .troika).gr ga = 0 from h0]
      rfl
    exact ⟨t, ((exec_commit hp hbody rfl).trans (issue_congr rfl)).trans ht, hret⟩

/-! ### Its application -/

/-- The register of a compare. -/
def compareRegister (a k : Nat) (down : Bool) : Nat := if down then AXL_CMPD a k else AXL_CMPU a k

theorem compareRegister_inj {a k j : Nat} {d e : Bool} (hk : k < 16) (hj : j < 16)
    (h : compareRegister a k d = compareRegister a j e) : k = j ∧ d = e := by
  cases d <;> cases e <;> simp only [compareRegister, AXL_CMPD, AXL_CMPU, if_true, if_false, Bool.false_eq_true] at h
  · exact ⟨by omega, rfl⟩
  · omega
  · omega
  · exact ⟨by omega, rfl⟩

/-- A compare holds the one value that the write gives it. -/
theorem rd_storeCompares {a k : Nat} {d : Bool} {v : Word} {cs : List CmpWrite} (hk : k < 16) (hlt : ∀ c ∈ cs, c.1 < 16)
    (hv : ∀ c ∈ cs, c.1 = k → c.2.1 = d → c.2.2 = v) {s : State}
    (h : s.rd (compareRegister a k d) = v ∨ (k, d, v) ∈ cs) :
    (each cs (storeCompare a) s).rd (compareRegister a k d) = v := by
  unfold each
  induction cs generalizing s with
  | nil => exact h.elim id (by simp)
  | cons c cs ih =>
    refine ih (fun x hx => hlt x (List.mem_cons_of_mem _ hx)) (fun x hx => hv x (List.mem_cons_of_mem _ hx)) ?_
    by_cases hc : c.1 = k ∧ c.2.1 = d
    · left
      have hval := hv c List.mem_cons_self hc.1 hc.2
      obtain ⟨j, e, w⟩ := c
      obtain ⟨rfl, rfl⟩ := hc
      exact (rd_wr_self ..).trans hval
    · refine h.imp (fun hs => ?_) (fun hm => ?_)
      · refine (rd_wr_of_ne s _ fun he => hc ?_).trans hs
        obtain ⟨h1, h2⟩ := compareRegister_inj hk (hlt c List.mem_cons_self) he
        exact ⟨h1.symm, h2.symm⟩
      · rcases List.mem_cons.mp hm with rfl | hm
        · exact absurd ⟨rfl, rfl⟩ hc
        · exact hm

theorem rd_below_storeCompares {a o : Nat} {cs : List CmpWrite} {s : State} (h : o < AXL_CMPU a 0 ∧ o < AXL_CMPD a 0) :
    (each cs (storeCompare a) s).rd o = s.rd o := by
  unfold each
  induction cs generalizing s with
  | nil => rfl
  | cons c cs ih =>
    refine ih.trans (rd_wr_of_ne _ _ ?_)
    simp only [AXL_CMPD, AXL_CMPU] at h ⊢
    split <;> omega

theorem storeCompares_frame (a : Nat) (cs : List CmpWrite) (s : State) :
    (each cs (storeCompare a) s).troika = s.troika ∧ (each cs (storeCompare a) s).power = s.power := by
  unfold each
  induction cs generalizing s with
  | nil => exact ⟨rfl, rfl⟩
  | cons c cs ih => exact ih _

/-- A lane of a COMMIT in taps (R85). -/
theorem laneTaps_eq (f : Bool) (period : Nat) (lane : Word) : laneTaps f period lane =
    if f then BitVec.ofNat 32 (((max 0 (lane.setWidth 16).toInt).toNat * 32 * period + 2 ^ 14) / 2 ^ 15) else lane := by
  have h : (max 0 (lane.setWidth 16).toInt).toNat = (lane.extractLsb' 0 16).toInt.toNat := by
    rw [show lane.setWidth 16 = lane.extractLsb' 0 16 from BitVec.eq_of_toNat_eq (by simp)]
    omega
  simp only [laneTaps, word, h]

theorem mem_writes {e : CommitEntry} {period : Nat} {c : CmpWrite} : c ∈ e.writes period ↔
    c.1 < e.lanes.length ∧ c.2.2 = laneTaps e.f period (e.lanes.getD c.1 0) ∧
      e.halves.getLsbD (if c.2.1 then 1 else 0) = true := by
  obtain ⟨k, d, v⟩ := c
  simp only [CommitEntry.writes, List.mem_flatMap, List.mem_range, List.mem_append]
  constructor
  · rintro ⟨j, hj, hm⟩
    rcases hm with hm | hm <;> (split at hm <;> simp at hm; obtain ⟨rfl, rfl, rfl⟩ := hm; exact ⟨hj, rfl, by simpa⟩)
  · rintro ⟨hk, rfl, hd⟩
    refine ⟨k, hk, ?_⟩
    cases d <;> simp_all

/-- A step that also counts late edges and sets flags of an Axle. -/
abbrev CompareStep (a : Nat) : State → State → Prop :=
  AxleStep (· = AXL_STAT a) (fun o => o = AXL_CNT a ∨ o = AXL_CNTS a)

/-- What applying the compares of one write does beside storing them. -/
theorem applyCompares_after (a n : Nat) (cs : List CmpWrite) (s : State) :
    CompareStep a (each cs (storeCompare a) s)
      (applyCompares a n cs s) := by
  unfold applyCompares
  extract_lets +onlyGivenNames old stored
  have hstored : CompareStep a stored stored := .refl
  refine .ite (hstored.noteMap (.inl rfl)) ?_
  extract_lets +onlyGivenNames counted r s1 s2
  have hcounted : CompareStep a stored counted :=
    (AxleStep.ite hstored hstored.at).setCount (.inl rfl)
  have h1 : CompareStep a stored s1 := by
    refine List.foldlRecOn (motive := fun acc : State × Nat =>
      CompareStep a stored acc.1) _ _ hcounted ?_
    exact fun _ hacc _ _ => hacc.lateRule
  have h2 : CompareStep a stored s2 := .ite ((h1.rc (.inr rfl)).sq (.inl rfl)).raise h1
  exact h2.noteMap (.inl rfl)

theorem LowStep.haltUpdate {s₀ s : State} {a : Nat} (h : LowStep s₀ s) : LowStep s₀ (haltUpdate a s) := by
  unfold Machine.haltUpdate
  extract_lets +onlyGivenNames x
  exact ite h.updAx.endCause h

theorem applyCompares_rd {a n k : Nat} {d : Bool} {v : Word} {cs : List CmpWrite} {s : State} (hk : k < 16) (ha : a < 4)
    (hlt : ∀ c ∈ cs, c.1 < 16) (hv : ∀ c ∈ cs, c.1 = k → c.2.1 = d → c.2.2 = v) (hm : (k, d, v) ∈ cs) :
    (applyCompares a n cs s).rd (compareRegister a k d) = v := by
  have hreg : (0x80000 ≤ compareRegister a k d ∧ compareRegister a k d < 0x100000 ∧
      compareRegister a k d % 0x10000 ≠ 0x10) ∧ compareRegister a k d ≠ AXL_STAT a ∧ compareRegister a k d ≠ AXL_CNT a ∧
      compareRegister a k d ≠ AXL_CNTS a := by
    cases d <;> simp only [compareRegister, AXL_CMPD, AXL_CMPU, AXL_STAT, AXL_CNT, AXL_CNTS, if_true, if_false,
      Bool.false_eq_true] <;> omega
  obtain ⟨⟨hge, hlt', hmod⟩, h1, h2, h3⟩ := hreg
  rw [(applyCompares_after a n cs s).rd _ (low_of_lt hlt') h1 (by simp [h2, h3]) (reportRegister_axle hge hlt' hmod)]
  exact rd_storeCompares hk hlt hv (.inr hm)

theorem wdCounts_applyCompares {a n : Nat} {cs : List CmpWrite} {s : State} (ha : a < 4) (hr : s.running a = true) :
    (applyCompares a n cs s).wdCounts a = s.wdCounts a := by
  have h := applyCompares_after a n cs s
  have hstat : (each cs (storeCompare a) s).running a = true :=
    (congrArg AXL_STAT_RUNNING.bit (rd_below_storeCompares (by simp only [AXL_STAT, AXL_CMPU, AXL_CMPD]; omega))).trans hr
  have hrun : (applyCompares a n cs s).running a = true :=
    h.keepsFlag (low_of_lt (by simp only [AXL_STAT]; omega)) (by simp only [AXL_STAT, AXL_CNT, AXL_CNTS]; omega) (by decide)
      (reportCounter_axle (by simp only [AXL_STAT]; omega) (by simp only [AXL_STAT]; omega) (by simp only [AXL_STAT]; omega))
      hstat
  have hfull : (applyCompares a n cs s).full = s.full :=
    (h.flag _ (low_of_lt (by decide)) (by simp only [SYS_STATE, AXL_STAT]; omega)
      (by simp only [SYS_STATE, AXL_CNT, AXL_CNTS]; omega) (by decide)).trans
      (congrArg SYS_STATE_SERVICE.bit (rd_below_storeCompares (by simp only [SYS_STATE, AXL_CMPU, AXL_CMPD]; omega)))
  have hpower : (applyCompares a n cs s).power = s.power := h.only.power.trans (storeCompares_frame ..).2
  simp only [State.wdCounts, hrun, hr, hfull, hpower]

theorem applyOldest_commit {s : State} {e : CommitEntry} {rest : List BufEntry} {n : Nat}
    (hbuf : s.troika.storeBuf = .commit e :: rest) :
    applyOldest n s = applyCommit e n (s.updTrk (fun x => { x with storeBuf := rest })) := by
  simp only [applyOldest, hbuf, leadStores, drainLead]

/-- What the Axle does once it has applied the compares of a COMMIT. -/
theorem applyCommit_after {e : CommitEntry} {n : Nat} {s : State} (hw : e.writes (s.commitPeriod e.ax n) ≠ []) :
    LowStep ((applyCompares e.ax n (e.writes (s.commitPeriod e.ax n)) s).updAx e.ax (fun x => { x with
      wd := if s.pointNow e.ax n && (applyCompares e.ax n (e.writes (s.commitPeriod e.ax n)) s).wdCounts e.ax then 1 else 0
      commitSinceHb := true, commitSinceResume := true })) (applyCommit e n s) := by
  unfold applyCommit
  extract_lets +onlyGivenNames a ws
  rw [if_neg hw]
  extract_lets +onlyGivenNames point s1 counted s2 held s3
  have h2 : LowStep s2 s2 := .refl
  have h3 : LowStep s2 s3 := .ite h2.handbackUpdate.haltUpdate h2
  exact .ite h3.releaseAxle h3

theorem writes_ne_nil {e : CommitEntry} {period : Nat} (hne : e.lanes ≠ []) (hh : e.halves ≠ 0) : e.writes period ≠ [] := by
  have hlen := List.length_pos_iff.mpr hne
  have hhalf : e.halves.getLsbD 0 = true ∨ e.halves.getLsbD 1 = true := by
    generalize e.halves = w at hh
    revert w
    decide
  intro hnil
  have hno : ∀ c, c ∉ e.writes period := by simp [hnil]
  rcases hhalf with h | h
  · exact hno (0, false, laneTaps e.f period (e.lanes.getD 0 0)) (mem_writes.mpr ⟨hlen, rfl, h⟩)
  · exact hno (0, true, laneTaps e.f period (e.lanes.getD 0 0)) (mem_writes.mpr ⟨hlen, rfl, h⟩)

theorem commitApplies : Rules.CommitApplies := by
  intro s e rest n hbuf hne hlen hh
  have ha : e.ax.val < 4 := e.ax.isLt
  set p := s.updTrk (fun x => { x with storeBuf := rest })
  set ws := e.writes (p.commitPeriod e.ax n) with hws
  have hafter := (applyCommit_after (n := n) (s := p) (writes_ne_nil hne hh))
  have hclock := hafter.clock e.ax
  have hax : ∀ f : AxleSt → AxleSt, ((applyCompares e.ax n ws p).updAx e.ax f).ax e.ax =
      f ((applyCompares e.ax n ws p).ax e.ax) := fun f => mget_mset_self ..
  rw [hax] at hclock
  have htroika : (applyCommit e n p).troika = p.troika :=
    hafter.only.troika.trans ((applyCompares_after ..).only.troika.trans (storeCompares_frame ..).1)
  refine ⟨_, congrArg settled (applyOldest_commit hbuf), ?_, ?_, ?_, ?_, fun k hk => ?_⟩
  · exact (congrArg Troika.storeBuf (syncStretches_troika _)).trans (congrArg Troika.storeBuf htroika)
  · refine (congrArg AxleSt.wd (syncStretches_ax _ _)).trans ((congrArg AxleSt.wd hclock).trans ?_)
    have hcount : (p.pointNow e.ax n && (applyCompares e.ax n ws p).wdCounts e.ax) = (p.pointNow e.ax n && p.wdCounts e.ax) := by
      cases hpoint : p.pointNow e.ax n with
      | false => rfl
      | true =>
        simp only [State.pointNow, Bool.and_eq_true] at hpoint
        rw [wdCounts_applyCompares ha hpoint.1.1]
    exact congrArg (fun b : Bool => if b = true then 1 else 0) hcount
  · exact (congrArg AxleSt.commitSinceHb (syncStretches_ax _ _)).trans (congrArg AxleSt.commitSinceHb hclock)
  · exact (congrArg AxleSt.commitSinceResume (syncStretches_ax _ _)).trans (congrArg AxleSt.commitSinceResume hclock)
  · have hval : ∀ d : Bool, e.halves.getLsbD (if d then 1 else 0) = true →
        (syncStretches (applyCommit e n p)).rd (compareRegister e.ax k d) =
          laneTaps e.f (p.commitPeriod e.ax n) (e.lanes.getD k 0) := by
      intro d hd
      have hreg : 0x80000 ≤ compareRegister e.ax k d ∧ compareRegister e.ax k d < 0x100000 ∧
          compareRegister e.ax k d % 0x10000 ≠ 0x10 := by
        cases d <;> simp only [compareRegister, AXL_CMPD, AXL_CMPU, if_true, if_false, Bool.false_eq_true] <;> omega
      obtain ⟨hge, hlt, hmod⟩ := hreg
      rw [syncStretches_rd, hafter.rd _ (low_of_lt hlt) (reportRegister_axle hge hlt hmod)]
      refine applyCompares_rd (by omega) ha (fun c hc => ?_) (fun c hc hck _ => ?_) (mem_writes.mpr ⟨hk, rfl, hd⟩)
      · have := (mem_writes.mp hc).1
        omega
      · rw [(mem_writes.mp hc).2.1, hck]
    intro lane u c
    have hlane : laneTaps e.f (p.commitPeriod e.ax n) (e.lanes.getD k 0) = c := laneTaps_eq ..
    exact ⟨fun h0 => (hval false h0).trans hlane, fun h1 => (hval true h1).trans hlane⟩

/-- Settles O20: the issue joins the store buffer; the application is the store of the lanes, and what follows it leaves the
compares and the watchdog alone. -/
theorem commitResults : Obligations.CommitResults := ⟨commitIssues, commitApplies⟩

end Sys2Proof.Proofs
end

section
/-! Turning points of an Axle's counter: valleys and peaks (R92, R94, R99, R103, R107). -/

namespace Sys2Proof.Proofs

open Sys2Proof Sys2Proof.Machine Sys2Proof.Safety Sys2Proof.Laws

/-! ### The keeper's records stay unless a catch is asked for -/

/-- The records that the keeper holds stay, a stop of the Axle stays pending or not, and no catch of it is asked for. -/
structure Uncaught (a : Nat) (s t : State) : Prop where
  kept : t.kept = s.kept
  asked : (s.ax a).catchPending = false → (t.ax a).catchPending = false
  stop : (t.ax a).stopPending = (s.ax a).stopPending

-- The lemmas below find side conditions by an `autoParam`, for which an asynchronous proof would hold a thread.
set_option Elab.async false

section
variable {a : Nat} {s₀ s t u : State}

theorem Uncaught.refl : Uncaught a s s := ⟨rfl, id, rfl⟩
theorem Uncaught.trans (h : Uncaught a s t) (h' : Uncaught a t u) : Uncaught a s u :=
  ⟨h'.kept.trans h.kept, fun hs => h'.asked (h.asked hs), h'.stop.trans h.stop⟩
theorem Uncaught.low (h : Uncaught a s₀ s) (h' : LowStep s t) : Uncaught a s₀ t :=
  h.trans ⟨h'.only.kept, fun hs => Bool.eq_false_iff.mpr fun ht => by rw [h'.asked a ht] at hs; exact Bool.noConfusion hs,
    clock_stopPending (h'.clock a)⟩
theorem Uncaught.ite {c : Prop} [Decidable c] (h : Uncaught a s₀ s) (h' : Uncaught a s₀ t) :
    Uncaught a s₀ (if c then s else t) := by
  split
  · exact h
  · exact h'
/-- An update of registers. -/
theorem Uncaught.upd (h : Uncaught a s₀ s) (hk : t.kept = s.kept := by rfl) (ha : t.axle = s.axle := by rfl) :
    Uncaught a s₀ t :=
  h.trans ⟨hk, fun hs => by simpa only [State.ax, ha] using hs, by simp only [State.ax, ha]⟩
theorem Uncaught.updAx {b : Nat} {f : AxleSt → AxleSt} (h : Uncaught a s₀ s)
    (hf : ∀ x : AxleSt, x.catchPending = false → (f x).catchPending = false := by intro _ h; exact h)
    (hp : ∀ x : AxleSt, (f x).stopPending = x.stopPending := by intro _; rfl) : Uncaught a s₀ (s.updAx b f) := by
  have hax : (s.updAx b f).ax a = if a = b then f (s.ax a) else s.ax a := by
    simp only [State.ax, State.updAx, State.setAx, mget_mset]
    split
    · next he => rw [he]
    · rfl
  refine h.trans ⟨rfl, fun hs => ?_, ?_⟩ <;> rw [hax] <;> split
  · exact hf _ hs
  · exact hs
  · exact hp _
  · rfl

theorem Uncaught.wr {o : Nat} {w : Word} (h : Uncaught a s₀ s) : Uncaught a s₀ (s.wr o w) := h.upd
theorem Uncaught.setFld {o : Nat} {f : Fld} {n : Nat} (h : Uncaught a s₀ s) : Uncaught a s₀ (s.setFld o f n) := h.upd
theorem Uncaught.setFlag {o : Nat} {f : Fld} {b : Bool} (h : Uncaught a s₀ s) : Uncaught a s₀ (s.setFlag o f b) := h.upd
theorem Uncaught.sq {o : Nat} {f : Fld} (h : Uncaught a s₀ s) : Uncaught a s₀ (s.sq o f) := h.upd
theorem Uncaught.raise {src : Nat} (h : Uncaught a s₀ s) : Uncaught a s₀ (s.raise src) := h.low (.raise .refl)
theorem Uncaught.at {n : Nat} (h : Uncaught a s₀ s) : Uncaught a s₀ (s.at n) := h.upd

theorem Uncaught.catchUpdate (h : Uncaught a s₀ s) (hs : (s.ax a).catchPending = false) : Uncaught a s₀ (catchUpdate a s) := by
  unfold Machine.catchUpdate
  rw [hs]
  exact h

/-- An update point of an Axle that has no catch to begin. -/
theorem Uncaught.updatePoint {len : Nat} (h : Uncaught a s₀ s) (hs : (s.ax a).catchPending = false) :
    Uncaught a s₀ (updatePoint a len s) := by
  unfold Machine.updatePoint
  extract_lets +onlyGivenNames s1 pend s2 out s3 cut s4 s5 s6 s7
  have h1 : Uncaught a s s1 := by
    have hwd : Uncaught a s (s.updAx a (fun x => { x with wd := if s.wdCounts a then x.wd + 1 else 0 })) :=  .updAx .refl
    exact ite (hwd.low (.askFallback .refl)) hwd
  have h2 : Uncaught a s s2 := h1.updAx
  have h3 : Uncaught a s s3 := ite h2 (h2.low (.monitorInterval .refl))
  have h4 : Uncaught a s s4 := h3.low (.gateUpdate .refl)
  have h5 : Uncaught a s s5 := (ite h4 (h4.low (.ttuClose .refl))).low (.ttuOpen .refl)
  have h6 : Uncaught a s s6 := h5.low (LowStep.refl.windowUpdate.handbackUpdate.fallbackUpdate)
  have h7 : Uncaught a s s7 := (h6.catchUpdate (h6.asked hs)).low (LowStep.refl.haltUpdate.releaseAxle)
  have h8 : Uncaught a s (s7.updAx a (fun x => { x with fired := [], trgFired := [], trgBehind := [] })) := h7.updAx
  exact h.trans (h8.low (.monitorBegin .refl))

end

/-! ### The parts of a valley -/

/-- A valley's own part, with the carrier number advanced. -/
def valleyBegun (a : Nat) (s : State) : State :=
  (beginCarrier a (s.at ((s.ax a).halfAt + 32 * s.halfTicks a))).wr (AXL_CARNUM a) (s.rd (AXL_CARNUM a) + 1)

/-- The half that a valley opens, before its update point. -/
def valleyOpened (a : Nat) (s : State) : State := axwTakes a (clockChange a (alignValley a (scheduledPeriod a (valleyBegun a s))))

theorem valley_eq {a : Nat} {s : State} (hc : s.counts a = true) (hd : s.dirDown a = true ∨ s.axlMode a = 0) :
    valley a s = if ((valleyOpened a s).ax a).stopPending then
        stopAxle a (updatePoint a (s.intervalTicks a) (prepareStop a (valleyOpened a s)))
      else updatePoint a (s.intervalTicks a) (valleyOpened a s) := by
  have h : (s.counts a && (s.dirDown a || decide (s.axlMode a = 0))) = true := by
    rcases hd with hd | hd <;> simp [hc, hd]
  unfold valley
  rw [if_neg (by simp [h])]
  rfl

section
variable {W V : Nat → Prop} {s₀ s : State} {a : Nat}

theorem AxleStep.stopAxle (h : AxleStep W V s₀ s) (hv : V (AXL_STAT a)) : AxleStep W V s₀ (stopAxle a s) := by
  unfold Machine.stopAxle
  extract_lets +onlyGivenNames s1 s2
  have h1 : AxleStep W V s₀ s1 := ite h.raise h
  have h2 : AxleStep W V s₀ s2 := (h1.setFlag hv).updAx
  exact h2.low (LowStep.refl.endFallback.safeFor)

/-- A valley once its scheduled period is taken over. -/
theorem valley_after (hc : s.counts a = true) (hd : s.dirDown a = true ∨ s.axlMode a = 0) :
    AxleStep (fun _ => False) (fun o => o = AXL_STAT a ∨ o = SYS_CLK) (scheduledPeriod a (valleyBegun a s)) (valley a s) := by
  rw [valley_eq hc hd]
  have h : AxleStep (fun _ => False) (fun o => o = AXL_STAT a ∨ o = SYS_CLK) (scheduledPeriod a (valleyBegun a s))
      (valleyOpened a s) := ((AxleStep.refl.alignValley (.inl rfl)).clockChange (.inr rfl)).axwTakes
  exact .ite (h.prepareStop.updatePoint.stopAxle (.inl rfl)) h.updatePoint

end

section
variable (a : Nat) (s : State)

theorem beginCarrier_regs : (beginCarrier a s).regs = ((setCount a 0 false s).raise (evAxle a 0)).regs := by
  unfold beginCarrier
  extract_lets s1 t s2
  change (if _ then _ else s1).regs = s1.regs
  split <;> rfl

theorem beginCarrier_rd {o : Nat} (h : eventRegister o = false) : (beginCarrier a s).rd o = (setCount a 0 false s).rd o :=
  (congrArg (fun r => mget regDefault r o) (beginCarrier_regs a s)).trans (raise_rd_apart _ _ h)

theorem valleyBegun_carnum : (valleyBegun a s).rd (AXL_CARNUM a) = s.rd (AXL_CARNUM a) + 1 := rd_wr_self ..

theorem valleyBegun_rd {o : Nat} (h : eventRegister o = false) (hn : o ≠ AXL_CARNUM a) :
    (valleyBegun a s).rd o = if o = AXL_CNT a then 0 else s.rd o := by
  rw [valleyBegun, rd_wr_of_ne _ _ hn, beginCarrier_rd _ _ h, setCount, rd_wr]
  rfl

theorem evReserved_axle {a k : Nat} (ha : a < 4) (hk : k < 16) : evReserved (evAxle a k) = false := by
  have hlt : evAxle a k < 64 := by simp only [evAxle]; omega
  simp only [evReserved, Bool.or_eq_false_iff, Bool.and_eq_false_iff, decide_eq_false_iff_not]
  omega

theorem valleyBegun_pending (ha : a < 4) (hs : s.awake = true) : (valleyBegun a s).evPending (evAxle a 0) = true := by
  have hne : EVT_PEND (evAxle a 0 / 24) ≠ AXL_CARNUM a := by simp only [EVT_PEND, AXL_CARNUM, evAxle]; omega
  have hres := evReserved_axle ha (k := 0) (by decide)
  unfold valleyBegun State.evPending
  rw [rd_wr_of_ne _ _ hne]
  simp only [State.rd, beginCarrier_regs]
  exact raise_pending _ hres hs

end

section
variable {a : Nat} {s₀ s : State}

theorem Uncaught.reanchorHere (h : Uncaught a s₀ s) : Uncaught a s₀ (reanchorHere a s) := by
  unfold Machine.reanchorHere
  extract_lets +onlyGivenNames src v anchor ofs
  exact h.updAx
theorem Uncaught.beginCarrier (h : Uncaught a s₀ s) : Uncaught a s₀ (beginCarrier a s) := by
  unfold Machine.beginCarrier
  extract_lets +onlyGivenNames s1 t s2
  have h1 : Uncaught a s₀ s1 := .raise (.wr h)
  have h2 : Uncaught a s₀ s2 := ite h1.reanchorHere h1
  exact h2.updAx
theorem Uncaught.scheduledPeriod (h : Uncaught a s₀ s) : Uncaught a s₀ (scheduledPeriod a s) := by
  unfold Machine.scheduledPeriod
  extract_lets +onlyGivenNames p due s1
  have h1 : Uncaught a s₀ s1 := h.updAx
  exact ite h1.setFld.setFlag.reanchorHere h1
theorem Uncaught.alignValley (h : Uncaught a s₀ s) : Uncaught a s₀ (alignValley a s) := by
  unfold Machine.alignValley
  extract_lets +onlyGivenNames sync
  split
  · exact h.setFlag.updAx
  · extract_lets +onlyGivenNames lim k r inTol s1 s2
    have h2 : Uncaught a s₀ s2 := h.updAx.setFlag
    exact ite h2 h2.sq.raise
theorem Uncaught.clockChange (h : Uncaught a s₀ s) : Uncaught a s₀ (clockChange a s) := by
  have h1 : Uncaught a s₀ (s.updAx a (fun x => { x with onDray := false })) := h.updAx
  exact ite (ite h1.setFlag h1) h
theorem Uncaught.axwTakes (h : Uncaught a s₀ s) : Uncaught a s₀ (axwTakes a s) := ite h.updAx h

theorem uncaught_valleyOpened : Uncaught a s (valleyOpened a s) :=
  Uncaught.refl.at.beginCarrier.wr.scheduledPeriod.alignValley.clockChange.axwTakes

end

/-! ### What a valley leaves -/

section
variable {a : Nat} {s : State}

theorem flag_setFlag_other (s : State) {o o' : Nat} {f g : Fld} {b : Bool}
    (h : o ≠ o' ∨ ¬(f.lo ≤ g.lo ∧ g.lo < f.lo + f.len ∧ g.lo < 32)) : (s.setFlag o' f b).flag o g = s.flag o g := by
  by_cases ho : o = o'
  · subst ho
    exact (congrArg g.bit (rd_wr_self ..)).trans (bit_put_apart (h.resolve_left (· rfl)) _ _)
  · exact congrArg g.bit (rd_wr_of_ne _ _ ho)

theorem flag_sq_other (s : State) (o : Nat) {f g : Fld} (h : ¬(f.lo ≤ g.lo ∧ g.lo < f.lo + f.len)) (hg : g.lo < 24) :
    (s.sq o f).flag o g = s.flag o g := by
  refine (congrArg g.bit (rd_wr_self ..)).trans ((bit_put_apart (f := seqFld) (by simp only [seqFld]; omega) _ _).trans ?_)
  have hm : f.mask.getLsbD g.lo = false := by
    rw [mask_getLsbD]
    simp only [Bool.and_eq_false_iff, decide_eq_false_iff_not]
    omega
  simp only [Fld.bit, BitVec.getLsbD_or, hm, Bool.or_false]
  rfl

/-- Whether the Axle runs is as before. -/
def RunsAs (a : Nat) (s t : State) : Prop := t.running a = s.running a

theorem RunsAs.ite {c : Prop} [Decidable c] {t u : State} (h : RunsAs a s t) (h' : RunsAs a s u) :
    RunsAs a s (if c then t else u) := by
  split
  · exact h
  · exact h'

theorem runsAs_alignValley (ha : a < 4) : RunsAs a s (alignValley a s) := by
  unfold alignValley
  extract_lets +onlyGivenNames sync
  split
  · exact flag_setFlag_other s (.inr (by decide))
  · extract_lets +onlyGivenNames lim k r inTol s1 s2
    have h2 : RunsAs a s s2 := flag_setFlag_other s1 (.inr (by decide))
    have h3 : RunsAs a s ((s2.sq (AXL_STAT a) AXL_STAT_SYNCERR).raise (evAxle a 15)) :=
      (congrArg AXL_STAT_RUNNING.bit (raise_rd_apart _ _ (eventRegister_of_reportRegister (reportRegister_axle
        (by simp only [AXL_STAT]; omega) (by simp only [AXL_STAT]; omega) (by simp only [AXL_STAT]; omega))))).trans
        ((flag_sq_other s2 _ (by decide) (by decide)).trans h2)
    exact .ite h2 h3

/-- No compare or trigger has fired in the half that an update point opens. -/
theorem updatePoint_fired {len : Nat} : ((updatePoint a len s).ax a).fired = [] ∧ ((updatePoint a len s).ax a).trgFired = [] := by
  unfold updatePoint
  extract_lets +onlyGivenNames s1 pend s2 out s3 cut s4 s5 s6 s7
  have h := (LowStep.refl (s := s7.updAx a (fun x => { x with fired := [], trgFired := [], trgBehind := [] }))
    |>.monitorBegin (a := a) (cut := cut)).clock a
  have hax : (s7.updAx a (fun x => { x with fired := [], trgFired := [], trgBehind := [] })).ax a =
      { s7.ax a with fired := [], trgFired := [], trgBehind := [] } := mget_mset_self ..
  rw [hax] at h
  exact ⟨clock_fired h, clock_trgFired h⟩

theorem stopAxle_fired : ((stopAxle a s).ax a).fired = (s.ax a).fired ∧ ((stopAxle a s).ax a).trgFired = (s.ax a).trgFired := by
  unfold stopAxle
  extract_lets +onlyGivenNames s1 s2
  have h1 : LowStep s s1 := .ite (.raise .refl) .refl
  have h2 := (LowStep.refl (s := s2) |>.endFallback (a := a) |>.safeFor (c := .axleStop) (ls := s2.legsOf a)).clock a
  have hax : s2.ax a = { s1.ax a with stopPending := false, wd := 0 } := mget_mset_self ..
  have hf := clock_fired h2
  have ht := clock_trgFired h2
  rw [hax] at hf ht
  exact ⟨hf.trans (show (s1.ax a).fired = _ from clock_fired (h1.clock a)),
    ht.trans (show (s1.ax a).trgFired = _ from clock_trgFired (h1.clock a))⟩

theorem valley_fired (hc : s.counts a = true) (hd : s.dirDown a = true ∨ s.axlMode a = 0) :
    ((valley a s).ax a).fired = [] ∧ ((valley a s).ax a).trgFired = [] := by
  rw [valley_eq hc hd]
  split
  · exact ⟨stopAxle_fired.1.trans updatePoint_fired.1, stopAxle_fired.2.trans updatePoint_fired.2⟩
  · exact updatePoint_fired

theorem reanchorHere_rd (b o : Nat) (u : State) : (reanchorHere b u).rd o = u.rd o := rfl

/-- The registers that take over a scheduled period. -/
theorem scheduledPeriod_takes (harm : s.flag (AXL_PRDSCH a) AXL_PRDSCH_ARM = true)
    (hnum : s.rd (AXL_CARNUM a) = s.rd (AXL_PRDAT a)) :
    (scheduledPeriod a s).period a = s.fld (AXL_PRDSCH a) AXL_PRDSCH_PERIOD ∧
      (scheduledPeriod a s).flag (AXL_PRDSCH a) AXL_PRDSCH_ARM = false := by
  have hne : AXL_PRD a ≠ AXL_PRDSCH a := by simp only [AXL_PRD, AXL_PRDSCH]; omega
  have hlt : s.fld (AXL_PRDSCH a) AXL_PRDSCH_PERIOD < 2 ^ 19 := Nat.mod_lt _ (by decide)
  unfold scheduledPeriod
  extract_lets +onlyGivenNames p due s1
  have hdue : due = true := by
    simp only [due, hnum, decide_true, Bool.and_true]
    exact harm
  rw [if_pos hdue]
  set s2 := s1.setFld (AXL_PRD a) AXL_PRD_PERIOD (AXL_PRDSCH_PERIOD.get p) with hs2
  have hperiod : s2.fld (AXL_PRD a) AXL_PRD_PERIOD = s.fld (AXL_PRDSCH a) AXL_PRDSCH_PERIOD :=
    (fld_setFld_self _ _ _ _ (by decide)).trans (Nat.mod_eq_of_lt hlt)
  exact ⟨(congrArg AXL_PRD_PERIOD.get ((reanchorHere_rd ..).trans (rd_wr_of_ne _ _ hne))).trans hperiod,
    (congrArg AXL_PRDSCH_ARM.bit (reanchorHere_rd ..)).trans (flag_setFlag_self _ _ _ _ (by decide) (by decide))⟩

theorem runsAs_valleyOpened (ha : a < 4) : (valleyOpened a s).running a = s.running a := by
  have hstat : (valleyBegun a s).running a = s.running a := by
    refine (congrArg AXL_STAT_RUNNING.bit (valleyBegun_rd a s ?_ ?_)).trans (congrArg AXL_STAT_RUNNING.bit (if_neg ?_))
    · exact eventRegister_of_reportRegister (reportRegister_axle (by simp only [AXL_STAT]; omega)
        (by simp only [AXL_STAT]; omega) (by simp only [AXL_STAT]; omega))
    · simp only [AXL_STAT, AXL_CARNUM]; omega
    · simp only [AXL_STAT, AXL_CNT]; omega
  have hsched : (scheduledPeriod a (valleyBegun a s)).running a = (valleyBegun a s).running a :=
    (AxleStep.refl (W := fun _ => False) (V := fun o => o = AXL_PRD a ∨ o = AXL_PRDSCH a) |>.scheduledPeriod (.inl rfl)
      (.inr rfl)).flag _ (low_of_lt (by simp only [AXL_STAT]; omega)) id
      (by simp only [AXL_STAT, AXL_PRD, AXL_PRDSCH]; omega) (reportRegister_axle (by simp only [AXL_STAT]; omega)
        (by simp only [AXL_STAT]; omega) (by simp only [AXL_STAT]; omega))
  have hclock : (valleyOpened a s).running a = (alignValley a (scheduledPeriod a (valleyBegun a s))).running a :=
    ((AxleStep.refl (W := fun _ => False) (V := (· = SYS_CLK))).clockChange rfl).axwTakes.flag _
      (low_of_lt (by simp only [AXL_STAT]; omega)) id (by simp only [AXL_STAT, SYS_CLK]; omega)
      (reportRegister_axle (by simp only [AXL_STAT]; omega) (by simp only [AXL_STAT]; omega) (by simp only [AXL_STAT]; omega))
  exact hclock.trans ((runsAs_alignValley ha).trans (hsched.trans hstat))

end

theorem reportRegister_apart {o : Nat} (h : 0x100000 ≤ o) (h' : o < 0x1D0000) : reportRegister o = false := by
  simp only [reportRegister, eventRegister_apart h h', Bool.false_or, Bool.or_eq_false_iff, decide_eq_false_iff_not]
  simp only [MEM_STAT, MEM_ECCADDR, MEM_ECCCNT]
  omega

/-- A leg belongs to the Axle that its records in force name. -/
theorem legAxle_congr {s t : State} {l : Nat} (hk : t.kept = s.kept) (hr : t.rd (LEG_CFG l) = s.rd (LEG_CFG l)) :
    t.legAxle l = s.legAxle l := by
  simp only [State.legAxle, State.inForce, hk, hr]

/-- A stop at a valley leaves every leg of the Axle in SAFE (R103). -/
theorem valley_stops {s : State} {a : Nat} (ha : a < 4) (hc : s.counts a = true) (hd : s.dirDown a = true ∨ s.axlMode a = 0)
    (hs : (s.ax a).stopPending = true) :
    (valley a s).running a = false ∧ ∀ l, l < 32 → s.legAxle l = a → (valley a s).legSafe l ≠ 0 := by
  have hopen := uncaught_valleyOpened (a := a) (s := s)
  have hstop : valley a s = stopAxle a (updatePoint a (s.intervalTicks a) (prepareStop a (valleyOpened a s))) := by
    rw [valley_eq hc hd, if_pos (hopen.stop.trans hs)]
  rw [hstop]
  set p := prepareStop a (valleyOpened a s) with hp
  have hasked : (p.ax a).catchPending = false := by
    have hax : ((valleyOpened a s).updAx a (fun x => { x with fbPending := none, catchPending := false })).ax a =
        { (valleyOpened a s).ax a with fbPending := none, catchPending := false } := mget_mset_self ..
    have hcauses : LowStep ((valleyOpened a s).updAx a (fun x => { x with fbPending := none, catchPending := false })) p :=
      LowStep.refl.each fun _ _ h => h.addCause
    refine Bool.eq_false_iff.mpr fun hask => ?_
    have := hcauses.asked a hask
    rw [hax] at this
    exact Bool.noConfusion this
  have hprep : p.kept = (valleyOpened a s).kept := by
    have hcauses : LowStep ((valleyOpened a s).updAx a (fun x => { x with fbPending := none, catchPending := false })) p :=
      LowStep.refl.each fun _ _ h => h.addCause
    exact hcauses.only.kept
  have hpoint : (updatePoint a (s.intervalTicks a) p).kept = s.kept :=
    (Uncaught.updatePoint .refl hasked).kept.trans (hprep.trans hopen.kept)
  unfold stopAxle
  extract_lets +onlyGivenNames s1 s2
  have h1 : LowStep (updatePoint a (s.intervalTicks a) p) s1 := .ite (.raise .refl) .refl
  have h2 : s2.running a = false := flag_setFlag_self s1 (AXL_STAT a) AXL_STAT_RUNNING false (by decide) (by decide)
  have h3 : LowStep s2 (endFallback a s2) := .endFallback .refl
  have h4 : LowStep s2 (safeFor .axleStop (s2.legsOf a) (endFallback a s2)) := h3.safeFor
  have hrun : ∀ u, LowStep s2 u → u.running a = false := fun u hu =>
    (hu.flag _ (low_of_lt (by simp only [AXL_STAT]; omega)) (reportRegister_axle (by simp only [AXL_STAT]; omega)
      (by simp only [AXL_STAT]; omega) (by simp only [AXL_STAT]; omega))).trans h2
  refine ⟨hrun _ h4, fun l hl hleg => safeFor_safe (by decide) hl (mem_legsOf.mpr ⟨hl, ?_⟩)⟩
  have hcfg : s2.rd (LEG_CFG l) = s.rd (LEG_CFG l) := by
    have hbegun := valleyBegun_rd a s (o := LEG_CFG l) (eventRegister_apart (by simp only [LEG_CFG]; omega)
      (by simp only [LEG_CFG]; omega)) (by simp only [LEG_CFG, AXL_CARNUM]; omega)
    have hopened : AxleStep (fun _ => False) (fun o => o < 0x100000) (valleyBegun a s) s2 := by
      have hu : AxleStep (fun _ => False) (fun o => o < 0x100000) (valleyBegun a s) (updatePoint a (s.intervalTicks a) p) :=
        ((((AxleStep.refl.scheduledPeriod (by simp only [AXL_PRD]; omega) (by simp only [AXL_PRDSCH]; omega)).alignValley
          (by simp only [AXL_STAT]; omega)).clockChange (by decide)).axwTakes).prepareStop.updatePoint
      exact ((hu.low h1).setFlag (by simp only [AXL_STAT]; omega)).updAx
    rw [hopened.rd _ (low_legCfg hl) id (by simp only [LEG_CFG]; omega)
      (reportRegister_apart (by simp only [LEG_CFG]; omega) (by simp only [LEG_CFG]; omega)), hbegun,
      if_neg (by simp only [LEG_CFG, AXL_CNT]; omega)]
  have hkept : s2.kept = s.kept := h1.only.kept.trans hpoint
  rw [legAxle_congr hkept hcfg, hleg]

/-- A valley (R94, R99, R103, R106, R107). -/
theorem valley_leaves {s : State} {a : Fin 4} (hc : s.counts a = true) (hd : s.dirDown a = true ∨ s.axlMode a = 0) :
    ∃ t, exec (.valley a) s = .next t ∧ t.rd (AXL_CARNUM a) = s.rd (AXL_CARNUM a) + 1 ∧ t.rd (AXL_CNT a) = 0 ∧
      t.evPending (evAxle a 0) = true ∧ (t.ax a).fired = [] ∧ (t.ax a).trgFired = [] ∧
      (s.flag (AXL_PRDSCH a) AXL_PRDSCH_ARM = true → s.rd (AXL_PRDAT a) = s.rd (AXL_CARNUM a) + 1 →
        t.period a = s.fld (AXL_PRDSCH a) AXL_PRDSCH_PERIOD ∧ t.flag (AXL_PRDSCH a) AXL_PRDSCH_ARM = false) ∧
      ((s.ax a).stopPending = false → t.running a = true) ∧
      ((s.ax a).stopPending = true → t.running a = false ∧ ∀ l, l < 32 → s.legAxle l = a → t.legSafe l ≠ 0) := by
  have ha := a.isLt
  simp only [State.counts, Bool.and_eq_true] at hc
  obtain ⟨⟨hawake, hrun⟩, hfree⟩ := hc
  have hc : s.counts a = true := by simp only [State.counts, hawake, hrun, hfree, Bool.and_self]
  have hbrake : LowStep (valley a s) (settleBrake (valley a s)) := .settleBrake .refl
  have hafter := (valley_after hc hd).low hbrake
  have hsched := (AxleStep.refl (W := fun _ => False) (V := fun o => o = AXL_PRD a ∨ o = AXL_PRDSCH a)
    (s := valleyBegun a s)).scheduledPeriod (.inl rfl) (.inr rfl)
  have hreport : ∀ o, 0x80000 ≤ o ∧ o < 0x100000 ∧ o % 0x10000 ≠ 0x10 → reportRegister o = false :=
    fun o ho => reportRegister_axle ho.1 ho.2.1 ho.2.2
  have hrunning : ∀ u {v : State}, LowStep v u → u.running a = v.running a := fun u _ hu =>
    hu.flag _ (low_of_lt (by simp only [AXL_STAT]; omega)) (hreport _ (by simp only [AXL_STAT]; omega))
  have hprdsch : (valleyBegun a s).rd (AXL_PRDSCH a) = s.rd (AXL_PRDSCH a) := by
    rw [valleyBegun_rd a s (eventRegister_of_reportRegister (hreport _ (by simp only [AXL_PRDSCH]; omega)))
      (by simp only [AXL_PRDSCH, AXL_CARNUM]; omega), if_neg (by simp only [AXL_PRDSCH, AXL_CNT]; omega)]
  refine ⟨_, rfl, ?_, ?_, ?_, ?_, ?_, fun harm hnum => ?_, fun hs => ?_, fun hs => ?_⟩
  · rw [syncStretches_rd, hafter.rd _ (low_of_lt (by simp only [AXL_CARNUM]; omega)) id
      (by simp only [AXL_CARNUM, AXL_STAT, SYS_CLK]; omega) (hreport _ (by simp only [AXL_CARNUM]; omega)),
      hsched.rd _ (low_of_lt (by simp only [AXL_CARNUM]; omega)) id (by simp only [AXL_CARNUM, AXL_PRD, AXL_PRDSCH]; omega)
        (hreport _ (by simp only [AXL_CARNUM]; omega)), valleyBegun_carnum]
  · rw [syncStretches_rd, hafter.rd _ (low_of_lt (by simp only [AXL_CNT]; omega)) id
      (by simp only [AXL_CNT, AXL_STAT, SYS_CLK]; omega) (hreport _ (by simp only [AXL_CNT]; omega)),
      hsched.rd _ (low_of_lt (by simp only [AXL_CNT]; omega)) id (by simp only [AXL_CNT, AXL_PRD, AXL_PRDSCH]; omega)
        (hreport _ (by simp only [AXL_CNT]; omega)),
      valleyBegun_rd a s (eventRegister_of_reportRegister (hreport _ (by simp only [AXL_CNT]; omega)))
        (by simp only [AXL_CNT, AXL_CARNUM]; omega), if_pos rfl]
  · have hres := evReserved_axle ha (k := 0) (by decide)
    rw [syncStretches_evPending]
    refine hafter.pending ?_ hres (hsched.pending ?_ hres (valleyBegun_pending a s ha hawake))
    · simp only [EVT_PEND, evAxle, AXL_STAT, SYS_CLK]; omega
    · simp only [EVT_PEND, evAxle, AXL_PRD, AXL_PRDSCH]; omega
  · rw [syncStretches_ax]
    exact (clock_fired (hbrake.clock a)).trans (valley_fired hc hd).1
  · rw [syncStretches_ax]
    exact (clock_trgFired (hbrake.clock a)).trans (valley_fired hc hd).2
  · have hdue : (valleyBegun a s).rd (AXL_CARNUM a) = (valleyBegun a s).rd (AXL_PRDAT a) := by
      rw [valleyBegun_carnum, ← hnum, valleyBegun_rd a s (eventRegister_of_reportRegister (hreport _
        (by simp only [AXL_PRDAT]; omega))) (by simp only [AXL_PRDAT, AXL_CARNUM]; omega),
        if_neg (by simp only [AXL_PRDAT, AXL_CNT]; omega)]
    obtain ⟨hperiod, hclear⟩ := scheduledPeriod_takes ((congrArg AXL_PRDSCH_ARM.bit hprdsch).trans harm) hdue
    · refine ⟨(congrArg AXL_PRD_PERIOD.get ?_).trans (hperiod.trans ?_), (congrArg AXL_PRDSCH_ARM.bit ?_).trans hclear⟩
      · rw [syncStretches_rd, hafter.rd _ (low_of_lt (by simp only [AXL_PRD]; omega)) id
          (by simp only [AXL_PRD, AXL_STAT, SYS_CLK]; omega) (hreport _ (by simp only [AXL_PRD]; omega))]
      · exact congrArg AXL_PRDSCH_PERIOD.get hprdsch
      · rw [syncStretches_rd, hafter.rd _ (low_of_lt (by simp only [AXL_PRDSCH]; omega)) id
          (by simp only [AXL_PRDSCH, AXL_STAT, SYS_CLK]; omega) (hreport _ (by simp only [AXL_PRDSCH]; omega))]
  · rw [valley_eq hc hd, if_neg (by rw [uncaught_valleyOpened.stop, hs]; decide)] at hbrake ⊢
    have hpoint := (AxleStep.refl (W := fun _ => False) (V := fun _ => False) (s := valleyOpened a s)).updatePoint
      (a := a) (len := s.intervalTicks a)
    refine (syncStretches_flag ..).trans ((hrunning _ hbrake).trans ?_)
    exact (hpoint.flag _ (low_of_lt (by simp only [AXL_STAT]; omega)) id id (hreport _ (by simp only [AXL_STAT]; omega))).trans
      ((runsAs_valleyOpened ha).trans hrun)
  · have hstops := valley_stops ha hc hd hs
    refine ⟨?_, fun l hl hleg => ?_⟩
    · exact (syncStretches_flag ..).trans ((hrunning _ hbrake).trans hstops.1)
    · rw [syncStretches_legSafe, (brakeStep_settleBrake _).legSafe hl]
      exact hstops.2 l hl hleg

/-! ### The peak -/

theorem fld_setCount {a n : Nat} {down : Bool} {s : State} (hn : n < 2 ^ 31) :
    (setCount a n down s).fld (AXL_CNT a) AXL_CNT_VALUE = n := by
  refine (congrArg AXL_CNT_VALUE.get (rd_wr_self ..)).trans ?_
  rw [get_put_apart AXL_CNT_DIR AXL_CNT_VALUE _ _ (.inr (by decide)), get_put_self _ _ _ (by decide)]
  exact Nat.mod_eq_of_lt hn

theorem dirDown_setCount {a n : Nat} {down : Bool} {s : State} : (setCount a n down s).dirDown a = down := by
  refine (congrArg AXL_CNT_DIR.bit (rd_wr_self ..)).trans ((bit_put_self _ _ _ (by decide) (by decide)).trans ?_)
  cases down <;> rfl

theorem turn_lt (s : State) (a : Nat) : s.turn a < 2 ^ 31 := by
  have h : s.period a < 2 ^ 19 := Nat.mod_lt _ (by decide)
  unfold State.turn
  split <;> omega

section
variable {s : State} {a : Nat}

/-- A peak is an update point in mode 0b10, and opens the down half in the other one (R92, R94). -/
theorem peak_eq (hc : s.counts a = true) (hm : s.axlMode a ≠ 0) (hd : s.dirDown a = false)
    (hl : (s.ax a).latePeak = none) : ∃ u : State, u.regs = (setCount a (s.turn a) true s).regs ∧ u.awake = s.awake ∧
      peak a s = if s.axlMode a = 2 then updatePoint a (s.halfTicks a) (u.raise (evAxle a 1))
        else u.updAx a (fun x => { x with fired := [], trgFired := [], trgBehind := [] }) := by
  have hmode : ∀ u : State, u.regs = (setCount a (s.turn a) true s).regs → u.axlMode a = s.axlMode a := fun u hu => by
    have hne : AXL_CTRL a ≠ AXL_CNT a := by simp only [AXL_CTRL, AXL_CNT]; omega
    have hrd : u.rd (AXL_CTRL a) = s.rd (AXL_CTRL a) := (congrArg (fun r => mget regDefault r (AXL_CTRL a)) hu).trans
      (rd_wr_of_ne s _ hne)
    simp only [State.axlMode, State.fld, hrd]
  unfold peak
  rw [if_pos (by simp [hc, hm, hd])]
  extract_lets +onlyGivenNames len top s1 t s2
  have htop : top = s.turn a := by simp only [top, hl, Option.getD_none]
  have hregs : s2.regs = (setCount a (s.turn a) true s).regs := by
    rw [← htop]
    rfl
  exact ⟨s2, hregs, rfl, by rw [hmode s2 hregs]⟩

end

/-- A peak in an up-down mode (R92, R94). -/
theorem peak_leaves {s : State} {a : Fin 4} (hc : s.counts a = true) (hm : s.axlMode a ≠ 0) (hd : s.dirDown a = false)
    (hl : (s.ax a).latePeak = none) : ∃ t, exec (.peak a) s = .next t ∧
      t.fld (AXL_CNT a) AXL_CNT_VALUE = s.turn a ∧ t.dirDown a = true ∧ (t.ax a).fired = [] ∧
      t.rd (AXL_CARNUM a) = s.rd (AXL_CARNUM a) ∧ (s.axlMode a = 2 → t.evPending (evAxle a 1) = true) := by
  have ha := a.isLt
  have hawake : s.awake = true := by
    simp only [State.counts, Bool.and_eq_true] at hc
    exact hc.1.1
  obtain ⟨u, hregs, hua, hpeak⟩ := peak_eq hc hm hd hl
  have hbrake : LowStep (peak a s) (settleBrake (peak a s)) := .settleBrake .refl
  have hstep : AxleStep (fun _ => False) (fun _ => False) u (settleBrake (peak a s)) := by
    refine AxleStep.low ?_ hbrake
    rw [hpeak]
    exact .ite AxleStep.refl.raise.updatePoint AxleStep.refl.updAx
  have hrd : ∀ o, 0x80000 ≤ o ∧ o < 0x100000 ∧ o % 0x10000 ≠ 0x10 →
      (syncStretches (settleBrake (peak a s))).rd o = (setCount a (s.turn a) true s).rd o := fun o ho => by
    rw [syncStretches_rd, hstep.rd o (low_of_lt ho.2.1) id id (reportRegister_axle ho.1 ho.2.1 ho.2.2)]
    simp only [State.rd, hregs]
  have hcnt := hrd (AXL_CNT a) (by simp only [AXL_CNT]; omega)
  refine ⟨_, rfl, ?_, ?_, ?_, ?_, fun h2 => ?_⟩
  · exact (congrArg AXL_CNT_VALUE.get hcnt).trans (fld_setCount (turn_lt s a))
  · exact (congrArg AXL_CNT_DIR.bit hcnt).trans (dirDown_setCount (n := s.turn a) (s := s))
  · rw [syncStretches_ax]
    refine (clock_fired (hbrake.clock a)).trans ?_
    rw [hpeak]
    split
    · exact updatePoint_fired.1
    · exact congrArg AxleSt.fired (mget_mset_self ..)
  · exact (hrd _ (by simp only [AXL_CARNUM]; omega)).trans (rd_wr_of_ne s _ (by simp only [AXL_CARNUM, AXL_CNT]; omega))
  · have hres := evReserved_axle ha (k := 1) (by decide)
    have hpoint := (AxleStep.refl (W := fun _ => False) (V := fun _ => False) (s := u.raise (evAxle a 1))).updatePoint
      (a := a) (len := s.halfTicks a)
    rw [syncStretches_evPending]
    refine hbrake.pending hres ?_
    rw [hpeak, if_pos h2]
    exact hpoint.pending id hres (raise_pending u hres (hua.trans hawake))

/-- Settles O33: a turning point sets the counter, and its update point touches neither the counter nor the carrier number. -/
theorem turningPoints : Obligations.TurningPoints := fun _ _ hc =>
  ⟨fun hd => valley_leaves hc hd, fun hm hd hl => peak_leaves hc hm hd hl⟩

end Sys2Proof.Proofs
end

section
/-! Compare edges, triggers and the Dray window (R95, R97, R101, R156). -/

namespace Sys2Proof.Proofs

open Sys2Proof Sys2Proof.Machine Sys2Proof.Safety Sys2Proof.Laws

/-! ### What composes a leg's commands leaves the raw commands alone -/

/-- Every raw command is as before. -/
def RawKept (s t : State) : Prop := ∀ p, (t.ps p).raw = (s.ps p).raw

-- The lemmas below find side conditions by an `autoParam`, for which an asynchronous proof would hold a thread.
set_option Elab.async false

section
variable {s₀ s t : State}

theorem RawKept.refl : RawKept s s := fun _ => rfl
theorem RawKept.upd (h : RawKept s₀ s) (hp : t.pos = s.pos) : RawKept s₀ t := fun p => by
  simp only [State.ps, hp]
  exact h p
theorem RawKept.ite {c : Prop} [Decidable c] (h : RawKept s₀ s) (h' : RawKept s₀ t) : RawKept s₀ (if c then s else t) := by
  split
  · exact h
  · exact h'
theorem RawKept.updPs {q : Nat} {f : PosSt → PosSt} (h : RawKept s₀ s) (hf : ∀ x, (f x).raw = x.raw := by intro _; rfl) :
    RawKept s₀ (s.updPs q f) := fun p => by
  refine Eq.trans ?_ (h p)
  simp only [State.ps, State.updPs, State.setPs, mget_mset]
  split
  · next he => rw [he, hf]
  · rfl
theorem RawKept.each {α : Type} {xs : List α} {f : α → State → State} (h : RawKept s₀ s)
    (hf : ∀ x u, RawKept s₀ u → RawKept s₀ (f x u)) : RawKept s₀ (each xs f s) := by
  unfold Machine.each
  induction xs generalizing s with
  | nil => exact h
  | cons x xs ih => exact ih (hf x s h)
theorem RawKept.wr {o : Nat} {w : Word} (h : RawKept s₀ s) : RawKept s₀ (s.wr o w) := h.upd rfl
theorem RawKept.raise {src : Nat} (h : RawKept s₀ s) : RawKept s₀ (s.raise src) := by
  obtain ⟨_, _, _, _, he⟩ := (raise_reports s src).events
  exact h.upd (by rw [he])
theorem RawKept.setGdo {p : Nat} {level : Bool} {n c : Nat} (h : RawKept s₀ s) : RawKept s₀ (setGdo p level n c s) :=
  ite h (h.upd rfl)
theorem RawKept.markFall {p : Nat} (h : RawKept s₀ s) : RawKept s₀ (markFall p s) := by
  unfold Machine.markFall
  extract_lets n dt
  exact h.updPs.updPs
theorem RawKept.fallPos {p : Nat} (h : RawKept s₀ s) : RawKept s₀ (fallPos p s) := by
  unfold Machine.fallPos
  extract_lets +onlyGivenNames s1 s2
  have h1 : RawKept s₀ s1 := h.markFall.each fun _ _ h => h.upd rfl
  have h2 : RawKept s₀ s2 := h1.each fun _ _ h => h.setGdo
  exact h2.wr
theorem RawKept.commandOff {p : Nat} (h : RawKept s₀ s) : RawKept s₀ (commandOff p s) := ite h.fallPos (ite h.wr h)
theorem RawKept.commandOn {p : Nat} (h : RawKept s₀ s) : RawKept s₀ (commandOn p s) := by
  unfold Machine.commandOn
  extract_lets +onlyGivenNames q s1
  have h1 : RawKept s₀ s1 := h.wr
  have h2 : RawKept s₀ ((s1.sq (LEG_STAT (p / 2)) LEG_STAT_CONFLICT).rc (LEG_CNT (p / 2)) LEG_CNT_CONF) := h1.wr.wr
  exact ite h2.raise h1
theorem RawKept.followOff {p : Nat} (h : RawKept s₀ s) : RawKept s₀ (followOff p s) := by
  have h1 : RawKept s₀ (s.updPs p (fun y => { y with acted := false })) := h.updPs
  exact ite (ite h1 h1.commandOff) h
theorem RawKept.followOn {p : Nat} (h : RawKept s₀ s) : RawKept s₀ (followOn p s) := by
  have h1 : RawKept s₀ (s.updPs p (fun y => { y with acted := true })) := h.updPs
  exact ite (ite h1 h1.commandOn) h
theorem RawKept.passEdge {p : Nat} {v : Bool} (h : RawKept s₀ s) : RawKept s₀ (passEdge p v s) := h.updPs

theorem RawKept.shapeEdge {p : Nat} {v : Bool} {phase : Option Nat} (h : RawKept s₀ s) :
    RawKept s₀ (shapeEdge p v phase s) := by
  unfold Machine.shapeEdge
  refine ite h.passEdge ?_
  extract_lets +onlyGivenNames l x n th stretchMode len c total isShort
  refine ite ?_ ?_
  · extract_lets +onlyGivenNames s1
    have h1 : RawKept s₀ s1 := h.wr.wr
    exact h1.updPs
  · extract_lets +onlyGivenNames keep s1 next
    have h1 : RawKept s₀ s1 := ite h.wr h
    refine ite (h1.updPs) ?_
    split
    extract_lets +onlyGivenNames lastE cut e' s2 s3
    have h2 : RawKept s₀ s2 := ite (.raise h1.wr) h1
    have h3 : RawKept s₀ s3 := ite (.raise h2.wr) h2
    exact ite (h3.updPs) (h3.updPs)
theorem RawKept.composePos {p : Nat} {phase : Option Nat} (h : RawKept s₀ s) : RawKept s₀ (composePos p phase s) := by
  unfold Machine.composePos
  extract_lets +onlyGivenNames v
  exact (RawKept.ite h h.shapeEdge).updPs
theorem RawKept.composeLeg {l : Nat} {ph pl : Option Nat} (h : RawKept s₀ s) : RawKept s₀ (composeLeg l ph pl s) :=
  h.composePos.composePos.followOff.followOff.followOn.followOn

/-- A raw command takes its new value. -/
theorem rawEdge_raw (p phase : Nat) (on : Bool) (s : State) : ((rawEdge p on phase s).ps p).raw = on := by
  have hset : ((s.updPs p (fun x => { x with raw := on })).ps p).raw = on := congrArg PosSt.raw (mget_mset_self ..)
  unfold rawEdge
  split
  · next h => exact h
  · split
    · exact (RawKept.refl.composeLeg p).trans hset
    · exact (RawKept.refl.composeLeg p).trans hset

end

/-! ### Compare edges -/

/-- An edge that is still to come has not fired. -/
theorem hasFired_of_nextEdge {s : State} {a k n : Nat} {d : Bool} (h : s.nextEdge a k = some (d, n)) :
    s.hasFired a k d = false := by
  unfold State.nextEdge at h
  extract_lets m u v uOk dOk at h
  have hu : uOk = true → s.hasFired a k false = false := fun h => by
    simp only [uOk, Bool.and_eq_true, Bool.not_eq_true'] at h
    exact h.1
  have hd : dOk = true → s.hasFired a k true = false := fun h => by
    simp only [dOk, Bool.and_eq_true, Bool.not_eq_true'] at h
    exact h.1
  split at h
  · split at h
    · next hc =>
      obtain ⟨rfl, -⟩ := by simpa using h
      exact hu (by simp_all)
    · split at h
      · next hc =>
        obtain ⟨rfl, -⟩ := by simpa using h
        exact hd hc
      · simp at h
  · split at h
    · split at h
      · next hc =>
        obtain ⟨rfl, -⟩ := by simpa using h
        simpa using (Bool.and_eq_true_iff.mp hc).1
      · simp at h
    · split at h
      · next hc =>
        obtain ⟨rfl, -⟩ := by simpa using h
        exact hu hc
      · simp at h

section
variable {s : State} {a k p t phase : Nat} {down : Bool}

theorem compareEdge_fires (hc : s.counts a = true) (hg : s.governs a k = some p) (hn : s.nextEdge a k = some (down, phase)) :
    ∃ v, compareEdge a k t s = fireEdge a k p down phase v ∧ (s.dirDown a = true → v.now = max s.now t) := by
  unfold compareEdge
  rw [if_neg (by simp [hc]), hg, hn]
  dsimp only
  refine ⟨_, rfl, fun hd => ?_⟩
  simp only [hd, Bool.not_true, Bool.false_and, Bool.false_eq_true, if_false, apply_ite State.now, updAx_now, ite_self]
  rfl

theorem hasFired_fireEdge : (fireEdge a k p down phase s).hasFired a k down = true := by
  have h : LowStep (s.updAx a (fun x => { x with fired := fireMark k down :: x.fired })) (fireEdge a k p down phase s) :=
    .rawEdge .refl
  have hax : (s.updAx a (fun x => { x with fired := fireMark k down :: x.fired })).ax a =
      { s.ax a with fired := fireMark k down :: (s.ax a).fired } := mget_mset_self ..
  have hf := clock_fired (h.clock a)
  rw [hax] at hf
  simp [State.hasFired, hf]

theorem now_fireEdge : (fireEdge a k p down phase s).now = s.now := (LowStep.rawEdge .refl).now

end

/-- The pending compare of a slot fires at its placement (R95, R97). -/
theorem compareEdge_leaves {s : State} {a : Fin 4} (hc : s.counts a = true) (k : Fin 16) (p t phase : Nat) (down : Bool)
    (hg : s.governs a k = some p) (hn : s.nextEdge a k = some (down, phase)) :
    ∃ u, exec (.compareEdge a k t) s = .next u ∧ (u.ps p).raw = !down ∧ u.hasFired a k down = true ∧
      (∀ n, u.nextEdge a k ≠ some (down, n)) ∧ (s.dirDown a = true → u.now = max s.now t) := by
  obtain ⟨v, hv, hnow⟩ := compareEdge_fires (t := t) hc hg hn
  have hfired : (syncStretches (fireEdge a k p down phase v)).hasFired a k down = true := by
    simp only [State.hasFired, syncStretches_ax]
    exact hasFired_fireEdge
  refine ⟨_, congrArg settled hv, ?_, hfired, fun n h => ?_, fun hd => ?_⟩
  · rw [syncStretches_ps]
    exact rawEdge_raw ..
  · rw [hasFired_of_nextEdge h] at hfired
    exact Bool.noConfusion hfired
  · rw [syncStretches_now, now_fireEdge, hnow hd]

/-! ### Triggers and the Dray window -/

/-- A due trigger fires once (R101). -/
theorem trigger_leaves {s : State} {a : Fin 4} (m : Fin 8) (hm : s.triggerDue a m = true) :
    ∃ u, exec (.trigger a (.trg m)) s = .next u ∧ u.evPending (evAxle a (2 + m.val)) = true ∧ u.triggerDue a m = false := by
  have hres := evReserved_axle a.isLt (k := 2 + m.val) (by omega)
  have hawake : s.awake = true := by
    simp only [State.triggerDue, State.counts, Bool.and_eq_true] at hm
    exact hm.1.1.1.1.1
  set v := s.updAx a (fun x => { x with trgFired := m.val :: x.trgFired }) with hv
  have hstep : LowStep (v.raise (evAxle a (2 + m))) (fireTrigger a m s) :=
    LowStep.refl.windowTrigger.sarAxleTrigger.angleLatches
  have hfired : ((fireTrigger a m s).ax a).trgFired = m.val :: (s.ax a).trgFired := by
    refine (clock_trgFired (hstep.clock a)).trans ((clock_trgFired ((LowStep.raise .refl).clock a)).trans ?_)
    exact congrArg AxleSt.trgFired (mget_mset_self ..)
  refine ⟨_, (if_pos hm).trans rfl, ?_, ?_⟩
  · rw [syncStretches_evPending]
    exact hstep.pending hres (raise_pending v hres hawake)
  · simp [State.triggerDue, hfired]

theorem ax_each {α : Type} {xs : List α} {f : α → State → State} (s : State) (a : Nat)
    (hf : ∀ x u, (f x u).axle = u.axle := by intro _ _; rfl) : (each xs f s).ax a = s.ax a := by
  have h : (each xs f s).axle = s.axle := by
    unfold each
    induction xs generalizing s with
    | nil => rfl
    | cons x xs ih => exact (ih _).trans (hf x s)
  simp only [State.ax, h]

theorem windowOpen_open (a : Nat) (s : State) : ((windowOpen a s).ax a).winOpen = true := by
  unfold windowOpen
  split
  · next h => exact h
  · extract_lets n s1 s2 s3
    have h1 : (s1.ax a).winOpen = true := congrArg AxleSt.winOpen (mget_mset_self ..)
    have h2 : s2.ax a = s1.ax a := ax_each s1 a
    have h3 : s3.ax a = s2.ax a := ax_each s2 a
    rw [syncStretches_ax, h3, h2, h1]

/-- The end of a probe keeps the state of the window. -/
theorem endProbe_window (a : Nat) (kept : Bool) (s : State) :
    ((endProbe a kept s).ax a).winOpen = (s.ax a).winOpen ∧ ((endProbe a kept s).ax a).pubDue = (s.ax a).pubDue := by
  unfold endProbe
  split
  · extract_lets due
    obtain ⟨b, hb⟩ := (GateStep.changeSources (L := false) (a := a) .refl).ax a
    rw [hb]
    constructor <;> (dsimp only; rw [ax_updAx_self])
  · exact ⟨rfl, rfl⟩

theorem windowClose_closed {a : Nat} {s : State} (h : (s.ax a).winOpen = true) :
    ((windowClose a s).ax a).winOpen = false ∧ ((windowClose a s).ax a).pubDue = true := by
  unfold windowClose
  rw [if_neg (by simp [h])]
  extract_lets s1 s2
  have h1 : s1.ax a = { s.ax a with winOpen := false, pubDue := true } :=
    (syncStretches_ax ..).trans (mget_mset_self ..)
  have h2 : s2.ax a = s1.ax a := ax_each s1 a
  have h3 : (each (s2.sensedLegs a) holdResult s2).ax a = s2.ax a := ax_each s2 a
  have hp := endProbe_window a true (each (s2.sensedLegs a) holdResult s2)
  rw [h3, h2, h1] at hp
  exact hp

/-- Settles O34: what fires is marked as fired, and the windows of Dray service open and close. -/
theorem edgesAndTriggers : Obligations.EdgesAndTriggers := by
  intro s a hc
  refine ⟨compareEdge_leaves hc, fun m hm => trigger_leaves m hm, fun hs hw hg => ?_⟩
  have hrun : s.running a = true := by
    simp only [State.counts, Bool.and_eq_true] at hc
    exact hc.1.2
  have hdray : ∀ opens : Bool, drayWindow a opens s = if opens then windowOpen a s else windowClose a s := fun opens => by
    simp only [drayWindow, hs, hw, hg, hrun, decide_true, Bool.not_false, Bool.and_self, if_true]
  have hexec : ∀ (opens : Bool) (u : State), drayWindow a opens s = u →
      exec (.trigger a (if opens then .drayOpen else .drayClose)) s = .next (syncStretches u) := fun opens u hu => by
    cases opens <;> (simp only [exec, execTrigger, hc, if_true]; exact congrArg settled hu)
  refine ⟨⟨_, hexec true _ (hdray true), ?_⟩, fun ho => ⟨_, hexec false _ (hdray false), ?_, ?_⟩⟩
  · rw [syncStretches_ax]
    exact windowOpen_open a s
  · rw [syncStretches_ax]
    exact (windowClose_closed ho).1
  · rw [syncStretches_ax]
    exact (windowClose_closed ho).2

end Sys2Proof.Proofs
end

section
/-! Accepted register writes (R27, R32 to R37): the word that is left and what the write starts. -/

namespace Sys2Proof.Proofs

open Sys2Proof Sys2Proof.Machine Sys2Proof.Safety Sys2Proof.Laws

/-! ### Fields of a folded word -/

/-- A word with one field after the other replaced. -/
def putFields (val : FieldCard → Nat) (w : Word) (fs : List FieldCard) : Word := fs.foldl (fun w f => f.fld.put w (val f)) w

/-- A field apart from all that are replaced keeps its value. -/
theorem putFields_apart {val : FieldCard → Nat} {g : Fld} {fs : List FieldCard} (h : ∀ f ∈ fs, apart f.fld g) (w : Word) :
    g.get (putFields val w fs) = g.get w := by
  unfold putFields
  induction fs generalizing w with
  | nil => rfl
  | cons f fs ih =>
    exact (ih (fun x hx => h x (List.mem_cons_of_mem _ hx)) _).trans (get_put_apart f.fld g w _ (h f List.mem_cons_self))

/-- A field that is replaced takes its value. -/
theorem putFields_self {val : FieldCard → Nat} {fs : List FieldCard} (ha : fs.Pairwise (fun f g => apart g.fld f.fld))
    {f : FieldCard} (hf : f ∈ fs) (hl : f.fld.lo + f.fld.len ≤ 32) (w : Word) :
    f.fld.get (putFields val w fs) = val f % 2 ^ f.fld.len := by
  induction fs generalizing w with
  | nil => cases hf
  | cons g fs ih =>
    obtain ⟨hg, ha⟩ := List.pairwise_cons.mp ha
    rcases List.mem_cons.mp hf with rfl | hm
    · exact (putFields_apart hg _).trans (get_put_self f.fld w _ hl)
    · exact ih ha hm _

theorem get_lt (f : Fld) (w : Word) : f.get w < 2 ^ f.len := Nat.mod_lt _ (Nat.two_pow_pos _)

/-- A flag is the low bit of its field. -/
theorem bit_eq_testBit (f : Fld) (h : 0 < f.len) (w : Word) : f.bit w = (f.get w).testBit 0 := by
  rw [get_testBit]
  simp [Fld.bit, h]

theorem bit_congr {f : Fld} {w w' : Word} (h : 0 < f.len) (hg : f.get w = f.get w') : f.bit w = f.bit w' := by
  rw [bit_eq_testBit f h, bit_eq_testBit f h, hg]

/-! ### A register on the first page -/

/-- The card of a register that stands on the first page of its block, that a write reaches without a detour, and whose
fields are disjoint. -/
def isRegister (o : Nat) (c : Card) (ix : List Nat) : Bool :=
  decide (regAt o = some (c, ix)) && decide (foldOff o = some o) && decide (o ≠ LIX_DATA) &&
    !(decide (0x80000 ≤ o) && decide (o < 0xC0000) && decide (0x80 ≤ o % 0x10000)) &&
    !(decide (0x170100 ≤ o) && decide (o < 0x170380)) &&
    decide (c.fields.Pairwise (fun f g => g.fld.lo + g.fld.len ≤ f.fld.lo ∨ f.fld.lo + f.fld.len ≤ g.fld.lo)) && c.fields.all (fun f => decide (f.fld.lo + f.fld.len ≤ 32)) &&
    !c.fields.all (fun f => f.ty = .ro || f.ty = .rz)

/-- No field of the card clears by a sequence, here or by a rule of its own. -/
def noSequence (o : Nat) (c : Card) : Bool :=
  c.fields.all (fun f => decide (f.ty ≠ .sq)) && !(decide (0x170380 ≤ o) && decide (o < 0x1703C0)) &&
    !(decide (0x180000 ≤ o) && decide (o < 0x180100) && decide (o % 0x40 = 8))

section
variable {o : Nat} {c : Card} {ix : List Nat} {v : View} {data : Word} {s : State}

theorem isRegister_iff : isRegister o c ix = true ↔ regAt o = some (c, ix) ∧ foldOff o = some o ∧ o ≠ LIX_DATA ∧
    ¬(0x80000 ≤ o ∧ o < 0xC0000 ∧ 0x80 ≤ o % 0x10000) ∧ ¬(0x170100 ≤ o ∧ o < 0x170380) ∧
    c.fields.Pairwise (fun f g => apart g.fld f.fld) ∧ (∀ f ∈ c.fields, f.fld.lo + f.fld.len ≤ 32) ∧
    c.fields.all (fun f => f.ty = .ro || f.ty = .rz) = false := by
  simp only [isRegister, Bool.and_eq_true, decide_eq_true_eq, Bool.not_eq_true', List.all_eq_true, Bool.and_eq_false_iff,
    decide_eq_false_iff_not, and_assoc, not_and_or, or_assoc, apart]

/-- A write that is accepted reaches every field (R27). -/
theorem openFields_of_accepted (hr : regAt o = some (c, ix)) (ha : accepted v o data s = true) : openFields v c = c.fields := by
  simp only [accepted, hr, Bool.and_eq_true, Bool.not_eq_true'] at ha
  obtain ⟨⟨⟨_, hp⟩, _⟩, _⟩ := ha
  unfold openFields
  split
  · rename_i hv
    have hc : coachAny c = false := by simpa [hv] using hp
    obtain ⟨hc1, hc2⟩ := Bool.or_eq_false_iff.mp hc
    rw [hc1, if_neg Bool.false_ne_true, List.filter_eq_self]
    intro f hf
    simpa using List.any_eq_false.mp hc2 f hf
  · rfl

theorem awake_of_accepted (ha : accepted v o data s = true) : s.awake = true := by
  unfold accepted at ha
  split at ha
  · cases ha
  · simp only [Bool.and_eq_true] at ha
    exact ha.1.1.1

/-- The word that an accepted write leaves (R32). -/
theorem writtenWord_eq (h : isRegister o c ix = true) (ha : accepted v o data s = true) : writtenWord v o data s =
    putFields (fun f => f.fld.get (swField noUpdate data (s.rd o) f)) (s.rd o) c.fields := by
  obtain ⟨hr, _, _, _, hd, _⟩ := isRegister_iff.mp h
  rw [writtenWord, hr]
  simp only [openFields_of_accepted hr ha, dataAt, if_neg hd]
  rfl

theorem writtenWord_get (h : isRegister o c ix = true) (ha : accepted v o data s = true) {f : FieldCard} (hf : f ∈ c.fields) :
    f.fld.get (writtenWord v o data s) = f.fld.get (swField noUpdate data (s.rd o) f) := by
  obtain ⟨_, _, _, _, _, hp, hl, _⟩ := isRegister_iff.mp h
  rw [writtenWord_eq h ha, putFields_self hp hf (hl f hf)]
  exact Nat.mod_eq_of_lt (get_lt ..)

theorem rcPlus_none (f : FieldCard) {n : Nat} (hn : n < 2 ^ f.fld.len) : rcPlus noUpdate f n = n := by
  have hk : f.fld.get (0 : Word) = 0 := by simp [Fld.get]
  simp only [rcPlus, noUpdate, hk, Nat.add_zero]
  split
  · rfl
  · omega

/-- A field that software writes takes the data (R32, R33). -/
theorem writtenWord_data (h : isRegister o c ix = true) (ha : accepted v o data s = true) {f : FieldCard} (hf : f ∈ c.fields)
    (hy : f.ty ≠ .ro ∧ f.ty ≠ .rz ∧ f.ty ≠ .sq ∧ f.ty ≠ .ck) : f.fld.get (writtenWord v o data s) = f.fld.get data := by
  obtain ⟨_, _, _, _, _, _, hl, _⟩ := isRegister_iff.mp h
  have hput : ∀ w n, f.fld.get (f.fld.put w n) = n % 2 ^ f.fld.len := fun w n => get_put_self f.fld w n (hl f hf)
  have hmod : f.fld.get data % 2 ^ f.fld.len = f.fld.get data := Nat.mod_eq_of_lt (get_lt ..)
  have h0 : coHits noUpdate f = false := by simp [coHits, noUpdate]
  rw [writtenWord_get h ha hf]
  unfold swField
  cases hty : f.ty with
  | rw => exact (hput ..).trans hmod
  | rh => simp only [h0, Bool.false_eq_true, if_false, hput, hmod]
  | rc | rcw => simp only [rcPlus_none f (get_lt ..), hput, hmod]
  | ro | rz | sq | ck => simp [hty] at hy

/-- A field that only hardware writes keeps its value (R32, R35). -/
theorem writtenWord_keeps (h : isRegister o c ix = true) (ha : accepted v o data s = true) {f : FieldCard} (hf : f ∈ c.fields)
    (hy : f.ty = .ro ∨ f.ty = .rz ∨ f.ty = .sq) : f.fld.get (writtenWord v o data s) = f.fld.get (s.rd o) := by
  rw [writtenWord_get h ha hf]
  unfold swField
  rcases hy with hy | hy | hy <;> rw [hy]

/-! ### The write -/

/-- Nothing meets the write: no hardware update and no increment. -/
def Unmet (co : CoUpdate) : Prop := co.rhMask = 0 ∧ co.rcInc = 0

theorem Unmet.noUpdate : Unmet noUpdate := ⟨rfl, rfl⟩

theorem coHits_unmet {co : CoUpdate} (h : Unmet co) (f : FieldCard) : coHits co f = false := by
  simp [coHits, h.1]

theorem rcPlus_unmet {co : CoUpdate} (h : Unmet co) : rcPlus co = rcPlus Machine.noUpdate := by
  funext f n
  simp only [rcPlus, h.2, Machine.noUpdate]

theorem swField_unmet {co : CoUpdate} (h : Unmet co) : swField co = swField Machine.noUpdate := by
  funext data w f
  unfold swField
  simp only [rcPlus_unmet h, coHits_unmet h, coHits_unmet Unmet.noUpdate, Bool.false_eq_true, if_false]

theorem hwField_unmet {co : CoUpdate} (h : Unmet co) : hwField co = hwField Machine.noUpdate := by
  funext w f
  unfold hwField
  simp only [rcPlus_unmet h, coHits_unmet h, coHits_unmet Unmet.noUpdate, Bool.false_eq_true, if_false]

/-- The sequence rule leaves a register without such flags alone. -/
theorem sqClear_none (hq : noSequence o c = true) (d w : Word) (t : State) :
    sqClear o ix (c.fields.foldl (fun m f => if f.ty = .sq then m ||| f.fld.mask else m) 0) d w t = t := by
  simp only [noSequence, Bool.and_eq_true, List.all_eq_true, decide_eq_true_eq, Bool.not_eq_true', Bool.and_eq_false_iff,
    decide_eq_false_iff_not] at hq
  obtain ⟨⟨hall, h1⟩, h2⟩ := hq
  have hz : c.fields.foldl (fun m f => if f.ty = .sq then m ||| f.fld.mask else m) (0 : Word) = 0 := by
    refine List.foldlRecOn c.fields _ (motive := (· = 0)) rfl fun m hm f hf => ?_
    rw [if_neg (hall f hf)]
    exact hm
  unfold sqClear
  rw [if_neg (by omega), if_neg (by omega), if_pos (.inl hz)]

/-- An accepted write that nothing meets: the fields are written, the flags that a matching sequence clears are cleared, and
then comes what the register starts. -/
theorem writeFields_written {co : CoUpdate} {n : Nat} (h : isRegister o c ix = true) (hu : Unmet co)
    (ha : accepted v o data s = true) : writeFields v o o c ix data co n s =
      wrote o (s.rd o) (writtenWord v o data s) n co s
        (sqClear o ix (c.fields.foldl (fun m f => if f.ty = .sq then m ||| f.fld.mask else m) 0) data
          (writtenWord v o data s) (s.wr o (writtenWord v o data s))) := by
  obtain ⟨hr, _, _, _, hd, _, _, hw⟩ := isRegister_iff.mp h
  have hopen := openFields_of_accepted hr ha
  have hnew := writtenWord_eq h ha
  have hdata : dataAt o data = data := if_neg hd
  simp only [accepted, hr, hopen, hdata, Bool.and_eq_true, Bool.not_eq_true', List.all_eq_true] at ha
  obtain ⟨⟨⟨_, hp⟩, hch⟩, hb⟩ := ha
  have hpriv : notePriv v o c s = s := if_neg (by simpa using hp)
  have hshut : ∀ f ∈ c.fields, (s.chocks o ix (s.rd o) (c.fields.foldl (swField noUpdate data) (s.rd o)) f &&
      decide (f.fld.get (swField noUpdate data (s.rd o) f) ≠ f.fld.get (s.rd o))) = false := fun f hf => by simp [hch f hf]
  have hany := List.any_eq_false.mpr fun f hf => Bool.not_eq_true _ ▸ hshut f hf
  have hok := List.filter_eq_self.mpr fun f hf => congrArg not (hshut f hf)
  have hlost : c.fields.any (coLost co) = false := List.any_eq_false.mpr fun f _ => by simp [coLost, coHits_unmet hu]
  unfold writeFields
  simp only [hpriv, hopen, hdata, swField_unmet hu, hwField_unmet hu, hwFields_none, hok, hany, hlost, hw, Bool.false_and,
    Bool.or_self, Bool.false_eq_true, if_false]
  rw [hnew] at hb ⊢
  unfold putFields at hb ⊢
  rw [hb]
  rfl

/-- A scheduled change of the period never meets a write of this register (R107). -/
def unscheduled (o : Nat) : Bool := !(decide (0x80000 ≤ o) && decide (o < 0xC0000) && decide (o % 0x10000 = 0x04))

theorem meets_unscheduled (ho : unscheduled o = true) (n : Nat) (co : CoUpdate) : s.meets o n co = co := by
  refine if_neg ?_
  rintro ⟨h1, h2, h3⟩
  simp [unscheduled, h1, h2, h3] at ho

theorem writeReg_fields (h : isRegister o c ix = true) {co : CoUpdate} {n : Option Nat} : writeReg v o data co n s =
    writeFields v o o c ix data (s.meets o (n.getD (s.countNow (ix.headD 0))) co) (n.getD (s.countNow (ix.headD 0))) s := by
  obtain ⟨hr, hf, hl, hc, _⟩ := isRegister_iff.mp h
  unfold writeReg
  simp only [hf, hr]
  rw [if_neg fun h' => hl h'.1, if_neg hc]

/-- A register of the first page without sequence clears, whose writes no scheduled change meets. -/
def plainRegister (o : Nat) (c : Card) (ix : List Nat) : Bool := isRegister o c ix && noSequence o c && unscheduled o

theorem plainRegister_register (h : plainRegister o c ix = true) : isRegister o c ix = true := by
  simp only [plainRegister, Bool.and_eq_true] at h
  exact h.1.1

/-- An accepted write of such a register leaves its word and starts what it starts. -/
theorem writeReg_written (h : plainRegister o c ix = true)
    {co : CoUpdate} {n : Option Nat} (hu : Unmet co) (ha : accepted v o data s = true) : writeReg v o data co n s =
      wrote o (s.rd o) (writtenWord v o data s) (n.getD (s.countNow (ix.headD 0))) co s (s.wr o (writtenWord v o data s)) := by
  simp only [plainRegister, Bool.and_eq_true] at h
  obtain ⟨⟨hr, hq⟩, ho⟩ := h
  rw [writeReg_fields hr, meets_unscheduled ho, writeFields_written hr hu ha, sqClear_none hq]

theorem at_zero : s.at 0 = s := by
  unfold State.at
  rw [Nat.max_zero]

/-- A command that is a write, in the awake fast domain. -/
theorem writeCmd_awake (hs : s.awake = true) {n : Option Nat} :
    writeCmd v o data noUpdate n s = settled (writeReg v o data noUpdate n s) := by
  unfold writeCmd
  rw [if_pos hs]
  exact congrArg (fun t => settled (writeReg v o data noUpdate n t)) at_zero

theorem writeCmd_written (h : plainRegister o c ix = true) {n : Option Nat} (ha : accepted v o data s = true) :
    writeCmd v o data noUpdate n s =
      .next (syncStretches (wrote o (s.rd o) (writtenWord v o data s) (n.getD (s.countNow (ix.headD 0))) noUpdate s
        (s.wr o (writtenWord v o data s)))) := by
  rw [writeCmd_awake (awake_of_accepted ha), writeReg_written h .noUpdate ha]
  rfl

/-- A field of a word with that field replaced. -/
theorem get_withField (s : State) (o : Nat) (f : Fld) (n : Nat) (h : f.lo + f.len ≤ 32) :
    f.get (withField s o f n) = n % 2 ^ f.len := get_put_self f _ _ h

theorem get_withField_apart (s : State) (o : Nat) {f g : Fld} (n : Nat) (h : apart f g) :
    g.get (withField s o f n) = g.get (s.rd o) := get_put_apart f g _ _ h

/-- What a command leaves that writes one field (before the stretches are settled). -/
def fieldWritten (v : View) (o : Nat) (ix : List Nat) (f : Fld) (n : Nat) (s : State) : State :=
  let w := writtenWord v o (withField s o f n) s
  wrote o (s.rd o) w (s.countNow (ix.headD 0)) noUpdate s (s.wr o w)

theorem fieldCmd_written (h : plainRegister o c ix = true) {f : Fld} {n : Nat} (ha : accepted v o (withField s o f n) s = true) :
    fieldCmd v o f n s = .next (syncStretches (fieldWritten v o ix f n s)) := writeCmd_written h ha

/-- What a command leaves that writes a word (before the stretches are settled). -/
def wordWritten (v : View) (o : Nat) (ix : List Nat) (data : Word) (s : State) : State :=
  let w := writtenWord v o data s
  wrote o (s.rd o) w (s.countNow (ix.headD 0)) noUpdate s (s.wr o w)

theorem wordCmd_written (h : plainRegister o c ix = true) (ha : accepted v o data s = true) :
    wordCmd v o data s = .next (syncStretches (wordWritten v o ix data s)) := writeCmd_written h ha

end

end Sys2Proof.Proofs
end

section
/-! What a step leaves of chosen registers, and of a chosen part of the state. -/

namespace Sys2Proof.Proofs

open Sys2Proof Sys2Proof.Machine Sys2Proof.Safety Sys2Proof.Laws

/-- The registers of `P` are as they were. -/
def Untouched (P : Nat → Prop) (s t : State) : Prop := ∀ o, P o → t.rd o = s.rd o

section
variable {P : Nat → Prop} {s₀ s t u : State}

theorem Untouched.refl : Untouched P s s := fun _ _ => rfl
theorem Untouched.trans (h : Untouched P s t) (h' : Untouched P t u) : Untouched P s u := fun o ho => (h' o ho).trans (h o ho)
theorem Untouched.ite {c : Prop} [Decidable c] (h : Untouched P s₀ s) (h' : Untouched P s₀ t) :
    Untouched P s₀ (if c then s else t) := by
  split
  · exact h
  · exact h'
/-- A step that writes no register. -/
theorem Untouched.upd (h : Untouched P s₀ s) (hr : t.regs = s.regs := by rfl) : Untouched P s₀ t :=
  h.trans fun o _ => congrArg (fun r => mget regDefault r o) hr
theorem Untouched.wr {off : Nat} {w : Word} (h : Untouched P s₀ s) (hp : ¬P off) : Untouched P s₀ (s.wr off w) :=
  h.trans fun _ ho => rd_wr_of_ne s w fun he => hp (he ▸ ho)
theorem Untouched.setFld {off : Nat} {f : Fld} {n : Nat} (h : Untouched P s₀ s) (hp : ¬P off) :
    Untouched P s₀ (s.setFld off f n) := h.wr hp
theorem Untouched.setFlag {off : Nat} {f : Fld} {b : Bool} (h : Untouched P s₀ s) (hp : ¬P off) :
    Untouched P s₀ (s.setFlag off f b) := h.wr hp
theorem Untouched.sq {off : Nat} {f : Fld} (h : Untouched P s₀ s) (hp : ¬P off) : Untouched P s₀ (s.sq off f) := h.wr hp
theorem Untouched.rc {off : Nat} {f : Fld} {k : Nat} (h : Untouched P s₀ s) (hp : ¬P off) :
    Untouched P s₀ (s.rc off f k) := h.wr hp
theorem Untouched.each {α : Type} {xs : List α} {f : α → State → State} (h : Untouched P s₀ s)
    (hf : ∀ x ∈ xs, ∀ u, Untouched P u (f x u)) : Untouched P s₀ (each xs f s) :=
  List.foldlRecOn xs _ h fun _ hu _ hx => hu.trans (hf _ hx _)
theorem Untouched.reports (h : Untouched P s₀ s) (h' : Reports s t) (hp : ∀ o, P o → eventRegister o = false) :
    Untouched P s₀ t := h.trans fun o ho => h'.rd o (hp o ho)
theorem Untouched.raise {src : Nat} (h : Untouched P s₀ s) (hp : ∀ o, P o → eventRegister o = false) :
    Untouched P s₀ (s.raise src) := h.reports (raise_reports ..) hp
theorem Untouched.gate {L : Bool} (h : Untouched P s₀ s) (h' : GateStep L s t) (hp : ∀ o, P o → ¬gateRegister L o) :
    Untouched P s₀ t := h.trans fun o ho => h'.rd o (hp o ho)
theorem Untouched.low (h : Untouched P s₀ s) (h' : LowStep s t) (hp : ∀ o, P o → Low o ∧ reportRegister o = false) :
    Untouched P s₀ t := h.trans fun o ho => h'.rd o (hp o ho).1 (hp o ho).2
theorem Untouched.brake (h : Untouched P s₀ s) (h' : BrakeStep s t)
    (hp : ∀ o, P o → ¬brakeRegister o ∧ eventRegister o = false) : Untouched P s₀ t :=
  h.trans fun o ho => h'.rd o (hp o ho).1 (hp o ho).2
theorem Untouched.fld (h : Untouched P s t) {o : Nat} (ho : P o) (f : Fld) : t.fld o f = s.fld o f := congrArg f.get (h o ho)
theorem Untouched.flag (h : Untouched P s t) {o : Nat} (ho : P o) (f : Fld) : t.flag o f = s.flag o f := congrArg f.bit (h o ho)

end

/-- A part of the state is as it was. -/
def Same {α : Type} (f : State → α) (s t : State) : Prop := f t = f s

section
variable {α : Type} {f : State → α} {s₀ s t u : State}

theorem Same.refl : Same f s s := rfl
theorem Same.trans (h : Same f s t) (h' : Same f t u) : Same f s u := Eq.trans h' h
theorem Same.ite {c : Prop} [Decidable c] (h : Same f s₀ s) (h' : Same f s₀ t) : Same f s₀ (if c then s else t) := by
  split
  · exact h
  · exact h'
theorem Same.each {β : Type} {xs : List β} {g : β → State → State} (h : Same f s₀ s) (hg : ∀ x ∈ xs, ∀ u, Same f u (g x u)) :
    Same f s₀ (each xs g s) := List.foldlRecOn xs _ h fun _ hu _ hx => hu.trans (hg _ hx _)

end

/-! ### The registers of the fallback -/

section
variable {P : Nat → Prop} {s₀ s : State}

/-- Registers that no operation of the gate block and no report writes. -/
structure OffGate (P : Nat → Prop) : Prop where
  gate : ∀ o, P o → ¬gateRegister false o
  report : ∀ o, P o → reportRegister o = false

/-- Every register above the legs is one, but that of the groups. -/
theorem offGate_above (h : ∀ o, P o → 0x110C00 ≤ o ∧ o < 0x1D0000 ∧ o ≠ PROT_GSTAT) : OffGate P where
  gate o ho := by
    obtain ⟨h1, h2, h3⟩ := h o ho
    have he := eventRegister_apart (o := o) (by omega) h2
    simp only [gateRegister, he, isChannelStatus, isPositionStatus, isPositionCount, isLegStatus, isLegCount, isTrip, h3,
      Bool.false_eq_true, false_and, false_or, or_false]
    omega
  report o ho := reportRegister_apart (by have := h o ho; omega) (h o ho).2.1

theorem OffGate.event (hq : OffGate P) : ∀ o, P o → eventRegister o = false :=
  fun o ho => eventRegister_of_reportRegister (hq.report o ho)

theorem Untouched.addCause {c : SafeCause} {l : Nat} (h : Untouched P s₀ s) : Untouched P s₀ (addCause c l s) := by
  unfold Machine.addCause
  exact h.upd
theorem Untouched.safeFor {c : SafeCause} {ls : List Nat} (h : Untouched P s₀ s) (hq : OffGate P) :
    Untouched P s₀ (safeFor c ls s) :=
  (h.each fun _ _ _ => .addCause .refl).gate (GateStep.refl (L := false)).settleSafe hq.gate

theorem Untouched.clearCarries {l : Nat} (h : Untouched P s₀ s) (hq : OffGate P) (hl : l < 32) :
    Untouched P s₀ (clearCarries l s) :=
  h.gate ((GateStep.refl (L := false)).setCarry hl |>.setCarry hl) hq.gate
theorem Untouched.changeSources {a : Nat} (h : Untouched P s₀ s) (hq : OffGate P) : Untouched P s₀ (changeSources a s) :=
  h.gate (GateStep.refl (L := false)).changeSources hq.gate
theorem Untouched.setVector {k v : Nat} (h : Untouched P s₀ s) (hq : OffGate P) (hk : ¬P (HYS_SSTAT k)) :
    Untouched P s₀ (setVector k v s) := by
  refine ite h ?_
  have h1 : Untouched P s₀ ((s.setFld (HYS_SSTAT k) HYS_SSTAT_VEC v).updHy k (fun x => { x with dwell := 0 })) :=
    (h.setFld hk).upd
  refine h1.each fun l hl u => Untouched.refl.gate ((GateStep.refl (L := false)).recompose ?_) hq.gate
  exact List.mem_range.mp (List.mem_of_mem_filter hl)
theorem Untouched.noteEcc {unc : Bool} {o : Nat} (h : Untouched P s₀ s) (hq : OffGate P) : Untouched P s₀ (noteEcc unc o s) := by
  have hn : ∀ r, reportRegister r = true → ¬P r := fun r hr hp => by rw [hq.report r hp] at hr; exact Bool.noConfusion hr
  unfold Machine.noteEcc
  extract_lets +onlyGivenNames st s1
  have h1 : Untouched P s₀ s1 := ite (h.wr (hn _ (by decide))) h
  have h2 : ∀ f g : Fld, Untouched P s₀ ((s1.rc MEM_ECCCNT f).sq MEM_STAT g) :=
    fun _ _ => (h1.rc (hn _ (by decide))).sq (hn _ (by decide))
  exact ite ((h2 _ _).raise hq.event) ((h2 _ _).raise hq.event)
theorem Untouched.regulate {k : Nat} (h : Untouched P s₀ s) (hq : OffGate P) (hk : ¬P (HYS_SSTAT k)) :
    Untouched P s₀ (regulate k s) := by
  have hpsi : Untouched P s₀ (psiRef (s.setAxle k) .clean s).1 := by
    have hown : ∀ {c : Prop} [Decidable c] {u v : State} {m n : Int}, Untouched P s₀ u → Untouched P s₀ v →
        Untouched P s₀ (if c then (u, m) else (v, n)).1 := by
      intro c _ u v m n hu hv
      split
      · exact hu
      · exact hv
    unfold psiRef
    extract_lets own addr v
    split
    · exact hown (h.noteEcc hq) (ite (h.noteEcc hq) h)
    · exact h
  have hcompare : Untouched P s₀ (compareSet k .clean s).1 := by
    unfold compareSet
    dsimp only
    exact hpsi.upd
  exact hcompare.setVector hq hk

end

/-! ### An entry into the fallback (R186, R189) -/

section
variable {s t : State} {a : Nat}

theorem findSome?_congr {α β : Type} {f g : α → Option β} {xs : List α} (h : ∀ x ∈ xs, f x = g x) :
    xs.findSome? f = xs.findSome? g := by
  induction xs with
  | nil => rfl
  | cons x xs ih => rw [List.findSome?_cons, List.findSome?_cons, h x List.mem_cons_self,
      ih fun y hy => h y (List.mem_cons_of_mem _ hy)]

/-- A leg belongs to a set as before where the sets are as before. -/
theorem setOfLeg_congr (hr : ∀ k < 8, t.rd (HYS_SET k) = s.rd (HYS_SET k)) (l : Nat) : t.setOfLeg l = s.setOfLeg l :=
  findSome?_congr fun k hk => by
    simp only [State.flag, State.setLegs, State.fld, hr k (List.mem_range.mp hk)]
    rfl

/-- A field apart from a flag and from the sequence number keeps its value when the flag is set. -/
theorem fld_sq_other (s : State) (o : Nat) {f g : Fld} (h : apart f g) (hg : g.lo + g.len ≤ 24) :
    (s.sq o f).fld o g = s.fld o g := by
  refine (congrArg g.get (rd_wr_self ..)).trans ((get_put_apart seqFld g _ _ (.inr hg)).trans ?_)
  refine Nat.eq_of_testBit_eq fun i => ?_
  simp only [State.fld, get_testBit, BitVec.getLsbD_or, mask_getLsbD]
  by_cases hi : i < g.len
  · have hout : (decide (f.lo ≤ g.lo + i) && decide (g.lo + i < f.lo + f.len)) = false := by
      simp only [Bool.and_eq_false_iff, decide_eq_false_iff_not]
      rcases h with h | h <;> omega
    simp only [hi, decide_true, Bool.true_and, hout, Bool.false_and, Bool.or_false]
  · simp only [hi, decide_false, Bool.false_and]

theorem hasFallback_congr (hk : t.kept = s.kept) (hl : ∀ l < 24, t.rd (LEG_CFG l) = s.rd (LEG_CFG l))
    (hr : ∀ k < 8, t.rd (HYS_SET k) = s.rd (HYS_SET k)) : t.hasFallback a = s.hasFallback a := by
  have hlegs : t.phaseLegs a = s.phaseLegs a :=
    List.filter_congr fun l hm => by rw [legAxle_congr hk (hl l (List.mem_range.mp hm))]
  simp only [State.hasFallback, hlegs, setOfLeg_congr hr]

/-- The mode that an entry into the fallback leaves. -/
theorem enterFallback_mode {c : Nat} (ha : a < 4) (h : s.hysMode a = 0) :
    (enterFallback a c s).hysMode a = if s.hasFallback a then 1 else 2 := by
  have hq : OffGate (· = HYS_STAT a) := offGate_above (by simp only [HYS_STAT, PROT_GSTAT]; omega)
  have hnote : ∀ m, m < 4 → (noteEntry a c m s).hysMode a = m := by
    intro m hm
    have hraise : Untouched (· = HYS_STAT a) _ (noteEntry a c m s) := .raise .refl hq.event
    refine (hraise.fld rfl _).trans ((fld_sq_other _ _ (.inr (by decide)) (by decide)).trans ?_)
    exact (fld_setFld_self _ _ _ _ (by decide)).trans (Nat.mod_eq_of_lt (by simp only [HYS_STAT_MODE]; omega))
  unfold enterFallback
  rw [if_neg (by simp [State.underFallback, h])]
  split
  · extract_lets +onlyGivenNames t0 s1 s2
    have h1 : Untouched (· = HYS_STAT a) (noteEntry a c 1 s) s1 := .upd .refl
    have h2 : Untouched (· = HYS_STAT a) (noteEntry a c 1 s) s2 :=
      h1.each fun l hm u => .clearCarries .refl hq (lt_of_mem_legsOf hm)
    have h3 : Untouched (· = HYS_STAT a) (noteEntry a c 1 s) (changeSources a (each (s2.setsOf a) regulate s2)) :=
      (h2.each fun k hm u => .regulate .refl hq (by simp only [HYS_SSTAT, HYS_STAT]; omega)).changeSources hq
    exact (h3.fld rfl _).trans (hnote 1 (by decide))
  · extract_lets +onlyGivenNames s1
    have h1 : Untouched (· = HYS_STAT a) (noteEntry a c 2 s) s1 := .upd .refl
    have h3 := ((h1.each (xs := s1.legsOf a) fun l hm u => .clearCarries .refl hq (lt_of_mem_legsOf hm)).safeFor
      (c := .hysHeld true) (ls := s1.legsOf a) hq).changeSources (a := a) hq
    exact (h3.fld rfl _).trans (hnote 2 (by decide))

end

end Sys2Proof.Proofs
end

section
/-! Starts and stops of an Axle, and writes against its running counter (R97 to R108). -/

namespace Sys2Proof.Proofs

open Sys2Proof Sys2Proof.Machine Sys2Proof.Safety Sys2Proof.Laws
-- The lemmas below find side conditions by an `autoParam`, for which an asynchronous proof would hold a thread.
set_option Elab.async false

variable {s t : State} {a : Nat}

/-! ### RUN (R103, R108) -/

/-- The card of AXL_CTRL. -/
def cardCtrl : Card := ⟨0x80000, [(0x10000, 4)], true, 4, [⟨AXL_CTRL_DBGFRZ, .rw, false, false, .axle⟩,
  ⟨AXL_CTRL_MODE, .rw, false, false, .axle⟩, ⟨AXL_CTRL_RUN, .rh, false, false, .none⟩]⟩

theorem register_ctrl (a : Fin 4) : plainRegister (AXL_CTRL a) cardCtrl [a.val] = true := by
  revert a; decide +kernel

/-- What a write of AXL_CTRL starts. -/
theorem wrote_ctrl (a : Fin 4) (old new : Word) (n : Nat) (co : CoUpdate) (before s : State) :
    wrote (AXL_CTRL a) old new n co before s =
      freezeWritten a n (rose AXL_CTRL_DBGFRZ old new) (fell AXL_CTRL_DBGFRZ old new) (runWritten a s) := by
  revert a
  intro a
  match a with
  | 0 | 1 | 2 | 3 => rfl

theorem flag_setCount {o n : Nat} {f : Fld} {down : Bool} (h : o ≠ AXL_CNT a) : (setCount a n down s).flag o f = s.flag o f :=
  congrArg f.bit (rd_wr_of_ne s _ h)

theorem ax_setAx_self (s : State) (a : Nat) (x : AxleSt) : (s.setAx a x).ax a = x := mget_mset_self ..

/-- A rise or fall of DBGFRZ touches the counter's registers and instants only. -/
theorem freezeWritten_keeps (n : Nat) (r f : Bool) : (∀ o, o ≠ AXL_CNT a → (freezeWritten a n r f s).rd o = s.rd o) ∧
    ((freezeWritten a n r f s).ax a).startPending = (s.ax a).startPending ∧
    ((freezeWritten a n r f s).ax a).stopPending = (s.ax a).stopPending := by
  unfold freezeWritten
  split
  · exact ⟨fun _ _ => rfl, rfl, rfl⟩
  split
  · exact ⟨fun o ho => rd_wr_of_ne s _ ho, rfl, rfl⟩
  split
  · unfold releaseCount
    extract_lets +onlyGivenNames x m e
    split
    · exact ⟨fun _ _ => rfl, by rw [ax_setAx_self], by rw [ax_setAx_self]⟩
    · exact ⟨fun _ _ => rfl, rfl, rfl⟩
  · exact ⟨fun _ _ => rfl, rfl, rfl⟩

/-- A written RUN starts what it asks for. -/
theorem runWritten_asks : (∀ o, (runWritten a s).rd o = s.rd o) ∧
    (s.flag (AXL_CTRL a) AXL_CTRL_RUN = true → s.running a = false → ((runWritten a s).ax a).startPending = true) ∧
    (s.flag (AXL_CTRL a) AXL_CTRL_RUN = false → s.running a = true → ((runWritten a s).ax a).stopPending = true) := by
  unfold runWritten
  extract_lets +onlyGivenNames run x now
  cases hrun : run <;> cases hr : s.running a
  · exact ⟨fun _ => rfl, fun h => absurd (hrun.symm.trans h) (by decide), fun _ h => absurd h (by decide)⟩
  · exact ⟨fun _ => rfl, fun h => absurd (hrun.symm.trans h) (by decide), fun _ _ => congrArg AxleSt.stopPending (ax_setAx_self ..)⟩
  · refine ⟨fun _ => ?_, fun _ _ => ?_, fun h => absurd (hrun.symm.trans h) (by decide)⟩
    · simp only [if_true, Bool.false_eq_true, if_false]
      split <;> rfl
    · simp only [if_true, Bool.false_eq_true, if_false]
      split
      · assumption
      · exact congrArg AxleSt.startPending (ax_setAx_self ..)
  · exact ⟨fun _ => rfl, fun _ h => absurd h (by decide), fun h => absurd (hrun.symm.trans h) (by decide)⟩

/-- A write of RUN that is accepted. -/
theorem runWrite_leaves {a : Fin 4} {v : View} {n : Nat} (hn : n < 2)
    (ha : accepted v (AXL_CTRL a) (withField s (AXL_CTRL a) AXL_CTRL_RUN n) s = true) :
    ∃ t, fieldCmd v (AXL_CTRL a) AXL_CTRL_RUN n s = .next t ∧ t.flag (AXL_CTRL a) AXL_CTRL_RUN = n.testBit 0 ∧
      t.running a = s.running a ∧ (n = 1 → s.running a = false → (t.ax a).startPending = true) ∧
      (n = 0 → s.running a = true → (t.ax a).stopPending = true) := by
  have hreg := register_ctrl a
  refine ⟨_, fieldCmd_written hreg ha, ?_⟩
  unfold fieldWritten
  extract_lets +onlyGivenNames w
  have hrun : AXL_CTRL_RUN.get w = n := by
    refine (writtenWord_data (f := ⟨AXL_CTRL_RUN, .rh, false, false, .none⟩) (plainRegister_register hreg) ha (by decide)
      (by decide)).trans ?_
    exact (get_withField _ _ _ _ (by decide)).trans (Nat.mod_eq_of_lt hn)
  rw [wrote_ctrl]
  generalize hu : runWritten a (s.wr (AXL_CTRL a) w) = u
  obtain ⟨hrd, hstart, hstop⟩ := runWritten_asks (s := s.wr (AXL_CTRL a) w) (a := a)
  rw [hu] at hrd hstart hstop
  obtain ⟨hrd', hstart', hstop'⟩ := freezeWritten_keeps (a := a) (s := u) (s.countNow ([a.val].headD 0))
    (rose AXL_CTRL_DBGFRZ (s.rd (AXL_CTRL a)) w) (fell AXL_CTRL_DBGFRZ (s.rd (AXL_CTRL a)) w)
  generalize freezeWritten a _ _ _ u = z at hrd' hstart' hstop'
  have hctrl : (s.wr (AXL_CTRL a) w).flag (AXL_CTRL a) AXL_CTRL_RUN = n.testBit 0 := by
    rw [State.flag, rd_wr_self, bit_eq_testBit _ (by decide), hrun]
  have hrunning : (s.wr (AXL_CTRL a) w).running a = s.running a :=
    congrArg AXL_STAT_RUNNING.bit (rd_wr_of_ne s w (by simp only [AXL_STAT, AXL_CTRL]; omega))
  refine ⟨?_, ?_, ?_, ?_⟩
  · rw [syncStretches_flag, ← hctrl, State.flag, hrd' _ (by simp only [AXL_CTRL, AXL_CNT]; omega), hrd]
    rfl
  · rw [← hrunning, State.running, syncStretches_flag, State.flag, hrd' _ (by simp only [AXL_STAT, AXL_CNT]; omega), hrd]
    rfl
  · rintro rfl hr
    rw [syncStretches_ax, hstart']
    exact hstart hctrl (hrunning.trans hr)
  · rintro rfl hr
    rw [syncStretches_ax, hstop']
    exact hstop hctrl (hrunning.trans hr)

/-! ### The commit watchdog (R104, R189) -/

theorem commitTimeout_leaves {a : Fin 4} (hs : s.awake = true) (hc : s.wdCounts a = true) (hw : 0 < (s.ax a).wd)
    (he : s.fld (AXL_WDOG a) AXL_WDOG_COUNT ≤ (s.ax a).wd) :
    ∃ t, exec (.commitTimeout a) s = .next t ∧ t.evPending (evAxle a 12) = true ∧ (t.ax a).wd = 0 ∧
      (s.hysMode a = 0 → t.hysMode a = if s.hasFallback a then 1 else 2) := by
  have ha := a.isLt
  let s1 := (s.updAx a (fun x => { x with wd := 0 })).raise (evAxle a 12)
  have hex : exec (.commitTimeout a) s = settled (settleBrake (enterFallback a 2 s1)) :=
    if_pos (by simp only [hc, State.wdExpired, hw, he, decide_true, Bool.and_self])
  have hres := evReserved_axle ha (k := 12) (by decide)
  have hafter : LowStep s1 (settleBrake (enterFallback a 2 s1)) := LowStep.refl.enterFallback.settleBrake
  refine ⟨_, hex, ?_, ?_, fun hmode => ?_⟩
  · rw [syncStretches_evPending]
    exact hafter.pending hres (raise_pending _ hres hs)
  · rw [syncStretches_ax]
    have hraise : LowStep (s.updAx a (fun x => { x with wd := 0 })) s1 := .raise .refl
    have hax : (s.updAx a (fun x => { x with wd := 0 })).ax a = { s.ax a with wd := 0 } := ax_updAx_self ..
    have h := clock_wd ((hafter.clock a).trans (hraise.clock a))
    rw [hax] at h
    exact h
  · have hregs : ∀ o, eventRegister o = false → s1.rd o = s.rd o := fun o ho => raise_rd_apart _ _ ho
    have hapart : ∀ o, 0x100000 ≤ o ∧ o < 0x1D0000 → s1.rd o = s.rd o := fun o ho => hregs o (eventRegister_apart ho.1 ho.2)
    have hmode1 : s1.hysMode a = 0 :=
      (congrArg HYS_STAT_MODE.get (hapart _ (by simp only [HYS_STAT]; omega))).trans hmode
    have hfall : s1.hasFallback a = s.hasFallback a := hasFallback_congr (LowStep.raise .refl).only.kept
      (fun l hl => hapart _ (by simp only [LEG_CFG]; omega)) (fun k hk => hapart _ (by simp only [HYS_SET]; omega))
    have hbrake : (settleBrake (enterFallback a 2 s1)).hysMode a = (enterFallback a 2 s1).hysMode a :=
      (brakeStep_settleBrake _).fld _ (by simp only [brakeRegister, HYS_STAT, SAFE_BRKSTAT, SAFE_BRKRES]; omega)
        (eventRegister_apart (by simp only [HYS_STAT]; omega) (by simp only [HYS_STAT]; omega))
    refine (congrArg HYS_STAT_MODE.get (syncStretches_rd ..)).trans (hbrake.trans ?_)
    rw [enterFallback_mode ha hmode1, hfall]

/-! ### The start (R103, R105, R107) -/

/-- The instant stays, and a start of the Axle stays waited for or not. -/
structure Awaits (a : Nat) (s t : State) : Prop where
  now : t.now = s.now
  start : (t.ax a).startPending = (s.ax a).startPending

section
variable {s₀ u : State}

theorem Awaits.refl : Awaits a s s := ⟨rfl, rfl⟩
theorem Awaits.trans (h : Awaits a s t) (h' : Awaits a t u) : Awaits a s u := ⟨h'.now.trans h.now, h'.start.trans h.start⟩
theorem Awaits.low (h : Awaits a s₀ s) (h' : LowStep s t) : Awaits a s₀ t := h.trans ⟨h'.now, clock_startPending (h'.clock a)⟩
theorem Awaits.ite {c : Prop} [Decidable c] (h : Awaits a s₀ s) (h' : Awaits a s₀ t) : Awaits a s₀ (if c then s else t) := by
  split
  · exact h
  · exact h'
theorem Awaits.upd (h : Awaits a s₀ s) (hn : t.now = s.now := by rfl) (ha : t.axle = s.axle := by rfl) : Awaits a s₀ t :=
  h.trans ⟨hn, by simp only [State.ax, ha]⟩
theorem Awaits.updAx {b : Nat} {f : AxleSt → AxleSt} (h : Awaits a s₀ s)
    (hf : ∀ x : AxleSt, (f x).startPending = x.startPending := by intro _; rfl) : Awaits a s₀ (s.updAx b f) := by
  refine h.trans ⟨rfl, ?_⟩
  simp only [State.ax, State.updAx, State.setAx, mget_mset]
  split
  · next he => rw [he]; exact hf _
  · rfl
theorem Awaits.each {α : Type} {xs : List α} {f : α → State → State} (h : Awaits a s₀ s)
    (hf : ∀ x u, Awaits a u (f x u)) : Awaits a s₀ (each xs f s) :=
  List.foldlRecOn xs _ h fun _ hu x _ => hu.trans (hf x _)
theorem Awaits.reanchorHere {b : Nat} (h : Awaits a s₀ s) : Awaits a s₀ (reanchorHere b s) := by
  unfold Machine.reanchorHere
  extract_lets +onlyGivenNames src v anchor ofs
  exact h.updAx
theorem Awaits.beginCarrier (h : Awaits a s₀ s) : Awaits a s₀ (beginCarrier a s) := by
  unfold Machine.beginCarrier
  extract_lets +onlyGivenNames s1 now s2
  have h1 : Awaits a s₀ s1 := h.upd.low (.raise .refl)
  have h2 : Awaits a s₀ s2 := ite h1.reanchorHere h1
  exact h2.updAx
theorem Awaits.scheduledPeriod (h : Awaits a s₀ s) : Awaits a s₀ (scheduledPeriod a s) := by
  unfold Machine.scheduledPeriod
  extract_lets +onlyGivenNames p due s1
  have h1 : Awaits a s₀ s1 := h.updAx
  have h2 : Awaits a s₀ ((s1.setFld (AXL_PRD a) AXL_PRD_PERIOD (AXL_PRDSCH_PERIOD.get p)).setFlag (AXL_PRDSCH a)
    AXL_PRDSCH_ARM false) := h1.upd
  exact ite h2.reanchorHere h1
theorem Awaits.clockChange (h : Awaits a s₀ s) : Awaits a s₀ (clockChange a s) := by
  have h1 : Awaits a s₀ (s.updAx a (fun x => { x with onDray := false })) := h.updAx
  exact ite (ite h1.upd h1) h
theorem Awaits.axwTakes (h : Awaits a s₀ s) : Awaits a s₀ (axwTakes a s) := ite h.updAx h
theorem Awaits.endHold {l : Nat} (h : Awaits a s₀ s) : Awaits a s₀ (endHold l s) := by
  unfold Machine.endHold
  refine ite ?_ h
  extract_lets of _ dropped
  have hdrop : Awaits a s₀ dropped :=
    (h.upd (t := { s with kept := s.kept.filter (fun e => !of e) })).low (.dropCause .refl)
  exact hdrop.low (((LowStep.refl.each fun _ _ h => h.joinChannel).each fun _ _ h => h.mappingSettled).settleSafe)
theorem Awaits.catchBegin {b : Nat} (h : Awaits a s₀ s) : Awaits a s₀ (catchBegin b s) := by
  unfold Machine.catchBegin
  extract_lets +onlyGivenNames dray now s1 s2 s3
  have h1 : Awaits a s₀ s1 := h.updAx
  have h2 : Awaits a s₀ s2 := h1.each fun _ _ => .low .refl (.updHy .refl)
  have h3 : Awaits a s₀ s3 := ite (h2.low (.noteEntry .refl)) (h2.low (.setFld .refl))
  exact (h3.each fun _ _ => .endHold .refl).low (LowStep.refl.endHeld.changeSources)
theorem Awaits.catchUpdate {b : Nat} (h : Awaits a s₀ s) : Awaits a s₀ (catchUpdate b s) :=
  ite h (ite h.catchBegin (ite (h.updAx.low (.enterFallback .refl)) h.updAx))
theorem Awaits.updatePoint {b len : Nat} (h : Awaits a s₀ s) : Awaits a s₀ (updatePoint b len s) := by
  unfold Machine.updatePoint
  extract_lets +onlyGivenNames s1 pend s2 out s3 cut s4 s5 s6 s7
  have h1 : Awaits a s₀ s1 := by
    have hwd : Awaits a s₀ (s.updAx b (fun x => { x with wd := if s.wdCounts b then x.wd + 1 else 0 })) := h.updAx
    exact ite (hwd.low (.askFallback .refl)) hwd
  have h2 : Awaits a s₀ s2 := h1.updAx
  have h3 : Awaits a s₀ s3 := ite h2 (h2.low (.monitorInterval .refl))
  have h4 : Awaits a s₀ s4 := h3.low (.gateUpdate .refl)
  have h5 : Awaits a s₀ s5 := (ite h4 (h4.low (.ttuClose .refl))).low (.ttuOpen .refl)
  have h6 : Awaits a s₀ s6 := h5.low (LowStep.refl.windowUpdate.handbackUpdate.fallbackUpdate)
  have h7 : Awaits a s₀ s7 := h6.catchUpdate.low (LowStep.refl.haltUpdate.releaseAxle)
  exact h7.updAx.low (.monitorBegin .refl)

end

/-- The state in which a start begins its first carrier. -/
def startBegun (a : Nat) (s : State) : State :=
  let n := (s.startInstant a).1
  let s := (s.at (n / 32 * 32)).setFlag (AXL_STAT a) AXL_STAT_RUNNING true
  let ofs : Int := (s.rd (AXL_SYNCOFS a)).toNat
  let s := s.updAx a (fun x => { x with
    startPending := false, stopPending := false, slewTicks := 0, fineOfs := n % 32, wd := 0, fbPending := none, fired := []
    top := 0, reanchor := false, anchor := ofs, gridOfs := none })
  each (s.legsOf a) (fun l t => dropCause .axleStop l (dropCause .clkLoss l t)) s

theorem startAxle_eq : startAxle a s = updatePoint a 0 (axwTakes a (clockChange a
    (scheduledPeriod a ((beginCarrier a (startBegun a s)).wr (AXL_CARNUM a) (s.startInstant a).2)))) := rfl

theorem startBegun_leaves (ha : a < 4) : (startBegun a s).awake = s.awake ∧
    (startBegun a s).now = max s.now ((s.startInstant a).1 / 32 * 32) ∧ (startBegun a s).running a = true ∧
    ((startBegun a s).ax a).startPending = false := by
  unfold startBegun
  extract_lets +onlyGivenNames n s1 ofs s2
  have hfree : LowStep s2 (each (s2.legsOf a) (fun l t => dropCause .axleStop l (dropCause .clkLoss l t)) s2) :=
    LowStep.refl.each fun _ _ h => h.dropCause.dropCause
  refine ⟨hfree.only.awake, hfree.now, ?_, ?_⟩
  · exact (hfree.flag _ (low_of_lt (by simp only [AXL_STAT]; omega)) (reportRegister_axle (by simp only [AXL_STAT]; omega)
      (by simp only [AXL_STAT]; omega) (by simp only [AXL_STAT]; omega))).trans
      (flag_setFlag_self _ (AXL_STAT a) AXL_STAT_RUNNING true (by decide) (by decide))
  · refine (clock_startPending (hfree.clock a)).trans ?_
    rw [ax_updAx_self]

theorem axleStart_leaves {a : Fin 4} (h : s.startReady a = true) :
    ∃ t, exec (.axleStart a) s = .next t ∧ t.running a = true ∧ (t.ax a).startPending = false ∧ t.rd (AXL_CNT a) = 0 ∧
      t.evPending (evAxle a 0) = true ∧ t.now = max s.now ((s.startInstant a).1 / 32 * 32) ∧
      t.rd (AXL_CARNUM a) = (s.startInstant a).2 := by
  have ha := a.isLt
  have hawake : s.awake = true := by
    simp only [State.startReady, Bool.and_eq_true] at h
    exact h.1.1
  have heq := startAxle_eq (a := a) (s := s)
  obtain ⟨hb1, hb2, hb3, hb4⟩ := startBegun_leaves (s := s) ha
  generalize startBegun a s = b at heq hb1 hb2 hb3 hb4
  let c := (beginCarrier a b).wr (AXL_CARNUM a) (s.startInstant a).2
  have hafter : AxleStep (fun _ => False) (fun o => o = AXL_PRD a ∨ o = AXL_PRDSCH a ∨ o = SYS_CLK) c (settleBrake (startAxle a s)) := by
    rw [heq]
    exact ((((AxleStep.refl.scheduledPeriod (.inl rfl) (.inr (.inl rfl))).clockChange (.inr (.inr rfl))).axwTakes).updatePoint).low
      (.settleBrake .refl)
  have hawaits : Awaits a b (settleBrake (startAxle a s)) := by
    rw [heq]
    exact (Awaits.refl.beginCarrier.upd (t := c)).scheduledPeriod.clockChange.axwTakes.updatePoint.low (.settleBrake .refl)
  have hrd : ∀ o, (0x80000 ≤ o ∧ o < 0x100000 ∧ o % 0x10000 ≠ 0x10) ∧ o ≠ AXL_PRD a ∧ o ≠ AXL_PRDSCH a →
      (settleBrake (startAxle a s)).rd o = c.rd o := by
    rintro o ⟨⟨h1, h2, h3⟩, h4, h5⟩
    refine hafter.rd _ (low_of_lt h2) id ?_ (reportRegister_axle h1 h2 h3)
    simp only [SYS_CLK]
    omega
  have hcarrier : ∀ o, (0x80000 ≤ o ∧ o < 0x100000 ∧ o % 0x10000 ≠ 0x10) ∧ o ≠ AXL_CARNUM a →
      c.rd o = if o = AXL_CNT a then 0 else b.rd o := by
    rintro o ⟨⟨h1, h2, h3⟩, h4⟩
    rw [rd_wr_of_ne _ _ h4, beginCarrier_rd _ _ (eventRegister_of_reportRegister (reportRegister_axle h1 h2 h3)), setCount, rd_wr]
    rfl
  refine ⟨_, if_pos h, ?_, ?_, ?_, ?_, ?_, ?_⟩
  · rw [State.running, syncStretches_flag, State.flag, hrd _ (by simp only [AXL_STAT, AXL_PRD, AXL_PRDSCH]; omega),
      hcarrier _ (by simp only [AXL_STAT, AXL_CARNUM]; omega), if_neg (by simp only [AXL_STAT, AXL_CNT]; omega)]
    exact hb3
  · rw [syncStretches_ax, hawaits.start, hb4]
  · rw [syncStretches_rd, hrd _ (by simp only [AXL_CNT, AXL_PRD, AXL_PRDSCH]; omega),
      hcarrier _ (by simp only [AXL_CNT, AXL_CARNUM]; omega), if_pos rfl]
  · have hres := evReserved_axle ha (k := 0) (by decide)
    rw [syncStretches_evPending]
    refine hafter.pending (by simp only [EVT_PEND, evAxle, AXL_PRD, AXL_PRDSCH, SYS_CLK]; omega) hres ?_
    rw [State.evPending, rd_wr_of_ne _ _ (by simp only [EVT_PEND, evAxle, AXL_CARNUM]; omega)]
    simp only [State.rd, beginCarrier_regs]
    exact raise_pending _ hres (hb1.trans hawake)
  · rw [syncStretches_now, hawaits.now, hb2]
  · rw [syncStretches_rd, hrd _ (by simp only [AXL_CARNUM, AXL_PRD, AXL_PRDSCH]; omega)]
    exact rd_wr_self ..

/-- The carrier number of a start (R105). -/
theorem startInstant_number : (s.startInstant a).2 = (let src := s.fld (AXL_SYNC a) AXL_SYNC_SRC
    if (s.ax a).onDray = true ∨ src = 0 then 0
    else if src ≤ 4 then s.rd (AXL_CARNUM (src - 1)) + (if s.valleyDue (src - 1) then 1 else 0)
    else (s.startInstant a).2) := by
  extract_lets src
  have hsrc : s.fld (AXL_SYNC a) AXL_SYNC_SRC = src := rfl
  by_cases hd : (s.ax a).onDray = true
  · rw [if_pos (.inl hd)]
    simp only [State.startInstant, hd, if_true]
  by_cases h0 : src = 0
  · rw [if_pos (.inr h0)]
    simp only [State.startInstant, hsrc, if_neg hd, h0, if_true]
  rw [if_neg (not_or.mpr ⟨hd, h0⟩)]
  split
  next h4 => simp only [State.startInstant, hsrc, if_neg hd, if_neg h0, if_pos h4]
  · rfl

theorem startStop : Rules.StartStop := fun s a =>
  ⟨fun ha => by
    obtain ⟨t, ht, h1, h2, h3, _⟩ := runWrite_leaves (n := 1) (by decide) ha
    exact ⟨t, ht, h1, h2, h3 rfl⟩,
  fun ha => by
    obtain ⟨t, ht, h1, h2, _, h3⟩ := runWrite_leaves (n := 0) (by decide) ha
    exact ⟨t, ht, h1, h2, h3 rfl⟩,
  fun h => by
    obtain ⟨t, ht, h1, h2, h3, h4, h5, h6⟩ := axleStart_leaves h
    exact ⟨t, ht, h1, h2, h3, h4, h5, h6.trans startInstant_number⟩,
  commitTimeout_leaves⟩

/-! ### Compare writes (R97, R98) -/

theorem compareRegister_range {k : Nat} {down : Bool} (ha : a < 4) (hk : k < 16) :
    0x80000 ≤ compareRegister a k down ∧ compareRegister a k down < 0xC0000 ∧ 0x80 ≤ compareRegister a k down % 0x10000 ∧
      (compareRegister a k down - 0x80000) / 0x10000 = a ∧ compareRegister a k down / 4 % 16 = k ∧
      decide (0xC0 ≤ compareRegister a k down % 0x10000) = down := by
  cases down <;> simp only [compareRegister, AXL_CMPD, AXL_CMPU, if_true, if_false, Bool.false_eq_true, decide_eq_true_eq,
    decide_eq_false_iff_not] <;> omega

theorem compareRegister_card (a : Fin 4) (k : Fin 16) (down : Bool) : foldOff (compareRegister a k down) =
    some (compareRegister a k down) ∧ (regAt (compareRegister a k down)).isSome = true := by
  revert a k down; decide +kernel

/-- A write of a compare is applied by R97 and R98. -/
theorem writeReg_compare {v : View} {a : Fin 4} {k : Fin 16} {down : Bool} {c : Word} {n : Nat} :
    writeReg v (compareRegister a k down) c noUpdate (some n) s = applyCompares a n [(k.val, down, c)] s := by
  obtain ⟨h1, h2, h3, h4, h5, h6⟩ := compareRegister_range (down := down) a.isLt k.isLt
  obtain ⟨hf, hr⟩ := compareRegister_card a k down
  obtain ⟨⟨card, ix⟩, hr⟩ := Option.isSome_iff_exists.mp hr
  unfold writeReg
  simp only [hf, hr]
  rw [if_neg (by simp only [LIX_DATA]; omega), if_pos ⟨h1, h2, h3⟩, h4, h5, h6]
  rfl

/-- A slot governs its position as before where the mapping is as before. -/
theorem governs_congr (hr : ∀ k < 4, t.rd (AXL_CMAP a k) = s.rd (AXL_CMAP a k)) (hl : ∀ l < 32, t.legAxle l = s.legAxle l)
    {k : Nat} (hk : k < 16) : t.governs a k = s.governs a k := by
  have hpos : ∀ j < 16, t.slotPos a j = s.slotPos a j := fun j hj => by
    simp only [State.slotPos, State.fld, hr (j / 4) (by omega)]
  have hvalid : ∀ j < 16, t.slotValid a j = s.slotValid a j := fun j hj => by
    simp only [State.slotValid, hr (j / 4) (by omega)]
  have hlt : s.slotPos a k < 64 := get_lt ..
  have hfind : (List.range 16).find? (fun j => t.slotValid a j && decide (t.slotPos a j = s.slotPos a k)) =
      (List.range 16).find? (fun j => s.slotValid a j && decide (s.slotPos a j = s.slotPos a k)) :=
    List.find?_congr fun j hj => by rw [hpos j (List.mem_range.mp hj), hvalid j (List.mem_range.mp hj)]
  simp only [State.governs, State.slotOf, hpos k hk, hvalid k hk, hl _ (show s.slotPos a k / 2 < 32 by omega), hfind]
  rfl

/-- A late compare takes effect at once (R98). -/
theorem lateRule_fires {a k p n : Nat} {c : Word} {old : State} (hrun : s.running a = true) (hm : s.axlMode a = 2)
    (hd : s.dirDown a = false) (hg : s.governs a k = some p) (hold : old.spent a n k false = false)
    (hf : s.hasFired a k false = false) (hv : s.cmpTaps a k false < 32 * n) :
    lateRule a n old (k, false, c) s = (fireEdge a k p false (s.applyPhase a n) s, true) := by
  have hin : s.inHalf a false = true := by simp [State.inHalf, hm, hd]
  simp only [lateRule, hrun, hin, hf, hold, hd, hg, Bool.not_true, Bool.or_self, Bool.false_eq_true, if_false,
    decide_eq_true_eq]
  rw [if_neg (by omega)]

section
variable {k p n : Nat} {c : Word}

/-- A compare behind the counter on an up half has fired, with LATE and its event (R97, R98). -/
theorem applyCompares_late (ha : a < 4) (hk : k < 16) (hs : s.awake = true) (hrun : s.running a = true) (hm : s.axlMode a = 2)
    (hd : s.dirDown a = false) (hg : s.governs a k = some p) (hf : s.hasFired a k false = false)
    (hdray : (s.ax a).onDray = false) (hn : n < s.halfTop a) (hc : c.toNat < 32 * n) :
    (applyCompares a n [(k, false, c)] s).hasFired a k false = true ∧
      (applyCompares a n [(k, false, c)] s).flag (AXL_STAT a) AXL_STAT_LATE = true ∧
      (applyCompares a n [(k, false, c)] s).evPending (evAxle a 13) = true := by
  let s1 := s.wr (compareRegister a k false) c
  let s2 := setCount a n false (s1.at (s1.cycleAt a n))
  have hrd1 : ∀ o, (o < 0x80000 ∨ 0x100000 ≤ o ∨ o % 0x10000 < 0x80) → s1.rd o = s.rd o := fun o ho => rd_wr_of_ne _ _ (by
    simp only [compareRegister, AXL_CMPU, Bool.false_eq_true, if_false]; omega)
  have hrd2 : ∀ o, (o < 0x80000 ∨ 0x100000 ≤ o ∨ o % 0x10000 < 0x80) → o ≠ AXL_CNT a → s2.rd o = s.rd o := fun o ho hne =>
    (rd_wr_of_ne _ _ hne).trans (hrd1 o ho)
  have hrun1 : s1.running a = true := (congrArg AXL_STAT_RUNNING.bit (hrd1 _ (by simp only [AXL_STAT]; omega))).trans hrun
  have hd1 : s1.dirDown a = false := (congrArg AXL_CNT_DIR.bit (hrd1 _ (by simp only [AXL_CNT]; omega))).trans hd
  have hperiod1 : s1.period a = s.period a := congrArg AXL_PRD_PERIOD.get (hrd1 _ (by simp only [AXL_PRD]; omega))
  have hax1 : s1.ax a = s.ax a := rfl
  have hcomes : s1.turnComes a n = false := by
    have htop : s1.halfTop a = s.halfTop a := by
      simp only [State.halfTop, hd1, hd, State.turn, hperiod1, hax1]
    simp only [State.turnComes, hd1, htop, Bool.false_eq_true, if_false, decide_eq_false_iff_not]
    omega
  have hfire : lateRule a n s (k, false, c) s2 = (fireEdge a k p false (s2.applyPhase a n) s2, true) := by
    refine lateRule_fires ?_ ?_ dirDown_setCount ?_ ?_ hf ?_
    · exact (congrArg AXL_STAT_RUNNING.bit (hrd2 _ (by simp only [AXL_STAT]; omega) (by simp only [AXL_STAT, AXL_CNT]; omega))).trans
        hrun
    · exact (congrArg AXL_CTRL_MODE.get (hrd2 _ (by simp only [AXL_CTRL]; omega) (by simp only [AXL_CTRL, AXL_CNT]; omega))).trans hm
    · rw [governs_congr (s := s) (fun j hj => hrd2 _ (by simp only [AXL_CMAP]; omega) (by simp only [AXL_CMAP, AXL_CNT]; omega))
        (fun l hl => legAxle_congr rfl (hrd2 _ (by simp only [LEG_CFG]; omega) (by simp only [LEG_CFG, AXL_CNT]; omega))) hk]
      exact hg
    · simp only [State.spent, hf, hg, Option.isNone_some, Bool.and_false, Bool.false_and, Bool.or_self]
    · have hcmp : s2.rd (AXL_CMPU a k) = c :=
        (rd_wr_of_ne _ _ (by simp only [AXL_CMPU, AXL_CNT]; omega)).trans (rd_wr_self s (AXL_CMPU a k) c)
      have h2 : s2.cmpTaps a k false ≤ c.toNat := by
        simp only [State.cmpTaps, Bool.false_eq_true, if_false, hcmp]
        refine (Nat.min_le_left ..).trans ?_
        split <;> omega
      omega
  have heq : applyCompares a n [(k, false, c)] s = noteMap a [(k, false, c)]
      ((((fireEdge a k p false (s2.applyPhase a n) s2).rc (AXL_CNTS a) AXL_CNTS_LATE 1).sq (AXL_STAT a) AXL_STAT_LATE).raise
        (evAxle a 13)) := by
    have hstore : each [(k, false, c)] (storeCompare a) s = s1 := rfl
    have hcount : setCount a n (s1.dirDown a) (if (s1.ax a).onDray then s1 else s1.at (s1.cycleAt a n)) = s2 := by
      rw [hd1, hax1, hdray, if_neg Bool.false_ne_true]
    unfold applyCompares
    simp only [hstore, hrun1, hcomes, hcount, List.foldl_cons, List.foldl_nil, hfire, Bool.not_true, Bool.or_self,
      Bool.false_eq_true, if_false, b2n, if_true, Nat.zero_add, Nat.lt_one_iff]
  rw [heq]
  set u := fireEdge a k p false (s2.applyPhase a n) s2
  let v := u.rc (AXL_CNTS a) AXL_CNTS_LATE 1
  let w := v.sq (AXL_STAT a) AXL_STAT_LATE
  have hafter : AxleStep (· = AXL_STAT a) (fun _ => False) (w.raise (evAxle a 13))
    (noteMap a [(k, false, c)] (w.raise (evAxle a 13))) := AxleStep.refl.noteMap (.inl rfl)
  have hres := evReserved_axle ha (k := 13) (by decide)
  have hreport : 0x80000 ≤ AXL_STAT a ∧ AXL_STAT a < 0x100000 ∧ AXL_STAT a % 0x10000 ≠ 0x10 := by simp only [AXL_STAT]; omega
  have hwake : w.awake = true := by
    have h1 : AxleStep (· = AXL_STAT a) (fun _ => True) s2 w :=
      ((AxleStep.refl.fireEdge (a := a) (k := k) (p := p) (down := false) (phase := s2.applyPhase a n)).rc trivial).sq (.inl rfl)
    exact h1.only.awake.trans hs
  refine ⟨?_, ?_, hafter.pending id hres (raise_pending _ hres hwake)⟩
  · have hsame : Same (fun x => (x.ax a).fired) w (noteMap a [(k, false, c)] (w.raise (evAxle a 13))) := by
      have hr : ∀ (x : State) src, Same (fun x => (x.ax a).fired) x (x.raise src) :=
        fun x src => clock_fired ((LowStep.raise (src := src) (LowStep.refl (s := x))).clock a)
      unfold noteMap
      exact .ite ((hr w _).trans (hr ((w.raise (evAxle a 13)).sq (AXL_STAT a) AXL_STAT_MAPERR) _)) (hr _ _)
    exact (congrArg (fun xs => xs.contains (fireMark k false)) hsame).trans hasFired_fireEdge
  · have hflag : (w.raise (evAxle a 13)).flag (AXL_STAT a) AXL_STAT_LATE = true :=
      (congrArg AXL_STAT_LATE.bit (raise_rd_apart _ _ (eventRegister_of_reportRegister (reportRegister_axle hreport.1
        hreport.2.1 hreport.2.2)))).trans (flag_sq_self v _ _ (by decide) (by decide))
    exact hafter.keepsFlag (low_of_lt hreport.2.1) id (by decide) (reportCounter_axle hreport.1 hreport.2.1 hreport.2.2) hflag

end

theorem compareWrite_leaves {v : View} {a : Fin 4} (hs : s.awake = true) (k : Fin 16) (down : Bool) (c : Word) (n : Nat) :
    ∃ t, exec (.compareWrite v a k down c n) s = .next t ∧
      (∀ j d, j < 16 → t.rd (if d then AXL_CMPD a j else AXL_CMPU a j) =
        if j = k.val ∧ d = down then c else s.rd (if d then AXL_CMPD a j else AXL_CMPU a j)) ∧
      (s.running a = true → s.axlMode a = 2 → s.dirDown a = false → down = false → (∃ p, s.governs a k = some p) →
        s.hasFired a k false = false → (s.ax a).onDray = false → n < s.halfTop a → c.toNat < 32 * n →
        c.toNat ≤ 32 * s.period a →
        t.hasFired a k false = true ∧ t.flag (AXL_STAT a) AXL_STAT_LATE = true ∧ t.evPending (evAxle a 13) = true) := by
  have hex : exec (.compareWrite v a k down c n) s = .next (syncStretches (applyCompares a n [(k.val, down, c)] s)) :=
    (writeCmd_awake (o := compareRegister a k down) hs).trans (by rw [writeReg_compare]; rfl)
  refine ⟨_, hex, fun j d hj => ?_, ?_⟩
  · have hfix : ∀ j d, j < 16 → (applyCompares a n [(k.val, down, c)] s).rd (compareRegister a j d) =
        (s.wr (compareRegister a k down) c).rd (compareRegister a j d) := by
      intro j d hj
      obtain ⟨h1, h2, h3, -⟩ := compareRegister_range (down := d) a.isLt hj
      have hne : compareRegister a j d ≠ AXL_STAT a ∧ compareRegister a j d ≠ AXL_CNT a ∧ compareRegister a j d ≠ AXL_CNTS a := by
        simp only [AXL_STAT, AXL_CNT, AXL_CNTS]; omega
      exact (applyCompares_after a n [(k.val, down, c)] s).rd _ (low_of_lt (by omega)) hne.1 (by simp [hne.2.1, hne.2.2])
        (reportRegister_axle h1 (by omega) (by omega))
    rw [syncStretches_rd]
    refine (hfix j d hj).trans ?_
    rw [rd_wr]
    by_cases he : j = k.val ∧ d = down
    · rw [if_pos he, if_pos (by rw [he.1, he.2])]
    · rw [if_neg he, if_neg fun h => he (compareRegister_inj hj k.isLt h)]
      rfl
  · rintro hrun hm hd rfl ⟨p, hg⟩ hf hdray hn hc -
    rw [State.hasFired, syncStretches_ax, syncStretches_flag, syncStretches_evPending]
    exact applyCompares_late a.isLt k.isLt hs hrun hm hd hg hf hdray hn hc

/-! ### Period writes (R100, R107) -/

/-- The card of AXL_PRD. -/
def cardPrd : Card := ⟨0x80004, [(0x10000, 4)], false, 0x1F40, [⟨AXL_PRD_PERIOD, .rh, false, false, .none⟩]⟩

theorem register_prd (a : Fin 4) : isRegister (AXL_PRD a) cardPrd [a.val] = true ∧ noSequence (AXL_PRD a) cardPrd = true := by
  revert a; decide +kernel

theorem meets_prd {a : Nat} (ha : a < 4) (n : Nat) (co : CoUpdate) : s.meets (AXL_PRD a) n co = match s.schedMeets a n with
    | some p => { co with rhMask := co.rhMask ||| AXL_PRD_PERIOD.mask, rhVal := AXL_PRD_PERIOD.put co.rhVal p }
    | none => co := by
  have h : (AXL_PRD a - 0x80000) / 0x10000 = a := by simp only [AXL_PRD]; omega
  unfold State.meets
  rw [if_pos (by simp only [AXL_PRD]; omega), h] <;> rfl

/-- What a write of AXL_PRD starts. -/
theorem wrote_prd (a : Fin 4) (old new : Word) (n : Nat) (co : CoUpdate) (before s : State) :
    wrote (AXL_PRD a) old new n co before s =
      if decide (co.rhMask &&& AXL_PRD_PERIOD.mask ≠ 0) then s else periodWritten a n (AXL_PRD_PERIOD.get old) s := by
  match a with
  | 0 | 1 | 2 | 3 => rfl

/-- PRDLATE of an Axle is set and its event is pending. -/
theorem periodLate_reports (ha : a < 4) (hs : s.awake = true) :
    (periodLate a s).flag (AXL_STAT a) AXL_STAT_PRDLATE = true ∧ (periodLate a s).evPending (evAxle a 14) = true := by
  refine ⟨?_, raise_pending _ (evReserved_axle ha (by decide)) hs⟩
  refine (congrArg AXL_STAT_PRDLATE.bit (raise_rd_apart _ _ ?_)).trans (flag_sq_self s _ _ (by decide) (by decide))
  exact eventRegister_of_reportRegister (reportRegister_axle (by simp only [AXL_STAT]; omega) (by simp only [AXL_STAT]; omega)
    (by simp only [AXL_STAT]; omega))

/-- A write of PERIOD touches the counter and the Axle's flags. -/
theorem periodWritten_after {n old : Nat} :
    AxleStep (· = AXL_STAT a) (· = AXL_CNT a) s (periodWritten a n old s) := by
  unfold periodWritten
  refine .ite .refl ?_
  extract_lets +onlyGivenNames top s1 s2
  have h1 : AxleStep (· = AXL_STAT a) (· = AXL_CNT a) s s1 := AxleStep.refl.setCount rfl
  have h2 : AxleStep (· = AXL_STAT a) (· = AXL_CNT a) s s2 := .ite h1.updAx h1
  exact .ite h2 (.ite h2.updAx (.ite (h2.updAx.periodLate (.inl rfl)) h2))

/-- An up half that has passed the new period reports it. -/
theorem periodWritten_late {n old : Nat} (ha : a < 4) (hs : s.awake = true) (hrun : s.running a = true)
    (hd : s.dirDown a = false) (hn : n < (s.ax a).latePeak.getD (if (s.ax a).onDray then old / 4 * 4 else old))
    (hp : s.period a ≤ n) : (periodWritten a n old s).flag (AXL_STAT a) AXL_STAT_PRDLATE = true ∧
      (periodWritten a n old s).evPending (evAxle a 14) = true := by
  unfold periodWritten
  rw [if_neg (by simp [hrun])]
  extract_lets +onlyGivenNames top s1 s2
  have hregs : s2.regs = s1.regs := by simp only [s2, apply_ite State.regs]; exact ite_self _
  have hd2 : s2.dirDown a = false := by
    refine (congrArg (fun r => AXL_CNT_DIR.bit (mget regDefault r (AXL_CNT a))) hregs).trans ?_
    exact dirDown_setCount.trans hd
  have hp2 : s2.period a = s.period a := by
    refine (congrArg (fun r => AXL_PRD_PERIOD.get (mget regDefault r (AXL_PRD a))) hregs).trans (congrArg AXL_PRD_PERIOD.get ?_)
    exact rd_wr_of_ne _ _ (by simp only [AXL_PRD, AXL_CNT]; omega)
  have hawake : s2.awake = s.awake := by
    simp only [s2, apply_ite State.awake]
    exact ite_self _
  rw [hd2, if_neg Bool.false_ne_true, if_neg (Nat.not_le.mpr hn), if_pos (hp2 ▸ hp)]
  exact periodLate_reports ha (hawake.trans hs)

/-- What meets a write of PERIOD in the cycle of a scheduled change (R107). -/
def scheduled (q : Nat) : CoUpdate :=
  { noUpdate with rhMask := noUpdate.rhMask ||| AXL_PRD_PERIOD.mask, rhVal := AXL_PRD_PERIOD.put noUpdate.rhVal q }

theorem scheduled_val (q : Nat) : AXL_PRD_PERIOD.get (scheduled q).rhVal = q % 2 ^ 19 := get_put_self _ _ _ (by decide)

theorem coHits_scheduled (q : Nat) (ty : FType) (c z : Bool) (k : Chock) :
    coHits (scheduled q) ⟨AXL_PRD_PERIOD, ty, c, z, k⟩ = true := by
  have h : (noUpdate.rhMask ||| AXL_PRD_PERIOD.mask) &&& AXL_PRD_PERIOD.mask ≠ 0 := by decide
  simp only [coHits, scheduled, h, ne_eq, not_false_eq_true, decide_true]

/-- A write of PERIOD that a scheduled change meets gives way to it, and is captured as lost (R32, R36, R107). -/
theorem writePeriod_scheduled {v : View} {a : Fin 4} {data : Word} {q n : Nat} (ha : accepted v (AXL_PRD a) data s = true)
    (hq : periodOk (s.axlMode a) q = true) : ∃ w, AXL_PRD_PERIOD.get w = q % 2 ^ 19 ∧
      writeFields v (AXL_PRD a) (AXL_PRD a) cardPrd [a.val] data (scheduled q) n s = (captureLost v (AXL_PRD a) s).wr (AXL_PRD a) w := by
  obtain ⟨hreg, hseq⟩ := register_prd a
  obtain ⟨hr, _, _, _, hd, _, _, hw⟩ := isRegister_iff.mp hreg
  have hopen := openFields_of_accepted hr ha
  have hdata : dataAt (AXL_PRD a) data = data := if_neg hd
  let w := AXL_PRD_PERIOD.put (AXL_PRD_PERIOD.put (s.rd (AXL_PRD a)) (q % 2 ^ 19)) (q % 2 ^ 19)
  have hget : AXL_PRD_PERIOD.get w = q % 2 ^ 19 := (get_put_self _ _ _ (by decide)).trans (Nat.mod_mod ..)
  refine ⟨w, hget, ?_⟩
  have hlt : q < 2 ^ 19 := by
    have hrange : ∀ m, (periodRange m).2 < 2 ^ 19 := fun m => by
      unfold periodRange
      split <;> decide
    exact Nat.lt_of_le_of_lt (of_decide_eq_true (Bool.and_eq_true_iff.mp hq).2) (hrange _)
  have hbad : s.badWrite (AXL_PRD a) (s.rd (AXL_PRD a)) w = false := by
    have h : ∀ old new, s.badWrite (AXL_PRD a) old new = !periodOk (s.axlMode a) (AXL_PRD_PERIOD.get new) := by
      intro old new
      have hwin : AXL_PRD a / 0x10000 = 8 + a := by simp only [AXL_PRD]; omega
      have hmod : AXL_PRD a % 0x10000 = 0x04 := by simp only [AXL_PRD]; omega
      have hidx : (AXL_PRD a - 0x80000) / 0x10000 = a := by simp only [AXL_PRD]; omega
      have := a.isLt
      unfold State.badWrite
      simp only [hwin]
      rw [if_neg (by omega), if_neg (by omega), if_neg (by omega), if_neg (by omega), if_pos (by omega)]
      unfold State.badAXL
      simp only [hmod, hidx]
      rfl
    rw [h, hget, Nat.mod_eq_of_lt hlt, hq]
    rfl
  have hpriv : notePriv v (AXL_PRD a) cardPrd s = s := by
    refine if_neg ?_
    rintro ⟨-, h⟩
    exact absurd h (by decide)
  have hchock : ∀ old new f, s.chocks (AXL_PRD a) [a.val] old new ⟨AXL_PRD_PERIOD, f, false, false, .none⟩ = false := by
    intro old new f
    have h : ¬(0x1C0100 ≤ AXL_PRD a ∧ AXL_PRD a < 0x1C0180 ∧ CPL_ROUTE_MAN.bit old = true) := by
      have := a.isLt
      simp only [AXL_PRD]; omega
    simp only [State.chocks, State.chockBits, if_neg h, List.any_nil]
  unfold writeFields
  simp only [hpriv, hopen, hdata]
  simp only [cardPrd, List.foldl_cons, List.foldl_nil, List.filter_cons, List.filter_nil, hchock, Bool.false_and, Bool.not_false,
    if_true, swField, hwField, coHits_scheduled, scheduled_val, List.any_cons, List.any_nil, Bool.or_false, Bool.false_eq_true,
    if_false, List.all_cons, List.all_nil]
  have hput : AXL_PRD_PERIOD.put (AXL_PRD_PERIOD.put (s.rd (AXL_PRD a)) (q % 2 ^ 19))
      (AXL_PRD_PERIOD.get (AXL_PRD_PERIOD.put (s.rd (AXL_PRD a)) (q % 2 ^ 19))) = w := by
    rw [get_put_self _ _ _ (by decide)]
    exact congrArg (AXL_PRD_PERIOD.put _) (Nat.mod_mod ..)
  have hlost : coLost (scheduled q) ⟨AXL_PRD_PERIOD, .rh, false, false, .none⟩ = true := by
    rw [coLost, coHits_scheduled]
    rfl
  have hmet : decide ((scheduled q).rhMask &&& AXL_PRD_PERIOD.mask ≠ 0) = true := by
    have h : (noUpdate.rhMask ||| AXL_PRD_PERIOD.mask) &&& AXL_PRD_PERIOD.mask ≠ 0 := by decide
    exact decide_eq_true h
  rw [hput, hbad, hlost, wrote_prd, hmet]
  exact sqClear_none (c := cardPrd) hseq ..

/-- A lost write reports its event. -/
theorem captureLost_pending (v : View) (off : Nat) (hs : s.awake = true) : (captureLost v off s).evPending WR_LOST = true := by
  unfold captureLost
  extract_lets +onlyGivenNames w s1
  have h1 : s1.awake = true := by
    simp only [s1, apply_ite State.awake]
    exact (ite_self _).trans hs
  exact raise_pending _ (by decide) h1

theorem periodWrite_leaves {v : View} {a : Fin 4} (period : Word) (n : Nat) (ha : accepted v (AXL_PRD a) period s = true) :
    ∃ t, exec (.periodWrite v a period n) s = .next t ∧
      match s.schedMeets a n with
      | none => t.period a = period.toNat % 2 ^ 19 ∧
          (s.running a = true → s.dirDown a = false → n < (s.ax a).latePeak.getD (s.turn a) → period.toNat % 2 ^ 19 ≤ n →
            t.flag (AXL_STAT a) AXL_STAT_PRDLATE = true ∧ t.evPending (evAxle a 14) = true)
      | some q => periodOk (s.axlMode a) q = true → t.period a = q % 2 ^ 19 ∧ t.evPending WR_LOST = true := by
  have hs := awake_of_accepted ha
  obtain ⟨hreg, hseq⟩ := register_prd a
  have hlt := a.isLt
  refine ⟨syncStretches (writeReg v (AXL_PRD a) period noUpdate (some n) s), writeCmd_awake hs, ?_⟩
  rw [writeReg_fields hreg, meets_prd hlt]
  have hreport : reportRegister (AXL_PRD a) = false :=
    reportRegister_axle (by simp only [AXL_PRD]; omega) (by simp only [AXL_PRD]; omega) (by simp only [AXL_PRD]; omega)
  simp only [Option.getD_some]
  cases hm : s.schedMeets a n with
  | none =>
    dsimp only
    rw [writeFields_written hreg .noUpdate ha, sqClear_none hseq, wrote_prd, if_neg (by decide)]
    have hperiod := writtenWord_data (f := ⟨AXL_PRD_PERIOD, .rh, false, false, .none⟩) hreg ha (by decide) (by decide)
    generalize writtenWord v (AXL_PRD a) period s = w at hperiod ⊢
    have hdata : (s.wr (AXL_PRD a) w).period a = period.toNat % 2 ^ 19 := (congrArg AXL_PRD_PERIOD.get (rd_wr_self ..)).trans hperiod
    have hother : ∀ o, o ≠ AXL_PRD a → (s.wr (AXL_PRD a) w).rd o = s.rd o := fun o ho => rd_wr_of_ne _ _ ho
    refine ⟨?_, fun hrun hd hn hp => ?_⟩
    · refine (congrArg AXL_PRD_PERIOD.get (syncStretches_rd ..)).trans (Eq.trans ?_ hdata)
      exact periodWritten_after.fld _ (low_of_lt (by simp only [AXL_PRD]; omega)) (by simp only [AXL_PRD, AXL_STAT]; omega)
        (by simp only [AXL_PRD, AXL_CNT]; omega) hreport
    · rw [syncStretches_flag, syncStretches_evPending]
      refine periodWritten_late hlt hs ?_ ?_ hn (hdata ▸ hp)
      · exact (congrArg AXL_STAT_RUNNING.bit (hother _ (by simp only [AXL_STAT, AXL_PRD]; omega))).trans hrun
      · exact (congrArg AXL_CNT_DIR.bit (hother _ (by simp only [AXL_CNT, AXL_PRD]; omega))).trans hd
  | some q =>
    intro hok
    obtain ⟨w, hw, heq⟩ := writePeriod_scheduled (n := n) ha hok
    change (syncStretches (writeFields v (AXL_PRD a) (AXL_PRD a) cardPrd [a.val] period (scheduled q) n s)).period a = _ ∧
      (syncStretches (writeFields v (AXL_PRD a) (AXL_PRD a) cardPrd [a.val] period (scheduled q) n s)).evPending WR_LOST = true
    rw [heq]
    refine ⟨(congrArg AXL_PRD_PERIOD.get ((syncStretches_rd ..).trans (rd_wr_self ..))).trans hw, ?_⟩
    rw [syncStretches_evPending, State.evPending, rd_wr_of_ne _ _ (by simp only [EVT_PEND, WR_LOST, AXL_PRD]; omega)]
    exact captureLost_pending v _ hs

/-! ### Scheduled periods (R107) -/

/-- The card of AXL_PRDSCH. -/
def cardPrdsch : Card := ⟨0x80024, [(0x10000, 4)], false, 0, [⟨AXL_PRDSCH_ARM, .rh, false, false, .none⟩,
  ⟨AXL_PRDSCH_PERIOD, .rw, false, false, .none⟩]⟩

theorem register_prdsch (a : Fin 4) : plainRegister (AXL_PRDSCH a) cardPrdsch [a.val] = true := by
  revert a; decide +kernel

/-- What a write of AXL_PRDSCH starts. -/
theorem wrote_prdsch (a : Fin 4) (old new : Word) (n : Nat) (co : CoUpdate) (before s : State) :
    wrote (AXL_PRDSCH a) old new n co before s = scheduleWritten a s := by
  match a with
  | 0 | 1 | 2 | 3 => rfl

/-- The word that arms a period. -/
theorem armWord_eq (p : BitVec 19) : AXL_PRDSCH_ARM.put (AXL_PRDSCH_PERIOD.put 0 p.toNat) 1 = BitVec.ofNat 32 (2 ^ 31 + p.toNat) := by
  have hp := p.isLt
  refine BitVec.eq_of_getLsbD_eq fun i hi => ?_
  rw [put_getLsbD, put_getLsbD, BitVec.getLsbD_ofNat, decide_eq_true hi, Bool.true_and]
  rcases Nat.lt_or_eq_of_le (Nat.le_of_lt_succ hi) with h | rfl
  · rw [if_neg (by simp only [AXL_PRDSCH_ARM]; omega), Nat.testBit_two_pow_add_gt h]
    split
    · rfl
    · next hout =>
      simp only [AXL_PRDSCH_PERIOD] at hout
      have h19 : 19 ≤ i := by omega
      exact (BitVec.getLsbD_zero ..).trans
        (Nat.testBit_lt_two_pow (Nat.lt_of_lt_of_le hp (Nat.pow_le_pow_right (by decide) h19))).symm
  · have hlow : p.toNat.testBit 31 = false := Nat.testBit_lt_two_pow (by omega)
    rw [if_pos (by decide), Nat.testBit_two_pow_add_eq, hlow]
    rfl

theorem prdschArm_leaves {v : View} {a : Fin 4} (period : BitVec 19)
    (ha : accepted v (AXL_PRDSCH a) (BitVec.ofNat 32 (2 ^ 31 + period.toNat)) s = true) :
    let ahead := (s.rd (AXL_PRDAT a) - s.rd (AXL_CARNUM a)).toNat
    ∃ t, exec (.prdschArm v a period) s = .next t ∧ t.fld (AXL_PRDSCH a) AXL_PRDSCH_PERIOD = period.toNat ∧
      t.flag (AXL_PRDSCH a) AXL_PRDSCH_ARM = (decide (0 < ahead) && decide (ahead < 2 ^ 31)) ∧
      (ahead = 0 ∨ 2 ^ 31 ≤ ahead → t.evPending (evAxle a 14) = true) := by
  intro ahead
  have hs : s.awake = true := awake_of_accepted ha
  have hreg := register_prdsch a
  have hfields := plainRegister_register hreg
  have hex : exec (.prdschArm v a period) s =
      .next (syncStretches (wordWritten v (AXL_PRDSCH a) [a.val] (BitVec.ofNat 32 (2 ^ 31 + period.toNat)) s)) :=
    (congrArg (fun w => wordCmd v (AXL_PRDSCH a) w s) (armWord_eq period)).trans (wordCmd_written hreg ha)
  refine ⟨_, hex, ?_⟩
  unfold wordWritten
  extract_lets w
  rw [wrote_prdsch]
  have hperiod : AXL_PRDSCH_PERIOD.get w = period.toNat := by
    refine (writtenWord_data (f := ⟨AXL_PRDSCH_PERIOD, .rw, false, false, .none⟩) hfields ha (by decide) (by decide)).trans ?_
    rw [← armWord_eq, get_put_apart _ _ _ _ (.inr (by decide)), get_put_self _ _ _ (by decide)]
    exact Nat.mod_eq_of_lt period.isLt
  have harm : AXL_PRDSCH_ARM.bit w = true := by
    refine (bit_congr (by decide) (writtenWord_data (f := ⟨AXL_PRDSCH_ARM, .rh, false, false, .none⟩) hfields ha (by decide)
      (by decide))).trans ?_
    rw [← armWord_eq]
    exact bit_put_self _ _ _ (by decide) (by decide)
  generalize w = w at hperiod harm ⊢
  set s1 := s.wr (AXL_PRDSCH a) w with hs1
  have hother : ∀ o, o ≠ AXL_PRDSCH a → s1.rd o = s.rd o := fun o ho => rd_wr_of_ne _ _ ho
  have hahead : (s1.rd (AXL_PRDAT a) - s1.rd (AXL_CARNUM a)).toNat = ahead := by
    rw [hother _ (by simp only [AXL_PRDAT, AXL_PRDSCH]; omega), hother _ (by simp only [AXL_CARNUM, AXL_PRDSCH]; omega)]
  have hperiod1 : s1.fld (AXL_PRDSCH a) AXL_PRDSCH_PERIOD = period.toNat := (congrArg AXL_PRDSCH_PERIOD.get (rd_wr_self ..)).trans hperiod
  have harm1 : s1.flag (AXL_PRDSCH a) AXL_PRDSCH_ARM = true := (congrArg AXL_PRDSCH_ARM.bit (rd_wr_self ..)).trans harm
  rw [syncStretches_fld, syncStretches_flag, syncStretches_evPending]
  unfold scheduleWritten
  simp only [hahead, harm1, Bool.true_and, Bool.or_eq_true, decide_eq_true_eq]
  split
  next hpast =>
    let s2 := s1.setFlag (AXL_PRDSCH a) AXL_PRDSCH_ARM false
    have hafter : AxleStep (· = AXL_STAT a) (fun _ => False) s2 (periodLate a s2) := AxleStep.refl.periodLate (.inl rfl)
    have hrd : (periodLate a s2).rd (AXL_PRDSCH a) = (s1.setFlag (AXL_PRDSCH a) AXL_PRDSCH_ARM false).rd (AXL_PRDSCH a) := hafter.rd _
      (low_of_lt (by simp only [AXL_PRDSCH]; omega)) (by simp only [AXL_PRDSCH, AXL_STAT]; omega) id
      (reportRegister_axle (by simp only [AXL_PRDSCH]; omega) (by simp only [AXL_PRDSCH]; omega) (by simp only [AXL_PRDSCH]; omega))
    have hawake : (s1.setFlag (AXL_PRDSCH a) AXL_PRDSCH_ARM false).awake = true := hs
    refine ⟨?_, ?_, fun _ => (periodLate_reports a.isLt hawake).2⟩
    · unfold State.fld
      rw [hrd, State.setFlag, State.setFld, rd_wr_self, get_put_apart _ _ _ _ (.inr (by decide))]
      exact hperiod1
    · have hclear : (periodLate a s2).flag (AXL_PRDSCH a) AXL_PRDSCH_ARM = false := by
        unfold State.flag
        rw [hrd]
        exact flag_setFlag_self s1 (AXL_PRDSCH a) AXL_PRDSCH_ARM false (by decide) (by decide)
      rw [hclear]
      rcases hpast with h | h
      · rw [h]
        rfl
      · rw [decide_eq_false (Nat.not_lt.mpr h), Bool.and_false]
  next hcome =>
    refine ⟨hperiod1, harm1.trans ?_, fun h => absurd h hcome⟩
    rw [not_or] at hcome
    rw [decide_eq_true (by omega), decide_eq_true (by omega)]
    rfl

/-- Settles O35: a write is accepted and starts what it starts, and what follows an update point leaves the counter alone. -/
theorem startStopAndTimebase : Obligations.StartStopAndTimebase :=
  ⟨startStop, fun _ _ _ hs => ⟨compareWrite_leaves hs, periodWrite_leaves, prdschArm_leaves⟩⟩

end Sys2Proof.Proofs
end

section
/-! WEV: its return, its wait and its timeout (R87). -/

namespace Sys2Proof.Proofs

open Sys2Proof Sys2Proof.Machine Sys2Proof.Safety Sys2Proof.Laws

/-- A WEV has returned `v`: the lines of `v` are no longer pending, and the next instruction follows. -/
structure WevReturned (ga : GReg) (v : Nat) (s t : State) : Prop where
  gr : ∀ r, (t.core .troika).gr r = if r = ga ∧ r ≠ 0 then BitVec.ofNat 32 v else (s.core .troika).gr r
  pc : (t.core .troika).pc = (s.core .troika).pc + 4
  wait : t.troika.wait = .none
  lines : t.wakePend = s.wakePend.filter (fun e => !v.testBit e.2)
  regs : t.regs = s.regs
  mem : t.mem = s.mem

section
variable {s : State} {ga gb : GReg} {v : Nat}

theorem wevTake_returned : WevReturned ga v s (countCycles (wevTake ga v s)) := by
  obtain ⟨hpc, hgr, -⟩ := countCycles_core (wevTake ga v s)
  refine ⟨fun r => (hgr r).trans (gr_setG _ ga r (word v)), hpc.trans ?_, ?_, ?_, ?_, ?_⟩
  · exact congrArg (· + 4) (pc_setG ..)
  all_goals
    rw [countCycles_eq]
    rfl

/-- The Troika notes that it has met a WEV. -/
def wevNoted (s : State) : State := s.updTrk (fun t => { t with wevSeen := true })

/-- What a WEV does on the core. -/
def wevBody (ga gb : GReg) (s : State) : State :=
  let s := wevNoted s
  let c := s.core .troika
  let hit := s.wevHit (c.gr ga)
  if hit ≠ 0 ∨ c.gr gb = 0 ∨ (c.gr ga).toNat % 65536 = 0 then wevTake ga hit s
  else s.updTrk (fun t => { t with wait := .wev ga gb })

theorem exec_wev : exec (.wev ga gb) s = issue .troika (wevBody ga gb) s := rfl

/-- A WEV whose condition holds returns at once. -/
theorem wev_returns (hr : Ready .troika s) (h : s.wevHit ((s.core .troika).gr ga) ≠ 0 ∨ (s.core .troika).gr gb = 0 ∨
    ((s.core .troika).gr ga).toNat % 65536 = 0) :
    ∃ t, exec (.wev ga gb) s = .next t ∧ WevReturned ga (s.wevHit ((s.core .troika).gr ga)) s t := by
  have hex : exec (.wev ga gb) s = .next (countCycles (wevTake ga (s.wevHit ((s.core .troika).gr ga)) (wevNoted s))) :=
    exec_wev.trans (issue_eq hr (show wevBody ga gb s = _ from if_pos h) hr.2)
  obtain ⟨hgr, hpc, hwait, hlines, hregs, hmem⟩ := wevTake_returned (s := wevNoted s) (ga := ga)
    (v := s.wevHit ((s.core .troika).gr ga))
  exact ⟨_, hex, hgr, hpc, hwait, hlines, hregs, hmem⟩

/-- A WEV whose condition does not hold waits. -/
theorem wev_waits (hr : Ready .troika s) (h : ¬(s.wevHit ((s.core .troika).gr ga) ≠ 0 ∨ (s.core .troika).gr gb = 0 ∨
    ((s.core .troika).gr ga).toNat % 65536 = 0)) :
    ∃ t, exec (.wev ga gb) s = .next t ∧ t.troika.wait = .wev ga gb ∧ (t.core .troika).pc = (s.core .troika).pc ∧
      (∀ r, (t.core .troika).gr r = (s.core .troika).gr r) ∧ t.wakePend = s.wakePend := by
  let u := (wevNoted s).updTrk (fun t => { t with wait := .wev ga gb })
  have hex : exec (.wev ga gb) s = .next (countCycles u) :=
    exec_wev.trans (issue_eq hr (show wevBody ga gb s = u from if_neg h) hr.2)
  obtain ⟨hpc, hgr, -⟩ := countCycles_core u
  refine ⟨_, hex, ?_, hpc, hgr, ?_⟩ <;> rw [countCycles_eq] <;> rfl

/-- A wait that ends, with no imprecise error due. -/
theorem wev_ends (hi : s.troika.imprecise = []) :
    deliverImprecise (countCycles (wevTake ga v s)) = countCycles (wevTake ga v s) := by
  have h : (countCycles (wevTake ga v s)).troika.imprecise = [] := by
    rw [countCycles_eq]
    exact hi
  unfold deliverImprecise
  rw [h]

end

/-- Settles O21, by the three ends of a WEV. -/
theorem waitForEvent : Obligations.WaitForEvent := by
  intro s ga gb c lines returned
  have hreturned : ∀ v t, WevReturned ga v s t → returned v t := fun v t h => ⟨h.gr, h.pc, h.wait, h.lines, h.regs, h.mem⟩
  refine ⟨fun hr => ⟨fun h => ?_, fun hl hb hm => wev_waits hr ?_⟩, fun hw hres hi => ⟨fun hl => ?_, fun hl => ?_⟩⟩
  · obtain ⟨t, ht, hret⟩ := wev_returns hr h
    exact ⟨t, ht, hreturned _ t hret⟩
  · rintro (h | h | h)
    · exact h hl
    · exact hb h
    · exact hm h
  · refine ⟨countCycles (wevTake ga lines s), ?_, hreturned _ _ wevTake_returned⟩
    have hcond : (s.trkResumes && decide (s.wevHit ((s.core .troika).gr ga) ≠ 0)) = true := by
      rw [hres, Bool.true_and]
      exact decide_eq_true hl
    have hex : exec .wevReturn s = .next (deliverImprecise (countCycles (wevTake ga lines s))) := by
      simp only [exec, execWevReturn, hw]
      exact if_pos hcond
    rw [hex, wev_ends hi]
  · refine ⟨countCycles (wevTake ga 0 s), ?_, hreturned _ _ wevTake_returned⟩
    have hcond : (s.trkResumes && decide (s.wevHit ((s.core .troika).gr ga) = 0)) = true := by
      rw [hres, Bool.true_and]
      exact decide_eq_true hl
    have hex : exec .wevTimeout s = .next (deliverImprecise (countCycles (wevTake ga 0 s))) := by
      simp only [exec, execWevTimeout, hw]
      exact if_pos hcond
    rw [hex, wev_ends hi]

end Sys2Proof.Proofs
end

section
/-! What a step writes: the registers that it may overwrite, those that may gain flags, and none besides. -/

namespace Sys2Proof.Proofs

open Sys2Proof Sys2Proof.Machine Sys2Proof.Safety Sys2Proof.Laws

/-- The registers that a step may write, each with the number of low bits that may fall; above them flags may rise. -/
abbrev Marks := Nat → Option Nat

/-- A step writes no register but those of `M` and those that report an event. -/
structure Writes (M : Marks) (s t : State) : Prop where
  rd : ∀ o, M o = none → eventRegister o = false → t.rd o = s.rd o
  keeps : ∀ o i, (∀ k, M o = some k → k ≤ i) → eventCounter o = false → i < 24 →
    (s.rd o).getLsbD i = true → (t.rd o).getLsbD i = true

section
variable {M : Marks} {s₀ s t u : State}

theorem Writes.refl : Writes M s s := ⟨fun _ _ _ => rfl, fun _ _ _ _ _ h => h⟩
theorem Writes.trans (h : Writes M s t) (h' : Writes M t u) : Writes M s u :=
  ⟨fun o hm ho => (h'.rd o hm ho).trans (h.rd o hm ho),
    fun o i hm ho hi hs => h'.keeps o i hm ho hi (h.keeps o i hm ho hi hs)⟩
theorem Writes.ite {c : Prop} [Decidable c] (h : Writes M s₀ s) (h' : Writes M s₀ t) : Writes M s₀ (if c then s else t) := by
  split
  · exact h
  · exact h'
theorem Writes.each {α : Type} {xs : List α} {f : α → State → State} (h : Writes M s₀ s)
    (hf : ∀ x ∈ xs, ∀ u, Writes M u (f x u)) : Writes M s₀ (each xs f s) :=
  List.foldlRecOn xs _ h fun _ hu x hx => hu.trans (hf x hx _)
/-- An update outside the registers. -/
theorem Writes.upd (h : Writes M s₀ s) (hr : t.regs = s.regs := by rfl) : Writes M s₀ t := by
  have hrd : ∀ o, t.rd o = s.rd o := fun o => congrArg (fun r => mget regDefault r o) hr
  exact h.trans ⟨fun o _ _ => hrd o, fun o _ _ _ _ hs => by rwa [hrd]⟩
theorem Writes.reports (h : Writes M s₀ s) (h' : Reports s t) : Writes M s₀ t :=
  h.trans ⟨fun o _ ho => h'.rd o ho, fun o i _ ho hi hs => h'.keeps o i hi ho hs⟩
theorem Writes.raise {src : Nat} (h : Writes M s₀ s) : Writes M s₀ (s.raise src) := h.reports (raise_reports ..)

/-- A write that lets none but the marked bits fall. -/
theorem Writes.wrBits {off k : Nat} {w : Word} (h : Writes M s₀ s) (hm : M off = some k)
    (hw : ∀ i, k ≤ i → i < 24 → (s.rd off).getLsbD i = true → w.getLsbD i = true) : Writes M s₀ (s.wr off w) := by
  refine h.trans ⟨fun o ho _ => rd_wr_of_ne s w fun he => ?_, fun o i ho _ hi hs => ?_⟩
  · rw [he, hm] at ho
    exact Option.some_ne_none _ ho
  · by_cases he : o = off
    · subst he
      rw [rd_wr_self]
      exact hw i (ho k hm) hi hs
    · rwa [rd_wr_of_ne s w he]
/-- A write of a register that may be overwritten. -/
theorem Writes.wr {off : Nat} {w : Word} (h : Writes M s₀ s) (hm : M off = some 32) : Writes M s₀ (s.wr off w) :=
  h.wrBits hm fun i hk hi => by omega
theorem Writes.setFldLow {off k n : Nat} {f : Fld} (h : Writes M s₀ s) (hm : M off = some k) (hf : f.lo + f.len ≤ k) :
    Writes M s₀ (s.setFld off f n) := by
  refine h.wrBits hm fun i hk _ hs => ?_
  rw [put_getLsbD, if_neg (by omega)]
  exact hs
theorem Writes.setFld {off n : Nat} {f : Fld} (h : Writes M s₀ s) (hm : M off = some 32) : Writes M s₀ (s.setFld off f n) := h.wr hm
theorem Writes.setFlag {off : Nat} {f : Fld} {b : Bool} (h : Writes M s₀ s) (hm : M off = some 32) :
    Writes M s₀ (s.setFlag off f b) := h.wr hm
theorem Writes.setFlagLow {off k : Nat} {f : Fld} {b : Bool} (h : Writes M s₀ s) (hm : M off = some k) (hf : f.lo + f.len ≤ k) :
    Writes M s₀ (s.setFlag off f b) := h.setFldLow hm hf
theorem Writes.rc {off k : Nat} {f : Fld} (h : Writes M s₀ s) (hm : M off = some 32) : Writes M s₀ (s.rc off f k) := h.wr hm
theorem Writes.rcWrap {off k : Nat} {f : Fld} (h : Writes M s₀ s) (hm : M off = some 32) : Writes M s₀ (s.rcWrap off f k) := h.wr hm
theorem Writes.sqMask {off k : Nat} {m : Word} (h : Writes M s₀ s) (hm : M off = some k) : Writes M s₀ (s.sqMask off m) :=
  h.wrBits hm fun i _ hi hs => by
    have := sqMask_keeps_bit s hi off m hs
    rwa [State.sqMask, rd_wr_self] at this
theorem Writes.sq {off k : Nat} {f : Fld} (h : Writes M s₀ s) (hm : M off = some k) : Writes M s₀ (s.sq off f) := h.sqMask hm

/-! What follows from it. -/

theorem Writes.fld (h : Writes M s t) {o : Nat} (f : Fld) (hm : M o = none) (ho : eventRegister o = false) :
    t.fld o f = s.fld o f := congrArg f.get (h.rd o hm ho)
theorem Writes.flag (h : Writes M s t) {o : Nat} (f : Fld) (hm : M o = none) (ho : eventRegister o = false) :
    t.flag o f = s.flag o f := congrArg f.bit (h.rd o hm ho)
/-- A flag above the bits that may fall stays set. -/
theorem Writes.keepsFlag (h : Writes M s t) {o k : Nat} {f : Fld} (hm : M o = some k) (hk : k ≤ f.lo) (hf : f.lo < 24)
    (ho : eventCounter o = false) (hs : s.flag o f = true) : t.flag o f = true :=
  h.keeps o _ (fun k' hk' => by rw [hm] at hk'; exact Option.some.inj hk' ▸ hk) ho hf hs
/-- A pending event stays pending. -/
theorem Writes.pending (h : Writes M s t) {src : Nat} (hm : M (EVT_PEND (src / 24)) = none) (he : evReserved src = false)
    (hs : s.evPending src = true) : t.evPending src = true :=
  h.keeps _ _ (fun k hk => by rw [hm] at hk; exact absurd hk.symm (Option.some_ne_none _)) (evPend_not_counter (evReserved_div he))
    (Nat.mod_lt _ (by decide)) hs

end

end Sys2Proof.Proofs
end

section
/-! XCH, SIG and FENCE (R88 to R90), and what a finding of the Whiffletree leaves (R234, R238). -/

namespace Sys2Proof.Proofs

open Sys2Proof Sys2Proof.Machine Sys2Proof.Safety Sys2Proof.Laws

/-! ### Findings of the Whiffletree -/

/-- TRK_STAT above its state fields gains flags; TRK_DBG and TRK_CNT are written. -/
def whiffMarks : Marks := fun o =>
  if o = TRK_STAT then some 15 else if o = TRK_DBG ∨ o = TRK_CNT then some 32 else none

/-- Nothing changes but registers, what reports an event, and the record of the cores in service. -/
def OnlyWhiff (s t : State) : Prop := ∃ regs wakePend cpl words iso ready copying, t = { s with
  regs := regs, wakePend := wakePend, cpl := cpl, lan := { s.lan with words := words }
  troika := { s.troika with isoCount := iso, rejoinReady := ready, copying := copying } }

/-- A core goes out of service, or a flag of the Whiffletree rises. -/
structure WhiffStep (s t : State) : Prop where
  only : OnlyWhiff s t
  writes : Writes whiffMarks s t

section
variable {s₀ s t u : State}

theorem OnlyWhiff.trans (h : OnlyWhiff s t) (h' : OnlyWhiff t u) : OnlyWhiff s u := by
  obtain ⟨_, _, _, _, _, _, _, rfl⟩ := h
  obtain ⟨_, _, _, _, _, _, _, rfl⟩ := h'
  exact ⟨_, _, _, _, _, _, _, rfl⟩
theorem OnlyWhiff.core (h : OnlyWhiff s t) (k : Hart) : t.core k = s.core k := by
  obtain ⟨_, _, _, _, _, _, _, rfl⟩ := h
  cases k <;> rfl
theorem OnlyWhiff.imprecise (h : OnlyWhiff s t) : t.troika.imprecise = s.troika.imprecise := by
  obtain ⟨_, _, _, _, _, _, _, rfl⟩ := h; rfl
theorem OnlyWhiff.held (h : OnlyWhiff s t) : t.troika.heldAccess = s.troika.heldAccess := by
  obtain ⟨_, _, _, _, _, _, _, rfl⟩ := h; rfl
theorem OnlyWhiff.awake (h : OnlyWhiff s t) : t.awake = s.awake := by obtain ⟨_, _, _, _, _, _, _, rfl⟩ := h; rfl
theorem OnlyWhiff.events (h : OnlyEvents s t) : OnlyWhiff s t := by
  obtain ⟨_, _, _, _, rfl⟩ := h
  exact ⟨_, _, _, _, _, _, _, rfl⟩

theorem WhiffStep.refl : WhiffStep s s := ⟨⟨_, _, _, _, _, _, _, rfl⟩, .refl⟩
theorem WhiffStep.trans (h : WhiffStep s t) (h' : WhiffStep t u) : WhiffStep s u :=
  ⟨h.only.trans h'.only, h.writes.trans h'.writes⟩
theorem WhiffStep.ite {c : Prop} [Decidable c] (h : WhiffStep s₀ s) (h' : WhiffStep s₀ t) : WhiffStep s₀ (if c then s else t) := by
  split
  · exact h
  · exact h'
theorem WhiffStep.setStat {f : Fld} {n : Nat} (h : WhiffStep s₀ s) (hf : f.lo + f.len ≤ 15) :
    WhiffStep s₀ (s.setFld TRK_STAT f n) :=
  h.trans ⟨⟨_, _, _, _, _, _, _, rfl⟩, Writes.refl.setFldLow (k := 15) (by decide) hf⟩
theorem WhiffStep.setStatFlag {f : Fld} {b : Bool} (h : WhiffStep s₀ s) (hf : f.lo + f.len ≤ 15) :
    WhiffStep s₀ (s.setFlag TRK_STAT f b) := h.setStat hf
theorem WhiffStep.sq {f : Fld} (h : WhiffStep s₀ s) : WhiffStep s₀ (s.sq TRK_STAT f) :=
  h.trans ⟨⟨_, _, _, _, _, _, _, rfl⟩, Writes.refl.sq (k := 15) (by decide)⟩
theorem WhiffStep.setDbg {f : Fld} {b : Bool} (h : WhiffStep s₀ s) : WhiffStep s₀ (s.setFlag TRK_DBG f b) :=
  h.trans ⟨⟨_, _, _, _, _, _, _, rfl⟩, Writes.refl.setFlag (by decide)⟩
theorem WhiffStep.rc {f : Fld} {k : Nat} (h : WhiffStep s₀ s) : WhiffStep s₀ (s.rc TRK_CNT f k) :=
  h.trans ⟨⟨_, _, _, _, _, _, _, rfl⟩, Writes.refl.rc (by decide)⟩
theorem WhiffStep.raise {src : Nat} (h : WhiffStep s₀ s) : WhiffStep s₀ (s.raise src) :=
  h.trans ⟨.events (raise_onlyEvents ..), Writes.refl.raise⟩
theorem WhiffStep.setLeadOut (h : WhiffStep s₀ s) : WhiffStep s₀ (setLeadOut s) := h.setDbg
theorem WhiffStep.excludeCore {k : Nat} (h : WhiffStep s₀ s) : WhiffStep s₀ (excludeCore k s) := by
  unfold Machine.excludeCore
  extract_lets +onlyGivenNames w s1 s2
  have h1 : WhiffStep s₀ s1 := ite (h.trans ⟨⟨_, _, _, _, _, _, _, rfl⟩, Writes.refl.upd⟩) h
  have h2 : WhiffStep s₀ s2 := ((h1.setStat (by decide)).setStat (by decide)).setStatFlag (by decide)
  exact h2.sq.setLeadOut.raise
theorem WhiffStep.isolateCore {k : Nat} (h : WhiffStep s₀ s) : WhiffStep s₀ (isolateCore k s) := by
  unfold Machine.isolateCore
  extract_lets +onlyGivenNames n s1 s2
  have h1 : WhiffStep s₀ s1 := h.trans ⟨⟨_, _, _, _, _, _, _, rfl⟩, Writes.refl.upd⟩
  have h2 : WhiffStep s₀ s2 := (h1.setStat (by decide)).setStatFlag (by decide)
  exact (ite h2.excludeCore h2).setLeadOut

end

section
variable {s : State} {core kind addr fields : Nat}

/-- A finding names its core (R234). -/
theorem setFinding_core (hc : core < 4) : (setFinding core kind addr fields s).fld TRK_LAST TRK_LAST_CORE = core := by
  unfold setFinding
  extract_lets w1 w2 w3 s1
  refine (congrArg TRK_LAST_CORE.get (rd_wr_of_ne _ _ (by decide))).trans ?_
  refine (congrArg TRK_LAST_CORE.get (rd_wr_self ..)).trans ?_
  rw [get_put_apart TRK_LAST_FIELDS TRK_LAST_CORE _ _ (.inl (by decide)),
    get_put_apart TRK_LAST_UCNT TRK_LAST_CORE _ _ (.inl (by decide)),
    get_put_apart TRK_LAST_KIND TRK_LAST_CORE _ _ (.inl (by decide)), get_put_self _ _ _ (by decide)]
  exact Nat.mod_eq_of_lt hc

/-- What follows the finding of a mismatch. -/
theorem coreMismatch_after : WhiffStep (setFinding core kind addr fields s) (coreMismatch core kind addr fields s) :=
  WhiffStep.refl.sq.rc.raise.isolateCore

theorem setFinding_frame : setFinding core kind addr fields s = { s with regs := (setFinding core kind addr fields s).regs } := rfl

/-- A mismatch is shown with its core and its event (R238). -/
theorem coreMismatch_shows (hs : s.awake = true) (hc : core < 4) :
    (coreMismatch core kind addr fields s).flag TRK_STAT TRK_STAT_MISM = true ∧
      (coreMismatch core kind addr fields s).fld TRK_LAST TRK_LAST_CORE = core ∧
      (coreMismatch core kind addr fields s).evPending TRK_MISMATCH = true := by
  let f := setFinding core kind addr fields s
  let counted := (f.sq TRK_STAT TRK_STAT_MISM).rc TRK_CNT TRK_CNT_MISM
  have hrest : WhiffStep (counted.raise TRK_MISMATCH) (coreMismatch core kind addr fields s) := WhiffStep.refl.isolateCore
  have hall : WhiffStep (f.sq TRK_STAT TRK_STAT_MISM) (coreMismatch core kind addr fields s) := WhiffStep.refl.rc.raise.isolateCore
  refine ⟨hall.writes.keepsFlag (k := 15) (by decide) (by decide) (by decide) (by decide) ?_, ?_, ?_⟩
  · exact flag_sq_self f TRK_STAT TRK_STAT_MISM (by decide) (by decide)
  · exact (coreMismatch_after.writes.fld _ (by decide) (by decide)).trans (setFinding_core hc)
  · exact hrest.writes.pending (by decide) (by decide) (raise_pending counted (by decide) hs)

/-- The Troika stops with UNLOC, and is captured (R238, R240). -/
theorem unlocated_shows (hs : s.awake = true) : (unlocated s).flag TRK_STAT TRK_STAT_STOP = true ∧
    (unlocated s).flag TRK_STAT TRK_STAT_UNLOC = true ∧ (unlocated s).evPending TRK_FATAL = true ∧
    (unlocated s).troika = s.troika := by
  let stopped := stopIssue (s.sq TRK_STAT TRK_STAT_UNLOC)
  have hcap : unlocated s = capture 1 TRK_FATAL (stopped.raise TRK_FATAL) := rfl
  have hrd : (stopped.raise TRK_FATAL).rd TRK_STAT = stopped.rd TRK_STAT := raise_rd_apart _ _ (by decide)
  rw [hcap, capture_flag, capture_flag, capture_evPending, capture_troika]
  refine ⟨?_, ?_, raise_pending stopped (by decide) hs, ?_⟩
  · exact (congrArg TRK_STAT_STOP.bit hrd).trans (flag_setFlag_self _ TRK_STAT TRK_STAT_STOP true (by decide) (by decide))
  · refine (congrArg TRK_STAT_UNLOC.bit hrd).trans ((flag_setFlag_other _ (.inr (by decide))).trans ?_)
    exact flag_sq_self s TRK_STAT TRK_STAT_UNLOC (by decide) (by decide)
  · obtain ⟨_, _, _, _, he⟩ := raise_onlyEvents stopped TRK_FATAL
    rw [he]
    rfl

end

/-! ### XCH (R88, R238) -/

section
variable {s : State} {ga gb : GReg}

/-- What XCH does on the cores with no store waiting. -/
def xchBody (ga gb : GReg) (upset : BitVec 32 × BitVec 32 × BitVec 32) (s : State) : State :=
  let x := (s.core .troika).gr ga
  match (compareCores s.outCores upset).1 with
  | .all => retire .troika (fun c => c.setG gb (x ^^^ (compareCores s.outCores upset).2)) s
  | .odd k => retire .troika (fun c => c.setG gb (x ^^^ (compareCores s.outCores upset).2)) (coreMismatch k.val kXch 0 fXch s)
  | _ => retire .troika (fun c => c.setG gb 0) (unlocated (setFinding 3 kXch 0 fXch s))

theorem drainStores_none (hb : s.troika.storeBuf = []) : drainStores s = s := by
  unfold drainStores
  rw [hb]
  rfl

theorem exec_xch {upset : BitVec 32 × BitVec 32 × BitVec 32} (hb : s.troika.storeBuf = []) {u : State}
    (hu : xchBody ga gb upset s = u) (hh : u.troika.heldAccess = s.troika.heldAccess) :
    exec (.xch ga gb upset false) s = issue .troika (fun _ => u) s := by
  simp only [exec, execXch, trk]
  refine issue_congr ?_
  have hbody : (fun s =>
      let s := drainStores s
      let x := (s.core .troika).gr ga
      let (g, d) := compareCores s.outCores upset
      let set := fun (v : Word) => retire .troika (fun c => c.setG gb v)
      if false && decide (s.fld TRK_STAT TRK_STAT_VOTER = 0) then copyDisagreement 0 fXch s
      else match g with
      | .all => set (x ^^^ d) s
      | .odd k => set (x ^^^ d) (coreMismatch k.val kXch 0 fXch s)
      | _ => set 0 (unlocated (setFinding 3 kXch 0 fXch s))) s = u := by
    rw [← hu]
    simp only [drainStores_none hb, Bool.false_and, Bool.false_eq_true, if_false]
    unfold xchBody
    rfl
  exact (heldBy_of_not_held ((congrArg (·.troika.heldAccess) hbody).trans hh)).trans hbody

theorem compareCores_same (out : Nat) (d : BitVec 32) : compareCores out (d, d, d) = (.all, d) := by
  simp only [compareCores, if_true, ite_self]

theorem compareCores_odd {d e : BitVec 32} (h : d ≠ e) : compareCores 0 (e, d, d) = (.odd 0, d) := by
  simp only [compareCores, Nat.zero_testBit, Bool.false_eq_true, if_false, if_neg (Ne.symm h), if_true]

theorem compareCores_none {d e f : BitVec 32} (h1 : d ≠ e) (h2 : d ≠ f) (h3 : e ≠ f) :
    compareCores 0 (d, e, f) = (.allDiffer, 0) := by
  simp only [compareCores, Nat.zero_testBit, Bool.false_eq_true, if_false, if_neg h1, if_neg h2, if_neg h3]

/-- An instruction that writes a general register in a state with the same cores. -/
theorem issue_setG_after {u : State} {rd : GReg} {v : Word} (hr : Ready .troika s) (hc : u.core .troika = s.core .troika)
    (hi : u.troika.imprecise = []) {body : State → State} (hb : body s = retire .troika (fun c => c.setG rd v) u) :
    ∃ t, issue .troika body s = .next t ∧ (∀ r, (t.core .troika).gr r = if r = rd ∧ r ≠ 0 then v else (s.core .troika).gr r) ∧
      t.regs = u.regs := by
  refine ⟨_, issue_eq hr hb hi, fun r => ?_, ?_⟩
  · obtain ⟨-, hgr, -⟩ := afterIssue_core .troika (retire .troika (fun c => c.setG rd v) u)
    rw [hgr, ← hc]
    exact gr_setG _ rd r v
  · exact afterIssue_regs ..

theorem xch_same (hr : Ready .troika s) (hb : s.troika.storeBuf = []) (d : BitVec 32) :
    ∃ t, exec (.xch ga gb (d, d, d) false) s = .next t ∧ RetiresG .troika gb ((s.core .troika).gr ga ^^^ d) 0 s t := by
  have hbody : xchBody ga gb (d, d, d) s = retire .troika (fun c => c.setG gb ((s.core .troika).gr ga ^^^ d)) s := by
    simp only [xchBody, compareCores_same]
  obtain ⟨t, ht, hret⟩ := issue_retire_writesG hr (f := fun c => c.setG gb ((s.core .troika).gr ga ^^^ d))
    (pc_setG ..) (writesG_setG .troika gb ((s.core .troika).gr ga ^^^ d) (s.core .troika))
  exact ⟨t, ((exec_xch hb hbody rfl).trans (issue_congr rfl)).trans ht, hret⟩

theorem xch_odd (hr : Ready .troika s) (hb : s.troika.storeBuf = []) {d e : BitVec 32} (h : d ≠ e) (ho : s.outCores = 0) :
    ∃ t, exec (.xch ga gb (e, d, d) false) s = .next t ∧
      (∀ r, (t.core .troika).gr r = if r = gb ∧ r ≠ 0 then (s.core .troika).gr ga ^^^ d else (s.core .troika).gr r) ∧
      t.flag TRK_STAT TRK_STAT_MISM = true ∧ t.fld TRK_LAST TRK_LAST_CORE = 0 ∧ t.evPending TRK_MISMATCH = true := by
  have hs := (ready_troika hr).1
  let m := coreMismatch 0 kXch 0 fXch s
  have honly : OnlyWhiff (setFinding 0 kXch 0 fXch s) m := coreMismatch_after.only
  have hbody : xchBody ga gb (e, d, d) s = retire .troika (fun c => c.setG gb ((s.core .troika).gr ga ^^^ d)) m := by
    simp only [xchBody, ho, compareCores_odd h]
    rfl
  obtain ⟨t, ht, hgr, hregs⟩ := issue_setG_after (rd := gb) (v := (s.core .troika).gr ga ^^^ d) hr (honly.core .troika)
    (honly.imprecise.trans hr.2) (body := fun _ => retire .troika (fun c => c.setG gb ((s.core .troika).gr ga ^^^ d)) m) rfl
  obtain ⟨h1, h2, h3⟩ := coreMismatch_shows (kind := kXch) (addr := 0) (fields := fXch) hs (show 0 < 4 by decide)
  have hrd : ∀ o, t.rd o = m.rd o := fun o => congrArg (fun r => mget regDefault r o) hregs
  refine ⟨t, (exec_xch hb hbody honly.held).trans ht, hgr, ?_, ?_, ?_⟩
  · rw [State.flag, hrd]; exact h1
  · rw [State.fld, hrd]; exact h2
  · rw [State.evPending, hrd]; exact h3

theorem xch_none (hr : Ready .troika s) (hb : s.troika.storeBuf = []) {d e f : BitVec 32} (h1 : d ≠ e) (h2 : d ≠ f) (h3 : e ≠ f)
    (ho : s.outCores = 0) : ∃ t, exec (.xch ga gb (d, e, f) false) s = .next t ∧
      (∀ r, (t.core .troika).gr r = if r = gb then 0 else (s.core .troika).gr r) ∧ t.flag TRK_STAT TRK_STAT_STOP = true ∧
      t.flag TRK_STAT TRK_STAT_UNLOC = true := by
  have hs := (ready_troika hr).1
  let m := unlocated (setFinding 3 kXch 0 fXch s)
  obtain ⟨hstop, hunloc, -, htrk⟩ := unlocated_shows (s := setFinding 3 kXch 0 fXch s) hs
  have hbody : xchBody ga gb (d, e, f) s = retire .troika (fun c => c.setG gb 0) m := by
    simp only [xchBody, ho, compareCores_none h1 h2 h3]
    rfl
  obtain ⟨t, ht, hgr, hregs⟩ := issue_setG_after (rd := gb) (v := 0) hr (congrArg Troika.core htrk)
    ((congrArg Troika.imprecise htrk).trans hr.2) (body := fun _ => retire .troika (fun c => c.setG gb 0) m) rfl
  have hrd : ∀ o, t.rd o = m.rd o := fun o => congrArg (fun r => mget regDefault r o) hregs
  refine ⟨t, (exec_xch hb hbody (show m.troika.heldAccess = _ from congrArg Troika.heldAccess htrk)).trans ht, fun r => ?_, ?_, ?_⟩
  · rw [hgr]
    by_cases h0 : r = 0
    · subst h0
      rw [if_neg (by simp)]
      split <;> rfl
    · simp only [ne_eq, h0, not_false_eq_true, and_true]
  · rw [State.flag, hrd]; exact hstop
  · rw [State.flag, hrd]; exact hunloc

/-! ### SIG (R89) -/

/-- The cycle count leaves the wait and the signatures. -/
theorem countCycles_troika (u : State) : (countCycles u).troika.wait = u.troika.wait ∧
    (countCycles u).troika.sigS = u.troika.sigS ∧ (countCycles u).troika.sigVoted = u.troika.sigVoted := by
  rw [countCycles_eq]
  exact ⟨rfl, rfl, rfl⟩

/-- What SIG leaves where no scrub finds a difference, its fold being `v`. -/
def sigBody (v : Word) (s : State) : State :=
  retire .troika id (s.updTrk (fun t => { t with sigS := v, sigVoted := v, scrub := none }))

theorem exec_sig (hp : (s.core .troika).passenger = false) {differs : Bool} (hd : differs = true → s.troika.scrub = none) :
    exec (.sig ga differs) s = issue .troika (fun _ => sigBody (crc32c (sigBytes (s.core .troika) s.troika.sigS ga)) s) s := by
  have hno : (differs && s.troika.scrub.isSome) = false := by
    cases differs with
    | false => rfl
    | true => rw [hd rfl]; rfl
  simp only [exec, execSig, trk]
  refine issue_congr ?_
  simp only [hp, hno, Bool.false_eq_true, if_false]
  rfl

/-- SIG retires with its fold as the signature. -/
theorem sigBody_leaves (hr : Ready .troika s) (v : Word) : ∃ t, issue .troika (fun _ => sigBody v s) s = .next t ∧
    t.troika.sigS = v ∧ t.troika.sigVoted = v ∧ (t.core .troika).pc = (s.core .troika).pc + 4 ∧
      WritesG .troika 0 0 0 (s.core .troika) (t.core .troika) ∧ t.regs = s.regs ∧ t.mem = s.mem := by
  refine ⟨countCycles (sigBody v s), issue_troika hr _ hr.2, ?_⟩
  have hsame := countCycles_core (sigBody v s)
  obtain ⟨hmem, hregs, -⟩ := countCycles_frame (sigBody v s)
  obtain ⟨-, hsig, hvoted⟩ := countCycles_troika (sigBody v s)
  exact ⟨hsig, hvoted, hsame.1, writesG_of_sameRegisters (d := (s.core .troika).advance) (writesG_none ..) hsame, hregs, hmem⟩

theorem byteOf_eq {n : Nat} (x : BitVec n) (k : Nat) : byteOf x k = BitVec.ofNat 8 (x.toNat / 256 ^ k) := by
  refine BitVec.eq_of_toNat_eq ?_
  have h : 2 ^ (8 * k) = 256 ^ k := by rw [Nat.pow_mul]
  simp only [byteOf, BitVec.extractLsb'_toNat, Nat.shiftRight_eq_div_pow, h, BitVec.toNat_ofNat]

/-- The bytes that SIG folds, as numbers (R89). -/
theorem sigBytes_eq (c : CoreState) (sig : Word) (ga : GReg) :
    let le := fun (n : Nat) (x : Nat) => (List.range n).map (fun k => BitVec.ofNat 8 (x / 256 ^ k))
    sigBytes c sig ga = le 4 sig.toNat ++ (List.range 31).flatMap (fun k => le 4 (c.gr (BitVec.ofNat 5 (k + 1))).toNat)
      ++ (List.range 8).flatMap (fun k => le 16 (c.vr (BitVec.ofNat 3 k)).toNat)
      ++ (List.range 4).flatMap (fun k => le 9 (c.ar (BitVec.ofNat 2 k)).toNat) ++ le 4 (c.cx cFSTAT).toNat
      ++ le 4 (c.gr ga).toNat := by
  intro le
  have hle : ∀ {n : Nat} (k : Nat) (x : BitVec n), (List.range k).map (byteOf x) = le k x.toNat :=
    fun k x => List.map_congr_left fun j _ => byteOf_eq x j
  unfold sigBytes
  simp only [hle]

theorem sig_leaves (hr : Ready .troika s) (hp : (s.core .troika).passenger = false) {differs : Bool}
    (hd : differs = true → s.troika.scrub = none) : ∃ t, exec (.sig ga differs) s = .next t ∧
      t.troika.sigS = crc32c (sigBytes (s.core .troika) s.troika.sigS ga) ∧
      t.troika.sigVoted = crc32c (sigBytes (s.core .troika) s.troika.sigS ga) ∧
      (t.core .troika).pc = (s.core .troika).pc + 4 ∧ WritesG .troika 0 0 0 (s.core .troika) (t.core .troika) ∧
      t.regs = s.regs ∧ t.mem = s.mem := by
  obtain ⟨t, ht, h⟩ := sigBody_leaves hr (crc32c (sigBytes (s.core .troika) s.troika.sigS ga))
  exact ⟨t, (exec_sig hp hd).trans ht, h⟩

/-! ### FENCE (R90) -/

/-- What a FENCE does with no store waiting and no imprecise error due. -/
theorem exec_fence (hr : Ready .troika s) (hb : s.troika.storeBuf = []) (sel : BitVec 4) :
    exec (.fence sel) s = issue .troika (fun s => if sel.getLsbD 3 && s.remoteStores then
      s.updTrk (fun t => { t with wait := .fenceC }) else retire .troika id s) s := by
  simp only [exec, execFence, trk]
  refine issue_congr ?_
  simp only [drainStores_none hb, ite_self, hr.2, List.isEmpty_nil, Bool.not_true, Bool.and_false, Bool.false_eq_true, if_false]

theorem fence_holds (hr : Ready .troika s) (hb : s.troika.storeBuf = []) {sel : BitVec 4}
    (h : sel.getLsbD 3 = true → s.remoteStores = false) :
    ∃ t, exec (.fence sel) s = .next t ∧ RetiresG .troika 0 0 0 s t := by
  have hno : (sel.getLsbD 3 && s.remoteStores) = false := by
    cases hsel : sel.getLsbD 3 with
    | false => rfl
    | true => rw [h hsel]; rfl
  obtain ⟨t, ht, hret⟩ := issue_retire_writesG hr (f := id) (rd := 0) (v := 0) (fl := 0) rfl (writesG_none ..)
  refine ⟨t, (exec_fence hr hb sel).trans ((issue_congr ?_).trans ht), hret⟩
  simp only [hno, Bool.false_eq_true, if_false]

theorem fence_waits (hr : Ready .troika s) (hb : s.troika.storeBuf = []) {sel : BitVec 4} (h : sel.getLsbD 3 = true)
    (hs : s.remoteStores = true) :
    ∃ t, exec (.fence sel) s = .next t ∧ t.troika.wait = .fenceC ∧ (t.core .troika).pc = (s.core .troika).pc := by
  let u := s.updTrk (fun t => { t with wait := .fenceC })
  have hex : exec (.fence sel) s = .next (countCycles u) :=
    (exec_fence hr hb sel).trans (issue_eq hr (if_pos (by rw [h, hs]; rfl)) hr.2)
  exact ⟨_, hex, (countCycles_troika u).1, (countCycles_core u).1⟩

end

/-- Settles O22: XCH by what the cores' values agree on, SIG by its fold, FENCE by its condition. -/
theorem exchangeSignatureFence : Obligations.ExchangeSignatureFence := by
  intro s hr hb c
  refine ⟨fun _ _ d => xch_same hr hb d, fun _ _ d e h ho => xch_odd hr hb h ho,
    fun _ _ d e f h1 h2 h3 ho => xch_none hr hb h1 h2 h3 ho, fun hp ga differs hd => ?_, fun sel h => fence_holds hr hb h,
    fun sel h hs => fence_waits hr hb h hs⟩
  obtain ⟨t, ht, h1, h2, h3⟩ := sig_leaves (ga := ga) hr hp hd
  rw [sigBytes_eq] at h1 h2
  exact ⟨t, ht, h1, h2, h3⟩

end Sys2Proof.Proofs
end

section
/-! Register writes: what they leave, what meets them, and what is refused (R27, R30, R32 to R37). -/

namespace Sys2Proof.Proofs

open Sys2Proof Sys2Proof.Machine Sys2Proof.Safety Sys2Proof.Laws

/-! ### An accepted write of a register that starts nothing (R27, R30, R32, R33) -/

section
variable {v : View} {off o : Nat} {c : Card} {ix : List Nat} {data : Word} {n : Nat} {s : State}

/-- The flags that a write clears with a sequence, on a card without any. -/
theorem sqFlags_none (h : ∀ f ∈ c.fields, f.ty ≠ .sq) :
    c.fields.foldl (fun m f => if f.ty = .sq then m ||| f.fld.mask else m) (0 : Word) = 0 :=
  List.foldlRecOn c.fields _ (motive := (· = 0)) rfl fun m hm f hf => by
    rw [if_neg (h f hf)]
    exact hm

/-- Registers apart from those that have sequence clears of their own. -/
theorem sqClear_noFlags {d w : Word} {t : State} (h1 : ¬(0x170380 ≤ o ∧ o < 0x1703C0))
    (h2 : ¬(0x180000 ≤ o ∧ o < 0x180100 ∧ o % 0x40 = 0x08)) : sqClear o ix 0 d w t = t := by
  unfold sqClear
  rw [if_neg h1, if_neg h2, if_pos (.inl rfl)]

/-- Nothing is left of a write to fields that software does not write. -/
theorem writtenWord_readOnly (hr : regAt o = some (c, ix)) (hw : (openFields v c).all (fun f => f.ty = .ro || f.ty = .rz) = true) :
    writtenWord v o data s = s.rd o := by
  rw [writtenWord, hr]
  refine List.foldlRecOn (openFields v c) _ (motive := (· = s.rd o)) rfl fun w hw' f hf => ?_
  have hty : f.ty = .ro ∨ f.ty = .rz := by simpa using List.all_eq_true.mp hw f hf
  have hsw : swField noUpdate (dataAt o data) (s.rd o) f = s.rd o := by
    unfold swField
    rcases hty with h | h <;> rw [h]
  rw [hsw, hw']
  exact put_get_self ..

/-- An accepted write of read-only fields. -/
theorem writeFields_readOnly (hr : regAt o = some (c, ix)) (ha : accepted v o data s = true)
    (hw : (openFields v c).all (fun f => f.ty = .ro || f.ty = .rz) = true) :
    writeFields v off o c ix data noUpdate n s = s.wr o (s.rd o) := by
  simp only [accepted, hr, Bool.and_eq_true, Bool.not_eq_true', List.all_eq_true] at ha
  obtain ⟨⟨⟨_, hp⟩, hch⟩, _⟩ := ha
  have hpriv : notePriv v off c s = s := if_neg (by simpa using hp)
  have hshut : ∀ f ∈ openFields v c, (s.chocks o ix (s.rd o) ((openFields v c).foldl (swField noUpdate (dataAt o data)) (s.rd o)) f &&
      decide (f.fld.get (swField noUpdate (dataAt o data) (s.rd o) f) ≠ f.fld.get (s.rd o))) = false := fun f hf => by simp [hch f hf]
  have hany := List.any_eq_false.mpr fun f hf => Bool.not_eq_true _ ▸ hshut f hf
  have hok := List.filter_eq_self.mpr fun f hf => congrArg not (hshut f hf)
  unfold writeFields
  simp only [hpriv, hwFields_none, hok, hany, hw, Bool.false_and, Bool.false_or, if_true, Bool.false_eq_true, if_false]

/-- The registers that start nothing: SYS_SCRATCH, temperatures, the self-test and the PMU (R31, R357, R360, R281). -/
def startsNothing (o : Nat) : Prop := o = SYS_SCRATCH ∨ 29 ≤ o / 0x10000

theorem wrote_startsNothing (ho : startsNothing o) (old new : Word) (n : Nat) (co : CoUpdate) (before s : State) :
    ∃ at', wrote o old new n co before s = { s with harnessAt := at' } := by
  rcases ho with rfl | ho
  · exact ⟨s.harnessAt, rfl⟩
  · have hharness : ∃ at', harnessStarts before s = { s with harnessAt := at' } := by
      refine List.foldlRecOn (motive := fun u : State => ∃ at' : FMap Nat, u = { s with harnessAt := at' }) _ _ ⟨s.harnessAt, rfl⟩ ?_
      rintro u ⟨_, rfl⟩ h -
      exact ⟨_, rfl⟩
    unfold wrote
    extract_lets win
    have hwin : 29 ≤ win := ho
    rw [if_neg (by omega), if_neg (by omega), if_neg (by omega), if_neg (by omega), if_neg (by omega), if_neg (by omega),
      if_neg (by omega), if_neg (by omega), if_neg (by omega), if_neg (by omega), if_neg (by omega), if_neg (by omega),
      if_neg (by omega), if_neg (by omega), if_neg (by omega), if_neg (by omega), if_neg (by omega), if_neg (by omega),
      if_neg (by omega)]
    split
    · exact hharness
    · exact ⟨s.harnessAt, rfl⟩

/-- A write of such a register, through every alias, writes its fields. -/
theorem writeReg_startsNothing (hf : foldOff off = some o) (ho : startsNothing o) (hr : regAt o = some (c, ix))
    (ha : accepted v o data s = true) (hq : ∀ f ∈ c.fields, f.ty ≠ .sq) (m : Option Nat) :
    ∃ at', writeReg v off data noUpdate m s = { s.wr o (writtenWord v o data s) with harnessAt := at' } := by
  have hrange : ¬(0x80000 ≤ o ∧ o < 0xC0000) ∧ o ≠ LIX_DATA ∧ ¬(0x170380 ≤ o ∧ o < 0x1703C0) ∧ ¬(0x180000 ≤ o ∧ o < 0x180100) := by
    simp only [startsNothing, SYS_SCRATCH, LIX_DATA] at ho ⊢
    omega
  obtain ⟨haxl, hlix, htrip, htm⟩ := hrange
  have hmeets : ∀ n, s.meets o n noUpdate = noUpdate := fun n => if_neg fun h => haxl ⟨h.1, h.2.1⟩
  unfold writeReg
  simp only [hf, hr]
  rw [if_neg fun h => hlix h.1, if_neg fun h => haxl ⟨h.1, h.2.1⟩, hmeets]
  cases hw : (openFields v c).all (fun f => f.ty = .ro || f.ty = .rz) with
  | true =>
    rw [writeFields_readOnly hr ha hw, writtenWord_readOnly hr hw]
    exact ⟨s.harnessAt, rfl⟩
  | false =>
    rw [writeFields_accepted hr ha hw, openFields_of_accepted hr ha, sqFlags_none hq, sqClear_noFlags htrip fun h => htm ⟨h.1, h.2.1⟩]
    exact wrote_startsNothing ho ..

end

/-- Settles O23: the written word stands in the register, and nothing else of the registers changes. -/
theorem registerWriteTypes : Obligations.RegisterWriteTypes := by
  intro v off data s o hf ho hs
  have hex : ∀ t, writeReg v off.toNat data noUpdate none s = t →
      exec (.registerWrite v off data noUpdate) s = .next (syncStretches t) := by
    rintro t rfl
    exact writeCmd_awake hs
  cases hr : regAt o with
  | none =>
    have hnone : writeReg v off.toNat data noUpdate none s = s := by
      unfold writeReg
      simp only [hf, hr]
    refine ⟨_, hex s hnone, ?_⟩
    obtain ⟨_, _, h⟩ := (onlyStretch_syncStretches s).only
    rw [h]
  | some e =>
    obtain ⟨c, ix⟩ := e
    intro ha hq
    obtain ⟨at', hw⟩ := writeReg_startsNothing hf ho hr ha hq none
    refine ⟨_, hex _ hw, ?_, fun x => ?_⟩
    · obtain ⟨_, _, h⟩ := (onlyStretch_syncStretches { s.wr o (writtenWord v o data s) with harnessAt := at' }).only
      rw [h]
      rfl
    · exact (syncStretches_rd ..).trans (rd_wr ..)

end Sys2Proof.Proofs
end

section
/-! Hardware updates that meet a write, and clears with a sequence (R32, R33, R35). -/

namespace Sys2Proof.Proofs

open Sys2Proof Sys2Proof.Machine Sys2Proof.Safety Sys2Proof.Laws

/-! ### Sequence clears (R35) -/

/-- No chock bit covers a field of the card (R37). -/
def unchocked (o : Nat) (c : Card) : Bool :=
  c.fields.all (fun f => decide (f.chock = .none)) && !(decide (0x1C0100 ≤ o) && decide (o < 0x1C0180))

section
variable {v : View} {o : Nat} {c : Card} {ix : List Nat} {data : Word} {s : State}

theorem chocks_unchocked (h : unchocked o c = true) {f : FieldCard} (hf : f ∈ c.fields) (old new : Word) :
    s.chocks o ix old new f = false := by
  simp only [unchocked, Bool.and_eq_true, List.all_eq_true, decide_eq_true_eq, Bool.not_eq_true', Bool.and_eq_false_iff,
    decide_eq_false_iff_not] at h
  obtain ⟨hall, hrange⟩ := h
  simp only [State.chocks, State.chockBits, hall f hf]
  rw [if_neg (by omega)]
  rfl

/-- A write without chock, whose word is not refused (R34), is accepted. -/
theorem accepted_of (hs : s.awake = true) (hr : regAt o = some (c, ix)) (hc : unchocked o c = true)
    (hv : v = .passenger → coachAny c = false) (hb : s.badWrite o (s.rd o) (writtenWord v o data s) = false) :
    accepted v o data s = true := by
  simp only [accepted, hr, hs, hb, Bool.not_false, Bool.and_true, Bool.true_and, Bool.and_eq_true, Bool.not_eq_true',
    List.all_eq_true]
  refine ⟨?_, fun f hf => chocks_unchocked hc ?_ _ _⟩
  · cases v with
    | passenger => simp only [decide_true, Bool.true_and, hv rfl]
    | coachman => rfl
  · unfold openFields at hf
    split at hf
    · split at hf
      · cases hf
      · exact List.mem_of_mem_filter hf
    · exact hf

/-- A write without chock, which no condition of R34 refuses, is accepted. -/
theorem accepted_unchocked (hs : s.awake = true) (hr : regAt o = some (c, ix)) (hc : unchocked o c = true)
    (hv : v = .passenger → coachAny c = false) (hb : ∀ old new, s.badWrite o old new = false) : accepted v o data s = true :=
  accepted_of hs hr hc hv (hb ..)

/-- A write to fields that only hardware sets leaves the word, but for what the sequence clears. -/
theorem writtenWord_hardware (h : isRegister o c ix = true) (ha : accepted v o data s = true)
    (hy : c.fields.all (fun f => decide (f.ty = .ro ∨ f.ty = .sq)) = true) : writtenWord v o data s = s.rd o := by
  rw [writtenWord_eq h ha]
  refine List.foldlRecOn c.fields _ (motive := (· = s.rd o)) rfl fun w hw f hf => ?_
  have hty : f.ty = .ro ∨ f.ty = .sq := of_decide_eq_true (List.all_eq_true.mp hy f hf)
  have hsw : swField noUpdate data (s.rd o) f = s.rd o := by
    unfold swField
    rcases hty with h | h <;> rw [h]
  rw [hw]
  exact (congrArg (fun x => f.fld.put (s.rd o) (f.fld.get x)) hsw).trans (put_get_self ..)

theorem seq_get (w : Word) : seqFld.get w = w.toNat / 2 ^ 24 := by
  have := w.isLt
  simp only [seqFld, Fld.get, Nat.shiftRight_eq_div_pow]
  omega

/-- The clear of flags by their sequence number. -/
theorem sqClear_flags {flags : Word} (hf : flags ≠ 0) (ho : o < 0x170000 ∧ o ≠ SYS_RSTCAUSE) (w : Word) :
    (sqClear o ix flags data w s).rd o =
      (if data.toNat / 2 ^ 24 = (s.rd o).toNat / 2 ^ 24 then s.rd o &&& ~~~ (data &&& flags) else s.rd o) ∧
    ∀ x, x ≠ o → (sqClear o ix flags data w s).rd x = s.rd x := by
  obtain ⟨hlt, hne⟩ := ho
  have hbrk : o ≠ SAFE_BRKSTAT := by simp only [SAFE_BRKSTAT]; omega
  unfold sqClear
  rw [if_neg (by omega), if_neg (by omega)]
  simp only [State.fld, seq_get, hf, false_or, ne_eq, ite_not]
  split
  · rw [if_neg (fun h => hne h.1)]
    exact ⟨rd_wr_self .., fun x hx => rd_wr_of_ne s _ hx⟩
  · exact ⟨rfl, fun _ _ => rfl⟩

/-- A write of flags that clear with a sequence, to a register that starts nothing. -/
theorem sequenceClear {flags : Word} (h : isRegister o c ix = true) (hc : unchocked o c = true)
    (hy : c.fields.all (fun f => decide (f.ty = .ro ∨ f.ty = .sq)) = true) (hun : unscheduled o = true)
    (hm : c.fields.foldl (fun m f => if f.ty = .sq then m ||| f.fld.mask else m) 0 = flags) (hf : flags ≠ 0)
    (ho : o < 0x170000 ∧ o ≠ SYS_RSTCAUSE) (hv : v = .passenger → coachAny c = false)
    (hb : ∀ old new, s.badWrite o old new = false) (hw : ∀ old new n co before u, wrote o old new n co before u = u)
    (hs : s.awake = true) (hlt : o < 2 ^ 21) :
    ∃ t, exec (.registerWrite v (BitVec.ofNat 21 o) data noUpdate) s = .next t ∧
      t.rd o = (if data.toNat / 2 ^ 24 = (s.rd o).toNat / 2 ^ 24 then s.rd o &&& ~~~ (data &&& flags) else s.rd o) ∧
      ∀ x, x ≠ o → t.rd x = s.rd x := by
  have ha : accepted v o data s = true := accepted_unchocked hs (isRegister_iff.mp h).1 hc hv hb
  have hoff : (BitVec.ofNat 21 o).toNat = o := by
    rw [BitVec.toNat_ofNat]
    exact Nat.mod_eq_of_lt hlt
  have hwritten := writtenWord_hardware h ha hy
  refine ⟨_, writeCmd_awake hs, ?_⟩
  rw [hoff, writeReg_fields h, meets_unscheduled hun, writeFields_written h .noUpdate ha, hw, hm, hwritten]
  obtain ⟨h1, h2⟩ := sqClear_flags (ix := ix) (data := data) (s := s.wr o (s.rd o)) hf ho (s.rd o)
  have hsame : ∀ x, (s.wr o (s.rd o)).rd x = s.rd x := fun x => by
    rw [rd_wr]
    split
    · next hx => rw [hx]
    · rfl
  rw [hsame] at h1
  exact ⟨(syncStretches_rd ..).trans h1, fun x hx => (syncStretches_rd ..).trans ((h2 x hx).trans (hsame x))⟩

end

/-- The card of MEM_STAT. -/
def cardMemStat : Card := ⟨0x30000, [], true, 0, [⟨MEM_STAT_SEQ, .ro, false, false, .none⟩, ⟨MEM_STAT_CE, .sq, false, false, .none⟩,
  ⟨MEM_STAT_UE, .sq, false, false, .none⟩, ⟨MEM_STAT_TCOL, .sq, false, false, .none⟩, ⟨MEM_STAT_RETIRE, .sq, false, false, .none⟩]⟩

/-- The card of EVT_PEND. -/
def cardPend : Card := ⟨0x10400, [(4, 11)], false, 0, [⟨EVT_PEND_SEQ, .ro, false, false, .none⟩,
  ⟨EVT_PEND_PEND, .sq, false, false, .none⟩]⟩

theorem sequenceClears : Rules.SequenceClears := by
  rintro v s data o flags (⟨rfl, rfl, rfl⟩ | ⟨n, hn, rfl, rfl⟩) hs
  · refine sequenceClear (c := cardMemStat) (ix := []) (by decide +kernel) (by decide) (by decide) (by decide) (by decide)
      (by decide) (by decide) (fun h => by cases h) (fun old new => ?_) (fun old new m co before u => ?_) hs (by decide)
    · rfl
    · rfl
  · have hreg : ∀ n : Fin 10, isRegister (EVT_PEND n) cardPend [n.val] = true ∧ unscheduled (EVT_PEND n) = true := by
      decide +kernel
    obtain ⟨h1, h2⟩ := hreg ⟨n, hn⟩
    have hwin : EVT_PEND n / 0x10000 = 1 := by simp only [EVT_PEND]; omega
    have hne : EVT_PEND n ≠ EVT_RAISE := Nat.ne_of_lt (by simp only [EVT_PEND, EVT_RAISE]; omega)
    refine sequenceClear (c := cardPend) (ix := [n]) h1 ?_ (by decide) h2 (by decide)
      (by decide) ?_ (fun _ => by decide) (fun old new => ?_) (fun old new m co before u => ?_) hs ?_
    · rw [unchocked, Bool.and_eq_true]
      refine ⟨by decide, ?_⟩
      rw [decide_eq_false (by simp only [EVT_PEND]; omega)]
      rfl
    · simp only [EVT_PEND, SYS_RSTCAUSE]; omega
    · unfold State.badWrite
      rw [hwin, if_neg (by decide), if_pos rfl, decide_eq_false hne]
      rfl
    · unfold wrote
      rw [hwin, if_neg (by decide), if_pos rfl, if_neg hne, if_neg (by simp only [EVT_PEND]; omega)]
    · simp only [EVT_PEND]; omega

/-! ### Hardware updates that meet a write (R32, R33) -/

section
variable {v : View} {o : Nat} {c : Card} {ix : List Nat} {data : Word} {s : State}

/-- The word that a write leaves which meets the updates of hardware (R32, R33). -/
def metWord (co : CoUpdate) (c : Card) (data old : Word) : Word :=
  putFields (fun f => f.fld.get (swField co data old f)) (c.fields.foldl (hwField co) old) c.fields

theorem metWord_get (h : isRegister o c ix = true) (co : CoUpdate) (old : Word) {f : FieldCard} (hf : f ∈ c.fields) :
    f.fld.get (metWord co c data old) = f.fld.get (swField co data old f) := by
  obtain ⟨_, _, _, _, _, hp, hl, _⟩ := isRegister_iff.mp h
  rw [metWord, putFields_self hp hf (hl f hf)]
  exact Nat.mod_eq_of_lt (get_lt ..)

/-- A write without chock, refusal or sequence, whatever update meets it. -/
theorem writeFields_met {co : CoUpdate} {n : Nat} (h : isRegister o c ix = true) (hq : noSequence o c = true)
    (hc : unchocked o c = true) (hv : coachAny c = false) (hb : ∀ old new, s.badWrite o old new = false) :
    writeFields v o o c ix data co n s = wrote o (s.rd o) (metWord co c data (s.rd o)) n co s
      ((if c.fields.any (coLost co) then captureLost v o s else s).wr o (metWord co c data (s.rd o))) := by
  obtain ⟨hr, _, _, _, hd, _, _, hw⟩ := isRegister_iff.mp h
  have hpriv : notePriv v o c s = s := if_neg (by simp [hv])
  have hopen : openFields v c = c.fields := by
    obtain ⟨h1, h2⟩ := Bool.or_eq_false_iff.mp hv
    unfold openFields
    split
    · rw [h1, if_neg Bool.false_ne_true, List.filter_eq_self]
      exact fun f hf => by simpa using List.any_eq_false.mp h2 f hf
    · rfl
  have hshut : ∀ new, ∀ f ∈ c.fields, (s.chocks o ix (s.rd o) new f &&
      decide (f.fld.get (swField noUpdate data (s.rd o) f) ≠ f.fld.get (s.rd o))) = false := fun new f hf => by
    rw [chocks_unchocked hc hf, Bool.false_and]
  have hany := fun new => List.any_eq_false.mpr fun f hf => Bool.not_eq_true _ ▸ hshut new f hf
  have hok := fun new => List.filter_eq_self.mpr fun f hf => congrArg not (hshut new f hf)
  unfold writeFields
  simp only [hpriv, hopen, dataAt, if_neg hd, hok, hany, hw, hb, Bool.false_and, Bool.or_self, Bool.false_eq_true, if_false]
  rw [sqClear_none hq]
  rfl

end

/-- A lost write is shown in SYS_WRLOST. -/
theorem captureLost_shows (v : View) (off : Nat) (s : State) : (captureLost v off s).flag SYS_WRLOST SYS_WRLOST_LOST = true := by
  have hraise : ∀ u : State, (u.raise WR_LOST).flag SYS_WRLOST SYS_WRLOST_LOST = u.flag SYS_WRLOST SYS_WRLOST_LOST :=
    fun u => congrArg SYS_WRLOST_LOST.bit (raise_rd_apart _ _ (by decide))
  unfold captureLost
  refine (hraise _).trans ?_
  split
  · next h => exact (flag_sq_other _ _ (by decide) (by decide)).trans h
  · exact flag_sq_self _ _ _ (by decide) (by decide)

/-- The card of GCH_TRIM. -/
def cardTrim : Card := ⟨0x100004, [(0x40, 256)], false, 0, [⟨GCH_TRIM_TRIM_OFF, .rh, false, false, .none⟩,
  ⟨GCH_TRIM_TRIM_ON, .rh, false, false, .none⟩]⟩

/-- The card of EVT_CNT. -/
def cardEvtCnt : Card := ⟨0x10444, [], false, 0, [⟨⟨16, 16⟩, .rc, false, false, .none⟩, ⟨⟨0, 16⟩, .rc, false, false, .none⟩]⟩

theorem register_trim (c : Fin 256) : plainRegister (GCH_TRIM c) cardTrim [c.val] = true := by
  revert c; decide +kernel

theorem trim_window (c : Fin 256) : GCH_TRIM c / 0x10000 = 16 ∧ GCH_TRIM c % 0x40 = 4 := by
  have := c.isLt
  simp only [GCH_TRIM]; omega

/-- A write of a plain register that starts nothing, whatever update meets it. -/
theorem metWrite {v : View} {o : Nat} {c : Card} {ix : List Nat} {data : Word} {s : State} {co : CoUpdate}
    (h : plainRegister o c ix = true) (hc : unchocked o c = true) (hv : coachAny c = false)
    (hb : ∀ old new, s.badWrite o old new = false) (hw : ∀ old new n co before u, wrote o old new n co before u = u)
    (hs : s.awake = true) (ht : co.t = 0) (hlt : o < 2 ^ 21) :
    exec (.registerWrite v (BitVec.ofNat 21 o) data co) s = .next (syncStretches
      ((if c.fields.any (coLost co) then captureLost v o s else s).wr o (metWord co c data (s.rd o)))) := by
  have hoff : (BitVec.ofNat 21 o).toNat = o := by
    rw [BitVec.toNat_ofNat]
    exact Nat.mod_eq_of_lt hlt
  have hreg := plainRegister_register h
  simp only [plainRegister, Bool.and_eq_true] at h
  obtain ⟨⟨_, hq⟩, ho⟩ := h
  have hwrite : writeReg v o data co none s =
      (if c.fields.any (coLost co) then captureLost v o s else s).wr o (metWord co c data (s.rd o)) := by
    rw [writeReg_fields hreg, meets_unscheduled ho, writeFields_met hreg hq hc hv hb, hw]
  change writeCmd v (BitVec.ofNat 21 o).toNat data co none s = _
  rw [hoff]
  unfold writeCmd
  rw [if_pos hs, ht, at_zero, hwrite]
  rfl

/-- An update of the rising trim that meets a write of GCH_TRIM (R32). -/
theorem trim_meets {v : View} {s : State} {data m x : Word} (c : Fin 256) (hs : s.awake = true) (hon : m &&& 0x7F ≠ 0)
    (hoff : m &&& 0x7F00 = 0) :
    ∃ t, exec (.registerWrite v (BitVec.ofNat 21 (GCH_TRIM c)) data { rhMask := m, rhVal := x }) s = .next t ∧
      t.fld (GCH_TRIM c) GCH_TRIM_TRIM_ON = GCH_TRIM_TRIM_ON.get x ∧
      t.fld (GCH_TRIM c) GCH_TRIM_TRIM_OFF = GCH_TRIM_TRIM_OFF.get data ∧
      t.evPending WR_LOST = true ∧ t.flag SYS_WRLOST SYS_WRLOST_LOST = true := by
  have hplain := register_trim c
  have hreg := plainRegister_register hplain
  obtain ⟨hwin, hmod⟩ := trim_window c
  let co : CoUpdate := { rhMask := m, rhVal := x }
  have hhitOn : coHits co ⟨GCH_TRIM_TRIM_ON, .rh, false, false, .none⟩ = true := decide_eq_true hon
  have hhitOff : coHits co ⟨GCH_TRIM_TRIM_OFF, .rh, false, false, .none⟩ = false := decide_eq_false (not_not.mpr hoff)
  have hlost : cardTrim.fields.any (coLost co) = true := by
    simp only [cardTrim, List.any_cons, List.any_nil, coLost, hhitOn, hhitOff]
    rfl
  have hget : ∀ (f : Fld) (w : Word) (n : Nat), f.lo + f.len ≤ 32 → n < 2 ^ f.len → f.get (f.put w n) = n := fun f w n hl hn =>
    (get_put_self f w n hl).trans (Nat.mod_eq_of_lt hn)
  have hexec := metWrite (v := v) (data := data) (s := s) (co := co) hplain ?_ (by decide) (fun old new => ?_)
    (fun old new n co before u => ?_) hs rfl ?_
  · refine ⟨_, hexec, ?_, ?_, ?_, ?_⟩
    all_goals rw [hlost, if_pos rfl]
    · rw [syncStretches_fld, State.fld, rd_wr_self]
      refine (metWord_get (f := ⟨GCH_TRIM_TRIM_ON, .rh, false, false, .none⟩) hreg co _ (by decide)).trans ?_
      simp only [swField, hhitOn, if_true]
      exact hget _ _ _ (by decide) (get_lt ..)
    · rw [syncStretches_fld, State.fld, rd_wr_self]
      refine (metWord_get (f := ⟨GCH_TRIM_TRIM_OFF, .rh, false, false, .none⟩) hreg co _ (by decide)).trans ?_
      simp only [swField, hhitOff, Bool.false_eq_true, if_false]
      exact hget _ _ _ (by decide) (get_lt ..)
    · rw [syncStretches_evPending, State.evPending, rd_wr_of_ne _ _ (by simp only [EVT_PEND, WR_LOST, GCH_TRIM]; omega)]
      exact captureLost_pending v _ hs
    · rw [syncStretches_flag, State.flag, rd_wr_of_ne _ _ (by simp only [SYS_WRLOST, GCH_TRIM]; omega)]
      exact captureLost_shows ..
  · rw [unchocked, Bool.and_eq_true]
    refine ⟨by decide, ?_⟩
    rw [decide_eq_false (by simp only [GCH_TRIM]; omega)]
    rfl
  · unfold State.badWrite
    simp only [hwin]
    unfold State.badGCH
    rw [hmod]
    rfl
  · unfold wrote
    simp only [hwin]
    unfold wroteGCH
    rw [hmod]
    rfl
  · simp only [GCH_TRIM]; omega

/-- Increments that meet a write of EVT_CNT (R33). -/
theorem eventCount_meets (v : View) {s : State} (data x : Word) (hs : s.awake = true) :
    ∃ t, exec (.registerWrite v (BitVec.ofNat 21 EVT_CNT) data { rcInc := x }) s = .next t ∧
      t.rd EVT_CNT = BitVec.ofNat 32 (min (data.toNat / 65536 + x.toNat / 65536) 65535 * 65536 +
        min (data.toNat % 65536 + x.toNat % 65536) 65535) := by
  have hplain : plainRegister EVT_CNT cardEvtCnt [] = true := by decide +kernel
  have hreg := plainRegister_register hplain
  let co : CoUpdate := { rcInc := x }
  have hlost : cardEvtCnt.fields.any (coLost co) = false := rfl
  have hexec := metWrite (v := v) (data := data) (s := s) (co := co) hplain (by decide) (by decide) (fun old new => rfl)
    (fun old new n co before u => rfl) hs rfl (by decide)
  refine ⟨_, hexec, ?_⟩
  rw [hlost, if_neg Bool.false_ne_true, syncStretches_rd, rd_wr_self]
  generalize s.rd EVT_CNT = old
  have hhi := metWord_get (data := data) (f := ⟨⟨16, 16⟩, .rc, false, false, .none⟩) hreg co old (by decide)
  have hlo := metWord_get (data := data) (f := ⟨⟨0, 16⟩, .rc, false, false, .none⟩) hreg co old (by decide)
  simp only [swField, rcPlus, reduceCtorEq, if_false] at hhi hlo
  rw [get_put_self _ _ _ (by decide)] at hhi hlo
  have hd := data.isLt
  have hx := x.isLt
  generalize metWord co cardEvtCnt data old = w at hhi hlo ⊢
  have hw := w.isLt
  refine BitVec.eq_of_toNat_eq ?_
  simp only [Fld.get, Nat.shiftRight_eq_div_pow, co] at hhi hlo
  rw [BitVec.toNat_ofNat]
  omega

/-- Settles O24: an RH field keeps hardware's value and an RC field takes the increment, by the word that the write leaves;
a flag clears where the data's SEQ is the register's. -/
theorem updatesAndClears : Obligations.UpdatesAndClears :=
  ⟨fun v _ data _ x hs => ⟨fun c hon hoff => trim_meets c hs hon hoff, eventCount_meets v data x hs⟩, sequenceClears⟩

end Sys2Proof.Proofs
end

section
/-! Refused register writes (R27, R34, R37). -/

namespace Sys2Proof.Proofs

open Sys2Proof Sys2Proof.Machine Sys2Proof.Safety Sys2Proof.Laws

/-- What SYS_REFUSED shows of a write refused through a view at an address (R36). -/
structure RefusalShown (v : View) (o cause : Nat) (t : State) : Prop where
  ref : t.flag SYS_REFUSED SYS_REFUSED_REF = true
  cause : t.fld SYS_REFUSED SYS_REFUSED_CAUSE = cause
  view : t.fld SYS_REFUSED SYS_REFUSED_VIEW = viewBit v
  addr : t.fld SYS_REFUSED SYS_REFUSED_ADDR = o / 4

theorem RefusalShown.congr {v : View} {o cause : Nat} {s t : State} (h : RefusalShown v o cause s)
    (hr : t.rd SYS_REFUSED = s.rd SYS_REFUSED) : RefusalShown v o cause t :=
  ⟨(congrArg _ hr).trans h.ref, (congrArg _ hr).trans h.cause, (congrArg _ hr).trans h.view, (congrArg _ hr).trans h.addr⟩

section
variable {v : View} {o cause : Nat} {s : State}

/-- The first refusal is captured. -/
theorem captureRefused_shows (hs : s.flag SYS_REFUSED SYS_REFUSED_REF = false) (ho : o < 2 ^ 21) (hc : cause < 4) :
    RefusalShown v o cause (captureRefused v o cause s) := by
  have hv : viewBit v < 2 := by cases v <;> decide
  unfold captureRefused
  rw [if_neg (by rw [hs]; exact Bool.false_ne_true)]
  refine ⟨flag_sq_self _ _ _ (by decide) (by decide), ?_, ?_, ?_⟩ <;>
    rw [fld_sq_other _ _ (.inr (by decide)) (by decide), State.fld, rd_wr_self]
  · exact (get_put_self _ _ _ (by decide)).trans (Nat.mod_eq_of_lt hc)
  · rw [get_put_apart _ _ _ _ (.inl (by decide)), get_put_apart _ _ _ _ (.inl (by decide)), get_put_self _ _ _ (by decide)]
    exact Nat.mod_eq_of_lt hv
  · rw [get_put_apart _ _ _ _ (.inl (by decide)), get_put_self _ _ _ (by decide)]
    exact Nat.mod_eq_of_lt (by simp only [SYS_REFUSED_ADDR]; omega)

/-- A capture touches SYS_REFUSED alone. -/
theorem captureRefused_rd {x : Nat} (hx : x ≠ SYS_REFUSED) : (captureRefused v o cause s).rd x = s.rd x := by
  unfold captureRefused
  split
  · exact rd_wr_of_ne s _ hx
  · exact (rd_wr_of_ne _ _ hx).trans (rd_wr_of_ne s _ hx)

theorem captureRefused_lan : (captureRefused v o cause s).lan = s.lan := by
  unfold captureRefused
  split <;> rfl

theorem captureRefused_power : (captureRefused v o cause s).power = s.power := by
  unfold captureRefused
  split <;> rfl

theorem captureRefused_awake : (captureRefused v o cause s).awake = s.awake := by
  unfold captureRefused
  split <;> rfl

/-- A refused write leaves its register as it was and is reported. -/
structure Refused (v : View) (o cause ev : Nat) (s t : State) : Prop where
  kept : t.rd o = s.rd o
  pending : t.evPending ev = true
  shown : RefusalShown v o cause t

/-- The report of a refusal by the event first and the capture after it. -/
theorem refused_raise_capture {ev : Nat} (hs : s.awake = true) (hf : s.flag SYS_REFUSED SYS_REFUSED_REF = false) (ho : o < 2 ^ 21)
    (hc : cause < 4) (he : evReserved ev = false) (hne : o ≠ SYS_REFUSED) (hevent : eventRegister o = false) :
    Refused v o cause ev s (captureRefused v o cause (s.raise ev)) where
  kept := (captureRefused_rd hne).trans (raise_rd_apart _ _ hevent)
  pending := by
    have hlt := evReserved_div he
    rw [State.evPending, captureRefused_rd (by simp only [EVT_PEND, SYS_REFUSED]; omega)]
    exact raise_pending s he hs
  shown := captureRefused_shows ((congrArg SYS_REFUSED_REF.bit (raise_rd_apart _ _ (by decide))).trans hf) ho hc

/-- The report of a refusal by the capture first and the event after it. -/
theorem refused_capture_raise {ev : Nat} (hs : s.awake = true) (hf : s.flag SYS_REFUSED SYS_REFUSED_REF = false) (ho : o < 2 ^ 21)
    (hc : cause < 4) (he : evReserved ev = false) (hne : o ≠ SYS_REFUSED) (hevent : eventRegister o = false) :
    Refused v o cause ev s ((captureRefused v o cause s).raise ev) where
  kept := (raise_rd_apart _ _ hevent).trans (captureRefused_rd hne)
  pending := raise_pending _ he (captureRefused_awake.trans hs)
  shown := (captureRefused_shows hf ho hc).congr (raise_rd_apart _ _ (by decide))

/-- What leaves the register, the event and the capture as they are leaves the refusal. -/
theorem Refused.congr {ev : Nat} {t u : State} (h : Refused v o cause ev s t) (hk : u.rd o = t.rd o)
    (hp : t.evPending ev = true → u.evPending ev = true) (hr : u.rd SYS_REFUSED = t.rd SYS_REFUSED) : Refused v o cause ev s u :=
  ⟨hk.trans h.kept, hp h.pending, h.shown.congr hr⟩

/-- A write of the register's own word changes nothing. -/
theorem rd_wr_own {t : State} {w : Word} (hw : w = t.rd o) (x : Nat) : (t.wr o w).rd x = t.rd x := by
  rw [rd_wr]
  split
  · next h => rw [h, hw]
  · rfl

theorem Refused.wr {ev : Nat} {t : State} {w : Word} (h : Refused v o cause ev s t) (hw : w = t.rd o) :
    Refused v o cause ev s (t.wr o w) :=
  h.congr (rd_wr_own hw _) (fun hp => by rwa [State.evPending, rd_wr_own hw]) (rd_wr_own hw _)

theorem Refused.settled {ev : Nat} {t : State} (h : Refused v o cause ev s t) : Refused v o cause ev s (syncStretches t) :=
  h.congr (syncStretches_rd ..) (fun hp => (syncStretches_evPending ..).trans hp) (syncStretches_rd ..)

/-- A register write as a command. -/
theorem exec_registerWrite {data : Word} (hs : s.awake = true) (ho : o < 2 ^ 21) :
    exec (.registerWrite v (BitVec.ofNat 21 o) data noUpdate) s = .next (syncStretches (writeReg v o data noUpdate none s)) := by
  have hoff : (BitVec.ofNat 21 o).toNat = o := by
    rw [BitVec.toNat_ofNat]
    exact Nat.mod_eq_of_lt ho
  change writeCmd v (BitVec.ofNat 21 o).toNat data noUpdate none s = _
  rw [hoff, writeCmd_awake hs]
  rfl

end

/-! ### The three causes -/

/-- A Coachman register through the Passenger view (R27). -/
theorem writeFields_private {o : Nat} {c : Card} {ix : List Nat} {data : Word} {n : Nat} {s : State} (hc : c.coach = true) :
    writeFields .passenger o o c ix data noUpdate n s =
      (captureRefused .passenger o 2 (s.raise PRIV_VIOL)).wr o ((captureRefused .passenger o 2 (s.raise PRIV_VIOL)).rd o) := by
  have hpriv : notePriv .passenger o c s = captureRefused .passenger o 2 (s.raise PRIV_VIOL) :=
    if_pos ⟨rfl, by rw [coachAny, hc, Bool.true_or]⟩
  have hopen : openFields .passenger c = [] := by rw [openFields, if_pos rfl, hc, if_pos rfl]
  unfold writeFields
  simp only [hpriv, hopen, hwFields_none, List.any_nil, List.filter_nil, List.all_nil, Bool.or_true, if_true,
    Bool.false_eq_true, if_false]

/-- The card of TRK_CFG. -/
def cardTrkCfg : Card := ⟨0x20004, [], true, 0x00040203, [⟨⟨16, 4⟩, .rw, false, false, .none⟩, ⟨⟨8, 4⟩, .rw, false, false, .none⟩,
  ⟨⟨1, 1⟩, .rw, false, false, .none⟩, ⟨⟨0, 1⟩, .rw, false, false, .none⟩]⟩

theorem trkCfg_refused {s : State} (data : Word) (hs : s.awake = true) (hf : s.flag SYS_REFUSED SYS_REFUSED_REF = false) :
    Refused .passenger TRK_CFG 2 PRIV_VIOL s (syncStretches (writeReg .passenger TRK_CFG data noUpdate none s)) := by
  have hplain : plainRegister TRK_CFG cardTrkCfg [] = true := by decide +kernel
  have hun : unscheduled TRK_CFG = true := by decide
  rw [writeReg_fields (plainRegister_register hplain), meets_unscheduled hun, writeFields_private rfl]
  exact ((refused_raise_capture hs hf (by decide) (by decide) (by decide) (by decide) (by decide)).wr rfl).settled

/-- The card of CPL_TXTO. -/
def cardTxto : Card := ⟨0x1C0010, [], true, 0x64, [⟨CPL_TXTO_TIMEOUT, .rw, false, false, .bit 11⟩]⟩

/-- A count of zero is refused (R34). -/
theorem txto_refused {s : State} {data : Word} (hs : s.awake = true) (hf : s.flag SYS_REFUSED SYS_REFUSED_REF = false)
    (hc : s.rd SYS_CHOCK = 0) (hd : data.toNat % 65536 = 0) :
    Refused .coachman CPL_TXTO 0 BAD_VALUE s (syncStretches (writeReg .coachman CPL_TXTO data noUpdate none s)) := by
  have hplain : plainRegister CPL_TXTO cardTxto [] = true := by decide +kernel
  have hun : unscheduled CPL_TXTO = true := by decide
  have hchock : ∀ old new f, s.chocks CPL_TXTO [] old new f = false := fun old new f => by
    rw [State.chocks, hc]
    exact List.any_eq_false.mpr fun b _ => by simp
  have hbad : ∀ old w, CPL_TXTO_TIMEOUT.get w = 0 → s.badWrite CPL_TXTO old w = true := fun old w hw => decide_eq_true hw
  have hdata : CPL_TXTO_TIMEOUT.get data = 0 := by
    simp only [CPL_TXTO_TIMEOUT, Fld.get, Nat.shiftRight_zero]
    exact hd
  have hwrite : writeFields .coachman CPL_TXTO CPL_TXTO cardTxto [] data noUpdate
      ((none : Option Nat).getD (s.countNow (([] : List Nat).headD 0))) s =
      badValue .coachman CPL_TXTO (s.wr CPL_TXTO (s.rd CPL_TXTO)) := by
    have hpriv : notePriv .coachman CPL_TXTO cardTxto s = s := if_neg fun h => by cases h.1
    have hopen : openFields .coachman cardTxto = cardTxto.fields := rfl
    unfold writeFields
    have hany : (cardTxto.fields.any fun _ => false) = false := rfl
    have hall : cardTxto.fields.filter (fun _ => true) = cardTxto.fields := rfl
    have hopenFields : cardTxto.fields.all (fun f => f.ty = .ro || f.ty = .rz) = false := rfl
    simp only [hpriv, hopen, hwFields_none, hchock, Bool.false_and, Bool.not_false, hany, hall, hopenFields, Bool.or_self,
      Bool.false_eq_true, if_false]
    rw [hbad]
    · rfl
    · have hget : ∀ w n, CPL_TXTO_TIMEOUT.get (CPL_TXTO_TIMEOUT.put w n) = n % 2 ^ 16 := fun w n => get_put_self _ w n (by decide)
      refine (hget ..).trans ?_
      change CPL_TXTO_TIMEOUT.get (CPL_TXTO_TIMEOUT.put (s.rd CPL_TXTO) (CPL_TXTO_TIMEOUT.get data)) % 2 ^ 16 = 0
      rw [hget, hdata]
      rfl
  rw [writeReg_fields (plainRegister_register hplain), meets_unscheduled hun, hwrite]
  have hown : ∀ x, (s.wr CPL_TXTO (s.rd CPL_TXTO)).rd x = s.rd x := rd_wr_own rfl
  have h := refused_capture_raise (v := .coachman) (o := CPL_TXTO) (cause := 0) (ev := BAD_VALUE) (s := s.wr CPL_TXTO (s.rd CPL_TXTO))
    hs ((congrArg SYS_REFUSED_REF.bit (hown _)).trans hf) (by decide) (by decide) (by decide) (by decide) (by decide)
  exact (Refused.mk (h.kept.trans (hown _)) h.pending h.shown).settled

/-! ### Chocked fields (R37) -/

section
variable {v : View} {o : Nat} {c : Card} {ix : List Nat} {data : Word} {s : State}

/-- A write that would change a chocked field, where every field is chocked: the capture, and the word as it was. -/
theorem writeFields_chocked {n : Nat} (h : isRegister o c ix = true) (hq : noSequence o c = true) (hv : coachAny c = false)
    (hc : ∀ old new, ∀ f ∈ c.fields, s.chocks o ix old new f = true)
    (hd : ∃ f ∈ c.fields, f.fld.get (swField noUpdate data (s.rd o) f) ≠ f.fld.get (s.rd o))
    (hb : ∀ (u : State) old new, u.badWrite o old new = false) :
    let u := (captureRefused v o 1 (s.raise CHOCK_VIOL)).wr o (s.rd o)
    writeFields v o o c ix data noUpdate n s = u ∨
      writeFields v o o c ix data noUpdate n s = wrote o (s.rd o) (s.rd o) n noUpdate s u := by
  obtain ⟨hr, _, _, _, hdata, _, _, hw⟩ := isRegister_iff.mp h
  have hpriv : notePriv v o c s = s := if_neg (by simp [hv])
  have hopen : openFields v c = c.fields := by
    obtain ⟨h1, h2⟩ := Bool.or_eq_false_iff.mp hv
    unfold openFields
    split
    · rw [h1, if_neg Bool.false_ne_true, List.filter_eq_self]
      exact fun f hf => by simpa using List.any_eq_false.mp h2 f hf
    · rfl
  have hany : ∀ new, c.fields.any (fun f => s.chocks o ix (s.rd o) new f &&
      decide (f.fld.get (swField noUpdate data (s.rd o) f) ≠ f.fld.get (s.rd o))) = true := fun new => by
    obtain ⟨f, hf, hne⟩ := hd
    exact List.any_eq_true.mpr ⟨f, hf, by rw [hc _ _ f hf, decide_eq_true hne, Bool.and_self]⟩
  have hkeep : (c.fields.filter fun f => !(s.chocks o ix (s.rd o) (c.fields.foldl (swField noUpdate data) (s.rd o)) f &&
      decide (f.fld.get (swField noUpdate data (s.rd o) f) ≠ f.fld.get (s.rd o)))).foldl
      (fun w f => f.fld.put w (f.fld.get (swField noUpdate data (s.rd o) f))) (s.rd o) = s.rd o := by
    refine List.foldlRecOn _ _ (motive := (· = s.rd o)) rfl fun w hw f hf => ?_
    obtain ⟨hm, hp⟩ := List.mem_filter.mp hf
    rw [hc _ _ f hm, Bool.true_and, Bool.not_eq_true', decide_eq_false_iff_not, not_not] at hp
    rw [hw, hp, put_get_self]
  have hlost : ∀ fs : List FieldCard, fs.any (coLost noUpdate) = false := fun fs =>
    List.any_eq_false.mpr fun f _ => by simp [coLost, coHits_unmet Unmet.noUpdate]
  have hzero : ∀ P : FieldCard → Bool, (c.fields.filter P).foldl (fun m f => if f.ty = .sq then m ||| f.fld.mask else m) (0 : Word) =
      c.fields.foldl (fun m f => if f.ty = .sq then m ||| f.fld.mask else m) 0 := fun P => by
    simp only [noSequence, Bool.and_eq_true, List.all_eq_true, decide_eq_true_eq] at hq
    obtain ⟨⟨hall, _⟩, _⟩ := hq
    have h0 : ∀ fs : List FieldCard, (∀ f ∈ fs, f.ty ≠ .sq) →
        fs.foldl (fun m f => if f.ty = .sq then m ||| f.fld.mask else m) (0 : Word) = 0 := fun fs hfs =>
      List.foldlRecOn fs _ (motive := (· = 0)) rfl fun m hm f hf => by rw [if_neg (hfs f hf)]; exact hm
    rw [h0 _ hall, h0 _ fun f hf => hall f (List.mem_of_mem_filter hf)]
  intro u
  unfold writeFields
  simp only [hpriv, hopen, dataAt, if_neg hdata, hwFields_none, hany, if_true, hkeep, hlost, hzero, Bool.true_and,
    hb, Bool.false_eq_true, if_false, sqClear_none hq]
  split
  · exact .inl rfl
  · exact .inr rfl

end

/-- A trigger value that is written starts at most its trigger. -/
theorem Refused.triggerWritten {v : View} {o cause ev : Nat} {s t : State} {a m n : Nat} (h : Refused v o cause ev s t)
    (ho : Low o) (hr : reportRegister o = false) (he : evReserved ev = false) :
    Refused v o cause ev s (triggerWritten a m n t) := by
  unfold Machine.triggerWritten
  extract_lets +onlyGivenNames x y behind t1
  have h1 : Refused v o cause ev s t1 := h.congr rfl id rfl
  split
  · have hstep : LowStep (t1.updAx a (fun x => { x with trgFired := m :: x.trgFired })) (fireTrigger a m t1) :=
      (LowStep.raise .refl).windowTrigger.sarAxleTrigger.angleLatches
    exact h1.congr (hstep.rd _ ho hr) (hstep.pending he) (hstep.rd _ (low_of_lt (by decide)) (by decide))
  · exact h1

/-- The card of AXL_TRG. -/
def cardTrg : Card := ⟨0x80040, [(0x10000, 4), (4, 8)], false, 0, [⟨AXL_TRG_DIRSEL, .rw, false, false, .axle⟩,
  ⟨AXL_TRG_VALUE, .rw, false, false, .axle⟩]⟩

theorem register_trg (a : Fin 4) (m : Fin 8) : plainRegister (AXL_TRG a m) cardTrg [a.val, m.val] = true := by
  revert a m; decide +kernel

/-- Words that agree in a field agree in its bits. -/
theorem bit_of_get {f : Fld} {d w : Word} {i : Nat} (h : f.get d = f.get w) (hi : f.lo ≤ i ∧ i < f.lo + f.len) :
    d.getLsbD i = w.getLsbD i := by
  have := congrArg (fun x => x.testBit (i - f.lo)) h
  simp only [get_testBit] at this
  rwa [decide_eq_true (show i - f.lo < f.len by omega), Bool.true_and, Bool.true_and, Nat.add_sub_cancel' hi.1] at this

/-- Two words whose trigger fields agree differ in no bit of them. -/
theorem trg_differs {d w : Word} (h : (d ^^^ w) &&& 0xC007FFFF ≠ 0) :
    AXL_TRG_DIRSEL.get d ≠ AXL_TRG_DIRSEL.get w ∨ AXL_TRG_VALUE.get d ≠ AXL_TRG_VALUE.get w := by
  by_contra hno
  obtain ⟨h1, h2⟩ := not_or.mp hno
  rw [not_not] at h1 h2
  refine h (BitVec.eq_of_getLsbD_eq fun i hi => ?_)
  have hm : (0xC007FFFF : Word) = AXL_TRG_DIRSEL.mask ||| AXL_TRG_VALUE.mask := by decide
  rw [hm, BitVec.getLsbD_and, BitVec.getLsbD_xor, BitVec.getLsbD_or, mask_getLsbD, mask_getLsbD]
  by_cases hd : AXL_TRG_DIRSEL.lo ≤ i ∧ i < AXL_TRG_DIRSEL.lo + AXL_TRG_DIRSEL.len
  · rw [bit_of_get h1 hd]
    simp
  · by_cases hv : AXL_TRG_VALUE.lo ≤ i ∧ i < AXL_TRG_VALUE.lo + AXL_TRG_VALUE.len
    · rw [bit_of_get h2 hv]
      simp
    · simp only [← Bool.decide_and, decide_eq_false hd, decide_eq_false hv]
      simp

theorem trg_refused {v : View} {s : State} {data : Word} (a : Fin 4) (m : Fin 8) (hs : s.awake = true)
    (hf : s.flag SYS_REFUSED SYS_REFUSED_REF = false) (hc : (s.rd SYS_CHOCK).getLsbD (3 + a.val) = true)
    (hd : (data ^^^ s.rd (AXL_TRG a m)) &&& 0xC007FFFF ≠ 0) :
    Refused v (AXL_TRG a m) 1 CHOCK_VIOL s (syncStretches (writeReg v (AXL_TRG a m) data noUpdate none s)) := by
  have hplain := register_trg a m
  have hreg := plainRegister_register hplain
  simp only [plainRegister, Bool.and_eq_true] at hplain
  obtain ⟨⟨_, hq⟩, hun⟩ := hplain
  have ha := a.isLt
  have hm := m.isLt
  have hwin : AXL_TRG a m / 0x10000 = 8 + a := by simp only [AXL_TRG]; omega
  have hmod : AXL_TRG a m % 0x10000 = 0x40 + 4 * m := by simp only [AXL_TRG]; omega
  have hlt : AXL_TRG a m < 0x100000 := by simp only [AXL_TRG]; omega
  have hreport : reportRegister (AXL_TRG a m) = false :=
    reportRegister_axle (by simp only [AXL_TRG]; omega) hlt (by omega)
  have hchock : ∀ old new, ∀ f ∈ cardTrg.fields, s.chocks (AXL_TRG a m) [a.val, m.val] old new f = true := fun old new f hm => by
    have hbits : s.chockBits (AXL_TRG a m) [a.val, m.val] old new f = [3 + a.val] := by
      unfold State.chockBits
      rw [if_neg (by omega)]
      rcases List.mem_cons.mp hm with rfl | hm
      · rfl
      · rw [List.mem_singleton.mp hm]
        rfl
    rw [State.chocks, hbits, List.any_cons, hc, decide_eq_true (by omega)]
    rfl
  have hget : ∀ (f : Fld), f.lo + f.len ≤ 32 → ∀ w, f.get (f.put w (f.get data)) = f.get data := fun f hl w =>
    (get_put_self f w _ hl).trans (Nat.mod_eq_of_lt (get_lt ..))
  have hdiff : ∃ f ∈ cardTrg.fields, f.fld.get (swField noUpdate data (s.rd (AXL_TRG a m)) f) ≠ f.fld.get (s.rd (AXL_TRG a m)) := by
    rcases trg_differs hd with h | h
    · exact ⟨⟨AXL_TRG_DIRSEL, .rw, false, false, .axle⟩, by decide, fun he => h ((hget _ (by decide) _).symm.trans he)⟩
    · exact ⟨⟨AXL_TRG_VALUE, .rw, false, false, .axle⟩, by decide, fun he => h ((hget _ (by decide) _).symm.trans he)⟩
  have hbad : ∀ (u : State) old new, u.badWrite (AXL_TRG a m) old new = false := fun u old new => by
    unfold State.badWrite
    simp only [hwin]
    rw [if_neg (by omega), if_neg (by omega), if_neg (by omega), if_neg (by omega), if_pos (by omega)]
    unfold State.badAXL
    simp only [hmod]
    rw [if_neg (by omega), if_neg (by omega), if_neg (by omega), if_neg (by omega), if_neg (by omega), if_neg (by omega)]
  have hwrote : ∀ old new n co before u, wrote (AXL_TRG a m) old new n co before u = Machine.triggerWritten a m n u :=
    fun old new n co before u => by
    unfold wrote
    simp only [hwin]
    rw [if_neg (by omega), if_neg (by omega), if_neg (by omega), if_neg (by omega), if_neg (by omega), if_pos (by omega)]
    unfold wroteAXL
    simp only [hmod]
    rw [if_neg (by omega), if_neg (by omega), if_neg (by omega), if_neg (by omega), if_pos (by omega)]
    have h1 : (AXL_TRG a m - 0x80000) / 0x10000 = a := by simp only [AXL_TRG]; omega
    have h2 : (0x40 + 4 * m.val - 0x40) / 4 = m := by omega
    rw [h1, h2]
  have hbase : Refused v (AXL_TRG a m) 1 CHOCK_VIOL s
      ((captureRefused v (AXL_TRG a m) 1 (s.raise CHOCK_VIOL)).wr (AXL_TRG a m) (s.rd (AXL_TRG a m))) := by
    have h := refused_raise_capture (v := v) (o := AXL_TRG a m) (cause := 1) (ev := CHOCK_VIOL) hs hf (by omega) (by decide) (by decide)
      (by simp only [SYS_REFUSED]; omega) (eventRegister_of_reportRegister hreport)
    exact h.wr h.kept.symm
  rw [writeReg_fields hreg, meets_unscheduled hun]
  rcases writeFields_chocked (v := v) (data := data) (n := (none : Option Nat).getD (s.countNow ([a.val, m.val].headD 0)))
    hreg hq (by decide) hchock hdiff hbad with h | h
  · rw [h]
    exact hbase.settled
  · rw [h, hwrote]
    exact (hbase.triggerWritten (low_of_lt hlt) hreport (by decide)).settled

/-! ### Chock bits -/

/-- A bit outside all fields that are replaced keeps its value. -/
theorem putFields_outside {val : FieldCard → Nat} {fs : List FieldCard} {i : Nat}
    (h : ∀ f ∈ fs, ¬(f.fld.lo ≤ i ∧ i < f.fld.lo + f.fld.len)) (w : Word) : (putFields val w fs).getLsbD i = w.getLsbD i := by
  refine List.foldlRecOn fs _ (motive := fun u : Word => u.getLsbD i = w.getLsbD i) rfl fun u hu f hf => ?_
  rw [put_getLsbD, if_neg fun hin => h f hf ⟨hin.1, hin.2.1⟩, hu]

/-- The card of SYS_CHOCK. -/
def cardChock : Card := ⟨0x14, [], true, 0, [SYS_CHOCK_DBG, SYS_CHOCK_WBCAL, SYS_CHOCK_PMU, SYS_CHOCK_CPL, SYS_CHOCK_GRD,
  SYS_CHOCK_PROT, SYS_CHOCK_SDF, SYS_CHOCK_GATE, SYS_CHOCK_AXL, SYS_CHOCK_EVT, SYS_CHOCK_MEM, SYS_CHOCK_CLK].map
    (⟨·, .ck, false, false, .none⟩)⟩

/-- A chock bit is only ever set (R37). -/
theorem chock_written {s : State} (data : Word) (hs : s.awake = true) :
    (syncStretches (writeReg .coachman SYS_CHOCK data noUpdate none s)).rd SYS_CHOCK = s.rd SYS_CHOCK ||| (data &&& 0x7FFF) := by
  have hplain : plainRegister SYS_CHOCK cardChock [] = true := by decide +kernel
  have hreg := plainRegister_register hplain
  have ha : accepted .coachman SYS_CHOCK data s = true :=
    accepted_unchocked hs (isRegister_iff.mp hreg).1 (by decide) (fun h => by cases h) (fun _ _ => rfl)
  rw [writeReg_written hplain .noUpdate ha, syncStretches_rd]
  refine (rd_wr_self ..).trans (BitVec.eq_of_getLsbD_eq fun i hi => ?_)
  have hmask : ∀ i : Fin 32, (0x7FFF : Word).getLsbD i = decide (i.val < 15) := by decide
  have hfield : ∀ i : Fin 15, ∃ f ∈ cardChock.fields, f.fld.lo ≤ i.val ∧ i.val < f.fld.lo + f.fld.len := by decide
  rw [BitVec.getLsbD_or, BitVec.getLsbD_and, hmask ⟨i, hi⟩]
  by_cases h15 : i < 15
  · obtain ⟨f, hf, hin⟩ := hfield ⟨i, h15⟩
    have hty : f.ty = .ck := by
      have : ∀ f ∈ cardChock.fields, f.ty = .ck := by decide
      exact this f hf
    have hget := writtenWord_get hreg ha hf
    rw [swField, hty] at hget
    rw [bit_of_get hget hin, BitVec.getLsbD_or, BitVec.getLsbD_and, mask_getLsbD, ← Bool.decide_and, decide_eq_true hin,
      decide_eq_true h15]
    exact congrArg (fun b => (s.rd SYS_CHOCK).getLsbD i || (data.getLsbD i && b)) (decide_eq_true hi)
  · have hout : ∀ f ∈ cardChock.fields, f.fld.lo + f.fld.len ≤ 15 := by decide
    rw [writtenWord_eq hreg ha, putFields_outside fun f hf hin => by have := hout f hf; omega, decide_eq_false h15, Bool.and_false,
      Bool.or_false]

/-- Settles O25: each refusal is captured with its event and the word is written as it was; the chock bits are OR-ed. -/
theorem refusedWrites : Obligations.RefusedWrites := by
  intro s data hs hf refused
  have hshow : ∀ {v o cause ev}, o < 2 ^ 21 → Refused v o cause ev s (syncStretches (writeReg v o data noUpdate none s)) →
      refused v o cause ev := fun ho h =>
    ⟨_, exec_registerWrite hs ho, h.kept, h.pending, h.shown.ref, h.shown.cause, h.shown.view, h.shown.addr⟩
  refine ⟨hshow (by decide) (trkCfg_refused data hs hf), fun hc hd => hshow (by decide) (txto_refused hs hf hc hd),
    fun v a m hc hd => hshow ?_ (trg_refused a m hs hf hc hd), _, exec_registerWrite hs (by decide), chock_written data hs⟩
  have := a.isLt
  have := m.isLt
  simp only [AXL_TRG]; omega

end Sys2Proof.Proofs
end

section
/-! The LIX pair (R38 to R40) and the writes of the Waybill (R41 to R45). -/

namespace Sys2Proof.Proofs

open Sys2Proof Sys2Proof.Machine Sys2Proof.Safety Sys2Proof.Laws

/-! ### The LIX pair -/

section
variable (op : LixOp) (s : State)

theorem setLix_rd {o : Nat} (h : o ≠ LIX_STAT) : (setLix op s).rd o = s.rd o := rd_wr_of_ne _ _ h

theorem setLix_busy : (setLix op s).flag LIX_STAT LIX_STAT_BUSY = !decide (op = .idle) :=
  flag_setFlag_self _ _ _ _ (by decide) (by decide)

theorem setLix_keeps {f : Fld} (h : LIX_STAT_BUSY.lo ≠ f.lo) : (setLix op s).flag LIX_STAT f = s.flag LIX_STAT f :=
  flag_setFlag_other _ (.inr (by simp only [LIX_STAT_BUSY] at h ⊢; omega))

end

section
variable {s : State} {w : Nat}

/-- What a fetch reads (R39). -/
theorem lanRead_word (hw : w < 7 ∨ (0x1000 ≤ w ∧ w < 0x1800) ∨ (0x2000 ≤ w ∧ w < 0x2800)) : s.lanRead w = s.lanW w := by
  have hcl : lanClass w ≠ .mirror ∧ lanClass w ≠ .unmapped := by
    unfold lanClass
    rcases hw with h | h | h
    · rw [if_pos (by omega)]; decide
    · rw [if_neg (by omega), if_neg (by omega), if_neg (by omega)]
      split
      · decide
      · rw [if_pos (by omega)]; decide
    · rw [if_neg (by omega), if_neg (by omega), if_neg (by omega), if_neg (by omega), if_neg (by omega), if_pos (by omega)]
      decide
  unfold State.lanRead
  split
  · next h => exact absurd h hcl.1
  · next h => exact absurd h hcl.2
  · exact if_neg (by omega)

theorem lanClass_mirror (h : 0x40 ≤ w) (h' : w ≤ 0x4A) : lanClass w = .mirror := by
  unfold lanClass
  rw [if_neg (by omega), if_pos ⟨h, h'⟩]

theorem lanClass_unmapped (h : 0x3100 ≤ w) : lanClass w = .unmapped := by
  unfold lanClass
  rw [if_neg (by omega), if_neg (by omega), if_neg (by omega), if_neg (by omega), if_neg (by omega), if_neg (by omega)]

theorem lanClass_waybill (h : 0x1000 ≤ w) (h' : w < 0x1400) : lanClass w = .waybill := by
  unfold lanClass
  rw [if_neg (by omega), if_neg (by omega), if_neg (by omega), if_pos ⟨h, h'⟩]

theorem lixBusy_idle (h : s.lix = .idle) : s.lixBusy = false := by
  unfold State.lixBusy
  rw [h]
  rfl

theorem lixBusy_busy (h : s.lix ≠ .idle) : s.lixBusy = true := by
  unfold State.lixBusy
  rw [decide_eq_false h]
  rfl

end

/-- What a fetch leaves (R40). -/
theorem lixFetchDone_leaves {s : State} (h : s.lix = .fetch) : ∃ t, exec .lixFetchDone s = .next t ∧ t.lix = .idle ∧
    t.flag LIX_STAT LIX_STAT_BUSY = false ∧ t.lan = s.lan ∧ t.rd LIX_DATA = s.lanRead (s.fld LIX_ADDR LIX_ADDR_WADDR) ∧
    (lanClass (s.fld LIX_ADDR LIX_ADDR_WADDR) = .unmapped → t.flag LIX_STAT LIX_STAT_UNMAP = true) := by
  generalize hw : s.fld LIX_ADDR LIX_ADDR_WADDR = w
  let u := s.wr LIX_DATA (s.lanRead w)
  let v := if lanClass w = .unmapped then u.sq LIX_STAT LIX_STAT_UNMAP else u
  have hexec : exec .lixFetchDone s = .next (setLix .idle v) := by
    subst hw
    exact if_pos h
  have hlan : v.lan = s.lan := by
    simp only [v, apply_ite State.lan]
    exact ite_self _
  have hdata : v.rd LIX_DATA = s.lanRead w := by
    simp only [v]
    split
    · exact (rd_wr_of_ne _ _ (by decide)).trans (rd_wr_self ..)
    · exact rd_wr_self ..
  refine ⟨_, hexec, rfl, setLix_busy .idle v, hlan, (setLix_rd _ _ (by decide)).trans hdata, fun hc => ?_⟩
  rw [setLix_keeps _ _ (by decide)]
  simp only [v, if_pos hc]
  exact flag_sq_self _ _ _ (by decide) (by decide)

theorem lixPair : Rules.LixPair := by
  intro s hs
  refine ⟨fun data hidle => ?_, fun hfetch => ?_, fun hidle hw => ?_, fun data hidle => ?_, fun hbusy => ⟨?_, fun data => ?_⟩⟩
  · refine ⟨setLix .fetch (s.wr LIX_ADDR (data &&& 0x1FFFF)), ?_, ?_, rfl, setLix_busy .fetch _, rfl⟩
    · refine (if_pos hs).trans (congrArg Host.Outcome.next ?_)
      unfold lixAddrWritten
      rw [show (s.wr LIX_ADDR (data &&& 0x1FFFF)).lix = .idle from hidle]
    · exact (setLix_rd _ _ (by decide)).trans (rd_wr_self ..)
  · obtain ⟨t, hexec, hlix, hbusy, hlan, hdata, hunmap⟩ := lixFetchDone_leaves hfetch
    refine ⟨t, hexec, hlix, hbusy, hlan, ?_⟩
    rintro w rfl
    refine ⟨fun h => hdata.trans (lanRead_word h), fun h h' => hdata.trans ?_, fun h => ⟨hdata.trans ?_, hunmap (lanClass_unmapped h)⟩⟩
    · unfold State.lanRead
      rw [lanClass_mirror h h']
    · unfold State.lanRead
      rw [lanClass_unmapped h]
  · refine ⟨onlyIf (s.flag LIX_ADDR LIX_ADDR_AINC) lixAdvance s, ?_, ?_, fun h => by rw [h]; rfl, fun h => ?_⟩
    · refine (if_pos hs).trans (congrArg Host.Outcome.next ?_)
      unfold lixDataRead
      rw [lixBusy_idle hidle, if_neg Bool.false_ne_true, if_neg hw]
    · unfold onlyIf
      rw [apply_ite State.lan]
      exact ite_self _
    · rw [h]
      refine ⟨rfl, ?_⟩
      exact (congrArg LIX_ADDR_WADDR.get (setLix_rd _ _ (by decide))).trans (fld_setFld_self _ _ _ _ (by decide))
  · refine ⟨_, (if_pos hs).trans rfl, ?_, ?_, ?_⟩ <;> unfold lixDataWrite <;>
      rw [lixBusy_idle hidle, if_neg Bool.false_ne_true]
    · exact (setLix_rd _ _ (by decide)).trans (rd_wr_self ..)
    · rfl
    · rfl
  · refine ⟨s.sq LIX_STAT LIX_STAT_EARLY, ?_, flag_sq_self _ _ _ (by decide) (by decide), rfl⟩
    refine (if_pos hs).trans (congrArg Host.Outcome.next ?_)
    unfold lixDataRead
    rw [lixBusy_busy hbusy, if_pos rfl]
  · refine ⟨s.sq LIX_STAT LIX_STAT_EARLY, ?_, flag_sq_self _ _ _ (by decide) (by decide), rfl⟩
    refine (if_pos hs).trans (congrArg Host.Outcome.next ?_)
    unfold lixDataWrite
    rw [lixBusy_busy hbusy, if_pos rfl]

/-! ### The words of the Lantern domain -/

section
variable {s t : State}

theorem lanW_setLanW_self (s : State) (w : Nat) (v : Word) : (s.setLanW w v).lanW w = v := mget_mset_self ..
theorem lanW_setLanW_of_ne (s : State) {w w' : Nat} (v : Word) (h : w' ≠ w) : (s.setLanW w v).lanW w' = s.lanW w' :=
  mget_mset_of_ne _ _ _ h

/-- An event wakes the Lantern core and changes no other word of its domain. -/
theorem Reports.lanW (h : Reports s t) {w : Nat} (hw : w ≠ 0) : t.lanW w = s.lanW w :=
  BitVec.eq_of_getLsbD_eq fun i _ => h.lanBit w i fun h0 => absurd h0 hw

theorem Reports.lix (h : Reports s t) : t.lix = s.lix := by
  obtain ⟨_, _, _, _, rfl⟩ := h.events
  rfl

theorem Reports.prog (h : Reports s t) : t.lan.prog = s.lan.prog := by
  obtain ⟨_, _, _, _, rfl⟩ := h.events
  rfl

end

/-! ### An accepted write of the Waybill -/

theorem wearMark_reports (old new mark : Nat) (s : State) : Reports s (wearMark old new mark s) :=
  (raise_reports s WB_WEAR).ite .refl

/-- A word joins an empty queue: it is programmed and read back at once (R42). -/
theorem queueProg_idle {x : State} (a : Nat) (v : Word) (hp : x.lan.prog = []) (hs : x.awake = true) :
    queueProg [⟨a, v, 0⟩] x = ((x.setLanW a v).updLan (fun l => { l with prog := [⟨a, v, x.lanW a⟩] })).setFlag LIX_STAT
      LIX_STAT_WBPROG true := by
  have hq : (x.updLan (fun l => { l with prog := l.prog ++ [⟨a, v, 0⟩] })).lan.prog = [⟨a, v, 0⟩] := by
    simp only [State.updLan, hp, List.nil_append]
  have hstart : onlyIf x.lan.prog.isEmpty startProg (x.updLan (fun l => { l with prog := l.prog ++ [⟨a, v, 0⟩] })) =
      (x.setLanW a v).updLan (fun l => { l with prog := [⟨a, v, x.lanW a⟩] }) := by
    unfold onlyIf
    rw [hp, List.isEmpty_nil, if_pos rfl]
    unfold startProg
    rw [hq]
    rfl
  unfold queueProg
  simp only [hstart]
  have hawake : ((x.setLanW a v).updLan (fun l => { l with prog := [⟨a, v, x.lanW a⟩] })).awake = true := hs
  unfold showProg
  rw [hawake]
  rfl

/-- A write of a program word is counted, programmed and read back at once (R42, R45). -/
theorem wbAccept_leaves {s : State} {w : Nat} (v : Word) (hw : 0x200 ≤ w ∧ w < 0x400) (hp : s.lan.prog = []) (hs : s.awake = true) :
    (wbAccept w v s).wb w = v ∧ (wbAccept w v s).lanW (0x1400 + w) =
        BitVec.ofNat 32 (min ((s.lanW (0x1400 + w)).toNat + (if s.hotWear then 5 else 1)) 0xFFFFFF) ∧
      (wbAccept w v s).flag LIX_STAT LIX_STAT_WBPROG = true ∧ (wbAccept w v s).lan.prog.length = 1 ∧
      (wbAccept w v s).lix = s.lix ∧ (wbAccept w v s).cpl = { s.cpl with fwdQ := (wbAccept w v s).cpl.fwdQ } := by
  have hno : ¬(0x100 ≤ w ∧ w < 0x200) := by omega
  have heq : wbAccept w v s = queueProg [⟨0x1000 + w, v, 0⟩] (countWear w s) := by
    unfold wbAccept
    exact congrArg (queueProg _) (if_neg hno)
  have hx : Reports (s.setLanW (0x1400 + w)
      (word (min ((s.lanW (0x1400 + w)).toNat + (if s.hotWear then 5 else 1)) 0xFFFFFF))) (countWear w s) :=
    (wearMark_reports ..).trans (wearMark_reports ..)
  rw [heq, queueProg_idle _ v (hx.prog.trans hp) (hx.events.awake.trans hs)]
  have hwear := (hx.lanW (w := 0x1400 + w) (by omega)).trans (lanW_setLanW_self ..)
  have hlix := hx.lix
  have hcpl := hx.fwd
  generalize countWear w s = x at hwear hlix hcpl ⊢
  exact ⟨lanW_setLanW_self .., (lanW_setLanW_of_ne x v (by omega)).trans hwear,
    flag_setFlag_self _ _ _ _ (by decide) (by decide), rfl, hlix, hcpl⟩

/-- A transfer to a word of the Waybill (R40, R41). -/
theorem lixTransfer_waybill {s : State} {w : Nat} {d : Word} (he : s.lan.entering = false) (hw : w < 0x400)
    (h : s.lix = .transfer (BitVec.ofNat 16 (0x1000 + w)) d LIX_DATA false false) :
    exec .lixTransferDone s = .next (wbWrite (.lix LIX_DATA) w d (setLix .idle s)) := by
  have ha : (BitVec.ofNat 16 (0x1000 + w)).toNat = 0x1000 + w := by
    rw [BitVec.toNat_ofNat]
    omega
  have hexec : exec .lixTransferDone s =
      .next (lanWrite (.lix LIX_DATA) (BitVec.ofNat 16 (0x1000 + w)).toNat d (setLix .idle s)) := by
    change execLixTransferDone s = _
    unfold execLixTransferDone
    rw [h]
    rfl
  have hlan : (setLix .idle s).lan.entering = false := he
  rw [hexec, ha]
  unfold lanWrite
  rw [hlan, Bool.false_and, if_neg Bool.false_ne_true, lanClass_waybill (by omega) (by omega), Nat.add_sub_cancel_left]

theorem waybillWrites : Rules.WaybillWrites := by
  intro s hs he
  refine ⟨fun w d hw hlix => ⟨fun hlo hp => ?_, fun hlo hp => ?_, fun hlo => ?_⟩, fun p hp hseat => ?_, fun v hp hseat => ?_⟩
  · have hacc : wbWrite (.lix LIX_DATA) w d (setLix .idle s) = wbAccept w d (setLix .idle s) := by
      unfold wbWrite
      rw [if_neg (by omega), if_neg fun h => absurd h.1 (by omega), if_neg fun h => absurd h.2.1 (by omega),
        if_neg fun h => h hp]
    obtain ⟨h1, h2, h3, h4, h5, -⟩ := wbAccept_leaves (s := setLix .idle s) d ⟨hlo, hw⟩ hp hs
    exact ⟨_, (lixTransfer_waybill he hw hlix).trans (congrArg _ hacc), h5, h1, h2, h3, h4⟩
  · have hrej : wbWrite (.lix LIX_DATA) w d (setLix .idle s) = lanReject (.lix LIX_DATA) (setLix .idle s) := by
      unfold wbWrite
      rw [if_neg (by omega), if_neg fun h => absurd h.1 (by omega), if_neg fun h => absurd h.2.1 (by omega)]
      exact if_pos hp
    refine ⟨_, (lixTransfer_waybill he hw hlix).trans (congrArg _ hrej), ?_, ?_⟩
    · exact captureRefused_lan
    · exact (congrArg LIX_STAT_WBREJ.bit (captureRefused_rd (by decide))).trans (flag_sq_self _ _ _ (by decide) (by decide))
  · have hden : wbWrite (.lix LIX_DATA) w d (setLix .idle s) = lanDeny (.lix LIX_DATA) false (setLix .idle s) := by
      unfold wbWrite
      rw [if_pos hlo]
    refine ⟨_, (lixTransfer_waybill he hw hlix).trans (congrArg _ hden), ?_, ?_⟩
    · exact captureRefused_lan
    · exact (congrArg LIX_STAT_DENY.bit (captureRefused_rd (by decide))).trans (flag_sq_self _ _ _ (by decide) (by decide))
  · let u := s.updLan (fun l => { l with prog := [] })
    have hexec : exec .waybillProgrammingDone s = .next (showProg (acceptSeat u)) := by
      change execWaybillProgrammingDone s = _
      unfold execWaybillProgrammingDone
      rw [hp]
      rfl
    have hseat' : acceptSeat u = u := by
      unfold acceptSeat
      rw [show u.cpl.seatWrite = none from hseat]
    have hshow : showProg u = u.setFlag LIX_STAT LIX_STAT_WBPROG false := by
      unfold showProg
      rw [show u.awake = true from hs]
      rfl
    refine ⟨_, hexec, ?_, ?_, fun w => ?_⟩ <;> rw [hseat', hshow]
    · rfl
    · exact flag_setFlag_self _ _ _ _ (by decide) (by decide)
    · rfl
  · let u := s.updCpl (fun c => { c with seatWrite := none })
    have hexec : exec .seatWordWrite s = .next (wbAccept (0x200 + s.fld CPL_CFG CPL_CFG_SEATW % 0x200) v u) := by
      refine (if_pos hp).trans (congrArg Host.Outcome.next ?_)
      unfold acceptSeat
      rw [hseat]
    obtain ⟨h1, -, -, h4, -, h6⟩ := wbAccept_leaves (s := u) (w := 0x200 + s.fld CPL_CFG CPL_CFG_SEATW % 0x200) v (by omega) hp hs
    exact ⟨_, hexec, h1, (congrArg Coupler.seatWrite h6).trans rfl, h4⟩

/-- Settles O26: the pair's operations one by one, and the accepted write of a program word by its wear, its programming and
what the events of wear leave. -/
theorem indirectPairAndWaybill : Obligations.IndirectPairAndWaybill := ⟨lixPair, waybillWrites⟩

end Sys2Proof.Proofs
end

section
/-! The Lantern domain: its image, start and stop, mailbox, sleep and time (R267 to R272). -/

namespace Sys2Proof.Proofs

open Sys2Proof Sys2Proof.Machine Sys2Proof.Safety Sys2Proof.Laws

section
variable (s : State)

theorem lanF_setLanF_self (w : Nat) (f : Fld) (n : Nat) (h : f.lo + f.len ≤ 32) : (s.setLanF w f n).lanF w f = n % 2 ^ f.len :=
  (congrArg f.get (lanW_setLanW_self ..)).trans (get_put_self f _ n h)

theorem lanBit_setLanF_self (w : Nat) (f : Fld) (b : Bool) (h : f.lo < 32) (hl : 0 < f.len) :
    f.bit ((s.setLanF w f (b2n b)).lanW w) = b := by
  refine (congrArg f.bit (lanW_setLanW_self ..)).trans ?_
  rw [bit_put_self f _ _ h hl]
  cases b <;> rfl

theorem lanBit_setLanF_apart (w : Nat) (f : Fld) {g : Fld} (n : Nat) (h : ¬(f.lo ≤ g.lo ∧ g.lo < f.lo + f.len)) :
    g.bit ((s.setLanF w f n).lanW w) = g.bit (s.lanW w) :=
  (congrArg g.bit (lanW_setLanW_self ..)).trans (bit_put_apart (fun hin => h ⟨hin.1, hin.2.1⟩) _ _)

/-- A flag of LAN_WSTAT is set (R268). -/
theorem lanSq_sets (w : Nat) (f : Fld) (h : f.lo < 24) (hl : 0 < f.len) : f.bit ((s.lanSq w f).lanW w) = true := by
  refine (congrArg f.bit (lanW_setLanW_self ..)).trans ?_
  rw [bit_put_apart (f := seqFld) (by simp only [seqFld]; omega)]
  simp only [Fld.bit, BitVec.getLsbD_or, mask_getLsbD]
  simp [hl, show f.lo < 32 by omega]

/-- The Lantern core wakes by its word 0 alone. -/
theorem wakeLantern_lan : (wakeLantern s).lan = { s.lan with words := (wakeLantern s).lan.words } := by
  unfold wakeLantern
  split <;> rfl

theorem wakeLantern_lanW {w : Nat} (h : w ≠ 0) : (wakeLantern s).lanW w = s.lanW w := (wakeLantern_reports s).lanW h

/-- The mailbox request, the wake flags and the events decide on the Lantern core's interrupt. -/
theorem lanternIrq_setLanF (f : Fld) (n : Nat) : (s.setLanF 0 f n).lanternIrq = s.lanternIrq := by
  have h2 : (s.setLanF 0 f n).lanW 2 = s.lanW 2 := lanW_setLanW_of_ne s _ (by decide)
  unfold State.lanternIrq
  rw [h2]
  rfl

/-- SLEEP holds while no interrupt is requested (R271). -/
theorem lanSleep_holds : LAN_CTL_SLEEP.bit ((lanSleep s).lanW 0) = !s.lanternIrq := by
  have hset : LAN_CTL_SLEEP.bit ((s.setLanF 0 LAN_CTL_SLEEP 1).lanW 0) = true :=
    lanBit_setLanF_self s 0 LAN_CTL_SLEEP true (by decide) (by decide)
  unfold lanSleep wakeLantern
  rw [hset, lanternIrq_setLanF, Bool.true_and]
  cases s.lanternIrq with
  | false => exact hset
  | true => exact lanBit_setLanF_self _ 0 LAN_CTL_SLEEP false (by decide) (by decide)

theorem lanSleep_regs : (lanSleep s).regs = s.regs := by
  unfold lanSleep wakeLantern
  split <;> rfl

end

/-! ### The image (R270) -/

section
variable {s : State} {d : Word}

theorem lanWrite_control (he : s.lan.entering = false) {w : Nat} (hw : w < 8) :
    lanWrite (.lix LIX_DATA) w d s = lanControlWrite (.lix LIX_DATA) w d s := by
  unfold lanWrite
  rw [he, Bool.false_and, if_neg Bool.false_ne_true]
  unfold lanClass
  rw [if_pos hw]

/-- The bytes of Lantern RAM after a word is written. -/
theorem byteAt_setLanRam (s : State) (w a : Nat) (d : Word) : byteAt .lantern (s.setLanRam w d) a =
    if a / 4 = w then BitVec.ofNat 8 (d.toNat / 256 ^ (a % 4)) else byteAt .lantern s a := by
  have h : byteAt .lantern (s.setLanRam w d) a = if a = 4 * w + 3 then byteOf d 3 else if a = 4 * w + 2 then byteOf d 2 else
      if a = 4 * w + 1 then byteOf d 1 else if a = 4 * w then byteOf d 0 else byteAt .lantern s a := by
    simp only [byteAt, State.setLanRam, each, List.range_succ, List.range_zero, List.nil_append, List.cons_append, List.foldl_cons,
      List.foldl_nil, State.setLanRamByte, State.updLan, mget_mset, Nat.add_zero]
  rw [h]
  by_cases hw : a / 4 = w
  · subst hw
    rw [if_pos rfl]
    obtain ⟨k, hk, ha⟩ : ∃ k, k < 4 ∧ a = 4 * (a / 4) + k := ⟨a % 4, Nat.mod_lt _ (by decide), (Nat.div_add_mod ..).symm⟩
    have hmod : a % 4 = k := by omega
    rw [hmod, ← byteOf_eq]
    generalize a / 4 = w at ha
    subst ha
    interval_cases k
    · rw [if_neg (by omega), if_neg (by omega), if_neg (by omega), if_pos (by omega)]
    · rw [if_neg (by omega), if_neg (by omega), if_pos rfl]
    · rw [if_neg (by omega), if_pos rfl]
    · rw [if_pos rfl]
  · rw [if_neg (by omega), if_neg (by omega), if_neg (by omega), if_neg (by omega), if_neg hw]

theorem lanF_setLanRam (s : State) (w x : Nat) (d : Word) (f : Fld) : (s.setLanRam w d).lanF x f = s.lanF x f := by
  have h : (s.setLanRam w d).lan.words = s.lan.words :=
    List.foldlRecOn (List.range 4) _ (motive := fun u : State => u.lan.words = s.lan.words) rfl fun u hu k _ => hu
  simp only [State.lanF, State.lanW, h]

theorem byteAt_imgAdvance (s : State) (a : Nat) : byteAt .lantern (imgAdvance s) a = byteAt .lantern s a := rfl

theorem lanF_imgAdvance (s : State) : (imgAdvance s).lanF 6 IMGADDR_WORD = (s.lanF 6 IMGADDR_WORD + 1) % 2 ^ 14 :=
  lanF_setLanF_self s 6 IMGADDR_WORD _ (by decide)

/-- The image is written while RUN is 0. -/
theorem lanImgdata_written (he : s.lan.entering = false) (hrun : LAN_CTL_RUN.bit (s.lanW 0) = false)
    (hc : .lantern ∉ s.bringup.uncleared) : lanWrite (.lix LIX_DATA) 7 d s = imgAdvance (s.setLanRam (s.lanF 6 IMGADDR_WORD) d) := by
  rw [lanWrite_control he (by decide)]
  unfold lanControlWrite
  rw [if_neg (by decide), if_neg (by decide), if_neg (by decide), if_neg (by decide), if_pos rfl, hrun,
    if_neg Bool.false_ne_true]
  unfold waitCleared
  rw [if_neg (by simpa using hc)]

theorem lanImgdata_denied (he : s.lan.entering = false) (hrun : LAN_CTL_RUN.bit (s.lanW 0) = true) :
    lanWrite (.lix LIX_DATA) 7 d s = lanDeny (.lix LIX_DATA) false s := by
  rw [lanWrite_control he (by decide)]
  unfold lanControlWrite
  rw [if_neg (by decide), if_neg (by decide), if_neg (by decide), if_neg (by decide), if_pos rfl, hrun, if_pos rfl]

end

theorem exec_lanImgdata {s : State} {d : Word} (hs : s.awake = true) :
    exec (.lanImgdataWrite d) s = .next (lanWrite (.lix LIX_DATA) 7 d s) := if_pos hs

theorem exec_lanRun {s : State} (hs : s.awake = true) : exec .lanRun s = .next (runCmd true s) := if_pos hs
theorem exec_lanStop {s : State} (hs : s.awake = true) : exec .lanStop s = .next (runCmd false s) := if_pos hs

/-- A refused LIX write shows DENY and leaves the Lantern domain (R39). -/
theorem lanDeny_lix (off : Nat) (s : State) : (lanDeny (.lix off) false s).lan = s.lan ∧
    (lanDeny (.lix off) false s).flag LIX_STAT LIX_STAT_DENY = true :=
  ⟨captureRefused_lan, (congrArg LIX_STAT_DENY.bit (captureRefused_rd (by decide))).trans
    (flag_sq_self _ _ _ (by decide) (by decide))⟩

/-! ### The mailbox (R271) -/

theorem lanWrite_mailbox {by_ : LanWriter} {w : Nat} {d : Word} {s : State} (he : by_ = .core ∨ s.lan.entering = false)
    (hw : w = 0x200 ∨ w = 0x20F) : lanWrite by_ w d s = mailboxWrite by_ w d s := by
  have hopen : ¬(s.lan.entering && decide (by_ ≠ .core)) = true := by
    rcases he with h | h <;> simp [h]
  unfold lanWrite
  rw [if_neg hopen]
  rcases hw with rfl | rfl <;> rfl

/-! ### Wakes and time -/

/-- What wakes the Lantern domain sets its flag (R268). -/
theorem acceptWake_lanW (f : Fld) (s : State) {w : Nat} (hw : w ≠ 0) : (acceptWake f s).lanW w = (s.lanSq 2 f).lanW w := by
  unfold acceptWake
  extract_lets u
  have hu : u.lanW w = (s.lanSq 2 f).lanW w := wakeLantern_lanW _ hw
  split
  · exact hu
  · split <;> exact hu

theorem lanTime_leaves {s : State} (h : s.lanternUp = true) : ∃ t, exec .lanTimeIncrement s = .next t ∧ t.lanW 3 = s.lanW 3 + 1 ∧
    (LAN_CTL_AEN.bit (s.lanW 0) = true → s.lanW 4 = s.lanW 3 + 1 → LAN_WSTAT_ALARM.bit (t.lanW 2) = true) := by
  let u := s.setLanW 3 (s.lanW 3 + 1)
  have h3 : u.lanW 3 = s.lanW 3 + 1 := lanW_setLanW_self ..
  have h4 : u.lanW 4 = s.lanW 4 := lanW_setLanW_of_ne _ _ (by decide)
  have h0 : u.lanW 0 = s.lanW 0 := lanW_setLanW_of_ne _ _ (by decide)
  refine ⟨_, (if_pos h).trans rfl, ?_, fun he ha => ?_⟩
  · change (if u.alarmDue then acceptWake LAN_WSTAT_ALARM u else u).lanW 3 = _
    split
    · exact (acceptWake_lanW _ _ (by decide)).trans ((lanW_setLanW_of_ne _ _ (by decide)).trans h3)
    · exact h3
  · have hdue : u.alarmDue = true := by rw [State.alarmDue, h0, he, h3, h4, ha, decide_eq_true rfl]; rfl
    change LAN_WSTAT_ALARM.bit ((if u.alarmDue then acceptWake LAN_WSTAT_ALARM u else u).lanW 2) = true
    rw [hdue, if_pos rfl, acceptWake_lanW _ _ (by decide)]
    exact lanSq_sets _ _ _ (by decide) (by decide)

/-! ### The domain -/

theorem lanRun_starts (s : State) : LAN_CTL_RUN.bit ((lanStart s).lanW 0) = true ∧ (lanStart s).core .lantern = { pc := 0x400 } := by
  refine ⟨?_, rfl⟩
  have h := lanBit_setLanF_apart (s.setLanF 0 LAN_CTL_RUN 1) 0 LAN_CTL_SLEEP (g := LAN_CTL_RUN) 0 (by decide)
  exact h.trans (lanBit_setLanF_self s 0 LAN_CTL_RUN true (by decide) (by decide))

/-- A core that starts holds zero in its registers (R48). -/
theorem gr_start (pc : Word) (r : GReg) : CoreState.gr { pc := pc } r = 0 := by
  unfold CoreState.gr
  split <;> rfl

theorem cx_start (pc : Word) (n : Nat) : CoreState.cx { pc := pc } n = 0 := by
  have hhigh : BitVec.extractLsb' 32 32 (0 : BitVec 64) = 0 := by decide
  unfold CoreState.cx
  split
  · rfl
  · split
    · exact hhigh
    · rfl

/-- Settles O27: each command of the domain by the word that it writes; an event wakes the core by its word 0 alone. -/
theorem lanternDomain : Obligations.LanternDomain := by
  intro s
  refine ⟨fun hs he d => ?_, fun hs he i hi => ?_, fun hi d => ⟨?_, ?_, ?_⟩, fun hup => ⟨lanTime_leaves hup, fun q hq => ?_⟩⟩
  · intro w
    refine ⟨fun hrun hc => ?_, fun hrun => ?_, fun hrun => ?_, ?_, ?_⟩
    · rw [exec_lanImgdata hs, lanImgdata_written he hrun hc]
      refine ⟨_, rfl, fun a => (byteAt_imgAdvance ..).trans (byteAt_setLanRam s w a d), ?_⟩
      rw [lanF_imgAdvance, lanF_setLanRam]
    · rw [exec_lanImgdata hs, lanImgdata_denied he hrun]
      exact ⟨_, rfl, lanDeny_lix _ s⟩
    · have hrunCmd : runCmd true s = lanStart s := by
        unfold runCmd lanRunWrite
        rw [he, hrun]
        rfl
      obtain ⟨h1, h2⟩ := lanRun_starts s
      rw [exec_lanRun hs, hrunCmd]
      exact ⟨_, rfl, h1, by rw [h2], fun r => by rw [h2, gr_start], fun n => by rw [h2, cx_start]⟩
    · have hrunCmd : runCmd false s = lanHalt s := by
        unfold runCmd lanRunWrite
        rw [he]
        rfl
      rw [exec_lanStop hs, hrunCmd]
      exact ⟨_, rfl, lanBit_setLanF_self s 0 LAN_CTL_RUN false (by decide) (by decide), rfl, rfl⟩
    · let u := (s.setLanW 0x200 d).updLan (fun l => { l with mbox := true })
      refine ⟨wakeLantern u, (if_pos hs).trans (congrArg _ (lanWrite_mailbox (.inr he) (.inl rfl))), ?_, ?_⟩
      · exact (wakeLantern_lanW u (by decide)).trans (lanW_setLanW_self s ..)
      · exact (congrArg Lantern.mbox (wakeLantern_lan u)).trans rfl
  · have hden : ∀ run, runCmd run s = lanDeny (.lix LIX_DATA) false s := fun run => if_pos he
    rcases hi with rfl | rfl
    · rw [exec_lanRun hs, hden]
      exact ⟨_, rfl, lanDeny_lix _ s⟩
    · rw [exec_lanStop hs, hden]
      exact ⟨_, rfl, lanDeny_lix _ s⟩
  · exact ⟨_, (if_pos hi).trans (congrArg _ (lanWrite_mailbox (.inl rfl) (.inl rfl))), lanW_setLanW_self s .., rfl⟩
  · refine ⟨(s.setLanW 0x20F d).raise LAN_MBOX, (if_pos hi).trans (congrArg _ (lanWrite_mailbox (.inl rfl) (.inr rfl))), ?_, ?_⟩
    · exact ((raise_reports ..).lanW (by decide)).trans (lanW_setLanW_self s ..)
    · exact fun hs => raise_pending _ (by decide) hs
  · exact ⟨_, if_pos hi, lanSleep_holds s, lanSleep_regs s⟩
  · refine ⟨_, if_pos ?_, lanBit_setLanF_self s 5 LAN_CLK_X32OK q (by decide) (by decide), rfl⟩
    rw [hup, Bool.true_and]
    cases q with
    | false => rfl
    | true => exact hq rfl

end Sys2Proof.Proofs
end

section
/-! Power states (R264 to R269, R274). -/

namespace Sys2Proof.Proofs

open Sys2Proof Sys2Proof.Machine Sys2Proof.Safety Sys2Proof.Laws

/-! ### Writes of SYS_STATE -/

/-- The word of a write that reaches every field (R32). -/
theorem writtenWord_open {v : View} {o : Nat} {c : Card} {ix : List Nat} {data : Word} {s : State} (h : isRegister o c ix = true)
    (hv : openFields v c = c.fields) : writtenWord v o data s =
      putFields (fun f => f.fld.get (swField noUpdate data (s.rd o) f)) (s.rd o) c.fields := by
  obtain ⟨hr, _, _, _, hd, _⟩ := isRegister_iff.mp h
  rw [writtenWord, hr]
  simp only [hv, dataAt, if_neg hd]
  rfl

theorem openFields_coachman (c : Card) : openFields .coachman c = c.fields := rfl

/-- A write without chock whose word is refused (R34): the register keeps its word. -/
theorem writeFields_refused {v : View} {o : Nat} {c : Card} {ix : List Nat} {data : Word} {s : State} {n : Nat}
    (h : isRegister o c ix = true) (hc : unchocked o c = true) (hv : openFields v c = c.fields) (hp : notePriv v o c s = s)
    (hb : s.badWrite o (s.rd o) (writtenWord v o data s) = true) :
    writeFields v o o c ix data noUpdate n s = refuseWrite v o o (writtenWord v o data s) (s.wr o (s.rd o)) := by
  obtain ⟨hr, _, _, _, hd, _, _, hw⟩ := isRegister_iff.mp h
  have hshut : ∀ new, ∀ f ∈ c.fields, (s.chocks o ix (s.rd o) new f &&
      decide (f.fld.get (swField noUpdate data (s.rd o) f) ≠ f.fld.get (s.rd o))) = false := fun new f hf => by
    rw [chocks_unchocked hc hf, Bool.false_and]
  have hany := fun new => List.any_eq_false.mpr fun f hf => Bool.not_eq_true _ ▸ hshut new f hf
  have hok := fun new => List.filter_eq_self.mpr fun f hf => congrArg not (hshut new f hf)
  rw [writtenWord_open h hv] at hb ⊢
  unfold putFields at hb ⊢
  unfold writeFields
  simp only [hp, hv, dataAt, if_neg hd, hok, hany, hwFields_none, hw, hb, Bool.false_and, Bool.or_self, Bool.false_eq_true, if_false,
    if_true]

/-- The card of SYS_STATE. -/
def cardSysState : Card := ⟨4, [], false, 2, [⟨SYS_STATE_WHY, .ro, false, false, .none⟩, ⟨SYS_STATE_REQ, .rh, true, false, .none⟩,
  ⟨SYS_STATE_SERVICE, .ro, false, false, .none⟩, ⟨SYS_STATE_STATE, .ro, false, false, .none⟩]⟩

theorem plainRegister_sysState : plainRegister SYS_STATE cardSysState [] = true := by decide +kernel
theorem isRegister_sysState : isRegister SYS_STATE cardSysState [] = true := plainRegister_register plainRegister_sysState

section
variable {s : State}

/-- The word that asks for a state. -/
def requestWord (req : Nat) (s : State) : Word := writtenWord .coachman SYS_STATE (SYS_STATE_REQ.put 0 req) s

/-- What a request leaves of the registers when it is taken. -/
def requestTaken (req : Nat) (s : State) : State := (s.wr SYS_STATE (requestWord req s)).setFld SYS_STATE SYS_STATE_REQ 0

theorem requestTaken_rd (req : Nat) {x : Nat} (hx : x ≠ SYS_STATE) : (requestTaken req s).rd x = s.rd x :=
  (rd_wr_of_ne _ _ hx).trans (rd_wr_of_ne _ _ hx)

/-- The request stands in the word. -/
theorem requestWord_req {req : Nat} (hreq : req < 4) : SYS_STATE_REQ.get (requestWord req s) = req := by
  have hf : (⟨SYS_STATE_REQ, .rh, true, false, .none⟩ : FieldCard) ∈ cardSysState.fields := by decide
  obtain ⟨_, _, _, _, _, hp, hl, _⟩ := isRegister_iff.mp isRegister_sysState
  rw [requestWord, writtenWord_open isRegister_sysState (openFields_coachman _)]
  refine (putFields_self hp hf (hl _ hf) _).trans ?_
  have hput : ∀ w n, SYS_STATE_REQ.get (SYS_STATE_REQ.put w n) = n % 2 ^ 2 := fun w n => get_put_self _ w n (by decide)
  change SYS_STATE_REQ.get (SYS_STATE_REQ.put (s.rd SYS_STATE) (SYS_STATE_REQ.get (SYS_STATE_REQ.put 0 req))) % 2 ^ 2 = req
  rw [hput, hput]
  omega

/-- Requests that SYS_STATE does not refuse. -/
theorem requestAccepted {req : Nat} (hs : s.awake = true) (hreq : req < 4) (hb : s.reqWhy req = none) :
    wordCmd .coachman SYS_STATE (SYS_STATE_REQ.put 0 req) s =
      .next (syncStretches (stateRequested req (requestTaken req s))) := by
  have hget := requestWord_req (s := s) hreq
  have hbad : s.badWrite SYS_STATE (s.rd SYS_STATE) (requestWord req s) = false := by
    change (s.reqWhy (SYS_STATE_REQ.get (requestWord req s))).isSome = false
    rw [hget, hb]
    rfl
  have ha : accepted .coachman SYS_STATE (SYS_STATE_REQ.put 0 req) s = true :=
    accepted_of hs (isRegister_iff.mp isRegister_sysState).1 (by decide) (fun h => by cases h) hbad
  refine (wordCmd_written plainRegister_sysState ha).trans (congrArg (fun t => Host.Outcome.next (syncStretches t)) ?_)
  change stateRequested (SYS_STATE_REQ.get (requestWord req s)) (requestTaken req s) = _
  rw [hget]

end

/-! ### Stand and Drive -/

/-- The passage to Stand leaves every leg in SAFE (R23, R265). -/
theorem enterStand_leaves (s : State) : (enterStand s).power = .stand ∧ (enterStand s).fld SYS_STATE SYS_STATE_STATE = 2 ∧
    ∀ l, l < 32 → (enterStand s).legSafe l ≠ 0 := by
  unfold enterStand
  extract_lets u v
  have hsafe : LowStep v (safeFor .stand (List.range 32) v) := LowStep.refl.safeFor
  have hbrake := brakeStep_settleBrake (safeFor .stand (List.range 32) v)
  have hv : v.regs = u.regs ∧ v.power = .stand :=
    List.foldlRecOn (List.range 4) _ (motive := fun t : State => t.regs = u.regs ∧ t.power = .stand) ⟨rfl, rfl⟩ fun t ht a _ => ht
  have hstate : v.fld SYS_STATE SYS_STATE_STATE = 2 := by
    rw [State.fld, State.rd, hv.1]
    exact fld_setFld_self { s with power := .stand } SYS_STATE SYS_STATE_STATE 2 (by decide)
  refine ⟨?_, ?_, fun l hl => ?_⟩
  · obtain ⟨_, _, _, _, _, _, hb⟩ := hbrake.only
    obtain ⟨_, _, _, _, _, _, _, _, _, _, _, _, _, _, _, _, _, _, _, _, _, hl⟩ := hsafe.only
    rw [hb, hl]
    exact hv.2
  · exact (hbrake.fld _ (by decide) (by decide)).trans ((hsafe.fld _ (low_of_lt (by decide)) (by decide)).trans hstate)
  · rw [hbrake.legSafe hl]
    exact safeFor_safe (by decide) hl (List.mem_range.mpr hl)

theorem enterDrive_leaves (s : State) : (enterDrive s).power = .drive ∧ (enterDrive s).fld SYS_STATE SYS_STATE_STATE = 3 := by
  unfold enterDrive
  extract_lets u v
  have hend : LowStep v (endCause .stand (List.range 32) v) := LowStep.refl.endCause
  have hbrake := brakeStep_settleBrake (endCause .stand (List.range 32) v)
  have hv : v.regs = u.regs ∧ v.power = .drive :=
    List.foldlRecOn _ _ (motive := fun t : State => t.regs = u.regs ∧ t.power = .drive) ⟨rfl, rfl⟩ fun t ht a _ => ht
  have hstate : v.fld SYS_STATE SYS_STATE_STATE = 3 := by
    rw [State.fld, State.rd, hv.1]
    exact fld_setFld_self { s with power := .drive } SYS_STATE SYS_STATE_STATE 3 (by decide)
  refine ⟨?_, (hbrake.fld _ (by decide) (by decide)).trans ((hend.fld _ (low_of_lt (by decide)) (by decide)).trans hstate)⟩
  obtain ⟨_, _, _, _, _, _, hb⟩ := hbrake.only
  obtain ⟨_, _, _, _, _, _, _, _, _, _, _, _, _, _, _, _, _, _, _, _, _, hl⟩ := hend.only
  rw [hb, hl]
  exact hv.2

theorem reqStand_leaves {s : State} (hs : s.awake = true) (hp : s.power = .drive) : ∃ t, exec (.reqStand .coachman) s = .next t ∧
    t.power = .stand ∧ t.fld SYS_STATE SYS_STATE_STATE = 2 ∧ ∀ l, l < 32 → t.legSafe l ≠ 0 := by
  have hreq : stateRequested 1 (requestTaken 1 s) = enterStand (requestTaken 1 s) := if_pos hp
  obtain ⟨h1, h2, h3⟩ := enterStand_leaves (requestTaken 1 s)
  refine ⟨_, requestAccepted hs (by decide) rfl, ?_⟩
  rw [hreq]
  simp only [syncStretches_power, syncStretches_fld, syncStretches_legSafe]
  exact ⟨h1, h2, h3⟩

theorem reqDrive_leaves {s : State} (hs : s.awake = true) (hf : s.full = true) (hp : s.power = .stand) (hw : s.driveWhy = none) :
    ∃ t, exec (.reqDrive .coachman) s = .next t ∧ t.power = .drive ∧ t.fld SYS_STATE SYS_STATE_STATE = 3 := by
  have hnone : s.reqWhy 2 = none := by
    unfold State.reqWhy
    rw [if_pos rfl, hf, hp, hw]
    rfl
  have hreq : stateRequested 2 (requestTaken 2 s) = enterDrive (requestTaken 2 s) := by
    have hstand : (requestTaken 2 s).power = .stand := hp
    unfold stateRequested
    rw [if_neg (by decide), if_pos rfl, hstand]
    rfl
  obtain ⟨h1, h2⟩ := enterDrive_leaves (requestTaken 2 s)
  refine ⟨_, requestAccepted hs (by decide) hnone, ?_⟩
  rw [hreq, syncStretches_power, syncStretches_fld]
  exact ⟨h1, h2⟩

/-- Without Full service a request for Drive is refused (R266). -/
theorem reqDrive_refused {s : State} (hs : s.awake = true) (hf : s.full = false) : ∃ t, exec (.reqDrive .coachman) s = .next t ∧
    t.power = s.power ∧ t.fld SYS_STATE SYS_STATE_WHY = 8 ∧ t.evPending BAD_VALUE = true := by
  have hwhy : ∀ u : State, u.full = false → u.reqWhy 2 = some 8 := fun u hu => by
    unfold State.reqWhy
    rw [if_pos rfl, hu]
    rfl
  have hbad : s.badWrite SYS_STATE (s.rd SYS_STATE) (requestWord 2 s) = true := by
    change (s.reqWhy (SYS_STATE_REQ.get (requestWord 2 s))).isSome = true
    rw [requestWord_req (by decide), hwhy s hf]
    rfl
  let u := s.wr SYS_STATE (s.rd SYS_STATE)
  have hu : u.full = false := (congrArg SYS_STATE_SERVICE.bit (rd_wr_own rfl _)).trans hf
  have hwrite : writeFields .coachman SYS_STATE SYS_STATE cardSysState [] (SYS_STATE_REQ.put 0 2) noUpdate
      ((none : Option Nat).getD (s.countNow (([] : List Nat).headD 0))) s =
      badValue .coachman SYS_STATE (u.setFld SYS_STATE SYS_STATE_WHY 8) := by
    rw [writeFields_refused isRegister_sysState (by decide) (openFields_coachman _) (if_neg fun h => by cases h.1) hbad]
    change refuseWrite .coachman SYS_STATE SYS_STATE (requestWord 2 s) u = _
    unfold refuseWrite
    rw [if_pos rfl, requestWord_req (by decide), hwhy u hu]
  have hexec : exec (.reqDrive .coachman) s =
      .next (syncStretches (badValue .coachman SYS_STATE (u.setFld SYS_STATE SYS_STATE_WHY 8))) := by
    have h := writeCmd_awake (v := .coachman) (o := SYS_STATE) (data := SYS_STATE_REQ.put 0 2) hs (n := none)
    rw [writeReg_fields isRegister_sysState, meets_unscheduled (by decide), hwrite] at h
    exact h
  refine ⟨_, hexec, ?_, ?_, ?_⟩
  · rw [syncStretches_power]
    obtain ⟨_, _, _, _, he⟩ := (raise_reports (captureRefused .coachman SYS_STATE 0 (u.setFld SYS_STATE SYS_STATE_WHY 8)) BAD_VALUE).events
    unfold badValue
    rw [he]
    exact captureRefused_power
  · rw [syncStretches_fld]
    refine (congrArg SYS_STATE_WHY.get ((raise_rd_apart _ _ (by decide)).trans (captureRefused_rd (by decide)))).trans ?_
    exact fld_setFld_self _ _ _ _ (by decide)
  · rw [syncStretches_evPending]
    exact raise_pending _ (by decide) (captureRefused_awake.trans hs)

/-! ### The Lantern state -/

/-- Both outputs take the level. -/
theorem setBrake_leaves (level hold : Bool) (s : State) : (setBrake level hold s).lan = s.lan ∧
    (setBrake level hold s).brake.outA = level ∧ (setBrake level hold s).brake.outB = level := by
  unfold setBrake
  extract_lets b s1 s2 s3
  have hlan : s2.lan = s.lan := by
    have h1 : s1.lan = s.lan := by simp only [s1]; split <;> rfl
    simp only [s2]
    split
    · exact h1
    · exact h1
  exact ⟨hlan, rfl, rfl⟩

theorem reqLantern_leaves {s : State} (hs : s.awake = true) (hp : s.power = .stand) (hr : ∀ a, a < 4 → s.running a = false)
    (hd : s.flag PROT_DIS PROT_DIS_START = false) (hw : LAN_CTL_AEN.bit (s.lanW 0) = true) :
    ∃ t, exec (.reqLantern .coachman) s = .next t ∧ t.lan.entering = true ∧ t.brake.outA = false ∧ t.brake.outB = false := by
  have hnone : s.reqWhy 3 = none := by
    have hrun : (List.range 4).any s.running = false := List.any_eq_false.mpr fun a ha => by rw [hr a (List.mem_range.mp ha)]; decide
    have hwake : s.wakeEnabled = true := by rw [State.wakeEnabled, hw]; rfl
    unfold State.reqWhy State.lanternWhy
    rw [if_neg (by decide), if_pos rfl, if_neg (by rw [hp]; decide), hrun, hd, hwake]
    rfl
  refine ⟨_, requestAccepted hs (by decide) hnone, ?_⟩
  rw [syncStretches_lan, syncStretches_brake]
  obtain ⟨hlan, hA, hB⟩ := setBrake_leaves false false ((requestTaken 3 s).updLan (fun l => { l with entering := true }))
  exact ⟨congrArg Lantern.entering hlan, hA, hB⟩

/-- What a reset that keeps no bit of a register leaves in it (R286). -/
theorem resetRegs_default {warm : Bool} {o : Nat} (h : keepBits warm o = 0) (m : FMap Word) :
    mget regDefault (resetRegs warm m) o = regDefault o := by
  induction m with
  | nil => rfl
  | cons e m ih =>
    obtain ⟨k, w⟩ := e
    unfold resetRegs
    extract_lets v
    split
    · exact ih
    · next hv =>
      by_cases hk : k = o
      · subst hk
        refine absurd ?_ hv
        simp only [v, resetWord, h]
        exact (congrArg (· ||| _) BitVec.and_zero).trans (BitVec.zero_or.trans BitVec.and_allOnes)
      · have hne : ∀ v, mget regDefault ((k, v) :: resetRegs warm m) o = mget regDefault (resetRegs warm m) o := fun v => by
          simp only [mget, mfind, if_neg hk]
        exact (hne v).trans ih

theorem gdo_default : ∀ c < 256, GCH_STAT_GDO.bit (regDefault (GCH_STAT c)) = false := by decide +kernel

/-- A cold reset leaves every gate pin low. -/
theorem resetState_gdo {s : State} {c : Nat} (hc : c < 256) : (resetState false s).gdo c = false := by
  have hkeep : keepBits false (GCH_STAT c) = 0 := by
    unfold keepBits
    extract_lets win
    rw [if_neg (by simp only [GCH_STAT, SYS_RSTCAUSE]; omega), if_neg (by simp only [GCH_STAT, SYS_CLK]; omega),
      if_neg (by simp only [GCH_STAT, PMU_SUP]; omega), if_neg (by simp only [GCH_STAT, PMU_REGSTAT]; omega),
      if_neg (by simp only [GCH_STAT, SAFE_BRKSTAT]; omega)]
    rfl
  exact (congrArg GCH_STAT_GDO.bit (resetRegs_default hkeep _)).trans (gdo_default c hc)

/-- The fast domain powers up in a cold reset (R265, R269). -/
theorem fastWakes_leaves (mems : List ClearMem) (s : State) : (fastWakes mems s).power = .stand ∧
    (fastWakes mems s).bringup.active = some .cold ∧ (fastWakes mems s).bringup.causes = SYS_RSTCAUSE_WAKE.mask ∧
    (fastWakes mems s).lan = s.lan ∧ (∀ x, x ≠ SYS_CLK → (fastWakes mems s).rd x = s.rd x) ∧
    (fastWakes mems s).flag SYS_CLK SYS_CLK_XSRC = LAN_CLK_XSRC.bit (s.lanW 5) ∧
    (fastWakes mems s).troika = s.troika ∧ (fastWakes mems s).brake = s.brake :=
  have hrd : ∀ x, (fastWakes mems s).rd x = (s.setFlag SYS_CLK SYS_CLK_XSRC (LAN_CLK_XSRC.bit (s.lanW 5))).rd x := fun _ => rfl
  ⟨rfl, rfl, rfl, rfl, fun _ hx => (hrd _).trans (rd_wr_of_ne _ _ hx), (congrArg SYS_CLK_XSRC.bit (hrd _)).trans
    (flag_setFlag_self s SYS_CLK SYS_CLK_XSRC _ (by decide) (by decide)), rfl, rfl⟩

/-- The fast domain without power, or the cold reset of a wake that was held (R267). -/
theorem reachLantern_leaves (s : State) : (reachLantern s).lan.entering = false ∧ (reachLantern s).troika.released = false ∧
    (∀ c, c < 256 → (reachLantern s).gdo c = false) ∧ (reachLantern s).brake = {} ∧
    (s.lan.wakeHeld = false → (reachLantern s).power = .lantern) ∧
    (s.lan.wakeHeld = true → (reachLantern s).power = .stand ∧ (reachLantern s).bringup.active = some .cold) := by
  let u := (fastOff s).updLan (fun l => { l with wakeHeld := false })
  have hgdo : ∀ c, c < 256 → u.gdo c = false := fun c hc => resetState_gdo (s := s) hc
  have heq : reachLantern s =
      if s.lan.wakeHeld then fastWakes ([.mainSram, .tandem, .table] ++ u.bringup.uncleared) u else u := rfl
  rw [heq]
  cases s.lan.wakeHeld with
  | false => exact ⟨rfl, rfl, hgdo, rfl, fun _ => rfl, fun h => Bool.noConfusion h⟩
  | true =>
    obtain ⟨h1, h2, -, h4, h5, -, h7, h8⟩ := fastWakes_leaves ([.mainSram, .tandem, .table] ++ u.bringup.uncleared) u
    refine ⟨(congrArg Lantern.entering h4).trans rfl, (congrArg Troika.released h7).trans rfl, fun c hc => ?_, h8.trans rfl,
      fun h => Bool.noConfusion h, fun _ => ⟨h1, h2⟩⟩
    exact (congrArg GCH_STAT_GDO.bit (h5 _ (by simp only [GCH_STAT, SYS_CLK]; omega))).trans (hgdo c hc)

theorem lanternReached_leaves {s : State} (hp : s.power = .stand) (he : s.lan.entering = true) (hq : s.lan.prog = []) :
    ∃ t, exec .lanternReached s = .next t ∧ t.lan.entering = false ∧ t.troika.released = false ∧ (∀ c, c < 256 → t.gdo c = false) ∧
      (s.lan.wakeHeld = false → t.power = .lantern) ∧
      (s.lan.wakeHeld = true → t.power = .stand ∧ t.bringup.active = some .cold) := by
  obtain ⟨h1, h2, h3, -, h4, h5⟩ := reachLantern_leaves s
  refine ⟨reachLantern s, if_pos ?_, h1, h2, h3, h4, h5⟩
  rw [State.fastPower, hp, he, hq]
  rfl

theorem wakePin_leaves {s : State} (k : Fin 4) (hp : s.power = .lantern) (he : (s.lanW 1).getLsbD (8 * k.val + 7) = true) :
    ∃ t, exec (.wake (.pin k)) s = .next t ∧ (LAN_WSTAT_PIN k).bit (t.lanW 2) = true ∧ t.power = .stand ∧
      t.bringup.active = some .cold ∧ t.bringup.causes = SYS_RSTCAUSE_WAKE.mask := by
  have hexec : exec (.wake (.pin k)) s = .next (acceptWake (LAN_WSTAT_PIN k) s) := by
    change execWake (.pin k) s = _
    unfold execWake
    rw [State.lanternUp, hp]
    simp only [he]
    rfl
  have hpower : (wakeLantern (s.lanSq 2 (LAN_WSTAT_PIN k))).power = .lantern := by
    obtain ⟨_, _, _, _, h⟩ := wakeLantern_onlyEvents (s.lanSq 2 (LAN_WSTAT_PIN k))
    rw [h]
    exact hp
  have hbit : (LAN_WSTAT_PIN k).bit ((acceptWake (LAN_WSTAT_PIN k) s).lanW 2) = true := by
    rw [acceptWake_lanW _ _ (by decide)]
    exact lanSq_sets _ _ _ (by have := k.isLt; simp only [LAN_WSTAT_PIN]; omega) (by decide : 0 < 1)
  have hwake : acceptWake (LAN_WSTAT_PIN k) s = fastWakes
      ([.mainSram, .tandem, .table] ++ (wakeLantern (s.lanSq 2 (LAN_WSTAT_PIN k))).bringup.uncleared)
      (wakeLantern (s.lanSq 2 (LAN_WSTAT_PIN k))) := by
    unfold acceptWake
    exact if_pos hpower
  refine ⟨_, hexec, hbit, ?_⟩
  rw [hwake]
  obtain ⟨h1, h2, h3, -⟩ := fastWakes_leaves
    ([.mainSram, .tandem, .table] ++ (wakeLantern (s.lanSq 2 (LAN_WSTAT_PIN k))).bringup.uncleared)
    (wakeLantern (s.lanSq 2 (LAN_WSTAT_PIN k)))
  exact ⟨h1, h2, h3⟩

/-! ### Off -/

/-- A map with some keys dropped. -/
theorem mget_filter {α : Type} (d : Nat → α) (p : Nat → Bool) (m : FMap α) (k : Nat) :
    mget d (m.filter (fun e => p e.1)) k = if p k then mget d m k else d k := by
  have h : mfind (m.filter (fun e => p e.1)) k = if p k then mfind m k else none := by
    induction m with
    | nil => exact (ite_self _).symm
    | cons e m ih =>
      obtain ⟨x, v⟩ := e
      by_cases hp : p x = true
      · simp only [List.filter_cons, hp, if_true, mfind, ih]
        by_cases hx : x = k
        · subst hx
          simp [hp]
        · simp [hx]
      · simp only [List.filter_cons, hp, Bool.false_eq_true, if_false, ih]
        by_cases hx : x = k
        · subst hx
          simp [hp]
        · simp [mfind, hx]
  unfold mget
  rw [h]
  split <;> rfl

theorem setBytes_only (s : State) (a : Nat) (bs : List Byte) : ∃ mem, s.setBytes a bs = { s with mem := mem } := by
  induction bs generalizing s a with
  | nil => exact ⟨_, rfl⟩
  | cons b bs ih =>
    obtain ⟨mem, h⟩ := ih (s.setByte a b) (a + 1)
    exact ⟨mem, h⟩

/-- What an operation on the code NVM does when it is cut short or done. -/
theorem nvmApply_only (op : NvmOp) (differs : Bool) (s : State) : ∃ mem draws, nvmApply op differs s =
    { s with mem := mem, draws := draws } := by
  unfold nvmApply
  split
  · exact ⟨_, _, rfl⟩
  · split
    · obtain ⟨mem, h⟩ := setBytes_only s op.addr ((List.range 16).map (fun k => BitVec.ofNat 8 (Config.freeNat (s.draws + k))))
      exact ⟨mem, s.draws + 16, by rw [h]; rfl⟩
    · obtain ⟨mem, h⟩ := setBytes_only s op.addr (op.data.flatMap wordBytes)
      exact ⟨mem, s.draws, h⟩

theorem nvmAbort_only (s : State) : ∃ mem draws nvm, nvmAbort s = { s with mem := mem, draws := draws, nvm := nvm } := by
  unfold nvmAbort
  split
  · exact ⟨_, _, _, rfl⟩
  · next op _ =>
    cases Config.freeBool s.draws with
    | true =>
      obtain ⟨mem, draws, h⟩ := nvmApply_only op false s
      exact ⟨mem, draws + 1, none, by simp only [if_true, h]; rfl⟩
    | false => exact ⟨s.mem, s.draws + 1, none, rfl⟩

theorem nvmAbort_lan (s : State) : (nvmAbort s).lan = s.lan := by
  obtain ⟨_, _, _, h⟩ := nvmAbort_only s
  rw [h]

theorem supplyLoss_leaves {s : State} (hp : s.power ≠ .off) (hq : s.lan.prog = []) (hb : s.lan.bb = []) :
    ∃ t, exec .supplyLoss s = .next t ∧ t.power = .off ∧ ∀ w, t.lanW w = if 0x1000 ≤ w then s.lanW w else lanDefault w := by
  let u := if s.fastPower then fastOff s else s
  have hlan : u.lan.prog = [] ∧ u.lan.bb = [] ∧ u.lan.words = s.lan.words := by
    have hoff : (fastOff s).lan = { s.lan with entering := false } := by
      change { (nvmAbort s).lan with entering := false } = _
      rw [nvmAbort_lan]
    simp only [u]
    split
    · rw [hoff]
      exact ⟨hq, hb, rfl⟩
    · exact ⟨hq, hb, rfl⟩
  obtain ⟨h1, h2, h3⟩ := hlan
  have hcut : cutRecord (cutProg u) = u := by
    have h : cutProg u = u := by unfold cutProg; rw [h1]
    rw [h]
    unfold cutRecord
    rw [h2]
  refine ⟨_, if_neg hp, rfl, fun w => ?_⟩
  change mget lanDefault ((cutRecord (cutProg u)).lan.words.filter (fun e => persistentWord e.1)) w = _
  rw [hcut, h3, mget_filter]
  simp only [persistentWord, decide_eq_true_eq]
  rfl

/-- Settles O28: the requests by the word of SYS_STATE and the passage that each starts; the Lantern state and Off by what a
cold reset leaves. -/
theorem powerStates : Obligations.PowerStates := fun s =>
  ⟨reqStand_leaves, reqDrive_leaves, reqDrive_refused, reqLantern_leaves, lanternReached_leaves, wakePin_leaves,
    fun hp => ⟨_, if_pos hp, by
      obtain ⟨h1, h2, -, h4, h5, h6, -⟩ := fastWakes_leaves [.mainSram, .tandem, .table, .lantern] s
      exact ⟨h1, h2, h5, h6, h4⟩⟩,
    supplyLoss_leaves⟩

end Sys2Proof.Proofs
end

section
/-! Supplies, their loss, and the records of the black box (R275, R277, R284, R383). -/

namespace Sys2Proof.Proofs

open Sys2Proof Sys2Proof.Machine Sys2Proof.Safety Sys2Proof.Laws

/-! ### Frames -/

section
variable {s : State}

theorem fastPower_of_awake (h : s.awake = true) : s.fastPower = true := by
  simp only [State.awake, Bool.and_eq_true] at h
  exact h.2

theorem lanternUp_of_fastPower (h : s.fastPower = true) : s.lanternUp = true := by
  have hne : s.power ≠ .off := by
    intro he
    rw [State.fastPower, he] at h
    exact absurd h (by decide)
  rw [State.lanternUp, decide_eq_false hne]
  rfl

theorem fastPower_iff : s.fastPower = true ↔ s.power = .stand ∨ s.power = .drive := by
  rw [State.fastPower, Bool.or_eq_true, decide_eq_true_eq, decide_eq_true_eq]

/-- A passage to Stand writes SYS_STATE, the gate block and the Drag Shoe alone. -/
theorem enterStand_rd {o : Nat} (hs : o ≠ SYS_STATE) (hg : ¬gateRegister false o) (hb : ¬brakeRegister o) :
    (enterStand s).rd o = s.rd o := by
  have he : eventRegister o = false := Bool.not_eq_true _ ▸ fun h => hg (.inl h)
  have h1 : Untouched (· = o) s (enterStand s) := by
    unfold enterStand
    extract_lets u v
    have hu : Untouched (· = o) s u := by
      refine fun x hx => ?_
      rw [hx]
      exact rd_wr_of_ne { s with power := .stand } _ hs
    have hv : Untouched (· = o) s v := hu.each fun a _ t => .upd .refl
    have hc : Untouched (· = o) s (safeFor .stand (List.range 32) v) :=
      (hv.each fun l _ t => .addCause .refl).gate (GateStep.refl (L := false)).settleSafe fun x hx => hx ▸ hg
    exact hc.brake (brakeStep_settleBrake _) fun x hx => hx ▸ ⟨hb, he⟩
  exact h1 o rfl

theorem enterStand_pending {src : Nat} (he : evReserved src = false) (h : s.evPending src = true) :
    (enterStand s).evPending src = true := by
  have hlt := evReserved_div he
  unfold enterStand
  extract_lets u v
  have hu : u.evPending src = true :=
    (congrArg (fun w => BitVec.getLsbD w (src % 24))
      (rd_wr_of_ne { s with power := .stand } _ (by simp only [EVT_PEND, SYS_STATE]; omega))).trans h
  have hv : v.evPending src = true :=
    List.foldlRecOn _ _ (motive := fun t : State => t.evPending src = true) hu fun t ht a _ => ht
  exact (brakeStep_settleBrake _).pending he ((LowStep.refl.safeFor (s := v)).pending he hv)

theorem enterStand_bringup : (enterStand s).bringup = s.bringup := by
  unfold enterStand
  extract_lets u v
  have hv : v.bringup = s.bringup :=
    List.foldlRecOn _ _ (motive := fun t : State => t.bringup = s.bringup) rfl fun t ht a _ => ht
  obtain ⟨_, _, _, _, _, _, hb⟩ := (brakeStep_settleBrake (safeFor .stand (List.range 32) v)).only
  obtain ⟨_, _, _, _, _, _, _, _, _, _, _, _, _, _, _, _, _, _, _, _, _, hl⟩ :=
    (LowStep.refl.safeFor (s := v) (c := .stand) (ls := List.range 32)).only
  rw [hb, hl]
  exact hv

theorem capture_lanW (kind src : Nat) {w : Nat} (hw : w ≠ 0x3000) : (capture kind src s).lanW w = s.lanW w := by
  unfold capture
  split
  · rfl
  · exact lanW_setLanW_of_ne _ _ hw

/-- What holds legs in SAFE changes no word of the Lantern domain but that of the wakes. -/
theorem safeFor_lanW {c : SafeCause} {ls : List Nat} {w : Nat} (hw : w ≠ 0) : (safeFor c ls s).lanW w = s.lanW w := by
  have h1 : (each ls (addCause c) s).lan = s.lan :=
    List.foldlRecOn _ _ (motive := fun t : State => t.lan = s.lan) rfl fun t ht a _ => ht
  have h2 : GateStep false (each ls (addCause c) s) (safeFor c ls s) := GateStep.refl.settleSafe
  refine (BitVec.eq_of_getLsbD_eq fun i _ => h2.lanBit w i fun h0 => absurd h0 hw).trans ?_
  simp only [State.lanW, h1]

end

/-! ### PFAIL and the supplies (R275) -/

theorem pfail_leaves {s : State} (hs : s.awake = true) : ∃ t, exec .pfail s = .next t ∧ LAN_WSTAT_PFAIL.bit (t.lanW 2) = true ∧
    t.evPending (evMem 12) = true ∧ ∀ l, l < 32 → t.legSafe l ≠ 0 := by
  let v := wakeLantern (s.lanSq 2 LAN_WSTAT_PFAIL)
  let u := v.raise (evMem 12)
  have hv : Reports (s.lanSq 2 LAN_WSTAT_PFAIL) v := wakeLantern_reports _
  have hva : v.awake = true := hv.events.awake.trans hs
  have hua : u.awake = true := (raise_reports v _).events.awake.trans hva
  have hexec : exec .pfail s = settled (capture 2 0 (safeFor .pfail (List.range 32) u)) := by
    have hfast : v.fastPower = true := fastPower_of_awake hva
    change execPfail s = _
    unfold execPfail
    rw [lanternUp_of_fastPower (fastPower_of_awake hs)]
    simp only [Bool.not_true, Bool.false_eq_true, if_false]
    rw [show wakeLantern (s.lanSq 2 LAN_WSTAT_PFAIL) = v from rfl, hfast]
    simp only [Bool.not_true, Bool.false_eq_true, if_false]
    rw [show pmuSupply v = u from rfl, hua]
    rfl
  refine ⟨_, hexec, ?_, ?_, fun l hl => ?_⟩
  · have hw : (capture 2 0 (safeFor .pfail (List.range 32) u)).lanW 2 = (s.lanSq 2 LAN_WSTAT_PFAIL).lanW 2 :=
      (capture_lanW 2 0 (by decide)).trans ((safeFor_lanW (by decide)).trans
        (((raise_reports v _).lanW (by decide)).trans (hv.lanW (by decide))))
    simp only [State.lanW, syncStretches_lan] at hw ⊢
    rw [hw]
    exact lanSq_sets s 2 LAN_WSTAT_PFAIL (by decide) (by decide)
  · rw [syncStretches_evPending, capture_evPending]
    exact (LowStep.refl.safeFor (s := u)).pending (by decide) (raise_pending v (by decide) hva)
  · rw [syncStretches_legSafe, State.legSafe, State.fld, capture_rd]
    exact safeFor_safe (by decide) hl (List.mem_range.mpr hl)

theorem batlow_leaves {s : State} (hs : s.awake = true) : ∃ t, exec .batlow s = .next t ∧ t.flag PMU_SUP PMU_SUP_VBATOK = false ∧
    (s.flag PMU_SUP PMU_SUP_VBKOK = true → t.flag PMU_SUP PMU_SUP_BATLOW = true ∧ t.evPending (evMem 12) = true) := by
  let u := s.setFlag PMU_SUP PMU_SUP_VBATOK false
  have hu : u.flag PMU_SUP PMU_SUP_VBATOK = false := flag_setFlag_self s PMU_SUP PMU_SUP_VBATOK false (by decide) (by decide)
  have hkeep : u.flag PMU_SUP PMU_SUP_VBKOK = s.flag PMU_SUP PMU_SUP_VBKOK := flag_setFlag_other s (.inr (by decide))
  refine ⟨if u.flag PMU_SUP PMU_SUP_VBKOK then pmuSupply (u.sq PMU_SUP PMU_SUP_BATLOW) else u, if_pos hs, ?_, fun h => ?_⟩
  · split
    · exact (congrArg PMU_SUP_VBATOK.bit (raise_rd_apart _ _ (by decide))).trans
        ((flag_sq_other u PMU_SUP (by decide) (by decide)).trans hu)
    · exact hu
  · rw [hkeep, h, if_pos rfl]
    exact sq_raise_noted u (by decide) hs (by decide) (by decide) (by decide)

theorem bklow_leaves {s : State} (hs : s.awake = true) : ∃ t, exec .bklow s = .next t ∧ t.flag PMU_SUP PMU_SUP_VBKOK = false ∧
    (s.flag PMU_SUP PMU_SUP_VBKOK = true → s.flag PMU_SUP PMU_SUP_VBATOK = true →
      t.flag PMU_SUP PMU_SUP_BKLOW = true ∧ t.evPending (evMem 12) = true) := by
  let was := s.flag PMU_SUP PMU_SUP_VBKOK || s.lan.vbkSeen
  let u := s.setFlag PMU_SUP PMU_SUP_VBKOK false
  have hu : u.flag PMU_SUP PMU_SUP_VBKOK = false := flag_setFlag_self s PMU_SUP PMU_SUP_VBKOK false (by decide) (by decide)
  have hkeep : u.flag PMU_SUP PMU_SUP_VBATOK = s.flag PMU_SUP PMU_SUP_VBATOK := flag_setFlag_other s (.inr (by decide))
  refine ⟨if u.flag PMU_SUP PMU_SUP_VBATOK && was then pmuSupply (u.sq PMU_SUP PMU_SUP_BKLOW) else u, if_pos hs, ?_,
    fun hk hb => ?_⟩
  · split
    · exact (congrArg PMU_SUP_VBKOK.bit (raise_rd_apart _ _ (by decide))).trans
        ((flag_sq_other u PMU_SUP (by decide) (by decide)).trans hu)
    · exact hu
  · have hw : (u.flag PMU_SUP PMU_SUP_VBATOK && was) = true := by simp only [hkeep, hb, was, hk, Bool.true_or, Bool.and_self]
    rw [hw, if_pos rfl]
    exact sq_raise_noted u (by decide) hs (by decide) (by decide) (by decide)

/-! ### Rails (R275, R284) -/

/-- A rail that is low, as PMU_REGSTAT notes it. -/
def railNoted (r : Rail) (s : State) : State :=
  ((s.setFld PMU_REGSTAT PMU_REGSTAT_LIVE (s.fld PMU_REGSTAT PMU_REGSTAT_LIVE ||| 2 ^ railBit r)).sqMask PMU_REGSTAT
    (word (2 ^ (20 + railBit r)))).raise (evMem 11)

/-- VCORE and VIO take Drive to Stand. -/
def railPassed (r : Rail) (s : State) : State :=
  if railBit r < 2 ∧ (railNoted r s).power = .drive then enterStand (railNoted r s) else railNoted r s

theorem exec_pmuReg {s : State} (r : Rail) (w : Bool) (h : s.fastPower = true) : exec (.pmuReg r w) s =
    if railBit r < 2 ∧ w = true then settled (resetNow .cold SYS_RSTCAUSE_REGRST (railPassed r s)) else settled (railPassed r s) := by
  change execPmuReg r w s = _
  unfold execPmuReg
  rw [h]
  rfl

section
variable {s : State} (r : Rail)

theorem railNoted_rd : (railNoted r s).rd PMU_REGSTAT = ((s.setFld PMU_REGSTAT PMU_REGSTAT_LIVE
    (s.fld PMU_REGSTAT PMU_REGSTAT_LIVE ||| 2 ^ railBit r)).sqMask PMU_REGSTAT (word (2 ^ (20 + railBit r)))).rd PMU_REGSTAT :=
  raise_rd_apart _ _ (by decide)

theorem railNoted_only : OnlyEvents s (railNoted r s) :=
  .trans (.trans (wr_onlyEvents ..) (wr_onlyEvents ..)) (raise_reports ..).events

theorem railNoted_bits : ((railNoted r s).rd PMU_REGSTAT).getLsbD (20 + railBit r) = true ∧
    ((railNoted r s).rd PMU_REGSTAT).getLsbD (railBit r) = true := by
  have hlt : railBit r < 4 := by cases r <;> decide
  rw [railNoted_rd]
  constructor
  · refine sqMask_sets_bit _ (by omega) ?_
    cases r <;> decide
  · refine sqMask_keeps_bit _ (by omega) _ _ ?_
    rw [State.setFld, rd_wr_self, put_getLsbD, if_pos (by simp only [PMU_REGSTAT_LIVE]; omega)]
    simp [PMU_REGSTAT_LIVE]

theorem railPassed_rd : (railPassed r s).rd PMU_REGSTAT = (railNoted r s).rd PMU_REGSTAT := by
  unfold railPassed
  split
  · exact enterStand_rd (by decide) (by decide) (by decide)
  · rfl

theorem railPassed_pending (hs : s.awake = true) : (railPassed r s).evPending (evMem 11) = true := by
  have h : (railNoted r s).evPending (evMem 11) = true := raise_pending _ (by decide) hs
  unfold railPassed
  split
  · exact enterStand_pending (by decide) h
  · exact h

theorem railPassed_power (hr : r = .vcore ∨ r = .vio) (h : s.power = .stand ∨ s.power = .drive) : (railPassed r s).power = .stand := by
  have hp : (railNoted r s).power = s.power := by
    obtain ⟨_, _, _, _, he⟩ := railNoted_only (s := s) r
    rw [he]
  have hb : railBit r < 2 := by rcases hr with rfl | rfl <;> decide
  unfold railPassed
  rcases h with h | h
  · rw [if_neg (by rw [hp, h]; rintro ⟨-, h⟩; cases h), hp, h]
  · rw [if_pos ⟨hb, hp.trans h⟩]
    exact (enterStand_leaves _).1

theorem railPassed_fastPower (h : s.power = .stand ∨ s.power = .drive) : (railPassed r s).fastPower = true := by
  have hp : (railNoted r s).power = s.power := by
    obtain ⟨_, _, _, _, he⟩ := railNoted_only (s := s) r
    rw [he]
  unfold railPassed
  split
  · exact fastPower_iff.mpr (.inl (enterStand_leaves _).1)
  · exact fastPower_iff.mpr (hp ▸ h)

end

theorem mget_cons {α : Type} (d : Nat → α) (k : Nat) (v : α) (m : FMap α) (o : Nat) :
    mget d ((k, v) :: m) o = if k = o then v else mget d m o := by
  simp only [mget, mfind]
  split <;> rfl

/-- A reset keeps the bits of a register that it keeps and whose reset value is 0 (R286). -/
theorem resetRegs_keepsBit {warm : Bool} {o i : Nat} (hk : (keepBits warm o).getLsbD i = true)
    (hd : (regDefault o).getLsbD i = false) {m : FMap Word} (h : (mget regDefault m o).getLsbD i = true) :
    (mget regDefault (resetRegs warm m) o).getLsbD i = true := by
  induction m with
  | nil =>
    rw [show mget regDefault [] o = regDefault o from rfl, hd] at h
    cases h
  | cons e m ih =>
    obtain ⟨k, w⟩ := e
    rw [mget_cons] at h
    unfold resetRegs
    extract_lets v
    by_cases hko : k = o
    · subst hko
      rw [if_pos rfl] at h
      have hv : v.getLsbD i = true := by
        simp only [v, resetWord, BitVec.getLsbD_or, BitVec.getLsbD_and, h, hk, Bool.and_self, Bool.true_or]
      have hne : v ≠ regDefault k := fun he => by
        rw [he, hd] at hv
        exact Bool.noConfusion hv
      rw [if_neg hne, mget_cons, if_pos rfl]
      exact hv
    · rw [if_neg hko] at h
      split
      · exact ih h
      · rw [mget_cons, if_neg hko]
        exact ih h

/-- A cold reset keeps what a register shows of a level from outside. -/
theorem resetCold_keepsBit {s : State} {f : Fld} {o i : Nat} (hk : (keepBits false o).getLsbD i = true)
    (hd : (regDefault o).getLsbD i = false) (h : (s.rd o).getLsbD i = true) :
    ((resetCause .cold f s).rd o).getLsbD i = true := by
  have hreset : ((resetState false s).rd o).getLsbD i = true := by
    have hregs : (resetState false s).regs = resetRegs false s.regs := by
      obtain ⟨_, _, _, hn⟩ := nvmAbort_only s
      change resetRegs false (nvmAbort s).regs = _
      rw [hn]
    rw [State.rd, hregs]
    exact resetRegs_keepsBit hk hd h
  unfold resetCause
  cases s.bringup.active with
  | none => exact hreset
  | some kind => cases kind with
    | cold => exact h
    | warm => exact hreset

/-- A cold reset is in effect with its cause. -/
theorem resetCold_leaves {s : State} {f : Fld} : (resetCause .cold f s).bringup.active = some .cold ∧
    (resetCause .cold f s).bringup.causes &&& f.mask = f.mask := by
  have hor : ∀ w : Word, (w ||| f.mask) &&& f.mask = f.mask := fun w => by
    refine BitVec.eq_of_getLsbD_eq fun i _ => ?_
    rw [BitVec.getLsbD_and, BitVec.getLsbD_or]
    cases f.mask.getLsbD i <;> simp
  refine ⟨?_, hor _⟩
  unfold resetCause
  cases h : s.bringup.active with
  | none => rfl
  | some kind => cases kind with
    | cold => exact h
    | warm => rfl

theorem pmuReg_running {s : State} (hs : s.awake = true) (r : Rail) : ∃ t, exec (.pmuReg r false) s = .next t ∧
    t.evPending (evMem 11) = true ∧ (t.rd PMU_REGSTAT).getLsbD (20 + railBit r) = true ∧
    ((r = .vcore ∨ r = .vio) → s.power = .drive → t.power = .stand) := by
  refine ⟨_, (exec_pmuReg r false (fastPower_of_awake hs)).trans (if_neg fun h => Bool.noConfusion h.2), ?_, ?_, fun hr hp => ?_⟩
  · exact (syncStretches_evPending ..).trans (railPassed_pending r hs)
  · rw [syncStretches_rd, railPassed_rd]
    exact (railNoted_bits r).1
  · rw [syncStretches_power]
    exact railPassed_power r hr (.inr hp)

theorem pmuReg_powered {s : State} (h : s.power = .stand ∨ s.power = .drive) (r : Rail) (w : Bool) :
    ∃ t, exec (.pmuReg r w) s = .next t ∧ (t.fld PMU_REGSTAT PMU_REGSTAT_LIVE).testBit (railBit r) = true ∧
      (w = true → (r = .vcore ∨ r = .vio) → t.bringup.active = some .cold ∧ t.power = .stand ∧
        t.bringup.causes &&& SYS_RSTCAUSE_REGRST.mask ≠ 0) := by
  have hlt : railBit r < 4 := by cases r <;> decide
  have hlive : ∀ t : State, (t.rd PMU_REGSTAT).getLsbD (railBit r) = true →
      (t.fld PMU_REGSTAT PMU_REGSTAT_LIVE).testBit (railBit r) = true := fun t ht => by
    rw [State.fld, get_testBit]
    simp [PMU_REGSTAT_LIVE, hlt, ht]
  have hbit : ((railPassed r s).rd PMU_REGSTAT).getLsbD (railBit r) = true := by
    rw [railPassed_rd]
    exact (railNoted_bits r).2
  rw [exec_pmuReg r w (fastPower_iff.mpr h)]
  by_cases hw : railBit r < 2 ∧ w = true
  · have hreset : resetNow .cold SYS_RSTCAUSE_REGRST (railPassed r s) =
        { resetCause .cold SYS_RSTCAUSE_REGRST (railPassed r s) with power := .stand } := if_pos (railPassed_fastPower r h)
    have hkeep : (keepBits false PMU_REGSTAT).getLsbD (railBit r) = true := by cases r <;> decide
    have hdefault : (regDefault PMU_REGSTAT).getLsbD (railBit r) = false := by cases r <;> decide +kernel
    obtain ⟨h1, h2⟩ := resetCold_leaves (s := railPassed r s) (f := SYS_RSTCAUSE_REGRST)
    have h3 := resetCold_keepsBit (f := SYS_RSTCAUSE_REGRST) hkeep hdefault hbit
    rw [if_pos hw, hreset]
    refine ⟨_, rfl, by rw [syncStretches_fld]; exact hlive _ h3, fun _ _ => ?_⟩
    rw [syncStretches_bringup, syncStretches_power]
    refine ⟨h1, rfl, ?_⟩
    change (resetCause .cold SYS_RSTCAUSE_REGRST (railPassed r s)).bringup.causes &&& SYS_RSTCAUSE_REGRST.mask ≠ 0
    rw [h2]
    decide
  · rw [if_neg hw]
    refine ⟨_, rfl, by rw [syncStretches_fld]; exact hlive _ hbit, fun hw' hr => absurd ⟨?_, hw'⟩ hw⟩
    rcases hr with rfl | rfl <;> decide

/-! ### Harness rails (R277) -/

theorem pmuHuv_leaves {s : State} (hs : s.awake = true) (h : Fin 36) (at_ : Nat) (hon : s.harnessOn h = true) :
    ∃ t, exec (.pmuHuv h at_) s = .next t ∧
      if mget (fun _ => 0) s.harnessAt h + msTaps ≤ max s.now at_ then
        t.flag (PMU_HSV h) PMU_HSV_UV = true ∧ (t.rd (PMU_HUV (h.val / 24))).getLsbD (h.val % 24) = true ∧
          t.evPending (evMem 10) = true
      else t.regs = s.regs := by
  have hlt := h.isLt
  let u := (s.at at_).setFlag (PMU_HSV h) PMU_HSV_UV true
  let v := u.sqMask (PMU_HUV (h.val / 24)) (word (2 ^ (h.val % 24)))
  have hexec : exec (.pmuHuv h at_) s = if mget (fun _ => 0) s.harnessAt h + msTaps ≤ max s.now at_ then .next (v.raise (evMem 10))
      else .next (s.at at_) := by
    have hawake : (s.at at_).awake = true := hs
    have hharness : (s.at at_).harnessOn h = true := hon
    change execPmuHuv h at_ s = _
    unfold execPmuHuv
    simp only [hawake, hharness, Bool.true_and, decide_eq_true_eq]
    rfl
  rw [hexec]
  split
  · have hev : ∀ o, 0x1F0000 ≤ o → eventRegister o = false := fun o ho => by
      simp only [eventRegister, eventCounter, Bool.or_eq_false_iff, Bool.and_eq_false_iff, decide_eq_false_iff_not]
      simp only [EVT_PEND, EVT_CNT, THM_BG, AXL_CNTS]
      omega
    refine ⟨_, rfl, ?_, ?_, raise_pending v (by decide) hs⟩
    · refine (congrArg PMU_HSV_UV.bit ((raise_rd_apart v _ (hev _ (by simp only [PMU_HSV]; omega))).trans
        (rd_wr_of_ne _ _ (by simp only [PMU_HSV, PMU_HUV]; omega)))).trans ?_
      exact flag_setFlag_self (s.at at_) (PMU_HSV h) PMU_HSV_UV true (by decide) (by decide)
    · rw [raise_rd_apart v _ (hev _ (by simp only [PMU_HUV]; omega))]
      have hm : h.val % 24 < 24 := Nat.mod_lt _ (by decide)
      refine sqMask_sets_bit u hm ?_
      simp only [word, BitVec.getLsbD_ofNat, Nat.testBit_two_pow_self, Bool.and_true, decide_eq_true_eq]
      omega
  · exact ⟨_, rfl, rfl⟩

/-! ### Supplies that are good again -/

/-- PFAIL's hold of every leg ends. -/
theorem endCause_causes {s : State} (c : SafeCause) {l : Nat} (hl : l < 32) :
    ¬((endCause c (List.range 32) s).lg l).causes.contains c := by
  have h1 : ¬((each (List.range 32) (dropCause c) s).lg l).causes.contains c = true := by
    refine each_establishes (P := fun _ => True) (Q := fun u => ¬(u.lg l).causes.contains c = true) (x := l) (fun _ _ _ _ => trivial)
      (fun x _ u _ hu => ?_) (List.mem_range.mpr hl) (fun u _ => ?_) _ trivial
    · simp only [dropCause, State.updLg, State.setLg, State.lg, mget_mset]
      split
      · simp
      · exact hu
    · simp only [dropCause, State.updLg, State.setLg, State.lg, mget_mset_self]
      simp
  have h2 : GateStep false (each (List.range 32) (dropCause c) s) (endCause c (List.range 32) s) := GateStep.refl.settleSafe
  rw [h2.causes]
  exact h1

theorem endCause_rd {s : State} {c : SafeCause} {ls : List Nat} {o : Nat} (hg : ¬gateRegister false o) :
    (endCause c ls s).rd o = s.rd o :=
  ((Untouched.each (P := (· = o)) .refl fun l _ t => .upd .refl).gate (GateStep.refl (L := false)).settleSafe
    fun x hx => hx ▸ hg) o rfl

theorem supplyGood_vbat {s : State} (h : s.fastPower = true) : ∃ t, exec (.supplyGood .vbat) s = .next t ∧
    t.flag PMU_SUP PMU_SUP_VBATOK = true ∧ ∀ l, l < 32 → ¬ (t.lg l).causes.contains .pfail := by
  have hexec : exec (.supplyGood .vbat) s = settled (endCause .pfail (List.range 32) (s.setFlag PMU_SUP PMU_SUP_VBATOK true)) := by
    change execSupplyGood .vbat s = _
    unfold execSupplyGood
    rw [h]
    rfl
  refine ⟨_, hexec, ?_, fun l hl => ?_⟩
  · rw [syncStretches_flag]
    exact (congrArg PMU_SUP_VBATOK.bit (endCause_rd (by decide))).trans
      (flag_setFlag_self s PMU_SUP PMU_SUP_VBATOK true (by decide) (by decide))
  · rw [syncStretches_causes]
    exact endCause_causes _ hl

theorem supplyGood_vbk {s : State} (h : s.fastPower = true) : ∃ t, exec (.supplyGood .vbk) s = .next t ∧
    t.flag PMU_SUP PMU_SUP_VBKOK = true ∧ ∀ l, l < 32 → ¬ (t.lg l).causes.contains .pfail := by
  let u := s.updLan (fun l => { l with vbkSeen := true })
  have hexec : exec (.supplyGood .vbk) s = settled (endCause .pfail (List.range 32) (u.setFlag PMU_SUP PMU_SUP_VBKOK true)) := by
    change execSupplyGood .vbk s = _
    unfold execSupplyGood
    rw [h]
    rfl
  refine ⟨_, hexec, ?_, fun l hl => ?_⟩
  · rw [syncStretches_flag]
    exact (congrArg PMU_SUP_VBKOK.bit (endCause_rd (by decide))).trans
      (flag_setFlag_self u PMU_SUP PMU_SUP_VBKOK true (by decide) (by decide))
  · rw [syncStretches_causes]
    exact endCause_causes _ hl

theorem supplyGood_rail {s : State} (h : s.fastPower = true) (r : Rail) : ∃ t, exec (.supplyGood (.rail r)) s = .next t ∧
    ∀ k, k < 4 → (t.fld PMU_REGSTAT PMU_REGSTAT_LIVE).testBit k =
      (decide (k ≠ railBit r) && (s.fld PMU_REGSTAT PMU_REGSTAT_LIVE).testBit k) := by
  have hexec : exec (.supplyGood (.rail r)) s = .next (s.setFld PMU_REGSTAT PMU_REGSTAT_LIVE
      (s.fld PMU_REGSTAT PMU_REGSTAT_LIVE &&& (15 - 2 ^ railBit r))) := by
    change execSupplyGood (.rail r) s = _
    unfold execSupplyGood
    rw [h]
    rfl
  have hmask : ∀ k, k < 4 → (15 - 2 ^ railBit r).testBit k = decide (k ≠ railBit r) := fun k hk => by
    cases r <;> interval_cases k <;> rfl
  refine ⟨_, hexec, fun k hk => ?_⟩
  rw [fld_setFld_self _ _ _ _ (by decide), Nat.testBit_mod_two_pow, Nat.testBit_and, hmask k hk, Bool.and_comm (_ : Bool)]
  simp [PMU_REGSTAT_LIVE, hk, Bool.and_comm]

/-! ### Records of the black box (R381, R383) -/

/-- Words written one after the other from an address up. -/
theorem eachWord_lanW (f : Nat → Word) (base : Nat) (s : State) (n : Nat) :
    (∀ k, k < n → (each ((List.range n).map fun k => (base + k, f k)) (fun e t => t.setLanW e.1 e.2) s).lanW (base + k) = f k) ∧
    ∀ w, (w < base ∨ base + n ≤ w) →
      (each ((List.range n).map fun k => (base + k, f k)) (fun e t => t.setLanW e.1 e.2) s).lanW w = s.lanW w := by
  have happ : ∀ (xs ys : List (Nat × Word)) (s : State), each (xs ++ ys) (fun e t => State.setLanW t e.1 e.2) s =
      each ys (fun e t => t.setLanW e.1 e.2) (each xs (fun e t => t.setLanW e.1 e.2) s) := fun xs ys s => List.foldl_append ..
  induction n with
  | zero => exact ⟨fun _ h => absurd h (Nat.not_lt_zero _), fun _ _ => rfl⟩
  | succ n ih =>
    obtain ⟨h1, h2⟩ := ih
    rw [List.range_succ, List.map_append, happ]
    refine ⟨fun k hk => ?_, fun w hw => ?_⟩
    · rcases Nat.lt_or_eq_of_le (Nat.le_of_lt_succ hk) with hk | rfl
      · exact (lanW_setLanW_of_ne (w := base + n) _ _ (by omega)).trans (h1 k hk)
      · exact lanW_setLanW_self ..
    · exact (lanW_setLanW_of_ne (w := base + n) _ _ (by omega)).trans (h2 w (by omega))

theorem bb_setLanW (s : State) (w : Nat) (v : Word) : (s.setLanW w v).lan.bb = s.lan.bb := rfl

theorem blackBoxRecord_leaves {s : State} {c : Capture} {rest : List Capture} (hb : s.lan.bb = c :: rest) (hc : c.regs.length = 13) :
    ∃ t, exec .blackBoxRecordDone s = .next t ∧ t.lan.bb = rest ∧
      t.lanF 0x3000 bbCount = (s.lanF 0x3000 bbCount + 1) % 65536 ∧
      ∃ r, r < 15 ∧ t.lanF 0x3001 bbIndex = r ∧ t.lanW (0x3010 + 16 * r) = c.time ∧
        (s.lanF 0x3000 bbCount ≠ 0 → r = (s.lanF 0x3001 bbIndex + 1) % 15) ∧
        ∀ k, k < 13 → t.lanW (0x3012 + 16 * r + k) = c.regs.getD k 0 := by
  let r := s.bbNext
  let n := s.lanF 0x3000 bbCount + 1
  let u := s.updLan (fun l => { l with bb := rest })
  let ws := c.time :: word (c.kind * 2 ^ 24 + c.source * 2 ^ 16 + n % 2 ^ 16) :: c.regs
  obtain ⟨crc, hcrc⟩ : ∃ crc, crc = crc32c (ws.flatMap wordBytes) := ⟨_, rfl⟩
  let f := fun k => (ws ++ [crc]).getD k 0
  let v := each ((List.range 16).map fun k => (0x3010 + 16 * r + k, f k)) (fun e t => t.setLanW e.1 e.2) u
  have hexec : exec .blackBoxRecordDone s =
      .next ((v.setLanW 0x3001 (word r)).setLanW 0x3000 (bbCount.put (s.lanW 0x3000) n)) := by
    change execBlackBoxRecordDone s = _
    unfold execBlackBoxRecordDone
    rw [hb]
    simp only [bbWrites, each, List.foldl_append, v, f, hcrc]
    rfl
  have hr : r < 15 := by
    simp only [r, State.bbNext]
    split
    · decide
    · exact Nat.mod_lt _ (by decide)
  obtain ⟨hrec, -⟩ := eachWord_lanW f (0x3010 + 16 * r) u 16
  have hword : ∀ k, k < 16 → ((v.setLanW 0x3001 (word r)).setLanW 0x3000 (bbCount.put (s.lanW 0x3000) n)).lanW (0x3010 + 16 * r + k) =
      f k := fun k hk =>
    (lanW_setLanW_of_ne _ _ (by omega)).trans ((lanW_setLanW_of_ne _ _ (by omega)).trans (hrec k hk))
  have hword0 := hword 0 (by decide)
  rw [Nat.add_zero] at hword0
  have hbuf : v.lan.bb = rest := List.foldlRecOn _ _ (motive := fun t : State => t.lan.bb = rest) rfl fun t ht a _ => ht
  refine ⟨_, hexec, (bb_setLanW ..).trans ((bb_setLanW ..).trans hbuf), ?_, r, hr, ?_, hword0, fun hne => if_neg fun h => hne h.1, fun k hk => ?_⟩
  · exact (congrArg bbCount.get (lanW_setLanW_self ..)).trans (get_put_self _ _ _ (by decide))
  · refine (congrArg bbIndex.get ((lanW_setLanW_of_ne _ _ (by decide)).trans (lanW_setLanW_self ..))).trans ?_
    have hlt : r < 2 ^ 32 := by omega
    simp only [bbIndex, Fld.get, word, BitVec.toNat_ofNat, Nat.mod_eq_of_lt hlt, Nat.shiftRight_zero]
    omega
  · have h := hword (2 + k) (by omega)
    rw [show 0x3010 + 16 * r + (2 + k) = 0x3012 + 16 * r + k by omega] at h
    rw [h]
    have hlen : k < c.regs.length := by omega
    simp only [f, ws, List.cons_append, List.getD_cons_succ, Nat.add_comm 2 k]
    exact List.getD_append _ _ _ _ hlen

/-- Settles O29: each command by its flag, its event and what the passage to Stand, the reset or the record leaves. -/
theorem supplyEvents : Obligations.SupplyEvents := fun s =>
  ⟨fun hs => ⟨pfail_leaves hs, batlow_leaves hs, bklow_leaves hs, pmuReg_running hs, pmuHuv_leaves hs⟩,
    fun h => ⟨pmuReg_powered h, supplyGood_vbat (fastPower_iff.mpr h), supplyGood_vbk (fastPower_iff.mpr h),
      supplyGood_rail (fastPower_iff.mpr h), by
        obtain ⟨-, h2, -, h3, h4, h5⟩ := reachLantern_leaves s
        exact ⟨reachLantern s, if_pos (fastPower_iff.mpr h), h2, by rw [h3], by rw [h3], h4, h5⟩⟩,
    fun _ _ hb hc => blackBoxRecord_leaves hb hc⟩

end Sys2Proof.Proofs
end

section
/-! The Coupler's links and its time tree (R296, R302 to R304, R311): what every operation of them leaves alone. -/

namespace Sys2Proof.Proofs

open Sys2Proof Sys2Proof.Machine Sys2Proof.Safety Sys2Proof.Laws

/-- The registers that the time tree and the reports of a link write. -/
def linkRegister (o : Nat) : Bool :=
  eventRegister o || decide (o = CPL_ADDR) || decide (o = CPL_STAT) ||
    (List.range 4).any (fun p => decide (o = CPL_PORT p)) || (List.range 16).any (fun g => decide (o = CPL_MGRP g))

/-- A step of the links: the root, the port toward it and the masks of the groups follow the tree, flags of CPL_STAT rise, and
of the Coupler nothing changes but its queues. -/
structure LinkStep (s t : State) : Prop where
  only : ∃ regs wakePend cpl words, t = { s with
    regs := regs, wakePend := wakePend, cpl := cpl, lan := { s.lan with words := words } }
  rd : ∀ o, linkRegister o = false → t.rd o = s.rd o
  addr : ∀ f, apart CPL_ADDR_ROOT f → t.fld CPL_ADDR f = s.fld CPL_ADDR f
  port : ∀ p < 4, ∀ f, apart CPL_PORT_TPARENT f → t.fld (CPL_PORT p) f = s.fld (CPL_PORT p) f
  stat : ∀ i < 24, (s.rd CPL_STAT).getLsbD i = true → (t.rd CPL_STAT).getLsbD i = true
  pending : ∀ src, evReserved src = false → s.evPending src = true → t.evPending src = true
  cpl : t.cpl = { s.cpl with
    ownQ := t.cpl.ownQ, mailQ := t.cpl.mailQ, stageQ := t.cpl.stageQ, freightQ := t.cpl.freightQ, transit := t.cpl.transit
    fwdQ := t.cpl.fwdQ, fwdSent := t.cpl.fwdSent }

section
variable {s₀ s t u : State}

theorem LinkStep.refl : LinkStep s s :=
  ⟨⟨_, _, _, _, rfl⟩, fun _ _ => rfl, fun _ _ => rfl, fun _ _ _ _ => rfl, fun _ _ h => h, fun _ _ h => h, rfl⟩

theorem LinkStep.trans (h : LinkStep s t) (h' : LinkStep t u) : LinkStep s u where
  only := by
    obtain ⟨_, _, _, _, ht⟩ := h.only
    obtain ⟨_, _, _, _, hu⟩ := h'.only
    exact ⟨_, _, _, _, hu.trans (by rw [ht])⟩
  rd o ho := (h'.rd o ho).trans (h.rd o ho)
  addr f hf := (h'.addr f hf).trans (h.addr f hf)
  port p hp f hf := (h'.port p hp f hf).trans (h.port p hp f hf)
  stat i hi hs := h'.stat i hi (h.stat i hi hs)
  pending src he hs := h'.pending src he (h.pending src he hs)
  cpl := h'.cpl.trans (by rw [h.cpl])

theorem LinkStep.ite {c : Prop} [Decidable c] (h : LinkStep s₀ s) (h' : LinkStep s₀ t) : LinkStep s₀ (if c then s else t) := by
  split
  · exact h
  · exact h'

theorem LinkStep.each {α : Type} {xs : List α} {f : α → State → State} (h : LinkStep s₀ s)
    (hf : ∀ x ∈ xs, ∀ u, LinkStep u (f x u)) : LinkStep s₀ (each xs f s) :=
  List.foldlRecOn xs _ h fun _ hu _ hx => hu.trans (hf _ hx _)

/-- The queues alone. -/
theorem LinkStep.queues {c : Coupler} (h : LinkStep s₀ s) (hc : c = { s.cpl with
    ownQ := c.ownQ, mailQ := c.mailQ, stageQ := c.stageQ, freightQ := c.freightQ, transit := c.transit
    fwdQ := c.fwdQ, fwdSent := c.fwdSent } := by rfl) : LinkStep s₀ { s with cpl := c } :=
  h.trans ⟨⟨_, _, _, _, rfl⟩, fun _ _ => rfl, fun _ _ => rfl, fun _ _ _ _ => rfl, fun _ _ h => h, fun _ _ h => h, hc⟩

/-- A write of a register of the links. -/
theorem LinkStep.wr {o : Nat} {w : Word} (h : LinkStep s₀ s) (ho : linkRegister o = true) (hev : eventRegister o = false)
    (haddr : o = CPL_ADDR → ∀ f, apart CPL_ADDR_ROOT f → f.get w = f.get (s.rd CPL_ADDR))
    (hport : ∀ p < 4, o = CPL_PORT p → ∀ f, apart CPL_PORT_TPARENT f → f.get w = f.get (s.rd (CPL_PORT p)))
    (hstat : o = CPL_STAT → ∀ i < 24, (s.rd CPL_STAT).getLsbD i = true → w.getLsbD i = true) : LinkStep s₀ (s.wr o w) := by
  refine h.trans ⟨⟨_, _, _, _, rfl⟩, fun x hx => rd_wr_of_ne s w fun he => ?_, fun f hf => ?_, fun p hp f hf => ?_, fun i hi hs => ?_,
    fun src he hs => ?_, rfl⟩
  · rw [he, ho] at hx
    cases hx
  · rw [State.fld, rd_wr]
    split
    · next he => exact haddr he.symm f hf
    · rfl
  · rw [State.fld, rd_wr]
    split
    · next he => exact hport p hp he.symm f hf
    · rfl
  · rw [rd_wr]
    split
    · next he => exact hstat he.symm i hi hs
    · exact hs
  · have hne : EVT_PEND (src / 24) ≠ o := fun hx => by
      have hlt := evReserved_div he
      rw [← hx] at hev
      have : eventRegister (EVT_PEND (src / 24)) = true := by
        simp only [eventRegister, Bool.or_eq_true, Bool.and_eq_true, decide_eq_true_eq]
        exact .inr ⟨by simp only [EVT_PEND]; omega, by simp only [EVT_PEND]; omega⟩
      rw [hev] at this
      cases this
    rwa [State.evPending, rd_wr_of_ne _ _ hne]

theorem cplPort_apart {p : Nat} (hp : p < 4) : CPL_PORT p ≠ CPL_ADDR ∧ CPL_PORT p ≠ CPL_STAT ∧ eventRegister (CPL_PORT p) = false :=
  ⟨by simp only [CPL_PORT, CPL_ADDR]; omega, by simp only [CPL_PORT, CPL_STAT]; omega,
    eventRegister_apart (by simp only [CPL_PORT]; omega) (by simp only [CPL_PORT]; omega)⟩

theorem LinkStep.setRoot {n : Nat} (h : LinkStep s₀ s) : LinkStep s₀ (s.setFld CPL_ADDR CPL_ADDR_ROOT n) :=
  h.wr (by decide) (by decide) (fun _ f hf => get_put_apart _ _ _ _ hf)
    (fun p hp he => absurd he.symm (cplPort_apart hp).1) (fun he => absurd he (by decide))

theorem LinkStep.setParent {p : Nat} {b : Bool} (h : LinkStep s₀ s) (hp : p < 4) :
    LinkStep s₀ (s.setFlag (CPL_PORT p) CPL_PORT_TPARENT b) := by
  obtain ⟨h1, h2, h3⟩ := cplPort_apart hp
  refine h.wr ?_ h3 (fun he => absurd he h1) (fun q hq he f hf => ?_) (fun he => absurd he h2)
  · simp only [linkRegister, Bool.or_eq_true, List.any_eq_true, decide_eq_true_eq]
    exact .inl (.inr ⟨p, List.mem_range.mpr hp, rfl⟩)
  · rw [get_put_apart _ _ _ _ hf, he]

theorem LinkStep.setMask {g n : Nat} (h : LinkStep s₀ s) (hg : g < 16) :
    LinkStep s₀ (s.setFld (CPL_MGRP g) CPL_MGRP_PMASK n) := by
  refine h.wr ?_ (eventRegister_apart (by simp only [CPL_MGRP]; omega) (by simp only [CPL_MGRP]; omega))
    (fun he => absurd he (by simp only [CPL_MGRP, CPL_ADDR]; omega)) (fun q hq he => absurd he (by simp only [CPL_MGRP, CPL_PORT]; omega))
    (fun he => absurd he (by simp only [CPL_MGRP, CPL_STAT]; omega))
  simp only [linkRegister, Bool.or_eq_true, List.any_eq_true, decide_eq_true_eq]
  exact .inr ⟨g, List.mem_range.mpr hg, rfl⟩

theorem LinkStep.sqStat {f : Fld} (h : LinkStep s₀ s) : LinkStep s₀ (s.sq CPL_STAT f) :=
  h.wr (by decide) (by decide) (fun he => absurd he (by decide))
    (fun p hp he => absurd he.symm (cplPort_apart hp).2.1)
    (fun _ i hi hs => by rw [put_getLsbD, if_neg (by simp only [seqFld]; omega), BitVec.getLsbD_or, hs, Bool.true_or])

theorem LinkStep.raise {src : Nat} (h : LinkStep s₀ s) : LinkStep s₀ (s.raise src) := by
  have hr := raise_reports s src
  have hev : ∀ o, linkRegister o = false → eventRegister o = false := fun o ho => by
    simp only [linkRegister, Bool.or_eq_false_iff] at ho
    exact ho.1.1.1.1
  refine h.trans ⟨hr.events, fun o ho => hr.rd o (hev o ho), fun f _ => hr.fld f (by decide), fun p hp f _ => hr.fld f ?_,
    fun i hi hs => hr.keeps _ i hi (by decide) hs, fun e he hs => hr.pending he hs, ?_⟩
  · exact (cplPort_apart hp).2.2
  · rw [hr.fwd]

theorem LinkStep.sendOwn {f : TxFrame} (h : LinkStep s₀ s) : LinkStep s₀ (sendOwn f s) := ite h h.queues
theorem LinkStep.sendLink {p kind : Nat} {b : List Byte} (h : LinkStep s₀ s) : LinkStep s₀ (sendLink p kind b s) := h.sendOwn
theorem LinkStep.sendAdvert {p : Nat} (h : LinkStep s₀ s) : LinkStep s₀ (sendAdvert p s) := h.sendLink

theorem LinkStep.pruneForwards (h : LinkStep s₀ s) : LinkStep s₀ (pruneForwards s) := by
  unfold Machine.pruneForwards
  extract_lets gone
  split
  · exact h
  · extract_lets rest
    exact ite h.queues h.queues

theorem LinkStep.pruneQueues (h : LinkStep s₀ s) : LinkStep s₀ (pruneQueues s) := by
  unfold Machine.pruneQueues
  extract_lets keep
  exact h.queues.pruneForwards

theorem LinkStep.settleTree (h : LinkStep s₀ s) : LinkStep s₀ (settleTree s) := by
  unfold Machine.settleTree
  extract_lets s1 s2 m
  have h1 : LinkStep s₀ s1 := h.setRoot
  have h2 : LinkStep s₀ s2 := h1.each fun p hp u => LinkStep.refl.setParent (List.mem_range.mp hp)
  exact (h2.each fun g hg u => ite .refl (LinkStep.refl.setMask (List.mem_range.mp hg))).pruneQueues

theorem LinkStep.advertIfChanged {was : List Word} (h : LinkStep s₀ s) : LinkStep s₀ (advertIfChanged was s) :=
  ite h (h.each fun _ _ _ => LinkStep.refl.sendAdvert)

theorem LinkStep.cplLink (h : LinkStep s₀ s) : LinkStep s₀ (cplLink s) := h.raise

theorem LinkStep.flagAddr (h : LinkStep s t) {f : Fld} (hf : apart CPL_ADDR_ROOT f) (hl : 0 < f.len) :
    t.flag CPL_ADDR f = s.flag CPL_ADDR f := bit_congr hl (h.addr f hf)
theorem LinkStep.flagPort (h : LinkStep s t) {p : Nat} (hp : p < 4) {f : Fld} (hf : apart CPL_PORT_TPARENT f) (hl : 0 < f.len) :
    t.flag (CPL_PORT p) f = s.flag (CPL_PORT p) f := bit_congr hl (h.port p hp f hf)
theorem LinkStep.portUp (h : LinkStep s t) {p : Nat} (hp : p < 4) : t.portUp p = s.portUp p :=
  h.flagPort hp (.inl (by decide)) (by decide)
theorem LinkStep.pt (h : LinkStep s t) (p : Nat) : t.pt p = s.pt p := by
  unfold State.pt
  rw [h.cpl]
theorem LinkStep.awake (h : LinkStep s t) : t.awake = s.awake := by
  obtain ⟨_, _, _, _, h⟩ := h.only
  rw [h]
  rfl

end

/-! ### A port that is lost (R287, R296, R303) -/

/-- The routes and the queues of a lost port, before the tree follows. -/
def portFailed (p : Nat) (s : State) : State :=
  let u := (s.wr (CPL_PORT p) 0).updPt p (fun _ => {})
  let u := (u.updCpl (fun c => { c with transit := cutLast p (Config.freeBool s.draws) c.transit })).drew 1
  let u := each ((List.range 32).map (· + 1)) (failover p) u
  u.updCpl (fun c => { c with ownQ := c.ownQ.filter (fun f => f.port ≠ some p) })

theorem portLost_eq (p : Nat) (s : State) : portLost p s =
    cplLink ((advertIfChanged s.routeTable (settleTree (portFailed p s))).sq CPL_STAT CPL_STAT_LINKCHG) := rfl

section
variable {s : State} {p : Nat}

theorem portLost_step : LinkStep (portFailed p s) (portLost p s) := LinkStep.refl.settleTree.advertIfChanged.sqStat.cplLink

theorem failover_rd {d o : Nat} (ho : o ≠ routeOf d) : (failover p d s).rd o = s.rd o := by
  unfold failover
  extract_lets r w
  split
  · rfl
  · split
    · exact rd_wr_of_ne _ _ ho
    · split
      · exact rd_wr_of_ne _ _ ho
      · rfl

/-- The registers of a lost port, and no other but routes. -/
theorem portFailed_rd {o : Nat} (ho : ∀ d, 1 ≤ d → d ≤ 32 → o ≠ routeOf d) :
    (portFailed p s).rd o = if o = CPL_PORT p then 0 else s.rd o := by
  have h1 : ∀ u : State, (each ((List.range 32).map (· + 1)) (failover p) u).rd o = u.rd o := fun u =>
    List.foldlRecOn _ _ (motive := fun t : State => t.rd o = u.rd o) rfl fun t ht d hd => by
      obtain ⟨k, hk, rfl⟩ := List.mem_map.mp hd
      have := List.mem_range.mp hk
      exact (failover_rd (ho _ (by omega) (by omega))).trans ht
  exact (h1 _).trans (rd_wr ..)

theorem portFailed_awake : (portFailed p s).awake = s.awake := by
  have h1 : ∀ u : State, (each ((List.range 32).map (· + 1)) (failover p) u).awake = u.awake := fun u =>
    List.foldlRecOn _ _ (motive := fun t : State => t.awake = u.awake) rfl fun t ht d _ => by
      refine Eq.trans ?_ ht
      unfold failover
      extract_lets r w
      split
      · rfl
      · split
        · rfl
        · split <;> rfl
  exact h1 _

theorem notRoute_port {q : Nat} (hq : q < 4) : ∀ d, 1 ≤ d → d ≤ 32 → CPL_PORT q ≠ routeOf d := fun d _ _ => by
  simp only [CPL_PORT, routeOf, CPL_ROUTE]; omega

/-- A lost port is down, and the others are as they were. -/
theorem portLost_portUp {q : Nat} (hq : q < 4) : (portLost p s).portUp q = if q = p then false else s.portUp q := by
  rw [portLost_step.portUp hq, State.portUp, State.flag, portFailed_rd (notRoute_port hq)]
  by_cases h : q = p
  · rw [if_pos h, if_pos (by rw [h])]
    exact BitVec.getLsbD_zero ..
  · rw [if_neg h, if_neg (by simp only [CPL_PORT]; omega)]
    rfl

theorem portLost_rd {o : Nat} (hl : linkRegister o = false) (ho : ∀ d, 1 ≤ d → d ≤ 32 → o ≠ routeOf d) (hp : o ≠ CPL_PORT p) :
    (portLost p s).rd o = s.rd o := by
  rw [portLost_step.rd _ hl, portFailed_rd ho, if_neg hp]

/-- The loss is shown and reported. -/
theorem portLost_shows (hs : s.awake = true) : (portLost p s).flag CPL_STAT CPL_STAT_LINKCHG = true ∧
    (portLost p s).evPending (evCom 10) = true := by
  rw [portLost_eq]
  have hstep : LinkStep (portFailed p s) (advertIfChanged s.routeTable (settleTree (portFailed p s))) :=
    LinkStep.refl.settleTree.advertIfChanged
  exact sq_raise_noted _ (by decide) ((hstep.awake.trans portFailed_awake).trans hs) (by decide) (by decide) (by decide)

end

end Sys2Proof.Proofs
end

section
/-! The clocks and their losses (R108, R279, R280). -/

namespace Sys2Proof.Proofs

open Sys2Proof Sys2Proof.Machine Sys2Proof.Safety Sys2Proof.Laws

/-! ### A leg that a cause holds in SAFE (R203) -/

/-- The leg is in SAFE for a cause. -/
def Held (c : SafeCause) (l : Nat) (s : State) : Prop := c ∈ (s.lg l).causes ∧ s.legSafe l ≠ 0

section
variable {c : SafeCause} {l : Nat} {s t : State}

/-- The registers of legs and what holds them are as they were. -/
theorem Held.congr (h : Held c l s) (hl : t.leg = s.leg) (hr : t.rd (LEG_STAT l) = s.rd (LEG_STAT l)) : Held c l t := by
  obtain ⟨h1, h2⟩ := h
  refine ⟨?_, ?_⟩
  · rwa [State.lg, hl]
  · rwa [State.legSafe, State.fld, hr]

theorem Held.wr {o : Nat} {w : Word} (h : Held c l s) (ho : LEG_STAT l ≠ o) : Held c l (s.wr o w) :=
  h.congr rfl (rd_wr_of_ne _ _ ho)

theorem Held.gate {L : Bool} (h : Held c l s) (hc : c ≠ .keeper) (hl : l < 32) (hg : GateStep L s t) : Held c l t := by
  obtain ⟨h1, h2⟩ := h
  exact ⟨hg.causes l ▸ h1, hg.safe l hl (.inl ⟨c, h1, hc⟩) h2⟩

theorem Held.raise {src : Nat} (h : Held c l s) (hl : l < 32) : Held c l (s.raise src) := by
  have hr := raise_reports s src
  obtain ⟨_, _, _, _, he⟩ := hr.events
  exact h.congr (by rw [he]) (hr.rd _ (eventRegister_apart (by simp only [LEG_STAT]; omega) (by simp only [LEG_STAT]; omega)))

theorem Held.brake (h : Held c l s) (hl : l < 32) (hb : BrakeStep s t) : Held c l t := by
  obtain ⟨h1, h2⟩ := h
  obtain ⟨_, _, _, _, _, _, he⟩ := hb.only
  refine ⟨?_, by rwa [hb.legSafe hl]⟩
  rw [he]
  exact h1

theorem lg_updLg (k : Nat) (f : LegSt → LegSt) : (s.updLg k f).lg l = if l = k then f (s.lg k) else s.lg l := by
  simp only [State.updLg, State.setLg, State.lg, mget_mset]

/-- A cause of another kind that ends leaves the leg held. -/
theorem Held.endCause {d : SafeCause} {ls : List Nat} (h : Held c l s) (hc : c ≠ .keeper) (hl : l < 32) (hd : c ≠ d) :
    Held c l (endCause d ls s) := by
  have h1 : Held c l (each ls (dropCause d) s) := by
    refine List.foldlRecOn ls _ (motive := Held c l) h fun u hu k _ => ?_
    obtain ⟨hu1, hu2⟩ := hu
    refine ⟨?_, hu2⟩
    rw [dropCause, lg_updLg]
    split
    · next he => exact List.mem_filter.mpr ⟨he ▸ hu1, by simpa using hd⟩
    · exact hu1
  exact h1.gate hc hl (GateStep.refl (L := false)).settleSafe

theorem Held.safeFor {d : SafeCause} {ls : List Nat} (h : Held c l s) (hc : c ≠ .keeper) (hl : l < 32) :
    Held c l (safeFor d ls s) := by
  have h1 : Held c l (each ls (addCause d) s) := by
    refine List.foldlRecOn ls _ (motive := Held c l) h fun u hu k _ => ?_
    obtain ⟨hu1, hu2⟩ := hu
    refine ⟨?_, hu2⟩
    rw [addCause, lg_updLg]
    split
    · next he =>
      dsimp only
      split
      · exact he ▸ hu1
      · exact List.mem_append_left _ (he ▸ hu1)
    · exact hu1
  exact h1.gate hc hl (GateStep.refl (L := false)).settleSafe

/-- What takes legs into SAFE holds them. -/
theorem held_safeFor {ls : List Nat} (hc : c ≠ .keeper) (hl : l < 32) (hm : l ∈ ls) : Held c l (safeFor c ls s) :=
  have hg : GateStep false (each ls (addCause c) s) (safeFor c ls s) := GateStep.refl.settleSafe
  ⟨by rw [hg.causes]; exact addCauses_causes hm, safeFor_safe hc hl hm⟩

/-- The end of the fallback leaves what other causes hold. -/
theorem Held.endFallback {a : Nat} (h : Held c l s) (hc : c ≠ .keeper) (hl : l < 32) (hd : ∀ b, c ≠ .hysHeld b) :
    Held c l (endFallback a s) := by
  have h1 : Held c l (clearCaught a ((s.setFld (HYS_STAT a) HYS_STAT_MODE 0).updAx a (fun x => { x with
      fbPending := none, handback := false, catchPending := false, probing := false, probeDue := false, probes := 0, attempts := 0,
      drayStarted := false }))) := by
    refine List.foldlRecOn _ _ (motive := Held c l) ?_ fun u hu k _ => hu.congr rfl rfl
    exact (h.wr (by simp only [LEG_STAT, HYS_STAT]; omega)).congr rfl rfl
  exact ((h1.endCause hc hl (hd _)).endCause hc hl (hd _)).gate hc hl (GateStep.refl (L := false)).changeSources

end

/-- One element among others, each of which keeps what the one before it needs and what it leaves. -/
theorem each_at {α : Type} {xs : List α} {f : α → State → State} {P Q : State → Prop} {x : α} (hn : xs.Nodup) (hx : x ∈ xs)
    (hP : ∀ y ∈ xs, y ≠ x → ∀ u, P u → P (f y u)) (hfx : ∀ u, P u → Q (f x u)) (hQ : ∀ y ∈ xs, y ≠ x → ∀ u, Q u → Q (f y u))
    {s : State} (hs : P s) : Q (each xs f s) := by
  obtain ⟨ys, zs, rfl⟩ := List.append_of_mem hx
  have hne : ∀ y, y ∈ ys ∨ y ∈ zs → y ≠ x := fun y hy he => by
    subst he
    have := List.nodup_append.mp hn
    rcases hy with hy | hy
    · exact this.2.2 y hy y List.mem_cons_self rfl
    · exact (List.nodup_cons.mp this.2.1).1 hy
  unfold each
  rw [List.foldl_append, List.foldl_cons]
  refine List.foldlRecOn zs _ (motive := Q) (hfx _ ?_) fun u hu y hy =>
    hQ y (List.mem_append_right _ (List.mem_cons_of_mem _ hy)) (hne y (.inr hy)) u hu
  exact List.foldlRecOn ys _ (motive := P) hs fun u hu y hy => hP y (List.mem_append_left _ hy) (hne y (.inl hy)) u hu

/-! ### The loss of PLL-T (R108) -/

/-- What the loss of its clock does to an Axle. -/
def clockTaken (a : Nat) (t : State) : State :=
  let run := t.flag (AXL_CTRL a) AXL_CTRL_RUN
  let t := holdCount a t
  let t := (t.setFlag (AXL_CTRL a) AXL_CTRL_RUN false).setFlag (AXL_STAT a) AXL_STAT_RUNNING false
  let t := t.updAx a (fun x => { x with startPending := false, stopPending := false, wd := 0 })
  let t := if run then (t.sq (AXL_STAT a) AXL_STAT_CLKLOSS).raise (evSup a 14) else t
  endFallback a (safeFor .clkLoss (t.legsOf a) t)

/-- The registers of its Axle that the loss writes. -/
abbrev clockRegister (a o : Nat) : Prop := o = AXL_CNT a ∨ o = AXL_CTRL a ∨ o = AXL_STAT a

section
variable {a b l : Nat} {s : State}

theorem clockRegister_apart (h : b ≠ a) : ¬clockRegister a (AXL_CTRL b) ∧ ¬clockRegister a (AXL_STAT b) := by
  simp only [clockRegister, AXL_CNT, AXL_CTRL, AXL_STAT]
  omega

/-- The Axle stands, before its legs are taken into SAFE. -/
def clockStopped (a : Nat) (t : State) : State :=
  let run := t.flag (AXL_CTRL a) AXL_CTRL_RUN
  let t := holdCount a t
  let t := (t.setFlag (AXL_CTRL a) AXL_CTRL_RUN false).setFlag (AXL_STAT a) AXL_STAT_RUNNING false
  let t := t.updAx a (fun x => { x with startPending := false, stopPending := false, wd := 0 })
  if run then (t.sq (AXL_STAT a) AXL_STAT_CLKLOSS).raise (evSup a 14) else t

theorem clockTaken_eq : clockTaken a s = endFallback a (safeFor .clkLoss ((clockStopped a s).legsOf a) (clockStopped a s)) := rfl

theorem clockStopped_step : AxleStep (fun _ => False) (clockRegister a) s (clockStopped a s) := by
  unfold clockStopped
  extract_lets run s1 s2 s3
  have h1 : AxleStep (fun _ => False) (clockRegister a) s s1 := .ite (.wr .refl (.inl rfl)) .refl
  have h2 : AxleStep (fun _ => False) (clockRegister a) s s2 := (h1.setFlag (.inr (.inl rfl))).setFlag (.inr (.inr rfl))
  have h3 : AxleStep (fun _ => False) (clockRegister a) s s3 := h2.updAx
  exact .ite (h3.wr (.inr (.inr rfl))).raise h3

theorem clockTaken_low : LowStep (clockStopped a s) (clockTaken a s) := LowStep.refl.safeFor.endFallback

theorem clockTaken_step : AxleStep (fun _ => False) (clockRegister a) s (clockTaken a s) := clockStopped_step.low clockTaken_low

theorem clockStopped_only : ∃ regs wakePend cpl words axle, clockStopped a s = { s with
    regs := regs, wakePend := wakePend, cpl := cpl, lan := { s.lan with words := words }, axle := axle } := by
  unfold clockStopped
  extract_lets run s1 s2 s3
  have h3 : ∃ regs axle, s3 = { s with regs := regs, axle := axle } := by
    have h1 : ∃ regs, s1 = { s with regs := regs } := by
      simp only [s1, holdCount]
      split
      · exact ⟨_, rfl⟩
      · exact ⟨_, rfl⟩
    obtain ⟨_, h1⟩ := h1
    simp only [s3, s2, h1]
    exact ⟨_, _, rfl⟩
  obtain ⟨_, _, h3⟩ := h3
  split
  · obtain ⟨_, _, _, _, he⟩ := (raise_reports (s3.sq (AXL_STAT a) AXL_STAT_CLKLOSS) (evSup a 14)).events
    rw [he, h3]
    exact ⟨_, _, _, _, _, rfl⟩
  · rw [h3]
    exact ⟨_, _, _, _, _, rfl⟩

theorem clockTaken_legAxle (hl : l < 32) : (clockTaken a s).legAxle l = s.legAxle l := by
  refine legAxle_congr ?_ ?_
  · obtain ⟨_, _, _, _, _, he⟩ := clockStopped_only (a := a) (s := s)
    rw [clockTaken_low.only.kept, he]
  · exact clockTaken_step.rd _ (low_legCfg hl) id (by simp only [clockRegister, LEG_CFG, AXL_CNT, AXL_CTRL, AXL_STAT]; omega)
      (reportRegister_apart (by simp only [LEG_CFG]; omega) (by simp only [LEG_CFG]; omega))

/-- A leg that the loss of the clock holds stays held. -/
theorem Held.clockTaken (h : Held .clkLoss l s) (hl : l < 32) : Held .clkLoss l (clockTaken a s) := by
  have h1 : Held .clkLoss l (clockStopped a s) := by
    obtain ⟨_, _, _, _, _, he⟩ := clockStopped_only (a := a) (s := s)
    have hrd : Untouched (· = LEG_STAT l) s (clockStopped a s) := by
      unfold clockStopped
      extract_lets run s1 s2 s3
      have hc : LEG_STAT l ≠ AXL_CNT a ∧ LEG_STAT l ≠ AXL_CTRL a ∧ LEG_STAT l ≠ AXL_STAT a := by
        simp only [LEG_STAT, AXL_CNT, AXL_CTRL, AXL_STAT]; omega
      obtain ⟨hn, hk, hst⟩ := hc
      have h1 : Untouched (· = LEG_STAT l) s s1 := .ite (.wr .refl hn.symm) .refl
      have h2 : Untouched (· = LEG_STAT l) s s2 := (h1.setFlag hk.symm).setFlag hst.symm
      have h3 : Untouched (· = LEG_STAT l) s s3 := h2.upd
      exact .ite ((h3.sq hst.symm).raise fun o ho => ho ▸ eventRegister_apart (by simp only [LEG_STAT]; omega)
        (by simp only [LEG_STAT]; omega)) h3
    refine h.congr ?_ (hrd _ rfl)
    rw [he]
  exact (h1.safeFor (by decide) hl).endFallback (by decide) hl (fun b => by simp)

/-- What the loss leaves of its Axle. -/
structure Unclocked (a : Nat) (legs : List Nat) (ran : Bool) (t : State) : Prop where
  run : t.flag (AXL_CTRL a) AXL_CTRL_RUN = false
  running : t.running a = false
  legs : ∀ l ∈ legs, Held .clkLoss l t
  shown : ran = true → t.flag (AXL_STAT a) AXL_STAT_CLKLOSS = true ∧ t.evPending (evSup a 14) = true

theorem evReserved_sup (ha : a < 4) : evReserved (evSup a 14) = false := by interval_cases a <;> decide

theorem report_axle (ha : a < 4) : reportRegister (AXL_CTRL a) = false ∧ reportRegister (AXL_STAT a) = false ∧
    Low (AXL_CTRL a) ∧ Low (AXL_STAT a) :=
  ⟨reportRegister_axle (by simp only [AXL_CTRL]; omega) (by simp only [AXL_CTRL]; omega) (by simp only [AXL_CTRL]; omega),
    reportRegister_axle (by simp only [AXL_STAT]; omega) (by simp only [AXL_STAT]; omega) (by simp only [AXL_STAT]; omega),
    low_of_lt (by simp only [AXL_CTRL]; omega), low_of_lt (by simp only [AXL_STAT]; omega)⟩

theorem clockTaken_leaves (ha : a < 4) (hs : s.awake = true) :
    Unclocked a (s.legsOf a) (s.flag (AXL_CTRL a) AXL_CTRL_RUN) (clockTaken a s) := by
  obtain ⟨hr1, hr2, hl1, hl2⟩ := report_axle ha
  have hcounter : eventCounter (AXL_STAT a) = false := (eventRegister_false (eventRegister_of_reportRegister hr2)).1
  have hstop : (clockStopped a s).flag (AXL_CTRL a) AXL_CTRL_RUN = false ∧
      (clockStopped a s).flag (AXL_STAT a) AXL_STAT_RUNNING = false ∧ (s.flag (AXL_CTRL a) AXL_CTRL_RUN = true →
        (clockStopped a s).flag (AXL_STAT a) AXL_STAT_CLKLOSS = true ∧ (clockStopped a s).evPending (evSup a 14) = true) := by
    unfold clockStopped
    extract_lets run s1 s2 s3
    have hne : AXL_CTRL a ≠ AXL_STAT a := by simp only [AXL_CTRL, AXL_STAT]; omega
    have h1 : s3.flag (AXL_CTRL a) AXL_CTRL_RUN = false :=
      (flag_setFlag_other (s1.setFlag (AXL_CTRL a) AXL_CTRL_RUN false) (.inl hne)).trans
        (flag_setFlag_self s1 (AXL_CTRL a) AXL_CTRL_RUN false (by decide) (by decide))
    have h2 : s3.flag (AXL_STAT a) AXL_STAT_RUNNING = false :=
      flag_setFlag_self (s1.setFlag (AXL_CTRL a) AXL_CTRL_RUN false) (AXL_STAT a) AXL_STAT_RUNNING false (by decide) (by decide)
    have hawake : s3.awake = true := by
      have h : s1.awake = s.awake := by
        simp only [s1, holdCount]
        split <;> rfl
      exact h.trans hs
    refine ⟨?_, ?_, fun hrun => ?_⟩
    · split
      · exact (congrArg AXL_CTRL_RUN.bit ((raise_rd_apart _ _ (eventRegister_of_reportRegister hr1)).trans
          (rd_wr_of_ne _ _ hne))).trans h1
      · exact h1
    · split
      · exact (congrArg AXL_STAT_RUNNING.bit (raise_rd_apart _ _ (eventRegister_of_reportRegister hr2))).trans
          ((flag_sq_other s3 _ (by decide) (by decide)).trans h2)
      · exact h2
    · rw [if_pos hrun]
      exact sq_raise_noted s3 (evReserved_sup ha) hawake (by decide) (by decide) hcounter
  obtain ⟨h1, h2, h3⟩ := hstop
  refine ⟨(clockTaken_low.flag _ hl1 hr1).trans h1, (clockTaken_low.flag _ hl2 hr2).trans h2, fun l hl => ?_, fun hrun => ?_⟩
  · obtain ⟨hl32, haxle⟩ := mem_legsOf.mp hl
    have hin : l ∈ (clockStopped a s).legsOf a := by
      refine mem_legsOf.mpr ⟨hl32, (legAxle_congr ?_ ?_).trans haxle⟩
      · obtain ⟨_, _, _, _, _, he⟩ := clockStopped_only (a := a) (s := s)
        rw [he]
      · exact clockStopped_step.rd _ (low_legCfg hl32) id (by simp only [clockRegister, LEG_CFG, AXL_CNT, AXL_CTRL, AXL_STAT]; omega)
          (reportRegister_apart (by simp only [LEG_CFG]; omega) (by simp only [LEG_CFG]; omega))
    exact (held_safeFor (by decide) hl32 hin).endFallback (by decide) hl32 (fun b => by simp)
  · obtain ⟨hc, hp⟩ := h3 hrun
    exact ⟨clockTaken_low.keepsFlag hl2 (by decide) (reportCounter_axle (by simp only [AXL_STAT]; omega)
      (by simp only [AXL_STAT]; omega) (by simp only [AXL_STAT]; omega)) hc, clockTaken_low.pending (evReserved_sup ha) hp⟩

/-- The loss at another Axle. -/
theorem Unclocked.clockTaken {legs : List Nat} {ran : Bool} (ha : a < 4) (hne : a ≠ b) (hlegs : ∀ l ∈ legs, l < 32)
    (h : Unclocked a legs ran s) : Unclocked a legs ran (clockTaken b s) := by
  obtain ⟨hr1, hr2, hl1, hl2⟩ := report_axle ha
  obtain ⟨hc1, hc2⟩ := clockRegister_apart hne
  refine ⟨(clockTaken_step.flag _ hl1 id hc1 hr1).trans h.run, (clockTaken_step.flag _ hl2 id hc2 hr2).trans h.running,
    fun l hl => (h.legs l hl).clockTaken (hlegs l hl), fun hran => ?_⟩
  obtain ⟨hc, hp⟩ := h.shown hran
  refine ⟨clockTaken_step.keepsFlag hl2 hc2 (by decide) (reportCounter_axle (by simp only [AXL_STAT]; omega)
    (by simp only [AXL_STAT]; omega) (by simp only [AXL_STAT]; omega)) hc, clockTaken_step.pending ?_ (evReserved_sup ha) hp⟩
  have := evReserved_div (evReserved_sup ha)
  simp only [clockRegister, EVT_PEND, AXL_CNT, AXL_CTRL, AXL_STAT]
  omega

end

/-- PLL-T is lost: no Axle counts on it any more (R108). -/
theorem pllTLoss_leaves {s : State} (hs : s.awake = true) (hlock : s.flag SYS_CLK SYS_CLK_TLOCK = true) :
    ∃ t, exec .pllTLoss s = .next t ∧ t.flag SYS_CLK SYS_CLK_TLOCK = false ∧
      ∀ a, a < 4 → (s.flag (AXL_CTRL a) AXL_CTRL_RUN = true ∨ s.running a = true) → (s.ax a).onDray = false →
        t.flag (AXL_CTRL a) AXL_CTRL_RUN = false ∧ t.running a = false ∧ (∀ l, l ∈ s.legsOf a → t.legSafe l ≠ 0) ∧
        (s.flag (AXL_CTRL a) AXL_CTRL_RUN = true → t.flag (AXL_STAT a) AXL_STAT_CLKLOSS = true ∧ t.evPending (evSup a 14) = true) := by
  let hit := (List.range 4).filter (fun a => (s.flag (AXL_CTRL a) AXL_CTRL_RUN || s.running a) && !(s.ax a).onDray)
  let u := s.setFlag SYS_CLK SYS_CLK_TLOCK false
  let v := each hit clockTaken u
  have hexec : exec .pllTLoss s = settled (settleBrake v) := if_pos (by rw [hs, hlock]; rfl)
  have hlt : ∀ a ∈ hit, a < 4 := fun a ha => List.mem_range.mp (List.mem_of_mem_filter ha)
  have hbrake := brakeStep_settleBrake v
  have hclk : v.flag SYS_CLK SYS_CLK_TLOCK = false := by
    refine List.foldlRecOn hit _ (motive := fun t : State => t.flag SYS_CLK SYS_CLK_TLOCK = false)
      (flag_setFlag_self s SYS_CLK SYS_CLK_TLOCK false (by decide) (by decide)) fun t ht a _ => ?_
    exact (clockTaken_step.flag _ (low_of_lt (by decide)) id
      (by simp only [clockRegister, SYS_CLK, AXL_CNT, AXL_CTRL, AXL_STAT]; omega) (by decide)).trans ht
  refine ⟨_, hexec, ?_, fun a ha hrun hdray => ?_⟩
  · rw [syncStretches_flag, hbrake.flag _ (by decide) (by decide)]
    exact hclk
  have hmem : a ∈ hit := by
    refine List.mem_filter.mpr ⟨List.mem_range.mpr ha, ?_⟩
    rw [hdray]
    rcases hrun with h | h <;> simp [h]
  have hne : AXL_CTRL a ≠ SYS_CLK := by simp only [AXL_CTRL, SYS_CLK]; omega
  have hlegs : ∀ t : State, (∀ l, l < 32 → t.legAxle l = s.legAxle l) → t.legsOf a = s.legsOf a := fun t ht =>
    List.filter_congr fun l hl => by rw [ht l (List.mem_range.mp hl)]
  have hdone : Unclocked a (s.legsOf a) (s.flag (AXL_CTRL a) AXL_CTRL_RUN) v := by
    refine each_at (P := fun t => t.awake = true ∧ (∀ l, l < 32 → t.legAxle l = s.legAxle l) ∧
      t.flag (AXL_CTRL a) AXL_CTRL_RUN = s.flag (AXL_CTRL a) AXL_CTRL_RUN) (List.nodup_range.filter _) hmem
      (fun b hb hab t ht => ?_) (fun t ht => ?_)
      (fun b hb hab t ht => ht.clockTaken ha hab.symm fun l hl => (mem_legsOf.mp hl).1) ?_
    · obtain ⟨h1, h2, h3⟩ := ht
      obtain ⟨hr1, -, hl1, -⟩ := report_axle ha
      exact ⟨clockTaken_step.only.awake.trans h1, fun l hl => (clockTaken_legAxle hl).trans (h2 l hl),
        (clockTaken_step.flag _ hl1 id (clockRegister_apart hab.symm).1 hr1).trans h3⟩
    · obtain ⟨h1, h2, h3⟩ := ht
      have h := clockTaken_leaves ha h1
      rwa [hlegs t h2, h3] at h
    · refine ⟨hs, fun l hl => legAxle_congr rfl (rd_wr_of_ne _ _ (by simp only [LEG_CFG, SYS_CLK]; omega)), ?_⟩
      exact congrArg AXL_CTRL_RUN.bit (rd_wr_of_ne _ _ hne)
  have hb1 : ¬brakeRegister (AXL_CTRL a) ∧ ¬brakeRegister (AXL_STAT a) := by
    simp only [brakeRegister, AXL_CTRL, AXL_STAT, SAFE_BRKSTAT, SAFE_BRKRES]; omega
  obtain ⟨hr1, hr2, -, -⟩ := report_axle ha
  refine ⟨?_, ?_, fun l hl => ?_, fun hran => ?_⟩
  · rw [syncStretches_flag, hbrake.flag _ hb1.1 (eventRegister_of_reportRegister hr1)]
    exact hdone.run
  · rw [State.running, syncStretches_flag, hbrake.flag _ hb1.2 (eventRegister_of_reportRegister hr2)]
    exact hdone.running
  · rw [syncStretches_legSafe, hbrake.legSafe (mem_legsOf.mp hl).1]
    exact (hdone.legs l hl).2
  · obtain ⟨h1, h2⟩ := hdone.shown hran
    rw [syncStretches_flag, hbrake.flag _ hb1.2 (eventRegister_of_reportRegister hr2), syncStretches_evPending]
    exact ⟨h1, hbrake.pending (evReserved_sup ha) h2⟩

/-! ### The other clocks (R279, R280) -/

/-- PLL-S is lost with every port of the Coupler. -/
theorem pllSLoss_leaves {s : State} (hs : s.awake = true) (hlock : s.flag SYS_CLK SYS_CLK_SLOCK = true) :
    ∃ t, exec .pllSLoss s = .next t ∧ t.flag SYS_CLK SYS_CLK_SLOCK = false ∧ ∀ p, p < 4 → t.portUp p = false := by
  let u := s.setFlag SYS_CLK SYS_CLK_SLOCK false
  refine ⟨each s.upPorts portLost u, if_pos (by rw [hs, hlock]; rfl), ?_, fun p hp => ?_⟩
  · refine List.foldlRecOn _ _ (motive := fun t : State => t.flag SYS_CLK SYS_CLK_SLOCK = false)
      (flag_setFlag_self s SYS_CLK SYS_CLK_SLOCK false (by decide) (by decide)) fun t ht q hq => ?_
    refine (congrArg SYS_CLK_SLOCK.bit (portLost_rd (by decide) (fun d _ _ => ?_) ?_)).trans ht
    · simp only [SYS_CLK, routeOf, CPL_ROUTE]; omega
    · simp only [SYS_CLK, CPL_PORT]; omega
  · have hkeep : ∀ q, ∀ t : State, t.portUp p = false → (portLost q t).portUp p = false := fun q t ht => by
      rw [portLost_portUp hp]
      split
      · rfl
      · exact ht
    by_cases hup : s.portUp p = true
    · refine each_establishes (P := fun _ => True) (Q := fun t => t.portUp p = false) (x := p) (fun _ _ _ _ => trivial)
        (fun q _ t _ => hkeep q t) (List.mem_filter.mpr ⟨List.mem_range.mpr hp, hup⟩) (fun t _ => ?_) _ trivial
      rw [portLost_portUp hp, if_pos rfl]
    · refine List.foldlRecOn _ _ (motive := fun t : State => t.portUp p = false) ?_ fun t ht q _ => hkeep q t ht
      exact (congrArg CPL_PORT_UP.bit (rd_wr_of_ne _ _ (by simp only [CPL_PORT, SYS_CLK]; omega))).trans (Bool.not_eq_true _ ▸ hup)

theorem flags_sysClk (s : State) {f g : Fld} (b b' : Bool) (h : f.lo ≠ g.lo) (hf : f.len = 1) (hg : g.len = 1) (h1 : f.lo < 32)
    (h2 : g.lo < 32) : ((s.setFlag SYS_CLK f b).setFlag SYS_CLK g b').flag SYS_CLK f = b ∧
      ((s.setFlag SYS_CLK f b).setFlag SYS_CLK g b').flag SYS_CLK g = b' :=
  ⟨(flag_setFlag_other _ (.inr (by omega))).trans (flag_setFlag_self s SYS_CLK f b h1 (by omega)),
    flag_setFlag_self _ SYS_CLK g b' h2 (by omega)⟩

/-! ### A warm reset (R206, R286) -/

/-- A step that notes legs in the keeper: their registers alone. -/
def KeeperNotes (s t : State) : Prop :=
  (∃ regs kept leg pos, t = { s with regs := regs, kept := kept, leg := leg, pos := pos }) ∧
    ∀ o, (o < 0x100000 ∨ 0x120000 ≤ o) → t.rd o = s.rd o

theorem KeeperNotes.refl (s : State) : KeeperNotes s s := ⟨⟨_, _, _, _, rfl⟩, fun _ _ => rfl⟩
theorem KeeperNotes.trans {s t u : State} (h : KeeperNotes s t) (h' : KeeperNotes t u) : KeeperNotes s u := by
  obtain ⟨⟨_, _, _, _, ht⟩, h2⟩ := h
  obtain ⟨⟨_, _, _, _, hu⟩, h4⟩ := h'
  exact ⟨⟨_, _, _, _, hu.trans (by rw [ht])⟩, fun o ho => (h4 o ho).trans (h2 o ho)⟩
theorem KeeperNotes.each {α : Type} {xs : List α} {f : α → State → State} (s : State) (hf : ∀ x ∈ xs, ∀ u, KeeperNotes u (f x u)) :
    KeeperNotes s (each xs f s) :=
  List.foldlRecOn xs _ (.refl s) fun _ hu x hx => hu.trans (hf x hx _)

theorem KeeperNotes.setLg (s : State) (l : Nat) (r : LegSt) : KeeperNotes s (s.setLg l r) := ⟨⟨_, _, _, _, rfl⟩, fun _ _ => rfl⟩

theorem KeeperNotes.setPs (s : State) (p : Nat) (r : PosSt) : KeeperNotes s (s.setPs p r) := ⟨⟨_, _, _, _, rfl⟩, fun _ _ => rfl⟩

theorem heldRegs_range {s : State} {l : Nat} (hl : l < 24) : ∀ e ∈ heldRegs s l, 0x100000 ≤ e.1 ∧ e.1 < 0x120000 := by
  intro e he
  rcases List.mem_append.mp he with he | he
  · simp only [List.mem_cons, List.not_mem_nil, or_false] at he
    rcases he with rfl | rfl | rfl
    · simp only [LEG_STAT]; omega
    · simp only [POS_STAT]; omega
    · simp only [POS_STAT]; omega
  · obtain ⟨c, hc, rfl⟩ := List.mem_map.mp he
    have hlt : c < 256 := by
      rcases List.mem_append.mp hc with hc | hc
      · exact lt_of_mem_chans hc
      · exact lt_of_mem_chans hc
    simp only [GCH_STAT]; omega

/-- The state before the registers are reset: with legs in the keeper, those are in SAFE. -/
def keeperEntered (s : State) : State :=
  safeFor .keeper s.keptLegs (each (s.keptLegs.map (fun l => (l, (s.legCode l).getD (if s.legSafe l = 0 then s.baseCode l else s.legSafe l))))
    (fun e t => t.updLg e.1 (fun x => { x with keptCode := e.2 })) s)

/-- A warm reset: the engines and registers are reset, but for the legs in the keeper. -/
theorem warmEnter_after (s : State) : ∃ r u, (r = s ∨ r = keeperEntered s) ∧ (s.keptLegs = [] → warmEnter s = resetState true s) ∧
    KeeperNotes (resetState true r) u ∧
    (warmEnter s = u ∨ warmEnter s = raiseOnce (evProt 3) (u.sq PROT_STAT PROT_STAT_KHOLD)) := by
  by_cases hk : s.keptLegs = []
  · have h : warmEnter s = resetState true s := if_pos hk
    exact ⟨s, resetState true s, .inl rfl, fun _ => h, .refl _, .inl h⟩
  · let r := keeperEntered s
    let note := fun (l : Nat) (u : State) =>
      let u := each (heldMap r l) (fun e v => { v with kept := minsert v.kept e.1 e.2 }) u
      let u := each (heldRegs r l) (fun e v => v.wr e.1 e.2) u
      let u := u.setLg l { causes := [.keeper], keptCode := (r.lg l).keptCode }
      each [2 * l, 2 * l + 1] (fun p v => v.setPs p
        { fallAt := (r.ps p).fallAt, shownOffAt := (r.ps p).shownOffAt, asyncOn := (r.ps p).asyncOn, sdtDone := (r.ps p).sdtDone }) u
    refine ⟨r, each s.keptLegs note (resetState true r), .inr rfl, fun h => absurd h hk, KeeperNotes.each _ fun l hl u => ?_, ?_⟩
    · have hl24 : l < 24 := List.mem_range.mp (List.mem_of_mem_filter hl)
      have h1 := KeeperNotes.each (xs := heldMap r l) (f := fun e v => { v with kept := minsert v.kept e.1 e.2 }) u
        fun e _ v => ⟨⟨_, _, _, _, rfl⟩, fun _ _ => rfl⟩
      have h2 := h1.trans (KeeperNotes.each (xs := heldRegs r l) (f := fun e v => v.wr e.1 e.2) _ fun e he v =>
        ⟨⟨_, _, _, _, rfl⟩, fun o ho => rd_wr_of_ne _ _ (by have := heldRegs_range hl24 e he; omega)⟩)
      exact h2.trans ((KeeperNotes.setLg _ l { causes := [.keeper], keptCode := (r.lg l).keptCode }).trans (KeeperNotes.each _ fun p _ v => KeeperNotes.setPs v p _))
    · have h : warmEnter s = if !s.runningLegs.isEmpty then
          raiseOnce (evProt 3) ((each s.keptLegs note (resetState true r)).sq PROT_STAT PROT_STAT_KHOLD)
          else each s.keptLegs note (resetState true r) := if_neg hk
      rw [h]
      split
      · exact .inr rfl
      · exact .inl rfl

theorem resetState_bringup (warm : Bool) (s : State) : (resetState warm s).bringup.active = some (if warm then .warm else .cold) := rfl

theorem warmEnter_bringup (s : State) : (warmEnter s).bringup.active = some .warm := by
  obtain ⟨r, u, -, -, hu, h⟩ := warmEnter_after s
  obtain ⟨⟨_, _, _, _, he⟩, -⟩ := hu
  have hu : u.bringup.active = some .warm := by
    rw [he]
    exact resetState_bringup true r
  rcases h with h | h
  · rw [h, hu]
  · obtain ⟨_, _, _, _, hr⟩ := (raiseOnce_reports (u.sq PROT_STAT PROT_STAT_KHOLD) (src := evProt 3) (by decide)).events
    rw [h, hr]
    exact hu

/-- Settles O30: the flags of SYS_CLK, the ports lost one by one, the Axles that lose PLL-T one by one, and the warm resets. -/
theorem clocks : Obligations.Clocks := by
  intro s hs
  have hfast := fastPower_of_awake hs
  refine ⟨⟨_, if_pos hfast, flags_sysClk s true false (by decide) rfl rfl (by decide) (by decide)⟩, fun hx => ⟨?_, ?_, fun hsen => ?_⟩,
    pllSLoss_leaves hs, pllTLoss_leaves hs, fun c hc => ?_⟩
  · exact ⟨_, if_pos (by rw [hfast, hx]; rfl), flags_sysClk s false true (by decide) rfl rfl (by decide) (by decide)⟩
  · refine ⟨_, if_pos (by rw [hs, hx]; rfl), ?_, flags_sysClk _ true true (by decide) rfl rfl (by decide) (by decide)⟩
    exact (flag_setFlag_other _ (.inr (by decide))).trans (flags_sysClk s true true (by decide) rfl rfl (by decide) (by decide)).1
  · exact ⟨_, if_pos (by rw [hs, hx, hsen]; rfl), flag_setFlag_self s SYS_CLK SYS_CLK_SLOCK true (by decide) (by decide)⟩
  · have hwarm : ∀ u : State, u.fastPower = true → u.bringup.active = none →
        (resetNow .warm SYS_RSTCAUSE_CLKRST u).bringup.active = some .warm ∧
        (resetNow .warm SYS_RSTCAUSE_CLKRST u).bringup.causes = SYS_RSTCAUSE_CLKRST.mask ∧
        (resetNow .warm SYS_RSTCAUSE_CLKRST u).power = .stand := fun u hu ha => by
      unfold resetNow
      rw [if_pos hu]
      unfold resetCause
      rw [ha]
      exact ⟨warmEnter_bringup u, BitVec.zero_or, rfl⟩
    have hnone : s.bringup.active = none := by
      simp only [State.awake, Bool.and_eq_true, decide_eq_true_eq] at hs
      exact hs.1
    rcases hc with ⟨rfl, h⟩ | ⟨rfl, h⟩ | ⟨rfl, h⟩
    · exact ⟨_, if_pos (by rw [hs, h]; rfl), hwarm s hfast hnone⟩
    · exact ⟨_, if_pos (by rw [hs, h]; rfl), hwarm s hfast hnone⟩
    · exact ⟨_, if_pos (by rw [hfast, h]; rfl), hwarm (s.setFlag SYS_CLK SYS_CLK_HOLDOVER false) hfast hnone⟩

end Sys2Proof.Proofs
end

section
/-! Warm and cold resets (R283, R284, R286). -/

namespace Sys2Proof.Proofs

open Sys2Proof Sys2Proof.Machine Sys2Proof.Safety Sys2Proof.Laws

/-! ### The registers of a canonical state after a reset -/

theorem resetWord_default (warm : Bool) (o : Nat) : resetWord warm o (regDefault o) = regDefault o := by
  unfold resetWord
  extract_lets k
  refine BitVec.eq_of_getLsbD_eq fun i hi => ?_
  rw [BitVec.getLsbD_or, BitVec.getLsbD_and, BitVec.getLsbD_and, BitVec.getLsbD_not]
  cases k.getLsbD i <;> simp [hi]

theorem mget_of_below {α : Type} [DecidableEq α] (d : Nat → α) {m : FMap α} {k o : Nat} (h : mwfFrom d (some k) m = true) (ho : o ≤ k) :
    mget d m o = d o := by
  induction m generalizing k with
  | nil => rfl
  | cons e m ih =>
    obtain ⟨x, v⟩ := e
    simp only [mwfFrom, Bool.and_eq_true, decide_eq_true_eq] at h
    obtain ⟨⟨hk, -⟩, hm⟩ := h
    rw [mget_cons, if_neg (by omega)]
    exact ih hm (by omega)

/-- Each register takes what a reset leaves of it (R286). -/
theorem resetRegs_word {warm : Bool} {m : FMap Word} {lo : Option Nat} (h : mwfFrom regDefault lo m = true) (o : Nat) :
    mget regDefault (resetRegs warm m) o = resetWord warm o (mget regDefault m o) := by
  induction m generalizing lo with
  | nil => exact (resetWord_default warm o).symm
  | cons e m ih =>
    obtain ⟨k, w⟩ := e
    simp only [mwfFrom, Bool.and_eq_true] at h
    obtain ⟨-, hm⟩ := h
    have ih := ih hm
    have hbelow : k = o → mget regDefault m o = regDefault o := fun hk => mget_of_below _ hm (Nat.le_of_eq hk.symm)
    unfold resetRegs
    extract_lets v
    rw [mget_cons]
    split
    · next hv =>
      rw [ih]
      split
      · next hk =>
        rw [hbelow hk, resetWord_default, ← hk]
        exact hv.symm
      · rfl
    · rw [mget_cons, ih]
      split
      · next hk => rw [← hk]
      · rfl

theorem resetState_rd {warm : Bool} {s : State} (h : mwf regDefault s.regs = true) (o : Nat) :
    (resetState warm s).rd o = resetWord warm o (s.rd o) := by
  obtain ⟨_, _, _, hn⟩ := nvmAbort_only s
  change mget regDefault (resetRegs warm (nvmAbort s).regs) o = _
  rw [hn]
  exact resetRegs_word h o

theorem resetWord_all {warm : Bool} {o : Nat} (h : keepBits warm o = 0xFFFFFFFF) (w : Word) : resetWord warm o w = w := by
  unfold resetWord
  rw [h]
  refine BitVec.eq_of_getLsbD_eq fun i hi => ?_
  rw [BitVec.getLsbD_or, BitVec.getLsbD_and, BitVec.getLsbD_and, BitVec.getLsbD_not, show (0xFFFFFFFF : Word) = BitVec.allOnes 32 from rfl,
    BitVec.getLsbD_allOnes]
  simp [hi]

theorem resetWord_none {warm : Bool} {o : Nat} (h : keepBits warm o = 0) (w : Word) : resetWord warm o w = regDefault o := by
  unfold resetWord
  rw [h]
  refine BitVec.eq_of_getLsbD_eq fun i hi => ?_
  rw [BitVec.getLsbD_or, BitVec.getLsbD_and, BitVec.getLsbD_and, BitVec.getLsbD_not]
  simp [hi]

theorem resetWord_bit {warm : Bool} {o i : Nat} (h : (keepBits warm o).getLsbD i = true) (w : Word) :
    (resetWord warm o w).getLsbD i = w.getLsbD i := by
  unfold resetWord
  rw [BitVec.getLsbD_or, BitVec.getLsbD_and, BitVec.getLsbD_and, BitVec.getLsbD_not, h]
  simp

theorem keepBits_prot {x : Nat} (hx : x / 0x10000 = 23) : keepBits true x = 0xFFFFFFFF := by
  unfold keepBits
  extract_lets win
  rw [if_neg (by simp only [SYS_RSTCAUSE]; omega), if_neg (by simp only [SYS_CLK]; omega), if_neg (by simp only [PMU_SUP]; omega),
    if_neg (by simp only [PMU_REGSTAT]; omega), if_neg (by simp only [SAFE_BRKSTAT]; omega), if_neg (by decide), if_pos (.inl hx)]

theorem keepBits_cold {x : Nat} (h1 : x ≠ SYS_RSTCAUSE) (h2 : x ≠ SYS_CLK) (h3 : x ≠ PMU_SUP) (h4 : x ≠ PMU_REGSTAT)
    (h5 : x ≠ SAFE_BRKSTAT) : keepBits false x = 0 := by
  unfold keepBits
  extract_lets win
  rw [if_neg h1, if_neg h2, if_neg h3, if_neg h4, if_neg h5]
  rfl

/-! ### The two kinds of reset -/

/-- What a warm reset leaves. -/
def WarmLeft (s t : State) : Prop :=
  t.bringup.active = some .warm ∧ t.power = .stand ∧ t.troika.released = false ∧
    t.rd SYS_SCRATCH = 0 ∧ t.flag CPL_ADDR CPL_ADDR_HEAD = s.flag CPL_ADDR CPL_ADDR_HEAD ∧
    (s.keptLegs = [] → t.lan = s.lan ∧ t.rd MEM_SPARE = s.rd MEM_SPARE ∧ ∀ x, x / 0x10000 = 23 → t.rd x = s.rd x)

/-- What a cold reset leaves. -/
def ColdLeft (s t : State) : Prop :=
  t.bringup.active = some .cold ∧ t.power = .stand ∧ t.troika.released = false ∧
    t.lan = s.lan ∧ t.flag SYS_CLK SYS_CLK_XSRC = s.flag SYS_CLK SYS_CLK_XSRC ∧
    ∀ x, x ≠ SYS_RSTCAUSE → x ≠ SYS_CLK → x ≠ PMU_SUP → x ≠ PMU_REGSTAT → x ≠ SAFE_BRKSTAT → t.rd x = regDefault x

theorem resetState_lan (warm : Bool) (s : State) : (resetState warm s).lan = s.lan := nvmAbort_lan s

theorem resetState_released (warm : Bool) (s : State) : (resetState warm s).troika.released = false := rfl

/-- The keeper takes its legs over in the gate block alone. -/
theorem keeperEntered_step (s : State) : EngineStep s (keeperEntered s) ∧ Untouched (fun o => o = CPL_ADDR) s (keeperEntered s) := by
  have hq : OffGate (fun o => o = CPL_ADDR) := offGate_above fun o ho => by rw [ho]; decide
  have hc : EngineStep s (each (s.keptLegs.map fun l => (l, (s.legCode l).getD (if s.legSafe l = 0 then s.baseCode l else s.legSafe l)))
      (fun e t => t.updLg e.1 (fun x => { x with keptCode := e.2 })) s) := EngineStep.refl.each fun _ _ h => h.updLg
  have hk : Untouched (fun o => o = CPL_ADDR) s
      (each (s.keptLegs.map fun l => (l, (s.legCode l).getD (if s.legSafe l = 0 then s.baseCode l else s.legSafe l)))
        (fun e t => t.updLg e.1 (fun x => { x with keptCode := e.2 })) s) := Untouched.refl.each fun _ _ _ => fun _ _ => rfl
  exact ⟨hc.safeFor, hk.safeFor hq⟩

theorem warmEnter_leaves {s : State} (hm : mwf regDefault s.regs = true) : (warmEnter s).troika.released = false ∧
    (warmEnter s).rd SYS_SCRATCH = 0 ∧ (warmEnter s).flag CPL_ADDR CPL_ADDR_HEAD = s.flag CPL_ADDR CPL_ADDR_HEAD := by
  obtain ⟨r, u, hr, -, ⟨⟨_, _, _, _, hu⟩, hrd⟩, h⟩ := warmEnter_after s
  have hreset : mwf regDefault r.regs = true ∧ r.rd CPL_ADDR = s.rd CPL_ADDR := by
    obtain ⟨he, ht⟩ := keeperEntered_step s
    rcases hr with hr | hr
    · rw [hr]
      exact ⟨hm, rfl⟩
    · rw [hr]
      exact ⟨he.regs hm, ht _ rfl⟩
  obtain ⟨hmr, hrh⟩ := hreset
  have hub : u.troika.released = false ∧ u.rd SYS_SCRATCH = 0 ∧ u.flag CPL_ADDR CPL_ADDR_HEAD = s.flag CPL_ADDR CPL_ADDR_HEAD := by
    refine ⟨?_, ?_, ?_⟩
    · rw [hu]
      exact resetState_released true r
    · rw [hrd _ (by decide), resetState_rd hmr, resetWord_none (by decide)]
      decide
    · rw [State.flag, hrd _ (by decide), resetState_rd hmr]
      exact (resetWord_bit (by decide) _).trans (by rw [hrh]; rfl)
  rcases h with h | h
  · rw [h]
    exact hub
  · rw [h]
    obtain ⟨h1, h2, h3⟩ := hub
    have hrep := raiseOnce_reports (u.sq PROT_STAT PROT_STAT_KHOLD) (src := evProt 3) (by decide)
    refine ⟨?_, ?_, ?_⟩
    · obtain ⟨_, _, _, _, he⟩ := hrep.events
      rw [he]
      exact h1
    · rw [hrep.rd _ (by decide)]
      exact (rd_wr_of_ne _ _ (by decide)).trans h2
    · refine (congrArg CPL_ADDR_HEAD.bit (hrep.rd _ (by decide))).trans (.trans (congrArg CPL_ADDR_HEAD.bit ?_) h3)
      exact rd_wr_of_ne _ _ (by decide)

theorem none_of_awake {s : State} (hs : s.awake = true) : s.bringup.active = none := by
  simp only [State.awake, Bool.and_eq_true, decide_eq_true_eq] at hs
  exact hs.1

theorem resetNow_warm {s : State} (f : Fld) (hs : s.awake = true) (hm : mwf regDefault s.regs = true) :
    WarmLeft s (resetNow .warm f s) ∧ (resetNow .warm f s).bringup.causes = f.mask := by
  obtain ⟨h1, h2, h3⟩ := warmEnter_leaves hm
  unfold resetNow
  rw [if_pos (fastPower_of_awake hs)]
  unfold resetCause
  rw [none_of_awake hs]
  refine ⟨⟨warmEnter_bringup s, rfl, h1, h2, h3, fun hk => ?_⟩, BitVec.zero_or⟩
  obtain ⟨_, _, -, hw, -⟩ := warmEnter_after s
  have hw := hw hk
  have hkeep : ∀ x, keepBits true x = 0xFFFFFFFF → (warmEnter s).rd x = s.rd x := fun x hx => by
    rw [hw, resetState_rd hm, resetWord_all hx]
  exact ⟨(congrArg State.lan hw).trans (resetState_lan true s), hkeep _ (by decide), fun x hx => hkeep x (keepBits_prot hx)⟩

theorem resetNow_cold {s : State} (f : Fld) (hs : s.awake = true) (hm : mwf regDefault s.regs = true) :
    ColdLeft s (resetNow .cold f s) ∧ (resetNow .cold f s).bringup.causes = f.mask := by
  unfold resetNow
  rw [if_pos (fastPower_of_awake hs)]
  unfold resetCause
  rw [none_of_awake hs]
  refine ⟨⟨rfl, rfl, rfl, resetState_lan false s, ?_, fun x h1 h2 h3 h4 h5 => ?_⟩, BitVec.zero_or⟩
  · have h : (resetState false s).flag SYS_CLK SYS_CLK_XSRC = s.flag SYS_CLK SYS_CLK_XSRC := by
      rw [State.flag, resetState_rd hm]
      exact resetWord_bit (by decide) _
    exact h
  · exact (resetState_rd hm x).trans (resetWord_none (keepBits_cold h1 h2 h3 h4 h5) _)

/-! ### The requests of SYS_RSTCAUSE (R283, R294) -/

def cardRstCause : Card := ⟨8, [], false, 0x01400010#32, [⟨SYS_RSTCAUSE_SEQ, .ro, false, false, .none⟩,
  ⟨SYS_RSTCAUSE_PORST, .sq, false, false, .none⟩, ⟨SYS_RSTCAUSE_WAKE, .sq, false, false, .none⟩,
  ⟨SYS_RSTCAUSE_REGRST, .sq, false, false, .none⟩, ⟨SYS_RSTCAUSE_SWCOLD, .sq, false, false, .none⟩,
  ⟨SYS_RSTCAUSE_WRST, .sq, false, false, .none⟩, ⟨SYS_RSTCAUSE_SWWARM, .sq, false, false, .none⟩,
  ⟨SYS_RSTCAUSE_CLKRST, .sq, false, false, .none⟩, ⟨SYS_RSTCAUSE_KEY, .rw, true, true, .none⟩,
  ⟨SYS_RSTCAUSE_LAST, .ro, false, false, .none⟩, ⟨SYS_RSTCAUSE_REQ, .rh, true, true, .none⟩]⟩

theorem isRegister_rstCause : isRegister SYS_RSTCAUSE cardRstCause [] = true := by decide +kernel

section
variable {s : State} {req : Nat}

/-- The word that a request writes. -/
def resetRequest (req : Nat) : Word := SYS_RSTCAUSE_REQ.put (SYS_RSTCAUSE_KEY.put 0 0xC3) req

/-- The state in which the request is answered. -/
def resetTaken (req : Nat) (s : State) : State :=
  ((s.wr SYS_RSTCAUSE (writtenWord .coachman SYS_RSTCAUSE (resetRequest req) s)).setFld SYS_RSTCAUSE SYS_RSTCAUSE_REQ 0).setFld
    SYS_RSTCAUSE SYS_RSTCAUSE_KEY 0

theorem resetTaken_rd {x : Nat} (hx : x ≠ SYS_RSTCAUSE) : (resetTaken req s).rd x = s.rd x :=
  (rd_wr_of_ne _ _ hx).trans ((rd_wr_of_ne _ _ hx).trans (rd_wr_of_ne _ _ hx))

theorem resetTaken_mwf (hm : mwf regDefault s.regs = true) : mwf regDefault (resetTaken req s).regs = true :=
  mwf_mset _ _ _ _ (mwf_mset _ _ _ _ (mwf_mset _ _ _ _ hm))

theorem resetTaken_keptLegs : (resetTaken req s).keptLegs = s.keptLegs := by
  have hleg : ∀ l, (resetTaken req s).legAxle l = s.legAxle l := fun l =>
    legAxle_congr rfl (resetTaken_rd (by simp only [LEG_CFG, SYS_RSTCAUSE]; omega))
  have hrun : ∀ a, (resetTaken req s).running a = s.running a := fun a =>
    congrArg AXL_STAT_RUNNING.bit (resetTaken_rd (by simp only [AXL_STAT, SYS_RSTCAUSE]; omega))
  have hsafe : ∀ l, (resetTaken req s).legSafe l = s.legSafe l := fun l =>
    congrArg LEG_STAT_SAFE.get (resetTaken_rd (by simp only [LEG_STAT, SYS_RSTCAUSE]; omega))
  unfold State.keptLegs
  simp only [hleg, hrun, hsafe]

/-- The request and its key stand in the word that is written. -/
theorem resetRequest_word {f : FieldCard} (hf : f ∈ cardRstCause.fields) (hy : f.ty = .rw ∨ f.ty = .rh) :
    f.fld.get (writtenWord .coachman SYS_RSTCAUSE (resetRequest req) s) = f.fld.get (resetRequest req) := by
  obtain ⟨_, _, _, _, _, hp, hl, _⟩ := isRegister_iff.mp isRegister_rstCause
  rw [writtenWord_open isRegister_rstCause (openFields_coachman _)]
  refine (putFields_self hp hf (hl _ hf) _).trans ?_
  have hput : ∀ w n, f.fld.get (f.fld.put w n) = n % 2 ^ f.fld.len := fun w n => get_put_self _ w n (hl _ hf)
  have hmod : ∀ w, f.fld.get w % 2 ^ f.fld.len = f.fld.get w := fun w => Nat.mod_eq_of_lt (get_lt ..)
  have h0 : coHits noUpdate f = false := by simp [coHits, noUpdate]
  have hsw : f.fld.get (swField noUpdate (resetRequest req) (s.rd SYS_RSTCAUSE) f) = f.fld.get (resetRequest req) := by
    unfold swField
    rcases hy with h | h
    · rw [h]
      exact (hput ..).trans (hmod _)
    · rw [h, h0]
      exact (hput ..).trans (hmod _)
  rw [hsw, hmod]

/-- A request with its key is carried out (R294). -/
theorem resetRequested (hs : s.awake = true) (hq : req = 1 ∨ req = 2) : wordCmd .coachman SYS_RSTCAUSE (resetRequest req) s =
    .next (syncStretches (if req = 1 then resetNow .warm SYS_RSTCAUSE_SWWARM (resetTaken req s)
      else resetNow .cold SYS_RSTCAUSE_SWCOLD (resetTaken req s))) := by
  have hget : SYS_RSTCAUSE_REQ.get (writtenWord .coachman SYS_RSTCAUSE (resetRequest req) s) = req := by
    refine (resetRequest_word (f := ⟨SYS_RSTCAUSE_REQ, .rh, true, true, .none⟩) (by decide) (.inr rfl)).trans ?_
    exact (get_put_self SYS_RSTCAUSE_REQ _ req (by decide)).trans (by rcases hq with rfl | rfl <;> rfl)
  have hkey : SYS_RSTCAUSE_KEY.get (writtenWord .coachman SYS_RSTCAUSE (resetRequest req) s) = 0xC3 := by
    refine (resetRequest_word (f := ⟨SYS_RSTCAUSE_KEY, .rw, true, true, .none⟩) (by decide) (.inl rfl)).trans ?_
    rcases hq with rfl | rfl <;> decide
  have hbad : s.badWrite SYS_RSTCAUSE (s.rd SYS_RSTCAUSE) (writtenWord .coachman SYS_RSTCAUSE (resetRequest req) s) = false := by
    change (decide (SYS_RSTCAUSE_REQ.get _ = 3) || (decide (SYS_RSTCAUSE_REQ.get _ ≠ 0) && decide (SYS_RSTCAUSE_KEY.get _ ≠ 0xC3))) = false
    rw [hget, hkey]
    rcases hq with rfl | rfl <;> rfl
  have ha := accepted_of hs (isRegister_iff.mp isRegister_rstCause).1 (by decide) (fun h => by cases h) hbad
  have hclear : ∀ fl d t, sqClear SYS_RSTCAUSE [] fl d (writtenWord .coachman SYS_RSTCAUSE (resetRequest req) s) t = t := fun fl d t => by
    unfold sqClear
    rw [if_neg (by decide), if_neg (by decide)]
    split
    · rfl
    · exact if_pos ⟨rfl, by rw [hget]; omega⟩
  refine (writeCmd_awake hs).trans (congrArg (fun t => Host.Outcome.next (syncStretches t)) ?_)
  rw [writeReg_fields isRegister_rstCause, meets_unscheduled (by decide), writeFields_written isRegister_rstCause .noUpdate ha, hclear]
  change (if SYS_RSTCAUSE_REQ.get _ = 1 then resetNow .warm SYS_RSTCAUSE_SWWARM (resetTaken req s)
    else if SYS_RSTCAUSE_REQ.get _ = 2 then resetNow .cold SYS_RSTCAUSE_SWCOLD (resetTaken req s) else _) = _
  rw [hget]
  rcases hq with rfl | rfl <;> rfl

theorem WarmLeft.requested {t : State} (h : WarmLeft (resetTaken req s) t) : WarmLeft s (syncStretches t) := by
  obtain ⟨h1, h2, h3, h4, h5, h6⟩ := h
  simp only [WarmLeft, syncStretches_bringup, syncStretches_power, syncStretches_troika, syncStretches_rd, syncStretches_flag,
    syncStretches_lan]
  refine ⟨h1, h2, h3, h4, h5.trans (congrArg CPL_ADDR_HEAD.bit (resetTaken_rd (by decide))), fun hk => ?_⟩
  obtain ⟨hl, hm, hp⟩ := h6 (resetTaken_keptLegs.trans hk)
  exact ⟨hl, hm.trans (resetTaken_rd (by decide)), fun x hx =>
    (hp x hx).trans (resetTaken_rd (by simp only [SYS_RSTCAUSE]; omega))⟩

theorem ColdLeft.requested {t : State} (h : ColdLeft (resetTaken req s) t) : ColdLeft s (syncStretches t) := by
  obtain ⟨h1, h2, h3, h4, h5, h6⟩ := h
  simp only [ColdLeft, syncStretches_bringup, syncStretches_power, syncStretches_troika, syncStretches_rd, syncStretches_flag,
    syncStretches_lan]
  exact ⟨h1, h2, h3, h4, h5.trans (congrArg SYS_CLK_XSRC.bit (resetTaken_rd (by decide))), h6⟩

end

/-- Settles O31: the pins reset at once, the requests after their register is written; a canonical register map takes each
register's reset word. -/
theorem resetKinds : Obligations.ResetKinds := by
  intro s hs hm
  refine ⟨⟨_, rfl, resetNow_warm _ hs hm⟩, ⟨_, rfl, resetNow_cold _ hs hm⟩, ?_, ?_⟩
  · obtain ⟨h, hc⟩ := resetNow_warm (s := resetTaken 1 s) SYS_RSTCAUSE_SWWARM hs (resetTaken_mwf hm)
    refine ⟨_, (resetRequested hs (.inl rfl)).trans (by rw [if_pos rfl]), h.requested, ?_⟩
    rw [syncStretches_bringup]
    exact hc
  · obtain ⟨h, hc⟩ := resetNow_cold (s := resetTaken 2 s) SYS_RSTCAUSE_SWCOLD hs (resetTaken_mwf hm)
    refine ⟨_, (resetRequested hs (.inr rfl)).trans (by rw [if_neg (by decide)]), h.requested, ?_⟩
    rw [syncStretches_bringup]
    exact hc

end Sys2Proof.Proofs
end

section
/-! The release of a reset and the bring-up (R47, R252, R255, R288 to R291, R294). -/

namespace Sys2Proof.Proofs

open Sys2Proof Sys2Proof.Machine Sys2Proof.Safety Sys2Proof.Laws

/-! ### The records that a release loads -/

/-- The registers that a release sets and the records leave alone. -/
def ReleaseRegister (o : Nat) : Prop := o = SYS_RSTCAUSE ∨ o = CPL_ADDR

theorem not_releaseRegister {o : Nat} (h : 0x100000 ≤ o ∧ o < 0x1C0000 ∨ 0x1D0000 ≤ o) : ¬ReleaseRegister o := by
  simp only [ReleaseRegister, SYS_RSTCAUSE, CPL_ADDR]
  omega

theorem releaseRegister_offGate : OffGate ReleaseRegister := by
  constructor
  · rintro o (rfl | rfl) <;> decide
  · rintro o (rfl | rfl) <;> decide

theorem bitsOf_lt (w : Word) (hi lo : Nat) : bitsOf w hi lo < 2 ^ (hi + 1 - lo) := Nat.mod_lt _ (Nat.two_pow_pos _)

section
variable {s₀ s : State}

theorem Untouched.setRecords {P : Nat → Prop} {f : Records → Records} (h : Untouched P s₀ s) : Untouched P s₀ (s.setRecords f) :=
  h.trans fun _ _ => rfl

theorem loadChannel_apart {c : Nat} (hc : c < 256) : Untouched ReleaseRegister s (loadChannel c s) := by
  have hr : ¬ReleaseRegister (GCH_CFG c) := not_releaseRegister (by simp only [GCH_CFG]; omega)
  exact (((Untouched.refl.setFld hr).setFld hr).setFld hr).gate (GateStep.refl (L := false) |>.joinChannel hc)
    releaseRegister_offGate.gate

theorem loadLeg_apart {l : Nat} (hl : l < 32) : Untouched ReleaseRegister s (loadLeg l s) := by
  have h1 : ¬ReleaseRegister (LEG_DT l) := not_releaseRegister (by simp only [LEG_DT]; omega)
  have h2 : ¬ReleaseRegister (LEG_DTEFF l) := not_releaseRegister (by simp only [LEG_DTEFF]; omega)
  have h3 : ¬ReleaseRegister (LEG_TIM l) := not_releaseRegister (by simp only [LEG_TIM]; omega)
  have h4 : ¬ReleaseRegister (LEG_CFG l) := not_releaseRegister (by simp only [LEG_CFG]; omega)
  have h5 : ¬ReleaseRegister (POS_CFG (2 * l + 1)) := not_releaseRegister (by simp only [POS_CFG]; omega)
  have h6 : ¬ReleaseRegister (LEG_BOOT l) := not_releaseRegister (by simp only [LEG_BOOT]; omega)
  unfold loadLeg
  extract_lets a b dt s1 s2 s3 s4 s5 s6 s7 s8 s9 s10 s11 s12 s13
  have h6' : Untouched ReleaseRegister s s6 := (((((Untouched.refl.setFld h1).setFld h1).setFld h2).setFld h2).setFld h3).setFld h3
  have h9' : Untouched ReleaseRegister s s9 := ((h6'.setFld h4).setFld h4).setFlag h5
  exact ((((h9'.setFld h6).setFld h6).setFlag h4).setFlag h4).setFlag h4

theorem loadGate_apart : Untouched ReleaseRegister s (loadGate s) := by
  refine .ite (Untouched.setRecords (.each (.each (.each .refl fun c hc u => loadChannel_apart (List.mem_range.mp hc))
    fun l hl u => loadLeg_apart (List.mem_range.mp hl)) fun p hp u => ?_)) (Untouched.setRecords (.raise .refl releaseRegister_offGate.event))
  exact Untouched.refl.gate (GateStep.refl (L := false) |>.countPos (List.mem_range.mp hp)) releaseRegister_offGate.gate

/-- Registers outside the sigma-delta block. -/
def OffSdf (P : Nat → Prop) : Prop := ∀ o, P o → o / 0x10000 ≠ 18

theorem OffSdf.not {P : Nat → Prop} (h : OffSdf P) {o : Nat} (ho : o / 0x10000 = 18) : ¬P o := fun hp => h o hp ho

theorem releaseRegister_offSdf : OffSdf ReleaseRegister := by
  rintro o (rfl | rfl) <;> decide

theorem loadInput_apart {P : Nat → Prop} (hP : OffSdf P) {c ckin sdly : Nat} (hc : c < 128) : Untouched P s (loadInput c ckin sdly s) := by
  have hr : ¬P (SDF_CFG c) := hP.not (by simp only [SDF_CFG]; omega)
  exact (((Untouched.refl.setFlag hr).setFlag hr).setFld hr).setFld hr

theorem loadSenseLeg_apart {l : Nat} (hl : l < 24) : Untouched ReleaseRegister s (loadSenseLeg l s) := by
  have hr : ¬ReleaseRegister (SDF_LMAP l) := not_releaseRegister (by simp only [SDF_LMAP]; omega)
  have hc := bitsOf_lt (s.senseWord l) 30 24
  have hi : ¬ReleaseRegister (SDF_CFG (bitsOf (s.senseWord l) 30 24)) := not_releaseRegister (by simp only [SDF_CFG]; omega)
  have h1 := ((Untouched.refl (P := ReleaseRegister) (s := s)).setFlag (f := SDF_LMAP_EN) (b := (s.senseWord l).getLsbD 31) hr).setFld
    (f := SDF_LMAP_CCH) (n := bitsOf (s.senseWord l) 30 24) hr |>.setFld (f := SDF_LMAP_SET) (n := bitsOf (s.senseWord l) 3 0) hr
  exact .ite ((h1.trans (loadInput_apart releaseRegister_offSdf hc)).setFld hi) h1

theorem loadSense_apart : Untouched ReleaseRegister s (loadSense s) := by
  refine .ite (Untouched.setRecords (.each (.each .refl fun k hk u => ?_) fun l hl u => loadSenseLeg_apart (List.mem_range.mp hl)))
    (Untouched.setRecords (.raise .refl releaseRegister_offGate.event))
  have hk := List.mem_range.mp hk
  have hr : ¬ReleaseRegister (SDF_SDC k) := not_releaseRegister (by simp only [SDF_SDC]; omega)
  exact .ite ((Untouched.refl.setFlag hr).setFld hr) .refl

theorem loadHysAxle_apart {a : Nat} (ha : a < 4) : Untouched ReleaseRegister s (loadHysAxle a s) := by
  have h1 : ¬ReleaseRegister (HYS_MOD a) := not_releaseRegister (by simp only [HYS_MOD]; omega)
  have h2 : ¬ReleaseRegister (HYS_FLX a) := not_releaseRegister (by simp only [HYS_FLX]; omega)
  have h3 : ¬ReleaseRegister (HYS_LIM a) := not_releaseRegister (by simp only [HYS_LIM]; omega)
  have h4 : ¬ReleaseRegister (HYS_BAND a) := not_releaseRegister (by simp only [HYS_BAND]; omega)
  have h5 : ¬ReleaseRegister (HYS_CFG a) := not_releaseRegister (by simp only [HYS_CFG]; omega)
  unfold loadHysAxle
  extract_lets b en s1 s2 s3 s4 s5 s6
  have h6 : ¬ReleaseRegister (SDF_CFG (en % 128)) := not_releaseRegister (by simp only [SDF_CFG]; omega)
  have hs4 : Untouched ReleaseRegister s s4 := (((Untouched.refl.wr h1).wr h2).wr h3).wr h4
  have hs6 : Untouched ReleaseRegister s s6 := (hs4.setFld h5).setFld h5
  have hc : en % 128 < 128 := by omega
  generalize s6 = u at hs6
  exact .ite ((hs6.trans (loadInput_apart releaseRegister_offSdf hc)).setFld h6) hs6

theorem loadHys_apart : Untouched ReleaseRegister s (loadHys s) := by
  refine .ite (Untouched.setRecords (.each (.each .refl fun a ha u => loadHysAxle_apart (List.mem_range.mp ha)) fun k hk u => ?_))
    (Untouched.setRecords (.raise .refl releaseRegister_offGate.event))
  have hk := List.mem_range.mp hk
  exact Untouched.refl.wr (not_releaseRegister (by simp only [HYS_SET]; omega))

theorem loadPin_apart {k : Nat} (hk : k < 64) : Untouched ReleaseRegister s (loadPin k s) := by
  have hr : ¬ReleaseRegister (PROT_SRC k) := not_releaseRegister (by simp only [PROT_SRC]; omega)
  exact .ite (((Untouched.refl.setFld hr).setFld hr).setFld hr) .refl

theorem loadOv_apart : Untouched ReleaseRegister s (loadOv s) := by
  have hk := bitsOf_lt (s.wb 0x45) 24 21
  have h1 : ¬ReleaseRegister (CMP_CFG (bitsOf (s.wb 0x45) 24 21)) := not_releaseRegister (by simp only [CMP_CFG]; omega)
  have h2 : ¬ReleaseRegister (PROT_SRC (64 + bitsOf (s.wb 0x45) 24 21)) := not_releaseRegister (by simp only [PROT_SRC]; omega)
  exact .ite ((((((Untouched.refl.setFlag h1).setFlag h1).setFld h1).setFld h1).setFld h2).setFld h2) .refl

theorem loadProt_apart : Untouched ReleaseRegister s (loadProt s) := by
  have hr : ∀ {o}, 0x170000 ≤ o ∧ o < 0x180000 → ¬ReleaseRegister o := fun {_} ho => not_releaseRegister (by omega)
  have h1 : Untouched ReleaseRegister s (loadOv (each (List.range 64) loadPin s)) :=
    (Untouched.refl.each fun k hk u => loadPin_apart (List.mem_range.mp hk)).trans loadOv_apart
  refine .ite ?_ (Untouched.setRecords (.raise (.sq .refl (hr (by decide))) releaseRegister_offGate.event))
  have hsel : ¬ReleaseRegister (PROT_SEL 0) := hr (by decide)
  have h2 := ((h1.setFld (f := PROT_SEL_SPDSRC) (n := bitsOf (s.wb 0x45) 9 8) hsel).setFld (f := PROT_SEL_SAXL) (n := 0) hsel).setFlag
    (f := PROT_SEL_ASCSIDE) (b := (s.wb 0x45).getLsbD 10) hsel |>.setFld (f := PROT_SEL_VCH) (n := bitsOf (s.wb 0x45) 7 1) hsel
  exact ((h2.wr (hr (o := PROT_SELT 0) (by decide))).wr (hr (o := PROT_SELV 0) (by decide)) |>.wr
    (hr (o := PROT_GRP 0) (by decide))).setRecords

theorem loadMonLeg_apart {P : Nat → Prop} (hP : OffSdf P) {l : Nat} (hl : l < 24) : Untouched P s (loadMonLeg l s) := by
  have hr : ¬P (SDF_LMAP l) := hP.not (by simp only [SDF_LMAP]; omega)
  unfold loadMonLeg
  extract_lets x mch s1 s2 s3
  have hc : mch < 128 := bitsOf_lt x 30 24
  have hi : ¬P (SDF_CFG mch) := hP.not (by simp only [SDF_CFG]; omega)
  have h2 : Untouched P s s2 := (Untouched.refl.setFlag hr).setFld hr
  exact .ite (((h2.trans (loadInput_apart hP hc)).setFlag hi).setFld hi) h2

theorem loadMonAxle_apart {P : Nat → Prop} (hP : OffSdf P) {a : Nat} (hr : ¬P (SAFE_TMSTAT a)) : Untouched P s (loadMonAxle a s) := by
  unfold loadMonAxle
  extract_lets x s1
  have hc : bitsOf x 29 23 < 128 := bitsOf_lt x 29 23
  have hi : ¬P (SDF_CFG (bitsOf x 29 23)) := hP.not (by simp only [SDF_CFG]; omega)
  have h1 : Untouched P s s1 := Untouched.refl.setFlag hr
  exact .ite ((h1.trans (loadInput_apart hP hc)).setFlag hi) h1

/-- The load of the monitors. -/
theorem loadMonitors_apart {P : Nat → Prop} (hP : OffSdf P) (hr : ∀ a < 4, ¬P (SAFE_TMSTAT a)) :
    Untouched P s (each (List.range 4) loadMonAxle (each (List.range 24) loadMonLeg (takeSealed s))) :=
  .each (.each (.each .refl fun k _ u => Untouched.refl.upd) fun l hl u => loadMonLeg_apart hP (List.mem_range.mp hl))
    fun a ha u => loadMonAxle_apart hP (hr a (List.mem_range.mp ha))

theorem loadSealed_apart : Untouched ReleaseRegister s (loadSealed s) := by
  have hr : ¬ReleaseRegister SAFE_SEALSTAT := not_releaseRegister (by decide)
  refine .ite (.setFlag ?_ hr) (.raise (.sq (.setFlag .refl hr) hr) releaseRegister_offGate.event)
  exact loadMonitors_apart releaseRegister_offSdf fun a ha => not_releaseRegister (by simp only [SAFE_TMSTAT]; omega)

theorem loadConn_apart {c : Nat} (hc : c < 4) : Untouched ReleaseRegister s (loadConn c s) := by
  have hr : ∀ o, 0x190000 ≤ o ∧ o < 0x1A0000 → ∀ (w : Word) {u : State}, Untouched ReleaseRegister s u →
      Untouched ReleaseRegister s (loadWord o w u) := fun o ho w u hu => hu.wr (not_releaseRegister (by omega))
  unfold loadConn
  extract_lets s1 s2 s3 s4 s5 s6 s7
  have h4 : Untouched ReleaseRegister s s4 := hr _ (by simp only [GRD_RXTIM]; omega) _ (hr _ (by simp only [GRD_RXADR]; omega) _
    (hr _ (by simp only [GRD_RXID]; omega) _ (hr _ (by simp only [GRD_RXCFG]; omega) _ .refl)))
  exact hr _ (by simp only [GRD_TXADR]; omega) _ (hr _ (by simp only [GRD_TXID]; omega) _
    (hr _ (by simp only [GRD_TXCFG]; omega) _ (hr _ (by simp only [GRD_RXDL]; omega) _ h4)))

theorem loadGuard_apart : Untouched ReleaseRegister s (loadGuard s) :=
  .ite (.each .refl fun _ hc _ => loadConn_apart (List.mem_range.mp hc))
    (.raise (.sq .refl (not_releaseRegister (by decide))) releaseRegister_offGate.event)

/-- The records leave the registers that the release has set. -/
theorem loadRecords_apart (cold : Bool) : Untouched ReleaseRegister s (loadRecords cold s) := by
  unfold loadRecords
  extract_lets s1 s2
  have h1 : Untouched ReleaseRegister s s1 := loadGate_apart.trans (loadSense_apart.trans loadHys_apart)
  have h2 : Untouched ReleaseRegister s s2 := .ite (h1.trans loadProt_apart) h1
  exact (h2.trans (loadSealed_apart.trans loadGuard_apart)).gate (GateStep.refl (L := false)).settleSafe releaseRegister_offGate.gate

/-! ### The release (R283, R288, R294) -/

/-- The state in which the records are loaded. -/
def releaseShown (kind : ResetKind) (headLow : Bool) (s : State) : State :=
  let cold := decide (kind = .cold)
  let cause := rstCauseAt kind s.bringup.causes (s.rd SYS_RSTCAUSE)
  let s := { s with bringup := { cold := cold, uncleared := s.bringup.uncleared } }
  let s := (s.wr SYS_RSTCAUSE cause).setFlag SYS_CLK SYS_CLK_DRAY true
  let s := if kind = .cold then s.setFlag CPL_ADDR CPL_ADDR_HEAD headLow else s
  showProg (showT15 (onlyIf cold (fun t => harnessStarts t (loadHarness t)) s))

theorem loadHarness_apart : Untouched ReleaseRegister s (loadHarness s) :=
  .ite (((Untouched.refl.wr (not_releaseRegister (by decide))).wr (not_releaseRegister (by decide))).setRecords)
    ((Untouched.refl.sq (not_releaseRegister (by decide))).raise releaseRegister_offGate.event).setRecords

theorem harnessStarts_apart (old : State) : Untouched ReleaseRegister s (harnessStarts old s) :=
  .each .refl fun _ _ u => Untouched.refl.upd

theorem showT15_apart : Untouched ReleaseRegister s (showT15 s) :=
  have hr : ¬ReleaseRegister (THM_T 15) := not_releaseRegister (by decide)
  ((Untouched.refl.setFlag hr).setFlag hr).setFld hr

theorem showProg_apart : Untouched ReleaseRegister s (showProg s) :=
  .ite .refl (.setFlag .refl (by simp only [ReleaseRegister]; decide))

theorem releaseShown_shows (kind : ResetKind) (headLow : Bool) (s : State) (hp : s.power = .stand) :
    (releaseShown kind headLow s).awake = true ∧
    (releaseShown kind headLow s).flag CPL_ADDR CPL_ADDR_HEAD = (match kind with | .cold => headLow | .warm => s.flag CPL_ADDR CPL_ADDR_HEAD) ∧
    (releaseShown kind headLow s).rd SYS_RSTCAUSE = rstCauseAt kind s.bringup.causes (s.rd SYS_RSTCAUSE) := by
  unfold releaseShown
  extract_lets cold cause s1 s2 s3
  have hawake : s1.awake = true := by simp only [State.awake, s1, hp, decide_true, Bool.true_or, Bool.true_and]
  have h3 : EngineStep s1 s3 := .ite (EngineStep.refl.wr.setFlag.setFlag) EngineStep.refl.wr.setFlag
  have h4 : EngineStep s3 (onlyIf cold (fun t => harnessStarts t (loadHarness t)) s3) :=
    .ite EngineStep.refl.loadHarness.harnessStarts .refl
  have hrest : Untouched ReleaseRegister s3 (showProg (showT15 (onlyIf cold (fun t => harnessStarts t (loadHarness t)) s3))) :=
    ((Untouched.ite (loadHarness_apart.trans (harnessStarts_apart _)) .refl).trans showT15_apart).trans showProg_apart
  have hcause : s3.rd SYS_RSTCAUSE = cause := by
    have h2 : s2.rd SYS_RSTCAUSE = cause := (rd_wr_of_ne _ _ (by decide)).trans (rd_wr_self ..)
    cases kind with
    | cold => exact (rd_wr_of_ne _ _ (by decide)).trans h2
    | warm => exact h2
  refine ⟨?_, ?_, ?_⟩
  · exact h4.showT15.showProg.awake (h3.awake hawake)
  · rw [hrest.flag (.inr rfl)]
    cases kind with
    | cold => exact flag_setFlag_self s2 CPL_ADDR CPL_ADDR_HEAD headLow (by decide) (by decide)
    | warm => exact congrArg CPL_ADDR_HEAD.bit ((rd_wr_of_ne _ _ (by decide)).trans (rd_wr_of_ne _ _ (by decide)))
  · rw [hrest _ (.inl rfl), hcause]

/-- A field outside a mask. -/
theorem put_and (f : Fld) (w m : Word) (n : Nat) (h : ∀ i, f.lo ≤ i → i < f.lo + f.len → m.getLsbD i = false) :
    f.put w n &&& m = w &&& m := by
  refine BitVec.eq_of_getLsbD_eq fun i _ => ?_
  rw [BitVec.getLsbD_and, BitVec.getLsbD_and, put_getLsbD]
  split
  · next hi => rw [h i hi.1 hi.2.1, Bool.and_false, Bool.and_false]
  · rfl

theorem rstCauseAt_last (kind : ResetKind) (causes old : Word) :
    SYS_RSTCAUSE_LAST.get (rstCauseAt kind causes old) = match kind with | .cold => 1 | .warm => 2 := by
  unfold rstCauseAt
  extract_lets w v
  refine (get_put_apart seqFld SYS_RSTCAUSE_LAST _ _ (.inr (by decide))).trans ((get_put_self _ _ _ (by decide)).trans ?_)
  cases kind <;> rfl

theorem rstCauseAt_causes (kind : ResetKind) (causes old : Word) : rstCauseAt kind causes old &&& 0x00FE0000 =
    (causes ||| (match kind with | .cold => 0 | .warm => old)) &&& 0x00FE0000 := by
  unfold rstCauseAt
  extract_lets w v
  have hout : ∀ f : Fld, f = seqFld ∨ f = SYS_RSTCAUSE_LAST → ∀ i, f.lo ≤ i → i < f.lo + f.len →
      (0x00FE0000 : Word).getLsbD i = false := by
    rintro f (rfl | rfl) i h1 h2
    · simp only [seqFld] at h1 h2
      have : i = 24 ∨ i = 25 ∨ i = 26 ∨ i = 27 ∨ i = 28 ∨ i = 29 ∨ i = 30 ∨ i = 31 := by omega
      rcases this with rfl | rfl | rfl | rfl | rfl | rfl | rfl | rfl <;> rfl
    · simp only [SYS_RSTCAUSE_LAST] at h1 h2
      have : i = 4 ∨ i = 5 := by omega
      rcases this with rfl | rfl <;> rfl
  rw [put_and _ _ _ _ (hout _ (.inl rfl)), put_and _ _ _ _ (hout _ (.inr rfl))]
  cases kind with
  | cold => exact congrArg (· &&& _) (BitVec.or_zero (x := causes)).symm
  | warm =>
    simp only [w]
    refine BitVec.eq_of_getLsbD_eq fun i hi => ?_
    simp only [BitVec.getLsbD_and, BitVec.getLsbD_or]
    have hm : (0x00FE0000 : Word).getLsbD i = true → (0xFFFF0000 : Word).getLsbD i = true := by
      have hall : ∀ j : Fin 32, (0x00FE0000 : Word).getLsbD j = true → (0xFFFF0000 : Word).getLsbD j = true := by decide
      exact hall ⟨i, hi⟩
    cases h : (0x00FE0000 : Word).getLsbD i
    · simp
    · simp only [hm h, Bool.and_true, Bool.or_comm]

theorem resetRelease_leaves (s : State) (kind : ResetKind) (headLow : Bool) : s.bringup.active = some kind → s.power = .stand →
    ∃ t, exec (.resetRelease headLow) s = .next t ∧ t.awake = true ∧
      t.flag CPL_ADDR CPL_ADDR_HEAD = (match kind with | .cold => headLow | .warm => s.flag CPL_ADDR CPL_ADDR_HEAD) ∧
      t.fld SYS_RSTCAUSE SYS_RSTCAUSE_LAST = (match kind with | .cold => 1 | .warm => 2) ∧
      (t.rd SYS_RSTCAUSE &&& 0x00FE0000 =
        (s.bringup.causes ||| (match kind with | .cold => 0 | .warm => s.rd SYS_RSTCAUSE)) &&& 0x00FE0000) ∧
      ∀ l, l < 32 → t.legSafe l ≠ 0 := by
  intro hk hp
  obtain ⟨hawake, hhead, hcause⟩ := releaseShown_shows kind headLow s hp
  let u := releaseShown kind headLow s
  let s5 := loadRecords (decide (kind = .cold)) u
  let s6 := each ((List.range 4).filter s5.tmTrip) (fun a t => each (t.phaseLegs a) (addCause .tmTrip) t) s5
  let s7 := safeFor .stand (List.range 32) s6
  have heq : exec (.resetRelease headLow) s = .next (syncStretches (settleBrake s7)) := by
    change execResetRelease headLow s = _
    unfold execResetRelease
    rw [hk]
    exact if_pos (by simp only [State.fastPower, hp, decide_true, Bool.true_or])
  have h5 : EngineStep u s5 := EngineStep.refl.loadRecords
  have h6 : EngineStep s5 s6 := EngineStep.refl.each fun _ _ h => h.each fun _ _ h => h.addCause
  have hrd : Untouched ReleaseRegister u (settleBrake s7) := by
    have hs6 : Untouched ReleaseRegister s5 s6 := .each .refl fun _ _ u => .each .refl fun _ _ _ => Untouched.addCause .refl
    refine (((loadRecords_apart _).trans hs6).safeFor releaseRegister_offGate).brake (brakeStep_settleBrake s7) ?_
    rintro o (rfl | rfl) <;> decide
  refine ⟨_, heq, ?_, ?_, ?_, ?_, fun l hl => ?_⟩
  · exact EngineStep.refl.syncStretches.awake (EngineStep.refl.settleBrake.awake (EngineStep.refl.safeFor.awake
      (h6.awake (h5.awake hawake))))
  · rw [syncStretches_flag, hrd.flag (.inr rfl)]
    exact hhead
  · rw [syncStretches_fld, hrd.fld (.inl rfl), State.fld]
    exact (congrArg _ hcause).trans (rstCauseAt_last ..)
  · rw [syncStretches_rd, hrd _ (.inl rfl)]
    exact (congrArg (· &&& _) hcause).trans (rstCauseAt_causes ..)
  · rw [syncStretches_legSafe, (brakeStep_settleBrake s7).legSafe hl]
    exact safeFor_safe (by decide) hl (List.mem_range.mpr hl)

/-! ### Clearing (R252, R291) -/

theorem memDefault_cleared {m : ClearMem} {a : Nat} (h : inClearMem m a = true) : memDefault a = 0 := by
  refine if_neg fun ha => ?_
  have hr : region a = .nvm := if_pos ha
  unfold inClearMem at h
  rw [hr] at h
  cases m <;> cases h

theorem clearMemory_byte (m : ClearMem) (s : State) (a : Nat) :
    (clearMemory m s).byte a = if inClearMem m a then 0 else s.byte a := by
  have hmem : (clearMemory m s).mem = s.mem.filter (fun c => !inClearMem m c.1) := by
    unfold clearMemory
    extract_lets u
    split <;> rfl
  rw [State.byte, hmem, mget_filter _ (fun a => !inClearMem m a)]
  cases h : inClearMem m a with
  | true => exact memDefault_cleared h
  | false => rfl

theorem clearMemory_keeps (m : ClearMem) (s : State) : (clearMemory m s).bringup = s.bringup ∧ (clearMemory m s).regs = s.regs := by
  unfold clearMemory
  extract_lets u
  split <;> exact ⟨rfl, rfl⟩

theorem waitCleared_leaves {m : ClearMem} (h : m ∈ s.bringup.uncleared) : m ∉ (waitCleared m s).bringup.uncleared ∧
    (waitCleared m s).regs = s.regs ∧ ∀ a, (waitCleared m s).byte a = if inClearMem m a then 0 else s.byte a := by
  have heq : waitCleared m s = { clearMemory m s with bringup := { (clearMemory m s).bringup with
      uncleared := (clearMemory m s).bringup.uncleared.filter (fun x => x ≠ m) } } := if_pos (by simpa using h)
  rw [heq]
  refine ⟨fun hm => ?_, (clearMemory_keeps m s).2, clearMemory_byte m s⟩
  simpa using (List.mem_filter.mp hm).2

theorem waitCleared_byte (m : ClearMem) (s : State) {a : Nat} (h : inClearMem m a = false) : (waitCleared m s).byte a = s.byte a := by
  unfold waitCleared
  split
  · refine (clearMemory_byte m s a).trans ?_
    rw [h]
    rfl
  · rfl

theorem waitCleared_bringup (m : ClearMem) (s : State) : (waitCleared m s).bringup.memTested = s.bringup.memTested ∧
    (waitCleared m s).bringup.refused = s.bringup.refused := by
  unfold waitCleared
  split
  · have h := (clearMemory_keeps m s).1
    exact ⟨(congrArg Bringup.memTested h : (clearMemory m s).bringup.memTested = _),
      (congrArg Bringup.refused h : (clearMemory m s).bringup.refused = _)⟩
  · exact ⟨rfl, rfl⟩

theorem memoryClearDone_leaves {m : ClearMem} (hm : m ∈ s.bringup.uncleared)
    (hup : (if m = .lantern then s.lanternUp else s.awake) = true) : ∃ t, exec (.memoryClearDone m) s = .next t ∧
      m ∉ t.bringup.uncleared ∧ t.regs = s.regs ∧
      (∀ a, inClearMem m a = true → t.byte a = 0) ∧ ∀ a, inClearMem m a = false → t.byte a = s.byte a := by
  obtain ⟨h1, h2, h3⟩ := waitCleared_leaves hm
  exact ⟨_, if_pos hup, h1, h2, fun a ha => by rw [h3, ha]; rfl, fun a ha => by rw [h3, ha]; rfl⟩

theorem lanternClear_leaves (hm : .lantern ∈ s.bringup.uncleared) (hup : s.lanternUp = true) :
    ∃ t, exec (.memoryClearDone .lantern) s = .next t ∧ .lantern ∉ t.bringup.uncleared ∧ t.regs = s.regs ∧
      ∀ a, byteAt .lantern t a = 0 := by
  obtain ⟨h1, h2, -⟩ := waitCleared_leaves hm
  have heq : waitCleared .lantern s = _ := if_pos (by simpa using hm)
  have hram : (waitCleared .lantern s).lan.ram = [] := by rw [heq]; rfl
  refine ⟨_, if_pos hup, h1, h2, fun a => ?_⟩
  simp only [byteAt, hram]
  rfl

/-- Three memories are cleared, whether they have waited for it or not. -/
theorem memoryTestDone_leaves (ht : s.testing = true) (hc : s.bringup.cold = true) (hm : s.bringup.memTested = false) :
    ∃ t, exec (.memoryTestDone 0 false false) s = .next t ∧ t.bringup.memTested = true ∧
      t.bringup.refused = s.bringup.refused ∧ ∀ a, t.byte a =
        if inClearMem .mainSram a || inClearMem .tandem a || inClearMem .table a then 0 else s.byte a := by
  let u := ((({ s with bringup := { s.bringup with memTested := true } }.setFld BST_SU BST_SU_BANKS 0).setFlag BST_SU
    BST_SU_TANDEM false).setFlag BST_SU BST_SU_TABLE false)
  let v := waitCleared .table (waitCleared .tandem (waitCleared .mainSram u))
  have heq : exec (.memoryTestDone 0 false false) s =
      .next (clearMemory .table (clearMemory .tandem (clearMemory .mainSram v))) := if_pos (by rw [ht, hc, hm]; rfl)
  have hv : v.bringup.memTested = true ∧ v.bringup.refused = s.bringup.refused :=
    ⟨((waitCleared_bringup ..).1.trans ((waitCleared_bringup ..).1.trans (waitCleared_bringup ..).1)),
      ((waitCleared_bringup ..).2.trans ((waitCleared_bringup ..).2.trans (waitCleared_bringup ..).2))⟩
  have hkeep : (clearMemory .table (clearMemory .tandem (clearMemory .mainSram v))).bringup = v.bringup :=
    (clearMemory_keeps ..).1.trans ((clearMemory_keeps ..).1.trans (clearMemory_keeps ..).1)
  refine ⟨_, heq, (congrArg Bringup.memTested hkeep).trans hv.1, (congrArg Bringup.refused hkeep).trans hv.2, fun a => ?_⟩
  rw [clearMemory_byte, clearMemory_byte, clearMemory_byte]
  cases h1 : inClearMem .mainSram a <;> cases h2 : inClearMem .tandem a <;> cases h3 : inClearMem .table a <;> try rfl
  exact (waitCleared_byte _ _ h3).trans ((waitCleared_byte _ _ h2).trans (waitCleared_byte _ _ h1))

/-! ### The boot check (R255) -/

theorem bootCheckDone_leaves (ht : s.testing = true) (hb : s.bringup.booted = false) :
    ∃ t, exec .bootCheckDone s = .next t ∧ t.bringup.booted = true ∧
      let version := fun (base : Nat) => (s.word32 (base + 4)).toNat
      let chosen := if s.slotOk 0 && !(s.slotOk 0x800000 && decide (version 0 < version 0x800000)) then some 0
        else if s.slotOk 0x800000 then some 1 else none
      match chosen with
      | some k => t.bringup.entry = BitVec.ofNat 32 (k * 0x800000) + s.word32 (k * 0x800000 + 12) ∧
          t.fld MEM_NVSTAT MEM_NVSTAT_SLOT = k ∧ t.bringup.refused = s.bringup.refused
      | none => t.bringup.refused = true ∧ t.flag MEM_NVSTAT MEM_NVSTAT_BOOTF = true := by
  let u : State := { s with bringup := { s.bringup with booted := true } }
  have hif : s.testing && !s.bringup.booted := by rw [ht, hb]; rfl
  have hslot : u.bootSlot = if s.slotOk 0 && !(s.slotOk 0x800000 && decide ((s.word32 (0 + 4)).toNat < (s.word32 (0x800000 + 4)).toNat))
      then some 0 else if s.slotOk 0x800000 then some 1 else none := by
    have hu : ∀ base, u.slotOk base = s.slotOk base := fun _ => rfl
    have hw : ∀ a, u.word32 a = s.word32 a := fun _ => rfl
    unfold State.bootSlot
    simp only [hu, hw]
    cases s.slotOk 0 <;> cases s.slotOk 0x800000 <;> try rfl
    by_cases hlt : (s.word32 (0 + 4)).toNat < (s.word32 (0x800000 + 4)).toNat
    · simp [hlt]
    · simp [hlt]
  have hexec : exec .bootCheckDone s = match u.bootSlot with
      | some k => .next ({ u with bringup := { u.bringup with entry := word (k * 0x800000) + u.word32 (k * 0x800000 + 12) } }.setFld
          MEM_NVSTAT MEM_NVSTAT_SLOT k)
      | none => .next (refuseRelease ((u.setFlag MEM_NVSTAT MEM_NVSTAT_BOOTF true).setFlag BST_SU BST_SU_BOOT true)) := if_pos hif
  dsimp only
  rw [hexec, ← hslot]
  cases hc : u.bootSlot with
  | some k =>
    have hk : k < 2 := by
      rw [hslot] at hc
      split at hc
      · cases hc
        decide
      · split at hc <;> cases hc
        decide
    exact ⟨_, rfl, rfl, rfl, (fld_setFld_self _ MEM_NVSTAT MEM_NVSTAT_SLOT k (by decide)).trans (Nat.mod_eq_of_lt hk), rfl⟩
  | none =>
    refine ⟨_, rfl, ?_, ?_, ?_⟩
    · rw [refuseRelease, capture_frame]
      rfl
    · rw [refuseRelease, capture_frame]
    · rw [refuseRelease, capture_flag]
      refine (congrArg MEM_NVSTAT_BOOTF.bit (rd_wr_of_ne _ _ (by decide))).trans ?_
      exact flag_setFlag_self u MEM_NVSTAT MEM_NVSTAT_BOOTF true (by decide) (by decide)

/-! ### The core test (R291) -/

/-- The test is noted with its failing cores. -/
def coreTestNoted (cores : BitVec 3) (s : State) : State :=
  { s with bringup := { s.bringup with coreTested := true } }.setFld BST_SU BST_SU_CORES cores.toNat

/-- The path test that follows it. -/
def pathTestNoted (steps : BitVec 6) (s : State) : State :=
  let s := (s.rc TRK_INJ TRK_INJ_RUNS).setFld TRK_INJ TRK_INJ_FAIL steps.toNat
  if steps = 0 then s else refuseRelease (s.setFlag TRK_STAT TRK_STAT_INJF true)

theorem coreTestDone_eq (cores : BitVec 3) (steps : BitVec 6) (ht : s.testing = true) (hc : s.bringup.coreTested = false) :
    exec (.coreTestDone cores steps) s = let bad := (List.range 3).filter (fun k => cores.getLsbD k)
      let u := coreTestNoted cores s
      let v := u.setFlag BST_SU BST_SU_PATH (decide (steps ≠ 0))
      if 2 ≤ bad.length then .next (refuseRelease u)
      else .next (pathTestNoted steps (match bad with
        | [k] => startupExclude k v
        | _ => v)) :=
  (if_pos (by rw [ht, hc]; rfl)).trans rfl

theorem refuseRelease_refused (u : State) : (refuseRelease u).bringup = { u.bringup with refused := true } := by
  rw [refuseRelease, capture_frame]

theorem refuseRelease_rd (u : State) (o : Nat) : (refuseRelease u).rd o = u.rd o := capture_rd ..

theorem pathTestNoted_none (u : State) : (pathTestNoted 0 u).bringup = u.bringup ∧
    ∀ o, o ≠ TRK_INJ → (pathTestNoted 0 u).rd o = u.rd o :=
  ⟨rfl, fun _ ho => (rd_wr_of_ne _ _ ho).trans (rd_wr_of_ne _ _ ho)⟩

theorem pathTestNoted_some (u : State) {steps : BitVec 6} (h : steps ≠ 0) :
    (pathTestNoted steps u).bringup = { u.bringup with refused := true } ∧
    (pathTestNoted steps u).flag TRK_STAT TRK_STAT_INJF = true ∧ (pathTestNoted steps u).fld TRK_INJ TRK_INJ_FAIL = steps.toNat := by
  have heq : pathTestNoted steps u = refuseRelease (((u.rc TRK_INJ TRK_INJ_RUNS).setFld TRK_INJ TRK_INJ_FAIL steps.toNat).setFlag
      TRK_STAT TRK_STAT_INJF true) := if_neg h
  rw [heq]
  refine ⟨refuseRelease_refused _, ?_, ?_⟩
  · refine (capture_flag ..).trans ?_
    exact flag_setFlag_self ((u.rc TRK_INJ TRK_INJ_RUNS).setFld TRK_INJ TRK_INJ_FAIL steps.toNat) TRK_STAT TRK_STAT_INJF true
      (by decide) (by decide)
  · rw [State.fld, refuseRelease_rd]
    refine (congrArg TRK_INJ_FAIL.get (rd_wr_of_ne _ _ (by decide))).trans ?_
    exact (fld_setFld_self (u.rc TRK_INJ TRK_INJ_RUNS) TRK_INJ TRK_INJ_FAIL _ (by decide)).trans (Nat.mod_eq_of_lt steps.isLt)

/-- TRK_STAT after the exclusion of a core. -/
def excludedWord (k : Nat) (w : Word) : Word :=
  let v := TRK_STAT_DUAL.put (TRK_STAT_ISO.put (TRK_STAT_PERM.put w (TRK_STAT_PERM.get w ||| 2 ^ k)) (TRK_STAT_ISO.get w &&& (7 - 2 ^ k))) 1
  seqFld.put (v ||| TRK_STAT_SVC.mask) (seqFld.get v + 1)

theorem excludeCore_trkStat (k : Nat) (u : State) : (excludeCore k u).rd TRK_STAT = excludedWord k (u.rd TRK_STAT) := by
  have hkeep : ∀ v : State, v.regs = u.regs → ((((v.setFld TRK_STAT TRK_STAT_PERM (TRK_STAT_PERM.get (u.rd TRK_STAT) ||| 2 ^ k)).setFld
      TRK_STAT TRK_STAT_ISO (TRK_STAT_ISO.get (u.rd TRK_STAT) &&& (7 - 2 ^ k))).setFlag TRK_STAT TRK_STAT_DUAL true).sq TRK_STAT
      TRK_STAT_SVC).rd TRK_STAT = excludedWord k (u.rd TRK_STAT) := fun v hv => by
    have hrd : v.rd TRK_STAT = u.rd TRK_STAT := by rw [State.rd, hv]; rfl
    simp only [State.sq, State.sqMask, State.setFlag, State.setFld, rd_wr_self, hrd]
    rfl
  unfold excludeCore
  extract_lets w u1 u2
  refine ((raise_reports _ _).rd _ (by decide)).trans ((rd_wr_of_ne _ _ (by decide)).trans (hkeep u1 ?_))
  simp only [u1]
  split <;> rfl

theorem excludedWord_bit (k : Nat) (w : Word) {i : Nat} (hi : 12 ≤ i ∧ i < 24) :
    (excludedWord k w).getLsbD i = (w.getLsbD i || decide (i = 19)) := by
  unfold excludedWord
  extract_lets v
  have hv : v.getLsbD i = w.getLsbD i := by
    rw [put_getLsbD, if_neg (by simp only [TRK_STAT_DUAL]; omega), put_getLsbD, if_neg (by simp only [TRK_STAT_ISO]; omega),
      put_getLsbD, if_neg (by simp only [TRK_STAT_PERM]; omega)]
  have hm : TRK_STAT_SVC.mask.getLsbD i = decide (i = 19) := by
    have hall : ∀ j : Fin 24, TRK_STAT_SVC.mask.getLsbD j = decide (j.val = 19) := by decide
    exact hall ⟨i, hi.2⟩
  rw [put_getLsbD, if_neg (by simp only [seqFld]; omega), BitVec.getLsbD_or, hv, hm]

theorem excludedWord_perm {k : Nat} (hk : k < 3) (w : Word) : (TRK_STAT_PERM.get (excludedWord k w)).testBit k = true := by
  unfold excludedWord
  extract_lets v
  have hv : v.getLsbD (6 + k) = true := by
    rw [put_getLsbD, if_neg (by simp only [TRK_STAT_DUAL]; omega), put_getLsbD, if_neg (by simp only [TRK_STAT_ISO]; omega),
      put_getLsbD, if_pos (by simp only [TRK_STAT_PERM]; omega)]
    simp [TRK_STAT_PERM, Nat.testBit_two_pow_self]
  rw [get_testBit, put_getLsbD, if_neg (by simp only [seqFld, TRK_STAT_PERM]; omega), BitVec.getLsbD_or]
  simp [TRK_STAT_PERM, hk, hv]

/-- The core that fails is excluded until the next reset. -/
theorem startupExclude_leaves {k : Nat} (hk : k < 3) (u : State) : (startupExclude k u).bringup = u.bringup ∧
    (startupExclude k u).flag TRK_STAT TRK_STAT_BISTF = true ∧
    ((startupExclude k u).fld TRK_STAT TRK_STAT_PERM).testBit k = true := by
  refine ⟨(EngineStep.refl.sq.excludeCore).bringup, ?_, ?_⟩
  · refine (congrArg TRK_STAT_BISTF.bit (excludeCore_trkStat k _)).trans ((excludedWord_bit k _ (by decide)).trans ?_)
    simp [State.sq, State.sqMask, put_getLsbD, seqFld, TRK_STAT_BISTF, Fld.mask, word]
  · exact (congrArg (fun w => (TRK_STAT_PERM.get w).testBit k) (excludeCore_trkStat k _)).trans (excludedWord_perm hk _)

theorem coreTest_clauses (ht : s.testing = true) (hc : s.bringup.coreTested = false) :
    (∃ t, exec (.coreTestDone 0 0) s = .next t ∧ t.bringup.coreTested = true ∧ t.bringup.refused = s.bringup.refused) ∧
    (∀ k : Fin 3, ∃ t, exec (.coreTestDone (1 <<< k.val) 0) s = .next t ∧ t.bringup.refused = s.bringup.refused ∧
      t.flag TRK_STAT TRK_STAT_BISTF = true ∧ (t.fld TRK_STAT TRK_STAT_PERM).testBit k = true) ∧
    (∀ cores steps, steps ≠ 0 → cores = 0 ∨ cores = 1 ∨ cores = 2 ∨ cores = 4 →
      ∃ t, exec (.coreTestDone cores steps) s = .next t ∧ t.bringup.coreTested = true ∧ t.bringup.refused = true ∧
        t.flag TRK_STAT TRK_STAT_INJF = true ∧ t.fld TRK_INJ TRK_INJ_FAIL = steps.toNat) ∧
    (∀ cores steps, cores = 3 ∨ cores = 5 ∨ cores = 6 ∨ cores = 7 →
      ∃ t, exec (.coreTestDone cores steps) s = .next t ∧ t.bringup.coreTested = true ∧ t.bringup.refused = true ∧
        t.rd TRK_INJ = s.rd TRK_INJ) := by
  refine ⟨?_, fun k => ?_, fun cores steps hsteps hcores => ?_, fun cores steps hcores => ?_⟩
  · exact ⟨_, coreTestDone_eq 0 0 ht hc, rfl, rfl⟩
  · have heq : exec (.coreTestDone (1 <<< k.val) 0) s = .next (pathTestNoted 0 (startupExclude k
        ((coreTestNoted (1 <<< k.val) s).setFlag BST_SU BST_SU_PATH false))) := by
      have hbad : (List.range 3).filter (fun j => (1 <<< k.val : BitVec 3).getLsbD j) = [k.val] := by revert k; decide
      refine (coreTestDone_eq _ _ ht hc).trans ?_
      simp only [hbad]
      rfl
    obtain ⟨h1, h2, h3⟩ := startupExclude_leaves k.isLt ((coreTestNoted (1 <<< k.val) s).setFlag BST_SU BST_SU_PATH false)
    obtain ⟨hb, hrd⟩ := pathTestNoted_none (startupExclude k ((coreTestNoted (1 <<< k.val) s).setFlag BST_SU BST_SU_PATH false))
    refine ⟨_, heq, ?_, (congrArg TRK_STAT_BISTF.bit (hrd _ (by decide))).trans h2, ?_⟩
    · rw [hb, h1]
      rfl
    · rw [State.fld, hrd _ (by decide)]
      exact h3
  · have heq : ∃ u, exec (.coreTestDone cores steps) s = .next (pathTestNoted steps u) ∧ u.bringup.coreTested = true := by
      have hone : ∀ k, k < 3 → cores = 1 <<< k → (List.range 3).filter (fun j => cores.getLsbD j) = [k] → ∃ u,
          exec (.coreTestDone cores steps) s = .next (pathTestNoted steps u) ∧ u.bringup.coreTested = true := fun k hk _ hbad => by
        refine ⟨startupExclude k ((coreTestNoted cores s).setFlag BST_SU BST_SU_PATH (decide (steps ≠ 0))), ?_, ?_⟩
        · refine (coreTestDone_eq _ _ ht hc).trans ?_
          simp only [hbad]
          rfl
        · rw [(startupExclude_leaves hk _).1]
          rfl
      rcases hcores with rfl | rfl | rfl | rfl
      · exact ⟨_, coreTestDone_eq _ _ ht hc, rfl⟩
      · exact hone 0 (by decide) rfl (by decide)
      · exact hone 1 (by decide) rfl (by decide)
      · exact hone 2 (by decide) rfl (by decide)
    obtain ⟨u, heq, hu⟩ := heq
    obtain ⟨h1, h2, h3⟩ := pathTestNoted_some u hsteps
    refine ⟨_, heq, ?_, ?_, h2, h3⟩
    · rw [h1]
      exact hu
    · rw [h1]
  · have heq : exec (.coreTestDone cores steps) s = .next (refuseRelease (coreTestNoted cores s)) := by
      refine (coreTestDone_eq _ _ ht hc).trans (if_pos ?_)
      rcases hcores with rfl | rfl | rfl | rfl <;> decide
    refine ⟨_, heq, ?_, ?_, ?_⟩
    · rw [refuseRelease_refused]
      rfl
    · rw [refuseRelease_refused]
    · rw [refuseRelease_rd]
      exact rd_wr_of_ne _ _ (by decide)

/-! ### Dray service (R289) -/

theorem startAxle_leaves {a : Nat} (ha : a < 4) : (startAxle a s).running a = true ∧
    ∀ o, (0x80000 ≤ o ∧ o < 0x100000 ∧ o % 0x10000 ≠ 0x10) →
      o ≠ AXL_PRD a ∧ o ≠ AXL_PRDSCH a ∧ o ≠ AXL_CNT a ∧ o ≠ AXL_CARNUM a ∧ o ≠ AXL_STAT a → (startAxle a s).rd o = s.rd o := by
  have heq := startAxle_eq (a := a) (s := s)
  obtain ⟨-, -, hrun, -⟩ := startBegun_leaves (s := s) ha
  have hbegun : ∀ o, o < 0x100000 → reportRegister o = false → o ≠ AXL_STAT a → (startBegun a s).rd o = s.rd o := by
    intro o ho hr hne
    unfold startBegun
    extract_lets +onlyGivenNames n s1 ofs s2
    have hfree : LowStep s2 (each (s2.legsOf a) (fun l t => dropCause .axleStop l (dropCause .clkLoss l t)) s2) :=
      LowStep.refl.each fun _ _ h => h.dropCause.dropCause
    exact (hfree.rd o (low_of_lt ho) hr).trans (rd_wr_of_ne _ _ hne)
  generalize startBegun a s = b at heq hrun hbegun
  let c := (beginCarrier a b).wr (AXL_CARNUM a) (s.startInstant a).2
  have hafter : AxleStep (fun _ => False) (fun o => o = AXL_PRD a ∨ o = AXL_PRDSCH a ∨ o = SYS_CLK) c (startAxle a s) := by
    rw [heq]
    exact (((AxleStep.refl.scheduledPeriod (.inl rfl) (.inr (.inl rfl))).clockChange (.inr (.inr rfl))).axwTakes).updatePoint
  have hrd : ∀ o, (0x80000 ≤ o ∧ o < 0x100000 ∧ o % 0x10000 ≠ 0x10) → o ≠ AXL_PRD a ∧ o ≠ AXL_PRDSCH a ∧ o ≠ AXL_CNT a ∧
      o ≠ AXL_CARNUM a → (startAxle a s).rd o = b.rd o := by
    rintro o ⟨h1, h2, h3⟩ ⟨h4, h5, h6, h7⟩
    rw [hafter.rd _ (low_of_lt h2) id (by simp only [SYS_CLK]; omega) (reportRegister_axle h1 h2 h3), rd_wr_of_ne _ _ h7,
      beginCarrier_rd _ _ (eventRegister_of_reportRegister (reportRegister_axle h1 h2 h3)), setCount]
    exact rd_wr_of_ne _ _ h6
  refine ⟨?_, fun o ho hne => ?_⟩
  · refine (congrArg AXL_STAT_RUNNING.bit (hrd _ (by simp only [AXL_STAT]; omega) ?_)).trans hrun
    simp only [AXL_STAT, AXL_PRD, AXL_PRDSCH, AXL_CNT, AXL_CARNUM]
    omega
  · obtain ⟨h1, h2, h3, h4, h5⟩ := hne
    obtain ⟨hl, hh, hc⟩ := ho
    exact (hrd o ⟨hl, hh, hc⟩ ⟨h1, h2, h3, h4⟩).trans (hbegun o hh (reportRegister_axle hl hh hc) h5)

/-- What Dray service does to an Axle that it starts. -/
def drayStart (a : Nat) (t : State) : State :=
  let t := t.setFlag (AXL_CTRL a) AXL_CTRL_RUN true
  startAxle a (t.updAx a (fun x => { x with onDray := true, drayStarted := true, startFrom := t.now }))

/-- The Axle runs. -/
def Started (a : Nat) (t : State) : Prop := t.running a = true ∧ t.flag (AXL_CTRL a) AXL_CTRL_RUN = true

theorem Started.congr {a : Nat} {t u : State} (h : Started a t) (h1 : u.rd (AXL_STAT a) = t.rd (AXL_STAT a))
    (h2 : u.rd (AXL_CTRL a) = t.rd (AXL_CTRL a)) : Started a u :=
  ⟨(congrArg AXL_STAT_RUNNING.bit h1).trans h.1, (congrArg AXL_CTRL_RUN.bit h2).trans h.2⟩

theorem drayStart_started {a : Nat} (ha : a < 4) (t : State) : Started a (drayStart a t) := by
  unfold drayStart
  extract_lets u
  obtain ⟨h1, h2⟩ := startAxle_leaves (s := u.updAx a (fun x => { x with onDray := true, drayStarted := true, startFrom := u.now })) ha
  refine ⟨h1, (congrArg AXL_CTRL_RUN.bit (h2 _ (by simp only [AXL_CTRL]; omega) ?_)).trans
    (flag_setFlag_self t (AXL_CTRL a) AXL_CTRL_RUN true (by decide) (by decide))⟩
  simp only [AXL_CTRL, AXL_PRD, AXL_PRDSCH, AXL_CNT, AXL_CARNUM, AXL_STAT]
  omega

theorem Started.drayStart {a b : Nat} {t : State} (h : Started a t) (ha : a < 4) (hb : b < 4) (hne : b ≠ a) :
    Started a (drayStart b t) := by
  have hrd : ∀ o, (0x80000 + 0x10000 * a ≤ o ∧ o < 0x90000 + 0x10000 * a ∧ o % 0x10000 ≠ 0x10) →
      (Proofs.drayStart b t).rd o = t.rd o := fun o ho => by
    unfold Proofs.drayStart
    extract_lets u
    refine ((startAxle_leaves hb).2 o (by omega) ?_).trans (rd_wr_of_ne _ _ (by simp only [AXL_CTRL]; omega))
    simp only [AXL_PRD, AXL_PRDSCH, AXL_CNT, AXL_CARNUM, AXL_STAT]
    omega
  exact h.congr (hrd _ (by simp only [AXL_STAT]; omega)) (hrd _ (by simp only [AXL_CTRL]; omega))

theorem drayServiceAvailable_leaves (hs : s.awake = true) (hd : s.bringup.drayAvail = false) :
    ∃ t, exec .drayServiceAvailable s = .next t ∧ t.bringup.drayAvail = true ∧
      ∀ a, a < 4 → s.drayStarts a = true → t.running a = true ∧ t.flag (AXL_CTRL a) AXL_CTRL_RUN = true := by
  let u : State := { s with bringup := { s.bringup with drayAvail := true } }
  let v := each ((List.range 4).filter u.drayStarts) drayStart u
  have heq : exec .drayServiceAvailable s = .next (syncStretches (settleSafe v)) := if_pos (by rw [hs, hd]; rfl)
  have hv : EngineStep u v := EngineStep.refl.each fun _ _ h => h.setFlag.updAx.startAxle
  refine ⟨_, heq, ?_, fun a ha hstart => ?_⟩
  · rw [syncStretches_bringup, hv.settleSafe.bringup]
  · have hin : a ∈ (List.range 4).filter u.drayStarts := List.mem_filter.mpr ⟨List.mem_range.mpr ha, hstart⟩
    have hat : Started a v := each_at (P := fun _ => True) (List.nodup_range.filter _) hin (fun _ _ _ _ _ => trivial)
      (fun t _ => drayStart_started ha t)
      (fun b hb hne t ht => ht.drayStart ha (List.mem_range.mp (List.mem_of_mem_filter hb)) hne) trivial
    have hlow : LowStep v (settleSafe v) := LowStep.refl.settleSafe
    refine Started.congr (t := v) hat ?_ ?_
    · rw [syncStretches_rd, hlow.rd _ (low_of_lt (by simp only [AXL_STAT]; omega)) (reportRegister_axle (by simp only [AXL_STAT]; omega)
        (by simp only [AXL_STAT]; omega) (by simp only [AXL_STAT]; omega))]
    · rw [syncStretches_rd, hlow.rd _ (low_of_lt (by simp only [AXL_CTRL]; omega)) (reportRegister_axle (by simp only [AXL_CTRL]; omega)
        (by simp only [AXL_CTRL]; omega) (by simp only [AXL_CTRL]; omega))]

/-! ### The release of the Troika (R290) -/

theorem troikaRelease_leaves (h : s.releasable288 = true) : ∃ t, exec .troikaRelease s = .next t ∧ t.troika.released = true ∧
    t.full = true ∧ (t.core .troika).pc = s.bringup.entry &&& 0xFFFFFFFC ∧ (∀ r, (t.core .troika).gr r = 0) ∧
      ∀ n, (t.core .troika).cx n = 0 := by
  let u := (s.updTrk (fun t => { t with released := true, vbaseWritten := false, core := { pc := s.bringup.entry &&& 0xFFFFFFFC } })).setFlag
    SYS_STATE SYS_STATE_SERVICE true
  let v := each ((List.range 4).filter (fun a => !u.running a)) (fun a t => t.updAx a (fun x => { x with onDray := false })) u
  have heq : exec .troikaRelease s = .next (syncStretches (settleSafe (drayFlag v))) := if_pos h
  have hv : v.troika = u.troika ∧ v.regs = u.regs :=
    List.foldlRecOn _ _ (motive := fun t : State => t.troika = u.troika ∧ t.regs = u.regs) ⟨rfl, rfl⟩ fun t ht a _ => ht
  have hdray : (drayFlag v).troika = v.troika ∧ (drayFlag v).rd SYS_STATE = v.rd SYS_STATE := by
    unfold drayFlag
    split
    · exact ⟨rfl, rd_wr_of_ne _ _ (by decide)⟩
    · exact ⟨rfl, rfl⟩
  have hlow : LowStep (drayFlag v) (settleSafe (drayFlag v)) := LowStep.refl.settleSafe
  have htroika : (syncStretches (settleSafe (drayFlag v))).troika = u.troika := by
    rw [syncStretches_troika, hlow.only.troika, hdray.1, hv.1]
  refine ⟨_, heq, ?_, ?_, ?_, fun r => ?_, fun n => ?_⟩
  · rw [htroika]
    rfl
  · have hflag : (drayFlag v).full = true := by
      refine (congrArg SYS_STATE_SERVICE.bit hdray.2).trans ?_
      rw [State.rd, hv.2]
      exact flag_setFlag_self _ SYS_STATE SYS_STATE_SERVICE true (by decide) (by decide)
    rw [State.full, syncStretches_flag, hlow.flag _ (low_of_lt (by decide)) (by decide)]
    exact hflag
  · rw [State.core, htroika]
    rfl
  · rw [State.core, htroika]
    exact ite_self _
  · rw [State.core, htroika]
    unfold CoreState.cx
    split
    · exact (by decide : BitVec.extractLsb' 0 32 (0 : BitVec 64) = 0)
    · split
      · exact (by decide : BitVec.extractLsb' 32 32 (0 : BitVec 64) = 0)
      · rfl

end

/-- Settles O32, by the state that each command of the bring-up leaves. -/
theorem bringUp : Obligations.BringUp := fun s =>
  ⟨resetRelease_leaves s, fun m hm hne hs => memoryClearDone_leaves hm (by rw [if_neg hne]; exact hs), lanternClear_leaves,
    drayServiceAvailable_leaves, coreTest_clauses, memoryTestDone_leaves, bootCheckDone_leaves, troikaRelease_leaves⟩

end Sys2Proof.Proofs
end

section
/-! Fields of a register after other fields were written; words of an accepted write; words queued for programming. -/

namespace Sys2Proof.Proofs

open Sys2Proof Sys2Proof.Machine Sys2Proof.Safety Sys2Proof.Laws

section
variable {s : State} {o o' n : Nat} {f g : Fld} {b : Bool}

/-! ### Fields -/

theorem fld_setFld_apart (h : f.lo + f.len ≤ g.lo ∨ g.lo + g.len ≤ f.lo) : (s.setFld o f n).fld o g = s.fld o g :=
  (congrArg g.get (rd_wr_self ..)).trans (get_put_apart f g _ _ h)

theorem fld_setFlag_apart (h : f.lo + f.len ≤ g.lo ∨ g.lo + g.len ≤ f.lo) : (s.setFlag o f b).fld o g = s.fld o g :=
  fld_setFld_apart h

theorem flag_setFld_apart (h : f.lo + f.len ≤ g.lo ∨ g.lo < f.lo) : (s.setFld o f n).flag o g = s.flag o g :=
  (congrArg g.bit (rd_wr_self ..)).trans (bit_put_apart (by omega) _ _)

theorem flag_setFlag_apart (h : f.lo + f.len ≤ g.lo ∨ g.lo < f.lo) : (s.setFlag o f b).flag o g = s.flag o g :=
  flag_setFld_apart h

theorem flag_sq_apart (h : f.lo + f.len ≤ g.lo ∨ g.lo < f.lo) (hg : g.lo < 24) : (s.sq o f).flag o g = s.flag o g :=
  flag_sq_other s o (by omega) hg

theorem fld_sq_apart (h : f.lo + f.len ≤ g.lo ∨ g.lo + g.len ≤ f.lo) (hg : g.lo + g.len ≤ 24) :
    (s.sq o f).fld o g = s.fld o g := fld_sq_other s o h hg

/-- The fields of another register. -/
theorem fld_wr_ne {w : Word} (h : o ≠ o') : (s.wr o' w).fld o g = s.fld o g := congrArg g.get (rd_wr_of_ne _ _ h)
theorem flag_wr_ne {w : Word} (h : o ≠ o') : (s.wr o' w).flag o g = s.flag o g := congrArg g.bit (rd_wr_of_ne _ _ h)
theorem fld_setFld_ne (h : o ≠ o') : (s.setFld o' f n).fld o g = s.fld o g := fld_wr_ne h
theorem flag_setFld_ne (h : o ≠ o') : (s.setFld o' f n).flag o g = s.flag o g := flag_wr_ne h
theorem fld_setFlag_ne (h : o ≠ o') : (s.setFlag o' f b).fld o g = s.fld o g := fld_wr_ne h
theorem flag_setFlag_ne (h : o ≠ o') : (s.setFlag o' f b).flag o g = s.flag o g := flag_wr_ne h
theorem fld_sq_ne (h : o ≠ o') : (s.sq o' f).fld o g = s.fld o g := fld_wr_ne h
theorem flag_sq_ne (h : o ≠ o') : (s.sq o' f).flag o g = s.flag o g := flag_wr_ne h

end

/-! ### The word of an accepted write -/

section
variable {o : Nat} {c : Card} {ix : List Nat} {v : View} {data : Word} {s : State} {f : Fld} {n : Nat}

theorem badWrite_of_accepted (ha : accepted v o data s = true) : s.badWrite o (s.rd o) (writtenWord v o data s) = false := by
  unfold accepted at ha
  split at ha
  · cases ha
  · simp only [Bool.and_eq_true, Bool.not_eq_true'] at ha
    exact ha.2

/-- A field of the card that software writes holds the data. -/
theorem written_get (h : isRegister o c ix = true) (ha : accepted v o data s = true)
    (hf : c.fields.any (fun x => decide (x.fld = f ∧ (x.ty = .rw ∨ x.ty = .rh ∨ x.ty = .rc))) = true) :
    f.get (writtenWord v o data s) = f.get data := by
  obtain ⟨x, hx, hxf⟩ := List.any_eq_true.mp hf
  obtain ⟨rfl, hty⟩ := of_decide_eq_true hxf
  refine writtenWord_data h ha hx ?_
  rcases hty with h | h | h <;> rw [h] <;> decide

theorem written_bit (h : isRegister o c ix = true) (ha : accepted v o data s = true) (hl : 0 < f.len)
    (hf : c.fields.any (fun x => decide (x.fld = f ∧ (x.ty = .rw ∨ x.ty = .rh ∨ x.ty = .rc))) = true) :
    f.bit (writtenWord v o data s) = f.bit data := bit_congr hl (written_get h ha hf)

/-- The flag that a command sets. -/
theorem written_flag (h : isRegister o c ix = true) (ha : accepted v o (withField s o f 1) s = true) (hl : f.len = 1 ∧ f.lo < 32)
    (hf : c.fields.any (fun x => decide (x.fld = f ∧ (x.ty = .rw ∨ x.ty = .rh ∨ x.ty = .rc))) = true) :
    f.bit (writtenWord v o (withField s o f 1) s) = true :=
  (written_bit h ha (by omega) hf).trans ((bit_put_self f _ 1 hl.2 (by omega)).trans rfl)

end

/-! ### The programming of the Waybill -/

/-- A word waits for its programming. -/
def Queued (a : Nat) (v : Word) (s : State) : Prop := ∃ p, p ∈ s.lan.prog ∧ p.addr = a ∧ p.value = v

section
variable {s : State} {a w : Nat} {v : Word}

theorem startProg_regs (s : State) : (startProg s).regs = s.regs := by
  unfold startProg
  split <;> rfl

theorem showProg_lan (s : State) : (showProg s).lan = s.lan := by
  unfold showProg
  split <;> rfl

theorem Queued.startProg (h : Queued a v s) : Queued a v (startProg s) := by
  obtain ⟨p, hp, ha, hv⟩ := h
  unfold Machine.startProg
  split
  · exact ⟨p, hp, ha, hv⟩
  · next q rest he =>
    rw [he] at hp
    rcases List.mem_cons.mp hp with rfl | hp
    · exact ⟨_, List.mem_cons_self, ha, hv⟩
    · exact ⟨p, List.mem_cons_of_mem _ hp, ha, hv⟩

theorem queued_queueProg {ps : List WbProg} (h : ∃ p, p ∈ s.lan.prog ++ ps ∧ p.addr = a ∧ p.value = v) :
    Queued a v (queueProg ps s) := by
  unfold queueProg
  extract_lets idle u
  have hu : Queued a v u := h
  have hon : Queued a v (onlyIf idle startProg u) := by
    unfold onlyIf
    split
    · exact hu.startProg
    · exact hu
  unfold Queued at hon ⊢
  rwa [showProg_lan]

theorem Queued.queueProg {ps : List WbProg} (h : Queued a v s) : Queued a v (queueProg ps s) := by
  obtain ⟨p, hp, ha, hv⟩ := h
  exact queued_queueProg ⟨p, List.mem_append_left _ hp, ha, hv⟩

theorem countWear_prog (w : Nat) (s : State) : (countWear w s).lan.prog = s.lan.prog :=
  ((wearMark_reports ..).trans (wearMark_reports ..)).prog

theorem Queued.wbAccept {x : Word} (h : Queued a v s) : Queued a v (wbAccept w x s) := by
  unfold Machine.wbAccept
  extract_lets s1 s2
  have h1 : Queued a v s1 := by
    unfold Queued
    rw [countWear_prog]
    exact h
  have h2 : Queued a v s2 := by
    simp only [s2]
    split
    · exact Queued.queueProg (s := s1.updLan _) h1
    · exact h1
  exact h2.queueProg

theorem queued_wbAccept : Queued (0x1000 + w) v (wbAccept w v s) := by
  unfold Machine.wbAccept
  extract_lets s1 s2
  exact queued_queueProg ⟨_, List.mem_append_right _ List.mem_cons_self, rfl, rfl⟩

/-- The registers that the programming of a word leaves alone. -/
structure OffLix (P : Nat → Prop) : Prop where
  stat : ¬P LIX_STAT
  event : ∀ o, P o → eventRegister o = false

variable {P : Nat → Prop} {s₀ : State}

theorem Untouched.queueProg {ps : List WbProg} (h : Untouched P s₀ s) (hP : OffLix P) : Untouched P s₀ (queueProg ps s) := by
  unfold Machine.queueProg
  extract_lets idle u
  have h1 : Untouched P s₀ (onlyIf idle startProg u) := by
    unfold onlyIf
    split
    · exact h.upd (startProg_regs u)
    · exact h.upd
  exact .ite h1 (h1.setFlag hP.stat)

theorem Untouched.appendLog {kind k : Nat} {old new : Word} (h : Untouched P s₀ s) (hP : OffLix P) :
    Untouched P s₀ (appendLog kind k old new s) := Untouched.queueProg (h.trans fun _ _ => rfl) hP

theorem Untouched.wbAccept {x : Word} (h : Untouched P s₀ s) (hP : OffLix P) : Untouched P s₀ (wbAccept w x s) := by
  unfold Machine.wbAccept
  extract_lets s1 s2
  have h0 : Untouched P s₀ (s.setLanW (0x1400 + w) (word (min ((s.lanW (0x1400 + w)).toNat + (if s.hotWear then 5 else 1)) 0xFFFFFF))) :=
    h.trans fun _ _ => rfl
  have h1 : Untouched P s₀ s1 := h0.reports ((wearMark_reports ..).trans (wearMark_reports ..)) hP.event
  exact (Untouched.ite (h1.appendLog hP) h1).queueProg hP

end

end Sys2Proof.Proofs
end

section
/-! The seal (R221 to R224). -/

namespace Sys2Proof.Proofs

open Sys2Proof Sys2Proof.Machine Sys2Proof.Safety Sys2Proof.Laws

/-- The status, the control and the password registers of the seal. -/
def SealRegister (o : Nat) : Prop := o = SAFE_SEALSTAT ∨ o = SAFE_SEALCTL ∨ o = SAFE_SEALPW 0 ∨ o = SAFE_SEALPW 1

theorem sealRegister_cases {p : Nat → Prop} (h1 : p SAFE_SEALSTAT) (h2 : p SAFE_SEALCTL) (h3 : p (SAFE_SEALPW 0))
    (h4 : p (SAFE_SEALPW 1)) : ∀ o, SealRegister o → p o := by
  rintro o (rfl | rfl | rfl | rfl)
  · exact h1
  · exact h2
  · exact h3
  · exact h4

theorem sealRegister_offGate : OffGate SealRegister :=
  offGate_above (sealRegister_cases (by decide) (by decide) (by decide) (by decide))

theorem sealRegister_offLix : OffLix SealRegister :=
  ⟨by simp only [SealRegister]; decide, sealRegister_offGate.event⟩

theorem sealRegister_offSdf : OffSdf SealRegister := sealRegister_cases (by decide) (by decide) (by decide) (by decide)

theorem sealRegister_brake : ∀ o, SealRegister o → ¬brakeRegister o ∧ eventRegister o = false :=
  sealRegister_cases (by decide) (by decide) (by decide) (by decide)

section
variable {s : State}

theorem clearPw_zero (s : State) : (clearPw s).rd (SAFE_SEALPW 0) = 0 ∧ (clearPw s).rd (SAFE_SEALPW 1) = 0 :=
  ⟨(rd_wr_of_ne _ _ (by decide)).trans (rd_wr_self ..), rd_wr_self ..⟩

theorem clearPw_rd {o : Nat} (h : o = SAFE_SEALSTAT ∨ o = SAFE_SEALCTL) : (clearPw s).rd o = s.rd o := by
  rcases h with rfl | rfl <;> exact (rd_wr_of_ne _ _ (by decide)).trans (rd_wr_of_ne _ _ (by decide))

/-! ### The end of the hash (R221) -/

/-- What an attempt leaves in SAFE_SEALSTAT. -/
def unlockShown (s : State) : Option Nat → State
  | some k => ((s.setFlag SAFE_SEALSTAT SAFE_SEALSTAT_UNLOCKED true).setFld SAFE_SEALSTAT SAFE_SEALSTAT_SLOT k).setFld
      SAFE_SEALSTAT SAFE_SEALSTAT_ATT 0
  | none =>
    if (List.range 4).all s.slotEmpty then
      (s.setFlag SAFE_SEALSTAT SAFE_SEALSTAT_UNLOCKED true).setFld SAFE_SEALSTAT SAFE_SEALSTAT_SLOT 0xF
    else
      let att := s.fld SAFE_SEALSTAT SAFE_SEALSTAT_ATT
      let s := (s.setFld SAFE_SEALSTAT SAFE_SEALSTAT_ATT (min 3 (att + 1))).sq SAFE_SEALSTAT SAFE_SEALSTAT_DENY
      if att < 2 then s else s.setFlag SAFE_SEALSTAT SAFE_SEALSTAT_LOCKOUT true

/-- The first slot whose words are the hash. -/
def slotFound (s : State) : Option Nat := (List.range 4).find? (fun k => !s.slotEmpty k && s.slotWords k = s.pwHash)

theorem unlockOutcome_shown (s : State) : Untouched SealRegister (unlockShown s (slotFound s)) (unlockOutcome s) := by
  have hev := sealRegister_offGate.event
  unfold unlockOutcome
  extract_lets st h
  change Untouched _ _ (match slotFound s with | some k => _ | none => _)
  cases slotFound s with
  | some k => exact Untouched.appendLog (.raise .refl hev) sealRegister_offLix
  | none =>
    unfold unlockShown
    dsimp only
    split
    · exact Untouched.appendLog .refl sealRegister_offLix
    · split
      · exact Untouched.appendLog (.raise .refl hev) sealRegister_offLix
      · exact Untouched.appendLog (.raise .refl hev) sealRegister_offLix

/-- The state in which the attempt is decided. -/
def hashDone (s : State) : State := s.setFlag SAFE_SEALSTAT SAFE_SEALSTAT_BUSY false

theorem hashDone_slots (s : State) : (hashDone s).slotEmpty = s.slotEmpty ∧ (hashDone s).slotWords = s.slotWords ∧
    (hashDone s).pwHash = s.pwHash := by
  refine ⟨rfl, rfl, ?_⟩
  unfold State.pwHash
  rw [show (hashDone s).rd (SAFE_SEALPW 0) = s.rd (SAFE_SEALPW 0) from rd_wr_of_ne _ _ (by decide),
    show (hashDone s).rd (SAFE_SEALPW 1) = s.rd (SAFE_SEALPW 1) from rd_wr_of_ne _ _ (by decide)]
  rfl

theorem slotFound_hashDone (s : State) : slotFound (hashDone s) =
    (List.range 4).find? (fun k => !s.slotEmpty k && s.slotWords k = s.pwHash) := by
  obtain ⟨h1, h2, h3⟩ := hashDone_slots s
  unfold slotFound
  rw [h1, h2, h3]

theorem slotFound_some {k : Nat} (hk : k < 4) (he : s.slotEmpty k = false) (hw : s.slotWords k = s.pwHash)
    (hj : ∀ j, j < k → s.slotEmpty j = true ∨ s.slotWords j ≠ s.pwHash) : slotFound (hashDone s) = some k := by
  rw [slotFound_hashDone, List.find?_range_eq_some]
  refine ⟨by simp [he, hw], List.mem_range.mpr hk, fun j hjk => ?_⟩
  rcases hj j hjk with h | h <;> simp [h]

theorem slotFound_none (h : ∀ k, k < 4 → s.slotEmpty k = true ∨ s.slotWords k ≠ s.pwHash) : slotFound (hashDone s) = none := by
  rw [slotFound_hashDone, List.find?_eq_none]
  intro k hk
  rcases h k (List.mem_range.mp hk) with h | h <;> simp [h]

theorem unlockHashDone_leaves (hb : s.flag SAFE_SEALSTAT SAFE_SEALSTAT_BUSY = true) : ∃ t, exec .unlockHashDone s = .next t ∧
    t.flag SAFE_SEALSTAT SAFE_SEALSTAT_BUSY = false ∧ t.rd (SAFE_SEALPW 0) = 0 ∧ t.rd (SAFE_SEALPW 1) = 0 ∧
    (∀ k, k < 4 → s.slotEmpty k = false → s.slotWords k = s.pwHash →
      (∀ j, j < k → s.slotEmpty j = true ∨ s.slotWords j ≠ s.pwHash) →
      t.flag SAFE_SEALSTAT SAFE_SEALSTAT_UNLOCKED = true ∧ t.fld SAFE_SEALSTAT SAFE_SEALSTAT_SLOT = k ∧
      t.fld SAFE_SEALSTAT SAFE_SEALSTAT_ATT = 0) ∧
    ((∀ k, k < 4 → s.slotEmpty k = true) → t.flag SAFE_SEALSTAT SAFE_SEALSTAT_UNLOCKED = true ∧
      t.fld SAFE_SEALSTAT SAFE_SEALSTAT_SLOT = 15) ∧
    ((∃ k, k < 4 ∧ s.slotEmpty k = false) → (∀ k, k < 4 → s.slotEmpty k = true ∨ s.slotWords k ≠ s.pwHash) →
      t.flag SAFE_SEALSTAT SAFE_SEALSTAT_UNLOCKED = s.flag SAFE_SEALSTAT SAFE_SEALSTAT_UNLOCKED ∧
      t.fld SAFE_SEALSTAT SAFE_SEALSTAT_ATT = min 3 (s.fld SAFE_SEALSTAT SAFE_SEALSTAT_ATT + 1) ∧
      t.flag SAFE_SEALSTAT SAFE_SEALSTAT_DENY = true ∧
      (2 ≤ s.fld SAFE_SEALSTAT SAFE_SEALSTAT_ATT → t.flag SAFE_SEALSTAT SAFE_SEALSTAT_LOCKOUT = true)) := by
  obtain ⟨hz0, hz1⟩ := clearPw_zero (unlockOutcome (hashDone s))
  have hshown : ∀ {found}, slotFound (hashDone s) = found → (clearPw (unlockOutcome (hashDone s))).rd SAFE_SEALSTAT =
      (unlockShown (hashDone s) found).rd SAFE_SEALSTAT := fun {found} hf => by
    rw [clearPw_rd (.inl rfl), unlockOutcome_shown _ _ (.inl rfl), hf]
  have hempty : (hashDone s).slotEmpty = s.slotEmpty := (hashDone_slots s).1
  refine ⟨_, if_pos hb, ?_, hz0, hz1, fun k hk he hw hj => ?_, fun he => ?_, fun he hmiss => ?_⟩
  · have hbusy : ∀ found, (unlockShown (hashDone s) found).flag SAFE_SEALSTAT SAFE_SEALSTAT_BUSY = false := by
      have h0 : (hashDone s).flag SAFE_SEALSTAT SAFE_SEALSTAT_BUSY = false := flag_setFlag_self _ _ _ _ (by decide) (by decide)
      rintro (_ | k)
      · unfold unlockShown
        dsimp only
        split
        · simp (disch := decide) only [flag_setFld_apart, flag_setFlag_apart, h0]
        · split <;> simp (disch := decide) only [flag_setFld_apart, flag_setFlag_apart, flag_sq_apart, h0]
      · exact (flag_setFld_apart (by decide)).trans ((flag_setFld_apart (by decide)).trans ((flag_setFlag_apart (by decide)).trans h0))
    exact (congrArg SAFE_SEALSTAT_BUSY.bit (hshown rfl)).trans (hbusy _)
  · have h := hshown (slotFound_some hk he hw hj)
    refine ⟨(congrArg SAFE_SEALSTAT_UNLOCKED.bit h).trans ?_, (congrArg SAFE_SEALSTAT_SLOT.get h).trans ?_,
      (congrArg SAFE_SEALSTAT_ATT.get h).trans ?_⟩
    · exact (flag_setFld_apart (by decide)).trans ((flag_setFld_apart (by decide)).trans
        (flag_setFlag_self _ _ _ _ (by decide) (by decide)))
    · exact (fld_setFld_apart (by decide)).trans ((fld_setFld_self _ _ _ _ (by decide)).trans (Nat.mod_eq_of_lt (by
        simp only [SAFE_SEALSTAT_SLOT]
        omega)))
    · exact fld_setFld_self _ _ _ _ (by decide)
  · have h := hshown (slotFound_none fun k hk => .inl (he k hk))
    have hall : (List.range 4).all (hashDone s).slotEmpty = true := by
      rw [hempty]
      exact List.all_eq_true.mpr fun k hk => he k (List.mem_range.mp hk)
    rw [unlockShown, if_pos hall] at h
    refine ⟨(congrArg SAFE_SEALSTAT_UNLOCKED.bit h).trans ?_, (congrArg SAFE_SEALSTAT_SLOT.get h).trans ?_⟩
    · exact (flag_setFld_apart (by decide)).trans (flag_setFlag_self _ _ _ _ (by decide) (by decide))
    · exact fld_setFld_self _ _ _ _ (by decide)
  · have h := hshown (slotFound_none hmiss)
    have hall : ¬(List.range 4).all (hashDone s).slotEmpty = true := by
      obtain ⟨k, hk, hke⟩ := he
      rw [hempty]
      intro hall
      rw [List.all_eq_true.mp hall k (List.mem_range.mpr hk)] at hke
      cases hke
    rw [unlockShown, if_neg hall] at h
    have hatt : (hashDone s).fld SAFE_SEALSTAT SAFE_SEALSTAT_ATT = s.fld SAFE_SEALSTAT SAFE_SEALSTAT_ATT :=
      fld_setFlag_apart (by decide)
    have hunl : (hashDone s).flag SAFE_SEALSTAT SAFE_SEALSTAT_UNLOCKED = s.flag SAFE_SEALSTAT SAFE_SEALSTAT_UNLOCKED :=
      flag_setFlag_apart (by decide)
    let u := hashDone s
    let w := (u.setFld SAFE_SEALSTAT SAFE_SEALSTAT_ATT (min 3 (u.fld SAFE_SEALSTAT SAFE_SEALSTAT_ATT + 1))).sq SAFE_SEALSTAT
      SAFE_SEALSTAT_DENY
    have hw1 : w.flag SAFE_SEALSTAT SAFE_SEALSTAT_UNLOCKED = s.flag SAFE_SEALSTAT SAFE_SEALSTAT_UNLOCKED :=
      (flag_sq_apart (by decide) (by decide)).trans ((flag_setFld_apart (by decide)).trans hunl)
    have hw2 : w.fld SAFE_SEALSTAT SAFE_SEALSTAT_ATT = min 3 (s.fld SAFE_SEALSTAT SAFE_SEALSTAT_ATT + 1) :=
      (fld_sq_apart (by decide) (by decide)).trans ((fld_setFld_self _ _ _ _ (by decide)).trans (by
        rw [hatt]
        exact Nat.mod_eq_of_lt (by simp only [SAFE_SEALSTAT_ATT]; omega)))
    have hw3 : w.flag SAFE_SEALSTAT SAFE_SEALSTAT_DENY = true := flag_sq_self _ _ _ (by decide) (by decide)
    have hx : ∀ x, (x = w ∨ x = w.setFlag SAFE_SEALSTAT SAFE_SEALSTAT_LOCKOUT true) →
        x.flag SAFE_SEALSTAT SAFE_SEALSTAT_UNLOCKED = s.flag SAFE_SEALSTAT SAFE_SEALSTAT_UNLOCKED ∧
        x.fld SAFE_SEALSTAT SAFE_SEALSTAT_ATT = min 3 (s.fld SAFE_SEALSTAT SAFE_SEALSTAT_ATT + 1) ∧
        x.flag SAFE_SEALSTAT SAFE_SEALSTAT_DENY = true := by
      rintro x (rfl | rfl)
      · exact ⟨hw1, hw2, hw3⟩
      · exact ⟨(flag_setFlag_apart (by decide)).trans hw1, (fld_setFlag_apart (by decide)).trans hw2,
          (flag_setFlag_apart (by decide)).trans hw3⟩
    have hrd : (clearPw (unlockOutcome u)).rd SAFE_SEALSTAT =
        (if u.fld SAFE_SEALSTAT SAFE_SEALSTAT_ATT < 2 then w else w.setFlag SAFE_SEALSTAT SAFE_SEALSTAT_LOCKOUT true).rd SAFE_SEALSTAT := h
    obtain ⟨h1, h2, h3⟩ := hx (if u.fld SAFE_SEALSTAT SAFE_SEALSTAT_ATT < 2 then w else w.setFlag SAFE_SEALSTAT SAFE_SEALSTAT_LOCKOUT true)
      (by split <;> simp)
    refine ⟨(congrArg SAFE_SEALSTAT_UNLOCKED.bit hrd).trans h1, (congrArg SAFE_SEALSTAT_ATT.get hrd).trans h2,
      (congrArg SAFE_SEALSTAT_DENY.bit hrd).trans h3, fun h2att => (congrArg SAFE_SEALSTAT_LOCKOUT.bit hrd).trans ?_⟩
    rw [if_neg (show ¬u.fld SAFE_SEALSTAT SAFE_SEALSTAT_ATT < 2 by rw [hatt]; omega)]
    exact flag_setFlag_self _ _ _ _ (by decide) (by decide)

/-! ### The requests of SAFE_SEALCTL (R221 to R223) -/

def cardSealctl : Card := ⟨0x180208, [], true, 0, [⟨SAFE_SEALCTL_SLOT, .rw, false, false, .none⟩,
  ⟨SAFE_SEALCTL_SETPW, .rh, false, false, .none⟩, ⟨SAFE_SEALCTL_LOCK, .rh, false, false, .none⟩,
  ⟨SAFE_SEALCTL_UNLOCK, .rh, false, false, .none⟩]⟩

theorem register_sealctl : plainRegister SAFE_SEALCTL cardSealctl [] = true := by decide +kernel

/-- The state in which a request is carried out, its word taken. -/
def sealTaken (w : Word) (s : State) : State := (s.wr SAFE_SEALCTL w).wr SAFE_SEALCTL (w &&& SAFE_SEALCTL_SLOT.mask)

theorem sealWritten_eq (w : Word) (s : State) : sealWritten (s.wr SAFE_SEALCTL w) =
    if SAFE_SEALCTL_UNLOCK.bit w then unlockStart (sealTaken w s)
    else if SAFE_SEALCTL_LOCK.bit w then sealLock (sealTaken w s)
    else if SAFE_SEALCTL_SETPW.bit w then sealSetpw (SAFE_SEALCTL_SLOT.get w) (sealTaken w s)
    else sealTaken w s := by
  unfold sealWritten
  rw [rd_wr_self]
  rfl

/-- No two requests go together (R221, R223). -/
theorem sealBad_one {w : Word} (h : s.sealBad w = false) : (SAFE_SEALCTL_UNLOCK.bit w = false ∨ SAFE_SEALCTL_LOCK.bit w = false) ∧
    (SAFE_SEALCTL_UNLOCK.bit w = false ∨ SAFE_SEALCTL_SETPW.bit w = false) := by
  simp only [State.sealBad, Bool.or_eq_false_iff, Bool.and_eq_false_iff] at h
  obtain ⟨⟨⟨⟨h1, h2⟩, -⟩, -⟩, -⟩ := h
  exact ⟨h1, h2⟩

theorem sealTaken_rd {o : Nat} (w : Word) (h : o ≠ SAFE_SEALCTL) : (sealTaken w s).rd o = s.rd o :=
  (rd_wr_of_ne _ _ h).trans (rd_wr_of_ne _ _ h)

theorem unlock_leaves (ha : accepted .coachman SAFE_SEALCTL (withField s SAFE_SEALCTL SAFE_SEALCTL_UNLOCK 1) s = true) :
    ∃ t, exec (.unlock .coachman) s = .next t ∧ t.flag SAFE_SEALSTAT SAFE_SEALSTAT_BUSY = true ∧
      t.flag SAFE_SEALCTL SAFE_SEALCTL_UNLOCK = false := by
  have hu := written_flag (plainRegister_register register_sealctl) ha (by decide) (by decide)
  refine ⟨_, fieldCmd_written register_sealctl ha, ?_, ?_⟩
  all_goals
    rw [syncStretches_flag, show fieldWritten .coachman SAFE_SEALCTL [] SAFE_SEALCTL_UNLOCK 1 s = unlockStart (sealTaken _ s) from
      (sealWritten_eq _ s).trans (if_pos hu)]
  · exact flag_setFlag_self _ _ _ _ (by decide) (by decide)
  · refine (flag_setFlag_ne (by decide)).trans ((congrArg SAFE_SEALCTL_UNLOCK.bit (rd_wr_self ..)).trans ?_)
    rw [Fld.bit, BitVec.getLsbD_and]
    simp [SAFE_SEALCTL_UNLOCK, SAFE_SEALCTL_SLOT, Fld.mask, word]

theorem sealLock_leaves (s : State) : (sealLock s).flag SAFE_SEALSTAT SAFE_SEALSTAT_UNLOCKED = false ∧
    (sealLock s).fld SAFE_SEALSTAT SAFE_SEALSTAT_SLOT = 15 ∧ (sealLock s).rd (SAFE_SEALPW 0) = 0 ∧
    (sealLock s).rd (SAFE_SEALPW 1) = 0 := by
  unfold sealLock
  extract_lets u ok v
  have hload : (loadSealed (s.setFlag SAFE_SEALSTAT SAFE_SEALSTAT_UNLOCKED false)).flag SAFE_SEALSTAT SAFE_SEALSTAT_UNLOCKED = false := by
    have h0 : (s.setFlag SAFE_SEALSTAT SAFE_SEALSTAT_UNLOCKED false).flag SAFE_SEALSTAT SAFE_SEALSTAT_UNLOCKED = false :=
      flag_setFlag_self _ _ _ _ (by decide) (by decide)
    generalize s.setFlag SAFE_SEALSTAT SAFE_SEALSTAT_UNLOCKED false = x at h0
    unfold loadSealed
    split
    · have hm := loadMonitors_apart (s := x) sealRegister_offSdf
        (fun a ha => by simp only [SealRegister, SAFE_TMSTAT, SAFE_SEALSTAT, SAFE_SEALCTL, SAFE_SEALPW]; omega)
      exact (flag_setFlag_apart (by decide)).trans ((hm.flag (.inl rfl) _).trans h0)
    · exact ((raise_reports _ _).flag _ (by decide)).trans ((flag_sq_apart (by decide) (by decide)).trans
        ((flag_setFlag_apart (by decide)).trans h0))
  have hu : Untouched SealRegister (loadSealed (s.setFlag SAFE_SEALSTAT SAFE_SEALSTAT_UNLOCKED false)) v :=
    (Untouched.refl.gate (GateStep.refl (L := false)).settleSafe sealRegister_offGate.gate).appendLog sealRegister_offLix
  have hend := (Untouched.refl (P := SealRegister) (s := clearPw (v.setFld SAFE_SEALSTAT SAFE_SEALSTAT_SLOT 0xF))).brake
    (brakeStep_settleBrake _) sealRegister_brake
  have hstat : (settleBrake (clearPw (v.setFld SAFE_SEALSTAT SAFE_SEALSTAT_SLOT 0xF))).rd SAFE_SEALSTAT =
      (v.setFld SAFE_SEALSTAT SAFE_SEALSTAT_SLOT 0xF).rd SAFE_SEALSTAT := (hend _ (.inl rfl)).trans (clearPw_rd (.inl rfl))
  obtain ⟨hz0, hz1⟩ := clearPw_zero (v.setFld SAFE_SEALSTAT SAFE_SEALSTAT_SLOT 0xF)
  refine ⟨(congrArg SAFE_SEALSTAT_UNLOCKED.bit hstat).trans ?_, (congrArg SAFE_SEALSTAT_SLOT.get hstat).trans ?_,
    (hend _ (.inr (.inr (.inl rfl)))).trans hz0, (hend _ (.inr (.inr (.inr rfl)))).trans hz1⟩
  · exact (flag_setFld_apart (by decide)).trans ((hu.flag (.inl rfl) _).trans hload)
  · exact fld_setFld_self _ _ _ _ (by decide)

theorem lock_leaves (ha : accepted .coachman SAFE_SEALCTL (withField s SAFE_SEALCTL SAFE_SEALCTL_LOCK 1) s = true) :
    ∃ t, exec (.lock .coachman) s = .next t ∧ t.flag SAFE_SEALSTAT SAFE_SEALSTAT_UNLOCKED = false ∧
      t.fld SAFE_SEALSTAT SAFE_SEALSTAT_SLOT = 15 ∧ t.rd (SAFE_SEALPW 0) = 0 ∧ t.rd (SAFE_SEALPW 1) = 0 := by
  have hl := written_flag (plainRegister_register register_sealctl) ha (by decide) (by decide)
  have hu : SAFE_SEALCTL_UNLOCK.bit (writtenWord .coachman SAFE_SEALCTL (withField s SAFE_SEALCTL SAFE_SEALCTL_LOCK 1) s) = false :=
    (sealBad_one (badWrite_of_accepted ha)).1.resolve_right (by rw [hl]; decide)
  have heq : fieldWritten .coachman SAFE_SEALCTL [] SAFE_SEALCTL_LOCK 1 s = sealLock (sealTaken _ s) :=
    (sealWritten_eq _ s).trans ((if_neg (by rw [hu]; decide)).trans (if_pos hl))
  refine ⟨_, fieldCmd_written register_sealctl ha, ?_⟩
  rw [syncStretches_flag, syncStretches_fld, syncStretches_rd, syncStretches_rd, heq]
  exact sealLock_leaves _

theorem setpw_leaves (slot : BitVec 2)
    (ha : accepted .coachman SAFE_SEALCTL (SAFE_SEALCTL_SETPW.put (SAFE_SEALCTL_SLOT.put 0 slot.toNat) 1) s = true) :
    ∃ t, exec (.setpw .coachman slot) s = .next t ∧ t.rd (SAFE_SEALPW 0) = 0 ∧ t.rd (SAFE_SEALPW 1) = 0 ∧
      ∀ j, j < 4 → ∃ p, p ∈ t.lan.prog ∧ p.addr = 0x11F0 + 4 * slot.toNat + j ∧ p.value = s.pwHash.getD j 0 := by
  have hreg := plainRegister_register register_sealctl
  let w := writtenWord .coachman SAFE_SEALCTL (SAFE_SEALCTL_SETPW.put (SAFE_SEALCTL_SLOT.put 0 slot.toNat) 1) s
  have hp : SAFE_SEALCTL_SETPW.bit w = true :=
    (written_bit hreg ha (by decide) (by decide)).trans ((bit_put_self _ _ 1 (by decide) (by decide)).trans rfl)
  have hz : ∀ f : Fld, f = SAFE_SEALCTL_UNLOCK ∨ f = SAFE_SEALCTL_LOCK → f.bit w = false := by
    have hput : ∀ f : Fld, f = SAFE_SEALCTL_UNLOCK ∨ f = SAFE_SEALCTL_LOCK →
        f.bit (SAFE_SEALCTL_SETPW.put (SAFE_SEALCTL_SLOT.put 0 slot.toNat) 1) = false := by
      rintro f (rfl | rfl)
      · exact (bit_put_apart (by decide) _ _).trans ((bit_put_apart (by decide) _ _).trans rfl)
      · exact (bit_put_apart (by decide) _ _).trans ((bit_put_apart (by decide) _ _).trans rfl)
    rintro f (rfl | rfl)
    · exact (written_bit hreg ha (by decide) (by decide)).trans (hput _ (.inl rfl))
    · exact (written_bit hreg ha (by decide) (by decide)).trans (hput _ (.inr rfl))
  have hslot : SAFE_SEALCTL_SLOT.get w = slot.toNat := by
    refine (written_get hreg ha (by decide)).trans ((get_put_apart _ _ _ _ (.inl (by decide))).trans ?_)
    exact (get_put_self SAFE_SEALCTL_SLOT 0 slot.toNat (by decide)).trans (Nat.mod_eq_of_lt slot.isLt)
  have heq : wordWritten .coachman SAFE_SEALCTL [] (SAFE_SEALCTL_SETPW.put (SAFE_SEALCTL_SLOT.put 0 slot.toNat) 1) s =
      sealSetpw slot.toNat (sealTaken w s) := by
    refine (sealWritten_eq _ s).trans ?_
    rw [if_neg (by rw [hz _ (.inl rfl)]; decide), if_neg (by rw [hz _ (.inr rfl)]; decide), if_pos hp, hslot]
  have hhash : (sealTaken w s).pwHash = s.pwHash := by
    unfold State.pwHash
    rw [sealTaken_rd w (by decide), sealTaken_rd w (by decide)]
    rfl
  refine ⟨_, wordCmd_written register_sealctl ha, ?_⟩
  rw [syncStretches_rd, syncStretches_rd, syncStretches_lan, heq, sealSetpw, hhash]
  obtain ⟨hz0, hz1⟩ := clearPw_zero (each (List.range 4) (fun j t => wbAccept (0x1F0 + 4 * slot.toNat + j) (s.pwHash.getD j 0) t)
    (sealTaken w s))
  refine ⟨hz0, hz1, fun j hj => ?_⟩
  have hq : Queued (0x1000 + (0x1F0 + 4 * slot.toNat + j)) (s.pwHash.getD j 0)
      (each (List.range 4) (fun j t => wbAccept (0x1F0 + 4 * slot.toNat + j) (s.pwHash.getD j 0) t) (sealTaken w s)) :=
    each_at (P := fun _ => True) List.nodup_range (List.mem_range.mpr hj) (fun _ _ _ _ _ => trivial) (fun _ _ => queued_wbAccept)
      (fun _ _ _ _ h => h.wbAccept) trivial
  obtain ⟨p, hp, ha, hv⟩ := hq
  exact ⟨p, hp, by omega, hv⟩

end

/-- Settles O44: the attempt by the slot that is found, the requests by the word that is written. -/
theorem sealOperations : Obligations.SealOperations := fun _ =>
  ⟨unlock_leaves, unlockHashDone_leaves, lock_leaves, setpw_leaves⟩

end Sys2Proof.Proofs
end

section
/-! Temperatures and the throttle level (R351 to R355). -/

namespace Sys2Proof.Proofs

open Sys2Proof Sys2Proof.Machine Sys2Proof.Safety Sys2Proof.Laws

section
variable {s t : State} {k : Nat}

/-! ### The sensors -/

/-- A sensor's register shows its conversion. -/
def SensorShown (k : Nat) (r : Option Int) (t : State) : Prop := match r with
  | some x => t.flag (THM_T k) THM_T_VALID = true ∧ t.flag (THM_T k) THM_T_FAULT = false ∧
      (-2048 ≤ x → x < 2048 → t.sfld (THM_T k) THM_T_TEMP = x)
  | none => t.flag (THM_T k) THM_T_FAULT = true ∧ t.fld (THM_T k) THM_T_RATE = 0

theorem SensorShown.congr {r : Option Int} (h : SensorShown k r s) (hr : t.rd (THM_T k) = s.rd (THM_T k)) : SensorShown k r t := by
  cases r with
  | some x =>
    obtain ⟨h1, h2, h3⟩ := h
    exact ⟨(congrArg _ hr).trans h1, (congrArg _ hr).trans h2, fun hlo hhi => (congrArg THM_T_TEMP.sget hr).trans (h3 hlo hhi)⟩
  | none =>
    obtain ⟨h1, h2⟩ := h
    exact ⟨(congrArg _ hr).trans h1, (congrArg _ hr).trans h2⟩

/-- A signed value that a field of 16 bits holds. -/
theorem sget_of_mod {f : Fld} {w : Word} {x : Int} (hl : f.len = 16) (hlo : -2048 ≤ x) (hhi : x < 2048)
    (h : f.get w = (x % 2 ^ f.len).toNat) : f.sget w = x := by
  unfold Fld.sget
  extract_lets n
  have hn : n = (x % 2 ^ 16).toNat := by rw [← hl]; exact h
  rw [hl, hn]
  split <;> omega

theorem convertSensor_shown (hk : k < 16) (r : Option Int) (s : State) : SensorShown k r (convertSensor k r s) := by
  have hne : THM_T k ≠ THM_STAT := by simp only [THM_T, THM_STAT]; omega
  cases r with
  | some x =>
    unfold convertSensor
    dsimp only
    refine ⟨?_, ?_, fun hlo hhi => ?_⟩
    · exact (flag_setFld_apart (by decide)).trans ((flag_setFld_apart (by decide)).trans ((flag_setFlag_apart (by decide)).trans
        (flag_setFlag_self _ _ _ _ (by decide) (by decide))))
    · exact (flag_setFld_apart (by decide)).trans ((flag_setFld_apart (by decide)).trans
        (flag_setFlag_self _ _ _ _ (by decide) (by decide)))
    · refine sget_of_mod rfl hlo hhi ?_
      refine (fld_setFld_apart (by decide)).trans ((fld_setFld_self _ _ _ _ (by decide)).trans ?_)
      exact Nat.mod_eq_of_lt (by simp only [THM_T_TEMP]; omega)
  | none =>
    unfold convertSensor
    extract_lets reg
    dsimp only
    split
    · exact ⟨(flag_setFld_apart (by decide)).trans (flag_setFlag_self _ _ _ _ (by decide) (by decide)),
        fld_setFld_self _ _ _ _ (by decide)⟩
    · exact SensorShown.congr (r := none) (k := k) ⟨(flag_setFld_apart (by decide)).trans (flag_setFlag_self _ _ _ _ (by decide) (by decide)),
        fld_setFld_self _ _ _ _ (by decide)⟩ (rd_wr_of_ne _ _ hne)

/-- The conversion of a sensor leaves the others' registers alone. -/
theorem convertSensor_rd {j o : Nat} (r : Option Int) (s : State) (h1 : o ≠ THM_T j) (h2 : o ≠ THM_STAT) :
    (convertSensor j r s).rd o = s.rd o := by
  have hu : Untouched (fun x => x = o) s (convertSensor j r s) := by
    have hn1 : ¬(fun x => x = o) (THM_T j) := fun he => h1 he.symm
    have hn2 : ¬(fun x => x = o) THM_STAT := fun he => h2 he.symm
    have hupd : ∀ f, Untouched (fun x => x = o) s (s.updTm j f) := fun f _ _ => rfl
    cases r with
    | some x => exact ((((hupd _).setFlag hn1).setFlag hn1).setFld hn1).setFld hn1
    | none =>
      have h : Untouched (fun x => x = o) s (((s.updTm j (fun _ => {})).setFlag (THM_T j) THM_T_FAULT true).setFld (THM_T j) THM_T_RATE 0) :=
        ((hupd _).setFlag hn1).setFld hn1
      exact .ite h (h.sq hn2)
  exact hu o rfl

/-- The sensors' registers. -/
def SensorRegister (o : Nat) : Prop := 0x1D0000 ≤ o ∧ o < 0x1D0040

theorem sensorRegister_event : ∀ o, SensorRegister o → eventRegister o = false := fun o ho => by
  simp only [SensorRegister] at ho
  simp only [eventRegister, eventCounter, Bool.or_eq_false_iff, Bool.and_eq_false_iff, decide_eq_false_iff_not]
  simp only [EVT_PEND, EVT_CNT, THM_BG, AXL_CNTS]
  omega

theorem sensorRegister_max : ¬SensorRegister THM_MAX := by simp only [SensorRegister, THM_MAX]; omega
theorem sensorRegister_stat : ¬SensorRegister THM_STAT := by simp only [SensorRegister, THM_STAT]; omega

theorem updateMax_apart (s : State) : Untouched SensorRegister s (updateMax s) := by
  unfold updateMax
  extract_lets best
  cases best with
  | some m => exact (Untouched.refl.setFld sensorRegister_max).setFld sensorRegister_max
  | none => exact .refl

theorem absRise_apart (s : State) : Untouched SensorRegister s (absRise s) := by
  have hr : Untouched SensorRegister s ((({ s with thmHot := s.tooHot } : State).sq THM_STAT THM_STAT_ABS).raise (evMem 5)) :=
    Untouched.raise (s := State.sq { s with thmHot := s.tooHot } THM_STAT THM_STAT_ABS) (fun o ho => rd_wr_of_ne _ _ fun he =>
      sensorRegister_stat (he ▸ ho)) sensorRegister_event
  unfold absRise
  extract_lets hot rises u v w
  split
  · have hw : Untouched SensorRegister s w := hr.upd
    exact .ite hw (hw.setFld sensorRegister_stat)
  · exact Untouched.refl.upd

theorem rateRise_apart (s : State) : Untouched SensorRegister s (rateRise s) := by
  unfold rateRise
  extract_lets hit u
  have hu : Untouched SensorRegister s u := (Untouched.refl.sq sensorRegister_stat).raise sensorRegister_event
  exact .ite (.ite ((hu.setFld sensorRegister_stat).upd) hu) .refl

theorem sensorConversion_shows (readings : List (Option Int)) (hs : s.awake = true) : ∃ t,
    exec (.sensorConversion readings) s = .next t ∧ ∀ k, k < 16 → SensorShown k (readings.getD k none) t := by
  have hp : s.power ≠ .lantern := fun hp => by simp [State.awake, hp] at hs
  let u := each (List.range 16) (fun k t => convertSensor k (readings.getD k none) t) s
  refine ⟨_, (if_neg hp).trans (if_pos hs), fun k hk => ?_⟩
  have hu : SensorShown k (readings.getD k none) u :=
    each_at (P := fun _ => True) List.nodup_range (List.mem_range.mpr hk) (fun _ _ _ _ _ => trivial)
      (fun t _ => convertSensor_shown hk _ t)
      (fun j hj hne t ht => ht.congr (convertSensor_rd _ _ (by simp only [THM_T]; omega) (by simp only [THM_T, THM_STAT]; omega)))
      trivial
  have hlan : (lanternSensor (readings.getD 15 none) u).regs = u.regs := by
    unfold lanternSensor
    split <;> rfl
  refine hu.congr ?_
  have hrest := (((Untouched.refl (P := SensorRegister) (s := u)).upd hlan).trans (updateMax_apart _)).trans
    ((absRise_apart _).trans (rateRise_apart _))
  exact hrest _ (by simp only [SensorRegister, THM_T]; omega)

theorem lanternConversion (readings : List (Option Int)) {x : Int} (hp : s.power = .lantern) (hx : readings.getD 15 none = some x) :
    ∃ t, exec (.sensorConversion readings) s = .next t ∧ t.lan.t15 = x ∧ t.lan.t15Valid = true ∧ t.regs = s.regs := by
  have heq : exec (.sensorConversion readings) s = .next (lanternSensor (readings.getD 15 none) s) := if_pos hp
  rw [heq, hx]
  exact ⟨_, rfl, rfl, rfl, rfl⟩

/-! ### The throttle level (R355) -/

/-- The registers that a request for carrier derating writes, beside the reports. -/
def derateMarks : Marks := fun o => if 0x80000 ≤ o ∧ o < 0xC0000 ∨ 0x160000 ≤ o ∧ o < 0x170000 then some 32 else none

theorem derateAxle_writes {a : Nat} (ha : a < 4) (s : State) : Writes derateMarks s (derateAxle a s) := by
  have hm : ∀ o, (0x80000 ≤ o ∧ o < 0xC0000 ∨ 0x160000 ≤ o ∧ o < 0x170000) → derateMarks o = some 32 := fun o ho => if_pos ho
  have h1 : derateMarks (TTU_STAT a) = some 32 := hm _ (by simp only [TTU_STAT]; omega)
  have h2 : derateMarks (AXL_PRDSCH a) = some 32 := hm _ (by simp only [AXL_PRDSCH]; omega)
  have h3 : derateMarks (AXL_PRDAT a) = some 32 := hm _ (by simp only [AXL_PRDAT]; omega)
  unfold derateAxle
  extract_lets cdr p want r p' u v w
  have hw : Writes derateMarks s w := ((Writes.refl.setFld h2).wr h3).setFlag h2
  exact .ite (.ite (.raise (.sq .refl h1)) (.raise (.sq hw h1))) .refl

/-- The level that the end of a step leaves while nothing is frozen. -/
def levelStepped (s : State) : State :=
  if s.tooHot then
    if s.throttle < s.lmax then s.setThrottle (s.throttle + 1)
    else if s.throttle = s.lmax ∧ s.flag THM_CTL THM_CTL_CDREN then derateAll s else s
  else if s.coolEnough && decide (0 < s.throttle) then s.setThrottle (s.throttle - 1)
  else s

theorem stepping_regs (c : Prop) [Decidable c] (s : State) : (if c then { s with thmStepping := false } else s).regs = s.regs := by
  split <;> rfl

theorem throttleStepEnd_eq (hs : s.awake = true) (hst : s.thmStepping = true) (hf : s.thmFrozen = false) : ∃ t,
    exec .throttleStepEnd s = .next t ∧ t.regs = (levelStepped s).regs := by
  have hexec : exec .throttleStepEnd s = execThrottleStepEnd s := rfl
  rw [hexec, execThrottleStepEnd, if_pos (by rw [hs, hst]; rfl)]
  simp only [hf, Bool.false_eq_true, if_false]
  exact ⟨_, rfl, stepping_regs _ (levelStepped s)⟩

theorem setThrottle_throttle {n : Nat} (hn : n < 4) : (s.setThrottle n).throttle = n :=
  (fld_setFld_self _ _ _ _ (by decide)).trans (Nat.mod_eq_of_lt hn)

theorem throttle_lt (s : State) : s.throttle < 4 := get_lt THM_STAT_LEVEL _
theorem lmax_lt (s : State) : s.lmax < 4 := get_lt THM_CTL_LMAX _

theorem throttleStepEnd_leaves (hs : s.awake = true) (hst : s.thmStepping = true) (hf : s.thmFrozen = false) :
    (s.tooHot = true → s.throttle < s.lmax → ∃ t, exec .throttleStepEnd s = .next t ∧ t.throttle = s.throttle + 1) ∧
    (s.tooHot = true → s.throttle = s.lmax → s.flag THM_CTL THM_CTL_CDREN = true →
      ∃ t, exec .throttleStepEnd s = .next t ∧ t.throttle = s.throttle ∧ t.flag THM_STAT THM_STAT_CDR = true ∧
        t.evPending (evMem 7) = true) ∧
    (s.tooHot = false → s.coolEnough = true → 0 < s.throttle →
      ∃ t, exec .throttleStepEnd s = .next t ∧ t.throttle = s.throttle - 1) := by
  obtain ⟨t, ht, hr⟩ := throttleStepEnd_eq hs hst hf
  unfold levelStepped at hr
  have hlmax := lmax_lt s
  have hlevel := throttle_lt s
  refine ⟨fun hot hl => ⟨t, ht, ?_⟩, fun hot hl hc => ⟨t, ht, ?_⟩, fun hot hcool hpos => ⟨t, ht, ?_⟩⟩
  · rw [if_pos hot, if_pos hl] at hr
    exact (congrArg (fun r => THM_STAT_LEVEL.get (mget regDefault r THM_STAT)) hr).trans (setThrottle_throttle (by omega))
  · rw [if_pos hot, if_neg (by omega), if_pos ⟨hl, hc⟩] at hr
    have hrd : ∀ o, t.rd o = (derateAll s).rd o := fun o => congrArg (fun r => mget regDefault r o) hr
    have hw : Writes derateMarks ((s.sq THM_STAT THM_STAT_CDR).raise (evMem 7)) (derateAll s) :=
      .each .refl fun a ha u => derateAxle_writes (List.mem_range.mp ha) u
    have hrep := raise_reports (s.sq THM_STAT THM_STAT_CDR) (evMem 7)
    refine ⟨?_, ?_, ?_⟩
    · refine (congrArg THM_STAT_LEVEL.get (hrd _)).trans ((hw.fld _ (by decide) (by decide)).trans ((hrep.fld _ (by decide)).trans ?_))
      exact fld_sq_apart (by decide) (by decide)
    · refine (congrArg THM_STAT_CDR.bit (hrd _)).trans ((hw.flag _ (by decide) (by decide)).trans ((hrep.flag _ (by decide)).trans ?_))
      exact flag_sq_self _ _ _ (by decide) (by decide)
    · have hp := hw.pending (src := evMem 7) (by decide) (by decide) (raise_pending _ (by decide) hs)
      rw [State.evPending, hrd]
      exact hp
  · rw [if_neg (by rw [hot]; decide), if_pos (by rw [hcool]; simpa using hpos)] at hr
    exact (congrArg (fun r => THM_STAT_LEVEL.get (mget regDefault r THM_STAT)) hr).trans (setThrottle_throttle (by omega))

end

/-- Settles O46: the conversions one by one, and the level at the end of a step. -/
theorem throttling : Obligations.Throttling := by
  intro s
  refine ⟨fun readings hs => ?_, fun readings x hp hx => lanternConversion readings hp hx, throttleStepEnd_leaves⟩
  obtain ⟨t, ht, hk⟩ := sensorConversion_shows readings hs
  refine ⟨t, ht, fun k hk16 => ?_⟩
  have h := hk k hk16
  unfold SensorShown at h
  cases hr : readings.getD k none with
  | some x => rwa [hr] at h
  | none => rwa [hr] at h

end Sys2Proof.Proofs
end

section
/-! The scrubber, programming and erasing of the code NVM, and software events (R251, R254, R260). -/

namespace Sys2Proof.Proofs

open Sys2Proof Sys2Proof.Machine Sys2Proof.Safety Sys2Proof.Laws

section
variable {s : State}

/-! ### The scrubber (R251) -/

theorem waitCleared_regs (m : ClearMem) (s : State) : (waitCleared m s).regs = s.regs := by
  unfold waitCleared
  split
  · exact (clearMemory_keeps m s).2
  · rfl

theorem clearMemory_poison (m : ClearMem) (s : State) : (clearMemory m s).poison = s.poison.filter (fun a => !inClearMem m a) := by
  unfold clearMemory
  extract_lets u
  split <;> rfl

theorem waitCleared_poisoned {m : ClearMem} {a : Nat} (h : s.poisoned a = false) : (waitCleared m s).poisoned a = false := by
  unfold waitCleared
  split
  · simp only [State.poisoned, clearMemory_poison]
    simp only [State.poisoned] at h
    refine Bool.eq_false_iff.mpr fun hc => ?_
    have hin := List.mem_of_mem_filter (List.contains_iff_mem.mp hc)
    rw [List.contains_iff_mem.mpr hin] at h
    cases h
  · exact h

/-- The scrubber waits for main SRAM alone. -/
theorem waitFor_sram {w : Nat} (hw : w < 0x100000) (s : State) : waitFor (0x10000000 + 8 * w) s = waitCleared .mainSram s := by
  have hr : region (0x10000000 + 8 * w) = .sram := by
    unfold region
    rw [if_neg (by omega), if_pos (by omega)]
  unfold waitFor
  rw [hr]

/-- The scrubber notes its finding. -/
theorem scrubber_eq {w : Nat} {e : Ecc} (hs : s.awake = true) (hw : w < 0x100000) :
    exec (.scrubber false w e) s = .next (memCheck (0x10000000 + 8 * w) e (waitCleared .mainSram s)).1 := by
  refine (if_pos (by rw [hs, decide_eq_true (show w < if false = true then 0x8000 else 0x100000 from hw)]; rfl)).trans ?_
  exact congrArg (fun u => Host.Outcome.next (memCheck (0x10000000 + 8 * w) e u).1) (waitFor_sram hw s)

theorem waitCleared_awake (m : ClearMem) (hs : s.awake = true) : (waitCleared m s).awake = true := by
  have hb : (waitCleared m s).bringup.active = s.bringup.active ∧ (waitCleared m s).power = s.power := by
    unfold waitCleared
    split
    · have h := (clearMemory_keeps m s).1
      refine ⟨(congrArg Bringup.active h : (clearMemory m s).bringup.active = _), ?_⟩
      change (clearMemory m s).power = s.power
      unfold clearMemory
      extract_lets u
      split <;> rfl
    · exact ⟨rfl, rfl⟩
  unfold State.awake at hs ⊢
  rw [hb.1, hb.2]
  exact hs

/-- The registers as the finding is noted, before its event. -/
def eccAddressed (unc : Bool) (a : Nat) (s : State) : State :=
  if !s.flag MEM_STAT MEM_STAT_CE && !s.flag MEM_STAT MEM_STAT_UE then
    s.wr MEM_ECCADDR (word (a / 8 * 8 + 4 * b2n unc + eccRegion a)) else s

theorem noteEcc_eq (unc : Bool) (a : Nat) (s : State) : noteEcc unc a s =
    if unc then (((eccAddressed unc a s).rc MEM_ECCCNT MEM_ECCCNT_UE).sq MEM_STAT MEM_STAT_UE).raise (evMem 1)
    else (((eccAddressed unc a s).rc MEM_ECCCNT MEM_ECCCNT_CE).sq MEM_STAT MEM_STAT_CE).raise (evMem 0) := rfl

theorem eccAddressed_rd {o : Nat} (unc : Bool) (a : Nat) (s : State) (h : o ≠ MEM_ECCADDR) : (eccAddressed unc a s).rd o = s.rd o := by
  unfold eccAddressed
  split
  · exact rd_wr_of_ne _ _ h
  · rfl

theorem eccAddressed_awake (unc : Bool) (a : Nat) (s : State) : (eccAddressed unc a s).awake = s.awake := by
  unfold eccAddressed
  split <;> rfl

theorem corrected_leaves {w : Nat} (hs : s.awake = true) (hw : w < 0x100000) (hp : s.poisoned (0x10000000 + 8 * w) = false) :
    ∃ t, exec (.scrubber false w .corrected) s = .next t ∧ t.flag MEM_STAT MEM_STAT_CE = true ∧
      t.evPending (evMem 0) = true ∧ t.fld MEM_ECCCNT MEM_ECCCNT_CE = min (s.fld MEM_ECCCNT MEM_ECCCNT_CE + 1) 65535 := by
  have hregs := waitCleared_regs .mainSram s
  have hawake := waitCleared_awake .mainSram hs
  have hpois := waitCleared_poisoned (m := .mainSram) hp
  have heq := scrubber_eq (e := .corrected) hs hw
  generalize waitCleared .mainSram s = u at hregs hawake hpois heq
  have hcheck : (memCheck (0x10000000 + 8 * w) .corrected u).1 = noteEcc false (0x10000000 + 8 * w) u := by
    unfold memCheck
    rw [hpois]
    rfl
  rw [hcheck, noteEcc_eq, if_neg Bool.false_ne_true] at heq
  have hu : (eccAddressed false (0x10000000 + 8 * w) u).fld MEM_ECCCNT MEM_ECCCNT_CE = s.fld MEM_ECCCNT MEM_ECCCNT_CE := by
    rw [State.fld, eccAddressed_rd _ _ _ (by decide), State.rd, hregs]
    rfl
  have hnote := sq_raise_noted (s := (eccAddressed false (0x10000000 + 8 * w) u).rc MEM_ECCCNT MEM_ECCCNT_CE) (src := evMem 0)
    (o := MEM_STAT) (f := MEM_STAT_CE) (by decide) ((eccAddressed_awake ..).trans hawake) (by decide) (by decide) (by decide)
  refine ⟨_, heq, hnote.1, hnote.2, ?_⟩
  refine ((raise_reports _ _).fld _ (by decide)).trans ((fld_sq_ne (by decide)).trans ((fld_setFld_self _ _ _ _ (by decide)).trans ?_))
  rw [hu]
  exact Nat.mod_eq_of_lt (by simp only [MEM_ECCCNT_CE]; omega)

theorem uncorrectable_leaves {w : Nat} (hs : s.awake = true) (hw : w < 0x100000) :
    ∃ t, exec (.scrubber false w .uncorrectable) s = .next t ∧ t.flag MEM_STAT MEM_STAT_UE = true ∧
      t.evPending (evMem 1) = true ∧
      (s.flag MEM_STAT MEM_STAT_CE = false → s.flag MEM_STAT MEM_STAT_UE = false →
        t.fld MEM_ECCADDR MEM_ECCADDR_ADDR * 8 = 0x10000000 + 8 * w ∧ t.flag MEM_ECCADDR MEM_ECCADDR_UNC = true) := by
  have hregs := waitCleared_regs .mainSram s
  have hawake := waitCleared_awake .mainSram hs
  have heq := scrubber_eq (e := .uncorrectable) hs hw
  generalize waitCleared .mainSram s = u at hregs hawake heq
  have hcheck : (memCheck (0x10000000 + 8 * w) .uncorrectable u).1 = noteEcc true (0x10000000 + 8 * w) u := by
    unfold memCheck
    rw [decide_eq_true rfl, Bool.or_true, if_pos rfl]
  rw [hcheck, noteEcc_eq, if_pos rfl] at heq
  have hnote := sq_raise_noted (s := (eccAddressed true (0x10000000 + 8 * w) u).rc MEM_ECCCNT MEM_ECCCNT_UE) (src := evMem 1)
    (o := MEM_STAT) (f := MEM_STAT_UE) (by decide) ((eccAddressed_awake ..).trans hawake) (by decide) (by decide) (by decide)
  refine ⟨_, heq, hnote.1, hnote.2, fun hce hue => ?_⟩
  have hflag : ∀ f, u.flag MEM_STAT f = s.flag MEM_STAT f := fun f => by rw [State.flag, State.rd, hregs]; rfl
  have hreg : eccRegion (0x10000000 + 8 * w) = 0 := by
    have hr : region (0x10000000 + 8 * w) = .sram := by
      unfold region
      rw [if_neg (by omega), if_pos (by omega)]
    unfold eccRegion
    rw [hr]
  have haddr : (eccAddressed true (0x10000000 + 8 * w) u).rd MEM_ECCADDR = word (0x10000000 + 8 * w + 4) := by
    unfold eccAddressed
    rw [hflag, hflag, hce, hue, hreg, if_pos (show (!false && !false) = true from rfl), rd_wr_self]
    exact congrArg word (by rw [show b2n true = 1 from rfl]; omega)
  have hrd : ((((eccAddressed true (0x10000000 + 8 * w) u).rc MEM_ECCCNT MEM_ECCCNT_UE).sq MEM_STAT MEM_STAT_UE).raise (evMem 1)).rd
      MEM_ECCADDR = word (0x10000000 + 8 * w + 4) :=
    ((raise_reports _ _).rd _ (by decide)).trans ((rd_wr_of_ne _ _ (by decide)).trans ((rd_wr_of_ne _ _ (by decide)).trans haddr))
  constructor
  · rw [State.fld, hrd]
    simp only [Fld.get, MEM_ECCADDR_ADDR, word, BitVec.toNat_ofNat, Nat.shiftRight_eq_div_pow]
    omega
  · rw [State.flag, hrd, Fld.bit, word, BitVec.getLsbD_ofNat, Nat.testBit_eq_decide_div_mod_eq]
    simp only [MEM_ECCADDR_UNC]
    simp
    omega

/-! ### Commands on the code NVM (R254) -/

def cardNvcmd : Card := ⟨0x30010, [], true, 0, [⟨MEM_NVCMD_KEY, .rw, false, true, .bit 1⟩, ⟨MEM_NVCMD_CMD, .rw, false, false, .bit 1⟩]⟩

theorem register_nvcmd : plainRegister MEM_NVCMD cardNvcmd [] = true := by decide +kernel

theorem syncStretches_nvm (s : State) : (syncStretches s).nvm = s.nvm := by
  obtain ⟨_, _, h⟩ := (onlyStretch_syncStretches s).only
  rw [h]

theorem syncStretches_wakePending (s : State) (src : Nat) : (syncStretches s).wakePending src = s.wakePending src := by
  obtain ⟨_, _, h⟩ := (onlyStretch_syncStretches s).only
  rw [h]
  rfl

theorem nvmStart_regs (erase : Bool) (s : State) : (nvmStart erase s).regs = ((s.setFlag MEM_NVSTAT MEM_NVSTAT_BUSY true).setFld
    MEM_NVSTAT MEM_NVSTAT_HALF (s.fld MEM_NVADDR MEM_NVADDR_ADDR * 16 / 0x800000)).regs := rfl

theorem nvmStart_busy (erase : Bool) (s : State) : (nvmStart erase s).flag MEM_NVSTAT MEM_NVSTAT_BUSY = true := by
  rw [State.flag, State.rd, nvmStart_regs]
  exact (flag_setFld_apart (s := s.setFlag MEM_NVSTAT MEM_NVSTAT_BUSY true) (by decide)).trans
    (flag_setFlag_self _ _ _ _ (by decide) (by decide))

theorem nvmStart_nvm (erase : Bool) (s : State) : (nvmStart erase s).nvm = some ⟨erase, s.fld MEM_NVADDR MEM_NVADDR_ADDR * 16,
    (List.range 4).map (fun k => s.rd (MEM_NVDATA k))⟩ := rfl

theorem nvmStart_mem (erase : Bool) (s : State) : (nvmStart erase s).mem = s.mem := rfl

theorem nvmCommand_leaves {n : Nat} (hn : n = 1 ∨ n = 2)
    (ha : accepted .coachman MEM_NVCMD (MEM_NVCMD_CMD.put (MEM_NVCMD_KEY.put 0 0xA5) n) s = true) :
    ∃ t, wordCmd .coachman MEM_NVCMD (MEM_NVCMD_CMD.put (MEM_NVCMD_KEY.put 0 0xA5) n) s = .next t ∧
      t.nvm = some ⟨decide (n = 2), s.fld MEM_NVADDR MEM_NVADDR_ADDR * 16, (List.range 4).map (fun k => s.rd (MEM_NVDATA k))⟩ ∧
      t.flag MEM_NVSTAT MEM_NVSTAT_BUSY = true ∧ t.mem = s.mem := by
  have hcmd : MEM_NVCMD_CMD.get (writtenWord .coachman MEM_NVCMD (MEM_NVCMD_CMD.put (MEM_NVCMD_KEY.put 0 0xA5) n) s) = n :=
    (written_get (plainRegister_register register_nvcmd) ha (by decide)).trans ((get_put_self _ _ _ (by decide)).trans
      (Nat.mod_eq_of_lt (by simp only [MEM_NVCMD_CMD]; omega)))
  let u := (s.wr MEM_NVCMD (writtenWord .coachman MEM_NVCMD (MEM_NVCMD_CMD.put (MEM_NVCMD_KEY.put 0 0xA5) n) s)).setFld MEM_NVCMD
    MEM_NVCMD_KEY 0
  have heq : wordWritten .coachman MEM_NVCMD [] (MEM_NVCMD_CMD.put (MEM_NVCMD_KEY.put 0 0xA5) n) s = nvmStart (decide (n = 2)) u := by
    change nvmStart (decide (MEM_NVCMD_CMD.get _ = 2)) u = _
    rw [hcmd]
  have hrd : ∀ o, o ≠ MEM_NVCMD → u.rd o = s.rd o := fun o ho => (rd_wr_of_ne _ _ ho).trans (rd_wr_of_ne _ _ ho)
  refine ⟨_, wordCmd_written register_nvcmd ha, ?_, ?_, ?_⟩
  · rw [heq, syncStretches_nvm, nvmStart_nvm, State.fld, hrd _ (by decide),
      funext fun k => hrd (MEM_NVDATA k) (by simp only [MEM_NVDATA, MEM_NVCMD]; omega)]
    rfl
  · rw [syncStretches_flag, heq]
    exact nvmStart_busy _ _
  · rw [syncStretches_mem, heq]
    exact nvmStart_mem _ _

/-! ### The end of a command (R254) -/

theorem setBytes_byte (s : State) (a : Nat) (bs : List Byte) (x : Nat) :
    (s.setBytes a bs).byte x = if a ≤ x ∧ x < a + bs.length then bs.getD (x - a) 0 else s.byte x := by
  induction bs generalizing s a with
  | nil => rw [if_neg (by simp)]; rfl
  | cons b bs ih =>
    have hset : ∀ y, (s.setByte a b).byte y = if y = a then b else s.byte y := fun y => mget_mset ..
    rw [State.setBytes, ih, hset, List.length_cons]
    by_cases hx : x = a
    · subst hx
      rw [if_neg (by omega), if_pos rfl, if_pos (by omega), Nat.sub_self]
      rfl
    · by_cases hin : a + 1 ≤ x ∧ x < a + 1 + bs.length
      · rw [if_pos hin, if_pos (by omega), show x - a = (x - (a + 1)) + 1 by omega]
        rfl
      · rw [if_neg hin, if_neg hx, if_neg (by omega)]

/-- The bytes of four words. -/
theorem wordsBytes_getD {data : List Word} (hd : data.length = 4) {i : Nat} (hi : i < 16) :
    (data.flatMap wordBytes).getD i 0 = BitVec.ofNat 8 ((data.getD (i / 4) 0).toNat / 256 ^ (i % 4)) := by
  have hbyte : ∀ (w : Word) (k : Nat), byteOf w k = BitVec.ofNat 8 (w.toNat / 256 ^ k) := fun w k => by
    refine BitVec.eq_of_toNat_eq ?_
    rw [byteOf, BitVec.extractLsb'_toNat, BitVec.toNat_ofNat, Nat.shiftRight_eq_div_pow, Nat.pow_mul]
  match data, hd with
  | [w0, w1, w2, w3], _ =>
    simp only [List.flatMap_cons, List.flatMap_nil, wordBytes, hbyte, List.cons_append, List.nil_append]
    interval_cases i <;> rfl

theorem wordsBytes_length {data : List Word} (hd : data.length = 4) : (data.flatMap wordBytes).length = 16 := by
  simp [List.length_flatMap, wordBytes, hd]

theorem nvmDone_keeps (op : NvmOp) (differs : Bool) (s : State) : (nvmApply op differs s).regs = s.regs ∧
    (nvmApply op differs s).awake = s.awake := by
  obtain ⟨_, _, h⟩ := nvmApply_only op differs s
  rw [h]
  exact ⟨rfl, rfl⟩

/-- A command that is done, before its read-back is judged. -/
def nvmEnded (op : NvmOp) (differs : Bool) (s : State) : State :=
  ({ nvmApply op differs s with nvm := none }.setFlag MEM_NVSTAT MEM_NVSTAT_BUSY false).sq MEM_NVSTAT MEM_NVSTAT_DONE

theorem nvmCommandDone_eq {op : NvmOp} (h : s.nvm = some op) (differs : Bool) : exec (.nvmCommandDone differs) s =
    if differs && !op.erase then .next (((nvmEnded op differs s).sq MEM_NVSTAT MEM_NVSTAT_ERR).raise (evMem 4))
    else .next (nvmEnded op differs s) := by
  change execNvmCommandDone differs s = _
  unfold execNvmCommandDone
  rw [h]
  rfl

theorem nvmEnded_leaves (op : NvmOp) (differs : Bool) (s : State) : (nvmEnded op differs s).nvm = none ∧
    (nvmEnded op differs s).flag MEM_NVSTAT MEM_NVSTAT_BUSY = false ∧ (nvmEnded op differs s).flag MEM_NVSTAT MEM_NVSTAT_DONE = true :=
  ⟨rfl, (flag_sq_apart (by decide) (by decide)).trans (flag_setFlag_self _ _ _ _ (by decide) (by decide)),
    flag_sq_self _ _ _ (by decide) (by decide)⟩

theorem nvmEnded_byte (op : NvmOp) (differs : Bool) (s : State) (x : Nat) :
    (nvmEnded op differs s).byte x = (nvmApply op differs s).byte x := rfl

theorem nvmEnded_awake (op : NvmOp) (differs : Bool) (s : State) : (nvmEnded op differs s).awake = s.awake :=
  (nvmDone_keeps op differs s).2

theorem nvmProgrammed_leaves {a : Nat} {data : List Word} (h : s.nvm = some ⟨false, a, data⟩) (hd : data.length = 4) :
    ∃ t, exec (.nvmCommandDone false) s = .next t ∧ t.nvm = none ∧ t.flag MEM_NVSTAT MEM_NVSTAT_BUSY = false ∧
      t.flag MEM_NVSTAT MEM_NVSTAT_DONE = true ∧
      ∀ x, t.byte x = if a ≤ x ∧ x < a + 16 then
        BitVec.ofNat 8 ((data.getD ((x - a) / 4) 0).toNat / 256 ^ ((x - a) % 4)) else s.byte x := by
  obtain ⟨h1, h2, h3⟩ := nvmEnded_leaves ⟨false, a, data⟩ false s
  refine ⟨_, nvmCommandDone_eq h false, h1, h2, h3, fun x => ?_⟩
  rw [nvmEnded_byte, show nvmApply ⟨false, a, data⟩ false s = s.setBytes a (data.flatMap wordBytes) from rfl, setBytes_byte,
    wordsBytes_length hd]
  split
  · exact wordsBytes_getD hd (by omega)
  · rfl

theorem nvmDiffers_leaves {a : Nat} {data : List Word} (hs : s.awake = true) (h : s.nvm = some ⟨false, a, data⟩) :
    ∃ t, exec (.nvmCommandDone true) s = .next t ∧ t.nvm = none ∧ t.flag MEM_NVSTAT MEM_NVSTAT_ERR = true ∧
      t.evPending (evMem 4) = true ∧ ∀ x, (x < a ∨ a + 16 ≤ x) → t.byte x = s.byte x := by
  have hawake : (nvmEnded ⟨false, a, data⟩ true s).awake = true := (nvmEnded_awake ..).trans hs
  have hnone := (nvmEnded_leaves ⟨false, a, data⟩ true s).1
  have hbyte := nvmEnded_byte ⟨false, a, data⟩ true s
  have heq : exec (.nvmCommandDone true) s =
      .next (((nvmEnded ⟨false, a, data⟩ true s).sq MEM_NVSTAT MEM_NVSTAT_ERR).raise (evMem 4)) :=
    (nvmCommandDone_eq h true).trans (if_pos rfl)
  refine ⟨_, heq, ?_⟩
  clear heq
  generalize nvmEnded ⟨false, a, data⟩ true s = u at hawake hnone hbyte
  have hnote := sq_raise_noted (s := u) (src := evMem 4) (o := MEM_NVSTAT) (f := MEM_NVSTAT_ERR) (by decide) hawake (by decide)
    (by decide) (by decide)
  obtain ⟨_, _, _, _, he⟩ := (raise_reports (u.sq MEM_NVSTAT MEM_NVSTAT_ERR) (evMem 4)).events
  refine ⟨?_, hnote.1, hnote.2, fun x hx => ?_⟩
  · rw [he]
    exact hnone
  · have hmem : ((u.sq MEM_NVSTAT MEM_NVSTAT_ERR).raise (evMem 4)).mem = u.mem := by
      rw [he]
      rfl
    rw [State.byte, hmem]
    refine (hbyte x).trans ?_
    have happly : nvmApply ⟨false, a, data⟩ true s =
      (s.setBytes a ((List.range 16).map (fun k => BitVec.ofNat 8 (Config.freeNat (s.draws + k))))).drew 16 := rfl
    have hdrew : ∀ v : State, (v.drew 16).byte x = v.byte x := fun _ => rfl
    rw [happly, hdrew, setBytes_byte, List.length_map, List.length_range, if_neg (by omega)]

theorem nvmErased_leaves {a : Nat} {data : List Word} (b : Bool) (h : s.nvm = some ⟨true, a, data⟩) :
    ∃ t, exec (.nvmCommandDone b) s = .next t ∧ t.nvm = none ∧ t.flag MEM_NVSTAT MEM_NVSTAT_DONE = true ∧
      ∀ x, t.byte x = if x < 0x01000000 ∧ x / 0x10000 = a / 0x10000 then 0xFF else s.byte x := by
  obtain ⟨h1, -, h3⟩ := nvmEnded_leaves ⟨true, a, data⟩ b s
  refine ⟨_, (nvmCommandDone_eq h b).trans (if_neg (by cases b <;> exact Bool.false_ne_true)), h1, h3, fun x => ?_⟩
  rw [nvmEnded_byte]
  have hbyte : (nvmApply ⟨true, a, data⟩ b s).byte x = mget memDefault (s.mem.filter (fun c =>
      !(decide (c.1 < 0x01000000) && decide (c.1 / 0x10000 = a / 0x10000)))) x := rfl
  rw [hbyte, mget_filter memDefault (fun k => !(decide (k < 0x01000000) && decide (k / 0x10000 = a / 0x10000)))]
  by_cases hx : x < 0x01000000 ∧ x / 0x10000 = a / 0x10000
  · rw [if_pos hx, if_neg (by simp [hx.1, hx.2])]
    exact if_pos hx.1
  · rw [if_neg hx, if_pos (by simp only [Bool.not_eq_true', Bool.and_eq_false_iff, decide_eq_false_iff_not]; omega)]
    rfl

/-! ### Software events (R260) -/

def cardEvtRaise : Card := ⟨0x1044C, [], true, 0, [⟨EVT_RAISE_SOURCE, .rw, false, false, .none⟩]⟩

theorem register_evtRaise : plainRegister EVT_RAISE cardEvtRaise [] = true := by decide +kernel

/-- What a raise appends keeps what is wake-pending. -/
theorem any_fst_map (l : List (Nat × Nat)) (src x w : Nat) :
    (l.map (fun e => if e.1 = src then (src, w) else e)).any (fun e => e.1 = x) = l.any (fun e => e.1 = x) := by
  induction l with
  | nil => rfl
  | cons e l ih =>
    simp only [List.map_cons, List.any_cons, ih]
    congr 1
    split
    · next h => rw [h]
    · rfl

/-- The wake-pending sources after a raise (R16, R260). -/
theorem raiseOnce_wakePending (src x : Nat) : (raiseOnce src s).wakePending x =
    (s.wakePending x || (s.flag (EVT_CFG src) EVT_CFG_WEN && decide (src = x))) := by
  unfold raiseOnce
  extract_lets cfg s1 s2 s3 s4
  have h2 : s2.wakePending x = (s.wakePending x || (s.flag (EVT_CFG src) EVT_CFG_WEN && decide (src = x))) := by
    have h1 : ∀ y, s1.wakePending y = s.wakePending y := fun _ => rfl
    simp only [s2]
    by_cases hp : s1.wakePending src = true
    · rw [if_pos hp]
      refine (h1 x).trans ?_
      by_cases hx : src = x
      · subst hx
        rw [← h1, hp, Bool.true_or]
      · rw [decide_eq_false hx, Bool.and_false, Bool.or_false]
    · rw [if_neg hp]
      change (if s.flag (EVT_CFG src) EVT_CFG_WEN = true then _ else _ : State).wakePending x = _
      cases hw : s.flag (EVT_CFG src) EVT_CFG_WEN with
      | true =>
        refine (List.any_append (f := fun e : Nat × Nat => decide (e.1 = x))).trans ?_
        simp only [List.any_cons, List.any_nil, Bool.or_false, Bool.true_and]
        rfl
      | false => exact (Bool.or_false _).symm
  have h3 : s3.wakePending x = s2.wakePending x := by
    simp only [s3]
    split
    · exact any_fst_map ..
    · rfl
  have h4 : s4.wakePending x = s3.wakePending x := by
    simp only [s4]
    split <;> rfl
  rw [← h2, ← h3, ← h4]
  split
  · split <;> rfl
  · rfl

theorem raiseOnce_wakes (src : Nat) (hw : s.flag (EVT_CFG src) EVT_CFG_WEN = true) : (raiseOnce src s).wakePending src = true := by
  rw [raiseOnce_wakePending, hw, decide_eq_true rfl, Bool.and_true, Bool.or_true]

theorem raiseOnce_keepsWake (src x : Nat) (h : s.wakePending x = true) : (raiseOnce src s).wakePending x = true := by
  rw [raiseOnce_wakePending, h, Bool.true_or]

/-- A source whose event wakes is wake-pending after its raise. -/
theorem raise_wakes {src : Nat} (he : evReserved src = false) (ha : s.awake = true)
    (hw : s.flag (EVT_CFG src) EVT_CFG_WEN = true) : (s.raise src).wakePending src = true := by
  have honce := raiseOnce_wakes src hw
  have hwake : ∀ u : State, (wakeLantern u).wakePending src = u.wakePending src := fun u => by
    unfold wakeLantern
    split <;> rfl
  unfold State.raise
  rw [if_neg (by simp [he, ha]), hwake]
  split
  · exact raiseOnce_keepsWake _ _ honce
  · exact honce

theorem evtRaise_leaves (v : View) (source : BitVec 8) (ha : accepted v EVT_RAISE (BitVec.ofNat 32 source.toNat) s = true) :
    ∃ t, exec (.evtRaise v source) s = .next t ∧ t.evPending source.toNat = true ∧
      (s.flag (EVT_CFG source.toNat) EVT_CFG_WEN = true → t.wakePending source.toNat = true) := by
  have hget : EVT_RAISE_SOURCE.get (writtenWord v EVT_RAISE (BitVec.ofNat 32 source.toNat) s) = source.toNat := by
    refine (written_get (plainRegister_register register_evtRaise) ha (by decide)).trans ?_
    have := source.isLt
    simp only [Fld.get, EVT_RAISE_SOURCE, BitVec.toNat_ofNat, Nat.shiftRight_zero]
    omega
  have hres : evReserved source.toNat = false := by
    have := badWrite_of_accepted ha
    rw [← hget]
    exact this
  let u := s.wr EVT_RAISE (writtenWord v EVT_RAISE (BitVec.ofNat 32 source.toNat) s)
  have heq : wordWritten v EVT_RAISE [] (word source.toNat) s = u.raise source.toNat :=
    congrArg u.raise hget
  have hawake : u.awake = true := awake_of_accepted (s := s) ha
  refine ⟨_, wordCmd_written register_evtRaise ha, ?_, fun hw => ?_⟩
  · rw [syncStretches_evPending, heq]
    exact raise_pending u hres hawake
  · have hcfg : u.flag (EVT_CFG source.toNat) EVT_CFG_WEN = true := by
      have := source.isLt
      exact (flag_wr_ne (by simp only [EVT_CFG, EVT_RAISE]; omega)).trans hw
    rw [syncStretches_wakePending, heq]
    exact raise_wakes hres hawake hcfg

end

/-- Settles O51: a finding by what it notes, a command by its bytes, an event by its raise. -/
theorem memoryService : Obligations.MemoryService := fun _ hs =>
  ⟨fun _ hw hp => ⟨corrected_leaves hs hw hp, uncorrectable_leaves hs hw⟩,
    ⟨nvmCommand_leaves (.inl rfl), nvmCommand_leaves (.inr rfl)⟩,
    fun _ _ h hd => ⟨nvmProgrammed_leaves h hd, nvmDiffers_leaves hs h⟩, fun _ _ b h => nvmErased_leaves b h, evtRaise_leaves⟩

end Sys2Proof.Proofs
end

section
/-! The CAN controllers (R338 to R345). -/

namespace Sys2Proof.Proofs

open Sys2Proof Sys2Proof.Machine Sys2Proof.Safety Sys2Proof.Laws

section
variable {s t : State} {n : Nat} {f : Fld}

/-! ### Registers and flags -/

theorem canStat_event (hn : n < 4) : eventRegister (CAN_STAT n) = false :=
  eventRegister_apart (by simp only [CAN_STAT]; omega) (by simp only [CAN_STAT]; omega)

theorem evCom_can (hn : n < 4) : evReserved (evCom (4 + n)) = false := by interval_cases n <;> decide

theorem eventCounter_of_event {o : Nat} (h : eventRegister o = false) : eventCounter o = false := by
  rw [eventRegister, Bool.or_eq_false_iff] at h
  exact h.1

theorem canFlag_can (n : Nat) (f : Fld) (s : State) : (canFlag n f s).can = s.can := by
  obtain ⟨_, _, _, _, he⟩ := (raise_reports (s.sq (CAN_STAT n) f) (evCom (4 + n))).events
  rw [canFlag, he]
  rfl

theorem canFlag_cn (n : Nat) (f : Fld) (s : State) (m : Nat) : (canFlag n f s).cn m = s.cn m := by rw [State.cn, canFlag_can, State.cn]

theorem canFlag_rd {o : Nat} (h : o ≠ CAN_STAT n) (ho : eventRegister o = false) : (canFlag n f s).rd o = s.rd o :=
  (raise_rd_apart _ _ ho).trans (rd_wr_of_ne _ _ h)

theorem canFlag_flag {o : Nat} {g : Fld} (h : o ≠ CAN_STAT n) (ho : eventRegister o = false) : (canFlag n f s).flag o g = s.flag o g :=
  congrArg g.bit (canFlag_rd h ho)

theorem canFlag_fld {o : Nat} {g : Fld} (h : o ≠ CAN_STAT n) (ho : eventRegister o = false) : (canFlag n f s).fld o g = s.fld o g :=
  congrArg g.get (canFlag_rd h ho)

/-- A flag of CAN_STAT sets with the controller's event (R260, R346). -/
theorem canFlag_noted (hn : n < 4) (ha : s.awake = true) (hf : f.lo < 24 ∧ 0 < f.len) :
    (canFlag n f s).flag (CAN_STAT n) f = true ∧ (canFlag n f s).evPending (evCom (4 + n)) = true :=
  sq_raise_noted s (evCom_can hn) ha hf.1 hf.2 (eventCounter_of_event (canStat_event hn))

theorem canFlag_sets (hn : n < 4) (hf : f.lo < 24 ∧ 0 < f.len) : (canFlag n f s).flag (CAN_STAT n) f = true :=
  (raise_reports _ _).keepsFlag hf.1 (eventCounter_of_event (canStat_event hn)) (flag_sq_self _ _ _ hf.1 hf.2)

theorem canFlag_ofs (n : Nat) (f : Fld) (s : State) : (canFlag n f s).cpl.ofs = s.cpl.ofs := by
  rw [canFlag, (raise_reports (s.sq (CAN_STAT n) f) (evCom (4 + n))).fwd]
  rfl

theorem canFlag_awake (n : Nat) (f : Fld) (s : State) : (canFlag n f s).awake = s.awake := by
  obtain ⟨_, _, _, _, he⟩ := (raise_reports (s.sq (CAN_STAT n) f) (evCom (4 + n))).events
  rw [canFlag, he]
  rfl

/-- What the end of a frame writes beside the reports: flags of CAN_STAT, and the level of the queue and BUSY freely. -/
def canMarks (n : Nat) : Marks := fun o =>
  if o = CAN_STAT n then some 0 else if o = CAN_TXCTL n ∨ (0x190100 ≤ o ∧ o < 0x190200) then some 32 else none

theorem canMarks_stat (n : Nat) : canMarks n (CAN_STAT n) = some 0 := if_pos rfl
theorem canMarks_txctl (n : Nat) : canMarks n (CAN_TXCTL n) = some 32 := by
  rw [canMarks, if_neg (by simp only [CAN_TXCTL, CAN_STAT]; omega), if_pos (.inl rfl)]
theorem canMarks_grd {n c : Nat} (hc : c < 8) : canMarks n (GRD_TXCTL c) = some 32 := by
  rw [canMarks, if_neg (by simp only [GRD_TXCTL, CAN_STAT]; omega), if_pos (.inr (by simp only [GRD_TXCTL]; omega))]
theorem canMarks_none {n o : Nat} (h1 : o ≠ CAN_STAT n) (h2 : o ≠ CAN_TXCTL n) (h3 : o < 0x190100 ∨ 0x190200 ≤ o) :
    canMarks n o = none := by
  rw [canMarks, if_neg h1, if_neg (by rintro (h | h) <;> omega)]
theorem canMarks_err (n : Nat) : canMarks n (CAN_ERR n) = none :=
  canMarks_none (by simp only [CAN_ERR, CAN_STAT]; omega) (by simp only [CAN_ERR, CAN_TXCTL]; omega) (by simp only [CAN_ERR]; omega)
theorem canErr_event (hn : n < 4) : eventRegister (CAN_ERR n) = false :=
  eventRegister_apart (by simp only [CAN_ERR]; omega) (by simp only [CAN_ERR]; omega)
theorem canMarks_pend (hn : n < 4) : canMarks n (EVT_PEND (evCom (4 + n) / 24)) = none := by interval_cases n <;> decide

theorem canFlag_writes (n : Nat) (f : Fld) (s : State) : Writes (canMarks n) s (canFlag n f s) :=
  .raise (.sq .refl (canMarks_stat n))

theorem setCanTx_writes (n : Nat) (q : List CanEntry) (s : State) : Writes (canMarks n) s (setCanTx n q s) :=
  .setFld (s := s.updCn n _) (.upd .refl) (canMarks_txctl n)

theorem popCan_writes (n : Nat) (s : State) : Writes (canMarks n) s (popCan n s) := by
  unfold popCan
  split
  · exact .refl
  · next e rest _ =>
    split
    · next c _ => exact (setCanTx_writes n rest s).setFlag (canMarks_grd c.isLt)
    · exact setCanTx_writes n rest s

theorem headFails_writes (n : Nat) (s : State) : Writes (canMarks n) s (headFails n s) := by
  unfold headFails
  extract_lets x
  have h0 : Writes (canMarks n) s (s.updCn n fun y => { y with abortPending := false }) := .upd .refl
  exact .ite ((h0.trans (popCan_writes n _)).trans (canFlag_writes n _ _)) (.ite (popCan_writes n s) .refl)

/-- A controller after another's state changed. -/
theorem updCn_cn (s : State) (n : Nat) (g : CanSt → CanSt) : (s.updCn n g).cn n = g (s.cn n) := by
  rw [State.cn, State.updCn, mget_mset, if_pos rfl]

theorem setCanTx_cn (n : Nat) (q : List CanEntry) (s : State) : (setCanTx n q s).cn n = { s.cn n with tx := q } :=
  updCn_cn s n fun x => { x with tx := q }

theorem setCanTx_level {q : List CanEntry} (hq : q.length < 64) : (setCanTx n q s).fld (CAN_TXCTL n) CAN_TXCTL_LEVEL = q.length :=
  (fld_setFld_self _ _ _ _ (by decide)).trans (Nat.mod_eq_of_lt hq)

theorem popCan_cn {e : CanEntry} {rest : List CanEntry} (h : (s.cn n).tx = e :: rest) :
    (popCan n s).cn n = { s.cn n with tx := rest } := by
  unfold popCan
  rw [h]
  have hq := setCanTx_cn n rest s
  cases he : e.conn <;> dsimp only <;> rw [he] <;> exact hq

theorem popCan_awake (n : Nat) (s : State) : (popCan n s).awake = s.awake := by
  unfold popCan
  split
  · rfl
  · split <;> rfl

/-- A Guard connection whose frame leaves is no longer BUSY (R334). -/
theorem popCan_busy {e : CanEntry} {rest : List CanEntry} (h : (s.cn n).tx = e :: rest) {c : Fin 8} (hc : e.conn = some c) :
    (popCan n s).flag (GRD_TXCTL c) GRD_TXCTL_BUSY = false := by
  unfold popCan
  rw [h]
  dsimp only
  rw [hc]
  exact flag_setFlag_self _ _ _ _ (by decide) (by decide)

/-! ### Writes of CAN_TXCTL (R340) -/

theorem register_canTxctl (n : Fin 4) : plainRegister (CAN_TXCTL n) ⟨0x1A0014, [(0x1000, 4)], false, 0x00000000#32, [
    ⟨⟨31, 1⟩, .rh, false, false, .none⟩, ⟨⟨30, 1⟩, .rh, false, false, .none⟩, ⟨⟨16, 8⟩, .rcw, false, false, .none⟩,
    ⟨⟨0, 6⟩, .ro, false, false, .none⟩]⟩ [n.val] = true := by
  revert n
  decide +kernel

/-- CAN_TXCTL as a write leaves it before what it starts: both requests taken. -/
def txctlTaken (n : Nat) (w : Word) (s : State) : State :=
  ((s.wr (CAN_TXCTL n) w).setFlag (CAN_TXCTL n) CAN_TXCTL_PUSH false).setFlag (CAN_TXCTL n) CAN_TXCTL_ABORT false

theorem txctlTaken_rd {o : Nat} (w : Word) (h : o ≠ CAN_TXCTL n) : (txctlTaken n w s).rd o = s.rd o :=
  (rd_wr_of_ne _ _ h).trans ((rd_wr_of_ne _ _ h).trans (rd_wr_of_ne _ _ h))

theorem txctlTaken_awake (n : Nat) (w : Word) (s : State) : (txctlTaken n w s).awake = s.awake := rfl

theorem wrote_canTxctl (n : Fin 4) (old w : Word) (k : Nat) (co : CoUpdate) (before : State) :
    wrote (CAN_TXCTL n) old w k co before (s.wr (CAN_TXCTL n) w) =
      (let u := if CAN_TXCTL_ABORT.bit w then canAbort n co.inTx (txctlTaken n w s) else txctlTaken n w s
       if CAN_TXCTL_PUSH.bit w then canPush n u else u) := by
  match n with
  | 0 => rfl
  | 1 => rfl
  | 2 => rfl
  | 3 => rfl

theorem wrote_push (n : Fin 4) {old w : Word} (k : Nat) (co : CoUpdate) (before : State) (ha : CAN_TXCTL_ABORT.bit w = false)
    (hp : CAN_TXCTL_PUSH.bit w = true) :
    wrote (CAN_TXCTL n) old w k co before (s.wr (CAN_TXCTL n) w) = canPush n (txctlTaken n w s) := by
  rw [wrote_canTxctl, if_pos hp, if_neg (by rw [ha]; decide)]

theorem wrote_abort (n : Fin 4) {old w : Word} (k : Nat) (co : CoUpdate) (before : State) (ha : CAN_TXCTL_ABORT.bit w = true)
    (hp : CAN_TXCTL_PUSH.bit w = false) :
    wrote (CAN_TXCTL n) old w k co before (s.wr (CAN_TXCTL n) w) = canAbort n co.inTx (txctlTaken n w s) := by
  rw [wrote_canTxctl, if_neg (by rw [hp]; decide), if_pos ha]

/-- The frame that is staged (R340). -/
def stagedFrame (n : Nat) (s : State) : CanFrame :=
  let h := s.rd (CAN_TXHDR n)
  { ide := s.flag (CAN_TXID n) CAN_TXID_IDE, fdf := CAN_TXHDR_FDF.bit h, brs := CAN_TXHDR_BRS.bit h,
    id := BitVec.ofNat 29 (s.fld (CAN_TXID n) CAN_TXID_ID),
    data := ((List.range 16).flatMap (fun k => wordBytes (s.rd (CAN_TXDATA n k)))).take (CAN_TXHDR_LEN.get h) }

theorem stagedFrame_congr (h : ∀ o, o ≠ CAN_TXCTL n → t.rd o = s.rd o) : stagedFrame n t = stagedFrame n s := by
  have hh : t.rd (CAN_TXHDR n) = s.rd (CAN_TXHDR n) := h _ (by simp only [CAN_TXHDR, CAN_TXCTL]; omega)
  have hi : t.rd (CAN_TXID n) = s.rd (CAN_TXID n) := h _ (by simp only [CAN_TXID, CAN_TXCTL]; omega)
  have hd : (fun k => wordBytes (t.rd (CAN_TXDATA n k))) = fun k => wordBytes (s.rd (CAN_TXDATA n k)) :=
    funext fun k => congrArg wordBytes (h _ (by simp only [CAN_TXDATA, CAN_TXCTL]; omega))
  unfold stagedFrame
  rw [State.flag, State.fld, hh, hi, hd]
  rfl

theorem canPush_room (h : (s.cn n).tx.length < 32) :
    canPush n s = setCanTx n ((s.cn n).tx ++ [{ frame := stagedFrame n s }]) s := if_neg (by omega)

theorem canPush_full (h : 32 ≤ (s.cn n).tx.length) : canPush n s = canFlag n CAN_STAT_TXFULL s := if_pos h

theorem canPush_joins (h : (s.cn n).tx.length < 32) :
    (canPush n s).fld (CAN_TXCTL n) CAN_TXCTL_LEVEL = (s.cn n).tx.length + 1 ∧
      ((canPush n s).cn n).tx = (s.cn n).tx ++ [{ frame := stagedFrame n s }] := by
  rw [canPush_room h, setCanTx_cn]
  have hl : ((s.cn n).tx ++ [({ frame := stagedFrame n s } : CanEntry)]).length = (s.cn n).tx.length + 1 := List.length_append
  exact ⟨(setCanTx_level (by omega)).trans hl, rfl⟩

theorem syncStretches_cn (s : State) (m : Nat) : (syncStretches s).cn m = s.cn m := by
  obtain ⟨_, _, he⟩ := (onlyStretch_syncStretches s).only
  rw [he]
  rfl

theorem push_leaves (n : Fin 4) {v : View} (ha : accepted v (CAN_TXCTL n) (withField s (CAN_TXCTL n) CAN_TXCTL_PUSH 1) s = true)
    (hb : s.flag (CAN_TXCTL n) CAN_TXCTL_ABORT = false) : ∃ t, exec (.push v n) s = .next t ∧
      ((s.cn n).tx.length < 32 → t.fld (CAN_TXCTL n) CAN_TXCTL_LEVEL = (s.cn n).tx.length + 1 ∧
        (t.cn n).tx = (s.cn n).tx ++ [{ frame := stagedFrame n s }]) ∧
      (32 ≤ (s.cn n).tx.length → (t.cn n).tx = (s.cn n).tx ∧ t.flag (CAN_STAT n) CAN_STAT_TXFULL = true ∧
        t.evPending (evCom (4 + n)) = true) := by
  have hreg := plainRegister_register (register_canTxctl n)
  have hp := written_flag hreg ha (by decide) (by decide)
  have hab := (written_bit (f := CAN_TXCTL_ABORT) hreg ha (by decide) (by decide)).trans ((bit_put_apart (by decide) _ _).trans hb)
  generalize hu : txctlTaken n (writtenWord v (CAN_TXCTL n) (withField s (CAN_TXCTL n) CAN_TXCTL_PUSH 1) s) s = u
  have heq : exec (.push v n) s = .next (syncStretches (canPush n u)) := by
    rw [← hu]
    exact (fieldCmd_written (register_canTxctl n) ha).trans
      (congrArg (fun t => Host.Outcome.next (syncStretches t)) (wrote_push n _ _ _ hab hp))
  have hcn : u.cn n = s.cn n := by rw [← hu]; rfl
  have hst : stagedFrame n u = stagedFrame n s := stagedFrame_congr fun o ho => by rw [← hu]; exact txctlTaken_rd _ ho
  have haw : u.awake = true := by rw [← hu, txctlTaken_awake]; exact awake_of_accepted ha
  clear hu
  refine ⟨_, heq, fun hl => ?_, fun hl => ?_⟩
  · rw [syncStretches_fld, syncStretches_cn, ← hst, ← hcn]
    exact canPush_joins (by rwa [hcn])
  · rw [canPush_full (by rwa [hcn]), syncStretches_cn, syncStretches_flag, syncStretches_evPending, canFlag_cn, hcn]
    exact ⟨rfl, canFlag_noted n.isLt haw (by decide)⟩

theorem writeCmd_inTx {v : View} {o : Nat} {c : Card} {ix : List Nat} {data : Word} {inTx : Bool} (h : plainRegister o c ix = true)
    (ha : accepted v o data s = true) : writeCmd v o data { inTx := inTx } none s =
      .next (syncStretches (wrote o (s.rd o) (writtenWord v o data s) (s.countNow (ix.headD 0)) { inTx := inTx } s
        (s.wr o (writtenWord v o data s)))) := by
  unfold writeCmd
  rw [if_pos (awake_of_accepted ha)]
  change settled (writeReg v o data { inTx := inTx } none (s.at 0)) = _
  rw [at_zero, writeReg_written h ⟨rfl, rfl⟩ ha]
  rfl

/-- An abort while the head is in transmission is kept; else the head goes (R340). -/
theorem canAbort_leaves (hn : n < 4) {e : CanEntry} {rest : List CanEntry} (h : (s.cn n).tx = e :: rest) (inTx : Bool) :
    (inTx = true → ((canAbort n inTx s).cn n).tx = (s.cn n).tx ∧ ((canAbort n inTx s).cn n).abortPending = true) ∧
    (inTx = false → ((canAbort n inTx s).cn n).tx = rest ∧ (canAbort n inTx s).flag (CAN_STAT n) CAN_STAT_ABORTED = true) := by
  unfold canAbort
  rw [h]
  refine ⟨?_, ?_⟩ <;> rintro rfl <;> dsimp only
  · rw [if_pos rfl, updCn_cn]
    exact ⟨h, rfl⟩
  · rw [if_neg (by decide), canFlag_cn, popCan_cn h]
    exact ⟨rfl, canFlag_sets hn (by decide)⟩

theorem abort_leaves (n : Fin 4) {v : View} {inTx : Bool} {e : CanEntry} {rest : List CanEntry}
    (ha : accepted v (CAN_TXCTL n) (withField s (CAN_TXCTL n) CAN_TXCTL_ABORT 1) s = true)
    (hb : s.flag (CAN_TXCTL n) CAN_TXCTL_PUSH = false) (htx : (s.cn n).tx = e :: rest) :
    ∃ t, exec (.abort v n inTx) s = .next t ∧
      (inTx = true → (t.cn n).tx = (s.cn n).tx ∧ (t.cn n).abortPending = true) ∧
      (inTx = false → (t.cn n).tx = rest ∧ t.flag (CAN_STAT n) CAN_STAT_ABORTED = true) := by
  have hreg := plainRegister_register (register_canTxctl n)
  have hab := written_flag hreg ha (by decide) (by decide)
  have hp := (written_bit (f := CAN_TXCTL_PUSH) hreg ha (by decide) (by decide)).trans ((bit_put_apart (by decide) _ _).trans hb)
  generalize hu : txctlTaken n (writtenWord v (CAN_TXCTL n) (withField s (CAN_TXCTL n) CAN_TXCTL_ABORT 1) s) s = u
  have heq : exec (.abort v n inTx) s = .next (syncStretches (canAbort n inTx u)) := by
    rw [← hu]
    exact (writeCmd_inTx (register_canTxctl n) ha).trans
      (congrArg (fun t => Host.Outcome.next (syncStretches t)) (wrote_abort n _ _ _ hab hp))
  have hcn : u.cn n = s.cn n := by rw [← hu]; rfl
  clear hu
  refine ⟨_, heq, ?_⟩
  rw [syncStretches_cn, syncStretches_flag, ← hcn]
  exact canAbort_leaves n.isLt (by rwa [hcn]) inTx

/-! ### Error counts (R338) -/

/-- The counts of CAN_ERR and the state that they give. -/
def errShown (n tec rec_ : Nat) (s : State) : State :=
  ((s.setFld (CAN_ERR n) CAN_ERR_TEC tec).setFld (CAN_ERR n) CAN_ERR_REC rec_).setFld (CAN_ERR n) CAN_ERR_STATE
    (if 256 ≤ tec then 2 else if 128 ≤ tec ∨ 128 ≤ rec_ then 1 else 0)

/-- The counts are shown, and nothing follows but a flag of CAN_STAT. -/
theorem setCanErr_cases (n tec rec_ : Nat) (s : State) : setCanErr n tec rec_ s = errShown n tec rec_ s ∨
    ∃ f, setCanErr n tec rec_ s = canFlag n f (errShown n tec rec_ s) := by
  unfold setCanErr
  extract_lets st was u v
  split
  · exact .inr ⟨_, rfl⟩
  · split
    · exact .inr ⟨_, rfl⟩
    · exact .inl rfl

theorem errShown_rd {tec rec_ o : Nat} (h : o ≠ CAN_ERR n) : (errShown n tec rec_ s).rd o = s.rd o :=
  (rd_wr_of_ne _ _ h).trans ((rd_wr_of_ne _ _ h).trans (rd_wr_of_ne _ _ h))

theorem setCanErr_rd {tec rec_ o : Nat} (h1 : o ≠ CAN_ERR n) (h2 : o ≠ CAN_STAT n) (ho : eventRegister o = false) :
    (setCanErr n tec rec_ s).rd o = s.rd o := by
  rcases setCanErr_cases n tec rec_ s with he | ⟨f, he⟩
  · rw [he, errShown_rd h1]
  · rw [he, canFlag_rd h2 ho, errShown_rd h1]

theorem setCanErr_can (n tec rec_ : Nat) (s : State) : (setCanErr n tec rec_ s).can = s.can := by
  rcases setCanErr_cases n tec rec_ s with he | ⟨f, he⟩
  · rw [he]; rfl
  · rw [he, canFlag_can]; rfl

theorem setCanErr_cn (n tec rec_ : Nat) (s : State) (m : Nat) : (setCanErr n tec rec_ s).cn m = s.cn m := by
  rw [State.cn, setCanErr_can, State.cn]

theorem setCanErr_awake (n tec rec_ : Nat) (s : State) : (setCanErr n tec rec_ s).awake = s.awake := by
  rcases setCanErr_cases n tec rec_ s with he | ⟨f, he⟩
  · rw [he]; rfl
  · rw [he, canFlag_awake]; rfl

theorem setCanErr_ofs (n tec rec_ : Nat) (s : State) : (setCanErr n tec rec_ s).cpl.ofs = s.cpl.ofs := by
  rcases setCanErr_cases n tec rec_ s with he | ⟨f, he⟩
  · rw [he]; rfl
  · rw [he, canFlag_ofs]; rfl

/-- The counts and the state that CAN_ERR shows. -/
def ErrCounts (n tec rec_ : Nat) (t : State) : Prop := t.fld (CAN_ERR n) CAN_ERR_TEC = tec ∧ t.fld (CAN_ERR n) CAN_ERR_REC = rec_ ∧
  t.fld (CAN_ERR n) CAN_ERR_STATE = if 255 < tec then 2 else if 127 < tec ∨ 127 < rec_ then 1 else 0

theorem ErrCounts.congr {tec rec_ : Nat} (h : ErrCounts n tec rec_ s) (hr : t.rd (CAN_ERR n) = s.rd (CAN_ERR n)) :
    ErrCounts n tec rec_ t := by
  obtain ⟨h1, h2, h3⟩ := h
  exact ⟨(congrArg CAN_ERR_TEC.get hr).trans h1, (congrArg CAN_ERR_REC.get hr).trans h2, (congrArg CAN_ERR_STATE.get hr).trans h3⟩

theorem errShown_counts {tec rec_ : Nat} (ht : tec < 512) (hr : rec_ < 256) : ErrCounts n tec rec_ (errShown n tec rec_ s) := by
  refine ⟨?_, ?_, ?_⟩
  · exact (fld_setFld_apart (by decide)).trans ((fld_setFld_apart (by decide)).trans
      ((fld_setFld_self _ _ _ _ (by decide)).trans (Nat.mod_eq_of_lt ht)))
  · exact (fld_setFld_apart (by decide)).trans ((fld_setFld_self _ _ _ _ (by decide)).trans (Nat.mod_eq_of_lt hr))
  · refine (fld_setFld_self _ _ _ _ (by decide)).trans (Nat.mod_eq_of_lt ?_)
    simp only [CAN_ERR_STATE]
    split
    · decide
    · split <;> decide

theorem setCanErr_counts (hn : n < 4) {tec rec_ : Nat} (ht : tec < 512) (hr : rec_ < 256) :
    ErrCounts n tec rec_ (setCanErr n tec rec_ s) := by
  have h := errShown_counts (n := n) (s := s) ht hr
  rcases setCanErr_cases n tec rec_ s with he | ⟨f, he⟩
  · rwa [he]
  · rw [he]
    exact h.congr (canFlag_rd (by simp only [CAN_ERR, CAN_STAT]; omega) (canErr_event hn))

/-- Bus-off that begins is reported (R338). -/
theorem setCanErr_busOff (hn : n < 4) {tec rec_ : Nat} (ht : 255 < tec) (ha : s.awake = true)
    (hs : s.fld (CAN_ERR n) CAN_ERR_STATE ≠ 2) : (setCanErr n tec rec_ s).flag (CAN_STAT n) CAN_STAT_BUSOFF = true ∧
      (setCanErr n tec rec_ s).evPending (evCom (4 + n)) = true := by
  have he : setCanErr n tec rec_ s = canFlag n CAN_STAT_BUSOFF (errShown n tec rec_ s) := if_pos ⟨if_pos ht, hs⟩
  rw [he]
  exact canFlag_noted hn ha (by decide)

theorem canSentOk_rd {o : Nat} (h1 : o ≠ CAN_ERR n) (h2 : o ≠ CAN_STAT n) (ho : eventRegister o = false) :
    (canSentOk n s).rd o = s.rd o := setCanErr_rd h1 h2 ho
theorem canSentOk_cn (n : Nat) (s : State) (m : Nat) : (canSentOk n s).cn m = s.cn m := setCanErr_cn ..
theorem canSentOk_awake (n : Nat) (s : State) : (canSentOk n s).awake = s.awake := setCanErr_awake ..

/-! ### The end of a frame (R338, R340) -/

theorem canActive_awake (h : s.canActive n = true) : s.awake = true := by
  simp only [State.canActive, Bool.and_eq_true] at h
  exact h.1.1.1

theorem canActive_state (h : s.canActive n = true) : s.fld (CAN_ERR n) CAN_ERR_STATE ≠ 2 := by
  simp only [State.canActive, Bool.and_eq_true] at h
  exact of_decide_eq_true h.2

/-- The queue as a frame that was sent leaves it. -/
def headSent (n : Nat) (s : State) : State := popCan n (s.updCn n (fun x => { x with abortPending := false, lastFrame := false }))

theorem canTxctl_event (hn : n < 4) : eventRegister (CAN_TXCTL n) = false :=
  eventRegister_apart (by simp only [CAN_TXCTL]; omega) (by simp only [CAN_TXCTL]; omega)

theorem popCan_sent {e : CanEntry} {rest : List CanEntry} (h : (s.cn n).tx = e :: rest) :
    (popCan n s).fld (CAN_TXCTL n) CAN_TXCTL_SENT = s.fld (CAN_TXCTL n) CAN_TXCTL_SENT := by
  have hq : (setCanTx n rest s).fld (CAN_TXCTL n) CAN_TXCTL_SENT = s.fld (CAN_TXCTL n) CAN_TXCTL_SENT :=
    fld_setFld_apart (s := s.updCn n _) (by decide)
  unfold popCan
  rw [h]
  dsimp only
  split
  · next c _ => exact (fld_setFlag_ne (by simp only [CAN_TXCTL, GRD_TXCTL]; omega)).trans hq
  · exact hq

theorem txdone_leaves (n : Fin 4) {e : CanEntry} {rest : List CanEntry} (hact : s.canActive n = true) (htx : (s.cn n).tx = e :: rest) :
    ∃ t, exec (.txdone n) s = .next t ∧ (t.cn n).tx = rest ∧ t.flag (CAN_STAT n) CAN_STAT_TXDONE = true ∧
      t.evPending (evCom (4 + n)) = true ∧ (∀ c, e.conn = some c → t.flag (GRD_TXCTL c) GRD_TXCTL_BUSY = false) ∧
      t.fld (CAN_TXCTL n) CAN_TXCTL_SENT = (s.fld (CAN_TXCTL n) CAN_TXCTL_SENT + 1) % 256 := by
  let u := (canSentOk n (headSent n s)).rcWrap (CAN_TXCTL n) CAN_TXCTL_SENT
  have heq : exec (.txdone n) s = .next (canFlag n CAN_STAT_TXDONE u) := by
    change execTxdone n s = _
    unfold execTxdone
    rw [htx]
    exact if_pos hact
  have htx0 : ((s.updCn n (fun x => { x with abortPending := false, lastFrame := false })).cn n).tx = e :: rest := by
    rw [updCn_cn]
    exact htx
  have hcn : (u.cn n).tx = rest := by
    change ((canSentOk n (headSent n s)).cn n).tx = rest
    rw [canSentOk_cn, headSent, popCan_cn htx0]
  have haw : u.awake = true := by
    change (canSentOk n (headSent n s)).awake = true
    rw [canSentOk_awake, headSent, popCan_awake]
    exact canActive_awake (s := s) hact
  obtain ⟨hflag, hpend⟩ := canFlag_noted (f := CAN_STAT_TXDONE) n.isLt haw (by decide)
  refine ⟨_, heq, by rwa [canFlag_cn], hflag, hpend, fun c hc => ?_, ?_⟩
  · have hev : eventRegister (GRD_TXCTL c) = false :=
      eventRegister_apart (by simp only [GRD_TXCTL]; omega) (by simp only [GRD_TXCTL]; omega)
    refine (canFlag_flag (by simp only [GRD_TXCTL, CAN_STAT]; omega) hev).trans
      ((flag_setFld_ne (by simp only [GRD_TXCTL, CAN_TXCTL]; omega)).trans ?_)
    refine (congrArg GRD_TXCTL_BUSY.bit (canSentOk_rd (by simp only [GRD_TXCTL, CAN_ERR]; omega)
      (by simp only [GRD_TXCTL, CAN_STAT]; omega) hev)).trans ?_
    exact popCan_busy htx0 hc
  · refine (canFlag_fld (by simp only [CAN_TXCTL, CAN_STAT]; omega) (canTxctl_event n.isLt)).trans
      ((fld_setFld_self _ _ _ _ (by decide)).trans (congrArg (fun k => (k + 1) % 256) ?_))
    refine (congrArg CAN_TXCTL_SENT.get (canSentOk_rd (by simp only [CAN_TXCTL, CAN_ERR]; omega)
      (by simp only [CAN_TXCTL, CAN_STAT]; omega) (canTxctl_event n.isLt))).trans ?_
    exact popCan_sent htx0

theorem lostArbitration_leaves (n : Fin 4) {e : CanEntry} {rest : List CanEntry} (hact : s.canActive n = true)
    (htx : (s.cn n).tx = e :: rest) : ∃ t, exec (.lostArbitration n) s = .next t ∧
      ((s.cn n).abortPending = true → (t.cn n).tx = rest ∧ t.flag (CAN_STAT n) CAN_STAT_ABORTED = true) ∧
      ((s.cn n).abortPending = false → s.flag (CAN_CFG n) CAN_CFG_DAR = true → (t.cn n).tx = rest) ∧
      ((s.cn n).abortPending = false → s.flag (CAN_CFG n) CAN_CFG_DAR = false → t = s) := by
  refine ⟨headFails n s, if_pos (by rw [hact, htx]; rfl), fun h => ?_, fun h hd => ?_, fun h hd => ?_⟩
  · have htx0 : ((s.updCn n (fun y => { y with abortPending := false })).cn n).tx = e :: rest := by
      rw [updCn_cn]
      exact htx
    rw [headFails, if_pos h, canFlag_cn, popCan_cn htx0]
    exact ⟨rfl, canFlag_sets n.isLt (by decide)⟩
  · rw [headFails, if_neg (by rw [h]; decide), if_pos hd, popCan_cn htx]
  · rw [headFails, if_neg (by rw [h]; decide), if_neg (by rw [hd]; decide)]

/-! ### Errors, recovery and the time master (R338, R339, R344) -/

theorem busError_counts (n : Fin 4) (e : CanErr) (hact : s.canActive n = true) (hp : e.protExc = false) :
    ∃ t, exec (.canBusError n e) s = .next t ∧ ErrCounts n e.tec.toNat e.recv.toNat t ∧
      (255 < e.tec.toNat → t.flag (CAN_STAT n) CAN_STAT_BUSOFF = true ∧ t.evPending (evCom (4 + n)) = true) := by
  let u := setCanErr n e.tec.toNat e.recv.toNat (canFrameEnd n s)
  have heq : exec (.canBusError n e) s = .next (if (e.ofHead || decide (s.tec n < e.tec.toNat)) = true then headFails n u else u) := by
    change execCanBusError n e s = _
    unfold execCanBusError
    rw [if_neg (by rw [hact]; decide), if_neg (by rw [hp]; decide)]
  have hw : Writes (canMarks n) u (if (e.ofHead || decide (s.tec n < e.tec.toNat)) = true then headFails n u else u) :=
    .ite (headFails_writes n u) .refl
  refine ⟨_, heq, ?_, fun h => ?_⟩
  · exact (setCanErr_counts n.isLt e.tec.isLt e.recv.isLt).congr (hw.rd _ (canMarks_err n) (canErr_event n.isLt))
  · obtain ⟨hf, hpend⟩ := setCanErr_busOff (s := canFrameEnd n s) (rec_ := e.recv.toNat) n.isLt h (canActive_awake (s := s) hact)
      (canActive_state (s := s) hact)
    exact ⟨hw.keepsFlag (canMarks_stat n) (Nat.zero_le _) (by decide) (eventCounter_of_event (canStat_event n.isLt)) hf,
      hw.pending (canMarks_pend n.isLt) (evCom_can n.isLt) hpend⟩

theorem busError_protExc (n : Fin 4) (e : CanErr) (hact : s.canActive n = true) (hp : e.protExc = true)
    (hx : s.flag (CAN_CFG n) CAN_CFG_PXHE = true) :
    ∃ t, exec (.canBusError n e) s = .next t ∧ t.flag (CAN_STAT n) CAN_STAT_PROTEXC = true := by
  refine ⟨canFlag n CAN_STAT_PROTEXC (canFrameEnd n s), ?_, canFlag_sets n.isLt (by decide)⟩
  change execCanBusError n e s = _
  unfold execCanBusError
  rw [if_neg (by rw [hact]; decide), if_pos hp, if_pos hx]

theorem recovery_counts (n : Fin 4) (ha : s.awake = true) (he : s.flag (CAN_CFG n) CAN_CFG_EN = true)
    (hx : s.flag SYS_CLK SYS_CLK_XOK = true) (hst : 2 ≤ s.fld (CAN_ERR n) CAN_ERR_STATE) :
    let kept := s.fld (CAN_ERR n) CAN_ERR_STATE = 3 ∧ s.fld (CAN_ERR n) CAN_ERR_TEC < 256
    let tec := if kept then s.fld (CAN_ERR n) CAN_ERR_TEC else 0
    let rec_ := if kept then s.fld (CAN_ERR n) CAN_ERR_REC else 0
    ∃ t, exec (.busOffRecovery n) s = .next t ∧ t.fld (CAN_ERR n) CAN_ERR_TEC = tec ∧ t.fld (CAN_ERR n) CAN_ERR_REC = rec_ ∧
      t.fld (CAN_ERR n) CAN_ERR_STATE = if 127 < tec ∨ 127 < rec_ then 1 else 0 := by
  intro kept tec rec_
  have htec : tec < 256 := by
    simp only [tec]
    split
    · next h => exact h.2
    · decide
  have hrec : rec_ < 256 := by
    simp only [rec_]
    split
    · exact get_lt CAN_ERR_REC _
    · decide
  have heq : exec (.busOffRecovery n) s = .next (setCanErr n tec rec_ s) := by
    refine (if_pos (by rw [ha, he, hx, decide_eq_true hst]; rfl)).trans (congrArg Host.Outcome.next ?_)
    simp only [tec, rec_]
    by_cases hk : kept
    · rw [if_pos hk, if_pos hk]
      exact if_pos hk
    · rw [if_neg hk, if_neg hk]
      exact if_neg hk
  obtain ⟨h1, h2, h3⟩ := setCanErr_counts (s := s) n.isLt (by omega : tec < 512) hrec
  exact ⟨_, heq, h1, h2, h3.trans (if_neg (by omega))⟩

theorem referenceSkipped (n : Fin 4) (hact : s.canActive n = true) (hm : s.flag (CAN_TMCFG n) CAN_TMCFG_TMEN = true) :
    ∃ t, exec (.referenceMessage n .skipped) s = .next t ∧ t.flag (CAN_STAT n) CAN_STAT_REFSKIP = true ∧
      (t.cn n).refCount = (s.cn n).refCount := by
  refine ⟨canFlag n CAN_STAT_REFSKIP s, if_pos (by rw [hact, hm]; rfl), canFlag_sets n.isLt (by decide), ?_⟩
  rw [canFlag_cn]

theorem referenceSent (n : Fin 4) (sof : Nat) (hact : s.canActive n = true) (hm : s.flag (CAN_TMCFG n) CAN_TMCFG_TMEN = true) :
    ∃ t, exec (.referenceMessage n (.sent sof)) s = .next t ∧ (t.cn n).refCount = ((s.cn n).refCount + 1) % 65536 ∧
      (t.cn n).refPrev = some (((sof : Int) + s.cpl.ofs).toNat / 32) := by
  refine ⟨_, if_pos (by rw [hact, hm]; rfl), ?_⟩
  rw [canSentOk_cn, updCn_cn]
  exact ⟨rfl, rfl⟩

/-! ### Reception (R341, R342) -/

theorem canQ_congr (h : t.can = s.can) (n : Nat) (b : Bool) : t.canQ n b = s.canQ n b := by
  rw [State.canQ, State.canQ, State.cn, State.cn, h]

theorem canFlag_canQ (n : Nat) (f : Fld) (s : State) (m : Nat) (b : Bool) : (canFlag n f s).canQ m b = s.canQ m b :=
  canQ_congr (canFlag_can ..) m b

/-- The words of a received frame's data, in the registers of its queue. -/
def rxWords (n q : Nat) (data : List Byte) (t : State) : State :=
  each (List.range 16) (fun k u => u.wr (CAN_RXDATA n q k) (word (Machine.bytesAt data (4 * k) 4))) t

theorem rxWords_can (n q : Nat) (data : List Byte) (s : State) : (rxWords n q data s).can = s.can :=
  Same.each (f := State.can) .refl fun _ _ _ => rfl

theorem rxWords_awake (n q : Nat) (data : List Byte) (s : State) : (rxWords n q data s).awake = s.awake :=
  Same.each (f := State.awake) .refl fun _ _ _ => rfl

theorem rxWords_rd (n q : Nat) (data : List Byte) (s : State) {o : Nat} (h : ∀ k < 16, o ≠ CAN_RXDATA n q k) :
    (rxWords n q data s).rd o = s.rd o :=
  Same.each (f := fun t => t.rd o) .refl fun k hk _ => rd_wr_of_ne _ _ (h k (List.mem_range.mp hk))

theorem showHead_can (n : Nat) (b : Bool) (s : State) : (showHead n b s).can = s.can := by
  unfold showHead
  dsimp only
  split
  · exact rxWords_can n (b2n b) [] _
  · next e _ _ => exact rxWords_can n (b2n b) e.frame.data _

theorem showHead_awake (n : Nat) (b : Bool) (s : State) : (showHead n b s).awake = s.awake := by
  unfold showHead
  dsimp only
  split
  · exact rxWords_awake n (b2n b) [] _
  · next e _ _ => exact rxWords_awake n (b2n b) e.frame.data _

/-- A queue that holds an entry shows ND (R342). -/
theorem showHead_nd {b : Bool} {e : CanEntry} {rest : List CanEntry} (h : s.canQ n b = e :: rest) :
    (showHead n b s).flag (CAN_RXHDR n (b2n b)) CAN_RXHDR_ND = true := by
  have hne : ∀ k < 16, CAN_RXHDR n (b2n b) ≠ CAN_RXDATA n (b2n b) k := fun k hk => by
    simp only [CAN_RXHDR, CAN_RXDATA]
    omega
  unfold showHead
  rw [h]
  dsimp only
  refine (congrArg CAN_RXHDR_ND.bit ((rxWords_rd n (b2n b) e.frame.data _ hne).trans ((rd_wr_of_ne _ _ ?_).trans
    ((rd_wr_of_ne _ _ ?_).trans (rd_wr_self ..))))).trans ?_
  · simp only [CAN_RXHDR, CAN_RXTS]; omega
  · simp only [CAN_RXHDR, CAN_RXID]; omega
  · repeat rw [bit_put_apart (by decide)]
    rw [bit_put_self _ _ _ (by decide) (by decide)]
    rfl

theorem setCanRx_canQ (n : Nat) (b : Bool) (q : List CanEntry) (s : State) : (setCanRx n b q s).canQ n b = q := by
  rw [setCanRx, canQ_congr (showHead_can ..), State.canQ, updCn_cn]
  cases b <;> rfl

theorem setCanRx_canQ_other (n : Nat) (b : Bool) (q : List CanEntry) (s : State) : (setCanRx n b q s).canQ n (!b) = s.canQ n (!b) := by
  rw [setCanRx, canQ_congr (showHead_can ..), State.canQ, updCn_cn]
  cases b <;> rfl

theorem setCanRx_nd (n : Nat) (b : Bool) {q : List CanEntry} (hq : q ≠ []) (s : State) :
    (setCanRx n b q s).flag (CAN_RXHDR n (b2n b)) CAN_RXHDR_ND = true := by
  obtain ⟨e, rest, rfl⟩ := List.exists_cons_of_ne_nil hq
  refine showHead_nd (e := e) (rest := rest) ?_
  rw [State.canQ, updCn_cn]
  cases b <;> rfl

theorem setCanRx_awake (n : Nat) (b : Bool) (q : List CanEntry) (s : State) : (setCanRx n b q s).awake = s.awake :=
  showHead_awake ..

/-- The entry that a frame becomes in its queue. -/
def rxEntry (n : Nat) (b : Bool) (filt ts : Nat) (f : CanFrame) (s : State) : CanEntry :=
  { frame := f, ts := ts, tag := ((if b then (s.cn n).writtenB else (s.cn n).writtenA) + 1) % 256, filt := filt }

/-- A state in which the queue has counted one entry more. -/
def rxCounted (n : Nat) (b : Bool) (s : State) : State :=
  let w := ((if b then (s.cn n).writtenB else (s.cn n).writtenA) + 1) % 256
  s.updCn n (fun x => if b then { x with writtenB := w } else { x with writtenA := w })

theorem rxCounted_canQ (n : Nat) (b : Bool) (s : State) (b' : Bool) : (rxCounted n b s).canQ n b' = s.canQ n b' := by
  rw [rxCounted, State.canQ, updCn_cn]
  cases b <;> rfl

/-- The flag of CAN_STAT that a queue raises. -/
def rxFlag (b : Bool) : Fld := if b then CAN_STAT_RXB else CAN_STAT_RXA

theorem rxFlag_low (b : Bool) : (rxFlag b).lo < 24 ∧ 0 < (rxFlag b).len := by cases b <;> decide

/-- A frame joins a queue. -/
def rxJoined (n : Nat) (b : Bool) (filt ts : Nat) (f : CanFrame) (q : List CanEntry) (s : State) : State :=
  canFlag n (rxFlag b) (setCanRx n b (q ++ [rxEntry n b filt ts f s]) (rxCounted n b s))

theorem rxJoined_canQ {b : Bool} {filt ts : Nat} {f : CanFrame} {q : List CanEntry} :
    (rxJoined n b filt ts f q s).canQ n b = q ++ [rxEntry n b filt ts f s] := by
  rw [rxJoined, canFlag_canQ, setCanRx_canQ]

/-- A full queue counts the frame first. -/
def rxLost (n : Nat) (s : State) : State := canFlag n CAN_STAT_RXLOST (s.rc (CAN_CNT n) CAN_CNT_LOST)

/-- Whether a full queue gives up its oldest entry (R342). -/
def rxOverwrites (n : Nat) (b : Bool) (s : State) : Bool := s.flag (CAN_CFG n) (if b then CAN_CFG_OVWB else CAN_CFG_OVWA)

theorem canQueue_eq {b : Bool} {filt ts : Nat} {f : CanFrame} : canQueue n b filt ts f s =
    (let full := decide (64 ≤ (s.canQ n b).length)
     let u := if full then rxLost n s else s
     if full && !rxOverwrites n b s then u
     else rxJoined n b filt ts f (if full then (s.canQ n b).tail else s.canQ n b) u) := rfl

theorem canQueue_room {b : Bool} {filt ts : Nat} {f : CanFrame} (h : (s.canQ n b).length < 64) :
    canQueue n b filt ts f s = rxJoined n b filt ts f (s.canQ n b) s := by
  rw [canQueue_eq, decide_eq_false (by omega)]
  rfl

theorem canQueue_full {b : Bool} {filt ts : Nat} {f : CanFrame} (h : 64 ≤ (s.canQ n b).length) : canQueue n b filt ts f s =
    if rxOverwrites n b s then rxJoined n b filt ts f (s.canQ n b).tail (rxLost n s) else rxLost n s := by
  rw [canQueue_eq, decide_eq_true h]
  cases rxOverwrites n b s <;> rfl

theorem canQueue_joins (hn : n < 4) {b : Bool} {filt ts : Nat} {f : CanFrame} (ha : s.awake = true) (h : (s.canQ n b).length < 64) :
    (canQueue n b filt ts f s).evPending (evCom (4 + n)) = true ∧ (canQueue n b filt ts f s).flag (CAN_STAT n) (rxFlag b) = true ∧
      (canQueue n b filt ts f s).canQ n (!b) = s.canQ n (!b) ∧
      (canQueue n b filt ts f s).flag (CAN_RXHDR n (b2n b)) CAN_RXHDR_ND = true ∧
      ∃ e, (canQueue n b filt ts f s).canQ n b = s.canQ n b ++ [e] ∧ e.frame = f ∧ e.filt = filt ∧ e.ts = ts := by
  rw [canQueue_room h]
  have haw : (setCanRx n b (s.canQ n b ++ [rxEntry n b filt ts f s]) (rxCounted n b s)).awake = true := (setCanRx_awake ..).trans ha
  obtain ⟨hflag, hpend⟩ := canFlag_noted hn haw (rxFlag_low b)
  refine ⟨hpend, hflag, ?_, ?_, _, rxJoined_canQ, rfl, rfl, rfl⟩
  · rw [rxJoined, canFlag_canQ, setCanRx_canQ_other, rxCounted_canQ]
  · have hb : b2n b ≤ 1 := by cases b <;> decide
    refine (canFlag_flag (by simp only [CAN_RXHDR, CAN_STAT]; omega) (eventRegister_apart (by simp only [CAN_RXHDR]; omega)
      (by simp only [CAN_RXHDR]; omega))).trans ?_
    exact setCanRx_nd n b (by simp) _

theorem canCnt_event (hn : n < 4) : eventRegister (CAN_CNT n) = false :=
  eventRegister_apart (by simp only [CAN_CNT]; omega) (by simp only [CAN_CNT]; omega)

theorem canCnt_stat (n : Nat) : CAN_CNT n ≠ CAN_STAT n := by simp only [CAN_CNT, CAN_STAT]; omega

/-- A count of 16 bits saturates (R33). -/
theorem fld_rc_sixteen (o : Nat) {f : Fld} (hl : f.len = 16) (hf : f.lo ≤ 16) : (s.rc o f).fld o f = min (s.fld o f + 1) 65535 := by
  refine (fld_setFld_self _ _ _ _ (by omega)).trans ?_
  rw [hl]
  exact Nat.mod_eq_of_lt (by omega)

theorem rxLost_leaves (hn : n < 4) : (rxLost n s).flag (CAN_STAT n) CAN_STAT_RXLOST = true ∧
    (rxLost n s).fld (CAN_CNT n) CAN_CNT_LOST = min (s.fld (CAN_CNT n) CAN_CNT_LOST + 1) 65535 :=
  ⟨canFlag_sets hn (by decide), (canFlag_fld (canCnt_stat n) (canCnt_event hn)).trans (fld_rc_sixteen _ rfl (by decide))⟩

theorem rxLost_canQ (n : Nat) (b : Bool) (s : State) (m : Nat) : (rxLost n s).canQ m b = s.canQ m b := canFlag_canQ ..

/-- Joining a queue keeps the count and the flag of the loss. -/
theorem rxJoined_keeps (hn : n < 4) {b : Bool} {filt ts : Nat} {f : CanFrame} {q : List CanEntry} :
    (s.flag (CAN_STAT n) CAN_STAT_RXLOST = true → (rxJoined n b filt ts f q s).flag (CAN_STAT n) CAN_STAT_RXLOST = true) ∧
    (rxJoined n b filt ts f q s).fld (CAN_CNT n) CAN_CNT_LOST = s.fld (CAN_CNT n) CAN_CNT_LOST := by
  have hrd : ∀ o, o < CAN_RXHDR n (b2n b) → (setCanRx n b (q ++ [rxEntry n b filt ts f s]) (rxCounted n b s)).rd o = s.rd o := by
    intro o ho
    simp only [CAN_RXHDR] at ho
    have hne : ∀ k < 16, o ≠ CAN_RXDATA n (b2n b) k := fun k hk => by simp only [CAN_RXDATA]; omega
    have h1 : o ≠ CAN_RXHDR n (b2n b) := by simp only [CAN_RXHDR]; omega
    have h2 : o ≠ CAN_RXID n (b2n b) := by simp only [CAN_RXID]; omega
    have h3 : o ≠ CAN_RXTS n (b2n b) := by simp only [CAN_RXTS]; omega
    unfold setCanRx showHead
    dsimp only
    split
    · exact (rxWords_rd n (b2n b) [] _ hne).trans ((rd_wr_of_ne _ _ h3).trans ((rd_wr_of_ne _ _ h2).trans (rd_wr_of_ne _ _ h1)))
    · next e _ _ =>
      exact (rxWords_rd n (b2n b) e.frame.data _ hne).trans ((rd_wr_of_ne _ _ h3).trans ((rd_wr_of_ne _ _ h2).trans (rd_wr_of_ne _ _ h1)))
  refine ⟨fun h => ?_, ?_⟩
  · exact (canFlag_writes n _ _).keepsFlag (canMarks_stat n) (Nat.zero_le _) (by decide) (eventCounter_of_event (canStat_event hn))
      ((congrArg CAN_STAT_RXLOST.bit (hrd _ (by simp only [CAN_STAT, CAN_RXHDR]; omega))).trans h)
  · exact (canFlag_fld (canCnt_stat n) (canCnt_event hn)).trans
      (congrArg CAN_CNT_LOST.get (hrd _ (by simp only [CAN_CNT, CAN_RXHDR]; omega)))

theorem canQueue_loses (hn : n < 4) {b : Bool} {filt ts : Nat} {f : CanFrame} (h : 64 ≤ (s.canQ n b).length) :
    (canQueue n b filt ts f s).flag (CAN_STAT n) CAN_STAT_RXLOST = true ∧
      (canQueue n b filt ts f s).fld (CAN_CNT n) CAN_CNT_LOST = min (s.fld (CAN_CNT n) CAN_CNT_LOST + 1) 65535 ∧
      (rxOverwrites n b s = false → (canQueue n b filt ts f s).canQ n b = s.canQ n b) ∧
      (rxOverwrites n b s = true → ∃ e, (canQueue n b filt ts f s).canQ n b = (s.canQ n b).tail ++ [e] ∧ e.frame = f) := by
  obtain ⟨hflag, hcnt⟩ := rxLost_leaves (s := s) hn
  rw [canQueue_full h]
  cases ho : rxOverwrites n b s with
  | false => exact ⟨hflag, hcnt, fun _ => rxLost_canQ .., fun h => absurd h (by decide)⟩
  | true =>
    obtain ⟨hk, hc⟩ := rxJoined_keeps (s := rxLost n s) hn (b := b) (filt := filt) (ts := ts) (f := f) (q := (s.canQ n b).tail)
    exact ⟨hk hflag, hc.trans hcnt, fun h => absurd h (by decide), fun _ => ⟨_, rxJoined_canQ, rfl⟩⟩

/-- The state in which a received frame is judged: its frame over and its count down. -/
def rxJudged (n sof : Nat) (s : State) : State := canGotOk n (canFrameEnd n (s.at sof))

theorem rxJudged_rd {sof o : Nat} (h1 : o ≠ CAN_ERR n) (h2 : o ≠ CAN_STAT n) (ho : eventRegister o = false) :
    (rxJudged n sof s).rd o = s.rd o := setCanErr_rd (s := (canFrameEnd n (s.at sof)).drew 1) h1 h2 ho

theorem rxJudged_canQ (n sof : Nat) (s : State) (b : Bool) : (rxJudged n sof s).canQ n b = s.canQ n b := by
  rw [rxJudged, canGotOk, canQ_congr (setCanErr_can ..)]
  change (canFrameEnd n (s.at sof)).canQ n b = _
  rw [canFrameEnd, State.canQ, updCn_cn]
  cases b <;> rfl

theorem rxJudged_ofs (n sof : Nat) (s : State) : (rxJudged n sof s).cpl.ofs = s.cpl.ofs := setCanErr_ofs ..
theorem rxJudged_awake (n sof : Nat) (s : State) : (rxJudged n sof s).awake = s.awake := setCanErr_awake ..

theorem rxJudged_guard {sof : Nat} (f : CanFrame) : (rxJudged n sof s).grdCanMatch n f = s.grdCanMatch n f := by
  refine List.find?_congr fun c hc => ?_
  have hc8 := List.mem_range.mp hc
  have hadr : (rxJudged n sof s).rd (GRD_RXADR c) = s.rd (GRD_RXADR c) := rxJudged_rd (by simp only [GRD_RXADR, CAN_ERR]; omega)
    (by simp only [GRD_RXADR, CAN_STAT]; omega) (eventRegister_apart (by simp only [GRD_RXADR]; omega) (by simp only [GRD_RXADR]; omega))
  have hcfg : (rxJudged n sof s).rd (GRD_RXCFG c) = s.rd (GRD_RXCFG c) := rxJudged_rd (by simp only [GRD_RXCFG, CAN_ERR]; omega)
    (by simp only [GRD_RXCFG, CAN_STAT]; omega) (eventRegister_apart (by simp only [GRD_RXCFG]; omega) (by simp only [GRD_RXCFG]; omega))
  simp only [State.grdEn, State.flag, State.fld, hadr, hcfg]
  rfl

theorem rxJudged_fltmatch {sof : Nat} (hn : n < 4) {k : Nat} (hk : k < 64) :
    (rxJudged n sof s).rd (CAN_FLTMATCH n k) = s.rd (CAN_FLTMATCH n k) :=
  rxJudged_rd (by simp only [CAN_FLTMATCH, CAN_ERR]; omega) (by simp only [CAN_FLTMATCH, CAN_STAT]; omega)
    (eventRegister_apart (by simp only [CAN_FLTMATCH]; omega) (by simp only [CAN_FLTMATCH]; omega))

theorem rxJudged_filter {sof : Nat} (hn : n < 4) (f : CanFrame) : (rxJudged n sof s).canFilter n f = s.canFilter n f := by
  refine List.find?_congr fun k hk => ?_
  have hk64 := List.mem_range.mp hk
  have hmask : (rxJudged n sof s).rd (CAN_FLTMASK n k) = s.rd (CAN_FLTMASK n k) := rxJudged_rd
    (by simp only [CAN_FLTMASK, CAN_ERR]; omega) (by simp only [CAN_FLTMASK, CAN_STAT]; omega)
    (eventRegister_apart (by simp only [CAN_FLTMASK]; omega) (by simp only [CAN_FLTMASK]; omega))
  rw [rxJudged_fltmatch hn hk64, hmask]

/-- A frame that no Guard connection takes goes by the filters. -/
theorem canFrameReceived_eq (n : Fin 4) (f : CanFrame) (sof : Nat) (hact : s.canActive n = true)
    (hfd : f.fdf = true → s.flag (CAN_CFG n) CAN_CFG_FDEN = true) (hg : s.grdCanMatch n f = none) :
    exec (.canFrameReceived n f sof) s = match s.canFilter n f with
      | some k => .next (canQueue n ((rxJudged n sof s).flag (CAN_FLTMATCH n k) CAN_FLTMATCH_DEST) k
          (((sof : Int) + (rxJudged n sof s).cpl.ofs).toNat / 32 % 2 ^ 32) f (rxJudged n sof s))
      | none => .next (canFlag n CAN_STAT_NOMATCH ((rxJudged n sof s).rc (CAN_CNT n) CAN_CNT_NOMATCH)) := by
  have hcond : ¬(!(s.at sof).canActive n || (f.fdf && !(s.at sof).flag (CAN_CFG n) CAN_CFG_FDEN)) = true := by
    have h1 : (s.at sof).canActive n = true := hact
    have h2 : (s.at sof).flag (CAN_CFG n) CAN_CFG_FDEN = s.flag (CAN_CFG n) CAN_CFG_FDEN := rfl
    rw [h1, h2]
    cases hf : f.fdf with
    | false => simp
    | true => rw [hfd hf]; decide
  have hgm : (rxJudged n sof s).grdCanMatch n f = none := (rxJudged_guard f).trans hg
  rw [← rxJudged_filter (sof := sof) n.isLt f]
  change execCanFrameReceived n f sof s = _
  unfold execCanFrameReceived
  dsimp only
  rw [if_neg hcond]
  change (match (rxJudged n sof s).grdCanMatch n f with | some c => _ | none => _) = _
  rw [hgm]
  rfl

theorem canFrameReceived_unmatched (n : Fin 4) (f : CanFrame) (sof : Nat) (hact : s.canActive n = true)
    (hfd : f.fdf = true → s.flag (CAN_CFG n) CAN_CFG_FDEN = true) (hg : s.grdCanMatch n f = none) (hk : s.canFilter n f = none) :
    ∃ t, exec (.canFrameReceived n f sof) s = .next t ∧ t.flag (CAN_STAT n) CAN_STAT_NOMATCH = true ∧
      t.fld (CAN_CNT n) CAN_CNT_NOMATCH = min (s.fld (CAN_CNT n) CAN_CNT_NOMATCH + 1) 65535 := by
  have heq := canFrameReceived_eq n f sof hact hfd hg
  rw [hk] at heq
  refine ⟨_, heq, canFlag_sets n.isLt (by decide), ?_⟩
  have hcnt : (rxJudged n sof s).rd (CAN_CNT n) = s.rd (CAN_CNT n) :=
    rxJudged_rd (by simp only [CAN_CNT, CAN_ERR]; omega) (canCnt_stat n) (canCnt_event n.isLt)
  rw [canFlag_fld (canCnt_stat n) (canCnt_event n.isLt), fld_rc_sixteen _ rfl (by decide), State.fld, hcnt]
  rfl

theorem canFrameReceived_matched (n : Fin 4) (f : CanFrame) (sof : Nat) (hact : s.canActive n = true)
    (hfd : f.fdf = true → s.flag (CAN_CFG n) CAN_CFG_FDEN = true) (hg : s.grdCanMatch n f = none) {k : Nat}
    (hk : s.canFilter n f = some k) : exec (.canFrameReceived n f sof) s = .next (canQueue n (s.flag (CAN_FLTMATCH n k) CAN_FLTMATCH_DEST)
      k (((sof : Int) + s.cpl.ofs).toNat / 32 % 2 ^ 32) f (rxJudged n sof s)) := by
  have hlt : k < 64 := List.mem_range.mp (List.mem_of_find?_eq_some hk)
  have heq := canFrameReceived_eq n f sof hact hfd hg
  have hdest : (rxJudged n sof s).flag (CAN_FLTMATCH n k) CAN_FLTMATCH_DEST = s.flag (CAN_FLTMATCH n k) CAN_FLTMATCH_DEST :=
    congrArg CAN_FLTMATCH_DEST.bit (rxJudged_fltmatch n.isLt hlt)
  rw [hk] at heq
  dsimp only at heq
  rw [rxJudged_ofs, hdest] at heq
  exact heq

theorem rxJudged_overwrites {sof : Nat} (hn : n < 4) (b : Bool) : rxOverwrites n b (rxJudged n sof s) = rxOverwrites n b s :=
  congrArg (Fld.bit _) (rxJudged_rd (by simp only [CAN_CFG, CAN_ERR]; omega) (by simp only [CAN_CFG, CAN_STAT]; omega)
    (eventRegister_apart (by simp only [CAN_CFG]; omega) (by simp only [CAN_CFG]; omega)))

/-! ### The head leaves by its tag (R342) -/

theorem register_canRxpop (n : Fin 4) (b : Bool) : plainRegister (CAN_RXPOP n (b2n b)) ⟨0x1A040C, [(0x1000, 4), (0x100, 2)], false,
    0x00000000#32, [⟨⟨0, 8⟩, .rw, false, true, .none⟩]⟩ [n.val, b2n b] = true := by
  revert n b
  decide +kernel

theorem wrote_canRxpop (n : Fin 4) (b : Bool) (old w : Word) (k : Nat) (co : CoUpdate) (before : State) :
    wrote (CAN_RXPOP n (b2n b)) old w k co before (s.wr (CAN_RXPOP n (b2n b)) w) =
      canPopTag n b (CAN_RXPOP_TAG.get w) ((s.wr (CAN_RXPOP n (b2n b)) w).wr (CAN_RXPOP n (b2n b)) 0) := by
  have hwin : CAN_RXPOP n (b2n b) / 0x10000 = 26 := by revert n b; decide
  have hn : (CAN_RXPOP n (b2n b) - 0x1A0000) / 0x1000 = n := by revert n b; decide
  have hr : CAN_RXPOP n (b2n b) % 0x1000 = if b then 0x50C else 0x40C := by revert n b; decide
  generalize CAN_RXPOP n (b2n b) = o at hwin hn hr
  have hcan : wrote o old w k co before (s.wr o w) = wroteCAN o old w co.inTx (s.wr o w) := by
    unfold wrote
    simp only [hwin]
    rfl
  rw [hcan, wroteCAN, hn]
  cases b <;> simp [hr]

theorem canPopTag_canQ {b : Bool} {tag : Nat} {e : CanEntry} {rest : List CanEntry} (h : s.canQ n b = e :: rest) :
    (canPopTag n b tag s).canQ n b = if e.tag = tag then rest else e :: rest := by
  unfold canPopTag
  rw [h]
  dsimp only
  by_cases he : e.tag = tag
  · rw [if_pos he, if_pos he, setCanRx_canQ]
  · rw [if_neg he, if_neg he, h]

theorem canPop_leaves (n : Fin 4) {v : View} {b : Bool} {tag : BitVec 8} {e : CanEntry} {rest : List CanEntry}
    (ha : accepted v (CAN_RXPOP n (b2n b)) (BitVec.ofNat 32 tag.toNat) s = true) (hq : s.canQ n b = e :: rest) :
    ∃ t, exec (.canPop v n b tag) s = .next t ∧ t.canQ n b = if e.tag = tag.toNat then rest else e :: rest := by
  have hreg := register_canRxpop n b
  have htag : CAN_RXPOP_TAG.get (writtenWord v (CAN_RXPOP n (b2n b)) (BitVec.ofNat 32 tag.toNat) s) = tag.toNat := by
    rw [written_get (plainRegister_register hreg) ha (by decide), Fld.get, BitVec.toNat_ofNat]
    have := tag.isLt
    simp only [CAN_RXPOP_TAG]
    omega
  have hw := wordCmd_written hreg ha
  unfold wordWritten at hw
  dsimp only at hw
  generalize writtenWord v (CAN_RXPOP n (b2n b)) (BitVec.ofNat 32 tag.toNat) s = w at hw htag
  rw [wrote_canRxpop, htag] at hw
  have heq : exec (.canPop v n b tag) s = .next (syncStretches (canPopTag n b tag.toNat
      ((s.wr (CAN_RXPOP n (b2n b)) w).wr (CAN_RXPOP n (b2n b)) 0))) := hw
  refine ⟨_, heq, ?_⟩
  rw [State.canQ, syncStretches_cn, ← State.canQ]
  exact canPopTag_canQ hq

end

/-- CAN transmission (R338, R340, R345). -/
theorem canSends : Rules.CanSends := by
  intro s n tx
  refine ⟨fun v ha hb => ?_, fun v inTx e rest ha hb htx => abort_leaves n ha hb htx, fun e rest hact htx => ⟨txdone_leaves n hact htx,
    lostArbitration_leaves n hact htx⟩⟩
  exact push_leaves n ha hb

/-- CAN reception (R341, R342). -/
theorem canReceives : Rules.CanReceives := by
  intro s n
  refine ⟨fun f sof hact hfd hg => ?_, fun v b tag e rest ha hq => canPop_leaves n ha hq⟩
  cases hk : s.canFilter n f with
  | none =>
    obtain ⟨t, ht, h1, h2⟩ := canFrameReceived_unmatched n f sof hact hfd hg hk
    exact ⟨t, ht, fun _ => ⟨h1, h2⟩, fun k h => nomatch h⟩
  | some k =>
    refine ⟨_, canFrameReceived_matched n f sof hact hfd hg hk, (fun h => nomatch h), fun k' h => ?_⟩
    obtain rfl := Option.some.inj h
    generalize s.flag (CAN_FLTMATCH n k) CAN_FLTMATCH_DEST = b
    have hq := rxJudged_canQ n sof s
    refine ⟨fun hl => ?_, fun hl => ?_⟩
    · rw [← hq, ← hq]
      exact canQueue_joins n.isLt ((rxJudged_awake ..).trans (canActive_awake hact)) (by rwa [hq])
    · have hcnt : (rxJudged n sof s).fld (CAN_CNT n) CAN_CNT_LOST = s.fld (CAN_CNT n) CAN_CNT_LOST :=
        congrArg CAN_CNT_LOST.get (rxJudged_rd (by simp only [CAN_CNT, CAN_ERR]; omega) (canCnt_stat n) (canCnt_event n.isLt))
      have hloses := canQueue_loses (s := rxJudged n sof s) n.isLt (b := b) (filt := k)
        (ts := ((sof : Int) + s.cpl.ofs).toNat / 32 % 2 ^ 32) (f := f) (by rwa [hq])
      rw [hcnt, hq, rxJudged_overwrites n.isLt] at hloses
      exact hloses

/-- CAN errors and the time master (R338, R339, R344). -/
theorem canErrors : Rules.CanErrors := by
  intro s n
  refine ⟨fun e hact => ⟨fun hp => ?_, busError_protExc n e hact⟩, recovery_counts n, fun hact hm => ⟨referenceSkipped n hact hm,
    fun sof => referenceSent n sof hact hm⟩⟩
  obtain ⟨t, ht, ⟨h1, h2, h3⟩, h4⟩ := busError_counts n e hact hp
  exact ⟨t, ht, h1, h2, h3, h4⟩

/-- Settles O56: the queue as each command leaves it, the entry that a frame becomes, and the counts of CAN_ERR. -/
theorem canControllers : Obligations.CanControllers := ⟨canSends, canReceives, canErrors⟩

end Sys2Proof.Proofs
end

section
/-! Port F of Tandem RAM with nothing that meets it: reads of good words, and writes of bytes (R251 to R253). -/

namespace Sys2Proof.Proofs

open Sys2Proof Sys2Proof.Machine Sys2Proof.Safety Sys2Proof.Laws

section
variable {s t u : State} {a : Nat} {bs : List Byte}

/-! ### Bytes and words -/

/-- Bytes stand from an address up; every other byte, the poison and all else are as they were. -/
structure Wrote (a : Nat) (bs : List Byte) (s t : State) : Prop where
  only : t = { s with mem := t.mem, poison := t.poison }
  byte : ∀ x, t.byte x = if a ≤ x ∧ x < a + bs.length then bs.getD (x - a) 0 else s.byte x
  poisoned : ∀ x, t.poisoned x = s.poisoned x

theorem Wrote.nil : Wrote a [] s s := ⟨rfl, fun x => (if_neg (by simp)).symm, fun _ => rfl⟩

theorem Wrote.append {cs : List Byte} (h : Wrote a bs s t) (h' : Wrote (a + bs.length) cs t u) : Wrote a (bs ++ cs) s u where
  only := by rw [h'.only, h.only]
  poisoned x := (h'.poisoned x).trans (h.poisoned x)
  byte x := by
    rw [h'.byte, h.byte, List.length_append]
    by_cases h1 : a + bs.length ≤ x ∧ x < a + bs.length + cs.length
    · rw [if_pos h1, if_pos (by omega), List.getD_append_right _ _ _ _ (by omega), Nat.sub_sub]
    · rw [if_neg h1]
      by_cases h2 : a ≤ x ∧ x < a + bs.length
      · rw [if_pos h2, if_pos (by omega), List.getD_append _ _ _ _ (by omega)]
      · rw [if_neg h2, if_neg (by omega)]

theorem Wrote.regs (h : Wrote a bs s t) : t.regs = s.regs := by rw [h.only]
theorem Wrote.rd (h : Wrote a bs s t) (o : Nat) : t.rd o = s.rd o := congrArg (fun r => mget regDefault r o) h.regs
theorem Wrote.awake (h : Wrote a bs s t) : t.awake = s.awake := by rw [h.only]; rfl
theorem Wrote.eth (h : Wrote a bs s t) : t.eth = s.eth := by rw [h.only]
theorem Wrote.cpl (h : Wrote a bs s t) : t.cpl = s.cpl := by rw [h.only]

/-- The bytes that were written. -/
theorem Wrote.written (h : Wrote a bs s t) {k : Nat} (hk : k < bs.length) : t.byte (a + k) = bs.getD k 0 := by
  rw [h.byte, if_pos (by omega), Nat.add_sub_cancel_left]

/-- A byte outside. -/
theorem Wrote.outside (h : Wrote a bs s t) {x : Nat} (hx : x < a ∨ a + bs.length ≤ x) : t.byte x = s.byte x := by
  rw [h.byte, if_neg (by omega)]

/-- The word whose bytes were written. -/
theorem Wrote.word32 {w : Word} {cs : List Byte} (h : Wrote a (wordBytes w ++ cs) s t) : t.word32 a = w := by
  have hb : t.bytes a 4 = wordBytes w := by
    have hk : ∀ k < 4, t.byte (a + k) = (wordBytes w ++ cs).getD k 0 := fun k hk =>
      h.written (by rw [List.length_append, show (wordBytes w).length = 4 from rfl]; omega)
    rw [State.bytes, show List.range 4 = [0, 1, 2, 3] from rfl]
    simp only [List.map_cons, List.map_nil, hk 0 (by decide), hk 1 (by decide), hk 2 (by decide), hk 3 (by decide)]
    rfl
  rw [State.word32, hb, word_leNat_wordBytes]

/-- A word that a write leaves alone. -/
theorem word32_congr (h : ∀ k < 4, t.byte (a + k) = s.byte (a + k)) : t.word32 a = s.word32 a := by
  rw [State.word32, State.word32, State.bytes, State.bytes, List.map_congr_left fun k hk => h k (List.mem_range.mp hk)]

/-! ### A write of port F -/

theorem tandem_unit (h : region a = .tandem) : eccUnit a = 8 := by rw [eccUnit, h]

theorem region_tandem (h1 : 0x10800000 ≤ a) (h2 : a < 0x10840000) : region a = .tandem := by
  unfold region
  rw [if_neg (by omega), if_neg (by omega), if_pos ⟨h1, h2⟩]

theorem tandem_range (h : region a = .tandem) : 0x10800000 ≤ a ∧ a < 0x10840000 := by
  by_contra hn
  unfold region at h
  simp only [hn, if_false] at h
  split_ifs at h

theorem putBytes_tandem (h : region a = .tandem) : s.putBytes a bs = s.setBytes a bs := by
  unfold State.putBytes migWrite
  rw [if_neg (by rw [h]; simp)]

theorem setBytes_wrote : Wrote a bs s (s.setBytes a bs) where
  only := by obtain ⟨m, h⟩ := setBytes_only s a bs; rw [h]
  byte x := setBytes_byte s a bs x
  poisoned x := by obtain ⟨m, h⟩ := setBytes_only s a bs; rw [h]; rfl

/-- A write of a whole word leaves no poison where there was none. -/
theorem setPoison_off (h : s.poisoned a = false) (x : Nat) : (s.setPoison a false).poisoned x = s.poisoned x := by
  rw [State.poisoned, Bool.eq_iff_iff]
  simp only [State.poisoned, State.setPoison, Bool.false_eq_true, if_false, List.contains_iff_mem, List.mem_filter,
    decide_eq_true_eq] at h ⊢
  refine ⟨fun hx => hx.1, fun hx => ⟨hx, fun he => ?_⟩⟩
  rw [he, ← List.contains_iff_mem, h] at hx
  exact absurd hx (by decide)

/-- Bytes inside one good word. -/
theorem memWriteUnit_wrote (hr : region a = .tandem) (hp : s.poisoned a = false) : Wrote a bs s (memWriteUnit a bs .clean s) := by
  unfold memWriteUnit
  split
  · rw [putBytes_tandem hr]
    have hw : Wrote a bs (s.setPoison a false) ((s.setPoison a false).setBytes a bs) := setBytes_wrote
    exact ⟨by rw [hw.only]; rfl, hw.byte, fun x => (hw.poisoned x).trans (setPoison_off hp x)⟩
  · rw [if_neg (by rw [hp]; decide), if_neg (by decide), putBytes_tandem hr]
    exact setBytes_wrote

theorem cutWords_nil (n a : Nat) : cutWords n a [] = [] := by cases n <;> rfl

theorem cutWords_cons (n a : Nat) (h : bs ≠ []) :
    cutWords (n + 1) a bs = (a, bs.take (8 - a % 8)) :: cutWords n (a + (8 - a % 8)) (bs.drop (8 - a % 8)) := if_neg h

/-- A piece of a write that nothing meets. -/
def portPiece (e : Nat × List Byte) (t : State) : State :=
  if region e.1 ≠ .tandem then t else memWriteUnit e.1 e.2 .clean t

theorem portFWrite_eq (a : Nat) (bs : List Byte) (s : State) : portFWrite a bs {} s = each (cutWords (bs.length + 1) a bs) portPiece s := by
  unfold portFWrite
  refine congrArg (fun f => each (cutWords (bs.length + 1) a bs) f s) (funext fun e => funext fun t => ?_)
  unfold portPiece
  dsimp only
  rfl

/-- Addresses of Tandem RAM in good words. -/
def GoodTandem (a n : Nat) (s : State) : Prop := 0x10800000 ≤ a ∧ a + n ≤ 0x10840000 ∧ ∀ x, a ≤ x → x < a + n → s.poisoned x = false

theorem GoodTandem.congr {n : Nat} (h : GoodTandem a n s) (hp : ∀ x, t.poisoned x = s.poisoned x) : GoodTandem a n t := by
  obtain ⟨h1, h2, h3⟩ := h
  exact ⟨h1, h2, fun x hx hx' => (hp x).trans (h3 x hx hx')⟩

theorem pieces_wrote (n : Nat) (hn : bs.length < n) (h : GoodTandem a bs.length s) : Wrote a bs s (each (cutWords n a bs) portPiece s) := by
  induction n generalizing a bs s with
  | zero => omega
  | succ n ih =>
    by_cases hb : bs = []
    · subst hb
      rw [cutWords_nil]
      exact Wrote.nil
    · have hpos : 0 < bs.length := List.length_pos_iff.mpr hb
      obtain ⟨h1, h2, h3⟩ := h
      have hr : region a = .tandem := region_tandem h1 (by omega)
      have hfirst : Wrote a (bs.take (8 - a % 8)) s (portPiece (a, bs.take (8 - a % 8)) s) := by
        rw [portPiece, if_neg (not_not_intro hr)]
        exact memWriteUnit_wrote hr (h3 a (Nat.le_refl a) (by omega))
      have hlen : (bs.take (8 - a % 8)).length = min (8 - a % 8) bs.length := List.length_take
      rw [cutWords_cons n a hb]
      by_cases hl : bs.length ≤ 8 - a % 8
      · rw [List.drop_eq_nil_of_le hl, cutWords_nil]
        rw [List.take_of_length_le hl] at hfirst ⊢
        exact hfirst
      · have ha : a + (8 - a % 8) = a + (bs.take (8 - a % 8)).length := by rw [hlen]; omega
        have hd : (bs.drop (8 - a % 8)).length = bs.length - (8 - a % 8) := List.length_drop
        have hrest := ih (a := a + (8 - a % 8)) (bs := bs.drop (8 - a % 8)) (s := portPiece (a, bs.take (8 - a % 8)) s)
          (by rw [hd]; omega)
          ⟨by omega, by rw [hd]; omega, fun x hx hx' => (hfirst.poisoned x).trans (h3 x (by omega) (by rw [hd] at hx'; omega))⟩
        have hboth := hfirst.append (by rw [← ha]; exact hrest)
        rwa [List.take_append_drop] at hboth

/-- A write of port F into good words of Tandem RAM. -/
theorem portFWrite_wrote (h : GoodTandem a bs.length s) : Wrote a bs s (portFWrite a bs {} s) := by
  rw [portFWrite_eq]
  exact pieces_wrote _ (Nat.lt_succ_self _) h

/-! ### A read of port F -/

theorem portFOpen_idle (hu : s.bringup.uncleared = []) (hb : s.troika.storeBuf = []) : portFOpen s = s := by
  have hw : waitCleared .tandem s = s := by
    unfold waitCleared
    rw [if_neg (by rw [hu]; decide)]
  rw [portFOpen, hw, busView_empty hb]

theorem portFCheck_good {n : Nat} (h : ∀ k, k < (a % 8 + n + 7) / 8 → s.poisoned (a / 8 * 8 + 8 * k) = false) :
    portFCheck a n {} s = (s, true) := by
  unfold portFCheck
  refine List.foldlRecOn (List.range ((a % 8 + n + 7) / 8)) _ (motive := fun p => p = (s, true)) rfl fun p hp k hk => ?_
  subst hp
  dsimp only
  split
  · unfold memCheck
    rw [h k (List.mem_range.mp hk)]
    rfl
  · rfl

/-- A read leaves nothing but the reports of errors. -/
theorem portFCheck_onlyEvents (a n : Nat) (s : State) : OnlyEvents s (portFCheck a n {} s).1 := by
  unfold portFCheck
  refine List.foldlRecOn (List.range ((a % 8 + n + 7) / 8)) _ (motive := fun p : State × Bool => OnlyEvents s p.1) .refl fun p hp k _ => ?_
  obtain ⟨t, ok⟩ := p
  dsimp only
  split
  · refine hp.trans ?_
    unfold memCheck
    split
    · exact noteEcc_true_onlyEvents t _
    · rw [if_neg (show ¬(portFinding {} _ = .corrected) from (by decide : ¬(Ecc.clean = .corrected)))]
      exact .refl
  · exact hp

theorem portFCheck_untouched {P : Nat → Prop} (hq : OffGate P) (a n : Nat) (s : State) : Untouched P s (portFCheck a n {} s).1 := by
  unfold portFCheck
  refine List.foldlRecOn (List.range ((a % 8 + n + 7) / 8)) _ (motive := fun p : State × Bool => Untouched P s p.1) .refl fun p hp k _ => ?_
  obtain ⟨t, ok⟩ := p
  dsimp only
  split
  · unfold memCheck
    split
    · exact Untouched.noteEcc hp hq
    · rw [if_neg (show ¬(portFinding {} _ = .corrected) from (by decide : ¬(Ecc.clean = .corrected)))]
      exact hp
  · exact hp

end

end Sys2Proof.Proofs
end

section
/-! The Ethernet MAC (R347 to R350). -/

namespace Sys2Proof.Proofs

open Sys2Proof Sys2Proof.Machine Sys2Proof.Safety Sys2Proof.Laws

section
variable {s t : State} {f : Fld}

/-! ### Registers and flags -/

/-- The registers of the MAC. -/
def EthRegister (o : Nat) : Prop := 0x1B0000 ≤ o ∧ o < 0x1B0100

theorem ethRegister_offGate : OffGate EthRegister := offGate_above fun o ho => by
  simp only [EthRegister] at ho
  simp only [PROT_GSTAT]
  omega

theorem evReserved_eth : evReserved (evCom 8) = false := by decide

/-- A flag of ETH_STAT sets with the MAC's event (R260, R347). -/
theorem ethFlag_noted (ha : s.awake = true) (hf : f.lo < 24 ∧ 0 < f.len) :
    (ethFlag f s).flag ETH_STAT f = true ∧ (ethFlag f s).evPending (evCom 8) = true :=
  sq_raise_noted s evReserved_eth ha hf.1 hf.2 (by decide)

theorem ethFlag_onlyEvents (f : Fld) (s : State) : OnlyEvents s (ethFlag f s) :=
  (sq_onlyEvents s ETH_STAT f).trans (raise_onlyEvents _ _)

theorem ethFlag_rd {o : Nat} (h : o ≠ ETH_STAT) (ho : eventRegister o = false) : (ethFlag f s).rd o = s.rd o :=
  (raise_rd_apart _ _ ho).trans (rd_wr_of_ne _ _ h)

theorem OnlyEvents.eth (h : OnlyEvents s t) : t.eth = s.eth := by obtain ⟨_, _, _, _, rfl⟩ := h; rfl
theorem OnlyEvents.byte (h : OnlyEvents s t) (x : Nat) : t.byte x = s.byte x := congrArg (fun m => mget memDefault m x) h.mem
theorem OnlyEvents.word32 (h : OnlyEvents s t) (a : Nat) : t.word32 a = s.word32 a := word32_congr fun _ _ => h.byte _
theorem OnlyEvents.poisoned (h : OnlyEvents s t) (x : Nat) : t.poisoned x = s.poisoned x := by
  rw [State.poisoned, State.poisoned, h.poison]

/-- A count of the MAC with a flag. -/
theorem ethCount_leaves {g : Fld} (hl : g.len = 16) (hg : g.lo ≤ 16) (hf : f.lo < 24 ∧ 0 < f.len) (ha : s.awake = true) :
    (ethFlag f (s.rc ETH_CNT g)).flag ETH_STAT f = true ∧
      (ethFlag f (s.rc ETH_CNT g)).fld ETH_CNT g = min (s.fld ETH_CNT g + 1) 65535 :=
  ⟨(ethFlag_noted (s := s.rc ETH_CNT g) ha hf).1,
    (congrArg g.get (ethFlag_rd (by decide) (by decide))).trans (fld_rc_sixteen _ hl hg)⟩

/-! ### Descriptors (R349) -/

/-- Nothing is to be cleared and no store waits. -/
def PortIdle (s : State) : Prop := s.bringup.uncleared = [] ∧ s.troika.storeBuf = []

/-- The MAC owns a descriptor. -/
def Owned (a : Nat) (s : State) : Prop := region a = .tandem ∧ (s.word32 a).getLsbD 31 = true

theorem ethFetch_owned {a : Nat} (hi : PortIdle s) (ho : Owned a s) (ha : a % 16 = 0)
    (hg : ∀ x, a ≤ x → x < a + 16 → s.poisoned x = false) : ethFetch a {} s = (s, true) := by
  obtain ⟨hr, hbit⟩ := ho
  have hc : portFCheck a 16 {} s = (s, true) := portFCheck_good fun k hk => hg _ (by omega) (by omega)
  unfold ethFetch
  rw [portFOpen_idle hi.1 hi.2, hc]
  dsimp only
  rw [hr, hbit]
  rfl

theorem ethFetch_other {a : Nat} (hi : PortIdle s) (ho : ¬Owned a s) :
    ∃ u, ethFetch a {} s = (u, false) ∧ OnlyEvents s u ∧ Untouched EthRegister s u := by
  have hev := portFCheck_onlyEvents a 16 s
  have hu := portFCheck_untouched ethRegister_offGate a 16 s
  unfold ethFetch
  rw [portFOpen_idle hi.1 hi.2]
  generalize portFCheck a 16 {} s = p at hev hu
  obtain ⟨u, ok⟩ := p
  refine ⟨u, Prod.ext rfl ?_, hev, hu⟩
  dsimp only at hev ⊢
  rw [hev.word32 a]
  by_cases hr : region a = .tandem
  · have hb : (s.word32 a).getLsbD 31 = false := Bool.eq_false_iff.mpr fun hb => ho ⟨hr, hb⟩
    rw [hb, Bool.and_false]
  · rw [show (region a == Region.tandem) = false from beq_eq_false_iff_ne.mpr hr, Bool.and_false, Bool.false_and]

/-- The descriptor in front, as the MAC finds it. -/
def fetched (n a : Nat) (s : State) : State × Bool := if n = 0 then (s, false) else ethFetch a {} s

theorem fetched_owned {n a : Nat} (hi : PortIdle s) (hn : n ≠ 0) (ho : Owned a s) (ha : a % 16 = 0)
    (hg : ∀ x, a ≤ x → x < a + 16 → s.poisoned x = false) : fetched n a s = (s, true) :=
  (if_neg hn).trans (ethFetch_owned hi ho ha hg)

theorem fetched_other {n a : Nat} (hi : PortIdle s) (ho : n = 0 ∨ ¬Owned a s) :
    ∃ u, fetched n a s = (u, false) ∧ OnlyEvents s u ∧ Untouched EthRegister s u := by
  by_cases hn : n = 0
  · exact ⟨s, if_pos hn, .refl, .refl⟩
  · obtain ⟨u, h, hu⟩ := ethFetch_other hi (ho.resolve_left hn)
    exact ⟨u, (if_neg hn).trans h, hu⟩

/-- A descriptor that is given back: its timestamp, then its own words. -/
def returned (a : Nat) (t0 t1 : Word) (bs : List Byte) (s : State) : State :=
  portFWrite a bs {} (portFWrite (a + 8) (wordBytes t0 ++ wordBytes t1) {} s)

/-- Bytes of a descriptor that is given back; no byte outside its 16 changes. -/
structure Returned (a : Nat) (bs : List Byte) (s t : State) : Prop where
  only : t = { s with mem := t.mem, poison := t.poison }
  last : ∃ u, Wrote a bs u t
  outside : ∀ x, (x < a ∨ a + 16 ≤ x) → t.byte x = s.byte x

theorem returned_wrote {a : Nat} {t0 t1 : Word} {bs : List Byte} (hb : bs.length ≤ 8) (h : GoodTandem a 16 s) :
    Returned a bs s (returned a t0 t1 bs s) := by
  obtain ⟨h1, h2, h3⟩ := h
  have hl : (wordBytes t0 ++ wordBytes t1).length = 8 := rfl
  have hts : Wrote (a + 8) (wordBytes t0 ++ wordBytes t1) s (portFWrite (a + 8) (wordBytes t0 ++ wordBytes t1) {} s) :=
    portFWrite_wrote ⟨by omega, by omega, fun x hx hx' => h3 x (by omega) (by omega)⟩
  have hw : Wrote a bs (portFWrite (a + 8) (wordBytes t0 ++ wordBytes t1) {} s) (returned a t0 t1 bs s) :=
    portFWrite_wrote ⟨h1, by omega, fun x hx hx' => (hts.poisoned x).trans (h3 x hx (by omega))⟩
  exact ⟨by rw [hw.only, hts.only], ⟨_, hw⟩, fun x hx => (hw.outside (by omega)).trans (hts.outside (by omega))⟩

/-! ### Reception (R347, R349) -/

/-- The bytes of a frame as they stand in its buffer. -/
def frameBytes (f : EthFrame) : List Byte :=
  leBytes 6 f.dst.toNat ++ leBytes 6 f.src.toNat ++ [byteOf f.etherType 1, byteOf f.etherType 0] ++ f.payload

theorem frameBytes_length (f : EthFrame) : (frameBytes f).length = 14 + f.payload.length := by
  simp [frameBytes, leBytes]
  omega

theorem ethLength_eq (f : EthFrame) : ethLength f = (frameBytes f).length + 4 + if f.tag.isSome then 4 else 0 := by
  rw [ethLength, frameBytes_length]
  omega

/-- The descriptor of the receive ring in front, and the buffer that it names. -/
def rxDesc (s : State) : Nat := ethDesc (s.rd ETH_RXR) s.eth.rxIdx
def rxCount (s : State) : Nat := ETH_RXR_NDESC.get (s.rd ETH_RXR)
def rxBuffer (s : State) : Nat := tandemBase + 16 * ((s.word32 (rxDesc s + 4)).toNat % 2 ^ 14)

theorem ethDesc_aligned (ring : Word) (k : Nat) : ethDesc ring k % 16 = 0 := by
  simp only [ethDesc, tandemBase]
  omega

/-- The words of a descriptor that a received frame gives back. -/
def rxWord0 (f : EthFrame) : Word := word (b2n f.tag.isSome * 2 ^ 29 + (frameBytes f).length % 2 ^ 11)
def rxTci (f : EthFrame) : Nat := match f.tag with
  | some x => x.toNat
  | none => 0

theorem rxWord0_fields (f : EthFrame) : (rxWord0 f).getLsbD 31 = false ∧ (rxWord0 f).toNat % 2 ^ 11 = (frameBytes f).length % 2 ^ 11 := by
  have hb : b2n f.tag.isSome ≤ 1 := (by decide : ∀ b : Bool, b2n b ≤ 1) _
  have hlt : b2n f.tag.isSome * 2 ^ 29 + (frameBytes f).length % 2 ^ 11 < 2 ^ 31 := by omega
  refine ⟨?_, ?_⟩
  · rw [rxWord0, word, BitVec.getLsbD_ofNat, Nat.testBit_lt_two_pow hlt, Bool.and_false]
  · rw [rxWord0, word, BitVec.toNat_ofNat, Nat.mod_eq_of_lt (Nat.lt_trans hlt (by decide))]
    omega

/-- A frame in its buffer, with its descriptor given back. -/
def rxStored (f : EthFrame) (ts a : Nat) (s : State) : State :=
  returned a (timeWords ts).1 (timeWords ts).2
    (wordBytes (rxWord0 f) ++ wordBytes (word (rxTci f * 2 ^ 16 + (s.word32 (a + 4)).toNat % 2 ^ 16)))
    (portFWrite (tandemBase + 16 * ((s.word32 (a + 4)).toNat % 2 ^ 14)) (frameBytes f) {} s)

/-- The next descriptor is in front. -/
def rxAdvanced (n : Nat) (s : State) : State := ethFlag ETH_STAT_RXF { s with eth := { s.eth with rxIdx := (s.eth.rxIdx + 1) % n } }

theorem ethToRing_eq (f : EthFrame) (ts : Nat) (s : State) : ethToRing f ts {} s =
    (let p := fetched (rxCount s) (rxDesc s) s
     if !p.2 then ethFlag ETH_STAT_RXNOBUF (p.1.rc ETH_CNT ETH_CNT_RXDROP)
     else rxAdvanced (rxCount s) (rxStored f ts (rxDesc s) p.1)) := rfl

theorem ethToRing_nobuf {f : EthFrame} {ts : Nat} (hi : PortIdle s) (ha : s.awake = true) (ho : rxCount s = 0 ∨ ¬Owned (rxDesc s) s) :
    (ethToRing f ts {} s).flag ETH_STAT ETH_STAT_RXNOBUF = true ∧ (ethToRing f ts {} s).mem = s.mem ∧
      (ethToRing f ts {} s).fld ETH_CNT ETH_CNT_RXDROP = min (s.fld ETH_CNT ETH_CNT_RXDROP + 1) 65535 := by
  obtain ⟨u, hf, hev, hu⟩ := fetched_other hi ho
  have heq : ethToRing f ts {} s = ethFlag ETH_STAT_RXNOBUF (u.rc ETH_CNT ETH_CNT_RXDROP) := by
    rw [ethToRing_eq, hf]
    rfl
  obtain ⟨h1, h2⟩ := ethCount_leaves (s := u) (f := ETH_STAT_RXNOBUF) (g := ETH_CNT_RXDROP) rfl (by decide) (by decide)
    (hev.awake.trans ha)
  rw [heq]
  refine ⟨h1, (ethFlag_onlyEvents _ _).mem.trans hev.mem, h2.trans ?_⟩
  rw [hu.fld (by decide : 0x1B0000 ≤ ETH_CNT ∧ ETH_CNT < 0x1B0100)]

/-- What a frame that is taken leaves: its bytes in the buffer, and the descriptor given back. -/
theorem ethToRing_taken {f : EthFrame} {ts a buf : Nat} (hi : PortIdle s) (haw : s.awake = true) (ha : a = rxDesc s)
    (hb : buf = tandemBase + 16 * ((s.word32 (a + 4)).toNat % 2 ^ 14)) (hn : rxCount s ≠ 0) (ho : Owned a s)
    (hg : ∀ x, a ≤ x → x < a + 16 → s.poisoned x = false) (hend : buf + (frameBytes f).length ≤ 0x10840000)
    (hgb : ∀ x, buf ≤ x → x < buf + (frameBytes f).length → s.poisoned x = false)
    (hd : a + 16 ≤ buf ∨ buf + (frameBytes f).length ≤ a) (hlen : (frameBytes f).length < 2 ^ 11) :
    let t := ethToRing f ts {} s
    t.flag ETH_STAT ETH_STAT_RXF = true ∧ t.evPending (evCom 8) = true ∧ t.eth.rxIdx = (s.eth.rxIdx + 1) % rxCount s ∧
      (t.word32 a).getLsbD 31 = false ∧ (t.word32 a).toNat % 2 ^ 11 = (frameBytes f).length ∧
      (∀ k, k < (frameBytes f).length → t.byte (buf + k) = (frameBytes f).getD k 0) ∧
      ∀ x, (x < buf ∨ buf + (frameBytes f).length ≤ x) → (x < a ∨ a + 16 ≤ x) → t.byte x = s.byte x := by
  have hal : a % 16 = 0 := ha ▸ ethDesc_aligned _ _
  have heq : ethToRing f ts {} s = rxAdvanced (rxCount s) (rxStored f ts a s) := by
    subst ha
    rw [ethToRing_eq, fetched_owned hi hn ho hal hg]
    rfl
  obtain ⟨hlo, hhi⟩ := tandem_range ho.1
  have hbase : 0x10800000 ≤ buf := by rw [hb]; simp only [tandemBase]; omega
  have hw : Wrote buf (frameBytes f) s (portFWrite buf (frameBytes f) {} s) := portFWrite_wrote ⟨hbase, hend, hgb⟩
  have hr : Returned a (wordBytes (rxWord0 f) ++ wordBytes (word (rxTci f * 2 ^ 16 + (s.word32 (a + 4)).toNat % 2 ^ 16)))
      (portFWrite buf (frameBytes f) {} s) (rxStored f ts a s) := by
    rw [rxStored, ← hb]
    exact returned_wrote (Nat.le_refl 8) ⟨hlo, by omega, fun x hx hx' => (hw.poisoned x).trans (hg x hx hx')⟩
  intro t
  have hev : OnlyEvents { rxStored f ts a s with eth := { (rxStored f ts a s).eth with
      rxIdx := ((rxStored f ts a s).eth.rxIdx + 1) % rxCount s } } t := by
    rw [show t = rxAdvanced (rxCount s) (rxStored f ts a s) from heq]
    exact ethFlag_onlyEvents _ _
  have haw' : (rxStored f ts a s).awake = true := by
    rw [hr.only, hw.only]
    exact haw
  have heth : (rxStored f ts a s).eth = s.eth := by rw [hr.only, hw.only]
  obtain ⟨hflag, hpend⟩ := ethFlag_noted (f := ETH_STAT_RXF) (s := { rxStored f ts a s with eth := { (rxStored f ts a s).eth with
      rxIdx := ((rxStored f ts a s).eth.rxIdx + 1) % rxCount s } }) haw' (by decide)
  have hbyte : ∀ x, t.byte x = (rxStored f ts a s).byte x := hev.byte
  obtain ⟨u, hlast⟩ := hr.last
  have hword : t.word32 a = rxWord0 f := (hev.word32 a).trans hlast.word32
  obtain ⟨h31, h11⟩ := rxWord0_fields f
  refine ⟨?_, ?_, ?_, ?_, ?_, fun k hk => ?_, fun x hx hx' => ?_⟩
  · rw [show t = rxAdvanced (rxCount s) (rxStored f ts a s) from heq]
    exact hflag
  · rw [show t = rxAdvanced (rxCount s) (rxStored f ts a s) from heq]
    exact hpend
  · rw [hev.eth, heth]
  · rw [hword, h31]
  · rw [hword, h11, Nat.mod_eq_of_lt hlen]
  · rw [hbyte, hr.outside _ (by omega), hw.written hk]
  · rw [hbyte, hr.outside x hx', hw.outside hx]

/-- A frame that the MAC receives (R347, R349). -/
theorem ethFrameReceived_leaves (f : EthFrame) (ts : Nat) (hup : s.ethUp = true) :
    ∃ t, exec (.ethFrameReceived f ts {}) s = .next t ∧
      (f.good = false → t = ethFlag ETH_STAT_RXERR ((s.at ts).rc ETH_CNT ETH_CNT_RXERR)) ∧
      (f.good = true → (ethLength f < 64 ∨ 1522 < ethLength f) → t = ethFlag ETH_STAT_RXERR ((s.at ts).rc ETH_CNT ETH_CNT_RXDROP)) ∧
      (f.good = true → 64 ≤ ethLength f → ethLength f ≤ 1522 → f.etherType ≠ 0x8808 → f.etherType ≠ 0x88B5 →
        (s.ethAccepts f = false → t = s.at ts) ∧
        (s.ethAccepts f = true → t = ethToRing f ((ts : Int) + s.cpl.ofs).toNat {} (s.at ts))) := by
  have hup' : (s.at ts).ethUp = true := hup
  have heq : exec (.ethFrameReceived f ts {}) s = execEthFrameReceived f ts {} s := rfl
  rw [heq]
  unfold execEthFrameReceived
  dsimp only
  rw [if_neg (by rw [hup']; decide)]
  by_cases hgood : f.good = true
  · rw [if_neg (by rw [hgood]; decide)]
    by_cases hlen : ethLength f < 64 ∨ 1522 < ethLength f
    · rw [if_pos hlen]
      exact ⟨_, rfl, fun h => absurd (hgood.symm.trans h) (by decide), fun _ _ => rfl, fun _ h1 h2 => absurd hlen (by omega)⟩
    · rw [if_neg hlen]
      by_cases hskip : f.etherType = 0x8808 ∨ (s.at ts).ethAccepts f = false
      · rw [if_pos hskip]
        refine ⟨_, rfl, fun h => absurd (hgood.symm.trans h) (by decide), fun _ h => absurd h hlen, fun _ _ _ h1 _ =>
          ⟨fun _ => rfl, fun h => ?_⟩⟩
        exact absurd ((hskip.resolve_left h1).symm.trans h) (by decide)
      · rw [if_neg hskip]
        by_cases hgrd : f.etherType = 0x88B5
        · split
          · exact ⟨_, rfl, fun h => absurd (hgood.symm.trans h) (by decide), fun _ h => absurd h hlen,
              fun _ _ _ _ h => absurd hgrd h⟩
          · exact ⟨_, rfl, fun h => absurd (hgood.symm.trans h) (by decide), fun _ h => absurd h hlen,
              fun _ _ _ _ h => absurd hgrd h⟩
        · rw [if_neg hgrd]
          exact ⟨_, rfl, fun h => absurd (hgood.symm.trans h) (by decide), fun _ h => absurd h hlen, fun _ _ _ h1 _ =>
            ⟨fun h => absurd (.inr h) hskip, fun _ => rfl⟩⟩
  · rw [if_pos (by rw [Bool.eq_false_iff.mpr hgood]; rfl)]
    exact ⟨_, rfl, fun _ => rfl, fun h => absurd h hgood, fun h => absurd h hgood⟩

/-! ### Sending (R349) -/

/-- The descriptor of the transmit ring in front. -/
def txDesc (s : State) : Nat := ethDesc (s.rd ETH_TXR) s.eth.txIdx
def txCount (s : State) : Nat := ETH_TXR_NDESC.get (s.rd ETH_TXR)

/-- The word of a descriptor that was sent. -/
def sentWord (ok : Bool) (w : Word) : Word := if ok then w &&& 0x7FFFFFFF else (w &&& 0x7FFFFFFF) ||| 0x40000000

theorem sentWord_own (ok : Bool) (w : Word) : (sentWord ok w).getLsbD 31 = false := by
  unfold sentWord
  cases ok <;> simp

/-- The read of the buffer that a descriptor names. -/
def bufferRead (a : Nat) (s : State) : State × Bool :=
  portFCheck (tandemBase + 16 * ((s.word32 (a + 4)).toNat % 2 ^ 14)) ((s.word32 a).toNat % 2 ^ 11) {} s

/-- A frame that was sent, with its descriptor given back. -/
def txSent (ts a : Nat) (s : State) : State :=
  let stamp := timeWords ((ts : Int) + s.cpl.ofs).toNat
  returned a stamp.1 stamp.2 (wordBytes (sentWord (bufferRead a s).2 (s.word32 a))) (bufferRead a s).1

theorem ethSend_eq (a ts : Nat) (s : State) : ethSend a ts {} s = txSent ts a s := rfl

/-- The next descriptor is in front. -/
def txAdvanced (n : Nat) (s : State) : State := ethFlag ETH_STAT_TXF { s with eth := { s.eth with txIdx := (s.eth.txIdx + 1) % n } }

theorem ethFrameSent_guard {g : List Byte} {rest : List (List Byte)} (ts : Nat) (hup : s.ethUp = true) (hq : s.eth.guardQ = g :: rest) :
    exec (.ethFrameSent ts {}) s = .next { s.at ts with eth := { s.eth with guardQ := rest } } := by
  have hup' : (s.at ts).ethUp = true := hup
  have hq' : (s.at ts).eth.guardQ = g :: rest := hq
  have heq : exec (.ethFrameSent ts {}) s = execEthFrameSent ts {} s := rfl
  rw [heq]
  unfold execEthFrameSent
  dsimp only
  rw [if_neg (by rw [hup']; decide), hq']
  rfl

theorem ethFrameSent_ring (ts : Nat) (hup : s.ethUp = true) (hq : s.eth.guardQ = []) : exec (.ethFrameSent ts {}) s =
    (let p := fetched (txCount s) (txDesc s) (s.at ts)
     if !s.eth.scanning then .next (s.at ts)
     else if !p.2 then .next { p.1 with eth := { p.1.eth with scanning := false } }
     else .next (txAdvanced (txCount s) (txSent ts (txDesc s) p.1))) := by
  have hup' : (s.at ts).ethUp = true := hup
  have hq' : (s.at ts).eth.guardQ = [] := hq
  have heq : exec (.ethFrameSent ts {}) s = execEthFrameSent ts {} s := rfl
  rw [heq]
  unfold execEthFrameSent
  dsimp only
  rw [if_neg (by rw [hup']; decide), hq']
  rfl

theorem ethFrameSent_empty {ts : Nat} (hi : PortIdle s) (hup : s.ethUp = true) (hq : s.eth.guardQ = []) (hs : s.eth.scanning = true)
    (ho : txCount s = 0 ∨ ¬Owned (txDesc s) s) :
    ∃ t, exec (.ethFrameSent ts {}) s = .next t ∧ t.eth.scanning = false ∧ t.mem = s.mem := by
  obtain ⟨u, hf, hev, -⟩ := fetched_other (s := s.at ts) hi ho
  rw [ethFrameSent_ring ts hup hq, hf, hs]
  exact ⟨_, rfl, rfl, hev.mem⟩

theorem ethFrameSent_sends {ts a : Nat} (hi : PortIdle s) (hup : s.ethUp = true) (hq : s.eth.guardQ = []) (hs : s.eth.scanning = true)
    (ha : a = txDesc s) (hn : txCount s ≠ 0) (ho : Owned a s) (hg : ∀ x, a ≤ x → x < a + 16 → s.poisoned x = false) :
    ∃ t, exec (.ethFrameSent ts {}) s = .next t ∧ (t.word32 a).getLsbD 31 = false ∧
      ((∀ x, s.poisoned x = false) → t.word32 a = s.word32 a &&& 0x7FFFFFFF) ∧ t.eth.txIdx = (s.eth.txIdx + 1) % txCount s ∧
      t.flag ETH_STAT ETH_STAT_TXF = true ∧ t.evPending (evCom 8) = true ∧ ∀ x, (x < a ∨ a + 16 ≤ x) → t.byte x = s.byte x := by
  have hal : a % 16 = 0 := ha ▸ ethDesc_aligned _ _
  have heq : exec (.ethFrameSent ts {}) s = .next (txAdvanced (txCount s) (txSent ts a (s.at ts))) := by
    subst ha
    rw [ethFrameSent_ring ts hup hq, fetched_owned (s := s.at ts) hi hn ho hal hg, hs]
    rfl
  have haw : s.awake = true := by
    simp only [State.ethUp, Bool.and_eq_true] at hup
    exact hup.1.1
  obtain ⟨hlo, hhi⟩ := tandem_range ho.1
  have hread : OnlyEvents (s.at ts) (bufferRead a (s.at ts)).1 := portFCheck_onlyEvents ..
  have hr : Returned a (wordBytes (sentWord (bufferRead a (s.at ts)).2 (s.word32 a))) (bufferRead a (s.at ts)).1 (txSent ts a (s.at ts)) :=
    returned_wrote (show 4 ≤ 8 by decide) ⟨hlo, by omega, fun x hx hx' => (hread.poisoned x).trans (hg x hx hx')⟩
  generalize hv : txSent ts a (s.at ts) = v at heq hr
  have hawv : v.awake = true := by
    rw [hr.only]
    exact hread.awake.trans haw
  have hethv : v.eth = s.eth := by
    rw [hr.only]
    exact hread.eth
  obtain ⟨hflag, hpend⟩ := ethFlag_noted (f := ETH_STAT_TXF) (s := { v with eth := { v.eth with txIdx := (v.eth.txIdx + 1) % txCount s } })
    hawv (by decide)
  have hev : OnlyEvents { v with eth := { v.eth with txIdx := (v.eth.txIdx + 1) % txCount s } } (txAdvanced (txCount s) v) :=
    ethFlag_onlyEvents _ _
  obtain ⟨u, hlast⟩ := hr.last
  have hvw : v.word32 a = sentWord (bufferRead a (s.at ts)).2 (s.word32 a) :=
    Wrote.word32 (cs := []) (by rw [List.append_nil]; exact hlast)
  have hword : (txAdvanced (txCount s) v).word32 a = sentWord (bufferRead a (s.at ts)).2 (s.word32 a) :=
    (hev.word32 a).trans hvw
  refine ⟨_, heq, ?_, fun hp => ?_, ?_, hflag, hpend, fun x hx => ?_⟩
  · rw [hword, sentWord_own]
  · have hc : bufferRead a (s.at ts) = (s.at ts, true) := portFCheck_good fun k _ => hp _
    rw [hword, hc]
    rfl
  · rw [hev.eth, hethv]
  · exact (hev.byte x).trans ((hr.outside x hx).trans (hread.byte x))

/-! ### KICK, the MDIO port and the link (R347, R349, R350) -/

theorem register_ethTxr : plainRegister ETH_TXR ⟨0x1B001C, [], true, 0x00000000#32, [⟨⟨24, 8⟩, .rw, false, false, .none⟩,
    ⟨⟨23, 1⟩, .rh, false, false, .none⟩, ⟨⟨4, 14⟩, .rw, false, false, .none⟩]⟩ [] = true := by decide +kernel

theorem register_ethMdio : plainRegister ETH_MDIO ⟨0x1B0024, [], true, 0x00000000#32, [⟨⟨31, 1⟩, .rh, false, false, .none⟩,
    ⟨⟨30, 1⟩, .ro, false, false, .none⟩, ⟨⟨29, 1⟩, .rw, false, false, .none⟩, ⟨⟨21, 5⟩, .rw, false, false, .none⟩,
    ⟨⟨16, 5⟩, .rw, false, false, .none⟩, ⟨⟨0, 16⟩, .rh, false, false, .none⟩]⟩ [] = true := by decide +kernel

theorem syncStretches_eth (s : State) : (syncStretches s).eth = s.eth := by
  obtain ⟨_, _, he⟩ := (onlyStretch_syncStretches s).only
  rw [he]

theorem kick_leaves {v : View} (ha : accepted v ETH_TXR (withField s ETH_TXR ETH_TXR_KICK 1) s = true) :
    ∃ t, exec (.kick v) s = .next t ∧ t.eth.scanning = true ∧ t.flag ETH_TXR ETH_TXR_KICK = false := by
  have hk := written_flag (plainRegister_register register_ethTxr) ha (by decide) (by decide)
  have heq : fieldWritten v ETH_TXR [] ETH_TXR_KICK 1 s =
      ethKick ((s.wr ETH_TXR (writtenWord v ETH_TXR (withField s ETH_TXR ETH_TXR_KICK 1) s)).setFlag ETH_TXR ETH_TXR_KICK false) :=
    if_pos hk
  refine ⟨_, fieldCmd_written register_ethTxr ha, ?_, ?_⟩
  · rw [syncStretches_eth, heq]
    rfl
  · rw [syncStretches_flag, heq]
    exact flag_setFlag_self (s.wr ETH_TXR _) _ _ _ (by decide) (by decide)

theorem mdioGo_leaves {v : View} {data : Word} (ha : accepted v ETH_MDIO (ETH_MDIO_GO.put data 1) s = true) :
    ∃ t, exec (.mdioGo v data) s = .next t ∧ t.flag ETH_MDIO ETH_MDIO_BUSY = true ∧ t.flag ETH_MDIO ETH_MDIO_GO = false ∧
      t.flag ETH_MDIO ETH_MDIO_RD = ETH_MDIO_RD.bit data := by
  have hreg := plainRegister_register register_ethMdio
  generalize hw : writtenWord v ETH_MDIO (ETH_MDIO_GO.put data 1) s = w
  have hgo : ETH_MDIO_GO.bit w = true := by
    rw [← hw]
    exact (written_bit hreg ha (by decide) (by decide)).trans ((bit_put_self _ _ _ (by decide) (by decide)).trans rfl)
  have hrd : ETH_MDIO_RD.bit w = ETH_MDIO_RD.bit data := by
    rw [← hw]
    exact (written_bit hreg ha (by decide) (by decide)).trans (bit_put_apart (by decide) _ _)
  have heq : exec (.mdioGo v data) s = .next (syncStretches (mdioStart ((s.wr ETH_MDIO w).setFlag ETH_MDIO ETH_MDIO_GO false))) := by
    rw [← hw] at hgo ⊢
    exact (wordCmd_written register_ethMdio ha).trans (congrArg (fun t => Host.Outcome.next (syncStretches t)) (if_pos hgo))
  refine ⟨_, heq, ?_, ?_, ?_⟩ <;> rw [syncStretches_flag]
  · exact flag_setFlag_self _ _ _ _ (by decide) (by decide)
  · exact (flag_setFlag_apart (by decide)).trans (flag_setFlag_self _ _ _ _ (by decide) (by decide))
  · exact (flag_setFlag_apart (by decide)).trans ((flag_setFlag_apart (by decide)).trans
      ((congrArg ETH_MDIO_RD.bit (rd_wr_self ..)).trans hrd))

theorem mdioDone_leaves (data : BitVec 16) (ha : s.awake = true) (hb : s.flag ETH_MDIO ETH_MDIO_BUSY = true) :
    ∃ t, exec (.mdioDone data) s = .next t ∧ t.flag ETH_MDIO ETH_MDIO_BUSY = false ∧
      t.fld ETH_MDIO ETH_MDIO_DATA = if s.flag ETH_MDIO ETH_MDIO_RD then data.toNat else s.fld ETH_MDIO ETH_MDIO_DATA := by
  have hrd : (s.setFlag ETH_MDIO ETH_MDIO_BUSY false).flag ETH_MDIO ETH_MDIO_RD = s.flag ETH_MDIO ETH_MDIO_RD :=
    flag_setFlag_apart (by decide)
  have hbusy : (s.setFlag ETH_MDIO ETH_MDIO_BUSY false).flag ETH_MDIO ETH_MDIO_BUSY = false :=
    flag_setFlag_self _ _ _ _ (by decide) (by decide)
  refine ⟨_, if_pos (by rw [ha, hb]; rfl), ?_⟩
  rw [hrd]
  by_cases h : s.flag ETH_MDIO ETH_MDIO_RD = true
  · rw [if_pos h, if_pos h]
    exact ⟨(flag_setFld_apart (by decide)).trans hbusy, (fld_setFld_self _ _ _ _ (by decide)).trans (Nat.mod_eq_of_lt data.isLt)⟩
  · rw [if_neg h, if_neg h]
    exact ⟨hbusy, fld_setFlag_apart (by decide)⟩

theorem ethLinkChange_leaves (up : Bool) (speed : BitVec 2) (ha : s.awake = true) (he : s.flag ETH_CFG ETH_CFG_EN = true) :
    ∃ t, exec (.ethLinkChange up speed) s = .next t ∧ t.flag ETH_STAT ETH_STAT_LINK = up ∧
      t.fld ETH_STAT ETH_STAT_SPEED = speed.toNat ∧
      (s.flag ETH_STAT ETH_STAT_LINK ≠ up → t.flag ETH_STAT ETH_STAT_LINKCHG = true ∧ t.evPending (evCom 8) = true) := by
  let u := s.setFld ETH_STAT ETH_STAT_SPEED speed.toNat
  have hlink : u.flag ETH_STAT ETH_STAT_LINK = s.flag ETH_STAT ETH_STAT_LINK := flag_setFld_apart (by decide)
  have hspeed : u.fld ETH_STAT ETH_STAT_SPEED = speed.toNat :=
    (fld_setFld_self _ _ _ _ (by decide)).trans (Nat.mod_eq_of_lt speed.isLt)
  have hexec : exec (.ethLinkChange up speed) s = .next (if u.flag ETH_STAT ETH_STAT_LINK = up then u
      else ethFlag ETH_STAT_LINKCHG (u.setFlag ETH_STAT ETH_STAT_LINK up)) := if_pos (by rw [ha, he]; rfl)
  by_cases h : s.flag ETH_STAT ETH_STAT_LINK = up
  · exact ⟨u, hexec.trans (congrArg _ (if_pos (hlink.trans h))), hlink.trans h, hspeed, fun hn => absurd h hn⟩
  · have hrep := raise_reports ((u.setFlag ETH_STAT ETH_STAT_LINK up).sq ETH_STAT ETH_STAT_LINKCHG) (evCom 8)
    refine ⟨_, hexec.trans (congrArg _ (if_neg (by rw [hlink]; exact h))), ?_, ?_, fun _ => ethFlag_noted ha (by decide)⟩
    · exact (hrep.flag _ (by decide)).trans ((flag_sq_apart (by decide) (by decide)).trans
        (flag_setFlag_self _ _ _ _ (by decide) (by decide)))
    · exact (hrep.fld _ (by decide)).trans ((fld_sq_apart (by decide) (by decide)).trans
        ((fld_setFlag_apart (by decide)).trans hspeed))

end

/-- Settles O57: the frame that is received by what befalls it, the ring by the descriptor in front. -/
theorem ethernetMac : Obligations.EthernetMac := by
  intro s ha hu hb owned good
  have hi : PortIdle s := ⟨hu, hb⟩
  refine ⟨fun f ts hup => ?_, fun ts hup => ?_, fun v hacc => kick_leaves hacc, fun v data hacc => mdioGo_leaves hacc,
    fun data hbusy => mdioDone_leaves data ha hbusy, fun up speed he => ethLinkChange_leaves up speed ha he⟩
  · intro ring n a buf body len
    obtain ⟨t, ht, hbad, hlen, hok⟩ := ethFrameReceived_leaves f ts hup
    have hl : ethLength f = len := ethLength_eq f
    rw [hl] at hlen hok
    refine ⟨t, ht, fun h => ?_, fun h h' => ?_, fun h h1 h2 h3 h4 => ?_⟩
    · rw [hbad h]
      exact ethCount_leaves (s := s.at ts) rfl (by decide) (by decide) ha
    · rw [hlen h h']
      exact ethCount_leaves (s := s.at ts) rfl (by decide) (by decide) ha
    · obtain ⟨hno, hyes⟩ := hok h h1 h2 h3 h4
      refine ⟨fun hacc => ?_, fun hacc ho => ?_, fun hacc hn ho hg hend hgb hd => ?_⟩
      · rw [hno hacc]
        exact ⟨rfl, rfl⟩
      · rw [hyes hacc]
        exact ethToRing_nobuf (s := s.at ts) hi ha ho
      · rw [hyes hacc]
        have hshort : body.length < 2 ^ 11 := by
          have : body.length + 4 ≤ len := Nat.le_add_right _ _
          omega
        exact ethToRing_taken (s := s.at ts) hi ha rfl rfl hn ho hg hend hgb hd hshort
  · intro ring n a
    cases hq : s.eth.guardQ with
    | cons g rest =>
      refine ⟨_, ethFrameSent_guard ts hup hq, fun g' rest' h => ?_, fun h => nomatch h⟩
      obtain ⟨rfl, rfl⟩ := List.cons.inj h
      exact ⟨rfl, rfl, rfl⟩
    | nil =>
      by_cases hs : s.eth.scanning = true
      · by_cases ho : n = 0 ∨ ¬owned a
        · obtain ⟨t, ht, h⟩ := ethFrameSent_empty (ts := ts) hi hup hq hs ho
          exact ⟨t, ht, (fun g rest hg => nomatch hg), fun _ _ => ⟨fun _ => h, fun hn ho' => absurd ho (by simp [hn, ho'])⟩⟩
        · have hn : n ≠ 0 := fun hn => ho (.inl hn)
          have ho' : owned a := by_contra fun h => ho (.inr h)
          by_cases hg : good a
          · obtain ⟨t, ht, h⟩ := ethFrameSent_sends (ts := ts) hi hup hq hs rfl hn ho' hg
            exact ⟨t, ht, (fun g rest hg => nomatch hg), fun _ _ => ⟨fun h' => absurd h' ho, fun _ _ _ => h⟩⟩
          · obtain ⟨t, ht⟩ : ∃ t, exec (.ethFrameSent ts {}) s = .next t := by
              rw [ethFrameSent_ring ts hup hq]
              dsimp only
              split_ifs <;> exact ⟨_, rfl⟩
            exact ⟨t, ht, (fun g rest hg => nomatch hg), fun _ _ => ⟨fun h' => absurd h' ho, fun _ _ h' => absurd h' hg⟩⟩
      · obtain ⟨t, ht⟩ : ∃ t, exec (.ethFrameSent ts {}) s = .next t := by
          rw [ethFrameSent_ring ts hup hq]
          dsimp only
          split_ifs <;> exact ⟨_, rfl⟩
        exact ⟨t, ht, (fun g rest hg => nomatch hg), fun _ h => absurd h hs⟩

end Sys2Proof.Proofs
end

section
/-! The Guard's frames and their carriers (R326 to R328, R334, R335): the bytes of a frame, and what handing one over leaves. -/

namespace Sys2Proof.Proofs

open Sys2Proof Sys2Proof.Machine Sys2Proof.Safety Sys2Proof.Laws

/-! ### The bytes of a frame -/

section
variable {ident : Word} {cid seq dl : Nat} {pl : List Byte}

theorem leBytes_length (n x : Nat) : (leBytes n x).length = n := by simp [leBytes]

theorem leBytes_succ (n x : Nat) : leBytes (n + 1) x = BitVec.ofNat 8 x :: leBytes n (x / 256) := by
  unfold leBytes
  rw [List.range_succ_eq_map, List.map_cons, List.map_map, Nat.pow_zero, Nat.div_one]
  refine congrArg _ (List.map_congr_left fun k _ => ?_)
  rw [Function.comp_apply, Nat.pow_succ', Nat.div_div_eq_div_mul]

/-- A number that fits its bytes. -/
theorem leNat_leBytes {n x : Nat} (h : x < 256 ^ n) : leNat (leBytes n x) = x := by
  induction n generalizing x with
  | zero => simp only [Nat.pow_zero] at h; rw [show x = 0 by omega]; rfl
  | succ n ih =>
    rw [leBytes_succ, leNat, ih (by rw [Nat.pow_succ] at h; omega), BitVec.toNat_ofNat]
    omega

/-- The bytes under the check sequence. -/
def frameBody (cid seq dl : Nat) (pl : List Byte) : List Byte := leBytes 2 cid ++ leBytes 2 seq ++ leBytes 2 dl ++ pl

theorem frameBody_length (cid seq dl : Nat) (pl : List Byte) : (frameBody cid seq dl pl).length = 6 + pl.length := by
  simp [frameBody, leBytes_length]
  omega

theorem guardFrame_eq (ident : Word) (cid seq dl : Nat) (pl : List Byte) : guardFrame ident cid seq dl pl =
    frameBody cid seq dl pl ++ wordBytes (crc32cFrom ident (frameBody cid seq dl pl)) := rfl

theorem guardFrame_length (ident : Word) (cid seq dl : Nat) (pl : List Byte) : (guardFrame ident cid seq dl pl).length = 10 + pl.length := by
  rw [guardFrame_eq, List.length_append, frameBody_length]
  change 6 + pl.length + 4 = _
  omega

theorem frameBody_drop2 : (frameBody cid seq dl pl).drop 2 = leBytes 2 seq ++ leBytes 2 dl ++ pl := by
  rw [frameBody, List.append_assoc, List.append_assoc, List.drop_left' (leBytes_length 2 cid), ← List.append_assoc]

theorem frameBody_drop4 : (frameBody cid seq dl pl).drop 4 = leBytes 2 dl ++ pl := by
  rw [frameBody, List.append_assoc, List.drop_left' (by simp [leBytes_length])]

theorem frameBody_drop6 : (frameBody cid seq dl pl).drop 6 = pl := by
  rw [frameBody, List.drop_left' (by simp [leBytes_length])]

theorem guardFrame_drop {k : Nat} (hk : k ≤ 6) : (guardFrame ident cid seq dl pl).drop k =
    (frameBody cid seq dl pl).drop k ++ wordBytes (crc32cFrom ident (frameBody cid seq dl pl)) := by
  rw [guardFrame_eq, List.drop_append_of_le_length (by rw [frameBody_length]; omega)]

theorem guardFrame_seq (h : seq < 65536) : Machine.bytesAt (guardFrame ident cid seq dl pl) 2 2 = seq := by
  rw [Machine.bytesAt, guardFrame_drop (by decide), frameBody_drop2, List.append_assoc, List.append_assoc,
    List.take_left' (leBytes_length 2 seq), leNat_leBytes h]

theorem guardFrame_dl (h : dl < 65536) : Machine.bytesAt (guardFrame ident cid seq dl pl) 4 2 = dl := by
  rw [Machine.bytesAt, guardFrame_drop (by decide), frameBody_drop4, List.append_assoc,
    List.take_left' (leBytes_length 2 dl), leNat_leBytes h]

theorem guardFrame_payload : ((guardFrame ident cid seq dl pl).drop 6).take pl.length = pl := by
  rw [guardFrame_drop (by decide), frameBody_drop6, List.take_left' rfl]

theorem guardFrame_body : (guardFrame ident cid seq dl pl).take (6 + pl.length) = frameBody cid seq dl pl := by
  rw [guardFrame_eq, List.take_left' (frameBody_length ..)]

theorem guardFrame_crc : word (Machine.bytesAt (guardFrame ident cid seq dl pl) (6 + pl.length) 4) =
    crc32cFrom ident (frameBody cid seq dl pl) := by
  rw [Machine.bytesAt, guardFrame_eq, List.drop_left' (frameBody_length ..)]
  exact word_leNat_wordBytes _

end

/-! ### The check of R328 -/

section
variable {s : State} {c cid seq dl : Nat} {pl : List Byte}

/-- A frame under the connection's identity fits the length of its payload where its number is of that kind. -/
theorem lenFits_own (h : seq < 65536) (hk : seq = 0 ↔ pl.length = 8) :
    s.lenFits c (guardFrame (s.rd (GRD_RXID c)) cid seq dl pl) pl.length = true := by
  unfold State.lenFits
  dsimp only
  have hd : decide (seq = 0) = decide (pl.length = 8) := decide_eq_decide.mpr hk
  rw [guardFrame_length, guardFrame_seq h, guardFrame_body, guardFrame_crc,
    List.drop_eq_nil_of_le (by rw [guardFrame_length]), hd]
  simp

theorem lenFits_resync {n : Nat} {bs : List Byte} (h : Machine.bytesAt bs 2 2 = 0) (hn : n ≠ 8) : s.lenFits c bs n = false := by
  unfold State.lenFits
  dsimp only
  rw [h, decide_eq_false hn]
  simp

theorem frameLen_data (h0 : seq ≠ 0) (h : seq < 65536) (hl : pl.length = s.fld (GRD_RXCFG c) GRD_RXCFG_PLEN) (h8 : pl.length ≠ 8) :
    s.frameLen c (guardFrame (s.rd (GRD_RXID c)) cid seq dl pl) = some pl.length := by
  unfold State.frameLen
  rw [← hl, List.find?_cons_of_pos (lenFits_own h (by simp [h0, h8]))]

theorem frameLen_resync (hl : pl.length = 8) : s.frameLen c (guardFrame (s.rd (GRD_RXID c)) cid 0 dl pl) = some 8 := by
  have hfit := lenFits_own (s := s) (c := c) (cid := cid) (seq := 0) (dl := dl) (pl := pl) (by decide) (by simp [hl])
  rw [hl] at hfit
  unfold State.frameLen
  by_cases hp : s.fld (GRD_RXCFG c) GRD_RXCFG_PLEN = 8
  · rw [hp, List.find?_cons_of_pos hfit]
  · rw [List.find?_cons_of_neg (by rw [lenFits_resync (guardFrame_seq (by decide)) hp]; decide), List.find?_cons_of_pos hfit]

end

/-! ### Hand-over to the carrier (R334, R335) -/

section
variable {s t : State} {p : Nat} {data : Bool} {bytes : List Byte}

/-- What the carrier of a transmit connection makes of a frame. -/
def carried (p : Nat) (data : Bool) (bytes : List Byte) (s : State) : Option State :=
  let carr := s.fld (GRD_TXCFG p) GRD_TXCFG_CARR
  if !s.flag (GRD_TXCFG p) GRD_TXCFG_EN then none
  else if carr < 4 then canCarry carr p data bytes s
  else if carr = 4 then ethCarry bytes s
  else if carr = 5 then cplCarry p bytes s
  else none

theorem handOver_taken (h : carried p data bytes s = some t) : handOver p data bytes s =
    (t.setFlag (GRD_TXCTL p) GRD_TXCTL_LOST false).setFld (GRD_TXSEQ p) GRD_TXSEQ_NSENT (t.fld (GRD_TXSEQ p) GRD_TXSEQ_NSENT + 1) := by
  change (match carried p data bytes s with | some t => _ | none => _) = _
  rw [h]

theorem handOver_refused (h : carried p data bytes s = none) :
    handOver p data bytes s = s.setFlag (GRD_TXCTL p) GRD_TXCTL_LOST true := by
  change (match carried p data bytes s with | some t => _ | none => _) = _
  rw [h]

/-- Registers that a hand-over leaves alone: those of no CAN controller, and not the two of its connection. -/
def OffCarrier (p o : Nat) : Prop := o < 0x1A0000 ∧ o ≠ GRD_TXCTL p ∧ o ≠ GRD_TXSEQ p

/-- What a carrier that takes a frame leaves alone. -/
structure Carries (p : Nat) (s t : State) : Prop where
  rd : ∀ o, o < 0x1A0000 → o ≠ GRD_TXCTL p → t.rd o = s.rd o
  grd : t.grd = s.grd
  now : t.now = s.now
  grdAt : t.grdAt = s.grdAt
  awake : t.awake = s.awake

/-- The entry that a Guard frame becomes in a CAN queue. -/
def guardEntry (p : Nat) (data : Bool) (bytes : List Byte) (s : State) : CanEntry :=
  let ide := s.flag (GRD_TXADR p) GRD_TXADR_IDE
  { frame := { ide := ide, fdf := true, brs := Config.freeBool s.draws, id := adrId ide (s.fld (GRD_TXADR p) GRD_TXADR_ADDR),
               data := padTo ((fdLens.find? (fun x => decide (bytes.length ≤ x))).getD 64) bytes }
    conn := if data then some (Fin.ofNat 8 p) else none }

/-- A Guard frame has joined a CAN queue. -/
def guardQueued (n p : Nat) (data : Bool) (bytes : List Byte) (s : State) : State :=
  let u := setCanTx n ((s.cn n).tx ++ [guardEntry p data bytes s]) (s.drew 1)
  if data then u.setFlag (GRD_TXCTL p) GRD_TXCTL_BUSY true else u

theorem canCarry_eq (n p : Nat) (data : Bool) (bytes : List Byte) (s : State) : canCarry n p data bytes s =
    if s.flag (CAN_CFG n) CAN_CFG_EN && decide ((s.cn n).tx.length < 32) then some (guardQueued n p data bytes s) else none := rfl

theorem guardQueued_carries (n p : Nat) (data : Bool) (bytes : List Byte) (s : State) : Carries p s (guardQueued n p data bytes s) := by
  have hu : ∀ o, o < 0x1A0000 → (setCanTx n ((s.cn n).tx ++ [guardEntry p data bytes s]) (s.drew 1)).rd o = s.rd o := fun o ho =>
    rd_wr_of_ne _ _ (by simp only [CAN_TXCTL]; omega)
  unfold guardQueued
  dsimp only
  split
  · exact ⟨fun o ho hne => (rd_wr_of_ne _ _ hne).trans (hu o ho), rfl, rfl, rfl, rfl⟩
  · exact ⟨fun o ho _ => hu o ho, rfl, rfl, rfl, rfl⟩

theorem canCarry_carries {n : Nat} (h : canCarry n p data bytes s = some t) : Carries p s t := by
  rw [canCarry_eq] at h
  split at h
  · obtain rfl := Option.some.inj h
    exact guardQueued_carries ..
  · cases h

theorem carried_carries (h : carried p data bytes s = some t) : Carries p s t := by
  unfold carried at h
  extract_lets carr at h
  split at h
  · cases h
  · split at h
    · exact canCarry_carries h
    · split at h
      · unfold ethCarry at h
        split at h
        · obtain rfl := Option.some.inj h
          exact ⟨fun _ _ _ => rfl, rfl, rfl, rfl, rfl⟩
        · cases h
      · split at h
        · unfold cplCarry at h
          extract_lets cls dst at h
          split at h
          · obtain rfl := Option.some.inj h
            exact ⟨fun _ _ _ => rfl, rfl, rfl, rfl, rfl⟩
          · cases h
        · cases h

theorem handOver_rd {o : Nat} (ho : OffCarrier p o) : (handOver p data bytes s).rd o = s.rd o := by
  obtain ⟨h1, h2, h3⟩ := ho
  cases hc : carried p data bytes s with
  | none =>
    rw [handOver_refused hc]
    exact rd_wr_of_ne _ _ h2
  | some t =>
    rw [handOver_taken hc]
    exact (rd_wr_of_ne _ _ h3).trans ((rd_wr_of_ne _ _ h2).trans ((carried_carries hc).rd o h1 h2))

theorem handOver_grd : (handOver p data bytes s).grd = s.grd := by
  cases hc : carried p data bytes s with
  | none => rw [handOver_refused hc]; rfl
  | some t =>
    rw [handOver_taken hc]
    exact (carried_carries hc).grd

theorem handOver_gr (c : Nat) : (handOver p data bytes s).gr c = s.gr c := by
  rw [State.gr, handOver_grd, State.gr]

theorem handOver_pending {src : Nat} (hs : s.evPending src = true) (hlt : src < 264) : (handOver p data bytes s).evPending src = true := by
  rw [State.evPending, handOver_rd ⟨by simp only [EVT_PEND]; omega, by simp only [EVT_PEND, GRD_TXCTL]; omega,
    by simp only [EVT_PEND, GRD_TXSEQ]; omega⟩]
  exact hs

end

end Sys2Proof.Proofs
end

section
/-! The Guard's connections (R326 to R334). -/

namespace Sys2Proof.Proofs

open Sys2Proof Sys2Proof.Machine Sys2Proof.Safety Sys2Proof.Laws

/-! ### The Guard's registers -/

/-- The Guard's registers. -/
def GuardRegister (o : Nat) : Prop := 0x190000 ≤ o ∧ o < 0x1A0000

theorem guardRegister_offGate : OffGate GuardRegister := offGate_above fun o ho => by
  simp only [GuardRegister] at ho
  simp only [PROT_GSTAT]
  omega

theorem guardRegister_brake : ∀ o, GuardRegister o → ¬brakeRegister o ∧ eventRegister o = false := fun o ho =>
  ⟨by simp only [GuardRegister] at ho; simp only [brakeRegister, SAFE_BRKSTAT, SAFE_BRKRES]; omega, guardRegister_offGate.event o ho⟩

section
variable {s t : State}

theorem enterStand_guard (s : State) : Untouched GuardRegister s (enterStand s) := fun o ho =>
  enterStand_rd (by simp only [GuardRegister] at ho; simp only [SYS_STATE]; omega) (guardRegister_offGate.gate o ho) (guardRegister_brake o ho).1

theorem enterDrive_guard (s : State) : Untouched GuardRegister s (enterDrive s) := by
  have hstate : ¬GuardRegister SYS_STATE := by simp only [GuardRegister, SYS_STATE]; omega
  unfold enterDrive
  extract_lets u v
  have hu : Untouched GuardRegister s u := .setFld (s := { s with power := .drive }) (.upd .refl) hstate
  have hv : Untouched GuardRegister s v := hu.each fun _ _ _ => .upd .refl
  have hend : Untouched GuardRegister s (endCause .stand (List.range 32) v) :=
    (hv.each fun _ _ _ => .upd .refl).gate (GateStep.refl (L := false)).settleSafe guardRegister_offGate.gate
  exact hend.brake (brakeStep_settleBrake _) guardRegister_brake

theorem drayDrive_guard (enable : Bool) (s : State) : Untouched GuardRegister s (drayDrive enable s) := by
  have hstate : ¬GuardRegister SYS_STATE := by simp only [GuardRegister, SYS_STATE]; omega
  unfold drayDrive
  refine .ite .refl (.ite (.ite .refl ?_) (.ite (enterStand_guard s) .refl))
  split
  · exact enterDrive_guard s
  · exact Untouched.refl.setFld hstate

theorem settleBrake_guard (s : State) : Untouched GuardRegister s (settleBrake s) :=
  Untouched.refl.brake (brakeStep_settleBrake s) guardRegister_brake

theorem settleBrake_grd (s : State) : (settleBrake s).grd = s.grd := by
  obtain ⟨_, _, _, _, _, _, hb⟩ := (brakeStep_settleBrake s).only
  rw [hb]

theorem lowStep_grd (h : LowStep s t) : t.grd = s.grd := by
  obtain ⟨_, _, _, _, _, _, _, _, _, _, _, _, _, _, _, _, _, _, _, _, _, hl⟩ := h.only
  rw [hl]

theorem enterStand_grd (s : State) : (enterStand s).grd = s.grd := by
  unfold enterStand
  extract_lets u v
  have hv : v.grd = s.grd := Same.each (f := State.grd) rfl fun _ _ _ => rfl
  rw [settleBrake_grd, lowStep_grd (LowStep.refl.safeFor (s := v)), hv]

theorem enterDrive_grd (s : State) : (enterDrive s).grd = s.grd := by
  unfold enterDrive
  extract_lets u v
  have hv : v.grd = s.grd := Same.each (f := State.grd) rfl fun _ _ _ => rfl
  rw [settleBrake_grd, lowStep_grd (LowStep.refl.endCause (s := v)), hv]

theorem drayDrive_grd (enable : Bool) (s : State) : (drayDrive enable s).grd = s.grd := by
  unfold drayDrive
  split
  · rfl
  · split
    · split
      · rfl
      · split
        · exact enterDrive_grd s
        · rfl
    · split
      · exact enterStand_grd s
      · rfl

/-- With its service full, drive enable asks for nothing. -/
theorem drayDrive_full (enable : Bool) (h : s.full = true) : drayDrive enable s = s := if_pos h

/-- What a command leaves outside the state of the Axles and of the Drag Shoe. -/
theorem commandSettled_guard (enable : Bool) (s : State) : Untouched GuardRegister s (settleBrake (drayDrive enable s)) :=
  (drayDrive_guard enable s).trans (settleBrake_guard _)

theorem commandSettled_grd (enable : Bool) (s : State) : (settleBrake (drayDrive enable s)).grd = s.grd := by
  rw [settleBrake_grd, drayDrive_grd]

theorem commandSettled_awake (enable : Bool) (h : s.awake = true) : (settleBrake (drayDrive enable s)).awake = true :=
  ((EngineStep.refl (s := s)).drayDrive.settleBrake).awake h

end

/-! ### The Coupler's routes and its time tree (R302, R304, R311) -/

section
variable {s t : State}

/-- Two states agree in the seat, the routes, the ports that are up and what the neighbours told. -/
structure SameTree (s t : State) : Prop where
  seat : t.seat = s.seat
  route : ∀ k < 32, t.rd (CPL_ROUTE k) = s.rd (CPL_ROUTE k)
  up : ∀ p < 4, t.portUp p = s.portUp p
  ports : t.cpl.ports = s.cpl.ports

theorem SameTree.of_rd (hr : ∀ o, 0x1C0000 ≤ o → t.rd o = s.rd o) (hc : t.cpl.ports = s.cpl.ports) : SameTree s t :=
  ⟨congrArg CPL_ADDR_SEAT.get (hr _ (by decide)), fun k _ => hr _ (by simp only [CPL_ROUTE]; omega),
    fun p _ => congrArg CPL_PORT_UP.bit (hr _ (by simp only [CPL_PORT]; omega)), hc⟩

theorem routed_seat {d : Nat} (h : s.routed d = true) : 1 ≤ d ∧ d ≤ 32 := by
  unfold State.routed at h
  simp only [Bool.and_eq_true, decide_eq_true_eq] at h
  exact h.1

variable (h : SameTree s t)
include h

theorem SameTree.routed (d : Nat) : t.routed d = s.routed d := by
  unfold State.routed
  by_cases hd : 1 ≤ d ∧ d ≤ 32
  · rw [State.flag, State.flag, routeOf, h.route _ (by omega)]
  · have : (decide (1 ≤ d) && decide (d ≤ 32)) = false := by simpa [Bool.and_eq_true] using hd
    rw [this, Bool.false_and, Bool.false_and]

theorem SameTree.entry {d : Nat} (hd : s.routed d = true) : t.rd (routeOf d) = s.rd (routeOf d) := by
  obtain ⟨h1, h2⟩ := routed_seat hd
  exact h.route _ (by omega)

theorem SameTree.routePort {d : Nat} (hd : s.routed d = true) : t.routePort d = s.routePort d := by
  have hflag : t.flag (routeOf d) CPL_ROUTE_ACTALT = s.flag (routeOf d) CPL_ROUTE_ACTALT := congrArg CPL_ROUTE_ACTALT.bit (h.entry hd)
  rw [State.routePort, State.routePort, hflag, State.fld, State.fld, h.entry hd]
  rfl

theorem SameTree.pt (p : Nat) : t.pt p = s.pt p := by rw [State.pt, State.pt, h.ports]

theorem SameTree.upPorts : t.upPorts = s.upPorts := List.filter_congr fun p hp => h.up p (List.mem_range.mp hp)

theorem SameTree.hopsTo (d : Nat) : t.hopsTo d = s.hopsTo d := by
  unfold State.hopsTo
  rw [h.seat, h.routed, h.upPorts, funext h.pt]
  by_cases hr : s.routed d = true
  · have hflag : t.flag (routeOf d) CPL_ROUTE_MAN = s.flag (routeOf d) CPL_ROUTE_MAN := congrArg CPL_ROUTE_MAN.bit (h.entry hr)
    rw [hflag, State.fld, h.entry hr]
    rfl
  · simp [hr]

theorem SameTree.timeRoot : t.timeRoot = s.timeRoot := by rw [State.timeRoot, State.timeRoot, h.seat, funext h.routed]

theorem SameTree.timeParent : t.timeParent = s.timeParent := by
  unfold State.timeParent
  rw [h.timeRoot, h.seat]
  dsimp only
  split
  · rfl
  · next hn =>
    refine congrArg some (h.routePort ?_)
    by_contra hr
    refine hn ?_
    unfold State.timeRoot at *
    split
    · exact .inl rfl
    · next hs =>
      rw [if_neg hs] at hr
      cases hf : ((List.range 32).map (· + 1)).find? (fun d => decide (d = s.seat) || s.routed d) with
      | none => exact .inl rfl
      | some d =>
        rw [hf, Option.getD_some] at hr
        have hd := List.find?_some hf
        simp only [hr, Bool.or_false, decide_eq_true_eq] at hd
        exact .inr hd

theorem SameTree.timeChild {p : Nat} (hp : p < 4) : t.timeChild p = s.timeChild p := by
  rw [State.timeChild, State.timeChild, h.timeRoot, h.pt, h.up p hp, h.hopsTo]

theorem SameTree.treePorts : t.treePorts = s.treePorts := List.filter_congr fun p hp => by
  rw [h.timeParent, h.up p (List.mem_range.mp hp), h.timeChild (List.mem_range.mp hp)]

theorem SameTree.outPorts {dst : Nat} (hm : ∀ g < 16, t.fld (CPL_MGRP g) CPL_MGRP_PMASK = s.fld (CPL_MGRP g) CPL_MGRP_PMASK) (inp : Nat) :
    t.outPorts dst inp = s.outPorts dst inp := by
  unfold State.outPorts
  dsimp only
  rw [h.treePorts, h.routed, h.seat]
  congr 1
  refine if_congr Iff.rfl rfl ?_
  split
  · exact List.filter_congr fun p hp => by rw [hm _ (by omega), h.up p (List.mem_range.mp hp)]
  · split
    · next hr => rw [h.routePort hr.1]
    · rfl

end

/-! ### Flags of a connection (R328, R329) -/

section
variable {s t : State} {c : Nat} {f : Fld}

theorem rxstat_event (hc : c < 8) : eventRegister (GRD_RXSTAT c) = false :=
  guardRegister_offGate.event _ (by simp only [GuardRegister, GRD_RXSTAT]; omega)

/-- A flag of GRD_RXSTAT sets with an event of the Guard. -/
def rxNote (c : Nat) (f : Fld) (k : Nat) (s : State) : State := (s.sq (GRD_RXSTAT c) f).raise (evCom k)

theorem evCom_guard {k : Nat} (hk : k < 4) : evReserved (evCom k) = false := by interval_cases k <;> decide

theorem rxNote_noted {k : Nat} (hc : c < 8) (hk : k < 4) (ha : s.awake = true) (hf : f.lo < 24 ∧ 0 < f.len) :
    (rxNote c f k s).flag (GRD_RXSTAT c) f = true ∧ (rxNote c f k s).evPending (evCom k) = true :=
  sq_raise_noted s (evCom_guard hk) ha hf.1 hf.2 (eventCounter_of_event (rxstat_event hc))

theorem rxNote_rd {k o : Nat} (h : o ≠ GRD_RXSTAT c) (ho : GuardRegister o) : (rxNote c f k s).rd o = s.rd o :=
  (raise_rd_apart _ _ (guardRegister_offGate.event o ho)).trans (rd_wr_of_ne _ _ h)

theorem rxNote_onlyEvents (c : Nat) (f : Fld) (k : Nat) (s : State) : OnlyEvents s (rxNote c f k s) :=
  (sq_onlyEvents s _ f).trans (raise_onlyEvents _ _)

theorem guard_rxseq (hc : c < 8) : GuardRegister (GRD_RXSEQ c) := by simp only [GuardRegister, GRD_RXSEQ]; omega
theorem rxseq_ne_rxstat {d : Nat} : GRD_RXSEQ c ≠ GRD_RXSTAT d := by simp only [GRD_RXSEQ, GRD_RXSTAT]; omega

theorem rxNote_rxseq {k : Nat} (hc : c < 8) : (rxNote c f k s).rd (GRD_RXSEQ c) = s.rd (GRD_RXSEQ c) :=
  rxNote_rd rxseq_ne_rxstat (guard_rxseq hc)

/-! ### Requests (R331) -/

theorem pair_lt (s : State) (c : Nat) : s.fld (GRD_RXCFG c) GRD_RXCFG_PAIR < 8 := get_lt GRD_RXCFG_PAIR _

/-- A request as it stands before the carrier has it. -/
def requestMade (c : Nat) (wait : Bool) (s : State) : State :=
  let u := s.updGr c (fun x => { x with challenge := some (word s.grdTime), reqAt := some s.grdTime, asked := false })
  if wait then u.setFld (GRD_RXSTAT c) GRD_RXSTAT_STATE grdWAIT else u

/-- The bytes of a request. -/
def requestBytes (c : Nat) (s : State) : List Byte :=
  let p := s.fld (GRD_RXCFG c) GRD_RXCFG_PAIR
  guardFrame (s.rd (GRD_TXID p)) (s.fld (GRD_TXCFG p) GRD_TXCFG_CID) 0 (s.grdTime % 65536)
    ([1, 0] ++ leBytes 2 (s.fld (GRD_RXCFG c) GRD_RXCFG_CID) ++ leBytes 4 s.grdTime)

theorem sendRequest_eq (c : Nat) (wait : Bool) (s : State) : sendRequest c wait s =
    (let p := s.fld (GRD_RXCFG c) GRD_RXCFG_PAIR
     if !s.flag (GRD_TXCFG p) GRD_TXCFG_EN then s else handOver p false (requestBytes c s) (requestMade c wait s)) := rfl

theorem offCarrier_rx {p o : Nat} (h : o < 0x190100 ∨ (0x190200 ≤ o ∧ o < 0x1A0000)) (hp : p < 8) : OffCarrier p o :=
  ⟨by omega, by simp only [GRD_TXCTL]; omega, by simp only [GRD_TXSEQ]; omega⟩

theorem askRequest_rd {o : Nat} (h : o < 0x190100 ∨ (0x190200 ≤ o ∧ o < 0x1A0000)) (hne : o ≠ GRD_RXSTAT c) :
    (askRequest c s).rd o = s.rd o := by
  unfold askRequest
  split
  · rw [sendRequest_eq]
    dsimp only
    split
    · rfl
    · rw [handOver_rd (offCarrier_rx h (pair_lt s c))]
      exact rd_wr_of_ne _ _ hne
  · rfl

theorem askRequest_flag (hc : c < 8) (hf : GRD_RXSTAT_STATE.lo + GRD_RXSTAT_STATE.len ≤ f.lo) :
    (askRequest c s).flag (GRD_RXSTAT c) f = s.flag (GRD_RXSTAT c) f := by
  unfold askRequest
  split
  · rw [sendRequest_eq]
    dsimp only
    split
    · rfl
    · rw [State.flag, handOver_rd (offCarrier_rx (by simp only [GRD_RXSTAT]; omega) (pair_lt s c))]
      exact flag_setFld_apart (s := s.updGr c _) (.inl hf)
  · rfl

theorem askRequest_pending {src : Nat} (he : evReserved src = false) (h : s.evPending src = true) : (askRequest c s).evPending src = true := by
  have := evReserved_div he
  rw [State.evPending, askRequest_rd (.inl (by simp only [EVT_PEND]; omega)) (by simp only [EVT_PEND, GRD_RXSTAT]; omega)]
  exact h

/-- A refusal that asks for a request leaves the number. -/
theorem refusal_leaves (hc : c < 8) (ha : s.awake = true) : (askRequest c (seqRefused c s)).flag (GRD_RXSTAT c) GRD_RXSTAT_SEQREF = true ∧
    (askRequest c (seqRefused c s)).evPending (evCom 2) = true ∧
    (askRequest c (seqRefused c s)).rd (GRD_RXSEQ c) = s.rd (GRD_RXSEQ c) := by
  obtain ⟨h1, h2⟩ := rxNote_noted (f := GRD_RXSTAT_SEQREF) (k := 2) hc (by decide) ha (by decide)
  refine ⟨(askRequest_flag hc (by decide)).trans h1, askRequest_pending (by decide) h2, ?_⟩
  rw [askRequest_rd (.inl (by simp only [GRD_RXSEQ]; omega)) rxseq_ne_rxstat]
  exact rxNote_rxseq hc

/-! ### Data frames that are refused (R328 to R330, R332) -/

variable {seq dl : Nat} {pl : List Byte}

theorem dataFrame_bad (hc : c < 8) (ha : s.awake = true) (hcmd : s.grdCmd c = true) (hpl : pl ≠ []) (hb : payloadBad pl = true) :
    (dataFrame c seq dl pl s).flag (GRD_RXSTAT c) GRD_RXSTAT_CRCF = true ∧
      (dataFrame c seq dl pl s).rd (GRD_RXSEQ c) = s.rd (GRD_RXSEQ c) := by
  have he : pl.isEmpty = false := by rw [List.isEmpty_eq_false_iff]; exact hpl
  have heq : dataFrame c seq dl pl s = crcFail c s := if_pos (by rw [hcmd, hb, he]; rfl)
  rw [heq]
  exact ⟨(rxNote_noted (f := GRD_RXSTAT_CRCF) (k := 3) hc (by decide) ha (by decide)).1, rxNote_rxseq (f := GRD_RXSTAT_CRCF) (k := 3) hc⟩

/-- A payload that R332 does not refuse. -/
def PayloadGood (c : Nat) (pl : List Byte) (s : State) : Prop := s.grdCmd c = true → payloadBad pl = false

theorem dataFrame_good (h : PayloadGood c pl s) : dataFrame c seq dl pl s =
    (if s.grdState c ≠ grdLIVE then askRequest c (seqRefused c s)
     else
      let d := seqSteps (s.fld (GRD_RXSEQ c) GRD_RXSEQ_LAST) seq
      if d = 0 then s
      else if s.fld (GRD_RXTIM c) GRD_RXTIM_WIN < d then
        let n := (s.gr c).refusals + 1
        let u := seqRefused c (s.updGr c (fun x => { x with refusals := n }))
        if 3 ≤ n ∨ u.flag (GRD_RXSTAT c) GRD_RXSTAT_EXP then askRequest c u else u
      else
        let x := s.delta c dl
        if 1 ≤ x ∧ x ≤ s.fld (GRD_RXDL c) GRD_RXDL_DMAX then acceptData c seq x.toNat pl s
        else (s.sq (GRD_RXSTAT c) GRD_RXSTAT_LATE).raise (evCom 2)) := by
  refine if_neg fun hb => ?_
  simp only [Bool.and_eq_true] at hb
  rw [h hb.1.1] at hb
  exact absurd hb.2 (by decide)

theorem dataFrame_beyond (hc : c < 8) (ha : s.awake = true) (h : PayloadGood c pl s) (hl : s.grdState c = grdLIVE)
    (hw : s.fld (GRD_RXTIM c) GRD_RXTIM_WIN < seqSteps (s.fld (GRD_RXSEQ c) GRD_RXSEQ_LAST) seq) :
    (dataFrame c seq dl pl s).flag (GRD_RXSTAT c) GRD_RXSTAT_SEQREF = true ∧
      (dataFrame c seq dl pl s).rd (GRD_RXSEQ c) = s.rd (GRD_RXSEQ c) := by
  rw [dataFrame_good h, if_neg (not_not_intro hl)]
  dsimp only
  rw [if_neg (by omega), if_pos hw]
  let u := s.updGr c (fun x => { x with refusals := (s.gr c).refusals + 1 })
  obtain ⟨h1, h2, h3⟩ := refusal_leaves (s := u) hc ha
  split
  · exact ⟨h1, h3⟩
  · exact ⟨(rxNote_noted (s := u) (f := GRD_RXSTAT_SEQREF) (k := 2) hc (by decide) ha (by decide)).1,
      rxNote_rxseq (s := u) (f := GRD_RXSTAT_SEQREF) (k := 2) hc⟩

theorem dataFrame_late (hc : c < 8) (ha : s.awake = true) (h : PayloadGood c pl s) (hl : s.grdState c = grdLIVE)
    (h1 : 1 ≤ seqSteps (s.fld (GRD_RXSEQ c) GRD_RXSEQ_LAST) seq)
    (hw : seqSteps (s.fld (GRD_RXSEQ c) GRD_RXSEQ_LAST) seq ≤ s.fld (GRD_RXTIM c) GRD_RXTIM_WIN)
    (hd : s.delta c dl < 1 ∨ s.fld (GRD_RXDL c) GRD_RXDL_DMAX < s.delta c dl) :
    (dataFrame c seq dl pl s).flag (GRD_RXSTAT c) GRD_RXSTAT_LATE = true ∧
      (dataFrame c seq dl pl s).rd (GRD_RXSEQ c) = s.rd (GRD_RXSEQ c) := by
  rw [dataFrame_good h, if_neg (not_not_intro hl)]
  dsimp only
  rw [if_neg (by omega), if_neg (by omega), if_neg (by omega)]
  exact ⟨(rxNote_noted (f := GRD_RXSTAT_LATE) (k := 2) hc (by decide) ha (by decide)).1,
    rxNote_rxseq (f := GRD_RXSTAT_LATE) (k := 2) hc⟩

theorem dataFrame_accepts (h : PayloadGood c pl s) (hl : s.grdState c = grdLIVE)
    (h1 : 1 ≤ seqSteps (s.fld (GRD_RXSEQ c) GRD_RXSEQ_LAST) seq)
    (hw : seqSteps (s.fld (GRD_RXSEQ c) GRD_RXSEQ_LAST) seq ≤ s.fld (GRD_RXTIM c) GRD_RXTIM_WIN)
    (hd : 1 ≤ s.delta c dl) (hm : s.delta c dl ≤ s.fld (GRD_RXDL c) GRD_RXDL_DMAX) :
    dataFrame c seq dl pl s = acceptData c seq (s.delta c dl).toNat pl s := by
  rw [dataFrame_good h, if_neg (not_not_intro hl)]
  dsimp only
  rw [if_neg (by omega), if_neg (by omega), if_pos ⟨hd, hm⟩]

/-! ### An accepted data frame (R329, R332) -/

/-- The number, the count, the expiry and the data of an accepted frame. -/
def dataTaken (c seq delta : Nat) (pl : List Byte) (s : State) : State :=
  let u := (s.updGr c (fun x => { x with expiry := some (s.grdTime + delta), refusals := 0 })).setFld (GRD_RXSEQ c) GRD_RXSEQ_LAST seq
  showData c pl (u.setFld (GRD_RXSTAT c) GRD_RXSTAT_ACNT (u.fld (GRD_RXSTAT c) GRD_RXSTAT_ACNT + 1))

theorem acceptData_eq (hpl : pl ≠ []) (c seq delta : Nat) (s : State) : acceptData c seq delta pl s =
    (let u := dataTaken c seq delta pl s
     (if u.grdCmd c then takeCommand c pl u else u.setFlag (GRD_RXSTAT c) GRD_RXSTAT_EXP false).raise (evCom 0)) := by
  unfold acceptData dataTaken
  dsimp only
  rw [if_neg hpl, if_neg hpl]

theorem showData_rd {o : Nat} (h : ∀ k < 12, o ≠ GRD_RXDATA c k) (s : State) : (showData c pl s).rd o = s.rd o :=
  Same.each (f := fun t => t.rd o) .refl fun k hk _ => rd_wr_of_ne _ _ (h k (List.mem_range.mp hk))

theorem showData_shown {k : Nat} (hk : k < 12) (s : State) :
    (showData c pl s).rd (GRD_RXDATA c k) = word (Machine.bytesAt pl (4 * k) 4) :=
  each_at (P := fun _ => True) (Q := fun t => t.rd (GRD_RXDATA c k) = word (Machine.bytesAt pl (4 * k) 4)) List.nodup_range
    (List.mem_range.mpr hk) (fun _ _ _ _ _ => trivial) (fun _ _ => rd_wr_self ..)
    (fun j _ hne t ht => (rd_wr_of_ne _ _ (by simp only [GRD_RXDATA]; omega)).trans ht) trivial

theorem showData_grd (s : State) : (showData c pl s).grd = s.grd := Same.each (f := State.grd) rfl fun _ _ _ => rfl
theorem showData_awake (s : State) : (showData c pl s).awake = s.awake := Same.each (f := State.awake) rfl fun _ _ _ => rfl

theorem updGr_gr (s : State) (c : Nat) (g : GrdRx → GrdRx) : (s.updGr c g).gr c = g (s.gr c) := mget_mset_self ..

/-- What every accepted frame leaves. -/
structure DataTaken (c seq delta : Nat) (pl : List Byte) (s t : State) : Prop where
  last : t.fld (GRD_RXSEQ c) GRD_RXSEQ_LAST = seq
  expiry : (t.gr c).expiry = some (s.grdTime + delta)
  count : t.fld (GRD_RXSTAT c) GRD_RXSTAT_ACNT = (s.fld (GRD_RXSTAT c) GRD_RXSTAT_ACNT + 1) % 256
  data : ∀ k, k < 12 → t.rd (GRD_RXDATA c k) = word (Machine.bytesAt pl (4 * k) 4)

theorem dataTaken_taken {delta : Nat} (hs : seq < 65536) (hc : c < 8) : DataTaken c seq delta pl s (dataTaken c seq delta pl s) := by
  have hq : ∀ k < 12, GRD_RXSEQ c ≠ GRD_RXDATA c k := fun k hk => by simp only [GRD_RXSEQ, GRD_RXDATA]; omega
  have ht : ∀ k < 12, GRD_RXSTAT c ≠ GRD_RXDATA c k := fun k hk => by simp only [GRD_RXSTAT, GRD_RXDATA]; omega
  unfold dataTaken
  extract_lets u
  refine ⟨?_, ?_, ?_, fun k hk => showData_shown hk _⟩
  · rw [State.fld, showData_rd hq]
    exact (fld_setFld_ne (s := u) rxseq_ne_rxstat).trans ((fld_setFld_self _ _ _ _ (by decide)).trans (Nat.mod_eq_of_lt hs))
  · rw [State.gr, showData_grd]
    change ((s.updGr c (fun x => { x with expiry := some (s.grdTime + delta), refusals := 0 })).gr c).expiry = _
    rw [updGr_gr]
  · rw [State.fld, showData_rd ht]
    exact (fld_setFld_self u _ _ _ (by decide)).trans (congrArg (fun n => (n + 1) % 256) (fld_setFld_ne
      (by simp only [GRD_RXSEQ, GRD_RXSTAT]; omega)))

/-- Other registers of the Guard. -/
theorem dataTaken_rd {delta o : Nat} (h1 : o ≠ GRD_RXSEQ c) (h2 : o ≠ GRD_RXSTAT c) (h3 : ∀ k < 12, o ≠ GRD_RXDATA c k) :
    (dataTaken c seq delta pl s).rd o = s.rd o :=
  (showData_rd h3 _).trans ((rd_wr_of_ne _ _ h2).trans (rd_wr_of_ne _ _ h1))

theorem axl_lt (s : State) (c : Nat) : s.grdAxl c < 4 := get_lt GRD_RXCFG_AXL _

/-- The command of an accepted frame, before its drive enable acts. -/
def commandShown (c : Nat) (pl : List Byte) (s : State) : State :=
  let a := s.grdAxl c
  let s := ((s.wr (GRD_CMDSET a) (word (Machine.bytesAt pl 0 4))).wr (GRD_CMDMAX a) (word (Machine.bytesAt pl 4 4))).wr
    (GRD_CMDMIN a) (word (Machine.bytesAt pl 8 4))
  let s := s.setFld (GRD_CMDFLG a) GRD_CMDFLG_FLAGS (Machine.bytesAt pl 12 1)
  (s.setFlag (GRD_RXSTAT c) GRD_RXSTAT_EXP false).setFlag (GRD_RXSTAT c) GRD_RXSTAT_ZERO false

theorem takeCommand_eq (c : Nat) (pl : List Byte) (s : State) : takeCommand c pl s =
    settleBrake (drayDrive (commandShown c pl s).anyDrv (commandShown c pl s)) := rfl

theorem takeCommand_rd {o : Nat} (ho : GuardRegister o) : (takeCommand c pl s).rd o = (commandShown c pl s).rd o := by
  rw [takeCommand_eq]
  exact commandSettled_guard _ _ o ho

theorem commandShown_rd {o : Nat} (ho : o < 0x190200 ∨ 0x190300 ≤ o) (h : o ≠ GRD_RXSTAT c) : (commandShown c pl s).rd o = s.rd o := by
  have ha := axl_lt s c
  unfold commandShown
  dsimp only
  generalize s.grdAxl c = a at ha
  refine (rd_wr_of_ne _ _ h).trans ((rd_wr_of_ne _ _ h).trans ((rd_wr_of_ne _ _ ?_).trans ((rd_wr_of_ne _ _ ?_).trans
    ((rd_wr_of_ne _ _ ?_).trans (rd_wr_of_ne _ _ ?_)))))
  · simp only [GRD_CMDFLG]; omega
  · simp only [GRD_CMDMIN]; omega
  · simp only [GRD_CMDMAX]; omega
  · simp only [GRD_CMDSET]; omega

/-- The words of a command, and the flags of its connection. -/
theorem commandShown_words (hc : c < 8) : let a := s.grdAxl c
    (commandShown c pl s).rd (GRD_CMDSET a) = word (Machine.bytesAt pl 0 4) ∧
    (commandShown c pl s).rd (GRD_CMDMAX a) = word (Machine.bytesAt pl 4 4) ∧
    (commandShown c pl s).rd (GRD_CMDMIN a) = word (Machine.bytesAt pl 8 4) ∧
    (commandShown c pl s).fld (GRD_CMDFLG a) GRD_CMDFLG_FLAGS = Machine.bytesAt pl 12 1 % 8 := by
  have ha := axl_lt s c
  unfold commandShown
  dsimp only
  generalize s.grdAxl c = a at ha
  have hne : ∀ o, 0x190200 ≤ o → o ≠ GRD_RXSTAT c := fun o ho => by simp only [GRD_RXSTAT]; omega
  have h1 := hne (GRD_CMDSET a) (by simp only [GRD_CMDSET]; omega)
  have h2 := hne (GRD_CMDMAX a) (by simp only [GRD_CMDMAX]; omega)
  have h3 := hne (GRD_CMDMIN a) (by simp only [GRD_CMDMIN]; omega)
  have h4 := hne (GRD_CMDFLG a) (by simp only [GRD_CMDFLG]; omega)
  refine ⟨?_, ?_, ?_, ?_⟩
  · exact (rd_wr_of_ne _ _ h1).trans ((rd_wr_of_ne _ _ h1).trans ((rd_wr_of_ne _ _ (by simp only [GRD_CMDSET, GRD_CMDFLG]; omega)).trans
      ((rd_wr_of_ne _ _ (by simp only [GRD_CMDSET, GRD_CMDMIN]; omega)).trans
        ((rd_wr_of_ne _ _ (by simp only [GRD_CMDSET, GRD_CMDMAX]; omega)).trans (rd_wr_self ..)))))
  · exact (rd_wr_of_ne _ _ h2).trans ((rd_wr_of_ne _ _ h2).trans ((rd_wr_of_ne _ _ (by simp only [GRD_CMDMAX, GRD_CMDFLG]; omega)).trans
      ((rd_wr_of_ne _ _ (by simp only [GRD_CMDMAX, GRD_CMDMIN]; omega)).trans (rd_wr_self ..))))
  · exact (rd_wr_of_ne _ _ h3).trans ((rd_wr_of_ne _ _ h3).trans ((rd_wr_of_ne _ _ (by simp only [GRD_CMDMIN, GRD_CMDFLG]; omega)).trans
      (rd_wr_self ..)))
  · exact (fld_setFlag_ne h4).trans ((fld_setFlag_ne h4).trans (fld_setFld_self _ _ _ _ (by decide)))

theorem commandShown_stat (hc : c < 8) : (commandShown c pl s).flag (GRD_RXSTAT c) GRD_RXSTAT_EXP = false ∧
    (commandShown c pl s).flag (GRD_RXSTAT c) GRD_RXSTAT_ZERO = false ∧
    (commandShown c pl s).fld (GRD_RXSTAT c) GRD_RXSTAT_ACNT = s.fld (GRD_RXSTAT c) GRD_RXSTAT_ACNT := by
  have ha := axl_lt s c
  unfold commandShown
  dsimp only
  generalize s.grdAxl c = a at ha
  refine ⟨(flag_setFlag_apart (by decide)).trans (flag_setFlag_self _ _ _ _ (by decide) (by decide)),
    flag_setFlag_self _ _ _ _ (by decide) (by decide), ?_⟩
  refine (fld_setFlag_apart (by decide)).trans ((fld_setFlag_apart (by decide)).trans ((fld_setFld_ne ?_).trans ((fld_wr_ne ?_).trans
    ((fld_wr_ne ?_).trans (fld_wr_ne ?_)))))
  · simp only [GRD_RXSTAT, GRD_CMDFLG]; omega
  · simp only [GRD_RXSTAT, GRD_CMDMIN]; omega
  · simp only [GRD_RXSTAT, GRD_CMDMAX]; omega
  · simp only [GRD_RXSTAT, GRD_CMDSET]; omega

theorem guard_rxstat (hc : c < 8) : GuardRegister (GRD_RXSTAT c) := by simp only [GuardRegister, GRD_RXSTAT]; omega
theorem guard_rxdata {k : Nat} (hc : c < 8) (hk : k < 12) : GuardRegister (GRD_RXDATA c k) := by
  simp only [GuardRegister, GRD_RXDATA]; omega

theorem takeCommand_taken {delta : Nat} {u : State} (hc : c < 8) (h : DataTaken c seq delta pl s u) :
    DataTaken c seq delta pl s (takeCommand c pl u) where
  last := (congrArg GRD_RXSEQ_LAST.get ((takeCommand_rd (guard_rxseq hc)).trans (commandShown_rd (by simp only [GRD_RXSEQ]; omega)
    rxseq_ne_rxstat))).trans h.last
  expiry := by
    rw [takeCommand_eq, State.gr, commandSettled_grd]
    exact h.expiry
  count := (congrArg GRD_RXSTAT_ACNT.get (takeCommand_rd (guard_rxstat hc))).trans ((commandShown_stat hc).2.2.trans h.count)
  data k hk := (takeCommand_rd (guard_rxdata hc hk)).trans ((commandShown_rd (by simp only [GRD_RXDATA]; omega)
    (by simp only [GRD_RXDATA, GRD_RXSTAT]; omega)).trans (h.data k hk))

theorem setExp_taken {delta : Nat} {u : State} (hc : c < 8) (h : DataTaken c seq delta pl s u) :
    DataTaken c seq delta pl s (u.setFlag (GRD_RXSTAT c) GRD_RXSTAT_EXP false) where
  last := (fld_setFlag_ne rxseq_ne_rxstat).trans h.last
  expiry := h.expiry
  count := (fld_setFlag_apart (by decide)).trans h.count
  data k hk := (rd_wr_of_ne _ _ (by simp only [GRD_RXDATA, GRD_RXSTAT]; omega)).trans (h.data k hk)

theorem raise_taken {delta src : Nat} {u : State} (hc : c < 8) (h : DataTaken c seq delta pl s u) :
    DataTaken c seq delta pl s (u.raise src) where
  last := (congrArg GRD_RXSEQ_LAST.get (raise_rd_apart _ _ (guardRegister_offGate.event _ (guard_rxseq hc)))).trans h.last
  expiry := by
    obtain ⟨_, _, _, _, he⟩ := raise_onlyEvents u src
    rw [he]
    exact h.expiry
  count := (congrArg GRD_RXSTAT_ACNT.get (raise_rd_apart _ _ (guardRegister_offGate.event _ (guard_rxstat hc)))).trans h.count
  data k hk := (raise_rd_apart _ _ (guardRegister_offGate.event _ (guard_rxdata hc hk))).trans (h.data k hk)

theorem acceptData_leaves {delta : Nat} (hc : c < 8) (ha : s.awake = true) (hs : seq < 65536) (hpl : pl ≠ []) :
    DataTaken c seq delta pl s (acceptData c seq delta pl s) ∧
      (acceptData c seq delta pl s).flag (GRD_RXSTAT c) GRD_RXSTAT_EXP = false ∧
      (acceptData c seq delta pl s).evPending (evCom 0) = true := by
  have ht := dataTaken_taken (s := s) (delta := delta) (pl := pl) hs hc
  have haw : (dataTaken c seq delta pl s).awake = true := (showData_awake _).trans ha
  have hev : eventRegister (GRD_RXSTAT c) = false := rxstat_event hc
  rw [acceptData_eq hpl]
  dsimp only
  generalize dataTaken c seq delta pl s = u at ht haw
  split
  · refine ⟨raise_taken hc (takeCommand_taken hc ht), ?_, raise_pending _ (by decide) ?_⟩
    · exact (congrArg GRD_RXSTAT_EXP.bit ((raise_rd_apart _ _ hev).trans (takeCommand_rd (guard_rxstat hc)))).trans (commandShown_stat hc).1
    · rw [takeCommand_eq]
      exact commandSettled_awake _ haw
  · refine ⟨raise_taken hc (setExp_taken hc ht), ?_, raise_pending _ (by decide) haw⟩
    exact (congrArg GRD_RXSTAT_EXP.bit (raise_rd_apart _ _ hev)).trans (flag_setFlag_self _ _ _ _ (by decide) (by decide))

theorem dataTaken_cfg (delta : Nat) : (dataTaken c seq delta pl s).rd (GRD_RXCFG c) = s.rd (GRD_RXCFG c) := dataTaken_rd
  (by simp only [GRD_RXCFG, GRD_RXSEQ]; omega) (by simp only [GRD_RXCFG, GRD_RXSTAT]; omega)
  (fun k hk => by simp only [GRD_RXCFG, GRD_RXDATA]; omega)

/-- On a command connection the Guard's registers are those of the command. -/
theorem acceptData_rd {delta o : Nat} (hpl : pl ≠ []) (hcmd : s.grdCmd c = true) (ho : GuardRegister o) :
    (acceptData c seq delta pl s).rd o = (commandShown c pl (dataTaken c seq delta pl s)).rd o := by
  have hcmd' : (dataTaken c seq delta pl s).grdCmd c = true := (congrArg GRD_RXCFG_CMD.bit (dataTaken_cfg delta)).trans hcmd
  rw [acceptData_eq hpl]
  dsimp only
  rw [if_pos hcmd', raise_rd_apart _ _ (guardRegister_offGate.event o ho), takeCommand_rd ho]

/-- The command of an Axle as a payload gives it. -/
structure Commanded (a : Nat) (pl : List Byte) (t : State) : Prop where
  set : t.rd (GRD_CMDSET a) = word (Machine.bytesAt pl 0 4)
  max : t.rd (GRD_CMDMAX a) = word (Machine.bytesAt pl 4 4)
  min : t.rd (GRD_CMDMIN a) = word (Machine.bytesAt pl 8 4)
  flags : t.fld (GRD_CMDFLG a) GRD_CMDFLG_FLAGS = Machine.bytesAt pl 12 1 % 8

theorem acceptData_command {delta : Nat} (hc : c < 8) (hpl : pl ≠ []) (hcmd : s.grdCmd c = true) :
    Commanded (s.grdAxl c) pl (acceptData c seq delta pl s) ∧ (acceptData c seq delta pl s).flag (GRD_RXSTAT c) GRD_RXSTAT_ZERO = false := by
  have haxl : (dataTaken c seq delta pl s).grdAxl c = s.grdAxl c := congrArg GRD_RXCFG_AXL.get (dataTaken_cfg delta)
  have ha := axl_lt s c
  obtain ⟨h1, h2, h3, h4⟩ := commandShown_words (s := dataTaken c seq delta pl s) (pl := pl) hc
  have hz := (commandShown_stat (s := dataTaken c seq delta pl s) (pl := pl) hc).2.1
  rw [haxl] at h1 h2 h3 h4
  have hrd : ∀ o, GuardRegister o → (acceptData c seq delta pl s).rd o = (commandShown c pl (dataTaken c seq delta pl s)).rd o :=
    fun o ho => acceptData_rd hpl hcmd ho
  generalize acceptData c seq delta pl s = t at hrd
  generalize commandShown c pl (dataTaken c seq delta pl s) = u at hrd h1 h2 h3 h4 hz
  generalize s.grdAxl c = a at ha h1 h2 h3 h4
  refine ⟨⟨(hrd _ ?_).trans h1, (hrd _ ?_).trans h2, (hrd _ ?_).trans h3, (congrArg GRD_CMDFLG_FLAGS.get (hrd _ ?_)).trans h4⟩,
    (congrArg GRD_RXSTAT_ZERO.bit (hrd _ (guard_rxstat hc))).trans hz⟩
  · simp only [GuardRegister, GRD_CMDSET]; omega
  · simp only [GuardRegister, GRD_CMDMAX]; omega
  · simp only [GuardRegister, GRD_CMDMIN]; omega
  · simp only [GuardRegister, GRD_CMDFLG]; omega

end

/-! ### Reception (R328 to R330, R332) -/

section
variable {s : State} {c : Fin 8} {now seq dl : Nat} {pl : List Byte}

/-- A frame that the check of R328 takes, with its command. -/
theorem guardReceive_data (h0 : seq ≠ 0) (hs : seq < 65536) (hdl : dl < 65536) (hl : pl.length = s.fld (GRD_RXCFG c) GRD_RXCFG_PLEN)
    (h8 : pl.length ≠ 8) (cid : Nat) : guardReceive c (guardFrame (s.rd (GRD_RXID c)) cid seq dl pl) s = dataFrame c seq dl pl s := by
  unfold guardReceive
  rw [frameLen_data h0 hs hl h8]
  dsimp only
  rw [guardFrame_seq hs, guardFrame_dl hdl, guardFrame_payload, if_neg h0]

theorem guardDataFrame_eq {bs : List Byte} (ha : s.awake = true) (he : s.grdEn c = true) (hk : s.resyncKind c bs = none) :
    exec (.guardDataFrame c bs now) s = settled (guardReceive c bs (s.at now)) := by
  have ha' : (s.at now).awake = true := ha
  have he' : (s.at now).grdEn c = true := he
  have hk' : (s.at now).resyncKind c bs = none := hk
  change execGuardDataFrame c bs now s = _
  unfold execGuardDataFrame
  dsimp only
  rw [ha', he', hk']
  rfl

theorem resyncKind_data (h0 : seq ≠ 0) (hs : seq < 65536) (hl : pl.length = s.fld (GRD_RXCFG c) GRD_RXCFG_PLEN)
    (h8 : pl.length ≠ 8) (cid : Nat) : s.resyncKind c (guardFrame (s.rd (GRD_RXID c)) cid seq dl pl) = none := by
  unfold State.resyncKind
  rw [frameLen_data h0 hs hl h8]
  split
  · next h => exact absurd (Option.some.inj h) h8
  · rfl

theorem resyncKind_none {bs : List Byte} (h : s.frameLen c bs = none) : s.resyncKind c bs = none := by
  unfold State.resyncKind
  rw [h]

theorem guardReceive_failed {bs : List Byte} (h : s.frameLen c bs = none) : guardReceive c bs s = crcFail c s := by
  unfold guardReceive
  rw [h]

theorem syncStretches_gr (s : State) (c : Nat) : (syncStretches s).gr c = s.gr c := by
  obtain ⟨_, _, he⟩ := (onlyStretch_syncStretches s).only
  rw [he]
  rfl

/-- Words of a payload as the statement writes them. -/
theorem payload_word (pl : List Byte) (k : Nat) : word (Machine.bytesAt pl (4 * k) 4) = BitVec.ofNat 32 (leNat ((pl.drop (4 * k)).take 4)) := rfl

theorem payload_byte (pl : List Byte) (k : Nat) : Machine.bytesAt pl k 1 = (pl.getD k 0).toNat := by
  unfold Machine.bytesAt
  rw [List.getD_eq_getElem?_getD, ← List.head?_drop]
  cases pl.drop k <;> simp [leNat]

end

theorem guardReceives : Rules.GuardReceives := by
  intro s c now seq dl pl ha hen hlen h8 hpl hs1 hs2 hdl frame last steps delta
  have hc := c.isLt
  have h0 : seq ≠ 0 := by omega
  have hs : seq < 65536 := by omega
  have ha' : (s.at now).awake = true := ha
  have hlen' : pl.length = (s.at now).fld (GRD_RXCFG c) GRD_RXCFG_PLEN := hlen
  have hdata : exec (.guardDataFrame c (frame (s.rd (GRD_RXID c))) now) s = settled (dataFrame c seq dl pl (s.at now)) := by
    rw [guardDataFrame_eq ha hen (resyncKind_data h0 hs hlen h8 _)]
    exact congrArg settled (guardReceive_data (s := s.at now) h0 hs hdl hlen' h8 _)
  refine ⟨fun hf => ?_, fun hcmd hb => ?_, fun hg => ?_⟩
  · have hf' : (s.at now).frameLen c (frame 0) = none := hf
    refine ⟨_, guardDataFrame_eq ha hen (resyncKind_none hf), ?_⟩
    rw [guardReceive_failed hf', syncStretches_flag, syncStretches_evPending, syncStretches_rd]
    obtain ⟨h1, h2⟩ := rxNote_noted (s := s.at now) (f := GRD_RXSTAT_CRCF) (k := 3) hc (by decide) ha' (by decide)
    exact ⟨h1, h2, rxNote_rxseq (s := s.at now) (f := GRD_RXSTAT_CRCF) (k := 3) hc⟩
  · refine ⟨_, hdata, ?_⟩
    rw [syncStretches_flag, syncStretches_rd]
    exact dataFrame_bad (s := s.at now) hc ha' hcmd hpl hb
  · have hgood : PayloadGood c pl (s.at now) := hg
    refine ⟨_, hdata, fun hl => ?_, fun hl h => ?_, fun hl hw => ?_, fun hl h1 hw => ⟨fun hd => ?_, fun hd hm => ?_⟩⟩
    · have heq : dataFrame c seq dl pl (s.at now) = askRequest c (seqRefused c (s.at now)) := (dataFrame_good hgood).trans (if_pos hl)
      rw [heq, syncStretches_flag, syncStretches_evPending, syncStretches_rd]
      exact refusal_leaves (s := s.at now) hc ha'
    · have heq : dataFrame c seq dl pl (s.at now) = s.at now :=
        (dataFrame_good hgood).trans ((if_neg (not_not_intro hl)).trans (if_pos h))
      rw [heq, syncStretches_regs]
      rfl
    · rw [syncStretches_flag, syncStretches_rd]
      exact dataFrame_beyond (s := s.at now) hc ha' hgood hl hw
    · rw [syncStretches_flag, syncStretches_rd]
      exact dataFrame_late (s := s.at now) hc ha' hgood hl h1 hw hd
    · rw [dataFrame_accepts (s := s.at now) hgood hl h1 hw hd hm]
      obtain ⟨ht, hexp, hpend⟩ := acceptData_leaves (s := s.at now) (delta := ((s.at now).delta c dl).toNat) hc ha' hs hpl
      refine ⟨?_, ?_, ?_, ?_, ?_, fun k hk => ?_, fun hcmd hfull => ?_⟩
      · rw [syncStretches_fld]
        exact ht.last
      · rw [syncStretches_gr]
        exact ht.expiry
      · rw [syncStretches_fld]
        exact ht.count
      · rw [syncStretches_flag]
        exact hexp
      · rw [syncStretches_evPending]
        exact hpend
      · rw [syncStretches_rd]
        exact ht.data k hk
      · obtain ⟨hw, hz⟩ := acceptData_command (s := s.at now) (seq := seq) (delta := ((s.at now).delta c dl).toNat) hc hpl hcmd
        intro a word
        rw [syncStretches_rd, syncStretches_rd, syncStretches_rd, syncStretches_fld, syncStretches_flag, ← payload_byte]
        exact ⟨hw.set, hw.max, hw.min, hw.flags, hz⟩

/-! ### Resynchronisation (R331) -/

section
variable {s : State} {c : Fin 8} {now : Nat}

theorem requestSent_leaves {k : Nat} (hk : k < 8) (he : s.flag (GRD_TXCFG (s.fld (GRD_RXCFG k) GRD_RXCFG_PAIR)) GRD_TXCFG_EN = true) :
    (sendRequest k true s).fld (GRD_RXSTAT k) GRD_RXSTAT_STATE = 1 ∧
      ((sendRequest k true s).gr k).challenge = some (word s.grdTime) ∧ ((sendRequest k true s).gr k).reqAt = some s.grdTime ∧
      ((sendRequest k true s).gr k).asked = false := by
  have heq : sendRequest k true s = handOver (s.fld (GRD_RXCFG k) GRD_RXCFG_PAIR) false (requestBytes k s) (requestMade k true s) := by
    rw [sendRequest_eq]
    dsimp only
    rw [if_neg (by rw [he]; decide)]
  have hg : (requestMade k true s).gr k = { s.gr k with challenge := some (word s.grdTime), reqAt := some s.grdTime, asked := false } :=
    updGr_gr s k (fun x => { x with challenge := some (word s.grdTime), reqAt := some s.grdTime, asked := false })
  rw [heq, handOver_gr, hg]
  refine ⟨?_, rfl, rfl, rfl⟩
  rw [State.fld, handOver_rd (offCarrier_rx (by simp only [GRD_RXSTAT]; omega) (pair_lt s k))]
  exact fld_setFld_self (s.updGr k _) _ _ _ (by decide)

theorem resyncRequestSend_leaves (ha : s.awake = true) (he : s.grdEn c = true) (hask : (s.gr c).asked = true)
    (hm : (s.at now).mayRequest c = true) (htx : s.flag (GRD_TXCFG (s.fld (GRD_RXCFG c) GRD_RXCFG_PAIR)) GRD_TXCFG_EN = true) :
    ∃ t, exec (.resyncRequestSend c now) s = .next t ∧ t.fld (GRD_RXSTAT c) GRD_RXSTAT_STATE = 1 ∧
      (t.gr c).challenge = some (BitVec.ofNat 32 (s.at now).grdTime) ∧ (t.gr c).reqAt = some (s.at now).grdTime ∧
      (t.gr c).asked = false := by
  have ha' : (s.at now).awake = true := ha
  have he' : (s.at now).grdEn c = true := he
  have hask' : ((s.at now).gr c).asked = true := hask
  have heq : exec (.resyncRequestSend c now) s = .next (sendRequest c true (s.at now)) := by
    change execResyncRequestSend c now s = _
    unfold execResyncRequestSend
    dsimp only
    rw [ha', he', hm, if_neg (by decide), if_pos hask']
  exact ⟨_, heq, requestSent_leaves (s := s.at now) c.isLt htx⟩

/-- The payload of a resynchronisation frame. -/
def resyncPayload (kind base ch : Nat) : List Byte := [BitVec.ofNat 8 kind, 0] ++ leBytes 2 base ++ leBytes 4 ch

theorem resyncPayload_length (kind base ch : Nat) : (resyncPayload kind base ch).length = 8 := by
  simp [resyncPayload, leBytes_length]

theorem resyncPayload_base {kind base ch : Nat} (h : base < 65536) : Machine.bytesAt (resyncPayload kind base ch) 2 2 = base := by
  have hd : (resyncPayload kind base ch).drop 2 = leBytes 2 base ++ leBytes 4 ch := rfl
  rw [Machine.bytesAt, hd, List.take_left' (leBytes_length 2 base), leNat_leBytes h]

theorem resyncPayload_tail (kind base ch : Nat) : (resyncPayload kind base ch).drop 4 = leBytes 4 ch := by
  rw [resyncPayload, List.drop_left' (by simp [leBytes_length])]

theorem resyncPayload_challenge {kind base ch : Nat} (h : ch < 2 ^ 32) : Machine.bytesAt (resyncPayload kind base ch) 4 4 = ch := by
  rw [Machine.bytesAt, resyncPayload_tail, List.take_of_length_le (by rw [leBytes_length]), leNat_leBytes h]

/-- A resynchronisation frame under the connection's identity. -/
def resyncBytes (c dl kind base ch : Nat) (s : State) : List Byte :=
  guardFrame (s.rd (GRD_RXID c)) (s.fld (GRD_RXCFG c) GRD_RXCFG_CID) 0 dl (resyncPayload kind base ch)

theorem resyncKind_resync (c dl kind base ch : Nat) : s.resyncKind c (resyncBytes c dl kind base ch s) = some (BitVec.ofNat 8 kind) := by
  have hget : (resyncBytes c dl kind base ch s).getD 6 0 = BitVec.ofNat 8 kind := by
    rw [List.getD_eq_getElem?_getD, ← List.head?_drop, resyncBytes, guardFrame_drop (by decide), frameBody_drop6]
    rfl
  unfold State.resyncKind
  rw [show s.frameLen c (resyncBytes c dl kind base ch s) = some 8 from frameLen_resync (resyncPayload_length ..)]
  change (if Machine.bytesAt (resyncBytes c dl kind base ch s) 2 2 = 0 then some ((resyncBytes c dl kind base ch s).getD 6 0) else none) = _
  rw [hget]
  exact if_pos (guardFrame_seq (by decide))

theorem guardReceive_resync {c dl kind base ch : Nat} (hdl : dl < 65536) :
    guardReceive c (resyncBytes c dl kind base ch s) s = resyncFrame c dl (resyncPayload kind base ch) s := by
  have hp : ((resyncBytes c dl kind base ch s).drop 6).take 8 = resyncPayload kind base ch := by
    rw [← resyncPayload_length kind base ch]
    exact guardFrame_payload
  unfold guardReceive
  rw [show s.frameLen c (resyncBytes c dl kind base ch s) = some 8 from frameLen_resync (resyncPayload_length ..)]
  dsimp only
  rw [hp, show Machine.bytesAt (resyncBytes c dl kind base ch s) 2 2 = 0 from guardFrame_seq (by decide),
    show Machine.bytesAt (resyncBytes c dl kind base ch s) 4 2 = dl from guardFrame_dl hdl, if_pos rfl]

theorem padTo_take {n : Nat} {bs : List Byte} (k : Nat) (h : bs.length = k) : (padTo n bs).take k = bs := List.take_left' h

/-- A frame that the Ethernet MAC takes for a connection. -/
theorem handOver_eth {p : Nat} {data : Bool} {bytes : List Byte} (he : s.flag (GRD_TXCFG p) GRD_TXCFG_EN = true)
    (hcarr : s.fld (GRD_TXCFG p) GRD_TXCFG_CARR = 4) (hen : s.flag ETH_CFG ETH_CFG_EN = true) (hl : s.flag ETH_STAT ETH_STAT_LINK = true) :
    carried p data bytes s = some { s with eth := { s.eth with guardQ := s.eth.guardQ ++ [padTo 46 bytes] } } := by
  unfold carried
  dsimp only
  rw [he, hcarr, if_neg (by decide), if_neg (by decide), if_pos rfl]
  exact if_pos (by rw [hen, hl]; rfl)

theorem resyncRequestFrame_leaves {q dl ch : Nat} (ha : s.awake = true) (he : s.grdEn c = true) (hq : q < 8) (hdl : dl < 65536)
    (htx : s.flag (GRD_TXCFG q) GRD_TXCFG_EN = true)
    (hfirst : ∀ r, r < q → s.flag (GRD_TXCFG r) GRD_TXCFG_EN = true →
      s.fld (GRD_TXCFG r) GRD_TXCFG_CID ≠ s.fld (GRD_TXCFG q) GRD_TXCFG_CID)
    (hcarr : s.fld (GRD_TXCFG q) GRD_TXCFG_CARR = 4) (hen : s.flag ETH_CFG ETH_CFG_EN = true) (hl : s.flag ETH_STAT ETH_STAT_LINK = true) :
    ∃ t, exec (.resyncRequestFrame c (resyncBytes c dl 1 (s.fld (GRD_TXCFG q) GRD_TXCFG_CID) ch s) now) s = .next t ∧
      ∃ f, t.eth.guardQ = s.eth.guardQ ++ [f] ∧ f.take 18 = guardFrame (s.rd (GRD_TXID q)) (s.fld (GRD_TXCFG q) GRD_TXCFG_CID) 0
        ((s.at now).grdTime % 65536) ([2, 0] ++ leBytes 2 (s.baseS q) ++ leBytes 4 ch) := by
  have ha' : (s.at now).awake = true := ha
  have he' : (s.at now).grdEn c = true := he
  have hcid : s.fld (GRD_TXCFG q) GRD_TXCFG_CID < 65536 := get_lt GRD_TXCFG_CID _
  generalize hbase : s.fld (GRD_TXCFG q) GRD_TXCFG_CID = base at hfirst hcid
  have hk : (s.at now).resyncKind c (resyncBytes c dl 1 base ch s) = some 1 := resyncKind_resync (s := s.at now) c dl 1 base ch
  have heq : exec (.resyncRequestFrame c (resyncBytes c dl 1 base ch s) now) s =
      .next (answerRequest (resyncPayload 1 base ch) (s.at now)) := by
    change execResyncRequestFrame c (resyncBytes c dl 1 base ch s) now s = _
    unfold execResyncRequestFrame
    dsimp only
    rw [ha', he', hk]
    exact congrArg Host.Outcome.next (guardReceive_resync (s := s.at now) (c := c) (kind := 1) (base := base) (ch := ch) hdl)
  have hfind : (List.range 8).find? (fun p => (s.at now).flag (GRD_TXCFG p) GRD_TXCFG_EN &&
      decide ((s.at now).fld (GRD_TXCFG p) GRD_TXCFG_CID = Machine.bytesAt (resyncPayload 1 base ch) 2 2)) = some q := by
    rw [List.find?_range_eq_some, resyncPayload_base hcid]
    refine ⟨?_, List.mem_range.mpr hq, fun r hr => ?_⟩
    · rw [Bool.and_eq_true, decide_eq_true_eq]
      exact ⟨htx, hbase⟩
    · rw [Bool.not_eq_true', Bool.and_eq_false_iff, decide_eq_false_iff_not]
      by_cases hr' : s.flag (GRD_TXCFG r) GRD_TXCFG_EN = true
      · exact .inr (hfirst r hr hr')
      · exact .inl (Bool.eq_false_iff.mpr hr')
  have hans : answerRequest (resyncPayload 1 base ch) (s.at now) = handOver q false (guardFrame (s.rd (GRD_TXID q))
      base 0 ((s.at now).grdTime % 65536) ([2, 0] ++ leBytes 2 (s.baseS q) ++ leBytes 4 ch)) (s.at now) := by
    unfold answerRequest
    dsimp only
    rw [hfind]
    dsimp only
    rw [resyncPayload_tail, List.take_of_length_le (by rw [leBytes_length]), ← hbase]
    rfl
  refine ⟨_, heq, _, ?_, padTo_take (n := 46) 18 (guardFrame_length (s.rd (GRD_TXID q)) base 0 ((s.at now).grdTime % 65536)
    ([2, 0] ++ leBytes 2 (s.baseS q) ++ leBytes 4 ch) |>.trans (by simp [leBytes_length]))⟩
  rw [hans, handOver_taken (handOver_eth (s := s.at now) htx hcarr hen hl)]
  rfl

theorem resyncFrame_answer {k dl base ch : Nat} : resyncFrame k dl (resyncPayload 2 base ch) s = takeAnswer331 k dl (resyncPayload 2 base ch) s := rfl

/-- An answer with its challenge, in its time (R331). -/
def answerTaken (k dl base : Nat) (s : State) : State :=
  let u := (s.setFld (GRD_RXSEQ k) GRD_RXSEQ_LAST base).setFld (GRD_RXSEQ k) GRD_RXSEQ_OFFSET ((dl + 65536 - s.grdTime % 65536) % 65536)
  rxNote k GRD_RXSTAT_RSYNC 2 ((u.updGr k (fun x => { x with challenge := none, asked := false, refusals := 0 })).setFld (GRD_RXSTAT k)
    GRD_RXSTAT_STATE grdLIVE)

theorem takeAnswer_eq {k dl base ch : Nat} (hb : base < 65536) (hch : ch < 2 ^ 32) (h : (s.gr k).challenge = some (BitVec.ofNat 32 ch)) :
    takeAnswer331 k dl (resyncPayload 2 base ch) s =
      if base ≠ 0 ∧ s.grdTime - ch ≤ s.fld (GRD_RXDL k) GRD_RXDL_RTTMAX then answerTaken k dl base s
      else s.sq (GRD_RXSTAT k) GRD_RXSTAT_SEQREF := by
  have hn : (BitVec.ofNat 32 ch).toNat = ch := by rw [BitVec.toNat_ofNat, Nat.mod_eq_of_lt hch]
  unfold takeAnswer331
  rw [h]
  dsimp only
  rw [resyncPayload_base hb, resyncPayload_challenge hch, hn, decide_eq_true rfl, Bool.true_and]
  by_cases hg : base ≠ 0 ∧ s.grdTime - ch ≤ s.fld (GRD_RXDL k) GRD_RXDL_RTTMAX
  · rw [if_pos hg, if_pos (by simpa using hg)]
    rfl
  · rw [if_neg hg, if_neg (by simpa using hg)]

theorem answerTaken_leaves {k dl base : Nat} (hk : k < 8) (ha : s.awake = true) (hb : base < 65536) (hdl : dl < 65536) :
    (answerTaken k dl base s).fld (GRD_RXSTAT k) GRD_RXSTAT_STATE = 2 ∧ (answerTaken k dl base s).fld (GRD_RXSEQ k) GRD_RXSEQ_LAST = base ∧
      ((answerTaken k dl base s).fld (GRD_RXSEQ k) GRD_RXSEQ_OFFSET + s.grdTime) % 65536 = dl ∧
      ((answerTaken k dl base s).gr k).challenge = none ∧ (answerTaken k dl base s).flag (GRD_RXSTAT k) GRD_RXSTAT_RSYNC = true ∧
      (answerTaken k dl base s).evPending (evCom 2) = true := by
  unfold answerTaken
  extract_lets u
  generalize hv : (u.updGr k (fun x => { x with challenge := none, asked := false, refusals := 0 })).setFld (GRD_RXSTAT k)
    GRD_RXSTAT_STATE grdLIVE = v
  have hv' : v.awake = true := by rw [← hv]; exact ha
  obtain ⟨hflag, hpend⟩ := rxNote_noted (s := v) (f := GRD_RXSTAT_RSYNC) (k := 2) hk (by decide) hv' (by decide)
  have hseq : (rxNote k GRD_RXSTAT_RSYNC 2 v).rd (GRD_RXSEQ k) = u.rd (GRD_RXSEQ k) := by
    rw [rxNote_rxseq hk, ← hv]
    exact rd_wr_of_ne _ _ rxseq_ne_rxstat
  have hofs : (rxNote k GRD_RXSTAT_RSYNC 2 v).fld (GRD_RXSEQ k) GRD_RXSEQ_OFFSET = (dl + 65536 - s.grdTime % 65536) % 65536 :=
    (congrArg GRD_RXSEQ_OFFSET.get hseq).trans ((fld_setFld_self _ _ _ _ (by decide)).trans (Nat.mod_mod _ _))
  refine ⟨?_, ?_, ?_, ?_, hflag, hpend⟩
  · refine ((raise_reports _ _).fld _ (rxstat_event hk)).trans ((fld_sq_apart (by decide) (by decide)).trans ?_)
    rw [← hv]
    exact fld_setFld_self (u.updGr k _) _ _ _ (by decide)
  · refine (congrArg GRD_RXSEQ_LAST.get hseq).trans ((fld_setFld_apart (by decide)).trans ?_)
    exact (fld_setFld_self _ _ _ _ (by decide)).trans (Nat.mod_eq_of_lt hb)
  · rw [hofs]
    omega
  · obtain ⟨_, _, _, _, he⟩ := rxNote_onlyEvents k GRD_RXSTAT_RSYNC 2 v
    rw [he, ← hv]
    exact congrArg GrdRx.challenge (updGr_gr u k (fun x => { x with challenge := none, asked := false, refusals := 0 }))

theorem resyncAnswerFrame_leaves {dl base ch : Nat} (ha : s.awake = true) (he : s.grdEn c = true) (hdl : dl < 65536)
    (hb : base < 65536) (hch : ch < 2 ^ 32) (hcl : (s.gr c).challenge = some (BitVec.ofNat 32 ch)) :
    exec (.resyncAnswerFrame c (resyncBytes c dl 2 base ch s) now) s =
      .next (if base ≠ 0 ∧ (s.at now).grdTime - ch ≤ s.fld (GRD_RXDL c) GRD_RXDL_RTTMAX then answerTaken c dl base (s.at now)
        else (s.at now).sq (GRD_RXSTAT c) GRD_RXSTAT_SEQREF) := by
  have ha' : (s.at now).awake = true := ha
  have he' : (s.at now).grdEn c = true := he
  have hk : (s.at now).resyncKind c (resyncBytes c dl 2 base ch s) = some 2 := resyncKind_resync (s := s.at now) c dl 2 base ch
  change execResyncAnswerFrame c (resyncBytes c dl 2 base ch s) now s = _
  unfold execResyncAnswerFrame
  dsimp only
  rw [ha', he', hk]
  have hcl' : ((s.at now).gr c).challenge = some (BitVec.ofNat 32 ch) := hcl
  refine congrArg Host.Outcome.next ((guardReceive_resync (s := s.at now) (c := c) (kind := 2) (base := base) (ch := ch) hdl).trans ?_)
  exact resyncFrame_answer.trans (takeAnswer_eq hb hch hcl')

end

theorem guardResync : Rules.GuardResync := by
  intro s c now ha he p time resync
  refine ⟨fun hask hm htx => resyncRequestSend_leaves ha he hask hm htx,
    fun q dl ch hq hdl hch htx hfirst hcarr hen hl => resyncRequestFrame_leaves ha he hq hdl htx hfirst hcarr hen hl,
    fun dl base ch hdl hb hcl hch => ⟨_, resyncAnswerFrame_leaves (now := now) ha he hdl hb hch hcl, ?_⟩⟩
  by_cases hg : base ≠ 0 ∧ time - ch ≤ s.fld (GRD_RXDL c) GRD_RXDL_RTTMAX
  · rw [if_pos hg, if_pos hg]
    exact answerTaken_leaves (s := s.at now) c.isLt ha hb hdl
  · rw [if_neg hg, if_neg hg]
    exact ⟨flag_sq_self (s.at now) _ _ (by decide) (by decide), rd_wr_of_ne _ _ rxseq_ne_rxstat⟩

/-! ### Expiry (R333) -/

section
variable {s : State} {c : Fin 8} {now : Nat}

theorem deadlineExpiry_leaves {e : Nat} (ha : s.awake = true) (he : (s.gr c).expiry = some e) (ht : e ≤ (s.at now).grdTime) :
    ∃ t, exec (.deadlineExpiry c now) s = .next t ∧ t.flag (GRD_RXSTAT c) GRD_RXSTAT_EXP = true ∧
      t.flag (GRD_RXSTAT c) GRD_RXSTAT_EXPF = true ∧ t.evPending (evCom 1) = true ∧ (t.gr c).expiry = none ∧
      t.rd (GRD_RXSEQ c) = s.rd (GRD_RXSEQ c) := by
  have hc := c.isLt
  have ha' : (s.at now).awake = true := ha
  have he' : ((s.at now).gr c).expiry = some e := he
  let u := (s.at now).updGr c (fun x => { x with expiry := none, stepAt := e + 100 * s.fld (GRD_RXTIM c) GRD_RXTIM_HOLD })
  let v := u.setFlag (GRD_RXSTAT c) GRD_RXSTAT_EXP true
  have heq : exec (.deadlineExpiry c now) s = .next (rxNote c GRD_RXSTAT_EXPF 1 v) := by
    change execDeadlineExpiry c now s = _
    unfold execDeadlineExpiry
    dsimp only
    rw [he']
    dsimp only
    rw [ha', decide_eq_true ht]
    rfl
  obtain ⟨hflag, hpend⟩ := rxNote_noted (s := v) (f := GRD_RXSTAT_EXPF) (k := 1) hc (by decide) ha (by decide)
  refine ⟨_, heq, ?_, hflag, hpend, ?_, ?_⟩
  · refine ((raise_reports _ _).flag _ (rxstat_event hc)).trans ((flag_sq_apart (by decide) (by decide)).trans ?_)
    exact flag_setFlag_self _ _ _ _ (by decide) (by decide)
  · obtain ⟨_, _, _, _, h⟩ := rxNote_onlyEvents c GRD_RXSTAT_EXPF 1 v
    rw [h]
    exact congrArg GrdRx.expiry (updGr_gr (s.at now) c
      (fun x => { x with expiry := none, stepAt := e + 100 * s.fld (GRD_RXTIM c) GRD_RXTIM_HOLD }))
  · rw [rxNote_rxseq hc]
    exact rd_wr_of_ne u _ rxseq_ne_rxstat

/-- The command's window one step narrower. -/
def narrowed (c a : Nat) (hi lo : Int) (s : State) : State :=
  let s := s.updGr c (fun y => { y with stepAt := y.stepAt + 1 })
  let s := (s.wr (GRD_CMDMAX a) (BitVec.ofInt 32 hi)).wr (GRD_CMDMIN a) (BitVec.ofInt 32 lo)
  if s.grdMode a then s else s.wr (GRD_CMDSET a) (BitVec.ofInt 32 (max lo (min hi (s.rd (GRD_CMDSET a)).toInt)))

/-- The registers of an Axle's command but its flags, and the step of the window. -/
structure Narrowed (c a : Nat) (hi lo : Int) (s t : State) : Prop where
  max : t.rd (GRD_CMDMAX a) = BitVec.ofInt 32 hi
  min : t.rd (GRD_CMDMIN a) = BitVec.ofInt 32 lo
  set : s.grdMode a = false → t.rd (GRD_CMDSET a) = BitVec.ofInt 32 (Max.max lo (Min.min hi (s.rd (GRD_CMDSET a)).toInt))
  step : (t.gr c).stepAt = (s.gr c).stepAt + 1

theorem narrowed_narrowed (c a : Nat) (hi lo : Int) (s : State) : Narrowed c a hi lo s (narrowed c a hi lo s) := by
  unfold narrowed
  extract_lets u v
  have hmax : v.rd (GRD_CMDMAX a) = BitVec.ofInt 32 hi :=
    (rd_wr_of_ne _ _ (by simp only [GRD_CMDMAX, GRD_CMDMIN]; omega)).trans (rd_wr_self ..)
  have hmin : v.rd (GRD_CMDMIN a) = BitVec.ofInt 32 lo := rd_wr_self ..
  have hrd : ∀ o, o ≠ GRD_CMDMAX a → o ≠ GRD_CMDMIN a → v.rd o = s.rd o := fun o h1 h2 =>
    (rd_wr_of_ne _ _ h2).trans (rd_wr_of_ne u _ h1)
  have hset : v.rd (GRD_CMDSET a) = s.rd (GRD_CMDSET a) :=
    hrd _ (by simp only [GRD_CMDSET, GRD_CMDMAX]; omega) (by simp only [GRD_CMDSET, GRD_CMDMIN]; omega)
  have hmode : v.grdMode a = s.grdMode a := congrArg (fun w => (GRD_CMDFLG_FLAGS.get w).testBit 0)
    (hrd (GRD_CMDFLG a) (by simp only [GRD_CMDFLG, GRD_CMDMAX]; omega) (by simp only [GRD_CMDFLG, GRD_CMDMIN]; omega))
  have hstep : (v.gr c).stepAt = (s.gr c).stepAt + 1 :=
    congrArg GrdRx.stepAt (updGr_gr s c (fun y => { y with stepAt := y.stepAt + 1 }))
  rw [hmode]
  by_cases hm : s.grdMode a = true
  · rw [if_pos hm]
    exact ⟨hmax, hmin, fun h => absurd (hm.symm.trans h) (by decide), hstep⟩
  · rw [if_neg hm]
    refine ⟨(rd_wr_of_ne _ _ ?_).trans hmax, (rd_wr_of_ne _ _ ?_).trans hmin, fun _ => ?_, hstep⟩
    · simp only [GRD_CMDSET, GRD_CMDMAX]; omega
    · simp only [GRD_CMDSET, GRD_CMDMIN]; omega
    · rw [hset]
      exact rd_wr_self ..

theorem Narrowed.congr {a : Nat} {hi lo : Int} {t u : State} (h : Narrowed c a hi lo s t)
    (hr : ∀ o, o = GRD_CMDSET a ∨ o = GRD_CMDMAX a ∨ o = GRD_CMDMIN a → u.rd o = t.rd o) (hg : u.grd = t.grd) : Narrowed c a hi lo s u where
  max := (hr _ (.inr (.inl rfl))).trans h.max
  min := (hr _ (.inr (.inr rfl))).trans h.min
  set hm := (hr _ (.inl rfl)).trans (h.set hm)
  step := by
    rw [State.gr, hg]
    exact h.step

/-- ZERO and the flags that REACT withdraws, before the drive enable acts. -/
def zeroShown (c a : Nat) (s : State) : State :=
  let react := s.fld (GRD_RXDL c) GRD_RXDL_REACT
  let f := s.fld (GRD_CMDFLG a) GRD_CMDFLG_FLAGS
  let f := if react.testBit 0 then f &&& 3 else f
  let f := if react.testBit 1 then f &&& 5 else f
  (s.setFlag (GRD_RXSTAT c) GRD_RXSTAT_ZERO true).setFld (GRD_CMDFLG a) GRD_CMDFLG_FLAGS f

theorem windowZero_eq (c a : Nat) (s : State) : windowZero c a s =
    settleBrake (if (zeroShown c a s).anyDrv then zeroShown c a s else drayDrive false (zeroShown c a s)) := rfl

theorem zeroDriven_guard (c a : Nat) (s : State) : Untouched GuardRegister (zeroShown c a s) (windowZero c a s) := by
  rw [windowZero_eq]
  exact (Untouched.ite .refl (drayDrive_guard _ _)).trans (settleBrake_guard _)

theorem windowZero_grd (c a : Nat) (s : State) : (windowZero c a s).grd = s.grd := by
  rw [windowZero_eq, settleBrake_grd]
  split
  · rfl
  · rw [drayDrive_grd]
    rfl

theorem windowZero_zero {c a : Nat} (hc : c < 8) : (windowZero c a s).flag (GRD_RXSTAT c) GRD_RXSTAT_ZERO = true := by
  refine ((zeroDriven_guard c a s).flag (guard_rxstat hc) _).trans ((flag_setFld_ne ?_).trans
    (flag_setFlag_self _ _ _ _ (by decide) (by decide)))
  simp only [GRD_RXSTAT, GRD_CMDFLG]
  omega

theorem windowZero_rd {c a o : Nat} (ho : GuardRegister o) (h1 : o ≠ GRD_RXSTAT c) (h2 : o ≠ GRD_CMDFLG a) :
    (windowZero c a s).rd o = s.rd o :=
  (zeroDriven_guard c a s o ho).trans ((rd_wr_of_ne _ _ h2).trans (rd_wr_of_ne _ _ h1))

theorem windowZero_narrowed {a : Nat} {hi lo : Int} {t : State} (ha : a < 4) (h : Narrowed c a hi lo s t) :
    Narrowed c a hi lo s (windowZero c a t) := by
  have hc := c.isLt
  refine h.congr (fun o ho => windowZero_rd ?_ ?_ ?_) (windowZero_grd ..)
  · simp only [GRD_CMDSET, GRD_CMDMAX, GRD_CMDMIN] at ho; simp only [GuardRegister]; omega
  · simp only [GRD_CMDSET, GRD_CMDMAX, GRD_CMDMIN] at ho; simp only [GRD_RXSTAT]; omega
  · simp only [GRD_CMDSET, GRD_CMDMAX, GRD_CMDMIN] at ho; simp only [GRD_CMDFLG]; omega

/-- A limit is within its word, and so is what it moves to. -/
theorem towardZero_zero {w : Word} {step : Int} (hs : 0 ≤ step) (h : BitVec.ofInt 32 (towardZero w.toInt step) = 0) :
    towardZero w.toInt step = 0 := by
  have hlo := BitVec.le_toInt w
  have hhi := BitVec.toInt_lt (x := w)
  have hr : -2 ^ 31 ≤ towardZero w.toInt step ∧ towardZero w.toInt step < 2 ^ 31 := by
    unfold towardZero
    split <;> omega
  have := congrArg BitVec.toInt h
  rw [BitVec.toInt_ofInt, show BitVec.toInt (0 : Word) = 0 from rfl] at this
  rwa [Int.bmod_eq_of_le (by omega) (by omega)] at this

theorem windowNarrowing_leaves (ha : s.awake = true) (hcmd : s.grdCmd c = true) (hexp : s.flag (GRD_RXSTAT c) GRD_RXSTAT_EXP = true)
    (hz : s.flag (GRD_RXSTAT c) GRD_RXSTAT_ZERO = false) (ht : (s.gr c).stepAt < (s.at now).grdTime) :
    let a := s.grdAxl c
    let step : Int := s.fld (GRD_RXTIM c) GRD_RXTIM_RAMP * 65536 / 100
    let hi := towardZero (s.tMax a) step
    let lo := towardZero (s.tMin a) step
    ∃ t, exec (.windowNarrowing c now) s = .next t ∧ Narrowed c a hi lo s t ∧
      (hi = 0 → lo = 0 → t.flag (GRD_RXSTAT c) GRD_RXSTAT_ZERO = true) := by
  intro a step hi lo
  have ha' : (s.at now).awake = true := ha
  have hcmd' : (s.at now).grdCmd c = true := hcmd
  have hexp' : (s.at now).flag (GRD_RXSTAT c) GRD_RXSTAT_EXP = true := hexp
  have hz' : (s.at now).flag (GRD_RXSTAT c) GRD_RXSTAT_ZERO = false := hz
  have ht' : ((s.at now).gr c).stepAt < (s.at now).grdTime := ht
  have heq : exec (.windowNarrowing c now) s = settled (if hi = 0 ∧ lo = 0 then windowZero c a (narrowed c a hi lo (s.at now))
      else narrowed c a hi lo (s.at now)) := by
    change execWindowNarrowing c now s = _
    unfold execWindowNarrowing
    dsimp only
    rw [ha', hcmd', hexp', hz', decide_eq_true ht']
    rfl
  have hn : Narrowed c a hi lo s (narrowed c a hi lo (s.at now)) := by
    obtain ⟨h1, h2, h3, h4⟩ := narrowed_narrowed c a hi lo (s.at now)
    exact ⟨h1, h2, h3, h4⟩
  have hcongr : ∀ u, Narrowed c a hi lo s u → Narrowed c a hi lo s (syncStretches u) := fun u h => by
    obtain ⟨_, _, he⟩ := (onlyStretch_syncStretches u).only
    exact h.congr (fun o _ => syncStretches_rd ..) (by rw [he])
  refine ⟨_, heq, hcongr _ ?_, fun h1 h2 => ?_⟩
  · split
    · exact windowZero_narrowed (axl_lt s c) hn
    · exact hn
  · rw [if_pos ⟨h1, h2⟩, syncStretches_flag]
    exact windowZero_zero c.isLt

end

theorem guardExpiry : Rules.GuardExpiry := by
  intro s c now ha
  refine ⟨fun e he ht => deadlineExpiry_leaves ha he ht, fun hcmd hexp hz ht _ => ?_⟩
  intro a step narrow
  obtain ⟨t, heq, hn, hzero⟩ := windowNarrowing_leaves (now := now) ha hcmd hexp hz ht
  have hstep : 0 ≤ step := by simp only [step]; omega
  refine ⟨t, heq, hn.max, hn.min, hn.set, fun h1 h2 => hzero ?_ ?_, hn.step⟩
  · exact towardZero_zero hstep (hn.max.symm.trans h1)
  · exact towardZero_zero hstep (hn.min.symm.trans h2)

/-! ### Transmission (R326, R334, R335, R340) -/

section
variable {s : State} {v : View} {c : Fin 8} {data : Word} {now : Nat}

theorem register_grdTxctl (c : Fin 8) : plainRegister (GRD_TXCTL c) ⟨0x19010C, [(0x20, 8)], true, 0x00000000#32, [
    ⟨⟨16, 16⟩, .rw, false, false, .none⟩, ⟨⟨15, 1⟩, .ro, false, false, .none⟩, ⟨⟨14, 1⟩, .ro, false, false, .none⟩,
    ⟨⟨8, 6⟩, .rw, false, false, .none⟩]⟩ [c.val] = true := by
  revert c
  decide +kernel

theorem wrote_grdTxctl (c : Fin 8) (old w : Word) (k : Nat) (co : CoUpdate) (before : State) :
    wrote (GRD_TXCTL c) old w k co before (s.wr (GRD_TXCTL c) w) = guardLaunch c (s.wr (GRD_TXCTL c) w) := by
  have hwin : GRD_TXCTL c / 0x10000 = 25 := by revert c; decide
  have hc : GRD_TXCTL c / 0x20 % 8 = c := by revert c; decide
  have hlo : ¬GRD_TXCTL c < 0x190100 := by simp only [GRD_TXCTL]; omega
  have hhi : GRD_TXCTL c < 0x190200 := by simp only [GRD_TXCTL]; omega
  have hr : GRD_TXCTL c % 0x20 = 0x0C := by revert c; decide
  generalize GRD_TXCTL c = o at hwin hc hlo hhi hr
  have hgrd : wrote o old w k co before (s.wr o w) = wroteGRD o old w (s.wr o w) := by
    unfold wrote
    simp only [hwin]
    rfl
  rw [hgrd, wroteGRD, if_neg hlo, if_pos hhi, if_pos hr, hc]

/-- What the check of a write to GRD_TXCTL reads does not move with time. -/
theorem badWrite_grdTxctl (c : Fin 8) (old w : Word) : s.badWrite (GRD_TXCTL c) old w = s.txctlRefused c w := by
  have hwin : GRD_TXCTL c / 0x10000 = 25 := by revert c; decide
  have hc : GRD_TXCTL c / 0x20 % 8 = c := by revert c; decide
  have hlo : ¬GRD_TXCTL c < 0x190100 := by simp only [GRD_TXCTL]; omega
  have hhi : GRD_TXCTL c < 0x190200 := by simp only [GRD_TXCTL]; omega
  have hr : GRD_TXCTL c % 0x20 = 0x0C := by revert c; decide
  generalize GRD_TXCTL c = o at hwin hc hlo hhi hr
  have hgrd : s.badWrite o old w = s.badGRD o old w := by
    unfold State.badWrite
    simp only [hwin]
    rfl
  rw [hgrd, State.badGRD, if_neg hlo, if_pos hhi, if_neg (by omega), if_pos hr, hc]

theorem accepted_at {o : Nat} (n : Nat) (h : ∀ old new, (s.at n).badWrite o old new = s.badWrite o old new) :
    accepted v o data (s.at n) = accepted v o data s := by
  unfold accepted
  split
  · rfl
  · dsimp only
    rw [h]
    rfl

/-- GRD_TXCTL as a write leaves it, at its instant. -/
def txctlWritten (v : View) (c : Fin 8) (data : Word) (now : Nat) (s : State) : State :=
  (s.at now).wr (GRD_TXCTL c) (writtenWord v (GRD_TXCTL c) data (s.at now))

theorem guardTransmit_eq (ha : accepted v (GRD_TXCTL c) data s = true) :
    exec (.guardTransmit v c data now) s = .next (syncStretches (guardLaunch c (txctlWritten v c data now s))) := by
  have ha' : accepted v (GRD_TXCTL c) data (s.at now) = true :=
    (accepted_at now fun old new => by rw [badWrite_grdTxctl, badWrite_grdTxctl]; rfl).trans ha
  change writeCmd v (GRD_TXCTL c) data { t := now } none s = _
  unfold writeCmd
  rw [if_pos (awake_of_accepted ha)]
  change settled (writeReg v (GRD_TXCTL c) data { t := now } none (s.at now)) = _
  rw [writeReg_written (register_grdTxctl c) ⟨rfl, rfl⟩ ha', wrote_grdTxctl]
  rfl

/-- Every register but GRD_TXCTL, and what a launch reads of its word. -/
theorem txctlWritten_leaves (ha : accepted v (GRD_TXCTL c) data s = true) :
    (∀ o, o ≠ GRD_TXCTL c → (txctlWritten v c data now s).rd o = s.rd o) ∧
    GRD_TXCTL_LEN.get ((txctlWritten v c data now s).rd (GRD_TXCTL c)) = GRD_TXCTL_LEN.get data ∧
    GRD_TXCTL_DLV.get ((txctlWritten v c data now s).rd (GRD_TXCTL c)) = GRD_TXCTL_DLV.get data ∧ GRD_TXCTL_LEN.get data ≤ 48 := by
  have hreg := plainRegister_register (register_grdTxctl c)
  have ha' : accepted v (GRD_TXCTL c) data (s.at now) = true :=
    (accepted_at now fun old new => by rw [badWrite_grdTxctl, badWrite_grdTxctl]; rfl).trans ha
  have hlen := written_get (f := GRD_TXCTL_LEN) hreg ha' (by decide)
  have hdlv := written_get (f := GRD_TXCTL_DLV) hreg ha' (by decide)
  have hbad := badWrite_of_accepted ha'
  rw [badWrite_grdTxctl] at hbad
  simp only [State.txctlRefused, Bool.or_eq_false_iff, decide_eq_false_iff_not] at hbad
  obtain ⟨⟨⟨⟨-, h48⟩, -⟩, -⟩, -⟩ := hbad
  rw [hlen] at h48
  unfold txctlWritten
  rw [rd_wr_self]
  exact ⟨fun o ho => rd_wr_of_ne _ _ ho, hlen, hdlv, by omega⟩

/-- The payload of a data frame. -/
def txPayload (c len : Nat) (s : State) : List Byte := ((List.range 12).flatMap (fun k => wordBytes (s.rd (GRD_TXDATA c k)))).take len

theorem txPayload_length {len : Nat} (h : len ≤ 48) : (txPayload c len s).length = len := by
  have hl : ((List.range 12).flatMap (fun k => wordBytes (s.rd (GRD_TXDATA c k)))).length = 48 := by
    simp [List.length_flatMap, wordBytes]
  rw [txPayload, List.length_take, hl]
  omega

/-- The number of the next data frame. -/
def txNumber (c : Nat) (s : State) : Nat := seqAfter (s.fld (GRD_TXSEQ c) GRD_TXSEQ_LAST)

theorem txNumber_lt (c : Nat) (s : State) : txNumber c s < 65536 := by
  have := get_lt GRD_TXSEQ_LAST (s.rd (GRD_TXSEQ c))
  unfold txNumber seqAfter
  split <;> omega

/-- The bytes of the next data frame. -/
def txFrame (c len dlv : Nat) (s : State) : List Byte :=
  guardFrame (s.rd (GRD_TXID c)) (s.fld (GRD_TXCFG c) GRD_TXCFG_CID) (txNumber c s) ((s.grdTime + dlv) % 65536) (txPayload c len s)

theorem guardLaunch_eq (c : Nat) (s : State) : guardLaunch c s = handOver c true
    (txFrame c (GRD_TXCTL_LEN.get (s.rd (GRD_TXCTL c))) (GRD_TXCTL_DLV.get (s.rd (GRD_TXCTL c))) s)
    (s.setFld (GRD_TXSEQ c) GRD_TXSEQ_LAST (txNumber c s)) := rfl

/-- The state in which a data frame is handed over: its number shown. -/
def txNumbered (v : View) (c : Fin 8) (data : Word) (now : Nat) (s : State) : State :=
  (txctlWritten v c data now s).setFld (GRD_TXSEQ c) GRD_TXSEQ_LAST (txNumber c s)

theorem txNumbered_rd (ha : accepted v (GRD_TXCTL c) data s = true) {o : Nat} (h1 : o ≠ GRD_TXCTL c) (h2 : o ≠ GRD_TXSEQ c) :
    (txNumbered v c data now s).rd o = s.rd o := (rd_wr_of_ne _ _ h2).trans ((txctlWritten_leaves ha).1 o h1)

theorem txNumbered_seq (ha : accepted v (GRD_TXCTL c) data s = true) :
    (txNumbered v c data now s).fld (GRD_TXSEQ c) GRD_TXSEQ_LAST = txNumber c s ∧
    (txNumbered v c data now s).fld (GRD_TXSEQ c) GRD_TXSEQ_NSENT = s.fld (GRD_TXSEQ c) GRD_TXSEQ_NSENT := by
  refine ⟨(fld_setFld_self _ _ _ _ (by decide)).trans (Nat.mod_eq_of_lt (txNumber_lt c s)), (fld_setFld_apart (by decide)).trans ?_⟩
  exact congrArg GRD_TXSEQ_NSENT.get ((txctlWritten_leaves ha).1 _ (by simp only [GRD_TXSEQ, GRD_TXCTL]; omega))

/-- The frame that a transmission hands over. -/
def sentFrame (c : Fin 8) (data : Word) (now : Nat) (s : State) : List Byte :=
  txFrame c (GRD_TXCTL_LEN.get data) (GRD_TXCTL_DLV.get data) (s.at now)

theorem guardLaunch_written (ha : accepted v (GRD_TXCTL c) data s = true) : guardLaunch c (txctlWritten v c data now s) =
    handOver c true (sentFrame c data now s) (txNumbered v c data now s) := by
  obtain ⟨hrd, hlen, hdlv, -⟩ := txctlWritten_leaves (now := now) ha
  have hnum : txNumber c (txctlWritten v c data now s) = txNumber c s :=
    congrArg (fun w => seqAfter (GRD_TXSEQ_LAST.get w)) (hrd _ (by simp only [GRD_TXSEQ, GRD_TXCTL]; omega))
  have hpl : txPayload c (GRD_TXCTL_LEN.get data) (txctlWritten v c data now s) = txPayload c (GRD_TXCTL_LEN.get data) s := by
    unfold txPayload
    rw [funext fun k => congrArg wordBytes (hrd (GRD_TXDATA c k) (by simp only [GRD_TXDATA, GRD_TXCTL]; omega))]
  rw [guardLaunch_eq, hlen, hdlv, txFrame, hnum, hpl, hrd (GRD_TXID c) (by simp only [GRD_TXID, GRD_TXCTL]; omega),
    State.fld, hrd (GRD_TXCFG c) (by simp only [GRD_TXCFG, GRD_TXCTL]; omega)]
  rfl

theorem sentFrame_length (h : GRD_TXCTL_LEN.get data ≤ 48) : (sentFrame c data now s).length = 10 + GRD_TXCTL_LEN.get data := by
  rw [sentFrame, txFrame, guardFrame_length, txPayload_length (s := s.at now) h]

/-- The carrier of a connection that is enabled. -/
theorem carried_enabled {p carr : Nat} {d : Bool} {bytes : List Byte} (he : s.flag (GRD_TXCFG p) GRD_TXCFG_EN = true)
    (hc : s.fld (GRD_TXCFG p) GRD_TXCFG_CARR = carr) : carried p d bytes s =
      if carr < 4 then canCarry carr p d bytes s else if carr = 4 then ethCarry bytes s
      else if carr = 5 then cplCarry p bytes s else none := by
  unfold carried
  dsimp only
  rw [he, hc, if_neg (by decide)]

theorem carried_disabled {p : Nat} {d : Bool} {bytes : List Byte} (he : s.flag (GRD_TXCFG p) GRD_TXCFG_EN = false) :
    carried p d bytes s = none := by
  unfold carried
  dsimp only
  rw [he]
  exact if_pos rfl

/-- A frame that is taken is counted. -/
theorem handOver_counted {p : Nat} {d : Bool} {bytes : List Byte} {t : State} (h : carried p d bytes s = some t) :
    (handOver p d bytes s).flag (GRD_TXCTL p) GRD_TXCTL_LOST = false ∧
      (handOver p d bytes s).fld (GRD_TXSEQ p) GRD_TXSEQ_NSENT = (t.fld (GRD_TXSEQ p) GRD_TXSEQ_NSENT + 1) % 65536 := by
  rw [handOver_taken h]
  refine ⟨(flag_setFld_ne (by simp only [GRD_TXCTL, GRD_TXSEQ]; omega)).trans (flag_setFlag_self _ _ _ _ (by decide) (by decide)), ?_⟩
  exact fld_setFld_self _ _ _ _ (by decide)

/-- The lengths of CAN FD cover every frame of the Guard. -/
theorem fdLens_find : ∀ n < 65, ∃ x ∈ fdLens, fdLens.find? (fun x => decide (n ≤ x)) = some x ∧ n ≤ x := by decide

theorem guardEntry_data {p : Nat} {d : Bool} {bytes : List Byte} (hl : bytes.length < 65) :
    let e := guardEntry p d bytes s
    e.frame.data.take bytes.length = bytes ∧ fdLens.contains e.frame.data.length = true ∧
      ∀ b ∈ e.frame.data.drop bytes.length, b = 0 := by
  obtain ⟨x, hx, hfind, hle⟩ := fdLens_find bytes.length hl
  intro e
  have hdata : e.frame.data = padTo x bytes := by
    change padTo ((fdLens.find? (fun x => decide (bytes.length ≤ x))).getD 64) bytes = _
    rw [hfind]
    rfl
  have hlen : (padTo x bytes).length = x := by
    rw [padTo, List.length_append, List.length_replicate]
    omega
  rw [hdata, hlen]
  refine ⟨List.take_left' rfl, List.contains_iff_mem.mpr hx, fun b hb => ?_⟩
  rw [padTo, List.drop_left' rfl] at hb
  exact List.eq_of_mem_replicate hb

/-- The carriers that can take a frame of `n` bytes: a CAN queue, the Ethernet MAC, the Coupler (R334, R335, R340). -/
def CanTakes (carr : Nat) (s : State) : Prop := carr < 4 ∧ s.flag (CAN_CFG carr) CAN_CFG_EN = true ∧ (s.cn carr).tx.length < 32
def EthTakes (carr : Nat) (s : State) : Prop := carr = 4 ∧ s.flag ETH_CFG ETH_CFG_EN = true ∧ s.flag ETH_STAT ETH_STAT_LINK = true
def CplTakes (carr p n : Nat) (s : State) : Prop := carr = 5 ∧ s.seat ≠ 0 ∧ (s.cpl.queue (if n ≤ 32 then 0 else 1)).length < 16 ∧
  s.outPorts (s.fld (GRD_TXADR p) GRD_TXADR_ADDR % 64) 4 ≠ []

/-- What the Coupler makes of a Guard frame. -/
def cplQueued (p : Nat) (bytes : List Byte) (s : State) : State :=
  let cls := if bytes.length ≤ 32 then 0 else 1
  s.updCpl (fun x => x.setQueue cls (x.queue cls ++
    [{ cls := cls, dst := s.fld (GRD_TXADR p) GRD_TXADR_ADDR % 64, kind := 0x08, payload := bytes }]))

theorem carried_can {p carr : Nat} {d : Bool} {bytes : List Byte} (he : s.flag (GRD_TXCFG p) GRD_TXCFG_EN = true)
    (hc : s.fld (GRD_TXCFG p) GRD_TXCFG_CARR = carr) (h : CanTakes carr s) : carried p d bytes s = some (guardQueued carr p d bytes s) := by
  obtain ⟨h1, h2, h3⟩ := h
  rw [carried_enabled he hc, if_pos h1, canCarry_eq, if_pos (by rw [h2, decide_eq_true h3]; rfl)]

theorem carried_cpl {p carr : Nat} {d : Bool} {bytes : List Byte} (he : s.flag (GRD_TXCFG p) GRD_TXCFG_EN = true)
    (hc : s.fld (GRD_TXCFG p) GRD_TXCFG_CARR = carr) (h : CplTakes carr p bytes.length s) : carried p d bytes s = some (cplQueued p bytes s) := by
  obtain ⟨rfl, h2, h3, h4⟩ := h
  rw [carried_enabled he hc, if_neg (by decide), if_neg (by decide), if_pos rfl]
  exact if_pos ⟨h2, h3, h4⟩

theorem carried_none {p carr : Nat} {d : Bool} {bytes : List Byte} (hc : s.fld (GRD_TXCFG p) GRD_TXCFG_CARR = carr)
    (h : ¬(s.flag (GRD_TXCFG p) GRD_TXCFG_EN = true ∧ (CanTakes carr s ∨ EthTakes carr s ∨ CplTakes carr p bytes.length s))) :
    carried p d bytes s = none := by
  by_cases he : s.flag (GRD_TXCFG p) GRD_TXCFG_EN = true
  · rw [carried_enabled he hc]
    split
    · next h1 =>
      rw [canCarry_eq, if_neg fun hb => h ⟨he, .inl ⟨h1, ?_⟩⟩]
      simpa using hb
    · split
      · next h1 =>
        refine if_neg fun hb => h ⟨he, .inr (.inl ⟨h1, ?_⟩)⟩
        simpa using hb
      · split
        · next h1 => exact if_neg fun hb => h ⟨he, .inr (.inr ⟨h1, hb⟩)⟩
        · rfl
  · exact carried_disabled (Bool.eq_false_iff.mpr he)

theorem handOver_last {p : Nat} {d : Bool} {bytes : List Byte} (hp : p < 8) :
    (handOver p d bytes s).fld (GRD_TXSEQ p) GRD_TXSEQ_LAST = s.fld (GRD_TXSEQ p) GRD_TXSEQ_LAST := by
  have hne : GRD_TXSEQ p ≠ GRD_TXCTL p := by simp only [GRD_TXSEQ, GRD_TXCTL]; omega
  cases hc : carried p d bytes s with
  | none =>
    rw [handOver_refused hc]
    exact fld_setFlag_ne hne
  | some t =>
    rw [handOver_taken hc]
    refine (fld_setFld_apart (by decide)).trans ((fld_setFlag_ne hne).trans ?_)
    exact congrArg GRD_TXSEQ_LAST.get ((carried_carries hc).rd _ (by simp only [GRD_TXSEQ]; omega) hne)

end

section
variable {s : State} {v : View} {c : Fin 8} {data : Word} {now : Nat}

/-- A frame that joins a CAN queue: its entry, and BUSY. -/
theorem canSent {carr : Nat} {bytes : List Byte} (hb : bytes.length < 65)
    (h : carried c true bytes s = some (guardQueued carr c true bytes s)) :
    (handOver c true bytes s).flag (GRD_TXCTL c) GRD_TXCTL_BUSY = true ∧ ∃ e : CanEntry,
      ((handOver c true bytes s).cn carr).tx = (s.cn carr).tx ++ [e] ∧ e.conn = some c ∧ e.frame.fdf = true ∧
      e.frame.ide = s.flag (GRD_TXADR c) GRD_TXADR_IDE ∧ e.frame.id = adrId e.frame.ide (s.fld (GRD_TXADR c) GRD_TXADR_ADDR) ∧
      e.frame.data.take bytes.length = bytes ∧ fdLens.contains e.frame.data.length = true ∧
      ∀ b ∈ e.frame.data.drop bytes.length, b = 0 := by
  have hcn : ((guardQueued carr c true bytes s).cn carr).tx = (s.cn carr).tx ++ [guardEntry c true bytes s] :=
    congrArg CanSt.tx (setCanTx_cn carr ((s.cn carr).tx ++ [guardEntry c true bytes s]) (s.drew 1))
  have hbusy : (guardQueued carr c true bytes s).flag (GRD_TXCTL c) GRD_TXCTL_BUSY = true :=
    flag_setFlag_self (setCanTx carr ((s.cn carr).tx ++ [guardEntry c true bytes s]) (s.drew 1)) _ _ true (by decide) (by decide)
  have hconn : (guardEntry c true bytes s).conn = some c := congrArg some (Fin.ext (Nat.mod_eq_of_lt c.isLt))
  obtain ⟨h1, h2, h3⟩ := guardEntry_data (s := s) (p := c) (d := true) hb
  rw [handOver_taken h]
  refine ⟨?_, _, hcn, hconn, rfl, rfl, rfl, h1, h2, h3⟩
  exact (flag_setFld_ne (by simp only [GRD_TXCTL, GRD_TXSEQ]; omega)).trans ((flag_setFlag_apart (by decide)).trans hbusy)

/-- A frame that the Ethernet MAC or the Coupler takes. -/
theorem ethSent {bytes : List Byte} {t : State} (h : carried c true bytes s = some t) : (handOver c true bytes s).eth = t.eth := by
  rw [handOver_taken h]
  rfl

theorem cplSent {bytes : List Byte} {t : State} (h : carried c true bytes s = some t) : (handOver c true bytes s).cpl = t.cpl := by
  rw [handOver_taken h]
  rfl

theorem setQueue_queue (x : Coupler) {cls : Nat} (q : List TxFrame) (h : cls = 0 ∨ cls = 1) : (x.setQueue cls q).queue cls = q := by
  obtain rfl | rfl := h <;> rfl

/-- A frame finds the carriers that the write of GRD_TXCTL found. -/
theorem txNumbered_carriers (ha : accepted v (GRD_TXCTL c) data s = true) (carr n : Nat) :
    (CanTakes carr (txNumbered v c data now s) ↔ CanTakes carr s) ∧
    (EthTakes carr (txNumbered v c data now s) ↔ EthTakes carr s) ∧
    (CplTakes carr c n (txNumbered v c data now s) ↔ CplTakes carr c n s) := by
  have hc := c.isLt
  have hrd : ∀ o, 0x1A0000 ≤ o → (txNumbered v c data now s).rd o = s.rd o := fun o ho =>
    txNumbered_rd ha (by simp only [GRD_TXCTL]; omega) (by simp only [GRD_TXSEQ]; omega)
  have hsame : SameTree s (txNumbered v c data now s) := .of_rd (fun o ho => hrd o (by omega)) rfl
  have hadr := txNumbered_rd (now := now) ha (o := GRD_TXADR c) (by simp only [GRD_TXADR, GRD_TXCTL]; omega)
    (by simp only [GRD_TXADR, GRD_TXSEQ]; omega)
  refine ⟨?_, ?_, ?_⟩
  · rw [CanTakes, State.flag, hrd (CAN_CFG carr) (by simp only [CAN_CFG]; omega)]
    rfl
  · rw [EthTakes, State.flag, State.flag, hrd ETH_CFG (by decide), hrd ETH_STAT (by decide)]
    rfl
  · rw [CplTakes, hsame.seat, hsame.outPorts fun g _ => congrArg CPL_MGRP_PMASK.get (hrd _ (by simp only [CPL_MGRP]; omega)), State.fld, hadr]
    rfl

/-- What the carrier of a data frame that is taken holds then. -/
theorem sent_leaves (ha : accepted v (GRD_TXCTL c) data s = true) :
    let len := GRD_TXCTL_LEN.get data
    let carr := s.fld (GRD_TXCFG c) GRD_TXCFG_CARR
    let frame := sentFrame c data now s
    let cls := if len ≤ 22 then 0 else 1
    let t := handOver c true frame (txNumbered v c data now s)
    s.flag (GRD_TXCFG c) GRD_TXCFG_EN = true →
      (CanTakes carr s → t.flag (GRD_TXCTL c) GRD_TXCTL_BUSY = true ∧ ∃ e : CanEntry, (t.cn carr).tx = (s.cn carr).tx ++ [e] ∧
        e.conn = some c ∧ e.frame.fdf = true ∧ e.frame.ide = s.flag (GRD_TXADR c) GRD_TXADR_IDE ∧
        e.frame.id = adrId e.frame.ide (s.fld (GRD_TXADR c) GRD_TXADR_ADDR) ∧ e.frame.data.take (10 + len) = frame ∧
        fdLens.contains e.frame.data.length = true ∧ ∀ b ∈ e.frame.data.drop (10 + len), b = 0) ∧
      (EthTakes carr s → t.eth.guardQ = s.eth.guardQ ++ [frame ++ List.replicate (46 - frame.length) 0]) ∧
      (CplTakes carr c frame.length s → t.cpl.queue cls = s.cpl.queue cls ++
        [{ cls := cls, dst := s.fld (GRD_TXADR c) GRD_TXADR_ADDR % 64, kind := 8, payload := frame }]) := by
  intro len carr frame cls t hen
  have hlen : frame.length = 10 + len := sentFrame_length (txctlWritten_leaves (now := now) ha).2.2.2
  have hle : len ≤ 48 := (txctlWritten_leaves (now := now) ha).2.2.2
  have hcfg := txNumbered_rd (now := now) ha (o := GRD_TXCFG c) (by simp only [GRD_TXCFG, GRD_TXCTL]; omega)
    (by simp only [GRD_TXCFG, GRD_TXSEQ]; omega)
  have hadr := txNumbered_rd (now := now) ha (o := GRD_TXADR c) (by simp only [GRD_TXADR, GRD_TXCTL]; omega)
    (by simp only [GRD_TXADR, GRD_TXSEQ]; omega)
  have he : (txNumbered v c data now s).flag (GRD_TXCFG c) GRD_TXCFG_EN = true := (congrArg GRD_TXCFG_EN.bit hcfg).trans hen
  have hcarr : (txNumbered v c data now s).fld (GRD_TXCFG c) GRD_TXCFG_CARR = carr := congrArg GRD_TXCFG_CARR.get hcfg
  obtain ⟨hcan, heth, hcpl⟩ := txNumbered_carriers (now := now) ha carr frame.length
  refine ⟨fun h => ?_, fun h => ?_, fun h => ?_⟩
  · obtain ⟨hbusy, e, htx, h1, h2, h3, h4, h5, h6, h7⟩ :=
      canSent (s := txNumbered v c data now s) (bytes := frame) (by omega) (carried_can he hcarr (hcan.mpr h))
    rw [State.flag, hadr] at h3
    rw [State.fld, hadr] at h4
    rw [hlen] at h5 h7
    exact ⟨hbusy, e, htx, h1, h2, h3, h4, h5, h6, h7⟩
  · obtain ⟨h1, h2, h3⟩ := heth.mpr h
    exact congrArg EthSt.guardQ (ethSent (handOver_eth (bytes := frame) he (hcarr.trans h1) h2 h3))
  · have hcls : (if frame.length ≤ 32 then 0 else 1) = cls := by
      rw [hlen]
      exact if_congr (by omega) rfl rfl
    have hq := congrArg (fun x => x.queue cls) (cplSent (carried_cpl he hcarr (hcpl.mpr h)))
    refine hq.trans ?_
    have hqueue : cplQueued c frame (txNumbered v c data now s) = (txNumbered v c data now s).updCpl (fun x => x.setQueue cls (x.queue cls ++
        [{ cls := cls, dst := s.fld (GRD_TXADR c) GRD_TXADR_ADDR % 64, kind := 0x08, payload := frame }])) := by
      rw [cplQueued, hcls, State.fld, hadr]
      rfl
    rw [hqueue]
    refine setQueue_queue _ _ ?_
    simp only [cls]
    split
    · exact .inl rfl
    · exact .inr rfl

theorem guardSends : Rules.GuardSends := by
  intro v c data now s ha
  obtain ⟨-, -, -, hle⟩ := txctlWritten_leaves (now := now) ha
  intro len last seq payload dl body frame carr
  have hseq : txNumber c s = seq := by
    have hl : last < 65536 := get_lt GRD_TXSEQ_LAST (s.rd (GRD_TXSEQ c))
    exact if_congr (by omega) rfl rfl
  have hframe : sentFrame c data now s = frame := by
    have h : sentFrame c data now s = guardFrame (s.rd (GRD_TXID c)) (s.fld (GRD_TXCFG c) GRD_TXCFG_CID) (txNumber c s) dl payload := rfl
    rw [h, hseq]
    rfl
  have hlen : frame.length = 10 + len := hframe ▸ sentFrame_length hle
  refine ⟨_, guardTransmit_eq ha, ?_⟩
  rw [guardLaunch_written ha, hframe]
  have hsent := sent_leaves (now := now) ha
  rw [hframe] at hsent
  obtain ⟨hnum, hcount⟩ := txNumbered_seq (now := now) ha
  have hcfg := txNumbered_rd (now := now) ha (o := GRD_TXCFG c) (by simp only [GRD_TXCFG, GRD_TXCTL]; omega)
    (by simp only [GRD_TXCFG, GRD_TXSEQ]; omega)
  have hen : (txNumbered v c data now s).flag (GRD_TXCFG c) GRD_TXCFG_EN = s.flag (GRD_TXCFG c) GRD_TXCFG_EN := congrArg GRD_TXCFG_EN.bit hcfg
  have hcarr : (txNumbered v c data now s).fld (GRD_TXCFG c) GRD_TXCFG_CARR = carr := congrArg GRD_TXCFG_CARR.get hcfg
  obtain ⟨hcan, heth, hcpl⟩ := txNumbered_carriers (now := now) ha carr frame.length
  generalize txNumbered v c data now s = u at *
  refine ⟨?_, ?_⟩
  · rw [syncStretches_fld, handOver_last c.isLt, hnum, hseq]
  intro can eth cls dst cpl taken
  have hcls : (if frame.length ≤ 32 then 0 else 1) = cls := by
    rw [hlen]
    exact if_congr (by omega) rfl rfl
  have hcpl' : CplTakes carr c frame.length s ↔ cpl := by rw [CplTakes, hcls]
  rw [syncStretches_flag, syncStretches_fld, syncStretches_flag, syncStretches_cn, syncStretches_eth, syncStretches_cpl]
  refine ⟨fun ⟨he, htake⟩ => ?_, fun hno => ?_⟩
  · obtain ⟨h1, h2, h3⟩ := hsent he
    obtain ⟨w, hw⟩ : ∃ w, carried c true frame u = some w := by
      obtain h | h | h := htake
      · exact ⟨_, carried_can (hen.trans he) hcarr (hcan.mpr h)⟩
      · obtain ⟨h4, h5, h6⟩ := heth.mpr h
        exact ⟨_, handOver_eth (hen.trans he) (hcarr.trans h4) h5 h6⟩
      · exact ⟨_, carried_cpl (hen.trans he) hcarr (hcpl.mpr (hcpl'.mpr h))⟩
    obtain ⟨hlost, hsentCount⟩ := handOver_counted hw
    have hkept : w.fld (GRD_TXSEQ c) GRD_TXSEQ_NSENT = u.fld (GRD_TXSEQ c) GRD_TXSEQ_NSENT :=
      congrArg GRD_TXSEQ_NSENT.get ((carried_carries hw).rd _ (by simp only [GRD_TXSEQ]; omega) (by simp only [GRD_TXSEQ, GRD_TXCTL]; omega))
    exact ⟨hlost, by rw [hsentCount, hkept, hcount], h1, h2, fun h => h3 (hcpl'.mpr h)⟩
  · have hnone : carried c true frame u = none := by
      refine carried_none hcarr fun ⟨he, htake⟩ => hno ⟨hen.symm.trans he, ?_⟩
      rwa [hcan, heth, hcpl, hcpl'] at htake
    rw [handOver_refused hnone]
    refine ⟨flag_setFlag_self _ _ _ _ (by decide) (by decide), ?_⟩
    exact (fld_setFlag_ne (by simp only [GRD_TXSEQ, GRD_TXCTL]; omega)).trans hcount

end

section

/-- Settles O55: the Guard's sending, its checks, the resynchronisation and the expiry. -/
theorem guardConnections : Obligations.GuardConnections := ⟨guardSends, guardReceives, guardResync, guardExpiry⟩

end

end Sys2Proof.Proofs
end

section
/-! Fabric time, leases and epochs (R311, R316 to R322). -/

namespace Sys2Proof.Proofs

open Sys2Proof Sys2Proof.Machine Sys2Proof.Safety Sys2Proof.Laws

/-! ### The Coupler's registers -/

/-- The Coupler's registers. -/
def CplRegister (o : Nat) : Prop := 0x1C0000 ≤ o ∧ o < 0x1D0000

theorem cplRegister_offGate : OffGate CplRegister := offGate_above fun o ho => by
  simp only [CplRegister] at ho
  simp only [PROT_GSTAT]
  omega

theorem cplRegister_stat : CplRegister CPL_STAT := by simp only [CplRegister, CPL_STAT]; omega
theorem cplRegister_addr : CplRegister CPL_ADDR := by simp only [CplRegister, CPL_ADDR]; omega
theorem cplRegister_lease : CplRegister CPL_LEASE := by simp only [CplRegister, CPL_LEASE]; omega
theorem cplRegister_route {k : Nat} (h : k < 32) : CplRegister (CPL_ROUTE k) := by simp only [CplRegister, CPL_ROUTE]; omega
theorem cplRegister_port {p : Nat} (h : p < 4) : CplRegister (CPL_PORT p) := by simp only [CplRegister, CPL_PORT]; omega

/-! ### Frames that arrive (R298, R304) -/

section
variable {s : State} {f : Frame}

theorem forward_only (f : Frame) (s : State) : ∃ regs q, forward f s = { s with regs := regs, cpl := { s.cpl with transit := q } } := by
  unfold forward
  split
  · exact ⟨_, _, rfl⟩
  · split
    · split
      · exact ⟨_, _, rfl⟩
      · exact ⟨_, _, rfl⟩
    · exact ⟨_, _, rfl⟩

theorem forward_rd {o : Nat} (ho : o ≠ CPL_CNT) : (forward f s).rd o = s.rd o := by
  unfold forward
  split
  · rfl
  · split
    · split
      · exact rd_wr_of_ne _ _ ho
      · rfl
    · rfl

theorem forward_isLocal : (forward f s).isLocal f = s.isLocal f := by
  have hm : f.dst.val < 49 → (forward f s).flag (CPL_MGRP (f.dst.val - 33)) CPL_MGRP_LOCAL = s.flag (CPL_MGRP (f.dst.val - 33)) CPL_MGRP_LOCAL :=
    fun hd => congrArg CPL_MGRP_LOCAL.bit (forward_rd (by simp only [CPL_MGRP, CPL_CNT]; omega))
  have hseat : (forward f s).seat = s.seat := congrArg CPL_ADDR_SEAT.get (forward_rd (by decide))
  unfold State.isLocal
  rw [hseat]
  by_cases hd : f.dst.val < 49
  · rw [hm hd]
  · simp [hd]

/-- A frame that is not discarded and is for this device is forwarded and delivered. -/
theorem receive_delivers {kinds : List Nat} {deliver : State → State} (ha : s.awake = true) (hup : s.portUp f.port = true)
    (hh : headerOk f = true) (hc : f.fcrcOk = true) (hhops : f.hops.val ≠ 0 ∨ s.goesOn f = false)
    (hk : kinds.contains f.kind.toNat = true) (hl : s.isLocal f = true) :
    receive kinds f deliver s = deliver (forward f (s.at f.t)) := by
  have hdisc : (s.at f.t).discards f = false := by
    have hgo : (s.at f.t).goesOn f = s.goesOn f := rfl
    unfold State.discards
    rw [hgo, hh, hc]
    obtain h | h := hhops
    · simp [h]
    · simp [h]
  have hlocal : (forward f (s.at f.t)).isLocal f = true := forward_isLocal.trans hl
  have ha' : (s.at f.t).awake = true := ha
  have hup' : (s.at f.t).portUp f.port = true := hup
  unfold receive
  dsimp only
  rw [ha', hup', if_neg (by decide), hdisc, if_neg (by decide), hk, if_neg (by decide), hlocal, if_neg (by decide), hc, if_neg (by decide)]

/-- A frame for the own seat stays here. -/
theorem goesOn_own (h : f.dst.val = s.seat) : s.goesOn f = false := by
  unfold State.goesOn
  simp [h]

theorem forward_own (h : f.dst.val = s.seat) : forward f s = s := by
  unfold forward
  rw [goesOn_own h]
  rfl

/-- A frame for the own seat is delivered as it is. -/
theorem receive_own {kinds : List Nat} {deliver : State → State} (ha : s.awake = true) (hup : s.portUp f.port = true)
    (hh : headerOk f = true) (hc : f.fcrcOk = true) (hd : f.dst.val = s.seat) (h0 : s.seat ≠ 0)
    (hk : kinds.contains f.kind.toNat = true) : receive kinds f deliver s = deliver (s.at f.t) := by
  have hlocal : s.isLocal f = true := by
    unfold State.isLocal
    simp [hd, h0]
  rw [receive_delivers ha hup hh hc (.inr (goesOn_own hd)) hk hlocal, forward_own (s := s.at f.t) hd]

/-- A good frame of the present epoch for the own seat reaches what its kind does (R298, R304, R319). -/
theorem receive_delivered {k : Nat} {body : State → State} (h : Delivered k f s) :
    receive [k] f (epochCheck f body) s = body (s.at f.t) := by
  obtain ⟨ha, hup, hh, hc, hk, hd, h0, had, he⟩ := h
  have hahead : (s.at f.t).ahead f = 0 := by
    change (f.epoch.toNat + 256 - s.epoch) % 256 = 0
    omega
  rw [receive_own ha hup hh hc hd h0 (by rw [hk]; simp), epochCheck, hahead]
  have had' : (s.at f.t).cpl.adopted = true := had
  rw [had', if_neg (by decide), if_pos (by decide)]

end

/-! ### Frames of the device itself (R297, R304) -/

section
variable {s : State} {f : TxFrame}

/-- A frame on one port is never nowhere. -/
theorem sendOwn_port {p : Nat} (h : f.port = some p) : sendOwn f s = s.updCpl (fun c => { c with ownQ := c.ownQ ++ [f] }) := by
  unfold sendOwn State.nowhere
  rw [h]
  rfl

theorem sendLink_eq (p kind : Nat) (payload : List Byte) (s : State) : sendLink p kind payload s =
    s.updCpl (fun c => { c with ownQ := c.ownQ ++ [{ cls := 3, kind := kind, payload := payload, port := some p }] }) := sendOwn_port rfl

/-- A unicast frame waits in any case. -/
theorem sendOwn_unicast (h : f.dst < 33) : sendOwn f s = s.updCpl (fun c => { c with ownQ := c.ownQ ++ [f] }) := by
  unfold sendOwn State.nowhere
  rw [decide_eq_false (by omega : ¬33 ≤ f.dst), Bool.and_false, Bool.false_and]
  rfl

/-- A broadcast waits where the tree has a port. -/
theorem sendOwn_tree (hd : f.dst = 63) (hp : f.port = none) (hi : f.inp = 4) (hs : f.sent = []) (h : s.treePorts ≠ []) :
    sendOwn f s = s.updCpl (fun c => { c with ownQ := c.ownQ ++ [f] }) := by
  have hports : s.portsLeft f = s.treePorts := by
    unfold State.portsLeft State.outPorts
    rw [hp, hd, hi, hs]
    dsimp only
    rw [if_pos rfl]
    refine (List.filter_eq_self.mpr fun _ _ => rfl).trans (List.filter_eq_self.mpr fun p hp => ?_)
    have := List.mem_range.mp (List.mem_of_mem_filter hp)
    exact decide_eq_true (by omega)
  unfold sendOwn State.nowhere
  rw [hports, List.isEmpty_eq_false_iff.mpr h, Bool.and_false]
  rfl

end

/-! ### The table of routes (R302) -/

/-- The table as discovery leaves it. -/
def discovered (s : State) : State := each ((List.range 32).map (· + 1)) discover s

section
variable {s : State}

theorem discoverAll_step (s : State) : LinkStep (discovered s) (discoverAll s) := LinkStep.refl.settleTree.advertIfChanged

theorem discover_only (d : Nat) (s : State) : ∃ regs, discover d s = { s with regs := regs } := by
  unfold discover
  split
  · exact ⟨_, rfl⟩
  · exact ⟨_, rfl⟩

theorem discover_rd {d o : Nat} (ho : o ≠ routeOf d) : (discover d s).rd o = s.rd o := by
  unfold discover
  split
  · rfl
  · exact rd_wr_of_ne _ _ ho

theorem discovered_only (s : State) : ∃ regs, discovered s = { s with regs := regs } :=
  List.foldlRecOn _ _ (motive := fun t : State => ∃ regs, t = { s with regs := regs }) ⟨_, rfl⟩ fun t ⟨_, ht⟩ d _ => by
    obtain ⟨_, hd⟩ := discover_only d t
    exact ⟨_, hd.trans (by rw [ht])⟩

theorem discovered_rd {o : Nat} (ho : ∀ k < 32, o ≠ CPL_ROUTE k) : (discovered s).rd o = s.rd o :=
  List.foldlRecOn _ _ (motive := fun t : State => t.rd o = s.rd o) rfl fun t ht d hd => by
    obtain ⟨k, hk, rfl⟩ := List.mem_map.mp hd
    exact (discover_rd (ho k (List.mem_range.mp hk))).trans ht

/-- What discovery leaves of the Coupler: all but its queues. -/
theorem discoverAll_cpl (s : State) : (discoverAll s).cpl = { s.cpl with
    ownQ := (discoverAll s).cpl.ownQ, mailQ := (discoverAll s).cpl.mailQ, stageQ := (discoverAll s).cpl.stageQ
    freightQ := (discoverAll s).cpl.freightQ, transit := (discoverAll s).cpl.transit
    fwdQ := (discoverAll s).cpl.fwdQ, fwdSent := (discoverAll s).cpl.fwdSent } := by
  obtain ⟨_, he⟩ := discovered_only s
  have h := (discoverAll_step s).cpl
  rw [he] at h
  exact h

theorem discoverAll_rd {o : Nat} (hl : linkRegister o = false) (ho : ∀ k < 32, o ≠ CPL_ROUTE k) : (discoverAll s).rd o = s.rd o :=
  ((discoverAll_step s).rd o hl).trans (discovered_rd ho)

theorem discoverAll_addr {f : Fld} (hf : apart CPL_ADDR_ROOT f) : (discoverAll s).fld CPL_ADDR f = s.fld CPL_ADDR f :=
  ((discoverAll_step s).addr f hf).trans (congrArg f.get (discovered_rd fun k _ => by simp only [CPL_ADDR, CPL_ROUTE]; omega))

theorem discoverAll_awake : (discoverAll s).awake = s.awake := by
  obtain ⟨_, he⟩ := discovered_only s
  rw [(discoverAll_step s).awake, he]
  rfl

end

/-! ### A seat is taken or given up (R299, R312, R320) -/

section
variable {s : State} {n : Nat}

/-- The state in which discovery begins once a seat is taken. -/
def seated (n : Nat) (s : State) : State :=
  ((s.setFld CPL_ADDR CPL_ADDR_SEAT n).setFlag CPL_ADDR CPL_ADDR_HITCHED (decide (n ≠ 0))).updCpl (fun c => { c with adopted := false })

theorem takeSeat_eq (n : Nat) (s : State) : takeSeat n s = discoverAll (seated n s) := rfl

theorem seated_seat (h : n < 64) : (seated n s).seat = n := by
  change ((s.setFld CPL_ADDR CPL_ADDR_SEAT n).setFlag CPL_ADDR CPL_ADDR_HITCHED (decide (n ≠ 0))).fld CPL_ADDR CPL_ADDR_SEAT = n
  exact (fld_setFlag_apart (by decide)).trans ((fld_setFld_self _ _ _ _ (by decide)).trans (Nat.mod_eq_of_lt h))

theorem seated_hitched : (seated n s).hitched = decide (n ≠ 0) := by
  change ((s.setFld CPL_ADDR CPL_ADDR_SEAT n).setFlag CPL_ADDR CPL_ADDR_HITCHED (decide (n ≠ 0))).flag CPL_ADDR CPL_ADDR_HITCHED = _
  exact flag_setFlag_self _ _ _ _ (by decide) (by decide)

theorem takeSeat_seat (h : n < 64) : (takeSeat n s).seat = n := by
  rw [takeSeat_eq]
  exact (discoverAll_addr (s := seated n s) (f := CPL_ADDR_SEAT) (.inr (by decide))).trans (seated_seat h)

theorem takeSeat_hitched : (takeSeat n s).hitched = decide (n ≠ 0) := by
  rw [takeSeat_eq]
  exact (bit_congr (by decide) (discoverAll_addr (s := seated n s) (f := CPL_ADDR_HITCHED) (.inl (by decide)))).trans seated_hitched

theorem takeSeat_rd {o : Nat} (hl : linkRegister o = false) (ho : ∀ k < 32, o ≠ CPL_ROUTE k) : (takeSeat n s).rd o = s.rd o := by
  have hne : o ≠ CPL_ADDR := by
    rintro rfl
    exact absurd hl (by decide)
  rw [takeSeat_eq, discoverAll_rd hl ho]
  exact (rd_wr_of_ne _ _ hne).trans (rd_wr_of_ne _ _ hne)

theorem takeSeat_awake : (takeSeat n s).awake = s.awake := by
  rw [takeSeat_eq, discoverAll_awake]
  rfl

end

/-! ### The lease (R317, R318) -/

/-- What a renewal, an expiry and a report leave of the Coupler. -/
structure LeaseStep (s t : State) : Prop where
  cpl : t.cpl = { s.cpl with renewAt := t.cpl.renewAt, fwdQ := t.cpl.fwdQ }
  rd : ∀ o, CplRegister o → o ≠ CPL_LEASE → t.rd o = s.rd o
  lease : ∀ f, apart CPL_LEASE_LSTATE f → t.fld CPL_LEASE f = s.fld CPL_LEASE f
  pending : ∀ src, evReserved src = false → s.evPending src = true → t.evPending src = true

section
variable {s t u : State}

theorem LeaseStep.refl : LeaseStep s s := ⟨rfl, fun _ _ _ => rfl, fun _ _ => rfl, fun _ _ h => h⟩

theorem LeaseStep.trans (h : LeaseStep s t) (h' : LeaseStep t u) : LeaseStep s u where
  cpl := h'.cpl.trans (by rw [h.cpl])
  rd o ho hl := (h'.rd o ho hl).trans (h.rd o ho hl)
  lease f hf := (h'.lease f hf).trans (h.lease f hf)
  pending src he hs := h'.pending src he (h.pending src he hs)

theorem LeaseStep.flag (h : LeaseStep s t) {f : Fld} (hf : apart CPL_LEASE_LSTATE f) (hl : 0 < f.len) :
    t.flag CPL_LEASE f = s.flag CPL_LEASE f := bit_congr hl (h.lease f hf)

theorem leaseStep_raise (s : State) (src : Nat) : LeaseStep s (s.raise src) := by
  have hr := raise_reports s src
  refine ⟨?_, fun o ho _ => hr.rd o (cplRegister_offGate.event o ho), fun f _ => hr.fld f (by decide), fun e he hs => hr.pending he hs⟩
  rw [hr.fwd]

/-- LSTATE is written. -/
theorem leaseStep_setState (s : State) (n : Nat) : LeaseStep s (s.setFld CPL_LEASE CPL_LEASE_LSTATE n) where
  cpl := rfl
  rd o _ hl := rd_wr_of_ne _ _ hl
  lease f hf := (congrArg f.get (rd_wr_self ..)).trans (get_put_apart _ _ _ _ hf)
  pending src he hs := by
    have hne : EVT_PEND (src / 24) ≠ CPL_LEASE := by have := evReserved_div he; simp only [EVT_PEND, CPL_LEASE]; omega
    rwa [State.evPending, State.setFld, rd_wr_of_ne _ _ hne]

/-- Every leg follows the lease, and the Coupler's registers stay. -/
theorem settleLease_low (s : State) : LowStep s (settleLease s) := LowStep.refl.safeFor.ite LowStep.refl.endCause

theorem settleLease_rd (s : State) : Untouched CplRegister s (settleLease s) := by
  refine Untouched.ite (Untouched.refl.safeFor cplRegister_offGate) ?_
  exact (Untouched.refl.each fun _ _ _ => .upd .refl).gate (GateStep.refl (L := false)).settleSafe cplRegister_offGate.gate

theorem leaseStep_settle (s : State) : LeaseStep s (settleLease s) where
  cpl := by
    obtain ⟨_, _, _, _, _, _, _, _, _, _, _, _, _, _, _, _, _, _, _, _, _, he⟩ := (settleLease_low s).only
    rw [he]
  rd o ho _ := settleLease_rd s o ho
  lease f _ := congrArg f.get (settleLease_rd s _ cplRegister_lease)
  pending src he hs := (settleLease_low s).pending he hs

/-- A lease that is not held puts every leg into SAFE. -/
theorem settleLease_safe (hen : s.flag CPL_LEASE CPL_LEASE_LEN = true) (h : s.fld CPL_LEASE CPL_LEASE_LSTATE ≠ 1) {l : Nat} (hl : l < 32) :
    (settleLease s).legSafe l ≠ 0 := by
  have hcond : (s.flag CPL_LEASE CPL_LEASE_LEN && decide (leaseState s ≠ 1)) = true := by
    rw [hen]
    exact decide_eq_true h
  rw [settleLease, if_pos hcond]
  exact safeFor_safe (by decide) hl (List.mem_range.mpr hl)

/-- The state in which the legs follow a renewal. -/
def renewed (s : State) : State :=
  let u := (s.setFld CPL_LEASE CPL_LEASE_LSTATE 1).updCpl (fun c => { c with renewAt := s.now })
  if decide (leaseState s = 2) then cplLease u else u

theorem renewLease_eq (s : State) : renewLease s =
    if s.flag CPL_LEASE CPL_LEASE_LEN && !s.cpl.uncoupled then settleLease (renewed s) else s := rfl

theorem leaseStep_renewed (s : State) : LeaseStep s (renewed s) := by
  have h1 : LeaseStep s ((s.setFld CPL_LEASE CPL_LEASE_LSTATE 1).updCpl (fun c => { c with renewAt := s.now })) := by
    obtain ⟨h1, h2, h3, h4⟩ := leaseStep_setState s 1
    exact ⟨rfl, h2, h3, h4⟩
  unfold renewed
  dsimp only
  split
  · exact h1.trans (leaseStep_raise ..)
  · exact h1

theorem leaseStep_renew (s : State) : LeaseStep s (renewLease s) := by
  rw [renewLease_eq]
  split
  · exact (leaseStep_renewed s).trans (leaseStep_settle _)
  · exact .refl

theorem renewed_leaves (s : State) : (renewed s).fld CPL_LEASE CPL_LEASE_LSTATE = 1 ∧ (renewed s).cpl.renewAt = s.now := by
  have h1 : ((s.setFld CPL_LEASE CPL_LEASE_LSTATE 1).updCpl (fun c => { c with renewAt := s.now })).fld CPL_LEASE CPL_LEASE_LSTATE = 1 :=
    fld_setFld_self s _ _ 1 (by decide)
  unfold renewed
  dsimp only
  split
  · refine ⟨((raise_reports _ _).fld _ (by decide)).trans h1, ?_⟩
    rw [cplLease, (raise_reports _ _).fwd]
    rfl
  · exact ⟨h1, rfl⟩

/-- A renewal holds the lease from now on. -/
theorem renewLease_leaves (hen : s.flag CPL_LEASE CPL_LEASE_LEN = true) (hu : s.cpl.uncoupled = false) :
    (renewLease s).fld CPL_LEASE CPL_LEASE_LSTATE = 1 ∧ (renewLease s).cpl.renewAt = s.now := by
  obtain ⟨h1, h2⟩ := renewed_leaves s
  rw [renewLease_eq, hen, hu, if_pos (by decide)]
  refine ⟨((settleLease_rd _).fld cplRegister_lease _).trans h1, ?_⟩
  obtain ⟨_, _, _, _, _, _, _, _, _, _, _, _, _, _, _, _, _, _, _, _, _, he⟩ := (settleLease_low (renewed s)).only
  rw [he]
  exact h2

end

/-! ### Epochs (R319) -/

section
variable {s : State} {e : Nat}

/-- An epoch that is adopted is shown and reported. -/
theorem adopt_leaves (ha : s.awake = true) (he : e < 256) :
    (adopt e s).epoch = e ∧ (adopt e s).evPending (evCom 12) = true ∧ (adopt e s).awake = true ∧
    (adopt e s).cpl = { s.cpl with adopted := true, adoptAt := s.now, listening := false, fwdQ := (adopt e s).cpl.fwdQ } ∧
    (∀ o, CplRegister o → o ≠ CPL_ADDR → (adopt e s).rd o = s.rd o) ∧
    (∀ f, apart CPL_ADDR_EPOCH f → (adopt e s).fld CPL_ADDR f = s.fld CPL_ADDR f) := by
  have heq : adopt e s = ((s.setFld CPL_ADDR CPL_ADDR_EPOCH e).updCpl
      (fun c => { c with adopted := true, adoptAt := s.now, listening := false })).raise (evCom 12) := rfl
  have hv1 : ((s.setFld CPL_ADDR CPL_ADDR_EPOCH e).updCpl
      (fun c => { c with adopted := true, adoptAt := s.now, listening := false })).fld CPL_ADDR CPL_ADDR_EPOCH = e :=
    (fld_setFld_self s _ _ _ (by decide)).trans (Nat.mod_eq_of_lt he)
  have hr := raise_reports ((s.setFld CPL_ADDR CPL_ADDR_EPOCH e).updCpl
      (fun c => { c with adopted := true, adoptAt := s.now, listening := false })) (evCom 12)
  rw [heq]
  refine ⟨(hr.fld _ (by decide)).trans hv1, raise_pending _ (by decide) ha, ?_, ?_, fun o ho hne => ?_, fun f hf => ?_⟩
  · exact (raise_onlyEvents _ _).awake.trans ha
  · rw [hr.fwd]
    rfl
  · exact (hr.rd o (cplRegister_offGate.event o ho)).trans (rd_wr_of_ne _ _ hne)
  · exact (hr.fld f (by decide)).trans ((congrArg f.get (rd_wr_self ..)).trans (get_put_apart _ _ _ _ hf))

end

/-! ### The frames of an authority (R316, R317, R319) -/

section

/-- A mask that is summed bit by bit. -/
def bitMask (p : Nat → Bool) (n : Nat) : Nat := (List.range n).foldl (fun m k => if p k then m + 2 ^ k else m) 0

theorem bitMask_succ (p : Nat → Bool) (n : Nat) : bitMask p (n + 1) = if p n then bitMask p n + 2 ^ n else bitMask p n := by
  simp only [bitMask, List.range_succ, List.foldl_append, List.foldl_cons, List.foldl_nil]

theorem bitMask_lt (p : Nat → Bool) (n : Nat) : bitMask p n < 2 ^ n := by
  induction n with
  | zero => exact Nat.one_pos
  | succ n ih =>
    rw [bitMask_succ, Nat.pow_succ]
    split <;> omega

theorem bitMask_testBit (p : Nat → Bool) {n k : Nat} (h : k < n) : (bitMask p n).testBit k = p k := by
  induction n with
  | zero => omega
  | succ n ih =>
    have hlt := bitMask_lt p n
    rw [bitMask_succ]
    by_cases hk : k = n
    · subst hk
      split
      · next hp => rw [Nat.add_comm, Nat.testBit_two_pow_add_eq, Nat.testBit_lt_two_pow hlt, hp]; rfl
      · next hp => rw [Nat.testBit_lt_two_pow hlt]; simpa using hp
    · split
      · rw [Nat.add_comm, Nat.testBit_two_pow_add_gt (by omega), ih (by omega)]
      · exact ih (by omega)

variable {s : State}

theorem grantMask_eq (s : State) : s.grantMask =
    bitMask (fun k => (decide (k + 1 = s.seat) || s.flag (CPL_ROUTE k) CPL_ROUTE_VALID) && !s.cpl.struck.getLsbD k) 32 := rfl

/-- The LEASE frame of a heartbeat. -/
def leaseFrame (beat : Word) (s : State) : TxFrame :=
  { cls := 0, dst := 63, kind := 0x09, arg := beat, payload := leBytes 4 s.grantMask ++ wordBytes s.cpl.struck }

theorem sendLease_eq {beat : Word} (h : s.treePorts ≠ []) :
    sendLease beat s = s.updCpl (fun c => { c with ownQ := c.ownQ ++ [leaseFrame beat s] }) := sendOwn_tree rfl rfl rfl rfl h

theorem leaseFrame_payload (beat : Word) (s : State) : (leaseFrame beat s).payload.length = 8 ∧
    (leaseFrame beat s).payload.drop 4 = wordBytes s.cpl.struck ∧ leNat ((leaseFrame beat s).payload.take 4) = s.grantMask := by
  refine ⟨?_, List.drop_left' (leBytes_length 4 _), ?_⟩
  · change (leBytes 4 s.grantMask ++ wordBytes s.cpl.struck).length = 8
    rw [List.length_append, leBytes_length]
    rfl
  · change leNat ((leBytes 4 s.grantMask ++ wordBytes s.cpl.struck).take 4) = s.grantMask
    rw [List.take_left' (leBytes_length 4 _)]
    exact leNat_leBytes (bitMask_lt _ 32)

/-- The heartbeat of an authority. -/
theorem heartbeat_leaves {now : Nat} (ha : s.awake = true) (hh : s.hitched = true) (hacts : s.acts = true) (hl : s.cpl.listening = false)
    (ht : s.treePorts ≠ []) : ∃ t, exec (.leaseHeartbeat now) s = .next t ∧
      (s.flag CPL_LEASE CPL_LEASE_LEN = true → s.cpl.uncoupled = false → t.fld CPL_LEASE CPL_LEASE_LSTATE = 1 ∧ t.cpl.renewAt = max s.now now) ∧
      ∃ f, t.cpl.ownQ = s.cpl.ownQ ++ [f] ∧ f.cls = 0 ∧ f.dst = 63 ∧ f.kind = 9 ∧ f.payload.length = 8 ∧
        f.payload.drop 4 = wordBytes s.cpl.struck ∧ ∀ k, k < 32 → (leNat (f.payload.take 4)).testBit k =
          ((decide (k + 1 = s.seat) || s.flag (CPL_ROUTE k) CPL_ROUTE_VALID) && !s.cpl.struck.getLsbD k) := by
  have ha' : (s.at now).awake = true := ha
  have hh' : (s.at now).hitched = true := hh
  have hacts' : (s.at now).acts = true := hacts
  have hl' : (s.at now).cpl.listening = false := hl
  have ht' : (s.at now).treePorts ≠ [] := ht
  let f := leaseFrame (word ((s.at now).fabric.toNat / (100 * usTaps))) (s.at now)
  let u := (s.at now).updCpl (fun c => { c with ownQ := c.ownQ ++ [f] })
  have hexec : exec (.leaseHeartbeat now) s = .next (syncStretches (renewLease u)) := by
    change execLeaseHeartbeat now s = _
    unfold execLeaseHeartbeat
    dsimp only
    rw [ha', hh', hacts', hl', if_pos (by decide), sendLease_eq ht']
    rfl
  obtain ⟨hlen, hstruck, hgrant⟩ := leaseFrame_payload (word ((s.at now).fabric.toNat / (100 * usTaps))) (s.at now)
  refine ⟨_, hexec, fun hen hu => ?_, f, ?_, rfl, rfl, rfl, hlen, hstruck, fun k hk => ?_⟩
  · rw [syncStretches_fld, syncStretches_cpl]
    exact renewLease_leaves (s := u) hen hu
  · rw [syncStretches_cpl, (leaseStep_renew u).cpl]
    rfl
  · rw [hgrant, grantMask_eq, bitMask_testBit _ hk]
    rfl

/-- A lease that expires. -/
theorem leaseExpiry_leaves (ha : s.awake = true) (hen : s.flag CPL_LEASE CPL_LEASE_LEN = true) (hst : s.fld CPL_LEASE CPL_LEASE_LSTATE = 1) :
    ∃ t, exec .leaseExpiry s = .next t ∧ t.fld CPL_LEASE CPL_LEASE_LSTATE = 2 ∧ t.evPending (evCom 11) = true ∧
      ∀ l, l < 32 → t.legSafe l ≠ 0 := by
  let v := s.setFld CPL_LEASE CPL_LEASE_LSTATE 2
  let u := v.raise (evCom 11)
  have hexec : exec .leaseExpiry s = .next (syncStretches (settleLease u)) := by
    change execLeaseExpiry s = _
    have hst' : leaseState s = 1 := hst
    unfold execLeaseExpiry
    rw [ha, hen, hst', if_pos (by decide)]
    rfl
  have hfld : u.fld CPL_LEASE CPL_LEASE_LSTATE = 2 :=
    ((raise_reports v _).fld _ (by decide)).trans (fld_setFld_self s _ _ 2 (by decide))
  have hlen : u.flag CPL_LEASE CPL_LEASE_LEN = true :=
    ((raise_reports v _).flag _ (by decide)).trans ((flag_setFld_apart (by decide)).trans hen)
  refine ⟨_, hexec, ?_, ?_, fun l hl => ?_⟩
  · rw [syncStretches_fld, (settleLease_rd u).fld cplRegister_lease, hfld]
  · rw [syncStretches_evPending]
    exact (settleLease_low u).pending (by decide) (raise_pending v (by decide) ha)
  · rw [syncStretches_legSafe]
    exact settleLease_safe hlen (by omega) hl

end

/-! ### LEASE and UNCPL frames (R317, R319, R320) -/

section
variable {s t : State} {f : Frame}

theorem acts_congr (hl : t.rd CPL_LEASE = s.rd CPL_LEASE) (hs : t.seat = s.seat) : t.acts = s.acts := by
  rw [State.acts, State.acts, State.flag, State.authority, hl, hs]
  rfl

/-- On a device that is no authority an accepted LEASE only renews. -/
theorem acceptLease_other {differ : Bool} (ha : s.acts = false) (hs : seatIn (leaseStruck f) s.seat = false) :
    acceptLease f differ s = if seatIn (leaseGrant f) s.seat then renewLease s else s := by
  have hno : (s.acts && differ && decide (f.src.val < s.seat)) = false := by rw [ha, Bool.false_and, Bool.false_and]
  unfold acceptLease
  dsimp only
  rw [hno, if_neg Bool.false_ne_true, hs, Bool.not_false, Bool.and_true]

/-- The struck seats of a LEASE in the present epoch. -/
def struckAdded (f : Frame) (s : State) : State :=
  s.updCpl (fun c => { c with struck := c.struck ||| leaseStruck f, listening := false })

theorem leaseArrived_present (had : s.cpl.adopted = true) (he : s.ahead f = 0) (ha : s.acts = false)
    (hs : seatIn (leaseStruck f) s.seat = false) : leaseArrived f s =
      if seatIn (leaseGrant f) s.seat then renewLease (struckAdded f s) else struckAdded f s := by
  have hacc := acceptLease_other (s := struckAdded f s) (f := f) (differ := decide (s.cpl.struck ≠ leaseStruck f)) ha hs
  unfold leaseArrived
  dsimp only
  rw [had, if_neg (by decide), he, if_pos rfl, hs, if_neg (by decide)]
  exact hacc

/-- The struck seats of a LEASE of a later epoch. -/
def struckAdopted (f : Frame) (s : State) : State := (adopt f.epoch.toNat s).updCpl (fun c => { c with struck := leaseStruck f })

theorem struckAdopted_seat (hw : s.awake = true) : (struckAdopted f s).seat = s.seat := by
  obtain ⟨-, -, -, -, -, h⟩ := adopt_leaves hw f.epoch.isLt
  exact h CPL_ADDR_SEAT (.inr (by decide))

theorem leaseArrived_later (hw : s.awake = true) (had : s.cpl.adopted = true) (h1 : 1 ≤ s.ahead f) (h2 : s.ahead f < 128)
    (ha : s.acts = false) (hs : seatIn (leaseStruck f) s.seat = false) : leaseArrived f s =
      if seatIn (leaseGrant f) s.seat then renewLease (struckAdopted f s) else struckAdopted f s := by
  obtain ⟨-, -, -, -, hrd, -⟩ := adopt_leaves hw f.epoch.isLt
  have hseat := struckAdopted_seat (f := f) hw
  have hacts : (struckAdopted f s).acts = false := (acts_congr (hrd _ cplRegister_lease (by decide)) hseat).trans ha
  have hacc := acceptLease_other (s := struckAdopted f s) (f := f) (differ := false) hacts (by rw [hseat]; exact hs)
  rw [hseat] at hacc
  unfold leaseArrived
  dsimp only
  rw [had, if_neg (by decide), if_neg (by omega), if_pos h2, hs, if_neg (by decide)]
  exact hacc

/-- A frame of an authority to all devices. -/
theorem lease_received (hw : s.awake = true) (hup : s.portUp f.port = true) (hh : headerOk f = true) (hc : f.fcrcOk = true)
    (hk : f.kind = 9) (hd : f.dst.val = 63) (hhops : f.hops.val ≠ 0) (hauth : s.authority f.src = true) :
    exec (.lease f) s = .next (syncStretches (leaseArrived f (forward f (s.at f.t)))) := by
  have hlocal : s.isLocal f = true := by
    unfold State.isLocal
    simp [hd]
  have hauth' : (forward f (s.at f.t)).authority f.src = true := by
    rw [State.authority, forward_rd (by decide)]
    exact hauth
  change settled (receive [0x09] f (fun s => if s.authority f.src then leaseArrived f s else epochCheck f id s) s) = _
  rw [receive_delivers hw hup hh hc (.inl hhops) (by rw [hk]; rfl) hlocal, hauth', if_pos rfl]
  rfl

/-- A LEASE that reaches a device that is no authority. -/
theorem lease_leaves (hw : s.awake = true) (hup : s.portUp f.port = true) (hh : headerOk f = true) (hc : f.fcrcOk = true)
    (hk : f.kind = 9) (hd : f.dst.val = 63) (hhops : f.hops.val ≠ 0) (hauth : s.authority f.src = true) (ha : s.acts = false)
    (had : s.cpl.adopted = true) (hs : seatIn (leaseStruck f) s.seat = false) :
    (f.epoch.toNat = s.epoch → ∃ t, exec (.lease f) s = .next t ∧ t.cpl.struck = s.cpl.struck ||| leaseStruck f ∧
      (seatIn (leaseGrant f) s.seat = true → s.flag CPL_LEASE CPL_LEASE_LEN = true → s.cpl.uncoupled = false →
        t.fld CPL_LEASE CPL_LEASE_LSTATE = 1 ∧ t.cpl.renewAt = max s.now f.t)) ∧
    (1 ≤ (f.epoch.toNat + 256 - s.epoch) % 256 → (f.epoch.toNat + 256 - s.epoch) % 256 < 128 →
      ∃ t, exec (.lease f) s = .next t ∧ t.epoch = f.epoch.toNat ∧ t.cpl.struck = leaseStruck f ∧
        t.evPending (evCom 12) = true) := by
  have hexec := lease_received hw hup hh hc hk hd hhops hauth
  obtain ⟨regs, q, hfwd⟩ := forward_only f (s.at f.t)
  have hrd : ∀ o, o ≠ CPL_CNT → (forward f (s.at f.t)).rd o = s.rd o := fun o ho => forward_rd ho
  have hcpl : (forward f (s.at f.t)).cpl = { s.cpl with transit := q } := by rw [hfwd]; rfl
  have hnow : (forward f (s.at f.t)).now = max s.now f.t := by rw [hfwd]; rfl
  have hw' : (forward f (s.at f.t)).awake = true := by rw [hfwd]; exact hw
  generalize forward f (s.at f.t) = u at *
  have hseat : u.seat = s.seat := congrArg CPL_ADDR_SEAT.get (hrd _ (by decide))
  have hep : u.epoch = s.epoch := congrArg CPL_ADDR_EPOCH.get (hrd _ (by decide))
  have hahead : u.ahead f = (f.epoch.toNat + 256 - s.epoch) % 256 := by rw [State.ahead, hep]
  have ha' : u.acts = false := (acts_congr (hrd _ (by decide)) hseat).trans ha
  have had' : u.cpl.adopted = true := by rw [hcpl]; exact had
  have hs' : seatIn (leaseStruck f) u.seat = false := by rw [hseat]; exact hs
  have hlen : u.flag CPL_LEASE CPL_LEASE_LEN = s.flag CPL_LEASE CPL_LEASE_LEN := congrArg CPL_LEASE_LEN.bit (hrd _ (by decide))
  refine ⟨fun he => ⟨_, hexec, ?_⟩, fun h1 h2 => ⟨_, hexec, ?_⟩⟩
  · have hlt : s.epoch < 256 := get_lt CPL_ADDR_EPOCH (s.rd CPL_ADDR)
    rw [leaseArrived_present had' (by rw [hahead]; omega) ha' hs', hseat, syncStretches_cpl, syncStretches_fld]
    have hstruck : (struckAdded f u).cpl.struck = s.cpl.struck ||| leaseStruck f := by
      rw [show (struckAdded f u).cpl.struck = u.cpl.struck ||| leaseStruck f from rfl, hcpl]
    refine ⟨?_, fun hg hen hu => ?_⟩
    · split
      · rw [(leaseStep_renew _).cpl]
        exact hstruck
      · exact hstruck
    · rw [if_pos hg, ← hnow]
      exact renewLease_leaves (s := struckAdded f u) (hlen.trans hen) (by rw [show (struckAdded f u).cpl.uncoupled = u.cpl.uncoupled from rfl, hcpl]; exact hu)
  · rw [leaseArrived_later hw' had' (by omega) (by omega) ha' hs', hseat, syncStretches_cpl, syncStretches_evPending]
    obtain ⟨h3, h4, -, -, -, -⟩ := adopt_leaves hw' f.epoch.isLt
    have hepoch : ∀ v : State, (syncStretches v).epoch = v.epoch := fun v => syncStretches_fld ..
    rw [hepoch]
    split
    · have hr := leaseStep_renew (struckAdopted f u)
      refine ⟨(congrArg CPL_ADDR_EPOCH.get (hr.rd _ cplRegister_addr (by decide))).trans h3, ?_, hr.pending _ (by decide) h4⟩
      rw [hr.cpl]
      rfl
    · exact ⟨h3, rfl, h4⟩

/-- The state in which an uncoupled device gives up its seat. -/
def seatDropped (s : State) : State :=
  let u := (s.setFld CPL_LEASE CPL_LEASE_LSTATE 3).updCpl (fun c => { c with uncoupled := true })
  (u.rc EVT_CNT EVT_CNT_CPLDROP u.cpl.fwdQ.length).updCpl (fun c => { c with fwdQ := [], fwdSent := [] })

theorem uncouple_eq (s : State) : uncouple s = settleLease (cplLease (takeSeat 0 (seatDropped s))) := rfl

theorem seatDropped_lease : (seatDropped s).rd CPL_LEASE = (s.setFld CPL_LEASE CPL_LEASE_LSTATE 3).rd CPL_LEASE := rd_wr_of_ne _ _ (by decide)

/-- What uncoupling leaves. -/
theorem uncouple_leaves (hw : s.awake = true) : (uncouple s).seat = 0 ∧ (uncouple s).hitched = false ∧ (uncouple s).cpl.uncoupled = true ∧
    (uncouple s).fld CPL_LEASE CPL_LEASE_LSTATE = 3 ∧ (uncouple s).evPending (evCom 11) = true ∧
    (s.flag CPL_LEASE CPL_LEASE_LEN = true → ∀ l, l < 32 → (uncouple s).legSafe l ≠ 0) := by
  rw [uncouple_eq]
  have hseat : (takeSeat 0 (seatDropped s)).seat = 0 := takeSeat_seat (by decide)
  have hhitch : (takeSeat 0 (seatDropped s)).hitched = false := takeSeat_hitched
  have hlease : (takeSeat 0 (seatDropped s)).rd CPL_LEASE = (s.setFld CPL_LEASE CPL_LEASE_LSTATE 3).rd CPL_LEASE :=
    (takeSeat_rd (by decide) (fun k _ => by simp only [CPL_LEASE, CPL_ROUTE]; omega)).trans seatDropped_lease
  have hunc : (takeSeat 0 (seatDropped s)).cpl.uncoupled = true := by
    rw [takeSeat_eq, discoverAll_cpl]
    rfl
  have haw : (takeSeat 0 (seatDropped s)).awake = true := takeSeat_awake.trans hw
  generalize takeSeat 0 (seatDropped s) = u at *
  have hstep : LeaseStep u (settleLease (cplLease u)) := (leaseStep_raise u _).trans (leaseStep_settle _)
  have hraised : (cplLease u).rd CPL_LEASE = (s.setFld CPL_LEASE CPL_LEASE_LSTATE 3).rd CPL_LEASE :=
    ((raise_reports u _).rd _ (by decide)).trans hlease
  have hst : (cplLease u).fld CPL_LEASE CPL_LEASE_LSTATE = 3 := (congrArg CPL_LEASE_LSTATE.get hraised).trans (fld_setFld_self s _ _ 3 (by decide))
  have haddr := hstep.rd _ cplRegister_addr (by decide)
  refine ⟨(congrArg CPL_ADDR_SEAT.get haddr).trans hseat, (congrArg CPL_ADDR_HITCHED.bit haddr).trans hhitch, ?_, ?_,
    (settleLease_low _).pending (by decide) (raise_pending u (by decide) haw), fun hen l hl => ?_⟩
  · rw [hstep.cpl]
    exact hunc
  · exact ((settleLease_rd _).fld cplRegister_lease _).trans hst
  · have hlen : (cplLease u).flag CPL_LEASE CPL_LEASE_LEN = true :=
      (congrArg CPL_LEASE_LEN.bit hraised).trans ((flag_setFld_apart (by decide)).trans hen)
    exact settleLease_safe hlen (by omega) hl

/-- An UNCPL of an authority in a later epoch. -/
theorem uncpl_leaves (hw : s.awake = true) (hup : s.portUp f.port = true) (hh : headerOk f = true) (hc : f.fcrcOk = true)
    (hk : f.kind = 0x0A) (hd : f.dst.val = s.seat) (h0 : s.seat ≠ 0) (hauth : s.authority f.src = true) (had : s.cpl.adopted = true)
    (h1 : 1 ≤ (f.epoch.toNat + 256 - s.epoch) % 256) (h2 : (f.epoch.toNat + 256 - s.epoch) % 256 < 128) :
    ∃ t, exec (.uncpl f) s = .next t ∧ t.seat = 0 ∧ t.hitched = false ∧ t.cpl.uncoupled = true ∧
      t.fld CPL_LEASE CPL_LEASE_LSTATE = 3 ∧ t.evPending (evCom 11) = true ∧
      (s.flag CPL_LEASE CPL_LEASE_LEN = true → ∀ l, l < 32 → t.legSafe l ≠ 0) := by
  have hcond : ((s.at f.t).cpl.adopted && decide (1 ≤ (s.at f.t).ahead f) && decide ((s.at f.t).ahead f < 128) && (s.at f.t).authority f.src) = true := by
    have h1' : 1 ≤ (s.at f.t).ahead f := h1
    have h2' : (s.at f.t).ahead f < 128 := h2
    have had' : (s.at f.t).cpl.adopted = true := had
    have hauth' : (s.at f.t).authority f.src = true := hauth
    rw [had', hauth', decide_eq_true h1', decide_eq_true h2']
    rfl
  have hexec : exec (.uncpl f) s = .next (syncStretches (uncouple (s.at f.t))) := by
    change settled (receive [0x0A] f (fun s => if s.cpl.adopted && decide (1 ≤ s.ahead f) && decide (s.ahead f < 128) && s.authority f.src
      then uncouple s else s) s) = _
    rw [receive_own hw hup hh hc hd h0 (by rw [hk]; rfl)]
    exact congrArg settled (if_pos hcond)
  obtain ⟨h3, h4, h5, h6, h7, h8⟩ := uncouple_leaves (s := s.at f.t) hw
  refine ⟨_, hexec, ?_⟩
  have hflag : ∀ v : State, (syncStretches v).hitched = v.hitched := fun v => syncStretches_flag ..
  have hfld : ∀ v : State, (syncStretches v).seat = v.seat := fun v => syncStretches_fld ..
  rw [hfld, hflag, syncStretches_cpl, syncStretches_fld, syncStretches_evPending]
  exact ⟨h3, h4, h5, h6, h7, fun hen l hl => by rw [syncStretches_legSafe]; exact h8 hen l hl⟩

/-- A reset authority starts epoch 0. -/
theorem listenExpiry_leaves (hw : s.awake = true) (hh : s.hitched = true) (hacts : s.acts = true) (hl : s.cpl.listening = true) :
    ∃ t, exec .authorityListenExpiry s = .next t ∧ t.epoch = 0 ∧ t.cpl.struck = 0 ∧ t.cpl.adopted = true ∧ t.cpl.listening = false := by
  have hexec : exec .authorityListenExpiry s = .next ((s.setFld CPL_ADDR CPL_ADDR_EPOCH 0).updCpl (fun c => { c with
      struck := 0, adopted := true, adoptAt := s.now, listening := false })) := by
    change execAuthorityListenExpiry s = _
    unfold execAuthorityListenExpiry
    rw [hw, hh, hacts, hl, if_pos (by decide)]
  exact ⟨_, hexec, fld_setFld_self s _ _ 0 (by decide), rfl, rfl, rfl⟩

end

/-! ### Declarations (R321) -/

section
variable {s : State} {v : View} {data : Word}

/-- The card of CPL_LEASE. -/
def cardLease : Card := ⟨0x1C0208, [], true, 0x00000000#32, [
    ⟨⟨31, 1⟩, .rw, false, false, .bit 11⟩, ⟨⟨30, 1⟩, .rw, false, false, .bit 11⟩, ⟨⟨24, 6⟩, .rw, false, false, .bit 11⟩,
    ⟨⟨18, 6⟩, .rw, false, false, .bit 11⟩, ⟨⟨16, 2⟩, .ro, false, false, .none⟩, ⟨⟨15, 1⟩, .rh, false, false, .none⟩,
    ⟨⟨14, 1⟩, .rw, false, false, .bit 11⟩, ⟨⟨8, 6⟩, .rw, false, false, .none⟩, ⟨⟨0, 8⟩, .ro, false, false, .none⟩]⟩

theorem register_lease : plainRegister CPL_LEASE cardLease [] = true := by decide +kernel

theorem wrote_lease (old w : Word) (k : Nat) (co : CoUpdate) (before u : State) : wrote CPL_LEASE old w k co before u =
    if CPL_LEASE_DECL.bit w then declare (settleSafe (settleLease u)) else settleSafe (settleLease u) := rfl

theorem badWrite_lease (old w : Word) : s.badWrite CPL_LEASE old w = s.badLease old w := rfl

/-- CPL_LEASE as the write leaves it, with the legs following. -/
def leaseWritten (v : View) (data : Word) (s : State) : State :=
  settleSafe (settleLease (s.wr CPL_LEASE (writtenWord v CPL_LEASE data s)))

theorem leaseWritten_step (v : View) (data : Word) (s : State) :
    LowStep (s.wr CPL_LEASE (writtenWord v CPL_LEASE data s)) (leaseWritten v data s) ∧
    Untouched CplRegister (s.wr CPL_LEASE (writtenWord v CPL_LEASE data s)) (leaseWritten v data s) :=
  ⟨(settleLease_low _).settleSafe, (settleLease_rd _).gate (GateStep.refl (L := false)).settleSafe cplRegister_offGate.gate⟩

/-- Seats that are struck after one more. -/
theorem struck_or {m : Word} {d : Nat} (h : 1 ≤ d) {k : Nat} (hk : k < 32) :
    (m ||| word (2 ^ (d - 1))).getLsbD k = (m.getLsbD k || decide (k + 1 = d)) := by
  rw [BitVec.getLsbD_or, word, BitVec.getLsbD_ofNat, Nat.testBit_two_pow, decide_eq_true hk, Bool.true_and]
  congr 1
  exact decide_eq_decide.mpr (by omega)

/-- The seat of a declaration is struck. -/
def struckDeclared (s : State) : State :=
  (s.setFlag CPL_LEASE CPL_LEASE_DECL false).updCpl
    (fun c => { c with struck := c.struck ||| word (2 ^ (s.fld CPL_LEASE CPL_LEASE_DSEAT - 1)) })

theorem declare_eq (s : State) : declare s = sendLease 0xFFFFFFFF (adopt (((struckDeclared s).epoch + 1) % 256) (struckDeclared s)) := rfl

theorem sendOwn_keeps (f : TxFrame) (s : State) : (sendOwn f s).regs = s.regs ∧ (sendOwn f s).cpl.struck = s.cpl.struck := by
  unfold sendOwn
  split
  · exact ⟨rfl, rfl⟩
  · exact ⟨rfl, rfl⟩

theorem declare_leaves (hw : s.awake = true) (hd : 1 ≤ s.fld CPL_LEASE CPL_LEASE_DSEAT) :
    (declare s).epoch = (s.epoch + 1) % 256 ∧ (declare s).flag CPL_LEASE CPL_LEASE_DECL = false ∧
    (∀ k, k < 32 → (declare s).cpl.struck.getLsbD k = (s.cpl.struck.getLsbD k || decide (k + 1 = s.fld CPL_LEASE CPL_LEASE_DSEAT))) ∧
    (declare s).evPending (evCom 12) = true ∧
    (s.treePorts ≠ [] → ∃ f, (declare s).cpl.ownQ = s.cpl.ownQ ++ [f] ∧ f.cls = 0 ∧ f.dst = 63 ∧ f.kind = 9 ∧ f.arg = 0xFFFFFFFF) := by
  have hrd : ∀ o, o ≠ CPL_LEASE → (struckDeclared s).rd o = s.rd o := fun o ho => rd_wr_of_ne _ _ ho
  have hep : (struckDeclared s).epoch = s.epoch := congrArg CPL_ADDR_EPOCH.get (hrd _ (by decide))
  have hdecl : (struckDeclared s).flag CPL_LEASE CPL_LEASE_DECL = false := flag_setFlag_self s _ _ _ (by decide) (by decide)
  obtain ⟨h1, h2, -, hcpl, hkeep, haddr⟩ := adopt_leaves (s := struckDeclared s) hw (Nat.mod_lt (s.epoch + 1) (by decide : 0 < 256))
  rw [declare_eq, hep]
  have hport : ∀ p < 4, (adopt ((s.epoch + 1) % 256) (struckDeclared s)).rd (CPL_PORT p) = s.rd (CPL_PORT p) := fun p hp =>
    (hkeep _ (cplRegister_port hp) (cplPort_apart hp).1).trans (hrd _ (by simp only [CPL_PORT, CPL_LEASE]; omega))
  have htree : SameTree s (adopt ((s.epoch + 1) % 256) (struckDeclared s)) := by
    refine ⟨?_, fun k hk => ?_, fun p hp => congrArg CPL_PORT_UP.bit (hport p hp), by rw [hcpl]; rfl⟩
    · exact (haddr CPL_ADDR_SEAT (.inr (by decide))).trans (congrArg CPL_ADDR_SEAT.get (hrd _ (by decide)))
    · exact (hkeep _ (cplRegister_route hk) (by simp only [CPL_ROUTE, CPL_ADDR]; omega)).trans
        (hrd _ (by simp only [CPL_ROUTE, CPL_LEASE]; omega))
  have hstruck : (adopt ((s.epoch + 1) % 256) (struckDeclared s)).cpl.struck =
      s.cpl.struck ||| word (2 ^ (s.fld CPL_LEASE CPL_LEASE_DSEAT - 1)) := by rw [hcpl]; rfl
  have hown : (adopt ((s.epoch + 1) % 256) (struckDeclared s)).cpl.ownQ = s.cpl.ownQ := by rw [hcpl]; rfl
  have hlease : (adopt ((s.epoch + 1) % 256) (struckDeclared s)).flag CPL_LEASE CPL_LEASE_DECL = false :=
    (congrArg CPL_LEASE_DECL.bit (hkeep _ cplRegister_lease (by decide))).trans hdecl
  generalize adopt ((s.epoch + 1) % 256) (struckDeclared s) = u at *
  have hsame : ∀ o, (sendLease 0xFFFFFFFF u).rd o = u.rd o := fun o => by
    rw [State.rd, sendLease, (sendOwn_keeps _ u).1]
    rfl
  refine ⟨(congrArg CPL_ADDR_EPOCH.get (hsame _)).trans h1, (congrArg CPL_LEASE_DECL.bit (hsame _)).trans hlease, fun k hk => ?_, ?_, fun ht => ?_⟩
  · rw [sendLease, (sendOwn_keeps _ u).2, hstruck, struck_or hd hk]
  · rw [State.evPending, hsame]
    exact h2
  · rw [sendLease_eq (by rw [htree.treePorts]; exact ht)]
    exact ⟨_, congrArg (· ++ [leaseFrame 0xFFFFFFFF u]) hown, rfl, rfl, rfl, rfl⟩

/-- An accepted declaration of a seat. -/
theorem decl_leaves {d : BitVec 6} (ha : accepted v CPL_LEASE (CPL_LEASE_DECL.put (CPL_LEASE_DSEAT.put (s.rd CPL_LEASE) d.toNat) 1) s = true) :
    ∃ t, exec (.decl v d) s = .next t ∧ t.epoch = (s.epoch + 1) % 256 ∧ t.flag CPL_LEASE CPL_LEASE_DECL = false ∧
      (∀ k, k < 32 → t.cpl.struck.getLsbD k = (s.cpl.struck.getLsbD k || decide (k + 1 = d.toNat))) ∧
      t.evPending (evCom 12) = true ∧
      (s.treePorts ≠ [] → ∃ f, t.cpl.ownQ = s.cpl.ownQ ++ [f] ∧ f.cls = 0 ∧ f.dst = 63 ∧ f.kind = 9 ∧ f.arg = 0xFFFFFFFF) := by
  have hexec : exec (.decl v d) s = .next (syncStretches (wordWritten v CPL_LEASE [] _ s)) := wordCmd_written register_lease ha
  have hreg := plainRegister_register register_lease
  generalize hdata : CPL_LEASE_DECL.put (CPL_LEASE_DSEAT.put (s.rd CPL_LEASE) d.toNat) 1 = data at ha hexec
  have hseat : CPL_LEASE_DSEAT.get (writtenWord v CPL_LEASE data s) = d.toNat := by
    rw [written_get hreg ha (by decide), ← hdata, get_put_apart _ _ _ _ (.inr (by decide)), get_put_self _ _ _ (by decide)]
    exact Nat.mod_eq_of_lt d.isLt
  have hdecl : CPL_LEASE_DECL.bit (writtenWord v CPL_LEASE data s) = true := by
    rw [written_bit hreg ha (by decide) (by decide), ← hdata]
    exact bit_put_self _ _ _ (by decide) (by decide)
  have hbad := badWrite_of_accepted ha
  rw [badWrite_lease, State.badLease] at hbad
  simp only [hdecl, hseat, Bool.true_and, Bool.or_eq_false_iff, State.declBad, decide_eq_false_iff_not] at hbad
  obtain ⟨-, ⟨⟨⟨-, h0⟩, -⟩, -⟩, -⟩ := hbad
  obtain ⟨hlow, hun⟩ := leaseWritten_step v data s
  have hwrite : wordWritten v CPL_LEASE [] data s = declare (leaseWritten v data s) := by
    rw [wordWritten, wrote_lease, if_pos hdecl]
    rfl
  have hcpl : ∃ q, (leaseWritten v data s).cpl = { s.cpl with fwdQ := q } := by
    obtain ⟨_, _, _, _, _, _, _, _, _, _, _, _, _, _, _, _, _, _, _, _, _, he⟩ := hlow.only
    rw [he]
    exact ⟨_, rfl⟩
  have hawake : s.awake = true := awake_of_accepted ha
  have hw : (leaseWritten v data s).awake = true := hlow.only.awake.trans hawake
  have hrd : ∀ o, CplRegister o → o ≠ CPL_LEASE → (leaseWritten v data s).rd o = s.rd o := fun o ho hne =>
    (hun o ho).trans (rd_wr_of_ne _ _ hne)
  have hd : (leaseWritten v data s).fld CPL_LEASE CPL_LEASE_DSEAT = d.toNat :=
    (congrArg CPL_LEASE_DSEAT.get ((hun _ cplRegister_lease).trans (rd_wr_self ..))).trans hseat
  rw [hwrite] at hexec
  generalize leaseWritten v data s = u at *
  obtain ⟨q, hcpl⟩ := hcpl
  have htree : SameTree s u := ⟨congrArg CPL_ADDR_SEAT.get (hrd _ cplRegister_addr (by decide)),
    fun k hk => hrd _ (cplRegister_route hk) (by simp only [CPL_ROUTE, CPL_LEASE]; omega),
    fun p hp => congrArg CPL_PORT_UP.bit (hrd _ (cplRegister_port hp) (by simp only [CPL_PORT, CPL_LEASE]; omega)), by rw [hcpl]⟩
  have hep : u.epoch = s.epoch := congrArg CPL_ADDR_EPOCH.get (hrd _ cplRegister_addr (by decide))
  have hleaves := declare_leaves (s := u) hw (by omega)
  rw [hd, hep, htree.treePorts, hcpl] at hleaves
  refine ⟨_, hexec, ?_⟩
  have hepoch : ∀ w : State, (syncStretches w).epoch = w.epoch := fun w => syncStretches_fld ..
  rw [hepoch, syncStretches_flag, syncStretches_cpl, syncStretches_evPending]
  exact hleaves

end

/-- Leases, epochs and declarations. -/
theorem leases : Rules.Leases := by
  intro s ha en
  refine ⟨fun now hh hacts hl ht => heartbeat_leaves ha hh hacts hl ht, fun f hup hh hc hk hd hhops hauth hacts had hs => ?_,
    fun hen hst => leaseExpiry_leaves ha hen hst, fun f hup hh hc hk hd h0 hauth had h1 h2 => ?_,
    fun v d hacc => decl_leaves hacc, fun hh hacts hl => listenExpiry_leaves ha hh hacts hl⟩
  · exact lease_leaves ha hup hh hc hk hd hhops hauth hacts had hs
  · exact uncpl_leaves ha hup hh hc hk hd h0 hauth had h1 h2

/-! ### Fabric time (R311) -/

section
variable {s : State} {p : Fin 4}

theorem pt_updPt (s : State) (p : Nat) (g : PortSt → PortSt) : (s.updPt p g).pt p = g (s.pt p) := mget_mset_self ..

theorem fabricTime : Rules.FabricTime := by
  intro s p ha hup
  refine ⟨fun t1 hh hc => ?_, fun t4 hc => ?_, fun hpar => ⟨fun t2 t3 => ?_, fun t1 t4 => ?_⟩⟩
  · have hexec : exec (.timeSync p t1) s = .next (State.updPt (s.at t1) p (fun x => { x with t1 := t1 })) := by
      change execTimeSync p t1 s = _
      rw [execTimeSync, ha, hh, hup, hc, if_pos (by decide)]
    exact ⟨_, hexec, congrArg PortSt.t1 (pt_updPt ..), rfl⟩
  · let u := State.updPt (s.at t4) p (fun x => { x with t4 := t4 })
    have hexec : exec (.timeSyncEcho p t4) s = .next (sendLink p 0x14 (leBytes 8 (u.pt p).t1 ++ leBytes 8 t4) u) := by
      change execTimeSyncEcho p t4 s = _
      rw [execTimeSyncEcho, ha, hup, hc, if_pos (by decide)]
    have hpt : u.pt p = { s.pt p with t4 := t4 } := pt_updPt ..
    rw [sendLink_eq] at hexec
    refine ⟨_, hexec, congrArg PortSt.t4 hpt, rfl, _, rfl, rfl, rfl, rfl, ?_⟩
    rw [hpt]
  · have hexec : exec (.timeSyncMark p t2 t3) s = .next (State.updPt (s.at t3) p (fun x => { x with t2 := t2, t3 := t3 })) := by
      change execTimeSyncMark p t2 t3 s = _
      rw [execTimeSyncMark, ha, hup, decide_eq_true hpar, if_pos (by decide)]
    have hpt := pt_updPt (s.at t3) p (fun x => { x with t2 := t2, t3 := t3 })
    exact ⟨_, hexec, congrArg PortSt.t2 hpt, congrArg PortSt.t3 hpt, rfl⟩
  · let delay := (((t4 : Int) - t1) - (((s.pt p).t3 : Int) - (s.pt p).t2)).fdiv 2
    let ofs := ((((s.pt p).t2 : Int) - t1) - ((t4 : Int) - (s.pt p).t3)).fdiv 2
    have hexec : exec (.sync p t1 t4) s = .next ((s.setFldI (CPL_PORT p) CPL_PORT_DELAY delay).updCpl
        (fun c => { c with ofs := c.ofs - max (-16) (min 16 ofs) })) := by
      change execSync p t1 t4 s = _
      rw [execSync, ha, hup, decide_eq_true hpar, if_pos (by decide)]
    refine ⟨_, hexec, ?_, rfl⟩
    have hfld : (s.setFldI (CPL_PORT p) CPL_PORT_DELAY delay).fld (CPL_PORT p) CPL_PORT_DELAY = (delay % 2 ^ 16).toNat % 2 ^ 16 :=
      fld_setFld_self s _ _ _ (by decide)
    have hsum : delay = ((((s.pt p).t2 : Int) - t1) + ((t4 : Int) - (s.pt p).t3)).fdiv 2 := congrArg (Int.fdiv · 2) (by ring)
    refine (congrArg Nat.cast hfld).trans ?_
    rw [← hsum]
    omega

end

/-- Settles O54: fabric time, leases and epochs. -/
theorem timeAndLeases : Obligations.TimeAndLeases := ⟨fabricTime, leases⟩

end Sys2Proof.Proofs
end

section
/-! The Coupler's links, routes, seats and admissions (R296, R299 to R303, R312). -/

namespace Sys2Proof.Proofs

open Sys2Proof Sys2Proof.Machine Sys2Proof.Safety Sys2Proof.Laws

/-! ### The smallest of some counts -/

section
variable {l : List Nat} {b m : Nat}

theorem foldl_min_base (h : ∀ x ∈ l, b ≤ x) : l.foldl min b = b := by
  induction l with
  | nil => rfl
  | cons x l ih =>
    rw [List.foldl_cons, Nat.min_eq_left (h x List.mem_cons_self)]
    exact ih fun y hy => h y (List.mem_cons_of_mem _ hy)

theorem foldl_min_eq (hm : m ∈ l) (hb : m ≤ b) (h : ∀ x ∈ l, m ≤ x) : l.foldl min b = m := by
  induction l generalizing b with
  | nil => cases hm
  | cons x l ih =>
    have hl : ∀ y ∈ l, m ≤ y := fun y hy => h y (List.mem_cons_of_mem _ hy)
    rw [List.foldl_cons]
    obtain rfl | hm := List.mem_cons.mp hm
    · rw [Nat.min_eq_right hb]
      exact foldl_min_base hl
    · exact ih hm (le_min hb (h x List.mem_cons_self)) hl

end

/-! ### Discovery (R302) -/

section
variable {s : State} {d : Nat}

/-- The count that a port advertises for a seat. -/
def told (s : State) (d p : Nat) : Nat := (s.pt p).adv.getD (d - 1) 31

/-- The word of a seat among the ports that reach it. -/
def entryOf : List (Nat × Nat) → Word
  | [] => 0
  | (h, p) :: rest =>
    let w := CPL_ROUTE_VALID.put (CPL_ROUTE_PRI.put (CPL_ROUTE_HOPS.put 0 (min (h + 1) 15)) p) (b2n (decide (h + 1 < 31)))
    match rest with
    | (_, q) :: _ => CPL_ROUTE_ALTV.put (CPL_ROUTE_ALT.put w q) 1
    | [] => w

theorem discover_entry (hm : s.flag (routeOf d) CPL_ROUTE_MAN = false) (hs : d ≠ s.seat) :
    (discover d s).rd (routeOf d) = entryOf (s.offersOf d) := by
  unfold discover
  rw [hm, if_neg (by decide), if_neg hs]
  refine (rd_wr_self ..).trans ?_
  rcases s.offersOf d with _ | ⟨⟨h, p⟩, _ | ⟨⟨n, q⟩, l⟩⟩ <;> rfl

theorem mem_offersOf {e : Nat × Nat} : e ∈ s.offersOf d ↔ e.2 ∈ s.upPorts ∧ e.1 = told s d e.2 ∧ e.1 < 31 := by
  unfold State.offersOf
  simp only [List.mem_flatMap, List.mem_range, List.mem_filter, List.mem_map, decide_eq_true_eq]
  constructor
  · rintro ⟨h, hlt, ⟨⟨p, hp, rfl⟩, h31⟩, rfl⟩
    exact ⟨hp, rfl, h31⟩
  · rintro ⟨hp, he, h31⟩
    exact ⟨e.1, h31, ⟨⟨e.2, hp, Prod.ext he.symm rfl⟩, h31⟩, rfl⟩

/-- Nearest first, ties to the lower number. -/
def Nearer (e f : Nat × Nat) : Prop := e.1 < f.1 ∨ (e.1 = f.1 ∧ e.2 < f.2)

theorem upPorts_sorted (s : State) : s.upPorts.Pairwise (· < ·) := (List.pairwise_lt_range (n := 4)).filter _

theorem offersOf_sorted (s : State) (d : Nat) : (s.offersOf d).Pairwise Nearer := by
  have hall : (s.upPorts.map (fun p => (told s d p, p))).Pairwise (fun e f => e.2 < f.2) :=
    List.pairwise_map.mpr (upPorts_sorted s)
  unfold State.offersOf
  dsimp only
  rw [List.pairwise_flatMap]
  refine ⟨fun h _ => ?_, (List.pairwise_lt_range (n := 31)).imp fun hab x hx y hy => ?_⟩
  · refine List.Pairwise.imp_of_mem (fun hx hy hlt => .inr ⟨?_, hlt⟩) ((hall.filter _).filter _)
    have h1 := of_decide_eq_true (List.mem_filter.mp hx).2
    have h2 := of_decide_eq_true (List.mem_filter.mp hy).2
    rw [h1, h2]
  · have h1 := of_decide_eq_true (List.mem_filter.mp hx).2
    have h2 := of_decide_eq_true (List.mem_filter.mp hy).2
    exact .inl (by rw [h1, h2]; exact hab)

/-- The fewest hops that a port advertises. -/
def fewest (s : State) (d : Nat) : Nat := (s.upPorts.map (told s d)).foldl min 31

/-- The fields of an entry: the alternative is apart from the first choice. -/
theorem entryOf_cons {h p : Nat} {rest : List (Nat × Nat)} (hp : p < 4) :
    CPL_ROUTE_VALID.bit (entryOf ((h, p) :: rest)) = decide (h + 1 < 31) ∧
    CPL_ROUTE_HOPS.get (entryOf ((h, p) :: rest)) = min (h + 1) 15 ∧ CPL_ROUTE_PRI.get (entryOf ((h, p) :: rest)) = p := by
  have hfirst : ∀ b : Nat, b = b2n (decide (h + 1 < 31)) →
      let w := CPL_ROUTE_VALID.put (CPL_ROUTE_PRI.put (CPL_ROUTE_HOPS.put 0 (min (h + 1) 15)) p) b
      CPL_ROUTE_VALID.bit w = decide (h + 1 < 31) ∧ CPL_ROUTE_HOPS.get w = min (h + 1) 15 ∧ CPL_ROUTE_PRI.get w = p := by
    intro b hb w
    refine ⟨?_, ?_, ?_⟩
    · rw [bit_put_self _ _ _ (by decide) (by decide), hb]
      cases decide (h + 1 < 31) <;> rfl
    · rw [get_put_apart _ _ _ _ (.inr (by decide)), get_put_apart _ _ _ _ (.inr (by decide)), get_put_self _ _ _ (by decide)]
      exact Nat.mod_eq_of_lt (by simp only [CPL_ROUTE_HOPS]; omega)
    · rw [get_put_apart _ _ _ _ (.inr (by decide)), get_put_self _ _ _ (by decide)]
      exact Nat.mod_eq_of_lt hp
  obtain ⟨h1, h2, h3⟩ := hfirst _ rfl
  cases rest with
  | nil => exact ⟨h1, h2, h3⟩
  | cons e rest =>
    refine ⟨?_, ?_, ?_⟩
    · exact (bit_put_apart (by decide) _ _).trans ((bit_put_apart (by decide) _ _).trans h1)
    · exact (get_put_apart _ _ _ _ (.inr (by decide))).trans ((get_put_apart _ _ _ _ (.inr (by decide))).trans h2)
    · exact (get_put_apart _ _ _ _ (.inl (by decide))).trans ((get_put_apart _ _ _ _ (.inl (by decide))).trans h3)

/-- The entry that discovery makes: the nearest port, the lowest of those equally near. -/
theorem entryOf_leaves (s : State) (d : Nat) : CPL_ROUTE_VALID.bit (entryOf (s.offersOf d)) = decide (fewest s d + 1 < 31) ∧
    (fewest s d + 1 < 31 → CPL_ROUTE_HOPS.get (entryOf (s.offersOf d)) = min (fewest s d + 1) 15 ∧
      s.portUp (CPL_ROUTE_PRI.get (entryOf (s.offersOf d))) = true ∧
      told s d (CPL_ROUTE_PRI.get (entryOf (s.offersOf d))) = fewest s d ∧
      ∀ r, r < CPL_ROUTE_PRI.get (entryOf (s.offersOf d)) → s.portUp r = true → fewest s d < told s d r) := by
  have hmem := fun e => mem_offersOf (s := s) (d := d) (e := e)
  have hsorted := offersOf_sorted s d
  cases hl : s.offersOf d with
  | nil =>
    have hbest : fewest s d = 31 := foldl_min_base fun x hx => by
      obtain ⟨p, hp, rfl⟩ := List.mem_map.mp hx
      by_contra hlt
      have := (hmem (told s d p, p)).mpr ⟨hp, rfl, by omega⟩
      rw [hl] at this
      cases this
    rw [hbest]
    exact ⟨BitVec.getLsbD_zero .., fun h => by omega⟩
  | cons e rest =>
    obtain ⟨h, p⟩ := e
    obtain ⟨hp, hh, h31⟩ := (hmem (h, p)).mp (by rw [hl]; exact List.mem_cons_self)
    rw [hl, List.pairwise_cons] at hsorted
    have hnear : ∀ r ∈ s.upPorts, told s d r < 31 → r = p ∨ Nearer (h, p) (told s d r, r) := fun r hr hlt => by
      have := (hmem (told s d r, r)).mpr ⟨hr, rfl, hlt⟩
      rw [hl] at this
      obtain he | he := List.mem_cons.mp this
      · exact .inl (congrArg Prod.snd he)
      · exact .inr (hsorted.1 _ he)
    have hbest : fewest s d = h := by
      refine foldl_min_eq (List.mem_map.mpr ⟨p, hp, hh.symm⟩) (by omega) fun x hx => ?_
      obtain ⟨r, hr, rfl⟩ := List.mem_map.mp hx
      by_cases hlt : told s d r < 31
      · obtain rfl | hn := hnear r hr hlt
        · exact le_of_eq hh
        · unfold Nearer at hn
          omega
      · omega
    have hpup : s.portUp p = true := (List.mem_filter.mp hp).2
    have hp4 : p < 4 := List.mem_range.mp (List.mem_filter.mp hp).1
    obtain ⟨hv, hhops, hpri⟩ := entryOf_cons (h := h) (rest := rest) hp4
    rw [hv, hhops, hpri, hbest]
    refine ⟨rfl, fun _ => ⟨rfl, hpup, hh.symm, fun r hr hup => ?_⟩⟩
    by_cases hlt : told s d r < 31
    · obtain rfl | hn := hnear r (List.mem_filter.mpr ⟨List.mem_range.mpr (by omega), hup⟩) hlt
      · omega
      · unfold Nearer at hn
        omega
    · omega

end

/-! ### Links and their adverts (R296, R302, R303) -/

section
variable {s : State} {p : Nat} {d : Nat}

theorem linkRegister_route {k : Nat} (h : k < 32) : linkRegister (CPL_ROUTE k) = false := by
  revert k
  decide +kernel

theorem linkRegister_routeOf (h1 : 1 ≤ d) (h2 : d ≤ 32) : linkRegister (routeOf d) = false := linkRegister_route (by omega)

theorem routeOf_inj {e : Nat} (h1 : 1 ≤ d) (h2 : 1 ≤ e) (h : routeOf d = routeOf e) : d = e := by
  simp only [routeOf, CPL_ROUTE] at h
  omega

theorem sendAdvert_eq (p : Nat) (s : State) : sendAdvert p s = s.updCpl (fun c => { c with ownQ := c.ownQ ++
    [{ cls := 3, kind := 0x13, payload := s.advertBytes, port := some p }] }) := sendLink_eq ..

/-- A port that comes up, before what the device sends on it. -/
def linkUp (p : Nat) (s : State) : State := cplLink ((s.setFlag (CPL_PORT p) CPL_PORT_UP true).sq CPL_STAT CPL_STAT_LINKCHG)

theorem linkUp_leaves (hp : p < 4) (ha : s.awake = true) : (linkUp p s).portUp p = true ∧
    (linkUp p s).flag CPL_STAT CPL_STAT_LINKCHG = true ∧ (linkUp p s).evPending (evCom 10) = true ∧
    (linkUp p s).hitched = s.hitched ∧ (linkUp p s).flag CPL_CFG CPL_CFG_HEN = s.flag CPL_CFG CPL_CFG_HEN ∧
    (linkUp p s).cpl.challenge = s.cpl.challenge ∧ (linkUp p s).cpl.ownQ = s.cpl.ownQ := by
  obtain ⟨hadr, hstat, hev⟩ := cplPort_apart hp
  have hr := raise_reports ((s.setFlag (CPL_PORT p) CPL_PORT_UP true).sq CPL_STAT CPL_STAT_LINKCHG) (evCom 10)
  obtain ⟨h1, h2⟩ := sq_raise_noted (s := s.setFlag (CPL_PORT p) CPL_PORT_UP true) (src := evCom 10) (o := CPL_STAT) (f := CPL_STAT_LINKCHG)
    (by decide) ha (by decide) (by decide) (by decide)
  have hrd : ∀ o, o ≠ CPL_STAT → o ≠ CPL_PORT p → eventRegister o = false → (linkUp p s).rd o = s.rd o := fun o h3 h4 h5 =>
    (hr.rd o h5).trans ((rd_wr_of_ne _ _ h3).trans (rd_wr_of_ne _ _ h4))
  refine ⟨?_, h1, h2, congrArg CPL_ADDR_HITCHED.bit (hrd _ (by decide) (Ne.symm hadr) (by decide)),
    congrArg CPL_CFG_HEN.bit (hrd _ (by decide) (by simp only [CPL_CFG, CPL_PORT]; omega) (by decide)), ?_, ?_⟩
  · refine (congrArg CPL_PORT_UP.bit ((hr.rd _ hev).trans (rd_wr_of_ne _ _ hstat))).trans ?_
    exact flag_setFlag_self s _ _ true (by decide) (by decide)
  · rw [linkUp, cplLink, hr.fwd]
    rfl
  · rw [linkUp, cplLink, hr.fwd]
    rfl

/-- A hitched device with HEN offers on a port that came up. -/
def offerUp (p : Nat) (s : State) : State :=
  if s.hitched && s.flag CPL_CFG CPL_CFG_HEN then sendLink p 0x10 (leBytes 16 s.cpl.challenge.toNat) s else s

theorem offerUp_leaves (p : Nat) (s : State) : (offerUp p s).regs = s.regs ∧ (s.hitched = true → (offerUp p s).cpl.ownQ = s.cpl.ownQ ++
    (if s.flag CPL_CFG CPL_CFG_HEN then [{ cls := 3, kind := 0x10, payload := leBytes 16 s.cpl.challenge.toNat, port := some p }] else [])) := by
  unfold offerUp
  rw [sendLink_eq]
  by_cases hhen : s.flag CPL_CFG CPL_CFG_HEN = true
  · rw [if_pos hhen, hhen, Bool.and_true]
    split
    · exact ⟨rfl, fun _ => rfl⟩
    · next hn => exact ⟨rfl, fun h => absurd h hn⟩
  · rw [if_neg hhen, Bool.eq_false_iff.mpr hhen, Bool.and_false, if_neg Bool.false_ne_true, List.append_nil]
    exact ⟨rfl, fun _ => rfl⟩

/-- An enabled port comes up. -/
theorem portUp_leaves (p : Fin 4) (ha : s.awake = true) (hup : s.portUp p = false) (hen : s.flag (CPL_PORT p) CPL_PORT_EN = true)
    (hl : s.flag SYS_CLK SYS_CLK_SLOCK = true) : ∃ t, exec (.portUp p) s = .next t ∧ t.portUp p = true ∧
      t.flag CPL_STAT CPL_STAT_LINKCHG = true ∧ t.evPending (evCom 10) = true ∧
      (s.hitched = true → ∃ f, f.cls = 3 ∧ f.kind = 0x13 ∧ f.port = some p.val ∧ t.cpl.ownQ = s.cpl.ownQ ++
        (if s.flag CPL_CFG CPL_CFG_HEN then
          [{ cls := 3, kind := 0x10, payload := leBytes 16 s.cpl.challenge.toNat, port := some p.val }] else []) ++ [f]) := by
  obtain ⟨h1, h2, h3, h4, h5, h6, h7⟩ := linkUp_leaves p.isLt ha
  have hexec : exec (.portUp p) s = .next (if (offerUp p (linkUp p s)).hitched then sendAdvert p (offerUp p (linkUp p s))
      else offerUp p (linkUp p s)) := by
    change execPortUp p s = _
    rw [execPortUp, ha, hen, hl, hup, if_pos (by decide)]
    rfl
  generalize linkUp p s = u at *
  obtain ⟨hregs, hown⟩ := offerUp_leaves p u
  rw [h4, h5, h6, h7] at hown
  have hrd : ∀ o, (offerUp p u).rd o = u.rd o := fun o => congrArg (fun r => mget regDefault r o) hregs
  have hh : (offerUp p u).hitched = s.hitched := (congrArg CPL_ADDR_HITCHED.bit (hrd _)).trans h4
  have hpu : (offerUp p u).portUp p = true := (congrArg CPL_PORT_UP.bit (hrd _)).trans h1
  have hst : (offerUp p u).flag CPL_STAT CPL_STAT_LINKCHG = true := (congrArg CPL_STAT_LINKCHG.bit (hrd _)).trans h2
  have hev : (offerUp p u).evPending (evCom 10) = true := (congrArg (fun w : Word => w.getLsbD (evCom 10 % 24)) (hrd _)).trans h3
  generalize offerUp p u = w at *
  by_cases hit : s.hitched = true
  · rw [if_pos (hh.trans hit), sendAdvert_eq] at hexec
    exact ⟨_, hexec, hpu, hst, hev, fun _ => ⟨_, rfl, rfl, rfl, congrArg (· ++ _) (hown hit)⟩⟩
  · rw [if_neg (by rw [hh]; exact hit)] at hexec
    exact ⟨_, hexec, hpu, hst, hev, fun h => absurd h hit⟩

/-- The entry of a seat whose first choice has failed. -/
def failedEntry (p : Nat) (w : Word) : Word :=
  if CPL_ROUTE_ALTV.bit w = true ∧ CPL_ROUTE_ALT.get w ≠ p then CPL_ROUTE_ACTALT.put w 1 else CPL_ROUTE_VALID.put w 0

theorem failover_entry {w : Word} (hw : s.rd (routeOf d) = w) (hv : CPL_ROUTE_VALID.bit w = true) (hact : CPL_ROUTE_ACTALT.bit w = false)
    (hp : CPL_ROUTE_PRI.get w = p) : (failover p d s).rd (routeOf d) = failedEntry p w := by
  have hport : s.routePort d = p := by
    rw [← hw] at hact hp
    exact (if_neg (Bool.eq_false_iff.mp hact)).trans hp
  unfold failover failedEntry
  dsimp only
  rw [hw, hv, if_neg (by decide)]
  by_cases h : CPL_ROUTE_ALTV.bit w = true ∧ CPL_ROUTE_ALT.get w ≠ p
  · rw [if_pos h, if_pos ⟨hp, h.1, hact, h.2⟩]
    refine (rd_wr_self ..).trans ?_
    rw [hw]
    rfl
  · rw [if_neg h, if_neg fun hc => h ⟨hc.2.1, hc.2.2.2⟩, if_pos hport]
    refine (rd_wr_self ..).trans ?_
    rw [hw]
    rfl

/-- The entry of a seat after its port failed. -/
theorem portFailed_entry (h1 : 1 ≤ d) (h2 : d ≤ 32) (hp4 : p < 4) (hr : s.routed d = true) (hact : s.flag (routeOf d) CPL_ROUTE_ACTALT = false)
    (hp : s.fld (routeOf d) CPL_ROUTE_PRI = p) : (portFailed p s).rd (routeOf d) = failedEntry p (s.rd (routeOf d)) := by
  have hv : CPL_ROUTE_VALID.bit (s.rd (routeOf d)) = true := by
    unfold State.routed at hr
    simp only [Bool.and_eq_true] at hr
    exact hr.2
  have hnodup : ((List.range 32).map (· + 1)).Nodup := List.nodup_range.map (fun a b h => by simpa using h)
  have hmem : d ∈ (List.range 32).map (· + 1) := List.mem_map.mpr ⟨d - 1, List.mem_range.mpr (by omega), by omega⟩
  have hne : ∀ e ∈ (List.range 32).map (· + 1), e ≠ d → routeOf d ≠ routeOf e := fun e he hed h => by
    obtain ⟨k, -, rfl⟩ := List.mem_map.mp he
    exact hed (routeOf_inj h1 (by omega) h).symm
  refine each_at (P := fun t => t.rd (routeOf d) = s.rd (routeOf d)) (Q := fun t => t.rd (routeOf d) = failedEntry p (s.rd (routeOf d)))
    (f := failover p) hnodup hmem
    (fun e he hed u hu => (failover_rd (hne e he hed)).trans hu) (fun u hu => failover_entry hu hv hact hp)
    (fun e he hed u hu => (failover_rd (hne e he hed)).trans hu) ?_
  exact rd_wr_of_ne _ _ (Ne.symm (notRoute_port hp4 d h1 h2))

/-- What the entry says once the first choice has failed. -/
theorem failedEntry_leaves {t : State} (h1 : 1 ≤ d) (h2 : d ≤ 32) (hr : s.routed d = true)
    (ht : t.rd (routeOf d) = failedEntry p (s.rd (routeOf d))) :
    if s.flag (routeOf d) CPL_ROUTE_ALTV = true ∧ s.fld (routeOf d) CPL_ROUTE_ALT ≠ p then
      t.routed d = true ∧ t.routePort d = s.fld (routeOf d) CPL_ROUTE_ALT
    else t.routed d = false := by
  have hv : CPL_ROUTE_VALID.bit (s.rd (routeOf d)) = true := by
    unfold State.routed at hr
    simp only [Bool.and_eq_true] at hr
    exact hr.2
  have hrouted : t.routed d = CPL_ROUTE_VALID.bit (failedEntry p (s.rd (routeOf d))) := by
    rw [State.routed, State.flag, ht, decide_eq_true h1, decide_eq_true h2]
    rfl
  rw [hrouted]
  split
  · next h =>
    have he : failedEntry p (s.rd (routeOf d)) = CPL_ROUTE_ACTALT.put (s.rd (routeOf d)) 1 := if_pos h
    rw [he]
    refine ⟨(bit_put_apart (by decide) _ _).trans hv, ?_⟩
    have hact : t.flag (routeOf d) CPL_ROUTE_ACTALT = true := by
      rw [State.flag, ht, he]
      exact bit_put_self _ _ _ (by decide) (by decide)
    rw [State.routePort, if_pos hact, State.fld, ht, he]
    exact get_put_apart _ _ _ _ (.inl (by decide))
  · next h =>
    have he : failedEntry p (s.rd (routeOf d)) = CPL_ROUTE_VALID.put (s.rd (routeOf d)) 0 := if_neg h
    rw [he]
    exact bit_put_self _ _ _ (by decide) (by decide)

/-- A port that is lost. -/
theorem portDown_leaves (p : Fin 4) (ha : s.awake = true) (hup : s.portUp p = true) :
    ∃ t, exec (.portDown p) s = .next t ∧ t.portUp p = false ∧ t.flag (CPL_PORT p) CPL_PORT_EN = false ∧
      t.flag CPL_STAT CPL_STAT_LINKCHG = true ∧ t.evPending (evCom 10) = true ∧
      ∀ d, 1 ≤ d → d ≤ 32 → s.routed d = true → s.flag (routeOf d) CPL_ROUTE_ACTALT = false →
        s.fld (routeOf d) CPL_ROUTE_PRI = p →
        if s.flag (routeOf d) CPL_ROUTE_ALTV = true ∧ s.fld (routeOf d) CPL_ROUTE_ALT ≠ p then
          t.routed d = true ∧ t.routePort d = s.fld (routeOf d) CPL_ROUTE_ALT
        else t.routed d = false := by
  have hexec : exec (.portDown p) s = .next (portLost p s) := by
    change execPortDown p s = _
    rw [execPortDown, ha, hup, if_pos (by decide)]
  obtain ⟨h1, h2⟩ := portLost_shows (p := p) ha
  refine ⟨_, hexec, ?_, ?_, h1, h2, fun d hd1 hd2 hr hact hp => ?_⟩
  · rw [portLost_portUp p.isLt, if_pos rfl]
  · rw [portLost_step.flagPort p.isLt (.inl (by decide)) (by decide), State.flag, portFailed_rd (notRoute_port p.isLt), if_pos rfl]
    exact BitVec.getLsbD_zero ..
  · refine failedEntry_leaves hd1 hd2 hr ?_
    rw [portLost_step.rd _ (linkRegister_routeOf hd1 hd2), portFailed_entry hd1 hd2 p.isLt hr hact hp]

theorem offersOf_congr {t : State} (hc : t.cpl = s.cpl) (hr : ∀ p < 4, t.rd (CPL_PORT p) = s.rd (CPL_PORT p)) (d : Nat) :
    t.offersOf d = s.offersOf d := by
  have hup : t.upPorts = s.upPorts := List.filter_congr fun p hp => congrArg CPL_PORT_UP.bit (hr p (List.mem_range.mp hp))
  have hpt : ∀ p, t.pt p = s.pt p := fun p => by rw [State.pt, State.pt, hc]
  rw [State.offersOf, State.offersOf, hup, funext hpt]

/-- Discovery's entry of a seat that no write has set. -/
theorem discovered_entry (h1 : 1 ≤ d) (h2 : d ≤ 32) (hs : d ≠ s.seat) (hm : s.flag (routeOf d) CPL_ROUTE_MAN = false) :
    (discovered s).rd (routeOf d) = entryOf (s.offersOf d) := by
  have hnodup : ((List.range 32).map (· + 1)).Nodup := List.nodup_range.map (fun a b h => by simpa using h)
  have hmem : d ∈ (List.range 32).map (· + 1) := List.mem_map.mpr ⟨d - 1, List.mem_range.mpr (by omega), by omega⟩
  have hne : ∀ e ∈ (List.range 32).map (· + 1), e ≠ d → routeOf d ≠ routeOf e := fun e he hed h => by
    obtain ⟨k, -, rfl⟩ := List.mem_map.mp he
    exact hed (routeOf_inj h1 (by omega) h).symm
  have hkeep : ∀ (u : State) (e : Nat), e ∈ (List.range 32).map (· + 1) → (discover e u).cpl = u.cpl ∧ ∀ o, (∀ k < 32, o ≠ CPL_ROUTE k) →
      (discover e u).rd o = u.rd o := fun u e he => by
    obtain ⟨k, hk, rfl⟩ := List.mem_map.mp he
    obtain ⟨_, hd⟩ := discover_only (k + 1) u
    exact ⟨by rw [hd], fun o ho => discover_rd (ho k (List.mem_range.mp hk))⟩
  refine each_at (P := fun t => (t.cpl = s.cpl ∧ ∀ o, (∀ k < 32, o ≠ CPL_ROUTE k) → t.rd o = s.rd o) ∧ t.rd (routeOf d) = s.rd (routeOf d))
    (Q := fun t => t.rd (routeOf d) = entryOf (s.offersOf d)) (f := discover) hnodup hmem (fun e he hed u ⟨⟨hc, hr⟩, hu⟩ => ?_)
    (fun u ⟨⟨hc, hr⟩, hu⟩ => ?_) (fun e he hed u hu => (discover_rd (hne e he hed)).trans hu) ⟨⟨rfl, fun _ _ => rfl⟩, rfl⟩
  · obtain ⟨hc', hr'⟩ := hkeep u e he
    exact ⟨⟨hc'.trans hc, fun o ho => (hr' o ho).trans (hr o ho)⟩, (discover_rd (hne e he hed)).trans hu⟩
  · have hseat : u.seat = s.seat := congrArg CPL_ADDR_SEAT.get (hr _ fun k _ => by simp only [CPL_ADDR, CPL_ROUTE]; omega)
    rw [discover_entry ((congrArg CPL_ROUTE_MAN.bit hu).trans hm) (by rw [hseat]; exact hs),
      offersOf_congr hc fun p hp => hr _ fun k _ => by simp only [CPL_PORT, CPL_ROUTE]; omega]

/-- What discovery leaves of the routes that no write has set. -/
theorem discoverAll_entry (s : State) (h1 : 1 ≤ d) (h2 : d ≤ 32) (hs : d ≠ s.seat) (hm : s.flag (routeOf d) CPL_ROUTE_MAN = false) :
    (discoverAll s).routed d = decide (fewest s d + 1 < 31) ∧
    (fewest s d + 1 < 31 → (discoverAll s).fld (routeOf d) CPL_ROUTE_HOPS = min (fewest s d + 1) 15 ∧
      s.portUp ((discoverAll s).fld (routeOf d) CPL_ROUTE_PRI) = true ∧
      told s d ((discoverAll s).fld (routeOf d) CPL_ROUTE_PRI) = fewest s d ∧
      ∀ r, r < (discoverAll s).fld (routeOf d) CPL_ROUTE_PRI → s.portUp r = true → fewest s d < told s d r) := by
  have he : (discoverAll s).rd (routeOf d) = entryOf (s.offersOf d) :=
    ((discoverAll_step s).rd _ (linkRegister_routeOf h1 h2)).trans (discovered_entry h1 h2 hs hm)
  obtain ⟨hv, hrest⟩ := entryOf_leaves s d
  rw [State.routed, State.flag, State.fld, State.fld, he, decide_eq_true h1, decide_eq_true h2, hv]
  exact ⟨rfl, hrest⟩

/-- The state in which a received ADVERT starts discovery. -/
def toldBy (p : Nat) (counts : List Nat) (s : State) : State := s.updPt p (fun x => { x with adv := (counts.take 32).map (fun n => min n 31) })

theorem discoverAll_pt (s : State) (p : Nat) : (discoverAll s).pt p = s.pt p := by
  rw [State.pt, discoverAll_cpl]
  rfl

/-- A received ADVERT. -/
theorem advert_leaves (p : Fin 4) (ha : s.awake = true) (hup : s.portUp p = true) {counts : List Nat} (hlen : counts.length = 32) :
    ∃ t, exec (.advert p counts) s = .next t ∧ (t.pt p).adv = counts.map (fun n => min n 31) ∧
      ∀ d, 1 ≤ d → d ≤ 32 → d ≠ s.seat → s.flag (routeOf d) CPL_ROUTE_MAN = false →
        let best := (s.upPorts.map (fun q => (t.pt q).adv.getD (d - 1) 31)).foldl min 31
        let q := t.fld (routeOf d) CPL_ROUTE_PRI
        t.routed d = decide (best + 1 < 31) ∧
        (best + 1 < 31 → t.fld (routeOf d) CPL_ROUTE_HOPS = min (best + 1) 15 ∧ s.portUp q = true ∧
          (t.pt q).adv.getD (d - 1) 31 = best ∧
          ∀ r, r < q → s.portUp r = true → best < (t.pt r).adv.getD (d - 1) 31) := by
  have hexec : exec (.advert p counts) s = .next (discoverAll (toldBy p counts s)) := by
    change execAdvert p counts s = _
    rw [execAdvert, ha, hup, if_pos (by decide)]
    rfl
  refine ⟨_, hexec, ?_, fun d h1 h2 hs hm => ?_⟩
  · rw [discoverAll_pt, toldBy, pt_updPt, List.take_of_length_le (by omega)]
  · simp only [discoverAll_pt]
    exact discoverAll_entry (toldBy p counts s) h1 h2 hs hm

theorem linksAndRoutes : Rules.LinksAndRoutes := by
  intro s p ha
  refine ⟨fun hup hen hl => portUp_leaves p ha hup hen hl, fun hup => ⟨portDown_leaves p ha hup, ?_,
    fun counts hlen => advert_leaves p ha hup hlen⟩⟩
  have hexec : exec (.advertSend p) s = .next (sendAdvert p s) := by
    change execAdvertSend p s = _
    rw [execAdvertSend, ha, hup, if_pos (by decide)]
  rw [sendAdvert_eq] at hexec
  exact ⟨_, hexec, rfl, _, rfl, rfl, rfl, rfl, rfl⟩

end

/-! ### Seats (R299 to R301, R312, R320) -/

section
variable {s : State}

/-- The OFFER on a port (R299). -/
def offerFrame (ch : BitVec 128) (p : Nat) : TxFrame := { cls := 3, kind := 0x10, payload := leBytes 16 ch.toNat, port := some p }

/-- Frames that join the device's own. -/
def queued (fs : List TxFrame) (s : State) : State := { s with cpl := { s.cpl with ownQ := s.cpl.ownQ ++ fs } }

theorem queued_nil : queued [] s = s := by
  unfold queued
  rw [List.append_nil]

theorem queued_queued (es fs : List TxFrame) : queued fs (queued es s) = queued (es ++ fs) s := by
  unfold queued
  rw [List.append_assoc]

theorem offerOn_eq (ps : List Nat) (s : State) : offerOn ps s = queued (ps.map (offerFrame s.cpl.challenge)) s := by
  induction ps generalizing s with
  | nil => exact queued_nil.symm
  | cons p ps ih =>
    have hstep : offerOn (p :: ps) s = offerOn ps (sendLink p 0x10 (leBytes 16 s.cpl.challenge.toNat) s) := rfl
    have hsend : sendLink p 0x10 (leBytes 16 s.cpl.challenge.toNat) s = queued [offerFrame s.cpl.challenge p] s := sendLink_eq ..
    rw [hstep, hsend, ih, queued_queued]
    rfl

/-- An offer on each of the ports. -/
theorem offerOn_mem {ps : List Nat} {q : Nat} (hq : q ∈ ps) : ∃ f ∈ (offerOn ps s).cpl.ownQ, f.kind = 0x10 ∧ f.port = some q ∧
    f.payload = leBytes 16 s.cpl.challenge.toNat := by
  rw [offerOn_eq]
  exact ⟨_, List.mem_append_right _ (List.mem_map.mpr ⟨q, hq, rfl⟩), rfl, rfl, rfl⟩

theorem offerOn_regs (ps : List Nat) (s : State) : (offerOn ps s).regs = s.regs := by rw [offerOn_eq]; rfl

/-! ### A head that takes seat 1, and a device that is granted one (R299, R300) -/

theorem takeSeat_portUp {n p : Nat} (hp : p < 4) : (takeSeat n s).portUp p = s.portUp p := by
  rw [takeSeat_eq, (discoverAll_step (seated n s)).portUp hp, State.portUp, State.flag, discovered_rd fun k _ => by simp only [CPL_PORT, CPL_ROUTE]; omega]
  have hne := (cplPort_apart hp).1
  exact congrArg CPL_PORT_UP.bit ((rd_wr_of_ne _ _ hne).trans (rd_wr_of_ne _ _ hne))

theorem takeSeat_challenge {n : Nat} : (takeSeat n s).cpl.challenge = s.cpl.challenge := by
  rw [takeSeat_eq, discoverAll_cpl]
  rfl

theorem same_lan_discoverAll (s : State) : (discoverAll s).lan = s.lan := by
  have hsend : ∀ p (u : State), (sendAdvert p u).lan = u.lan := fun p u => by rw [sendAdvert_eq]; rfl
  have hprune : ∀ u : State, (pruneQueues u).lan = u.lan := fun u => by
    unfold pruneQueues pruneForwards
    extract_lets keep gone
    split
    · rfl
    · split <;> rfl
  have htree : ∀ u : State, (settleTree u).lan = u.lan := fun u => by
    unfold settleTree
    extract_lets s1 s2 m
    have h2 : s2.lan = s1.lan := Same.each (f := State.lan) rfl fun _ _ _ => rfl
    refine (hprune _).trans (Eq.trans ?_ h2)
    exact Same.each (f := State.lan) rfl fun g _ t => Same.ite (f := State.lan) rfl rfl
  have hadv : ∀ was (u : State), (advertIfChanged was u).lan = u.lan := fun was u => by
    unfold advertIfChanged
    split
    · rfl
    · exact Same.each (f := State.lan) rfl fun p _ t => hsend p t
  obtain ⟨_, hd⟩ := discovered_only s
  exact (hadv _ _).trans ((htree _).trans (by change (discovered s).lan = s.lan; rw [hd]))

theorem takeSeat_seatWord {n : Nat} : (takeSeat n s).seatWord = s.seatWord := by
  have hlan : (takeSeat n s).lan = s.lan := same_lan_discoverAll (seated n s)
  have hcfg : (takeSeat n s).rd CPL_CFG = s.rd CPL_CFG := takeSeat_rd (by decide) fun k _ => by simp only [CPL_CFG, CPL_ROUTE]; omega
  rw [State.seatWord, State.wb, State.lanW, hlan, State.fld, hcfg]
  rfl

/-- The card of CPL_CFG. -/
def cardCplCfg : Card := ⟨0x1C0000, [], true, 0x0000A000#32, [
    ⟨⟨31, 1⟩, .rw, false, false, .bit 11⟩, ⟨⟨30, 1⟩, .rw, false, false, .bit 11⟩,
    ⟨⟨12, 8⟩, .rw, false, false, .bit 11⟩, ⟨⟨0, 9⟩, .rw, false, false, .bit 11⟩]⟩

theorem register_cplCfg : plainRegister CPL_CFG cardCplCfg [] = true := by decide +kernel

theorem wrote_cplCfg (old w : Word) (k : Nat) (co : CoUpdate) (before u : State) :
    wrote CPL_CFG old w k co before u = if rose CPL_CFG_HEN old w then henWritten u else u := rfl

/-- The challenge that a head draws. -/
def drawnChallenge (s : State) : BitVec 128 :=
  BitVec.ofNat 128 ((List.range 4).foldl (fun n k => n + (Config.freeWord (s.draws + k)).toNat * 2 ^ (32 * k)) 0)

/-- The head with a challenge. -/
def withChallenge (ch : BitVec 128) (s : State) : State := (s.updCpl (fun c => { c with challenge := ch })).drew 4

theorem withChallenge_regs (ch : BitVec 128) (s : State) : (withChallenge ch s).regs = s.regs := rfl

/-- The head with the challenge that it draws. -/
def challenged (s : State) : State := withChallenge (drawnChallenge s) s

theorem challenged_regs (s : State) : (challenged s).regs = s.regs := withChallenge_regs _ s

theorem challenged_rd (o : Nat) : (challenged s).rd o = s.rd o := by rw [State.rd, challenged_regs, State.rd]

theorem henWritten_eq (s : State) : henWritten s = if (s.isHead && !s.hitched && !s.cpl.uncoupled) = true then
    offerOn (takeSeat 1 (challenged s)).upPorts (takeSeat 1 (challenged s)) else s := by
  unfold henWritten
  extract_lets ch s1 s2
  have hch : BitVec.ofNat 128 ch = drawnChallenge s := by simp only [drawnChallenge, ch]
  have h1 : s1 = challenged s := by simp only [s1, hch, challenged, withChallenge]
  have h2 : s2 = takeSeat 1 (challenged s) := by simp only [s2, h1]
  rw [h2]

theorem henWritten_hen (s : State) : (henWritten s).rd CPL_CFG = s.rd CPL_CFG := by
  rw [henWritten_eq]
  split
  · have hrd : (takeSeat 1 (challenged s)).rd CPL_CFG = (challenged s).rd CPL_CFG :=
      takeSeat_rd (by decide) fun k _ => by simp only [CPL_CFG, CPL_ROUTE]; omega
    rw [challenged_rd] at hrd
    generalize takeSeat 1 (challenged s) = u at hrd
    refine Eq.trans ?_ hrd
    exact congrArg (fun r => mget regDefault r CPL_CFG) (offerOn_regs ..)
  · rfl

/-- HEN written to 1. -/
theorem hen_leaves {v : View} (ha : accepted v CPL_CFG (withField s CPL_CFG CPL_CFG_HEN 1) s = true) :
    ∃ t, exec (.hen v) s = .next t ∧ t.flag CPL_CFG CPL_CFG_HEN = true ∧
      (s.flag CPL_CFG CPL_CFG_HEN = false → s.isHead = true → s.hitched = false → s.cpl.uncoupled = false →
        t.seat = 1 ∧ t.hitched = true ∧ ∀ q, s.portUp q = true → q < 4 → ∃ f ∈ t.cpl.ownQ, f.kind = 0x10 ∧ f.port = some q ∧
          f.payload = leBytes 16 t.cpl.challenge.toNat) := by
  have hreg := plainRegister_register register_cplCfg
  have hexec : exec (.hen v) s = .next (syncStretches (fieldWritten v CPL_CFG [] CPL_CFG_HEN 1 s)) := fieldCmd_written register_cplCfg ha
  have hset : CPL_CFG_HEN.bit (writtenWord v CPL_CFG (withField s CPL_CFG CPL_CFG_HEN 1) s) = true :=
    written_flag hreg ha (by decide) (by decide)
  have hwritten : fieldWritten v CPL_CFG [] CPL_CFG_HEN 1 s =
      if rose CPL_CFG_HEN (s.rd CPL_CFG) (writtenWord v CPL_CFG (withField s CPL_CFG CPL_CFG_HEN 1) s) then
        henWritten (s.wr CPL_CFG (writtenWord v CPL_CFG (withField s CPL_CFG CPL_CFG_HEN 1) s))
      else s.wr CPL_CFG (writtenWord v CPL_CFG (withField s CPL_CFG CPL_CFG_HEN 1) s) := by
    rw [fieldWritten, wrote_cplCfg]
  generalize writtenWord v CPL_CFG (withField s CPL_CFG CPL_CFG_HEN 1) s = w at *
  have hword : (s.wr CPL_CFG w).rd CPL_CFG = w := rd_wr_self ..
  have hrd : ∀ o, o ≠ CPL_CFG → (s.wr CPL_CFG w).rd o = s.rd o := fun o ho => rd_wr_of_ne _ _ ho
  have hcpl : (s.wr CPL_CFG w).cpl = s.cpl := rfl
  generalize s.wr CPL_CFG w = u at *
  refine ⟨_, hexec, ?_, fun hhen hhead hn hu => ?_⟩
  · rw [syncStretches_flag, hwritten]
    split
    · rw [State.flag, henWritten_hen, hword]
      exact hset
    · rw [State.flag, hword]
      exact hset
  · have hrose : rose CPL_CFG_HEN (s.rd CPL_CFG) w = true := by
      have hold : CPL_CFG_HEN.bit (s.rd CPL_CFG) = false := hhen
      rw [rose, hold, hset]
      rfl
    have hseat : ∀ x : State, (syncStretches x).seat = x.seat := fun x => syncStretches_fld ..
    have hhit : ∀ x : State, (syncStretches x).hitched = x.hitched := fun x => syncStretches_flag ..
    have hhead' : u.isHead = true := (congrArg CPL_ADDR_HEAD.bit (hrd _ (by decide))).trans hhead
    have hn' : u.hitched = false := (congrArg CPL_ADDR_HITCHED.bit (hrd _ (by decide))).trans hn
    have hu' : u.cpl.uncoupled = false := by rw [hcpl]; exact hu
    rw [hseat, hhit, syncStretches_cpl, hwritten, if_pos hrose, henWritten_eq, if_pos (by rw [hhead', hn', hu']; rfl)]
    have hportUp : ∀ q < 4, (takeSeat 1 (challenged u)).portUp q = s.portUp q := fun q hq => by
      rw [takeSeat_portUp hq, State.portUp, State.flag, challenged_rd, hrd _ (by simp only [CPL_PORT, CPL_CFG]; omega)]
      rfl
    have h1 : (takeSeat 1 (challenged u)).seat = 1 := takeSeat_seat (by decide)
    have h2 : (takeSeat 1 (challenged u)).hitched = true := takeSeat_hitched
    generalize takeSeat 1 (challenged u) = x at *
    have hregs : ∀ o, (offerOn x.upPorts x).rd o = x.rd o := fun o => congrArg (fun r => mget regDefault r o) (offerOn_regs ..)
    have hch : (offerOn x.upPorts x).cpl.challenge = x.cpl.challenge := by rw [offerOn_eq]; rfl
    refine ⟨(congrArg CPL_ADDR_SEAT.get (hregs _)).trans h1, (congrArg CPL_ADDR_HITCHED.bit (hregs _)).trans h2, fun q hup hq => ?_⟩
    rw [hch]
    exact offerOn_mem (List.mem_filter.mpr ⟨List.mem_range.mpr hq, (hportUp q hq).trans hup⟩)

/-- A head that hears another head's OFFER. -/
theorem offer_head {p : Fin 4} {ch : BitVec 128} {hs : BitVec 64} (ha : s.awake = true) (hup : s.portUp p = true) (hh : s.isHead = true) :
    ∃ t, exec (.offer p true ch hs) s = .next t ∧ t.flag CPL_STAT CPL_STAT_HEADERR = true ∧ t.evPending (evCom 10) = true := by
  have hexec : exec (.offer p true ch hs) s = .next (cplLink (s.sq CPL_STAT CPL_STAT_HEADERR)) := by
    change execOffer p true ch hs s = _
    rw [execOffer, ha, hup, hh, if_neg (by decide), if_pos rfl, if_pos rfl]
  exact ⟨_, hexec, sq_raise_noted s (by decide) ha (by decide) (by decide) (by decide)⟩

/-- A device without a seat answers an OFFER. -/
theorem offer_answered {p : Fin 4} {b : Bool} {ch : BitVec 128} {hs : BitVec 64} (ha : s.awake = true) (hup : s.portUp p = true)
    (hh : s.isHead = false) (h0 : s.seat = 0) (hen : s.flag CPL_CFG CPL_CFG_HEN = true) (hu : s.cpl.uncoupled = false) :
    ∃ t, exec (.offer p b ch hs) s = .next t ∧ t.regs = s.regs ∧ (t.pt p).answered = true ∧
      ∃ f, t.cpl.ownQ = s.cpl.ownQ ++ [f] ∧ f.cls = 3 ∧ f.kind = 0x11 ∧ f.port = some p.val ∧
        f.payload = leBytes 8 s.serial ++
          (hmac ownSecret (leBytes 16 ch.toNat ++ leBytes 8 s.serial ++ leBytes 8 hs.toNat)).take 16 ++
          leBytes 1 s.seatWord.toNat := by
  let u := (s.updCpl (fun c => { c with challenge := ch })).updPt p (fun x => { x with answered := true })
  have hexec : exec (.offer p b ch hs) s = .next (sendLink p 0x11
      (answerBytes u.serial (admissionCode ownSecret ch s.serial hs.toNat) u.seatWord.toNat) u) := by
    change execOffer p b ch hs s = _
    rw [execOffer, ha, hup, hh, if_neg (by decide), if_neg (by decide), if_pos ⟨h0, hen, hu⟩]
  rw [sendLink_eq] at hexec
  exact ⟨_, hexec, rfl, congrArg PortSt.answered (pt_updPt (s.updCpl (fun c => { c with challenge := ch })) p (fun x => { x with answered := true })), _, rfl, rfl, rfl, rfl, rfl⟩

end

/-! ### ANSWERs and GRANTs at the head (R299 to R301) -/

section
variable {s : State} {a : Answer} {rest : List Answer}

theorem mem_insertRising {l : List Nat} {x : Nat} : x ∈ insertRising l x := by
  induction l with
  | nil => exact List.mem_singleton_self x
  | cons y ys ih =>
    unfold insertRising
    split
    · exact List.mem_cons_self
    · split
      · next h => rw [h]; exact List.mem_cons_self
      · exact List.mem_cons_of_mem _ ih

theorem leBytes_one (n : Nat) : leBytes 1 n = [BitVec.ofNat 8 n] := by simp [leBytes]

/-- A seat that is free is granted to the one that asks for it. -/
theorem grantSeat_free (h : s.seatFree a.seat = true) : grantSeat a s =
    queued [{ cls := 3, kind := 0x12, payload := [BitVec.ofNat 8 a.seat], port := some a.port }]
      (s.updCpl (fun c => { c with granted := insertRising c.granted a.seat })) := by
  unfold grantSeat
  rw [if_pos h]
  exact (sendLink_eq ..).trans (by rw [leBytes_one]; rfl)

/-- The ANSWER in front is shown under ADMEN. -/
theorem takeAnswer_shown (h : s.cpl.answers = a :: rest) (hen : s.flag CPL_CFG CPL_CFG_ADMEN = true) : takeAnswer s =
    (((s.wr (CPL_ADMSN 0) (word a.serial.toNat)).wr (CPL_ADMSN 1) (word (a.serial.toNat / 2 ^ 32))).setFlag CPL_STAT CPL_STAT_ADMPEND true) := by
  unfold takeAnswer
  rw [h]
  exact if_pos hen

/-- Without ADMEN the one ANSWER is granted at once. -/
theorem takeAnswer_granted (h : s.cpl.answers = [a]) (hen : s.flag CPL_CFG CPL_CFG_ADMEN = false) : takeAnswer s =
    (grantSeat a (s.updCpl (fun c => { c with answers := [] }))).setFlag CPL_STAT CPL_STAT_ADMPEND false := by
  unfold takeAnswer
  rw [h]
  exact if_neg (by rw [hen]; decide)

/-- Under ADMEN the next ANSWER changes what is shown, and nothing that the last one left. -/
theorem takeAnswer_keeps (hen : s.flag CPL_CFG CPL_CFG_ADMEN = true) : (takeAnswer s).cpl = s.cpl ∧
    (∀ o, o ≠ CPL_ADMSN 0 → o ≠ CPL_ADMSN 1 → o ≠ CPL_STAT → (takeAnswer s).rd o = s.rd o) ∧
    (takeAnswer s).flag CPL_STAT CPL_STAT_ADMFAIL = s.flag CPL_STAT CPL_STAT_ADMFAIL := by
  cases h : s.cpl.answers with
  | nil =>
    have heq : takeAnswer s = s.setFlag CPL_STAT CPL_STAT_ADMPEND false := by
      unfold takeAnswer
      rw [h]
    rw [heq]
    exact ⟨rfl, fun o _ _ h3 => rd_wr_of_ne _ _ h3, flag_setFlag_apart (by decide)⟩
  | cons a rest =>
    rw [takeAnswer_shown h hen]
    refine ⟨rfl, fun o h1 h2 h3 => (rd_wr_of_ne _ _ h3).trans ((rd_wr_of_ne _ _ h2).trans (rd_wr_of_ne _ _ h1)), ?_⟩
    refine (flag_setFlag_apart (by decide)).trans (congrArg CPL_STAT_ADMFAIL.bit ?_)
    exact (rd_wr_of_ne _ _ (by decide)).trans (rd_wr_of_ne _ _ (by decide))

/-- An ANSWER that reaches a head with none before it. -/
theorem answer_leaves {p : Fin 4} {sn : BitVec 64} {code : BitVec 128} {seat : Fin 64} (ha : s.awake = true) (hup : s.portUp p = true)
    (hh : s.isHead = true) (hhit : s.hitched = true) (h0 : s.cpl.answers = []) :
    ∃ t, exec (.answer p sn code seat) s = .next t ∧
      (s.flag CPL_CFG CPL_CFG_ADMEN = true → t.flag CPL_STAT CPL_STAT_ADMPEND = true ∧
        t.cpl.answers = [⟨p, sn, code, seat⟩] ∧ (t.rd (CPL_ADMSN 0)).toNat = sn.toNat % 2 ^ 32 ∧
        (t.rd (CPL_ADMSN 1)).toNat = sn.toNat / 2 ^ 32 ∧ t.cpl.granted = s.cpl.granted) ∧
      (s.flag CPL_CFG CPL_CFG_ADMEN = false → s.seatFree seat = true → seat.val ∈ t.cpl.granted ∧
        ∃ f, t.cpl.ownQ = s.cpl.ownQ ++ [f] ∧ f.kind = 0x12 ∧ f.port = some p.val ∧
          f.payload = [BitVec.ofNat 8 seat.val]) := by
  let u := s.updCpl (fun c => { c with answers := c.answers ++ [⟨p, sn, code, seat⟩] })
  have hu : u.cpl.answers = [⟨p, sn, code, seat⟩] := congrArg (· ++ [_]) h0
  have hexec : exec (.answer p sn code seat) s = .next (takeAnswer u) := by
    change execAnswer p sn code seat s = _
    rw [execAnswer, ha, hup, hh, hhit, if_pos (by decide), h0]
    rfl
  refine ⟨_, hexec, fun hen => ?_, fun hen hfree => ?_⟩
  · rw [takeAnswer_shown hu hen]
    have hsn := sn.isLt
    refine ⟨flag_setFlag_self _ _ _ true (by decide) (by decide), hu, ?_, ?_, rfl⟩
    · refine (congrArg BitVec.toNat ((rd_wr_of_ne _ _ (by decide)).trans ((rd_wr_of_ne _ _ (by decide)).trans (rd_wr_self ..)))).trans ?_
      exact BitVec.toNat_ofNat ..
    · refine (congrArg BitVec.toNat ((rd_wr_of_ne _ _ (by decide)).trans (rd_wr_self ..))).trans ((BitVec.toNat_ofNat ..).trans ?_)
      exact Nat.mod_eq_of_lt (by change sn.toNat / 2 ^ 32 < 2 ^ 32; omega)
  · have hfree' : (u.updCpl (fun c => { c with answers := [] })).seatFree (Answer.seat ⟨p, sn, code, seat⟩) = true := hfree
    rw [takeAnswer_granted hu hen, grantSeat_free hfree']
    exact ⟨mem_insertRising, _, rfl, rfl, rfl, rfl⟩

/-- A GRANT for an ANSWER of this device. -/
theorem grant_leaves {p : Fin 4} {seat : Fin 64} (ha : s.awake = true) (hup : s.portUp p = true) (hans : (s.pt p).answered = true)
    (h0 : s.seat = 0) (hu : s.cpl.uncoupled = false) (h1 : 1 ≤ seat.val) (h2 : seat.val ≤ 32) :
    ∃ t, exec (.grant p seat) s = .next t ∧ t.seat = seat.val ∧ t.hitched = true ∧
      (s.seatWord ≠ BitVec.ofNat 32 seat.val → t.cpl.seatWrite = some (BitVec.ofNat 32 seat.val)) ∧
      ∀ q, q < 4 → q ≠ p.val → s.portUp q = true → ∃ f ∈ t.cpl.ownQ, f.kind = 0x10 ∧ f.port = some q ∧
        f.payload = leBytes 16 s.cpl.challenge.toNat := by
  let u := each (List.range 4) (fun q t => t.updPt q (fun x => { x with answered := false })) s
  let w := takeSeat seat u
  let x := if w.seatWord = word seat then w else w.updCpl (fun c => { c with seatWrite := some (word seat) })
  have hexec : exec (.grant p seat) s = .next (offerOn (x.upPorts.filter (fun q => q ≠ p.val)) x) := by
    change execGrant p seat s = _
    rw [execGrant, ha, hup, hans, hu, decide_eq_true h0, decide_eq_true h1, decide_eq_true h2, if_pos (by decide)]
  have hregs : u.regs = s.regs := Same.each (f := State.regs) rfl fun _ _ _ => rfl
  have hlan : u.lan = s.lan := Same.each (f := State.lan) rfl fun _ _ _ => rfl
  have hch : u.cpl.challenge = s.cpl.challenge := Same.each (f := fun t => t.cpl.challenge) rfl fun _ _ _ => rfl
  have hrd : ∀ o, u.rd o = s.rd o := fun o => congrArg (fun r => mget regDefault r o) hregs
  have hword : w.seatWord = s.seatWord := by
    rw [takeSeat_seatWord, State.seatWord, State.wb, State.lanW, hlan, State.fld, hrd]
    rfl
  have hxregs : x.regs = w.regs := by
    simp only [x]
    split <;> rfl
  have hxch : x.cpl.challenge = s.cpl.challenge := by
    have hw : w.cpl.challenge = s.cpl.challenge := takeSeat_challenge.trans hch
    refine Eq.trans ?_ hw
    simp only [x]
    split <;> rfl
  have hxrd : ∀ o, (offerOn (x.upPorts.filter (fun q => q ≠ p.val)) x).rd o = w.rd o := fun o =>
    congrArg (fun r => mget regDefault r o) ((offerOn_regs ..).trans hxregs)
  refine ⟨_, hexec, ?_, ?_, fun hne => ?_, fun q hq hqp hqup => ?_⟩
  · exact (congrArg CPL_ADDR_SEAT.get (hxrd _)).trans (takeSeat_seat seat.isLt)
  · refine (congrArg CPL_ADDR_HITCHED.bit (hxrd _)).trans ((takeSeat_hitched (n := seat.val)).trans ?_)
    exact decide_eq_true (by omega)
  · have hx : x = w.updCpl (fun c => { c with seatWrite := some (word seat) }) := if_neg (by rw [hword]; exact hne)
    rw [offerOn_eq, hx]
    rfl
  · have hqx : x.portUp q = true := by
      refine (congrArg (fun r => CPL_PORT_UP.bit (mget regDefault r (CPL_PORT q))) hxregs).trans ?_
      refine (takeSeat_portUp hq).trans ?_
      exact (congrArg CPL_PORT_UP.bit (hrd _)).trans hqup
    rw [← hxch]
    exact offerOn_mem (List.mem_filter.mpr ⟨List.mem_filter.mpr ⟨List.mem_range.mpr hq, hqx⟩, decide_eq_true hqp⟩)

end

/-! ### The check of an ANSWER (R301) -/

section
variable {s : State} {a : Answer} {rest : List Answer}

theorem register_admkey : plainRegister (CPL_ADMKEY 7) ⟨0x1C0220, [(4, 8)], true, 0x00000000#32, [⟨⟨0, 32⟩, .rw, false, false, .none⟩]⟩ [7] = true := by
  decide +kernel

theorem wrote_admkey (old w : Word) (k : Nat) (co : CoUpdate) (before u : State) :
    wrote (CPL_ADMKEY 7) old w k co before u = keyWritten u := rfl

/-- The key words are cleared. -/
def keyCleared (s : State) : State := each (List.range 8) (fun k t => t.wr (CPL_ADMKEY k) 0) s

theorem keyCleared_only (s : State) : ∃ regs, keyCleared s = { s with regs := regs } :=
  List.foldlRecOn _ _ (motive := fun t : State => ∃ regs, t = { s with regs := regs }) ⟨_, rfl⟩ fun _ ⟨_, ht⟩ k _ => by
    subst ht
    exact ⟨_, rfl⟩

theorem keyCleared_rd {o : Nat} (ho : ∀ k < 8, o ≠ CPL_ADMKEY k) : (keyCleared s).rd o = s.rd o :=
  List.foldlRecOn _ _ (motive := fun t : State => t.rd o = s.rd o) rfl fun _ ht k hk =>
    (rd_wr_of_ne _ _ (ho k (List.mem_range.mp hk))).trans ht

theorem keyCleared_zero {k : Nat} (hk : k < 8) : (keyCleared s).rd (CPL_ADMKEY k) = 0 :=
  each_at (P := fun _ => True) (Q := fun t => t.rd (CPL_ADMKEY k) = 0) List.nodup_range (List.mem_range.mpr hk) (fun _ _ _ _ _ => trivial)
    (fun u _ => rd_wr_self ..) (fun j _ hj u hu => (rd_wr_of_ne _ _ (by simp only [CPL_ADMKEY]; omega)).trans hu) trivial

/-- Word 7 of the key is written. -/
theorem admissionKey_leaves {v : View} {w : Word} (ha : accepted v (CPL_ADMKEY 7) w s = true) :
    ∃ t, exec (.admissionKeyWrite v w) s = .next t ∧
      (s.flag CPL_STAT CPL_STAT_ADMPEND = true → t.cpl.checking = true ∧ t.rd (CPL_ADMKEY 7) = w) ∧
      (s.flag CPL_STAT CPL_STAT_ADMPEND = false → ∀ k, k < 8 → t.rd (CPL_ADMKEY k) = 0) := by
  have hexec : exec (.admissionKeyWrite v w) s = .next (syncStretches (wordWritten v (CPL_ADMKEY 7) [7] w s)) := wordCmd_written register_admkey ha
  have hword : writtenWord v (CPL_ADMKEY 7) w s = w := by
    have h := written_get (f := ⟨0, 32⟩) (plainRegister_register register_admkey) ha (by decide)
    have hfull : ∀ x : Word, Fld.get ⟨0, 32⟩ x = x.toNat := fun x => by
      change x.toNat >>> 0 % 2 ^ 32 = x.toNat
      rw [Nat.shiftRight_zero]
      exact Nat.mod_eq_of_lt x.isLt
    rw [hfull, hfull] at h
    exact BitVec.eq_of_toNat_eq h
  rw [wordWritten, wrote_admkey, hword] at hexec
  have hpend : (s.wr (CPL_ADMKEY 7) w).flag CPL_STAT CPL_STAT_ADMPEND = s.flag CPL_STAT CPL_STAT_ADMPEND :=
    congrArg CPL_STAT_ADMPEND.bit (rd_wr_of_ne _ _ (by decide))
  refine ⟨_, hexec, fun hp => ?_, fun hp k hk => ?_⟩
  · rw [syncStretches_cpl, syncStretches_rd, keyWritten, if_pos (hpend.trans hp)]
    exact ⟨rfl, rd_wr_self s _ w⟩
  · rw [syncStretches_rd, keyWritten, if_neg (by rw [hpend, hp]; decide)]
    exact keyCleared_zero hk

/-- The state in which the head settles the admission of the ANSWER in front. -/
def answerSettled (rest : List Answer) (s : State) : State := s.updCpl (fun c => { c with answers := rest, checking := false })

theorem admissionOver_eq {ok : Bool} (h : s.cpl.answers = a :: rest) : admissionOver ok s =
    takeAnswer (if ok then grantSeat a (answerSettled rest s) else cplLink ((answerSettled rest s).sq CPL_STAT CPL_STAT_ADMFAIL)) := by
  unfold admissionOver
  rw [h]
  rfl

/-- What the outcome of an admission leaves whichever it is. -/
structure AdmissionOver (rest : List Answer) (s t : State) : Prop where
  answers : t.cpl.answers = rest
  checking : t.cpl.checking = false
  key : ∀ k < 8, t.rd (CPL_ADMKEY k) = s.rd (CPL_ADMKEY k)

theorem grantSeat_over (a : Answer) (s : State) : (grantSeat a s).cpl.answers = s.cpl.answers ∧ (grantSeat a s).cpl.checking = s.cpl.checking ∧
    ∀ o, CplRegister o → (grantSeat a s).rd o = s.rd o := by
  unfold grantSeat
  split
  · rw [sendLink_eq]
    exact ⟨rfl, rfl, fun _ _ => rfl⟩
  · have hr := raise_reports s (evCom 10)
    refine ⟨?_, ?_, fun o ho => hr.rd o (cplRegister_offGate.event o ho)⟩
    · rw [cplLink, hr.fwd]
    · rw [cplLink, hr.fwd]

theorem admkey_apart {k : Nat} (hk : k < 8) : CplRegister (CPL_ADMKEY k) ∧ CPL_ADMKEY k ≠ CPL_ADMSN 0 ∧ CPL_ADMKEY k ≠ CPL_ADMSN 1 ∧
    CPL_ADMKEY k ≠ CPL_STAT := by
  simp only [CplRegister, CPL_ADMKEY, CPL_ADMSN, CPL_STAT]
  omega

theorem cplCfg_apart : CplRegister CPL_CFG ∧ CPL_CFG ≠ CPL_STAT := by
  simp only [CplRegister, CPL_CFG, CPL_STAT]
  omega

/-- An admission that succeeds. -/
theorem admissionOver_granted (h : s.cpl.answers = a :: rest) (hen : s.flag CPL_CFG CPL_CFG_ADMEN = true) :
    AdmissionOver rest s (admissionOver true s) ∧ (s.seatFree a.seat = true → a.seat ∈ (admissionOver true s).cpl.granted) := by
  rw [admissionOver_eq h, if_pos rfl]
  obtain ⟨h1, h2, h3⟩ := grantSeat_over a (answerSettled rest s)
  obtain ⟨hcpl, hrd, -⟩ := takeAnswer_keeps (s := grantSeat a (answerSettled rest s))
    ((congrArg CPL_CFG_ADMEN.bit (h3 _ cplCfg_apart.1)).trans hen)
  refine ⟨⟨by rw [hcpl]; exact h1, by rw [hcpl]; exact h2, fun k hk => ?_⟩, fun hfree => ?_⟩
  · obtain ⟨h4, h5, h6, h7⟩ := admkey_apart hk
    exact (hrd _ h5 h6 h7).trans (h3 _ h4)
  · have hfree' : (answerSettled rest s).seatFree a.seat = true := hfree
    rw [hcpl, grantSeat_free hfree']
    exact mem_insertRising

/-- An admission that fails is reported. -/
theorem admissionOver_failed (ha : s.awake = true) (h : s.cpl.answers = a :: rest) (hen : s.flag CPL_CFG CPL_CFG_ADMEN = true) :
    AdmissionOver rest s (admissionOver false s) ∧ (admissionOver false s).flag CPL_STAT CPL_STAT_ADMFAIL = true ∧
    (admissionOver false s).evPending (evCom 10) = true ∧ (admissionOver false s).cpl.granted = s.cpl.granted := by
  rw [admissionOver_eq h, if_neg Bool.false_ne_true]
  unfold cplLink
  have hr := raise_reports ((answerSettled rest s).sq CPL_STAT CPL_STAT_ADMFAIL) (evCom 10)
  obtain ⟨hflag, hpend⟩ := sq_raise_noted (answerSettled rest s) (src := evCom 10) (o := CPL_STAT) (f := CPL_STAT_ADMFAIL)
    (by decide) ha (by decide) (by decide) (by decide)
  have hkeep : ∀ o, CplRegister o → o ≠ CPL_STAT → (((answerSettled rest s).sq CPL_STAT CPL_STAT_ADMFAIL).raise (evCom 10)).rd o = s.rd o := fun o ho hne =>
    (hr.rd o (cplRegister_offGate.event o ho)).trans (rd_wr_of_ne _ _ hne)
  have hcpl : (((answerSettled rest s).sq CPL_STAT CPL_STAT_ADMFAIL).raise (evCom 10)).cpl.answers = rest ∧
      (((answerSettled rest s).sq CPL_STAT CPL_STAT_ADMFAIL).raise (evCom 10)).cpl.checking = false ∧
      (((answerSettled rest s).sq CPL_STAT CPL_STAT_ADMFAIL).raise (evCom 10)).cpl.granted = s.cpl.granted := by
    rw [hr.fwd]
    exact ⟨rfl, rfl, rfl⟩
  generalize ((answerSettled rest s).sq CPL_STAT CPL_STAT_ADMFAIL).raise (evCom 10) = u at *
  obtain ⟨h1, h2, h3⟩ := hcpl
  obtain ⟨hc, hrd, hf⟩ := takeAnswer_keeps (s := u) ((congrArg CPL_CFG_ADMEN.bit (hkeep _ cplCfg_apart.1 cplCfg_apart.2)).trans hen)
  refine ⟨⟨by rw [hc]; exact h1, by rw [hc]; exact h2, fun k hk => ?_⟩, hf.trans hflag, ?_, by rw [hc]; exact h3⟩
  · obtain ⟨h4, h5, h6, h7⟩ := admkey_apart hk
    exact (hrd _ h5 h6 h7).trans (hkeep _ h4 h7)
  · rw [State.evPending, hrd _ (by decide) (by decide) (by decide)]
    exact hpend

/-- A check that is done. -/
theorem checkDone_leaves (ha : s.awake = true) (h : s.cpl.answers = a :: rest) (hen : s.flag CPL_CFG CPL_CFG_ADMEN = true)
    (hchk : s.cpl.checking = true) : ∃ t, exec .admissionCheckDone s = .next t ∧ t.cpl.answers = rest ∧ t.cpl.checking = false ∧
      (∀ k, k < 8 → t.rd (CPL_ADMKEY k) = 0) ∧
      (if leNat ((hmac ((List.range 8).flatMap (fun k => wordBytes (s.rd (CPL_ADMKEY k))))
          (leBytes 16 s.cpl.challenge.toNat ++ leBytes 8 a.serial.toNat ++ leBytes 8 s.serial)).take 16) = a.code.toNat then
        s.seatFree a.seat = true → a.seat ∈ t.cpl.granted
      else t.flag CPL_STAT CPL_STAT_ADMFAIL = true ∧ t.evPending (evCom 10) = true ∧ t.cpl.granted = s.cpl.granted) := by
  let good := decide (leNat (admissionCode ((List.range 8).flatMap (fun k => wordBytes (s.rd (CPL_ADMKEY k)))) s.cpl.challenge a.serial.toNat s.serial) = a.code.toNat)
  have hexec : exec .admissionCheckDone s = .next (admissionOver good (keyCleared s)) := by
    change execAdmissionCheckDone s = _
    unfold execAdmissionCheckDone
    rw [h]
    dsimp only
    rw [ha, hchk, if_pos (by decide)]
    rfl
  obtain ⟨regs, hk⟩ := keyCleared_only s
  have hans : (keyCleared s).cpl = s.cpl := by rw [hk]
  have hen' : (keyCleared s).flag CPL_CFG CPL_CFG_ADMEN = true :=
    (congrArg CPL_CFG_ADMEN.bit (keyCleared_rd fun k _ => by simp only [CPL_CFG, CPL_ADMKEY]; omega)).trans hen
  have haw : (keyCleared s).awake = true := by rw [hk]; exact ha
  have hzero : ∀ k < 8, (keyCleared s).rd (CPL_ADMKEY k) = 0 := fun k hk => keyCleared_zero hk
  have hfree : (keyCleared s).seatFree a.seat = s.seatFree a.seat := by rw [State.seatFree, hans, State.seatFree]
  have h' : (keyCleared s).cpl.answers = a :: rest := by rw [hans]; exact h
  generalize keyCleared s = u at *
  refine ⟨_, hexec, ?_⟩
  split
  · next hgood =>
    rw [show good = true from decide_eq_true hgood]
    obtain ⟨⟨h1, h2, h3⟩, h4⟩ := admissionOver_granted h' hen'
    exact ⟨h1, h2, fun k hk => (h3 k hk).trans (hzero k hk), fun hf => h4 (hfree.trans hf)⟩
  · next hbad =>
    rw [show good = false from decide_eq_false hbad]
    obtain ⟨⟨h1, h2, h3⟩, h4, h5, h6⟩ := admissionOver_failed haw h' hen'
    exact ⟨h1, h2, fun k hk => (h3 k hk).trans (hzero k hk), h4, h5, h6.trans (by rw [hans])⟩

/-- No key in time. -/
theorem admissionTimeout_leaves (ha : s.awake = true) (h : s.cpl.answers = a :: rest) (hen : s.flag CPL_CFG CPL_CFG_ADMEN = true)
    (hchk : s.cpl.checking = false) (hp : s.flag CPL_STAT CPL_STAT_ADMPEND = true) :
    ∃ t, exec .admissionTimeout s = .next t ∧ t.cpl.answers = rest ∧ t.flag CPL_STAT CPL_STAT_ADMFAIL = true ∧
      t.evPending (evCom 10) = true ∧ t.cpl.granted = s.cpl.granted := by
  have hexec : exec .admissionTimeout s = .next (admissionOver false s) := by
    change execAdmissionTimeout s = _
    rw [execAdmissionTimeout, ha, hp, hchk, if_pos (by decide)]
  obtain ⟨⟨h1, -, -⟩, h4, h5, h6⟩ := admissionOver_failed ha h hen
  exact ⟨_, hexec, h1, h4, h5, h6⟩

/-- A seat that is freed. -/
theorem seatFreed_leaves {seat : Fin 64} (ha : s.awake = true) (hh : s.isHead = true) (hg : seat.val ∈ s.cpl.granted)
    (hr : s.routed seat = false) (hs : s.cpl.struck.getLsbD (seat.val - 1) = false) :
    ∃ t, exec (.seatFreed seat) s = .next t ∧ t.regs = s.regs ∧ ∀ d, d ∈ t.cpl.granted ↔ d ∈ s.cpl.granted ∧ d ≠ seat.val := by
  have hexec : exec (.seatFreed seat) s = .next (s.updCpl (fun c => { c with granted := c.granted.filter (fun d => d ≠ seat.val) })) := by
    change execSeatFreed seat s = _
    rw [execSeatFreed, ha, hh, hr, hs, List.contains_iff_mem.mpr hg, if_pos (by decide)]
  refine ⟨_, hexec, rfl, fun d => ?_⟩
  change d ∈ s.cpl.granted.filter (fun d => decide (d ≠ seat.val)) ↔ _
  rw [List.mem_filter, decide_eq_true_eq]

/-- The state in which a device without others gives up its seat. -/
def forwardsDropped (s : State) : State :=
  (s.rc EVT_CNT EVT_CNT_CPLDROP s.cpl.fwdQ.length).updCpl (fun c => { c with fwdQ := [], fwdSent := [] })

/-- A device that reaches no other seat. -/
theorem detach_leaves (ha : s.awake = true) (hh : s.hitched = true) (hall : ∀ d, 1 ≤ d → d ≤ 32 → d ≠ s.seat → s.routed d = false) :
    ∃ t, exec .detach s = .next t ∧ t.seat = 0 ∧ t.hitched = false ∧ t.evPending (evCom 10) = true := by
  have hnone : (List.range 32).all (fun k => decide (k + 1 = s.seat) || !s.routed (k + 1)) = true := by
    rw [List.all_eq_true]
    intro k hk
    have := List.mem_range.mp hk
    by_cases hks : k + 1 = s.seat
    · simp [hks]
    · simp [hks, hall (k + 1) (by omega) (by omega) hks]
  have hexec : exec .detach s = .next (cplLink (takeSeat 0 (forwardsDropped s))) := by
    change execDetach s = _
    rw [execDetach, ha, hh, hnone, if_pos (by decide)]
    rfl
  have h1 : (takeSeat 0 (forwardsDropped s)).seat = 0 := takeSeat_seat (by decide)
  have h2 : (takeSeat 0 (forwardsDropped s)).hitched = false := takeSeat_hitched
  have h3 : (takeSeat 0 (forwardsDropped s)).awake = true := takeSeat_awake.trans ha
  generalize takeSeat 0 (forwardsDropped s) = u at *
  have hr := raise_reports u (evCom 10)
  exact ⟨_, hexec, (hr.fld _ (by decide)).trans h1, (hr.flag _ (by decide)).trans h2, raise_pending u (by decide) h3⟩

end

theorem hitching : Rules.Hitching := by
  intro s p ha
  refine ⟨fun v hacc => hen_leaves hacc, fun hup => ⟨fun ch hs hh => offer_head ha hup hh,
    fun b ch hs hh h0 hen hu => offer_answered ha hup hh h0 hen hu, fun sn code seat hh hhit h0 => answer_leaves ha hup hh hhit h0,
    fun seat hans h0 hu h1 h2 => grant_leaves ha hup hans h0 hu h1 h2⟩, fun v w hacc => admissionKey_leaves hacc,
    fun a rest h hen => ?_, fun seat hh hg hr hs => seatFreed_leaves ha hh hg hr hs, fun hh hall => detach_leaves ha hh hall⟩
  intro failed
  exact ⟨fun hchk => checkDone_leaves ha h hen hchk, fun hchk hp => admissionTimeout_leaves ha h hen hchk hp⟩

/-- Settles O52: links and routes, hitching, admission and seats. -/
theorem linksAndSeats : Obligations.LinksAndSeats := ⟨linksAndRoutes, hitching⟩

end Sys2Proof.Proofs
end

section
/-! The RD frame that reads a sample of a Harness controller (R276, R277, R298): the word is a value from outside, and the read keeps
it in the register. -/

namespace Sys2Proof.Proofs

open Sys2Proof Sys2Proof.Machine Sys2Proof.Safety Sys2Proof.Laws

/-- The card of PMU_HSV. -/
def cardHarness : Card := ⟨0x1F0100, [(4, 36)], false, 0x00000000#32, [
    ⟨⟨31, 1⟩, .ro, false, false, .none⟩, ⟨⟨0, 10⟩, .ro, false, false, .none⟩]⟩

theorem regAt_harness : regAt (PMU_HSV 0) = some (cardHarness, [0]) := by decide +kernel

/-- Harness controller 0 runs on a device in seat 2, and its register holds another value than the next sample. -/
def harnessRuns : State :=
  let s : State := ({} : State).setFlag (CPL_PORT 0) CPL_PORT_UP true
  let s := (s.setFld CPL_ADDR CPL_ADDR_SEAT 2).setFld PMU_HEN ⟨0, 32⟩ 1
  ({ s with cpl := { s.cpl with adopted := true } } : State).setFld (PMU_HSV 0) PMU_HSV_VALUE (Config.freeNat 0 + 1)

/-- The RD frame from seat 1 that reads the sample. -/
def sampleRead : Frame := { cls := 1, dst := 2, src := 1, epoch := 0, kind := 3, tag := 1, arg := 0x1F0100 }

theorem harnessRuns_rd {o : Nat} (ho : o ≠ PMU_HSV 0) : harnessRuns.rd o =
    (((({} : State).setFlag (CPL_PORT 0) CPL_PORT_UP true).setFld CPL_ADDR CPL_ADDR_SEAT 2).setFld PMU_HEN ⟨0, 32⟩ 1).rd o := rd_wr_of_ne _ _ ho

theorem harnessRuns_value : PMU_HSV_VALUE.get (harnessRuns.rd (PMU_HSV 0)) = (Config.freeNat 0 + 1) % 1024 := fld_setFld_self _ _ _ _ (by decide)

theorem harnessRuns_on : harnessRuns.harnessOn 0 = true := by
  rw [State.harnessOn, if_pos (by decide), harnessRuns_rd (by decide)]
  decide +kernel

theorem sampleRead_delivered : Delivered 3 sampleRead harnessRuns := by
  have hport : harnessRuns.portUp 0 = true := by
    rw [State.portUp, State.flag, harnessRuns_rd (by decide)]
    decide +kernel
  have hseat : harnessRuns.seat = 2 := by
    rw [State.seat, State.fld, harnessRuns_rd (by decide)]
    decide +kernel
  have hepoch : harnessRuns.epoch = 0 := by
    rw [State.epoch, State.fld, harnessRuns_rd (by decide)]
    decide +kernel
  exact ⟨rfl, hport, by decide, rfl, rfl, hseat.symm, by rw [hseat]; decide, rfl, hepoch.symm⟩

/-- A read of a controller that runs shows its sample. -/
theorem peekReg_harness : PMU_HSV_VALUE.get (harnessRuns.peekReg .passenger (PMU_HSV 0)) = Config.freeNat 0 % 1024 := by
  have hpeek : harnessRuns.peekReg .passenger (PMU_HSV 0) = harnessRuns.harnessSample 0 &&& ~~~ 0 &&& ~~~ 0 := by
    unfold State.peekReg
    rw [regAt_harness]
    rfl
  have hall : ∀ w : Word, w &&& ~~~ 0 &&& ~~~ 0 = w := fun w => by
    rw [show (~~~0 : Word) = BitVec.allOnes 32 from rfl, BitVec.and_allOnes, BitVec.and_allOnes]
  rw [hpeek, hall, State.harnessSample, harnessRuns_on, if_pos rfl, get_put_apart _ _ _ _ (.inr (by decide)),
    get_put_self _ _ _ (by decide)]
  rfl

theorem respond_regs (f : Frame) (kind status : Nat) (payload : List Byte) (s : State) : (respond f kind status payload s).regs = s.regs :=
  (sendOwn_keeps _ s).1

/-- What the read leaves in the register. -/
theorem sampleRead_leaves : ∃ t, exec (.rdFrame sampleRead) harnessRuns = .next t ∧
    PMU_HSV_VALUE.get (t.rd (PMU_HSV 0)) = Config.freeNat 0 % 1024 := by
  have hread : readReg .passenger (PMU_HSV 0) harnessRuns = (harnessRuns.peekReg .passenger (PMU_HSV 0),
      (harnessRuns.wr (PMU_HSV 0) (harnessRuns.peekReg .passenger (PMU_HSV 0))).drew 1) := by
    unfold readReg
    rw [regAt_harness]
    rfl
  have harrived : rdArrived sampleRead harnessRuns = respond sampleRead 0x04 0
      (wordBytes (harnessRuns.peekReg .passenger (PMU_HSV 0)))
      ((harnessRuns.wr (PMU_HSV 0) (harnessRuns.peekReg .passenger (PMU_HSV 0))).drew 1) := by
    have hfold : foldOff sampleRead.arg.toNat = some (PMU_HSV 0) := by decide
    have hok : remoteOk sampleRead.arg.toNat = true := by decide
    unfold rdArrived
    rw [hfold]
    dsimp only
    rw [hok, if_pos rfl, hread]
  have hexec : exec (.rdFrame sampleRead) harnessRuns = .next (syncStretches (rdArrived sampleRead harnessRuns)) := by
    change settled (receive [0x03] sampleRead (epochCheck sampleRead (rdArrived sampleRead)) harnessRuns) = _
    rw [receive_delivered sampleRead_delivered]
    exact congrArg (fun u => settled (rdArrived sampleRead u)) at_zero
  refine ⟨_, hexec, ?_⟩
  rw [syncStretches_rd, harrived]
  refine (congrArg (fun r => PMU_HSV_VALUE.get (mget regDefault r (PMU_HSV 0))) (respond_regs ..)).trans ?_
  exact (congrArg PMU_HSV_VALUE.get (rd_wr_self harnessRuns (PMU_HSV 0) _)).trans peekReg_harness

/-- Refutes O53: an RD of PMU_HSV reads a sample of the running Harness controller, which need not be what the register held, and the
register keeps it. -/
theorem not_couplerFrames : ¬ Obligations.CouplerFrames := by
  rintro ⟨htransactions, -, -⟩
  obtain ⟨-, hrd, -⟩ := htransactions harnessRuns sampleRead
  obtain ⟨hreads, -⟩ := hrd sampleRead_delivered (by decide)
  obtain ⟨t, hexec, hregs, -⟩ := hreads (PMU_HSV 0) cardHarness [0] (by decide) (.inr (by decide)) (by decide) regAt_harness rfl (by decide)
  obtain ⟨u, hexec', hvalue⟩ := sampleRead_leaves
  obtain rfl : t = u := by
    have := hexec.symm.trans hexec'
    injection this
  have hkept : t.rd (PMU_HSV 0) = harnessRuns.rd (PMU_HSV 0) := congrArg (fun r => mget regDefault r (PMU_HSV 0)) hregs
  rw [hkept, harnessRuns_value] at hvalue
  omega

end Sys2Proof.Proofs
end

section
/-! The torque monitor (R214, R218) and the Drag Shoe with its test (R225 to R228). -/

namespace Sys2Proof.Proofs

open Sys2Proof Sys2Proof.Machine Sys2Proof.Safety Sys2Proof.Laws

section
variable {s t u : State}

/-! ### Flags that one event sets -/

theorem flag_sqMask {o : Nat} {m : Word} {f : Fld} (hf : f.lo < 24) : (s.sqMask o m).flag o f = (s.flag o f || f.bit m) := by
  refine (congrArg f.bit (rd_wr_self ..)).trans ((bit_put_apart (f := seqFld) (by simp only [seqFld]; omega) _ _).trans ?_)
  exact BitVec.getLsbD_or

theorem fld_sqMask_apart {o : Nat} {m : Word} {f : Fld} (hf : f.lo + f.len ≤ 24) (hm : f.get m = 0) :
    (s.sqMask o m).fld o f = s.fld o f := by
  refine (congrArg f.get (rd_wr_self ..)).trans ((get_put_apart seqFld f _ _ (.inr hf)).trans ?_)
  refine Nat.eq_of_testBit_eq fun i => ?_
  have hi := congrArg (Nat.testBit · i) hm
  simp only [get_testBit, Nat.zero_testBit] at hi
  simp only [State.fld, get_testBit, BitVec.getLsbD_or, Bool.and_or_distrib_left, hi, Bool.or_false]

/-! ### A write to flags that clear with a sequence (R35) -/

/-- A write to fields that only hardware sets, to a register that starts nothing: what the sequence clears. -/
theorem wordCmd_sequence {v : View} {o : Nat} {c : Card} {ix : List Nat} {data flags : Word} (h : isRegister o c ix = true)
    (hc : unchocked o c = true) (hy : c.fields.all (fun f => decide (f.ty = .ro ∨ f.ty = .sq)) = true) (hun : unscheduled o = true)
    (hm : c.fields.foldl (fun m f => if f.ty = .sq then m ||| f.fld.mask else m) 0 = flags)
    (hv : v = .passenger → coachAny c = false) (hb : ∀ old new, s.badWrite o old new = false)
    (hw : ∀ old new n co before u, wrote o old new n co before u = u) (hs : s.awake = true) :
    wordCmd v o data s = .next (syncStretches (sqClear o ix flags data (s.rd o) (s.wr o (s.rd o)))) := by
  have ha : accepted v o data s = true := accepted_unchocked hs (isRegister_iff.mp h).1 hc hv hb
  refine (writeCmd_awake hs).trans ?_
  rw [writeReg_fields h, meets_unscheduled hun, writeFields_written h .noUpdate ha, hw, hm, writtenWord_hardware h ha hy]
  rfl

/-- Written back, a register reads as before. -/
theorem rd_wr_back (s : State) (o x : Nat) : (s.wr o (s.rd o)).rd x = s.rd x := by
  rw [rd_wr]
  split
  · next h => rw [h]
  · rfl

/-! ### The torque monitor (R214, R218) -/

theorem monitorSet_regs (a m : Nat) (s : State) : (monitorSet a m s).regs = s.regs := rfl

theorem monitorSet_steps {a m : Nat} : ((monitorSet a m s).ax a).tmSteps = (s.ax a).tmSteps := by
  have hupd : ∀ (v : State) (f : AxleSt → AxleSt), (∀ x, (f x).tmSteps = x.tmSteps) →
      (((v.updAx a f).drew 3).ax a).tmSteps = (v.ax a).tmSteps := fun v f hf =>
    (congrArg AxleSt.tmSteps (ax_updAx_self v a f)).trans (hf _)
  unfold monitorSet
  extract_lets
  split
  split
  extract_lets
  exact hupd _ _ fun _ => rfl

theorem torqueMonitorStep (a : Fin 4) (h : s.monitorRuns a = true) : ∃ t, exec (.torqueMonitorStep a) s = .next t ∧
    (t.ax a).tmSteps = (s.ax a).tmSteps + 1 ∧ t.regs = s.regs := by
  refine ⟨_, if_pos h, ?_, Same.each (f := State.regs) rfl fun _ _ _ => monitorSet_regs ..⟩
  rw [ax_updAx_self]
  exact congrArg (· + 1) (Same.each (f := fun t => (t.ax a).tmSteps) rfl fun _ _ _ => monitorSet_steps)

/-- The card of SAFE_TMSTAT. -/
def cardTmstat : Card := ⟨0x180008, [(0x40, 4)], false, 0, [⟨SAFE_TMSTAT_SEQ, .ro, false, false, .none⟩,
  ⟨SAFE_TMSTAT_TRIP, .sq, false, false, .none⟩, ⟨SAFE_TMSTAT_OUT, .sq, false, false, .none⟩,
  ⟨SAFE_TMSTAT_INV, .sq, false, false, .none⟩, ⟨SAFE_TMSTAT_CLRREF, .sq, false, false, .none⟩,
  ⟨SAFE_TMSTAT_RECON, .sq, false, false, .none⟩, ⟨SAFE_TMSTAT_SUSP, .ro, false, false, .none⟩,
  ⟨SAFE_TMSTAT_INWIN, .ro, false, false, .none⟩, ⟨SAFE_TMSTAT_EN, .ro, false, false, .none⟩]⟩

theorem tmstat_isRegister (a : Fin 4) : isRegister (SAFE_TMSTAT a) cardTmstat [a.val] = true ∧
    unchocked (SAFE_TMSTAT a) cardTmstat = true ∧ unscheduled (SAFE_TMSTAT a) = true := by
  revert a
  decide +kernel

theorem tmstat_window (a : Fin 4) : SAFE_TMSTAT a / 0x10000 = 24 ∧ SAFE_TMSTAT a ≠ SAFE_BRKCTL ∧ SAFE_TMSTAT a ≠ SAFE_SEALCTL ∧
    ¬(0x170380 ≤ SAFE_TMSTAT a ∧ SAFE_TMSTAT a < 0x1703C0) ∧
    (0x180000 ≤ SAFE_TMSTAT a ∧ SAFE_TMSTAT a < 0x180100 ∧ SAFE_TMSTAT a % 0x40 = 0x08) := by
  revert a
  decide

/-- A write of SAFE_TMSTAT is a clear of its flags, through either view. -/
theorem tmClear_eq (v : View) (a : Fin 4) (data : Word) (hs : s.awake = true) : exec (.tmClear v a data) s =
    .next (syncStretches (tmClear a data (s.wr (SAFE_TMSTAT a) (s.rd (SAFE_TMSTAT a))))) := by
  obtain ⟨hwin, hne1, hne2, hr1, hr2⟩ := tmstat_window a
  have hbad : ∀ old new, s.badWrite (SAFE_TMSTAT a) old new = false := fun old new => by
    unfold State.badWrite
    simp only [hwin]
    exact (if_neg hne1).trans (if_neg hne2)
  have hwrote : ∀ old new n co before u, wrote (SAFE_TMSTAT a) old new n co before u = u := fun old new n co before u => by
    unfold wrote
    simp only [hwin]
    exact (if_neg hne1).trans (if_neg hne2)
  obtain ⟨hreg, hch, hun⟩ := tmstat_isRegister a
  refine (wordCmd_sequence hreg hch (by decide) hun rfl (fun _ => rfl) hbad hwrote hs).trans ?_
  unfold sqClear
  rw [if_neg hr1, if_pos hr2]
  rfl

theorem tmstat_offGate (a : Fin 4) : OffGate (· = SAFE_TMSTAT a) := offGate_above fun o ho => by
  have := a.isLt
  simp only [ho, SAFE_TMSTAT, PROT_GSTAT]
  omega

theorem Untouched.endCause {P : Nat → Prop} {c : SafeCause} {ls : List Nat} (hP : OffGate P) :
    Untouched P s (endCause c ls s) :=
  (Untouched.refl.each fun _ _ _ => .upd .refl).gate (GateStep.refl (L := false)).settleSafe hP.gate

/-- A clear of TRIP (R218): taken where the window in force contains zero, refused with CLRREF elsewhere. -/
theorem tmClear_trip (a : Fin 4) {data : Word} (hs : s.awake = true) (ht : s.tmTrip a = true)
    (hd : data.getLsbD 23 = true) (hq : data.toNat / 2 ^ 24 = (s.rd (SAFE_TMSTAT a)).toNat / 2 ^ 24) :
    (s.tMin a ≤ 0 → 0 ≤ s.tMax a → (tmClear a data s).tmTrip a = false) ∧
    (0 < s.tMin a ∨ s.tMax a < 0 → (tmClear a data s).tmTrip a = true ∧
      (tmClear a data s).flag (SAFE_TMSTAT a) SAFE_TMSTAT_CLRREF = true ∧ (tmClear a data s).evPending (evSup a 13) = true) := by
  have hseq : ¬seqFld.get data ≠ s.fld (SAFE_TMSTAT a) seqFld := fun h => h (by rw [State.fld, seq_get, seq_get, hq])
  have hoff := tmstat_offGate a
  have hevt : evReserved (evSup a 13) = false := (by decide : ∀ a : Fin 4, evReserved (evSup a 13) = false) a
  unfold tmClear
  extract_lets +onlyGivenNames r v
  rw [if_neg hseq, if_neg (by rw [hd, ht]; decide)]
  refine ⟨fun h1 h2 => ?_, fun h => ?_⟩
  · have hbrake : ¬brakeRegister r := (by decide : ∀ a : Fin 4, ¬brakeRegister (SAFE_TMSTAT a)) a
    rw [if_pos ⟨h1, h2⟩]
    exact ((brakeStep_settleBrake _).flag _ hbrake (hoff.event _ rfl)).trans
      (((Untouched.endCause hoff).flag rfl _).trans (flag_setFlag_self _ _ _ _ (by decide) (by decide)))
  · have hv : v.tmTrip a = true := by
      have hkeep : (~~~(data &&& 0x00780000 : Word)).getLsbD SAFE_TMSTAT_TRIP.lo = true := by
        simp only [BitVec.getLsbD_not, BitVec.getLsbD_and]
        simp [SAFE_TMSTAT_TRIP]
      refine (congrArg SAFE_TMSTAT_TRIP.bit (rd_wr_self ..)).trans ?_
      rw [Fld.bit, BitVec.getLsbD_and, hkeep, Bool.and_true]
      exact ht
    rw [if_neg (by omega)]
    refine ⟨?_, ?_, raise_pending _ hevt hs⟩
    · exact ((raise_reports ..).flag _ (hoff.event _ rfl)).trans ((flag_sq_apart (.inl (by decide)) (by decide)).trans hv)
    · exact ((raise_reports ..).flag _ (hoff.event _ rfl)).trans (flag_sq_self _ _ _ (by decide) (by decide))

/-! ### The registers of the Drag Shoe -/

/-- Bits of the Drag Shoe's registers that may fall. -/
def brakeMarks : Marks := fun o => if o = SAFE_BRKSTAT then some 8 else if o = SAFE_BRKRES then some 32 else none

theorem setBrake_writes (level hold : Bool) (s : State) : Writes brakeMarks s (setBrake level hold s) := by
  have hflag : ∀ {u v : State} (f : Fld) (b : Bool), f.lo + f.len ≤ 8 → Writes brakeMarks u v →
      Writes brakeMarks u (v.setFlag SAFE_BRKSTAT f b) := fun f b hf hv => hv.setFlagLow (by decide) hf
  unfold setBrake
  extract_lets +onlyGivenNames b v w b' x
  have hv : Writes brakeMarks s v := .ite .refl (hflag _ _ (by decide) .refl)
  have hw : Writes brakeMarks s w := .ite hv (hflag _ _ (by decide) hv)
  exact hflag _ _ (by decide) (hflag _ _ (by decide) (hw.upd (t := x)))

theorem brakeTestOver_writes (cause : Nat) (s : State) : Writes brakeMarks s (brakeTestOver cause s) := by
  have hstat : brakeMarks SAFE_BRKSTAT = some 8 := by decide
  unfold brakeTestOver
  extract_lets +onlyGivenNames v w m
  have hv : Writes brakeMarks s v := (Writes.setFldLow .refl hstat (by decide)).setFldLow hstat (by decide)
  have hw : Writes brakeMarks s w := (hv.setFld (by decide)).setFld (by decide)
  exact (hw.sqMask hstat).raise

theorem settleBrake_writes (s : State) : Writes brakeMarks s (settleBrake s) := by
  unfold settleBrake
  extract_lets +onlyGivenNames v
  have hv : Writes brakeMarks s v :=
    .ite (Writes.trans (.upd .refl (t := { s with brake := { s.brake with imin := _ } })) (brakeTestOver_writes 3 _)) .refl
  have hhold : ∀ b, Writes brakeMarks s (v.setFlag SAFE_BRKSTAT SAFE_BRKSTAT_HOLD b) := fun b =>
    hv.setFlagLow (k := 8) (by decide) (by decide)
  exact .ite (.ite (hhold _) (hv.trans (setBrake_writes ..)))
    (.ite hv (.ite (hhold _) (hv.trans (setBrake_writes ..))))

/-! ### Feedbacks (R227) -/

/-- A feedback that differs from its output. -/
theorem brkFlt_faulty {b fa fb : Bool} (hs : s.awake = true) (hbad : if b then fb ≠ s.brake.outB else fa ≠ s.brake.outA) :
    ∃ t, exec (.brkFlt b fa fb) s = .next t ∧
      t.flag SAFE_BRKSTAT (if b then SAFE_BRKSTAT_FLTB else SAFE_BRKSTAT_FLTA) = true ∧ t.evPending (evProt 14) = true := by
  have hf : (if b then SAFE_BRKSTAT_FLTB else SAFE_BRKSTAT_FLTA).lo < 24 ∧ 8 ≤ (if b then SAFE_BRKSTAT_FLTB else SAFE_BRKSTAT_FLTA).lo ∧
      0 < (if b then SAFE_BRKSTAT_FLTB else SAFE_BRKSTAT_FLTA).len := by
    cases b <;> decide
  obtain ⟨hlt, hge, hlen⟩ := hf
  have hexec : exec (.brkFlt b fa fb) s = .next (settleBrake
      ((((s.setFlag SAFE_BRKSTAT SAFE_BRKSTAT_FA fa).setFlag SAFE_BRKSTAT SAFE_BRKSTAT_FB fb).sq SAFE_BRKSTAT
        (if b then SAFE_BRKSTAT_FLTB else SAFE_BRKSTAT_FLTA)).raise (evProt 14))) := by
    change execBrkFlt b fa fb s = _
    unfold execBrkFlt
    rw [if_neg (by rw [hs]; decide)]
    exact if_pos hbad
  refine ⟨_, hexec, ?_, (brakeStep_settleBrake _).pending (by decide) (raise_pending _ (by decide) hs)⟩
  refine (settleBrake_writes _).keepsFlag (o := SAFE_BRKSTAT) (k := 8) (by decide) hge hlt (by decide) ?_
  exact ((raise_reports ..).flag _ (by decide)).trans (flag_sq_self _ _ _ hlt hlen)

/-- A feedback that agrees with its output. -/
theorem brkFlt_agrees {fa fb : Bool} (hs : s.awake = true) (ha : fa = s.brake.outA) : ∃ t, exec (.brkFlt false fa fb) s = .next t ∧
    t.flag SAFE_BRKSTAT SAFE_BRKSTAT_FA = fa ∧ t.flag SAFE_BRKSTAT SAFE_BRKSTAT_FB = fb ∧
    t.flag SAFE_BRKSTAT SAFE_BRKSTAT_FLTA = s.flag SAFE_BRKSTAT SAFE_BRKSTAT_FLTA := by
  have hexec : exec (.brkFlt false fa fb) s = .next ((s.setFlag SAFE_BRKSTAT SAFE_BRKSTAT_FA fa).setFlag SAFE_BRKSTAT SAFE_BRKSTAT_FB fb) := by
    change execBrkFlt false fa fb s = _
    unfold execBrkFlt
    rw [if_neg (by rw [hs]; decide)]
    exact if_neg fun h => h ha
  refine ⟨_, hexec, ?_, flag_setFlag_self _ _ _ _ (by decide) (by decide), ?_⟩
  · exact (flag_setFlag_apart (.inr (by decide))).trans (flag_setFlag_self _ _ _ _ (by decide) (by decide))
  · exact (flag_setFlag_apart (.inl (by decide))).trans (flag_setFlag_apart (.inl (by decide)))

/-! ### The brake test (R228) -/

/-- What the end of the test shows. -/
theorem brakeTestOver_shows {cause : Nat} (hc : cause < 4) :
    (brakeTestOver cause s).fld SAFE_BRKSTAT SAFE_BRKSTAT_PHASE = 0 ∧
    (brakeTestOver cause s).fld SAFE_BRKSTAT SAFE_BRKSTAT_TCAUSE = cause ∧
    (brakeTestOver cause s).flag SAFE_BRKSTAT SAFE_BRKSTAT_TDONE = true ∧
    (cause ≠ 0 → (brakeTestOver cause s).flag SAFE_BRKSTAT SAFE_BRKSTAT_TFAIL = true) ∧
    (s.brake.imin < 2 ^ 16 → (brakeTestOver cause s).fld SAFE_BRKRES SAFE_BRKRES_IMIN = s.brake.imin) ∧
    (s.awake = true → (brakeTestOver cause s).evPending (evProt 15) = true) := by
  have hne : SAFE_BRKSTAT ≠ SAFE_BRKRES := by decide
  unfold brakeTestOver
  extract_lets +onlyGivenNames v w m
  have hstat : eventRegister SAFE_BRKSTAT = false := by decide
  have hmask : SAFE_BRKSTAT_PHASE.get m = 0 ∧ SAFE_BRKSTAT_TCAUSE.get m = 0 ∧ SAFE_BRKSTAT_TDONE.bit m = true ∧
      (cause ≠ 0 → SAFE_BRKSTAT_TFAIL.bit m = true) := by
    unfold m
    split
    · next h => exact ⟨by decide, by decide, by decide, fun h' => absurd h h'⟩
    · exact ⟨by decide, by decide, by decide, fun _ => by decide⟩
  obtain ⟨hphase, hcause, hdone, hfail⟩ := hmask
  refine ⟨?_, ?_, ?_, fun h => ?_, fun h => ?_, fun h => raise_pending _ (by decide) h⟩
  · rw [(raise_reports ..).fld _ hstat, fld_sqMask_apart (by decide) hphase, fld_setFld_ne hne, fld_setFld_ne hne,
      fld_setFld_apart (.inl (by decide)), fld_setFld_self _ _ _ _ (by decide)]
    rfl
  · rw [(raise_reports ..).fld _ hstat, fld_sqMask_apart (by decide) hcause, fld_setFld_ne hne, fld_setFld_ne hne,
      fld_setFld_self _ _ _ _ (by decide)]
    exact Nat.mod_eq_of_lt hc
  · rw [(raise_reports ..).flag _ hstat, flag_sqMask (by decide), hdone, Bool.or_true]
  · rw [(raise_reports ..).flag _ hstat, flag_sqMask (by decide), hfail h, Bool.or_true]
  · have hw : (w.sqMask SAFE_BRKSTAT m).fld SAFE_BRKRES SAFE_BRKRES_IMIN = w.fld SAFE_BRKRES SAFE_BRKRES_IMIN := fld_wr_ne hne.symm
    rw [(raise_reports ..).fld _ (by decide), hw, fld_setFld_self _ _ _ _ (by decide)]
    exact Nat.mod_eq_of_lt h

/-- A phase ends, its magnitudes at or above ITEST or below. -/
theorem brakeTestPhaseEnd (imin : BitVec 16) (hs : s.awake = true) (hp : s.fld SAFE_BRKSTAT SAFE_BRKSTAT_PHASE ≠ 0) :
    (s.shoeTest ≤ imin.toNat → s.fld SAFE_BRKSTAT SAFE_BRKSTAT_PHASE = 1 → ∃ t, exec (.brakeTestPhaseEnd imin) s = .next t ∧
      t.fld SAFE_BRKSTAT SAFE_BRKSTAT_PHASE = 2) ∧
    (s.shoeTest ≤ imin.toNat → s.fld SAFE_BRKSTAT SAFE_BRKSTAT_PHASE = 2 → ∃ t, exec (.brakeTestPhaseEnd imin) s = .next t ∧
      t.fld SAFE_BRKSTAT SAFE_BRKSTAT_PHASE = 0 ∧ t.fld SAFE_BRKSTAT SAFE_BRKSTAT_TCAUSE = 0 ∧
      t.flag SAFE_BRKSTAT SAFE_BRKSTAT_TDONE = true ∧ t.evPending (evProt 15) = true ∧
      t.fld SAFE_BRKRES SAFE_BRKRES_IMIN = min s.brake.imin imin.toNat) ∧
    (imin.toNat < s.shoeTest → ∃ t, exec (.brakeTestPhaseEnd imin) s = .next t ∧ t.fld SAFE_BRKSTAT SAFE_BRKSTAT_PHASE = 0 ∧
      t.fld SAFE_BRKSTAT SAFE_BRKSTAT_TCAUSE = 2 ∧ t.flag SAFE_BRKSTAT SAFE_BRKSTAT_TFAIL = true) := by
  let u : State := { s with brake := { s.brake with imin := min s.brake.imin imin.toNat } }
  have hexec : exec (.brakeTestPhaseEnd imin) s = if imin.toNat < s.shoeTest then .next (brakeTestOver 2 u)
      else if s.fld SAFE_BRKSTAT SAFE_BRKSTAT_PHASE = 1 then .next (u.setFld SAFE_BRKSTAT SAFE_BRKSTAT_PHASE 2)
      else .next (brakeTestOver 0 u) := if_neg hp
  rw [hexec]
  refine ⟨fun h1 h2 => ?_, fun h1 h2 => ?_, fun h => ?_⟩
  · rw [if_neg (by omega), if_pos h2]
    exact ⟨_, rfl, fld_setFld_self _ _ _ _ (by decide)⟩
  · rw [if_neg (by omega), if_neg (by omega)]
    obtain ⟨hphase, hcause, hdone, _, himin, hevt⟩ := brakeTestOver_shows (s := u) (cause := 0) (by decide)
    exact ⟨_, rfl, hphase, hcause, hdone, hevt hs, himin (lt_of_le_of_lt (Nat.min_le_right ..) imin.isLt)⟩
  · rw [if_pos h]
    obtain ⟨hphase, hcause, _, hfail, _⟩ := brakeTestOver_shows (s := u) (cause := 2) (by decide)
    exact ⟨_, rfl, hphase, hcause, hfail (by decide)⟩

/-- A test that is cut short: the magnitude reached counts among those of IMIN. -/
def cutShort (s : State) : State :=
  let n := (s.monSets s.shoeAxle).foldl (fun m k => min m (s.monMagnitude s.shoeAxle k)) s.brake.imin
  { s with brake := { s.brake with imin := n } }

/-- The angle of the test's source. -/
theorem brakeTestMotion (angle : BitVec 16) (hk : s.shoeAngleSrc < 2) (hp : s.fld SAFE_BRKSTAT SAFE_BRKSTAT_PHASE ≠ 0) :
    let d := (angle - s.brake.a0).toInt.natAbs
    (d ≤ (s.sealed 0x182).toNat % 65536 → ∃ t, exec (.brakeTestMotion angle) s = .next t ∧
      t.brake.exc = max s.brake.exc d ∧ t.regs = s.regs) ∧
    ((s.sealed 0x182).toNat % 65536 < d → ∃ t, exec (.brakeTestMotion angle) s = .next t ∧
      t.fld SAFE_BRKSTAT SAFE_BRKSTAT_PHASE = 0 ∧ t.fld SAFE_BRKSTAT SAFE_BRKSTAT_TCAUSE = 1 ∧
      t.flag SAFE_BRKSTAT SAFE_BRKSTAT_TFAIL = true) := by
  intro d
  let u : State := { s with brake := { s.brake with exc := max s.brake.exc d } }
  have hmax : bitsOf (s.sealed 0x182) 15 0 = (s.sealed 0x182).toNat % 65536 := by simp [bitsOf]
  have hexec : exec (.brakeTestMotion angle) s = .next (if (s.sealed 0x182).toNat % 65536 < d then brakeTestCut 1 u else u) := by
    have htest : (!s.brakeTesting) = false := by simp [State.brakeTesting, hp]
    change execBrakeTestMotion angle s = _
    rw [execBrakeTestMotion, if_pos hk, brakeMotion, if_neg (by rw [htest]; decide), ← hmax]
    rfl
  rw [hexec]
  refine ⟨fun h => ?_, fun h => ?_⟩
  · rw [if_neg (by omega)]
    exact ⟨_, rfl, rfl, rfl⟩
  · rw [if_pos h]
    obtain ⟨hphase, hcause, _, hfail, _⟩ := brakeTestOver_shows (s := cutShort u) (cause := 1) (by decide)
    exact ⟨_, rfl, hphase, hcause, hfail (by decide)⟩

/-- The end of the hold on a resolver speed (R226). -/
theorem dragShoeHoldEnd (hh : s.flag SAFE_BRKSTAT SAFE_BRKSTAT_HOLD = true) (hk : s.shoeSpeedSrc = 1 ∨ s.shoeSpeedSrc = 2) :
    ∃ t, exec .dragShoeHoldEnd s = .next t ∧ t.brake.outA = false ∧ t.brake.outB = false ∧
      t.flag SAFE_BRKSTAT SAFE_BRKSTAT_HOLD = false := by
  have hexec : exec .dragShoeHoldEnd s = .next (dropBrake s) := if_pos (by simp [hh, hk])
  refine ⟨_, hexec, rfl, rfl, ?_⟩
  exact (flag_setFlag_apart (.inl (by decide))).trans (flag_setFlag_self _ _ _ _ (by decide) (by decide))

/-- The card of SAFE_BRKCTL. -/
def cardBrkctl : Card := ⟨0x180100, [], true, 0, [⟨SAFE_BRKCTL_TSTART, .rh, false, false, .none⟩,
  ⟨SAFE_BRKCTL_REL, .rw, false, false, .none⟩]⟩

theorem brkctl_plain : plainRegister SAFE_BRKCTL cardBrkctl [] = true := by decide +kernel

/-- A test starts from a state in which nothing aborts it: both outputs stay low. -/
theorem settleBrake_started (hr : s.flag SAFE_BRKCTL SAFE_BRKCTL_REL = false) (hok : s.power = .drive ∧ s.full = true ∧ s.shoeSourceOk = true)
    (ht : s.tmTrip s.shoeAxle = false) (ha : s.brake.outA = false) (hb : s.brake.outB = false) : settleBrake s = s := by
  obtain ⟨hp, hf, hsrc⟩ := hok
  have habort : brakeAbort s = s := if_neg (by simp [hp, hf, hsrc, ht])
  have hwant : s.brakeWanted = false := by simp [State.brakeWanted, hr]
  unfold settleBrake
  simp only [habort, hwant, ha, hb]
  rfl

/-- What the test reads of its angle source and of the torque monitor. -/
theorem shoe_congr (hr : ∀ o, o ≠ SAFE_BRKCTL → o ≠ SAFE_BRKSTAT → t.rd o = s.rd o) (hsl : t.sealedRec = s.sealedRec) :
    t.shoeSourceOk = s.shoeSourceOk ∧ t.shoeAngle = s.shoeAngle ∧ t.tmTrip t.shoeAxle = s.tmTrip s.shoeAxle := by
  have hsrc : t.shoeAngleSrc = s.shoeAngleSrc := by simp only [State.shoeAngleSrc, State.shoe, State.sealed, hsl]
  have hax : t.shoeAxle = s.shoeAxle := by simp only [State.shoeAxle, State.shoe, State.sealed, hsl]
  have hlt : s.shoeAngleSrc < 4 := Nat.mod_lt _ (by decide)
  have hrd : ∀ o, 0x140000 ≤ o → o < 0x150000 → t.rd o = s.rd o := fun o h1 h2 =>
    hr o (by simp only [SAFE_BRKCTL]; omega) (by simp only [SAFE_BRKSTAT]; omega)
  have hstat := hrd (RES_STAT s.shoeAngleSrc) (by simp only [RES_STAT]; omega) (by simp only [RES_STAT]; omega)
  have hcfg := hrd (ENC_CFG (s.shoeAngleSrc - 2)) (by simp only [ENC_CFG]; omega) (by simp only [ENC_CFG]; omega)
  have hang := hrd (RES_ANG s.shoeAngleSrc) (by simp only [RES_ANG]; omega) (by simp only [RES_ANG]; omega)
  have henc := hrd (ENC_ANG (s.shoeAngleSrc - 2)) (by simp only [ENC_ANG]; omega) (by simp only [ENC_ANG]; omega)
  refine ⟨?_, ?_, ?_⟩
  · simp only [State.shoeSourceOk, hsrc, State.flag, hstat, hcfg]
  · simp only [State.shoeAngle, hsrc, State.fld, hang, henc]
  · rw [hax]
    exact congrArg SAFE_TMSTAT_TRIP.bit (hr _ (by simp only [SAFE_TMSTAT, SAFE_BRKCTL]; omega)
      (by simp only [SAFE_TMSTAT, SAFE_BRKSTAT]; omega))

theorem brakeTestStart_phase (h : accepted .coachman SAFE_BRKCTL (withField s SAFE_BRKCTL SAFE_BRKCTL_TSTART 1) s = true)
    (hr : s.flag SAFE_BRKCTL SAFE_BRKCTL_REL = false) (ht : s.tmTrip s.shoeAxle = false) :
    ∃ t, exec (.brakeTestStart .coachman) s = .next t ∧ t.fld SAFE_BRKSTAT SAFE_BRKSTAT_PHASE = 1 ∧
      t.brake.a0 = s.shoeAngle ∧ t.flag SAFE_BRKCTL SAFE_BRKCTL_TSTART = false := by
  have hreg := plainRegister_register brkctl_plain
  have hexec := fieldCmd_written brkctl_plain h
  have hstart : SAFE_BRKCTL_TSTART.bit (writtenWord .coachman SAFE_BRKCTL (withField s SAFE_BRKCTL SAFE_BRKCTL_TSTART 1) s) = true :=
    written_flag hreg h (by decide) (by decide)
  have hrel : SAFE_BRKCTL_REL.bit (writtenWord .coachman SAFE_BRKCTL (withField s SAFE_BRKCTL SAFE_BRKCTL_TSTART 1) s) = false :=
    (written_bit hreg h (by decide) (by decide)).trans ((bit_put_apart (by decide) _ _).trans hr)
  have hok : (SAFE_BRKCTL_TSTART.bit (writtenWord .coachman SAFE_BRKCTL (withField s SAFE_BRKCTL SAFE_BRKCTL_TSTART 1) s) &&
      !s.brakeTestOk) = false := badWrite_of_accepted h
  unfold fieldWritten at hexec
  dsimp only at hexec
  generalize writtenWord .coachman SAFE_BRKCTL (withField s SAFE_BRKCTL SAFE_BRKCTL_TSTART 1) s = w at *
  obtain ⟨houtA, houtB, hpower, hfull, hsrc⟩ : s.brake.outA = false ∧ s.brake.outB = false ∧ s.power = .drive ∧ s.full = true ∧
      s.shoeSourceOk = true := by
    rw [hstart, Bool.true_and, Bool.not_eq_false'] at hok
    simp only [State.brakeTestOk, Bool.and_eq_true, Bool.not_eq_true', decide_eq_true_eq] at hok
    obtain ⟨⟨⟨⟨⟨⟨⟨hA, hB⟩, _⟩, _⟩, hp⟩, hf⟩, hk⟩, _⟩ := hok
    exact ⟨hA, hB, hp, hf, hk⟩
  let u := (s.wr SAFE_BRKCTL w).setFlag SAFE_BRKCTL SAFE_BRKCTL_TSTART false
  have hu : ∀ o, o ≠ SAFE_BRKCTL → u.rd o = s.rd o := fun o ho => (rd_wr_of_ne _ _ ho).trans (rd_wr_of_ne _ _ ho)
  have hv : ∀ o, o ≠ SAFE_BRKSTAT → (brakeTestStart u).rd o = u.rd o := fun o ho => rd_wr_of_ne _ _ ho
  have hrelV : (brakeTestStart u).flag SAFE_BRKCTL SAFE_BRKCTL_REL = false :=
    (congrArg SAFE_BRKCTL_REL.bit (hv _ (by decide))).trans ((flag_setFlag_apart (.inr (by decide))).trans
      ((congrArg SAFE_BRKCTL_REL.bit (rd_wr_self ..)).trans hrel))
  obtain ⟨_, hangU, _⟩ := shoe_congr (s := s) (t := u) (fun o h1 _ => hu o h1) rfl
  obtain ⟨hsrcV, _, htripV⟩ := shoe_congr (s := s) (t := brakeTestStart u) (fun o h1 h2 => (hv o h2).trans (hu o h1)) rfl
  have hfullV : (brakeTestStart u).full = true :=
    (congrArg SYS_STATE_SERVICE.bit ((hv SYS_STATE (by decide)).trans (hu SYS_STATE (by decide)))).trans hfull
  have hsettle : settleBrake (brakeTestStart u) = brakeTestStart u :=
    settleBrake_started hrelV ⟨hpower, hfullV, hsrcV.trans hsrc⟩ (htripV.trans ht) houtA houtB
  have hwrote : wrote SAFE_BRKCTL (s.rd SAFE_BRKCTL) w (s.countNow ([].headD 0)) noUpdate s (s.wr SAFE_BRKCTL w) = brakeTestStart u := by
    have hcut : (SAFE_BRKCTL_REL.bit w && (brakeTestStart u).brakeTesting) = false := by rw [hrel, Bool.false_and]
    change wroteSAFE SAFE_BRKCTL w (s.wr SAFE_BRKCTL w) = _
    unfold wroteSAFE
    rw [if_pos rfl]
    simp only [hstart, if_true]
    rw [if_neg (by rw [hcut]; decide)]
    exact hsettle
  rw [hwrote] at hexec
  refine ⟨_, hexec, ?_, ?_, ?_⟩
  · rw [syncStretches_fld]
    exact fld_setFld_self _ _ _ _ (by decide)
  · rw [syncStretches_brake]
    exact hangU
  · rw [syncStretches_flag]
    exact (congrArg SAFE_BRKCTL_TSTART.bit (hv _ (by decide))).trans (flag_setFlag_self _ _ _ _ (by decide) (by decide))

theorem torqueMonitor : Rules.TorqueMonitor := by
  intro s a
  refine ⟨torqueMonitorStep a, fun v data hs ht hd hq => ?_⟩
  have hrd : ∀ o, (s.wr (SAFE_TMSTAT a) (s.rd (SAFE_TMSTAT a))).rd o = s.rd o := rd_wr_back s _
  have htrip : (s.wr (SAFE_TMSTAT a) (s.rd (SAFE_TMSTAT a))).tmTrip a = true := (congrArg SAFE_TMSTAT_TRIP.bit (hrd _)).trans ht
  obtain ⟨hclear, hrefused⟩ := tmClear_trip (s := s.wr (SAFE_TMSTAT a) (s.rd (SAFE_TMSTAT a))) a hs htrip hd (by rw [hrd, hq])
  simp only [State.tMin, State.tMax, hrd] at hclear hrefused
  refine ⟨fun h1 h2 => ⟨_, tmClear_eq v a data hs, ?_⟩, fun h => ⟨_, tmClear_eq v a data hs, ?_⟩⟩
  · exact (congrArg SAFE_TMSTAT_TRIP.bit (syncStretches_rd ..)).trans (hclear h1 h2)
  · obtain ⟨h1, h2, h3⟩ := hrefused h
    exact ⟨(congrArg SAFE_TMSTAT_TRIP.bit (syncStretches_rd ..)).trans h1,
      (congrArg SAFE_TMSTAT_CLRREF.bit (syncStretches_rd ..)).trans h2, (syncStretches_evPending ..).trans h3⟩

theorem dragShoe : Rules.DragShoe := fun _ =>
  ⟨fun hs _ _ => ⟨fun h => brkFlt_faulty (b := false) hs h, fun h => brkFlt_faulty (b := true) hs h, fun h => brkFlt_agrees hs h⟩,
    fun h hr ht => brakeTestStart_phase h hr ht, fun hs imin hp => brakeTestPhaseEnd imin hs hp,
    fun angle hk hp => brakeTestMotion angle hk hp, fun hh hk => dragShoeHoldEnd hh hk⟩

end

/-- Settles O45: a step of the monitor and a clear of TRIP read from their definitions; of the Drag Shoe, what one event or one
phase end shows, and that settling the outputs lets no fault flag fall. -/
theorem torqueMonitorAndDragShoe : Obligations.TorqueMonitorAndDragShoe := ⟨torqueMonitor, dragShoe⟩

end Sys2Proof.Proofs
end

section
/-! The periodic self-test and the spare rotation (R239, R250, R287, R358 to R360). -/

namespace Sys2Proof.Proofs

open Sys2Proof Sys2Proof.Machine Sys2Proof.Safety Sys2Proof.Laws

section
variable {s t u : State}

/-! ### Slots (R358) -/

theorem sliceStart_shows (b : BistUnit) (s : State) : (sliceStart b s).bist = b ∧ (sliceStart b s).flag BST_STAT BST_STAT_BUSY = true :=
  ⟨rfl, flag_setFlag_self _ _ _ _ (by decide) (by decide)⟩

/-- A slot whose configuration takes its kind is the first from itself on. -/
theorem slotFrom_self {n : Nat} (hn : n < 155) (hk : s.kindOn (slotKind n) = true) : s.slotFrom n = some n := by
  unfold State.slotFrom
  rw [List.find?_range_eq_some]
  refine ⟨by simp [hk], List.mem_range.mpr hn, fun j hj => ?_⟩
  simp only [Bool.not_eq_true', Bool.and_eq_false_iff, decide_eq_false_iff_not]
  omega

/-- Step 3 of R250 leaves every byte of memory. -/
theorem migCopy_frame (p : Nat) (s : State) : (migCopy p s).mem = s.mem ∧ (migCopy p s).regs = s.regs := by
  unfold migCopy
  extract_lets b lo cells
  split <;> exact ⟨rfl, rfl⟩

theorem bistSlotStart_core {k : Fin 3} (hs : s.awake = true) (hb : s.flag BST_STAT BST_STAT_BUSY = false) (hk : s.coreToTest = some k) :
    ∃ t, exec .bistSlotStart s = .next t ∧ t.bist = .core k ∧ t.flag BST_STAT BST_STAT_BUSY = true := by
  refine ⟨sliceStart (.core k) s, ?_, sliceStart_shows ..⟩
  change execBistSlotStart s = _
  unfold execBistSlotStart
  rw [if_neg (by simp [hs, hb]), hk]

theorem bistSlotStart_group {n : Nat} (hs : s.awake = true) (hb : s.flag BST_STAT BST_STAT_BUSY = false) (hk : s.coreToTest = none)
    (he : s.flag BST_CFG BST_CFG_EN = true) (hc : s.flag BST_CFG BST_CFG_CHAN = true) (hslot : s.fld BST_STAT BST_STAT_SLOT = n)
    (h1 : 139 ≤ n) (h2 : n < 155) (hm : s.flag MEM_SPARE MEM_SPARE_MIG = false) :
    ∃ t, exec .bistSlotStart s = .next t ∧ t.bist = .group (n - 139) ∧ t.flag BST_STAT BST_STAT_BUSY = true := by
  have hkind : s.kindOn 2 = true := hc
  have hsk : slotKind n = 2 := by
    unfold slotKind
    rw [if_neg (by omega), if_neg (by omega)]
  have hmig : (s.setFld BST_STAT BST_STAT_SLOT n).flag MEM_SPARE MEM_SPARE_MIG = false := (flag_setFld_ne (by decide)).trans hm
  have hpass : passSlot s = sliceStart (.group (n - 139)) (s.setFld BST_STAT BST_STAT_SLOT n) := by
    unfold passSlot
    rw [hslot, slotFrom_self h2 (by rw [hsk]; exact hkind)]
    dsimp only
    rw [hmig, if_neg (by decide), if_neg (by omega), if_neg (by omega)]
  refine ⟨passSlot s, ?_, by rw [hpass]; exact sliceStart_shows ..⟩
  change execBistSlotStart s = _
  unfold execBistSlotStart
  rw [if_neg (by simp [hs, hb]), hk]
  exact if_pos (by simp [he, hkind])

/-! ### The spare rotation (R250) -/

theorem migrationDone_leaves (hs : s.awake = true) (hm : s.flag MEM_SPARE MEM_SPARE_MIG = true)
    (hn : s.fld MEM_SPARE MEM_SPARE_SPARE ≤ 16) : ∃ t, exec .migrationDone s = .next t ∧
      t.flag MEM_SPARE MEM_SPARE_MIG = false ∧ t.flag BST_STAT BST_STAT_BUSY = true ∧ t.mem = s.mem ∧
      let n := s.fld MEM_SPARE MEM_SPARE_SPARE
      let down := if n = 0 then false else if n = 16 then true else s.flag MEM_SPARE MEM_SPARE_DOWN
      t.flag MEM_SPARE MEM_SPARE_DOWN = down ∧ t.fld MEM_SPARE MEM_SPARE_SPARE = (if down then n - 1 else n + 1) ∧
      t.bist = .bank (if down then n - 1 else n + 1) := by
  extract_lets n down
  have hsrc : s.rotationSource = (if down then n - 1 else n + 1, down) := by
    have h16 : (16 ≤ n) = (n = 16) := propext (by omega)
    unfold State.rotationSource
    extract_lets sp n' down'
    have hdown : down' = down := by
      simp only [down', down, ← h16]
      rfl
    rw [hdown]
    rfl
  have hlt : (if down then n - 1 else n + 1) < 32 := by split <;> omega
  generalize (if down then n - 1 else n + 1) = src at hsrc hlt ⊢
  obtain ⟨hmem, hregs⟩ := migCopy_frame 65536 s
  let v := (((migCopy 65536 s).setFld MEM_SPARE MEM_SPARE_SPARE src).setFlag MEM_SPARE MEM_SPARE_DOWN down).setFlag
    MEM_SPARE MEM_SPARE_MIG false
  have hexec : exec .migrationDone s = .next ({ v with bist := .bank src }.setFlag BST_STAT BST_STAT_BUSY true) := by
    change execMigrationDone s = _
    unfold execMigrationDone
    rw [if_pos (by simp [hs, hm]), hsrc]
  have hspare : ∀ o, o ≠ BST_STAT → ({ v with bist := .bank src }.setFlag BST_STAT BST_STAT_BUSY true).rd o = v.rd o :=
    fun o ho => rd_wr_of_ne _ _ ho
  refine ⟨_, hexec, ?_, flag_setFlag_self _ _ _ _ (by decide) (by decide), hmem, ?_, ?_, rfl⟩
  · exact (congrArg MEM_SPARE_MIG.bit (hspare _ (by decide))).trans (flag_setFlag_self _ _ _ _ (by decide) (by decide))
  · exact (congrArg MEM_SPARE_DOWN.bit (hspare _ (by decide))).trans
      ((flag_setFlag_apart (.inr (by decide))).trans (flag_setFlag_self _ _ _ _ (by decide) (by decide)))
  · refine (congrArg MEM_SPARE_SPARE.get (hspare _ (by decide))).trans ?_
    refine (fld_setFlag_apart (.inr (by decide))).trans ((fld_setFlag_apart (.inr (by decide))).trans ?_)
    exact (fld_setFld_self _ _ _ _ (by decide)).trans (Nat.mod_eq_of_lt hlt)

/-! ### The end of a slice (R358 to R360) -/

/-- What the move to the next slot changes: SLOT, the end of a pass with its event, and no more. -/
structure SlotStep (s t : State) : Prop where
  only : OnlyEvents s t
  rd : ∀ o, o ≠ BST_STAT → o ≠ BST_CNT → eventRegister o = false → t.rd o = s.rd o
  busy : t.flag BST_STAT BST_STAT_BUSY = s.flag BST_STAT BST_STAT_BUSY
  fail : t.flag BST_STAT BST_STAT_FAIL = s.flag BST_STAT BST_STAT_FAIL
  slices : t.fld BST_CNT BST_CNT_SLICES = s.fld BST_CNT BST_CNT_SLICES
  pending : ∀ src, evReserved src = false → s.evPending src = true → t.evPending src = true

theorem SlotStep.trans (h : SlotStep s t) (h' : SlotStep t u) : SlotStep s u :=
  ⟨h.only.trans h'.only, fun o h1 h2 h3 => (h'.rd o h1 h2 h3).trans (h.rd o h1 h2 h3), h'.busy.trans h.busy, h'.fail.trans h.fail,
    h'.slices.trans h.slices, fun src he hp => h'.pending src he (h.pending src he hp)⟩

theorem pending_wr {o : Nat} {w : Word} (ho : eventRegister o = false) {src : Nat} (he : evReserved src = false)
    (hp : s.evPending src = true) : (s.wr o w).evPending src = true := by
  have hne : EVT_PEND (src / 24) ≠ o := by
    rintro rfl
    exact (eventRegister_false ho).2 _ (evReserved_div he) rfl
  unfold State.evPending at hp ⊢
  rwa [rd_wr_of_ne _ _ hne]

theorem setSlot_step (n : Nat) (s : State) : SlotStep s (s.setFld BST_STAT BST_STAT_SLOT n) :=
  ⟨wr_onlyEvents .., fun o h1 _ _ => rd_wr_of_ne _ _ h1, flag_setFld_apart (.inl (by decide)), flag_setFld_apart (.inl (by decide)),
    fld_setFld_ne (by decide), fun _ he hp => pending_wr (by decide) he hp⟩

theorem passDone_step (s : State) : SlotStep s (passDone s) := by
  have hsq : SlotStep s (s.sq BST_STAT BST_STAT_DONE) :=
    ⟨sq_onlyEvents .., fun o h1 _ _ => rd_wr_of_ne _ _ h1, flag_sq_apart (.inr (by decide)) (by decide),
      flag_sq_apart (.inr (by decide)) (by decide), fld_sq_ne (by decide), fun _ he hp => pending_wr (by decide) he hp⟩
  refine hsq.trans (.trans (t := (s.sq BST_STAT BST_STAT_DONE).rcWrap BST_CNT BST_CNT_PASSES) ?_ ?_)
  · exact ⟨wr_onlyEvents .., fun o _ h2 _ => rd_wr_of_ne _ _ h2, flag_setFld_ne (by decide), flag_setFld_ne (by decide),
      fld_setFld_apart (.inr (by decide)), fun _ he hp => pending_wr (by decide) he hp⟩
  · exact ⟨raise_onlyEvents .., fun o _ _ ho => (raise_reports ..).rd o ho, (raise_reports ..).flag _ (by decide),
      (raise_reports ..).flag _ (by decide), (raise_reports ..).fld _ (by decide), fun _ he hp => (raise_reports ..).pending he hp⟩

theorem moveSlot_step (n : Nat) (s : State) : SlotStep s (moveSlot n s) := by
  unfold moveSlot
  split
  · exact setSlot_step ..
  · exact (passDone_step s).trans (setSlot_step ..)

/-- The slice is over and counted (R358). -/
def sliceEnded (s : State) : State :=
  ({ s with bist := .none }.setFlag BST_STAT BST_STAT_BUSY false).rcWrap BST_CNT BST_CNT_SLICES

theorem sliceEnded_shows (s : State) : (sliceEnded s).flag BST_STAT BST_STAT_BUSY = false ∧
    (sliceEnded s).fld BST_CNT BST_CNT_SLICES = (s.fld BST_CNT BST_CNT_SLICES + 1) % 65536 ∧
    ∀ o, o ≠ BST_STAT → o ≠ BST_CNT → (sliceEnded s).rd o = s.rd o := by
  refine ⟨(flag_setFld_ne (by decide)).trans (flag_setFlag_self _ _ _ _ (by decide) (by decide)), ?_, fun o h1 h2 => ?_⟩
  · refine (fld_setFld_self _ _ _ _ (by decide)).trans ?_
    have hcnt : ({ s with bist := .none }.setFlag BST_STAT BST_STAT_BUSY false).fld BST_CNT BST_CNT_SLICES =
        s.fld BST_CNT BST_CNT_SLICES := fld_setFlag_ne (by decide)
    rw [hcnt]
    rfl
  · exact (rd_wr_of_ne _ _ h2).trans (rd_wr_of_ne _ _ h1)

/-- The failure of a slice is shown with its event (R360). -/
theorem sliceFailed_shows (kind index mask : Nat) (hs : s.awake = true) :
    (sliceFailed kind index mask s).flag BST_STAT BST_STAT_FAIL = true ∧
    (sliceFailed kind index mask s).evPending (evMem 9) = true ∧
    (sliceFailed kind index mask s).flag BST_STAT BST_STAT_BUSY = s.flag BST_STAT BST_STAT_BUSY ∧
    (sliceFailed kind index mask s).bist = s.bist ∧
    ∀ o, o ≠ BST_STAT → o ≠ BST_RES → eventRegister o = false → (sliceFailed kind index mask s).rd o = s.rd o := by
  let v := if s.flag BST_STAT BST_STAT_FAIL then s
    else s.wr BST_RES (BST_RES_CHMASK.put (BST_RES_INDEX.put (BST_RES_KIND.put 0 kind) index) mask)
  have hv : v.awake = s.awake ∧ v.rd BST_STAT = s.rd BST_STAT ∧ v.bist = s.bist ∧ ∀ o, o ≠ BST_RES → v.rd o = s.rd o := by
    unfold v
    split
    · exact ⟨rfl, rfl, rfl, fun _ _ => rfl⟩
    · exact ⟨rfl, rd_wr_of_ne _ _ (by decide), rfl, fun _ ho => rd_wr_of_ne _ _ ho⟩
  obtain ⟨hawake, hstat, hbist, hrd⟩ := hv
  have heq : sliceFailed kind index mask s = capture 4 (evMem 9) ((v.sq BST_STAT BST_STAT_FAIL).raise (evMem 9)) := rfl
  have hev := raise_reports (v.sq BST_STAT BST_STAT_FAIL) (evMem 9)
  rw [heq, capture_flag, capture_evPending, capture_flag, capture_frame]
  refine ⟨?_, raise_pending _ (by decide) (hawake.trans hs), ?_, ?_, fun o h1 h2 h3 => ?_⟩
  · exact (hev.flag _ (by decide)).trans (flag_sq_self _ _ _ (by decide) (by decide))
  · exact (hev.flag _ (by decide)).trans ((flag_sq_apart (.inr (by decide)) (by decide)).trans (congrArg BST_STAT_BUSY.bit hstat))
  · obtain ⟨_, _, _, _, he⟩ := raise_onlyEvents (v.sq BST_STAT BST_STAT_FAIL) (evMem 9)
    rw [he]
    exact hbist
  · exact (hev.rd o h3).trans ((rd_wr_of_ne _ _ h1).trans (hrd o h2))

/-- A slice ends on a unit in the awake domain. -/
theorem bistSliceDone_eq (pass : Bool) (mask : BitVec 16) (hs : s.awake = true) (hb : s.flag BST_STAT BST_STAT_BUSY = true) :
    exec (.bistSliceDone pass mask) s = .next (
      let v := match s.bist with
        | .none => sliceEnded s
        | .core k => coreSliceDone k pass (sliceEnded s)
        | .bank b => if pass then sliceEnded s else sliceFailed 1 b 0 (retireBank (sliceEnded s))
        | .group g => groupSliceDone g pass mask (sliceEnded s)
      if (match s.bist with | .core k => decide (s.troika.plannedIso ≠ some k) | _ => false) then v
      else moveSlot (v.fld BST_STAT BST_STAT_SLOT + 1) v) := by
  change execBistSliceDone pass mask s = _
  unfold execBistSliceDone
  rw [if_neg (by simp [hs, hb])]
  rfl

/-! Cores (R239, R359) -/

theorem coreSlice_fails {k : Fin 3} (hs : s.awake = true) (hb : s.flag BST_STAT BST_STAT_BUSY = true) (hk : s.bist = .core k)
    (hp : s.troika.plannedIso ≠ some k) : ∃ t, exec (.bistSliceDone false 0) s = .next t ∧ t.bist = .none ∧
      t.flag BST_STAT BST_STAT_BUSY = false ∧ t.flag BST_STAT BST_STAT_FAIL = true ∧ t.evPending (evMem 9) = true ∧
      t.flag TRK_STAT TRK_STAT_BISTF = true ∧ (t.fld TRK_STAT TRK_STAT_PERM).testBit k = true := by
  obtain ⟨hbusy, _, _⟩ := sliceEnded_shows s
  let v := (sliceEnded s).updTrk (fun t => { t with plannedIso := none })
  let w := excludeCore k (v.sq TRK_STAT TRK_STAT_BISTF)
  have hw : WhiffStep v w := WhiffStep.refl.sq.excludeCore
  obtain ⟨hfail, hevt, hsame, hbist, hrd⟩ := sliceFailed_shows (s := w) 0 k.val 0 (hw.only.awake.trans hs)
  have hstat : (sliceFailed 0 k.val 0 w).rd TRK_STAT = w.rd TRK_STAT := hrd _ (by decide) (by decide) (by decide)
  refine ⟨sliceFailed 0 k.val 0 w, ?_, ?_, ?_, hfail, hevt, ?_, ?_⟩
  · rw [bistSliceDone_eq _ _ hs hb, hk]
    exact congrArg Host.Outcome.next (if_pos (decide_eq_true hp))
  · obtain ⟨_, _, _, _, _, _, _, he⟩ := hw.only
    rw [hbist, he]
    rfl
  · exact hsame.trans ((hw.writes.flag _ (by decide) (by decide)).trans hbusy)
  · refine (congrArg TRK_STAT_BISTF.bit hstat).trans ?_
    exact WhiffStep.refl.excludeCore.writes.keepsFlag (k := 15) (by decide) (by decide) (by decide) (by decide)
      (flag_sq_self v _ _ (by decide) (by decide))
  · refine (congrArg (fun x => (TRK_STAT_PERM.get x).testBit k) hstat).trans ?_
    exact (congrArg (fun x => (TRK_STAT_PERM.get x).testBit k) (excludeCore_trkStat ..)).trans (excludedWord_perm k.isLt _)

theorem coreSlice_passes {k : Fin 3} (hs : s.awake = true) (hb : s.flag BST_STAT BST_STAT_BUSY = true) (hk : s.bist = .core k)
    (hp : s.troika.plannedIso ≠ some k) (hr : s.flag TRK_CFG TRK_CFG_REJEN = true) :
    ∃ t, exec (.bistSliceDone true 0) s = .next t ∧ t.bist = .none ∧ t.troika.rejoinReady = true ∧
      t.unconfOf k = s.unconfOf k + 1 := by
  obtain ⟨_, _, hrd⟩ := sliceEnded_shows s
  let n := s.unconfOf k + 1
  let v := (sliceEnded s).updTrk (fun t => { t with unconf := mset (fun _ => 0) t.unconf k.val n })
  let w := if 2 ≤ v.isosOf k.val ∧ v.fld TRK_CFG TRK_CFG_UNCONF ≤ n then v.updTrk (fun t => { t with pathTestDue := true }) else v
  have hw : w.regs = v.regs ∧ w.bist = .none ∧ w.troika.unconf = v.troika.unconf := by
    unfold w
    split <;> exact ⟨rfl, rfl, rfl⟩
  obtain ⟨hregs, hbist, hunconf⟩ := hw
  have hrej : w.flag TRK_CFG TRK_CFG_REJEN = true := by
    refine (congrArg (fun r => TRK_CFG_REJEN.bit (mget regDefault r TRK_CFG)) hregs).trans ?_
    exact (congrArg TRK_CFG_REJEN.bit (hrd TRK_CFG (by decide) (by decide))).trans hr
  refine ⟨w.updTrk (fun x => { x with rejoinReady := true }), ?_, hbist, rfl, ?_⟩
  · have hplan : decide ((sliceEnded s).troika.plannedIso = some k) = false := decide_eq_false hp
    rw [bistSliceDone_eq _ _ hs hb, hk]
    refine congrArg Host.Outcome.next ((if_pos (decide_eq_true hp)).trans ?_)
    unfold coreSliceDone
    simp only [hplan, if_true, Bool.false_eq_true, if_false]
    exact if_pos hrej
  · have hset : mget (fun _ => 0) (mset (fun _ => 0) s.troika.unconf k.val n) k.val = n := mget_mset_self ..
    exact (congrArg (fun m => mget (fun _ => 0) m k.val) hunconf).trans hset

/-! Banks (R250, R360) -/

theorem bankSlice_fails {b : Nat} (mask : BitVec 16) (hs : s.awake = true) (hb : s.flag BST_STAT BST_STAT_BUSY = true)
    (hk : s.bist = .bank b) : ∃ t, exec (.bistSliceDone false mask) s = .next t ∧
      t.bist = .none ∧ t.flag MEM_SPARE MEM_SPARE_RET = true ∧ t.flag MEM_SPARE MEM_SPARE_ROTEN = false ∧
      t.flag BST_STAT BST_STAT_FAIL = true ∧ t.evPending (evMem 9) = true := by
  let v := ((sliceEnded s).setFlag MEM_SPARE MEM_SPARE_RET true).setFlag MEM_SPARE MEM_SPARE_ROTEN false
  let w := retireBank (sliceEnded s)
  have hwrd : w.rd MEM_SPARE = v.rd MEM_SPARE := ((raise_reports ..).rd _ (by decide)).trans (rd_wr_of_ne _ _ (by decide))
  have hwv : OnlyEvents (sliceEnded s) w := (((wr_onlyEvents ..).trans (wr_onlyEvents ..)).trans (sq_onlyEvents ..)).trans (raise_onlyEvents ..)
  obtain ⟨hfail, hevt, _, hbist, hrd⟩ := sliceFailed_shows (s := w) 1 b 0 (hwv.awake.trans hs)
  generalize hx : sliceFailed 1 b 0 w = x at hfail hevt hbist hrd
  have hstep := moveSlot_step (x.fld BST_STAT BST_STAT_SLOT + 1) x
  have hspare : (moveSlot (x.fld BST_STAT BST_STAT_SLOT + 1) x).rd MEM_SPARE = v.rd MEM_SPARE :=
    (hstep.rd _ (by decide) (by decide) (by decide)).trans ((hrd _ (by decide) (by decide) (by decide)).trans hwrd)
  refine ⟨moveSlot (x.fld BST_STAT BST_STAT_SLOT + 1) x, ?_, ?_, ?_, ?_, hstep.fail.trans hfail, hstep.pending _ (by decide) hevt⟩
  · rw [bistSliceDone_eq _ _ hs hb, hk, ← hx]
    rfl
  · obtain ⟨_, _, _, _, he⟩ := hstep.only
    obtain ⟨_, _, _, _, he'⟩ := hwv
    rw [he]
    refine hbist.trans ?_
    rw [he']
    rfl
  · exact (congrArg MEM_SPARE_RET.bit hspare).trans
      ((flag_setFlag_apart (.inr (by decide))).trans (flag_setFlag_self _ _ _ _ (by decide) (by decide)))
  · exact (congrArg MEM_SPARE_ROTEN.bit hspare).trans (flag_setFlag_self _ _ _ _ (by decide) (by decide))

/-! Channel groups (R287, R359, R360) -/

/-- Registers that go to their defaults, one after the other. -/
theorem rd_each_default (os : List Nat) (s : State) (o : Nat) :
    (each os (fun x t => t.wr x (regDefault x)) s).rd o = if o ∈ os then regDefault o else s.rd o := by
  induction os generalizing s with
  | nil => rfl
  | cons x os ih =>
    refine (ih _).trans ?_
    rw [rd_wr]
    by_cases hm : o ∈ os
    · simp [hm]
    · by_cases hx : o = x <;> simp [hm, hx]

/-- The block reset of a channel: its own registers, but for GAK and GDO. -/
theorem resetChannel_rd (c : Nat) (s : State) :
    (resetChannel c s).rd (GCH_TRIM c) = regDefault (GCH_TRIM c) ∧
    (resetChannel c s).gdo c = s.gdo c ∧
    ∀ o, ¬(GCH_CFG c ≤ o ∧ o < GCH_CFG c + 0x28) → (resetChannel c s).rd o = s.rd o := by
  unfold resetChannel
  extract_lets pins v
  have hmem : ∀ o, o ∈ (List.range 10).map (fun k => GCH_CFG c + 4 * k) ↔ ∃ k < 10, GCH_CFG c + 4 * k = o := fun o => by
    simp only [List.mem_map, List.mem_range]
  have hout : ∀ o, ¬(GCH_CFG c ≤ o ∧ o < GCH_CFG c + 0x28) →
      ((each ((List.range 10).map (fun k => GCH_CFG c + 4 * k)) (fun o t => t.wr o (regDefault o)) v).wr (GCH_STAT c) pins).rd o = s.rd o :=
    fun o ho => by
      rw [rd_wr_of_ne _ _ (by simp only [GCH_STAT, GCH_CFG] at ho ⊢; omega), rd_each_default, if_neg]
      · rfl
      · rw [hmem]
        rintro ⟨k, hk, rfl⟩
        omega
  refine ⟨?_, ?_, hout⟩
  · rw [rd_wr_of_ne _ _ (by simp only [GCH_STAT, GCH_TRIM]; omega), rd_each_default, if_pos]
    exact (hmem _).mpr ⟨1, by decide, by simp only [GCH_CFG, GCH_TRIM]; omega⟩
  · refine (congrArg GCH_STAT_GDO.bit (rd_wr_self ..)).trans ?_
    have hmask : (GCH_STAT_GAK.mask ||| GCH_STAT_GDO.mask).getLsbD GCH_STAT_GDO.lo = true := by decide
    rw [Fld.bit, BitVec.getLsbD_and, hmask, Bool.and_true]
    rfl

theorem resetChannel_bist (c : Nat) (s : State) : (resetChannel c s).bist = s.bist := by
  unfold resetChannel
  extract_lets pins v
  generalize (List.range 10).map (fun k => GCH_CFG c + 4 * k) = os
  have hv : Same State.bist s (each os (fun o t => t.wr o (regDefault o)) v) := Same.each (s := v) rfl fun _ _ _ => rfl
  exact hv

/-- What the resets of channels leave. -/
theorem resetChannels_leave {cs : List Nat} (hcs : ∀ c ∈ cs, c < 256) (s : State) :
    (∀ c ∈ cs, (each cs resetChannel s).rd (GCH_TRIM c) = regDefault (GCH_TRIM c)) ∧
    (∀ c, (each cs resetChannel s).gdo c = s.gdo c) ∧ (each cs resetChannel s).bist = s.bist ∧
    ∀ o, 0x110000 ≤ o → (each cs resetChannel s).rd o = s.rd o := by
  refine ⟨fun c hc => ?_, fun c => ?_, ?_, fun o ho => ?_⟩
  · refine each_establishes (P := fun _ => True) (Q := fun u => u.rd (GCH_TRIM c) = regDefault (GCH_TRIM c)) (fun _ _ _ _ => trivial)
      (fun d _ u _ hq => ?_) hc (fun u _ => (resetChannel_rd c u).1) s trivial
    by_cases hd : d = c
    · subst hd
      exact (resetChannel_rd d u).1
    · exact ((resetChannel_rd d u).2.2 _ (by simp only [GCH_CFG, GCH_TRIM]; omega)).trans hq
  · refine Same.each (f := fun u => u.gdo c) rfl fun d _ u => ?_
    by_cases hd : d = c
    · subst hd
      exact (resetChannel_rd d u).2.1
    · exact congrArg GCH_STAT_GDO.bit ((resetChannel_rd d u).2.2 _ (by simp only [GCH_CFG, GCH_STAT]; omega))
  · exact Same.each (f := State.bist) rfl fun d _ u => resetChannel_bist d u
  · refine Same.each (f := fun u => u.rd o) rfl fun d hd u => (resetChannel_rd d u).2.2 o ?_
    have := hcs d hd
    simp only [GCH_CFG]
    omega

theorem groupSlice_passes {g : Nat} (mask : BitVec 16) (hs : s.awake = true) (hb : s.flag BST_STAT BST_STAT_BUSY = true)
    (hk : s.bist = .group g) (hg : g < 16) : ∃ t, exec (.bistSliceDone true mask) s = .next t ∧ t.bist = .none ∧
      t.flag BST_STAT BST_STAT_BUSY = false ∧ t.fld BST_CNT BST_CNT_SLICES = (s.fld BST_CNT BST_CNT_SLICES + 1) % 65536 ∧
      (∀ i, i < 16 → s.chanEn (16 * g + i) = false → t.rd (GCH_TRIM (16 * g + i)) = regDefault (GCH_TRIM (16 * g + i))) ∧
      ∀ c, c < 256 → t.gdo c = s.gdo c := by
  obtain ⟨hbusy, hslices, hrd⟩ := sliceEnded_shows s
  have hcs : ∀ c, c ∈ (sliceEnded s).wholeTested g ↔ ∃ i < 16, c = 16 * g + i ∧ s.chanEn c = false := fun c => by
    have hen : (sliceEnded s).chanEn c = s.chanEn c := by
      have hcfg : GCH_CFG c ≠ BST_STAT ∧ GCH_CFG c ≠ BST_CNT := by simp only [GCH_CFG, BST_STAT, BST_CNT]; omega
      have hkept : (sliceEnded s).kept = s.kept := rfl
      have hheld : ∀ l, (sliceEnded s).heldLeg l = s.heldLeg l := fun _ => rfl
      simp only [State.chanEn, State.chanPos, State.inForce, hkept, hheld, hrd _ hcfg.1 hcfg.2]
    simp only [State.wholeTested, List.mem_filter, List.mem_map, List.mem_range, hen, Bool.not_eq_true']
    constructor
    · rintro ⟨⟨i, hi, rfl⟩, he⟩
      exact ⟨i, hi, rfl, he⟩
    · rintro ⟨i, hi, rfl, he⟩
      exact ⟨⟨i, hi, rfl⟩, he⟩
  have hlt : ∀ c ∈ (sliceEnded s).wholeTested g, c < 256 := fun c hc => by
    obtain ⟨i, hi, rfl, _⟩ := (hcs c).mp hc
    omega
  obtain ⟨htrim, hgdo, hbist, hout⟩ := resetChannels_leave hlt (sliceEnded s)
  generalize hv : each ((sliceEnded s).wholeTested g) resetChannel (sliceEnded s) = v at htrim hgdo hbist hout
  have hstep := moveSlot_step (v.fld BST_STAT BST_STAT_SLOT + 1) v
  have hmoved : ∀ c, c < 256 → (moveSlot (v.fld BST_STAT BST_STAT_SLOT + 1) v).rd (GCH_TRIM c) = v.rd (GCH_TRIM c) ∧
      (moveSlot (v.fld BST_STAT BST_STAT_SLOT + 1) v).rd (GCH_STAT c) = v.rd (GCH_STAT c) := fun c hc => by
    refine ⟨hstep.rd _ ?_ ?_ ?_, hstep.rd _ ?_ ?_ ?_⟩
    case refine_3 | refine_6 =>
      refine eventRegister_apart ?_ ?_ <;> simp only [GCH_TRIM, GCH_STAT] <;> omega
    all_goals
      simp only [GCH_TRIM, GCH_STAT, BST_STAT, BST_CNT]
      omega
  refine ⟨moveSlot (v.fld BST_STAT BST_STAT_SLOT + 1) v, ?_, ?_, ?_, ?_, fun i hi he => ?_, fun c hc => ?_⟩
  · rw [bistSliceDone_eq _ _ hs hb, hk, ← hv]
    rfl
  · obtain ⟨_, _, _, _, he⟩ := hstep.only
    rw [he]
    exact hbist
  · exact hstep.busy.trans ((congrArg BST_STAT_BUSY.bit (hout _ (by decide))).trans hbusy)
  · exact hstep.slices.trans ((congrArg BST_CNT_SLICES.get (hout _ (by decide))).trans hslices)
  · exact (hmoved _ (by omega)).1.trans (htrim _ ((hcs _).mpr ⟨i, hi, rfl, he⟩))
  · refine (congrArg GCH_STAT_GDO.bit (hmoved c hc).2).trans ((hgdo c).trans (congrArg GCH_STAT_GDO.bit (hrd _ ?_ ?_)))
    all_goals
      simp only [GCH_STAT, BST_STAT, BST_CNT]
      omega

/-- Settles O47: each slot, the end of a migration and the end of each kind of slice, with what the move to the next slot
leaves. -/
theorem selfTest : Obligations.SelfTest := fun _ hs =>
  ⟨fun _ hb hk => bistSlotStart_core hs hb hk, fun _ hb hk he hc hslot h1 h2 hm => bistSlotStart_group hs hb hk he hc hslot h1 h2 hm,
    fun hm hn => migrationDone_leaves hs hm hn,
    fun _ hb hk hp => ⟨coreSlice_fails hs hb hk hp, fun hr => coreSlice_passes hs hb hk hp hr⟩,
    fun _ mask hb hk => bankSlice_fails mask hs hb hk, fun _ mask hg hb hk => groupSlice_passes mask hs hb hk hg⟩

end
end Sys2Proof.Proofs
end

section
/-! What the cores do when they go on (R63, R90, R246): an imprecise error, a FENCE that completes, a debug halt that is due. -/

namespace Sys2Proof.Proofs

open Sys2Proof Sys2Proof.Machine Sys2Proof.Safety Sys2Proof.Laws

/-- The registers that a core that goes on leaves alone: TRK_INJ, and the flags that stay in TRK_STAT and EVT_PEND. -/
def goRegister (o : Nat) : Bool := decide (o = TRK_STAT) || decide (o = TRK_INJ) || eventRegister o

/-- The cores go on: none of the Whiffletree's findings changes, and neither do its pauses; a stop and a double fault may show. -/
structure GoStep (s t : State) : Prop where
  shown : ∀ i, 2 ≤ i → i < 18 → (t.rd TRK_STAT).getLsbD i = (s.rd TRK_STAT).getLsbD i
  keeps : ∀ i, 1 ≤ i → i < 24 → (s.rd TRK_STAT).getLsbD i = true → (t.rd TRK_STAT).getLsbD i = true
  inj : t.rd TRK_INJ = s.rd TRK_INJ
  pending : ∀ src, evReserved src = false → s.evPending src = true → t.evPending src = true
  testing : t.troika.pathTesting = s.troika.pathTesting
  held : t.troika.heldAccess = s.troika.heldAccess
  copying : t.troika.copying = s.troika.copying

section
variable {s₀ s t u : State}

theorem GoStep.refl : GoStep s s := ⟨fun _ _ _ => rfl, fun _ _ _ h => h, rfl, fun _ _ h => h, rfl, rfl, rfl⟩
theorem GoStep.trans (h : GoStep s t) (h' : GoStep t u) : GoStep s u :=
  ⟨fun i h1 h2 => (h'.shown i h1 h2).trans (h.shown i h1 h2), fun i h1 h2 hs => h'.keeps i h1 h2 (h.keeps i h1 h2 hs),
    h'.inj.trans h.inj, fun e he hs => h'.pending e he (h.pending e he hs), h'.testing.trans h.testing, h'.held.trans h.held,
    h'.copying.trans h.copying⟩
theorem GoStep.ite {c : Prop} [Decidable c] (h : GoStep s₀ s) (h' : GoStep s₀ t) : GoStep s₀ (if c then s else t) := by
  split
  · exact h
  · exact h'
theorem GoStep.each {α : Type} {xs : List α} {f : α → State → State} (h : GoStep s₀ s)
    (hf : ∀ x ∈ xs, ∀ u, GoStep u (f x u)) : GoStep s₀ (each xs f s) :=
  List.foldlRecOn xs _ h fun _ hu x hx => hu.trans (hf x hx _)

/-- A step that writes none of the registers. -/
theorem GoStep.off (h : GoStep s₀ s) (hr : ∀ o, goRegister o = true → t.rd o = s.rd o)
    (hp : t.troika.pathTesting = s.troika.pathTesting := by rfl) (hh : t.troika.heldAccess = s.troika.heldAccess := by rfl)
    (hc : t.troika.copying = s.troika.copying := by rfl) : GoStep s₀ t := by
  have hstat : t.rd TRK_STAT = s.rd TRK_STAT := hr _ (by decide)
  refine h.trans ⟨fun i _ _ => by rw [hstat], fun i _ _ hs => by rwa [hstat], hr _ (by decide), fun src he hs => ?_, hp, hh, hc⟩
  have hpend : ∀ k : Fin 11, goRegister (EVT_PEND k) = true := by decide
  rw [State.evPending, hr _ (hpend ⟨_, evReserved_div he⟩)]
  exact hs
/-- An update outside the registers and the pauses. -/
theorem GoStep.upd (h : GoStep s₀ s) (hr : t.regs = s.regs := by rfl)
    (hp : t.troika.pathTesting = s.troika.pathTesting := by rfl) (hh : t.troika.heldAccess = s.troika.heldAccess := by rfl)
    (hc : t.troika.copying = s.troika.copying := by rfl) : GoStep s₀ t :=
  h.off (fun o _ => congrArg (fun r => mget regDefault r o) hr) hp hh hc
theorem GoStep.wr {off : Nat} {w : Word} (h : GoStep s₀ s) (ho : goRegister off = false) : GoStep s₀ (s.wr off w) :=
  h.off fun o hg => rd_wr_of_ne s w fun he => by rw [he, ho] at hg; exact Bool.noConfusion hg
theorem GoStep.stat {w : Word} (h : GoStep s₀ s) (hw : ∀ i, 2 ≤ i → i < 18 → w.getLsbD i = (s.rd TRK_STAT).getLsbD i)
    (hk : ∀ i, 1 ≤ i → i < 24 → (s.rd TRK_STAT).getLsbD i = true → w.getLsbD i = true) : GoStep s₀ (s.wr TRK_STAT w) := by
  refine h.trans ⟨fun i h1 h2 => by rw [rd_wr_self, hw i h1 h2], fun i h1 h2 hs => by rw [rd_wr_self]; exact hk i h1 h2 hs,
    rd_wr_of_ne s w (by decide), fun src he hs => ?_, rfl, rfl, rfl⟩
  have hne : EVT_PEND (src / 24) ≠ TRK_STAT := by have := evReserved_div he; simp only [EVT_PEND, TRK_STAT]; omega
  rw [State.evPending, rd_wr_of_ne s w hne]
  exact hs
theorem GoStep.reports (h : GoStep s₀ s) (h' : Reports s t) : GoStep s₀ t := by
  refine h.trans ⟨fun i _ _ => by rw [h'.rd _ (by decide)], fun i _ h2 hs => h'.keeps _ i h2 (by decide) hs, h'.rd _ (by decide),
    fun _ he hs => h'.pending he hs, ?_, ?_, ?_⟩ <;> rw [h'.events.troika]
theorem GoStep.low (h : GoStep s₀ s) (h' : LowStep s t) : GoStep s₀ t := by
  refine h.trans ⟨fun i _ _ => by rw [h'.rd _ (low_of_lt (by decide)) (by decide)],
    fun i _ h2 hs => h'.keeps _ i (low_of_lt (by decide)) (by decide) h2 hs, h'.rd _ (low_of_lt (by decide)) (by decide),
    fun _ he hs => h'.pending he hs, ?_, ?_, ?_⟩ <;> rw [h'.only.troika]

theorem GoStep.fld (h : GoStep s t) {f : Fld} (h1 : 2 ≤ f.lo) (h2 : f.lo + f.len ≤ 18) :
    t.fld TRK_STAT f = s.fld TRK_STAT f := by
  refine Nat.eq_of_testBit_eq fun i => ?_
  simp only [State.fld, get_testBit]
  by_cases hi : i < f.len
  · rw [h.shown (f.lo + i) (by omega) (by omega)]
  · simp [hi]
theorem GoStep.flag (h : GoStep s t) {f : Fld} (h1 : 2 ≤ f.lo) (h2 : f.lo < 18) : t.flag TRK_STAT f = s.flag TRK_STAT f :=
  h.shown f.lo h1 h2
theorem GoStep.keepsFlag (h : GoStep s t) {f : Fld} (h1 : 1 ≤ f.lo) (h2 : f.lo < 24) (hs : s.flag TRK_STAT f = true) :
    t.flag TRK_STAT f = true := h.keeps f.lo h1 h2 hs
theorem GoStep.outCores (h : GoStep s t) : t.outCores = s.outCores := by
  simp only [State.outCores, h.fld (f := TRK_STAT_ISO) (by decide) (by decide), h.fld (f := TRK_STAT_PERM) (by decide) (by decide)]

/-! ### An exception -/

theorem GoStep.setStat {f : Fld} (h : GoStep s₀ s) (hf : f.lo < 2 ∨ f.lo = 18) (hl : f.len = 1) :
    GoStep s₀ (s.setFlag TRK_STAT f true) := by
  have hbit : ∀ i, f.lo ≤ i → i < f.lo + f.len → ((b2n true).testBit (i - f.lo)) = true := fun i h1 h2 => by
    rw [show i - f.lo = 0 by omega]
    rfl
  refine h.stat (fun i h1 h2 => ?_) fun i h1 h2 hs => ?_
  · rw [put_getLsbD, if_neg (by omega)]
  · rw [put_getLsbD]
    split
    · next hi => exact hbit i hi.1 hi.2.1
    · exact hs
theorem GoStep.sqDflt (h : GoStep s₀ s) : GoStep s₀ (s.sq TRK_STAT TRK_STAT_DFLT) := by
  have hm : ∀ i : Fin 18, TRK_STAT_DFLT.mask.getLsbD i = false := by decide
  refine h.stat (fun i h1 h2 => ?_) fun i h1 h2 hs => ?_
  · rw [put_getLsbD, if_neg (by simp only [seqFld]; omega), BitVec.getLsbD_or, hm ⟨i, h2⟩, Bool.or_false]
  · rw [put_getLsbD, if_neg (by simp only [seqFld]; omega), BitVec.getLsbD_or, hs, Bool.true_or]
theorem GoStep.raise {src : Nat} (h : GoStep s₀ s) : GoStep s₀ (s.raise src) := h.reports (raise_reports ..)
theorem GoStep.capture {k src : Nat} (h : GoStep s₀ s) : GoStep s₀ (capture k src s) :=
  h.upd (capture_regs s k src) (by simp) (by simp) (by simp)
theorem GoStep.trkStop (h : GoStep s₀ s) : GoStep s₀ (trkStop s) :=
  (h.setStat (.inl (by decide)) rfl : GoStep s₀ (stopIssue s)).raise.capture
theorem GoStep.setCore {c : CoreState} (h : GoStep s₀ s) : GoStep s₀ (s.setCore .troika c) := h.upd
theorem GoStep.enterException {cause eaddr epc : Word} (h : GoStep s₀ s) :
    GoStep s₀ (enterException .troika cause eaddr epc s) := by
  have hd : GoStep s₀ (doubleFault .troika s) := h.sqDflt.raise.trkStop
  unfold Machine.enterException
  extract_lets +onlyGivenNames c
  exact ite hd (ite hd h.setCore)
theorem GoStep.deliverImprecise (h : GoStep s₀ s) : GoStep s₀ (deliverImprecise s) := by
  unfold Machine.deliverImprecise
  split
  · exact h
  · next a rest _ =>
    have hd : GoStep s₀ (s.updTrk (fun t => { t with imprecise := rest })) := h.upd
    exact ite hd.enterException.upd h

/-! ### A FENCE, a debug halt -/

theorem GoStep.fenceAnswered (h : GoStep s₀ s) : GoStep s₀ (fenceAnswered s) := by
  unfold Machine.fenceAnswered
  split
  · refine ite h ?_
    have hw : GoStep s₀ (s.updTrk (fun t => { t with wait := .none })) := h.upd
    have hr : GoStep s₀ (retire .troika id (s.updTrk (fun t => { t with wait := .none }))) := hw.upd
    exact ite (ite hr hw.deliverImprecise).upd (ite hr hw.deliverImprecise)
  · exact h.deliverImprecise

theorem goRegister_axlCnt : ∀ a : Fin 4, goRegister (AXL_CNT a) = false := by decide
theorem goRegister_secrets : ∀ k : Fin 8, goRegister (CPL_ADMKEY k) = false ∧ goRegister (GRD_RXID k) = false ∧
    goRegister (GRD_TXID k) = false := by decide

theorem GoStep.holdCount {a : Nat} (ha : a < 4) (h : GoStep s₀ s) : GoStep s₀ (holdCount a s) :=
  ite (h.wr (goRegister_axlCnt ⟨a, ha⟩)) h
theorem GoStep.safeFor {c : SafeCause} {ls : List Nat} (h : GoStep s₀ s) : GoStep s₀ (safeFor c ls s) :=
  h.low LowStep.refl.safeFor
theorem GoStep.haltCores (h : GoStep s₀ s) : GoStep s₀ (haltCores s) := by
  unfold Machine.haltCores
  extract_lets +onlyGivenNames s1 s2 s3
  have h1 : GoStep s₀ s1 := h.each fun a ha u => ite (GoStep.refl.holdCount (List.mem_range.mp ha)) .refl
  have h2 : GoStep s₀ s2 := (h1.setStat (.inl (by decide)) rfl).wr (by decide)
  have h3 : GoStep s₀ s3 := h2.each fun a _ u => GoStep.refl.upd
  exact h3.safeFor
theorem GoStep.clearSecrets (h : GoStep s₀ s) : GoStep s₀ (clearSecrets s) := by
  unfold Machine.clearSecrets
  extract_lets +onlyGivenNames s1
  have h1 : GoStep s₀ s1 := h.each fun k hk u => by
    obtain ⟨hadm, hrx, htx⟩ := goRegister_secrets ⟨k, List.mem_range.mp hk⟩
    exact ((GoStep.refl.wr hadm).wr hrx).wr htx
  exact (h1.wr (by decide)).wr (by decide)
theorem GoStep.haltDue (h : GoStep s₀ s) : GoStep s₀ (haltDue s) := by
  unfold Machine.haltDue
  split
  · exact h
  · refine ite h.upd (ite ?_ h)
    have hh := (h.upd (t := s.updTrk fun t => { t with haltWanted := none, wait := .none })).haltCores
    exact ite hh.clearSecrets hh
theorem GoStep.coresGoOn (h : GoStep s₀ s) : GoStep s₀ (coresGoOn s) := h.fenceAnswered.haltDue

/-! ### Stopped cores -/

/-- Stopped cores do not go on: only a wish for a halt may be dropped. -/
theorem coresGoOn_stopped (h : s.flag TRK_STAT TRK_STAT_STOP = true) : ∃ tr, coresGoOn s = { s with troika := tr } := by
  have hs : TRK_STAT_STOP.bit (s.rd TRK_STAT) = true := h
  have hi : s.trkIssues = false := by simp [State.trkIssues, hs]
  have hr : s.trkResumes = false := by
    have : TRK_STAT_STOP.bit (({ s with troika := { s.troika with wait := .none } } : State).rd TRK_STAT) = true := h
    simp [State.trkResumes, State.trkIssues, this]
  have hf : fenceAnswered s = s := by
    unfold fenceAnswered
    split
    · simp [hr]
    · unfold deliverImprecise
      split
      · rfl
      · simp [hi]
  have hh : s.haltOk = false := by simp [State.haltOk, hs]
  rw [coresGoOn, hf]
  unfold haltDue
  split
  · exact ⟨_, rfl⟩
  · rw [if_pos (by simp [hh])]
    exact ⟨_, rfl⟩

end

end Sys2Proof.Proofs
end

section
/-! The path test of the Whiffletree (R242 to R244). -/

namespace Sys2Proof.Proofs

open Sys2Proof Sys2Proof.Machine Sys2Proof.Safety Sys2Proof.Laws

section
variable {s u : State} {f : PathFindings} {revote : Vote}

theorem outCores_congr {t : State} (h : t.rd TRK_STAT = s.rd TRK_STAT) : t.outCores = s.outCores := by
  simp only [State.outCores, State.fld, h]

/-! ### The request and the start -/

def cardInj : Card := ⟨0x20018, [], true, 0, [⟨TRK_INJ_REQ, .rh, false, false, .none⟩, ⟨TRK_INJ_RUNS, .rc, false, false, .none⟩,
  ⟨TRK_INJ_FAIL, .ro, false, false, .none⟩]⟩

theorem register_inj : plainRegister TRK_INJ cardInj [] = true := by decide +kernel

theorem pathTestRequest_leaves (ha : accepted .coachman TRK_INJ (withField s TRK_INJ TRK_INJ_REQ 1) s = true) :
    ∃ t, exec (.pathTestRequest .coachman) s = .next t ∧ t.flag TRK_INJ TRK_INJ_REQ = true ∧
      (s.flag TRK_INJ TRK_INJ_REQ = false → t.troika.wevSeen = false) := by
  have hr := written_flag (plainRegister_register register_inj) ha (by decide) (by decide)
  refine ⟨_, fieldCmd_written register_inj ha, ?_⟩
  rw [syncStretches_flag, syncStretches_troika]
  unfold fieldWritten
  generalize writtenWord .coachman TRK_INJ (withField s TRK_INJ TRK_INJ_REQ 1) s = w at hr ⊢
  dsimp only
  have heq : wrote TRK_INJ (s.rd TRK_INJ) w (s.countNow (([] : List Nat).headD 0)) noUpdate s (s.wr TRK_INJ w) =
      if TRK_INJ = TRK_INJ ∧ rose TRK_INJ_REQ (s.rd TRK_INJ) w then (s.wr TRK_INJ w).updTrk (fun t => { t with wevSeen := false })
      else s.wr TRK_INJ w := rfl
  rw [heq]
  have hreg : ∀ v : State, v.regs = (s.wr TRK_INJ w).regs → v.flag TRK_INJ TRK_INJ_REQ = true := fun v hv =>
    (congrArg (fun r => TRK_INJ_REQ.bit (mget regDefault r TRK_INJ)) hv).trans
      ((congrArg TRK_INJ_REQ.bit (rd_wr_self s TRK_INJ w)).trans hr)
  refine ⟨hreg _ (by split <;> rfl), fun h0 => ?_⟩
  have hrose : rose TRK_INJ_REQ (s.rd TRK_INJ) w = true := by
    have h0' : TRK_INJ_REQ.bit (s.rd TRK_INJ) = false := h0
    simp [rose, hr, h0']
  rw [if_pos ⟨rfl, hrose⟩]
  rfl

/-- The test has begun, and the cores pause. -/
def pathTestBegun (s : State) : State :=
  (((s.setFlag TRK_INJ TRK_INJ_REQ false).rc TRK_INJ TRK_INJ_RUNS).setFlag TRK_STAT TRK_STAT_RESYNC true).updTrk
    (fun t => { t with pathTesting := true, pathTestDue := false })

theorem exec_pathTest (h : s.pathTestReady = true) : exec .pathTest s = .next (pathTestBegun s) := by
  change execPathTest s = _
  unfold execPathTest
  rw [if_pos h]
  rfl

theorem pathTest_leaves (h : s.pathTestReady = true) : ∃ t, exec .pathTest s = .next t ∧ t.troika.pathTesting = true ∧
    t.flag TRK_STAT TRK_STAT_RESYNC = true ∧ t.flag TRK_INJ TRK_INJ_REQ = false := by
  have hrd : ∀ o, (pathTestBegun s).rd o =
      (((s.setFlag TRK_INJ TRK_INJ_REQ false).rc TRK_INJ TRK_INJ_RUNS).setFlag TRK_STAT TRK_STAT_RESYNC true).rd o := fun _ => rfl
  refine ⟨pathTestBegun s, exec_pathTest h, rfl, (congrArg TRK_STAT_RESYNC.bit (hrd _)).trans ?_,
    (congrArg TRK_INJ_REQ.bit (hrd _)).trans ?_⟩
  · exact flag_setFlag_self _ TRK_STAT TRK_STAT_RESYNC true (by decide) (by decide)
  · refine (flag_setFlag_ne (o := TRK_INJ) (by decide)).trans ((flag_setFld_apart (.inl (by decide))).trans ?_)
    exact flag_setFlag_self s TRK_INJ TRK_INJ_REQ false (by decide) (by decide)

/-! ### The end of the test -/

/-- The test is over: the pause ends, but for a copy pause. -/
def pathTestOver (u : State) : State :=
  (u.updTrk (fun t => { t with pathTesting := false, heldAccess := false, heldInstr := none })).setFlag TRK_STAT TRK_STAT_RESYNC
    u.troika.copying

/-- The cores after a test with the outcome `u`. -/
def afterPathTest (u : State) : State := syncStretches (coresGoOn (pathTestOver u))

theorem exec_pathTestDone (hs : s.awake = true) (ht : s.troika.pathTesting = true)
    (hu : pathOutcome f revote (s.setFld TRK_INJ TRK_INJ_FAIL (stepBits f)) = u) (hh : u.troika.heldInstr = none) :
    exec (.pathTestDone f revote) s = .next (afterPathTest u) := by
  change execPathTestDone f revote s = _
  unfold execPathTestDone
  rw [if_pos (by rw [hs, ht]; rfl), hu]
  dsimp only
  rw [hh]
  rfl

theorem pathTestOver_go (u : State) : GoStep (pathTestOver u) (coresGoOn (pathTestOver u)) := GoStep.refl.coresGoOn

theorem afterPathTest_pauses (u : State) : (afterPathTest u).troika.pathTesting = false ∧
    (afterPathTest u).troika.heldAccess = false ∧ (afterPathTest u).flag TRK_STAT TRK_STAT_RESYNC = u.troika.copying := by
  simp only [afterPathTest, syncStretches_troika, syncStretches_flag]
  have hgo := pathTestOver_go u
  refine ⟨hgo.testing, hgo.held, (hgo.flag (by decide) (by decide)).trans ?_⟩
  exact flag_setFlag_self _ TRK_STAT TRK_STAT_RESYNC _ (by decide) (by decide)

theorem afterPathTest_inj (u : State) : (afterPathTest u).rd TRK_INJ = u.rd TRK_INJ := by
  rw [afterPathTest, syncStretches_rd, (pathTestOver_go u).inj]
  exact rd_wr_of_ne _ _ (by decide)

/-- The fields of TRK_STAT but RESYNC are as the outcome left them. -/
theorem afterPathTest_fld (u : State) {g : Fld} (h1 : 4 ≤ g.lo) (h2 : g.lo + g.len ≤ 18) :
    (afterPathTest u).fld TRK_STAT g = u.fld TRK_STAT g := by
  rw [afterPathTest, syncStretches_fld, (pathTestOver_go u).fld (by omega) h2]
  exact fld_setFlag_apart (.inl (by simp only [TRK_STAT_RESYNC]; omega))

theorem afterPathTest_outCores (u : State) : (afterPathTest u).outCores = u.outCores := by
  simp only [State.outCores, afterPathTest_fld u (g := TRK_STAT_ISO) (by decide) (by decide),
    afterPathTest_fld u (g := TRK_STAT_PERM) (by decide) (by decide)]

theorem afterPathTest_keeps (u : State) {g : Fld} (h1 : 4 ≤ g.lo) (h2 : g.lo < 24) (h : u.flag TRK_STAT g = true) :
    (afterPathTest u).flag TRK_STAT g = true := by
  rw [afterPathTest, syncStretches_flag]
  refine (pathTestOver_go u).keepsFlag (by omega) h2 ?_
  exact (flag_setFlag_apart (.inl (by simp only [TRK_STAT_RESYNC]; omega))).trans h

theorem afterPathTest_pending (u : State) {src : Nat} (he : evReserved src = false) (h : u.evPending src = true) :
    (afterPathTest u).evPending src = true := by
  rw [afterPathTest, syncStretches_evPending]
  refine (pathTestOver_go u).pending src he ?_
  rw [State.evPending, pathTestOver, State.setFlag, State.setFld, rd_wr_of_ne]
  · exact h
  · have := evReserved_div he
    simp only [EVT_PEND, TRK_STAT]
    omega

/-! ### One finding -/

/-- The findings of the test, shown in FAIL. -/
theorem shown_fail {n : Nat} (hn : n < 64) : (s.setFld TRK_INJ TRK_INJ_FAIL n).fld TRK_INJ TRK_INJ_FAIL = n :=
  (fld_setFld_self s TRK_INJ TRK_INJ_FAIL n (by decide)).trans (Nat.mod_eq_of_lt hn)

/-- One voter copy is left in charge, and the service is asked for (R243). -/
theorem oneCopy_leaves {n : Nat} (hn : n < 4) (hs : s.awake = true) : (oneCopy n s).fld TRK_STAT TRK_STAT_VOTER = n ∧
    (oneCopy n s).flag TRK_STAT TRK_STAT_SVC = true ∧ (oneCopy n s).evPending TRK_SVC = true ∧
    (oneCopy n s).rd TRK_INJ = s.rd TRK_INJ ∧ (oneCopy n s).troika = s.troika := by
  let v := s.setFld TRK_STAT TRK_STAT_VOTER n
  have hr : Reports (v.sq TRK_STAT TRK_STAT_SVC) (oneCopy n s) := raise_reports _ _
  obtain ⟨hflag, hpend⟩ := sq_raise_noted v (src := TRK_SVC) (o := TRK_STAT) (f := TRK_STAT_SVC) (by decide) hs (by decide)
    (by decide) (by decide)
  refine ⟨(hr.fld _ (by decide)).trans ((fld_sq_apart (.inr (by decide)) (by decide)).trans ?_), hflag, hpend, ?_, hr.events.troika⟩
  · exact (fld_setFld_self s TRK_STAT TRK_STAT_VOTER n (by decide)).trans (Nat.mod_eq_of_lt hn)
  · exact (hr.rd _ (by decide)).trans ((rd_wr_of_ne _ _ (by decide)).trans (rd_wr_of_ne _ _ (by decide)))

/-- What the two outcomes that leave one copy in charge show. -/
theorem oneCopy_shown {n k : Nat} (hn : n < 4) (hk : k < 64) (hs : s.awake = true) (hi : s.troika.heldInstr = none) :
    let u := oneCopy n (s.setFld TRK_INJ TRK_INJ_FAIL k)
    u.troika.heldInstr = none ∧ (afterPathTest u).fld TRK_STAT TRK_STAT_VOTER = n ∧
      (afterPathTest u).fld TRK_INJ TRK_INJ_FAIL = k ∧ (afterPathTest u).flag TRK_STAT TRK_STAT_SVC = true ∧
      (afterPathTest u).evPending TRK_SVC = true := by
  intro u
  obtain ⟨hv, hsvc, hp, hinj, htrk⟩ := oneCopy_leaves (s := s.setFld TRK_INJ TRK_INJ_FAIL k) hn hs
  refine ⟨(congrArg Troika.heldInstr htrk).trans hi, (afterPathTest_fld u (by decide) (by decide)).trans hv, ?_,
    afterPathTest_keeps u (by decide) (by decide) hsvc, afterPathTest_pending u (by decide) hp⟩
  exact (congrArg TRK_INJ_FAIL.get ((afterPathTest_inj u).trans hinj)).trans (shown_fail hk)

/-- The exclusion of a core whose path fails (R243). -/
theorem excludeCore_shown {k : Nat} (hk : k < 3) (hs : s.awake = true) :
    ((excludeCore k s).fld TRK_STAT TRK_STAT_PERM).testBit k = true ∧ (excludeCore k s).rd TRK_INJ = s.rd TRK_INJ ∧
      (excludeCore k s).evPending TRK_SVC = true ∧ (excludeCore k s).troika.heldInstr = s.troika.heldInstr := by
  have hw : WhiffStep s (excludeCore k s) := WhiffStep.refl.excludeCore
  refine ⟨?_, hw.writes.rd _ (by decide) (by decide), ?_, ?_⟩
  · exact (congrArg (fun w => (TRK_STAT_PERM.get w).testBit k) (excludeCore_trkStat k s)).trans (excludedWord_perm hk _)
  · unfold excludeCore
    extract_lets w u1 u2
    refine raise_pending _ (by decide) (?_ : u1.awake = true)
    simp only [u1]
    split <;> exact hs
  · obtain ⟨_, _, _, _, _, _, _, he⟩ := hw.only
    rw [he]

/-- Without copy A's failure, the other copy or the comparator leaves copy A in charge (R243). -/
theorem pathOutcome_spare {b c : Bool} (h : (b || c) = true) :
    pathOutcome { copyB := b, comparator := c } revote s = oneCopy 1 s := by
  have hnone : failingPaths { copyB := b, comparator := c } = [] := by
    revert b c
    decide
  unfold pathOutcome
  rw [hnone]
  dsimp only
  rw [if_neg (by simp), if_neg (by simp), if_pos h]

/-! ### A fault that is not located -/

theorem pathOutcome_bothCopies (ha : f.copyA = true) (hb : f.copyB = true) : pathOutcome f revote s = pathUnlocated s := by
  unfold pathOutcome
  split
  · rw [if_pos (by rw [ha, hb]; rfl)]
  · rw [if_pos (by rw [ha]; rfl)]
  · rfl

theorem unlocated_rd {o : Nat} (ho : o ≠ TRK_STAT) (he : eventRegister o = false) : (unlocated s).rd o = s.rd o := by
  change (capture 1 TRK_FATAL ((stopIssue (s.sq TRK_STAT TRK_STAT_UNLOC)).raise TRK_FATAL)).rd o = _
  rw [capture_rd, raise_rd_apart _ _ he]
  exact (rd_wr_of_ne _ _ ho).trans (rd_wr_of_ne _ _ ho)

/-- Every leg is in SAFE and the Troika stands (R243). -/
theorem pathUnlocated_leaves (hs : s.awake = true) : (pathUnlocated s).flag TRK_STAT TRK_STAT_STOP = true ∧
    (pathUnlocated s).flag TRK_STAT TRK_STAT_UNLOC = true ∧ (pathUnlocated s).troika = s.troika ∧
    ∀ l, l < 32 → (pathUnlocated s).legSafe l ≠ 0 := by
  have hl : LowStep s (safeFor .unlocated (List.range 32) s) := LowStep.refl.safeFor
  have hsafe : ∀ l, l < 32 → (safeFor .unlocated (List.range 32) s).legSafe l ≠ 0 := fun l hl =>
    safeFor_safe (by decide) hl (List.mem_range.mpr hl)
  unfold pathUnlocated
  generalize safeFor .unlocated (List.range 32) s = v at hl hsafe ⊢
  obtain ⟨hstop, hun, -, htrk⟩ := unlocated_shows (s := v) (hl.only.awake.trans hs)
  refine ⟨hstop, hun, htrk.trans hl.only.troika, fun l hl32 => ?_⟩
  have he : eventRegister (LEG_STAT l) = false := eventRegister_apart (by simp only [LEG_STAT]; omega) (by simp only [LEG_STAT]; omega)
  have hrd : (unlocated v).rd (LEG_STAT l) = v.rd (LEG_STAT l) := unlocated_rd (by simp only [LEG_STAT, TRK_STAT]; omega) he
  rw [State.legSafe, State.fld, hrd]
  exact hsafe l hl32

/-- Stopped cores stay as the end of the test leaves them. -/
theorem afterPathTest_stopped (h : u.flag TRK_STAT TRK_STAT_STOP = true) (o : Nat) :
    (afterPathTest u).rd o = (pathTestOver u).rd o := by
  obtain ⟨tr, he⟩ := coresGoOn_stopped (s := pathTestOver u) ((flag_setFlag_apart (.inr (by decide))).trans h)
  rw [afterPathTest, syncStretches_rd, he]
  rfl

theorem stopped_shown (hstop : u.flag TRK_STAT TRK_STAT_STOP = true) (hun : u.flag TRK_STAT TRK_STAT_UNLOC = true)
    (hsafe : ∀ l, l < 32 → u.legSafe l ≠ 0) : (afterPathTest u).flag TRK_STAT TRK_STAT_STOP = true ∧
    (afterPathTest u).flag TRK_STAT TRK_STAT_UNLOC = true ∧ ∀ l, l < 32 → (afterPathTest u).legSafe l ≠ 0 := by
  have hrd := afterPathTest_stopped hstop
  refine ⟨(congrArg TRK_STAT_STOP.bit (hrd _)).trans ((flag_setFlag_apart (.inr (by decide))).trans hstop),
    afterPathTest_keeps _ (by decide) (by decide) hun, fun l hl => ?_⟩
  rw [State.legSafe, State.fld, hrd]
  refine ne_of_eq_of_ne (congrArg LEG_STAT_SAFE.get (rd_wr_of_ne _ _ ?_)) (hsafe l hl)
  simp only [LEG_STAT, TRK_STAT]
  omega

end

/-- The findings with one failing port are those of its core. -/
theorem failingPaths_port : ∀ k : Fin 3, failingPaths { ports := 1 <<< k.val } = [k.val] ∧
    stepBits { ports := 1 <<< k.val } = 32 := by decide

/-- Settles O49: the path test's request, its start, and its end with each of its outcomes. -/
theorem pathTest : Obligations.PathTest := by
  intro s hs
  refine ⟨pathTestRequest_leaves, pathTest_leaves, fun ht hi => ⟨?_, ?_, fun b c hbc => ?_, fun k ho => ?_, fun f revote ha hb => ?_⟩⟩
  · refine ⟨_, exec_pathTestDone hs ht (if_neg (by simp [Vote.differs])) hi, ?_⟩
    obtain ⟨h1, h2, h3⟩ := afterPathTest_pauses ((s.setFld TRK_INJ TRK_INJ_FAIL (stepBits {})).updTrk (fun t => { t with unconf := [] }))
    refine ⟨h1, h2, (congrArg TRK_INJ_FAIL.get (afterPathTest_inj _)).trans (shown_fail (by decide)), h3, ?_⟩
    exact (afterPathTest_outCores _).trans (outCores_congr (rd_wr_of_ne _ _ (by decide)))
  · obtain ⟨hh, hv, hf, hsvc, hp⟩ := oneCopy_shown (n := 2) (k := stepBits { copyA := true }) (by decide) (by decide) hs hi
    exact ⟨_, exec_pathTestDone hs ht rfl hh, hv, hf, hsvc, hp⟩
  · have hk : stepBits { copyB := b, comparator := c } < 64 := by revert b c; decide
    obtain ⟨hh, hv, -, hsvc, hp⟩ := oneCopy_shown (n := 1) (by decide) hk hs hi
    exact ⟨_, exec_pathTestDone hs ht (pathOutcome_spare hbc) hh, hv, hsvc, hp⟩
  · obtain ⟨hfp, hbits⟩ := failingPaths_port k
    let v := s.setFld TRK_INJ TRK_INJ_FAIL (stepBits { ports := 1 <<< k.val })
    obtain ⟨hperm, hinj, hp, hheld⟩ := excludeCore_shown (s := v) k.isLt hs
    have hout : pathOutcome { ports := 1 <<< k.val } .agree v = excludeCore k.val v := by
      have ho' : v.outCores = 0 := (outCores_congr (rd_wr_of_ne _ _ (by decide))).trans ho
      unfold pathOutcome
      rw [hfp]
      dsimp only
      rw [if_neg (by decide), if_pos (by rw [ho', Nat.zero_and])]
    refine ⟨_, exec_pathTestDone hs ht hout (hheld.trans hi), ?_, ?_, afterPathTest_pending _ (by decide) hp⟩
    · rw [afterPathTest_fld _ (by decide) (by decide)]
      exact hperm
    · refine (congrArg TRK_INJ_FAIL.get ((afterPathTest_inj _).trans hinj)).trans ?_
      exact (shown_fail (by rw [hbits]; decide)).trans hbits
  · have hv : (s.setFld TRK_INJ TRK_INJ_FAIL (stepBits f)).awake = true := hs
    obtain ⟨hstop, hun, htrk, hsafe⟩ := pathUnlocated_leaves hv
    exact ⟨_, exec_pathTestDone hs ht (pathOutcome_bothCopies ha hb) ((congrArg Troika.heldInstr htrk).trans hi),
      stopped_shown hstop hun hsafe⟩

end Sys2Proof.Proofs
end

section
/-! The signature vote, and the recovery of a core (R237 to R239). -/

namespace Sys2Proof.Proofs

open Sys2Proof Sys2Proof.Machine Sys2Proof.Safety Sys2Proof.Laws

/-! ### A core out of service -/

section
variable {s : State} {k : Nat}

/-- A core that is isolated is out, whether or not that excludes it (R239). -/
theorem isolateCore_out (hk : k < 3) : (isolateCore k s).outCores.testBit k = true := by
  unfold isolateCore
  extract_lets n s1 s2
  have hiso : (s2.fld TRK_STAT TRK_STAT_ISO).testBit k = true := by
    have hfld : s2.fld TRK_STAT TRK_STAT_ISO = (s1.fld TRK_STAT TRK_STAT_ISO ||| 2 ^ k) % 2 ^ TRK_STAT_ISO.len :=
      (fld_setFlag_apart (.inl (by decide))).trans (fld_setFld_self _ _ _ _ (by decide))
    rw [hfld, Nat.testBit_mod_two_pow, Nat.testBit_or, Nat.testBit_two_pow_self]
    simp [TRK_STAT_ISO, hk]
  have hlead : ∀ u : State, (setLeadOut u).outCores = u.outCores := fun u => outCores_congr (rd_wr_of_ne _ _ (by decide))
  rw [hlead]
  split
  · have hperm : ((excludeCore k s2).fld TRK_STAT TRK_STAT_PERM).testBit k = true :=
      (congrArg (fun w => (TRK_STAT_PERM.get w).testBit k) (excludeCore_trkStat k s2)).trans (excludedWord_perm hk _)
    rw [State.outCores, Nat.testBit_or, hperm, Bool.or_true]
  · rw [State.outCores, Nat.testBit_or, hiso, Bool.true_or]

end

/-! ### The vote -/

section
variable {s : State}

/-- What the vote leaves (R237). -/
def voted (r : Agreement × BitVec 32) (s : State) : State := match r.1 with
  | .all => s.wr TRK_SIGV (s.troika.sigVoted ^^^ r.2)
  | .odd k => latentDivergence k (s.wr TRK_SIGV (s.troika.sigVoted ^^^ r.2))
  | _ => unlocated (setFinding 3 kSignature 0 fSig s)

theorem exec_signatureVote {upset : BitVec 32 × BitVec 32 × BitVec 32} (hs : s.awake = true)
    (hr : s.troika.released = true) (hh : s.flag TRK_STAT TRK_STAT_HALT = false) (hc : s.troika.copying = false)
    (hp : s.flag TRK_STAT TRK_STAT_STOP = false) :
    exec (.signatureVote upset) s = .next (voted (compareCores s.outCores upset) s) := by
  have hh' : TRK_STAT_HALT.bit (s.rd TRK_STAT) = false := hh
  have hp' : TRK_STAT_STOP.bit (s.rd TRK_STAT) = false := hp
  change execSignatureVote upset s = _
  unfold execSignatureVote
  rw [if_neg (by simp [hs, hr, hh', hc, hp'])]
  obtain ⟨g, d⟩ := compareCores s.outCores upset
  cases g <;> rfl

/-- The finding that two of the cores agree against. -/
def latentShown (k : Fin 3) (s : State) : State :=
  ((((setFinding k.val kSignature 0 fSig s).sq TRK_STAT TRK_STAT_LATENT).rc TRK_CNT TRK_CNT_LATENT).raise TRK_LATENT).updTrk
    (fun t => { t with scrub := some k })

/-- The core's odd vote is counted. -/
def oddCounted (k : Fin 3) (s : State) : State :=
  s.updTrk (fun t => { t with oddVotes := mset (fun _ => 0) t.oddVotes k.val (mget (fun _ => 0) s.troika.oddVotes k.val + 1) })

theorem latentDivergence_eq (k : Fin 3) (s : State) : latentDivergence k s =
    if 3 ≤ mget (fun _ => 0) s.troika.oddVotes k.val + 1 then coreMismatch k.val kSignature 0 fSig (oddCounted k s)
    else latentShown k (oddCounted k s) := by
  unfold latentDivergence latentShown oddCounted
  rfl

theorem setFinding_stat {core kind addr fields : Nat} : (setFinding core kind addr fields s).rd TRK_STAT = s.rd TRK_STAT := by
  unfold setFinding
  extract_lets w1 w2 w3 s1
  exact (rd_wr_of_ne _ _ (by decide)).trans (rd_wr_of_ne _ _ (by decide))

theorem latentShown_leaves (k : Fin 3) (hs : s.awake = true) :
    (latentShown k s).flag TRK_STAT TRK_STAT_LATENT = true ∧ (latentShown k s).evPending TRK_LATENT = true ∧
      (latentShown k s).troika.scrub = some k ∧ (latentShown k s).outCores = s.outCores := by
  let f := setFinding k.val kSignature 0 fSig s
  let counted := (f.sq TRK_STAT TRK_STAT_LATENT).rc TRK_CNT TRK_CNT_LATENT
  have hstat : (latentShown k s).rd TRK_STAT = (f.sq TRK_STAT TRK_STAT_LATENT).rd TRK_STAT :=
    (raise_rd_apart counted TRK_LATENT (by decide)).trans (rd_wr_of_ne _ _ (by decide))
  refine ⟨(congrArg TRK_STAT_LATENT.bit hstat).trans (flag_sq_self f _ _ (by decide) (by decide)),
    raise_pending counted (by decide) hs, rfl, ?_⟩
  rw [State.outCores, State.outCores]
  have hf : ∀ g : Fld, g.lo + g.len ≤ 15 → (latentShown k s).fld TRK_STAT g = s.fld TRK_STAT g := fun g hg =>
    (congrArg g.get hstat).trans ((fld_sq_apart (.inr (by simp only [TRK_STAT_LATENT]; omega)) (by omega)).trans
      (congrArg g.get setFinding_stat))
  rw [hf _ (by decide), hf _ (by decide)]

/-- An odd vote of core 0: latent divergence, and at the third one a mismatch. -/
theorem latentDivergence_leaves (hs : s.awake = true) (ho : s.outCores = 0) :
    (mget (fun _ => 0) s.troika.oddVotes 0 < 2 → (latentDivergence 0 s).flag TRK_STAT TRK_STAT_LATENT = true ∧
      (latentDivergence 0 s).evPending TRK_LATENT = true ∧ (latentDivergence 0 s).troika.scrub = some 0 ∧
      (latentDivergence 0 s).outCores = 0) ∧
    (2 ≤ mget (fun _ => 0) s.troika.oddVotes 0 → (latentDivergence 0 s).flag TRK_STAT TRK_STAT_MISM = true ∧
      (latentDivergence 0 s).evPending TRK_MISMATCH = true ∧ (latentDivergence 0 s).outCores.testBit 0 = true) := by
  refine ⟨fun hn => ?_, fun hn => ?_⟩
  · rw [latentDivergence_eq, if_neg (by simp only [Fin.val_zero]; omega)]
    obtain ⟨hf, hp, hscrub, hout⟩ := latentShown_leaves (s := oddCounted 0 s) 0 hs
    exact ⟨hf, hp, hscrub, hout.trans ho⟩
  · rw [latentDivergence_eq, if_pos (by simp only [Fin.val_zero]; omega)]
    obtain ⟨hf, -, hp⟩ := coreMismatch_shows (s := oddCounted 0 s) (core := 0) (kind := kSignature) (addr := 0) (fields := fSig) hs
      (by decide)
    exact ⟨hf, hp, isolateCore_out (by decide)⟩

end

/-! ### The copy pause -/

section
variable {s t : State}

/-- The Troika's own state. -/
abbrev SameTroika : State → State → Prop := Same (fun s => s.troika)

theorem putBytes_troika (a : Nat) (bs : List Byte) : SameTroika s (s.putBytes a bs) := by
  have hb : ∀ u : State, SameTroika u (u.setBytes a bs) := fun u => by
    obtain ⟨m, h⟩ := setBytes_only u a bs
    rw [h]
    rfl
  unfold State.putBytes
  refine Same.trans (t := migWrite a bs s) ?_ (hb _)
  unfold migWrite
  refine .ite ?_ .refl
  extract_lets +onlyGivenNames u put
  have hu : SameTroika s u := Same.trans (t := migCopy (Config.freeNat s.draws % 65537) s) (.ite rfl rfl) rfl
  exact .ite (hu.trans rfl) hu

theorem memWriteUnit_troika (a : Nat) (bs : List Byte) (e : Ecc) : SameTroika s (memWriteUnit a bs e s) := by
  have hn : ∀ unc, SameTroika s (noteEcc unc a s) := fun unc => (LowStep.refl.noteEcc).only.troika
  unfold memWriteUnit
  refine .ite (Same.trans (t := s.setPoison a false) rfl (putBytes_troika a bs)) (.ite ?_ ?_)
  · exact (hn true).trans rfl
  · exact (Same.ite (hn false) .refl).trans (putBytes_troika a bs)

theorem waitCleared_troika (m : ClearMem) : SameTroika s (waitCleared m s) := by
  have hm : SameTroika s (clearMemory m s) := by
    unfold clearMemory
    exact .ite rfl rfl
  exact .ite (hm.trans rfl) .refl

theorem performStore_troika (a : Nat) (bs : List Byte) (e : Ecc) (portF : Bool) : SameTroika s (performStore a bs e portF s) := by
  have hw : SameTroika s (waitFor a s) := by
    unfold waitFor
    split
    · exact waitCleared_troika _
    · exact waitCleared_troika _
    · exact waitCleared_troika _
    · exact .refl
  have hm : SameTroika s (memWrite a bs e (waitFor a s)) :=
    .ite (hw.trans (memWriteUnit_troika a bs e)) (List.foldlRecOn _ _ hw fun _ hu _ _ => hu.trans (memWriteUnit_troika _ _ _))
  exact .ite (hm.trans (Same.trans (t := (memWrite a bs e (waitFor a s)).sq MEM_STAT MEM_STAT_TCOL) rfl
    (raise_onlyEvents _ _).troika)) hm

theorem applyCommit_troika (e : CommitEntry) (n : Nat) : SameTroika s (applyCommit e n s) := by
  by_cases hw : e.writes (s.commitPeriod e.ax n) = []
  · have : applyCommit e n s = s := if_pos hw
    rw [this]
    rfl
  · exact (applyCommit_after hw).only.troika.trans ((applyCompares_after ..).only.troika.trans (storeCompares_frame ..).1)

theorem drew_troika (n : Nat) (u : State) : (u.drew n).troika = u.troika := rfl

/-- The oldest entry leaves the buffer, and nothing else of the Troika changes. -/
theorem drainOldest_troika {e : BufEntry} {rest : List BufEntry} (h : s.troika.storeBuf = e :: rest) :
    (drainOldest s).troika = { s.troika with storeBuf := rest } := by
  unfold drainOldest
  rw [h]
  cases e with
  | commit e =>
    dsimp only
    rw [drew_troika, syncStretches_troika]
    have hp := applyCommit_troika (s := s.updTrk fun t => { t with storeBuf := rest }) e (s.drainCount e)
    generalize applyCommit e (s.drainCount e) (s.updTrk fun t => { t with storeBuf := rest }) = u at hp ⊢
    exact hp
  | store a bs e portF =>
    dsimp only
    have hp := performStore_troika (s := s.updTrk fun t => { t with storeBuf := rest }) a bs e portF
    simp only [drainLead, h]
    generalize performStore a bs e portF (s.updTrk fun t => { t with storeBuf := rest }) = u at hp ⊢
    exact hp

theorem drainStores_troika (s : State) : (drainStores s).troika = { s.troika with storeBuf := [] } := by
  have hfold : ∀ (buf : List BufEntry) (u : State), u.troika.storeBuf = buf →
      (buf.foldl (fun t _ => drainOldest t) u).troika = { u.troika with storeBuf := [] } := by
    intro buf
    induction buf with
    | nil => intro u h; rw [List.foldl_nil, ← h]
    | cons e rest ih =>
      intro u h
      have hd := drainOldest_troika h
      rw [List.foldl_cons, ih _ (by rw [hd]), hd]
  exact hfold _ s rfl

/-- The Axles that ask for the fallback at the pause (R189). -/
def pauseAsks (u : State) : State :=
  each ((List.range 4).filter (fun a => u.running a && decide (u.power = .drive) && !u.underFallback a
    && u.flag (HYS_CFG a) HYS_CFG_RSMODE)) (fun a t => askFallback a 3 t) u

theorem pauseAsks_troika (u : State) : SameTroika u (pauseAsks u) :=
  Same.each .refl fun _ _ _ => .ite rfl rfl

/-- The copy pause has begun. -/
def pauseBegun (u : State) : State :=
  ((pauseAsks u).setFlag TRK_STAT TRK_STAT_RESYNC true).updTrk (fun t => { t with copying := true })

theorem copyPause_leaves (hr : s.troika.rejoinReady = true) (ht : s.trkResumes = true)
    (hh : s.flag TRK_STAT TRK_STAT_HALT = false) (hw : ∀ tag rt rot, s.troika.wait ≠ .load tag rt rot) :
    ∃ t, exec .copyPause s = .next t ∧ t.flag TRK_STAT TRK_STAT_RESYNC = true ∧ t.troika.copying = true ∧
      t.troika.core = s.troika.core ∧ t.troika.storeBuf = [] := by
  have hh' : TRK_STAT_HALT.bit (s.rd TRK_STAT) = false := hh
  have hexec : exec .copyPause s = settled (pauseBegun (drainStores s)) := by
    change execCopyPause s = _
    unfold execCopyPause
    cases hwait : s.troika.wait with
    | load tag rt rot => exact absurd hwait (hw tag rt rot)
    | _ => dsimp only; rw [if_pos (by simp [hr, ht, hh'])]; rfl
  have htrk : (pauseBegun (drainStores s)).troika = { s.troika with storeBuf := [], copying := true } := by
    have h1 : (pauseAsks (drainStores s)).troika = { s.troika with storeBuf := [] } :=
      Eq.trans (pauseAsks_troika (drainStores s)) (drainStores_troika s)
    change { (pauseAsks (drainStores s)).troika with copying := true } = _
    rw [h1]
  refine ⟨_, hexec, ?_, ?_⟩
  · rw [syncStretches_flag]
    exact flag_setFlag_self (pauseAsks (drainStores s)) TRK_STAT TRK_STAT_RESYNC true (by decide) (by decide)
  · rw [syncStretches_troika, htrk]
    exact ⟨rfl, rfl, rfl⟩

/-! ### The end of the copy -/

/-- The pause is over. -/
def copyEnded (s : State) : State :=
  (s.setFlag TRK_STAT TRK_STAT_RESYNC false).updTrk (fun t => { t with rejoinReady := false, copying := false })

/-- No core is isolated any more. -/
def coresBack (u : State) : State := setDual ((u.updTrk (fun x => { x with plannedIso := none })).setFld TRK_STAT TRK_STAT_ISO 0)

/-- The recovery is reported. -/
def rejoinShown (u : State) : State := ((u.sq TRK_STAT TRK_STAT_REJOIN).rc TRK_CNT TRK_CNT_REJOIN).raise TRK_REJOIN

theorem exec_trkRejoin (hs : s.awake = true) (hc : s.troika.copying = true) (hp : s.troika.pathTesting = false) (b : Bool) :
    exec (.trkRejoin b) s = if b then settled (unlocated (setFinding 3 kAccess 0 0 (copyEnded s)))
      else settled (coresGoOn (rejoinShown (coresBack (copyEnded s)))) := by
  change execTrkRejoin b s = _
  unfold execTrkRejoin
  rw [if_pos (by simp [hs, hc, hp])]
  rfl

theorem coresBack_stat (u : State) : (coresBack u).rd TRK_STAT =
    TRK_STAT_DUAL.put (TRK_STAT_ISO.put (u.rd TRK_STAT) 0) (b2n (decide (TRK_STAT_PERM.get (u.rd TRK_STAT) ≠ 0))) := by
  let v := (u.updTrk (fun x => { x with plannedIso := none })).setFld TRK_STAT TRK_STAT_ISO 0
  have hv : v.rd TRK_STAT = TRK_STAT_ISO.put (u.rd TRK_STAT) 0 := rd_wr_self ..
  have hout : v.outCores = TRK_STAT_PERM.get (u.rd TRK_STAT) := by
    simp only [State.outCores, State.fld, hv]
    rw [get_put_self _ _ _ (by decide), get_put_apart _ _ _ _ (.inr (by decide))]
    simp
  have h1 : (coresBack u).rd TRK_STAT = (v.setFlag TRK_STAT TRK_STAT_DUAL (decide (v.outCores ≠ 0))).rd TRK_STAT :=
    rd_wr_of_ne _ _ (by decide)
  rw [h1, State.setFlag, State.setFld, rd_wr_self, hv, hout]

theorem rejoinShown_fld (u : State) {g : Fld} (hg : g.lo + g.len ≤ 17) : (rejoinShown u).fld TRK_STAT g = u.fld TRK_STAT g := by
  refine ((raise_reports _ _).fld _ (by decide)).trans ((fld_setFld_ne (by decide)).trans ?_)
  exact fld_sq_apart (.inr hg) (by omega)

theorem rejoinShown_shows (u : State) (hu : u.awake = true) : (rejoinShown u).flag TRK_STAT TRK_STAT_REJOIN = true ∧
    (rejoinShown u).evPending TRK_REJOIN = true ∧ (rejoinShown u).troika = u.troika := by
  let v := (u.sq TRK_STAT TRK_STAT_REJOIN).rc TRK_CNT TRK_CNT_REJOIN
  refine ⟨?_, raise_pending v (by decide) hu, (raise_onlyEvents v TRK_REJOIN).troika⟩
  refine ((raise_reports v TRK_REJOIN).flag _ (by decide)).trans ((flag_setFld_ne (by decide)).trans ?_)
  exact flag_sq_self u _ _ (by decide) (by decide)

theorem bit_of_fld {f : Fld} {w : Word} {b : Bool} (hl : f.len = 1) (h : f.get w = b2n b) : f.bit w = b := by
  rw [bit_eq_testBit f (by omega), h]
  cases b <;> rfl

theorem rejoin_leaves (hs : s.awake = true) (hc : s.troika.copying = true) (hp : s.troika.pathTesting = false) :
    ∃ t, exec (.trkRejoin false) s = .next t ∧ t.flag TRK_STAT TRK_STAT_RESYNC = false ∧ t.troika.copying = false ∧
      t.fld TRK_STAT TRK_STAT_ISO = 0 ∧ t.flag TRK_STAT TRK_STAT_DUAL = decide (s.fld TRK_STAT TRK_STAT_PERM ≠ 0) ∧
      t.flag TRK_STAT TRK_STAT_REJOIN = true ∧ t.evPending TRK_REJOIN = true := by
  refine ⟨_, exec_trkRejoin hs hc hp false, ?_⟩
  let u := coresBack (copyEnded s)
  have hgo : GoStep (rejoinShown u) (coresGoOn (rejoinShown u)) := GoStep.refl.coresGoOn
  obtain ⟨hflag, hpend, htrk⟩ := rejoinShown_shows u hs
  have hstat : u.rd TRK_STAT = TRK_STAT_DUAL.put (TRK_STAT_ISO.put (TRK_STAT_RESYNC.put (s.rd TRK_STAT) 0) 0)
      (b2n (decide (s.fld TRK_STAT TRK_STAT_PERM ≠ 0))) := by
    have h0 : (copyEnded s).rd TRK_STAT = TRK_STAT_RESYNC.put (s.rd TRK_STAT) 0 := rd_wr_self ..
    rw [coresBack_stat, h0, get_put_apart _ _ _ _ (.inl (by decide))]
    rfl
  have hfld : ∀ g : Fld, 2 ≤ g.lo → g.lo + g.len ≤ 17 → (coresGoOn (rejoinShown u)).fld TRK_STAT g = g.get (u.rd TRK_STAT) :=
    fun g h1 h2 => (hgo.fld h1 (by omega)).trans (rejoinShown_fld u h2)
  simp only [syncStretches_flag, syncStretches_troika, syncStretches_fld, syncStretches_evPending]
  refine ⟨bit_of_fld rfl ((hfld _ (by decide) (by decide)).trans ?_), hgo.copying.trans (congrArg Troika.copying htrk),
    (hfld _ (by decide) (by decide)).trans ?_, bit_of_fld rfl ((hfld _ (by decide) (by decide)).trans ?_),
    hgo.keepsFlag (by decide) (by decide) hflag, hgo.pending _ (by decide) hpend⟩
  · rw [hstat, get_put_apart _ _ _ _ (.inl (by decide)), get_put_apart _ _ _ _ (.inr (by decide)), get_put_self _ _ _ (by decide)]
    rfl
  · rw [hstat, get_put_apart _ _ _ _ (.inl (by decide)), get_put_self _ _ _ (by decide), Nat.zero_mod]
  · rw [hstat, get_put_self _ _ _ (by decide)]
    cases decide (s.fld TRK_STAT TRK_STAT_PERM ≠ 0) <;> rfl

end

/-- Settles O48: the signature vote with each of its outcomes, the copy pause, and the end of a copy. -/
theorem signatureAndRecovery : Obligations.SignatureAndRecovery := by
  intro s hs
  refine ⟨fun hr hh hc hp => ⟨fun d => ?_, fun d e hde ho => ?_, fun d e f h1 h2 h3 ho => ?_⟩, copyPause_leaves, fun hc hp => ⟨?_, ?_⟩⟩
  · refine ⟨_, exec_signatureVote hs hr hh hc hp, ?_⟩
    rw [compareCores_same]
    exact ⟨rd_wr_self .., rfl⟩
  · have hexec := exec_signatureVote (upset := (e, d, d)) hs hr hh hc hp
    rw [ho, compareCores_odd hde] at hexec
    have hov : (s.wr TRK_SIGV (s.troika.sigVoted ^^^ d)).outCores = 0 := (outCores_congr (rd_wr_of_ne _ _ (by decide))).trans ho
    obtain ⟨hlatent, hmism⟩ := latentDivergence_leaves (s := s.wr TRK_SIGV (s.troika.sigVoted ^^^ d)) hs hov
    exact ⟨fun hn => ⟨_, hexec, hlatent hn⟩, fun hn => ⟨_, hexec, hmism hn⟩⟩
  · have hexec := exec_signatureVote (upset := (d, e, f)) hs hr hh hc hp
    rw [ho, compareCores_none h1 h2 h3] at hexec
    obtain ⟨hstop, hun, hp', -⟩ := unlocated_shows (s := setFinding 3 kSignature 0 fSig s) hs
    exact ⟨_, hexec, hstop, hun, hp'⟩
  · exact rejoin_leaves hs hc hp
  · obtain ⟨hstop, hun, -, -⟩ := unlocated_shows (s := setFinding 3 kAccess 0 0 (copyEnded s)) hs
    refine ⟨_, exec_trkRejoin hs hc hp true, ?_⟩
    rw [syncStretches_flag, syncStretches_flag]
    exact ⟨hstop, hun⟩

end Sys2Proof.Proofs
end

section
/-! Debugging (R108, R245 to R247, R362): sessions, halts, steps, the resume, and the debugger's writes. -/

namespace Sys2Proof.Proofs

open Sys2Proof Sys2Proof.Machine Sys2Proof.Safety Sys2Proof.Laws

section
variable {s t u : State}

/-! ### The session -/

/-- The answer opens a session: the key is the device's, and the signature verifies (R245). -/
def debugAnswered (challenge : BitVec 128) (qx qy r sg : BitVec 256) (s : State) : Bool :=
  !s.flag SYS_CHOCK SYS_CHOCK_DBG &&
    decide (beNat (sha256 (beBytes 32 qx.toNat ++ beBytes 32 qy.toNat)) = Config.otpDebugKeyHash) &&
    ecdsaVerify qx.toNat qy.toNat (beNat (sha256 ((List.range 16).map (byteOf challenge) ++ wordBytes (s.rd SYS_ID)))) r.toNat sg.toNat

theorem exec_debugAuthentication (hs : s.awake = true) (challenge : BitVec 128) (qx qy r sg : BitVec 256) :
    exec (.debugAuthentication challenge qx qy r sg) s =
      .next (if debugAnswered challenge qx qy r sg s then s.setFlag TRK_DBG TRK_DBG_SESSION true else s) := by
  change execDebugAuthentication challenge qx qy r sg s = _
  unfold execDebugAuthentication debugAnswered
  dsimp only
  rw [hs, Bool.true_and]
  split <;> rfl

theorem debugAuthentication_leaves (hs : s.awake = true) (challenge : BitVec 128) (qx qy r sg : BitVec 256) :
    ∃ t, exec (.debugAuthentication challenge qx qy r sg) s = .next t ∧ (∀ x, x ≠ TRK_DBG → t.rd x = s.rd x) ∧
      t.flag TRK_DBG TRK_DBG_SESSION = (s.flag TRK_DBG TRK_DBG_SESSION || debugAnswered challenge qx qy r sg s) := by
  refine ⟨_, exec_debugAuthentication hs challenge qx qy r sg, ?_⟩
  cases debugAnswered challenge qx qy r sg s with
  | false => exact ⟨fun _ _ => rfl, (Bool.or_false _).symm⟩
  | true =>
    refine ⟨fun x hx => rd_wr_of_ne _ _ hx, ?_⟩
    rw [Bool.or_true]
    exact flag_setFlag_self s TRK_DBG TRK_DBG_SESSION true (by decide) (by decide)

/-! ### The halt -/

/-- The cores stand with every leg in SAFE; nothing of the Troika's own state changes (R108, R246). -/
theorem haltCores_shows (s : State) : (haltCores s).flag TRK_STAT TRK_STAT_HALT = true ∧ (haltCores s).troika = s.troika ∧
    ∀ l, l < 32 → (haltCores s).legSafe l ≠ 0 := by
  unfold haltCores
  extract_lets +onlyGivenNames s1 s2 s3
  have h1 : SameTroika s s1 := Same.each .refl fun a _ v => .ite (by unfold holdCount; exact .ite rfl rfl) rfl
  have h2 : SameTroika s s2 := h1
  have h3 : SameTroika s2 s3 := Same.each .refl fun _ _ _ => rfl
  have hflag : s3.flag TRK_STAT TRK_STAT_HALT = true := by
    have hu : Untouched (fun _ => True) s2 s3 := Untouched.refl.each fun _ _ _ => Untouched.refl.upd
    refine (hu.flag trivial _).trans ((flag_setFlag_ne (by decide)).trans ?_)
    exact flag_setFlag_self s1 TRK_STAT TRK_STAT_HALT true (by decide) (by decide)
  have hl : LowStep s3 (safeFor .debugHalt (List.range 32) s3) := LowStep.refl.safeFor
  exact ⟨hl.keepsFlag (low_of_lt (by decide)) (by decide) (by decide) hflag, hl.only.troika.trans (h2.trans h3),
    fun l hl => safeFor_safe (by decide) hl (List.mem_range.mpr hl)⟩

/-- The registers that hold key-derived data. -/
def isSecret (o : Nat) : Prop :=
  o = SAFE_SEALPW 0 ∨ o = SAFE_SEALPW 1 ∨ ∃ k < 8, o = CPL_ADMKEY k ∨ o = GRD_RXID k ∨ o = GRD_TXID k

theorem clearSecrets_keeps : Untouched (fun o => ¬isSecret o) s (clearSecrets s) := by
  unfold clearSecrets
  extract_lets +onlyGivenNames s1
  have h1 : Untouched (fun o => ¬isSecret o) s s1 := Untouched.refl.each fun k hk u => by
    have hk := List.mem_range.mp hk
    have hsec : ∀ o, (o = CPL_ADMKEY k ∨ o = GRD_RXID k ∨ o = GRD_TXID k) → ¬¬isSecret o := fun o ho hn => hn (.inr (.inr ⟨k, hk, ho⟩))
    exact ((Untouched.refl.wr (hsec _ (.inl rfl))).wr (hsec _ (.inr (.inl rfl)))).wr (hsec _ (.inr (.inr rfl)))
  exact (h1.wr fun h => h (.inl rfl)).wr fun h => h (.inr (.inl rfl))

theorem wr_troika (o : Nat) (w : Word) : SameTroika s (s.wr o w) := rfl

theorem clearSecrets_troika : SameTroika s (clearSecrets s) := by
  unfold clearSecrets
  extract_lets +onlyGivenNames s1
  have h1 : SameTroika s s1 := Same.each .refl fun _ _ _ => ((wr_troika _ _).trans (wr_troika _ _)).trans (wr_troika _ _)
  exact (h1.trans (wr_troika _ _)).trans (wr_troika _ _)

/-- The keys read zero. -/
theorem clearSecrets_zero (s : State) : (clearSecrets s).rd (SAFE_SEALPW 0) = 0 ∧
    ∀ k, k < 8 → (clearSecrets s).rd (CPL_ADMKEY k) = 0 := by
  unfold clearSecrets
  extract_lets +onlyGivenNames s1
  refine ⟨(rd_wr_of_ne _ _ (by decide)).trans (rd_wr_self ..), fun k hk => ?_⟩
  have hz : s1.rd (CPL_ADMKEY k) = 0 := by
    have hrd : ∀ (j : Nat) (u : State), j < 8 → (((u.wr (CPL_ADMKEY j) 0).wr (GRD_RXID j) 0).wr (GRD_TXID j) 0).rd (CPL_ADMKEY k) =
        if CPL_ADMKEY k = CPL_ADMKEY j then 0 else u.rd (CPL_ADMKEY k) := fun j u hj => by
      have hne : CPL_ADMKEY k ≠ GRD_TXID j ∧ CPL_ADMKEY k ≠ GRD_RXID j := by
        simp only [CPL_ADMKEY, GRD_TXID, GRD_RXID]
        omega
      rw [rd_wr_of_ne _ _ hne.1, rd_wr_of_ne _ _ hne.2, rd_wr]
    refine each_establishes (P := fun _ => True) (Q := fun u => u.rd (CPL_ADMKEY k) = 0) (fun _ _ _ _ => trivial)
      (fun j hj u _ hq => ?_) (List.mem_range.mpr hk) (fun u _ => (hrd k u hk).trans (if_pos rfl)) s trivial
    rw [hrd j u (List.mem_range.mp hj), hq, ite_self]
  have hne : CPL_ADMKEY k ≠ SAFE_SEALPW 0 ∧ CPL_ADMKEY k ≠ SAFE_SEALPW 1 := by
    simp only [CPL_ADMKEY, SAFE_SEALPW]
    omega
  exact (rd_wr_of_ne _ _ hne.2).trans ((rd_wr_of_ne _ _ hne.1).trans hz)

/-- The state in which a halt that is due finds the cores. -/
def haltTaken (s : State) : State := haltCores (s.updTrk (fun t => { t with haltWanted := none, wait := .none }))

theorem haltDue_taken {scan : Bool} (hw : s.troika.haltWanted = some scan) (h : s.haltOk = true) (hb : s.atBoundary = true) :
    haltDue s = if scan then clearSecrets (haltTaken s) else haltTaken s := by
  unfold haltDue
  rw [hw]
  dsimp only
  rw [if_neg (by rw [h]; decide), if_pos hb]
  rfl

theorem haltDue_waits {scan : Bool} (hw : s.troika.haltWanted = some scan) (h : s.haltOk = true) (hb : s.atBoundary = false) :
    haltDue s = s := by
  unfold haltDue
  rw [hw]
  dsimp only
  rw [if_neg (by rw [h]; decide), if_neg (by rw [hb]; decide)]

theorem exec_debugHalt (h : s.haltOk = true) (scan : Bool) :
    exec (.debugHalt scan) s = settled (haltDue (s.updTrk (fun t => { t with haltWanted := some scan }))) := by
  change execDebugHalt scan s = _
  unfold execDebugHalt
  rw [if_pos h]

theorem debugHalt_leaves (h : s.haltOk = true) (hb : s.atBoundary = true) (scan : Bool) :
    ∃ t, exec (.debugHalt scan) s = .next t ∧ t.flag TRK_STAT TRK_STAT_HALT = true ∧ t.troika.core = s.troika.core ∧
      (∀ l, l < 32 → t.legSafe l ≠ 0) ∧
      (scan = true → t.rd (SAFE_SEALPW 0) = 0 ∧ ∀ k, k < 8 → t.rd (CPL_ADMKEY k) = 0) := by
  let v := s.updTrk (fun t => { t with haltWanted := some scan })
  have hdue : haltDue v = if scan then clearSecrets (haltTaken v) else haltTaken v := haltDue_taken (s := v) rfl h hb
  obtain ⟨hflag, htrk, hsafe⟩ := haltCores_shows (v.updTrk (fun t => { t with haltWanted := none, wait := .none }))
  refine ⟨_, exec_debugHalt h scan, ?_⟩
  simp only [syncStretches_flag, syncStretches_troika, syncStretches_legSafe, syncStretches_rd]
  have hcore : (haltTaken v).troika.core = s.troika.core := by
    rw [haltTaken, htrk]
    rfl
  change (haltDue v).flag _ _ = _ ∧ (haltDue v).troika.core = _ ∧ (∀ l, l < 32 → (haltDue v).legSafe l ≠ 0) ∧
    (scan = true → (haltDue v).rd _ = 0 ∧ ∀ k, k < 8 → (haltDue v).rd _ = 0)
  rw [hdue]
  cases scan with
  | false =>
    rw [if_neg Bool.false_ne_true]
    exact ⟨hflag, hcore, hsafe, fun hf => Bool.noConfusion hf⟩
  | true =>
    rw [if_pos rfl]
    have hk := clearSecrets_keeps (s := haltTaken v)
    have hoff : ∀ o, o < 0x180000 → ¬isSecret o := fun o ho hsec => by
      rcases hsec with h | h | ⟨k, hk, h | h | h⟩ <;> simp only [SAFE_SEALPW, CPL_ADMKEY, GRD_RXID, GRD_TXID] at h <;> omega
    refine ⟨(hk.flag (hoff _ (by decide)) _).trans hflag, (congrArg Troika.core clearSecrets_troika).trans hcore, fun l hl => ?_,
      fun _ => clearSecrets_zero _⟩
    exact ne_of_eq_of_ne (hk.fld (hoff _ (by simp only [LEG_STAT]; omega)) _) (hsafe l hl)

theorem debugHalt_waits (h : s.haltOk = true) (hb : s.atBoundary = false) (scan : Bool) :
    ∃ t, exec (.debugHalt scan) s = .next t ∧ t.troika.haltWanted = some scan ∧ t.regs = s.regs := by
  let v := s.updTrk (fun t => { t with haltWanted := some scan })
  have hdue : haltDue v = v := haltDue_waits (s := v) rfl h hb
  refine ⟨_, exec_debugHalt h scan, ?_⟩
  rw [syncStretches_troika, syncStretches_regs, show haltDue (s.updTrk _) = v from hdue]
  exact ⟨rfl, rfl⟩

/-- A BRK in a session halts the cores with the pc at the next instruction. -/
theorem brk_halts (hr : Ready .troika s) (hb : s.brkHalts = true) (hh : s.flag TRK_STAT TRK_STAT_HALT = false) :
    ∃ t, exec (.brk .troika) s = .next t ∧ t.flag TRK_STAT TRK_STAT_HALT = true ∧
      (t.core .troika).pc = (s.core .troika).pc + 4 ∧ (∀ r, (t.core .troika).gr r = (s.core .troika).gr r) ∧
      ∀ l, l < 32 → t.legSafe l ≠ 0 := by
  let u := haltCores (retire .troika id s)
  obtain ⟨hflag, htrk, hsafe⟩ := haltCores_shows (retire .troika id s)
  have htrk' : (syncStretches u).troika = (retire .troika id s).troika := (syncStretches_troika u).trans htrk
  have hexec : exec (.brk .troika) s = .next (afterIssue .troika (syncStretches u)) := by
    have hoff : (retire .troika id s).flag TRK_STAT TRK_STAT_HALT = false := hh
    change execBrk .troika s = _
    unfold execBrk
    refine issue_eq hr ?_ ((congrArg Troika.imprecise htrk').trans hr.2)
    dsimp only
    rw [if_pos ⟨rfl, hb⟩, hoff]
    rfl
  have hrd : ∀ o, (afterIssue .troika (syncStretches u)).rd o = u.rd o := fun o => by
    rw [State.rd, afterIssue_regs, syncStretches_regs]
    rfl
  obtain ⟨hpc, hgr, -⟩ := afterIssue_core .troika (syncStretches u)
  have hcore : (syncStretches u).core .troika = (retire .troika id s).core .troika := congrArg Troika.core htrk'
  rw [hcore] at hpc hgr
  refine ⟨_, hexec, (congrArg TRK_STAT_HALT.bit (hrd _)).trans hflag, hpc, hgr, fun l hl => ?_⟩
  exact ne_of_eq_of_ne (congrArg LEG_STAT_SAFE.get (hrd _)) (hsafe l hl)

/-! ### Steps and the resume -/

theorem exec_singleStep (hs : s.awake = true) (hh : s.flag TRK_STAT TRK_STAT_HALT = true) :
    exec .singleStep s = .next (fenceAnswered (s.updTrk (fun t => { t with stepArmed := true }))) := by
  change execSingleStep s = _
  unfold execSingleStep
  rw [if_pos (by rw [hs, hh]; rfl)]

theorem deliverImprecise_none (hi : s.troika.imprecise = []) : deliverImprecise s = s := by
  unfold deliverImprecise
  rw [hi]

theorem fenceAnswered_idle (hw : s.troika.wait ≠ .fenceC) (hi : s.troika.imprecise = []) : fenceAnswered s = s := by
  unfold fenceAnswered
  split
  · next h => exact absurd h hw
  · exact deliverImprecise_none hi

/-- A FENCE whose condition holds completes. -/
theorem fenceAnswered_completes (hw : s.troika.wait = .fenceC) (hr : s.remoteStores = false) (hi : s.troika.imprecise = [])
    (ht : s.trkResumes = true) :
    fenceAnswered s = stepOver (retire .troika id (s.updTrk (fun t => { t with wait := .none }))) := by
  have hempty : (s.updTrk (fun t => { t with wait := .none })).troika.imprecise.isEmpty = true := by
    change s.troika.imprecise.isEmpty = true
    rw [hi]
    rfl
  unfold fenceAnswered
  rw [hw]
  dsimp only
  rw [if_neg (by rw [hr, ht]; decide), if_pos hempty]

theorem stepOver_core (s : State) : (stepOver s).core .troika = s.core .troika ∧ (stepOver s).troika.wait = s.troika.wait := by
  unfold stepOver
  split <;> exact ⟨rfl, rfl⟩

theorem singleStep_fence (hs : s.awake = true) (hh : s.flag TRK_STAT TRK_STAT_HALT = true) (hw : s.troika.wait = .fenceC)
    (hr : s.remoteStores = false) (hi : s.troika.imprecise = [])
    (ht : (s.updTrk (fun t => { t with stepArmed := true })).trkResumes = true) :
    ∃ t, exec .singleStep s = .next t ∧ t.troika.wait = .none ∧ (t.core .troika).pc = (s.core .troika).pc + 4 := by
  refine ⟨_, exec_singleStep hs hh, ?_⟩
  rw [fenceAnswered_completes (s := s.updTrk (fun t => { t with stepArmed := true })) hw hr hi ht]
  obtain ⟨hcore, hwait⟩ := stepOver_core (retire .troika id
    ((s.updTrk (fun t => { t with stepArmed := true })).updTrk (fun t => { t with wait := .none })))
  rw [hcore, hwait]
  exact ⟨rfl, rfl⟩

/-- With nothing waiting, the cores go on as they stand. -/
theorem coresGoOn_idle (hw : s.troika.wait = .none) (hi : s.troika.imprecise = []) (hn : s.troika.haltWanted = none) :
    coresGoOn s = s := by
  rw [coresGoOn, fenceAnswered_idle (by rw [hw]; exact fun h => nomatch h) hi, haltDue, hn]

/-- The halt is over. -/
def haltEnded (s : State) : State :=
  let s := (s.setFlag TRK_STAT TRK_STAT_HALT false).setFlag TRK_DBG TRK_DBG_HALTED false
  let s := each (List.range 4) (fun a t => if s.flag (AXL_CTRL a) AXL_CTRL_DBGFRZ then releaseCount a t else t) s
  let s := each (List.range 4) (fun a t => t.updAx a (fun x => { x with resumed := true, commitSinceResume := false })) s
  s.updTrk (fun t => { t with stepArmed := false })

theorem haltEnded_shows (s : State) : (haltEnded s).flag TRK_STAT TRK_STAT_HALT = false ∧
    (haltEnded s).troika = { s.troika with stepArmed := false } ∧ ∀ a, a < 4 → ((haltEnded s).ax a).resumed = true := by
  unfold haltEnded
  extract_lets +onlyGivenNames s1 s2 s3
  have hrel : ∀ (a : Nat) (u : State), SameTroika u (releaseCount a u) ∧ Untouched (fun _ => True) u (releaseCount a u) :=
    fun a u => by
      unfold releaseCount
      extract_lets +onlyGivenNames x n e
      exact ⟨.ite rfl rfl, .ite Untouched.refl.upd .refl⟩
  have h2 : SameTroika s1 s2 := Same.each .refl fun a _ u => .ite (hrel a u).1 rfl
  have h3 : SameTroika s2 s3 := Same.each .refl fun _ _ _ => rfl
  have hu : Untouched (fun _ => True) s1 s3 :=
    (Untouched.refl.each fun a _ u => Untouched.ite (hrel a u).2 .refl).each fun _ _ _ => Untouched.refl.upd
  have hflag : s3.flag TRK_STAT TRK_STAT_HALT = false := by
    refine (hu.flag trivial _).trans ((flag_setFlag_ne (by decide)).trans ?_)
    exact flag_setFlag_self s TRK_STAT TRK_STAT_HALT false (by decide) (by decide)
  have htrk : s3.troika = s.troika := Eq.trans h3 h2
  have hax : ∀ a, a < 4 → (s3.ax a).resumed = true := fun a ha => by
    refine each_establishes (P := fun _ => True) (Q := fun u => (u.ax a).resumed = true) (fun _ _ _ _ => trivial)
      (fun b _ u _ hq => ?_) (List.mem_range.mpr ha) (fun u _ => ?_) s2 trivial
    · simp only [State.ax, State.updAx, State.setAx, mget_mset] at hq ⊢
      split
      · rfl
      · exact hq
    · rw [ax_updAx_self]
  clear_value s3
  refine ⟨hflag, ?_, hax⟩
  change { s3.troika with stepArmed := false } = _
  rw [htrk]

theorem exec_debugResume (hs : s.awake = true) (hh : s.flag TRK_STAT TRK_STAT_HALT = true) :
    exec .debugResume s = settled (coresGoOn (endCause .debugHalt
      ((List.range 32).filter (fun l => decide (4 ≤ (haltEnded s).legAxle l))) (haltEnded s))) := by
  change execDebugResume s = _
  unfold execDebugResume
  rw [if_pos (by rw [hs, hh]; rfl)]
  rfl

theorem endCause_ax {c : SafeCause} {ls : List Nat} (a : Nat) : ((endCause c ls s).ax a).resumed = (s.ax a).resumed := by
  have hdrop : Same (fun s => s.ax a) s (each ls (dropCause c) s) := Same.each .refl fun _ _ _ => rfl
  obtain ⟨b, hb⟩ := (GateStep.refl (L := false) (s := each ls (dropCause c) s)).settleSafe.ax a
  rw [endCause, hb, show (each ls (dropCause c) s).ax a = s.ax a from hdrop]

theorem debugResume_leaves (hs : s.awake = true) (hh : s.flag TRK_STAT TRK_STAT_HALT = true) (hw : s.troika.wait = .none)
    (hi : s.troika.imprecise = []) (hn : s.troika.haltWanted = none) : ∃ t, exec .debugResume s = .next t ∧
    t.flag TRK_STAT TRK_STAT_HALT = false ∧ t.troika.core = s.troika.core ∧ ∀ a, a < 4 → (t.ax a).resumed = true := by
  refine ⟨_, exec_debugResume hs hh, ?_⟩
  obtain ⟨hflag, htrk, hax⟩ := haltEnded_shows s
  generalize (List.range 32).filter (fun l => decide (4 ≤ (haltEnded s).legAxle l)) = ls
  generalize haltEnded s = u at hflag htrk hax ⊢
  have hl : LowStep u (endCause .debugHalt ls u) := LowStep.refl.endCause
  have htrk' : (endCause .debugHalt ls u).troika = { s.troika with stepArmed := false } := hl.only.troika.trans htrk
  rw [coresGoOn_idle (by rw [htrk']; exact hw) (by rw [htrk']; exact hi) (by rw [htrk']; exact hn)]
  simp only [syncStretches_flag, syncStretches_troika, syncStretches_ax]
  exact ⟨(hl.flag _ (low_of_lt (by decide)) (by decide)).trans hflag, by rw [htrk'], fun a ha => (endCause_ax a).trans (hax a ha)⟩

/-! ### The debugger's writes -/

/-- What a write of a core's register leaves of the core. -/
def debugChange : DbgTarget → CoreState → CoreState
  | .greg r v, c => c.setG r v
  | .vreg r v, c => c.setV r v
  | .areg r v, c => c.setA r v
  | .creg r v, c => c.setC r.val (mtcVal .troika r.val (c.cx r.val) v)
  | .pc v, c => { c with pc := v &&& 0xFFFFFFFC }
  | .mem _ _, c => c

/-- In a halt the debugger writes the cores' registers (R247). -/
theorem debuggerWrite_core (hs : s.awake = true) (hd : s.flag TRK_DBG TRK_DBG_SESSION = true)
    (hh : s.flag TRK_STAT TRK_STAT_HALT = true) {w : DbgTarget} (hw : ∀ a v, w ≠ .mem a v) (co : CoUpdate) :
    ∃ t, exec (.debuggerWrite w co) s = .next t ∧ t.core .troika = debugChange w (s.core .troika) := by
  have hexec : exec (.debuggerWrite w co) s = settled ((s.rc TRK_DBG TRK_DBG_REPLAY).updCore .troika (debugChange w)) := by
    change execDebuggerWrite w co s = _
    unfold execDebuggerWrite
    rw [if_pos (by rw [hs, hd]; rfl)]
    cases w with
    | mem a v => exact absurd rfl (hw a v)
    | _ => exact if_pos hh
  exact ⟨_, hexec, congrArg Troika.core (syncStretches_troika _)⟩

theorem putBytes_byte (a : Nat) (bs : List Byte) (x : Nat) : (s.putBytes a bs).byte x =
    if a ≤ x ∧ x < a + bs.length then bs.getD (x - a) 0 else s.byte x := by
  have hm : Same (fun u => u.mem) s (migWrite a bs s) := by
    unfold migWrite
    refine .ite ?_ .refl
    extract_lets +onlyGivenNames u put
    have hu : Same (fun u => u.mem) s u := Same.trans (t := migCopy (Config.freeNat s.draws % 65537) s) (.ite rfl rfl) rfl
    exact .ite (hu.trans rfl) hu
  rw [State.putBytes, setBytes_byte, show (migWrite a bs s).byte x = s.byte x from congrArg (fun m => mget memDefault m x) hm]

/-- A word written to a good one of the RAMs of the cores. -/
theorem memWrite_word {a : Nat} (w : Word) (hp : s.poisoned a = false) :
    (∀ x, (memWrite a (wordBytes w) .clean s).byte x = if a ≤ x ∧ x < a + 4 then (wordBytes w).getD (x - a) 0 else s.byte x) ∧
      SameTroika s (memWrite a (wordBytes w) .clean s) := by
  have hlen : (wordBytes w).length = 4 := rfl
  have hunit : 4 ≤ eccUnit a := by
    unfold eccUnit
    split <;> decide
  have heq : memWrite a (wordBytes w) .clean s = memWriteUnit a (wordBytes w) .clean s := if_pos (by rw [hlen]; exact hunit)
  rw [heq]
  refine ⟨fun x => ?_, memWriteUnit_troika a _ _⟩
  unfold memWriteUnit
  split
  · exact putBytes_byte ..
  · rw [if_neg (by rw [hp]; decide), if_neg (by decide)]
    exact putBytes_byte ..

/-- In a session the debugger writes a word of RAM once no store and no clearing waits. -/
theorem debuggerWrite_mem (hs : s.awake = true) (hd : s.flag TRK_DBG TRK_DBG_SESSION = true) {a v : Word} (co : CoUpdate)
    (hram : isRam (region a.toNat) = true) (ha : a.toNat % 4 = 0) (hp : s.poisoned a.toNat = false)
    (hc : s.bringup.uncleared = []) (hb : s.troika.storeBuf = []) : ∃ t, exec (.debuggerWrite (.mem a v) co) s = .next t ∧
      littleEndian .troika t a.toNat 4 = v.toNat ∧
      ∀ x, (x < a.toNat ∨ a.toNat + 4 ≤ x) → byteAt .troika t x = byteAt .troika s x := by
  let u := s.rc TRK_DBG TRK_DBG_REPLAY
  have hexec : exec (.debuggerWrite (.mem a v) co) s = settled (debugStore a v co u) := by
    change execDebuggerWrite (.mem a v) co s = _
    unfold execDebuggerWrite
    rw [if_pos (by rw [hs, hd]; rfl)]
  have hstore : debugStore a v co u = memWrite a.toNat (wordBytes v) .clean u := by
    have hdrain : drainStores u = u := drainStores_none hb
    have hclear : waitFor a.toNat u = u := waitFor_of_cleared (s := u) hc _
    unfold debugStore
    rw [if_neg (by rw [ha]; decide), target_of_memory (.inl hram), hdrain, hclear]
    cases hreg : region a.toNat with
    | nvm => simp [hreg, isRam] at hram
    | unmapped => simp [hreg, isRam] at hram
    | view v off => simp [hreg, isRam] at hram
    | window d off => simp [hreg, isRam] at hram
    | _ => rfl
  obtain ⟨hbyte, htrk⟩ := memWrite_word (s := u) v hp
  refine ⟨_, hexec, ?_⟩
  rw [hstore]
  generalize memWrite a.toNat (wordBytes v) .clean u = t at hbyte htrk ⊢
  have hcore : ∀ x, byteAt .troika (syncStretches t) x = if a.toNat ≤ x ∧ x < a.toNat + 4 then (wordBytes v).getD (x - a.toNat) 0
      else byteAt .troika s x := fun x => by
    have hbuf : (syncStretches t).troika.storeBuf = [] := by
      rw [syncStretches_troika]
      exact (congrArg Troika.storeBuf htrk).trans hb
    simp only [byteAt, State.coreByte, hbuf, hb, bufByte, List.foldl_nil, Option.getD_none]
    exact (congrArg (fun m => mget memDefault m x) (syncStretches_mem t)).trans (hbyte x)
  refine ⟨?_, fun x hx => (hcore x).trans (if_neg (by omega))⟩
  have hbytes : bytesAt .troika (syncStretches t) a.toNat 4 = wordBytes v := by
    have hk : ∀ k, k < 4 → byteAt .troika (syncStretches t) (a.toNat + k) = (wordBytes v).getD k 0 := fun k hk => by
      rw [hcore, if_pos ⟨by omega, by omega⟩, Nat.add_sub_cancel_left]
    simp only [bytesAt, List.range_succ, List.range_zero, List.nil_append, List.map_cons, List.map_nil, List.cons_append,
      hk 0 (by decide), hk 1 (by decide), hk 2 (by decide), hk 3 (by decide)]
    rfl
  rw [← leNat_bytesAt, hbytes, leNat_wordBytes]

end

/-- Settles O50: sessions, halts, a BRK, single steps, the resume, and the debugger's writes. -/
theorem debugging : Obligations.Debugging := by
  intro s hs
  refine ⟨fun challenge qx qy r sg => ?_, fun scan h => ⟨fun hb => debugHalt_leaves h hb scan, fun hb => debugHalt_waits h hb scan⟩,
    brk_halts, fun hh => ⟨fun hw hi => ?_, singleStep_fence hs hh, debugResume_leaves hs hh⟩,
    fun hd co => ⟨fun a v => debuggerWrite_mem hs hd co, fun hh => ⟨fun r v => ?_, fun r v => ?_, fun r v => ?_, fun v => ?_, fun v => ?_⟩⟩⟩
  · have hd := debugAuthentication_leaves hs challenge qx qy r sg
    unfold debugAnswered at hd
    exact hd
  · exact (exec_singleStep hs hh).trans (congrArg Host.Outcome.next
      (fenceAnswered_idle (s := s.updTrk (fun t => { t with stepArmed := true })) hw hi))
  · obtain ⟨t, ht, hc⟩ := debuggerWrite_core hs hd hh (w := .greg r v) (fun _ _ h => nomatch h) co
    exact ⟨t, ht, fun q => by rw [hc]; exact gr_setG ..⟩
  · obtain ⟨t, ht, hc⟩ := debuggerWrite_core hs hd hh (w := .vreg r v) (fun _ _ h => nomatch h) co
    exact ⟨t, ht, fun q => by rw [hc]; exact vr_setV ..⟩
  · obtain ⟨t, ht, hc⟩ := debuggerWrite_core hs hd hh (w := .areg r v) (fun _ _ h => nomatch h) co
    exact ⟨t, ht, fun q => by rw [hc]; exact ar_setA ..⟩
  · obtain ⟨t, ht, hc⟩ := debuggerWrite_core hs hd hh (w := .pc v) (fun _ _ h => nomatch h) co
    exact ⟨t, ht, by rw [hc]; rfl⟩
  · obtain ⟨t, ht, hc⟩ := debuggerWrite_core hs hd hh (w := .creg 5 v) (fun _ _ h => nomatch h) co
    exact ⟨t, ht, by rw [hc]; exact (cx_setC (n := cVBASE) _ (by decide) _ cVBASE).trans (if_pos rfl)⟩

end Sys2Proof.Proofs
end

section
/-! Trip sources that latch, SAR converters and comparators (R150, R152, R201). -/

namespace Sys2Proof.Proofs

open Sys2Proof Sys2Proof.Machine Sys2Proof.Safety Sys2Proof.Laws

section
variable {s : State} {src : Nat}

theorem eventCounter_apart {o : Nat} (h : 0x100000 ≤ o) (h' : o < 0x1D0000) : eventCounter o = false :=
  (eventRegister_false (eventRegister_apart h h')).1

theorem syncStretches_sr (s : State) (c : Nat) : (syncStretches s).sr c = s.sr c := by
  obtain ⟨_, _, he⟩ := (onlyStretch_syncStretches s).only
  rw [he]
  rfl

/-! ### A latch -/

theorem latchSource_gate (hs : src < 211) : GateStep true s (latchSource src s) := GateStep.refl.latchSource hs

/-- A source with an action latches, and the trip's event is pending (R201). -/
theorem latchSource_latches (hs : src < 211) (ha : s.srcAct src ≠ 0) (hw : s.awake = true) :
    (latchSource src s).latched src = true ∧ (latchSource src s).evPending (evProt 0) = true := by
  let u := s.sqMask (PROT_TRIP (src / 24)) (word (2 ^ (src % 24)))
  have heq : latchSource src s = settleSafe (u.raise (evProt 0)) := if_neg ha
  have hg : GateStep false (u.raise (evProt 0)) (settleSafe (u.raise (evProt 0))) := GateStep.refl.settleSafe
  have hlt : src % 24 < 24 := Nat.mod_lt _ (by decide)
  have hset : (u.rd (PROT_TRIP (src / 24))).getLsbD (src % 24) = true := by
    refine sqMask_sets_bit s hlt ?_
    simp only [word, BitVec.getLsbD_ofNat, Nat.testBit_two_pow_self, Bool.and_true, decide_eq_true_eq]
    omega
  rw [heq]
  refine ⟨?_, ?_⟩
  · have hk : gateMutable (PROT_TRIP (src / 24)) = 0 := gateMutable_trip (by omega)
    refine hg.keeps _ _ (by omega) hlt ?_
    exact (raise_reports u _).keeps _ _ hlt (eventCounter_apart (by simp only [PROT_TRIP]; omega) (by simp only [PROT_TRIP]; omega)) hset
  · exact (LowStep.refl.settleSafe).pending (by decide) (raise_pending u (by decide) hw)

theorem srcAct_congr {t : State} (h : ∀ o, 0x170000 ≤ o → o < 0x170380 → t.rd o = s.rd o) : t.srcAct src = s.srcAct src := by
  unfold State.srcAct
  split
  · next hs => exact congrArg PROT_SRC_ACT.get (h _ (by simp only [PROT_SRC]; omega) (by simp only [PROT_SRC]; omega))
  · rfl

/-- A latch leaves the registers of other blocks alone. -/
theorem latchSource_rd (hs : src < 211) {o : Nat} (h : 0x110C00 ≤ o ∧ o < 0x170300) : (latchSource src s).rd o = s.rd o := by
  refine (latchSource_gate hs).rd o fun hg => ?_
  have he := eventRegister_apart (o := o) (by omega) (by omega)
  simp only [gateRegister, he, isChannelStatus, isPositionStatus, isPositionCount, isLegStatus, isLegCount, isTrip, PROT_GSTAT,
    Bool.false_eq_true, false_or] at hg
  omega

end

/-! ### SAR converters (R150) -/

section
variable {s : State}

theorem register_sarCtl (c : Fin 8) : plainRegister (SAR_CTL c) ⟨0x130000, [(0x10, 8)], false, 0x00000000#32, [
    ⟨⟨31, 1⟩, .rw, false, false, .none⟩, ⟨⟨24, 4⟩, .rw, false, false, .none⟩, ⟨⟨20, 2⟩, .rw, false, false, .none⟩,
    ⟨⟨16, 2⟩, .rw, false, false, .none⟩, ⟨⟨12, 3⟩, .rw, false, false, .none⟩, ⟨⟨0, 1⟩, .rh, false, false, .none⟩]⟩ [c.val] = true := by
  revert c
  decide +kernel

/-- SAR_CTL as a write leaves it before what it starts. -/
def sarTaken (c : Nat) (w : Word) (s : State) : State := (s.wr (SAR_CTL c) w).setFlag (SAR_CTL c) SAR_CTL_START false

theorem wrote_sarCtl (c : Fin 8) (old w : Word) (k : Nat) (co : CoUpdate) (before : State) :
    wrote (SAR_CTL c) old w k co before (s.wr (SAR_CTL c) w) =
      if SAR_CTL_START.bit w && SAR_CTL_EN.bit w && decide (SAR_CTL_TSRC.get w = 0) then sarTrigger c (sarTaken c w s)
      else if SAR_CTL_EN.bit w && decide (SAR_CTL_TSRC.get w = 2) && !(sarTaken c w s).flag (SAR_STAT c) SAR_STAT_BUSY then
        sarTrigger c (sarTaken c w s)
      else sarTaken c w s := by
  match c with
  | 0 => rfl
  | 1 => rfl
  | 2 => rfl
  | 3 => rfl
  | 4 => rfl
  | 5 => rfl
  | 6 => rfl
  | 7 => rfl

theorem sarTaken_rd {c : Nat} (w : Word) {o : Nat} (h : o ≠ SAR_CTL c) : (sarTaken c w s).rd o = s.rd o :=
  (rd_wr_of_ne _ _ h).trans (rd_wr_of_ne _ _ h)

/-- A trigger finds the converter idle: a sequence begins. -/
theorem sarTrigger_idle {c : Nat} (hb : s.flag (SAR_STAT c) SAR_STAT_BUSY = false) (hl : s.fld (SAR_CTL c) SAR_CTL_LEN ≠ 0) :
    (sarTrigger c s).flag (SAR_STAT c) SAR_STAT_BUSY = true ∧ ((sarTrigger c s).sr c).slot = 0 ∧
      ((sarTrigger c s).sr c).seq = (s.sr c).seq + 1 := by
  have heq : sarTrigger c s = (s.setFlag (SAR_STAT c) SAR_STAT_BUSY true).updSr c (fun x => { slot := 0, seq := x.seq + 1 }) := by
    unfold sarTrigger
    rw [if_neg (by rw [hb]; decide), if_neg hl]
  have hsr : (sarTrigger c s).sr c = { slot := 0, seq := (s.sr c).seq + 1 } := by
    simp only [heq, State.sr, State.updSr, mget_mset_self]
    rfl
  refine ⟨?_, by rw [hsr], by rw [hsr]⟩
  rw [heq]
  exact flag_setFlag_self s (SAR_STAT c) SAR_STAT_BUSY true (by decide) (by decide)

/-- A trigger finds the converter busy: OVR. -/
theorem sarTrigger_busy {c : Nat} (hc : c < 8) (hs : s.awake = true) (hb : s.flag (SAR_STAT c) SAR_STAT_BUSY = true) :
    (sarTrigger c s).sr c = s.sr c ∧ (sarTrigger c s).flag (SAR_STAT c) SAR_STAT_OVR = true ∧
      (sarTrigger c s).evPending (evSense 8) = true := by
  have heq : sarTrigger c s = (s.sq (SAR_STAT c) SAR_STAT_OVR).raise (evSense 8) := by
    unfold sarTrigger
    rw [if_pos hb]
  obtain ⟨hf, hp⟩ := sq_raise_noted s (src := evSense 8) (o := SAR_STAT c) (f := SAR_STAT_OVR) (by decide) hs (by decide) (by decide)
    (eventCounter_apart (by simp only [SAR_STAT]; omega) (by simp only [SAR_STAT]; omega))
  rw [heq]
  refine ⟨?_, hf, hp⟩
  obtain ⟨_, _, _, _, he⟩ := raise_onlyEvents (s.sq (SAR_STAT c) SAR_STAT_OVR) (evSense 8)
  rw [he]
  rfl

theorem sarStart_leaves (v : View) (c : Fin 8) (ha : accepted v (SAR_CTL c) (withField s (SAR_CTL c) SAR_CTL_START 1) s = true)
    (hen : s.flag (SAR_CTL c) SAR_CTL_EN = true) (ht : s.fld (SAR_CTL c) SAR_CTL_TSRC = 0) (hl : s.fld (SAR_CTL c) SAR_CTL_LEN ≠ 0) :
    (s.flag (SAR_STAT c) SAR_STAT_BUSY = false → ∃ t, exec (.sarStart v c) s = .next t ∧
      t.flag (SAR_STAT c) SAR_STAT_BUSY = true ∧ (t.sr c).slot = 0 ∧ (t.sr c).seq = (s.sr c).seq + 1) ∧
    (s.flag (SAR_STAT c) SAR_STAT_BUSY = true → ∃ t, exec (.sarStart v c) s = .next t ∧ t.sr c = s.sr c ∧
      t.flag (SAR_STAT c) SAR_STAT_OVR = true ∧ t.evPending (evSense 8) = true) := by
  have hreg := plainRegister_register (register_sarCtl c)
  have hstart := written_flag hreg ha (by decide) (by decide)
  have hen' := (written_bit (f := SAR_CTL_EN) hreg ha (by decide) (by decide)).trans ((bit_put_apart (by decide) _ _).trans hen)
  have ht' := (written_get (f := SAR_CTL_TSRC) hreg ha (by decide)).trans ((get_put_apart _ _ _ _ (.inl (by decide))).trans ht)
  have hl' := (written_get (f := SAR_CTL_LEN) hreg ha (by decide)).trans (get_put_apart _ _ (s.rd (SAR_CTL c)) _ (.inl (by decide)))
  have hexec := fieldCmd_written (register_sarCtl c) ha
  unfold fieldWritten at hexec
  generalize writtenWord v (SAR_CTL c) (withField s (SAR_CTL c) SAR_CTL_START 1) s = w at hstart hen' ht' hl' hexec
  dsimp only at hexec
  rw [wrote_sarCtl, if_pos (by rw [hstart, hen', ht']; rfl)] at hexec
  have hs : s.awake = true := awake_of_accepted ha
  have hstat : ∀ f : Fld, (sarTaken c w s).flag (SAR_STAT c) f = s.flag (SAR_STAT c) f := fun f =>
    congrArg f.bit (sarTaken_rd w (by simp only [SAR_STAT, SAR_CTL]; omega))
  refine ⟨fun hb => ⟨_, hexec, ?_⟩, fun hb => ⟨_, hexec, ?_⟩⟩
  · rw [syncStretches_flag, syncStretches_sr]
    refine sarTrigger_idle ((hstat _).trans hb) (ne_of_eq_of_ne ?_ hl)
    exact (fld_setFlag_apart (.inl (by decide))).trans ((congrArg SAR_CTL_LEN.get (rd_wr_self ..)).trans hl')
  · rw [syncStretches_flag, syncStretches_sr, syncStretches_evPending]
    exact sarTrigger_busy (s := sarTaken c w s) c.isLt hs ((hstat _).trans hb)

/-- The result of a slot, shown with the tag of its sequence. -/
def slotShown (c : Nat) (code : BitVec 16) (s : State) : State :=
  let i := 8 * c + s.fld (SAR_SEQ c) ⟨3 * (s.sr c).slot, 3⟩
  (s.setFld (SAR_RES i) SAR_RES_TAG (s.sr c).seq).setFld (SAR_RES i) SAR_RES_VALUE code.toNat

/-- Continuous mode (R150). -/
def sarContinuous (c : Nat) (s : State) : Bool :=
  s.flag (SAR_CTL c) SAR_CTL_EN && decide (s.fld (SAR_CTL c) SAR_CTL_TSRC = 2) && decide (s.fld (SAR_CTL c) SAR_CTL_LEN ≠ 0)

theorem slotShown_rd {c : Nat} {code : BitVec 16} {o : Nat} (h : 0x130300 ≤ o ∨ o < 0x130200)
    (hi : 8 * c + s.fld (SAR_SEQ c) ⟨3 * (s.sr c).slot, 3⟩ < 64) : (slotShown c code s).rd o = s.rd o := by
  refine (rd_wr_of_ne _ _ ?_).trans (rd_wr_of_ne _ _ ?_) <;> (simp only [SAR_RES]; omega)

theorem slotShown_sr (c : Nat) (code : BitVec 16) (k : Nat) : (slotShown c code s).sr k = s.sr k := rfl

theorem slotShown_shows (c : Nat) (code : BitVec 16) :
    (slotShown c code s).fld (SAR_RES (8 * c + s.fld (SAR_SEQ c) ⟨3 * (s.sr c).slot, 3⟩)) SAR_RES_VALUE = code.toNat ∧
    (slotShown c code s).fld (SAR_RES (8 * c + s.fld (SAR_SEQ c) ⟨3 * (s.sr c).slot, 3⟩)) SAR_RES_TAG = (s.sr c).seq % 256 := by
  unfold slotShown
  extract_lets i
  refine ⟨(fld_setFld_self _ _ SAR_RES_VALUE _ (by decide)).trans (Nat.mod_eq_of_lt code.isLt), ?_⟩
  exact (fld_setFld_apart (.inl (by decide))).trans (fld_setFld_self _ _ SAR_RES_TAG _ (by decide))

/-- What a sequence that is done leaves. -/
def sarDone (c : Nat) (u : State) : State := (u.setFlag (SAR_STAT c) SAR_STAT_BUSY false).raise (evSense c)

/-- In continuous mode the next sequence begins. -/
def sarContinues (c : Nat) (u : State) : State :=
  if u.flag (SAR_CTL c) SAR_CTL_EN && decide (u.fld (SAR_CTL c) SAR_CTL_TSRC = 2) then sarTrigger c u else u

/-- The slot's conversion ends, and the sequence goes on or is done. -/
theorem sarSlotResult_eq {c : Nat} {code : BitVec 16} (hb : s.flag (SAR_STAT c) SAR_STAT_BUSY = true) :
    sarSlotResult c code s =
      if (slotShown c code s).fld (SAR_CTL c) SAR_CTL_LEN ≤ (s.sr c).slot + 1 then
        sarContinues c (sarDone c (slotShown c code s))
      else (slotShown c code s).updSr c (fun y => { y with slot := y.slot + 1 }) := by
  unfold sarSlotResult
  rw [if_neg (by rw [hb]; decide)]
  rfl

theorem sarDone_leaves {c : Nat} (hc : c < 8) (hs : s.awake = true) :
    (sarDone c s).flag (SAR_STAT c) SAR_STAT_BUSY = false ∧ (sarDone c s).evPending (evSense c) = true ∧
      (sarDone c s).sr c = s.sr c ∧ ∀ o, 0x100000 ≤ o → o < 0x1D0000 → o ≠ SAR_STAT c → (sarDone c s).rd o = s.rd o := by
  let v := s.setFlag (SAR_STAT c) SAR_STAT_BUSY false
  have hr : Reports v (sarDone c s) := raise_reports v (evSense c)
  have he : evReserved (evSense c) = false := by
    have : ∀ k : Fin 8, evReserved (evSense k) = false := by decide
    exact this ⟨c, hc⟩
  refine ⟨?_, raise_pending v he hs, ?_, fun o h1 h2 hne => (hr.rd o (eventRegister_apart h1 h2)).trans (rd_wr_of_ne _ _ hne)⟩
  · refine (hr.flag _ (eventRegister_apart (by simp only [SAR_STAT]; omega) (by simp only [SAR_STAT]; omega))).trans ?_
    exact flag_setFlag_self s (SAR_STAT c) SAR_STAT_BUSY false (by decide) (by decide)
  · obtain ⟨_, _, _, _, ho⟩ := raise_onlyEvents v (evSense c)
    rw [sarDone, show (s.setFlag (SAR_STAT c) SAR_STAT_BUSY false).raise (evSense c) = v.raise (evSense c) from rfl, ho]
    rfl

/-- The trigger of a sequence writes SAR_STAT alone, and an event. -/
theorem sarTrigger_pending {c : Nat} (hc : c < 8) {e : Nat} (he : evReserved e = false) (hp : s.evPending e = true) :
    (sarTrigger c s).evPending e = true := by
  have hne : EVT_PEND (e / 24) ≠ SAR_STAT c := by have := evReserved_div he; simp only [EVT_PEND, SAR_STAT]; omega
  unfold sarTrigger
  split
  · refine (raise_reports _ _).pending he ?_
    rw [State.evPending, State.sq, State.sqMask, rd_wr_of_ne _ _ hne]
    exact hp
  · split
    · exact hp
    · change ((s.wr (SAR_STAT c) _).rd (EVT_PEND (e / 24))).getLsbD _ = true
      rw [rd_wr_of_ne _ _ hne]
      exact hp

theorem sarTrigger_rd {c : Nat} {o : Nat} (h1 : 0x100000 ≤ o) (h2 : o < 0x1D0000) (hne : o ≠ SAR_STAT c) :
    (sarTrigger c s).rd o = s.rd o := by
  unfold sarTrigger
  split
  · exact (raise_rd_apart _ _ (eventRegister_apart h1 h2)).trans (rd_wr_of_ne _ _ hne)
  · split
    · rfl
    · exact rd_wr_of_ne _ _ hne

theorem sarContinues_rd {c : Nat} {o : Nat} (h1 : 0x100000 ≤ o) (h2 : o < 0x1D0000) (hne : o ≠ SAR_STAT c) :
    (sarContinues c s).rd o = s.rd o := by
  unfold sarContinues
  split
  · exact sarTrigger_rd h1 h2 hne
  · rfl

theorem sarContinues_pending {c : Nat} (hc : c < 8) {e : Nat} (he : evReserved e = false) (hp : s.evPending e = true) :
    (sarContinues c s).evPending e = true := by
  unfold sarContinues
  split
  · exact sarTrigger_pending hc he hp
  · exact hp

/-- An idle converter begins the next sequence in continuous mode, and stays idle otherwise. -/
theorem sarContinues_leaves {c : Nat} (hb : s.flag (SAR_STAT c) SAR_STAT_BUSY = false) :
    (sarContinues c s).flag (SAR_STAT c) SAR_STAT_BUSY = sarContinuous c s ∧
      (sarContinuous c s = true → ((sarContinues c s).sr c).slot = 0 ∧ ((sarContinues c s).sr c).seq = (s.sr c).seq + 1) := by
  by_cases hk : (s.flag (SAR_CTL c) SAR_CTL_EN && decide (s.fld (SAR_CTL c) SAR_CTL_TSRC = 2)) = true
  · have hcont : sarContinuous c s = decide (s.fld (SAR_CTL c) SAR_CTL_LEN ≠ 0) := by rw [sarContinuous, hk, Bool.true_and]
    rw [hcont, sarContinues, if_pos hk]
    by_cases hl : s.fld (SAR_CTL c) SAR_CTL_LEN = 0
    · have hsame : sarTrigger c s = s := by
        unfold sarTrigger
        rw [if_neg (by rw [hb]; decide), if_pos hl]
      rw [hsame, hb]
      simp [hl]
    · obtain ⟨hbusy, hslot, hseq⟩ := sarTrigger_idle hb hl
      exact ⟨hbusy.trans (decide_eq_true hl).symm, fun _ => ⟨hslot, hseq⟩⟩
  · have hcont : sarContinuous c s = false := by rw [sarContinuous, Bool.eq_false_iff.mpr hk, Bool.false_and]
    rw [hcont, sarContinues, if_neg hk]
    exact ⟨hb, fun h => Bool.noConfusion h⟩

theorem sarContinuous_congr {c : Nat} {t : State} (h : t.rd (SAR_CTL c) = s.rd (SAR_CTL c)) : sarContinuous c t = sarContinuous c s := by
  unfold sarContinuous State.flag State.fld
  rw [h]

theorem sarSlotResult_leaves (hs : s.awake = true) (c : Fin 8) (code : BitVec 16) (hb : s.flag (SAR_STAT c) SAR_STAT_BUSY = true) :
    let i := 8 * c.val + s.fld (SAR_SEQ c) ⟨3 * (s.sr c).slot, 3⟩
    ∃ t, exec (.sarSlotResult c code) s = .next t ∧ t.fld (SAR_RES i) SAR_RES_VALUE = code.toNat ∧
      t.fld (SAR_RES i) SAR_RES_TAG = (s.sr c).seq % 256 ∧
      ((s.sr c).slot + 1 < s.fld (SAR_CTL c) SAR_CTL_LEN → (t.sr c).slot = (s.sr c).slot + 1) ∧
      (s.fld (SAR_CTL c) SAR_CTL_LEN ≤ (s.sr c).slot + 1 → t.evPending (evSense c) = true ∧
        t.flag (SAR_STAT c) SAR_STAT_BUSY = sarContinuous c s ∧
        (sarContinuous c s = true → (t.sr c).slot = 0 ∧ (t.sr c).seq = (s.sr c).seq + 1)) := by
  intro i
  have hc := c.isLt
  have hseq : s.fld (SAR_SEQ c) ⟨3 * (s.sr c).slot, 3⟩ < 8 := get_lt _ _
  have hi : 8 * c.val + s.fld (SAR_SEQ c) ⟨3 * (s.sr c).slot, 3⟩ < 64 := by omega
  have hires : 0x130200 ≤ SAR_RES i ∧ SAR_RES i < 0x130300 := by simp only [SAR_RES, i]; omega
  obtain ⟨hval, htag⟩ := slotShown_shows (s := s) c.val code
  have hlen : (slotShown c code s).fld (SAR_CTL c) SAR_CTL_LEN = s.fld (SAR_CTL c) SAR_CTL_LEN :=
    congrArg SAR_CTL_LEN.get (slotShown_rd (.inr (by simp only [SAR_CTL]; omega)) hi)
  refine ⟨sarSlotResult c code s, rfl, ?_⟩
  rw [sarSlotResult_eq hb, hlen]
  by_cases hl : s.fld (SAR_CTL c) SAR_CTL_LEN ≤ (s.sr c).slot + 1
  · rw [if_pos hl]
    have hsr : (slotShown c code s).sr c = s.sr c := rfl
    have haw : (slotShown c code s).awake = true := hs
    have hctl : (slotShown c code s).rd (SAR_CTL c) = s.rd (SAR_CTL c) := slotShown_rd (.inr (by simp only [SAR_CTL]; omega)) hi
    generalize slotShown c code s = p at hval htag hsr haw hctl
    obtain ⟨hbusy, hpend, hdsr, hrd⟩ := sarDone_leaves (s := p) hc haw
    obtain ⟨hcbusy, hcont⟩ := sarContinues_leaves hbusy
    have hsame : sarContinuous c (sarDone c p) = sarContinuous c s := sarContinuous_congr ((hrd _ (by simp only [SAR_CTL]; omega)
      (by simp only [SAR_CTL]; omega) (by simp only [SAR_CTL, SAR_STAT]; omega)).trans hctl)
    have hres : (sarContinues c (sarDone c p)).rd (SAR_RES i) = p.rd (SAR_RES i) := by
      have hne : SAR_RES i ≠ SAR_STAT c := by simp only [SAR_STAT]; omega
      exact (sarContinues_rd (by omega) (by omega) hne).trans (hrd _ (by omega) (by omega) hne)
    have he : ∀ k : Fin 8, evReserved (evSense k) = false := by decide
    rw [hsame] at hcbusy hcont
    rw [hdsr, hsr] at hcont
    exact ⟨(congrArg SAR_RES_VALUE.get hres).trans hval, (congrArg SAR_RES_TAG.get hres).trans htag, fun h => absurd hl (by omega),
      fun _ => ⟨sarContinues_pending hc (he c) hpend, hcbusy, hcont⟩⟩
  · rw [if_neg hl]
    refine ⟨hval, htag, fun _ => ?_, fun h => absurd h hl⟩
    simp only [State.sr, State.updSr, mget_mset_self]
    rfl

end

/-! ### Comparators (R152) -/

section
variable {s : State}

/-- The threshold lies within 10 mV of what THR names. -/
theorem cmpThreshold_range (s : State) (k : Nat) : 3000000 * (s.fld (CMP_CFG k) CMP_CFG_THR : Int) - 10240000 ≤ s.cmpThreshold k ∧
    s.cmpThreshold k ≤ 3000000 * (s.fld (CMP_CFG k) CMP_CFG_THR : Int) + 10240000 := by
  have hclamp : -10000 ≤ clampI (-10000) 10000 (Config.cmpOffset k) ∧ clampI (-10000) 10000 (Config.cmpOffset k) ≤ 10000 := by
    generalize Config.cmpOffset k = x
    simp only [clampI]
    omega
  unfold State.cmpThreshold
  omega

/-- A bit that is set is taken away alone. -/
theorem testBit_sub_two_pow {n k : Nat} (h : n.testBit k = true) (j : Nat) :
    (n - 2 ^ k).testBit j = (n.testBit j && decide (j ≠ k)) := by
  have hodd : n / 2 ^ k % 2 = 1 := by simpa [Nat.testBit_eq_decide_div_mod_eq] using h
  obtain ⟨m, r, hm, hr⟩ : ∃ m r, n = 2 ^ k * (2 * m + 1) + r ∧ r < 2 ^ k :=
    ⟨n / 2 ^ k / 2, n % 2 ^ k, by
      have : 2 * (n / 2 ^ k / 2) + 1 = n / 2 ^ k := by omega
      rw [this]
      exact (Nat.div_add_mod n (2 ^ k)).symm, Nat.mod_lt _ (Nat.two_pow_pos k)⟩
  have hsub : n - 2 ^ k = 2 ^ k * (2 * m) + r := by
    rw [hm, Nat.mul_add, Nat.mul_one]
    omega
  rw [hsub, hm, Nat.testBit_two_pow_mul_add _ hr, Nat.testBit_two_pow_mul_add _ hr]
  by_cases hj : j < k
  · simp [hj, Nat.ne_of_lt hj]
  · simp only [hj, if_false]
    obtain ⟨i, rfl⟩ : ∃ i, j = k + i := ⟨j - k, by omega⟩
    rw [Nat.add_sub_cancel_left]
    cases i with
    | zero => simp
    | succ i =>
      rw [Nat.testBit_succ, Nat.testBit_succ, show 2 * m / 2 = m by omega, show (2 * m + 1) / 2 = m by omega]
      simp

/-- The comparator shows active. -/
def cmpShown (k : Nat) (s : State) : State :=
  ((s.setFld CMP_LVL CMP_LVL_LVL (s.fld CMP_LVL CMP_LVL_LVL ||| 2 ^ k)).sqMask CMP_STAT (word (2 ^ k))).raise (evSense 17)

theorem cmpHit_eq {k uv : Nat} (he : s.flag (CMP_CFG k) CMP_CFG_EN = true) (ha : s.cmpActive k = false) :
    cmpHit k uv s = if s.cmpBeyond k uv then latchSource (64 + k) (cmpShown k s) else s := by
  unfold cmpHit
  rw [he, ha]
  cases s.cmpBeyond k uv <;> rfl

theorem cmpShown_shows {k : Nat} (hk : k < 16) (hs : s.awake = true) : (cmpShown k s).cmpActive k = true ∧
    ((cmpShown k s).rd CMP_STAT).getLsbD k = true ∧ (cmpShown k s).evPending (evSense 17) = true ∧ (cmpShown k s).awake = true := by
  let u := s.setFld CMP_LVL CMP_LVL_LVL (s.fld CMP_LVL CMP_LVL_LVL ||| 2 ^ k)
  let v := u.sqMask CMP_STAT (word (2 ^ k))
  have hr : Reports v (cmpShown k s) := raise_reports v (evSense 17)
  refine ⟨?_, ?_, raise_pending v (by decide) hs, hr.events.awake.trans hs⟩
  · have hfld : (cmpShown k s).fld CMP_LVL CMP_LVL_LVL = (s.fld CMP_LVL CMP_LVL_LVL ||| 2 ^ k) % 2 ^ CMP_LVL_LVL.len :=
      (hr.fld _ (by decide)).trans ((fld_wr_ne (by decide)).trans (fld_setFld_self _ _ _ _ (by decide)))
    rw [State.cmpActive, hfld, Nat.testBit_mod_two_pow, Nat.testBit_or, Nat.testBit_two_pow_self]
    simp [CMP_LVL_LVL, hk]
  · refine hr.keeps _ _ (by omega) (by decide) (sqMask_sets_bit u (by omega) ?_)
    simp only [word, BitVec.getLsbD_ofNat, Nat.testBit_two_pow_self, Bool.and_true, decide_eq_true_eq]
    omega

/-- An input beyond the threshold by more than the offset makes the comparator active (R152). -/
theorem cmpHit_leaves (hs : s.awake = true) (k : Fin 16) (uv : Nat) (he : s.flag (CMP_CFG k) CMP_CFG_EN = true)
    (ha : s.cmpActive k = false) (hv : if s.flag (CMP_CFG k) CMP_CFG_POL then
      3000000 * (s.fld (CMP_CFG k) CMP_CFG_THR : Int) + 10240000 < 1024 * uv
      else (1024 * uv : Int) < 3000000 * (s.fld (CMP_CFG k) CMP_CFG_THR : Int) - 10240000) :
    ∃ t, exec (.cmpHit k uv) s = .next t ∧ t.cmpActive k = true ∧ (t.rd CMP_STAT).getLsbD k = true ∧
      t.evPending (evSense 17) = true ∧ (s.srcAct (64 + k.val) ≠ 0 → t.latched (64 + k.val) = true) := by
  have hk := k.isLt
  obtain ⟨h1, h2⟩ := cmpThreshold_range s k
  have hb : s.cmpBeyond k uv = true := by
    unfold State.cmpBeyond
    split at hv
    · next hp => rw [if_pos hp, decide_eq_true_iff]; omega
    · next hp => rw [if_neg hp, decide_eq_true_iff]; omega
  obtain ⟨hact, hstat, hpend, haw⟩ := cmpShown_shows hk hs
  have hexec : exec (.cmpHit k uv) s = settled (latchSource (64 + k) (cmpShown k s)) :=
    congrArg settled ((cmpHit_eq he ha).trans (if_pos hb))
  have hrd : ∀ o, o = CMP_LVL ∨ o = CMP_STAT → (latchSource (64 + k.val) (cmpShown k s)).rd o = (cmpShown k s).rd o := fun o ho =>
    latchSource_rd (by omega) (by rcases ho with h | h <;> rw [h] <;> decide)
  refine ⟨_, hexec, ?_⟩
  simp only [State.cmpActive, State.latched, syncStretches_fld, syncStretches_rd, syncStretches_evPending]
  refine ⟨?_, ?_, LowStep.refl.latchSource.pending (by decide) hpend, fun hsrc => ?_⟩
  · rw [State.fld, hrd _ (.inl rfl)]
    exact hact
  · rw [hrd _ (.inr rfl)]
    exact hstat
  · refine (latchSource_latches (by omega) (ne_of_eq_of_ne ?_ hsrc) haw).1
    exact srcAct_congr fun o h1 h2 => (raise_rd_apart _ _ (eventRegister_apart (by omega) (by omega))).trans
      ((rd_wr_of_ne _ _ (by simp only [CMP_STAT]; omega)).trans (rd_wr_of_ne _ _ (by simp only [CMP_LVL]; omega)))

/-- An input that the offset cannot carry past the threshold does not. -/
theorem cmpHit_within (k : Fin 16) (uv : Nat) (he : s.flag (CMP_CFG k) CMP_CFG_EN = true)
    (ha : s.cmpActive k = false) (hv : if s.flag (CMP_CFG k) CMP_CFG_POL then
      (1024 * uv : Int) ≤ 3000000 * (s.fld (CMP_CFG k) CMP_CFG_THR : Int) - 10240000
      else 3000000 * (s.fld (CMP_CFG k) CMP_CFG_THR : Int) + 10240000 ≤ 1024 * uv) :
    ∃ t, exec (.cmpHit k uv) s = .next t ∧ t.regs = s.regs := by
  obtain ⟨h1, h2⟩ := cmpThreshold_range s k
  have hb : s.cmpBeyond k uv = false := by
    unfold State.cmpBeyond
    split at hv
    · next hp => rw [if_pos hp, decide_eq_false_iff_not]; omega
    · next hp => rw [if_neg hp, decide_eq_false_iff_not]; omega
  have hexec : exec (.cmpHit k uv) s = settled s :=
    congrArg settled ((cmpHit_eq he ha).trans (if_neg (by rw [hb]; decide)))
  exact ⟨_, hexec, syncStretches_regs s⟩

/-- An input back beyond the margin makes the comparator inactive, and no other one (R152). -/
theorem cmpRelease_leaves (k : Fin 16) (uv : Nat) (ha : s.cmpActive k = true) (hv : if s.flag (CMP_CFG k) CMP_CFG_POL then
      (1024 * uv : Int) < 3000000 * (s.fld (CMP_CFG k) CMP_CFG_THR : Int) - 1024 * hystMargin (s.fld (CMP_CFG k) CMP_CFG_HYST) - 10240000
      else 3000000 * (s.fld (CMP_CFG k) CMP_CFG_THR : Int) + 1024 * hystMargin (s.fld (CMP_CFG k) CMP_CFG_HYST) + 10240000 < 1024 * uv) :
    ∃ t, exec (.comparatorRelease k uv) s = .next t ∧ t.cmpActive k = false ∧
      ∀ j, j < 16 → j ≠ k.val → t.cmpActive j = s.cmpActive j := by
  obtain ⟨h1, h2⟩ := cmpThreshold_range s k
  have hb : s.cmpBack k uv = true := by
    unfold State.cmpBack
    split at hv
    · next hp => rw [if_pos hp, decide_eq_true_iff]; omega
    · next hp => rw [if_neg hp, decide_eq_true_iff]; omega
  have hoff : cmpRelease k uv s = s.setFld CMP_LVL CMP_LVL_LVL (s.fld CMP_LVL CMP_LVL_LVL - 2 ^ k.val) := by
    unfold cmpRelease cmpOff
    rw [if_pos hb, if_pos ha]
  refine ⟨cmpRelease k uv s, rfl, ?_⟩
  have hbit : ∀ j, j < 16 → (cmpRelease k uv s).cmpActive j = (s.cmpActive j && decide (j ≠ k.val)) := fun j hj => by
    have hfld : (cmpRelease k uv s).fld CMP_LVL CMP_LVL_LVL = (s.fld CMP_LVL CMP_LVL_LVL - 2 ^ k.val) % 2 ^ CMP_LVL_LVL.len := by
      rw [hoff]
      exact fld_setFld_self s CMP_LVL CMP_LVL_LVL _ (by decide)
    rw [State.cmpActive, hfld, Nat.testBit_mod_two_pow, testBit_sub_two_pow ha]
    simp [CMP_LVL_LVL, hj, State.cmpActive]
  exact ⟨by rw [hbit _ k.isLt]; simp, fun j hj hne => by rw [hbit j hj]; simp [hne]⟩

end

end Sys2Proof.Proofs
end

section
/-! Resolver and encoder (R153 to R155). -/

namespace Sys2Proof.Proofs

open Sys2Proof Sys2Proof.Machine Sys2Proof.Safety Sys2Proof.Laws

section
variable {s : State}

/-! ### The Drag Shoe that watches a source of angle -/

theorem BrakeStep.brakeMotion {s₀ : State} {angle : BitVec 16} (h : BrakeStep s₀ s) : BrakeStep s₀ (brakeMotion angle s) := by
  unfold Machine.brakeMotion
  refine ite h ?_
  extract_lets +onlyGivenNames d b s1
  have h1 : BrakeStep s₀ s1 := h.upd
  exact ite h1.brakeTestCut h1

/-- After an evaluation of an angle the Drag Shoe and its test follow, and nothing else. -/
theorem shoeWatches_step (k : Nat) (s : State) : ∃ t, shoeWatches k s = .next t ∧ BrakeStep s t := by
  have h := brakeStep_settleBrake s
  unfold shoeWatches
  extract_lets +onlyGivenNames u
  split
  · exact ⟨_, rfl, h.brakeMotion⟩
  · exact ⟨_, rfl, h⟩

/-! ### The resolver (R153, R154) -/

/-- A condition that begins sets its flag with the event. -/
def resNote (r : Nat) (b : Bool) (f : Fld) (t : State) : State :=
  if b then (t.sq (RES_STAT r) f).raise (evSense (18 + r)) else t

/-- The evaluation, before its flags. -/
def resShown (r : Nat) (track : BitVec 16) (speed : Word) (x : ResSt) (s : State) : State :=
  let s := (s.setFld (RES_ANG r) RES_ANG_ANGLE (s.fld (RES_CFG r) RES_CFG_MULT * track.toNat + s.fld (RES_OFS r) RES_OFS_OFFSET)).wr
    (RES_SPD r) speed
  (s.setFlag (RES_STAT r) RES_STAT_LOCK (!(x.los || x.lot || x.ovs))).updRs r (fun _ => x)

theorem resolverSample_eq {r amp : Nat} {err track : BitVec 16} {speed : Word} (he : s.flag (RES_CFG r) RES_CFG_EN = true) :
    resolverSample r amp err track speed s =
      (let x := resolverNext s r amp err speed
       resNote r (x.ovs && !(s.rs r).ovs) RES_STAT_OVS (resNote r (x.lot && !(s.rs r).lot) RES_STAT_LOT
         (resNote r (x.dos && !(s.rs r).dos) RES_STAT_DOS (resNote r (x.los && !(s.rs r).los) RES_STAT_LOS
           (resShown r track speed x s))))) := by
  unfold resolverSample
  rw [if_neg (by rw [he]; decide)]
  rfl

/-- What such a note leaves alone: other registers, the flags below its own, flags that are set, and pending events. -/
structure ResNoted (r : Nat) (s t : State) : Prop where
  rd : ∀ o, 0x100000 ≤ o → o < 0x1D0000 → o ≠ RES_STAT r → t.rd o = s.rd o
  lock : t.flag (RES_STAT r) RES_STAT_LOCK = s.flag (RES_STAT r) RES_STAT_LOCK
  keeps : s.flag (RES_STAT r) RES_STAT_LOS = true → t.flag (RES_STAT r) RES_STAT_LOS = true
  pending : ∀ e, evReserved e = false → s.evPending e = true → t.evPending e = true

theorem resNote_noted {r : Nat} (hr : r < 2) (b : Bool) {f : Fld} (hf : 1 ≤ f.lo ∧ f.lo < 24) : ResNoted r s (resNote r b f s) := by
  cases b with
  | false => exact ⟨fun _ _ _ _ => rfl, rfl, fun h => h, fun _ _ h => h⟩
  | true =>
    have hrep : Reports (s.sq (RES_STAT r) f) (resNote r true f s) := raise_reports ..
    have hev : eventRegister (RES_STAT r) = false :=
      eventRegister_apart (by simp only [RES_STAT]; omega) (by simp only [RES_STAT]; omega)
    refine ⟨fun o h1 h2 hne => (hrep.rd o (eventRegister_apart h1 h2)).trans (rd_wr_of_ne _ _ hne), ?_, fun h => ?_, fun e he h => ?_⟩
    · exact (hrep.flag _ hev).trans (flag_sq_apart (.inr (by simp only [RES_STAT_LOCK]; omega)) (by decide))
    · refine (hrep.flag _ hev).trans ?_
      exact sqMask_keeps_bit s (by decide) (RES_STAT r) f.mask h
    · refine hrep.pending he ?_
      rw [State.evPending, State.sq, State.sqMask, rd_wr_of_ne]
      · exact h
      · have := evReserved_div he
        simp only [EVT_PEND, RES_STAT]
        omega

theorem ResNoted.trans {r : Nat} {t u : State} (h : ResNoted r s t) (h' : ResNoted r t u) : ResNoted r s u :=
  ⟨fun o h1 h2 h3 => (h'.rd o h1 h2 h3).trans (h.rd o h1 h2 h3), h'.lock.trans h.lock, fun hs => h'.keeps (h.keeps hs),
    fun e he hs => h'.pending e he (h.pending e he hs)⟩

theorem resShown_shows (r : Nat) (track : BitVec 16) (speed : Word) (x : ResSt) :
    (resShown r track speed x s).rd (RES_SPD r) = speed ∧
    (resShown r track speed x s).fld (RES_ANG r) RES_ANG_ANGLE =
      (s.fld (RES_CFG r) RES_CFG_MULT * track.toNat + s.fld (RES_OFS r) RES_OFS_OFFSET) % 65536 ∧
    (resShown r track speed x s).flag (RES_STAT r) RES_STAT_LOCK = !(x.los || x.lot || x.ovs) := by
  let v := s.setFld (RES_ANG r) RES_ANG_ANGLE (s.fld (RES_CFG r) RES_CFG_MULT * track.toNat + s.fld (RES_OFS r) RES_OFS_OFFSET)
  let w := v.wr (RES_SPD r) speed
  have hrd : ∀ o, (resShown r track speed x s).rd o = (w.setFlag (RES_STAT r) RES_STAT_LOCK (!(x.los || x.lot || x.ovs))).rd o :=
    fun _ => rfl
  refine ⟨(hrd _).trans ((rd_wr_of_ne _ _ ?_).trans (rd_wr_self ..)), (congrArg RES_ANG_ANGLE.get (hrd _)).trans ?_,
    (congrArg RES_STAT_LOCK.bit (hrd _)).trans (flag_setFlag_self w _ _ _ (by decide) (by decide))⟩
  · simp only [RES_SPD, RES_STAT]
    omega
  · have h1 : RES_ANG r ≠ RES_STAT r ∧ RES_ANG r ≠ RES_SPD r := by simp only [RES_ANG, RES_STAT, RES_SPD]; omega
    refine (congrArg RES_ANG_ANGLE.get ((rd_wr_of_ne _ _ h1.1).trans (rd_wr_of_ne _ _ h1.2))).trans ?_
    exact fld_setFld_self s (RES_ANG r) RES_ANG_ANGLE _ (by decide)

theorem resolverNext_los (r amp : Nat) (err : BitVec 16) (speed : Word) :
    (resolverNext s r amp err speed).los = (decide (amp * 10 < 4 * 65536) && decide (1 ≤ (s.rs r).low)) := by
  change decide (2 ≤ if amp * 10 < 4 * 65536 then min 2 ((s.rs r).low + 1) else 0) = _
  by_cases h : amp * 10 < 4 * 65536
  · rw [if_pos h, decide_eq_true h, Bool.true_and]
    congr 1
    exact propext (by omega)
  · rw [if_neg h, decide_eq_false h, Bool.false_and]
    rfl

theorem resFlt_leaves (hs : s.awake = true) (r : Fin 2) (amp : Nat) (err track : BitVec 16) (speed : Word)
    (he : s.flag (RES_CFG r) RES_CFG_EN = true) :
    let los := decide (amp * 10 < 4 * 65536) && decide (1 ≤ (s.rs r).low)
    let lot := decide (1024 < err.toInt.natAbs)
    let ovs := decide (4000 * 65536 * s.fld (RES_CFG r) RES_CFG_MULT < speed.toInt.natAbs)
    ∃ t, exec (.resFlt r amp err track speed) s = .next t ∧ t.rd (RES_SPD r) = speed ∧
      t.fld (RES_ANG r) RES_ANG_ANGLE =
        (s.fld (RES_CFG r) RES_CFG_MULT * track.toNat + s.fld (RES_OFS r) RES_OFS_OFFSET) % 65536 ∧
      t.flag (RES_STAT r) RES_STAT_LOCK = !(los || lot || ovs) ∧
      (los = true → (s.rs r).los = false →
        t.flag (RES_STAT r) RES_STAT_LOS = true ∧ t.evPending (evSense (18 + r.val)) = true) := by
  intro los lot ovs
  have hr := r.isLt
  obtain ⟨t, ht, hb⟩ := shoeWatches_step r (resolverSample r amp err track speed s)
  refine ⟨t, ht, ?_⟩
  let x := resolverNext s r amp err speed
  have hlos : x.los = los := resolverNext_los ..
  let shown := resShown r track speed x s
  let noted := resNote r (x.los && !(s.rs r).los) RES_STAT_LOS shown
  have hsample : ResNoted r noted (resolverSample r amp err track speed s) := by
    rw [resolverSample_eq he]
    exact ((resNote_noted hr _ (by decide)).trans (resNote_noted hr _ (by decide))).trans (resNote_noted hr _ (by decide))
  have hall : ResNoted r shown (resolverSample r amp err track speed s) := (resNote_noted hr _ (by decide)).trans hsample
  obtain ⟨hspd, hang, hlock⟩ := resShown_shows (s := s) r track speed x
  have hbrd : ∀ o, 0x140000 ≤ o → o < 0x140080 → t.rd o = (resolverSample r amp err track speed s).rd o := fun o h1 h2 =>
    hb.rd o (by simp only [brakeRegister, SAFE_BRKSTAT, SAFE_BRKRES]; omega) (eventRegister_apart (by omega) (by omega))
  refine ⟨?_, ?_, ?_, fun h1 h2 => ?_⟩
  · rw [hbrd (RES_SPD r) (by simp only [RES_SPD]; omega) (by simp only [RES_SPD]; omega)]
    exact (hall.rd _ (by simp only [RES_SPD]; omega) (by simp only [RES_SPD]; omega) (by simp only [RES_SPD, RES_STAT]; omega)).trans hspd
  · rw [State.fld, hbrd (RES_ANG r) (by simp only [RES_ANG]; omega) (by simp only [RES_ANG]; omega)]
    exact (congrArg RES_ANG_ANGLE.get (hall.rd _ (by simp only [RES_ANG]; omega) (by simp only [RES_ANG]; omega)
      (by simp only [RES_ANG, RES_STAT]; omega))).trans hang
  · rw [State.flag, hbrd (RES_STAT r) (by simp only [RES_STAT]; omega) (by simp only [RES_STAT]; omega)]
    exact hall.lock.trans (hlock.trans (by rw [hlos]; rfl))
  · have hbegin : (x.los && !(s.rs r).los) = true := by rw [hlos, h1, h2]; rfl
    have hn : noted = (shown.sq (RES_STAT r) RES_STAT_LOS).raise (evSense (18 + r.val)) := if_pos hbegin
    have hev : ∀ k : Fin 2, evReserved (evSense (18 + k)) = false := by decide
    obtain ⟨hf, hp⟩ := sq_raise_noted shown (src := evSense (18 + r.val)) (o := RES_STAT r) (f := RES_STAT_LOS) (hev r) hs (by decide)
      (by decide) (eventCounter_apart (by simp only [RES_STAT]; omega) (by simp only [RES_STAT]; omega))
    rw [← hn] at hf hp
    refine ⟨?_, hb.pending (hev r) (hsample.pending _ (hev r) hp)⟩
    rw [State.flag, hbrd (RES_STAT r) (by simp only [RES_STAT]; omega) (by simp only [RES_STAT]; omega)]
    exact hsample.keeps hf

/-! ### The encoder (R155) -/

/-- The registers of the interfaces stay as a sample leaves them while the Drag Shoe follows. -/
theorem BrakeStep.sensor {t : State} (h : BrakeStep s t) {o : Nat} (h1 : 0x140000 ≤ o) (h2 : o < 0x140200) : t.rd o = s.rd o :=
  h.rd o (by simp only [brakeRegister, SAFE_BRKSTAT, SAFE_BRKRES]; omega) (eventRegister_apart (by omega) (by omega))

theorem BrakeStep.en {t : State} (h : BrakeStep s t) (e : Nat) : t.en e = s.en e := by
  obtain ⟨_, _, _, _, _, _, ho⟩ := h.only
  rw [ho]
  rfl

/-- New levels of A and B, accepted (R155). -/
def encLevels (e : Nat) (a b : Bool) (s : State) : State := s.updEn e (fun x => { x with a := a, b := b })

theorem encoderEdge_eq {e stable t : Nat} (a b : Bool) (hen : s.flag (ENC_CFG e) ENC_CFG_EN = true)
    (hf : s.fld (ENC_CFG e) ENC_CFG_FILT ≤ stable) :
    encoderEdge e a b stable t s = if a ≠ (s.en e).a ∧ b ≠ (s.en e).b then
        ((encLevels e a b s).sq (ENC_STAT e) ENC_STAT_ILL).raise (evSense (20 + e))
      else match encStep (s.fld (ENC_CFG e) ENC_CFG_MODE) (s.en e).a (s.en e).b a b with
        | some d => encMove e d t (encLevels e a b s)
        | none => encLevels e a b s := by
  have hen' : (encLevels e a b s).flag (ENC_CFG e) ENC_CFG_EN = true := hen
  have hacc : s.encAccepts e stable = true := decide_eq_true hf
  unfold encoderEdge
  rw [if_neg (by rw [hacc]; decide)]
  dsimp only
  rw [show s.updEn e (fun x => { x with a := a, b := b }) = encLevels e a b s from rfl, if_neg (by rw [hen']; decide)]
  rfl

/-- In MODE 0 a change of one input counts, either way. -/
theorem encStep_one {a0 b0 a b : Bool} (h : (a ≠ a0 ∧ b = b0) ∨ (a = a0 ∧ b ≠ b0)) :
    ∃ d : Int, encStep 0 a0 b0 a b = some d ∧ (d = 1 ∨ d = -1) := by
  have hc : (decide (a ≠ a0 ∨ b ≠ b0) && (if (0 : Nat) = 0 then true else if (0 : Nat) = 1 then decide (a ≠ a0) else decide (a ≠ a0) && a))
      = true := by
    rw [if_pos rfl, Bool.and_true, decide_eq_true_iff]
    exact h.imp And.left And.right
  unfold encStep
  dsimp only
  rw [if_pos hc]
  have hdir : ∀ up : Bool, (if up then (1 : Int) else -1) = 1 ∨ (if up then (1 : Int) else -1) = -1 := by decide
  exact ⟨_, rfl, hdir _⟩

/-- In MODE 1 and 2 a change of B alone does not count. -/
theorem encStep_b {mode : Nat} (hm : mode = 1 ∨ mode = 2) (a0 b0 b : Bool) : encStep mode a0 b0 a0 b = none := by
  rcases hm with rfl | rfl <;> simp [encStep]

theorem count_up {pos cpr : Nat} : (((pos : Int) + 1) % cpr).toNat = (pos + 1) % cpr := by
  rw [show ((pos : Int) + 1) % cpr = (((pos + 1) % cpr : Nat) : Int) by push_cast; rfl, Int.toNat_natCast]

theorem count_down {pos cpr : Nat} (h : pos < cpr) : (((pos : Int) + -1) % cpr).toNat = (pos + cpr - 1) % cpr := by
  have hsub : (pos : Int) + -1 = ((pos + cpr - 1 : Nat) : Int) - cpr := by omega
  rw [hsub, Int.sub_emod_right, ← Int.natCast_mod, Int.toNat_natCast]

/-- What a count leaves, before the check of its distance from the last one. -/
def encCounted (e : Nat) (d : Int) (t : Nat) (s : State) : State :=
  let s := s.setFldI (ENC_POS e) ENC_POS_POS (((s.fld (ENC_POS e) ENC_POS_POS : Int) + d) % (s.fld (ENC_CPR e) ENC_CPR_CPR : Int))
  (s.setFld (ENC_ANG e) ENC_ANG_ANGLE (encAngle s e)).updEn e (fun x => { x with lastAt := some t })

theorem encCounted_pos {e : Nat} {d : Int} {t : Nat} (hp : s.fld (ENC_POS e) ENC_POS_POS < s.fld (ENC_CPR e) ENC_CPR_CPR)
    (hd : d = 1 ∨ d = -1) :
    let pos := s.fld (ENC_POS e) ENC_POS_POS
    let cpr := s.fld (ENC_CPR e) ENC_CPR_CPR
    (encCounted e d t s).fld (ENC_POS e) ENC_POS_POS = (pos + 1) % cpr ∨
      (encCounted e d t s).fld (ENC_POS e) ENC_POS_POS = (pos + cpr - 1) % cpr := by
  intro pos cpr
  have hcpr : cpr < 2 ^ 24 := get_lt _ _
  have hfld : (encCounted e d t s).fld (ENC_POS e) ENC_POS_POS = (((pos : Int) + d) % cpr).toNat := by
    have hne : ENC_POS e ≠ ENC_ANG e := by simp only [ENC_POS, ENC_ANG]; omega
    have h1 : 0 ≤ ((pos : Int) + d) % cpr := Int.emod_nonneg _ (by omega)
    have h2 : ((pos : Int) + d) % cpr < cpr := Int.emod_lt_of_pos _ (by omega)
    refine (fld_setFld_ne hne).trans ((fld_setFld_self s (ENC_POS e) ENC_POS_POS _ (by decide)).trans ?_)
    generalize ((pos : Int) + d) % cpr = x at h1 h2
    simp only [ENC_POS_POS]
    omega
  rw [hfld]
  rcases hd with rfl | rfl
  · exact .inl count_up
  · exact .inr (count_down hp)

/-- The last count is less than 80 ns ago. -/
def encClose (e t : Nat) (s : State) : Bool := match (s.en e).lastAt with
  | some u => decide (t < u + 2048)
  | none => false

theorem encMove_eq (e : Nat) (d : Int) (t : Nat) (s : State) : encMove e d t s = if encClose e t s then
      ((encCounted e d t s).sq (ENC_STAT e) ENC_STAT_OVR).raise (evSense (20 + e)) else encCounted e d t s := rfl

theorem encMove_leaves {e : Nat} (he : e < 2) (hs : s.awake = true) {d : Int} {t : Nat}
    (hp : s.fld (ENC_POS e) ENC_POS_POS < s.fld (ENC_CPR e) ENC_CPR_CPR) (hd : d = 1 ∨ d = -1) :
    let pos := s.fld (ENC_POS e) ENC_POS_POS
    let cpr := s.fld (ENC_CPR e) ENC_CPR_CPR
    ((encMove e d t s).fld (ENC_POS e) ENC_POS_POS = (pos + 1) % cpr ∨
      (encMove e d t s).fld (ENC_POS e) ENC_POS_POS = (pos + cpr - 1) % cpr) ∧
    ((encMove e d t s).en e).lastAt = some t ∧
    ∀ w, (s.en e).lastAt = some w → t < w + 2048 → (encMove e d t s).flag (ENC_STAT e) ENC_STAT_OVR = true ∧
      (encMove e d t s).evPending (evSense (20 + e)) = true := by
  intro pos cpr
  have hpos := encCounted_pos (t := t) hp hd
  have hlast : ((encCounted e d t s).en e).lastAt = some t := by
    simp only [encCounted, State.en, State.updEn, mget_mset_self]
  have haw : (encCounted e d t s).awake = true := hs
  rw [encMove_eq]
  generalize encCounted e d t s = v at hpos hlast haw
  have hev : ∀ k : Fin 2, evReserved (evSense (20 + k)) = false := by decide
  obtain ⟨hf, hpend⟩ := sq_raise_noted v (src := evSense (20 + e)) (o := ENC_STAT e) (f := ENC_STAT_OVR) (hev ⟨e, he⟩) haw (by decide)
    (by decide) (eventCounter_apart (by simp only [ENC_STAT]; omega) (by simp only [ENC_STAT]; omega))
  have hrd : ((v.sq (ENC_STAT e) ENC_STAT_OVR).raise (evSense (20 + e))).rd (ENC_POS e) = v.rd (ENC_POS e) := by
    refine (raise_rd_apart _ _ (eventRegister_apart (by simp only [ENC_POS]; omega) (by simp only [ENC_POS]; omega))).trans
      (rd_wr_of_ne _ _ ?_)
    simp only [ENC_POS, ENC_STAT]
    omega
  have hen : ((v.sq (ENC_STAT e) ENC_STAT_OVR).raise (evSense (20 + e))).en e = v.en e := by
    obtain ⟨_, _, _, _, ho⟩ := raise_onlyEvents (v.sq (ENC_STAT e) ENC_STAT_OVR) (evSense (20 + e))
    rw [ho]
    rfl
  split
  · refine ⟨?_, by rw [hen]; exact hlast, fun _ _ _ => ⟨hf, hpend⟩⟩
    simp only [State.fld, hrd]
    exact hpos
  · next hclose =>
    refine ⟨hpos, hlast, fun w hw ht => absurd ?_ hclose⟩
    rw [encClose, hw]
    exact decide_eq_true ht

/-- A change of one input in MODE 0 counts. -/
theorem encCount_one (hs : s.awake = true) (e : Fin 2) {stable : Nat} (hen : s.flag (ENC_CFG e) ENC_CFG_EN = true)
    (hf : s.fld (ENC_CFG e) ENC_CFG_FILT ≤ stable) {a b : Bool} {t : Nat}
    (hp : s.fld (ENC_POS e) ENC_POS_POS < s.fld (ENC_CPR e) ENC_CPR_CPR) (hm : s.fld (ENC_CFG e) ENC_CFG_MODE = 0)
    (hab : (a ≠ (s.en e).a ∧ b = (s.en e).b) ∨ (a = (s.en e).a ∧ b ≠ (s.en e).b)) :
    let pos := s.fld (ENC_POS e) ENC_POS_POS
    let cpr := s.fld (ENC_CPR e) ENC_CPR_CPR
    ∃ u, exec (.encCount e a b stable t) s = .next u ∧
      (u.fld (ENC_POS e) ENC_POS_POS = (pos + 1) % cpr ∨ u.fld (ENC_POS e) ENC_POS_POS = (pos + cpr - 1) % cpr) ∧
      (u.en e).lastAt = some t ∧
      ∀ w, (s.en e).lastAt = some w → t < w + 2048 →
        u.flag (ENC_STAT e) ENC_STAT_OVR = true ∧ u.evPending (evSense (20 + e.val)) = true := by
  intro pos cpr
  have he := e.isLt
  obtain ⟨d, hstep, hd⟩ := encStep_one hab
  let v := encLevels e a b (s.at t)
  have hedge : encoderEdge e a b stable t (s.at t) = encMove e d t v := by
    rw [encoderEdge_eq (s := s.at t) a b hen hf, if_neg (by rcases hab with h | h <;> exact fun h' => by simp_all [State.en])]
    have hmode : (s.at t).fld (ENC_CFG e) ENC_CFG_MODE = 0 := hm
    rw [hmode, show encStep 0 ((s.at t).en e).a ((s.at t).en e).b a b = some d from hstep]
  have hlast : (v.en e).lastAt = (s.en e).lastAt := by
    simp only [v, encLevels, State.en, State.updEn, mget_mset_self]
    rfl
  obtain ⟨hpos, hl, hclose⟩ := encMove_leaves (s := v) he hs (t := t) hp hd
  obtain ⟨u, hu, hb⟩ := shoeWatches_step (2 + e.val) (encMove e d t v)
  have hev : ∀ k : Fin 2, evReserved (evSense (20 + k)) = false := by decide
  refine ⟨u, (congrArg (shoeWatches (2 + e.val)) hedge).trans hu, ?_, by rw [hb.en]; exact hl, fun w hw ht => ?_⟩
  · simp only [State.fld, hb.sensor (o := ENC_POS e) (by simp only [ENC_POS]; omega) (by simp only [ENC_POS]; omega)]
    exact hpos
  · obtain ⟨h1, h2⟩ := hclose w (hlast.trans hw) ht
    refine ⟨?_, hb.pending (hev e) h2⟩
    rw [State.flag, hb.sensor (by simp only [ENC_STAT]; omega) (by simp only [ENC_STAT]; omega)]
    exact h1

/-- In MODE 1 and 2 a change of B alone does not count. -/
theorem encCount_b (e : Fin 2) {stable : Nat} (hen : s.flag (ENC_CFG e) ENC_CFG_EN = true)
    (hf : s.fld (ENC_CFG e) ENC_CFG_FILT ≤ stable) (b : Bool) (t : Nat)
    (hm : s.fld (ENC_CFG e) ENC_CFG_MODE = 1 ∨ s.fld (ENC_CFG e) ENC_CFG_MODE = 2) :
    ∃ u, exec (.encCount e (s.en e).a b stable t) s = .next u ∧
      u.fld (ENC_POS e) ENC_POS_POS = s.fld (ENC_POS e) ENC_POS_POS ∧ (u.en e).b = b := by
  have he := e.isLt
  let v := encLevels e (s.en e).a b (s.at t)
  have hedge : encoderEdge e (s.en e).a b stable t (s.at t) = v := by
    rw [encoderEdge_eq (s := s.at t) _ b hen hf, if_neg (fun h => h.1 rfl)]
    have hnone := encStep_b hm (s.en e).a (s.en e).b b
    rw [show encStep ((s.at t).fld (ENC_CFG e) ENC_CFG_MODE) ((s.at t).en e).a ((s.at t).en e).b (s.en e).a b = none from hnone]
  have hvb : (v.en e).b = b := by
    simp only [v, encLevels, State.en, State.updEn, mget_mset_self]
  obtain ⟨u, hu, hb⟩ := shoeWatches_step (2 + e.val) v
  refine ⟨u, (congrArg (shoeWatches (2 + e.val)) hedge).trans hu, ?_, by rw [hb.en]; exact hvb⟩
  exact congrArg ENC_POS_POS.get (hb.sensor (o := ENC_POS e) (by simp only [ENC_POS]; omega) (by simp only [ENC_POS]; omega))

/-- A change of both inputs is illegal, and no count. -/
theorem encCount_both (hs : s.awake = true) (e : Fin 2) {stable : Nat} (hen : s.flag (ENC_CFG e) ENC_CFG_EN = true)
    (hf : s.fld (ENC_CFG e) ENC_CFG_FILT ≤ stable) (t : Nat) :
    ∃ u, exec (.encCount e (!(s.en e).a) (!(s.en e).b) stable t) s = .next u ∧ u.flag (ENC_STAT e) ENC_STAT_ILL = true ∧
      u.fld (ENC_POS e) ENC_POS_POS = s.fld (ENC_POS e) ENC_POS_POS ∧ u.evPending (evSense (20 + e.val)) = true := by
  have he := e.isLt
  let v := encLevels e (!(s.en e).a) (!(s.en e).b) (s.at t)
  let w := (v.sq (ENC_STAT e) ENC_STAT_ILL).raise (evSense (20 + e.val))
  have hne : ∀ x : Bool, (!x) ≠ x := by decide
  have hedge : encoderEdge e (!(s.en e).a) (!(s.en e).b) stable t (s.at t) = w := by
    rw [encoderEdge_eq (s := s.at t) _ _ hen hf]
    exact if_pos ⟨hne _, hne _⟩
  have hev : ∀ k : Fin 2, evReserved (evSense (20 + k)) = false := by decide
  obtain ⟨hf, hp⟩ := sq_raise_noted v (src := evSense (20 + e.val)) (o := ENC_STAT e) (f := ENC_STAT_ILL) (hev e) hs (by decide)
    (by decide) (eventCounter_apart (by simp only [ENC_STAT]; omega) (by simp only [ENC_STAT]; omega))
  have hpos : w.rd (ENC_POS e) = s.rd (ENC_POS e) := by
    refine (raise_rd_apart _ _ (eventRegister_apart (by simp only [ENC_POS]; omega) (by simp only [ENC_POS]; omega))).trans
      (rd_wr_of_ne _ _ ?_)
    simp only [ENC_POS, ENC_STAT]
    omega
  obtain ⟨u, hu, hb⟩ := shoeWatches_step (2 + e.val) w
  refine ⟨u, (congrArg (shoeWatches (2 + e.val)) hedge).trans hu, ?_, ?_, hb.pending (hev e) hp⟩
  · rw [State.flag, hb.sensor (by simp only [ENC_STAT]; omega) (by simp only [ENC_STAT]; omega)]
    exact hf
  · exact congrArg ENC_POS_POS.get ((hb.sensor (o := ENC_POS e) (by simp only [ENC_POS]; omega) (by simp only [ENC_POS]; omega)).trans hpos)

/-- Z with ZEN: POS and the angle are 0. -/
def encZeroed (e : Nat) (v : State) : State := (v.setFld (ENC_POS e) ENC_POS_POS 0).setFld (ENC_ANG e) ENC_ANG_ANGLE 0

theorem encoderZ_eq {e stable : Nat} (hen : s.flag (ENC_CFG e) ENC_CFG_EN = true) (hf : s.fld (ENC_CFG e) ENC_CFG_FILT ≤ stable) :
    encoderZ e stable s = (let v := s.setFlag (ENC_STAT e) ENC_STAT_ZSEEN true
      if v.flag (ENC_CFG e) ENC_CFG_ZEN then
        encZeroed e (if s.flag (ENC_STAT e) ENC_STAT_ZSEEN && decide (s.fld (ENC_POS e) ENC_POS_POS ≠ 0)
          then v.sq (ENC_STAT e) ENC_STAT_ZERR else v)
      else v) := by
  have hacc : s.encAccepts e stable = true := decide_eq_true hf
  unfold encoderZ
  rw [if_neg (by rw [hen, hacc]; decide)]
  rfl

theorem encZeroed_shows (e : Nat) (v : State) : (encZeroed e v).fld (ENC_POS e) ENC_POS_POS = 0 ∧
    (encZeroed e v).fld (ENC_ANG e) ENC_ANG_ANGLE = 0 ∧ (encZeroed e v).rd (ENC_STAT e) = v.rd (ENC_STAT e) := by
  refine ⟨(fld_setFld_ne ?_).trans (fld_setFld_self _ _ _ _ (by decide)), fld_setFld_self _ _ _ _ (by decide),
    (rd_wr_of_ne _ _ ?_).trans (rd_wr_of_ne _ _ ?_)⟩
  all_goals
    simp only [ENC_POS, ENC_ANG, ENC_STAT]
    omega

theorem encZ_leaves (e : Fin 2) {stable : Nat} (hen : s.flag (ENC_CFG e) ENC_CFG_EN = true)
    (hf : s.fld (ENC_CFG e) ENC_CFG_FILT ≤ stable) :
    ∃ t, exec (.encZ e stable) s = .next t ∧ t.flag (ENC_STAT e) ENC_STAT_ZSEEN = true ∧
      (s.flag (ENC_CFG e) ENC_CFG_ZEN = true → t.fld (ENC_POS e) ENC_POS_POS = 0 ∧ t.fld (ENC_ANG e) ENC_ANG_ANGLE = 0 ∧
        (s.flag (ENC_STAT e) ENC_STAT_ZSEEN = true → s.fld (ENC_POS e) ENC_POS_POS ≠ 0 →
          t.flag (ENC_STAT e) ENC_STAT_ZERR = true)) := by
  have he := e.isLt
  obtain ⟨t, ht, hb⟩ := shoeWatches_step (2 + e.val) (encoderZ e stable s)
  have hrd : ∀ o, o = ENC_STAT e ∨ o = ENC_POS e ∨ o = ENC_ANG e → t.rd o = (encoderZ e stable s).rd o := fun o ho =>
    hb.sensor (by rcases ho with h | h | h <;> rw [h] <;> simp only [ENC_STAT, ENC_POS, ENC_ANG] <;> omega)
      (by rcases ho with h | h | h <;> rw [h] <;> simp only [ENC_STAT, ENC_POS, ENC_ANG] <;> omega)
  refine ⟨t, ht, ?_⟩
  simp only [State.flag, State.fld, hrd _ (.inl rfl), hrd _ (.inr (.inl rfl)), hrd _ (.inr (.inr rfl))]
  rw [encoderZ_eq hen hf]
  let v := s.setFlag (ENC_STAT e) ENC_STAT_ZSEEN true
  have hseen : v.flag (ENC_STAT e) ENC_STAT_ZSEEN = true := flag_setFlag_self s _ _ _ (by decide) (by decide)
  have hzen : v.flag (ENC_CFG e) ENC_CFG_ZEN = s.flag (ENC_CFG e) ENC_CFG_ZEN :=
    flag_setFlag_ne (by simp only [ENC_CFG, ENC_STAT]; omega)
  by_cases hz : s.flag (ENC_CFG e) ENC_CFG_ZEN = true
  · dsimp only
    rw [if_pos (hzen.trans hz)]
    generalize hk : (s.flag (ENC_STAT e) ENC_STAT_ZSEEN && decide (s.fld (ENC_POS e) ENC_POS_POS ≠ 0)) = k
    obtain ⟨hp, ha, hstat⟩ := encZeroed_shows e (if k = true then v.sq (ENC_STAT e) ENC_STAT_ZERR else v)
    refine ⟨(congrArg ENC_STAT_ZSEEN.bit hstat).trans ?_, fun _ => ⟨hp, ha, fun h1 h2 => (congrArg ENC_STAT_ZERR.bit hstat).trans ?_⟩⟩
    · split
      · exact (flag_sq_apart (.inr (by decide)) (by decide)).trans hseen
      · exact hseen
    · rw [if_pos (hk.symm.trans (by rw [State.flag, h1]; exact decide_eq_true h2))]
      exact flag_sq_self v _ _ (by decide) (by decide)
  · dsimp only
    rw [if_neg (by rw [hzen]; exact hz)]
    exact ⟨hseen, fun h => absurd h hz⟩

end

/-- Settles O40: the SAR converters, the comparators, the resolver and the encoder. -/
theorem convertersAndPosition : Obligations.ConvertersAndPosition :=
  ⟨fun _ hs => ⟨sarStart_leaves, fun c code hb _ => sarSlotResult_leaves hs c code hb, cmpHit_leaves hs, cmpHit_within, cmpRelease_leaves⟩,
    fun _ hs => ⟨resFlt_leaves hs, fun e _ hen hf => ⟨fun _ _ _ => encCount_one hs e hen hf, encCount_b e hen hf,
      encCount_both hs e hen hf, encZ_leaves e hen hf⟩⟩⟩

end Sys2Proof.Proofs
end
